-- ==== Sys2Proof/Word.lean ====
section
/-! DEFINITION. The word types and the plainest operations on them: fixed-length tables read and written by a
number, and small conversions. -/

namespace Sys2Proof

/-- A 32-bit register word. -/
abbrev W32 := BitVec 32

/-- A TAI96 time value (R3). -/
abbrev Tai := BitVec 96

/-- A 256-bit digest or key: byte i is bits [8i + 7 : 8i]. -/
abbrev Dig := BitVec 256

namespace Tab

variable {α : Type} {n : Nat}

/-- Entry `i` of a table, `d` past its end. -/
def get (v : Vector α n) (i : Nat) (d : α) : α := v.toList.getD i d

/-- The table with entry `i` replaced (unchanged where it has no entry `i`). -/
def set (v : Vector α n) (i : Nat) (x : α) : Vector α n :=
  ⟨⟨v.toList.set i x⟩, by simp⟩

/-- The table with entry `i` changed by `f`. -/
def mod (v : Vector α n) (i : Nat) (f : α → α) : Vector α n :=
  ⟨⟨v.toList.modify i f⟩, by simp⟩

/-- The table with every entry changed by `f`, which is given the entry's number. -/
def mapIdx (v : Vector α n) (f : Nat → α → α) : Vector α n :=
  ⟨⟨v.toList.mapIdx f⟩, by simp⟩

end Tab

/-- The bit of a truth value. -/
def bit (b : Bool) : BitVec 1 := BitVec.ofBool b

end Sys2Proof
end

