-- ==== Sys2Proof/Syntax.lean ====
section
/-! DEFINITION. The commands of the block: the command packet, the received frame, and one constructor of `Instr` for
each row of the opcode table. -/

namespace Sys2Proof

/-- A command packet as it reaches the command processor (R40). `master` and `source` name the sender, `dt` is the
number of CLK_CORE ticks that pass before the packet is taken. `keepFail` names a keep row whose writing fails
verification while the command executes (R396): a fact of the keep's cells, not of the packet. -/
structure Packet where
  /-- CLK_CORE ticks that pass before the command -/
  dt : Nat := 0
  /-- master number of the sender, the ORIGIN of the reply -/
  master : BitVec 4 := 0
  /-- the ring or mailbox it came through, the SOURCE of the reply -/
  source : BitVec 8 := 0
  /-- TAG -/
  tag : BitVec 16 := 0
  /-- SCHED: execute at EXEC_AT -/
  sched : Bool := false
  /-- NO_REPLY -/
  noReply : Bool := false
  /-- DRY_RUN -/
  dryRun : Bool := false
  /-- reserved header bits, zero in a well-formed packet -/
  rsvd : Nat := 0
  /-- EXEC_AT -/
  execAt : Tai := 0
  /-- LEN, payload words -/
  len : BitVec 16 := 0
  /-- the payload words -/
  payload : List W32 := []
  /-- a keep row whose write fails verification on both attempts (R396), if any -/
  keepFail : Option (BitVec 10) := none
deriving DecidableEq, Repr

/-- A frame as a lane receives it (R241): the bytes from the destination address to the last byte received, and what
the line and the PCS say about it. -/
structure RxFrame where
  /-- every byte received, the FCS bytes included -/
  bytes : List (BitVec 8) := []
  /-- bytes received beyond those listed (only a jabber has them; a digest covers 16,384) -/
  more : Nat := 0
  /-- a PCS error block lies within the frame -/
  codeErr : Bool := false
  /-- the FCS does not match -/
  fcsBad : Bool := false
  /-- RS-FEC codewords corrected on the lane since its last frame -/
  corrected : Nat := 0
  /-- RS-FEC codewords found uncorrectable since then -/
  uncorrected : Nat := 0
  /-- RX_PHASE_PS as the phase detector now has it, where it has moved -/
  rxPhasePs : Option (BitVec 16) := none
deriving DecidableEq, Repr

/-- A message of a PTP slave instance's master (R118), by its fields. -/
inductive SlaveMsg where
  /-- an Announce, with its logMessageInterval -/
  | announce (clockClass : BitVec 8) (masterId : BitVec 64) (log : BitVec 8)
  /-- a Sync whose SFD crossed the ball `phase` (2^-16 ns) before now; its origin with the corrections, unless two-step -/
  | sync (origin : Tai) (twoStep : Bool) (phase : Nat)
  /-- a Follow_Up: the Sync's origin with the corrections -/
  | followUp (origin : Tai)
  /-- a Delay_Resp: the departure of the Delay_Req it answers, as this chip stamped it, and its arrival at the master, with the
  corrections -/
  | delayResp (sent received : Tai)
deriving DecidableEq, Repr

/-- A time request a lane receives for the SVC block (R284 to R297), as its bytes. -/
structure SvcReq where
  /-- the client's address as R308 holds it -/
  addr : BitVec 128 := 0
  /-- UDP source port -/
  srcPort : BitVec 16 := 0
  /-- its length on the wire, in bytes -/
  len : Nat := 68
  /-- the PTP message or the NTP packet, from its first byte on -/
  msg : List (BitVec 8) := []
deriving DecidableEq, Repr

/-- A firmware image as a slot of the flash, or host memory, holds it (R74): its header, and the SHA-256 of the body that
follows. -/
structure FwImage where
  /-- MAGIC -/
  magic : BitVec 32 := 0
  /-- the SVN word; SVN is its bits [5:0] -/
  svnWord : BitVec 32 := 0
  /-- LENGTH of the body in bytes -/
  length : BitVec 32 := 0
  /-- the reserved word at 0x0C -/
  rsvd : BitVec 32 := 0
  /-- SHA-256 of the body, as the header states it -/
  hash : Dig := 0
  /-- r of the signature -/
  sigR : BitVec 256 := 0
  /-- s of the signature -/
  sigS : BitVec 256 := 0
  /-- SHA-256 of the body that is there -/
  body : Dig := 0
deriving DecidableEq, Repr

/-- The peak of one cell of an acquisition pass (R156, R157): the PRN, the bin counted from the lowest, the code phase in 1/16
chip and the peak over the noise in 0.1 dB. -/
structure AcqPeak where
  /-- PRN -/
  prn : BitVec 6
  /-- bin, from 0 at the lowest Doppler -/
  bin : Nat
  /-- code phase, in 1/16 chip -/
  code : BitVec 14
  /-- PEAK_DB -/
  peak : BitVec 16
deriving DecidableEq, Repr

/-- The instants at which a lane's timing frames left and arrived, in 2^-16 ns (R367): t1 and t4 as this chip stamped them at
its ball, t2 and t3 as the partner did. -/
structure BenitTimes where
  /-- this chip's frame leaves it -/
  t1 : BitVec 64 := 0
  /-- that frame arrives at the partner -/
  t2 : BitVec 64 := 0
  /-- the partner's frame leaves it -/
  t3 : BitVec 64 := 0
  /-- that frame arrives here -/
  t4 : BitVec 64 := 0
deriving DecidableEq, Repr

/-- One SHARED output as a timing frame mirrors it (R368): its target code (0 to 15 OUT, 16 to 19 TP, 20 and 21 TOD). -/
structure PeerOut where
  /-- target code -/
  target : BitVec 5
  /-- RUNNING -/
  running : Bool
  /-- ALIGNED -/
  aligned : Bool
  /-- OFFGRID -/
  offgrid : Bool
  /-- PHASE_ERR -/
  phaseErr : BitVec 64
  /-- ANCHOR -/
  anchor : Tai
deriving DecidableEq, Repr

/-- The state that a timing frame mirrors (R368). -/
structure PeerFrame where
  /-- TAI96 of the boundary -/
  time : Tai := 0
  /-- EB_ACCORD at the boundary -/
  eb : BitVec 24 := 0xFFFFFF
  /-- flag byte at the boundary -/
  flags : BitVec 8 := 1
  /-- DEV_STATE -/
  dev : BitVec 3 := 0
  /-- ACCORD_STATE -/
  accord : BitVec 3 := 0
  /-- PAIR_ROLE -/
  role : BitVec 2 := 0
  /-- LC_STATE -/
  lc : BitVec 3 := 0
  /-- PRIMARY -/
  primary : Bool := false
  /-- SELECTED -/
  selected : BitVec 5 := 31
  /-- QSTATE of REF0 to REF19, three bits a slot -/
  qstates : BitVec 60 := 0
  /-- FREQ_SERVO_MPPT -/
  freq : BitVec 40 := 0
  /-- FREQ_HOLD_MPPT -/
  hold : BitVec 40 := 0
  /-- the claim number in effect -/
  claim : BitVec 13 := 0
  /-- HEALTH in effect -/
  health : BitVec 6 := 0
  /-- HEALTH raw -/
  raw : BitVec 6 := 0
  /-- the SHARED outputs -/
  outs : List PeerOut := []
  /-- sillage SEQ -/
  seq : BitVec 48 := 0
  /-- the first 8 bytes of HEAD -/
  head : BitVec 64 := 0
  /-- CFG_DIGEST -/
  digest : BitVec 64 := 0
  /-- SIDE -/
  side : Bool := false
deriving DecidableEq, Repr

/-- What reading the keep at boot finds (R394, R398). -/
structure KeepRead where
  /-- a header copy is valid -/
  header : Bool := true
  /-- words corrected -/
  corrected : Nat := 0
  /-- copies that an uncorrectable error invalidated while the other copy served -/
  copies : Nat := 0
  /-- rows of which no valid copy exists -/
  lost : List (BitVec 10) := []
  /-- newest slots of the chain-head ring that fail their CRC -/
  headLost : Nat := 0
deriving DecidableEq, Repr

/-- What a scrub of the keep finds (R394, R399). -/
structure KeepScrub where
  /-- rows corrected -/
  corrected : BitVec 16 := 0
  /-- rows moved to spares -/
  spared : List (BitVec 10) := []
  /-- free spares that fail the write test -/
  failed : List (BitVec 7) := []
  /-- copies that an uncorrectable error invalidated while the other copy served -/
  copies : Nat := 0
  /-- rows of which no valid copy exists -/
  lost : List (BitVec 10) := []
deriving DecidableEq, Repr

/-- What goes wrong in a DMA transfer (R65): a host read or write completes with an error, or an error in the DMA buffers is
corrected. -/
inductive DmaError where
  | fetch | write | corrected
deriving DecidableEq, Repr

/-- A write as it comes in over one of the access paths (R30, R35 to R37). -/
inductive BusWrite where
  /-- the PCIe host's write of BAR0: 32 bits, or 64 (`wide`) -/
  | bar0 (addr : W32) (wide : Bool) (value : BitVec 64)
  /-- the PCIe host's write of BAR2, which holds the MSI-X table: 32 bits, or 64 -/
  | bar2 (offset : BitVec 16) (wide : Bool) (value : BitVec 64)
  /-- the PCIe host writes MSI-X Enable and Function Mask of its MSI-X capability -/
  | msixControl (enable mask : Bool)
  /-- an SPI transaction: the bytes the controller sends from the fall of CS_N to its rise -/
  | spi (bytes : List (BitVec 8))
  /-- an I2C write: the address it is sent to, and the bytes that follow -/
  | i2c (target : BitVec 7) (bytes : List (BitVec 8))
  /-- a write of a master inside the device -/
  | inside (m : BitVec 4) (addr value : W32)
  /-- the partner's message for MBX6 crosses the Benit link: its data words -/
  | benit (words : List W32)
deriving DecidableEq, Repr

/-- A read as it comes in over one of the access paths (R30, R36, R37). -/
inductive BusRead where
  /-- the PCIe host's read of BAR0: 32 bits, or 64 (`wide`) -/
  | bar0 (addr : W32) (wide : Bool)
  /-- the PCIe host's read of BAR2 -/
  | bar2 (offset : BitVec 16) (wide : Bool)
  /-- an SPI transaction: the bytes the controller sends, and the words it clocks out after the start byte -/
  | spi (bytes : List (BitVec 8)) (words : Nat)
  /-- an I2C read: the address it is sent to, the address bytes, and the words read before NACK and STOP -/
  | i2c (target : BitVec 7) (bytes : List (BitVec 8)) (words : Nat)
  /-- a read of a master inside the device -/
  | inside (m : BitVec 4) (addr : W32)
deriving DecidableEq, Repr

/-- The commands of the block: the packets of the opcode index (R46) and the events of the machine, one for each row
of the opcode table. Every event carries `dt`, the CLK_CORE ticks that pass before it (a packet in its own field). -/
inductive Instr where
  /-- SYS_QUERY_STATE (R93): Query returning SYS_STATE, SYS_BOOT_STATUS, SYS_DOMAIN_STATUS and SYS_FW_STATUS. -/
  | sysQueryState (p : Packet)
  /-- SYS_QUERY_COUNTERS (R452): Query returning the refused-write, per-status and reply-drop counters without clearing them. -/
  | sysQueryCounters (p : Packet)
  /-- SYS_ECHO (R452): Returns its payload unchanged. -/
  | sysEcho (p : Packet)
  /-- SYS_SET_STATE (R71): Moves DEV_STATE between INIT, RUN and MAINT and optionally sets AUTO_RUN, subject to TAMPER_HOLD and LC_STATE. -/
  | sysSetState (p : Packet)
  /-- SYS_CLEAR_SAFE (R364): Leaves the safe state once no class A cause remains, moving DEV_STATE to MAINT and ACCORD_STATE per R130. -/
  | sysClearSafe (p : Packet)
  /-- SYS_DOMAIN_POWER (R87): Long-running switch of power domains, with dependants and prerequisites added and an optional write of BOOT_ON. -/
  | sysDomainPower (p : Packet)
  /-- SYS_SLEEP (R89): Enters SLEEP, powering down the digital die and optionally keeping PD_TIME and PD_TIC. -/
  | sysSleep (p : Packet)
  /-- SYS_WAKE (R91): Leaves SLEEP, powering the boot domains and reloading the running image. -/
  | sysWake (p : Packet)
  /-- SYS_RESET (R68): Resets the named scope: chip, switchable domains or the ten engines. -/
  | sysReset (p : Packet)
  /-- SYS_FW_STAGE (R93): Long-running DMA of a firmware image into the inactive QSPI slot and its verification. -/
  | sysFwStage (p : Packet)
  /-- SYS_FW_ACTIVATE (R77): Selects the slot for the next boot and optionally raises SVN_FLOOR to the running image's SVN. -/
  | sysFwActivate (p : Packet)
  /-- SYS_SET_MBX_ROUTE (R452): Sets the sender and receiver of MBX7. -/
  | sysSetMbxRoute (p : Packet)
  /-- SYS_SET_SEM_CFG (R452): Sets which semaphores log every read. -/
  | sysSetSemCfg (p : Packet)
  /-- SYS_SEM_FORCE (R452): Force-releases a semaphore and reports its former holder. -/
  | sysSemForce (p : Packet)
  /-- SYS_RING_CONFIG (R452): Sets a DMA ring's base, size and moderation while it is disabled. -/
  | sysRingConfig (p : Packet)
  /-- SYS_RING_ENABLE (R452): Enables or disables DMA rings, zeroing PROD and CONS on enable. -/
  | sysRingEnable (p : Packet)
  /-- SYS_INT_ROUTE (R61): Routes the half-groups of an interrupt group to MSI-X vectors 0-31. -/
  | sysIntRoute (p : Packet)
  /-- SYS_CANCEL (R50): Cancels a waiting scheduled entry named by origin, source and TAG. -/
  | sysCancel (p : Packet)
  /-- SYS_BLT_UNLOCK (R411): Checks a signed token and unlocks or relocks test-access scopes. -/
  | sysBltUnlock (p : Packet)
  /-- SYS_BLT_SELECT (R412): Routes a blotter node to the test balls after a 1 us idle. -/
  | sysBltSelect (p : Packet)
  /-- SYS_BIST_RUN (R416): Long-running built-in self-test of the named targets in bit order. -/
  | sysBistRun (p : Packet)
  /-- REF_QUERY_SLOT (R119): Query returning a slot's window. -/
  | refQuerySlot (p : Packet)
  /-- REF_QUERY_MATRIX (R119): Query returning phase-matrix cells from one 1 ms boundary. -/
  | refQueryMatrix (p : Packet)
  /-- REF_QUERY_HISTORY (R119): Query returning the history bits of all twenty slots. -/
  | refQueryHistory (p : Packet)
  /-- REF_SET_SLOT (R119): Sets a slot's type, edge, mate, ToD format, frequency, delay and declared uncertainty, resetting an unselected slot to ABSENT. -/
  | refSetSlot (p : Packet)
  /-- REF_SET_QUAL (R119): Sets a slot's frequency tolerances, TIE limit, phase gate and drift horizon. -/
  | refSetQual (p : Packet)
  /-- REF_SET_TIMERS (R109): Sets a slot's hold-off, wait-to-restore and first-wait times, applying them to running timers. -/
  | refSetTimers (p : Packet)
  /-- REF_SET_PRIORITY (R112): Sets a slot's priority and quality and the revertive mode. -/
  | refSetPriority (p : Packet)
  /-- REF_SELECT (R113): Sets manual selection of an eligible slot or returns to automatic selection. -/
  | refSelect (p : Packet)
  /-- REF_CLEAR_HISTORY (R110): Clears the named sticky history bits of the named slots. -/
  | refClearHistory (p : Packet)
  /-- REF_ENABLE (R107): Enables or disables slots, starting a switch without hold-off if the selected slot is disabled. -/
  | refEnable (p : Packet)
  /-- REF_SET_PTP_SLAVE (R118): Binds a PTP slave instance to its slot with lane, domain, profile and announce settings. -/
  | refSetPtpSlave (p : Packet)
  /-- ACD_QUERY_TIME (R148): Query returning the accord time, EB, flags, status and UTC settings at one latched tick. -/
  | acdQueryTime (p : Packet)
  /-- ACD_QUERY_SERVO (R148): Query returning the ACD status and time registers. -/
  | acdQueryServo (p : Packet)
  /-- ACD_SET_SERVO (R123): Sets the owning servo engine, a servo parameter set and the servo timeout. -/
  | acdSetServo (p : Packet)
  /-- ACD_SET_STEP_POLICY (R133): Sets SLEW or STEP mode, STEP_ALLOW, ACQ_SLEW, SLEW_LIMIT and STEP_MIN. -/
  | acdSetStepPolicy (p : Packet)
  /-- ACD_SET_HOLD (R148): Sets HOLD_AVG_S, HOLD_SPEC_NS, CATEGORY and PRIMARY_QMAX. -/
  | acdSetHold (p : Packet)
  /-- ACD_SET_OSC_MODEL (R129): Sets the coefficients of an oscillator class and the class selection, without lowering E_HOLD. -/
  | acdSetOscModel (p : Packet)
  /-- ACD_SET_TIME (R148): Sets the accord in COLD or FREERUN, giving FREERUN with the stated EB0 and t restarted. -/
  | acdSetTime (p : Packet)
  /-- ACD_ADJUST_PHASE (R136): Operator phase step in FREERUN or drydown, added to S and to EB0. -/
  | acdAdjustPhase (p : Packet)
  /-- ACD_SET_UTC (R146): Sets the UTC offset, its validity and a scheduled leap second. -/
  | acdSetUtc (p : Packet)
  /-- ACD_SET_CPLL_SOURCE (R143): Long-running relock of the CPLL to CLK_OCXO or CLK_ATOM, with the oscillator frequencies. -/
  | acdSetCpllSource (p : Packet)
  /-- ACD_ENTER_DRYDOWN (R142): Enters or releases a forced drydown for test. -/
  | acdEnterDrydown (p : Packet)
  /-- ACD_SET_MACERATION (R148): Sets the maceration interval and early-end parameters. -/
  | acdSetMaceration (p : Packet)
  /-- OUT_QUERY_STATUS (R232): Query returning an output's register window. -/
  | outQueryStatus (p : Packet)
  /-- OUT_QUERY_ECHO (R232): Query returning the echo result registers. -/
  | outQueryEcho (p : Packet)
  /-- OUT_SET_SYN (R208): Long-running plan of a synthesizer's VCO or its power-down. -/
  | outSetSyn (p : Packet)
  /-- OUT_SET_OUTPUT (R209): Sets a clock output's synthesizer, frequency, format, phase mode, bypass, squelch and sharing. -/
  | outSetOutput (p : Packet)
  /-- OUT_SYNC (R213): Schedules a divider restart of SYNC-mode outputs at SYNC_AT. -/
  | outSync (p : Packet)
  /-- OUT_SET_TP (R222): Sets a time pulse's rate, period, width, UTC alignment, squelch and sharing. -/
  | outSetTp (p : Packet)
  /-- OUT_SET_TOD (R224): Sets a ToD serial output's format, baud, NMEA mode and sharing. -/
  | outSetTod (p : Packet)
  /-- OUT_ECHO_MEASURE (R229): Long-running cable echo measurement on an output using two claimed TIC channels. -/
  | outEchoMeasure (p : Packet)
  /-- OUT_SET_DELAY (R228): Sets an output's delay compensation and its bound. -/
  | outSetDelay (p : Packet)
  /-- OUT_ENABLE (R218): Enables or squelches outputs. -/
  | outEnable (p : Packet)
  /-- TIC_QUERY_CHANNEL (R205): Query returning a channel window without clearing counters. -/
  | ticQueryChannel (p : Packet)
  /-- TIC_QUERY_CAL (R205): Query returning a converter's window and calibration break points. -/
  | ticQueryCal (p : Packet)
  /-- TIC_SET_CHANNEL (R205): Sets a channel's mode, edge, input, threshold and presence time, placing a MODE mark. -/
  | ticSetChannel (p : Packet)
  /-- TIC_START_INTERVAL (R193): Arms a start-stop interval measurement between two INTERVAL-mode channels. -/
  | ticStartInterval (p : Packet)
  /-- TIC_STREAM (R198): Starts or stops draining channel queues to their rings. -/
  | ticStream (p : Packet)
  /-- TIC_CALIBRATE (R202): Long-running calibration of the named converters and rolling-recalibration settings. -/
  | ticCalibrate (p : Packet)
  /-- TIC_SUBSTITUTE (R201): Maps or unmaps a spare converter onto a channel and sets sparing settings. -/
  | ticSubstitute (p : Packet)
  /-- TIC_SET_DELAY (R182): Sets a channel's input delay and its bound from the next stamp. -/
  | ticSetDelay (p : Packet)
  /-- GNS_QUERY_STATUS (R179): Query returning receiver status, history, clock, jamming, notches and bank failures. -/
  | gnsQueryStatus (p : Packet)
  /-- GNS_QUERY_SOLUTION (R179): Query returning the timing solution and cross-check state. -/
  | gnsQuerySolution (p : Packet)
  /-- GNS_SET_PORT (R150): Sets the sample-port format, rate, IF, engine, minimum satellites and gating. -/
  | gnsSetPort (p : Packet)
  /-- GNS_SET_NOTCH (R153): Sets a notch filter, jamming thresholds and optionally calibrates NOISE_REF. -/
  | gnsSetNotch (p : Packet)
  /-- GNS_ACQUIRE (R156): Long-running acquisition search of a PRN mask over Doppler bins, live or from the snapshot. -/
  | gnsAcquire (p : Packet)
  /-- GNS_TRACK (R162): Assigns a tracking channel to a PRN with initial code phase and Doppler. -/
  | gnsTrack (p : Packet)
  /-- GNS_RELEASE (R162): Stops the named tracking channels and empties their queues. -/
  | gnsRelease (p : Packet)
  /-- GNS_SET_LATCH (R164): Sets the measurement latch rate from the next whole second. -/
  | gnsSetLatch (p : Packet)
  /-- GNS_SNAPSHOT (R176): Long-running scheduled or repeating raw-sample snapshot capture, or its stop. -/
  | gnsSnapshot (p : Packet)
  /-- GNS_SET_ANTENNA (R171): Sets antenna position, survey mode and cable delay, invalidating the solution for one second. -/
  | gnsSetAntenna (p : Packet)
  /-- GNS_SET_CHECK (R174): Sets drydown cross-check limits, re-anchors and clears history bits. -/
  | gnsSetCheck (p : Packet)
  /-- GNS_SPARE_BANK (R158): Maps or unmaps a spare acquisition sub-bank and sets AUTO_SPARE. -/
  | gnsSpareBank (p : Packet)
  /-- ETH_QUERY_LANE (R258): Query returning a lane's configuration, status, capture sequence and counters. -/
  | ethQueryLane (p : Packet)
  /-- ETH_QUERY_DELAY (R258): Query returning a lane's compensation values. -/
  | ethQueryDelay (p : Packet)
  /-- ETH_SET_QUAD_MODE (R235): Long-running change of a quad between 4 x 10G, 4 x 25G and 100G. -/
  | ethSetQuadMode (p : Packet)
  /-- ETH_SET_LANE (R236): Sets a disabled lane's mode, FEC, tag allowance and MAX_FRAME. -/
  | ethSetLane (p : Packet)
  /-- ETH_SET_DELAY (R240): Sets a lane's external receive and transmit delays and their bound. -/
  | ethSetDelay (p : Packet)
  /-- ETH_SET_CAPTURE (R252): Sets a lane's capture staging size and high-water mark. -/
  | ethSetCapture (p : Packet)
  /-- ETH_SET_CLASSIFIER (R246): Sets a receive classifier rule or the default ring. -/
  | ethSetClassifier (p : Packet)
  /-- ETH_LANE_ENABLE (R258): Enables or idles lanes, flushing host frames and ending capture on disable. -/
  | ethLaneEnable (p : Packet)
  /-- ETH_SET_TAGS (R243): Sets a lane's TPIDs and tag stripping. -/
  | ethSetTags (p : Packet)
  /-- TMG_QUERY_QUEUE (R278): Query returning a queue window without clearing counters. -/
  | tmgQueryQueue (p : Packet)
  /-- TMG_QUERY_GCL (R278): Query returning entries of a lane's OPER or ADMIN gate list. -/
  | tmgQueryGcl (p : Packet)
  /-- TMG_SET_GCL (R266): Writes entries into a lane's ADMIN gate list and, with LAST, checks and readies it. -/
  | tmgSetGcl (p : Packet)
  /-- TMG_SWAP_GCL (R267): Schedules the exchange of OPER and ADMIN lists on named lanes at SWAP_AT. -/
  | tmgSwapGcl (p : Packet)
  /-- TMG_SET_SHAPER (R270): Sets a queue's shaper enable, idle slope, credit cap and byte limit. -/
  | tmgSetShaper (p : Packet)
  /-- TMG_SET_POLICER (R273): Sets a policer's rate and burst, carrying its tokens over. -/
  | tmgSetPolicer (p : Packet)
  /-- TMG_SET_FILTER (R272): Sets the stream filter of a policer P0-P239. -/
  | tmgSetFilter (p : Packet)
  /-- TMG_SET_SAMPLING (R275): Sets queue sampling enable and the sojourn alarm. -/
  | tmgSetSampling (p : Packet)
  /-- SVC_QUERY_STATUS (R312): Query returning service status, a port window and its counters. -/
  | svcQueryStatus (p : Packet)
  /-- SVC_QUERY_CLIENT (R312): Query returning a client-table entry by index or address. -/
  | svcQueryClient (p : Packet)
  /-- SVC_SET_PTP_PORT (R283): Configures a PTP port's enable, transport, stepping, authentication, domain, rates and addresses. -/
  | svcSetPtpPort (p : Packet)
  /-- SVC_SET_PROFILE (R312): Sets a port's PTP profile and the global clock identity and Announce fields. -/
  | svcSetProfile (p : Packet)
  /-- SVC_SET_AUTH (R294): Sets an SPP position's key, algorithm, roll time, CF_MASK and side. -/
  | svcSetAuth (p : Packet)
  /-- SVC_SET_NTP (R312): Sets the NTP and NTS lanes, NAK and KoD behaviour, stratum and reference ID. -/
  | svcSetNtp (p : Packet)
  /-- SVC_LOAD_COOKIE_KEY (R300): Loads an NTS cookie key under a KEYID, optionally making it ACTIVE. -/
  | svcLoadCookieKey (p : Packet)
  /-- SVC_RETIRE_COOKIE_KEY (R300): Empties a cookie-key entry. -/
  | svcRetireCookieKey (p : Packet)
  /-- SVC_SET_GATE (R312): Sets the service gate EB limit and committed-departure parameters. -/
  | svcSetGate (p : Packet)
  /-- SVC_SET_RATE_LIMIT (R310): Sets per-client rate, burst, ageing time and grant rate limit. -/
  | svcSetRateLimit (p : Packet)
  /-- SVC_CLIENT_FLUSH (R309): Frees client entries by lane and kind, ending their grants. -/
  | svcClientFlush (p : Packet)
  /-- SVC_SET_BOUND_TLV (R307): Enables the bound TLV and NTP bound field with their identifiers. -/
  | svcSetBoundTlv (p : Packet)
  /-- KEY_QUERY_SLOTS (R355): Query returning the state of a range of key slots. -/
  | keyQuerySlots (p : Packet)
  /-- KEY_QUERY_EPOCH (R355): Query returning key status, epochs, seal, life-cycle fuses, challenge and AK public key. -/
  | keyQueryEpoch (p : Packet)
  /-- KEY_LOAD_FLACON (R344): Unwraps a flacon, or imports a plaintext key, into an empty slot. -/
  | keyLoadFlacon (p : Packet)
  /-- KEY_WRAP (R343): Wraps an exportable slot into a flacon of the current epoch. -/
  | keyWrap (p : Packet)
  /-- KEY_DERIVE (R346): Derives a key from a KDF parent slot into an empty slot. -/
  | keyDerive (p : Packet)
  /-- KEY_ZERO (R341): Empties the named key slots within 1 us. -/
  | keyZero (p : Packet)
  /-- KEY_EPOCH_UPDATE (R348): Long-running two-slot update to a new key epoch with new KEK and LSK. -/
  | keyEpochUpdate (p : Packet)
  /-- KEY_ATTEST (R353): Long-running production of a signed attestation report. -/
  | keyAttest (p : Packet)
  /-- KEY_PROVISION (R339): Long-running provisioning or re-provisioning of roots, seal and epoch. -/
  | keyProvision (p : Packet)
  /-- KEY_LC_ADVANCE (R334): Long-running life-cycle transition, with a token where required. -/
  | keyLcAdvance (p : Packet)
  /-- KEY_DEBUG_ENTER (R337): Long-running entry to DEBUG with an owner token, switching to test keys. -/
  | keyDebugEnter (p : Packet)
  /-- KEY_DEBUG_EXIT (R338): Long-running exit from DEBUG, restoring production keys. -/
  | keyDebugExit (p : Packet)
  /-- LOG_QUERY_STATUS (R327): Query returning log fill, head and counters without clearing. -/
  | logQueryStatus (p : Packet)
  /-- LOG_QUERY_HEAD (R327): Query returning the chain head and last signed checkpoint. -/
  | logQueryHead (p : Packet)
  /-- LOG_EXPORT_ACK (R324): Releases exported held entries up to a SEQ. -/
  | logExportAck (p : Packet)
  /-- LOG_SET_EXPORT (R327): Sets export thresholds and mirroring and starts a ring 5 replay. -/
  | logSetExport (p : Packet)
  /-- LOG_CHECKPOINT (R318): Long-running forced signed checkpoint. -/
  | logCheckpoint (p : Packet)
  /-- LOG_NOTE (R327): Writes an operator annotation entry. -/
  | logNote (p : Packet)
  /-- FLT_QUERY (R383): Query returning fault status, latches and present levels. -/
  | fltQuery (p : Packet)
  /-- FLT_SET_CLASS (R360): Sets the class of a configurable fault source. -/
  | fltSetClass (p : Packet)
  /-- FLT_CLEAR (R359): Clears named fault latch bits, reporting those that stay set. -/
  | fltClear (p : Packet)
  /-- FLT_INJECT (R362): Asserts a fault source once as an event for test. -/
  | fltInject (p : Packet)
  /-- PAIR_QUERY (R383): Query returning pair status and the partner's mirrored state. -/
  | pairQuery (p : Packet)
  /-- PAIR_SET_MODE (R375): Sets SOLO or PAIRED mode, Benit asymmetry and link wait. -/
  | pairSetMode (p : Packet)
  /-- PAIR_SET_CLAIM (R383): Sets claim preference, health hold time and EB limit. -/
  | pairSetClaim (p : Packet)
  /-- PAIR_HANDOVER (R381): Schedules a planned handover of ownership to the standby at HANDOVER_AT. -/
  | pairHandover (p : Packet)
  /-- PAIR_SET_COMPARE (R376): Configures an output comparison entry and global comparison limits. -/
  | pairSetCompare (p : Packet)
  /-- PAIR_REJOIN (R382): Arms rejoining the pair as standby after the safe state. -/
  | pairRejoin (p : Packet)
  /-- MON_QUERY (R406): Query returning supplies, temperatures, mains, PFW and spare pools. -/
  | monQuery (p : Packet)
  /-- KEEP_QUERY (R406): Query returning keep status, scrub results and counters. -/
  | keepQuery (p : Packet)
  /-- CAL_QUERY (R406): Query returning calendar and battery state. -/
  | calQuery (p : Packet)
  /-- MON_SET_LIMITS (R406): Sets a supply or temperature channel's warning limits. -/
  | monSetLimits (p : Packet)
  /-- MON_SET_MAINS (R390): Sets mains sense and power-fail warning parameters. -/
  | monSetMains (p : Packet)
  /-- KEEP_SCRUB (R399): Long-running keep scrub and setting of the automatic scrub interval. -/
  | keepScrub (p : Packet)
  /-- CAL_SET_TIME (R404): Sets the calendar from a TAI96 value and marks it valid. -/
  | calSetTime (p : Packet)
  /-- CAL_SET_TRIM (R402): Sets calendar trim, auto-trim, CAL_EB_MS and CAL_DRIFT_PPB. -/
  | calSetTrim (p : Packet)
  /-- CAL_SET_TAMPER (R405): Sets tamper source enables, input polarity and filter. -/
  | calSetTamper (p : Packet)
  /-- SCHEDULED_COMMAND_DUE (R48): A scheduled command reaches EXEC_AT, or is passed by a forward step, and is rechecked and executed. -/
  | scheduledCommandDue (dt : Nat)
  /-- REPLY_DELIVERY (R51): A held reply is written to its reply ring or mailbox once room exists. -/
  | replyDelivery (dt : Nat)
  /-- RING_PROD_WRITE (R52): Host write of a ring's producer index, the doorbell of a host-to-device ring, refused if invalid. -/
  | ringProdWrite (dt : Nat) (m : BitVec 4) (ring : BitVec 6) (value : W32)
  /-- RING_CONS_WRITE (R52): Host write of a device-to-host ring's consumer index, freeing slots or refused if invalid. -/
  | ringConsWrite (dt : Nat) (m : BitVec 4) (ring : BitVec 6) (value : W32)
  /-- RING_SLOT_WRITE (R61): The device writes a waiting record or entry into a device-to-host ring slot once room exists. -/
  | ringSlotWrite (dt : Nat) (ring : BitVec 6)
  /-- TX_DESCRIPTOR_FETCH (R244): A host transmit descriptor is fetched and its frame checked and enqueued once its queue has room. -/
  | txDescriptorFetch (dt : Nat) (lane : BitVec 4) (desc : List W32) (frame : List (BitVec 8))
  /-- MSI_MODERATION_TIMER (R61): A ring's moderation HOLD_US expires and its vector message is sent. -/
  | msiModerationTimer (dt : Nat) (ring : BitVec 6)
  /-- MBX_SEND (R55): The sender sets MBX_n_CTRL.GO, sending the message and waking the receiver. -/
  | mbxSend (dt : Nat) (m : BitVec 4) (n : BitVec 3)
  /-- MBX_DELIVER (R55): A message to a sleeping receiver is delivered when its domain reports ready. -/
  | mbxDeliver (dt : Nat) (n : BitVec 3)
  /-- MBX_TAKE (R55): A read of MBX_n_TAKE takes the waiting message or returns EMPTY. -/
  | mbxTake (dt : Nat) (m : BitVec 4) (n : BitVec 3)
  /-- SEM_READ (R56): A read of a semaphore grants it or reports its holder. -/
  | semRead (dt : Nat) (m : BitVec 4) (sem : BitVec 5)
  /-- SEM_RELEASE (R56): A write to a semaphore by its holder releases it. -/
  | semRelease (dt : Nat) (m : BitVec 4) (sem : BitVec 5)
  /-- QUEUE_POP (R58): A read of a *_POP register removes the head entry and latches its words. -/
  | queuePop (dt : Nat) (read : BusRead)
  /-- RC_COUNTER_READ (R59): A read of an RC counter returns and clears it, shadowing a 64-bit high word. -/
  | rcCounterRead (dt : Nat) (read : BusRead)
  /-- SHADOW_LATCH_READ (R101): A read of a multi-word record's first word latches the rest into the reader's shadow. -/
  | shadowLatchRead (dt : Nat) (read : BusRead)
  /-- INT_STATUS_W1C (R60): A W1C write clears interrupt status bits and resends affected vectors. -/
  | intStatusW1c (dt : Nat) (write : BusWrite)
  /-- REGISTER_WRITE (R31): A write to any register without a row of its own, applied if permitted or counted as a refused write. -/
  | registerWrite (dt : Nat) (write : BusWrite)
  /-- PCIE_UNSUPPORTED_ACCESS (R30): A BAR0 request of wrong size or alignment completes as Unsupported Request. -/
  | pcieUnsupportedAccess (dt : Nat) (write : Bool) (addr : W32) (size : Nat)
  /-- ACD_STEER_WRITE (R123): The owning servo engine writes FREQ_SERVO_MPPT, applied, signalling re-entry, or refused. -/
  | acdSteerWrite (dt : Nat) (m : BitVec 4) (value : Option (BitVec 64))
  /-- GNS_NCO_WRITE (R160): The GNSS engine writes a channel's code or carrier NCO increment. `n` GNSS_CLK edges have come since
the rows that count them last did. -/
  | gnsNcoWrite (dt : Nat) (m : BitVec 4) (k : BitVec 5) (carrier : Bool) (value : BitVec 48) (n : Nat)
  /-- GNS_TRK_STATE_WRITE (R160): The GNSS engine writes a channel's lock, sync, C/N0 or slip state. -/
  | gnsTrkStateWrite (dt : Nat) (m : BitVec 4) (k : BitVec 5) (codeLock : Bool) (carrLock : Bool) (bitSync : Bool) (cn0 : BitVec 16) (slip : Option (BitVec 16))
  /-- GNS_NAV_PUSH (R163): The GNSS engine pushes a decoded navigation word, stamped and queued for ring 35. -/
  | gnsNavPush (dt : Nat) (m : BitVec 4) (k : BitVec 5) (word : W32) (ago : Nat)
  /-- GNS_SOL_WRITE (R169): The GNSS engine writes a timing solution, delivered to REF12 and cross-checked. -/
  | gnsSolWrite (dt : Nat) (m : BitVec 4) (valid : Bool) (nsv : BitVec 6) (snap : Bool) (offset : BitVec 64) (unc : BitVec 24)
  /-- POR_N_ASSERT (R68): POR_N low causes a cold reset. -/
  | porNAssert (dt : Nat) (low : Bool)
  /-- RAIL_MONITOR_RESET (R67): A rail leaves its valid window for more than 1 us, causing a cold reset. -/
  | railMonitorReset (dt : Nat) (out : BitVec 7)
  /-- RESET_N_ASSERT (R68): RESET_N low for 1 us causes a chip reset. -/
  | resetNAssert (dt : Nat) (low : Bool)
  /-- RESET_RELEASE (R66): Rails valid for 2 ms with POR_N high release the cold reset and BOOT begins. -/
  | resetRelease (dt : Nat)
  /-- STRAP_SAMPLE (R425): The straps are sampled 0.02 ms after cold reset release. -/
  | strapSample (dt : Nat)
  /-- ENGINE_BOOT_POWER_START (R78): PD_ENGINE power-up begins at the earliest of CPLL lock, 5 ms after PD_TIME ready or 9 ms after reset. -/
  | engineBootPowerStart (dt : Nat)
  /-- BOOT_IMAGE_CHECK (R75): The image read completes and is checked, falling back to the other slot or stopping with NO_IMAGE or ROLLBACK. -/
  | bootImageCheck (dt : Nat) (flashA : Option FwImage) (flashB : Option FwImage)
  /-- BOOT_COMPLETE (R71): Roots are unsealed, the keep restored and engines started, and DEV_STATE enters INIT. -/
  | bootComplete (dt : Nat) (keep : KeepRead)
  /-- AUTO_RUN (R71): INIT passes to RUN once all boot domains are ready with AUTO_RUN set and TAMPER_HOLD clear. -/
  | autoRun (dt : Nat)
  /-- DOMAIN_READY (R80): A powering domain reports ready. -/
  | domainReady (dt : Nat) (d : BitVec 4) (banks : BitVec 72)
  /-- DOMAIN_OFF (R80): A domain completes its power-down after any drain. -/
  | domainOff (dt : Nat) (d : BitVec 4)
  /-- WAKE_N_EDGE (R91): A falling edge on WAKE_N executes as SYS_WAKE from M15. -/
  | wakeNEdge (dt : Nat)
  /-- WAKE_COMPLETE (R91): After a wake the image is re-verified and DEV_STATE returns to RUN. -/
  | wakeComplete (dt : Nat) (flash : Option FwImage)
  /-- PERST_N_ASSERT (R68): PERST_N acts as a function-level reset with link loss on PD_PCIE. -/
  | perstNAssert (dt : Nat) (low : Bool)
  /-- PCIE_FLR (R35): A function-level reset disables rings and drops owed replies. -/
  | pcieFlr (dt : Nat)
  /-- PCIE_LINK_LOSS (R35): Loss of the PCIe link disables rings and drops owed replies. -/
  | pcieLinkLoss (dt : Nat)
  /-- ACCORD_SEED (R81): At the first tick with CPLL locked, keep restored and calendar valid, the accord is seeded FREERUN from the calendar. -/
  | accordSeed (dt : Nat)
  /-- OCXO_PRESENT (R145): CLK_OCXO becomes present, setting MACERATE and re-referencing an unlocked CPLL. -/
  | ocxoPresent (dt : Nat)
  /-- CPLL_LOCK (R27): The CPLL locks to its configured reference. -/
  | cpllLock (dt : Nat)
  /-- CPLL_LOSS (R144): The CPLL loses its reference or lock after a first lock, raising a class A fault. -/
  | cpllLoss (dt : Nat)
  /-- MACERATION_END (R145): The maceration interval or early stability windows end and MACERATE clears. -/
  | macerationEnd (dt : Nat)
  /-- EB_PUBLICATION (R18): Every 64 ticks the accord applies steps and slew quanta and publishes EB_ACCORD, re-evaluating dependent states. -/
  | ebPublication (dt : Nat)
  /-- TIME_BUS_APPLY (R16): A change accepted 64 ticks earlier applies at the accord and every time tap. -/
  | timeBusApply (dt : Nat)
  /-- TIME_BUS_CHECK (R19): Every 1,024 ticks a check word is compared at every tap, a mismatch raising a class A fault. -/
  | timeBusCheck (dt : Nat) (tap : BitVec 8) (value : BitVec 48)
  /-- BRIDGE_CLOCK_LOSS (R15): The die-to-die bridge loses its forwarded clock, raising a class A fault. -/
  | bridgeClockLoss (dt : Nat)
  /-- TIME_BUS_ERROR (R15): An uncorrectable time-bus error raises a class A fault. -/
  | timeBusError (dt : Nat)
  /-- BRIDGE_MEASURE (R203): The INIT bridge skew measurement completes and digital-die taps are phased. -/
  | bridgeMeasure (dt : Nat) (skew : Int)
  /-- SERVO_TIMEOUT (R124): The owner misses ACD_STEER for SERVO_TIMEOUT_MS and the servo is declared lost. -/
  | servoTimeout (dt : Nat)
  /-- ACCORD_RE_ENTRY (R138): At the first publication after the cause, the servo returns to the selected slot with a measured step. -/
  | accordReEntry (dt : Nat)
  /-- LEAP_APPLY (R147): SECONDS reaches LEAP_AT and the new UTC offset takes effect. -/
  | leapApply (dt : Nat)
  /-- FAULT_ASSERT (R357): A fault source asserts and is latched, logged and acted on by class. -/
  | faultAssert (dt : Nat) (src : BitVec 8) (inst : BitVec 16)
  /-- COLLECTOR_SELF_FAIL (R361): A collector dual-rail or parity check fails and drives the safe state directly. -/
  | collectorSelfFail (dt : Nat)
  /-- WARDEN_WDOG_EXPIRY (R358): The warden misses its 10 ms watchdog, asserting a class A fault and stopping ALIVE. -/
  | wardenWdogExpiry (dt : Nat)
  /-- REF_EDGE (R97): A significant edge on a reference or oscillator slot is stamped and updates offset, monitors and matrix. -/
  | refEdge (dt : Nat) (slot : BitVec 5) (phase : Int) (cycles : Nat)
  /-- REF_TOD_MESSAGE (R96): A ToD message on a reference input labels its start-bit edge. -/
  | refTodMessage (dt : Nat) (slot : BitVec 4) (phase : Int) (second : BitVec 48)
  /-- REF_OFFSET_DELIVERY (R97): The GNSS, PTP or partner block delivers an offset and E_SRC for its slot. -/
  | refOffsetDelivery (dt : Nat) (m : BitVec 4) (slot : BitVec 5) (offset : BitVec 64) (eSrc : BitVec 24)
  /-- REF_LOS_TIMEOUT (R106): No event arrives within the loss-of-signal time and the slot faults. -/
  | refLosTimeout (dt : Nat) (slot : BitVec 5)
  /-- HOLDOFF_EXPIRY (R107): A slot's hold-off expires with the fault present and it enters FAILED. -/
  | holdoffExpiry (dt : Nat) (slot : BitVec 5)
  /-- WAIT_EXPIRY (R107): A slot's first-wait or wait-to-restore expires with no fault and it enters QUALIFIED. -/
  | waitExpiry (dt : Nat) (slot : BitVec 5)
  /-- REF_SELECT_TICK (R112): At each 1 ms boundary selection ranks eligible slots and may start a switch or all-lost. -/
  | refSelectTick (dt : Nat)
  /-- PTP_ANNOUNCE_TIMEOUT (R118): A PTP slave instance hears no Announce for ANNOUNCE_TIMEOUT and its slot is lost. -/
  | ptpAnnounceTimeout (dt : Nat) (k : BitVec 2)
  /-- GNSS_CLK_LOSS (R151): No GNSS_CLK edge for 10 us stops channels and invalidates the solution. `n` edges came since the rows
that count them last did. -/
  | gnssClkLoss (dt : Nat) (n : Nat)
  /-- GNSS_CLK_MEASURE (R151): Each second GNSS_CLK edges are counted against the accord. -/
  | gnssClkMeasure (dt : Nat) (edges : Nat)
  /-- NOTCH_DETECT (R153): Each 1 ms spectrum assigns new tones to free adaptive notches. -/
  | notchDetect (dt : Nat) (tones : List (Nat × Nat))
  /-- NOTCH_RELEASE (R153): An adaptive notch whose tone stays below threshold for 1 s is freed. -/
  | notchRelease (dt : Nat) (n : BitVec 2)
  /-- JAM_WARN_CHANGE (R154): JAM_WARN sets or clears after 1 s above or below its level. -/
  | jamWarnChange (dt : Nat) (pre : BitVec 16) (post : BitVec 16)
  /-- ACQ_PASS (R156): An acquisition pass completes, starting the next or writing the results. The GNSS_CLK edge of its first
sample came `edge` 2^-16 ns after its start; `peaks` are those of its cells. -/
  | acqPass (dt : Nat) (edge : Nat) (peaks : List AcqPeak)
  /-- GNS_TRACK_START (R162): An assigned channel starts at its propagated start sample, `n` GNSS_CLK edges after the rows that
count them last did. -/
  | gnsTrackStart (dt : Nat) (k : BitVec 5) (n : Nat)
  /-- GNS_DUMP (R161): A channel dumps its accumulations every T_INT_MS code epochs: I then Q for VE, E, P, L and VL. `n` GNSS_CLK
edges have come since the rows that count them last did. -/
  | gnsDump (dt : Nat) (k : BitVec 5) (n : Nat) (accum : List (BitVec 24))
  /-- GNS_LATCH (R164): At a latch instant all channels are latched at one sample and an epoch queued for ring 32. The edge
that strobes the sample came `edge` 2^-16 ns before the row's tick, and is the `n`-th since the rows that count them last did. -/
  | gnsLatch (dt : Nat) (n : Nat) (edge : Nat)
  /-- GNS_SOL_TIMEOUT (R170): No solution for 1.5 s places REF12 in SOURCE_INVALID. -/
  | gnsSolTimeout (dt : Nat)
  /-- SNAPSHOT_START (R176): A snapshot capture begins at the first GNSS_CLK edge at or after its start time; that edge came
`edge` 2^-16 ns before the row's tick. -/
  | snapshotStart (dt : Nat) (edge : Nat)
  /-- SNAPSHOT_DONE (R176): A snapshot capture ends and its export is started. -/
  | snapshotDone (dt : Nat) (samples : List (BitVec 8))
  /-- TIC_EDGE (R183): An edge on a TIC channel is stamped, queued or used by an interval or claim. -/
  | ticEdge (dt : Nat) (ch : BitVec 5) (falling : Bool) (fine : BitVec 12) (badCode : Bool) (other : Int)
  /-- TIC_PRESENCE_TIMEOUT (R188): No edge for PRESENCE_US clears PRESENT. -/
  | ticPresenceTimeout (dt : Nat) (ch : BitVec 5)
  /-- TIC_INTERVAL_TIMEOUT (R195): An armed interval's timeout tick arrives before its edges. -/
  | ticIntervalTimeout (dt : Nat) (ch : BitVec 5)
  /-- TIC_COARSE_WRAP (R191): The 40-bit coarse counter wraps and RAW channels receive a WRAP record. -/
  | ticCoarseWrap (dt : Nat)
  /-- TIC_WARMUP_END (R186): A converter's 500 ms warm-up ends and its calibration starts. -/
  | ticWarmupEnd (dt : Nat) (c : BitVec 6)
  /-- TIC_CAL_DONE (R184): A 12 ms converter calibration run completes, passing or failing. -/
  | ticCalDone (dt : Nat) (c : BitVec 6) (calUnc : BitVec 16) (ssRms : BitVec 16) (gainDev : BitVec 16) (segDev : BitVec 16) (points : List (BitVec 16))
  /-- TIC_RECAL_TRIGGER (R202): Temperature change or RECAL_S triggers rolling recalibration of a converter. -/
  | ticRecalTrigger (dt : Nat) (c : BitVec 6)
  /-- TIC_SUBST_HANDOVER (R201): A substitution overlap ends and hands over or is abandoned. -/
  | ticSubstHandover (dt : Nat) (sp : BitVec 2)
  /-- TIC_ETIC_UPDATE (R185): E_TIC is re-evaluated every 1 ms. -/
  | ticEticUpdate (dt : Nat)
  /-- SYN_LOCK (R208): A synthesizer locks or relocks and its outputs recover. -/
  | synLock (dt : Nat) (k : BitVec 2)
  /-- SYN_UNLOCK (R216): A synthesizer loses lock and its outputs squelch or bypass. -/
  | synUnlock (dt : Nat) (k : BitVec 2)
  /-- OUTPUT_START (R210): An enabled output starts at its first grid instant 10 us after enable and lock. -/
  | outputStart (dt : Nat) (n : BitVec 4)
  /-- ALIGNER_COMPARE (R211): At each whole second the aligner compares the ball edge with the grid and trims. -/
  | alignerCompare (dt : Nat) (n : BitVec 4) (errPs : Int)
  /-- GLIDE_END (R212): A glide removes the last of PHASE_ERR and GLIDING clears. -/
  | glideEnd (dt : Nat) (n : BitVec 4)
  /-- ALIGN_HOLD_TIMER (R358): An ALIGNED output has not met ALIGNED for 3 s without a glide, asserting ALIGN_HOLD. -/
  | alignHoldTimer (dt : Nat) (n : BitVec 4)
  /-- OUT_SYNC_EXECUTE (R213): At SYNC_AT the named outputs restart their dividers on the new anchor. -/
  | outSyncExecute (dt : Nat)
  /-- TP_PULSE (R222): A time pulse is emitted at its pulse instant. -/
  | tpPulse (dt : Nat) (m : BitVec 2)
  /-- TP_PULSE_END (R222): A time pulse's width count ends and it falls. -/
  | tpPulseEnd (dt : Nat) (m : BitVec 2)
  /-- TOD_MESSAGE (R224): A ToD serial message is sent for its second. -/
  | todMessage (dt : Nat) (k : BitVec 1)
  /-- ECHO_DONE (R230): An echo measurement's shots end and the result is applied or not. -/
  | echoDone (dt : Nat) (good : BitVec 16) (meanFs : Nat) (sigma : BitVec 16)
  /-- FRAME_RECEIVE (R241): A frame is received whole and classified, policed, delivered or captured. -/
  | frameReceive (dt : Nat) (lane : BitVec 4) (phase : Nat) (f : RxFrame)
  /-- FRAME_RELEASE (R261): At a frame boundary the eligible head frame of the highest class is released. -/
  | frameRelease (dt : Nat) (lane : BitVec 4) (phase : Nat)
  /-- TX_COMPLETE (R244): A host frame leaves the wire and its completion is written. -/
  | txComplete (dt : Nat) (lane : BitVec 4)
  /-- LINK_UP (R237): A lane's lock and phase conditions hold and LINK_UP sets. -/
  | linkUp (dt : Nat) (lane : BitVec 4) (rxPhasePs : BitVec 16)
  /-- LINK_DOWN (R237): A lane loses its conditions and LINK_UP clears. -/
  | linkDown (dt : Nat) (lane : BitVec 4)
  /-- QUAD_READY (R235): A quad's SerDes PLLs relock after ETH_SET_QUAD_MODE. -/
  | quadReady (dt : Nat) (q : BitVec 2)
  /-- CAPTURE_INTERVAL_OPEN (R249): A lane's tap reaches a new whole millisecond and a capture interval opens. -/
  | captureIntervalOpen (dt : Nat) (lane : BitVec 4)
  /-- CAPTURE_INTERVAL_TIMEOUT (R249): An interval open for 1,251,000 ticks closes and a REPEAT interval opens. -/
  | captureIntervalTimeout (dt : Nat) (lane : BitVec 4)
  /-- CAPTURE_ROOT_READY (R250): A closed interval's Merkle root is computed and written to the log. -/
  | captureRootReady (dt : Nat) (lane : BitVec 4)
  /-- CAPTURE_SUPER_ROOT (R251): In fallback a lane writes a super-root for each accord second. -/
  | captureSuperRoot (dt : Nat) (lane : BitVec 4)
  /-- CAPTURE_LOSS_RECORD (R253): The first staging slot frees after losses and a LOSS record is made. -/
  | captureLossRecord (dt : Nat) (lane : BitVec 4)
  /-- CAPTURE_RESUME (R254): The log accepts entries again and suspended capture resumes. -/
  | captureResume (dt : Nat) (lane : BitVec 4)
  /-- GATE_ENTRY_CHANGE (R263): The OPER list advances to its next entry and gate states change. -/
  | gateEntryChange (dt : Nat) (lane : BitVec 4)
  /-- GCL_SWAP (R267): At SWAP_AT the OPER and ADMIN lists of the named lanes exchange. -/
  | gclSwap (dt : Nat) (lane : BitVec 4)
  /-- SHAPER_UPDATE (R270): Every 80 ticks each shaper's credit is updated. -/
  | shaperUpdate (dt : Nat)
  /-- POLICER_ACCRUE (R273): Every 64 ns policer tokens accrue up to the burst. -/
  | policerAccrue (dt : Nat)
  /-- QUEUE_SAMPLE (R275): At each whole millisecond every queue's depth and sojourn are sampled. -/
  | queueSample (dt : Nat)
  /-- COMMIT_SLOT_CHECK (R269): At slot minus 2,000 ns a booked slot without its frame at the head is missed. -/
  | commitSlotCheck (dt : Nat) (lane : BitVec 4)
  /-- COMMIT_DECISION (R304): A committed frame's residual is measured at its SFD and the frame sent or aborted. -/
  | commitDecision (dt : Nat) (lane : BitVec 4) (residualPs : Int)
  /-- PTP_DELAY_REQ (R284): A Delay_Req is verified and answered with a Delay_Resp. -/
  | ptpDelayReq (dt : Nat) (lane : BitVec 4) (phase : Nat) (r : SvcReq)
  /-- PTP_UNICAST_REQUEST (R287): A REQUEST_UNICAST_TRANSMISSION is answered with a grant or refusal. -/
  | ptpUnicastRequest (dt : Nat) (lane : BitVec 4) (r : SvcReq)
  /-- PTP_UNICAST_CANCEL (R287): A CANCEL_UNICAST_TRANSMISSION ends a grant and is acknowledged. -/
  | ptpUnicastCancel (dt : Nat) (lane : BitVec 4) (r : SvcReq)
  /-- NTP_REQUEST (R296): A plain NTP request is rate-limited and answered. -/
  | ntpRequest (dt : Nat) (lane : BitVec 4) (phase : Nat) (r : SvcReq)
  /-- NTS_REQUEST (R297): An NTS request is checked and answered by committed departure or a NAK. -/
  | ntsRequest (dt : Nat) (lane : BitVec 4) (phase : Nat) (r : SvcReq)
  /-- PTP_SYNC_INTERVAL (R284): A Sync interval arrives and a Sync is built, one-step, two-step or committed. -/
  | ptpSyncInterval (dt : Nat) (lane : BitVec 4) (dst : BitVec 128)
  /-- PTP_FOLLOW_UP (R284): A two-step Sync's transmit stamp is known and its Follow_Up sent. -/
  | ptpFollowUp (dt : Nat) (lane : BitVec 4)
  /-- PTP_ANNOUNCE_INTERVAL (R285): An Announce interval arrives and an Announce is built. -/
  | ptpAnnounceInterval (dt : Nat) (lane : BitVec 4) (dst : BitVec 128)
  /-- GRANT_EXPIRY (R287): A unicast grant lapses at its end. -/
  | grantExpiry (dt : Nat) (idx : BitVec 20) (gType : BitVec 4)
  /-- KEY_ROLL (R294): At ROLL_AT an SPP's ACTIVE_POS flips. -/
  | keyRoll (dt : Nat) (spp : BitVec 4)
  /-- ACCEPT_OLD_EXPIRY (R294): The old SPP position's acceptance period ends and it is emptied. -/
  | acceptOldExpiry (dt : Nat) (spp : BitVec 4)
  /-- CLIENT_AGE_EXPIRY (R309): A client entry silent for CLIENT_AGE_S with no grant is freed. -/
  | clientAgeExpiry (dt : Nat) (idx : BitVec 20)
  /-- LOG_SECOND_TICK (R318): At each whole accord second a checkpoint is written and the head persisted. -/
  | logSecondTick (dt : Nat) (keepFail : Option (BitVec 10))
  /-- LOG_SIGNATURE_DONE (R318): A checkpoint signature completes and SIG_R, SIG_S and pending entries are written. -/
  | logSignatureDone (dt : Nat) (r : BitVec 256) (s_ : BitVec 256)
  /-- KEY_OPERATION_DONE (R355): A long-running KEY command completes and KEY_RESULT receives its outcome. -/
  | keyOperationDone (dt : Nat) (ok : Bool)
  /-- TAMPER_ASSERT (R351): An enabled tamper source asserts, zeroing seal, roots and slots and setting TAMPER_HOLD. -/
  | tamperAssert (dt : Nat) (src : BitVec 4) (on : Bool)
  /-- BENIT_TIMING_FRAME_SEND (R367): At each 1 ms boundary a chip sends a timing frame. -/
  | benitTimingFrameSend (dt : Nat)
  /-- BENIT_TIMING_FRAME (R368): A partner timing frame arrives, yielding x_17 and the mirrored PEER state. -/
  | benitTimingFrame (dt : Nat) (lane0 lane1 : BenitTimes) (f : PeerFrame)
  /-- BENIT_SAFE_NOTICE (R366): A SAFE notice from the partner arrives and a claim round starts. -/
  | benitSafeNotice (dt : Nat)
  /-- BENIT_OUT_BAD_NOTICE (R377): An OUT_BAD notice from the partner arrives and PAIR_OUT_REPORTED asserts. -/
  | benitOutBadNotice (dt : Nat) (target : BitVec 5) (bad : Bool)
  /-- BENIT_HANDOVER_NOTICE (R381): A HANDOVER notice from the active arrives at the standby. -/
  | benitHandoverNotice (dt : Nat) (at_ : Tai)
  /-- BENIT_REJOIN_NOTICE (R366): A REJOIN notice from the partner arrives. -/
  | benitRejoinNotice (dt : Nat)
  /-- BENIT_LINK_UP (R366): A Benit lane gains block lock with keep-alives and LINK_UP sets. -/
  | benitLinkUp (dt : Nat) (lane : BitVec 1) (side : Bool)
  /-- BENIT_LINK_LOSS (R366): No valid block for 1 us clears LINK_UP and starts a claim round. -/
  | benitLinkLoss (dt : Nat)
  /-- PAIR_FIRST_CLAIM (R372): A paired chip first claims at link-up with differing SIDE or after LINK_WAIT_MS. -/
  | pairFirstClaim (dt : Nat)
  /-- CLAIM_ROUND_START (R373): A chip's 4 us round timer expires and it drives SOF. -/
  | claimRoundStart (dt : Nat)
  /-- CLAIM_SOF_DETECT (R373): An idle chip sees a falling edge on CLAIM_N and joins the round. -/
  | claimSofDetect (dt : Nat)
  /-- CLAIM_ROUND_END (R374): A claim round ends, deciding the winner and any handover instant. -/
  | claimRoundEnd (dt : Nat) (peer : BitVec 13) (testLow endLow : Bool)
  /-- HANDOVER_INSTANT (R374): At H ownership of every SHARED output changes on both chips. -/
  | handoverInstant (dt : Nat)
  /-- OWN_LEASE_LAPSE (R374): 10 us after the last won round the ownership lease lapses. -/
  | ownLeaseLapse (dt : Nat)
  /-- PAIR_HANDOVER_EXECUTE (R381): At HANDOVER_AT INCUMBENT moves to the standby and both start a round. -/
  | pairHandoverExecute (dt : Nat)
  /-- PAIR_COMPARE_WINDOW (R377): At each 1 ms boundary a comparison entry's window is evaluated. -/
  | pairCompareWindow (dt : Nat) (e : BitVec 3)
  /-- HEALTH_BIT_SET (R371): A HEALTH condition has held for HEALTH_HOLD_MS and its bit takes effect. -/
  | healthBitSet (dt : Nat) (b : BitVec 3)
  /-- STANDBY_CAL_TEST (R379): Every 60 s the standby self-tests its compare channels. -/
  | standbyCalTest (dt : Nat) (bad : BitVec 8)
  /-- SUPPLY_SAMPLE (R386): Every 100 us each supply is sampled. -/
  | supplySample (dt : Nat) (mv : List (BitVec 16))
  /-- SUPPLY_WARNING_CHANGE (R386): A supply reading stays outside or inside its limits for 1 ms and its warning changes. -/
  | supplyWarningChange (dt : Nat) (r : BitVec 3)
  /-- TEMP_SAMPLE (R387): Every 10 ms each temperature channel is updated and checked. -/
  | tempSample (dt : Nat) (t : List (BitVec 16))
  /-- MAINS_HALF_CYCLE (R389): A mains half-cycle ends and its RMS is measured and tested. -/
  | mainsHalfCycle (dt : Nat) (rmsUv : BitVec 20)
  /-- MAINS_CROSSING (R391): A positive-going mains zero crossing is stamped and a cycle record queued. -/
  | mainsCrossing (dt : Nat) (phase : Nat)
  /-- MAINS_GAP_TIMEOUT (R390): PFW_GAP_MS passes without a crossing. -/
  | mainsGapTimeout (dt : Nat)
  /-- MAINS_RANGE_TIMER (R389): A range condition holds for 1 s and MAINS_RANGE changes. -/
  | mainsRangeTimer (dt : Nat)
  /-- PFW_PIN_CHANGE (R390): PFW_N changes level after its filter. -/
  | pfwPinChange (dt : Nat) (low : Bool)
  /-- PFW_CLEAR (R390): The clear conditions hold for PFW_CLEAR_MS and the warning clears. -/
  | pfwClear (dt : Nat)
  /-- RTC_STOP (R401): The calendar crystal stops for 2 ms and VALID clears. -/
  | rtcStop (dt : Nat)
  /-- CAL_SYNC (R402): At a whole accord second in LOCKED or DRYDOWN_IN the calendar syncs. -/
  | calSync (dt : Nat)
  /-- CAL_AUTO_TRIM (R402): After 1,024 s of unbroken syncs the trim is updated. -/
  | calAutoTrim (dt : Nat)
  /-- KEEP_AUTO_SCRUB (R399): SCRUB_H hours pass and the device starts a keep scrub. -/
  | keepAutoScrub (dt : Nat)
  /-- KEEP_SCRUB_DONE (R399): A keep scrub completes and reports its counts. -/
  | keepScrubDone (dt : Nat) (r : KeepScrub)
  /-- FW_STAGE_DONE (R93): A firmware stage completes and SYS_FW_STAGE_RESULT receives its result. -/
  | fwStageDone (dt : Nat) (image : FwImage) (dmaError : Bool) (powerFail : Bool)
  /-- BIST_DONE (R416): A self-test run completes and reports its failing targets. -/
  | bistDone (dt : Nat) (fail : BitVec 6)
  /-- TAP_INSTRUCTION (R413): An instruction loaded into the TAP is accepted or refused as a probe. -/
  | tapInstruction (dt : Nat) (code : BitVec 8)
  /-- UNLISTED_OPCODE (R41): A command packet whose opcode is not in the opcode index arrives and is answered BAD_OPCODE and counted. -/
  | unlistedOpcode (opcode : BitVec 16) (p : Packet)
  /-- GNSS_CLK_PRESENT (R151): GNSS_CLK edges resume after a loss and CLK_PRESENT sets again, with channels left for the firmware to reassign. -/
  | gnssClkPresent (dt : Nat)
  /-- ATOM_PRESENT (R27): CLK_ATOM becomes present, setting ATOM_PRESENT and, when it is the configured reference, re-referencing an unlocked CPLL to it. -/
  | atomPresent (dt : Nat)
  /-- OSCILLATOR_ABSENT (R144): CLK_OCXO or CLK_ATOM ceases to be present, clearing its presence bit, silently before the first lock and without fault when it is not the CPLL reference. -/
  | oscillatorAbsent (dt : Nat) (atom : Bool)
  /-- PCIE_LINK_UP (R78): PCIe link training completes and the endpoint's link comes up, after which BAR0 and the DMA rings are usable. -/
  | pcieLinkUp (dt : Nat)
  /-- DMA_TRANSFER_ERROR (R65): A host read or write made by the DMA engine completes with an error, setting BUS_ERR and raising INT_DMA_FETCH_ERR or INT_DMA_WRITE_ERR. -/
  | dmaTransferError (dt : Nat) (ring : BitVec 6) (what : DmaError)
  /-- RING_STALL_TIMEOUT (R65): A device-to-host ring stays full for longer than its owner's stall time and INT_DMA_RING_STALL is raised. -/
  | ringStallTimeout (dt : Nat) (ring : BitVec 6)
  /-- BENIT_LANE_DOWN (R366): One Benit lane loses block lock while the other keeps LINK_UP, so one lane carries every frame and the spare count falls. -/
  | benitLaneDown (dt : Nat) (lane : BitVec 1)
  /-- PD_VBAT_POWER_LOSS (R329): Both VBAT and VDD_ANA are lost, so PD_VBAT loses power, SEAL is lost and the calendar's VALID clears. -/
  | pdVbatPowerLoss (dt : Nat)
  /-- TAP_TEST_LOGIC_RESET (R415): The TAP reaches Test-Logic-Reset through TRST_N or TMS, ending any scan instruction and returning every ball to its block's level. -/
  | tapTestLogicReset (dt : Nat)
  /-- COLLECTOR_SELF_RECOVER (R361): The collector's dual-rail and parity check passes again and FLT_STATUS.SELF clears. -/
  | collectorSelfRecover (dt : Nat)
  /-- GNSS_FE_EN_LEAD (R152): With PORT_GATE set, FE_LEAD_MS before a gated snapshot the device drives GNSS_FE_EN high to let the front end settle. -/
  | gnssFeEnLead (dt : Nat)
  /-- PTP_SLAVE_MESSAGE (R118): A PTP slave instance receives an Announce, Sync, Follow_Up or Delay_Resp from its master, updating MASTER_PRESENT, clockClass, MASTER_CHANGE and its estimates. -/
  | ptpSlaveMessage (dt : Nat) (k : BitVec 2) (auth : Bool) (msg : SlaveMsg)
deriving DecidableEq, Repr

/-- The ticks that pass before a command. -/
def Instr.dt (i : Instr) : Nat :=
  match i with
  | .sysQueryState p => p.dt
  | .sysQueryCounters p => p.dt
  | .sysEcho p => p.dt
  | .sysSetState p => p.dt
  | .sysClearSafe p => p.dt
  | .sysDomainPower p => p.dt
  | .sysSleep p => p.dt
  | .sysWake p => p.dt
  | .sysReset p => p.dt
  | .sysFwStage p => p.dt
  | .sysFwActivate p => p.dt
  | .sysSetMbxRoute p => p.dt
  | .sysSetSemCfg p => p.dt
  | .sysSemForce p => p.dt
  | .sysRingConfig p => p.dt
  | .sysRingEnable p => p.dt
  | .sysIntRoute p => p.dt
  | .sysCancel p => p.dt
  | .sysBltUnlock p => p.dt
  | .sysBltSelect p => p.dt
  | .sysBistRun p => p.dt
  | .refQuerySlot p => p.dt
  | .refQueryMatrix p => p.dt
  | .refQueryHistory p => p.dt
  | .refSetSlot p => p.dt
  | .refSetQual p => p.dt
  | .refSetTimers p => p.dt
  | .refSetPriority p => p.dt
  | .refSelect p => p.dt
  | .refClearHistory p => p.dt
  | .refEnable p => p.dt
  | .refSetPtpSlave p => p.dt
  | .acdQueryTime p => p.dt
  | .acdQueryServo p => p.dt
  | .acdSetServo p => p.dt
  | .acdSetStepPolicy p => p.dt
  | .acdSetHold p => p.dt
  | .acdSetOscModel p => p.dt
  | .acdSetTime p => p.dt
  | .acdAdjustPhase p => p.dt
  | .acdSetUtc p => p.dt
  | .acdSetCpllSource p => p.dt
  | .acdEnterDrydown p => p.dt
  | .acdSetMaceration p => p.dt
  | .outQueryStatus p => p.dt
  | .outQueryEcho p => p.dt
  | .outSetSyn p => p.dt
  | .outSetOutput p => p.dt
  | .outSync p => p.dt
  | .outSetTp p => p.dt
  | .outSetTod p => p.dt
  | .outEchoMeasure p => p.dt
  | .outSetDelay p => p.dt
  | .outEnable p => p.dt
  | .ticQueryChannel p => p.dt
  | .ticQueryCal p => p.dt
  | .ticSetChannel p => p.dt
  | .ticStartInterval p => p.dt
  | .ticStream p => p.dt
  | .ticCalibrate p => p.dt
  | .ticSubstitute p => p.dt
  | .ticSetDelay p => p.dt
  | .gnsQueryStatus p => p.dt
  | .gnsQuerySolution p => p.dt
  | .gnsSetPort p => p.dt
  | .gnsSetNotch p => p.dt
  | .gnsAcquire p => p.dt
  | .gnsTrack p => p.dt
  | .gnsRelease p => p.dt
  | .gnsSetLatch p => p.dt
  | .gnsSnapshot p => p.dt
  | .gnsSetAntenna p => p.dt
  | .gnsSetCheck p => p.dt
  | .gnsSpareBank p => p.dt
  | .ethQueryLane p => p.dt
  | .ethQueryDelay p => p.dt
  | .ethSetQuadMode p => p.dt
  | .ethSetLane p => p.dt
  | .ethSetDelay p => p.dt
  | .ethSetCapture p => p.dt
  | .ethSetClassifier p => p.dt
  | .ethLaneEnable p => p.dt
  | .ethSetTags p => p.dt
  | .tmgQueryQueue p => p.dt
  | .tmgQueryGcl p => p.dt
  | .tmgSetGcl p => p.dt
  | .tmgSwapGcl p => p.dt
  | .tmgSetShaper p => p.dt
  | .tmgSetPolicer p => p.dt
  | .tmgSetFilter p => p.dt
  | .tmgSetSampling p => p.dt
  | .svcQueryStatus p => p.dt
  | .svcQueryClient p => p.dt
  | .svcSetPtpPort p => p.dt
  | .svcSetProfile p => p.dt
  | .svcSetAuth p => p.dt
  | .svcSetNtp p => p.dt
  | .svcLoadCookieKey p => p.dt
  | .svcRetireCookieKey p => p.dt
  | .svcSetGate p => p.dt
  | .svcSetRateLimit p => p.dt
  | .svcClientFlush p => p.dt
  | .svcSetBoundTlv p => p.dt
  | .keyQuerySlots p => p.dt
  | .keyQueryEpoch p => p.dt
  | .keyLoadFlacon p => p.dt
  | .keyWrap p => p.dt
  | .keyDerive p => p.dt
  | .keyZero p => p.dt
  | .keyEpochUpdate p => p.dt
  | .keyAttest p => p.dt
  | .keyProvision p => p.dt
  | .keyLcAdvance p => p.dt
  | .keyDebugEnter p => p.dt
  | .keyDebugExit p => p.dt
  | .logQueryStatus p => p.dt
  | .logQueryHead p => p.dt
  | .logExportAck p => p.dt
  | .logSetExport p => p.dt
  | .logCheckpoint p => p.dt
  | .logNote p => p.dt
  | .fltQuery p => p.dt
  | .fltSetClass p => p.dt
  | .fltClear p => p.dt
  | .fltInject p => p.dt
  | .pairQuery p => p.dt
  | .pairSetMode p => p.dt
  | .pairSetClaim p => p.dt
  | .pairHandover p => p.dt
  | .pairSetCompare p => p.dt
  | .pairRejoin p => p.dt
  | .monQuery p => p.dt
  | .keepQuery p => p.dt
  | .calQuery p => p.dt
  | .monSetLimits p => p.dt
  | .monSetMains p => p.dt
  | .keepScrub p => p.dt
  | .calSetTime p => p.dt
  | .calSetTrim p => p.dt
  | .calSetTamper p => p.dt
  | .scheduledCommandDue dt => dt
  | .replyDelivery dt => dt
  | .ringProdWrite dt _ _ _ => dt
  | .ringConsWrite dt _ _ _ => dt
  | .ringSlotWrite dt _ => dt
  | .txDescriptorFetch dt _ _ _ => dt
  | .msiModerationTimer dt _ => dt
  | .mbxSend dt _ _ => dt
  | .mbxDeliver dt _ => dt
  | .mbxTake dt _ _ => dt
  | .semRead dt _ _ => dt
  | .semRelease dt _ _ => dt
  | .queuePop dt _ => dt
  | .rcCounterRead dt _ => dt
  | .shadowLatchRead dt _ => dt
  | .intStatusW1c dt _ => dt
  | .registerWrite dt _ => dt
  | .pcieUnsupportedAccess dt _ _ _ => dt
  | .acdSteerWrite dt _ _ => dt
  | .gnsNcoWrite dt _ _ _ _ _ => dt
  | .gnsTrkStateWrite dt _ _ _ _ _ _ _ => dt
  | .gnsNavPush dt _ _ _ _ => dt
  | .gnsSolWrite dt _ _ _ _ _ _ => dt
  | .porNAssert dt _ => dt
  | .railMonitorReset dt _ => dt
  | .resetNAssert dt _ => dt
  | .resetRelease dt => dt
  | .strapSample dt => dt
  | .engineBootPowerStart dt => dt
  | .bootImageCheck dt _ _ => dt
  | .bootComplete dt _ => dt
  | .autoRun dt => dt
  | .domainReady dt _ _ => dt
  | .domainOff dt _ => dt
  | .wakeNEdge dt => dt
  | .wakeComplete dt _ => dt
  | .perstNAssert dt _ => dt
  | .pcieFlr dt => dt
  | .pcieLinkLoss dt => dt
  | .accordSeed dt => dt
  | .ocxoPresent dt => dt
  | .cpllLock dt => dt
  | .cpllLoss dt => dt
  | .macerationEnd dt => dt
  | .ebPublication dt => dt
  | .timeBusApply dt => dt
  | .timeBusCheck dt _ _ => dt
  | .bridgeClockLoss dt => dt
  | .timeBusError dt => dt
  | .bridgeMeasure dt _ => dt
  | .servoTimeout dt => dt
  | .accordReEntry dt => dt
  | .leapApply dt => dt
  | .faultAssert dt _ _ => dt
  | .collectorSelfFail dt => dt
  | .wardenWdogExpiry dt => dt
  | .refEdge dt _ _ _ => dt
  | .refTodMessage dt _ _ _ => dt
  | .refOffsetDelivery dt _ _ _ _ => dt
  | .refLosTimeout dt _ => dt
  | .holdoffExpiry dt _ => dt
  | .waitExpiry dt _ => dt
  | .refSelectTick dt => dt
  | .ptpAnnounceTimeout dt _ => dt
  | .gnssClkLoss dt _ => dt
  | .gnssClkMeasure dt _ => dt
  | .notchDetect dt _ => dt
  | .notchRelease dt _ => dt
  | .jamWarnChange dt _ _ => dt
  | .acqPass dt _ _ => dt
  | .gnsTrackStart dt _ _ => dt
  | .gnsDump dt _ _ _ => dt
  | .gnsLatch dt _ _ => dt
  | .gnsSolTimeout dt => dt
  | .snapshotStart dt _ => dt
  | .snapshotDone dt _ => dt
  | .ticEdge dt _ _ _ _ _ => dt
  | .ticPresenceTimeout dt _ => dt
  | .ticIntervalTimeout dt _ => dt
  | .ticCoarseWrap dt => dt
  | .ticWarmupEnd dt _ => dt
  | .ticCalDone dt _ _ _ _ _ _ => dt
  | .ticRecalTrigger dt _ => dt
  | .ticSubstHandover dt _ => dt
  | .ticEticUpdate dt => dt
  | .synLock dt _ => dt
  | .synUnlock dt _ => dt
  | .outputStart dt _ => dt
  | .alignerCompare dt _ _ => dt
  | .glideEnd dt _ => dt
  | .alignHoldTimer dt _ => dt
  | .outSyncExecute dt => dt
  | .tpPulse dt _ => dt
  | .tpPulseEnd dt _ => dt
  | .todMessage dt _ => dt
  | .echoDone dt _ _ _ => dt
  | .frameReceive dt _ _ _ => dt
  | .frameRelease dt _ _ => dt
  | .txComplete dt _ => dt
  | .linkUp dt _ _ => dt
  | .linkDown dt _ => dt
  | .quadReady dt _ => dt
  | .captureIntervalOpen dt _ => dt
  | .captureIntervalTimeout dt _ => dt
  | .captureRootReady dt _ => dt
  | .captureSuperRoot dt _ => dt
  | .captureLossRecord dt _ => dt
  | .captureResume dt _ => dt
  | .gateEntryChange dt _ => dt
  | .gclSwap dt _ => dt
  | .shaperUpdate dt => dt
  | .policerAccrue dt => dt
  | .queueSample dt => dt
  | .commitSlotCheck dt _ => dt
  | .commitDecision dt _ _ => dt
  | .ptpDelayReq dt _ _ _ => dt
  | .ptpUnicastRequest dt _ _ => dt
  | .ptpUnicastCancel dt _ _ => dt
  | .ntpRequest dt _ _ _ => dt
  | .ntsRequest dt _ _ _ => dt
  | .ptpSyncInterval dt _ _ => dt
  | .ptpFollowUp dt _ => dt
  | .ptpAnnounceInterval dt _ _ => dt
  | .grantExpiry dt _ _ => dt
  | .keyRoll dt _ => dt
  | .acceptOldExpiry dt _ => dt
  | .clientAgeExpiry dt _ => dt
  | .logSecondTick dt _ => dt
  | .logSignatureDone dt _ _ => dt
  | .keyOperationDone dt _ => dt
  | .tamperAssert dt _ _ => dt
  | .benitTimingFrameSend dt => dt
  | .benitTimingFrame dt _ _ _ => dt
  | .benitSafeNotice dt => dt
  | .benitOutBadNotice dt _ _ => dt
  | .benitHandoverNotice dt _ => dt
  | .benitRejoinNotice dt => dt
  | .benitLinkUp dt _ _ => dt
  | .benitLinkLoss dt => dt
  | .pairFirstClaim dt => dt
  | .claimRoundStart dt => dt
  | .claimSofDetect dt => dt
  | .claimRoundEnd dt _ _ _ => dt
  | .handoverInstant dt => dt
  | .ownLeaseLapse dt => dt
  | .pairHandoverExecute dt => dt
  | .pairCompareWindow dt _ => dt
  | .healthBitSet dt _ => dt
  | .standbyCalTest dt _ => dt
  | .supplySample dt _ => dt
  | .supplyWarningChange dt _ => dt
  | .tempSample dt _ => dt
  | .mainsHalfCycle dt _ => dt
  | .mainsCrossing dt _ => dt
  | .mainsGapTimeout dt => dt
  | .mainsRangeTimer dt => dt
  | .pfwPinChange dt _ => dt
  | .pfwClear dt => dt
  | .rtcStop dt => dt
  | .calSync dt => dt
  | .calAutoTrim dt => dt
  | .keepAutoScrub dt => dt
  | .keepScrubDone dt _ => dt
  | .fwStageDone dt _ _ _ => dt
  | .bistDone dt _ => dt
  | .tapInstruction dt _ => dt
  | .unlistedOpcode _ p => p.dt
  | .gnssClkPresent dt => dt
  | .atomPresent dt => dt
  | .oscillatorAbsent dt _ => dt
  | .pcieLinkUp dt => dt
  | .dmaTransferError dt _ _ => dt
  | .ringStallTimeout dt _ => dt
  | .benitLaneDown dt _ => dt
  | .pdVbatPowerLoss dt => dt
  | .tapTestLogicReset dt => dt
  | .collectorSelfRecover dt => dt
  | .gnssFeEnLead dt => dt
  | .ptpSlaveMessage dt _ _ _ => dt

end Sys2Proof
end

