-- ==== Sys2Proof/Sha.lean ====
section
/-! DEFINITION. SHA-256 and HMAC-SHA256 over byte lists, as R248, R250, R291, R316, R317 and R331 use them, and the
byte order of words and digests. A digest is a `Dig`: its first byte lies in bits [7:0]. -/

namespace Sys2Proof

/-- A byte. -/
abbrev Byte := BitVec 8

/-- The four bytes of a little-endian word, the byte at the lowest address first (R4, R314). -/
def leBytes (w : W32) : List Byte :=
  [w.extractLsb' 0 8, w.extractLsb' 8 8, w.extractLsb' 16 8, w.extractLsb' 24 8]

/-- The bytes of a list of little-endian words. -/
def wordsBytes (ws : List W32) : List Byte := ws.flatMap leBytes

/-- The low `n` bytes of a number, least significant first. -/
def leNat (n : Nat) (x : Nat) : List Byte := (List.range n).map fun i => BitVec.ofNat 8 (x >>> (8 * i))

/-- The low `n` bytes of a number, most significant first. -/
def beNat (n : Nat) (x : Nat) : List Byte := (leNat n x).reverse

/-- The little-endian words that `n` words of a number hold. -/
def leWords (n : Nat) (x : Nat) : List W32 := (List.range n).map fun i => BitVec.ofNat 32 (x >>> (32 * i))

/-- The number whose bytes are given least significant first. -/
def natOfLe (bs : List Byte) : Nat := bs.foldr (fun b a => b.toNat + 256 * a) 0

/-- The number whose words are given least significant first. -/
def natOfWords (ws : List W32) : Nat := ws.foldr (fun w a => w.toNat + 4294967296 * a) 0

/-- The digest whose bytes are given in order. -/
def digOf (bs : List Byte) : Dig := BitVec.ofNat 256 (natOfLe (bs.take 32))

/-- The bytes of a digest in order. -/
def digBytes (d : Dig) : List Byte := leNat 32 d.toNat

/-- The eight words that hold a digest's bytes in order. -/
def digWords (d : Dig) : List W32 := leWords 8 d.toNat

namespace Sha

/-- The round constants of SHA-256. -/
def k : List W32 :=
    [0x428A2F98, 0x71374491, 0xB5C0FBCF, 0xE9B5DBA5, 0x3956C25B, 0x59F111F1, 0x923F82A4, 0xAB1C5ED5] ++
    [0xD807AA98, 0x12835B01, 0x243185BE, 0x550C7DC3, 0x72BE5D74, 0x80DEB1FE, 0x9BDC06A7, 0xC19BF174] ++
    [0xE49B69C1, 0xEFBE4786, 0x0FC19DC6, 0x240CA1CC, 0x2DE92C6F, 0x4A7484AA, 0x5CB0A9DC, 0x76F988DA] ++
    [0x983E5152, 0xA831C66D, 0xB00327C8, 0xBF597FC7, 0xC6E00BF3, 0xD5A79147, 0x06CA6351, 0x14292967] ++
    [0x27B70A85, 0x2E1B2138, 0x4D2C6DFC, 0x53380D13, 0x650A7354, 0x766A0ABB, 0x81C2C92E, 0x92722C85] ++
    [0xA2BFE8A1, 0xA81A664B, 0xC24B8B70, 0xC76C51A3, 0xD192E819, 0xD6990624, 0xF40E3585, 0x106AA070] ++
    [0x19A4C116, 0x1E376C08, 0x2748774C, 0x34B0BCB5, 0x391C0CB3, 0x4ED8AA4A, 0x5B9CCA4F, 0x682E6FF3] ++
    [0x748F82EE, 0x78A5636F, 0x84C87814, 0x8CC70208, 0x90BEFFFA, 0xA4506CEB, 0xBEF9A3F7, 0xC67178F2]

/-- The initial hash value of SHA-256. -/
def h0 : List W32 := [0x6A09E667, 0xBB67AE85, 0x3C6EF372, 0xA54FF53A, 0x510E527F, 0x9B05688C, 0x1F83D9AB, 0x5BE0CD19]

/-- Rotation to the right. -/
def rotr (x : W32) (n : Nat) : W32 := (x >>> n) ||| (x <<< (32 - n))

/-- The next word of the message schedule; the schedule is held newest first. -/
def nextW (ws : List W32) : W32 :=
  let a := ws.getD 1 0; let b := ws.getD 14 0
  (rotr a 17 ^^^ rotr a 19 ^^^ (a >>> 10)) + ws.getD 6 0 + (rotr b 7 ^^^ rotr b 18 ^^^ (b >>> 3)) + ws.getD 15 0

/-- `n` further words of the message schedule. -/
def extend : Nat → List W32 → List W32
  | 0, ws => ws
  | n + 1, ws => extend n (nextW ws :: ws)

/-- One round on the working variables a to h. -/
def round (v : List W32) (kt wt : W32) : List W32 :=
  match v with
  | [a, b, c, d, e, f, g, h] =>
    let t1 := h + (rotr e 6 ^^^ rotr e 11 ^^^ rotr e 25) + ((e &&& f) ^^^ (~~~e &&& g)) + kt + wt
    let t2 := (rotr a 2 ^^^ rotr a 13 ^^^ rotr a 22) + ((a &&& b) ^^^ (a &&& c) ^^^ (b &&& c))
    [t1 + t2, a, b, c, d + t1, e, f, g]
  | _ => v

/-- The compression of one block of 16 words. -/
def block (h : List W32) (ws : List W32) : List W32 :=
  let sched := (extend 48 ws.reverse).reverse
  let v := (k.zip sched).foldl (fun v p => round v p.1 p.2) h
  List.zipWith (· + ·) h v

/-- Big-endian words of a byte list. -/
def beWords : List Byte → List W32
  | a :: b :: c :: d :: r => (a ++ b ++ c ++ d) :: beWords r
  | _ => []

/-- The blocks of a padded message, compressed in turn. `n` is the number of blocks. -/
def blocks : Nat → List W32 → List W32 → List W32
  | 0, h, _ => h
  | n + 1, h, ws => blocks n (block h (ws.take 16)) (ws.drop 16)

/-- The padding of a message of `n` bytes. -/
def pad (n : Nat) : List Byte :=
  0x80 :: (List.replicate ((119 - n % 64) % 64) 0 ++ beNat 8 (8 * n))

end Sha

/-- SHA-256. -/
def sha256 (m : List Byte) : Dig :=
  let ws := Sha.beWords (m ++ Sha.pad m.length)
  digOf ((Sha.blocks (ws.length / 16) Sha.h0 ws).flatMap fun w => (leBytes w).reverse)

/-- HMAC-SHA256 with a key of at most 64 bytes. -/
def hmac256 (key m : List Byte) : Dig :=
  let kb := key ++ List.replicate (64 - key.length) 0
  sha256 ((kb.map (· ^^^ 0x5C)) ++ digBytes (sha256 ((kb.map (· ^^^ 0x36)) ++ m)))

/-- Leaf hash of a capture record (R250). -/
def leafHash (rec : List W32) : Dig := sha256 (0x00 :: wordsBytes rec)

/-- Interior node of the Merkle tree (R250). -/
def nodeHash (l r : Dig) : Dig := sha256 (0x01 :: (digBytes l ++ digBytes r))

/-- One level of the tree: neighbours joined in pairs, an odd last one carried up. -/
def pairUp : List Dig → List Dig
  | a :: b :: r => nodeHash a b :: pairUp r
  | l => l

/-- Levels joined until one hash is left. -/
def mthUp : Nat → List Dig → Dig
  | 0, l => l.headD 0
  | n + 1, l =>
    match l with
    | [] => 0
    | [x] => x
    | l => mthUp n (pairUp l)

/-- The Merkle tree hash of R250 over leaf hashes in order. Splitting at the largest power of two below n and joining
neighbours level by level give the same tree. -/
def mth (leaves : List Dig) : Dig := mthUp leaves.length leaves

end Sys2Proof
end

