-- ==== Sys2Proof/Config.lean ====
section
/-! DEFINITION. What an implementation fixes and what the spec leaves free: constants without a body, so that nothing
can be proved of their values. -/

namespace Sys2Proof.Config

/-- Free values: values the spec does not state. The state's `freeCtr` picks a fresh one each time (log entry 2). -/
opaque freeWord : Nat → BitVec 256

/-- The DRBG's output (R334, R353, R298): never stated, one value for each draw (log entry 2). -/
opaque drbg : Nat → BitVec 256

/-- ECDSA P-256 over SHA-256 (R318, R334): whether the signature (r, s) over the digest verifies under the compressed
public key (log entry 7). -/
opaque ecdsaOk : BitVec 264 → Dig → BitVec 256 → BitVec 256 → Bool

/-- The Wenven firmware key, whose digest is fused in the ROM (R74; log entry 7). -/
opaque fwKey : BitVec 264

/-- The compressed P-256 public key of key material (R333; log entry 7). -/
opaque ecdsaPub : BitVec 384 → BitVec 264

/-- The keyed hash of the client table (R309): the boot's draw, lane, kind and address give a bucket number (log entry
7). -/
opaque clientBucket : Nat → BitVec 4 → BitVec 3 → BitVec 128 → BitVec 17

/-- Calibration uncertainty of a slot's matrix converter, in 10 ps (R98; log entry 7). -/
opaque refCalUnc : Nat → BitVec 24

/-- The CSP image `image` with the fields of row `row` at their defaults, which `blank` holds (R394): the spec does not say
which row holds which field (log entry 85). -/
opaque keepRowLost {α : Type} [Inhabited α] (row : Nat) (image blank : α) : α

/-- CFG_DIGEST (R369): the first eight bytes of SHA-256 over the keep's CSP image, whose byte layout the spec does not
give; a function of the fields that the digest covers (log entry 7). -/
opaque cspDigest {α : Type} (image : α) : BitVec 64

/-- The Wenven RMA digest in the boot ROM (R334), whose value the spec does not give (log entry 7). -/
opaque rmaDigest : Dig

end Sys2Proof.Config
end

