-- ==== Sys2Proof/Machine/Codes.lean ====
section
/-! DEFINITION. The named codes of the machine: the state families of the scope chapter, boot codes, status codes,
and the small alternatives the state holds. -/

namespace Sys2Proof.Machine

/-- DEV_STATE (R71); the codes of SYS_STATE.DEV_STATE are 0 to 5 in this order. -/
inductive DevState where
  | boot | init | run | maint | safe | sleep
deriving DecidableEq, Repr

/-- ACCORD_STATE (R130); codes 0 to 6 in this order. -/
inductive AccordState where
  | cold | acquire | locked | drydownIn | drydownOut | freerun | safe
deriving DecidableEq, Repr

/-- PAIR_ROLE (R375); codes 0 to 3 in this order. -/
inductive PairRole where
  | solo | active | standby | safe
deriving DecidableEq, Repr

/-- LC_STATE (R334); codes 0 to 5 in this order. -/
inductive LcState where
  | blank | provisioned | deployed | debug | rma | scrapped
deriving DecidableEq, Repr

/-- SYS_BOOT_STATUS.CODE (R76, R86); codes 0 to 5 in this order. -/
inductive BootCode where
  | ok | inProgress | tamper | fallback | noImage | rollback
deriving DecidableEq, Repr

/-- QSTATE of a reference slot (R107); codes 0 to 5 in the order of REF_SLOT_n_STATE. -/
inductive QState where
  | disabled | absent | wait | qualified | holdoff | failed
deriving DecidableEq, Repr

/-- Status codes of a reply (R43). -/
inductive Status where
  | ok | accepted | badOpcode | badLength | badParam | state | denied | busy | logFull | late | authFail | aborted
  | noResource
deriving DecidableEq, Repr

/-- DEV_STATE code. -/
def DevState.code : DevState → BitVec 3
  | .boot => 0 | .init => 1 | .run => 2 | .maint => 3 | .safe => 4 | .sleep => 5

/-- ACCORD_STATE code. -/
def AccordState.code : AccordState → BitVec 3
  | .cold => 0 | .acquire => 1 | .locked => 2 | .drydownIn => 3 | .drydownOut => 4 | .freerun => 5 | .safe => 6

/-- PAIR_ROLE code. -/
def PairRole.code : PairRole → BitVec 2
  | .solo => 0 | .active => 1 | .standby => 2 | .safe => 3

/-- LC_STATE code. -/
def LcState.code : LcState → BitVec 3
  | .blank => 0 | .provisioned => 1 | .deployed => 2 | .debug => 3 | .rma => 4 | .scrapped => 5

/-- Boot code. -/
def BootCode.code : BootCode → BitVec 4
  | .ok => 0 | .inProgress => 1 | .tamper => 2 | .fallback => 3 | .noImage => 4 | .rollback => 5

/-- QSTATE code (R107). -/
def QState.code : QState → BitVec 3
  | .disabled => 0 | .absent => 1 | .wait => 2 | .qualified => 3 | .holdoff => 4 | .failed => 5

/-- The kinds of message the SVC block sends (R280, R287, R296 to R300). -/
inductive SvcKind where
  | sync | followUp | delayResp | announce | grant | cancelAck | ntp | nts | nak | kod
deriving DecidableEq, Repr

/-- Status code (R43). -/
def Status.code : Status → Nat
  | .ok => 0 | .accepted => 1 | .badOpcode => 2 | .badLength => 3 | .badParam => 4 | .state => 5 | .denied => 6
  | .busy => 7 | .logFull => 8 | .late => 9 | .authFail => 10 | .aborted => 11 | .noResource => 12

/-- A long-running KEY command that has started (R355): its opcode's low byte, its step's operands. -/
inductive KeyOp where
  | epochUpdate
  | attest (nonce : BitVec 256)
  | provision (ownerDbg : BitVec 256)
  | lcAdvance (target : BitVec 3) (tokenKey : BitVec 264) (r s : BitVec 256)
  | debugEnter (tokenKey : BitVec 264) (r s : BitVec 256)
  | debugExit
deriving DecidableEq, Repr

/-- A notice on the Benit link (R366). -/
inductive PairNotice where
  | safe
  | outBad (target : BitVec 5) (bad : Bool)
  | handover (at_ : BitVec 96)
  | rejoin
deriving DecidableEq, Repr

end Sys2Proof.Machine
end

