-- ==== Sys2Proof/Machine/RegsCore.lean ====
section
/-! DEFINITION. The registers and state of the SYS, CMD, MBX, LOG, FLT, PAIR, KEY, KEEP, MON, CAL and ACD blocks: plain data. -/

namespace Sys2Proof.Machine

/-- One-time fuses, straps and the silicon's own constants. -/
structure Fuse where
  /-- SYS_VARIANT.GNSS_EN (R1,R2); fuse; DESIGN CHOICE 1 (log 3) -/
  gnssEn : Bool
  /-- SYS_VARIANT.TEMP_IND (R1); fuse; DESIGN CHOICE 0 (log 3) -/
  tempInd : Bool
  /-- SYS_VARIANT.SI_REV (R1) -/
  siRev : BitVec 8
  /-- SYS_CHIP_ID (R1) -/
  chipId : BitVec 32
  /-- fused EUI-64 (R316,R332); DESIGN CHOICE 0 (log 3) -/
  eui64 : BitVec 64
  /-- K_PUF (R329); DESIGN CHOICE 0 (log 3) -/
  puf : BitVec 256
  /-- PUF_FAIL condition (R350); DESIGN CHOICE 0 (log 3) -/
  pufFail : Bool
  /-- OTP_SEED bank 0 valid fuse (R329,R339); DESIGN CHOICE 0 (log 3) -/
  seedValid0 : Bool
  /-- OTP_SEED bank 1 valid fuse (R329,R339); DESIGN CHOICE 0 (log 3) -/
  seedValid1 : Bool
  /-- OTP_SEED bank 0 has programmed bits (R339); DESIGN CHOICE 0 (log 3) -/
  seedBits0 : Bool
  /-- OTP_SEED bank 1 has programmed bits (R339); DESIGN CHOICE 0 (log 3) -/
  seedBits1 : Bool
  /-- OTP_SEED (R329); DESIGN CHOICE 0 (log 3) -/
  otpSeed : BitVec 256
  /-- KEY_LC.LC_FUSES, the first fuse of each step's pair (R335); fuse; DESIGN CHOICE 0 (BLANK) (log 3) -/
  lcPairA : BitVec 4
  /-- KEY_LC.LC_FUSES, the second fuse of each step's pair (R335); fuse; DESIGN CHOICE 0 (BLANK) (log 3) -/
  lcPairB : BitVec 4
  /-- KEY_LC.OWNER_DBG_SET (R334); fuse; DESIGN CHOICE 0 (log 3) -/
  ownerDbgSet : Bool
  /-- OWNER_DBG digest (R334); DESIGN CHOICE 0 (log 3) -/
  ownerDbg : BitVec 256
  /-- SVN_FLOOR, the first fuse of each step's pair (R75); fuse; DESIGN CHOICE 0 (log 3) -/
  svnPairA : BitVec 63
  /-- SVN_FLOOR, the second fuse of each step's pair (R75); fuse; DESIGN CHOICE 0 (log 3) -/
  svnPairB : BitVec 63
  /-- OUT_n_PATH.PATH_UNC (R215); fuse; 3 by R215 -/
  pathUnc : Vector (BitVec 24) 16
  /-- OUT_ECHO_CAL (R230); fuse; DESIGN CHOICE 0 (log 3) -/
  echoCalPs : BitVec 16
  /-- ETH_n_RX_CAL, entry 8n + 2 QUAD_MODE + FEC (R239); fuse; DESIGN CHOICE 0 (log 3) -/
  rxCalPs : Vector (BitVec 32) 128
  /-- ETH_n_TX_CAL, entry 8n + 2 QUAD_MODE + FEC (R239); fuse; DESIGN CHOICE 0 (log 3) -/
  txCalPs : Vector (BitVec 32) 128
  /-- I2C_ADDR straps (R37,R425); strap; DESIGN CHOICE 0 (log 3) -/
  i2cAddr : BitVec 2
  /-- PAIR_STATUS.SIDE strap (R372,R425); strap; DESIGN CHOICE 0 (log 3) -/
  pairSide : Bool
  /-- I2C_ADDR balls as the board drives them (R425); DESIGN CHOICE 0 (log 3) -/
  i2cAddrPin : BitVec 2
  /-- PAIR_SIDE ball as the board drives it (R425); DESIGN CHOICE 0 (log 3) -/
  pairSidePin : Bool
deriving DecidableEq, Repr

/-- Fuse right after reset. -/
def Fuse.reset : Fuse where
  gnssEn := true
  tempInd := false
  siRev := 0xA1
  chipId := 0x5A1860A1
  eui64 := 0
  puf := 0
  pufFail := false
  seedValid0 := false
  seedValid1 := false
  seedBits0 := false
  seedBits1 := false
  otpSeed := 0
  lcPairA := 0
  lcPairB := 0
  ownerDbgSet := false
  ownerDbg := 0
  svnPairA := 0
  svnPairB := 0
  pathUnc := Vector.replicate 16 3
  echoCalPs := 0
  rxCalPs := Vector.replicate 128 0
  txCalPs := Vector.replicate 128 0
  i2cAddr := 0
  pairSide := false
  i2cAddrPin := 0
  pairSidePin := false

/-- What PD_VBAT keeps: the calendar, the tamper latch, the tamper enables and the seal. -/
structure Vbat where
  /-- CAL_STATUS.VALID (R401); Latch; DESIGN CHOICE 0 (log 4) -/
  calValid : Bool
  /-- CAL_STATUS.XTAL_OK (R401); Latch; DESIGN CHOICE 1 (log 4) -/
  xtalOk : Bool
  /-- CAL_TIME_0.SUBSEC (R401); Latch; DESIGN CHOICE 0 (log 4) -/
  subsec : BitVec 15
  /-- CAL_TIME_1/2.SECONDS (R401); Latch; DESIGN CHOICE 0 (log 4) -/
  seconds : BitVec 48
  /-- phase of the calendar's count: CLK_CORE ticks into the present crystal count (R401); model's own -/
  calBase : Nat
  /-- CAL_LAST_SYNC (R402); Latch; DESIGN CHOICE 0 (log 4) -/
  lastSyncS : BitVec 48
  /-- CAL_OFFSET (R402) -/
  calOffsetPpb : BitVec 32
  /-- consecutive whole-second syncs (R402); model's own -/
  syncRun : Nat
  /-- deviations of the syncs of the present average (R402); model's own -/
  syncDevs : List Int
  /-- tamper enables held in PD_VBAT (R405) -/
  tamperEn : BitVec 16
  /-- CAL_TAMPER_LATCH.SRC (R350); Latch; DESIGN CHOICE 0 (log 4) -/
  tamperSrc : BitVec 4
  /-- CAL_TAMPER_LATCH.LATCHED (R350,R351); Latch; DESIGN CHOICE 0 (log 4) -/
  latched : Bool
  /-- CAL_TAMPER_TIME (R351); Latch; DESIGN CHOICE 0 (log 4) -/
  tamperTime : BitVec 32
  /-- tamper sources asserted now (R340,R350); DESIGN CHOICE 0 (log 4) -/
  tamperActive : BitVec 16
  /-- SEAL (R329); DESIGN CHOICE 0 (log 4) -/
  sealKey : BitVec 256
deriving DecidableEq, Repr

/-- Vbat right after reset. -/
def Vbat.reset : Vbat where
  calValid := false
  xtalOk := true
  subsec := 0
  seconds := 0
  calBase := 0
  lastSyncS := 0
  calOffsetPpb := 0
  syncRun := 0
  syncDevs := []
  tamperEn := 0x0FF8
  tamperSrc := 0
  latched := false
  tamperTime := 0
  tamperActive := 0
  sealKey := 0

/-- One slot of the chain-head ring of the keep (R320). -/
structure HeadSlot where
  /-- persisted SEQ (R320) -/
  seq : BitVec 48
  /-- persisted HEAD (R320) -/
  head : BitVec 256
  /-- persisted LAST_EXPORTED (R320) -/
  lastExported : BitVec 48
  /-- persisted SEQ of the last CHECKPOINT (R320) -/
  ckSeq : BitVec 48
  /-- ORDERLY (R320) -/
  orderly : Bool
deriving DecidableEq, Repr

/-- HeadSlot right after reset. -/
def HeadSlot.reset : HeadSlot where
  seq := 0
  head := 0
  lastExported := 0
  ckSeq := 0
  orderly := false

/-- One epoch slot of the keep (R347). -/
structure EpochSlot where
  /-- slot CRC good (R347) -/
  valid : Bool
  /-- SEQ (R347) -/
  seq : BitVec 32
  /-- EPOCH (R347) -/
  epoch : BitVec 16
  /-- EPOCH_SALT (R347) -/
  salt : BitVec 256
  /-- SEAL_GEN (R347) -/
  sealGen : BitVec 32
deriving DecidableEq, Repr

/-- EpochSlot right after reset. -/
def EpochSlot.reset : EpochSlot where
  valid := false
  seq := 0
  epoch := 0
  salt := 0
  sealGen := 0

/-- KEEP_REMAP_s. -/
structure Remap where
  /-- KEEP_REMAP_s.ROW (R396) -/
  row : BitVec 10
  /-- KEEP_REMAP_s.FAILED (R396,R399) -/
  failed : Bool
  /-- KEEP_REMAP_s.USED (R396) -/
  used : Bool
deriving DecidableEq, Repr

/-- Remap right after reset. -/
def Remap.reset : Remap where
  row := 0
  failed := false
  used := false

/-- SYS fields kept in the keep. -/
structure SysCfg where
  /-- SYS_DOMAIN_BOOT.BOOT_ON (R71,R91); CSP -/
  bootOn : BitVec 13
  /-- SYS_RUN_CFG.AUTO_RUN (R71); CSP -/
  autoRun : Bool
  /-- SYS_FW_STATUS.NEXT_SLOT (R75); CSP -/
  nextSlot : Bool
deriving DecidableEq, Repr

/-- SysCfg right after reset. -/
def SysCfg.reset : SysCfg where
  bootOn := 0x1FFF
  autoRun := false
  nextSlot := false

/-- The SYS block and the boot ROM. -/
structure Sys where
  /-- SYS_STATE.DEV_STATE (R71) -/
  devState : DevState
  /-- internal cold or chip reset asserted (R66); model's own -/
  inReset : Bool
  /-- POR_N held low (R66); model's own -/
  porLow : Bool
  /-- RESET_N held low (R68); model's own -/
  resetLow : Bool
  /-- rails other than VBAT that are outside their windows (R66,R67); model's own -/
  railsOut : BitVec 7
  /-- tick of the last release from cold or chip reset (R78); model's own -/
  releasedAt : Nat
  /-- tick from which the rails have stayed in their windows (R66); model's own -/
  railWaitFrom : Nat
  /-- the reset in force is cold (straps are sampled again) (R68); model's own -/
  coldReset : Bool
  /-- SYS_STATE.TAMPER_HOLD (R86) -/
  tamperHold : Bool
  /-- LC_STATE DEBUG in force (R335,R337) -/
  debug : Bool
  /-- SYS_STATE.WAKE_SRC (R91) -/
  wakeSrc : BitVec 2
  /-- SYS_STATE.WAKE_ORIGIN (R91) -/
  wakeOrigin : BitVec 4
  /-- a wake is under way (R91); model's own -/
  waking : Bool
  /-- SYS_BOOT_STATUS.CODE (R76,R86); reset 1 IN_PROGRESS -/
  bootCode : BootCode
  /-- SYS_BOOT_STATUS.SLOT (R75) -/
  bootSlot : Bool
  /-- SYS_BOOT_STATUS.SEEDED (R81) -/
  seeded : Bool
  /-- SYS_BOOT_STATUS.LAST_RESET (R69) -/
  lastReset : BitVec 4
  /-- SYS_BOOT_STATUS.TAMPER_SRC (R86) -/
  tamperSrc : BitVec 4
  /-- SYS_BOOT_STATUS.SVN_RUNNING (R75) -/
  svnRunning : BitVec 6
  /-- an image was verified in this boot (R75); model's own -/
  imageOk : Bool
  /-- body hash of the running image (R74,R353); model's own -/
  runHash : BitVec 256
  /-- SYS_DOMAIN_STATUS.ON (R28,R80) -/
  domOn : BitVec 13
  /-- SYS_DOMAIN_STATUS.READY (R80) -/
  domReady : BitVec 13
  /-- domains powering up (R31,R87); model's own -/
  domUp : BitVec 13
  /-- domains powering down (R31,R87); model's own -/
  domDown : BitVec 13
  /-- domains to power up again once they are off (R55,R68); model's own -/
  domAgain : BitVec 13
  /-- lanes have left electrical idle (R79); model's own -/
  lanesActive : Bool
  /-- SYS_FW_STATUS.STAGE_BUSY (R77) -/
  stageBusy : Bool
  /-- SYS_FW_STATUS.SVN_A (R75) -/
  svnA : BitVec 6
  /-- SYS_FW_STATUS.VALID_A (R75) -/
  validA : Bool
  /-- SYS_FW_STATUS.SVN_B (R75) -/
  svnB : BitVec 6
  /-- SYS_FW_STATUS.VALID_B (R75) -/
  validB : Bool
  /-- image A as the flash holds it (R73,R74); DESIGN CHOICE nothing (log 3) -/
  flashA : FwImage
  /-- image B as the flash holds it (R73,R74); DESIGN CHOICE nothing (log 3) -/
  flashB : FwImage
  /-- host address of the running SYS_FW_STAGE (R93); model's own -/
  stageAddr : BitVec 64
  /-- length of the running SYS_FW_STAGE (R93); model's own -/
  stageLen : BitVec 32
  /-- SYS_FW_STAGE_RESULT.VALID (R93) -/
  stageValid : Bool
  /-- SYS_FW_STAGE_RESULT.RESULT (R93) -/
  stageResult : BitVec 3
  /-- SYS_FW_STAGE_RESULT.SEQ (R57) -/
  stageSeq : BitVec 16
  /-- SYS_REFUSED_WRITES (R12,R31) -/
  refusedWrites : BitVec 64
  /-- tick at which PD_TIC began to power down (R80,R199); model's own -/
  ticDownAt : Nat
  /-- what the COMMAND entry of the command under way counts (R199); model's own -/
  note : Nat
  /-- phase set into the digital die's time taps, in 2^-16 ns (R14) -/
  tapPhase : Int
  /-- the warden tap's last value while CLK_CORE is absent (R26); model's own -/
  tapHeld : BitVec 96
  /-- the watchdog has stopped ALIVE (R365); model's own -/
  aliveLow : Bool
  /-- what follows the COMMAND entry of the command under way: 1 the chip reset, 2 the orderly head of SYS_SLEEP (R70,R320); model's own -/
  after : BitVec 2
  /-- PCIe link up (R35,R78); model's own -/
  pcieLink : Bool
deriving DecidableEq, Repr

/-- Sys right after reset. -/
def Sys.reset : Sys where
  devState := .boot
  inReset := false
  porLow := false
  resetLow := false
  railsOut := 0
  releasedAt := 0
  railWaitFrom := 0
  coldReset := true
  tamperHold := false
  debug := false
  wakeSrc := 0
  wakeOrigin := 0
  waking := false
  bootCode := .inProgress
  bootSlot := false
  seeded := false
  lastReset := 0
  tamperSrc := 0
  svnRunning := 0
  imageOk := false
  runHash := 0
  domOn := 0x0003
  domReady := 0x0003
  domUp := 0
  domDown := 0
  domAgain := 0
  lanesActive := false
  stageBusy := false
  svnA := 0
  validA := false
  svnB := 0
  validB := false
  flashA := {}
  flashB := {}
  stageAddr := 0
  stageLen := 0
  stageValid := false
  stageResult := 0
  stageSeq := 0
  refusedWrites := 0
  ticDownAt := 0
  note := 0
  tapPhase := 0
  tapHeld := 0
  aliveLow := false
  after := 0
  pcieLink := false

/-- One mailbox. -/
structure Mbx where
  /-- MBX_n_DATA0-15 (R55) -/
  data : Vector (BitVec 32) 16
  /-- MBX_n_CTRL.FULL (R55) -/
  full : Bool
  /-- MBX_n_CTRL.SENDER (R54); set per R54 -/
  sender : BitVec 4
  /-- MBX_n_CTRL.RECEIVER (R54); set per R54 -/
  receiver : BitVec 4
  /-- MBX_n_CTRL.SEQ (R55) -/
  seq : BitVec 16
  /-- MBX_n_TAKE.SEQ (R55) -/
  takenSeq : BitVec 16
  /-- MBX_n_REFUSED (R55) -/
  refused : BitVec 32
  /-- the message waits for its receiver's domain (R55); model's own -/
  awaiting : Bool
deriving DecidableEq, Repr

/-- Mbx right after reset. -/
def Mbx.reset : Mbx where
  data := Vector.replicate 16 0
  full := false
  sender := 0
  receiver := 0
  seq := 0
  takenSeq := 0
  refused := 0
  awaiting := false

/-- One interrupt group. -/
structure IntGroup where
  /-- CMD_INT_g_STATUS (R60) -/
  status : BitVec 32
  /-- CMD_INT_g_MASK_MSI (R60) -/
  maskMsi : BitVec 32
  /-- CMD_INT_g_PIN_STATUS (R60) -/
  pinStatus : BitVec 32
  /-- CMD_INT_g_MASK_PIN (R60) -/
  maskPin : BitVec 32
  /-- CMD_INT_g_VEC.VEC_LO (R61); 2g -/
  vecLo : BitVec 6
  /-- CMD_INT_g_VEC.VEC_HI (R61); 2g+1 -/
  vecHi : BitVec 6
deriving DecidableEq, Repr

/-- IntGroup right after reset. -/
def IntGroup.reset : IntGroup where
  status := 0
  maskMsi := 0xFFFFFFFF
  pinStatus := 0
  maskPin := 0xFFFFFFFF
  vecLo := 0
  vecHi := 0

/-- One DMA ring. -/
structure Ring where
  /-- DMA_RING_n_BASE_LO (R452) -/
  baseLo : BitVec 32
  /-- DMA_RING_n_BASE_HI (R452) -/
  baseHi : BitVec 32
  /-- DMA_RING_n_CFG.SIZE_LOG2 (R452) -/
  sizeLog2 : BitVec 4
  /-- DMA_RING_n_CFG.ENABLE (R452) -/
  enable : Bool
  /-- DMA_RING_n_PROD (R51) -/
  prod : BitVec 32
  /-- DMA_RING_n_CONS (R51) -/
  cons : BitVec 32
  /-- DMA_RING_n_STATUS.PTR_ERR (R52) -/
  ptrErr : Bool
  /-- DMA_RING_n_STATUS.BUS_ERR (R65) -/
  busErr : Bool
  /-- DMA_RING_n_MOD.HOLD_US (R61) -/
  holdUs : BitVec 16
  /-- DMA_RING_n_MOD.COUNT (R61) -/
  modCount : BitVec 16
  /-- slots written or freed since the ring's last vector message (R61); model's own -/
  modPending : Nat
  /-- the record most recently written to the ring (R51); model's own -/
  last : List (BitVec 32)
  /-- the host address of the slot most recently fetched or written (R51); model's own -/
  lastAt : BitVec 64
  /-- tick at which a device-to-host ring last became full (R65); model's own -/
  fullFrom : Nat
  /-- INT_DMA_RING_STALL raised since then (R65); model's own -/
  stallTold : Bool
  /-- the next slot to be fetched of a host transmit ring (R244); model's own -/
  fetch : BitVec 32
  /-- slots completed ahead of CONS (R244); model's own -/
  doneSlots : List (BitVec 32)
deriving DecidableEq, Repr

/-- Ring right after reset. -/
def Ring.reset : Ring where
  baseLo := 0
  baseHi := 0
  sizeLog2 := 4
  enable := false
  prod := 0
  cons := 0
  ptrErr := false
  busErr := false
  holdUs := 0
  modCount := 1
  modPending := 0
  last := []
  lastAt := 0
  fullFrom := 0
  stallTold := false
  fetch := 0
  doneSlots := []

/-- A reply, held until it is delivered (R40). -/
structure Reply where
  /-- STATUS (R40) -/
  status : BitVec 16
  /-- LEN (R40) -/
  len : BitVec 16
  /-- TAG (R40) -/
  tag : BitVec 16
  /-- KIND (R40) -/
  kind : BitVec 4
  /-- ORIGIN (R40) -/
  origin : BitVec 4
  /-- SOURCE (R40) -/
  source : BitVec 8
  /-- TIME (R40) -/
  time : BitVec 96
  /-- EB (R40) -/
  eb : BitVec 24
  /-- FLAGS (R40) -/
  flags : BitVec 8
  /-- OPCODE (R40) -/
  opcode : BitVec 16
  /-- LOG_SEQ (R40) -/
  logSeq : BitVec 32
  /-- payload words (R40) -/
  payload : List (BitVec 32)
  /-- delivery frees a scheduled-queue entry (R47); model's own -/
  frees : Bool
deriving DecidableEq, Repr

/-- Reply right after reset. -/
def Reply.reset : Reply where
  status := 0
  len := 0
  tag := 0
  kind := 0
  origin := 0
  source := 0
  time := 0
  eb := 0
  flags := 0
  opcode := 0
  logSeq := 0
  payload := []
  frees := false

/-- One waiting entry of the scheduled queue (R47). -/
structure SchedEntry where
  /-- OPCODE (R47) -/
  opcode : BitVec 16
  /-- the packet (R47) -/
  pkt : Packet
deriving DecidableEq, Repr

/-- SchedEntry right after reset. -/
def SchedEntry.reset : SchedEntry where
  opcode := 0
  pkt := {}

/-- A shadow private to one reading master (R58, R59, R101). -/
structure Shadow where
  /-- reading master (R58) -/
  master : BitVec 4
  /-- BAR0 address of the register whose read latched it (R58) -/
  addr : BitVec 32
  /-- the latched words (R58,R59,R101) -/
  words : List (BitVec 32)
deriving DecidableEq, Repr

/-- Shadow right after reset. -/
def Shadow.reset : Shadow where
  master := 0
  addr := 0
  words := []

/-- Mailbox n with its sender and receiver (R54). -/
def Mbx.at (n : Nat) : Mbx :=
  let sr := match n with
    | 0 => (0, 3) | 1 => (1, 3) | 2 => (2, 3) | 3 => (3, 0) | 4 => (3, 1) | 5 => (3, 2) | 6 => (14, 3)
    | _ => (0, 4)
  { Mbx.reset with sender := BitVec.ofNat 4 sr.1, receiver := BitVec.ofNat 4 sr.2 }

/-- One entry of the MSI-X table in BAR2 (R35). -/
structure Msix where
  /-- Message Address (R35); PRESUMED 0 (PCIe, log 73) -/
  addr : BitVec 64
  /-- Message Data (R35); PRESUMED 0 (PCIe, log 73) -/
  data : BitVec 32
  /-- Vector Control, Mask Bit (R35,R61); PRESUMED 1 (PCIe, log 73) -/
  masked : Bool
deriving DecidableEq, Repr

/-- Msix right after reset. -/
def Msix.reset : Msix where
  addr := 0
  data := 0
  masked := true

/-- The command processor, mailboxes, semaphores, rings and interrupt aggregator. -/
structure Cmd where
  /-- scheduled-command queue, oldest first (R47) -/
  sched : List SchedEntry
  /-- replies held for delivery, oldest first (R47,R52) -/
  replies : List Reply
  /-- CMD_STATUS.STALL0/1 (R52) -/
  stall : BitVec 2
  /-- CMD_REPLY_DROP (R35) -/
  replyDrop : BitVec 32
  /-- CMD_STAT_n (R43) -/
  stat : Vector (BitVec 64) 13
  /-- CMD_INT_g_* (R60,R61) -/
  groups : Vector IntGroup 16
  /-- the tick that CMD_INT_g_RAW shows: the last at which a source was raised (R60); model's own -/
  irqTick : Nat
  /-- CMD_INT_g_RAW: the sources raised at that tick (R60) -/
  irqNow : Vector (BitVec 32) 16
  /-- messages each MSI-X vector has sent (R61); model's own -/
  msiSent : Vector Nat 64
  /-- MSI-X Enable of the PCIe function (R61); PRESUMED 0 (PCIe, log 73) -/
  msixEn : Bool
  /-- Function Mask of the PCIe function (R61); PRESUMED 0 (PCIe, log 73) -/
  msixMask : Bool
  /-- MSI-X table (R35,R61) -/
  msix : Vector Msix 64
  /-- MSI-X pending-bit array (R35,R61); PRESUMED 0 (PCIe, log 73) -/
  pba : BitVec 64
  /-- DMA rings (R33,R51) -/
  rings : Vector Ring 64
  /-- mailboxes (R54,R55) -/
  mbx : Vector Mbx 8
  /-- MBX_SEM_s: its holder, none when free (R56) -/
  sems : Vector (Option (BitVec 4)) 32
  /-- the last tick at which a semaphore changed (R56); model's own -/
  semTick : Nat
  /-- the semaphores as they stood at the start of that tick (R56); model's own -/
  semWas : Vector (Option (BitVec 4)) 32
  /-- MBX_SEM_CFG.LOG (R56) -/
  semLog : BitVec 32
  /-- the word that the last register read of a row returned (R31,R55,R56,R58,R59); model's own -/
  readWord : BitVec 32
  /-- the words that the last access of more than one word returned, in order (R30,R36,R37); model's own -/
  readWords : List (BitVec 32)
  /-- read shadows (R58,R59,R101) -/
  shadows : List Shadow
deriving DecidableEq, Repr

/-- Cmd right after reset. -/
def Cmd.reset : Cmd where
  sched := []
  replies := []
  stall := 0
  replyDrop := 0
  stat := Vector.replicate 13 0
  groups := Vector.ofFn fun g => { IntGroup.reset with vecLo := BitVec.ofNat 6 (2 * g.val), vecHi := BitVec.ofNat 6 (2 * g.val + 1) }
  irqTick := 0
  irqNow := Vector.replicate 16 0
  msiSent := Vector.replicate 64 0
  msixEn := false
  msixMask := false
  msix := Vector.replicate 64 Msix.reset
  pba := 0
  rings := Vector.replicate 64 Ring.reset
  mbx := Vector.ofFn fun n => Mbx.at n.val
  sems := Vector.replicate 32 none
  semTick := 0
  semWas := Vector.replicate 32 none
  semLog := 0
  readWord := 0
  readWords := []
  shadows := []

/-- LOG fields kept in the keep. -/
structure LogCfg where
  /-- LOG_EXPORT_CFG.HIGH_PCT (R325); CSP -/
  highPct : BitVec 7
  /-- LOG_EXPORT_CFG.CK_MIRROR (R323); CSP -/
  ckMirror : Bool
deriving DecidableEq, Repr

/-- LogCfg right after reset. -/
def LogCfg.reset : LogCfg where
  highPct := 75
  ckMirror := false

/-- One entry of the sillage log (R314). -/
structure LogEntry where
  /-- SEQ (R314) -/
  seq : BitVec 48
  /-- TYPE (R314) -/
  typ : BitVec 8
  /-- ORIGIN (R314) -/
  origin : BitVec 4
  /-- SUB or LANE (R314) -/
  sub : BitVec 4
  /-- words 2-5: TIME, EB, FLAGS, or the label form (R314) -/
  mid : List (BitVec 32)
  /-- words 6-15 (R314) -/
  payload : List (BitVec 32)
deriving DecidableEq, Repr

/-- LogEntry right after reset. -/
def LogEntry.reset : LogEntry where
  seq := 0
  typ := 0
  origin := 0
  sub := 0
  mid := []
  payload := []

/-- The LOG engine. -/
structure Log where
  /-- the last whole accord second whose arrival it has met (R318); model's own -/
  lastSec : Option Nat
  /-- LOG_STATUS.LEVEL (R325) -/
  level : BitVec 3
  /-- LOG_STATUS.FALLBACK (R325,R326) -/
  fallback : Bool
  /-- LOG_STATUS.SIGNING (R318) -/
  signing : Bool
  /-- the signature in progress is of a FORCED checkpoint (R318); model's own -/
  forcedSig : Bool
  /-- the head waits to be persisted ORDERLY behind the power-fail warning's checkpoint, not yet written (R322); model's own -/
  pfWant : Bool
  /-- the signature in progress is of the power-fail warning's checkpoint, and the head is persisted ORDERLY after it (R322); model's own -/
  pfSig : Bool
  /-- entries a running replay has yet to carry; LOG_STATUS.REPLAY while not empty (R323,R327) -/
  replay : List LogEntry
  /-- LOG_STATUS.KEY_EPOCH (R319) -/
  keyEpoch : BitVec 16
  /-- an LSK is installed; LOG_STATUS.UNSIGNED is its negation (R319) -/
  lskOn : Bool
  /-- INT_LOG_UNSIGNED raised in this period (R319); model's own -/
  unsignedTold : Bool
  /-- held entries in SEQ order; LOG_HELD is its length (R323) -/
  held : List LogEntry
  /-- manifest slots waiting for ring 6; LOG_MANIFEST is 64 bytes each (R323,R324) -/
  manifest : List (List (BitVec 32))
  /-- copies waiting for ring 7 (R323); model's own -/
  mirror : List LogEntry
  /-- LOG_HEAD/LOG_HEAD_HI: SEQ of the last entry (R317) -/
  seq : BitVec 48
  /-- an entry has been written since reset (R317); model's own -/
  any : Bool
  /-- LOG_HEAD_HASH (R317) -/
  head : BitVec 256
  /-- the GENESIS entry of this boot has been written to ring 4 (R323); model's own -/
  genesisOut : Bool
  /-- LOG_CK_SEQ (R318) -/
  ckSeq : BitVec 48
  /-- the last CHECKPOINT, SIG_R and SIG_S (R327) -/
  lastCk : List LogEntry
  /-- LOG_EXPORTED (R323) -/
  lastExported : BitVec 48
  /-- LOG_ACKED (R324) -/
  acked : BitVec 48
  /-- the highest SEQ a LOG_EXPORT_ACK has named (R324); model's own -/
  ackReq : BitVec 48
  /-- LOG_REPLAY_FROM (R327) -/
  replayFrom : BitVec 48
  /-- LOG_REFUSED (R325) -/
  refused : BitVec 64
  /-- LOG_UNENTERED (R325) -/
  unentered : BitVec 64
  /-- LOG_MIRROR_SKIP (R323) -/
  mirrorSkip : BitVec 32
  /-- entries waiting behind a signature, at most 256 (R318) -/
  waitQ : List LogEntry
  /-- entries not entered since the last GAP entry (R325,R326); model's own -/
  gapCount : Nat
  /-- TIME of the first of them (R325); model's own -/
  gapFirst : BitVec 96
  /-- commands refused LOG_FULL since the last GAP entry (R316); model's own -/
  gapRefused : BitVec 32
  /-- LOG_FULL refusals since the last FILL entry (R316); model's own -/
  fillRefused : BitVec 32
  /-- entries since the previous CHECKPOINT (R318); model's own -/
  sinceCk : Nat
  /-- a checkpoint waits to be written (R318,R325); model's own -/
  ckWait : Bool
  /-- the waiting checkpoint is FORCED (R318); model's own -/
  ckWaitForced : Bool
  /-- a head slot of this accord second is written (R320); model's own -/
  persistedThisSec : Bool
  /-- a TAMPER entry waiting for a slot (R325); model's own -/
  tamperWait : Option LogEntry
  /-- lanes suspended since the last GAP entry (R316); model's own -/
  lanesSusp : BitVec 16
deriving DecidableEq, Repr

/-- Log right after reset. -/
def Log.reset : Log where
  lastSec := none
  level := 0
  fallback := false
  signing := false
  forcedSig := false
  pfWant := false
  pfSig := false
  replay := []
  keyEpoch := 0
  lskOn := false
  unsignedTold := false
  held := []
  manifest := []
  mirror := []
  seq := 0
  any := false
  head := 0
  genesisOut := false
  ckSeq := 0
  lastCk := []
  lastExported := 0
  acked := 0
  ackReq := 0
  replayFrom := 0
  refused := 0
  unentered := 0
  mirrorSkip := 0
  waitQ := []
  gapCount := 0
  gapFirst := 0
  gapRefused := 0
  fillRefused := 0
  sinceCk := 0
  ckWait := false
  ckWaitForced := false
  persistedThisSec := false
  tamperWait := none
  lanesSusp := 0

/-- The default class of fault source `s` (R358): 2 A, 1 B, 0 C. -/
def faultClassOf (s : Nat) : Nat :=
  if s ≤ 9 then 2
  else if s = 32 ∨ s = 64 ∨ s = 65 ∨ s = 97 ∨ s = 160 ∨ s = 161 ∨ (192 ≤ s ∧ s ≤ 203) ∨ (205 ≤ s ∧ s ≤ 211) ∨
    (214 ≤ s ∧ s ≤ 217) ∨ (224 ≤ s ∧ s ≤ 228) then 1
  else 0

/-- The default classes of all sources, two bits a source (R358, R360). -/
def faultClassDefault : BitVec 512 :=
  (List.range 256).foldl (fun a s => a ||| (BitVec.ofNat 512 (faultClassOf s) <<< (2 * s))) 0

/-- FLT fields kept in the keep. -/
structure FltCfg where
  /-- FLT_CLASS_j.CLASS, two bits a source (R358,R360); CSP -/
  classes : BitVec 512
deriving DecidableEq, Repr

/-- FltCfg right after reset. -/
def FltCfg.reset : FltCfg where
  classes := faultClassDefault

/-- The fault collector. -/
structure Flt where
  /-- FLT_STATUS.SAFE (R363) -/
  safe : Bool
  /-- FLT_STATUS.SELF (R361) -/
  selfFail : Bool
  /-- FLT_STATUS.FIRST_A (R363) -/
  firstA : BitVec 8
  /-- FLT_STATUS.SAFE_SEQ (R363) -/
  safeSeq : BitVec 16
  /-- FLT_TAP_ID (R358) -/
  tapId : BitVec 8
  /-- FLT_SAFE_AT (R363) -/
  safeAt : BitVec 96
  /-- FLT_SAFE_EB.EB (R363) -/
  safeEb : BitVec 24
  /-- FLT_SAFE_EB.FLAGS (R363) -/
  safeFlags : BitVec 8
  /-- FLT_LATCH_i (R359) -/
  latch : BitVec 256
  /-- sources latched with class A (R360); model's own -/
  latchA : BitVec 256
  /-- FLT_PRESENT_i (R359) -/
  present : BitVec 256
  /-- FLT_COUNT_s (R357) -/
  counts : Vector (BitVec 32) 256
  /-- a class A source asserted at the present tick (R364); model's own -/
  freshA : Bool
  /-- the tick of that assertion (R364); model's own -/
  freshTick : Nat
  /-- sources present just before that tick's first class A assertion (R364); model's own -/
  presentBefore : BitVec 256
deriving DecidableEq, Repr

/-- Flt right after reset. -/
def Flt.reset : Flt where
  safe := false
  selfFail := false
  firstA := 0
  safeSeq := 0
  tapId := 0xFF
  safeAt := 0
  safeEb := 0xFFFFFF
  safeFlags := 1
  latch := 0
  latchA := 0
  present := 0
  counts := Vector.replicate 256 0
  freshA := false
  freshTick := 0
  presentBefore := 0

/-- KEEP fields kept in the keep. -/
structure KeepCfg where
  /-- KEEP_SCRUB_CFG.SCRUB_H (R399); CSP -/
  scrubH : BitVec 8
deriving DecidableEq, Repr

/-- KeepCfg right after reset. -/
def KeepCfg.reset : KeepCfg where
  scrubH := 24

/-- CAL fields kept in the keep. -/
structure CalCfg where
  /-- CAL_EB_CFG (R403); CSP -/
  calEbMs : BitVec 16
  /-- CAL_DRIFT (R403); CSP -/
  calDriftPpb : BitVec 20
  /-- CAL_TRIM.TRIM_PPB (R402); CSP -/
  trimPpb : BitVec 24
  /-- CAL_TRIM.AUTO_TRIM (R402); CSP -/
  autoTrim : Bool
  /-- CAL_TAMPER_EN.EN (R405); CSP -/
  tamperEn : BitVec 16
  /-- CAL_TAMPER_EN.TAMP_POL (R405); CSP -/
  tampPol : BitVec 2
  /-- CAL_TAMPER_FILT (R405); CSP -/
  tampFilterUs : BitVec 10
deriving DecidableEq, Repr

/-- CalCfg right after reset. -/
def CalCfg.reset : CalCfg where
  calEbMs := 2000
  calDriftPpb := 50000
  trimPpb := 0
  autoTrim := false
  tamperEn := 0x0FF8
  tampPol := 0
  tampFilterUs := 10

/-- MON_SUP_r_LIM. -/
structure SupLim where
  /-- MON_SUP_r_LIM.LOW_MV (R386); CSP, default per R386 -/
  lowMv : BitVec 16
  /-- MON_SUP_r_LIM.HIGH_MV (R386); CSP, default per R386 -/
  highMv : BitVec 16
deriving DecidableEq, Repr

/-- SupLim right after reset. -/
def SupLim.reset : SupLim where
  lowMv := 0
  highMv := 0

/-- The default supply limits (R386). -/
def monSupDefault : Vector SupLim 8 :=
  #v[⟨720, 780⟩, ⟨770, 830⟩, ⟨1150, 1250⟩, ⟨865, 935⟩, ⟨1150, 1250⟩, ⟨1730, 1870⟩, ⟨3160, 3440⟩, ⟨2200, 3600⟩]

/-- The default temperature limits, in 0.01 degrees (R387). -/
def monTempDefault : Vector (BitVec 16) 6 := #v[10500, 10500, 11000, 11000, 8500, 8500]

/-- MON fields kept in the keep. -/
structure MonCfg where
  /-- MON_SUP_r_LIM (R386); CSP -/
  sup : Vector SupLim 8
  /-- MON_TEMP_c_LIM.HIGH (R387); CSP -/
  tempHigh : Vector (BitVec 16) 6
  /-- MON_MAINS_CFG.MAINS_EN (R390); CSP -/
  mainsEn : Bool
  /-- MON_MAINS_CFG.PFW_PIN_EN (R390); CSP -/
  pfwPinEn : Bool
  /-- MON_MAINS_CFG.PFW_GAP_MS (R390); CSP -/
  pfwGapMs : BitVec 8
  /-- MON_MAINS_CFG.PFW_CLEAR_MS (R390); CSP -/
  pfwClearMs : BitVec 16
  /-- MON_MAINS_LEVELS.PFW_LOW_V (R390); CSP -/
  pfwLowV : BitVec 16
  /-- MON_MAINS_LEVELS.PFW_CLEAR_V (R390); CSP -/
  pfwClearV : BitVec 16
  /-- MON_MAINS_SCALE.FS_V (R389); CSP -/
  fsV : BitVec 16
  /-- MON_MAINS_DELAY (R389); CSP -/
  mainsDelayNs : BitVec 32
  /-- MON_MAINS_DUNC (R389); CSP -/
  mainsDunc : BitVec 24
deriving DecidableEq, Repr

/-- MonCfg right after reset. -/
def MonCfg.reset : MonCfg where
  sup := monSupDefault
  tempHigh := monTempDefault
  mainsEn := true
  pfwPinEn := true
  pfwGapMs := 25
  pfwClearMs := 200
  pfwLowV := 70
  pfwClearV := 80
  fsV := 400
  mainsDelayNs := 0
  mainsDunc := 0xFFFFFF

/-- The monitors. -/
structure Mon where
  /-- MON_SUP_r.MV (R386) -/
  supMv : Vector (BitVec 16) 8
  /-- rail r's last reading lay outside its limits (R386); model's own -/
  supOut : BitVec 8
  /-- tick from which rail r has stayed on that side (R386); model's own -/
  supSince : Vector Nat 8
  /-- MON_STATUS.SUP_WARN (R386) -/
  supWarn : BitVec 8
  /-- MON_STATUS.VBAT_LOW (R386) -/
  vbatLow : Bool
  /-- MON_TEMP_c.T (R387) -/
  temp : Vector (BitVec 16) 6
  /-- MON_TEMP_c.VALID (R388) -/
  tempValid : BitVec 6
  /-- MON_STATUS.TEMP_WARN (R407) -/
  tempWarn : BitVec 6
  /-- MON_STATUS.PFW (R390) -/
  pfw : Bool
  /-- MON_STATUS.PFW_PIN (R390) -/
  pfwPin : Bool
  /-- MON_STATUS.MAINS_PRESENT (R389) -/
  mainsPresent : Bool
  /-- MON_STATUS.MAINS_RANGE (R389) -/
  mainsRange : Bool
  /-- positive-going crossings since the last absence, at most 2 (R389); model's own -/
  crossings : Nat
  /-- tick of the last positive-going crossing (R389); model's own -/
  lastCross : Nat
  /-- the last half-cycle read below PFW_LOW_V (R390); model's own -/
  lowRms : Bool
  /-- PFW_GAP_MS has passed without a positive-going crossing (R390); model's own -/
  gapOut : Bool
  /-- the RMS condition of clearing is met (R390); model's own -/
  rmsClear : Bool
  /-- tick from which both clearing conditions have held (R390); model's own -/
  clearSince : Nat
  /-- RMS below 85 V, RMS above 265 V, frequency outside 45 to 66 Hz: now (R389); model's own -/
  rangeBad : BitVec 3
  /-- tick from which each has been so (R389); model's own -/
  rangeSince : Vector Nat 3
  /-- RMS of the last half-cycle, in 0.1 V (R389); model's own -/
  halfRms : BitVec 16
  /-- RMS of the half-cycle before it (R389,R391); model's own -/
  halfPrev : BitVec 16
  /-- the last positive-going crossing, in 2^-16 ns of the tick scale (R389); model's own -/
  crossAt : Nat
  /-- MON_MAINS_RMS (R389) -/
  rmsDv : BitVec 16
  /-- MON_MAINS_FREQ (R389) -/
  freqMhz : BitVec 32
  /-- mains cycle queue, at most 256 records (R391) -/
  queue : List (List (BitVec 32))
  /-- MON_MAINS_POP.CYCLE_SEQ (R391) -/
  cycleSeq : BitVec 16
  /-- MON_MAINS_LOST (R391) -/
  lost : BitVec 32
  /-- MON_PFW_AT (R390) -/
  pfwAt : BitVec 96
  /-- MON_PFW_EB.EB (R390) -/
  pfwEb : BitVec 24
  /-- MON_PFW_EB.FLAGS (R390) -/
  pfwFlags : BitVec 8
  /-- MON_PFW_COUNT (R390) -/
  pfwCount : BitVec 32
  /-- MON_SPARES.TIC_FREE (R400) -/
  ticFree : BitVec 4
  /-- MON_SPARES.GNSS_FREE (R400) -/
  gnssFree : BitVec 4
deriving DecidableEq, Repr

/-- Mon right after reset. -/
def Mon.reset : Mon where
  supMv := Vector.replicate 8 0
  supOut := 0
  supSince := Vector.replicate 8 0
  supWarn := 0
  vbatLow := false
  temp := Vector.replicate 6 0
  tempValid := 0
  tempWarn := 0
  pfw := false
  pfwPin := false
  mainsPresent := false
  mainsRange := false
  crossings := 0
  lastCross := 0
  lowRms := false
  gapOut := false
  rmsClear := false
  clearSince := 0
  rangeBad := 0
  rangeSince := Vector.replicate 3 0
  halfRms := 0
  halfPrev := 0
  crossAt := 0
  rmsDv := 0
  freqMhz := 0
  queue := []
  cycleSeq := 0
  lost := 0
  pfwAt := 0
  pfwEb := 0xFFFFFF
  pfwFlags := 1
  pfwCount := 0
  ticFree := 0
  gnssFree := 0

/-- One key slot (R341). -/
structure KeySlot where
  /-- KEY_SLOT_k_STATE.STATE (R341) -/
  loaded : Bool
  /-- KEY_SLOT_k_STATE.USAGE (R341) -/
  usage : BitVec 4
  /-- KEY_SLOT_k_STATE.ALG (R341) -/
  alg : BitVec 4
  /-- KEY_SLOT_k_STATE.TEST (R341) -/
  test : Bool
  /-- KEY_SLOT_k_STATE.PREV (R341) -/
  prev : Bool
  /-- KEY_SLOT_k_STATE.EXPORTABLE (R341) -/
  exportable : Bool
  /-- KEY_SLOT_k_STATE.LOAD_SEQ (R341) -/
  loadSeq : BitVec 16
  /-- KEY_SLOT_k_LABEL (R341) -/
  labelId : BitVec 32
  /-- KEY_SLOT_k_EPOCH (R341) -/
  epoch : BitVec 16
  /-- KEY_SLOT_k_FPRINT (R341) -/
  fprint : BitVec 64
  /-- the key, first byte in bits [7:0] (R341) -/
  key : BitVec 256
deriving DecidableEq, Repr

/-- KeySlot right after reset. -/
def KeySlot.reset : KeySlot where
  loaded := false
  usage := 0
  alg := 0
  test := false
  prev := false
  exportable := false
  loadSeq := 0
  labelId := 0
  epoch := 0
  fprint := 0
  key := 0

/-- The KEY block: root unit and slot unit. -/
structure Key where
  /-- KEY_STATUS.UNSEALED (R330) -/
  unsealed : Bool
  /-- UDS and AK are derived (R330,R351); model's own -/
  udsOk : Bool
  /-- KR (R332) -/
  kr : BitVec 256
  /-- KT (R332) -/
  kt : BitVec 256
  /-- UDS (R332) -/
  uds : BitVec 256
  /-- KEK of the current epoch (R332) -/
  kek : BitVec 256
  /-- KEK of the previous epoch (R332,R347) -/
  kekPrev : BitVec 256
  /-- LSK key material (R332,R333) -/
  lsk : BitVec 384
  /-- AK key material (R332,R333) -/
  ak : BitVec 384
  /-- compressed public key of the installed LSK (R353) -/
  lskPub : BitVec 264
  /-- KEY_AK_PUB (R354) -/
  akPub : BitVec 264
  /-- the running long-running KEY command; KEY_STATUS.BUSY (R355) -/
  busyOp : Option KeyOp
  /-- KEY_STATUS.PFW_BLOCK (R349) -/
  pfwBlock : Bool
  /-- KEY_STATUS.PREV_VALID (R347) -/
  prevValid : Bool
  /-- KEY_EPOCH.EPOCH (R347) -/
  epoch : BitVec 16
  /-- KEY_EPOCH.EPOCH_PREV (R347) -/
  epochPrev : BitVec 16
  /-- KEY_SEAL.SEAL_OK (R330) -/
  sealOk : Bool
  /-- KEY_RESULT.VALID (R57) -/
  resValid : Bool
  /-- KEY_RESULT.STATUS (R355) -/
  resStatus : BitVec 4
  /-- KEY_RESULT.OP (R355) -/
  resOp : BitVec 8
  /-- KEY_RESULT.SEQ (R57) -/
  resSeq : BitVec 16
  /-- KEY_TAMPER.LAST_SRC (R350); Latch; DESIGN CHOICE 0 (log 4) -/
  lastSrc : BitVec 4
  /-- KEY_CHALLENGE (R334); DRBG; DESIGN CHOICE 0 (log 4) -/
  challenge : BitVec 128
  /-- KEY_ATTEST_OUT.VALID (R57) -/
  attValid : Bool
  /-- KEY_ATTEST_OUT.SEQ (R57) -/
  attSeq : BitVec 16
  /-- KEY_ATTEST_OUT_DATA (R353) -/
  attData : List (BitVec 32)
  /-- key slots (R341) -/
  slots : Vector KeySlot 64
deriving DecidableEq, Repr

/-- Key right after reset. -/
def Key.reset : Key where
  unsealed := false
  udsOk := false
  kr := 0
  kt := 0
  uds := 0
  kek := 0
  kekPrev := 0
  lsk := 0
  ak := 0
  lskPub := 0
  akPub := 0
  busyOp := none
  pfwBlock := false
  prevValid := false
  epoch := 0
  epochPrev := 0
  sealOk := false
  resValid := false
  resStatus := 0
  resOp := 0
  resSeq := 0
  lastSrc := 0
  challenge := 0
  attValid := false
  attSeq := 0
  attData := []
  slots := Vector.replicate 64 KeySlot.reset

/-- PAIR_CMP_e_CFG and PAIR_CMP_e_SKEW. -/
structure PairCmpCfg where
  /-- PAIR_CMP_e_CFG.EN (R376); CSP -/
  en : Bool
  /-- PAIR_CMP_e_CFG.TARGET (R376); CSP -/
  target : BitVec 5
  /-- PAIR_CMP_e_CFG.CHANNEL (R376); CSP -/
  channel : BitVec 5
  /-- PAIR_CMP_e_SKEW (R376); CSP -/
  netSkewPs : BitVec 32
deriving DecidableEq, Repr

/-- PairCmpCfg right after reset. -/
def PairCmpCfg.reset : PairCmpCfg where
  en := false
  target := 0
  channel := 0
  netSkewPs := 0

/-- PAIR fields kept in the keep. -/
structure PairCfg where
  /-- PAIR_CFG.MODE (R375); CSP -/
  mode : Bool
  /-- PAIR_CFG.PREF (R370); CSP -/
  pref : BitVec 4
  /-- PAIR_CFG.MATCH (R378); CSP -/
  matchOn : Bool
  /-- PAIR_HOLD.HEALTH_HOLD_MS (R371); CSP -/
  healthHoldMs : BitVec 16
  /-- PAIR_HOLD.LINK_WAIT_MS (R372); CSP -/
  linkWaitMs : BitVec 16
  /-- PAIR_EB_MAX (R371); CSP -/
  ebMaxNs : BitVec 18
  /-- PAIR_ASYM (R367); CSP -/
  asymPs : BitVec 32
  /-- PAIR_CMP_GLOBAL.COMPARE_PS (R377); CSP -/
  comparePs : BitVec 14
  /-- PAIR_CMP_GLOBAL.COMPARE_N (R377); CSP -/
  compareN : BitVec 4
  /-- PAIR_TIE (R377); CSP -/
  tiePs : BitVec 17
  /-- comparison entries (R376); CSP -/
  cmp : Vector PairCmpCfg 8
deriving DecidableEq, Repr

/-- PairCfg right after reset. -/
def PairCfg.reset : PairCfg where
  mode := false
  pref := 8
  matchOn := true
  healthHoldMs := 1000
  linkWaitMs := 100
  ebMaxNs := 1000
  asymPs := 0
  comparePs := 200
  compareN := 3
  tiePs := 200
  cmp := Vector.replicate 8 PairCmpCfg.reset

/-- A comparison entry at work (R377). -/
structure PairCmp where
  /-- PAIR_CMP_e_STATUS.PASS (R377) -/
  pass : Bool
  /-- PAIR_CMP_e_STATUS.FAIL (R377) -/
  fail : Bool
  /-- PAIR_CMP_e_STATUS.AMBIG (R377) -/
  ambig : Bool
  /-- PAIR_CMP_e_STATUS.SELF (R377) -/
  selfDrv : Bool
  /-- PAIR_CMP_e_STATUS.RUN (R377) -/
  run : BitVec 4
  /-- the outcome RUN counts: 1 windows that pass (R377); model's own -/
  runPass : Bool
  /-- PAIR_CMP_e_STATUS.EDGES (R377) -/
  edges : BitVec 16
  /-- PAIR_CMP_e_MEAN (R377) -/
  meanPs : BitVec 32
  /-- PAIR_CMP_e_TRIM (R378) -/
  trimPs : BitVec 32
  /-- the stamps taken and not yet evaluated, in 2^-16 ns of accord time (R377); model's own -/
  stamps : List Int
  /-- the accord's last 1 ms boundary at which a window was evaluated (R377); model's own -/
  lastMs : Option Nat
  /-- the entry's converter failed its standby test and is not yet replaced (R379); model's own -/
  calBad : Bool
deriving DecidableEq, Repr

/-- PairCmp right after reset. -/
def PairCmp.reset : PairCmp where
  pass := false
  fail := false
  ambig := false
  selfDrv := false
  run := 0
  runPass := false
  edges := 0
  meanPs := 0
  trimPs := 0
  stamps := []
  lastMs := none
  calBad := false

/-- The PAIR block. -/
structure Pair where
  /-- PAIR_STATUS.ROLE (R375) -/
  role : PairRole
  /-- PAIR_STATUS.LINK_UP (R366) -/
  linkUp : Bool
  /-- PAIR_STATUS.LANE0_UP, LANE1_UP (R366) -/
  lanesUp : BitVec 2
  /-- PAIR_STATUS.SIDE_CONFLICT (R372) -/
  sideConflict : Bool
  /-- PAIR_STATUS.REJOIN_ARMED (R382) -/
  rejoinArmed : Bool
  /-- PAIR_STATUS.HANDOVER_PENDING (R381) -/
  handoverPending : Bool
  /-- HANDOVER_AT of the pending handover (R381); model's own -/
  handoverAt : BitVec 96
  /-- the partner's HANDOVER notice stands (R381); model's own -/
  handoverIn : Bool
  /-- PAIR_CLAIM.CLAIM (R370) -/
  claim : BitVec 13
  /-- PAIR_CLAIM.PEER_CLAIM (R370) -/
  peerClaim : BitVec 13
  /-- PAIR_HEALTH.HEALTH (R371) -/
  health : BitVec 6
  /-- PAIR_HEALTH.RAW (R371) -/
  raw : BitVec 6
  /-- tick from which each condition has held (R371); model's own -/
  rawSince : Vector Nat 6
  /-- the chip has first claimed, or rejoined (R372,R382); model's own -/
  started : Bool
  /-- tick at which PD_PAIR last became ready (R372); model's own -/
  readyTick : Nat
  /-- INCUMBENT (R370) -/
  incumbent : Bool
  /-- OWN lease held (R374) -/
  own : Bool
  /-- end of the last round this chip won (R374); model's own -/
  leaseTick : Nat
  /-- end of the last round the partner won (R374); model's own -/
  peerWonTick : Nat
  /-- a claim round is under way (R373); model's own -/
  inRound : Bool
  /-- tick of the round's SOF edge (R373); model's own -/
  roundTick : Nat
  /-- the claim sent in the round under way (R373); model's own -/
  roundClaim : BitVec 13
  /-- a handover instant H is due (R374); model's own -/
  hPending : Bool
  /-- the tick of H (R374); model's own -/
  hTick : Nat
  /-- at H this chip gains OWN (R374); model's own -/
  hGain : Bool
  /-- the partner was SAFE or silent (R374); model's own -/
  hFailover : Bool
  /-- a SAFE notice of the partner stands (R366,R374); model's own -/
  peerSafe : Bool
  /-- targets against which an OUT_BAD report of the partner stands (R371,R377); model's own -/
  outBad : BitVec 20
  /-- OUT_BAD notices sent and not withdrawn (R377); model's own -/
  outBadSent : BitVec 20
  /-- consecutive failures of the claim line test (R379); model's own -/
  lineFails : Nat
  /-- the claim line test has failed (R379); model's own -/
  claimTestBad : Bool
  /-- tick of the last falling edge on CLAIM_N (R375); model's own -/
  lineEdgeTick : Nat
  /-- a falling edge on CLAIM_N has been seen since reset (R375); model's own -/
  lineEdgeSeen : Bool
  /-- consecutive frames with a differing CFG_DIGEST (R369); model's own -/
  cfgDiffer : Nat
  /-- the partner's SIDE, once seen (R372); model's own -/
  peerSide : Option Bool
  /-- PAIR_X17 (R367) -/
  x17 : BitVec 64
  /-- PAIR_LANE_DIFF (R367) -/
  laneDiffPs : BitVec 32
  /-- the two lanes' values differed by more than 20 ps at the last frame (R367); model's own -/
  laneSkewed : Bool
  /-- timing frames sent (R367); model's own -/
  sentFrames : Nat
  /-- the accord's 1 ms boundary of the last timing frame sent (R367); model's own -/
  sentMs : Option Nat
  /-- the state that the last timing frame mirrored (R368); model's own -/
  sentFrame : Option PeerFrame
  /-- tick of the last test of the compare channels (R379); model's own -/
  calTestTick : Option Nat
  /-- PAIR_LAST_OWN.VALID (R57) -/
  lastOwnValid : Bool
  /-- PAIR_LAST_OWN.GAINED (R374) -/
  lastOwnGained : Bool
  /-- PAIR_LAST_OWN.FAILOVER (R374) -/
  lastOwnFailover : Bool
  /-- PAIR_LAST_OWN.LINKED (R374) -/
  lastOwnLinked : Bool
  /-- PAIR_LAST_OWN.SEQ (R57) -/
  lastOwnSeq : BitVec 16
  /-- PAIR_LAST_OWN_H (R374) -/
  lastOwnH : BitVec 96
  /-- PAIR_ROUNDS (R374) -/
  rounds : BitVec 64
  /-- PAIR_ROUNDS_VOID (R373) -/
  roundsVoid : BitVec 32
  /-- comparison entries (R377) -/
  cmp : Vector PairCmp 8
  /-- PAIR_PEER_STATE.ACCORD_STATE (R368) -/
  peerAccord : BitVec 3
  /-- PAIR_PEER_STATE.DEV_STATE (R368) -/
  peerDev : BitVec 3
  /-- PAIR_PEER_STATE.PAIR_ROLE (R368) -/
  peerRole : BitVec 2
  /-- PAIR_PEER_STATE.SELECTED (R368) -/
  peerSelected : BitVec 5
  /-- PAIR_PEER_STATE.PRIMARY (R368) -/
  peerPrimary : Bool
  /-- the partner's HEALTH in effect (R368,R381); model's own -/
  peerHealth : BitVec 6
  /-- PAIR_PEER_EB.EB (R368) -/
  peerEb : BitVec 24
  /-- PAIR_PEER_EB.FLAGS (R368) -/
  peerFlags : BitVec 8
  /-- PAIR_PEER_FREQ (R368) -/
  peerFreq : BitVec 40
  /-- PAIR_PEER_DIGEST (R369) -/
  peerDigest : BitVec 64
  /-- PAIR_PEER_LOG (R368) -/
  peerLog : BitVec 48
  /-- TAI96 of the boundary that the partner's last frame mirrors (R368); model's own -/
  peerTime : BitVec 96
  /-- the partner's LC_STATE (R368); model's own -/
  peerLc : BitVec 3
  /-- the partner's QSTATE of REF0 to REF19 (R368); model's own -/
  peerQ : BitVec 60
  /-- the partner's FREQ_HOLD_MPPT (R368); model's own -/
  peerHold : BitVec 40
  /-- the partner's HEALTH raw (R368); model's own -/
  peerRaw : BitVec 6
  /-- the partner's SHARED outputs (R368); model's own -/
  peerOuts : List PeerOut
  /-- the first 8 bytes of the partner's HEAD (R368); model's own -/
  peerHead : BitVec 64
  /-- tick of the last timing frame; PAIR_PEER_AGE counts from it (R368) -/
  peerTick : Option Nat
  /-- notices sent to the partner and not yet carried away (R366); model's own -/
  notices : List PairNotice
deriving DecidableEq, Repr

/-- Pair right after reset. -/
def Pair.reset : Pair where
  role := .solo
  linkUp := false
  lanesUp := 0
  sideConflict := false
  rejoinArmed := false
  handoverPending := false
  handoverAt := 0
  handoverIn := false
  claim := 0
  peerClaim := 0
  health := 0
  raw := 0
  rawSince := Vector.replicate 6 0
  started := false
  readyTick := 0
  incumbent := false
  own := false
  leaseTick := 0
  peerWonTick := 0
  inRound := false
  roundTick := 0
  roundClaim := 0
  hPending := false
  hTick := 0
  hGain := false
  hFailover := false
  peerSafe := false
  outBad := 0
  outBadSent := 0
  lineFails := 0
  claimTestBad := false
  lineEdgeTick := 0
  lineEdgeSeen := false
  cfgDiffer := 0
  peerSide := none
  x17 := 0
  laneDiffPs := 0
  laneSkewed := false
  sentFrames := 0
  sentMs := none
  sentFrame := none
  calTestTick := none
  lastOwnValid := false
  lastOwnGained := false
  lastOwnFailover := false
  lastOwnLinked := false
  lastOwnSeq := 0
  lastOwnH := 0
  rounds := 0
  roundsVoid := 0
  cmp := Vector.replicate 8 PairCmp.reset
  peerAccord := 0
  peerDev := 0
  peerRole := 0
  peerSelected := 31
  peerPrimary := false
  peerHealth := 0
  peerEb := 0xFFFFFF
  peerFlags := 1
  peerFreq := 0
  peerDigest := 0
  peerLog := 0
  peerTime := 0
  peerLc := 0
  peerQ := 0
  peerHold := 0
  peerRaw := 0
  peerOuts := []
  peerHead := 0
  peerTick := none
  notices := []

/-- ACD_PSET_p. -/
structure PSet where
  /-- ACD_PSET_p_BW (R125); CSP -/
  bwMhz : BitVec 32
  /-- ACD_PSET_p_DAMP (R125); CSP -/
  dampM : BitVec 16
  /-- ACD_PSET_p_FLOOR (R126); CSP -/
  servoFloor : BitVec 24
  /-- ACD_PSET_p_LOCK.LOCK_NS (R130); CSP -/
  lockNs : BitVec 16
  /-- ACD_PSET_p_LOCK.LOCK_S (R130); CSP -/
  lockS : BitVec 16
deriving DecidableEq, Repr

/-- PSet right after reset. -/
def PSet.reset : PSet where
  bwMhz := 100
  dampM := 707
  servoFloor := 20
  lockNs := 50
  lockS := 16

/-- ACD_OSC_c. -/
structure OscModel where
  /-- ACD_OSC_c_Y0 (R139); CSP -/
  y0 : BitVec 32
  /-- ACD_OSC_c_Y0F (R139); CSP -/
  y0Free : BitVec 32
  /-- ACD_OSC_c_AGE (R139); CSP -/
  age : BitVec 32
  /-- ACD_OSC_c_TC (R139); CSP -/
  tempco : BitVec 32
  /-- ACD_OSC_c_TSRC (R139); CSP -/
  tempSrc : BitVec 4
deriving DecidableEq, Repr

/-- OscModel right after reset. -/
def OscModel.reset : OscModel where
  y0 := 100000
  y0Free := 50000000
  age := 500000
  tempco := 10000
  tempSrc := 0

/-- The default parameter sets (R125). -/
def acdPsetDefault : Vector PSet 4 :=
  #v[PSet.reset, { PSet.reset with bwMhz := 10 }, PSet.reset, { PSet.reset with bwMhz := 1000 }]

/-- The default oscillator classes (R139). -/
def acdOscDefault : Vector OscModel 5 :=
  #v[⟨100000, 50000000, 500000, 10000, 0⟩, ⟨5000, 1000000, 50000, 500, 0⟩, ⟨1000, 10000, 0, 100, 0⟩,
    ⟨100000, 50000000, 500000, 10000, 0⟩, ⟨10000000, 100000000, 100000000, 100000, 0⟩]

/-- ACD fields kept in the keep. -/
structure AcdCfg where
  /-- ACD_STEP_POLICY.MODE (R115); CSP -/
  modeStep : Bool
  /-- ACD_STEP_POLICY.STEP_ALLOW (R115); CSP -/
  stepAllow : Bool
  /-- ACD_STEP_POLICY.ACQ_SLEW (R133); CSP -/
  acqSlew : Bool
  /-- ACD_SLEW_LIMIT (R132); CSP -/
  slewLimitNs : BitVec 17
  /-- ACD_STEP_MIN (R115); CSP -/
  stepMinNs : BitVec 32
  /-- ACD_HOLD_AVG (R137); CSP -/
  holdAvgS : BitVec 17
  /-- ACD_HOLD_SPEC (R130); CSP -/
  holdSpecNs : BitVec 18
  /-- ACD_CLASS_CFG.CATEGORY (R131); CSP -/
  category : BitVec 2
  /-- ACD_CLASS_CFG.PRIMARY_QMAX (R131); CSP -/
  primaryQmax : BitVec 4
  /-- ACD_SERVO_CFG.OWNER (R123); CSP -/
  owner : BitVec 2
  /-- ACD_SERVO_CFG.SERVO_TIMEOUT_MS (R124); CSP -/
  servoTimeoutMs : BitVec 16
  /-- ACD_PSET_p (R125); CSP -/
  psets : Vector PSet 4
  /-- ACD_OSC_c (R139); CSP -/
  osc : Vector OscModel 5
  /-- ACD_OSC_SEL.OCXO_CLASS (R140); CSP -/
  ocxoClass : BitVec 3
  /-- ACD_OSC_SEL.ATOM_CLASS (R140); CSP -/
  atomClass : BitVec 3
  /-- ACD_CPLL.SOURCE (R143); CSP -/
  cpllAtom : Bool
  /-- ACD_OCXO_FREQ (R143); CSP -/
  ocxoHz : BitVec 27
  /-- ACD_ATOM_FREQ (R143); CSP -/
  atomHz : BitVec 27
  /-- ACD_MAC_CFG.MACERATION_S (R145); CSP -/
  macerationS : BitVec 16
  /-- ACD_MAC_CFG.MAC_EARLY (R145); CSP -/
  macEarly : Bool
  /-- ACD_MAC_STAB (R145); CSP -/
  macStabMppt : BitVec 32
  /-- ACD_UTC.UTC_OFFSET_S (R146); CSP -/
  utcOffsetS : BitVec 16
  /-- ACD_UTC.VALID (R146); CSP -/
  utcValid : Bool
  /-- ACD_UTC.LEAP (R146); CSP -/
  leap : BitVec 2
  /-- ACD_LEAP_AT (R146); CSP -/
  leapAt : BitVec 48
  /-- the offset that takes effect at LEAP_AT (R146,R147); CSP; model's own name -/
  leapOffset : BitVec 16
deriving DecidableEq, Repr

/-- AcdCfg right after reset. -/
def AcdCfg.reset : AcdCfg where
  modeStep := false
  stepAllow := false
  acqSlew := false
  slewLimitNs := 500
  stepMinNs := 1000
  holdAvgS := 600
  holdSpecNs := 1000
  category := 1
  primaryQmax := 3
  owner := 0
  servoTimeoutMs := 2500
  psets := acdPsetDefault
  osc := acdOscDefault
  ocxoClass := 0
  atomClass := 1
  cpllAtom := false
  ocxoHz := 10000000
  atomHz := 10000000
  macerationS := 1800
  macEarly := false
  macStabMppt := 10000
  utcOffsetS := 37
  utcValid := false
  leap := 0
  leapAt := 0
  leapOffset := 37

/-- A step that has entered S and has not yet reached its apply tick (R16, R132). -/
structure StepIn where
  /-- tick at which it reached the ACD (R16); model's own -/
  tick : Nat
  /-- the step, in 2^-56 ns (R132); model's own -/
  x : Int
  /-- it is applied whole, at once (R115,R132); model's own -/
  once : Bool
  /-- it is the acquisition step (R133,R135); model's own -/
  acq : Bool
  /-- what it adds to EB0 at its apply tick, in 10 ps (R136); model's own -/
  op : Nat
deriving DecidableEq, Repr

/-- StepIn right after reset. -/
def StepIn.reset : StepIn where
  tick := 0
  x := 0
  once := false
  acq := false
  op := 0

/-- Terms of EB_ACCORD as the ACD accepts them at a publication tick (R16, R22). -/
structure EbTerms where
  /-- E_REF (R16,R98); model's own -/
  eRef : BitVec 24
  /-- E_MEAS (R16,R98); model's own -/
  eMeas : BitVec 24
  /-- E_SERVO (R16,R126); model's own -/
  eServo : Nat
  /-- E_PAIR (R16,R23); model's own -/
  ePair : Nat
  /-- the tick from which E_HOLD is counted, while the form of R22 is the drydown one (R22,R128); model's own -/
  hold : Option Nat
deriving DecidableEq, Repr

/-- EbTerms right after reset. -/
def EbTerms.reset : EbTerms where
  eRef := 0xFFFFFF
  eMeas := 0xFFFFFF
  eServo := 0
  ePair := 0
  hold := none

/-- What a stamp of an earlier tick needs: the accord as it stood at the end of that tick (R17, R23). -/
structure PastMark where
  /-- the tick (R17); model's own -/
  tick : Nat
  /-- the counter, in 2^-56 ns (R17); model's own -/
  count : Nat
  /-- TOD_INCR in force (R17); model's own -/
  incr : BitVec 64
  /-- increments that waited for their apply ticks (R16); model's own -/
  queue : List (Nat × BitVec 64)
  /-- EB_ACCORD (R23); model's own -/
  eb : Nat
  /-- flag byte without SAT (R8); model's own -/
  flags : BitVec 8
deriving DecidableEq, Repr

/-- PastMark right after reset. -/
def PastMark.reset : PastMark where
  tick := 0
  count := 0
  incr := 0
  queue := []
  eb := 0
  flags := 0

/-- The accord. -/
structure Acd where
  /-- ACD_STATUS.ACCORD_STATE (R130) -/
  state : AccordState
  /-- the counter, in 2^-56 ns since the PTP epoch (ACD_TIME) (R121) -/
  count : Nat
  /-- ACD_INCR_CUR (R9,R16) -/
  incrCur : BitVec 64
  /-- ACD_INCR_PEND (R16) -/
  incrPendVal : BitVec 64
  /-- increments waiting for their apply ticks; ACD_STATUS.INCR_PEND while not empty (R16) -/
  incrQueue : List (Nat × BitVec 64)
  /-- ACD_STEER (R123) -/
  freqServo : BitVec 40
  /-- ACD_STEP_OUT, kept in 2^-56 ns; ACD_STATUS.STEP_PENDING while not zero (R132) -/
  stepOut : Int
  /-- the step that entered S last is applied whole, at once (R114,R132); model's own -/
  stepAtOnce : Bool
  /-- steps in S that have not reached their apply ticks, oldest first (R16,R132); model's own -/
  stepIn : List StepIn
  /-- remainder carried between slew quanta (R132); model's own -/
  slewRem : Nat
  /-- ACD_FREQ_HOLD (R137) -/
  freqHold : BitVec 40
  /-- ACD_FREQ_LAST (R128) -/
  freqLast : BitVec 40
  /-- steered rates and the ticks each lasted, newest first (R137); model's own -/
  steerHist : List (BitVec 40 × Nat)
  /-- tick from which the present rate has steered (R137); model's own -/
  steerFrom : Nat
  /-- ACD_E_REF (R98,R22) -/
  eRef : BitVec 24
  /-- ACD_E_MEAS (R98,R22) -/
  eMeas : BitVec 24
  /-- E_SERVO as the last update left it (R126); model's own -/
  eServo : Nat
  /-- ACD_E_SERVO (R126) -/
  eServoPub : Nat
  /-- the terms accepted at the last publication (R16); model's own -/
  accepted : EbTerms
  /-- ACD_E_STEP (R127) -/
  eStep : Nat
  /-- ACD_E_PAIR (R23) -/
  ePair : Nat
  /-- ACD_E_HOLD (R128) -/
  eHold : Nat
  /-- ACD_EB0, at full width (R22,R82) -/
  eb0 : Nat
  /-- EB_ACCORD as last published, at full width (R18,R82) -/
  ebAccord : Nat
  /-- residuals e_k since the history's restart, newest first, at most 17, in 2^-16 ns (R126) -/
  residuals : List Int
  /-- E_SERVO at the restart of the history (R126); model's own -/
  eServoKept : Nat
  /-- tick of the first update of the unbroken run within LOCK_NS (R130); model's own -/
  lockRun : Option Nat
  /-- tick at which t of R128 began (R128) -/
  holdFrom : Option Nat
  /-- H, the ticks of servo history behind FREQ_HOLD (R128); model's own -/
  holdH : Nat
  /-- T0, in 0.01 K (R128); model's own -/
  tempAt0 : Int
  /-- ACD_HOLD_DT (R128) -/
  dtMax : BitVec 16
  /-- ACD_HOLD_Y0 (R128) -/
  y0Eff : Nat
  /-- ACD_STATUS.FORCED (R142) -/
  forced : Bool
  /-- ACD_STATUS.SERVO_LOST (R124) -/
  servoLost : Bool
  /-- tick from which SERVO_TIMEOUT_MS is counted (R124); model's own -/
  lastSteer : Nat
  /-- tick of the last steer write, or of the start of steering before one (R124,R128); model's own -/
  lastWrite : Nat
  /-- EB_ACCORD without E_HOLD at that tick (R22,R128); model's own -/
  writeEb : Nat
  /-- the temperature at that tick, in 0.01 K (R128); model's own -/
  writeTemp : Int
  /-- the largest temperature change since that tick, in 0.01 K (R128); model's own -/
  writeDt : BitVec 16
  /-- the integrator of the servo firmware's loop, in 0.001 ppt times 2^-32 (R451); model's own -/
  integ : Int
  /-- the rate that loop gave at the last update, in 0.001 ppt (R451); model's own -/
  servoOut : BitVec 40
  /-- the timeout waits for the first update after a hold-off (R124); model's own -/
  steerWait : Bool
  /-- seeded or set since PD_TIME became ready (R130); model's own -/
  everSeeded : Bool
  /-- LOCKED since last seeded (R130); model's own -/
  everLocked : Bool
  /-- the acquisition step has been taken (R133); model's own -/
  acqStepDone : Bool
  /-- re-entry is due at the next publication tick (R138); model's own -/
  reentry : Bool
  /-- tick of its cause (R138); model's own -/
  reentryAt : Nat
  /-- tick from which the check words of the time bus are counted, every 1,024 ticks (R19); model's own -/
  checkFrom : Nat
  /-- tick of the last publication (R18); model's own -/
  lastPub : Nat
  /-- sum of the steps and slew quanta applied since reset, in 2^-56 ns (R132,R194); model's own -/
  adj : Int
  /-- ACD_STATUS.LEAP_PENDING (R147) -/
  leapPending : Bool
  /-- ACD_STATUS.CPLL_LOCK (R27) -/
  cpllLock : Bool
  /-- the CPLL has locked to its configured reference since PD_TIME became ready (R144); model's own -/
  cpllEver : Bool
  /-- a relock commanded by ACD_SET_CPLL_SOURCE runs (R143,R144); model's own -/
  cpllRelock : Bool
  /-- ACD_STATUS.OCXO_PRESENT (R145) -/
  ocxoPresent : Bool
  /-- ACD_STATUS.ATOM_PRESENT (R27) -/
  atomPresent : Bool
  /-- ACD_STATUS.MACERATE (R145) -/
  macerate : Bool
  /-- tick at which CLK_OCXO became present (R145); model's own -/
  macFrom : Nat
  /-- time taps that failed a check and are not yet reloaded (R19); model's own -/
  tapsBad : List (BitVec 8)
  /-- the taps are reloaded at the next publication (R130); model's own -/
  tapReload : Bool
  /-- REF18's FREQ_64S_MPPT of each second since CLK_OCXO became present, newest first, at most 193 (R145); model's own -/
  macPts : List Int
  /-- INT_SYS_CAL_INVALID raised since PD_TIME became ready (R83); model's own -/
  calTold : Bool
deriving DecidableEq, Repr

/-- Acd right after reset. -/
def Acd.reset : Acd where
  state := .cold
  count := 0
  incrCur := 0x00CCCCCCCCCCCCCD
  incrPendVal := 0x00CCCCCCCCCCCCCD
  incrQueue := []
  freqServo := 0
  stepOut := 0
  stepAtOnce := false
  stepIn := []
  slewRem := 0
  freqHold := 0
  freqLast := 0
  steerHist := []
  steerFrom := 0
  eRef := 0xFFFFFF
  eMeas := 0xFFFFFF
  eServo := 0
  eServoPub := 0
  accepted := EbTerms.reset
  eStep := 0
  ePair := 0
  eHold := 0
  eb0 := 0xFFFFFF
  ebAccord := 0xFFFFFF
  residuals := []
  eServoKept := 0
  lockRun := none
  holdFrom := none
  holdH := 0
  tempAt0 := 0
  dtMax := 0
  y0Eff := 0
  forced := false
  servoLost := false
  lastSteer := 0
  lastWrite := 0
  writeEb := 0
  writeTemp := 0
  writeDt := 0
  integ := 0
  servoOut := 0
  steerWait := false
  everSeeded := false
  everLocked := false
  acqStepDone := false
  reentry := false
  reentryAt := 0
  checkFrom := 0
  lastPub := 0
  adj := 0
  leapPending := false
  cpllLock := false
  cpllEver := false
  cpllRelock := false
  ocxoPresent := false
  atomPresent := false
  macerate := false
  macFrom := 0
  tapsBad := []
  tapReload := false
  macPts := []
  calTold := false

end Sys2Proof.Machine
end

