-- ==== Sys2Proof/Machine/RegsTime.lean ====
section
/-! DEFINITION. The registers and state of the REF, GNS, TIC and OUT blocks: plain data. -/

namespace Sys2Proof.Machine

/-- A reference slot's configuration. -/
structure RefSlotCfg where
  /-- REF_SLOT_n_CFG.ENABLE (R107); CSP -/
  enable : Bool
  /-- REF_SLOT_n_CFG.TYPE of REF0-REF11 (R95); CSP -/
  typ : BitVec 3
  /-- REF_SLOT_n_CFG.EDGE (R96); CSP -/
  edge : Bool
  /-- REF_SLOT_n_CFG.MATE (R96); CSP -/
  mate : BitVec 5
  /-- REF_SLOT_n_CFG.TOD_FMT (R119); CSP -/
  todFmt : BitVec 4
  /-- REF_SLOT_n_FREQ (R96); CSP -/
  freqHz : BitVec 30
  /-- REF_SLOT_n_DELAY (R97); CSP -/
  delayPs : BitVec 32
  /-- REF_SLOT_n_UNC (R98); CSP -/
  declUnc : BitVec 24
  /-- REF_SLOT_n_FTOL_1S (R103); CSP -/
  ftol1s : BitVec 40
  /-- REF_SLOT_n_FTOL_64S (R103); CSP -/
  ftol64s : BitVec 40
  /-- REF_SLOT_n_FTOL_4096S (R103); CSP -/
  ftol4096s : BitVec 40
  /-- REF_SLOT_n_TIE (R105); CSP -/
  tieLimitNs : BitVec 24
  /-- REF_SLOT_n_GATE (R454); CSP -/
  gateNs : BitVec 24
  /-- REF_SLOT_n_HORIZON (R104); CSP -/
  horizonS : BitVec 32
  /-- REF_SLOT_n_TIMERS0.HOLDOFF_MS (R109); CSP -/
  holdoffMs : BitVec 14
  /-- REF_SLOT_n_TIMERS1.WTR_S (R109); CSP -/
  wtrS : BitVec 12
  /-- REF_SLOT_n_TIMERS1.FIRST_WAIT_S (R109); CSP -/
  firstWaitS : BitVec 12
  /-- REF_SLOT_n_PRIO.PRIORITY (R112); CSP -/
  priority : BitVec 4
  /-- REF_SLOT_n_PRIO.QUALITY (R112); CSP -/
  quality : BitVec 4
deriving DecidableEq, Repr

/-- RefSlotCfg right after reset. -/
def RefSlotCfg.reset : RefSlotCfg where
  enable := false
  typ := 0
  edge := false
  mate := 31
  todFmt := 0
  freqHz := 1
  delayPs := 0
  declUnc := 0xFFFFFF
  ftol1s := 100000000
  ftol64s := 10000000
  ftol4096s := 1000000
  tieLimitNs := 1000
  gateNs := 1000
  horizonS := 86400
  holdoffMs := 1000
  wtrS := 300
  firstWaitS := 16
  priority := 0
  quality := 8

/-- A PTP slave instance's binding (REF_SET_PTP_SLAVE). -/
structure RefPtpCfg where
  /-- lane (R118); DESIGN CHOICE 0 (log 6) -/
  lane : BitVec 4
  /-- domainNumber (R118); DESIGN CHOICE 0 (log 6) -/
  domain : BitVec 8
  /-- profile (R118); DESIGN CHOICE 0 (log 6) -/
  profile : BitVec 2
  /-- ANNOUNCE_TIMEOUT (R118) -/
  announceTimeout : BitVec 8
  /-- CLASS_MAX (R118) -/
  classMax : BitVec 8
  /-- ENABLE (R118,R119); DESIGN CHOICE 0 (log 6) -/
  enable : Bool
deriving DecidableEq, Repr

/-- RefPtpCfg right after reset. -/
def RefPtpCfg.reset : RefPtpCfg where
  lane := 0
  domain := 0
  profile := 0
  announceTimeout := 3
  classMax := 7
  enable := false

/-- REF fields kept in the keep. -/
structure RefCfg where
  /-- REF_STATUS.REVERTIVE (R112); CSP -/
  revertive : Bool
  /-- slot windows (R95); CSP -/
  slots : Vector RefSlotCfg 20
  /-- PTP slave instances (R118) -/
  ptp : Vector RefPtpCfg 4
deriving DecidableEq, Repr

/-- RefCfg right after reset. -/
def RefCfg.reset : RefCfg where
  revertive := true
  slots := Vector.replicate 20 RefSlotCfg.reset
  ptp := Vector.replicate 4 RefPtpCfg.reset

/-- A reference slot at work. -/
structure RefSlot where
  /-- REF_SLOT_n_STATE.QSTATE (R107) -/
  qstate : QState
  /-- REF_SLOT_n_STATE.FAULT_SRC; FAULT while not zero (R103,R104,R105,R106) -/
  faultSrc : BitVec 8
  /-- the source reports itself invalid (R106); model's own -/
  srcInvalid : Bool
  /-- the master's clockClass exceeds CLASS_MAX (R106); model's own -/
  classLimit : Bool
  /-- a timer runs (R107); model's own -/
  timerOn : Bool
  /-- tick from which the timer runs (R107); model's own -/
  timerFrom : Nat
  /-- the running wait is FIRST_WAIT_S (R107); model's own -/
  timerFirst : Bool
  /-- QUALIFIED since reset, enable or REF_SET_SLOT (R107); model's own -/
  qualOnce : Bool
  /-- REF_SLOT_n_HISTORY (R110) -/
  history : BitVec 16
  /-- an event has arrived since ABSENT was last entered (R97); model's own -/
  anchored : Bool
  /-- the anchor's ideal instant, in 2^-16 ns (R97); model's own -/
  anchorIdeal : Int
  /-- REF_SLOT_n_OFFSET (R97) -/
  offset : BitVec 64
  /-- REF_SLOT_n_EMEAS (R98) -/
  eMeas : BitVec 24
  /-- REF_SLOT_n_ESRC (R98) -/
  eSrc : BitVec 24
  /-- REF_SLOT_n_FREQ_1S (R103) -/
  freq1s : BitVec 40
  /-- REF_SLOT_n_FREQ_64S (R103) -/
  freq64s : BitVec 40
  /-- REF_SLOT_n_FREQ_4096S (R103) -/
  freq4096s : BitVec 40
  /-- REF_SLOT_n_SLOPE (R104) -/
  slope : BitVec 32
  /-- REF_SLOT_n_BREACH (R104) -/
  breachS : BitVec 32
  /-- REF_SLOT_n_MAJ (R105) -/
  majTiePs : BitVec 32
  /-- tick of the last update; REF_SLOT_n_AGE counts from it (R97) -/
  lastUpd : Option Nat
  /-- the accord's time at the last update (R296); model's own -/
  lastTime : BitVec 96
  /-- tick of the last event, for the loss test (R106); model's own -/
  lastEdge : Option Nat
  /-- the last 64 offsets since the anchor with their ticks, newest first (R98); model's own -/
  offs : List (Nat × Int)
  /-- one offset a second since the anchor for 4,096 s, newest first (R103,R105); model's own -/
  points : List (Nat × Int)
  /-- tick from which the signal has been present without a loss (R103,R104); model's own -/
  sigFrom : Nat
  /-- the accord's millisecond of the last measured edge (R96); model's own -/
  lastMs : Option Nat
  /-- 1 s frequency points of the last 4,096 s, newest first (R104); model's own -/
  freqPts : List Int
  /-- the last offset within the gate of its own prediction, with its tick (R454); model's own -/
  pred : Option (Nat × Int)
  /-- REF_SLOT_n_PTP.CLOCK_CLASS_RX (R118) -/
  clockClassRx : BitVec 8
  /-- REF_SLOT_n_PTP.MASTER_PRESENT (R118) -/
  masterPresent : Bool
  /-- REF_SLOT_n_PTP.FREE_RUN (R118) -/
  freeRun : Bool
  /-- REF_SLOT_n_MASTER (R118) -/
  masterId : BitVec 64
  /-- tick of the master's last Announce (R118); model's own -/
  annTick : Nat
  /-- that Announce's logMessageInterval, signed (R118); model's own -/
  annLog : BitVec 8
  /-- origin of the Sync in hand (R118); model's own -/
  syncTx : BitVec 96
  /-- its receive stamp, in 2^-16 ns, while its origin is known or awaited (R118); model's own -/
  syncRx : Option Int
  /-- its Follow_Up is awaited (R118); model's own -/
  syncWait : Bool
  /-- the last master-to-slave time, in 2^-16 ns (R118); model's own -/
  masterToUs : Option Int
  /-- the two-way estimates since the last delivery, in 2^-16 ns (R118); model's own -/
  estimates : List Int
deriving DecidableEq, Repr

/-- RefSlot right after reset. -/
def RefSlot.reset : RefSlot where
  qstate := .disabled
  faultSrc := 0
  srcInvalid := false
  classLimit := false
  timerOn := false
  timerFrom := 0
  timerFirst := false
  qualOnce := false
  history := 0
  anchored := false
  anchorIdeal := 0
  offset := 0
  eMeas := 0xFFFFFF
  eSrc := 0
  freq1s := 0
  freq64s := 0
  freq4096s := 0
  slope := 0
  breachS := 0xFFFFFFFF
  majTiePs := 0
  lastUpd := none
  lastTime := 0
  lastEdge := none
  offs := []
  points := []
  sigFrom := 0
  lastMs := none
  freqPts := []
  pred := none
  clockClassRx := 248
  masterPresent := false
  freeRun := false
  masterId := 0
  annTick := 0
  annLog := 0
  syncTx := 0
  syncRx := none
  syncWait := false
  masterToUs := none
  estimates := []

/-- A cell of the phase matrix (R99). -/
structure RefCell where
  /-- TIME (R99) -/
  time : BitVec 96
  /-- PHASE (R99) -/
  phase : BitVec 64
  /-- UNC (R99) -/
  unc : BitVec 24
  /-- VALID (R99) -/
  valid : Bool
  /-- CLOCK_ONLY (R99) -/
  clockOnly : Bool
  /-- STALE (R99) -/
  stale : Bool
  /-- DFREQ_MPPT (R99) -/
  dfreq : BitVec 32
  /-- SEQ (R99) -/
  seq : BitVec 16
deriving DecidableEq, Repr

/-- RefCell right after reset. -/
def RefCell.reset : RefCell where
  time := 0
  phase := 0
  unc := 0
  valid := false
  clockOnly := false
  stale := false
  dfreq := 0
  seq := 0

/-- The REF block. -/
structure Ref where
  /-- REF_STATUS.SELECTED (R112) -/
  selected : BitVec 5
  /-- REF_STATUS.SWITCHING (R114) -/
  switching : Bool
  /-- REF_STATUS.MODE (R113) -/
  manual : Bool
  /-- REF_STATUS.ALL_LOST (R117) -/
  allLost : Bool
  /-- REF_STATUS.STANDBY_BETTER (R112) -/
  standbyBetter : Bool
  /-- REF_STATUS.BEST (R112) -/
  best : BitVec 5
  /-- REF_SWITCH_LAST.VALID (R57) -/
  swValid : Bool
  /-- REF_SWITCH_LAST.DONE (R114) -/
  swDone : Bool
  /-- REF_SWITCH_LAST.FROM (R114) -/
  swFrom : BitVec 5
  /-- REF_SWITCH_LAST.TO (R114) -/
  swTo : BitVec 5
  /-- REF_SWITCH_LAST.STEPPED (R114) -/
  swStepped : Bool
  /-- REF_SWITCH_LAST.SET_ASIDE (R114) -/
  swSetAside : Bool
  /-- REF_SWITCH_LAST.SEQ (R57) -/
  swSeq : BitVec 16
  /-- REF_SWITCH_LAST.STEP (R114) -/
  swStep : BitVec 64
  /-- REF_SWITCH_LAST.START (R114) -/
  swStart : BitVec 96
  /-- tick of that start (R114); model's own -/
  swTick : Nat
  /-- REF_SWITCH_LAST.DURATION_US (R114) -/
  swDurUs : BitVec 32
  /-- REF_MAJ_STATUS.MAJ_NONE (R102) -/
  majNone : BitVec 20
  /-- slot windows (R95) -/
  slots : Vector RefSlot 20
  /-- phase matrix (R99) -/
  cells : Vector RefCell 190
  /-- the phase matrix at the last 1 ms boundary (R101); model's own -/
  snap : Vector RefCell 190
  /-- SELECTED at that boundary (R101); model's own -/
  snapSel : BitVec 5
  /-- the accord's last 1 ms boundary at which selection ran (R112); model's own -/
  lastMs : Option Nat
deriving DecidableEq, Repr

/-- Ref right after reset. -/
def Ref.reset : Ref where
  selected := 31
  switching := false
  manual := false
  allLost := false
  standbyBetter := false
  best := 31
  swValid := false
  swDone := false
  swFrom := 31
  swTo := 31
  swStepped := false
  swSetAside := false
  swSeq := 0
  swStep := 0
  swStart := 0
  swTick := 0
  swDurUs := 0
  majNone := 0xFFFFF
  slots := Vector.replicate 20 RefSlot.reset
  cells := Vector.replicate 190 RefCell.reset
  snap := Vector.replicate 190 RefCell.reset
  snapSel := 31
  lastMs := none

/-- GNS_NOTCH_m_CFG and FREQ. -/
structure NotchCfg where
  /-- GNS_NOTCH_m_CFG.MODE (R153); CSP -/
  mode : BitVec 2
  /-- GNS_NOTCH_m_CFG.DEPTH_DB (R153); CSP -/
  depthDb : BitVec 8
  /-- GNS_NOTCH_m_FREQ (R153); CSP -/
  centreHz : BitVec 32
deriving DecidableEq, Repr

/-- NotchCfg right after reset. -/
def NotchCfg.reset : NotchCfg where
  mode := 2
  depthDb := 40
  centreHz := 0

/-- GNS fields kept in the keep. -/
structure GnsCfg where
  /-- GNS_PORT_CFG.FORMAT (R150); CSP -/
  formatIq : Bool
  /-- GNS_PORT_CFG.CODING (R150); CSP -/
  coding : Bool
  /-- GNS_PORT_CFG.EDGE (R150); CSP -/
  edge : Bool
  /-- GNS_PORT_CFG.INVERT (R150); CSP -/
  invert : Bool
  /-- GNS_PORT_CFG.PORT_GATE (R178); CSP -/
  portGate : Bool
  /-- GNS_PORT_CFG.ENGINE (R160); CSP -/
  engine : BitVec 2
  /-- GNS_PORT_CFG.SOL_MIN_SV (R169); CSP -/
  solMinSv : BitVec 4
  /-- GNS_PORT_CFG.FE_LEAD_MS (R152); CSP -/
  feLeadMs : BitVec 12
  /-- GNS_PORT_RATE (R150); CSP -/
  sampleHz : BitVec 27
  /-- GNS_PORT_IF (R150); CSP -/
  ifHz : BitVec 32
  /-- GNS_JAM_CFG.JAM_WARN_DB (R154); CSP -/
  jamWarnDb : BitVec 16
  /-- GNS_JAM_CFG.NOTCH_THRESH_DB (R153); CSP -/
  notchThreshDb : BitVec 16
  /-- GNS_NOISE_REF (R154); CSP -/
  noiseRef : BitVec 16
  /-- notches (R153); CSP -/
  notch : Vector NotchCfg 4
  /-- GNS_BANK_MAP.TARGET, one for each spare (R158); CSP -/
  spareMap : Vector (BitVec 7) 8
  /-- GNS_BANK_CFG.AUTO_SPARE (R158); CSP -/
  autoSpare : Bool
  /-- GNS_LATCH_CFG.LATCH_HZ (R164); CSP -/
  latchHz : BitVec 6
  /-- GNS_ANT_CFG.MODE (R171); CSP -/
  survey : Bool
  /-- GNS_ANT_X (R171); CSP -/
  xMm : BitVec 64
  /-- GNS_ANT_Y (R171); CSP -/
  yMm : BitVec 64
  /-- GNS_ANT_Z (R171); CSP -/
  zMm : BitVec 64
  /-- GNS_ANT_UNC (R171); CSP -/
  posUncMm : BitVec 32
  /-- GNS_ANT_DELAY (R171); CSP -/
  cableDelayPs : BitVec 32
  /-- GNS_ANT_DUNC (R171); CSP -/
  cableUnc : BitVec 24
  /-- GNS_CHECK_CFG.ENABLE (R172); CSP -/
  checkEn : Bool
  /-- GNS_CHECK_CFG.CHECK_MARGIN_NS (R172); CSP -/
  checkMarginNs : BitVec 16
  /-- GNS_CHECK_REANCHOR (R174); CSP -/
  reanchorNs : BitVec 24
deriving DecidableEq, Repr

/-- GnsCfg right after reset. -/
def GnsCfg.reset : GnsCfg where
  formatIq := false
  coding := false
  edge := false
  invert := false
  portGate := false
  engine := 1
  solMinSv := 4
  feLeadMs := 50
  sampleHz := 16368000
  ifHz := 4092000
  jamWarnDb := 60
  notchThreshDb := 100
  noiseRef := 0
  notch := Vector.replicate 4 NotchCfg.reset
  spareMap := Vector.replicate 8 0x7F
  autoSpare := true
  latchHz := 1
  survey := false
  xMm := 0
  yMm := 0
  zMm := 0
  posUncMm := 0xFFFFFFFF
  cableDelayPs := 0
  cableUnc := 0xFFFFFF
  checkEn := true
  checkMarginNs := 20
  reanchorNs := 500

/-- A tracking channel (R159). -/
structure GnsTrk where
  /-- GNS_TRK_k_CFG.ASSIGNED (R162) -/
  assigned : Bool
  /-- GNS_TRK_k_CFG.PRN (R162) -/
  prn : BitVec 6
  /-- GNS_TRK_k_CFG.T_INT_MS (R161) -/
  tIntMs : BitVec 5
  /-- GNS_TRK_k_SPACING.EL_SPACING (R159) -/
  elSpacing : BitVec 6
  /-- GNS_TRK_k_SPACING.VEVL_SPACING (R159) -/
  vevlSpacing : BitVec 6
  /-- GNS_TRK_k_CODE_INC (R160) -/
  codeInc : BitVec 48
  /-- GNS_TRK_k_CARR_INC (R160) -/
  carrInc : BitVec 48
  /-- GNS_TRK_k_CODE_PHASE (R159) -/
  codePhase : BitVec 42
  /-- the code NCO's bits below 2^-32 chip (R159); model's own -/
  codeSub : BitVec 16
  /-- GNS_TRK_k_CARR_PHASE (R159) -/
  carrPhase : BitVec 48
  /-- the carrier NCO's bits below 2^-16 cycle (R159); model's own -/
  carrSub : BitVec 32
  /-- epoch count within the navigation bit (R159) -/
  epoch : BitVec 5
  /-- GNS_TRK_k_STATE.CODE_LOCK (R160) -/
  codeLock : Bool
  /-- GNS_TRK_k_STATE.CARR_LOCK (R160) -/
  carrLock : Bool
  /-- GNS_TRK_k_STATE.BIT_SYNC (R160) -/
  bitSync : Bool
  /-- GNS_TRK_k_STATE.LOST_CLK (R151) -/
  lostClk : Bool
  /-- GNS_TRK_k_STATE.CN0 (R160) -/
  cn0 : BitVec 16
  /-- GNS_TRK_k_SLIP (R160) -/
  slipCount : BitVec 16
  /-- the channel has started (R162); model's own -/
  running : Bool
  /-- the instant at which the commanded phase holds (R162); model's own -/
  startTai : BitVec 96
  /-- the commanded Doppler, in mHz (R162); model's own -/
  doppler : BitVec 32
  /-- tick at which CODE_LOCK last set (R166); model's own -/
  lockTick : Nat
  /-- SLIP_COUNT at the previous latch (R166); model's own -/
  slipAtLatch : BitVec 16
  /-- DUMP_SEQ of the next dump (R161); model's own -/
  dumpSeq : BitVec 16
  /-- samples since the previous dump (R161); model's own -/
  dumpSamples : Nat
  /-- code epochs since the previous dump (R161); model's own -/
  dumpEpochs : Nat
  /-- dump queue, at most 16 (R161) -/
  dumps : List (List (BitVec 32))
  /-- GNS_TRK_k_DUMP_LOST (R161) -/
  dumpLost : BitVec 32
deriving DecidableEq, Repr

/-- GnsTrk right after reset. -/
def GnsTrk.reset : GnsTrk where
  assigned := false
  prn := 0
  tIntMs := 1
  elSpacing := 8
  vevlSpacing := 16
  codeInc := 0
  carrInc := 0
  codePhase := 0
  codeSub := 0
  carrPhase := 0
  carrSub := 0
  epoch := 0
  codeLock := false
  carrLock := false
  bitSync := false
  lostClk := false
  cn0 := 0
  slipCount := 0
  running := false
  startTai := 0
  doppler := 0
  lockTick := 0
  slipAtLatch := 0
  dumpSeq := 0
  dumpSamples := 0
  dumpEpochs := 0
  dumps := []
  dumpLost := 0

/-- The best cell of a PRN so far (R157). -/
structure AcqBest where
  /-- PRN (R157) -/
  prn : BitVec 6
  /-- PEAK_DB (R157) -/
  peak : BitVec 16
  /-- code phase in 1/16 chip (R157) -/
  code : BitVec 14
  /-- DOPPLER_MHZ of the cell's bin (R157) -/
  doppler : BitVec 32
  /-- TIME, EB and FLAGS of the first sample of its pass (R157) -/
  head : List (BitVec 32)
deriving DecidableEq, Repr

/-- AcqBest right after reset. -/
def AcqBest.reset : AcqBest where
  prn := 0
  peak := 0
  code := 0
  doppler := 0
  head := []

/-- A running acquisition (R156). -/
structure AcqRun where
  /-- PRN mask (R156) -/
  mask : BitVec 32
  /-- DOPP_CENTRE_HZ (R156) -/
  doppCentreHz : BitVec 32
  /-- DOPP_SPAN_HZ (R156) -/
  doppSpanHz : BitVec 16
  /-- T_COH_MS (R156) -/
  tCohMs : BitVec 4
  /-- N_NC (R156) -/
  nNc : BitVec 8
  /-- THRESH_DB (R156) -/
  threshDb : BitVec 16
  /-- SOURCE (R156) -/
  snapshot : Bool
  /-- passes done (R156) -/
  pass : Nat
  /-- passes the search needs (R156) -/
  passes : Nat
  /-- PRNs detected so far (R157) -/
  detected : Nat
  /-- sub-banks that each pass deals cells to (R156); model's own -/
  share : Nat
  /-- tick at which the pass under way began (R156); model's own -/
  startTick : Nat
  /-- the next pass waits for ring 33 (R157); model's own -/
  paused : Bool
  /-- the best cell of each PRN searched so far (R157); model's own -/
  best : List AcqBest
deriving DecidableEq, Repr

/-- AcqRun right after reset. -/
def AcqRun.reset : AcqRun where
  mask := 0
  doppCentreHz := 0
  doppSpanHz := 0
  tCohMs := 1
  nNc := 1
  threshDb := 0
  snapshot := false
  pass := 0
  passes := 0
  detected := 0
  share := 0
  startTick := 0
  paused := false
  best := []

/-- The GNS block. -/
structure Gns where
  /-- GNS_STATUS.CLK_PRESENT (R151) -/
  clkPresent : Bool
  /-- GNS_STATUS.CLK_RATE_ERR (R151) -/
  clkRateErr : Bool
  /-- the running acquisition; GNS_STATUS.ACQ_BUSY (R156) -/
  acq : Option AcqRun
  /-- the deviation test reports a fault (R172) -/
  spoofDev : Bool
  /-- the drydown test reports a fault (R173) -/
  spoofDry : Bool
  /-- GNS_STATUS.JAM_WARN (R154) -/
  jamWarn : Bool
  /-- GNS_STATUS.NOTCH_FULL (R153) -/
  notchFull : Bool
  /-- GNS_HISTORY (R172) -/
  history : BitVec 8
  /-- GNS_CLK_MEAS (R151) -/
  clkOffsetPpb : BitVec 32
  /-- the second of the accord measured last (R151); model's own -/
  clkSecond : Option Nat
  /-- GNS_JAM.JAM_PRE_DB (R154) -/
  jamPreDb : BitVec 16
  /-- GNS_JAM.JAM_POST_DB (R154) -/
  jamPostDb : BitVec 16
  /-- GNS_NOTCH_m_STAT.ACTIVE (R153) -/
  notchActive : BitVec 4
  /-- GNS_NOTCH_m_STAT.TRACK_KHZ (R153) -/
  notchKhz : Vector (BitVec 24) 4
  /-- tick at which the tone of an adaptive filter was last above the threshold (R153); model's own -/
  notchSeen : Vector Nat 4
  /-- GNS_BANK_FAIL (R158) -/
  bankFail : BitVec 64
  /-- GNS_BANK_MAP.SPARE_FAIL (R158) -/
  spareFail : BitVec 8
  /-- GNS_ACQ_RESULT.VALID (R57) -/
  acqValid : Bool
  /-- GNS_ACQ_RESULT.OK (R157) -/
  acqOk : Bool
  /-- GNS_ACQ_RESULT.DETECTED (R157) -/
  acqDetected : BitVec 6
  /-- GNS_ACQ_RESULT.SEQ (R57) -/
  acqSeq : BitVec 16
  /-- records waiting for ring 33 (R157) -/
  acqQ : List (List (BitVec 32))
  /-- GNS_LATCH_LOST (R167) -/
  latchLost : BitVec 32
  /-- GNS_LATCH_MISS (R151) -/
  latchMiss : BitVec 32
  /-- latched epochs waiting for ring 32, at most 64 and one slot (R167) -/
  latchQ : List (List (BitVec 32))
  /-- LATCH_SEQ of the next latch (R166); model's own -/
  latchSeq : BitVec 16
  /-- epochs discarded since the previous delivered header (R166); model's own -/
  latchLostSince : BitVec 8
  /-- instants crossed by forward steps since the previous header (R166); model's own -/
  latchSkipped : BitVec 16
  /-- LATCH_HZ in force until the next whole second (R164); model's own -/
  latchOld : BitVec 6
  /-- instant from which GNS_LATCH_CFG.LATCH_HZ is in force, in 2^-16 ns (R164); model's own -/
  latchAt : Nat
  /-- the last instant latched, in 2^-16 ns (R167); model's own -/
  lastLatch : Option Nat
  /-- GNS_NAV_LOST (R163) -/
  navLost : BitVec 32
  /-- GNS_NAV_PUSH (R163) -/
  navWord : BitVec 32
  /-- WORD_SEQ of the next word (R163); model's own -/
  navSeq : BitVec 16
  /-- records waiting for ring 35, at most 256 (R163) -/
  navQ : List (List (BitVec 32))
  /-- GNS_SNAP_RESULT.VALID (R57) -/
  snapValid : Bool
  /-- GNS_SNAP_RESULT.OK (R176) -/
  snapOk : Bool
  /-- GNS_SNAP_RESULT.SEQ (R176) -/
  snapSeq : BitVec 16
  /-- a capture is armed for its START_AT (R176); model's own -/
  snapArmed : Bool
  /-- instant of the next capture (R176); model's own -/
  snapAt : BitVec 96
  /-- DURATION_MS (R176); model's own -/
  snapDurMs : BitVec 7
  /-- REPEAT_S (R176); model's own -/
  snapRepeatS : BitVec 17
  /-- a capture is in progress (R176); model's own -/
  snapBusy : Bool
  /-- a capture waits for the export, INT_GNS_SNAP_LATE raised (R177); model's own -/
  snapWaits : Bool
  /-- slots of 4,096 bytes still to go to ring 34 (R177); model's own -/
  snapExport : Nat
  /-- header words W0-W8 of the snapshot window (R177) -/
  snapHeader : List (BitVec 32)
  /-- bytes of samples stored (R177); model's own -/
  snapBytes : Nat
  /-- the samples stored, from offset 0x0040 of the snapshot window (R177) -/
  snapData : List (BitVec 8)
  /-- stored duration in ms (R156); model's own -/
  snapMs : Nat
  /-- GNS_ANT_POS (R171) -/
  antPos : Vector (BitVec 64) 3
  /-- GNS_CHECK_DEV (R172) -/
  checkDev : BitVec 64
  /-- GNS_CHECK_BOUND (R172) -/
  checkBound : BitVec 24
  /-- GNS_CHECK_ANCHOR (R174) -/
  anchorTai : BitVec 96
  /-- an anchor has been taken (R174); model's own -/
  anchored : Bool
  /-- tick of the anchor (R174); model's own -/
  anchorTick : Nat
  /-- the accord's counter at the anchor (R172); model's own -/
  anchorCount : Nat
  /-- x_12 at the anchor (R172); model's own -/
  anchorX : Int
  /-- E_SRC at the anchor (R172); model's own -/
  anchorESrc : BitVec 24
  /-- FREQ_HOLD_MPPT at the anchor (R172); model's own -/
  anchorHold : BitVec 40
  /-- temperature at the anchor (R172); model's own -/
  anchorTemp : Int
  /-- largest temperature change since the anchor (R172); model's own -/
  anchorDt : BitVec 16
  /-- the next valid solution takes the anchor (R171,R174); model's own -/
  reanchor : Bool
  /-- GNS_SOL.VALID (R169) -/
  solValid : Bool
  /-- GNS_SOL.SNAP (R178) -/
  solSnap : Bool
  /-- GNS_SOL.NSV (R169) -/
  solNsv : BitVec 6
  /-- GNS_SOL_OFFSET (R169) -/
  solOffset : BitVec 64
  /-- GNS_SOL_UNC (R169) -/
  solUnc : BitVec 24
  /-- GNS_SOL_ESRC (R170) -/
  solESrc : BitVec 24
  /-- tick of the last solution write (R170); model's own -/
  solTick : Nat
  /-- no solution has arrived for 1.5 s (R170); model's own -/
  solLate : Bool
  /-- tick until which GNS_SET_ANTENNA keeps the solution invalid (R171); model's own -/
  solHoldUntil : Nat
  /-- GNSS_FE_EN driven high by a gated snapshot (R152) -/
  feEn : Bool
  /-- tracking channels (R159) -/
  trk : Vector GnsTrk 32
deriving DecidableEq, Repr

/-- Gns right after reset. -/
def Gns.reset : Gns where
  clkPresent := false
  clkRateErr := false
  acq := none
  spoofDev := false
  spoofDry := false
  jamWarn := false
  notchFull := false
  history := 0
  clkOffsetPpb := 0
  clkSecond := none
  jamPreDb := 0
  jamPostDb := 0
  notchActive := 0
  notchKhz := Vector.replicate 4 0
  notchSeen := Vector.replicate 4 0
  bankFail := 0
  spareFail := 0
  acqValid := false
  acqOk := false
  acqDetected := 0
  acqSeq := 0
  acqQ := []
  latchLost := 0
  latchMiss := 0
  latchQ := []
  latchSeq := 0
  latchLostSince := 0
  latchSkipped := 0
  latchOld := 1
  latchAt := 0
  lastLatch := none
  navLost := 0
  navWord := 0
  navSeq := 0
  navQ := []
  snapValid := false
  snapOk := false
  snapSeq := 0
  snapArmed := false
  snapAt := 0
  snapDurMs := 0
  snapRepeatS := 0
  snapBusy := false
  snapWaits := false
  snapExport := 0
  snapHeader := []
  snapBytes := 0
  snapData := []
  snapMs := 0
  antPos := Vector.replicate 3 0
  checkDev := 0
  checkBound := 0xFFFFFF
  anchorTai := 0
  anchored := false
  anchorTick := 0
  anchorCount := 0
  anchorX := 0
  anchorESrc := 0
  anchorHold := 0
  anchorTemp := 0
  anchorDt := 0
  reanchor := false
  solValid := false
  solSnap := false
  solNsv := 0
  solOffset := 0
  solUnc := 0xFFFFFF
  solESrc := 0xFFFFFF
  solTick := 0
  solLate := false
  solHoldUntil := 0
  feEn := false
  trk := Vector.replicate 32 GnsTrk.reset

/-- A TIC channel's configuration. -/
structure TicChCfg where
  /-- TIC_CH_n_CFG.MODE (R189); CSP -/
  mode : BitVec 2
  /-- TIC_CH_n_CFG.EDGE (R181); CSP -/
  edge : Bool
  /-- TIC_CH_n_CFG.INPUT_SEL (R181); CSP -/
  inputSel : BitVec 3
  /-- TIC_CH_n_CFG.INPUT_IDX (R181); CSP -/
  inputIdx : BitVec 4
  /-- TIC_CH_n_CFG.TH_MV (R181); CSP -/
  thMv : BitVec 11
  /-- TIC_CH_n_PRES (R188); CSP -/
  presenceUs : BitVec 32
  /-- TIC_CH_n_DELAY (R182); CSP -/
  delayPs : BitVec 32
  /-- TIC_CH_n_DUNC (R182,R185); CSP -/
  delayUnc : BitVec 24
deriving DecidableEq, Repr

/-- TicChCfg right after reset. -/
def TicChCfg.reset : TicChCfg where
  mode := 0
  edge := false
  inputSel := 0
  inputIdx := 0
  thMv := 900
  presenceUs := 1500000
  delayPs := 0
  delayUnc := 0

/-- TIC fields kept in the keep. -/
structure TicCfg where
  /-- TIC_RECAL.AUTO_RECAL (R202); CSP -/
  autoRecal : Bool
  /-- TIC_RECAL.RECAL_K (R202); CSP -/
  recalK : BitVec 16
  /-- TIC_RECAL_S (R202); CSP -/
  recalS : BitVec 17
  /-- TIC_SPARE_CFG.AUTO_SPARE (R200); CSP -/
  autoSpare : Bool
  /-- TIC_SPARE_CFG.OVERLAP_EDGES (R201); CSP -/
  overlapEdges : BitVec 16
  /-- TIC_SUBST_CFG.TARGET (R200,R201); CSP -/
  subst : Vector (BitVec 6) 4
  /-- channel windows (R181); CSP -/
  ch : Vector TicChCfg 32
deriving DecidableEq, Repr

/-- TicCfg right after reset. -/
def TicCfg.reset : TicCfg where
  autoRecal := true
  recalK := 20
  recalS := 3600
  autoSpare := true
  overlapEdges := 1024
  subst := Vector.replicate 4 0x3F
  ch := Vector.replicate 32 TicChCfg.reset

/-- A converter's calibration as its table row of the keep holds it (R184). -/
structure TicTable where
  /-- a table was ever written (R184); DESIGN CHOICE 0 (log 5) -/
  valid : Bool
  /-- TIC_CONV_c_UNC.CAL_UNC (R184) -/
  calUnc : BitVec 16
  /-- TIC_CONV_c_UNC.SS_RMS (R184) -/
  ssRms : BitVec 16
  /-- TIC_CONV_c_TCAL (R184) -/
  tCal : BitVec 16
  /-- TIC_CONV_c_GAIN (R184) -/
  gainDev : BitVec 16
  /-- TIC_CONV_c_DNL (R184) -/
  segDev : BitVec 16
  /-- TIC_CONV_c_STATUS.CAL_SEQ (R184) -/
  calSeq : BitVec 16
  /-- the 64 break points, in 1/16 LSB (R184,R205) -/
  points : List (BitVec 16)
deriving DecidableEq, Repr

/-- TicTable right after reset. -/
def TicTable.reset : TicTable where
  valid := false
  calUnc := 0xFFFF
  ssRms := 0xFFFF
  tCal := 0
  gainDev := 0
  segDev := 0
  calSeq := 0
  points := []

/-- A converter at work. -/
structure TicConv where
  /-- the table loaded; CAL_VALID is its valid bit (R184,R186) -/
  table : TicTable
  /-- TIC_CONV_c_STATUS.FAILED (R201) -/
  failed : Bool
  /-- TIC_CONV_c_STATUS.WARM (R186) -/
  warm : Bool
  /-- the warm-up interval is over and the first calibration is still to succeed (R186); model's own -/
  warmWait : Bool
  /-- tick of the last run; CAL_AGE_S counts from it (R205) -/
  calTick : Option Nat
  /-- a calibration run is in progress (R184); model's own -/
  calRun : Bool
  /-- tick of that run's start (R184); model's own -/
  calFrom : Nat
  /-- consecutive ADC codes outside the gain window (R201); model's own -/
  outCodes : Nat
deriving DecidableEq, Repr

/-- TicConv right after reset. -/
def TicConv.reset : TicConv where
  table := TicTable.reset
  failed := false
  warm := false
  warmWait := false
  calTick := none
  calRun := false
  calFrom := 0
  outCodes := 0

/-- A spare converter's use (TIC_MAP). -/
structure TicSpare where
  /-- TIC_MAP.USE (R200) -/
  use : BitVec 2
  /-- TIC_MAP: channel served (R200) -/
  chan : BitVec 6
  /-- the converter whose channel a rolling swap covers (R202); model's own -/
  home : BitVec 6
  /-- a substitution is in its overlap (R201); model's own -/
  swapOn : Bool
  /-- the overlap returns the channel to its own converter (R202); model's own -/
  swapBack : Bool
  /-- tick at which the overlap began (R201); model's own -/
  swapFrom : Nat
  /-- edges stamped in the overlap (R201); model's own -/
  swapEdges : Nat
  /-- sum of the paired differences, in 2^-16 ns (R201); model's own -/
  swapSum : Int
deriving DecidableEq, Repr

/-- TicSpare right after reset. -/
def TicSpare.reset : TicSpare where
  use := 0
  chan := 0x3F
  home := 0x3F
  swapOn := false
  swapBack := false
  swapFrom := 0
  swapEdges := 0
  swapSum := 0

/-- An edge taken by an interval measurement. -/
structure IvEdge where
  /-- coarse-counter tick of the stamp (R183,R195); model's own -/
  tick : Nat
  /-- the stamp, in 2^-16 ns (R193); model's own -/
  time : Int
  /-- steps and slew quanta the accord had taken at the stamp, in 2^-56 ns (R194); model's own -/
  adj : Int
  /-- EB of the stamp (R194); model's own -/
  eb : Nat
  /-- E_TIC at the stamp (R194); model's own -/
  eTic : BitVec 24
  /-- flag byte of the stamp (R194); model's own -/
  flags : BitVec 8
deriving DecidableEq, Repr

/-- IvEdge right after reset. -/
def IvEdge.reset : IvEdge where
  tick := 0
  time := 0
  adj := 0
  eb := 0
  eTic := 0
  flags := 0

/-- An armed interval measurement (R193). -/
structure TicArm where
  /-- stop channel (R193) -/
  stop : BitVec 5
  /-- START_EDGE (R193) -/
  startFall : Bool
  /-- STOP_EDGE (R193) -/
  stopFall : Bool
  /-- arm tick (R193) -/
  armTick : Nat
  /-- INTERVAL_TIMEOUT_US (R195) -/
  timeoutUs : BitVec 32
  /-- the start edge taken (R193) -/
  start : Option IvEdge
  /-- the stop edge taken (R193) -/
  stopE : Option IvEdge
  /-- a stop was lost to dead time (R196) -/
  dtMiss : Bool
deriving DecidableEq, Repr

/-- TicArm right after reset. -/
def TicArm.reset : TicArm where
  stop := 0
  startFall := false
  stopFall := false
  armTick := 0
  timeoutUs := 1000000
  start := none
  stopE := none
  dtMiss := false

/-- A TIC channel at work. -/
structure TicCh where
  /-- TIC_CH_n_STATUS.STREAM (R197) -/
  stream : Bool
  /-- TIC_CH_n_STATUS.PRESENT (R188) -/
  present : Bool
  /-- TIC_CH_n_STATUS.CAL_STALE (R202) -/
  calStale : Bool
  /-- TIC_CH_n_STATUS.CONV (R181,R201); n -/
  conv : BitVec 6
  /-- TIC_CH_n_CFG.CLAIM (R204) -/
  claim : BitVec 2
  /-- TIC_CH_n_ETIC (R185,R186) -/
  eTic : BitVec 24
  /-- TIC_CH_n_DT_MISS (R196) -/
  dtMiss : BitVec 32
  /-- TIC_CH_n_Q_LOST (R197) -/
  qLost : BitVec 32
  /-- TIC_CH_n_EVENTS (R205) -/
  events : BitVec 64
  /-- EVENT_SEQ of the next raw record (R190); model's own -/
  eventSeq : BitVec 32
  /-- records waiting, at most 4,096 (R197) -/
  queue : List (List (BitVec 32))
  /-- TIC_CH_n_POP.POP_SEQ (R58) -/
  popSeq : BitVec 16
  /-- TIC_CH_n_POP_REC (R58) -/
  popRec : List (BitVec 32)
  /-- dead-time misses since the previous LOSS mark (R192); model's own -/
  lossDt : BitVec 24
  /-- queue losses since the previous LOSS mark (R192); model's own -/
  lossQ : BitVec 32
  /-- a LOSS mark precedes the next record (R192); model's own -/
  lossDue : Bool
  /-- the last edge stamped, in CLK_CORE ticks times 4,096 (R196); model's own -/
  lastStamp : Option Nat
  /-- tick of the last edge, for PRESENT (R188); model's own -/
  lastTick : Option Nat
  /-- the measurement armed with this channel as its start; ARMED_START (R193) -/
  arm : Option TicArm
  /-- TIC_CH_n_STATUS.ARMED_STOP (R193) -/
  armedStop : Bool
  /-- TIC_CH_n_IV.VALID (R57) -/
  ivValid : Bool
  /-- TIC_CH_n_IV.STATUS (R195) -/
  ivStatus : BitVec 2
  /-- TIC_CH_n_IV.ORDER (R193) -/
  ivOrder : Bool
  /-- TIC_CH_n_IV.START_SEEN (R195) -/
  ivStartSeen : Bool
  /-- TIC_CH_n_IV.STOP_SEEN (R195) -/
  ivStopSeen : Bool
  /-- TIC_CH_n_IV.DT_MISS (R196) -/
  ivDtMiss : Bool
  /-- TIC_CH_n_IV.STEP_REMOVED (R194) -/
  ivStep : Bool
  /-- TIC_CH_n_IV.SEQ (R57) -/
  ivSeq : BitVec 16
  /-- TIC_CH_n_IV_VAL (R194) -/
  ivVal : BitVec 64
  /-- TIC_CH_n_IV_EB.IEB (R194) -/
  ivEb : BitVec 24
  /-- TIC_CH_n_IV_EB.FLAGS (R194) -/
  ivFlags : BitVec 8
  /-- TIC_CH_n_IV_START (R193) -/
  ivStart : BitVec 96
  /-- TIC_CH_n_IV_STOP (R193) -/
  ivStop : BitVec 5
deriving DecidableEq, Repr

/-- TicCh right after reset. -/
def TicCh.reset : TicCh where
  stream := false
  present := false
  calStale := false
  conv := 0
  claim := 0
  eTic := 100
  dtMiss := 0
  qLost := 0
  events := 0
  eventSeq := 0
  queue := []
  popSeq := 0
  popRec := []
  lossDt := 0
  lossQ := 0
  lossDue := false
  lastStamp := none
  lastTick := none
  arm := none
  armedStop := false
  ivValid := false
  ivStatus := 0
  ivOrder := false
  ivStartSeen := false
  ivStopSeen := false
  ivDtMiss := false
  ivStep := false
  ivSeq := 0
  ivVal := 0
  ivEb := 0
  ivFlags := 0
  ivStart := 0
  ivStop := 0

/-- The TIC block. -/
structure Tic where
  /-- TIC_STATUS.BRIDGE_DONE (R203) -/
  bridgeDone : Bool
  /-- the converter that runs the bridge measurement (R203); model's own -/
  bridge : Option Nat
  /-- tick at which the coarse counter started (R190); model's own -/
  zeroTick : Nat
  /-- tick at which PD_TIC became ready, from which the warm-up runs (R186); model's own -/
  readyTick : Nat
  /-- TIC_MAP (R200) -/
  spares : Vector TicSpare 4
  /-- converter windows; TIC_CONV_FAIL gathers their FAILED bits (R181,R184) -/
  convs : Vector TicConv 36
  /-- channel windows (R181) -/
  ch : Vector TicCh 32
  /-- TIC_INT_SRC_CH (R206) -/
  intSrc : BitVec 32
  /-- converters a TIC_CALIBRATE run has still to finish (R202,R205); model's own -/
  calList : BitVec 36
  /-- a TIC_CALIBRATE run is in progress (R205); model's own -/
  calCmd : Bool
  /-- the channel of each stream ring that is served next (R197); model's own -/
  turn : Vector (BitVec 2) 8
  /-- converters whose recalibration is due and not yet made (R202); model's own -/
  recalDue : BitVec 36
deriving DecidableEq, Repr

/-- Tic right after reset. -/
def Tic.reset : Tic where
  bridgeDone := false
  bridge := none
  zeroTick := 0
  readyTick := 0
  spares := Vector.replicate 4 TicSpare.reset
  convs := Vector.replicate 36 TicConv.reset
  ch := Vector.ofFn fun n => { TicCh.reset with conv := BitVec.ofNat 6 n.val }
  intSrc := 0
  calList := 0
  calCmd := false
  turn := Vector.replicate 8 0
  recalDue := 0

/-- A synthesizer's configuration. -/
structure SynCfg where
  /-- OUT_SYN_s_CFG.ON (R208); CSP -/
  on : Bool
  /-- OUT_SYN_s_VCO (R207); CSP -/
  vcoKhz : BitVec 23
deriving DecidableEq, Repr

/-- SynCfg right after reset. -/
def SynCfg.reset : SynCfg where
  on := false
  vcoKhz := 6250000

/-- A clock output's configuration. -/
structure OutChCfg where
  /-- OUT_n_CFG.SYN_SEL (R209); CSP; n ÷ 4 -/
  synSel : BitVec 2
  /-- OUT_n_CFG.FORMAT (R209); CSP -/
  format : BitVec 2
  /-- OUT_n_CFG.PHASE_MODE (R210,R213); CSP -/
  sync : Bool
  /-- OUT_n_CFG.BYPASS (R216); CSP -/
  bypass : Bool
  /-- OUT_n_CFG.SQ_MODE (R218); CSP -/
  sqHighZ : Bool
  /-- OUT_n_CFG.SHARED (R221); CSP -/
  shared : Bool
  /-- OUT_n_CFG.SQ_MASK (R219); CSP -/
  sqMask : BitVec 7
  /-- OUT_n_FREQ (R209); CSP -/
  freqHz : BitVec 31
  /-- OUT_n_PHASE (R210); CSP -/
  phasePs : BitVec 32
  /-- OUT_n_GLIDE (R212); CSP -/
  glideNsS : BitVec 14
  /-- OUT_n_DELAY (R228); CSP -/
  delayPs : BitVec 32
  /-- OUT_n_DUNC (R228); CSP -/
  delayUnc : BitVec 24
  /-- OUT_n_EN (R218); CSP -/
  enable : Bool
deriving DecidableEq, Repr

/-- OutChCfg right after reset. -/
def OutChCfg.reset : OutChCfg where
  synSel := 0
  format := 0
  sync := false
  bypass := false
  sqHighZ := false
  shared := false
  sqMask := 1
  freqHz := 10000000
  phasePs := 0
  glideNsS := 1000
  delayPs := 0
  delayUnc := 0
  enable := false

/-- A time pulse's configuration. -/
structure TpCfg where
  /-- OUT_TP_m_CFG.RATE_HZ (R222); CSP -/
  rateHz : BitVec 10
  /-- OUT_TP_m_CFG.ALIGN_UTC (R222); CSP -/
  alignUtc : Bool
  /-- OUT_TP_m_CFG.SHARED (R221); CSP -/
  shared : Bool
  /-- OUT_TP_m_CFG.SQ_MASK (R219); CSP -/
  sqMask : BitVec 7
  /-- OUT_TP_m_CFG.SQ_MODE (R218); CSP -/
  sqHighZ : Bool
  /-- OUT_TP_m_PERIOD (R222); CSP -/
  periodS : BitVec 12
  /-- OUT_TP_m_WIDTH (R222); CSP -/
  widthNs : BitVec 29
  /-- OUT_TP_m_DELAY (R228); CSP -/
  delayPs : BitVec 32
  /-- OUT_TP_m_DUNC (R228); CSP -/
  delayUnc : BitVec 24
  /-- OUT_TP_m_EN (R218); CSP -/
  enable : Bool
deriving DecidableEq, Repr

/-- TpCfg right after reset. -/
def TpCfg.reset : TpCfg where
  rateHz := 1
  alignUtc := false
  shared := false
  sqMask := 1
  sqHighZ := false
  periodS := 1
  widthNs := 100000
  delayPs := 0
  delayUnc := 0
  enable := false

/-- A ToD serial output's configuration. -/
structure TodCfg where
  /-- OUT_TOD_k_CFG.FMT (R224); CSP -/
  fmt : BitVec 4
  /-- OUT_TOD_k_CFG.BAUD (R224); CSP -/
  baud : BitVec 3
  /-- OUT_TOD_k_CFG.NMEA_ALWAYS (R227); CSP -/
  nmeaAlways : Bool
  /-- OUT_TOD_k_CFG.SHARED (R221); CSP -/
  shared : Bool
  /-- OUT_TOD_k_DELAY (R228); CSP -/
  delayPs : BitVec 32
  /-- OUT_TOD_k_DUNC (R228); CSP -/
  delayUnc : BitVec 24
  /-- OUT_TOD_k_EN (R218); CSP -/
  enable : Bool
deriving DecidableEq, Repr

/-- TodCfg right after reset. -/
def TodCfg.reset : TodCfg where
  fmt := 0
  baud := 4
  nmeaAlways := false
  shared := false
  delayPs := 0
  delayUnc := 0
  enable := false

/-- OUT fields kept in the keep. -/
structure OutCfg where
  /-- OUT_SYN_s (R207); CSP -/
  syn : Vector SynCfg 4
  /-- clock output windows (R209); CSP -/
  ch : Vector OutChCfg 16
  /-- time-pulse windows (R222); CSP -/
  tp : Vector TpCfg 4
  /-- ToD windows (R224); CSP -/
  tod : Vector TodCfg 2
deriving DecidableEq, Repr

/-- OutCfg right after reset. -/
def OutCfg.reset : OutCfg where
  syn := Vector.replicate 4 SynCfg.reset
  ch := Vector.ofFn fun n => { OutChCfg.reset with synSel := BitVec.ofNat 2 (n.val / 4) }
  tp := Vector.replicate 4 TpCfg.reset
  tod := Vector.replicate 2 TodCfg.reset

/-- A synthesizer at work. -/
structure Syn where
  /-- OUT_STATUS.SYN_LOCK (R208) -/
  lock : Bool
  /-- locking after OUT_SET_SYN (R208); model's own -/
  locking : Bool
  /-- tick of the last lock (R210); model's own -/
  lockTick : Nat
deriving DecidableEq, Repr

/-- Syn right after reset. -/
def Syn.reset : Syn where
  lock := false
  locking := false
  lockTick := 0

/-- A clock output at work. -/
structure OutCh where
  /-- OUT_n_STATUS.RUNNING (R210) -/
  running : Bool
  /-- OUT_n_STATUS.SQ_AUTO (R219) -/
  sqAuto : Bool
  /-- OUT_n_STATUS.BYPASS_ACT (R216) -/
  bypassAct : Bool
  /-- OUT_n_STATUS.ALIGNED (R211) -/
  aligned : Bool
  /-- OUT_n_STATUS.GLIDING (R212) -/
  gliding : Bool
  /-- OUT_n_STATUS.OFFGRID (R213,R214) -/
  offgrid : Bool
  /-- OUT_n_STATUS.SQ_CAUSE (R219) -/
  sqCause : BitVec 3
  /-- OUT_n_PERR, in 2^-16 ns (R212,R214) -/
  phaseErr : Int
  /-- trim of the aligner's delay line, in ps (R211); model's own -/
  trimPs : Int
  /-- tick from which the glide has run (R212); model's own -/
  glideFrom : Nat
  /-- OUT_n_ANCHOR (R213) -/
  anchor : BitVec 96
  /-- an OUT_SYNC has given the output its anchor (R213); model's own -/
  synced : Bool
  /-- SYNC_AT of an OUT_SYNC waiting (R213); model's own -/
  syncAt : Option (BitVec 96)
  /-- tick from which the conditions to start have held (R210,R217); model's own -/
  readyTick : Nat
  /-- tick from which ALIGNED has not been met with no glide running (R358); model's own -/
  misTick : Nat
deriving DecidableEq, Repr

/-- OutCh right after reset. -/
def OutCh.reset : OutCh where
  running := false
  sqAuto := false
  bypassAct := false
  aligned := false
  gliding := false
  offgrid := false
  sqCause := 0
  phaseErr := 0
  trimPs := 0
  glideFrom := 0
  anchor := 0
  synced := false
  syncAt := none
  readyTick := 0
  misTick := 0

/-- A time pulse at work. -/
structure Tp where
  /-- OUT_TP_m_STATUS.RUNNING (R222) -/
  running : Bool
  /-- OUT_TP_m_STATUS.SQ_AUTO (R219) -/
  sqAuto : Bool
  /-- the pulse is high (R223); model's own -/
  high : Bool
  /-- tick from which the width is counted (R222,R223); model's own -/
  highFrom : Nat
  /-- OUT_TP_m_SKIP (R223) -/
  skip : BitVec 32
  /-- OUT_TP_m_LAST (R223) -/
  last : BitVec 96
  /-- OUT_TP_m_LAST_EB.EB (R223) -/
  lastEb : BitVec 24
  /-- OUT_TP_m_LAST_EB.FLAGS (R223) -/
  lastFlags : BitVec 8
  /-- the last instant pulsed or crossed, in 2^-16 ns (R223); model's own -/
  lastInst : Option Nat
  /-- after the acquisition step: low until the first whole second (R223); model's own -/
  lowUntilS : Bool
  /-- a forward step crossed an instant: a pulse is due at its apply tick (R223); model's own -/
  forced : Bool
deriving DecidableEq, Repr

/-- Tp right after reset. -/
def Tp.reset : Tp where
  running := false
  sqAuto := false
  high := false
  highFrom := 0
  skip := 0
  last := 0
  lastEb := 0xFFFFFF
  lastFlags := 1
  lastInst := none
  lowUntilS := false
  forced := false

/-- A ToD serial output at work. -/
structure Tod where
  /-- OUT_TOD_k_STATUS.RUNNING (R224) -/
  running : Bool
  /-- OUT_TOD_k_STATUS.SILENT (R227) -/
  silent : Bool
  /-- OUT_TOD_k_STATUS.SEQ (R225) -/
  seq : BitVec 16
  /-- the last second sent or crossed (R227); model's own -/
  lastSec : Option Nat
  /-- the bytes of the last message (R225,R226) -/
  message : List (BitVec 8)
deriving DecidableEq, Repr

/-- Tod right after reset. -/
def Tod.reset : Tod where
  running := false
  silent := false
  seq := 0
  lastSec := none
  message := []

/-- An echo measurement in progress (R229). -/
structure EchoRun where
  /-- target (R229) -/
  target : BitVec 5
  /-- channel a (R229) -/
  a : BitVec 5
  /-- channel b (R229) -/
  b : BitVec 5
  /-- AUTO_COMP (R229) -/
  autoComp : Bool
  /-- SHOTS (R229) -/
  shots : BitVec 13
deriving DecidableEq, Repr

/-- EchoRun right after reset. -/
def EchoRun.reset : EchoRun where
  target := 0
  a := 0
  b := 0
  autoComp := false
  shots := 256

/-- The OUT block. -/
structure Out where
  /-- synthesizers (R208) -/
  syn : Vector Syn 4
  /-- clock output windows (R210) -/
  ch : Vector OutCh 16
  /-- time-pulse windows (R222) -/
  tp : Vector Tp 4
  /-- ToD windows (R224) -/
  tod : Vector Tod 2
  /-- OUT_INT_SRC (R233) -/
  intSrc : BitVec 22
  /-- the echo measurement in progress (R229); model's own -/
  echo : Option EchoRun
  /-- OUT_ECHO_RESULT.VALID (R57) -/
  echoValid : Bool
  /-- OUT_ECHO_RESULT.STATUS (R230) -/
  echoStatus : BitVec 2
  /-- OUT_ECHO_RESULT.APPLIED (R229) -/
  echoApplied : Bool
  /-- OUT_ECHO_RESULT.TARGET (R229) -/
  echoTarget : BitVec 5
  /-- OUT_ECHO_RESULT.SEQ (R57) -/
  echoSeq : BitVec 16
  /-- OUT_ECHO_TAU (R229) -/
  echoTau : BitVec 32
  /-- OUT_ECHO_UNC (R229) -/
  echoUnc : BitVec 24
  /-- OUT_ECHO_SHOTS.GOOD (R229) -/
  echoGood : BitVec 16
  /-- OUT_ECHO_SHOTS.TAKEN (R229) -/
  echoTaken : BitVec 16
  /-- OUT_ECHO_SIGMA (R229) -/
  echoSigma : BitVec 16
deriving DecidableEq, Repr

/-- Out right after reset. -/
def Out.reset : Out where
  syn := Vector.replicate 4 Syn.reset
  ch := Vector.replicate 16 OutCh.reset
  tp := Vector.replicate 4 Tp.reset
  tod := Vector.replicate 2 Tod.reset
  intSrc := 0
  echo := none
  echoValid := false
  echoStatus := 0
  echoApplied := false
  echoTarget := 0
  echoSeq := 0
  echoTau := 0
  echoUnc := 0xFFFFFF
  echoGood := 0
  echoTaken := 0
  echoSigma := 0

end Sys2Proof.Machine
end

