-- ==== Sys2Proof/Machine/RegsNet.lean ====
section
/-! DEFINITION. The registers and state of the ETH, TMG, SVC and BLT blocks: plain data. -/

namespace Sys2Proof.Machine

/-- A classifier rule. -/
structure ClsRule where
  /-- ETH_n_CLS_r_MATCH.ETHERTYPE (R246); CSP -/
  etherType : BitVec 16
  /-- ETH_n_CLS_r_MATCH.VID (R246); CSP -/
  vid : BitVec 12
  /-- ETH_n_CLS_r_MATCH.USE (R246); CSP -/
  use : BitVec 4
  /-- ETH_n_CLS_r_L4.PROTO (R246); CSP -/
  proto : BitVec 8
  /-- ETH_n_CLS_r_L4.PORT (R246); CSP -/
  port : BitVec 16
  /-- ETH_n_CLS_r_ACT.RING (R246); CSP -/
  ring : BitVec 6
deriving DecidableEq, Repr

/-- ClsRule right after reset. -/
def ClsRule.reset : ClsRule where
  etherType := 0
  vid := 0
  use := 0
  proto := 0
  port := 0
  ring := 0

/-- A lane's configuration. -/
structure LaneCfg where
  /-- ETH_n_CFG.LANE_MODE (R236); CSP -/
  laneMode : BitVec 2
  /-- ETH_n_CFG.FEC (R234); CSP -/
  fec : Bool
  /-- ETH_n_CFG.TAG_ALLOW (R241); CSP -/
  tagAllow : BitVec 2
  /-- ETH_n_CFG.ENABLE (R237); CSP -/
  enable : Bool
  /-- ETH_n_CFG.DEFAULT_RING (R246); CSP; 52 + n mod 12 -/
  defaultRing : BitVec 6
  /-- ETH_n_CFG.MAX_FRAME (R241); CSP -/
  maxFrame : BitVec 14
  /-- ETH_n_RX_EXT (R240); CSP -/
  rxExt : BitVec 32
  /-- ETH_n_TX_EXT (R240); CSP -/
  txExt : BitVec 32
  /-- ETH_n_EXT_UNC (R240); CSP -/
  extUnc : BitVec 24
  /-- ETH_n_TPID.TPID_OUTER (R243); CSP -/
  tpidOuter : BitVec 16
  /-- ETH_n_TPID.TPID_INNER (R243); CSP -/
  tpidInner : BitVec 16
  /-- ETH_n_TAG_CFG.STRIP_OUTER (R243); CSP -/
  stripOuter : Bool
  /-- ETH_n_TAG_CFG.STRIP_INNER (R243); CSP -/
  stripInner : Bool
  /-- ETH_n_CAP_CFG.STAGE_REC (R252); CSP -/
  stageRec : BitVec 16
  /-- ETH_n_CAP_CFG.STAGE_HIGH_PCT (R252); CSP -/
  stageHighPct : BitVec 7
  /-- ETH_n_CLS_r (R246); CSP -/
  rules : Vector ClsRule 16
deriving DecidableEq, Repr

/-- LaneCfg right after reset. -/
def LaneCfg.reset : LaneCfg where
  laneMode := 0
  fec := false
  tagAllow := 1
  enable := false
  defaultRing := 52
  maxFrame := 1518
  rxExt := 0
  txExt := 0
  extUnc := 0
  tpidOuter := 0x88A8
  tpidInner := 0x8100
  stripOuter := false
  stripInner := false
  stageRec := 2048
  stageHighPct := 75
  rules := Vector.replicate 16 ClsRule.reset

/-- ETH fields kept in the keep. -/
structure EthCfg where
  /-- ETH_n_CFG.QUAD_MODE, one for each quad (R234); CSP -/
  quadMode : Vector (BitVec 2) 4
  /-- lane windows (R234); CSP -/
  lane : Vector LaneCfg 16
deriving DecidableEq, Repr

/-- EthCfg right after reset. -/
def EthCfg.reset : EthCfg where
  quadMode := Vector.replicate 4 1
  lane := Vector.ofFn fun n => { LaneCfg.reset with defaultRing := BitVec.ofNat 6 (52 + n.val % 12) }

/-- A closed capture interval whose root is still to be computed (R250). -/
structure ClosedIv where
  /-- IV_OPEN (R249) -/
  label : BitVec 96
  /-- REPEAT (R249) -/
  again : Bool
  /-- flag byte at its close (R314) -/
  flags : BitVec 8
  /-- FIRST_SEQ (R250) -/
  first : BitVec 64
  /-- leaf hashes of its records in CAP_SEQ order (R250) -/
  leaves : List (BitVec 256)
deriving DecidableEq, Repr

/-- ClosedIv right after reset. -/
def ClosedIv.reset : ClosedIv where
  label := 0
  again := false
  flags := 0
  first := 0
  leaves := []

/-- A root that a super-root will cover (R251). -/
structure SuperRoot where
  /-- IV_OPEN (R251) -/
  label : BitVec 96
  /-- ROOT (R251) -/
  root : BitVec 256
  /-- FIRST_SEQ (R251) -/
  first : BitVec 64
  /-- COUNT (R251) -/
  count : BitVec 32
  /-- flag byte at the interval's close (R314) -/
  flags : BitVec 8
deriving DecidableEq, Repr

/-- SuperRoot right after reset. -/
def SuperRoot.reset : SuperRoot where
  label := 0
  root := 0
  first := 0
  count := 0
  flags := 0

/-- The external delays of a lane before a change (R240). -/
structure ExtPast where
  /-- tick of the change (R240); model's own -/
  tick : Nat
  /-- RX_EXT_PS before it (R240); model's own -/
  rx : BitVec 32
  /-- TX_EXT_PS before it (R240); model's own -/
  tx : BitVec 32
  /-- EXT_UNC before it (R240); model's own -/
  unc : BitVec 24
deriving DecidableEq, Repr

/-- ExtPast right after reset. -/
def ExtPast.reset : ExtPast where
  tick := 0
  rx := 0
  tx := 0
  unc := 0

/-- A lane at work. -/
structure Lane where
  /-- what ETH_SET_DELAY last replaced, newest first (R240); model's own -/
  extPast : List ExtPast
  /-- ETH_n_STATUS.LINK_UP (R237) -/
  linkUp : Bool
  /-- ETH_n_STATUS.BLOCK_LOCK (R237) -/
  blockLock : Bool
  /-- ETH_n_STATUS.FEC_LOCK (R237) -/
  fecLock : Bool
  /-- ETH_n_STATUS.DELAY_VALID (R239) -/
  delayValid : Bool
  /-- ETH_n_STATUS.CAP_SUSPENDED (R254) -/
  capSusp : Bool
  /-- CAUSE of the suspension: 2 SUSPENDED, 3 POWER_FAIL (R254,R255); model's own -/
  suspCause : BitVec 8
  /-- ETH_n_RX_PHASE (R239) -/
  rxPhasePs : BitVec 16
  /-- ETH_n_CAP_SEQ, low 48 bits (R247) -/
  nextSeq : BitVec 48
  /-- records in staging; STAGE_DEPTH is their number (R252) -/
  stage : List (List (BitVec 32))
  /-- frames lost since staging filled (R253); model's own -/
  lossCount : Nat
  /-- tick time at which the first of them ended (R253); model's own -/
  lossAt : BitVec 96
  /-- EB at that time (R247); model's own -/
  lossEb : BitVec 24
  /-- flag byte at that time (R247); model's own -/
  lossFlags : BitVec 8
  /-- frames counted while capture is suspended (R254); model's own -/
  suspCount : Nat
  /-- time at which the first of them ended (R254); model's own -/
  suspAt : BitVec 96
  /-- EB at that time (R247); model's own -/
  suspEb : BitVec 24
  /-- flag byte at that time (R247); model's own -/
  suspFlags : BitVec 8
  /-- a capture interval is open (R249); model's own -/
  ivOpen : Bool
  /-- its label (R249); model's own -/
  ivLabel : BitVec 96
  /-- its label had already opened an interval (R249); model's own -/
  ivAgain : Bool
  /-- tick at which it opened (R249); model's own -/
  ivTick : Nat
  /-- CAP_SEQ of its first record (R250); model's own -/
  ivFirst : BitVec 64
  /-- leaf hashes of its records, newest first (R250); model's own -/
  ivLeaves : List (BitVec 256)
  /-- the last whole millisecond that has opened an interval (R249); model's own -/
  ivLastMs : Option Nat
  /-- closed intervals whose roots are still to be computed (R250); model's own -/
  closed : List ClosedIv
  /-- roots waiting for a super-root (R251); model's own -/
  supers : List SuperRoot
  /-- the second of the last super-root written (R251,R314); model's own -/
  superSec : Option Nat
  /-- ETH_n_CAP_ROOT.VALID (R57) -/
  rootValid : Bool
  /-- ETH_n_CAP_ROOT.SEQ (R57) -/
  rootSeq : BitVec 16
  /-- ETH_n_CAP_ROOT_IV (R250) -/
  rootIv : BitVec 96
  /-- ETH_n_CAP_ROOT_FIRST (R250) -/
  rootFirst : BitVec 64
  /-- ETH_n_CAP_ROOT_COUNT (R250) -/
  rootCount : BitVec 32
  /-- ETH_n_CAP_ROOT_HASH (R250) -/
  root : BitVec 256
  /-- ETH_n_CNT_i (R257) -/
  cnt : Vector (BitVec 64) 24
deriving DecidableEq, Repr

/-- Lane right after reset. -/
def Lane.reset : Lane where
  extPast := []
  linkUp := false
  blockLock := false
  fecLock := false
  delayValid := false
  capSusp := false
  suspCause := 2
  rxPhasePs := 0
  nextSeq := 0
  stage := []
  lossCount := 0
  lossAt := 0
  lossEb := 0
  lossFlags := 0
  suspCount := 0
  suspAt := 0
  suspEb := 0
  suspFlags := 0
  ivOpen := false
  ivLabel := 0
  ivAgain := false
  ivTick := 0
  ivFirst := 0
  ivLeaves := []
  ivLastMs := none
  closed := []
  supers := []
  superSec := none
  rootValid := false
  rootSeq := 0
  rootIv := 0
  rootFirst := 0
  rootCount := 0
  root := 0
  cnt := Vector.replicate 24 0

/-- The ETH block. -/
structure Eth where
  /-- lane windows (R234) -/
  lanes : Vector Lane 16
  /-- quads whose SerDes PLLs are relocking (R235); model's own -/
  relock : BitVec 4
  /-- ETH_INT_SRC (R259) -/
  intSrc : BitVec 16
deriving DecidableEq, Repr

/-- Eth right after reset. -/
def Eth.reset : Eth where
  lanes := Vector.replicate 16 Lane.reset
  relock := 0
  intSrc := 0

/-- An egress queue's configuration. -/
structure QCfg where
  /-- TMG_Q_q_CFG.SHAPE_EN (R270); CSP -/
  shapeEn : Bool
  /-- TMG_Q_q_CFG.QLIMIT_KB (R260); CSP -/
  qlimitKb : BitVec 10
  /-- TMG_Q_q_IDLE (R270); CSP -/
  idleKbps : BitVec 27
  /-- TMG_Q_q_MAXC (R271); CSP -/
  maxCredit : BitVec 24
deriving DecidableEq, Repr

/-- QCfg right after reset. -/
def QCfg.reset : QCfg where
  shapeEn := false
  qlimitKb := 64
  idleKbps := 0
  maxCredit := 16384

/-- A policer's configuration. -/
structure PolCfg where
  /-- TMG_P_p_FILTER.LANE (R272); CSP -/
  lane : BitVec 4
  /-- TMG_P_p_FILTER.USE (R272); CSP -/
  use : BitVec 4
  /-- TMG_P_p_FILTER.PCP (R272); CSP -/
  pcp : BitVec 3
  /-- TMG_P_p_FILTER.VID (R272); CSP -/
  vid : BitVec 12
  /-- TMG_P_p_FILTER.ENABLE (R272); CSP -/
  enable : Bool
  /-- TMG_P_p_MATCH.ETHERTYPE (R272); CSP -/
  etherType : BitVec 16
  /-- TMG_P_p_MATCH.UDP_PORT (R272); CSP -/
  udpPort : BitVec 16
  /-- TMG_P_p_RATE (R273); CSP -/
  rateKbps : BitVec 27
  /-- TMG_P_p_BURST (R273); CSP -/
  burst : BitVec 24
deriving DecidableEq, Repr

/-- PolCfg right after reset. -/
def PolCfg.reset : PolCfg where
  lane := 0
  use := 0
  pcp := 0
  vid := 0
  enable := false
  etherType := 0
  udpPort := 0
  rateKbps := 0
  burst := 9216

/-- TMG fields kept in the keep. -/
structure TmgCfg where
  /-- TMG_SAMPLE_CFG.SAMPLE_EN (R275); CSP -/
  sampleEn : Bool
  /-- TMG_SAMPLE_CFG.SOJOURN_ALARM_US (R275); CSP -/
  sojournUs : BitVec 16
  /-- queue windows (R260); CSP -/
  q : Vector QCfg 128
  /-- policer windows (R272); CSP -/
  p : Vector PolCfg 256
deriving DecidableEq, Repr

/-- TmgCfg right after reset. -/
def TmgCfg.reset : TmgCfg where
  sampleEn := true
  sojournUs := 0
  q := Vector.replicate 128 QCfg.reset
  p := Vector.replicate 256 PolCfg.reset

/-- A service message, by the fields this specification gives it (R284 to R307). -/
structure SvcMsg where
  /-- what it is (R280,R282) -/
  kind : SvcKind
  /-- its lane (R283) -/
  port : BitVec 4
  /-- the client it is sent to; 0 where multicast (R287) -/
  dst : BitVec 128
  /-- requestingPortIdentity, or the port a Signaling message is for (R284,R287) -/
  reqPort : BitVec 80
  /-- sequence number (R284); model's own -/
  seq : BitVec 16
  /-- the time it carries: SECONDS and NANOSECONDS (R284) -/
  time : BitVec 96
  /-- correctionField (R284) -/
  cf : BitVec 64
  /-- twoStepFlag (R284) -/
  twoStep : Bool
  /-- it carries time, so that R289 holds for it (R289); model's own -/
  gateTime : Bool
  /-- clockClass (R285) -/
  annClass : BitVec 8
  /-- clockAccuracy (R286) -/
  annAcc : BitVec 8
  /-- offsetScaledLogVariance (R285) -/
  annVar : BitVec 16
  /-- priority1 (R283) -/
  prio1 : BitVec 8
  /-- priority2 (R285) -/
  prio2 : BitVec 8
  /-- currentUtcOffset (R285) -/
  utcOff : BitVec 16
  /-- timeSource (R286) -/
  source : BitVec 8
  /-- [0] ptpTimescale, [1] currentUtcOffsetValid, [2] timeTraceable, [3] frequencyTraceable, [4] leap61, [5] leap59 (R286); model's own packing -/
  aflags : BitVec 8
  /-- message type granted or cancelled: 0 Announce, 1 Sync, 2 Delay_Resp (R287) -/
  gType : BitVec 4
  /-- logInterMessagePeriod granted (R287) -/
  gPeriod : BitVec 8
  /-- durationField granted, in seconds (R287) -/
  gDur : BitVec 16
  /-- LI (R296) -/
  li : BitVec 2
  /-- VN (R296) -/
  vn : BitVec 3
  /-- Poll (R296) -/
  poll : BitVec 8
  /-- Stratum (R296) -/
  stratum : BitVec 4
  /-- Precision (R296) -/
  precision : BitVec 8
  /-- Root Dispersion (R296) -/
  disp : BitVec 32
  /-- Reference ID (R296) -/
  refId : BitVec 32
  /-- Reference Timestamp (R296) -/
  refTs : BitVec 64
  /-- Origin Timestamp (R296) -/
  orgTs : BitVec 64
  /-- Receive Timestamp (R296) -/
  rxTs : BitVec 64
  /-- Transmit Timestamp (R296,R302) -/
  txTs : BitVec 64
  /-- Unique Identifier (R298) -/
  uid : List (BitVec 8)
  /-- new cookies minted (R298) -/
  cookies : BitVec 4
  /-- KEYID they are minted under (R298) -/
  cookieKey : BitVec 32
  /-- the new cookies (R298,R299) -/
  jar : List (List (BitVec 8))
  /-- the S2C key that seals its Authenticator (R298) -/
  s2c : BitVec 256
  /-- nonce of its Authenticator (R298) -/
  nonce : BitVec 128
  /-- ciphertext of its Authenticator, the synthetic IV first (R298) -/
  sealed : List (BitVec 8)
  /-- it carries an AUTHENTICATION TLV or an NTS Authenticator (R290,R298) -/
  auth : Bool
  /-- SPP (R290) -/
  spp : BitVec 4
  /-- algorithm of the key (R291) -/
  alg : BitVec 2
  /-- keyID (R290) -/
  keyId : BitVec 32
  /-- sequenceNo, AES-GMAC-128 only (R290,R292) -/
  seqNo : BitVec 32
  /-- ICV, or the Authenticator's tag (R291) -/
  icv : BitVec 128
  /-- it carries the bound TLV or field (R307) -/
  bound : Bool
  /-- EB of the bound (R306,R307) -/
  bEb : BitVec 24
  /-- flag byte of the bound (R307) -/
  bFlags : BitVec 8
  /-- ACCORD_STATE of the bound (R307) -/
  bState : BitVec 3
  /-- clockClass of the bound (R307) -/
  bClass : BitVec 8
deriving DecidableEq, Repr

/-- SvcMsg right after reset. -/
def SvcMsg.reset : SvcMsg where
  kind := .sync
  port := 0
  dst := 0
  reqPort := 0
  seq := 0
  time := 0
  cf := 0
  twoStep := false
  gateTime := false
  annClass := 0
  annAcc := 0
  annVar := 0
  prio1 := 0
  prio2 := 0
  utcOff := 0
  source := 0
  aflags := 0
  gType := 0
  gPeriod := 0
  gDur := 0
  li := 0
  vn := 0
  poll := 0
  stratum := 0
  precision := 0
  disp := 0
  refId := 0
  refTs := 0
  orgTs := 0
  rxTs := 0
  txTs := 0
  uid := []
  cookies := 0
  cookieKey := 0
  jar := []
  s2c := 0
  nonce := 0
  sealed := []
  auth := false
  spp := 0
  alg := 0
  keyId := 0
  seqNo := 0
  icv := 0
  bound := false
  bEb := 0
  bFlags := 0
  bState := 0
  bClass := 0

/-- An entry of a gate control list. -/
structure GclEntry where
  /-- GATES (R262) -/
  gates : BitVec 8
  /-- INTERVAL_NS (R262) -/
  ns : BitVec 32
deriving DecidableEq, Repr

/-- GclEntry right after reset. -/
def GclEntry.reset : GclEntry where
  gates := 0
  ns := 0

/-- A gate control list (R262). -/
structure Gcl where
  /-- TMG_n_OPER/ADMIN.ENTRIES (R262) -/
  entries : BitVec 9
  /-- CYCLE_NS (R262) -/
  cycle : BitVec 30
  /-- SLOT_NS (R268) -/
  slot : BitVec 20
  /-- BASE_TIME (R262) -/
  base : BitVec 96
  /-- TMG_n_OPER_e, TMG_n_ADMIN_e (R262) -/
  ent : Vector GclEntry 256
deriving DecidableEq, Repr

/-- Gcl right after reset. -/
def Gcl.reset : Gcl where
  entries := 0
  cycle := 0
  slot := 1000
  base := 0
  ent := Vector.replicate 256 GclEntry.reset

/-- A frame in an egress queue. -/
structure TxFrame where
  /-- the frame's own number (R260); model's own -/
  id : Nat
  /-- it came from a host descriptor (R244) -/
  host : Bool
  /-- its bytes from the destination address, tags and padding in place, without FCS (R242) -/
  bytes : List (BitVec 8)
  /-- W, its length on the wire in bytes (R242) -/
  wire : Nat
  /-- T, tags inserted (R242) -/
  tags : Nat
  /-- INS_MODE (R245) -/
  insMode : BitVec 2
  /-- INS_OFFSET (R245) -/
  insOff : BitVec 14
  /-- CF_OFFSET (R245) -/
  cfOff : BitVec 14
  /-- CSUM_OFFSET (R245) -/
  csumOff : BitVec 14
  /-- TS_REQ (R244) -/
  tsReq : Bool
  /-- COOKIE (R244) -/
  cookie : BitVec 16
  /-- slot of ring 36 + L that holds its descriptor (R244); model's own -/
  slotIdx : Nat
  /-- tick at which it was enqueued (R276) -/
  enqTick : Nat
  /-- the service message it carries (R284) -/
  msg : Option SvcMsg
  /-- S, the committed instant in 2^-16 ns (R302) -/
  commit : Option Nat
  /-- attempts before this one (R305) -/
  attempt : Nat
  /-- EB_ACCORD used in its bound (R304) -/
  signedEb : Nat
deriving DecidableEq, Repr

/-- TxFrame right after reset. -/
def TxFrame.reset : TxFrame where
  id := 0
  host := false
  bytes := []
  wire := 0
  tags := 0
  insMode := 0
  insOff := 0
  cfOff := 0
  csumOff := 0
  tsReq := false
  cookie := 0
  slotIdx := 0
  enqTick := 0
  msg := none
  commit := none
  attempt := 0
  signedEb := 0

/-- A booked commit slot (R268). -/
structure Booking where
  /-- the slot instant, in 2^-16 ns (R268) -/
  slot : Nat
  /-- W of its frame (R268) -/
  wire : Nat
  /-- its frame's number (R268); model's own -/
  id : Nat
deriving DecidableEq, Repr

/-- Booking right after reset. -/
def Booking.reset : Booking where
  slot := 0
  wire := 0
  id := 0

/-- A lane's gates. -/
structure TmgLane where
  /-- the OPER list (R262) -/
  oper : Gcl
  /-- the ADMIN list (R262) -/
  admin : Gcl
  /-- TMG_n_ADMIN.ADMIN_READY (R266) -/
  adminReady : Bool
  /-- ADMIN entries written since the last LAST (R266); model's own -/
  written : BitVec 256
  /-- TMG_n_SWAP.SWAP_PENDING (R267) -/
  swapPend : Bool
  /-- TMG_n_SWAP.SWAP_SKEW (R267) -/
  swapSkew : Bool
  /-- TMG_n_SWAP.SWAP_SEQ (R267) -/
  swapSeq : BitVec 16
  /-- TMG_n_SWAP_AT (R267) -/
  swapAt : BitVec 96
  /-- TMG_n_STATE.GATES (R263) -/
  gates : BitVec 8
  /-- TMG_n_STATE.ENTRY (R263) -/
  entry : BitVec 8
  /-- TMG_n_STATE.SVC_CLASSES (R277,R301) -/
  svcClasses : BitVec 8
  /-- TMG_n_STEP_OVERLAP (R263) -/
  stepOverlap : BitVec 32
  /-- TMG_n_COMMIT_MISS (R269) -/
  commitMiss : BitVec 32
  /-- booked slots (R268); model's own -/
  bookings : List Booking
  /-- the frame in transmission (R264); model's own -/
  wireFrame : Option TxFrame
  /-- its class (R264); model's own -/
  wireClass : BitVec 3
  /-- end of its occupancy, in 2^-16 ns of the accord (R264); model's own -/
  wireUntil : Nat
  /-- the service gate was open as its SFD crossed (R289); model's own -/
  wireGate : Bool
  /-- tick at which its last bit has crossed the ball (R244); model's own -/
  wireEnd : Nat
  /-- tick at which its occupancy ends (R264); model's own -/
  wireFree : Nat
  /-- its transmit stamp (R238); model's own -/
  wireStamp : BitVec 96
  /-- EB of that stamp (R240); model's own -/
  wireEb : BitVec 24
  /-- flag byte of that stamp (R240); model's own -/
  wireFlags : BitVec 8
deriving DecidableEq, Repr

/-- TmgLane right after reset. -/
def TmgLane.reset : TmgLane where
  oper := Gcl.reset
  admin := Gcl.reset
  adminReady := false
  written := 0
  swapPend := false
  swapSkew := false
  swapSeq := 0
  swapAt := 0
  gates := 0xFF
  entry := 0
  svcClasses := 0x80
  stepOverlap := 0
  commitMiss := 0
  bookings := []
  wireFrame := none
  wireClass := 0
  wireUntil := 0
  wireGate := false
  wireEnd := 0
  wireFree := 0
  wireStamp := 0
  wireEb := 0
  wireFlags := 0

/-- An egress queue at work. -/
structure TmgQ where
  /-- TMG_Q_q_CREDIT, kept in 2^-16 bit (R270) -/
  credit : Int
  /-- frames waiting, oldest first (R260) -/
  frames : List TxFrame
  /-- TMG_Q_q_DROP (R260,R277) -/
  qDrop : BitVec 32
  /-- TMG_Q_q_WOVR (R265) -/
  wovr : BitVec 32
  /-- TMG_Q_q_SAMPLE.VALID (R57) -/
  sValid : Bool
  /-- TMG_Q_q_SAMPLE.SEQ (R275) -/
  sSeq : BitVec 16
  /-- TMG_Q_q_S_DEPTH (R275) -/
  sDepth : BitVec 20
  /-- TMG_Q_q_S_MAXD (R275) -/
  sMaxDepth : BitVec 20
  /-- TMG_Q_q_S_SOJ (R276) -/
  sSojNs : BitVec 32
  /-- TMG_Q_q_S_DEP (R275) -/
  sDep : BitVec 32
  /-- largest depth of the interval under way (R275); model's own -/
  maxDepth : Nat
  /-- largest sojourn of the interval under way (R276); model's own -/
  maxSojTicks : Nat
  /-- departures of the interval under way (R275); model's own -/
  departed : Nat
  /-- INT_TMG_SHAPER_STALL raised for the present stall (R271); model's own -/
  stallTold : Bool
deriving DecidableEq, Repr

/-- TmgQ right after reset. -/
def TmgQ.reset : TmgQ where
  credit := 0
  frames := []
  qDrop := 0
  wovr := 0
  sValid := false
  sSeq := 0
  sDepth := 0
  sMaxDepth := 0
  sSojNs := 0
  sDep := 0
  maxDepth := 0
  maxSojTicks := 0
  departed := 0
  stallTold := false

/-- A policer at work. -/
structure Pol where
  /-- TMG_P_p_TOKENS, kept in 1/125,000 byte (R273) -/
  tokens : Nat
  /-- TMG_P_p_PASS (R273) -/
  pass : BitVec 64
  /-- TMG_P_p_DROPF (R273) -/
  dropF : BitVec 64
  /-- TMG_P_p_DROPB (R273) -/
  dropB : BitVec 64
  /-- TMG_P_p_DROPG (R274) -/
  dropG : BitVec 64
deriving DecidableEq, Repr

/-- Pol right after reset. -/
def Pol.reset : Pol where
  tokens := 0
  pass := 0
  dropF := 0
  dropB := 0
  dropG := 0

/-- The TMG block. -/
structure Tmg where
  /-- lane windows (R262) -/
  lanes : Vector TmgLane 16
  /-- queue windows (R260) -/
  q : Vector TmgQ 128
  /-- policer windows (R272) -/
  p : Vector Pol 256
  /-- TMG_INT_SRC (R279) -/
  intSrc : BitVec 16
  /-- number of the next frame enqueued (R260); model's own -/
  nextId : Nat
  /-- the last millisecond sampled (R275); model's own -/
  lastMs : Option Nat
deriving DecidableEq, Repr

/-- Tmg right after reset. -/
def Tmg.reset : Tmg where
  lanes := Vector.replicate 16 TmgLane.reset
  q := Vector.replicate 128 TmgQ.reset
  p := Vector.replicate 256 Pol.reset
  intSrc := 0
  nextId := 0
  lastMs := none

/-- A PTP port's configuration. -/
structure PortCfg where
  /-- SVC_PORT_k_CFG.ENABLE (R283); CSP -/
  enable : Bool
  /-- SVC_PORT_k_CFG.PROFILE (R283); CSP -/
  profile : BitVec 2
  /-- SVC_PORT_k_CFG.TRANSPORT (R283); CSP -/
  transport : BitVec 2
  /-- SVC_PORT_k_CFG.TWO_STEP (R284); CSP -/
  twoStep : Bool
  /-- SVC_PORT_k_CFG.AUTH (R293); CSP -/
  auth : Bool
  /-- SVC_PORT_k_CFG.L2_NONFWD (R283); CSP -/
  l2NonFwd : Bool
  /-- SVC_PORT_k_CFG.DOMAIN (R283); CSP; the default of profile 0 -/
  domain : BitVec 8
  /-- SVC_PORT_k_CFG.SPP (R293); CSP -/
  spp : BitVec 4
  /-- SVC_PORT_k_CFG.SLAVE_SPP (R281); CSP -/
  slaveSpp : BitVec 4
  /-- SVC_PORT_k_RATES.LOG_SYNC (R283); CSP -/
  logSync : BitVec 8
  /-- SVC_PORT_k_RATES.LOG_ANNOUNCE (R283); CSP -/
  logAnnounce : BitVec 8
  /-- SVC_PORT_k_RATES.LOG_MIN_DELAY_REQ (R283); CSP -/
  logMinDelay : BitVec 8
  /-- SVC_PORT_k_MAC (R312); CSP -/
  mac : BitVec 48
  /-- SVC_PORT_k_IP4 (R312); CSP -/
  ip4 : BitVec 32
  /-- SVC_PORT_k_IP6 (R312); CSP -/
  ip6 : BitVec 128
deriving DecidableEq, Repr

/-- PortCfg right after reset. -/
def PortCfg.reset : PortCfg where
  enable := false
  profile := 0
  transport := 0
  twoStep := false
  auth := false
  l2NonFwd := false
  domain := 0
  spp := 0
  slaveSpp := 0
  logSync := 0
  logAnnounce := 1
  logMinDelay := 0
  mac := 0
  ip4 := 0
  ip6 := 0

/-- A security parameter pointer's configuration. -/
structure SppCfg where
  /-- SVC_SPP_s_CFG.ACTIVE_POS (R294); CSP -/
  activeB : Bool
  /-- SVC_SPP_s_CFG.CF_MASK (R291); CSP -/
  cfMask : Bool
  /-- SVC_SPP_s_CFG.ACCEPT_OLD_S (R294); CSP -/
  acceptOldS : BitVec 16
  /-- SVC_SPP_s_A_ID (R294); CSP -/
  aId : BitVec 32
  /-- SVC_SPP_s_A_KEY.KEY_SLOT (R294); CSP -/
  aSlot : BitVec 8
  /-- SVC_SPP_s_A_KEY.ALG (R291); CSP -/
  aAlg : BitVec 2
  /-- SVC_SPP_s_B_ID (R294); CSP -/
  bId : BitVec 32
  /-- SVC_SPP_s_B_KEY.KEY_SLOT (R294); CSP -/
  bSlot : BitVec 8
  /-- SVC_SPP_s_B_KEY.ALG (R291); CSP -/
  bAlg : BitVec 2
deriving DecidableEq, Repr

/-- SppCfg right after reset. -/
def SppCfg.reset : SppCfg where
  activeB := false
  cfMask := false
  acceptOldS := 60
  aId := 0
  aSlot := 0
  aAlg := 0
  bId := 0
  bSlot := 0
  bAlg := 0

/-- SVC fields kept in the keep. -/
structure SvcCfg where
  /-- SVC_GATE_CFG (R288); CSP -/
  ebMaxNs : BitVec 18
  /-- SVC_COMMIT_CFG.COMMIT_TOL_PS (R304); CSP -/
  tolPs : BitVec 13
  /-- SVC_COMMIT_CFG.COMMIT_RETRY (R305); CSP -/
  retry : BitVec 3
  /-- SVC_COMMIT_CFG.SVC_CLASS (R301); CSP -/
  svcClass : BitVec 3
  /-- SVC_COMMIT_LEAD (R302); CSP -/
  leadNs : BitVec 20
  /-- SVC_CLOCK_ID; none reads the fused EUI-64 (R283); CSP -/
  clockId : Option (BitVec 64)
  /-- SVC_PROFILE_CFG.PRIORITY1 (R283); CSP -/
  priority1 : BitVec 8
  /-- SVC_PROFILE_CFG.PRIORITY2 (R285); CSP -/
  priority2 : BitVec 8
  /-- SVC_PROFILE_CFG.CLASS_SECONDARY (R285); CSP -/
  classSec : BitVec 8
  /-- SVC_PROFILE_CFG.SRC_TIMESOURCE (R286); CSP -/
  timeSource : BitVec 8
  /-- SVC_AUTH_CFG.SIDE (R292); CSP -/
  side : Bool
  /-- SVC_NTP_LANES.NTP (R296); CSP -/
  ntpLanes : BitVec 16
  /-- SVC_NTP_LANES.NTS (R297); CSP -/
  ntsLanes : BitVec 16
  /-- SVC_NTP_CFG.NAK_EN (R300); CSP -/
  nakEn : Bool
  /-- SVC_NTP_CFG.KOD_RATE (R300); CSP -/
  kodRate : Bool
  /-- SVC_NTP_CFG.STRATUM_SECONDARY (R296); CSP -/
  stratumSec : BitVec 4
  /-- SVC_NTP_REFID (R296); CSP -/
  refId : BitVec 32
  /-- SVC_RATE_CFG.RATE_PPS (R310); CSP -/
  ratePps : BitVec 16
  /-- SVC_RATE_CFG.BURST (R310); CSP -/
  burst : BitVec 16
  /-- SVC_CLIENT_AGE (R309); CSP -/
  clientAgeS : BitVec 17
  /-- SVC_GRANT_MAX (R287); CSP -/
  grantMax : BitVec 32
  /-- SVC_BOUND_CFG.PTP_EN (R307); CSP -/
  boundPtp : Bool
  /-- SVC_BOUND_CFG.NTP_EN (R307); CSP -/
  boundNtp : Bool
  /-- SVC_BOUND_CFG.ORG_ID (R307); CSP -/
  orgId : BitVec 24
  /-- SVC_BOUND_EF (R307); CSP -/
  efType : BitVec 16
  /-- port windows (R283); CSP -/
  ports : Vector PortCfg 16
  /-- SPP windows (R294); CSP -/
  spp : Vector SppCfg 16
deriving DecidableEq, Repr

/-- SvcCfg right after reset. -/
def SvcCfg.reset : SvcCfg where
  ebMaxNs := 1000
  tolPs := 500
  retry := 3
  svcClass := 6
  leadNs := 10000
  clockId := none
  priority1 := 128
  priority2 := 128
  classSec := 52
  timeSource := 0x90
  side := false
  ntpLanes := 0
  ntsLanes := 0
  nakEn := true
  kodRate := false
  stratumSec := 2
  refId := 0x50505300
  ratePps := 16
  burst := 8
  clientAgeS := 3600
  grantMax := 1000000
  boundPtp := false
  boundNtp := false
  orgId := 0
  efType := 0
  ports := Vector.replicate 16 PortCfg.reset
  spp := Vector.replicate 16 SppCfg.reset

/-- A security parameter pointer at work. -/
structure Spp where
  /-- SVC_SPP_s_CFG.ROLL_PENDING (R294) -/
  rollPending : Bool
  /-- SVC_SPP_s_ROLL_AT (R294) -/
  rollAt : BitVec 96
  /-- SVC_SPP_s_CFG.KEY_LOST (R295) -/
  keyLost : Bool
  /-- SVC_SPP_s_CFG.GMAC_EXHAUSTED (R292) -/
  exhausted : Bool
  /-- SVC_SPP_s_SEQ_A (R292) -/
  seqA : BitVec 31
  /-- SVC_SPP_s_SEQ_B (R292) -/
  seqB : BitVec 31
  /-- tick at which the old position is emptied (R294); model's own -/
  oldUntil : Option Nat
  /-- the old position is B (R294); model's own -/
  oldB : Bool
deriving DecidableEq, Repr

/-- Spp right after reset. -/
def Spp.reset : Spp where
  rollPending := false
  rollAt := 0
  keyLost := false
  exhausted := false
  seqA := 0
  seqB := 0
  oldUntil := none
  oldB := false

/-- A cookie-key entry (R300). -/
structure Cookie where
  /-- SVC_CK_c_ID (R300) -/
  keyId : BitVec 32
  /-- SVC_CK_c_STATE (R300) -/
  state : BitVec 2
  /-- SVC_CK_c_FPRINT (R300) -/
  fprint : BitVec 64
  /-- SVC_CK_c_USES (R300) -/
  uses : BitVec 64
  /-- the key (R300) -/
  key : BitVec 256
deriving DecidableEq, Repr

/-- Cookie right after reset. -/
def Cookie.reset : Cookie where
  keyId := 0
  state := 0
  fprint := 0
  uses := 0
  key := 0

/-- A client table entry (R308). -/
structure Client where
  /-- its place in the table (R308,R312) -/
  idx : BitVec 20
  /-- ADDR (R308) -/
  addr : BitVec 128
  /-- LANE (R308) -/
  lane : BitVec 4
  /-- KIND (R308) -/
  kind : BitVec 3
  /-- GRANT (R308) -/
  grant : Bool
  /-- SPP or cookie-table index of the last request (R308) -/
  sppIdx : BitVec 8
  /-- TOKENS, in 1/16 request (R308) -/
  tokens : BitVec 16
  /-- tick up to which tokens have accrued (R310); model's own -/
  tokTick : Nat
  /-- LAST_SEEN (R308) -/
  lastSeen : BitVec 32
  /-- tick of the last request (R309); model's own -/
  seenTick : Nat
  /-- SRC_PORT (R308) -/
  srcPort : BitVec 16
  /-- GRANT_SYNC (R308) -/
  grantSync : BitVec 8
  /-- GRANT_TYPES (R308) -/
  grantTypes : BitVec 8
  /-- the tick at which each granted message type lapses (R287,R308); model's own -/
  grantEnd : List (Nat × Nat)
  /-- the granted logInterMessagePeriod of each type (R287); model's own -/
  grantRates : List (Nat × BitVec 8)
  /-- DROPS (R308) -/
  drops : BitVec 16
  /-- tick of the last Kiss-o'-Death or NAK sent (R300); model's own -/
  kodTick : Option Nat
deriving DecidableEq, Repr

/-- Client right after reset. -/
def Client.reset : Client where
  idx := 0
  addr := 0
  lane := 0
  kind := 0
  grant := false
  sppIdx := 0
  tokens := 0
  tokTick := 0
  lastSeen := 0
  seenTick := 0
  srcPort := 0
  grantSync := 0
  grantTypes := 0
  grantEnd := []
  grantRates := []
  drops := 0
  kodTick := none

/-- A two-step Sync that has left and whose Follow_Up is still to be built (R284). -/
structure SyncSent where
  /-- its sequence number (R284) -/
  seq : BitVec 16
  /-- whom it went to; 0 where multicast (R284) -/
  dst : BitVec 128
  /-- its transmit stamp (R284) -/
  time : BitVec 96
  /-- EB of that stamp (R307) -/
  eb : BitVec 24
deriving DecidableEq, Repr

/-- SyncSent right after reset. -/
def SyncSent.reset : SyncSent where
  seq := 0
  dst := 0
  time := 0
  eb := 0

/-- A PTP port at work. -/
structure Port where
  /-- two-step Syncs whose Follow_Up is to be built (R284); model's own -/
  sent : List SyncSent
  /-- requests the port's engine has still to answer, in CLK_CORE ticks × requests per second (R311); model's own -/
  load : Nat
  /-- tick up to which it has answered (R311); model's own -/
  loadTick : Nat
  /-- SVC_PORT_k_CNT_i (R312) -/
  cnt : Vector (BitVec 64) 18
  /-- sequence number of the next Sync (R284); model's own -/
  syncSeq : BitVec 16
  /-- sequence number of the next Announce (R284); model's own -/
  annSeq : BitVec 16
deriving DecidableEq, Repr

/-- Port right after reset. -/
def Port.reset : Port where
  sent := []
  load := 0
  loadTick := 0
  cnt := Vector.replicate 18 0
  syncSeq := 0
  annSeq := 0

/-- The SVC block. -/
structure Svc where
  /-- SVC_STATUS.GATE_OPEN (R288) -/
  gateOpen : Bool
  /-- SVC_STATUS.CLOCK_CLASS (R285) -/
  clockClass : BitVec 8
  /-- SVC_STATUS.CLOCK_ACCURACY (R286) -/
  clockAcc : BitVec 8
  /-- tick at which a client last found no entry; TABLE_FULL for one second (R309) -/
  fullTick : Option Nat
  /-- occupied entries in rising table order; SVC_CLIENTS is their number (R308,R309) -/
  clients : List Client
  /-- SVC_INT_SRC (R313) -/
  intSrc : BitVec 16
  /-- SVC_LAST_COMMIT.VALID (R57) -/
  lcValid : Bool
  /-- SVC_LAST_COMMIT.ABORTED (R304) -/
  lcAborted : Bool
  /-- SVC_LAST_COMMIT.LANE (R304) -/
  lcLane : BitVec 4
  /-- SVC_LAST_COMMIT.RETRY (R305) -/
  lcRetry : BitVec 3
  /-- SVC_LAST_COMMIT.SEQ (R57) -/
  lcSeq : BitVec 16
  /-- SVC_LAST_COMMIT_AT (R304) -/
  lcAt : BitVec 96
  /-- SVC_LAST_COMMIT_RES (R304) -/
  lcResPs : BitVec 32
  /-- SVC_LAST_COMMIT_EB.EB (R306) -/
  lcEb : BitVec 24
  /-- SVC_LAST_COMMIT_EB.FLAGS (R306) -/
  lcFlags : BitVec 8
  /-- port windows (R283) -/
  ports : Vector Port 16
  /-- SPP windows (R294) -/
  spp : Vector Spp 16
  /-- cookie-key windows (R300) -/
  cookies : Vector Cookie 8
  /-- which draw of the hash key is in force (R309); model's own -/
  bootSeed : Nat
deriving DecidableEq, Repr

/-- Svc right after reset. -/
def Svc.reset : Svc where
  gateOpen := false
  clockClass := 248
  clockAcc := 0xFE
  fullTick := none
  clients := []
  intSrc := 0
  lcValid := false
  lcAborted := false
  lcLane := 0
  lcRetry := 0
  lcSeq := 0
  lcAt := 0
  lcResPs := 0
  lcEb := 0xFFFFFF
  lcFlags := 1
  ports := Vector.replicate 16 Port.reset
  spp := Vector.replicate 16 Spp.reset
  cookies := Vector.replicate 8 Cookie.reset
  bootSeed := 0

/-- A self-test in progress (R416). -/
structure BistRun where
  /-- targets (R416) -/
  mask : BitVec 6
  /-- quad mask for bit 3 (R417) -/
  quads : BitVec 4
  /-- output mask for bit 5 (R417) -/
  outs : BitVec 16
  /-- tick at which the run started (R416); model's own -/
  start : Nat
deriving DecidableEq, Repr

/-- BistRun right after reset. -/
def BistRun.reset : BistRun where
  mask := 0
  quads := 0
  outs := 0
  start := 0

/-- The BLT block. -/
structure Blt where
  /-- BLT_STATUS.SCAN_ACTIVE (R413) -/
  scanActive : Bool
  /-- BLT_SEL.SEL (R412) -/
  sel : BitVec 8
  /-- BLT_SEL.ARG (R412) -/
  arg : BitVec 8
  /-- tick from which the test balls carry the selected node (R412); model's own -/
  selAt : Nat
  /-- BLT_UNLOCK.UNLOCKED (R411) -/
  unlocked : BitVec 3
  /-- BLT_PROBE_COUNT (R414) -/
  probes : BitVec 32
  /-- the running self-test; BLT_STATUS.BIST_BUSY (R416) -/
  bist : Option BistRun
  /-- BLT_BIST_RESULT.VALID (R57) -/
  bistValid : Bool
  /-- BLT_BIST_RESULT.STATUS (R416) -/
  bistStatus : BitVec 2
  /-- BLT_BIST_RESULT.SEQ (R57) -/
  bistSeq : BitVec 16
  /-- BLT_BIST_FAIL (R416) -/
  bistFail : BitVec 6
  /-- the TAP's instruction register: 0xFF BYPASS (R413,R414); model's own -/
  ir : BitVec 8
deriving DecidableEq, Repr

/-- Blt right after reset. -/
def Blt.reset : Blt where
  scanActive := false
  sel := 0
  arg := 0
  selAt := 0
  unlocked := 0
  probes := 0
  bist := none
  bistValid := false
  bistStatus := 0
  bistSeq := 0
  bistFail := 0
  ir := 0xFF

end Sys2Proof.Machine
end

