-- ==== Sys2Proof/Machine/RegsTop.lean ====
section
/-! DEFINITION. The keep and the sum of the CSP fields. -/

namespace Sys2Proof.Machine

/-- Every field of class CSP (R12), as the registers hold it and as the keep holds it. -/
structure Csp where
  /-- SYS fields (R71) -/
  sys : SysCfg
  /-- REF fields (R95) -/
  ref : RefCfg
  /-- ACD fields (R123) -/
  acd : AcdCfg
  /-- GNS fields (R150) -/
  gns : GnsCfg
  /-- TIC fields (R181) -/
  tic : TicCfg
  /-- OUT fields (R207) -/
  out : OutCfg
  /-- ETH fields (R234) -/
  eth : EthCfg
  /-- TMG fields (R260) -/
  tmg : TmgCfg
  /-- SVC fields (R283) -/
  svc : SvcCfg
  /-- LOG fields (R325) -/
  log : LogCfg
  /-- FLT fields (R358) -/
  flt : FltCfg
  /-- PAIR fields (R370) -/
  pair : PairCfg
  /-- MON fields (R386) -/
  mon : MonCfg
  /-- KEEP fields (R399) -/
  keep : KeepCfg
  /-- CAL fields (R402) -/
  cal : CalCfg
deriving DecidableEq, Repr

/-- Csp right after reset. -/
def Csp.reset : Csp where
  sys := SysCfg.reset
  ref := RefCfg.reset
  acd := AcdCfg.reset
  gns := GnsCfg.reset
  tic := TicCfg.reset
  out := OutCfg.reset
  eth := EthCfg.reset
  tmg := TmgCfg.reset
  svc := SvcCfg.reset
  log := LogCfg.reset
  flt := FltCfg.reset
  pair := PairCfg.reset
  mon := MonCfg.reset
  keep := KeepCfg.reset
  cal := CalCfg.reset

/-- The keep and the KEEP block. -/
structure Keep where
  /-- the committed CSP image; none where no CSP row was ever committed (R393,R394) -/
  image : Option Csp
  /-- KEEP_STATUS.RESTORED (R394) -/
  restored : Bool
  /-- KEEP_STATUS.BLANK (R394) -/
  blank : Bool
  /-- KEEP_STATUS.RO (R397) -/
  ro : Bool
  /-- KEEP_STATUS.SCRUB_BUSY (R399) -/
  scrubBusy : Bool
  /-- the power-fail warning has cut the running scrub short (R395); model's own -/
  scrubCut : Bool
  /-- KEEP_COMMIT (R393) -/
  commitSeq : BitVec 32
  /-- KEEP_SCRUB_RESULT.VALID (R57) -/
  scrubValid : Bool
  /-- KEEP_SCRUB_RESULT.OK (R399) -/
  scrubOk : Bool
  /-- KEEP_SCRUB_RESULT.SEQ (R57) -/
  scrubSeq : BitVec 16
  /-- KEEP_SCRUB_COUNTS.CORRECTED (R399) -/
  scrubCorrected : BitVec 16
  /-- KEEP_SCRUB_COUNTS.SPARED (R399) -/
  scrubSpared : BitVec 16
  /-- KEEP_WRITES (R396) -/
  writes : BitVec 64
  /-- KEEP_VERIFY_FAIL (R396) -/
  verifyFail : BitVec 32
  /-- KEEP_CORRECTED (R394) -/
  corrected : BitVec 32
  /-- KEEP_UNCORR (R394) -/
  uncorr : BitVec 32
  /-- KEEP_RO_SKIPS (R397) -/
  roSkips : BitVec 32
  /-- KEEP_PFW_REFUSED (R395) -/
  pfwRefused : BitVec 32
  /-- KEEP_REMAP_s (R396) -/
  remap : Vector Remap 128
  /-- the chain-head slot that wins at boot (R320,R321) -/
  headSlot : Option HeadSlot
  /-- the older slots of the chain-head ring, newest first, at most 63 (R320,R398) -/
  headOlder : List HeadSlot
  /-- rows of which no valid copy was found since boot (R394); model's own -/
  lost : List (BitVec 10)
  /-- epoch slots E0 and E1 (R347) -/
  epochs : Vector EpochSlot 2
  /-- highest valid COMMIT_SEQ of the key commit ring (R347) -/
  keyCommit : BitVec 32
  /-- SEAL_CHECK (R329) -/
  sealCheck : BitVec 64
  /-- SEAL_GEN (R329) -/
  sealGen : BitVec 32
  /-- WRAP_COUNT (R343); register reset Keep; DESIGN CHOICE 0 (log 5) -/
  wrapCount : BitVec 32
  /-- GMAC reservation marks, one for each SPP position (R292) -/
  gmacMark : Vector Nat 32
  /-- the converters' table rows (R184,R186) -/
  ticTables : Vector TicTable 36
  /-- CAP_EPOCH of each quad (R247) -/
  capEpoch : Vector (BitVec 16) 4
  /-- tick of the last scrub's start (R399); model's own -/
  lastScrub : Nat
deriving DecidableEq, Repr

/-- Keep right after reset. -/
def Keep.reset : Keep where
  image := none
  restored := false
  blank := false
  ro := false
  scrubBusy := false
  scrubCut := false
  commitSeq := 0
  scrubValid := false
  scrubOk := false
  scrubSeq := 0
  scrubCorrected := 0
  scrubSpared := 0
  writes := 0
  verifyFail := 0
  corrected := 0
  uncorr := 0
  roSkips := 0
  pfwRefused := 0
  remap := Vector.replicate 128 Remap.reset
  headSlot := none
  headOlder := []
  lost := []
  epochs := Vector.replicate 2 EpochSlot.reset
  keyCommit := 0
  sealCheck := 0
  sealGen := 0
  wrapCount := 0
  gmacMark := Vector.replicate 32 0
  ticTables := Vector.replicate 36 TicTable.reset
  capEpoch := Vector.replicate 4 0
  lastScrub := 0

end Sys2Proof.Machine
end

