-- ==== Sys2Proof/Machine/State.lean ====
section
/-! DEFINITION. The state of the block, its faults and refusals, and its state right after reset. -/

namespace Sys2Proof.Machine

/-- Everything the machine holds. The blocks' structures name, field by field, the registers of the register chapters;
`cfg` holds every field of class CSP as the registers read it, `keep` what the keep holds. -/
structure State where
  /-- CLK_CORE ticks since reset: the model's own clock, from which elapsed times are counted -/
  ticks : Nat
  /-- the model's own counter from which free values are drawn -/
  freeCtr : Nat
  /-- the accord at the end of earlier ticks, newest first (R17, R23); the model's own -/
  past : List PastMark
  /-- fuses and straps -/
  fuse : Fuse
  /-- what PD_VBAT holds -/
  vbat : Vbat
  /-- the keep and the KEEP block -/
  keep : Keep
  /-- every CSP field -/
  cfg : Csp
  /-- SYS block and boot ROM -/
  sys : Sys
  /-- command processor, rings, mailboxes, semaphores, interrupts -/
  cmd : Cmd
  /-- REF block -/
  ref : Ref
  /-- ACD block: the accord -/
  acd : Acd
  /-- GNS block -/
  gns : Gns
  /-- TIC block -/
  tic : Tic
  /-- OUT block -/
  out : Out
  /-- ETH block -/
  eth : Eth
  /-- TMG block -/
  tmg : Tmg
  /-- SVC block -/
  svc : Svc
  /-- LOG engine -/
  log : Log
  /-- KEY block -/
  key : Key
  /-- fault collector -/
  flt : Flt
  /-- PAIR block -/
  pair : Pair
  /-- MON and CAL blocks -/
  mon : Mon
  /-- BLT block -/
  blt : Blt
  /-- the commands that are waiting, first in, first out -/
  pending : List Instr
deriving DecidableEq, Repr

/-- The stops that are faults. -/
inductive Fault where
  /-- an access to an address beyond the 64 MiB of BAR0, which R29 gives nothing to. Raised by the register access rows
  (queuePop, rcCounterRead, shadowLatchRead, intStatusW1c, registerWrite). Safe: the machine stops where no access can
  reach. -/
  | outsideMap
deriving DecidableEq, Repr

/-- The stops that are refusals. -/
inductive Refusal where
  /-- an arm of `exec` that has no meaning yet. Safe. -/
  | notModelled (mnemonic : String)
deriving DecidableEq, Repr

/-- The machine right after a cold reset is released, factory-fresh: registers at their reset values, the keep blank,
the life-cycle fuses unblown, no command waiting. -/
def State.reset : State where
  ticks := 0
  freeCtr := 0
  past := []
  fuse := Fuse.reset
  vbat := Vbat.reset
  keep := Keep.reset
  cfg := Csp.reset
  sys := Sys.reset
  cmd := Cmd.reset
  ref := Ref.reset
  acd := Acd.reset
  gns := Gns.reset
  tic := Tic.reset
  out := Out.reset
  eth := Eth.reset
  tmg := Tmg.reset
  svc := Svc.reset
  log := Log.reset
  key := Key.reset
  flt := Flt.reset
  pair := Pair.reset
  mon := Mon.reset
  blt := Blt.reset
  pending := []

end Sys2Proof.Machine
end

