-- ==== Sys2Proof/Machine/Ops.lean ====
section
/-! DEFINITION. The named operations every meaning is built from: the passing of time, readings of the accord, error
bounds and flags, interrupts and their messages, refused writes, shadows. -/

namespace Sys2Proof.Machine

open Host

/-- What a command answers. -/
abbrev Res := Outcome State Fault Refusal

/-! ### Domains (R28) -/

/-- PD_TIME. -/
def pdTime : Nat := 2
/-- PD_TIC. -/
def pdTic : Nat := 3
/-- PD_GNSS. -/
def pdGnss : Nat := 4
/-- PD_Qq. -/
def pdQ (q : Nat) : Nat := 5 + q
/-- PD_ENGINE. -/
def pdEngine : Nat := 9
/-- PD_CRYPTO. -/
def pdCrypto : Nat := 10
/-- PD_PCIE. -/
def pdPcie : Nat := 11
/-- PD_PAIR. -/
def pdPair : Nat := 12

/-- Domain `d` is ready: its registers answer and its blocks run (R31, R80). -/
def State.ready (s : State) (d : Nat) : Bool := s.sys.domReady.getLsbD d

/-- The quad of lane `l` is ready. -/
def State.laneReady (s : State) (l : Nat) : Bool := s.ready (pdQ (l / 4))

/-- The quad of lane `l` still works: it is ready, or it is powering down and drains (R88). -/
def State.laneLive (s : State) (l : Nat) : Bool := s.laneReady l || s.sys.domDown.getLsbD (pdQ (l / 4))

/-- The domains that domain `d` depends on directly (R28), as a mask. -/
def domDeps (d : Nat) : BitVec 13 :=
  match d with
  | 0 => 0
  | 1 => 0x0001
  | 2 => 0x0002
  | 3 => 0x0004
  | 4 => 0x0204
  | 5 | 6 | 7 | 8 => 0x0204
  | 9 => 0x0004
  | 10 | 11 => 0x0200
  | 12 => 0x0204
  | _ => 0

/-- Whether bit `i` of a mask is set. -/
def has {w : Nat} (m : BitVec w) (i : Nat) : Bool := m.getLsbD i

/-- The mask with bit `i` alone. -/
def bitAt (w i : Nat) : BitVec w := BitVec.twoPow w i

/-- The mask with bit `i` made `b`. -/
def putBit {w : Nat} (m : BitVec w) (i : Nat) (b : Bool) : BitVec w :=
  if b then m ||| bitAt w i else m &&& ~~~(bitAt w i)

/-! ### Time -/

/-- The counter after the ticks from `f` (exclusive) to `t` (inclusive), the increment in force at the end, and the
changes still waiting. A change applies at its tick (R16, R17). -/
def runCount : List (Nat × BitVec 64) → Nat → Nat → Nat → BitVec 64 → Nat × BitVec 64 × List (Nat × BitVec 64)
  | [], f, t, c, cur => (c + (t - f) * cur.toNat, cur, [])
  | (a, v) :: q, f, t, c, cur =>
    if a ≤ t then runCount q (max f (a - 1)) t (c + (a - 1 - f) * cur.toNat) v
    else (c + (t - f) * cur.toNat, cur, (a, v) :: q)

/-- The accord after `dt` ticks that began at tick `now` (R121). -/
def Acd.run (a : Acd) (now dt : Nat) : Acd :=
  let r := runCount a.incrQueue now (now + dt) a.count a.incrCur
  { a with count := r.1, incrCur := r.2.1, incrQueue := r.2.2 }


/-- The accord, in 2^-16 ns since the PTP epoch. -/
def State.now16 (s : State) : Nat := s.acd.count / 2 ^ 40

/-- The accord is in drydown. -/
def State.drydown (s : State) : Bool :=
  match s.acd.state with
  | .drydownIn | .drydownOut => true
  | _ => false

/-- The flag byte of R8 without SAT, its block-specific bits zero. -/
def State.flagsBase (s : State) : BitVec 8 :=
  BitVec.ofNat 8 (2 * s.drydown.toNat + 4 * s.acd.macerate.toNat + 8 * s.flt.safe.toNat
    + 16 * (decide (s.acd.stepOut ≠ 0)).toNat)

/-- EB_ACCORD as a stamp carries it: 0xFF_FFFF while CLK_CORE is absent (R26). -/
def State.ebAccord (s : State) : Nat := if s.ready pdTime then s.acd.ebAccord else 0xFFFFFF

/-- 2^-16 ns in one second. -/
def sec16 : Nat := 65536000000000

/-- The instant of a TAI96 value, in 2^-16 ns (R3). -/
def taiNat (t : Tai) : Nat := (t.toNat / 2 ^ 48) * sec16 + t.toNat % 2 ^ 48

/-- The accord as it stands at the end of this tick; the tap's held value while CLK_CORE is absent (R26). -/
def State.mark (s : State) : PastMark :=
  if s.ready pdTime then
    { tick := s.ticks, count := s.acd.count, incr := s.acd.incrCur, queue := s.acd.incrQueue, eb := s.ebAccord
      flags := s.flagsBase }
  else
    { tick := s.ticks, count := taiNat s.sys.tapHeld * 2 ^ 40, incr := 0, queue := [], eb := s.ebAccord
      flags := s.flagsBase }

/-- What a mark makes of a later tick, as long as nothing but waiting increments changes. -/
def PastMark.runTo (p : PastMark) (t : Nat) : PastMark :=
  let r := runCount p.queue p.tick t p.count p.incr
  { p with tick := t, count := r.1, incr := r.2.1, queue := r.2.2 }

/-- How many marks are kept: more than a frame of the greatest length can span (DESIGN CHOICE, log entry 58). -/
def pastKept : Nat := 1024

/-- The marks with this tick's added, where the newest does not already give it. -/
def State.pastPush (s : State) : List PastMark :=
  match s.past with
  | [] => [s.mark]
  | p :: _ => if p.runTo s.ticks = s.mark then s.past else (s.mark :: s.past).take pastKept

/-- The accord at the end of tick `t`, now or earlier; before the oldest mark it is taken to have run at that mark's
rate. -/
def State.markAt (s : State) (t : Nat) : PastMark :=
  if s.ticks ≤ t then s.mark
  else
    match s.past.find? fun p => decide (p.tick ≤ t) with
    | some p => p.runTo t
    | none =>
      let p := s.past.getLast?.getD s.mark
      { p with tick := t, count := p.count - (p.tick - t) * p.incr.toNat }

/-- `dt` CLK_CORE ticks pass. The accord counts only while PD_TIME is ready. -/
def State.advance (s : State) (dt : Nat) : State :=
  { s with
    ticks := s.ticks + dt
    past := if dt = 0 then s.past else s.pastPush
    acd := if s.ready pdTime then s.acd.run s.ticks dt else s.acd }

/-- 2^-16 ns in one millisecond. -/
def ms16 : Nat := 65536000000

/-- 2^-16 ns in one microsecond. -/
def us16 : Nat := 65536000

/-- The TAI96 value of an instant in 2^-16 ns (R3). -/
def taiOf (n : Nat) : Tai :=
  BitVec.ofNat 96 ((n / sec16) * 2 ^ 48 + n % sec16)

/-- SECONDS of a TAI96 value. -/
def taiSec (t : Tai) : BitVec 48 := t.extractLsb' 48 48

/-- NANOSECONDS of a TAI96 value. -/
def taiNs (t : Tai) : BitVec 32 := t.extractLsb' 16 32

/-- FRACTION of a TAI96 value. -/
def taiFrac (t : Tai) : BitVec 16 := t.extractLsb' 0 16

/-- NANOSECONDS is legal (R5). -/
def taiOk (t : Tai) : Bool := decide ((taiNs t).toNat ≤ 999999999)

/-- The three words of a TAI96 value (R4). -/
def taiWords (t : Tai) : List W32 := leWords 3 t.toNat

/-- An instant of a signed count of 2^-16 ns, cut off at the PTP epoch. -/
def taiOfInt (n : Int) : Tai := taiOf n.toNat

/-- CLK_CORE ticks in one microsecond, millisecond and second of oscillator time. -/
def usTicks : Nat := 1250
/-- CLK_CORE ticks in one millisecond. -/
def msTicks : Nat := 1250000
/-- CLK_CORE ticks in one second. -/
def sTicks : Nat := 1250000000

/-! ### Error bounds and flags -/

/-- The EB field of a bound (R7): saturated at 0xFF_FFFF. -/
def ebSat (n : Nat) : BitVec 24 := if n < 0xFFFFFF then BitVec.ofNat 24 n else 0xFFFFFF

/-- ⌈a ÷ b⌉. -/
def ceilDiv (a b : Nat) : Nat := (a + b - 1) / b

/-- SAT of a bound (R8). -/
def satBit (eb : Nat) : BitVec 8 := BitVec.ofNat 8 (decide (0xFFFFFF ≤ eb)).toNat

/-- The flag byte of a value that carries the bound `eb` (R8), its block-specific bits zero. -/
def State.flagsFor (s : State) (eb : Nat) : BitVec 8 := s.flagsBase ||| satBit eb

/-- A time value with its bound and flag byte (R8). -/
structure Stamp where
  /-- TIME -/
  time : Tai
  /-- EB -/
  eb : BitVec 24
  /-- FLAGS -/
  flags : BitVec 8
deriving DecidableEq, Repr

/-- The accord's reading now, as the warden's tap gives it: the tap holds its last value while CLK_CORE is absent
(R26). -/
def State.timeNow (s : State) : Tai := if s.ready pdTime then taiOf s.now16 else s.sys.tapHeld

/-- A stamp of now with consumer terms `e` added (R23). -/
def State.stampWith (s : State) (e : Nat) : Stamp :=
  let eb := s.ebAccord + e
  { time := s.timeNow, eb := ebSat eb, flags := s.flagsFor eb }

/-- A stamp of now with EB_ACCORD itself (R315). -/
def State.stamp (s : State) : Stamp := s.stampWith 0

/-- A stamp of another instant with consumer terms `e`, bounded as now. -/
def State.stampAt (s : State) (t : Int) (e : Nat) : Stamp :=
  { s.stampWith e with time := taiOfInt t }

/-- The stamp of an event at tick `t`, now or earlier, and `sub` 2^-16 ns after that tick: the counter, the bound and the
flags are that tick's (R17, R23). -/
def State.stampTick (s : State) (t : Nat) (sub : Int) (e : Nat) : Stamp :=
  let p := s.markAt t
  let eb := p.eb + e
  { time := taiOfInt ((p.count / 2 ^ 40 : Nat) + sub), eb := ebSat eb, flags := p.flags ||| satBit eb }

/-- CLK_CORE ticks that `phase` 2^-16 ns take, rounded up: the tick at or before an event is that many ticks ago. -/
def phaseTicks (phase : Nat) : Nat := ceilDiv (phase * 5) 262144

/-- How long after that tick the event came, in 2^-16 ns. -/
def phaseSub (phase : Nat) : Nat := phaseTicks phase * 262144 / 5 - phase

/-- One tick of the accord, in 2^-16 ns rounded up. -/
def State.tickLen (s : State) : Nat := ceilDiv s.acd.incrCur.toNat (2 ^ 40)

/-- An instant x0 + k ÷ `hz` of the accord, for some whole k, falls into this tick. -/
def State.gridTick (s : State) (x0 : Int) (hz : Nat) : Bool :=
  decide ((((x0 - s.now16) * hz) % sec16).toNat < s.tickLen * hz)

/-- W5 of a reply or entry: EB and FLAGS. -/
def ebWord (eb : BitVec 24) (flags : BitVec 8) : W32 := flags ++ eb

/-- The four words of a stamp: TIME, EB and FLAGS. -/
def Stamp.words (t : Stamp) : List W32 := taiWords t.time ++ [ebWord t.eb t.flags]

/-! ### Words -/

/-- A word made of fields, each with its lowest bit. -/
def word (fs : List (Nat × Nat)) : W32 := BitVec.ofNat 32 (fs.foldl (fun a f => a ||| f.2 <<< f.1) 0)

/-- Bits [lo + n − 1 : lo] of a word, as a number. -/
def fld (w : W32) (lo n : Nat) : Nat := (w.toNat >>> lo) % 2 ^ n

/-- Bit `i` of a word. -/
def flag (w : W32) (i : Nat) : Bool := w.getLsbD i

/-- The two words of a 64-bit value, low word first. -/
def w64 (x : BitVec 64) : List W32 := leWords 2 x.toNat

/-- A signed field of `n` bits, as a 32-bit word's number. -/
def sgn (n : Nat) (x : Nat) : Int := (BitVec.ofNat n x).toInt

/-! ### Free values -/

/-- A free value, and the state from which the next one is drawn. -/
def State.free (s : State) : BitVec 256 := Config.freeWord s.freeCtr

/-- A DRBG draw. -/
def State.drbg (s : State) : BitVec 256 := Config.drbg s.freeCtr

/-- The state after a free value is drawn. -/
def State.drawn (s : State) : State := { s with freeCtr := s.freeCtr + 1 }

/-! ### Interrupts (R60 to R62) -/

/-- The unmasked host status bits of a group that drive vector `v`. -/
def IntGroup.drives (g : IntGroup) (v : Nat) : Bool :=
  let u := g.status &&& ~~~g.maskMsi
  (g.vecLo.toNat == v && u.extractLsb' 0 16 != 0) || (g.vecHi.toNat == v && u.extractLsb' 16 16 != 0)

/-- Vector `v` has an unmasked status bit. -/
def Cmd.vecOn (c : Cmd) (v : Nat) : Bool := c.groups.toList.any fun g => g.drives v

/-- The vector of bit `b` of a group. -/
def IntGroup.vecOf (g : IntGroup) (b : Nat) : Nat := if b < 16 then g.vecLo.toNat else g.vecHi.toNat

/-- Vector `v` is masked, by the function mask or its own (R61). -/
def Cmd.msixMasked (c : Cmd) (v : Nat) : Bool := c.msixMask || (Tab.get c.msix v Msix.reset).masked

/-- Vector `v` has a message to send: it is sent, or stays pending while the vector is masked; nothing is sent while MSI-X
is not enabled (R61; PRESUMED from the PCIe specification, log entry 73). -/
def Cmd.msi (c : Cmd) (v : Nat) : Cmd :=
  if !c.msixEn then c
  else if c.msixMasked v then { c with pba := putBit c.pba v true }
  else { c with msiSent := Tab.mod c.msiSent v (· + 1), pba := putBit c.pba v false }

/-- Pending messages of vectors that are no longer masked are sent (R61). -/
def Cmd.msiFlush (c : Cmd) : Cmd :=
  (List.range 64).foldl (fun (c : Cmd) v => if has c.pba v && !c.msixMasked v then c.msi v else c) c

/-- The PCIe function's MSI-X state returns to its reset values (R35). -/
def Cmd.msixOff (c : Cmd) : Cmd :=
  { c with msixEn := false, msixMask := false, msix := Vector.replicate 64 Msix.reset, pba := 0 }

/-- Source 32 × g + b is raised: both latched copies are set (R60), and its vector sends its message when its unmasked
set was empty (R61). -/
def Cmd.irq (c : Cmd) (src : Nat) : Cmd :=
  let g := src / 32
  let b := src % 32
  let grp := Tab.get c.groups g IntGroup.reset
  let v := grp.vecOf b
  let was := c.vecOn v
  let c' := { c with groups := Tab.mod c.groups g fun q =>
    { q with status := q.status ||| bitAt 32 b, pinStatus := q.pinStatus ||| bitAt 32 b } }
  if !was && c'.vecOn v then c'.msi v else c'

/-- The sources raised at tick `t` so far (R60). -/
def Cmd.raisedAt (c : Cmd) (t : Nat) : Vector (BitVec 32) 16 :=
  if c.irqTick = t then c.irqNow else Vector.replicate 16 0

/-- A source raised at tick `t` is noted: a W1C of the same cycle leaves its bit set (R60). -/
def Cmd.noteIrq (c : Cmd) (t src : Nat) : Cmd :=
  { c with irqTick := t, irqNow := Tab.mod (c.raisedAt t) (src / 32) fun m => m ||| bitAt 32 (src % 32) }

/-- Source `src` is raised, with no EVENT entry. -/
def State.irq (s : State) (src : Nat) : State := { s with cmd := (s.cmd.irq src).noteIrq s.ticks src }

/-- INT_N is asserted (R62). -/
def State.intN (s : State) : Bool := s.cmd.groups.toList.any fun g => g.pinStatus &&& ~~~g.maskPin != 0

/-- Vectors whose unmasked set is not empty send their messages again, of those that group `g` drives (R61); for one whose
set is empty nothing is pending any more. -/
def Cmd.resend (c : Cmd) (g : Nat) : Cmd :=
  let grp := Tab.get c.groups g IntGroup.reset
  let vs := if grp.vecLo = grp.vecHi then [grp.vecLo.toNat] else [grp.vecLo.toNat, grp.vecHi.toNat]
  vs.foldl (fun c v => if c.vecOn v then c.msi v else { c with pba := putBit c.pba v false }) c

/-- Interrupt source numbers: 32 × group + bit (R32). -/
def src (g b : Nat) : Nat := 32 * g + b

/-! ### Shadows (R58, R59, R101) -/

/-- The shadow a master's read latches, replacing the one it held for the same register. -/
def State.latch (s : State) (m : BitVec 4) (addr : W32) (ws : List W32) : State :=
  { s with cmd := { s.cmd with
    shadows := { master := m, addr := addr, words := ws }
      :: s.cmd.shadows.filter fun h => !(h.master == m && h.addr == addr) } }

end Sys2Proof.Machine
end

