-- ==== Sys2Proof/Machine/LogOps.lean ====
section
/-! DEFINITION. The sillage log's own operations (R314 to R326): writing an entry, checkpoints, fill levels, the
persisted head, and raising an interrupt source with the EVENT entry R449 gives it. -/

namespace Sys2Proof.Machine

/-! ### Entries -/

/-- The 16 words of an entry (R314). -/
def LogEntry.words (e : LogEntry) : List W32 :=
  [e.seq.extractLsb' 0 32, word [(0, (e.seq.extractLsb' 32 16).toNat), (16, e.typ.toNat), (24, e.origin.toNat),
    (28, e.sub.toNat)]] ++ e.mid ++ e.payload ++ List.replicate (10 - e.payload.length) 0

/-- An entry in the stamped form, not yet numbered. -/
def entryOf (typ : Nat) (origin sub : Nat) (t : Stamp) (payload : List W32) : LogEntry :=
  { LogEntry.reset with
    typ := BitVec.ofNat 8 typ, origin := BitVec.ofNat 4 origin, sub := BitVec.ofNat 4 sub, mid := t.words
    payload := payload }

/-- Slots of the buffer (R323). -/
def logSlots : Nat := 30720

/-- HELD of level 3 (R325). -/
def logFullAt : Nat := 30208

/-- HELD (R323). -/
def Log.heldCount (l : Log) : Nat := l.held.length

/-- The level of a fill (R325). -/
def logLevelOf (highPct held : Nat) : BitVec 3 :=
  if logSlots ≤ held then 4 else if logFullAt ≤ held then 3 else if 27648 ≤ held then 2
  else if highPct * logSlots ≤ held * 100 then 1 else 0

/-- The sources of R449 that carry OLD and NEW. -/
def stateChangeSource (s : Nat) : Bool :=
  [src 0 0, src 2 2, src 2 3, src 2 4, src 2 5, src 2 6, src 3 0, src 7 0, src 7 1, src 9 0, src 9 1, src 9 2, src 10 6,
    src 12 0].contains s

/-- The sources that write an EVENT entry each time they are raised (R449). -/
def logsEvent (s : Nat) : Bool :=
  let b := s % 32
  match s / 32 with
  | 0 => b ≤ 9
  | 1 => 4 ≤ b && b ≤ 7
  | 2 => b ≤ 16
  | 3 => b ≤ 14
  | 4 => b ≤ 11
  | 5 => 5 ≤ b && b ≤ 12
  | 6 => b ≤ 3 || b == 5 || (8 ≤ b && b ≤ 11) || b == 14
  | 7 => b ≤ 1 || (5 ≤ b && b ≤ 8) || b == 10
  | 8 => (2 ≤ b && b ≤ 4) || b == 6
  | 9 => b ≤ 2 || b == 6 || b == 7
  | 10 => 3 ≤ b && b ≤ 7
  | 11 => b ≤ 4
  | 12 => b ≤ 12
  | 13 => b == 11
  | 14 => (1 ≤ b && b ≤ 4) || b == 7 || b == 8 || (12 ≤ b && b ≤ 17) || (20 ≤ b && b ≤ 22)
  | 15 => b == 4 || b == 5 || (24 ≤ b && b ≤ 28)
  | _ => false

/-- The entries the reserve takes (R325). -/
def LogEntry.reserve (e : LogEntry) : Bool :=
  match e.typ.toNat with
  | 0x03 | 0x08 | 0x09 | 0x0A | 0x0B | 0x0C | 0x0D | 0x0E | 0x10 => true
  | 0x04 => let op := fld (e.payload.headD 0) 0 16; op == 0x0A40 || op == 0x0041
  | 0x05 => let so := fld (e.payload.headD 0) 0 9; so == src 11 0 || so == src 11 1 || stateChangeSource so
  | _ => false

/-- The log can take this entry now (R325). -/
def State.logRoom (s : State) (e : LogEntry) : Bool :=
  decide (s.log.heldCount < logFullAt) || (e.reserve && decide (s.log.heldCount < logSlots))

/-! ### Writing -/

/-- The persisted head is written with or without ORDERLY (R320). -/
def State.headSlotWrite (s : State) (orderly : Bool) : State :=
  { s with keep := { s.keep with
    writes := s.keep.writes + 1
    headOlder := (s.keep.headSlot.toList ++ s.keep.headOlder).take 63
    headSlot := some ⟨s.log.seq, s.log.head, s.log.lastExported, s.log.ckSeq, orderly⟩ } }

/-- A ring's slots in use. -/
def Ring.used (r : Ring) : Nat := (r.prod - r.cons).toNat

/-- SIZE of a ring (R452). -/
def Ring.size (r : Ring) : Nat := 2 ^ r.sizeLog2.toNat

/-- A ring's register block. -/
def State.ring (s : State) (n : Nat) : Ring := Tab.get s.cmd.rings n Ring.reset

/-- The ring is enabled and full. -/
def Ring.full (r : Ring) : Bool := r.enable && decide (r.size ≤ r.used)

/-- An acquisition that waits for ring 33 begins its next pass once the ring is no longer full (R157). -/
def State.acqResume (s : State) : State :=
  match s.gns.acq with
  | some a =>
    if a.paused && !(s.ring 33).full then
      { s with gns := { s.gns with acq := some { a with paused := false, startTick := s.ticks } } }
    else s
  | none => s

/-- Ring `n` can take a record now. -/
def State.ringRoom (s : State) (n : Nat) : Bool :=
  let r := s.ring n
  s.ready pdPcie && r.enable && decide (r.used < r.size)

/-- The copy that ring 7 carries (R323): skipped and counted when the ring has no room for it. -/
def State.mirrorCopy (s : State) (e : LogEntry) : State :=
  if s.cfg.log.ckMirror && [0x09, 0x0A, 0x0B, 0x0C].contains e.typ.toNat then
    let r := s.ring 7
    if s.ready pdPcie && r.enable && decide (r.used + s.log.mirror.length < r.size) then
      { s with log := { s.log with mirror := s.log.mirror ++ [e] } }
    else
      ({ s with log := { s.log with mirrorSkip := s.log.mirrorSkip + 1 } }).irq (src 13 9)
  else s

/-- An entry is numbered, chained and held (R317, R323). After a slot with ORDERLY, a further slot without it is
written (R320). -/
def State.logRaw (s : State) (e0 : LogEntry) : State :=
  let q : BitVec 48 := if s.log.any then s.log.seq + 1 else s.log.seq
  let e := { e0 with seq := q }
  let s1 := { s with log := { s.log with
    any := true, seq := q, head := sha256 (digBytes s.log.head ++ wordsBytes e.words)
    held := s.log.held ++ [e], sinceCk := s.log.sinceCk + 1 } }
  let s2 := match s1.keep.headSlot with
    | some h => if h.orderly && !s1.keep.ro then s1.headSlotWrite false else s1
    | none => s1
  s2.mirrorCopy e

/-- An entry that cannot be entered is counted, and the TIME of the first one kept (R318, R325). -/
def State.logMiss (s : State) (e : LogEntry) : State :=
  { s with log := { s.log with
    unentered := s.log.unentered + 1
    gapCount := s.log.gapCount + 1
    gapFirst := if s.log.gapCount = 0 then s.timeNow else s.log.gapFirst
    tamperWait := if e.typ = 3 then some e else s.log.tamperWait } }

/-- The EVENT entry of a source (R316). -/
def eventEntry (s : State) (so : Nat) (subject : Nat) (value : Int) (old new origin : Nat) : LogEntry :=
  entryOf 0x05 origin 0 s.stamp
    ([BitVec.ofNat 32 so] ++ w64 (BitVec.ofInt 64 value) ++ [BitVec.ofNat 32 subject, word [(0, old), (8, new)]])

/-- The FILL entry of a level (R316). -/
def fillEntry (s : State) (lvl : Nat) : LogEntry :=
  entryOf 0x0D 15 lvl s.stamp [BitVec.ofNat 32 s.log.heldCount, s.log.fillRefused]

/-- The GAP entry (R316). -/
def gapEntry (s : State) : LogEntry :=
  entryOf 0x0E 15 0 s.stamp (taiWords s.log.gapFirst ++
    [BitVec.ofNat 32 s.log.gapCount, s.log.gapRefused, word [(0, s.log.lanesSusp.toNat)]])

/-- The CHECKPOINT entry (R316, R319). -/
def ckEntry (s : State) (forced : Bool) : LogEntry :=
  entryOf 0x09 15 0 s.stamp (digWords s.log.head ++
    [word [(0, if s.log.lskOn then s.log.keyEpoch.toNat else 0), (16, (!s.log.lskOn).toNat), (17, forced.toNat)],
      BitVec.ofNat 32 s.log.sinceCk])

/-- A SIG_R or SIG_S entry (R316). -/
def sigEntry (s : State) (typ : Nat) (v : BitVec 256) : LogEntry := entryOf typ 15 0 s.stamp (digWords v)

/-- A fault source latched without a class A reaction: latch, count and interrupt (R357). -/
def State.latchQuiet (s : State) (n : Nat) (isB : Bool) (level : Bool) : State :=
  ({ s with flt := { s.flt with
    latch := s.flt.latch ||| bitAt 256 n
    present := if level then s.flt.present ||| bitAt 256 n else s.flt.present
    counts := Tab.mod s.flt.counts n (· + 1) } }).irq (src 11 (if isB then 1 else 2))

/-- The persisted head is due to be written: it is, or its failure is reported (R320, R397). -/
def State.persistHead (put : State → LogEntry → State) (s : State) (orderly : Bool) : State :=
  if s.keep.ro then
    let s1 := { s with keep := { s.keep with roSkips := s.keep.roSkips + 1 } }
    let s2 := (s1.irq (src 13 11)).latchQuiet 194 true false
    put (put s2 (eventEntry s2 (src 13 11) 0 0 0 0 15)) (eventEntry s2 (src 11 1) 194 0 0 0 15)
  else s.headSlotWrite orderly

/-- A signature entry is written and kept with its CHECKPOINT; with no slot left it is not entered (R318, R325). -/
def State.logSig (s : State) (typ : Nat) (v : BitVec 256) : State :=
  let e := sigEntry s typ v
  if logSlots ≤ s.log.heldCount then s.logMiss e
  else
    let a := s.logRaw e
    { a with log := { a.log with lastCk := a.log.lastCk ++ a.log.held.getLast?.toList } }

/-- The first CHECKPOINT of an accord second persists the head (R320). -/
def State.ckPersist (put : State → LogEntry → State) (s : State) : State :=
  if s.log.persistedThisSec then s
  else
    let p := s.persistHead put false
    { p with log := { p.log with persistedThisSec := true } }

/-- With no LSK installed the zero signature follows the CHECKPOINT at once (R319). -/
def State.ckUnsigned (s : State) (forced : Bool) : State :=
  if s.log.lskOn then s
  else
    let b := (s.logSig 0x0A 0).logSig 0x0B 0
    let c := { b with log := { b.log with unsignedTold := true } }
    let d := if s.log.unsignedTold then c else c.irq (src 13 8)
    if forced then d.irq (src 13 7) else d

/-- The CHECKPOINT's entry is written (R318). -/
def State.ckEnter (s : State) (forced : Bool) : State :=
  let a := s.logRaw (ckEntry s forced)
  { a with log := { a.log with
    ckSeq := a.log.seq, sinceCk := 0, lastCk := a.log.held.getLast?.toList, ckWait := false, ckWaitForced := false
    signing := a.log.lskOn, forcedSig := forced, pfSig := a.log.pfWant && forced, pfWant := a.log.pfWant && !forced } }

/-- The power-fail warning's checkpoint stands with its signature: the head is persisted ORDERLY (R322). -/
def State.ckOrderly (put : State → LogEntry → State) (s : State) : State :=
  if s.log.pfSig && !s.log.signing then { s with log := { s.log with pfSig := false } }.persistHead put true else s

/-- A CHECKPOINT is written and, with no LSK installed, its zero signature with it (R318, R319). An exhausted log makes
it wait (R325). -/
def State.ckWrite (put : State → LogEntry → State) (s : State) (forced : Bool) : State :=
  if s.log.signing || decide (logSlots ≤ s.log.heldCount) then
    { s with log := { s.log with ckWait := true, ckWaitForced := s.log.ckWaitForced || forced } }
  else (((s.ckEnter forced).ckPersist put).ckUnsigned forced).ckOrderly put

/-- The FAULT level is entered or left (R325): the fill's class B source is latched or ends. -/
def State.levelFault (put : State → LogEntry → State) (s : State) (old lvl : BitVec 3) : State :=
  if old < 2 && 2 ≤ lvl then
    let f := s.latchQuiet 193 true true
    put f (eventEntry f (src 11 1) 193 0 0 0 15)
  else if 2 ≤ old && lvl < 2 then { s with flt := { s.flt with present := s.flt.present &&& ~~~(bitAt 256 193) } }
  else s

/-- The FULL level is entered: capture falls back to super-roots (R251, R325). -/
def State.levelFallback (s : State) (lvl : BitVec 3) : State :=
  if 3 ≤ lvl && !s.log.fallback then ({ s with log := { s.log with fallback := true } }).irq (src 13 4) else s

/-- The FILL entry of a new level (R316, R325). -/
def State.levelEntry (put : State → LogEntry → State) (s : State) (lvl : BitVec 3) : State :=
  let a := { s with log := { s.log with level := lvl } }
  let b := if lvl = 0 then a else a.irq (src 13 (lvl.toNat - 1))
  let c := put b (fillEntry b lvl.toNat)
  { c with log := { c.log with fillRefused := 0 } }

/-- The level follows HELD (R325): each change writes a FILL entry and raises its interrupt. -/
def State.logLevel (put : State → LogEntry → State) (s : State) : State :=
  let lvl := logLevelOf s.cfg.log.highPct.toNat s.log.heldCount
  if lvl = s.log.level then s
  else ((s.levelEntry put lvl).levelFault put s.log.level lvl).levelFallback lvl

/-- An entry arises: it is written, waits behind a signature, or is counted as not entered (R318, R325). What arises in
BOOT waits for the entries that open the boot (R321). The first
argument bounds the entries that writing an entry may itself cause. -/
def State.logPutN : Nat → State → LogEntry → State
  | 0, s, e => if s.logRoom e then s.logRaw e else s.logMiss e
  | n + 1, s, e =>
    if s.log.signing || s.sys.devState == .boot then
      if s.log.waitQ.length < 256 then { s with log := { s.log with waitQ := s.log.waitQ ++ [e] } }
      else s.logMiss e
    else if s.logRoom e then
      let s1 := (s.logRaw e).logLevel (State.logPutN n)
      if 1023 ≤ s1.log.sinceCk && !s1.log.signing then
        (s1.ckWrite (State.logPutN n) false).logLevel (State.logPutN n)
      else s1
    else s.logMiss e

/-- An entry arises. -/
def State.logPut (s : State) (e : LogEntry) : State := s.logPutN 6 e

/-- A checkpoint is due (R318). -/
def State.checkpoint (s : State) (forced : Bool) : State := (s.ckWrite State.logPut forced).logLevel State.logPut

/-- The SEQ the next entry will have. -/
def Log.nextSeq (l : Log) : BitVec 48 := if l.any then l.seq + 1 else l.seq

/-- A source is raised: both status copies are set and, where R449 lists the source, its EVENT entry is written. -/
def State.raiseBy (s : State) (origin so : Nat) (subject : Nat := 0) (value : Int := 0) (old : Nat := 0)
    (new : Nat := 0) : State :=
  let s1 := s.irq so
  if logsEvent so then s1.logPut (eventEntry s1 so subject value old new origin) else s1

/-- A source is raised by autonomous hardware (M15). -/
def State.raise (s : State) (so : Nat) (subject : Nat := 0) (value : Int := 0) (old : Nat := 0) (new : Nat := 0) :
    State := s.raiseBy 15 so subject value old new

/-- A refused write is counted (R12, R31). -/
def State.refuseWrite (s : State) : State :=
  ({ s with sys := { s.sys with refusedWrites := s.sys.refusedWrites + 1 } }).irq (src 1 8)

/-- A waiting TAMPER entry, then the GAP entry, are written as soon as they can be (R318, R326). -/
def State.logGap (s : State) : State :=
  let s0 := match s.log.tamperWait with
    | some e => if s.log.heldCount < logSlots then
        ({ s with log := { s.log with tamperWait := none } }).logPut e else s
    | none => s
  if s0.log.heldCount < logFullAt && 0 < s0.log.gapCount && !s0.log.signing then
    let g := s0.logPut (gapEntry s0)
    let g := { g with log := { g.log with gapCount := 0, gapFirst := 0, gapRefused := 0, lanesSusp := 0 } }
    g.raise (src 13 6)
  else s0

/-- The log recovers (R326): a waiting TAMPER entry, the GAP entry, then a waiting checkpoint. Fallback ends at 80 %. -/
def State.logRecover (s : State) : State :=
  let s1 := s.logGap
  let s2 := if s1.log.ckWait && s1.log.heldCount < logSlots && !s1.log.signing then
      s1.checkpoint s1.log.ckWaitForced else s1
  if s2.log.fallback && s2.log.heldCount ≤ 24576 then
    ({ s2 with log := { s2.log with fallback := false } }).irq (src 13 5)
  else s2

/-- The LOG engine signs with the LSK of this epoch from now on (R318). -/
def State.useLsk (s : State) (epoch : BitVec 16) : State :=
  { s with log := { s.log with lskOn := true, unsignedTold := false, keyEpoch := epoch } }

/-- A new LSK is installed (R319): its entry is written and a signed checkpoint follows at once. -/
def State.installLsk (s : State) (pub : BitVec 264) (epoch : BitVec 16) : State :=
  let s1 := s.useLsk epoch
  let ws := leWords 9 (pub.toNat + epoch.toNat * 2 ^ 272)
  (s1.logPut (entryOf 0x0C 3 0 s1.stamp ws)).checkpoint false

end Sys2Proof.Machine
end

