-- ==== Sys2Proof/Machine/Levels.lean ====
section
/-! DEFINITION. What follows from the accord's and the device's states: clockClass, the service gate, output squelch,
the pair's health. Each is evaluated again whenever one of its causes has changed. -/

namespace Sys2Proof.Machine

/-! ### clockClass and the service gate -/

/-- The selected slot, where one is selected (R112). -/
def State.selectedSlot (s : State) : Option Nat :=
  if s.ref.selected.toNat < 20 then some s.ref.selected.toNat else none

/-- Slot configuration. -/
def State.slotCfg (s : State) (n : Nat) : RefSlotCfg := Tab.get s.cfg.ref.slots n RefSlotCfg.reset

/-- A slot at work. -/
def State.slot (s : State) (n : Nat) : RefSlot := Tab.get s.ref.slots n RefSlot.reset

/-- ACD_STATUS.PRIMARY (R131). -/
def State.primary (s : State) : Bool :=
  s.acd.state == .locked &&
    match s.selectedSlot with
    | some n => decide ((s.slotCfg n).quality ≤ s.cfg.acd.primaryQmax)
    | none => false

/-- clockClass by R285; in SAFE, where no Announce is sent, it stays as it was. -/
def State.clockClassNow (s : State) : BitVec 8 :=
  match s.acd.state with
  | .locked => if s.primary then 6 else s.cfg.svc.classSec
  | .drydownIn => 7
  | .drydownOut => if s.cfg.acd.category = 0 then 140 else if s.cfg.acd.category = 1 then 150 else 160
  | .acquire | .freerun | .cold => 248
  | .safe => s.svc.clockClass

/-- The service gate's condition (R288). -/
def State.gateCond (s : State) : Bool :=
  (s.sys.devState == .run || s.sys.devState == .maint) &&
  (s.acd.state == .locked || s.acd.state == .drydownIn) &&
  decide (s.ebAccord < s.cfg.svc.ebMaxNs.toNat * 100)

/-- A frame that carries time not yet taken: it may leave only with the gate open at its own SFD (R289). -/
def TxFrame.gated (f : TxFrame) : Bool :=
  match f.msg with
  | some m => m.gateTime
  | none => false

/-- A per-port counter of the SVC block is advanced. -/
def State.svcCount (s : State) (lane i : Nat) (n : Nat := 1) : State :=
  { s with svc := { s.svc with ports := Tab.mod s.svc.ports lane fun p =>
    { p with cnt := Tab.mod p.cnt i (· + BitVec.ofNat 64 n) } } }

/-- A source of the SVC block is raised for a lane (R313). -/
def State.svcRaise (s : State) (b lane : Nat) : State :=
  ({ s with svc := { s.svc with intSrc := s.svc.intSrc ||| bitAt 16 lane } }).raise (src 9 b)

/-- Gated frames of lane `l` that have not started are withdrawn and counted (R289). -/
def State.withdrawLane (s : State) (l : Nat) : State :=
  let qs := (List.range 8).map fun c => (Tab.get s.tmg.q (8 * l + c) TmgQ.reset).frames
  let n : Nat := (qs.map fun (fs : List TxFrame) => (fs.filter TxFrame.gated).length).sum
  if n = 0 then s
  else
    let gone := qs.flatMap fun (fs : List TxFrame) => (fs.filter TxFrame.gated).map (·.id)
    let s1 := { s with tmg := { s.tmg with
      q := Tab.mapIdx s.tmg.q fun i q =>
        if i / 8 = l then { q with frames := q.frames.filter fun f => !f.gated } else q
      lanes := Tab.mod s.tmg.lanes l fun t => { t with bookings := t.bookings.filter fun b => !gone.contains b.id } } }
    (s1.svcCount l 12 n).svcRaise 13 l

/-- clockClass and the service gate follow their conditions (R285, R288). -/
def State.svcEval (s : State) : State :=
  let c := s.clockClassNow
  let s1 := if c = s.svc.clockClass then s
    else ({ s with svc := { s.svc with clockClass := c } }).raise (src 9 2) 0 0 s.svc.clockClass.toNat c.toNat
  let g := s1.gateCond
  if g = s1.svc.gateOpen then s1
  else if g then ({ s1 with svc := { s1.svc with gateOpen := true } }).raise (src 9 0) 0 0 0 1
  else
    let s2 := ({ s1 with svc := { s1.svc with gateOpen := false } }).raise (src 9 1) 0 0 1 0
    (List.range 16).foldl State.withdrawLane s2

/-! ### Output squelch (R219, R227) -/

/-- OWN: in SOLO it is set whenever the device is not in the safe state (R221). -/
def State.own (s : State) : Bool := if s.pair.role == .solo then !s.flt.safe else s.pair.own

/-- The squelch mask holds for the present accord state (R219). -/
def State.sqHit (s : State) (mask : BitVec 7) : Bool :=
  let c := s.acd.state.code.toNat
  decide (c < 6) && has mask c

/-- A source of the OUT block is raised for a target (R233). -/
def State.outRaise (s : State) (b target : Nat) (value : Int := 0) : State :=
  ({ s with out := { s.out with intSrc := s.out.intSrc ||| bitAt 22 target } }).raise (src 4 b) target value

/-- The squelch of clock output `n` ends: its divider has run on, so its next rising edge is at its next grid instant: an
ALIGNED output resumes on its grid, one in SYNC mode as its divider has run on;
while the synthesizer has no lock, it goes on in bypass or stays squelched for that cause (R216, R219, R220). -/
def State.outResume (s : State) (n : Nat) : State :=
  let o := Tab.get s.out.ch n OutCh.reset
  let c := Tab.get s.cfg.out.ch n OutChCfg.reset
  let put (q : OutCh) : State := { s with out := { s.out with ch := Tab.set s.out.ch n q } }
  let lock := (Tab.get s.out.syn c.synSel.toNat Syn.reset).lock
  if lock || o.bypassAct then
    put { o with
      running := c.enable, sqAuto := false, sqCause := 0, gliding := false, phaseErr := if c.sync then o.phaseErr else 0 }
  else if c.bypass then
    (put { o with running := c.enable, sqAuto := false, sqCause := 0, bypassAct := true, aligned := false }).outRaise 2 n
  else (put { o with sqCause := 2 }).outRaise 8 n

/-- Clock output `n` follows the accord's state; after the safe state it resumes once the time taps are reloaded (R220). -/
def State.outEvalCh (s : State) (n : Nat) : State :=
  let o := Tab.get s.out.ch n OutCh.reset
  let c := Tab.get s.cfg.out.ch n OutChCfg.reset
  let hit := s.sqHit c.sqMask
  if o.running && hit then
    ({ s with out := { s.out with
      ch := Tab.set s.out.ch n { o with running := false, sqAuto := true, sqCause := 1 } } }).outRaise 8 n
  else if o.sqAuto && o.sqCause = 3 && !s.flt.safe && !s.acd.tapReload && hit then
    ({ s with out := { s.out with ch := Tab.set s.out.ch n { o with sqCause := 1 } } }).outRaise 8 n
  else if o.sqAuto && (o.sqCause = 1 || (o.sqCause = 3 && !s.acd.tapReload)) && !hit && !s.flt.safe then s.outResume n
  else if !o.sqAuto && o.sqCause = 3 && !s.flt.safe then
    { s with out := { s.out with ch := Tab.set s.out.ch n { o with sqCause := 0 } } }
  else s

/-- An echo measurement holds output `t` (R229). -/
def State.echoes (s : State) (t : Nat) : Bool :=
  match s.out.echo with
  | some e => e.target.toNat == t
  | none => false

/-- Time pulse `m` follows the accord's state: it cannot run in COLD; each auto-squelch is told (R219). -/
def State.outEvalTp (s : State) (m : Nat) : State :=
  let o := Tab.get s.out.tp m Tp.reset
  let c := Tab.get s.cfg.out.tp m TpCfg.reset
  let hit := s.acd.state == .cold || s.sqHit c.sqMask
  let run := c.enable && !hit && !s.flt.safe && !s.acd.tapReload && s.ready pdTime && !s.echoes (16 + m)
  let sq := c.enable && hit && s.ready pdTime
  let s1 := { s with out := { s.out with
    tp := Tab.set s.out.tp m { o with running := run, sqAuto := sq, high := o.high && run } } }
  if sq && !o.sqAuto then s1.outRaise 8 (16 + m) else s1

/-- ToD output `k` is silent in COLD and in the safe state; NMEA also outside LOCKED and DRYDOWN_IN (R227). -/
def State.outEvalTod (s : State) (k : Nat) : State :=
  let o := Tab.get s.out.tod k Tod.reset
  let c := Tab.get s.cfg.out.tod k TodCfg.reset
  let run := c.enable && s.ready pdTime && !s.flt.safe && !s.acd.tapReload && s.acd.state != .cold && s.acd.state != .safe &&
    (c.fmt = 0 || c.nmeaAlways || s.acd.state == .locked || s.acd.state == .drydownIn)
  { s with out := { s.out with tod := Tab.set s.out.tod k { o with running := run, silent := c.enable && !run } } }

/-- Every output follows the accord's state. -/
def State.outEval (s : State) : State :=
  let a := (List.range 16).foldl State.outEvalCh s
  let b := (List.range 4).foldl State.outEvalTp a
  (List.range 2).foldl State.outEvalTod b

/-! ### Fault classes and the pair's health -/

/-- The class of a fault source: 0 C, 1 B, 2 A (R358, R360). -/
def State.faultClass (s : State) (n : Nat) : Nat := (s.cfg.flt.classes.extractLsb' (2 * n) 2).toNat

/-- A class B source is present (R371). -/
def State.classBPresent (s : State) : Bool :=
  (List.range 256).any fun n => has s.flt.present n && s.faultClass n == 1

/-- Every enabled SHARED clock output is ALIGNED in its shadow drive (R371, R379). -/
def State.sharedAligned (s : State) : Bool :=
  (List.range 16).all fun n =>
    let c := Tab.get s.cfg.out.ch n OutChCfg.reset
    !(c.shared && c.enable) || (Tab.get s.out.ch n OutCh.reset).aligned

/-- An enabled comparison entry that checks this chip's own driving fails (R377). -/
def State.selfFails (s : State) : Bool :=
  (List.range 8).any fun e =>
    let c := Tab.get s.cfg.pair.cmp e PairCmpCfg.reset
    let m := Tab.get s.pair.cmp e PairCmp.reset
    c.en && m.selfDrv && m.fail

/-- PAIR_HEALTH.RAW (R371). -/
def State.healthRaw (s : State) : BitVec 6 :=
  let time := (s.acd.state == .locked || s.acd.state == .drydownIn) &&
    decide (s.ebAccord < s.cfg.pair.ebMaxNs.toNat * 100)
  let outOk := !s.selfFails && s.pair.outBad == 0 && (s.pair.role != .standby || s.sharedAligned)
  let ownRef := match s.selectedSlot with
    | some n => n != 17
    | none => false
  let clean := !s.classBPresent && !s.pair.claimTestBad && !(s.pair.cmp.toList.any (·.calBad))
  BitVec.ofNat 6 (clean.toNat + 2 * ownRef.toNat + 4 * s.primary.toNat + 8 * (s.acd.state == .locked).toNat
    + 16 * outOk.toNat + 32 * time.toNat)

/-- HEALTH follows its conditions: a bit clears the moment its condition fails (R371). -/
def State.pairEval (s : State) : State :=
  if !s.ready pdPair then s
  else
    let raw := s.healthRaw
    let h := s.pair.health &&& raw
    let s1 := { s with pair := { s.pair with
      raw := raw, health := h
      rawSince := Tab.mapIdx s.pair.rawSince fun b t => if has raw b && !has s.pair.raw b then s.ticks else t } }
    if h = s.pair.health then s1 else s1.raise (src 12 10)

/-- The claim number (R370). -/
def State.claimNow (s : State) : BitVec 13 :=
  let zero := s.flt.safe || s.sys.devState == .sleep || !s.ready pdPair || s.pair.role == .solo ||
    s.pair.role == .safe || !s.pair.started || s.pair.sideConflict
  if zero then 0
  else
    BitVec.ofNat 13 (4096 + 64 * s.pair.health.toNat + 32 * s.pair.incumbent.toNat
      + 2 * s.cfg.pair.pref.toNat + s.fuse.pairSide.toNat)

/-- Everything that depends on the accord's state, its bound or the device's state is evaluated again. -/
def State.react (s : State) : State := (s.outEval.svcEval).pairEval

end Sys2Proof.Machine
end

