-- ==== Sys2Proof/Machine/AccordOps.lean ====
section
/-! DEFINITION. The accord's own operations (R121 to R142): rate, steering history, drydown growth, state changes,
steps entering and leaving S, and the publication of EB_ACCORD. -/

namespace Sys2Proof.Machine

/-- A leap of the configuration that has not been applied yet (R147). -/
def AcdCfg.leapWaits (c : AcdCfg) : Bool := c.leap != 0 && c.utcOffsetS != c.leapOffset

/-! ### Rate and steering history -/

/-- TOD_INCR of a rate (R122). -/
def incrOf (f : Int) : BitVec 64 :=
  BitVec.ofNat 64 ((0x00CCCCCCCCCCCCCD * (1000000000000000 + f) + 500000000000000) / 1000000000000000).toNat

/-- A rate is accepted: its TOD_INCR is pending and applies 64 ticks later (R16, R122). -/
def State.setRate (s : State) (f : BitVec 40) : State :=
  let v := incrOf f.toInt
  { s with acd := { s.acd with
    freqServo := f, incrPendVal := v, incrQueue := s.acd.incrQueue ++ [(s.ticks + 64, v)] } }

/-- The newest `left` ticks of a steering history. -/
def histTake : Nat → List (BitVec 40 × Nat) → List (BitVec 40 × Nat)
  | _, [] => []
  | left, (r, d) :: t => if left = 0 then [] else (r, min d left) :: histTake (left - d) t

/-- The steering history with the present rate's run added: at most 86,400 s are kept (R137). -/
def State.steered (s : State) : List (BitVec 40 × Nat) :=
  if s.ticks ≤ s.acd.steerFrom then s.acd.steerHist
  else histTake (86400 * sTicks) ((s.acd.freqServo, s.ticks - s.acd.steerFrom) :: s.acd.steerHist)

/-- The mean rate of a history and its length in ticks; the mean is cut off toward zero (DEDUCED). -/
def histMean (h : List (BitVec 40 × Nat)) : Int × Nat :=
  let n : Nat := (h.map fun (p : BitVec 40 × Nat) => p.2).sum
  let t : Int := (h.map fun (p : BitVec 40 × Nat) => p.1.toInt * (p.2 : Int)).sum
  (Int.tdiv t n, n)

/-! ### Drydown growth (R128, R129) -/

/-- The oscillator class in use (R140). -/
def State.oscClass (s : State) : Nat :=
  if s.cfg.acd.cpllAtom then s.cfg.acd.atomClass.toNat
  else if s.acd.macerate then 4 else s.cfg.acd.ocxoClass.toNat

/-- The coefficients in use. -/
def State.osc (s : State) : OscModel := Tab.get s.cfg.acd.osc s.oscClass OscModel.reset

/-- The temperature that channel `c` stands for, in 0.01 degrees: channel 0 takes its place while it is not VALID
(R388). -/
def State.tempOf (s : State) (c : Nat) : Int := (Tab.get s.mon.temp (if has s.mon.tempValid c then c else 0) 0).toInt

/-- The servo steers from the selected slot: no t of R128 runs. -/
def State.servoOn (s : State) : Bool :=
  (s.acd.state == .acquire || s.acd.state == .locked) && s.acd.holdFrom.isNone

/-- The steering history up to now (R137): intervals in which the servo did not steer are no part of it. -/
def State.steerHistNow (s : State) : List (BitVec 40 × Nat) := if s.servoOn then s.steered else s.acd.steerHist

/-- The mean rate over the last HOLD_AVG_S seconds of steering, and the ticks of history behind it (R128, R137). -/
def State.holdMean (s : State) : Int × Nat :=
  histMean (histTake (s.cfg.acd.holdAvgS.toNat * sTicks) s.steerHistNow)

/-- FREQ_HOLD_MPPT as it would be taken now (R137): with no history, the rate in force. -/
def State.freqHoldNow (s : State) : BitVec 40 :=
  let m := s.holdMean
  if m.2 = 0 then s.acd.freqServo else BitVec.ofInt 40 m.1

/-- ACD_FREQ_HOLD and ACD_FREQ_LAST: while the servo steers they read what they would be were t to begin now (DEDUCED, log
entry 33). -/
def State.freqHoldReg (s : State) : BitVec 40 := if s.servoOn then s.freqHoldNow else s.acd.freqHold

/-- ACD_FREQ_LAST. -/
def State.freqLastReg (s : State) : BitVec 40 := if s.servoOn then s.acd.freqServo else s.acd.freqLast

/-- EB_ACCORD as last published, without E_HOLD (R128). -/
def State.ebBare (s : State) : Nat := s.acd.ebAccord - s.acd.eHold

/-- The temperature of the oscillator in use. -/
def State.oscTemp (s : State) : Int := s.tempOf s.osc.tempSrc.toNat

/-- t of R128 begins at tick `t0`, with what EB0, T0 and ΔT_max then were, unless it already runs. -/
def State.holdBegin (s : State) (t0 eb0 : Nat) (temp : Int) (dt : BitVec 16) : State :=
  match s.acd.holdFrom with
  | some _ => s
  | none =>
    { s with acd := { s.acd with
      steerHist := s.steerHistNow, steerFrom := s.ticks, freqLast := s.acd.freqServo, freqHold := s.freqHoldNow
      holdFrom := some t0, holdH := s.holdMean.2, tempAt0 := temp, dtMax := dt, eHold := 0, eb0 := eb0 } }

/-- t of R128 begins now: a hold-off, a loss, SLEEP or a commanded drydown. -/
def State.holdStart (s : State) : State := s.holdBegin s.ticks s.ebBare s.oscTemp 0

/-- t of R128 begins at the last steer write (R124). -/
def State.holdFromWrite (s : State) : State :=
  s.holdBegin s.acd.lastWrite s.acd.writeEb s.acd.writeTemp s.acd.writeDt

/-- The steer write, or the start of steering, from which R124 counts is now. -/
def State.writeMark (s : State) : State :=
  { s with acd := { s.acd with
    lastSteer := s.ticks, lastWrite := s.ticks, writeEb := s.ebBare, writeTemp := s.oscTemp, writeDt := 0 } }

/-- |y0| of R128 as a fraction: HOLD_AVG_S is the configured one of now, H the history latched at the start of t (DESIGN
CHOICE, log entry 59). -/
def State.y0Frac (s : State) : Nat × Nat :=
  let o := s.osc
  if s.acd.state == .freerun || (s.acd.state == .safe && !s.acd.everLocked) then (o.y0Free.toNat, 1)
  else
    let avg := s.cfg.acd.holdAvgS.toNat * sTicks
    let h := s.acd.holdH
    let d := (s.acd.freqLast.toInt - s.acd.freqHold.toInt).natAbs
    if avg ≤ h then (min o.y0Free.toNat o.y0.toNat + d, 1)
    else if o.y0Free.toNat * h ≤ o.y0.toNat * avg then (o.y0Free.toNat + d, 1)
    else (o.y0.toNat * avg + d * h, h)

/-- |y0| in use (R128), rounded up to a unit. -/
def State.y0Now (s : State) : Nat := ceilDiv s.y0Frac.1 s.y0Frac.2

/-- E_HOLD computed for the end of the interval that now begins (R18, R128): in 10 ps, rounded up once. -/
def State.eHoldFor (s : State) (t0 : Nat) : Nat :=
  let o := s.osc
  let t := s.ticks - t0 + 64
  let y := s.y0Frac
  ceilDiv (y.1 * t * 80000000000 * 86400 + (o.age.toNat * t * t * 32
    + o.tempco.toNat * s.acd.dtMax.toNat * t * 800000000 * 86400) * y.2) (86400 * 10 ^ 24 * y.2)

/-- The largest temperature changes since t began and since the last steer write follow a new reading (R128). -/
def State.holdTemp (s : State) : State :=
  let a := s.acd
  let up (m : BitVec 16) (t0 : Int) : BitVec 16 := BitVec.ofNat 16 (max m.toNat (s.oscTemp - t0).natAbs)
  { s with acd := { a with
    dtMax := if a.holdFrom.isSome then up a.dtMax a.tempAt0 else a.dtMax, writeDt := up a.writeDt a.writeTemp } }

/-! ### ACCORD_STATE -/

/-- ACCORD_STATE becomes `t` (R130). -/
def State.setAccord (s : State) (t : AccordState) : State :=
  if s.acd.state = t then s
  else
    let old := s.acd.state
    let s1 := { s with acd := { s.acd with
      state := t, everLocked := s.acd.everLocked || t == AccordState.locked, lockRun := none } }
    let s2 := s1.raise (src 3 0) 0 0 old.code.toNat t.code.toNat
    let s3 := if t = .locked then s2.raise (src 3 1) else s2
    let s4 := if t = .drydownOut then s3.raise (src 3 3) 0 s3.acd.ebAccord else s3
    s4.react

/-- DRYDOWN_IN or DRYDOWN_OUT by the bound (R130). -/
def State.dryState (s : State) : AccordState :=
  if s.acd.ebAccord > s.cfg.acd.holdSpecNs.toNat * 100 then .drydownOut else .drydownIn

/-- Setting the accord is no step: what had been marked, latched or sampled before it is forgotten, and the next instant of
each kind is the first (DESIGN CHOICE, log entry 8). -/
def State.timeSet (s : State) : State :=
  { s with
    out := { s.out with
      tp := Tab.mapIdx s.out.tp fun _ t => { t with lastInst := none }
      tod := Tab.mapIdx s.out.tod fun _ t => { t with lastSec := none } }
    gns := { s.gns with lastLatch := none }
    tmg := { s.tmg with lastMs := none }
    eth := { s.eth with lanes := Tab.mapIdx s.eth.lanes fun _ l => { l with ivLastMs := none } } }

/-- The accord is seeded or set to an instant with a bound (R81, R82, R148). -/
def State.seedAccord (s : State) (t : Tai) (eb : Nat) : State :=
  let c := taiNat t * 2 ^ 40
  let s1 := { s with acd := { s.acd with
    adj := s.acd.adj + ((c : Int) - (s.acd.count : Int))
    count := c, eb0 := eb, ebAccord := eb, everSeeded := true, everLocked := false
    holdFrom := some s.ticks, holdH := 0, tempAt0 := s.oscTemp, dtMax := 0, eHold := 0
    freqLast := s.acd.freqServo } }
  let s2 := if decide (0xFFFFFF ≤ eb) && decide (s.acd.ebAccord < 0xFFFFFF) then s1.raise (src 3 9) else s1
  (s2.timeSet.setAccord .freerun).react

/-- The servo stops steering and the accord enters drydown, or FREERUN from ACQUIRE (R124, R130, R137). Where the servo was
`lost`, t began at its last write. -/
def State.enterDrydown (s : State) (lost : Bool) : State :=
  let h := if lost then s.holdFromWrite else s.holdStart
  match s.acd.state with
  | .locked =>
    let s2 := h.setRate h.acd.freqHold
    let s3 := s2.raise (src 3 2) 0 s2.acd.eb0
    s3.setAccord s3.dryState
  | .acquire => h.setAccord .freerun
  | _ => s

/-! ### Steps (R132 to R134) -/

/-- One second in 2^-56 ns. -/
def oneSecond56 : Nat := sec16 * 2 ^ 40

/-- A step of 2^-56 ns as registers and entries give it, in 2^-16 ns. -/
def step16 (x : Int) : Int := Int.tdiv x (2 ^ 40)

/-- Whether a step would be applied at once by R115 and R133, with no slew running. -/
def State.stepNow (s : State) (x : Int) : Bool :=
  let c := s.cfg.acd
  if s.acd.state == .acquire && !s.acd.acqStepDone && !c.acqSlew then true
  else if oneSecond56 ≤ x.natAbs && s.acd.state != .acquire then false
  else c.modeStep && c.stepAllow && decide (c.stepMinNs.toNat * 2 ^ 56 ≤ x.natAbs)

/-- The steps of a list, in 2^-56 ns. -/
def stepSum (l : List StepIn) : Int := (l.map StepIn.x).sum

/-- The part of S that is being slewed, the steps that are still to reach their apply ticks among it. -/
def State.slewOut (s : State) : Int := s.acd.stepOut - stepSum (s.acd.stepIn.filter (·.once))

/-- A step enters S (R132). `source` is 0 switch, 1 re-entry, 2 ACD_ADJUST_PHASE; `fresh`: it replaces what is still
outstanding (R134); `op` is what it adds to EB0 at its apply tick (R136). A step that finds a slew of S joins it; one that
makes S zero leaves nothing to apply. -/
def State.addStep (s : State) (x : Int) (source : Nat) (fresh : Bool) (op : Nat := 0) : State :=
  let s0 := if fresh && s.acd.stepOut ≠ 0 then
      { s with acd := { s.acd with stepOut := 0, stepIn := [] } }.raise (src 3 14) 0 (step16 s.acd.stepOut)
    else s
  let a := s0.acd
  let slewing := decide (s0.slewOut ≠ 0)
  let large := oneSecond56 ≤ x.natAbs && a.state != .acquire
  let once := s0.stepNow x && !slewing
  let acq := a.state == .acquire && !a.acqStepDone && once
  let zero := decide (a.stepOut + x = 0)
  let ins : List StepIn := a.stepIn ++ [{ tick := s0.ticks, x := x, once := once, acq := acq, op := op }]
  let s1 := { s0 with acd := { a with
    stepOut := a.stepOut + x, stepAtOnce := once, stepIn := if zero then [] else ins
    eb0 := if zero then a.eb0 + (ins.map StepIn.op).sum else a.eb0
    slewRem := if slewing then a.slewRem else 0, acqStepDone := a.acqStepDone || a.state == AccordState.acquire } }
  let s2 := s1.raise (src 3 4) source (step16 x)
  let s3 := if large then s2.raise (src 3 6) else s2
  if zero then s3.raise (src 3 5) else s3

/-- Steering starts afresh: at a switch or a re-entry (R126, R129, R451). `going`: the servo steered until now, and the
timeout of R124 goes on from its last write; else it counts from here (DESIGN CHOICE, log entry 60). -/
def State.startSteer (s : State) (going : Bool) : State :=
  let s1 := { s with acd := { s.acd with
    residuals := [], eServoKept := s.acd.eServo, steerHist := s.steerHistNow, holdFrom := none
    steerFrom := s.ticks, lockRun := none, servoLost := false, integ := s.acd.freqServo.toInt * 2 ^ 32 } }
  if going then s1 else s1.writeMark

/-- The slewed part of S that has reached the accord. -/
def State.slewDue (s : State) : Int := s.acd.stepOut - stepSum s.acd.stepIn

/-- The servo firmware's integrator starts from the rate in force (R451). -/
def State.loopLoad (s : State) : State := { s with acd := { s.acd with integ := s.acd.freqServo.toInt * 2 ^ 32 } }

/-- The slew's rate in 0.001 ppt, reduced where the sum with FREQ_SERVO_MPPT would leave the range of R10 (R123). -/
def State.slewRate (s : State) : Nat :=
  let full := s.cfg.acd.slewLimitNs.toNat * 1000000
  let room := if 0 < s.slewDue then (2 ^ 39 - 1 - s.acd.freqServo.toInt).toNat
    else (2 ^ 39 + s.acd.freqServo.toInt).toNat
  min full room

/-- SLEW_MPPT (R122, R132). -/
def State.slewMppt (s : State) : BitVec 40 :=
  if s.slewDue = 0 then 0
  else if 0 < s.slewDue then BitVec.ofNat 40 s.slewRate else BitVec.ofInt 40 (-(s.slewRate : Int))

/-- Phase is applied to the counter. -/
def Acd.shift (a : Acd) (x : Int) : Acd :=
  { a with count := ((a.count : Int) + x).toNat, adj := a.adj + x, stepOut := a.stepOut - x }

/-- The steps that reached the ACD at least 64 ticks ago (R16). -/
def State.stepsRipe (s : State) : List StepIn := s.acd.stepIn.filter fun i => decide (i.tick + 64 ≤ s.ticks)

/-- The publication tick is now: the steps that have reached the ACD 64 ticks ago apply, those of the first kind whole, and
the rest by `n` quanta (R16, R132, R136). -/
def State.applyStep (s : State) (n : Nat) : State :=
  let a := s.acd
  let ripe := s.stepsRipe
  let rest := a.stepIn.filter fun i => !decide (i.tick + 64 ≤ s.ticks)
  let whole := stepSum (ripe.filter (·.once))
  let slew := a.stepOut - stepSum rest - whole
  let q := { s with acd := { a with stepIn := rest, stepOut := a.stepOut - whole } }.slewRate * 512 * 2 ^ 56 * n
    + a.slewRem
  let m := min (q / 10 ^ 16) slew.natAbs
  let x : Int := whole + (if 0 < slew then (m : Int) else -(m : Int))
  { s with acd := { (a.shift x) with
    stepIn := rest, slewRem := if slew = 0 then 0 else q % 10 ^ 16, eb0 := a.eb0 + (ripe.map StepIn.op).sum } }

/-! ### The bound (R22, R126 to R129) -/

/-- E_STEP of an outstanding step (R127). -/
def eStepOf (x : Int) : Nat := ceilDiv (x.natAbs * 100) (2 ^ 56)

/-- E_SERVO over residuals, newest first, in 2^-16 ns (R126): the last 16 of them, and their 16 differences from the ones
before. -/
def eServoOf (floor : Nat) (es : List Int) (kept : Nat) : Nat :=
  let m := (es.take 16).foldl (fun a e => max a e.natAbs) 0
  let d := (es.zip es.tail).foldl (fun a p => max a (p.1 - p.2).natAbs) 0
  let v := floor + ceilDiv ((m + d) * 100) 65536
  if es.length < 16 then max v kept else v

/-- The terms of R22 as they stand now, for the ACD to accept at this publication tick (R16, R98, R23). -/
def State.termsNow (s : State) : EbTerms :=
  let a := s.acd
  match s.selectedSlot, a.state == .locked || a.state == .acquire with
  | some n, true =>
    { eRef := ebSat ((s.slotCfg n).declUnc.toNat + (s.slot n).eSrc.toNat), eMeas := (s.slot n).eMeas
      eServo := a.eServo, ePair := if n = 17 then 2 else 0, hold := a.holdFrom }
  | _, _ => { a.accepted with hold := a.holdFrom }

/-- The sum of the measured terms (R22). -/
def EbTerms.sum (t : EbTerms) : Nat := t.eRef.toNat + t.eMeas.toNat + t.eServo + t.ePair

/-- The tick from which E_HOLD is counted in the bound now published: a drydown enters at once, and it ends when the
terms that replace it have been accepted (R16, R141). -/
def State.holdForm (s : State) : Option Nat := s.acd.holdFrom.or s.acd.accepted.hold

/-- EB_ACCORD by R22, at full width, of the terms as registered. -/
def State.ebByRule (s : State) : Nat :=
  let a := s.acd
  match a.state, s.holdForm with
  | .cold, _ => 0xFFFFFF
  | _, some _ => a.eb0 + a.eHold + a.eStep
  | _, none => a.eRef.toNat + a.eMeas.toNat + a.eServoPub + a.eStep + a.ePair

/-- clockAccuracy of a bound (R286). -/
def accuracyOf (eb : Nat) : BitVec 8 :=
  if eb ≤ 2500 then 0x20 else if eb ≤ 10000 then 0x21 else if eb ≤ 25000 then 0x22 else if eb ≤ 100000 then 0x23
  else if eb ≤ 250000 then 0x24 else if eb ≤ 1000000 then 0x25 else if eb ≤ 2500000 then 0x26
  else if eb ≤ 10000000 then 0x27 else if eb < 0xFFFFFF then 0x28 else 0xFE

/-- SVC_STATUS.CLOCK_ACCURACY follows a bound (R286; DEDUCED: the device's own bound, with no port's terms). -/
def State.setAccuracy (s : State) (eb : Nat) : State :=
  { s with svc := { s.svc with clockAcc := if s.svc.clockClass = 248 then 0xFE else accuracyOf eb } }

/-- The terms accepted at the publication before are in force, the step outstanding and the growth are those of the
interval's end, and EB_ACCORD is their sum (R16, R18, R22). -/
def State.ebNow (s : State) : State :=
  let t := s.acd.accepted
  let grown := match s.holdForm with
    | some t0 => max s.acd.eHold (s.eHoldFor t0)
    | none => 0
  let s1 := { s with acd := { s.acd with
    eRef := t.eRef, eMeas := t.eMeas, eServoPub := t.eServo, ePair := t.ePair
    eStep := eStepOf (s.acd.stepOut - stepSum s.acd.stepIn), y0Eff := s.y0Now, eHold := grown
    dtMax := if s.holdForm.isSome then s.acd.dtMax else 0 } }
  { s1 with acd := { s1.acd with ebAccord := s1.ebByRule, accepted := s.termsNow } }

/-- EB_ACCORD is computed and published, and what depends on it is evaluated again (R18). -/
def State.publishEb (s : State) : State :=
  let a := s.ebNow
  let eb := a.acd.ebAccord
  let b := if decide (0xFFFFFF ≤ eb) && decide (s.acd.ebAccord < 0xFFFFFF) then a.raise (src 3 9) else a
  let c := if b.drydown then b.setAccord b.dryState else b
  (c.react).setAccuracy eb

/-! ### The calendar (R401, R402) -/

/-- The calendar's count now, in 1/32,768 s: it runs at the crystal's nominal rate with the trim in force (DESIGN CHOICE,
log entry 9), and stands still while the crystal does. -/
def State.calCount (s : State) : Nat :=
  let v := s.vbat
  let run := if v.xtalOk then
      ((s.ticks - v.calBase) * 32768 * (1000000000 + s.cfg.cal.trimPpb.toInt).toNat) / (1000000000 * sTicks) else 0
  v.seconds.toNat * 32768 + v.subsec.toNat + run

/-- The tick of the next edge of the calendar's crystal, this tick's included (R402). -/
def State.calEdge (s : State) : Nat :=
  let v := s.vbat
  let k := 32768 * (1000000000 + s.cfg.cal.trimPpb.toInt).toNat
  let d := 1000000000 * sTicks
  v.calBase + ceilDiv (ceilDiv ((s.ticks - v.calBase) * k) d * d) k

/-- The calendar's SECONDS now. -/
def State.calSec (s : State) : Nat := s.calCount / 32768

/-- The calendar's reading becomes the base from which it counts on. -/
def State.calRebase (s : State) : State :=
  let c := s.calCount
  { s with vbat := { s.vbat with
    seconds := BitVec.ofNat 48 (c / 32768), subsec := BitVec.ofNat 15 (c % 32768), calBase := s.ticks } }

/-- CAL_EB (R403): CAL_EB_MS plus the drift since the last sync, in 10 ps. -/
def State.calEb (s : State) : Nat :=
  let age := ((s.calSec : Int) - s.vbat.lastSyncS.toNat).natAbs
  s.cfg.cal.calEbMs.toNat * 100000000 + s.cfg.cal.calDriftPpb.toNat * age * 100

/-- The calendar's reading as a TAI96 value (R401). -/
def State.calTai (s : State) : Tai := taiOf (s.calCount * sec16 / 32768)

end Sys2Proof.Machine
end

