-- ==== Sys2Proof/Machine/FaultOps.lean ====
section
/-! DEFINITION. Ring slots, the fault collector's assertion of a source (R357 to R360) and the safe state's entry
(R363). -/

namespace Sys2Proof.Machine

/-! ### Ring slots and their moderated message (R51, R61) -/

/-- A slot of ring `n` is written or freed: the ring's vector sends its message when COUNT slots have gathered, or at
once where no wait is allowed (R61). -/
def Cmd.ringTouch (c : Cmd) (n : Nat) : Cmd :=
  let r := Tab.get c.rings n Ring.reset
  let k := r.modPending + 1
  if r.modCount.toNat ≤ k || r.holdUs = 0 then
    { c with rings := Tab.mod c.rings n fun q => { q with modPending := 0 } }.msi (32 + n / 2)
  else { c with rings := Tab.mod c.rings n fun q => { q with modPending := k } }

/-- Bytes of a slot of ring `n` (R51, R157, R163, R166, R177, R197, R244, R246, R252, R323). -/
def slotBytes (n : Nat) : Nat :=
  if n ≤ 3 ∨ n = 32 then 1056
  else if n ≤ 7 then 64
  else if n ≤ 23 then 32
  else if n ≤ 31 then 16
  else if n = 34 then 4096
  else if n ≤ 51 then 32
  else 2048

/-- The host address of the slot that index `k` of ring `n` names: BASE + (k mod SIZE) × its bytes (R51). -/
def Ring.slotAt (r : Ring) (n : Nat) (k : BitVec 32) : BitVec 64 :=
  (r.baseHi ++ r.baseLo) + BitVec.ofNat 64 (k.toNat % r.size * slotBytes n)

/-- A record is written to the next slot of a device-to-host ring. -/
def State.ringPush (s : State) (n : Nat) (rec : List W32) : State :=
  let c := { s.cmd with rings := Tab.mod s.cmd.rings n fun q =>
    let f := decide (q.size ≤ q.used + 1)
    { q with
      prod := q.prod + 1, last := rec, lastAt := q.slotAt n q.prod
      fullFrom := if f then s.ticks else q.fullFrom, stallTold := !f && q.stallTold } }
  { s with cmd := c.ringTouch n }

/-- The device passes a slot of a host-to-device ring, having written `rec` into it (an empty list: nothing). -/
def State.ringFree (s : State) (n : Nat) (rec : List W32) : State :=
  let c := { s.cmd with rings := Tab.mod s.cmd.rings n fun q =>
    { q with cons := q.cons + 1, last := if rec.isEmpty then q.last else rec, lastAt := q.slotAt n q.cons } }
  { s with cmd := c.ringTouch n }

/-- Slots at CONS that are complete are passed: the ring's CONS, its completed slots and how many were passed. -/
def passSlots : Nat → BitVec 32 → List (BitVec 32) → Nat → BitVec 32 × List (BitVec 32) × Nat
  | 0, c, d, n => (c, d, n)
  | k + 1, c, d, n => if d.contains c then passSlots k (c + 1) (d.filter fun x => x != c) (n + 1) else (c, d, n)

/-- The completion of the host descriptor in slot `slot` (R244): it is written into that slot, and CONS passes every
completed slot that it stands at. -/
def State.completeTx (s : State) (lane : Nat) (status : Nat) (slot : Nat) (cookie : BitVec 16)
    (stamp : Option Stamp) : State :=
  let ws := match stamp with
    | some t => t.words
    | none => [0, 0, 0, 0]
  let rec0 := ws ++ [word [(0, status), (8, stamp.isSome.toNat)], 0, word [(0, cookie.toNat)], word [(31, 1)]]
  let n := 36 + lane
  let r := Tab.get s.cmd.rings n Ring.reset
  let d := r.doneSlots ++ [BitVec.ofNat 32 slot]
  let x := passSlots d.length r.cons d 0
  let c := { s.cmd with rings := Tab.mod s.cmd.rings n fun q =>
    { q with cons := x.1, doneSlots := x.2.1, last := rec0, lastAt := q.slotAt n (BitVec.ofNat 32 slot) } }
  { s with cmd := (List.range x.2.2).foldl (fun (c : Cmd) _ => c.ringTouch n) c }

/-- Host descriptors of a list of frames complete FLUSHED (R244). -/
def State.flushHost (s : State) (lane : Nat) (fs : List TxFrame) : State :=
  (fs.filter (·.host)).foldl (fun s f => s.completeTx lane 6 f.slotIdx f.cookie none) s

/-- Queue `q` is emptied: its frames are discarded and, with `count`, counted in Q_DROP (R277). -/
def State.emptyQueue (s : State) (q : Nat) (count : Bool) : State :=
  let t := Tab.get s.tmg.q q TmgQ.reset
  if t.frames.isEmpty then s
  else
    let t' := { t with frames := [], qDrop := if count then t.qDrop + BitVec.ofNat 32 t.frames.length else t.qDrop }
    { s with tmg := { s.tmg with q := Tab.set s.tmg.q q t' } }.flushHost (q / 8) t.frames

/-! ### Sources -/

/-- The sources that R358 and R407 name; the others are reserved. -/
def faultNamed (n : Nat) : Bool :=
  n ≤ 9 || n == 32 || n == 33 || n == 64 || n == 65 || (96 ≤ n && n ≤ 98) || n == 128 || n == 160 || n == 161 ||
    (192 ≤ n && n ≤ 217) || (224 ≤ n && n ≤ 232)

/-- The sources whose class is fixed (R358, R407), reserved ones included. -/
def faultFixed (n : Nat) : Bool :=
  !faultNamed n || n ≤ 9 || (192 ≤ n && n ≤ 195) || n == 216 || n == 227

/-- The level sources (R359). -/
def faultLevel (n : Nat) : Bool :=
  n == 4 || n == 9 || n == 64 || n == 65 || n == 97 || n == 192 || n == 193 || n == 195 || (224 ≤ n && n ≤ 228) ||
    (196 ≤ n && n ≤ 223)

/-! ### The safe state -/

/-- Clock outputs squelch in the safe state (R220). -/
def OutCh.safe (o : OutCh) : OutCh :=
  { o with running := false, gliding := false, sqAuto := o.running || o.sqAuto, sqCause := 3 }

/-- Every output takes its safe level and an echo measurement is aborted (R220, R230). -/
def Out.safe (o : Out) : Out :=
  let o1 := { o with
    ch := Tab.mapIdx o.ch fun _ c => c.safe
    tp := Tab.mapIdx o.tp fun _ t => { t with running := false, high := false }
    tod := Tab.mapIdx o.tod fun _ t => { t with running := false, silent := true } }
  match o1.echo with
  | none => o1
  | some e => { o1 with
      echo := none, echoValid := true, echoStatus := 3, echoApplied := false, echoTarget := e.target
      echoSeq := o1.echoSeq + 1 }

/-- Channels that an echo measurement claimed are released (R204). -/
def State.echoRelease (s : State) : State :=
  { s with tic := { s.tic with ch := Tab.mapIdx s.tic.ch fun _ c =>
    if c.claim = 1 then { c with claim := 0 } else c } }

/-- An echo measurement that runs ends ABORTED (R230). -/
def State.echoAbort (s : State) : State :=
  match s.out.echo with
  | none => s
  | some e =>
    let s1 := { s with out := { s.out with
      echo := none, echoValid := true, echoStatus := 3, echoApplied := false, echoTarget := e.target
      echoSeq := s.out.echoSeq + 1 } }
    s1.echoRelease.outRaise 9 e.target.toNat

/-- The service and commit classes of every lane close, their frames are discarded and their bookings freed (R277). -/
def State.tmgSafe (s : State) : State :=
  let s1 := (List.range 128).foldl (fun s q =>
    let l := Tab.get s.tmg.lanes (q / 8) TmgLane.reset
    if q % 8 = 7 || has l.svcClasses (q % 8) then s.emptyQueue q true else s) s
  { s1 with tmg := { s1.tmg with lanes := Tab.mapIdx s1.tmg.lanes fun _ l =>
    { l with gates := l.gates &&& ~~~(l.svcClasses ||| 0x80), bookings := [] } } }

/-- How many bits of a mask are set. -/
def bitsOn {w : Nat} (m : BitVec w) : Nat := ((List.range w).filter fun i => has m i).length

/-- How long target `t` of a run takes, in ticks (R416). -/
def BistRun.span (r : BistRun) (t : Nat) : Nat :=
  if !has r.mask t then 0
  else match t with
    | 0 => 40 * msTicks
    | 1 => 5 * msTicks
    | 2 => 20 * msTicks
    | 3 => bitsOn r.quads * 10 * msTicks
    | 4 => 2 * msTicks
    | _ => bitsOn r.outs * msTicks

/-- How long after the start of a run target `t` begins: the targets run in bit order (R416). -/
def BistRun.begins (r : BistRun) (t : Nat) : Nat := ((List.range t).map r.span).sum

/-- The targets that a run has finished with after `n` ticks. -/
def BistRun.ran (r : BistRun) (n : Nat) : BitVec 6 :=
  ((List.range 6).filter fun t => has r.mask t && decide (r.begins (t + 1) ≤ n)).foldl (fun m t => putBit m t true) 0

/-- The targets that a run has begun after `n` ticks. -/
def BistRun.begun (r : BistRun) (n : Nat) : BitVec 6 :=
  ((List.range 6).filter fun t => has r.mask t && decide (r.begins t ≤ n)).foldl (fun m t => putBit m t true) 0

/-- What the digital die's march test clears: client table, capture staging, frame buffers (R416). -/
def State.bistSram (s : State) : State :=
  let s1 := { s with
    svc := { s.svc with clients := [], fullTick := none }
    eth := { s.eth with lanes := Tab.mapIdx s.eth.lanes fun _ l => { l with
      stage := [] } } }
  { s1 with tmg := { s1.tmg with
    q := Tab.mapIdx s1.tmg.q fun _ q => { q with frames := [] }
    lanes := Tab.mapIdx s1.tmg.lanes fun _ l => { l with bookings := [], wireFrame := none } } }

/-- What the timing die's march test clears (R416). -/
def State.bistTic (s : State) : State :=
  { s with tic := { s.tic with ch := Tab.mapIdx s.tic.ch fun _ c => { c with queue := [] } } }

/-- The targets in `m` that clear state have run: the march tests, and the engines' test, which resets them (R68, R416). -/
def State.bistClears (s : State) (m : BitVec 6) : State :=
  let s1 := if has m 0 then s.bistSram else s
  let s2 := if has m 1 then s1.bistTic else s1
  if has m 2 then s2.loopLoad else s2

/-- A self-test that runs ends ABORTED, its remaining targets not run (R416). The targets begun have had their effect, and
which of the finished ones failed is a free value (log entry 87). -/
def State.bistAbort (s : State) : State :=
  match s.blt.bist with
  | none => s
  | some r =>
    let n := s.ticks - r.start
    let s1 := (s.bistClears (r.begun n)).drawn
    let f : BitVec 6 := s.free.setWidth 6 &&& r.ran n
    { s1 with blt := { s1.blt with
      bist := none, bistValid := true, bistStatus := 2, bistFail := f, bistSeq := s1.blt.bistSeq + 1 } }.raise (src 15 27)
      0 f.toNat

/-- PAIR_ROLE becomes `r`. -/
def State.setRole (s : State) (r : PairRole) : State :=
  if s.pair.role = r then s
  else ({ s with pair := { s.pair with role := r } }).raise (src 12 0) 0 0 s.pair.role.code.toNat r.code.toNat

/-- The pair's side of the safe state: the claim is zero, OWN is given up, the partner is told (R363, R375). -/
def State.pairSafe (s : State) (owned : Bool) : State :=
  let s1 := { s with pair := { s.pair with
    claim := 0, own := false, incumbent := false, started := false, inRound := false, hPending := false
    handoverPending := false, rejoinArmed := false
    notices := if s.pair.linkUp then s.pair.notices ++ [PairNotice.safe] else s.pair.notices } }
  let s2 := s1.setRole .safe
  if owned then s2.raise (src 4 11) else s2

/-- DEV_STATE becomes `d` (R71); leaving SLEEP raises INT_SYS_WAKE too (R94). -/
def State.setDev (s : State) (d : DevState) : State :=
  if s.sys.devState = d then s
  else
    let s1 := ({ s with sys := { s.sys with devState := d } }).raise (src 0 0) 0 0 s.sys.devState.code.toNat d.code.toNat
    if s.sys.devState = .sleep then s1.raise (src 0 5) else s1

/-- The accord's side of the safe state (R130): it counts as in drydown. -/
def State.accordSafe (s : State) : State :=
  let steer := s.acd.state == .locked || s.acd.state == .acquire
  let s1 := if s.acd.state != .cold then s.holdStart else s
  let s2 := if steer then s1.setRate s1.acd.freqHold else s1
  s2.setAccord .safe

/-- The safe state's squelch of clock output `n`, which ran in state `old`, is told like every other (R219). -/
def State.outSafeTold (old s : State) (n : Nat) : State :=
  if (Tab.get old.out.ch n OutCh.reset).running then s.outRaise 8 n else s

/-- The safe-state line asserts (R363): `first` is the class A source. -/
def State.safeEnter (s : State) (first : Nat) : State :=
  let owned := s.own
  let s1 := { s with flt := { s.flt with
    safe := true, firstA := if s.flt.selfFail then 0 else BitVec.ofNat 8 first, safeSeq := s.flt.safeSeq + 1 } }
  let t := s1.stamp
  let s2 := { s1 with flt := { s1.flt with safeAt := t.time, safeEb := t.eb, safeFlags := t.flags } }
  let s3 := s2.pairSafe owned
  let s4 := s3.tmgSafe
  let e := s4.out.echo
  let s5 := { s4 with out := s4.out.safe }
  let s6 := match e with
    | some r => s5.echoRelease.outRaise 9 r.target.toNat
    | none => s5
  let s7 := (((List.range 16).foldl (State.outSafeTold s) s6).accordSafe).setDev .safe
  s7.react.bistAbort

/-! ### Assertion -/

/-- The EVENT entry of one assertion (R357). -/
def State.faultEntry (s : State) (n cls : Nat) (injected : Bool) : State :=
  s.logPut (eventEntry s (src 11 (2 - cls)) n injected.toNat 0 0 15)

/-- Latch, count and present bit of an assertion. -/
def Flt.assert (f : Flt) (n : Nat) (isA level : Bool) (tick : Nat) : Flt :=
  { f with
    latch := f.latch ||| bitAt 256 n
    latchA := if isA then f.latchA ||| bitAt 256 n else f.latchA
    present := if level then f.present ||| bitAt 256 n else f.present
    counts := Tab.mod f.counts n (· + 1)
    freshA := isA || (f.freshA && f.freshTick == tick)
    freshTick := if isA then tick else f.freshTick
    presentBefore := if isA && !(f.freshA && f.freshTick == tick) then f.present else f.presentBefore }

/-- Source `n` drives the safe-state line (R357, R361, R363): the safe state is entered where the device is not in it, and
the EVENT entry is written in every case. -/
def State.safeLine (s : State) (n : Nat) (injected : Bool) : State :=
  (if s.flt.safe then s else (s.safeEnter n).irq (src 11 0)).faultEntry n 2 injected

/-- Fault source `n` asserts (R357): once at an event, at its beginning for a level source. The collector is armed from
INIT, and a reserved source never asserts. -/
def State.faultAssert (s : State) (n : Nat) (injected : Bool := false) : State :=
  if s.sys.devState = .boot || !faultNamed n || (faultLevel n && has s.flt.present n && !injected) then s
  else
    let cls := s.faultClass n
    let s1 := { s with flt := s.flt.assert n (cls == 2) (faultLevel n && !injected) s.ticks }
    if cls = 2 then s1.safeLine n injected
    else
      ((s1.irq (src 11 (2 - cls))).faultEntry n cls injected).pairEval

/-- The condition of level source `n` ends (R359). -/
def State.faultEnd (s : State) (n : Nat) : State :=
  ({ s with flt := { s.flt with present := s.flt.present &&& ~~~(bitAt 256 n) } }).pairEval

end Sys2Proof.Machine
end

