-- ==== Sys2Proof/Machine/KeepOps.lean ====
section
/-! DEFINITION. Writing the keep (R392 to R397): the commit of CSP fields, a row whose write fails verification, and
the spare that takes its place. -/

namespace Sys2Proof.Machine

/-- SPARES_FREE: working unused spares (R396). -/
def Keep.sparesFree (k : Keep) : Nat := (k.remap.toList.filter fun r => !r.used && !r.failed).length

/-- The lowest free spare (R396). -/
def Keep.lowestSpare (k : Keep) : Option Nat :=
  (List.range 128).find? fun i => let r := Tab.get k.remap i Remap.reset; !r.used && !r.failed

/-- The keep becomes read-only (R397). -/
def State.keepReadOnly (s : State) : State :=
  if s.keep.ro then s
  else
    let s1 := { s with keep := { s.keep with ro := true } }
    (s1.raise (src 14 14)).faultAssert 195

/-- What follows the free count falling: KEEP_SPARE_LOW at 16, the pool empty at 0 (R396, R400). -/
def State.keepSpareTold (s : State) : State :=
  let n := s.keep.sparesFree
  let s1 := if n = 16 then (s.raise (src 14 13)).faultAssert 214 else s
  if n = 0 then s1.raise (src 14 7) 2 else s1

/-- A write of logical row `row` fails verification twice: the lowest free spare takes the row, or the keep becomes
read-only. The answer says whether the write completed (R396, R397). -/
def State.keepRowFail (s : State) (row : BitVec 10) : State × Bool :=
  let s1 := { s with keep := { s.keep with verifyFail := s.keep.verifyFail + 2 } }
  match s1.keep.lowestSpare with
  | none => (s1.keepReadOnly, false)
  | some i =>
    let s2 := { s1 with keep := { s1.keep with
      writes := s1.keep.writes + 4
      remap := Tab.set s1.keep.remap i { row := row, failed := false, used := true } } }
    ((s2.raise (src 14 12) row.toNat).keepSpareTold, true)

/-- A keep write, with the row that fails if any does. The answer says whether it completed. -/
def State.keepWrite (s : State) (fail : Option (BitVec 10)) : State × Bool :=
  match fail with
  | none => ({ s with keep := { s.keep with writes := s.keep.writes + 1 } }, true)
  | some row => s.keepRowFail row

/-- The device writes a row of its own accord: skipped and counted while the keep is read-only (R397). -/
def State.keepOwn (s : State) (f : Keep → Keep) : State :=
  if s.keep.ro then { s with keep := { s.keep with roSkips := s.keep.roSkips + 1 } }
  else { s with keep := { f s.keep with writes := s.keep.writes + 1 } }

/-! ### Reading the keep (R394, R398) -/

/-- The CSP image with the fields of a lost row at their defaults (R394). -/
def Csp.rowLost (c : Csp) (row : Nat) : Csp :=
  haveI : Inhabited Csp := ⟨Csp.reset⟩
  Config.keepRowLost row c Csp.reset

/-- Every row of a range is lost. -/
def rowsLost (lost : List (BitVec 10)) (first n : Nat) : Bool :=
  (List.range n).all fun i => lost.contains (BitVec.ofNat 10 (first + i))

/-- The keep without the rows of which no valid copy exists (R392, R394): their fields take their defaults; a slot ring is lost
with its last row (log entry 85). -/
def Keep.without (k : Keep) (lost : List (BitVec 10)) : Keep :=
  let csp := (lost.map (·.toNat)).filter fun r => decide (4 ≤ r) && decide (r < 260)
  let epoch (i : Nat) (e : EpochSlot) : EpochSlot := if rowsLost lost (280 + i) 1 then EpochSlot.reset else e
  { k with
    image := k.image.map fun c => csp.foldl Csp.rowLost c
    headSlot := if rowsLost lost 264 16 then none else k.headSlot
    headOlder := if rowsLost lost 264 16 then [] else k.headOlder
    epochs := Tab.mapIdx k.epochs epoch
    sealCheck := if rowsLost lost 286 2 then 0 else k.sealCheck, sealGen := if rowsLost lost 286 2 then 0 else k.sealGen
    wrapCount := if rowsLost lost 288 8 then 0 else k.wrapCount
    gmacMark := Tab.mapIdx k.gmacMark fun i m => if rowsLost lost (296 + 4 * i) 4 then 0 else m
    ticTables := Tab.mapIdx k.ticTables fun c t => if rowsLost lost (424 + c) 1 then TicTable.reset else t
    capEpoch := Tab.mapIdx k.capEpoch fun q e => if rowsLost lost (476 + q) 1 then 0 else e }

/-- What reading the keep finds is counted (R394). -/
def Keep.readCount (k : Keep) (corrected copies : Nat) (lost : List (BitVec 10)) : Keep :=
  { k with
    corrected := k.corrected + BitVec.ofNat 32 corrected, uncorr := k.uncorr + BitVec.ofNat 32 (copies + lost.length)
    lost := k.lost ++ lost.filter fun r => !k.lost.contains r }

/-- The chain-head ring without its `n` newest slots: the valid slot with the highest SEQ wins (R398). -/
def Keep.headDrop (k : Keep) (n : Nat) : Keep :=
  match (k.headSlot.toList ++ k.headOlder).drop n with
  | h :: t => { k with headSlot := some h, headOlder := t }
  | [] => { k with headSlot := none, headOlder := [] }

/-- KEEP_UNCORR is present, and each row is logged by its number (R394). -/
def State.keepUncorr (s : State) (rows : List (BitVec 10)) : State :=
  if rows.isEmpty then s
  else (rows.foldl (fun (s : State) r => s.raise (src 14 15) r.toNat) s).faultAssert 215

/-- The CSP fields are committed to the keep (R393). -/
def State.commitCsp (s : State) : State :=
  { s with keep := { s.keep with image := some s.cfg, commitSeq := s.keep.commitSeq + 1 } }

end Sys2Proof.Machine
end

