-- ==== Sys2Proof/Machine/ResetOps.lean ====
section
/-! DEFINITION. Cold and chip reset (R68 to R70): what is kept, and what the registers hold after it. -/

namespace Sys2Proof

/-- SVN of an image (R74). -/
def FwImage.svn (f : FwImage) : BitVec 6 := f.svnWord.setWidth 6

/-- Magic, length, hash and signature of an image all check (R74, R75). -/
def FwImage.checks (f : FwImage) : Bool :=
  let head := wordsBytes [f.magic, f.svnWord, f.length, f.rsvd] ++ digBytes f.hash
  f.magic == 0x535A4657 && decide (f.length.toNat ≤ 4194048) && f.hash == f.body &&
    Config.ecdsaOk Config.fwKey (sha256 head) f.sigR f.sigS

/-- SVN_FLOOR: the steps of the thermometer of which either fuse reads programmed (R75). -/
def Machine.Fuse.svnFloor (f : Machine.Fuse) : BitVec 6 :=
  BitVec.ofNat 6 ((List.range 63).countP fun i => (f.svnPairA ||| f.svnPairB).getLsbD i)

end Sys2Proof

namespace Sys2Proof.Machine

/-- The keep after a reset: its contents stay, its registers return to their reset values (R68); that it is
read-only is known until the reset examines it again (R397). -/
def Keep.afterReset (k : Keep) : Keep :=
  { Keep.reset with
    ro := k.ro, image := k.image, commitSeq := k.commitSeq, remap := k.remap, headSlot := k.headSlot
    headOlder := k.headOlder
    epochs := k.epochs, keyCommit := k.keyCommit, sealCheck := k.sealCheck, sealGen := k.sealGen
    wrapCount := k.wrapCount, gmacMark := k.gmacMark, ticTables := k.ticTables, capEpoch := k.capEpoch }

/-- SYS after a reset of the given cause (R69). The images in flash stay, but for one that was being written: its slot holds
no valid image (R77; DEDUCED for a reset that is no loss of power, log entry 23). -/
def Sys.afterReset (y : Sys) (cause : Nat) (cold : Bool) : Sys :=
  { Sys.reset with
    lastReset := BitVec.ofNat 4 cause, coldReset := cold, porLow := y.porLow, resetLow := y.resetLow
    railsOut := y.railsOut
    flashA := if y.stageBusy && y.bootSlot then {} else y.flashA
    flashB := if y.stageBusy && !y.bootSlot then {} else y.flashB }

/-- The release of the reset is now, unless it is held (R78). -/
def State.released (s : State) : State := { s with sys := { s.sys with releasedAt := s.ticks } }

/-- Cold (`cold`) or chip reset (R68): everything but PD_VBAT and the keep's contents. The straps stay until they are
sampled again. -/
def State.toReset (s : State) (cause : Nat) (cold : Bool) : State :=
  { State.reset with
    ticks := s.ticks, freeCtr := s.freeCtr, fuse := s.fuse, vbat := s.vbat, keep := s.keep.afterReset
    cfg := s.keep.image.getD Csp.reset, sys := s.sys.afterReset cause cold, pending := s.pending
    mon := { Mon.reset with lastCross := s.ticks } }.released

/-- What follows the COMMAND entry of a command that resets the chip or sends it to sleep: the head is persisted
ORDERLY (R320), and the chip reset begins (R70). An entry that waits behind a signature is written first. -/
def State.settle (s : State) : State :=
  if !s.log.waitQ.isEmpty then s
  else
    let s1 := { s with sys := { s.sys with after := 0 } }
    match s.sys.after.toNat with
    | 1 => (s1.persistHead State.logPut true).toReset 2 false
    | 2 => s1.persistHead State.logPut true
    | _ => s1

end Sys2Proof.Machine
end

