-- ==== Sys2Proof/Machine/Packets.lean ====
section
/-! DEFINITION. The command processor (R35 to R50): what a packet needs, the checks of R42 in their order, execution,
the COMMAND entry, the reply. Each opcode is one `OpSpec`; Machine/Commands.lean runs them. -/

namespace Sys2Proof

/-! ### Reading a packet -/

/-- LC_FUSES: the steps of which either fuse reads programmed (R335). -/
def Machine.Fuse.lcSteps (f : Machine.Fuse) : BitVec 4 := f.lcPairA ||| f.lcPairB

/-- Payload word `i`. -/
def Packet.w (p : Packet) (i : Nat) : W32 := p.payload.getD i 0

/-- A 64-bit value in words `i` and `i + 1`. -/
def Packet.w2 (p : Packet) (i : Nat) : BitVec 64 := p.w (i + 1) ++ p.w i

/-- A TAI96 value in words `i` to `i + 2`. -/
def Packet.tai (p : Packet) (i : Nat) : Tai := p.w (i + 2) ++ (p.w (i + 1) ++ p.w i)

/-- Every payload word has no bit outside its mask; words past the list must be zero. -/
def Packet.only (p : Packet) (masks : List W32) : Bool :=
  (List.range p.payload.length).all fun i => p.w i &&& ~~~(masks.getD i 0) == 0

/-- The opcode and the packet that the words of a header and its payload spell, sent by `master` through `source` (R39). -/
def Packet.ofWords (master : BitVec 4) (source : BitVec 8) (ws : List W32) : Nat × Packet :=
  let w (i : Nat) : W32 := ws.getD i 0
  let n := ((w 0).extractLsb' 16 16)
  ((w 0).toNat % 65536,
    { master := master, source := source, len := n, tag := (w 1).extractLsb' 0 16, sched := (w 1).getLsbD 16
      noReply := (w 1).getLsbD 17, dryRun := (w 1).getLsbD 18, execAt := w 4 ++ (w 3 ++ w 2)
      rsvd := (w 1).toNat / 2 ^ 19 + 8192 * ((w 5).toNat + 2 ^ 32 * (w 6).toNat + 2 ^ 64 * (w 7).toNat)
      payload := (ws.drop 8).take (min n.toNat 256) })

/-- The packet's SOURCE is a mailbox (R40). -/
def Packet.mailbox (p : Packet) : Bool := decide (0x10 ≤ p.source.toNat)

/-- The header words of a packet (R39). -/
def Packet.header (p : Packet) (opcode : Nat) : List W32 :=
  [Machine.word [(0, opcode), (16, p.len.toNat)],
    Machine.word [(0, p.tag.toNat), (16, p.sched.toNat), (17, p.noReply.toNat), (18, p.dryRun.toNat), (19, p.rsvd % 8192)]] ++
    Machine.taiWords p.execAt ++ leWords 3 (p.rsvd / 8192)

/-- SHA-256 of the whole packet (R316). -/
def Packet.digest (p : Packet) (opcode : Nat) : Dig := sha256 (wordsBytes (p.header opcode ++ p.payload))

end Sys2Proof

namespace Sys2Proof.Machine

/-- What the body of a command answers: the state it leaves, its status and its reply payload. -/
structure Done where
  /-- the state -/
  st : State
  /-- STATUS -/
  status : Status := .ok
  /-- reply payload -/
  payload : List W32 := []

/-- The body executed. -/
def Done.ok (s : State) (payload : List W32 := []) : Done := { st := s, payload := payload }

/-- The body ends with a status other than OK and no effect. -/
def Done.err (s : State) (x : Status) : Done := { st := s, status := x }

/-- What a listed opcode is: its number, the states it executes in, its length rule and its checks and body. -/
structure OpSpec where
  /-- OPCODE -/
  opcode : Nat
  /-- DEV_STATE values in which it executes: 1 INIT, 2 RUN, 4 MAINT, 8 SAFE, 16 SLEEP (R44, R53) -/
  states : BitVec 5
  /-- the LEN its packet must have; none accepts any (R450) -/
  len : Packet → Option Nat
  /-- the life-cycle state allows it (R336) -/
  lcOk : State → Packet → Bool := fun _ _ => true
  /-- its parameters are legal: reserved bits zero, values in range (R42) -/
  params : State → Packet → Bool := fun _ _ => true
  /-- it would write a CSP field if it executed (R395) -/
  csp : Packet → Bool := fun _ => false
  /-- what it does -/
  body : Packet → State → Done

/-! ### States and rights -/

/-- States lists of R53. -/
def stAll : BitVec 5 := 0x1F
/-- INIT, RUN and MAINT. -/
def stIRM : BitVec 5 := 0x07
/-- RUN and MAINT. -/
def stRM : BitVec 5 := 0x06
/-- INIT and MAINT. -/
def stIM : BitVec 5 := 0x05
/-- MAINT. -/
def stM : BitVec 5 := 0x04

/-- DEV_STATE is among the states of an opcode; in BOOT no command executes (R44). -/
def devAllows (states : BitVec 5) (d : DevState) : Bool :=
  match d with
  | .boot => false
  | .init => has states 0
  | .run => has states 1
  | .maint => has states 2
  | .safe => has states 3
  | .sleep => has states 4

/-- The opcode is a query (R41). -/
def isQuery (opcode : Nat) : Bool := decide (opcode % 256 < 0x40)

/-- The master may submit the opcode (R38). -/
def privileged (m : BitVec 4) (opcode : Nat) : Bool :=
  let cls := opcode / 256
  match m.toNat with
  | 0 => true
  | 1 | 2 => isQuery opcode || cls == 0x00 || cls == 0x0B || cls == 0x0C || opcode == 0x0A43
  | 14 => isQuery opcode || (0x0B80 ≤ opcode && opcode ≤ 0x0BFF)
  | _ => false

/-! ### Replies -/

/-- A waiting entry's EXEC_AT, in 2^-16 ns. -/
def SchedEntry.at16 (e : SchedEntry) : Nat := taiNat e.pkt.execAt

/-- Entries of the scheduled queue in use: waiting ones and those that hold an undelivered reply (R47). -/
def Cmd.schedUsed (c : Cmd) : Nat := c.sched.length + (c.replies.filter (·.frees)).length

/-- A status is counted and raises its interrupts (R43, R64). `final`: the reply is a FINAL one. -/
def State.countStatus (s : State) (x : Status) (final : Bool) : State :=
  let s1 := { s with cmd := { s.cmd with stat := Tab.mod s.cmd.stat x.code (· + 1) } }
  let s2 := if final && x ≠ .ok then s1.irq (src 1 0) else s1
  match x with
  | .late => s2.irq (src 1 1)
  | .state => s2.irq (src 1 2)
  | .denied | .authFail => s2.irq (src 1 3)
  | .logFull => s2.irq (src 1 9)
  | _ => s2

/-- A reply arises: it is held for delivery, unless NO_REPLY suppresses it (R39, R40). -/
def State.reply (s : State) (p : Packet) (opcode kind : Nat) (x : Status) (payload : List W32) (seq : BitVec 32)
    (frees : Bool) : State :=
  if p.noReply && (x = .ok || x = .accepted) then s
  else
    let t := s.stamp
    let r : Reply := { Reply.reset with
      status := BitVec.ofNat 16 x.code, len := BitVec.ofNat 16 payload.length, tag := p.tag
      kind := BitVec.ofNat 4 kind, origin := p.master, source := p.source, time := t.time, eb := t.eb
      flags := t.flags, opcode := BitVec.ofNat 16 opcode, logSeq := seq
      payload := if p.mailbox then payload.take 8 else payload, frees := frees }
    { s with cmd := { s.cmd with replies := s.cmd.replies ++ [r] } }

/-- The low word of the sequence number that entry `e` would take now, 0 where it would not be entered. -/
def State.seqFor (s : State) (e : LogEntry) : BitVec 32 :=
  if s.log.signing then
    if s.log.waitQ.length < 256 then (s.log.nextSeq + 2 + BitVec.ofNat 48 s.log.waitQ.length).extractLsb' 0 32 else 0
  else if s.logRoom e then s.log.nextSeq.extractLsb' 0 32 else 0

/-- LC_STATE (R334, R335). -/
def State.lc (s : State) : LcState :=
  let f := s.fuse.lcSteps
  if has f 3 then .scrapped else if has f 2 then .rma
  else if has f 1 then if s.sys.debug then .debug else .deployed
  else if has f 0 then .provisioned else .blank

/-- What a COMMAND entry records beside R316's fields: DEV_STATE and ACCORD_STATE of a STATE, LC_STATE of a DENIED (R43), the
TIC records that a power-down of PD_TIC found waiting (R199). R316 gives them no place: the model takes W7 [27:25] and
[30:28], and for the count all of [31:25], which holds at most 127 (DESIGN CHOICE, log entry 21). -/
def State.entryNote (s : State) (x : Status) : Nat :=
  match x with
  | .state => s.sys.devState.code.toNat + 8 * s.acd.state.code.toNat
  | .denied => s.lc.code.toNat
  | .ok => min s.sys.note 127
  | _ => 0

/-- The COMMAND entry of an outcome (R43, R316). -/
def commandEntry (s : State) (p : Packet) (opcode : Nat) (x : Status) : LogEntry :=
  entryOf 0x04 p.master.toNat 0 s.stamp
    ([word [(0, opcode), (16, x.code)],
      word [(0, p.tag.toNat), (16, p.source.toNat), (24, p.sched.toNat), (25, s.entryNote x)]] ++
      digWords (p.digest opcode))

/-- Outcomes of a state-changing command that enter the log (R43). -/
def Status.logged : Status → Bool
  | .ok | .state | .denied | .authFail | .aborted => true
  | _ => false

/-- The command ends with a FINAL reply: the outcome is logged where R43 says so, counted and answered. A DRY_RUN is not
logged (R39). A command that resets the chip sends no reply (R70). -/
def State.finish (s : State) (p : Packet) (opcode : Nat) (x : Status) (payload : List W32) (frees : Bool) : State :=
  if !isQuery opcode && x.logged && !p.dryRun then
    let e := commandEntry s p opcode x
    let q := s.seqFor e
    let t := (s.logPut e).countStatus x true
    if s.sys.after = 1 then t else t.reply p opcode 0 x payload q frees
  else (s.countStatus x true).reply p opcode 0 x payload 0 frees

/-! ### Execution -/

/-- LOG_FULL holds for the opcode (R42, R325). -/
def State.logFullFor (s : State) (opcode : Nat) : Bool :=
  !isQuery opcode && opcode ≠ 0x0A40 && opcode ≠ 0x0041 && decide (logFullAt ≤ s.log.heldCount)

/-- A LOG_FULL refusal is counted in the log too (R316, R325), unless it answers a DRY_RUN (R39). -/
def State.countRefused (s : State) (p : Packet) : State :=
  if p.dryRun then s
  else { s with log := { s.log with
    refused := s.log.refused + 1, gapRefused := s.log.gapRefused + 1, fillRefused := s.log.fillRefused + 1 } }

/-- The body runs, and its CSP fields are committed: refused under the power-fail warning (R395) and while the keep is
read-only (R397). -/
def OpSpec.run (o : OpSpec) (p : Packet) (s : State) : Done :=
  if o.csp p && s.mon.pfw then
    Done.err { s with keep := { s.keep with pfwRefused := s.keep.pfwRefused + 1 } } .busy
  else if o.csp p && s.keep.ro then Done.err s .noResource
  else
    let d := o.body p s
    if d.status = .ok && o.csp p then
      match p.keepFail with
      | none => { d with st := (d.st.keepWrite none).1.commitCsp }
      | some row =>
        let k := s.keepRowFail row
        if k.2 then { d with st := ((o.body p k.1).st).commitCsp } else Done.err k.1 .noResource
    else d

/-- The command executes: from the state step of R42 on, for an immediate command and for a scheduled one at its
time. -/
def OpSpec.execute (o : OpSpec) (p : Packet) (s : State) (frees : Bool) : State :=
  if !devAllows o.states s.sys.devState then s.finish p o.opcode .state [] frees
  else if s.logFullFor o.opcode then (s.countRefused p).finish p o.opcode .logFull [] frees
  else
    let d := o.run p { s with sys := { s.sys with note := 0 } }
    (d.st.finish p o.opcode d.status d.payload frees).settle

/-- A scheduled command enters the queue (R47). -/
def State.enqueue (s : State) (p : Packet) (opcode : Nat) : State :=
  let e : SchedEntry := { opcode := BitVec.ofNat 16 opcode, pkt := p }
  let s1 := { s with cmd := { s.cmd with sched := s.cmd.sched ++ [e] } }
  let n := s1.cmd.schedUsed
  let s2 := if n = 224 then s1.raise (src 1 4) else s1
  let s3 := if n = 256 then s2.raise (src 1 5) else s2
  (s3.countStatus .accepted false).reply p opcode 1 .accepted [] 0 false

/-- The first status of R42 before the state step, where one applies. -/
def OpSpec.early (o : OpSpec) (p : Packet) (s : State) : Option Status :=
  if o.opcode / 256 = 5 && !s.fuse.gnssEn then some .noResource
  else if 256 < p.len.toNat || (p.mailbox && 8 < p.len.toNat) ||
      (match o.len p with | some n => p.len.toNat ≠ n | none => false) then some .badLength
  else if !privileged p.master o.opcode || !o.lcOk s p then some .denied
  else if p.rsvd ≠ 0 || (p.sched && !taiOk p.execAt) || !o.params s p then some .badParam
  else if p.sched && s.acd.state = .cold then some .state
  else if p.sched && taiNat p.execAt < s.now16 + 10 * us16 then some .late
  else none

/-- Dispatch of a packet whose early checks passed (R42). -/
def OpSpec.accept (o : OpSpec) (p : Packet) (s : State) : State :=
  if p.sched then
    if s.logFullFor o.opcode then (s.countRefused p).finish p o.opcode .logFull [] false
    else if 256 ≤ s.cmd.schedUsed then s.finish p o.opcode .noResource [] false
    else if p.dryRun then (s.countStatus .accepted false).reply p o.opcode 1 .accepted [] 0 false
    else s.enqueue p o.opcode
  else if p.dryRun then
    if !devAllows o.states s.sys.devState then s.finish p o.opcode .state [] false
    else if s.logFullFor o.opcode then (s.countRefused p).finish p o.opcode .logFull [] false
    else (s.countStatus .ok true).reply p o.opcode 0 .ok [] 0 false
  else o.execute p s false

/-! ### Fetching -/

/-- The master whose packets come through a source: M0 by rings 0 and 1 and MBX0, M1 by MBX1, M2 by MBX2, M14 by MBX6
(R38, R54). No other source carries commands. -/
def sourceMaster (source : BitVec 8) : Option (BitVec 4) :=
  match source.toNat with
  | 0x00 | 0x01 | 0x10 => some 0
  | 0x11 => some 1
  | 0x12 => some 2
  | 0x16 => some 14
  | _ => none

/-- The mailbox of a packet's SOURCE. -/
def State.boxOf (s : State) (p : Packet) : Mbx := Tab.get s.cmd.mbx (p.source.toNat - 0x10) Mbx.reset

/-- The message that waits in the packet's mailbox is this packet (R39, R54, R55). -/
def State.boxHolds (s : State) (opcode : Nat) (p : Packet) : Bool :=
  let b := s.boxOf p
  b.full && !b.awaiting &&
    decide (Packet.ofWords p.master p.source b.data.toList = (opcode, { p with dt := 0, keepFail := none }))

/-- The packet can be fetched: not in reset or in BOOT (R44), nor while a SYS_RESET of the chip waits for its entry (R70); through a path of its
master (R38, R54); from a mailbox that holds it, or from a ring that is enabled, whose PROD is past its CONS, and whose
reply ring has a free slot (R51, R52). -/
def State.canFetch (s : State) (opcode : Nat) (p : Packet) : Bool :=
  !s.sys.inReset && s.sys.devState != .boot && s.sys.after != 1 && sourceMaster p.source == some p.master &&
    (if p.mailbox then s.boxHolds opcode p
    else s.ready pdPcie && (s.ring p.source.toNat).enable &&
      (s.ring p.source.toNat).prod != (s.ring p.source.toNat).cons && s.ringRoom (p.source.toNat + 2))

/-- The packet leaves its ring slot or its mailbox (R51, R55). -/
def State.fetched (s : State) (p : Packet) : State :=
  if p.mailbox then
    let n := p.source.toNat - 0x10
    ({ s with cmd := { s.cmd with mbx := Tab.mod s.cmd.mbx n fun m => { m with full := false, takenSeq := m.seq } } }).irq
      (24 + n)
  else
    { s with cmd := { s.cmd with stall := s.cmd.stall &&& ~~~(bitAt 2 p.source.toNat) } }.ringFree p.source.toNat []

/-- A command ring's fetch stops, its reply ring being full (R52). -/
def State.fetchStall (s : State) (p : Packet) : State :=
  let n := p.source.toNat
  let r := s.ring n
  if !s.sys.inReset && s.sys.devState != .boot && n < 2 && s.ready pdPcie && r.enable && r.prod != r.cons &&
      !s.ringRoom (n + 2) && !has s.cmd.stall n then
    { s with cmd := { s.cmd with stall := s.cmd.stall ||| bitAt 2 n } }.raise (src 1 6)
  else s

/-- A packet at hand is fetched and goes through the checks of R42. One that cannot be fetched has no effect. -/
def State.takePacket (s : State) (o : OpSpec) (p : Packet) : State :=
  if !s.canFetch o.opcode p then s.fetchStall p
  else
    let s1 := s.fetched p
    match o.early p s1 with
    | some x => s1.finish p o.opcode x [] false
    | none => o.accept p s1

/-- A word lies between two bounds. -/
def within (w : W32) (lo hi : Nat) : Bool := decide (lo ≤ w.toNat) && decide (w.toNat ≤ hi)

/-! ### Replies made of registers -/

/-- `n` words of a register window, by offset; offsets that no register holds read 0. -/
def win (n : Nat) (fs : List (Nat × W32)) : List W32 := (List.range n).map fun i => (fs.lookup (4 * i)).getD 0

/-- A 64-bit register at an offset. -/
def at64 (off : Nat) (x : BitVec 64) : List (Nat × W32) := [(off, x.setWidth 32), (off + 4, x.extractLsb' 32 32)]

/-- A TAI96 register at an offset. -/
def at96 (off : Nat) (x : Tai) : List (Nat × W32) :=
  [(off, x.setWidth 32), (off + 4, x.extractLsb' 32 32), (off + 8, x.extractLsb' 64 32)]

/-- Consecutive words from an offset. -/
def atWords (off : Nat) (ws : List W32) : List (Nat × W32) := ws.mapIdx fun i w => (off + 4 * i, w)

/-- A query's body: it changes nothing and answers these words. -/
def answer (f : Packet → State → List W32) (p : Packet) (s : State) : Done := Done.ok s (f p s)

end Sys2Proof.Machine
end

