-- ==== Sys2Proof/Machine/RefOps.lean ====
section
/-! DEFINITION. The reference slots' own operations (R95 to R118): offsets, scatter, frequencies, slope, majority, the
phase matrix, qualification, selection and switching. -/

namespace Sys2Proof.Machine

/-! ### What a slot is (R95, R96) -/

/-- TYPE of slot `n`: fixed for REF12 to REF19. -/
def State.refType (s : State) (n : Nat) : Nat :=
  if n < 12 then (s.slotCfg n).typ.toNat else if n = 12 then 4 else if n ≤ 16 then 5 else if n = 17 then 6 else 7

/-- A type of PPS class: updated once a second. -/
def ppsType (t : Nat) : Bool := t == 0 || t == 3 || t == 4 || t == 5

/-- Slot `n` is PPS-class. -/
def State.refPps (s : State) (n : Nat) : Bool := ppsType (s.refType n)

/-- Slot `n` has a mate. REF17's offsets are delivered, so a MATE that names it has no effect on it (DESIGN CHOICE, log
entry 61). -/
def State.refMate (s : State) (n : Nat) : Option Nat :=
  let m := (s.slotCfg n).mate.toNat
  if m < 20 && !s.refPps n && n != 18 && n != 17 then some m else none

/-- TIME: the slot carries time of day (R95). -/
def State.refTime (s : State) (n : Nat) : Bool := s.refPps n || n == 17 || (s.refMate n).isSome

/-- Nominal frequency of a clock-class slot, in Hz; at least 1. -/
def State.refHz (s : State) (n : Nat) : Nat :=
  let t := s.refType n
  let f := if n = 18 then s.cfg.acd.ocxoHz.toNat else if n = 19 then s.cfg.acd.atomHz.toNat
    else if t = 1 then 10000000 else (s.slotCfg n).freqHz.toNat
  max 1 f

/-- The slot's source exists: GNSS not fused off, its domain on, its instance configured (R106). -/
def State.refExists (s : State) (n : Nat) : Bool :=
  if n = 12 then s.fuse.gnssEn && s.ready pdGnss
  else if 13 ≤ n && n ≤ 16 then (Tab.get s.cfg.ref.ptp (n - 13) RefPtpCfg.reset).enable && s.ready pdEngine
  else if n = 17 then s.ready pdPair && s.pair.linkUp
  else if n = 18 then s.acd.ocxoPresent else if n = 19 then s.acd.atomPresent else true

/-- Slot `n` changed. -/
def State.modSlot (s : State) (n : Nat) (f : RefSlot → RefSlot) : State :=
  { s with ref := { s.ref with slots := Tab.mod s.ref.slots n f } }

/-- A history bit sets (R110); its source is raised where the bit was clear. -/
def State.refHist (s : State) (n b : Nat) (so : Option Nat) (value : Int := 0) : State :=
  if has (s.slot n).history b then s
  else
    let s1 := s.modSlot n fun q => { q with history := q.history ||| bitAt 16 b }
    match so with
    | some x => s1.raise x n value
    | none => s1

/-! ### Arithmetic -/

/-- Picoseconds in 2^-16 ns. -/
def ps16 (ps : Int) : Int := Int.tdiv (ps * 65536) 1000

/-- The whole number nearest to a ÷ b, b > 0. -/
def nearest (a : Int) (b : Nat) : Int := (2 * a + b) / (2 * (b : Int))

/-- The relative rate of a phase change of `dx` (2^-16 ns) over `dt` ticks, in 0.001 ppt; the reference's own frequency is
high where its offset falls. -/
def rateOf (dx : Int) (dt : Nat) : Int := if dt = 0 then 0 else -(Int.tdiv (dx * 10000000000000000) (524288 * (dt : Int)))

/-- The phase an offset gains over `dt` ticks at frequency `f` (0.001 ppt), in 2^-16 ns. -/
def drift16 (f : Int) (dt : Nat) : Int := -(Int.tdiv (f * 524288 * (dt : Int)) 10000000000000000)

/-- The smallest whole number whose square is at least `v`. -/
def ceilSqrt (v : Nat) : Nat := let m := Nat.sqrt v; if m * m < v then m + 1 else m

/-- Sums over points (t, x): count, t, t², x, t·x, x². -/
def fitSums (l : List (Int × Int)) : Int × Int × Int × Int × Int × Int :=
  l.foldl (fun a p => (a.1 + 1, a.2.1 + p.1, a.2.2.1 + p.1 * p.1, a.2.2.2.1 + p.2, a.2.2.2.2.1 + p.1 * p.2,
    a.2.2.2.2.2 + p.2 * p.2)) (0, 0, 0, 0, 0, 0)

/-- Six times the rms deviation of offsets about their linear fit, in 10 ps rounded up (R98). -/
def scatter6 (offs : List (Nat × Int)) : Nat :=
  match offs with
  | [] => 0
  | (t0, x0) :: _ =>
    let (n, st, stt, sx, stx, sxx) := fitSums (offs.map fun p => ((p.1 : Int) - t0, p.2 - x0))
    let d := n * stt - st * st
    let c := n * stx - st * sx
    let a := n * sxx - sx * sx
    let num := if d = 0 then a else a * d - c * c
    let den := if d = 0 then n * n else n * n * d
    ceilSqrt (ceilDiv (num.toNat * 360000) (den.toNat * 4294967296))

/-- E_MEAS of a slot (R98). -/
def eMeasOf (n : Nat) (offs : List (Nat × Int)) : BitVec 24 :=
  if offs.length < 3 then 0xFFFFFF else ebSat ((Config.refCalUnc n).toNat + scatter6 offs)

/-- Twice the median of a list of numbers: of an even count, the sum of the two middle values (R102). -/
def median2 (l : List Int) : Int :=
  let v := l.mergeSort (fun a b => decide (a ≤ b))
  let n := v.length
  if n % 2 = 1 then 2 * v.getD (n / 2) 0 else v.getD (n / 2 - 1) 0 + v.getD (n / 2) 0

/-- The median of frequencies, cut off toward zero to a unit (R102). -/
def medianOf (l : List Int) : Int := Int.tdiv (median2 l) 2

/-- The median of phases in 2^-16 ns, cut off toward zero to 1 ps (R102). -/
def medianPs (l : List Int) : Int := Int.tdiv (median2 l * 1000) (2 * 65536)

/-- The slope of a slot's 1 s frequency points (newest first) and its time to breach: SLOPE_MPPT, rounded to the nearest as
R104's example reads it (DEDUCED, log entry 62), and BREACH_S (R104). -/
def slopeOf (pts : List Int) (ftol horizon : Nat) : Int × Nat :=
  let (n, st, stt, sf, stf, _) := fitSums (pts.mapIdx fun i f => (-(i : Int), f))
  let d := n * stt - st * st
  let c := n * stf - st * sf
  if d = 0 || c = 0 then (0, 0xFFFFFFFF)
  else
    let y := sf * d - c * st
    let sgn : Int := if 0 < c then 1 else -1
    let breach : Nat :=
      if horizon = 0 || pts.length < 1024 then 0xFFFFFFFF
      else if y.natAbs > ftol * (n * d).natAbs then 0
      else
        let v := Int.tdiv (sgn * ftol * n * d - y) (n * c)
        if (sgn * ftol * n * d - y) * c < 0 then 0xFFFFFFFF else min v.toNat 0xFFFFFFFE
    (if 0 ≤ d then nearest (c * 1000) d.toNat else nearest (-(c * 1000)) d.natAbs, breach)

/-! ### Frequencies and extrapolation -/

/-- The newest of the slot's points that is at least `w` seconds older than the newest one; half a second of tolerance takes
up the scatter of the events. -/
def RefSlot.pointAt (q : RefSlot) (w : Nat) : Option (Nat × Int) :=
  match q.points with
  | [] => none
  | (t1, _) :: l => l.find? fun p => decide (2 * w * sTicks ≤ 2 * (t1 - p.1) + sTicks)

/-- The slot's frequency against the accord over `w` seconds, once the window has filled since the signal came (R103). -/
def RefSlot.freqOver (q : RefSlot) (w : Nat) : Option Int :=
  match q.points.head?, q.pointAt w with
  | some (t1, x1), some (t0, x0) => if q.sigFrom ≤ t0 then some (rateOf (x1 - x0) (t1 - t0)) else none
  | _, _ => none

/-- The slot's offset carried to the present tick by its 1 s frequency offset, FREQ_1S_MPPT (R99, R103, R114). -/
def State.refNow (s : State) (n : Nat) : Int :=
  let q := s.slot n
  match q.lastUpd with
  | some t => q.offset.toInt + drift16 q.freq1s.toInt (s.ticks - t)
  | none => q.offset.toInt

/-- The slot has delivered an offset since its anchor. -/
def RefSlot.live (q : RefSlot) : Bool := q.anchored && q.lastUpd.isSome

/-- The slot's update period in ticks (R95). -/
def State.refPeriod (s : State) (n : Nat) : Nat := if s.refPps n then sTicks else msTicks

/-- A slot that missed its last expected update (R99): its signal or source is lost, or no update has come for one and a half
update periods (DESIGN CHOICE, log entry 63). -/
def State.missed (s : State) (n : Nat) : Bool :=
  let q := s.slot n
  has q.faultSrc 0 || q.srcInvalid || match q.lastUpd with
    | some t => decide (3 * s.refPeriod n < 2 * (s.ticks - t))
    | none => false

/-! ### The phase matrix (R99, R100) -/

/-- The number of cell (i, j), i < j. -/
def cellIdx (i j : Nat) : Nat := 19 * i - i * (i - 1) / 2 + (j - i - 1)

/-- The cell of two slots. -/
def State.refCell (s : State) (a b : Nat) : RefCell := Tab.get s.ref.cells (cellIdx (min a b) (max a b)) RefCell.reset

/-- The slots of cell `c`. -/
def cellSlots (c : Nat) : Nat × Nat :=
  ((List.range 20).flatMap fun i => ((List.range 20).filter (i < ·)).map fun j => (i, j)).getD c (0, 1)

/-- A value of n bits, saturating. -/
def satInt (w : Nat) (v : Int) : BitVec w := BitVec.ofInt w (max (-(2 ^ (w - 1))) (min (2 ^ (w - 1) - 1) v))

/-- Cell (i, j) is updated now (R99). DFREQ_MPPT reads 0 until both slots have 64 s of points (DESIGN CHOICE, log entry
64). -/
def State.cellUpdate (s : State) (a b : Nat) : State :=
  let i := min a b
  let j := max a b
  let qi := s.slot i
  let qj := s.slot j
  let df : Int := match qi.freqOver 64, qj.freqOver 64 with
    | some x, some y => x - y
    | _, _ => 0
  let valid := qi.live && qj.live
  { s with ref := { s.ref with cells := Tab.mod s.ref.cells (cellIdx i j) fun c =>
    { c with
      time := s.timeNow
      phase := BitVec.ofInt 64 (if valid then s.refNow i - s.refNow j else 0)
      unc := ebSat (qi.eMeas.toNat + qj.eMeas.toNat), valid := valid
      clockOnly := !(s.refTime i && s.refTime j), stale := s.missed i || s.missed j
      dfreq := satInt 32 df, seq := c.seq + 1 } } }

/-- The cells that an update of slot `n` updates: those in which it is the slower slot, or no faster. -/
def State.cellsUpdate (s : State) (n : Nat) : State :=
  (List.range 20).foldl (fun s j =>
    if j = n || (s.slot j).qstate == .disabled || !(s.slot j).live || (!s.refPps n && s.refPps j) then s
    else s.cellUpdate n j) s

/-- STALE of every cell of slot `n`. -/
def State.cellsStale (s : State) (n : Nat) : State :=
  { s with ref := { s.ref with cells := Tab.mapIdx s.ref.cells fun c r =>
    let p := cellSlots c
    if p.1 = n || p.2 = n then { r with stale := s.missed p.1 || s.missed p.2 } else r } }

/-- The 1 ms boundary: STALE of every cell follows, and the matrix that REF_QUERY_MATRIX gives is taken (R99, R101). -/
def State.cellsSnap (s : State) : State :=
  let late := (List.range 20).map s.missed
  let cs := Tab.mapIdx s.ref.cells fun c r =>
    let p := cellSlots c
    { r with stale := r.valid && (late.getD p.1 false || late.getD p.2 false) }
  { s with ref := { s.ref with cells := cs, snap := cs, snapSel := s.ref.selected } }

/-- Every cell of slot `n` is reset (R107). -/
def State.cellsReset (s : State) (n : Nat) : State :=
  { s with ref := { s.ref with cells := Tab.mapIdx s.ref.cells fun c r =>
    let p := cellSlots c
    if p.1 = n || p.2 = n then RefCell.reset else r } }

/-! ### Voters and majority (R102, R105) -/

/-- The voters of slot `n`. -/
def State.voters (s : State) (n : Nat) : List Nat :=
  (List.range 20).filter fun j => j != n && ((s.slot j).qstate == .wait || (s.slot j).qstate == .qualified) &&
    (s.refCell n j).valid && !(s.refCell n j).stale

/-- The slot's offset at tick `t` or just after it, from its points of one second each; its oldest point before them. -/
def RefSlot.offsetAt (q : RefSlot) (t : Nat) : Int :=
  match (q.points.takeWhile fun p => decide (t ≤ p.1 + sTicks / 2)).getLast? with
  | some p => p.2
  | none => q.offset.toInt

/-- The tick of the slot's oldest point. -/
def RefSlot.oldest (q : RefSlot) (now : Nat) : Nat := ((q.points.getLast?).map (·.1)).getD now

/-- Δ_nj (R105): the change of a CLOCK_ONLY cell over the last 4,096 s or since its anchor, else the cell's phase. -/
def State.majDelta (s : State) (n j : Nat) : Int :=
  let c := s.refCell n j
  let d := if n < j then c.phase.toInt else -c.phase.toInt
  if c.clockOnly then
    let qn := s.slot n
    let qj := s.slot j
    let t0 := max (s.ticks - 4096 * sTicks) (max (qn.oldest s.ticks) (qj.oldest s.ticks))
    d - (qn.offsetAt t0 - qj.offsetAt t0)
  else d

/-- MAJ_TIE_PS of slot `n` over its voters. -/
def State.majTie (s : State) (n : Nat) (vs : List Nat) : Int := medianPs (vs.map fun j => s.majDelta n j)

/-- FREQ_xS_MPPT over `w` seconds (R103): the median over the voters, or against the accord with none. A voter whose own
window has not filled is left out (DESIGN CHOICE, log entry 65). -/
def State.freqOf (s : State) (n w : Nat) (vs : List Nat) : Option Int :=
  let q := s.slot n
  if vs.isEmpty then q.freqOver w
  else
    let l := vs.filterMap fun j => match q.freqOver w, (s.slot j).freqOver w with
      | some a, some b => some (a - b)
      | _, _ => none
    if l.isEmpty then none else some (medianOf l)

/-- REF_MAJ_STATUS follows the voters (R102, R105). -/
def State.majRefresh (s : State) : State :=
  (List.range 20).foldl (fun s n =>
    let none_ := decide ((s.voters n).length < 2) || (s.slot n).qstate == .disabled
    if none_ = has s.ref.majNone n then s
    else
      let s1 := { s with ref := { s.ref with majNone := putBit s.ref.majNone n none_ } }
      if none_ then s1.raise (src 2 11) n else s1) s

/-! ### Qualification (R107 to R109) -/

/-- QSTATE becomes `t`, with the source `so` raised where there is one; the prediction is dropped in FAILED and ABSENT
(R454). -/
def State.qMove (s : State) (n : Nat) (t : QState) (so : Option Nat) : State :=
  let old := (s.slot n).qstate
  let s1 := s.modSlot n fun q => { q with
    qstate := t, pred := if t == .failed || t == .absent then none else q.pred }
  match so with
  | some x => s1.raise x n 0 old.code.toNat t.code.toNat
  | none => s1

/-- A timer starts. -/
def State.refTimer (s : State) (n : Nat) (first : Bool) : State :=
  s.modSlot n fun q => { q with timerOn := true, timerFrom := s.ticks, timerFirst := first }

/-- The timer stops. -/
def State.refTimerOff (s : State) (n : Nat) : State := s.modSlot n fun q => { q with timerOn := false }

/-- Slot `n` is the selected one. -/
def State.isSel (s : State) (n : Nat) : Bool := s.selectedSlot == some n

/-- The servo stops taking measurements: t of R128 begins (R108). -/
def State.servoHold (s : State) (n : Nat) : State :=
  if s.isSel n && (s.acd.state == .locked || s.acd.state == .acquire) then s.holdStart else s

/-- The servo resumes on the slot after a hold-off, without a step (R108, R124). -/
def State.servoResume (s : State) (n : Nat) : State :=
  if s.isSel n && (s.acd.state == .locked || s.acd.state == .acquire) && !s.acd.servoLost then
    { s with acd := { s.acd with holdFrom := none, steerFrom := s.ticks, steerWait := true } }
  else s

/-- A fault of slot `n` in WAIT: FAILED, with WTR_RESTART where the wait was a wait-to-restore. -/
def State.waitFault (s : State) (n : Nat) : State :=
  let first := (s.slot n).timerFirst
  let s1 := (s.refTimerOff n).qMove n .failed (some (src 2 4))
  if first then s1
  else (s1.refHist n 10 none).raise (src 2 6) n 0 QState.wait.code.toNat QState.failed.code.toNat

/-- A fault of slot `n` in QUALIFIED. -/
def State.qualFault (s : State) (n : Nat) : State :=
  if (s.slotCfg n).holdoffMs = 0 then (s.servoHold n).qMove n .failed (some (src 2 4))
  else ((s.servoHold n).refTimer n false).qMove n .holdoff (some (src 2 2))

/-- The slot moves by R107, its faults being what they now are; `arrived`: an event has just arrived. -/
def State.refJudge (s : State) (n : Nat) (arrived : Bool) : State :=
  let q := s.slot n
  let f := q.faultSrc != 0
  match q.qstate with
  | .absent => if arrived && !f then (s.refTimer n (!q.qualOnce)).qMove n .wait none else s
  | .wait => if f then s.waitFault n else s
  | .qualified => if f then s.qualFault n else s
  | .holdoff =>
    if f then s
    else
      let s1 := ((s.refTimerOff n).qMove n .qualified (some (src 2 3))).refHist n 9 none
      s1.servoResume n
  | .failed => if f then s else (s.refTimer n false).qMove n .wait none
  | .disabled => s

/-- The history bit and source of each fault. -/
def refFaultHist : List (Nat × Nat × Option Nat) :=
  [(0, 1, none), (1, 2, none), (2, 3, none), (3, 4, none), (4, 6, some (src 2 8)), (5, 7, some (src 2 9)),
    (6, 8, some (src 2 16))]

/-- The faults of slot `n` become `m`: history bits set, the slot moves, the majority is evaluated (R106, R107). -/
def State.setFaults (s : State) (n : Nat) (m : BitVec 8) (arrived : Bool) : State :=
  let old := (s.slot n).faultSrc
  let s1 := s.modSlot n fun q => { q with faultSrc := m }
  let s2 := refFaultHist.foldl (fun s h =>
    if has m h.1 && !has old h.1 then
      let v : Int := if h.1 = 4 then (s.slot n).breachS.toNat else if h.1 = 5 then (s.slot n).majTiePs.toInt else 0
      s.refHist n h.2.1 h.2.2 v
    else s) s1
  (s2.refJudge n arrived).majRefresh

/-- SOURCE_INVALID or CLASS_LIMIT of slot `n` changes (R106). An invalid source of a slot without a ball is a lost signal:
its windows fill anew (DESIGN CHOICE, log entry 65). -/
def State.setSource (s : State) (n : Nat) (invalid limit : Bool) (arrived : Bool) : State :=
  if (s.slot n).qstate == .disabled then s.modSlot n fun q => { q with srcInvalid := invalid, classLimit := limit }
  else
    let s1 := s.modSlot n fun q => { q with
      srcInvalid := invalid, classLimit := limit, sigFrom := if invalid then s.ticks + 1 else q.sigFrom
      freqPts := if invalid then [] else q.freqPts }
    let s2 := if invalid then s1.refHist n 11 none else s1
    let s3 := if limit then s2.refHist n 14 none else s2
    (s3.cellsStale n).setFaults n (putBit (s3.slot n).faultSrc 7 (invalid || limit)) arrived

/-- What the source of a slot reports of itself outlasts the slot's monitors: its master, its validity, its class. -/
def RefSlot.cleared (q : RefSlot) : RefSlot :=
  { RefSlot.reset with
    history := q.history, srcInvalid := q.srcInvalid, classLimit := q.classLimit
    clockClassRx := q.clockClassRx, masterPresent := q.masterPresent, freeRun := q.freeRun, masterId := q.masterId
    annTick := q.annTick, annLog := q.annLog, syncTx := q.syncTx, syncRx := q.syncRx, syncWait := q.syncWait
    masterToUs := q.masterToUs, estimates := q.estimates }

/-- Slot `n` enters ABSENT with monitors, anchor and cells reset (R107); a source that reports itself invalid still does
(R106). -/
def State.refAbsent (s : State) (n : Nat) : State :=
  let q := (s.slot n).cleared
  let s1 := s.modSlot n fun _ => { q with
    qstate := .absent, faultSrc := putBit 0 7 (q.srcInvalid || q.classLimit) }
  let s2 := s1.cellsReset n
  let s3 := if q.srcInvalid then s2.refHist n 11 none else s2
  let s4 := if q.classLimit then s3.refHist n 14 none else s3
  (if s4.refExists n then s4 else s4.refHist n 0 none).majRefresh

/-- The source of slot `n` does not exist (R106); a partner whose link is down is SOURCE_INVALID instead. -/
def State.refMissing (s : State) (n : Nat) : Bool := if n = 17 then !s.ready pdPair else !s.refExists n

/-- NOT_PRESENT of every enabled slot whose source does not exist (R106). -/
def State.refPresence (s : State) : State :=
  (List.range 20).foldl (fun s n =>
    if (s.slot n).qstate != .disabled && s.refMissing n then s.refHist n 0 none else s) s

/-- Every enabled slot enters qualification as PD_TIME becomes ready (R84); the GNSS solution and the partner's link, whose
domains depend on PD_TIME, are not yet valid. -/
def State.refStart (s : State) : State :=
  let s0 := { s with ref := Ref.reset }
  let s1 := [12, 17].foldl (fun (s : State) n => s.modSlot n fun q => { q with srcInvalid := true }) s0
  let s2 := (List.range 20).foldl (fun s n => if (s.slotCfg n).enable then s.refAbsent n else s) s1
  if s.fuse.gnssEn then s2 else s2.refHist 12 0 none

/-! ### Measurement (R97, R98, R103 to R105, R454) -/

/-- The offset's place in the last 64, with E_MEAS of them, and among the points of one second each: half a millisecond short
of a second takes up the place of a 1 ms update (R98, R103). -/
def RefSlot.record (q : RefSlot) (n now : Nat) (at_ : Tai) (x : Int) : RefSlot :=
  let due := match q.points with
    | [] => true
    | (t, _) :: _ => decide (sTicks ≤ now - t + msTicks / 2)
  let pts := if due then ((now, x) :: q.points).take 4098 else q.points
  let offs := ((now, x) :: q.offs).take 64
  { q with
    offset := BitVec.ofInt 64 x, lastUpd := some now, lastTime := at_, anchored := true, offs := offs, eMeas := eMeasOf n offs
    points := pts }

/-- The phase-jump test of a PPS-class slot (R454): the answer says whether the offset lies beyond the gate. Until the 1 s
window has filled the prediction is carried at rate 0 (DESIGN CHOICE, log entry 66). -/
def RefSlot.gate (q : RefSlot) (gateNs : Nat) (now : Nat) (x : Int) : RefSlot × Bool :=
  match q.pred with
  | none => ({ q with pred := some (now, x) }, false)
  | some (t, x0) =>
    let f : Int := match q.freqOver 64 with
      | some _ => q.freq64s.toInt
      | none => match q.freqOver 1 with
        | some _ => q.freq1s.toInt
        | none => 0
    if (x - (x0 + drift16 f (now - t))).natAbs > gateNs * 65536 then (q, true)
    else ({ q with pred := some (now, x) }, false)

/-- FREQ_64S_MPPT of REF18 at a second since CLK_OCXO became present (R145). -/
def State.macPoint (s : State) (f : Option Int) : State :=
  match f with
  | some v => { s with acd := { s.acd with macPts := (v :: s.acd.macPts).take 193 } }
  | none => s

/-- The slot's frequency, slope and majority after an update, and the faults they show. A frequency register keeps its value
while its window has not filled, MAJ_TIE_PS while there is no voter (DESIGN CHOICE, log entry 65). -/
def State.refMonitor (s : State) (n : Nat) (jump : Bool) : State :=
  let c := s.slotCfg n
  let vs := s.voters n
  let f1 := s.freqOf n 1 vs
  let f64 := s.freqOf n 64 vs
  let f4096 := s.freqOf n 4096 vs
  let fresh := match (s.slot n).points with
    | (t, _) :: _ => t == s.ticks
    | [] => false
  let put (o : Option Int) (old : BitVec 40) : BitVec 40 := match o with | some v => satInt 40 v | none => old
  let beyond (o : Option Int) (tol : BitVec 40) : Bool :=
    match o with | some v => decide (tol.toNat < v.natAbs) | none => false
  let fp := match f1 with
    | some v => if fresh then (v :: (s.slot n).freqPts).take 4096 else (s.slot n).freqPts
    | none => (s.slot n).freqPts
  let sl := slopeOf fp c.ftol4096s.toNat c.horizonS.toNat
  let m := s.majTie n vs
  let maj := decide (2 ≤ vs.length)
  let s1 := s.modSlot n fun q => { q with
    freq1s := put f1 q.freq1s, freq64s := put f64 q.freq64s, freq4096s := put f4096 q.freq4096s
    freqPts := fp, slope := satInt 32 sl.1, breachS := BitVec.ofNat 32 sl.2
    majTiePs := if vs.isEmpty then q.majTiePs else satInt 32 m }
  let hor := c.horizonS.toNat
  let s2 := if hor ≠ 0 && decide (sl.2 ≤ 4 * hor) && sl.2 ≠ 0xFFFFFFFF then s1.refHist n 5 (some (src 2 7)) else s1
  let old := (s2.slot n).faultSrc
  let fs : BitVec 8 := BitVec.ofNat 8
    (2 * (beyond f1 c.ftol1s).toNat + 4 * (beyond f64 c.ftol64s).toNat + 8 * (beyond f4096 c.ftol4096s).toNat
      + 16 * (hor ≠ 0 && decide (sl.2 ≤ hor) && sl.2 ≠ 0xFFFFFFFF : Bool).toNat
      + 32 * (maj && decide (c.tieLimitNs.toNat * 1000 < m.natAbs)).toNat + 64 * jump.toNat)
  let s3 := if n = 18 && fresh then s2.macPoint f64 else s2
  s3.setFaults n (fs ||| (old &&& 0x80)) true

/-- The parameter set in use (R125). -/
def State.psetOf (s : State) (n : Nat) : PSet :=
  let i := if s.acd.state == .acquire then 0 else if n = 17 then 3 else if s.refPps n then 1 else 2
  Tab.get s.cfg.acd.psets i PSet.reset

/-- The selected slot is in HOLDOFF. -/
def State.selHoldoff (s : State) : Bool :=
  match s.selectedSlot with
  | some n => (s.slot n).qstate == .holdoff
  | none => false

/-- Steering is in force (R123). -/
def State.steering (s : State) : Bool :=
  (s.acd.state == .acquire || s.acd.state == .locked) && !s.selHoldoff && !s.acd.forced && !s.acd.servoLost

/-- 2π as the loop takes it, in 10^-15: the firmware's own precision is not stated (DESIGN CHOICE, log entry 67). -/
def twoPi15 : Int := 6283185307179586

/-- One evaluation of the servo firmware's loop at an update with residual `e` in 2^-16 ns (R451). The integrator and the
output are in 0.001 ppt times 2^-32; `tMs` is the slot's nominal update period. -/
def State.servoLoop (s : State) (ps : PSet) (tMs : Nat) (e : Int) : State :=
  let w : Int := twoPi15 * ps.bwMhz.toNat
  let dI := nearest (w * w * e * tMs * 2 ^ 16) (10 ^ 33)
  let p := nearest (2 * ps.dampM.toNat * w * e * 2 ^ 16) (10 ^ 15)
  let i := s.acd.integ - dI
  let y := i - p
  let top : Int := (2 ^ 39 - 1) * 2 ^ 32
  let bottom : Int := -(2 ^ 39) * 2 ^ 32
  { s with acd := { s.acd with
    integ := if decide (bottom ≤ y) && decide (y ≤ top) then i else s.acd.integ
    servoOut := BitVec.ofInt 40 (nearest (max bottom (min top y)) (2 ^ 32)) } }

/-- The lock condition is timed (R130). -/
def State.lockStep (s : State) (ps : PSet) (e : Int) : State :=
  if s.acd.state != .acquire then s
  else if s.acd.stepOut ≠ 0 || decide (ps.lockNs.toNat * 65536 < e.natAbs) then
    { s with acd := { s.acd with lockRun := none } }
  else
    match s.acd.lockRun with
    | none =>
      let s1 := { s with acd := { s.acd with lockRun := some s.ticks } }
      if ps.lockS = 0 then (s1.setAccord .locked).loopLoad else s1
    | some t => if ps.lockS.toNat * sTicks ≤ s.ticks - t then (s.setAccord .locked).loopLoad else s

/-- The selected slot's update reaches the accord: the residual of R126, the lock condition of R130. -/
def State.refResidual (s : State) (n : Nat) (x : Int) : State :=
  if !s.isSel n || (s.slot n).qstate != .qualified || !s.steering then s
  else
    let e := x + step16 s.acd.stepOut
    let ps := s.psetOf n
    let rs := (e :: s.acd.residuals).take 17
    let s1 := { s with acd := { s.acd with
      residuals := rs, eServo := eServoOf ps.servoFloor.toNat rs s.acd.eServoKept
      lastSteer := if s.acd.steerWait then s.ticks else s.acd.lastSteer, steerWait := false } }
    (s1.servoLoop ps (if s.refPps n then 1000 else 1) e).lockStep ps e

/-- Slot `n` delivers offset `x` now (R97, R98). -/
def State.refUpdate (s : State) (n : Nat) (x : Int) : State :=
  let q := s.slot n
  let g := if s.refPps n then q.gate (s.slotCfg n).gateNs.toNat s.ticks x else (q, false)
  let s1 := s.modSlot n fun _ => { g.1.record n s.ticks s.timeNow x with
    lastEdge := some s.ticks, faultSrc := q.faultSrc &&& 0xFE }
  let s2 := (s1.cellsUpdate n).cellsStale n
  (s2.refMonitor n g.2).refResidual n x

/-- A block delivers offset `x` with its bound E_SRC to a slot that has no ball (R97): a PTP instance or the partner is valid
again with it (R118), while the GNSS solution's validity follows R170 alone. -/
def State.refDeliver (s : State) (n : Nat) (x : Int) (eSrc : BitVec 24) : State :=
  if (s.slot n).qstate == .disabled || !s.ready pdTime || (n = 12 && (s.slot n).srcInvalid) then s
  else
    let s1 := s.modSlot n fun q => { q with
      srcInvalid := false, eSrc := eSrc, freeRun := false, faultSrc := putBit q.faultSrc 7 q.classLimit }
    s1.refUpdate n x

/-! ### Selection and switching (R111 to R117) -/

/-- The bound that a slot of TYPE PPS needs (R111): 400 ms, in 10 ps. -/
def ppsEbMax : Nat := 40000000000

/-- Slot `n` is eligible (R111). -/
def State.eligible (s : State) (n : Nat) : Bool :=
  let q := s.slot n
  let bound := s.acd.state != .cold && decide (s.acd.ebAccord < ppsEbMax)
  q.qstate == .qualified && (s.slotCfg n).priority != 0 && s.refTime n &&
    match s.refMate n with
    | none => s.refType n != 0 || bound
    | some m =>
      (s.refType m != 0 || bound) &&
        (s.isSel n || (s.slot m).qstate == .wait || (s.slot m).qstate == .qualified || (s.slot m).qstate == .holdoff)

/-- The rank of a slot as one number, lower being better (R112). -/
def State.rank (s : State) (n : Nat) : Nat :=
  let c := s.slotCfg n
  let q := s.slot n
  ((c.priority.toNat * 16 + c.quality.toNat) * 2 ^ 32 + (c.declUnc.toNat + q.eSrc.toNat + q.eMeas.toNat)) * 32 + n

/-- The best eligible slot. -/
def State.bestSlot (s : State) : Option Nat :=
  ((List.range 20).filter s.eligible).foldl (fun b n => match b with
    | none => some n
    | some m => if s.rank n < s.rank m then some n else some m) none

/-- (PRIORITY, QUALITY) of `a` is lower than that of `b`. -/
def State.better (s : State) (a b : Nat) : Bool := decide (s.rank a / 2 ^ 37 < s.rank b / 2 ^ 37)

/-- The step of a switch or re-entry reaches the accord with the state it brings (R130, R134). A re-entry may find the slot
in HOLDOFF: then t of R128 begins at once, on the bound of the measured terms (R108; DESIGN CHOICE, log entry 60). -/
def State.steerTo (s : State) (x : Int) (source : Nat) : State :=
  let t : AccordState := match s.acd.state with
    | .cold | .freerun => .acquire
    | .drydownIn | .drydownOut => .locked
    | u => u
  let s1 := s.startSteer false
  let s2 := { s1 with acd := { s1.acd with
    acqStepDone := if t == AccordState.acquire then false else s1.acd.acqStepDone, steerWait := false } }
  let s3 := (s2.setAccord t).addStep x source true
  if s3.selHoldoff then s3.holdBegin s3.ticks s3.termsNow.sum s3.oscTemp 0 else s3

/-- The switch completes (R114). -/
def State.switchEnd (s : State) : State :=
  let d := (s.ticks - s.ref.swTick) / usTicks
  let s1 := { s with ref := { s.ref with switching := false, swDone := true, swDurUs := BitVec.ofNat 32 d } }
  s1.raise (src 2 1) s1.ref.swTo.toNat d

/-- A switch from `cur` (31 none) to slot `dst` starts (R114). Where no part of STEP is outstanding it completes at once. -/
def State.startSwitch (s : State) (cur dst : Nat) : State :=
  let x16 := -(s.refNow dst)
  let x := x16 * 2 ^ 40
  let aside := s.acd.forced || s.acd.state == .safe
  let s0 := { s with ref := { s.ref with
    selected := BitVec.ofNat 5 dst, switching := !aside, allLost := false, standbyBetter := false } }
  let steers := s0.acd.state == .locked || s0.acd.state == .acquire
  let s1 := if aside then s0
    else if cur = 31 then s0.steerTo x 0
    else if steers then (s0.startSteer s0.servoOn).addStep x 0 false
    else s0.addStep x 0 false
  let stepped := !aside && s1.acd.stepAtOnce
  let s2 := { s1 with ref := { s1.ref with
    swValid := true, swDone := aside, swFrom := BitVec.ofNat 5 cur, swTo := BitVec.ofNat 5 dst, swStepped := stepped
    swSetAside := aside, swSeq := s1.ref.swSeq + 1, swStep := BitVec.ofInt 64 x16, swStart := s1.timeNow
    swTick := s1.ticks, swDurUs := 0 } }
  let s3 := s2.raise (src 2 0) (dst + 256 * cur + 65536 * stepped.toNat + 131072 * aside.toNat) x16
  if aside then s3.raise (src 2 1) dst 0
  else if s3.acd.stepOut = 0 then s3.switchEnd.pairEval
  else s3.pairEval

/-- No slot is eligible: SELECTED becomes none and the accord enters drydown (R117). -/
def State.allLost (s : State) (cur : Nat) : State :=
  let s1 := ({ s with ref := { s.ref with
    selected := 31, allLost := true, standbyBetter := false } }).raise (src 2 10) cur
  if s1.acd.forced then s1 else s1.enterDrydown false

/-- A switch may start from slot `cur`: until the CPLL has locked a COLD accord stays COLD, and no switch from none starts
(R27; DESIGN CHOICE, log entry 68). -/
def State.maySwitch (s : State) : Bool := s.acd.state != .cold || s.acd.cpllLock

/-- ref_select_tick (R112). -/
def State.refSelect (s : State) : State :=
  if s.ref.switching || !s.ready pdTime then s
  else
    let best := s.bestSlot
    let s0 := { s with ref := { s.ref with best := match best with | some n => BitVec.ofNat 5 n | none => 31 } }
    let cur := s0.selectedSlot
    let held := match cur with
      | some c => (s0.slot c).qstate == .qualified || (s0.slot c).qstate == .holdoff
      | none => false
    if !held then
      let s1 := match cur with
        | some c => if s0.ref.manual then
            ({ s0 with ref := { s0.ref with manual := false } }).raise (src 2 14) c else s0
        | none => s0
      match best, cur with
      | some b, some c => s1.startSwitch c b
      | some b, none => if s1.maySwitch then s1.startSwitch 31 b else s1
      | none, some c => s1.allLost c
      | none, none => s1
    else
      match cur, best with
      | some c, some b =>
        if s0.ref.manual || b = c || !s0.better b c then
          { s0 with ref := { s0.ref with standbyBetter := false } }
        else if s0.cfg.ref.revertive then s0.startSwitch c b
        else
          let s1 := if s0.ref.standbyBetter then s0 else s0.raise (src 2 15) b
          { s1 with ref := { s1.ref with standbyBetter := true } }
      | _, _ => { s0 with ref := { s0.ref with standbyBetter := false } }

/-- The switch completes once no part of STEP is outstanding, and selection runs again (R114, R116). -/
def State.switchDone (s : State) : State :=
  if s.ref.switching && s.acd.stepOut = 0 then s.switchEnd.refSelect else s

end Sys2Proof.Machine
end

