-- ==== Sys2Proof/Machine/Acd.lean ====
section
/-! DEFINITION. The ACD commands (R148) and the accord's events other than its publications. -/

namespace Sys2Proof.Machine

/-! ### Registers -/

/-- ACD_STATUS. -/
def State.acdStatus (s : State) : W32 :=
  let a := s.acd
  word [(0, a.state.code.toNat), (3, (decide (a.stepOut ≠ 0)).toNat), (4, a.macerate.toNat), (5, s.primary.toNat),
    (6, a.forced.toNat), (7, a.leapPending.toNat), (8, (!a.incrQueue.isEmpty).toNat), (9, s.cfg.acd.cpllAtom.toNat),
    (10, a.cpllLock.toNat), (11, a.ocxoPresent.toNat), (12, a.atomPresent.toNat), (13, a.servoLost.toNat)]

/-- ACD_TIME_0 to ACD_TIME_EB, at this tick. -/
def State.acdTime (s : State) : List W32 := s.stamp.words

/-- ACD_UTC. -/
def State.acdUtc (s : State) : W32 :=
  let c := s.cfg.acd
  word [(0, c.utcOffsetS.toNat), (16, c.utcValid.toNat), (17, c.leap.toNat)]

/-- ACD_HOLD_T: t of R128 in whole seconds. -/
def State.holdSecs (s : State) : Nat :=
  match s.acd.holdFrom with
  | some t => (s.ticks - t) / sTicks
  | none => 0

/-- ACD_EB0, ACD_HOLD_DT and ACD_HOLD_Y0 read their reset values while no drydown bound is in force (DEDUCED, log entry
33). -/
def State.holdRegs (s : State) : W32 × W32 × W32 :=
  if s.acd.holdFrom.isSome then
    ((ebSat s.acd.eb0).setWidth 32, s.acd.dtMax.setWidth 32, BitVec.ofNat 32 s.acd.y0Eff)
  else (0xFFFFFF, 0, 0)

/-- ACD_MAC_LEFT. -/
def State.macLeft (s : State) : Nat :=
  if s.acd.macerate then s.cfg.acd.macerationS.toNat - (s.ticks - s.acd.macFrom) / sTicks else 0

/-- The status and time registers, by offset. -/
def State.acdRegs (s : State) : List (Nat × W32) :=
  let a := s.acd
  [(0x00, s.acdStatus)] ++ atWords 0x10 s.acdTime ++ at64 0x20 a.incrCur ++ at64 0x28 a.incrPendVal ++
    at64 0x40 (a.freqServo.setWidth 64) ++ at64 0x48 ((a.freqServo + s.slewMppt).setWidth 64) ++
    at64 0x50 (s.slewMppt.setWidth 64) ++ at64 0x58 (BitVec.ofInt 64 (step16 a.stepOut)) ++
    [(0x60, a.eRef.setWidth 32), (0x64, a.eMeas.setWidth 32), (0x68, (ebSat a.eServoPub).setWidth 32),
      (0x6C, (ebSat a.eStep).setWidth 32), (0x70, (ebSat a.ePair).setWidth 32), (0x74, (ebSat a.eHold).setWidth 32),
      (0x78, s.holdRegs.1)] ++
    at64 0x80 (s.freqHoldReg.setWidth 64) ++ at64 0x88 (s.freqLastReg.setWidth 64) ++
    [(0x90, BitVec.ofNat 32 s.holdSecs), (0x94, s.holdRegs.2.1), (0x98, s.holdRegs.2.2),
      (0x9C, BitVec.ofNat 32 s.macLeft)]

/-- Offsets 0x00 to 0x9C. -/
def State.acdWindow (s : State) : List W32 := win 40 s.acdRegs

/-! ### Commands -/

/-- The accord's configuration changes. -/
def State.setAcdCfg (s : State) (f : AcdCfg → AcdCfg) : State := { s with cfg := { s.cfg with acd := f s.cfg.acd } }

/-- ACD_QUERY_TIME. -/
def specAcdQueryTime : OpSpec where
  opcode := 0x0200
  states := stAll
  len := fun _ => some 0
  body := answer fun _ s => s.acdTime ++ [s.acdStatus, s.acdUtc]

/-- ACD_QUERY_SERVO. -/
def specAcdQueryServo : OpSpec where
  opcode := 0x0201
  states := stAll
  len := fun _ => some 0
  body := answer fun _ s => s.acdWindow

/-- The parameters of ACD_SET_SERVO are legal. -/
def setServoParams (_ : State) (p : Packet) : Bool :=
  let w := p.w 0
  p.only [0xF103, 0xFFFFFFFF, 0xFFFF, 0xFFFFFF, 0xFFFFFFFF, 0xFFFF] &&
    (flag w 8 || fld w 0 2 == 0) &&
    (if flag w 14 then within (p.w 1) 1 100000 && within (p.w 2) 500 5000
      else fld w 12 2 == 0 && p.w 1 == 0 && p.w 2 == 0 && p.w 3 == 0 && p.w 4 == 0) &&
    (if flag w 15 then within (p.w 5) 100 60000 else p.w 5 == 0)

/-- ACD_SET_SERVO. -/
def specAcdSetServo : OpSpec where
  opcode := 0x0240
  states := stIRM
  len := fun _ => some 6
  params := setServoParams
  csp := fun _ => true
  body := fun p s =>
    let w := p.w 0
    let ps : PSet := {
      bwMhz := p.w 1, dampM := (p.w 2).setWidth 16, servoFloor := (p.w 3).setWidth 24, lockNs := (p.w 4).setWidth 16
      lockS := (p.w 4).extractLsb' 16 16 }
    Done.ok (s.setAcdCfg fun c => { c with
      owner := if flag w 8 then w.setWidth 2 else c.owner
      psets := if flag w 14 then Tab.set c.psets (fld w 12 2) ps else c.psets
      servoTimeoutMs := if flag w 15 then (p.w 5).setWidth 16 else c.servoTimeoutMs }).loopLoad

/-- ACD_SET_STEP_POLICY. -/
def specAcdSetStepPolicy : OpSpec where
  opcode := 0x0241
  states := stIRM
  len := fun _ => some 3
  params := fun _ p => p.only [0x7, 0x1FFFF, 0xFFFFFFFF] && within (p.w 1) 1 100000
  csp := fun _ => true
  body := fun p s => Done.ok (s.setAcdCfg fun c => { c with
    modeStep := flag (p.w 0) 0, stepAllow := flag (p.w 0) 1, acqSlew := flag (p.w 0) 2
    slewLimitNs := (p.w 1).setWidth 17, stepMinNs := p.w 2 })

/-- ACD_SET_HOLD. -/
def specAcdSetHold : OpSpec where
  opcode := 0x0242
  states := stIRM
  len := fun _ => some 3
  params := fun _ p => p.only [0x1FFFF, 0x3FFFF, 0xF3] && within (p.w 0) 1 86400 && within (p.w 1) 1 167772 &&
    decide (fld (p.w 2) 0 2 ≤ 2)
  csp := fun _ => true
  body := fun p s => Done.ok (s.setAcdCfg fun c => { c with
    holdAvgS := (p.w 0).setWidth 17, holdSpecNs := (p.w 1).setWidth 18, category := (p.w 2).setWidth 2
    primaryQmax := (p.w 2).extractLsb' 4 4 }).react

/-- ACD_SET_OSC_MODEL. -/
def specAcdSetOscModel : OpSpec where
  opcode := 0x0243
  states := stIRM
  len := fun _ => some 6
  params := fun _ p =>
    let w := p.w 0
    p.only [0x7F07, 0xFFFFFFFF, 0xFFFFFFFF, 0xFFFFFFFF, 0xFFFFFFFF, 0xF] && decide (fld w 0 3 ≤ 4) &&
      decide ((p.w 5).toNat ≤ 5) &&
      (if flag w 8 then decide (fld w 9 3 ≤ 4) && decide (fld w 12 3 ≤ 4) else fld w 9 6 == 0)
  csp := fun _ => true
  body := fun p s =>
    let w := p.w 0
    let m : OscModel := {
      y0 := p.w 1, y0Free := p.w 2, age := p.w 3, tempco := p.w 4, tempSrc := (p.w 5).setWidth 4 }
    Done.ok (s.setAcdCfg fun c => { c with
      osc := Tab.set c.osc (fld w 0 3) m
      ocxoClass := if flag w 8 then w.extractLsb' 9 3 else c.ocxoClass
      atomClass := if flag w 8 then w.extractLsb' 12 3 else c.atomClass })

/-- COLD is not left until the CPLL has locked (R27): ACD_SET_TIME then answers STATE (DESIGN CHOICE, log entry 68). -/
def State.timeSettable (s : State) : Bool := (s.acd.state == .cold && s.acd.cpllLock) || s.acd.state == .freerun

/-- ACCORD_STATE is COLD or FREERUN. -/
def State.settable (s : State) : Bool := s.acd.state == .cold || s.acd.state == .freerun

/-- ACD_SET_TIME. -/
def specAcdSetTime : OpSpec where
  opcode := 0x0244
  states := stIM
  len := fun _ => some 4
  params := fun _ p => taiOk (p.tai 0) && p.only [0xFFFFFFFF, 0xFFFFFFFF, 0xFFFFFFFF, 0xFFFFFF]
  body := fun p s =>
    if !s.timeSettable || !s.ready pdTime then Done.err s .state else Done.ok (s.seedAccord (p.tai 0) (p.w 3).toNat)

/-- ACD_ADJUST_PHASE. -/
def specAcdAdjustPhase : OpSpec where
  opcode := 0x0245
  states := stRM
  len := fun _ => some 2
  body := fun p s =>
    let x := (p.w2 0).toInt
    if s.acd.state == .freerun || s.drydown then
      Done.ok (s.addStep (x * 2 ^ 40) 2 false (ceilDiv (x.natAbs * 100) 65536)).switchDone
    else Done.err s .state

/-- The parameters of ACD_SET_UTC are legal (R146). LEAP 3, which the rule does not list, is BAD_PARAM (DESIGN CHOICE, log
entry 71). -/
def setUtcParams (s : State) (p : Packet) : Bool :=
  let w := p.w 0
  let leap := fld w 17 2
  let new := sgn 16 (fld w 0 16)
  let at_ := (p.w2 1).toNat
  p.only [0x7FFFF, 0xFFFFFFFF, 0xFFFF] &&
    match leap with
    | 0 => at_ == 0
    | 3 => false
    | _ =>
      (new - s.cfg.acd.utcOffsetS.toInt == if leap = 1 then 1 else -1) && ((at_ : Int) - new) % 86400 == 0 &&
        decide (s.now16 / sec16 < at_)

/-- ACD_SET_UTC. -/
def specAcdSetUtc : OpSpec where
  opcode := 0x0246
  states := stIRM
  len := fun _ => some 3
  params := setUtcParams
  csp := fun _ => true
  body := fun p s =>
    let w := p.w 0
    let leap := fld w 17 2
    let s1 := s.setAcdCfg fun c => { c with
      utcOffsetS := if leap = 0 then w.setWidth 16 else c.utcOffsetS
      utcValid := flag w 16, leap := BitVec.ofNat 2 leap, leapAt := (p.w2 1).setWidth 48, leapOffset := w.setWidth 16 }
    let s2 := { s1 with acd := { s1.acd with leapPending := leap != 0 } }
    Done.ok (if leap = 0 then s2 else s2.raise (src 3 11) 0 leap)

/-- ACD_SET_CPLL_SOURCE. -/
def specAcdSetCpllSource : OpSpec where
  opcode := 0x0247
  states := stIM
  len := fun _ => some 3
  params := fun _ p => p.only [0x1, 0x7FFFFFF, 0x7FFFFFF] && within (p.w 1) 10000000 100000000 &&
    within (p.w 2) 1000000 100000000 && (p.w 1).toNat % 1000 == 0 && (p.w 2).toNat % 1000 == 0
  csp := fun _ => true
  body := fun p s =>
    let atom := flag (p.w 0) 0
    if !s.settable then Done.err s .state
    else if s.acd.cpllRelock then Done.err s .busy
    else
      let s1 := s.setAcdCfg fun c => { c with
        cpllAtom := atom, ocxoHz := (p.w 1).setWidth 27, atomHz := (p.w 2).setWidth 27 }
      Done.ok { s1 with acd := { s1.acd with
        cpllRelock := s.ready pdTime, cpllLock := false
        cpllEver := s.acd.cpllEver && atom == s.cfg.acd.cpllAtom
        eb0 := if s.acd.state == .freerun then s.acd.eb0 + 100000 else s.acd.eb0 } }

/-- ACD_ENTER_DRYDOWN. -/
def specAcdEnterDrydown : OpSpec where
  opcode := 0x0248
  states := stM
  len := fun _ => some 1
  params := fun _ p => p.only [0x1]
  body := fun p s =>
    if flag (p.w 0) 0 then
      if s.acd.state == .locked then
        Done.ok ({ s with acd := { s.acd with forced := true } }.enterDrydown false)
      else Done.err s .state
    else if s.acd.forced then
      Done.ok { s with acd := { s.acd with
        forced := false, reentry := s.selectedSlot.isSome && s.acd.state != .safe, reentryAt := s.ticks } }
    else Done.err s .state

/-- ACD_SET_MACERATION. -/
def specAcdSetMaceration : OpSpec where
  opcode := 0x0249
  states := stIRM
  len := fun _ => some 2
  params := fun _ p => p.only [0x1FFFF, 0xFFFFFFFF]
  csp := fun _ => true
  body := fun p s => Done.ok (s.setAcdCfg fun c => { c with
    macerationS := (p.w 0).setWidth 16, macEarly := flag (p.w 0) 16, macStabMppt := p.w 1 })

/-! ### Steering -/

/-- The owner's rate is applied (R122, R123), clamped to the range of R10. -/
def State.steerWrite (s : State) (v : Int) : State :=
  let c := max (-(2 ^ 39)) (min (2 ^ 39 - 1) v)
  let s1 := if c = v then s else (s.raise (src 3 8) 0 v).faultAssert 33
  let s2 := { s1 with acd := { s1.acd with
    steerHist := s1.steerHistNow, steerFrom := s1.ticks, steerWait := false } }
  s2.writeMark.setRate (BitVec.ofInt 40 c)

/-- ACD_STEER_WRITE (R123). Without a value, the owner writes what the loop of R451 gave at the last update. -/
def execAcdSteerWrite (dt : Nat) (m : BitVec 4) (value : Option (BitVec 64)) (s : State) : Res :=
  let s := s.advance dt
  let v : Int := match value with
    | some x => x.toInt
    | none => s.acd.servoOut.toInt
  .next (if m.toNat ≠ 4 + s.cfg.acd.owner.toNat || !s.ready pdTime then s.refuseWrite
    else if s.steering then s.steerWrite v
    else if s.acd.servoLost && !s.acd.forced && s.acd.state != .safe then
      { s with acd := { s.acd with reentry := s.selectedSlot.isSome, reentryAt := s.ticks } }
    else s.refuseWrite)

/-- SERVO_TIMEOUT (R124): the owner has not written for SERVO_TIMEOUT_MS; drydown is counted from its last write. -/
def execServoTimeout (dt : Nat) (s : State) : Res :=
  let s := s.advance dt
  let due := decide (s.acd.lastSteer + s.cfg.acd.servoTimeoutMs.toNat * msTicks ≤ s.ticks)
  .next (if s.steering && !s.acd.steerWait && due then
    let s1 := { s with acd := { s.acd with servoLost := true } }
    ((s1.raise (src 3 7)).faultAssert 32).enterDrydown true
  else s)

/-- Now is a publication tick after `t` (R18). -/
def State.pubTick (s : State) (t : Nat) : Bool := decide (t < s.ticks) && (s.ticks - s.acd.lastPub) % 64 == 0

/-- A re-entry can take place now (R138): it is due, at a publication tick after its cause, and the accord is one that R130
lets re-enter: a COLD one waits until it is seeded (DESIGN CHOICE, log entry 72). -/
def State.mayReEnter (s : State) : Bool :=
  s.acd.reentry && !s.acd.forced && s.acd.state != .safe && s.acd.state != .cold && s.ready pdTime &&
    s.pubTick s.acd.reentryAt

/-- ACCORD_RE_ENTRY (R138): the servo returns to the slot that is still selected. -/
def execAccordReEntry (dt : Nat) (s : State) : Res :=
  let s := s.advance dt
  .next (if !s.mayReEnter then s
    else
      let s1 := { s with acd := { s.acd with reentry := false } }
      match s1.selectedSlot with
      | none => s1
      | some n => (s1.steerTo (-(s1.refNow n) * 2 ^ 40) 1).switchDone)

/-! ### Seeding, oscillators, maceration -/

/-- The configured reference of the CPLL is present (R27). -/
def State.cpllRefPresent (s : State) : Bool :=
  if s.cfg.acd.cpllAtom then s.acd.atomPresent else s.acd.ocxoPresent

/-- OCXO_PRESENT (R145). -/
def execOcxoPresent (dt : Nat) (s : State) : Res :=
  let s := s.advance dt
  .next (if s.acd.ocxoPresent || !s.ready pdTime then s
    else ({ s with acd := { s.acd with
      ocxoPresent := true, macerate := true, macFrom := s.ticks, macPts := [] } }).react)

/-- ATOM_PRESENT (R27). -/
def execAtomPresent (dt : Nat) (s : State) : Res :=
  let s := s.advance dt
  .next (if !s.ready pdTime then s else { s with acd := { s.acd with atomPresent := true } })

/-- CPLL_LOCK (R27, R143). -/
def execCpllLock (dt : Nat) (s : State) : Res :=
  let s := s.advance dt
  .next (if s.acd.cpllLock || !s.ready pdTime || !s.cpllRefPresent then s
    else
      let s1 := { s with acd := { s.acd with cpllLock := true, cpllEver := true, cpllRelock := false } }
      let s2 := if s.acd.cpllRelock then s1.raise (src 3 13) else s1
      s2.faultEnd 4)

/-- The CPLL's reference (`gone`) or lock is lost (R144): a class A fault once it has locked to that reference. The loss of
lock that a commanded relock brings is none, the loss of the reference during one is. -/
def State.cpllLost (s : State) (gone : Bool) : State :=
  if (s.acd.cpllRelock && !gone) || !s.ready pdTime then s
  else
    let s1 := { s with acd := { s.acd with cpllLock := false } }
    if s.acd.cpllEver then s1.faultAssert 4 else s1

/-- CPLL_LOSS (R144). -/
def execCpllLoss (dt : Nat) (s : State) : Res := .next ((s.advance dt).cpllLost false)

/-- OSCILLATOR_ABSENT (R144): a presence bit clears; what follows depends on whether it is the CPLL's reference. -/
def execOscillatorAbsent (dt : Nat) (atom : Bool) (s : State) : Res :=
  let s := s.advance dt
  let s1 := if atom then { s with acd := { s.acd with atomPresent := false } }
    else { s with acd := { s.acd with ocxoPresent := false } }
  .next (if atom = s.cfg.acd.cpllAtom then s1.refPresence.cpllLost true else s1.refPresence)

/-- Three consecutive 64 s windows since presence in which FREQ_64S_MPPT of REF18 changed by less than MAC_STAB (R145). -/
def State.macStable (s : State) : Bool :=
  (List.range 3).all fun k => match s.acd.macPts[64 * k]?, s.acd.macPts[64 * k + 64]? with
    | some a, some b => decide ((a - b).natAbs < s.cfg.acd.macStabMppt.toNat)
    | _, _ => false

/-- MACERATION_END (R145). -/
def execMacerationEnd (dt : Nat) (s : State) : Res :=
  let s := s.advance dt
  let due := decide (s.acd.macFrom + s.cfg.acd.macerationS.toNat * sTicks ≤ s.ticks)
  .next (if s.acd.macerate && (due || (s.cfg.acd.macEarly && s.macStable)) then
    ({ s with acd := { s.acd with macerate := false } }).raise (src 3 10)
  else s)

/-- ACCORD_SEED (R81 to R83): once each time PD_TIME becomes ready, at the first tick at which the CPLL is locked, the
keep restored and the calendar valid; where the calendar is invalid at the tick at which the others hold, never (R83, R404).
A blank keep, of which there is nothing to restore, counts as restored (DESIGN CHOICE, log entry 74). -/
def execAccordSeed (dt : Nat) (s : State) : Res :=
  let s := s.advance dt
  let due := s.ready pdTime && s.acd.cpllLock && (s.keep.restored || s.keep.blank) && !s.sys.seeded &&
    s.acd.state == .cold && !s.acd.calTold
  .next (if !due then s
    else if s.vbat.calValid then
      let s1 := s.seedAccord s.calTai s.calEb
      ({ s1 with sys := { s1.sys with seeded := true } }).raise (src 0 7)
    else ({ s with acd := { s.acd with calTold := true } }).raise (src 0 8))

/-- LEAP_APPLY (R147): SECONDS has become LEAP_AT. -/
def State.leapNow (s : State) : State :=
  if s.acd.leapPending && decide (s.cfg.acd.leapAt.toNat ≤ s.now16 / sec16) then
    let s1 := s.setAcdCfg fun c => { c with utcOffsetS := c.leapOffset }
    let s2 := { s1 with acd := { s1.acd with leapPending := false } }
    let s3 := if s2.keep.ro || s2.mon.pfw then s2 else ((s2.keepWrite none).1).commitCsp
    s3.raise (src 3 12) 0 s3.cfg.acd.utcOffsetS.toInt
  else s

/-- LEAP_APPLY (R147). -/
def execLeapApply (dt : Nat) (s : State) : Res := .next (s.advance dt).leapNow

/-! ### The time bus (R15, R16, R19) -/

/-- TIME_BUS_APPLY (R16): a change accepted 64 ticks earlier applies with this tick. -/
def execTimeBusApply (dt : Nat) (s : State) : Res := .next (s.advance dt)

/-- The check word of this tick: bits [63:16] of the accord's counter (R19). -/
def State.checkWord (s : State) : BitVec 48 := s.timeNow.extractLsb' 16 48

/-- TIME_BUS_CHECK (R19): every 1,024 ticks the check word is compared at a tap, whose own value is `value`; one that
disagrees is named and raises a class A fault. -/
def execTimeBusCheck (dt : Nat) (tap : BitVec 8) (value : BitVec 48) (s : State) : Res :=
  let s := s.advance dt
  .next (if !s.ready pdTime || (s.ticks - s.acd.checkFrom) % 1024 != 0 || value == s.checkWord then s
    else
      let s2 := { s with
        acd := { s.acd with tapsBad := tap :: s.acd.tapsBad.filter (· != tap) }
        flt := { s.flt with tapId := tap } }
      s2.faultAssert 3)

/-- BRIDGE_CLOCK_LOSS (R15). -/
def execBridgeClockLoss (dt : Nat) (s : State) : Res := .next ((s.advance dt).faultAssert 1)

/-- TIME_BUS_ERROR (R15). -/
def execTimeBusError (dt : Nat) (s : State) : Res := .next ((s.advance dt).faultAssert 2)

end Sys2Proof.Machine
end

