-- ==== Sys2Proof/Machine/GnsOps.lean ====
section
/-! DEFINITION. The GNS block's own operations (R150 to R178): record headers, sub-bank sparing, what makes REF12 invalid,
the drydown cross-check and its anchor. -/

namespace Sys2Proof.Machine

/-! ### Parts of the state -/

/-- A tracking channel. -/
def State.trk (s : State) (k : Nat) : GnsTrk := Tab.get s.gns.trk k GnsTrk.reset

/-- A tracking channel changes. -/
def State.modTrk (s : State) (k : Nat) (f : GnsTrk → GnsTrk) : State :=
  { s with gns := { s.gns with trk := Tab.mod s.gns.trk k f } }

/-- The GNS configuration changes. -/
def State.setGnsCfg (s : State) (f : GnsCfg → GnsCfg) : State := { s with cfg := { s.cfg with gns := f s.cfg.gns } }

/-- A history bit sets. -/
def State.gnsHist (s : State) (b : Nat) : State :=
  { s with gns := { s.gns with history := s.gns.history ||| bitAt 8 b } }

/-- The engine that runs the GNSS firmware, as a master (R160). -/
def State.gnsEngine (s : State) (m : BitVec 4) : Bool := m.toNat == 4 + s.cfg.gns.engine.toNat

/-- E_LATCH, in 10 ps (R165). -/
def eLatch : Nat := 4

/-- SPOOF_SUSPECT (R172). -/
def Gns.spoof (g : Gns) : Bool := g.spoofDev || g.spoofDry

/-- The stamp of a GNS record: R165's bound, and bits 5 to 7 of R168. -/
def State.gnsStamp (s : State) : Stamp :=
  let t := s.stampWith eLatch
  { t with flags := t.flags |||
    BitVec.ofNat 8 (32 * s.gns.clkRateErr.toNat + 64 * s.gns.spoof.toNat + 128 * s.gns.jamWarn.toNat) }

/-- The stamp of a GNS record of an instant `sub` 2^-16 ns after tick `t` (R17, R23); the block's own bits are those of
now. -/
def State.gnsStampTick (s : State) (t : Nat) (sub : Int) : Stamp :=
  let x := s.stampTick t sub eLatch
  { x with flags := x.flags ||| s.gnsStamp.flags &&& 0xE0 }

/-- The stamp of a GNS record of an edge that came `ago` 2^-16 ns before now (R20). -/
def State.gnsStampAgo (s : State) (ago : Nat) : Stamp := s.gnsStampTick (s.ticks - phaseTicks ago) (phaseSub ago)

/-- GNSS_FE_EN is driven high (R152); with PD_GNSS off the ball is high-impedance. -/
def State.gnssFeEn (s : State) : Option Bool :=
  if s.ready pdGnss then some (!s.cfg.gns.portGate || s.gns.feEn || s.gns.snapBusy) else none

/-- The sample port, the notches and the tracking clocks run: between the captures of a gated receiver they are gated off
(R178). -/
def State.gnsClk (s : State) : Bool :=
  s.ready pdGnss && s.gns.clkPresent && (!s.cfg.gns.portGate || s.gns.snapBusy)

/-- `n` samples pass in a running channel (R159, R160): each adds the increments; a code phase that passes 1,023 chips begins
a code epoch. The NCOs keep the bits below a phase's unit (DESIGN CHOICE, log entry 76). -/
def GnsTrk.pass (t : GnsTrk) (n : Nat) : GnsTrk :=
  let code := t.codePhase.toNat * 2 ^ 16 + t.codeSub.toNat + n * t.codeInc.toNat
  let e := code / (1023 * 2 ^ 48)
  let r := code % (1023 * 2 ^ 48)
  let carr : Int := t.carrPhase.toInt * 2 ^ 32 + t.carrSub.toNat + n * t.carrInc.toInt
  if !(t.assigned && t.running) then t
  else
    { t with
      codePhase := BitVec.ofNat 42 (r / 2 ^ 16), codeSub := BitVec.ofNat 16 r
      carrPhase := BitVec.ofInt 48 (carr / 2 ^ 32), carrSub := BitVec.ofInt 32 carr
      epoch := if t.bitSync then BitVec.ofNat 5 ((t.epoch.toNat + e) % 20) else t.epoch
      dumpSamples := t.dumpSamples + n, dumpEpochs := t.dumpEpochs + e }

/-- `n` samples pass in every channel, where the tracking clocks run. -/
def State.samples (s : State) (n : Nat) : State :=
  if s.gnsClk then { s with gns := { s.gns with trk := Tab.mapIdx s.gns.trk fun _ t => t.pass n } } else s

/-- A notch's registers after its setting (R153): an adaptive filter that stays adaptive keeps its tone. -/
def Gns.setNotch (g : Gns) (m was mode : Nat) (centre : W32) : Gns :=
  if was = 2 ∧ mode = 2 then g
  else
    { g with
      notchActive := putBit g.notchActive m (mode == 1)
      notchKhz := Tab.set g.notchKhz m (if mode = 1 then BitVec.ofInt 24 (Int.tdiv centre.toInt 1000) else 0) }

/-- The notches as their configuration sets them when PD_GNSS becomes ready (R153). -/
def State.notchesOn (s : State) : State :=
  { s with gns := (List.range 4).foldl (fun g m =>
      let n := Tab.get s.cfg.gns.notch m NotchCfg.reset
      g.setNotch m 0 n.mode.toNat n.centreHz) s.gns }

/-- SNAP_BUSY: capture or export running. -/
def Gns.snapOn (g : Gns) : Bool := g.snapBusy || decide (0 < g.snapExport)

/-! ### Sub-banks (R158) -/

/-- The spare that serves sub-bank `b`, if one does. -/
def State.bankSpare (s : State) (b : Nat) : Option Nat :=
  (List.range 8).find? fun i => (Tab.get s.cfg.gns.spareMap i 0x7F).toNat == b && !has s.gns.spareFail i

/-- Sub-bank `b` is usable. -/
def State.bankUsable (s : State) (b : Nat) : Bool := !has s.gns.bankFail b || (s.bankSpare b).isSome

/-- USABLE. -/
def State.usable (s : State) : Nat := ((List.range 64).filter fun b => s.bankUsable b).length

/-- The lowest unmapped working spare. -/
def State.freeBank (s : State) : Option Nat :=
  (List.range 8).find? fun i => (Tab.get s.cfg.gns.spareMap i 0x7F) == 0x7F && !has s.gns.spareFail i

/-- SPARES_FREE. -/
def State.banksFree (s : State) : Nat :=
  ((List.range 8).filter fun i => (Tab.get s.cfg.gns.spareMap i 0x7F) == 0x7F && !has s.gns.spareFail i).length

/-- A spare's target changes in the registers. -/
def State.mapBank (s : State) (i : Nat) (t : BitVec 7) : State :=
  s.setGnsCfg fun c => { c with spareMap := Tab.set c.spareMap i t }

/-- The mapping is written to the keep by the device itself. -/
def State.mapKeep (s : State) : State :=
  s.keepOwn fun k => { k with image := some s.cfg, commitSeq := k.commitSeq + 1 }

/-- The pool's free count reaches zero (R400). -/
def State.bankPool (s : State) (before : Nat) : State :=
  if before ≠ 0 && s.banksFree = 0 then s.raise (src 14 7) 1 else s

/-- A failing sub-bank: told, then spared or excluded. -/
def State.bankFailed (s : State) (b : Nat) : State :=
  let s1 := ((s.gnsHist 5).raise (src 6 5) b)
  if (s1.bankSpare b).isSome then s1
  else if s1.cfg.gns.autoSpare then
    match s1.freeBank with
    | some i => ((s1.mapBank i (BitVec.ofNat 7 b)).mapKeep).bankPool s1.banksFree
    | none => s1.faultAssert 128
  else s1.faultAssert 128

/-- A spare that fails its test is told, and a mapping to it removed. -/
def State.spareFailed (s : State) (i : Nat) : State :=
  let s1 := s.raise (src 6 5) (64 + i)
  if Tab.get s1.cfg.gns.spareMap i 0x7F = 0x7F then s1 else (s1.mapBank i 0x7F).mapKeep

/-- The power-up test of every sub-bank: bits 0 to 63 the active ones that fail, 64 to 71 the spares (R158). -/
def State.bankTest (s : State) (banks : BitVec 72) : State :=
  let s1 := { s with gns := { s.gns with bankFail := banks.setWidth 64, spareFail := banks.extractLsb' 64 8 } }
  let s2 := (List.range 8).foldl (fun s i => if has banks (64 + i) then s.spareFailed i else s) s1
  (List.range 64).foldl (fun s b => if has banks b then s.bankFailed b else s) s2

/-! ### REF12 (R170) -/

/-- REF12 is in SOURCE_INVALID. -/
def State.gnsInvalid (s : State) : Bool :=
  let g := s.gns
  !s.ready pdGnss || !g.solValid || g.solLate || !g.clkPresent || g.spoof || s.cfg.gns.portGate ||
    decide (s.ticks < g.solHoldUntil)

/-- REF12 follows the conditions of R170. -/
def State.gnsEval (s : State) : State :=
  let v := s.gnsInvalid
  if v = (s.slot 12).srcInvalid then s else s.setSource 12 v (s.slot 12).classLimit false

/-! ### The cross-check (R172 to R175) -/

/-- STEER_PHASE since the anchor, in 2^-16 ns. -/
def State.steerPhase (s : State) : Int :=
  let g := s.gns
  let alone := g.anchorCount + (s.ticks - g.anchorTick) * (incrOf g.anchorHold.toInt).toNat
  ((s.acd.count : Int) - (alone : Int)) / 2 ^ 40

/-- E_HOLD of R128 with t measured from the anchor, in 10 ps rounded up once. -/
def State.anchorHoldEb (s : State) : Nat :=
  let o := s.osc
  let t := s.ticks - s.gns.anchorTick
  ceilDiv (o.y0.toNat * t * 80000000000 * 86400 + o.age.toNat * t * t * 32
    + o.tempco.toNat * s.gns.anchorDt.toNat * t * 800000000 * 86400) (86400 * 10 ^ 24)

/-- E_SRC of the present solution, in 10 ps (R170). -/
def State.gnsESrc (s : State) : BitVec 24 :=
  ebSat (s.gns.solUnc.toNat + eLatch + s.cfg.gns.cableUnc.toNat)

/-- CHECK_DEV of the present solution. -/
def State.checkDevNow (s : State) : Int := s.gns.solOffset.toInt - s.steerPhase - s.gns.anchorX

/-- CHECK_BOUND of the present solution, in 10 ps. -/
def State.checkBoundNow (s : State) : Nat :=
  s.anchorHoldEb + s.gns.anchorESrc.toNat + s.gnsESrc.toNat + s.cfg.gns.checkMarginNs.toNat * 100

/-- A phase exceeds a bound in 10 ps. -/
def beyond (x : Int) (bound : Nat) : Bool := decide (bound * 65536 < x.natAbs * 100)

/-- The anchor takes the present solution (R174). -/
def State.anchorTake (s : State) : State :=
  let g := s.gns
  { s with gns := { g with
    anchorTai := s.timeNow, anchored := true, anchorTick := s.ticks, anchorCount := s.acd.count
    anchorX := g.solOffset.toInt, anchorESrc := s.gnsESrc, anchorHold := s.freqHoldReg
    anchorTemp := s.tempOf s.osc.tempSrc.toNat, anchorDt := 0, reanchor := false } }

/-- The anchor moves: the move is logged with CHECK_DEV (R174). -/
def State.anchorMove (s : State) : State := (s.anchorTake).raise (src 6 11) 0 s.gns.checkDev.toInt

/-- An operator's re-anchor ends a fault and moves the anchor (R174). -/
def State.anchorByHand (s : State) : State :=
  let s1 := s.anchorMove
  { s1 with gns := { s1.gns with spoofDev := false, spoofDry := false } }

/-- The largest temperature change since the anchor follows a new reading (R172). -/
def State.anchorTempStep (s : State) : State :=
  if !s.gns.anchored then s
  else
    let d := (s.tempOf s.osc.tempSrc.toNat - s.gns.anchorTemp).natAbs
    { s with gns := { s.gns with anchorDt := BitVec.ofNat 16 (max s.gns.anchorDt.toNat d) } }

/-- A fault of the cross-check begins: history bit `b`, told with CHECK_DEV. -/
def State.spoofBegins (s : State) (b : Nat) : State := (s.gnsHist b).raise (src 6 10) 0 s.gns.checkDev.toInt

/-- The deviation and the drydown tests at a solution (R172, R173): the faults begin, stay, or end together. -/
def State.crossCheck (s : State) : State :=
  let g := s.gns
  let s0 := if g.anchored then
      { s with gns := { g with checkDev := satInt 64 s.checkDevNow, checkBound := ebSat s.checkBoundNow } }
    else s
  let dev := g.anchored && beyond s.checkDevNow s.checkBoundNow
  let dry := s.drydown && beyond g.solOffset.toInt
    (s.acd.ebAccord + s.gnsESrc.toNat + s.cfg.gns.checkMarginNs.toNat * 100)
  let s1 := if dev && !g.spoofDev then s0.spoofBegins 2 else s0
  let s2 := if dry && !g.spoofDry then s1.spoofBegins 3 else s1
  { s2 with gns := { s2.gns with
    spoofDev := dev || (dry && g.spoofDev), spoofDry := dry || (dev && g.spoofDry) } }

/-- The anchor at a solution (R174): taken first, or moved by itself once the deviation test has passed. -/
def State.anchorStep (s : State) : State :=
  let g := s.gns
  if !g.anchored then
    if (s.slot 12).qstate == .qualified then s.anchorTake else s
  else if s.cfg.gns.checkEn && !g.spoof && decide (s.cfg.gns.reanchorNs.toNat * 100 < g.checkBound.toNat) then s.anchorMove
  else s

/-- |CHECK_DEV| enters EB0 as a deviation fault begins while REF12 is selected (R175). -/
def State.spoofEb (s : State) (began sel : Bool) : State :=
  if began && sel then
    let d := ceilDiv (s.gns.checkDev.toInt.natAbs * 100) 65536
    { s with acd := { s.acd with eb0 := s.acd.eb0 + d } }
  else s

end Sys2Proof.Machine
end

