-- ==== Sys2Proof/Machine/KeyOps.lean ====
section
/-! DEFINITION. The root unit's derivations (R329 to R333), the life-cycle state, slots that are emptied, and the
response to tamper (R351). -/

namespace Sys2Proof.Machine

/-! ### Derivation (R331, R332) -/

/-- The counter-mode KDF of NIST SP 800-108 with HMAC-SHA256: the first `bits` bits, as bytes (R331). -/
def kdf (ki label ctx : List Byte) (bits : Nat) : List Byte :=
  ((List.range ((bits + 255) / 256)).flatMap fun i =>
    digBytes (hmac256 ki (beNat 4 (i + 1) ++ label ++ [0] ++ ctx ++ beNat 4 bits))).take (bits / 8)

/-- "SZ-" -/
def szDash : List Byte := [0x53, 0x5A, 0x2D]
/-- "SZ-UDS" -/
def lblUds : List Byte := szDash ++ [0x55, 0x44, 0x53]
/-- "SZ-ROOT" -/
def lblRoot : List Byte := szDash ++ [0x52, 0x4F, 0x4F, 0x54]
/-- "SZ-TEST" -/
def lblTest : List Byte := szDash ++ [0x54, 0x45, 0x53, 0x54]
/-- "SZ-KEK" -/
def lblKek : List Byte := szDash ++ [0x4B, 0x45, 0x4B]
/-- "SZ-LSK" -/
def lblLsk : List Byte := szDash ++ [0x4C, 0x53, 0x4B]
/-- "SZ-AK" -/
def lblAk : List Byte := szDash ++ [0x41, 0x4B]
/-- "SZ-SEAL" -/
def lblSeal : List Byte := szDash ++ [0x53, 0x45, 0x41, 0x4C]
/-- "SZ-DEBUG" -/
def lblDebug : List Byte := szDash ++ [0x44, 0x45, 0x42, 0x55, 0x47]
/-- "SZ-RMA" -/
def lblRma : List Byte := szDash ++ [0x52, 0x4D, 0x41]
/-- "SZ-BLT" -/
def lblBlt : List Byte := szDash ++ [0x42, 0x4C, 0x54]

/-- EUI-64 in transmission order. -/
def Fuse.euiBytes (f : Fuse) : List Byte := beNat 8 f.eui64.toNat

/-- UDS (R332). -/
def Fuse.udsOf (f : Fuse) : Dig := digOf (kdf (digBytes f.puf) lblUds (digBytes f.otpSeed) 256)

/-- KR of a seal and its generation (R332). -/
def krOf (uds seal_ : Dig) (gen : BitVec 32) : Dig :=
  digOf (kdf (digBytes uds) lblRoot (digBytes seal_ ++ beNat 4 gen.toNat) 256)

/-- KT (R332). -/
def Fuse.ktOf (f : Fuse) (uds : Dig) : Dig := digOf (kdf (digBytes uds) lblTest f.euiBytes 256)

/-- KEK of an epoch under a root (R332). -/
def kekOf (root : Dig) (epoch : BitVec 16) (salt : Dig) : Dig :=
  digOf (kdf (digBytes root) lblKek (beNat 2 epoch.toNat ++ digBytes salt) 256)

/-- LSK of an epoch under a root (R332): first byte in bits [7:0]. -/
def lskOf (root : Dig) (epoch : BitVec 16) (salt : Dig) : BitVec 384 :=
  BitVec.ofNat 384 (natOfLe (kdf (digBytes root) lblLsk (beNat 2 epoch.toNat ++ digBytes salt) 384))

/-- AK (R332). -/
def Fuse.akOf (f : Fuse) (uds : Dig) : BitVec 384 :=
  BitVec.ofNat 384 (natOfLe (kdf (digBytes uds) lblAk f.euiBytes 384))

/-- The first 8 bytes of SHA-256 of a byte string. -/
def print8 (bs : List Byte) : BitVec 64 := (sha256 bs).extractLsb' 0 64

/-- SEAL_CHECK of a seal (R329). -/
def sealCheckOf (seal_ : Dig) : BitVec 64 := print8 (lblSeal ++ digBytes seal_)

/-! ### Life-cycle (R334, R335) -/

/-- The test keys are in use: DEBUG and RMA (R336). -/
def State.testKeys (s : State) : Bool := s.lc == .debug || s.lc == .rma

/-- LC_STATE has become another: `old` was the one before (R356). -/
def State.lcChanged (s : State) (old : LcState) : State :=
  if s.lc = old then s else s.raise (src 10 6) 0 0 old.code.toNat s.lc.code.toNat

/-! ### Epochs (R347) -/

/-- The current epoch's slot: the valid one with the highest SEQ not above COMMIT_SEQ. -/
def Keep.curEpoch (k : Keep) : Option EpochSlot :=
  let ok := k.epochs.toList.filter fun e => e.valid && decide (e.seq ≤ k.keyCommit)
  ok.foldl (fun b e => match b with | none => some e | some x => if x.seq < e.seq then some e else some x) none

/-- The previous epoch's slot, where one counts. -/
def Keep.prevEpoch (k : Keep) : Option EpochSlot :=
  match k.curEpoch with
  | none => none
  | some c => k.epochs.toList.find? fun e => e.valid && e.seq + 1 == c.seq

/-! ### Slots that are emptied (R295, R341) -/

/-- A slot emptied; LOAD_SEQ stays. -/
def KeySlot.cleared (k : KeySlot) : KeySlot := { KeySlot.reset with loadSeq := k.loadSeq }

/-- The key slot behind the ACTIVE position of SPP `i`, where the position holds a key. -/
def State.activeSlot (s : State) (i : Nat) : Option Nat :=
  let c := Tab.get s.cfg.svc.spp i SppCfg.reset
  if c.activeB then (if c.bId = 0 then none else some c.bSlot.toNat)
  else (if c.aId = 0 then none else some c.aSlot.toNat)

/-- SPP `i` loses its key (R295). -/
def State.sppLost (s : State) (i : Nat) : State :=
  ({ s with svc := { s.svc with spp := Tab.mod s.svc.spp i fun p => { p with keyLost := true } } }).raise (src 9 7) i

/-- Slot `k` is emptied. -/
def State.zeroSlot (s : State) (k : Nat) : State :=
  if !(Tab.get s.key.slots k KeySlot.reset).loaded then s
  else
    let s1 := ({ s with key := { s.key with slots := Tab.mod s.key.slots k KeySlot.cleared } }).raise (src 10 3) k
    (List.range 16).foldl (fun s i => if s.activeSlot i = some k then s.sppLost i else s) s1

/-- The slots a mask names are emptied. -/
def State.zeroSlots (s : State) (mask : BitVec 64) : State :=
  (List.range 64).foldl (fun s k => if has mask k then s.zeroSlot k else s) s

/-- Every key slot and every cookie-key entry is emptied (R337, R351). -/
def State.zeroKeys (s : State) : State :=
  let s1 := s.zeroSlots (BitVec.allOnes 64)
  { s1 with svc := { s1.svc with cookies := Vector.replicate 8 Cookie.reset } }

/-! ### Results -/

/-- KEY_RESULT receives a status for opcode 0x09xx (R355). -/
def State.keyResult (s : State) (x : Status) (op : Nat) : State :=
  ({ s with key := { s.key with
    busyOp := none, resValid := true, resStatus := BitVec.ofNat 4 x.code, resOp := BitVec.ofNat 8 op
    resSeq := s.key.resSeq + 1 } }).irq (src 10 0)

/-- The opcode's low byte of a long-running KEY command. -/
def KeyOp.op : KeyOp → Nat
  | .epochUpdate => 0x44
  | .attest _ => 0x45
  | .provision _ => 0x46
  | .lcAdvance _ _ _ _ => 0x47
  | .debugEnter _ _ _ => 0x48
  | .debugExit => 0x49

/-- A fresh challenge is drawn (R334). -/
def State.newChallenge (s : State) : State :=
  { s.drawn with key := { s.key with challenge := s.drbg.extractLsb' 0 128 } }

/-- Whether a token's signature verifies: over a label, EUI-64, the challenge and what follows it (R334, R411). -/
def State.tokenOk (s : State) (label extra : List Byte) (pub : BitVec 264) (r s_ : BitVec 256) : Bool :=
  Config.ecdsaOk pub (sha256 (label ++ s.fuse.euiBytes ++ leNat 16 s.key.challenge.toNat ++ extra)) r s_

/-- The digest of a compressed public key: its 33 bytes, the first in bits [7:0]. -/
def pubDigest (pub : BitVec 264) : Dig := sha256 (leNat 33 pub.toNat)

/-- An unlock ends (R411): SEL returns to 0 and a scan instruction in force is ended. -/
def State.endUnlock (s : State) : State :=
  if s.blt.unlocked = 0 then s
  else
    let m := s.blt.unlocked.toNat
    ({ s with blt := { s.blt with unlocked := 0, sel := 0, arg := 0, scanActive := false, ir := 0xFF } }).raise
      (src 15 25) m

/-! ### Commit records and fuse steps (R339, R348) -/

/-- The epoch slot that does not hold the current epoch (R347). -/
def Keep.otherSlot (k : Keep) : Nat :=
  let e := Tab.get k.epochs 0 EpochSlot.reset
  match k.curEpoch with
  | some c => if e.valid && e.seq == c.seq then 1 else 0
  | none => 0

/-- The slot that holds no current epoch takes the next epoch, not yet committed (R348 steps 1 and 2). -/
def State.writeEpoch (s : State) (epoch : BitVec 16) : State :=
  let q := (s.keep.curEpoch.map (·.seq)).getD s.keep.keyCommit + 1
  let e : EpochSlot := { valid := true, seq := q, epoch := epoch, salt := s.drbg, sealGen := s.keep.sealGen }
  let a := { s.drawn with keep := { s.keep with
    epochs := Tab.set s.keep.epochs s.keep.otherSlot e, writes := s.keep.writes + 1 } }
  { a with key := { a.key with prevValid := false, epochPrev := 0 } }

/-- The commit record is written: its SEQ is that of the highest epoch slot (R348 step 4). -/
def State.commitRecord (s : State) : State :=
  let q := s.keep.keyCommit
  let top := s.keep.epochs.toList.foldl (fun (b : BitVec 32) e => if e.valid && b < e.seq then e.seq else b) q
  { s with keep := { s.keep with keyCommit := top, wrapCount := 0, writes := s.keep.writes + 1 } }

/-- OTP_SEED is programmed where no bank holds it (R339 step 1). -/
def State.programSeed (s : State) : State :=
  if s.fuse.seedValid0 || s.fuse.seedValid1 then s
  else
    let x := s.drbg
    let f := s.fuse
    let g := if f.seedBits0 then { f with seedBits1 := true, seedValid1 := true, otpSeed := x }
      else { f with seedBits0 := true, seedValid0 := true, otpSeed := x }
    { s.drawn with fuse := g }

/-- OWNER_DBG is fused, unless it is zero or already fused (R339 step 2). -/
def State.fuseOwner (s : State) (o : Dig) : State :=
  if o = 0 || s.fuse.ownerDbgSet then s else { s with fuse := { s.fuse with ownerDbgSet := true, ownerDbg := o } }

/-- A seal is drawn, and SEAL_CHECK and SEAL_GEN are written (R339 step 3, R340). -/
def State.newSeal (s : State) (gen : BitVec 32) : State :=
  let x := s.drbg
  { s.drawn with
    vbat := { s.vbat with sealKey := x }
    keep := { s.keep with sealCheck := sealCheckOf x, sealGen := gen, writes := s.keep.writes + 2 }
    key := { s.key with sealOk := true } }

/-- LC_STATE takes a step of its thermometer (R335). -/
def State.fuseLc (s : State) (bits : BitVec 4) : State :=
  let old := s.lc
  ({ s with fuse := { s.fuse with lcPairA := s.fuse.lcPairA ||| bits, lcPairB := s.fuse.lcPairB ||| bits } }).lcChanged old

/-- The Wenven RMA digest in the boot ROM (R334): its value is not stated. -/
def rmaDigest : Dig := Config.rmaDigest

/-- A token check of R334: the key's digest, then its signature; the challenge is drawn afresh. -/
def State.checkToken (s : State) (digest : Dig) (label : List Byte) (k : BitVec 264) (r v : BitVec 256) :
    Bool × State :=
  (pubDigest k == digest && s.tokenOk label [] k r v, s.newChallenge)

/-- The commit records and fuse steps of a KEY command up to its step `n` of R339, the last being 6; a command with one such
write has it at step 6. -/
def State.keyWrites (s : State) (o : KeyOp) (n : Nat) : State :=
  match o with
  | .epochUpdate => if n = 6 then s.commitRecord else s
  | .provision owner =>
    if s.lc = .blank then
      let a := if 1 ≤ n then s.programSeed else s
      let b := if 2 ≤ n then a.fuseOwner owner else a
      let c := if 4 ≤ n then ((b.newSeal 1).writeEpoch 1).commitRecord else b
      if n = 6 then c.fuseLc 1 else c
    else if n = 6 then
      let e := (s.keep.curEpoch.map (·.epoch)).getD 0 + 1
      ((s.newSeal (s.keep.sealGen + 1)).writeEpoch e).commitRecord
    else s
  | .lcAdvance t k r v =>
    let needs := s.lc == .deployed && t == 4
    if n = 6 && (!needs || (s.checkToken rmaDigest lblRma k r v).1) then
      s.fuseLc (if t = 2 then 0x3 else if t = 4 then 0x7 else 0xF)
    else s
  | .attest _ | .debugEnter _ _ _ | .debugExit => s

/-! ### Tamper (R350, R351) -/

/-- Source `n` is enabled (R350, R405). -/
def State.tamperEnabled (s : State) (n : Nat) : Bool :=
  n == 3 || n == 9 || n == 10 || ((n == 1 || n == 2 || (4 ≤ n && n ≤ 8) || n == 11) && has s.vbat.tamperEn n)

/-- The TAMPER entry (R316). -/
def tamperEntry (s : State) (n : Nat) (seconds : BitVec 32) (deferred duringKey opens : Bool) : LogEntry :=
  entryOf 0x03 15 n s.stamp [seconds, word [(0, deferred.toNat), (1, duringKey.toNat), (2, opens.toNat)]]

/-- The PD_VBAT latch: SEAL is zeroed, the source and the calendar time are recorded (R351). -/
def Vbat.latch (v : Vbat) (n seconds : Nat) : Vbat :=
  { v with
    sealKey := 0, latched := true, tamperSrc := BitVec.ofNat 4 n, tamperTime := BitVec.ofNat 32 seconds
    calValid := false }

/-- The root unit zeroes UDS, KR, KT, every KEK, LSK and AK, and the LOG engine is left without LSK (R351). -/
def State.zeroRoots (s : State) : State :=
  { s with
    key := { s.key with
      unsealed := false, udsOk := false, kr := 0, kt := 0, uds := 0, kek := 0, kekPrev := 0, lsk := 0, ak := 0
      lskPub := 0, sealOk := false }
    log := { s.log with lskOn := false, keyEpoch := 0, unsignedTold := false } }

/-- A key command in progress ends ABORTED; a commit record or fuse step that it has begun is completed (R352). How far it had
come is a free value. -/
def State.abortKeyOp (s : State) : State :=
  match s.key.busyOp with
  | some o => (s.drawn.keyWrites o (s.free.toNat % 7)).keyResult .aborted o.op
  | none => s

/-- TAMPER_HOLD sets (R351). -/
def State.tamperHoldSet (s : State) : State :=
  if s.sys.tamperHold then s else ({ s with sys := { s.sys with tamperHold := true } }).raise (src 0 6)

/-- The calendar's VALID clears (R401). -/
def State.calLost (s : State) : State :=
  if !s.vbat.calValid then s
  else
    let s1 := { s with vbat := { s.vbat with calValid := false, syncRun := 0, syncDevs := [] } }
    if s.sys.devState = .boot then s1 else (s1.raise (src 14 21)).faultAssert 213

/-- An enabled source asserts (R86, R351). -/
def State.tamper (s0 : State) (n : Nat) : State :=
  if !s0.tamperEnabled n then s0
  else
    let s := s0.calLost
    let s1 := { s with vbat := s.vbat.latch n s.calSec }
    match s1.sys.devState with
    | .boot => { s1 with sys := { s1.sys with tamperSrc := BitVec.ofNat 4 n } }
    | .sleep =>
      s1.logPut (tamperEntry s1 n s1.vbat.tamperTime false false false)
    | _ =>
      let busy := s1.key.busyOp.isSome
      let s2 := (s1.abortKeyOp).zeroRoots
      let s3 := { s2 with key := { s2.key with lastSrc := BitVec.ofNat 4 n } }
      let s4 := (s3.zeroKeys).tamperHoldSet
      let s5 := ((s4.irq (src 10 1)).faultAssert 192).endUnlock
      let s6 := s5.bistAbort
      s6.logPut (tamperEntry s6 n s6.vbat.tamperTime false busy false)

/-! ### Reaching RUN (R71, R72, R79) -/

/-- BOOT_ON as SYS_DOMAIN_BOOT reads it: bits 0 to 2, 9 and 11 are 1, and bit 4 is 0 on SZ1860-AN-I. -/
def State.bootOn (s : State) : BitVec 13 :=
  let m := s.cfg.sys.bootOn ||| 0x0A07
  if s.fuse.gnssEn then m else m &&& 0x1FEF

/-- Every domain of SYS_DOMAIN_BOOT is ready. -/
def State.bootReady (s : State) : Bool := s.bootOn &&& ~~~s.sys.domReady == 0

/-- DEV_STATE becomes RUN: the lanes leave electrical idle, and a blotter unlock ends (R79, R411). -/
def State.enterRun (s : State) : State :=
  let s1 := { s with sys := { s.sys with lanesActive := true } }
  ((s1.setDev .run).endUnlock).react

/-- INIT passes to RUN by itself (R71, R72). -/
def State.autoRunNow (s : State) : State :=
  if s.sys.devState = .init && s.cfg.sys.autoRun && !s.sys.tamperHold && s.bootReady then s.enterRun else s

end Sys2Proof.Machine
end

