-- ==== Sys2Proof/Aes.lean ====
section
/-! DEFINITION. AES (FIPS 197) and the modes that the spec names over it: AES-CMAC and AES-SIV-CMAC-256 (R297, R299), AES-GMAC-128
(R291) and AES-256-GCM (R342). The spec names these standards and does not repeat them: PRESUMED, log entry 81. -/

namespace Sys2Proof

namespace Aes

/-- The S-box, 32 entries in each number, the first in the low byte. -/
def sboxRow : Nat → Nat
  | 0 => 0xC072A49CAFA2D4ADF04759FA7DC982CA76ABD7FE2B670130C56F6BF27B777C63
  | 1 => 0x75B227EBE28012079A059618C323C7041531D871F1E5A534CCF73F362693FDB7
  | 2 => 0xCF584C4A39BECB6A5BB1FC20ED00D153842FE329B3D63B52A05A6E1B1A2C8309
  | 3 => 0xD2F3FF1021DAB6BCF5389D928F40A351A89F3C507F02F94585334D43FBAAEFD0
  | 4 => 0xDB0B5EDE14B8EE4688902A22DC4F816073195D643D7EA7C41744975FEC130CCD
  | 5 => 0x08AE7A65EAF4566CA94ED58D6D37C8E779E4959162ACD3C25C2406490A3A32E0
  | 6 => 0x9E1DC186B95735610EF6034866B53E708A8BBD4B1F74DDE8C6B4A61C2E2578BA
  | _ => 0x16BB54B00F2D99416842E6BF0D89A18CDF2855CEE9871E9B948ED9691198F8E1

/-- SubBytes on one byte. -/
def sub (b : Byte) : Byte := BitVec.ofNat 8 (sboxRow (b.toNat / 32) >>> (8 * (b.toNat % 32)))

/-- Multiplication by x in the field of AES. -/
def xtime (b : Byte) : Byte := (b <<< 1) ^^^ (if b.msb then 0x1B else 0)

/-- MixColumns on the columns of a block. -/
def mix : List Byte → List Byte
  | a :: b :: c :: d :: r =>
    let e := a ^^^ b ^^^ c ^^^ d
    (a ^^^ e ^^^ xtime (a ^^^ b)) :: (b ^^^ e ^^^ xtime (b ^^^ c)) :: (c ^^^ e ^^^ xtime (c ^^^ d)) ::
      (d ^^^ e ^^^ xtime (d ^^^ a)) :: mix r
  | l => l

/-- ShiftRows: byte i of the answer is byte i + 4 (i mod 4) of the block. -/
def shift (b : List Byte) : List Byte := (List.range 16).map fun i => b.getD ((i + 4 * (i % 4)) % 16) 0

/-- Two byte strings joined bit by bit. -/
def xor (a b : List Byte) : List Byte := List.zipWith (· ^^^ ·) a b

/-- Word `i` of the key schedule of a key of `nk` words; the schedule is held newest first. -/
def nextWord (nk i : Nat) (rcon : Byte) (ws : List (List Byte)) : List Byte :=
  let t := ws.getD 0 []
  let u := if i % nk = 0 then xor ((t.drop 1 ++ t.take 1).map sub) [rcon, 0, 0, 0]
    else if 6 < nk && i % nk = 4 then t.map sub else t
  xor (ws.getD (nk - 1) []) u

/-- `n` further words of the key schedule, the next one being word `i`. -/
def schedule (nk : Nat) : Nat → Nat → Byte → List (List Byte) → List (List Byte)
  | 0, _, _, ws => ws
  | n + 1, i, rcon, ws =>
    schedule nk n (i + 1) (if i % nk = 0 then xtime rcon else rcon) (nextWord nk i rcon ws :: ws)

/-- A byte string cut into pieces of `k` bytes, at most `n` of them. -/
def chunks (k : Nat) : Nat → List Byte → List (List Byte)
  | 0, _ => []
  | n + 1, l => l.take k :: chunks k n (l.drop k)

/-- The round keys of a key of 16 or 32 bytes. -/
def roundKeys (key : List Byte) : List (List Byte) :=
  let nk := key.length / 4
  let ws := schedule nk (4 * (nk + 7) - nk) nk 1 (chunks 4 nk key).reverse
  chunks 16 (nk + 7) ws.reverse.flatten

/-- The rounds after the first key addition. -/
def rounds : List (List Byte) → List Byte → List Byte
  | [], b => b
  | [k], b => xor (shift (b.map sub)) k
  | k :: r, b => rounds r (xor (mix (shift (b.map sub))) k)

/-- One block under round keys. -/
def cipher (ks : List (List Byte)) (b : List Byte) : List Byte :=
  match ks with
  | [] => b
  | k :: r => rounds r (xor b k)

/-- The number that bytes give, the first the highest. -/
def natOfBe (b : List Byte) : Nat := natOfLe b.reverse

/-- A block of zeros. -/
def zeros : List Byte := List.replicate 16 0

/-- Doubling in the field of CMAC (RFC 4493). -/
def dbl (b : List Byte) : List Byte :=
  let x : BitVec 128 := BitVec.ofNat 128 (natOfBe b)
  beNat 16 ((x <<< 1) ^^^ (if x.msb then 0x87 else 0)).toNat

/-- A last block that is not full, padded. -/
def padBlock (b : List Byte) : List Byte := b ++ 0x80 :: List.replicate (15 - b.length) 0

/-- Blocks chained by CBC. -/
def chain (ks : List (List Byte)) : List (List Byte) → List Byte → List Byte
  | [], x => x
  | b :: r, x => chain ks r (cipher ks (xor x b))

/-- AES-CMAC (RFC 4493). -/
def cmac (ks : List (List Byte)) (m : List Byte) : List Byte :=
  let k1 := dbl (cipher ks zeros)
  let n := (m.length + 15) / 16 - 1
  let last := m.drop (16 * n)
  let z := if last.length = 16 then xor last k1 else xor (padBlock last) (dbl k1)
  chain ks (chunks 16 n m ++ [z]) zeros

/-- S2V of RFC 5297 over the associated strings and the plaintext. -/
def s2v (ks : List (List Byte)) (ads : List (List Byte)) (p : List Byte) : List Byte :=
  let d := ads.foldl (fun d a => xor (dbl d) (cmac ks a)) (cmac ks zeros)
  let n := p.length - 16
  cmac ks (if 16 ≤ p.length then p.take n ++ xor (p.drop n) d else xor (dbl d) (padBlock p))

/-- Data joined with the key stream of the counters from `c` on. -/
def stream (ks : List (List Byte)) : Nat → (Nat → List Byte) → List Byte → List Byte
  | 0, _, _ => []
  | n + 1, c, p => xor (p.take 16) (cipher ks (c 0)) ++ stream ks n (fun i => c (i + 1)) (p.drop 16)

/-- The counter blocks of RFC 5297 for a synthetic IV. -/
def sivCounter (iv : List Byte) (i : Nat) : List Byte :=
  beNat 16 ((BitVec.ofNat 128 (natOfBe iv) &&& 0xFFFFFFFFFFFFFFFF7FFFFFFF7FFFFFFF).toNat + i)

/-- The key stream of AES-SIV over data. -/
def sivStream (key iv p : List Byte) : List Byte :=
  stream (roundKeys (key.drop 16)) ((p.length + 15) / 16) (sivCounter iv) p

/-- AEAD_AES_SIV_CMAC_256: the synthetic IV followed by the ciphertext. -/
def sivSeal (key : List Byte) (ads : List (List Byte)) (p : List Byte) : List Byte :=
  let iv := s2v (roundKeys (key.take 16)) ads p
  iv ++ sivStream key iv p

/-- The plaintext that a sealed string opens to, where its synthetic IV is right. -/
def sivOpen (key : List Byte) (ads : List (List Byte)) (c : List Byte) : Option (List Byte) :=
  let iv := c.take 16
  let p := sivStream key iv (c.drop 16)
  if 16 ≤ c.length && s2v (roundKeys (key.take 16)) ads p == iv then some p else none

/-- Multiplication in the field of GHASH. -/
def ghashMul : Nat → BitVec 128 → BitVec 128 → BitVec 128 → BitVec 128
  | 0, _, _, z => z
  | n + 1, x, v, z =>
    ghashMul n (x <<< 1) ((v >>> 1) ^^^ (if v.getLsbD 0 then 0xE1000000000000000000000000000000 else 0))
      (if x.msb then z ^^^ v else z)

/-- GHASH of blocks. -/
def ghash (h : BitVec 128) (bs : List (List Byte)) : BitVec 128 :=
  bs.foldl (fun y b => ghashMul 128 (y ^^^ BitVec.ofNat 128 (natOfBe b)) h 0) 0

/-- Bytes in blocks, the last one filled with zeros. -/
def zeroBlocks (m : List Byte) : List (List Byte) :=
  let n := (m.length + 15) / 16
  chunks 16 n (m ++ List.replicate (16 * n - m.length) 0)

/-- The counter blocks of GCM for a 96-bit IV. -/
def gcmCounter (iv : List Byte) (i : Nat) : List Byte := iv ++ beNat 4 (i + 1)

/-- The tag of GCM over associated data and ciphertext (NIST SP 800-38D). -/
def gcmTag (ks : List (List Byte)) (iv : List Byte) (aad c : List Byte) : List Byte :=
  let h : BitVec 128 := BitVec.ofNat 128 (natOfBe (cipher ks zeros))
  let lens := beNat 8 (8 * aad.length) ++ beNat 8 (8 * c.length)
  let g := ghash h (zeroBlocks aad ++ zeroBlocks c ++ [lens])
  xor (beNat 16 g.toNat) (cipher ks (gcmCounter iv 0))

end Aes

/-- AES-GMAC-128 (R291): the tag's first byte is the highest. -/
def gmac (key : List Byte) (iv : List Byte) (data : List Byte) : BitVec 128 :=
  BitVec.ofNat 128 (Aes.natOfBe (Aes.gcmTag (Aes.roundKeys key) iv data []))

/-- AES-256-GCM as a flacon uses it (R342): ciphertext and tag of a plaintext with associated data. -/
def gcmSeal (key : Dig) (iv : List Byte) (p aad : List Byte) : List Byte × BitVec 128 :=
  let ks := Aes.roundKeys (digBytes key)
  let c := Aes.stream ks ((p.length + 15) / 16) (fun i => Aes.gcmCounter iv (i + 1)) p
  (c, BitVec.ofNat 128 (natOfLe (Aes.gcmTag ks iv aad c)))

/-- The plaintext that ciphertext and associated data open to, where the tag verifies. -/
def gcmOpen (key : Dig) (iv : List Byte) (c aad : List Byte) (tag : BitVec 128) : Option (List Byte) :=
  let ks := Aes.roundKeys (digBytes key)
  if BitVec.ofNat 128 (natOfLe (Aes.gcmTag ks iv aad c)) = tag then
    some (Aes.stream ks ((c.length + 15) / 16) (fun i => Aes.gcmCounter iv (i + 1)) c)
  else none

end Sys2Proof
end

