-- ==== Sys2Proof/Machine/EthOps.lean ====
section
/-! DEFINITION. The ETH block's own operations: lanes and their stamps (R234 to R240), frames as they are received (R241
to R246) and capture (R247 to R256). -/

namespace Sys2Proof.Machine

/-! ### Lanes -/

/-- A lane at work. -/
def State.lane (s : State) (l : Nat) : Lane := Tab.get s.eth.lanes l Lane.reset

/-- A lane's configuration. -/
def State.laneCfg (s : State) (l : Nat) : LaneCfg := Tab.get s.cfg.eth.lane l LaneCfg.reset

/-- A lane at work is changed. -/
def State.modLane (s : State) (l : Nat) (f : Lane → Lane) : State :=
  { s with eth := { s.eth with lanes := Tab.mod s.eth.lanes l f } }

/-- A lane's configuration is changed. -/
def State.setLaneCfg (s : State) (l : Nat) (f : LaneCfg → LaneCfg) : State :=
  { s with cfg := { s.cfg with eth := { s.cfg.eth with lane := Tab.mod s.cfg.eth.lane l f } } }

/-- QUAD_MODE of a quad (R234). -/
def State.quadMode (s : State) (q : Nat) : Nat := (Tab.get s.cfg.eth.quadMode q 1).toNat

/-- ACTIVE_PORT (R234). -/
def State.activePort (s : State) (l : Nat) : Bool := s.quadMode (l / 4) != 2 || l % 4 == 0

/-- RATE_MBPS of a lane (R264). -/
def State.rateMbps (s : State) (l : Nat) : Nat :=
  if s.quadMode (l / 4) = 0 then 10000 else if s.quadMode (l / 4) = 2 then 100000 else 25000

/-- The lane is not in electrical idle (R237). -/
def State.laneActive (s : State) (l : Nat) : Bool :=
  (s.laneCfg l).enable && s.laneReady l && s.activePort l && s.sys.lanesActive && !has s.eth.relock (l / 4) &&
    (s.sys.devState == .run || s.sys.devState == .maint || s.sys.devState == .safe)

/-- A counter of a lane is advanced (R257). -/
def State.ethCount (s : State) (l i : Nat) (n : Nat := 1) : State :=
  s.modLane l fun x => { x with cnt := Tab.mod x.cnt i (· + BitVec.ofNat 64 n) }

/-- A source of the ETH block is raised for a lane (R259). -/
def State.ethRaise (s : State) (b l : Nat) (value : Int := 0) (old : Nat := 0) (new : Nat := 0) : State :=
  ({ s with eth := { s.eth with intSrc := s.eth.intSrc ||| bitAt 16 l } }).raise (src 7 b) l value old new

/-! ### Stamps -/

/-- E_PORT (R239), in 10 ps. -/
def State.ePort (s : State) (l : Nat) : Nat :=
  if (s.laneCfg l).fec then 15 else if s.quadMode (l / 4) = 2 then 10 else 8

/-- The external delays of a lane for an SFD stamped at tick `t`: a change applies to SFDs after its tick (R240). -/
def State.extAt (s : State) (l t : Nat) : ExtPast :=
  let c := s.laneCfg l
  ((s.lane l).extPast.filter fun x => decide (t ≤ x.tick)).getLast?.getD ⟨0, c.rxExt, c.txExt, c.extUnc⟩

/-- The terms a lane's values of tick `t` add to EB_ACCORD (R240). -/
def State.eLaneAt (s : State) (l t : Nat) : Nat := s.ePort l + (s.extAt l t).unc.toNat

/-- The terms a lane's values add to EB_ACCORD (R240). -/
def State.eLane (s : State) (l : Nat) : Nat := s.ePort l + (s.laneCfg l).extUnc.toNat

/-- An instant cut to a whole multiple of 8 ps (R238). -/
def trunc8 (n : Nat) : Nat := (n * 125 / 65536) * 65536 / 125

/-- EXT of a flag byte (R240). -/
def ExtPast.flag (x : ExtPast) : BitVec 8 := if x.rx != 0 || x.tx != 0 then 0x40 else 0

/-- EXT of a lane's flag bytes (R240). -/
def State.extFlag (s : State) (l : Nat) : BitVec 8 :=
  if (s.laneCfg l).rxExt != 0 || (s.laneCfg l).txExt != 0 then 0x40 else 0

/-- A value of a lane: an instant with the lane's bound and flags (R240). -/
def State.laneValue (s : State) (l : Nat) (t : Int) : Stamp :=
  let x := s.stampAt t (s.eLane l)
  { x with flags := x.flags ||| s.extFlag l }

/-- The stamp of an event that crossed the ball of lane `l` `phase` before now: the accord, its bound and its flags are those
of the tick of the event (R17, R23, R240). -/
def State.laneAgo (s : State) (l phase : Nat) : Stamp :=
  let t := s.ticks - phaseTicks phase
  let x := s.stampTick t (phaseSub phase) (s.eLaneAt l t)
  { x with flags := x.flags ||| (s.extAt l t).flag }

/-- The receive stamp of a frame whose SFD crossed the ball `phase` before now (R238, R240). -/
def State.rxStamp (s : State) (l phase : Nat) : Stamp :=
  let x := s.laneAgo l phase
  { x with time := taiOfInt ((trunc8 (taiNat x.time) : Nat) - ps16 (s.extAt l (s.ticks - phaseTicks phase)).rx.toInt) }

/-- The time of a tick on a lane: now. -/
def State.laneNow (s : State) (l : Nat) : Stamp := s.laneValue l s.now16

/-- TX_EXT_PS of a lane, in 2^-16 ns. -/
def State.txExt16 (s : State) (l : Nat) : Int := ps16 (s.laneCfg l).txExt.toInt

/-! ### Frames as bytes -/

/-- A byte of a frame, 0 past its end. -/
def byteAt (bs : List Byte) (i : Nat) : Nat := (bs.getD i 0).toNat

/-- Two bytes, the first the higher. -/
def be16 (bs : List Byte) (i : Nat) : Nat := 256 * byteAt bs i + byteAt bs (i + 1)

/-- The TPID at an offset is one of the lane's two (R241). -/
def LaneCfg.tagAt (c : LaneCfg) (bs : List Byte) (i : Nat) : Bool :=
  i + 1 < bs.length && (be16 bs i == c.tpidOuter.toNat || be16 bs i == c.tpidInner.toNat)

/-- k: the leading tags, up to 2 (R241). -/
def LaneCfg.tags (c : LaneCfg) (bs : List Byte) : Nat :=
  if c.tagAt bs 12 then if c.tagAt bs 16 then 2 else 1 else 0

/-- LIMIT of R241 for `k` tags. -/
def LaneCfg.limit (c : LaneCfg) (k : Nat) : Nat := c.maxFrame.toNat + 4 * min k c.tagAllow.toNat

/-- What a frame is matched by: EtherType, outer VLAN ID and PCP, IP protocol, UDP destination port. -/
structure FrameKey where
  /-- EtherType after the tags -/
  etherType : Nat
  /-- the outer tag's VLAN ID, if tagged -/
  vid : Option Nat
  /-- the outer tag's PCP, if tagged -/
  pcp : Option Nat
  /-- IP protocol, of an IP frame -/
  proto : Option Nat
  /-- UDP destination port, of a UDP frame -/
  port : Option Nat
deriving DecidableEq, Repr

/-- The IP protocol of a frame with its EtherType at `o`, and where its next header starts. -/
def ipProto (bs : List Byte) (o : Nat) : Option (Nat × Nat) :=
  if be16 bs o = 0x0800 then some (byteAt bs (o + 11), o + 2 + 4 * (byteAt bs (o + 2) % 16))
  else if be16 bs o = 0x86DD then some (byteAt bs (o + 8), o + 42)
  else none

/-- A frame's key. -/
def LaneCfg.keyOf (c : LaneCfg) (bs : List Byte) : FrameKey :=
  let k := c.tags bs
  let o := 12 + 4 * k
  let ip := ipProto bs o
  { etherType := be16 bs o
    vid := if k = 0 then none else some (be16 bs 14 % 4096)
    pcp := if k = 0 then none else some (be16 bs 14 / 8192)
    proto := ip.map (·.1)
    port := ip.bind fun x => if x.1 = 17 then some (be16 bs (x.2 + 2)) else none }

/-- A classifier rule matches (R246). -/
def ClsRule.hits (r : ClsRule) (k : FrameKey) : Bool :=
  r.use != 0 && (!has r.use 0 || k.etherType == r.etherType.toNat) && (!has r.use 1 || k.vid == some r.vid.toNat) &&
    (!has r.use 2 || k.proto == some r.proto.toNat) && (!has r.use 3 || k.port == some r.port.toNat)

/-- The classifier's answer: the ring, 0 for DROP, and the rule, 0xFF for the default (R246). -/
def LaneCfg.classify (c : LaneCfg) (k : FrameKey) : Nat × Nat :=
  match c.rules.toList.findIdx? (·.hits k) with
  | some i => ((Tab.get c.rules i ClsRule.reset).ring.toNat, i)
  | none => (c.defaultRing.toNat, 0xFF)

/-- The tags that receive strips (R243): whether the first and the second leave. A lone tag is the outer one where its
TPID is TPID_OUTER. -/
def LaneCfg.strips (c : LaneCfg) (bs : List Byte) : Bool × Bool :=
  match c.tags bs with
  | 0 => (false, false)
  | 1 => (if be16 bs 12 = c.tpidOuter.toNat then c.stripOuter else c.stripInner, false)
  | _ => (c.stripOuter, c.stripInner)

/-- The TCI of the outer and of the inner tag that receive strips, 0 where it strips none (R246). -/
def LaneCfg.strippedTci (c : LaneCfg) (bs : List Byte) : Nat × Nat :=
  let st := c.strips bs
  let one := if st.1 then be16 bs 14 else 0
  if c.tags bs = 1 && be16 bs 12 != c.tpidOuter.toNat then (0, one) else (one, if st.2 then be16 bs 18 else 0)

/-- Bytes packed into words, the first in the low bits. -/
def packWords (bs : List Byte) : List W32 := leWords ((bs.length + 3) / 4) (natOfLe bs)

/-- A record that fills `n` slots of a device-to-host ring. -/
def State.ringPushN (s : State) (r n : Nat) (rec : List W32) : State :=
  let c := { s.cmd with rings := Tab.mod s.cmd.rings r fun q =>
    { q with prod := q.prod + BitVec.ofNat 32 n, last := rec, lastAt := q.slotAt r q.prod } }
  { s with cmd := (List.range n).foldl (fun (c : Cmd) _ => c.ringTouch r) c }

/-- The receive header (R246). -/
def rxHeader (t : Stamp) (len l stripped rule tci0 tci1 nslots : Nat) : List W32 :=
  t.words ++ [word [(0, len), (16, l), (20, stripped), (24, rule)], word [(0, tci0), (16, tci1)], word [(0, nslots)], 0]

/-- A frame is delivered to a host ring, or dropped where it finds too few slots (R246). -/
def State.rxDeliver (s : State) (l : Nat) (t : Stamp) (bs : List Byte) (ring rule : Nat) : State :=
  let c := s.laneCfg l
  let st := c.strips bs
  let two : List Byte := (bs.drop 16).take 4
  let kept := bs.take 12 ++ (if st.1 then [] else (bs.drop 12).take 4) ++ (if st.2 then [] else two) ++ bs.drop 20
  let body := kept.take (kept.length - 4)
  let n := ceilDiv (32 + body.length) 2048
  let r := s.ring ring
  if s.ready pdPcie && r.enable && decide (r.used + n ≤ r.size) then
    let tci := c.strippedTci bs
    let h := rxHeader t body.length l (st.1.toNat + st.2.toNat) rule tci.1 tci.2 n
    s.ringPushN ring n (h ++ packWords body)
  else (s.ethCount l 7).ethRaise 3 l

/-! ### Received frames (R241) -/

/-- The outcomes of R241, in their order of precedence. -/
inductive RxOutcome where
  | codeErr | runt | jabber | oversize | fcsErr | ok
deriving DecidableEq, Repr

/-- A frame's length (R241). -/
def rxLength (f : RxFrame) : Nat := f.bytes.length + f.more

/-- The outcome of a frame (R241). -/
def LaneCfg.outcome (c : LaneCfg) (f : RxFrame) : RxOutcome :=
  if f.codeErr then .codeErr
  else if rxLength f < 64 then .runt
  else if 16383 < rxLength f then .jabber
  else if c.limit (c.tags f.bytes) < rxLength f then .oversize
  else if f.fcsBad then .fcsErr
  else .ok

/-- The counter of an outcome (R257). -/
def RxOutcome.counter : RxOutcome → Nat
  | .ok => 0 | .codeErr => 2 | .runt => 3 | .jabber => 4 | .oversize => 5 | .fcsErr => 6

/-- STATUS of an outcome in a capture record (R247). -/
def RxOutcome.status : RxOutcome → Nat
  | .ok => 0 | .runt => 1 | .oversize => 2 | .fcsErr => 3 | .jabber => 4 | .codeErr => 5

/-- A frame's outcome is counted, and one other than OK reported (R241, R257). -/
def State.rxCount (s : State) (l : Nat) (o : RxOutcome) (len : Nat) : State :=
  let s1 := s.ethCount l o.counter
  if o = .ok then s1.ethCount l 1 len else s1.ethRaise 2 l

/-! ### Capture -/

/-- Capture runs on the lane (R236, R256). -/
def State.capOn (s : State) (l : Nat) : Bool :=
  (s.laneCfg l).laneMode = 1 && s.laneActive l && s.ready pdCrypto && s.ready pdEngine

/-- CAP_SEQ of the next record (R247). -/
def State.capSeq (s : State) (l : Nat) : BitVec 64 :=
  Tab.get s.keep.capEpoch (l / 4) 0 ++ (s.lane l).nextSeq

/-- Staging slots free (R252). -/
def State.stageFree (s : State) (l : Nat) : Nat := (s.laneCfg l).stageRec.toNat - (s.lane l).stage.length

/-- The open interval closes; one with records waits for its root (R249, R250). -/
def State.capClose (s : State) (l : Nat) : State :=
  let fl := s.flagsFor s.ebAccord
  s.modLane l fun x =>
    let y := { x with ivOpen := false, ivLeaves := [] }
    if x.ivOpen && !x.ivLeaves.isEmpty then
      { y with closed := x.closed ++ [⟨x.ivLabel, x.ivAgain, fl, x.ivFirst, x.ivLeaves.reverse⟩] }
    else y

/-- An interval opens, labelled by millisecond `ms` (R249). -/
def State.capOpen (s : State) (l ms : Nat) (again : Bool) : State :=
  let q := s.capSeq l
  s.modLane l fun x => { x with
    ivOpen := true, ivLabel := taiOf (ms * ms16), ivAgain := again, ivTick := s.ticks, ivFirst := q, ivLeaves := []
    ivLastMs := some (match x.ivLastMs with | some m => max m ms | none => ms) }

/-- The accord's whole millisecond. -/
def State.msNow (s : State) : Nat := s.now16 / ms16

/-- The present millisecond has yet to open an interval on the lane (R249). -/
def State.capMsDue (s : State) (l : Nat) : Bool :=
  match (s.lane l).ivLastMs with
  | none => true
  | some m => decide (m < s.msNow)

/-- The open interval has been open for 1,251,000 ticks (R249). -/
def State.capLate (s : State) (l : Nat) : Bool :=
  (s.lane l).ivOpen && decide ((s.lane l).ivTick + 1251000 ≤ s.ticks)

/-- The interval of this tick is open: the millisecond's, or a REPEAT one (R249). -/
def State.capRoll (s : State) (l : Nat) : State :=
  if s.capMsDue l then (s.capClose l).capOpen l s.msNow false
  else if s.capLate l || !(s.lane l).ivOpen then (s.capClose l).capOpen l s.msNow true
  else s

/-- A record is made: numbered, hashed into the open interval and staged (R247, R250, R252). -/
def State.capRecord (s : State) (l : Nat) (ws : List W32) : State :=
  let rec0 := ws ++ [(s.capSeq l).setWidth 32]
  let n := (s.lane l).stage.length
  let lim := (s.laneCfg l).stageHighPct.toNat * (s.laneCfg l).stageRec.toNat
  let s1 := (s.modLane l fun x => { x with
    nextSeq := x.nextSeq + 1, stage := x.stage ++ [rec0], ivLeaves := leafHash rec0 :: x.ivLeaves }).ethCount l 14
  if n * 100 < lim && lim ≤ (n + 1) * 100 then s1.ethRaise 6 l else s1

/-- Word 6 of a record that is not a FRAME (R247). -/
def capW6 (l type : Nat) : W32 := word [(20, l), (24, type)]

/-- The LOSS record of frames lost to full staging, where a slot is free (R253). -/
def State.capLoss (s : State) (l : Nat) : State :=
  let x := s.lane l
  if x.lossCount = 0 || s.stageFree l = 0 then s
  else
    let s1 := s.capRecord l (taiWords x.lossAt ++ [ebWord x.lossEb x.lossFlags, BitVec.ofNat 32 x.lossCount, 1,
      capW6 l 1])
    (s1.modLane l fun y => { y with lossCount := 0 }).ethRaise 5 l x.lossCount

/-- A LINK record, where a slot is free for it (R237, R247). -/
def State.capLink (s : State) (l : Nat) (up : Bool) : State :=
  if (s.laneCfg l).laneMode = 1 && !(s.lane l).capSusp && s.ready pdCrypto && s.ready pdEngine then
    let a := (s.capRoll l).capLoss l
    let t := a.laneNow l
    if a.stageFree l = 0 then a else a.capRecord l (t.words ++ [word [(0, up.toNat)], 0, capW6 l 2])
  else s

/-- A frame of a capture lane finds capture suspended (R254, R255). -/
def State.capWhileSusp (s : State) (l : Nat) : State :=
  let t := s.laneNow l
  (s.modLane l fun x =>
    if x.suspCount = 0 then { x with suspCount := 1, suspAt := t.time, suspEb := t.eb, suspFlags := t.flags }
    else { x with suspCount := x.suspCount + 1 }).ethCount l 16

/-- A frame of a capture lane ends while staging is full (R253). -/
def State.capLost (s : State) (l : Nat) : State :=
  let t := s.laneNow l
  (s.modLane l fun x =>
    if x.lossCount = 0 then { x with lossCount := 1, lossAt := t.time, lossEb := t.eb, lossFlags := t.flags }
    else { x with lossCount := x.lossCount + 1 }).ethCount l 15

/-- The FRAME record's words 0 to 6 (R247, R248). -/
def frameRecord (t : Stamp) (l : Nat) (o : RxOutcome) (f : RxFrame) : List W32 :=
  let d := sha256 (f.bytes.take 16384)
  let flags := t.flags ||| (if o = .ok then 0 else 0x20)
  taiWords t.time ++ [ebWord t.eb flags, d.setWidth 32, d.extractLsb' 32 32,
    word [(0, min (rxLength f) 65535), (16, o.status), (19, (decide (o = .jabber)).toNat), (20, l)]]

/-- A frame of a capture lane ends (R247). -/
def State.capFrame (s : State) (l : Nat) (t : Stamp) (o : RxOutcome) (f : RxFrame) : State :=
  if (s.lane l).capSusp then s.capWhileSusp l
  else
    let a := (s.capRoll l).capLoss l
    if a.stageFree l = 0 then a.capLost l else a.capRecord l (frameRecord t l o f)

/-- A lane suspends capture (R254, R255). -/
def State.capSuspend (s : State) (l cause : Nat) : State :=
  if (s.lane l).capSusp then s
  else
    let a := (s.capClose l).modLane l fun x => { x with
      capSusp := true, suspCause := BitVec.ofNat 8 cause, suspCount := 0 }
    let b := if cause = 2 then { a with log := { a.log with lanesSusp := a.log.lanesSusp ||| bitAt 16 l } } else a
    b.ethRaise 7 l

/-- What suspended capture is over (R254, R255) and staging can take the records. -/
def State.capMayResume (s : State) (l : Nat) : Bool :=
  let x := s.lane l
  x.capSusp && s.capOn l && decide ((if x.lossCount = 0 then 1 else 2) ≤ s.stageFree l) &&
    (if x.suspCause = 3 then !s.mon.pfw
     else decide (s.log.heldCount < logSlots) && s.log.gapCount == 0 && !s.log.ckWait)

/-- Suspended capture resumes: a new interval, the LOSS record, the interrupt (R254, R255). -/
def State.capResume (s : State) (l : Nat) : State :=
  if s.capMayResume l then
    let x := s.lane l
    let now := s.laneNow l
    let first := if x.suspCount = 0 then now.words else taiWords x.suspAt ++ [ebWord x.suspEb x.suspFlags]
    let a := ((s.modLane l fun y => { y with capSusp := false, suspCount := 0 }).capRoll l).capLoss l
    (a.capRecord l (first ++ [BitVec.ofNat 32 x.suspCount, x.suspCause.setWidth 32, capW6 l 1])).ethRaise 8 l
  else s

/-- Capture ends on a lane (R88, R256): its interval closes. -/
def State.capEnd (s : State) (l : Nat) : State :=
  ((s.capLoss l).capClose l).modLane l fun x => { x with capSusp := false, lossCount := 0, suspCount := 0 }

/-! ### Roots -/

/-- An entry of the label form (R314). -/
def labelEntry (typ l sec ms : Nat) (again : Bool) (count nint : Nat) (flags : BitVec 8) (first : BitVec 64)
    (root : Dig) : LogEntry :=
  { LogEntry.reset with
    typ := BitVec.ofNat 8 typ, origin := 15, sub := BitVec.ofNat 4 l
    mid := [BitVec.ofNat 32 sec, word [(0, sec / 2 ^ 32), (16, ms), (26, again.toNat)], BitVec.ofNat 32 count,
      word [(0, nint), (24, flags.toNat)]]
    payload := w64 first ++ digWords root }

/-- The log can take the entry, at once or behind a signature (R318, R325). -/
def State.canLog (s : State) (e : LogEntry) : Bool :=
  if s.log.signing then decide (s.log.waitQ.length < 256) else s.logRoom e

/-- The second of a label. -/
def labelSec (t : Tai) : Nat := (taiSec t).toNat

/-- The millisecond of a label. -/
def labelMs (t : Tai) : Nat := (taiNs t).toNat / 1000000

/-- The lane writes super-roots for intervals of this second (R251, R326). -/
def State.superMode (s : State) (l sec : Nat) : Bool :=
  s.log.fallback || (s.lane l).supers.any fun r => labelSec r.label == sec

/-- A closed interval's root is ready: it is shown, then written or kept for a super-root (R250, R251). -/
def State.rootReady (s : State) (l : Nat) (c : ClosedIv) : State :=
  let root := mth c.leaves
  let n := c.leaves.length
  let a := s.modLane l fun x => { x with
    closed := x.closed.drop 1, rootValid := true, rootSeq := x.rootSeq + 1, rootIv := c.label, rootFirst := c.first
    rootCount := BitVec.ofNat 32 n, root := root }
  let sec := labelSec c.label
  let e := labelEntry 0x07 l sec (labelMs c.label) c.again n 1 c.flags c.first root
  if s.superMode l sec || !a.canLog e then
    a.modLane l fun x => { x with supers := x.supers ++ [⟨c.label, root, c.first, BitVec.ofNat 32 n, c.flags⟩] }
  else a.logPut e

/-- A leaf of a super-root (R251). -/
def superLeaf (r : SuperRoot) : Dig :=
  sha256 (0x02 :: (digBytes r.root ++ leNat 8 r.first.toNat ++ leNat 4 r.count.toNat))

/-- The manifest slots of a super-root (R324): `seq` of its entry, `i` of the first interval listed. -/
def manifestSlots : Nat → BitVec 48 → Nat → Nat → List (BitVec 32) → List (List W32)
  | 0, _, _, _, _ => []
  | k + 1, seq, l, i, cs =>
    let c := cs.take 12
    ([seq.setWidth 32, word [(0, (seq.extractLsb' 32 16).toNat), (28, l)], BitVec.ofNat 32 i, 0] ++ c ++
      List.replicate (12 - c.length) 0) :: manifestSlots k seq l (i + 12) (cs.drop 12)

/-- The intervals the lane's next super-root covers: of one second, at most 1,023 (R251). -/
def Lane.superGroup (x : Lane) : List SuperRoot :=
  match x.supers with
  | [] => []
  | r :: _ => (x.supers.takeWhile fun q => labelSec q.label == labelSec r.label).take 1023

/-- The next super-root's intervals are complete: its second is over, or it is full, or capture has ended. -/
def State.superDue (s : State) (l : Nat) : Bool :=
  let x := s.lane l
  match x.supers with
  | [] => false
  | r :: _ =>
    let g := x.superGroup
    g.length == 1023 || decide (g.length < x.supers.length) ||
      ((x.closed.all fun c => labelSec c.label != labelSec r.label) &&
        (!x.ivOpen || labelSec x.ivLabel != labelSec r.label))

/-- The lane's next super-root is written with its manifest, or capture is suspended (R251, R325). -/
def State.superWrite (s : State) (l : Nat) : State :=
  let g := (s.lane l).superGroup
  match g with
  | [] => s
  | r :: _ =>
    let sec := labelSec r.label
    let total := (g.map fun q => q.count.toNat).sum
    let fl : BitVec 8 := (g.getLast?.map (·.flags)).getD 0
    let e := labelEntry 0x08 l sec 0 ((s.lane l).superSec == some sec) total g.length fl r.first
      (mth (g.map superLeaf))
    let k := ceilDiv g.length 12
    if s.canLog e && decide (s.log.manifest.length + k ≤ 2048) then
      let q : BitVec 48 := s.log.nextSeq + BitVec.ofNat 48 s.log.waitQ.length
      let a := (s.modLane l fun x => { x with supers := x.supers.drop g.length, superSec := some sec }).logPut e
      { a with log := { a.log with manifest := a.log.manifest ++ manifestSlots k q l 0 (g.map (·.count)) } }
    else s.capSuspend l 2

end Sys2Proof.Machine
end

