-- ==== Sys2Proof/Machine/TmgOps.lean ====
section
/-! DEFINITION. The TMG block's own operations: gate control lists (R262 to R267), release and its length-aware check
(R261, R264), commit slots (R268, R269), shapers (R270), policers (R272 to R274) and sampling (R275). -/

namespace Sys2Proof.Machine

/-! ### Places -/

/-- A lane's gates. -/
def State.tlane (s : State) (l : Nat) : TmgLane := Tab.get s.tmg.lanes l TmgLane.reset

/-- A queue at work. -/
def State.tq (s : State) (q : Nat) : TmgQ := Tab.get s.tmg.q q TmgQ.reset

/-- A queue's configuration. -/
def State.tqCfg (s : State) (q : Nat) : QCfg := Tab.get s.cfg.tmg.q q QCfg.reset

/-- A policer at work. -/
def State.pol (s : State) (p : Nat) : Pol := Tab.get s.tmg.p p Pol.reset

/-- A policer's configuration. -/
def State.polCfg (s : State) (p : Nat) : PolCfg := Tab.get s.cfg.tmg.p p PolCfg.reset

/-- A lane's gates are changed. -/
def State.modTLane (s : State) (l : Nat) (f : TmgLane → TmgLane) : State :=
  { s with tmg := { s.tmg with lanes := Tab.mod s.tmg.lanes l f } }

/-- A queue is changed. -/
def State.modTq (s : State) (q : Nat) (f : TmgQ → TmgQ) : State :=
  { s with tmg := { s.tmg with q := Tab.mod s.tmg.q q f } }

/-- A policer is changed. -/
def State.modPol (s : State) (p : Nat) (f : Pol → Pol) : State :=
  { s with tmg := { s.tmg with p := Tab.mod s.tmg.p p f } }

/-- TMG fields of the keep are changed. -/
def State.setTmgCfg (s : State) (f : TmgCfg → TmgCfg) : State := { s with cfg := { s.cfg with tmg := f s.cfg.tmg } }

/-- A source of the TMG block is raised for a lane (R279); `subject` is what R449 gives it. -/
def State.tmgRaise (s : State) (b l : Nat) (subject : Nat := 0) (value : Int := 0) : State :=
  ({ s with tmg := { s.tmg with intSrc := s.tmg.intSrc ||| bitAt 16 l } }).raise (src 8 b) subject value

/-! ### Gate control lists -/

/-- The entries of a list: gates and interval in 2^-16 ns. -/
def Gcl.rows (g : Gcl) : List (BitVec 8 × Nat) :=
  (g.ent.toList.take g.entries.toNat).map fun e => (e.gates, e.ns.toNat * 65536)

/-- p of R263, in 2^-16 ns. -/
def Gcl.pos (g : Gcl) (t : Nat) : Nat :=
  (((t : Int) - (taiNat g.base : Int)) % ((g.cycle.toNat * 65536 : Nat) : Int)).toNat

/-- The row that holds position `p`: its number, its gates and what is left of it. -/
def rowAt : List (BitVec 8 × Nat) → Nat → Nat → Nat × BitVec 8 × Nat
  | [], _, _ => (0, 0xFF, 0)
  | (m, n) :: r, p, i => if p < n then (i, m, n - p) else rowAt r (p - n) (i + 1)

/-- Entry and gates at an instant (R263); the empty list keeps every gate open. -/
def Gcl.stateAt (g : Gcl) (t : Nat) : Nat × BitVec 8 :=
  if g.entries = 0 then (0, 0xFF)
  else
    let r := rowAt g.rows (g.pos t) 0
    (r.1, r.2.1)

/-- The length of the run of rows in which class `c` is open (or, with `want` false, closed). -/
def runOf (c : Nat) (want : Bool) : List (BitVec 8 × Nat) → Nat
  | [] => 0
  | (m, n) :: r => if has m c == want then n + runOf c want r else 0

/-- How long class `c` stays as `want` from an instant on: 0 where it is not, none where it never changes. -/
def Gcl.holds (g : Gcl) (c : Nat) (want : Bool) (t : Nat) : Option Nat :=
  if g.entries = 0 then (if want then none else some 0)
  else if g.rows.all fun r => has r.1 c == want then none
  else
    let r := rowAt g.rows (g.pos t) 0
    if has r.2.1 c == want then some (r.2.2 + runOf c want (g.rows.drop (r.1 + 1) ++ g.rows)) else some 0

/-- How long class `c` has been open before an instant at which it is open. -/
def Gcl.openSince (g : Gcl) (c t : Nat) : Nat :=
  let r := rowAt g.rows (g.pos t) 0
  let e := (g.rows.getD r.1 (0, 0)).2
  (e - r.2.2) + runOf c true ((g.rows.take r.1).reverse ++ g.rows.reverse)

/-- The longest of the windows of class `c` (R265): none where it has no limit. -/
def longestRun (c : Nat) : List (BitVec 8 × Nat) → Nat → Nat → Nat
  | [], run, best => max run best
  | (m, n) :: r, run, best => if has m c then longestRun c r (run + n) best else longestRun c r 0 (max run best)

/-- The longest window of class `c` in a list (R265), in 2^-16 ns. -/
def Gcl.longest (g : Gcl) (c : Nat) : Option Nat :=
  if g.entries = 0 || g.rows.all fun r => has r.1 c then none
  else some (longestRun c (g.rows ++ g.rows) 0 0)

/-- T_TX of a frame of length `w` (R264), in ns. -/
def txNs (w rate : Nat) : Nat := ceilDiv ((w + 20) * 8 * 1000) rate

/-- T_TX of a frame on a lane, in 2^-16 ns. -/
def State.tx16 (s : State) (l w : Nat) : Nat := txNs w (s.rateMbps l) * 65536

/-- The time of `n` bytes on a lane, in 2^-16 ns. -/
def State.bits16 (s : State) (l n : Nat) : Nat := n * 8 * 1000 * 65536 / s.rateMbps l

/-- Preamble and SFD of a lane (R268), in 2^-16 ns. -/
def State.pre16 (s : State) (l : Nat) : Nat := s.bits16 l 8

/-- The classes that the safe state closes on a lane (R277). -/
def State.shutClasses (s : State) (l : Nat) : BitVec 8 :=
  if s.flt.safe then (s.tlane l).svcClasses ||| 0x80 else 0

/-- The gates of a lane at this tick (R263, R277). -/
def State.gatesNow (s : State) (l : Nat) : BitVec 8 :=
  ((s.tlane l).oper.stateAt s.now16).2 &&& ~~~(s.shutClasses l)

/-- The gates of a lane follow its list and the safe state (R263, R277). -/
def State.gateEval (s : State) (l : Nat) : State :=
  let x := (s.tlane l).oper.stateAt s.now16
  let g := x.2 &&& ~~~(s.shutClasses l)
  s.modTLane l fun t => { t with gates := g, entry := BitVec.ofNat 8 x.1 }

/-- Class `c` is open at every instant from `t` for `d` (R264), with a pending swap in force from its SWAP_AT on. -/
def State.openOver (s : State) (l c t d : Nat) : Bool :=
  let x := s.tlane l
  let at0 := taiNat x.swapAt
  let beyond : Option Nat → Nat → Bool := fun o n => match o with
    | none => true
    | some r => decide (n < r)
  !has (s.shutClasses l) c &&
    (if x.swapPend && decide (t < at0) && decide (at0 ≤ t + d) then
      beyond (x.oper.holds c true t) (at0 - t - 1) && beyond (x.admin.holds c true at0) (t + d - at0)
    else if x.swapPend && decide (at0 ≤ t) then beyond (x.admin.holds c true t) d
    else beyond (x.oper.holds c true t) d)

/-- The interval a booking withholds (R268). -/
def State.bookedIv (s : State) (l : Nat) (b : Booking) : Nat × Nat :=
  let t0 := b.slot - s.pre16 l
  (t0, t0 + s.tx16 l b.wire)

/-- The closed interval from `t` to `u` meets a booked one of the lane. -/
def State.meetsBooked (s : State) (l t u : Nat) : Bool :=
  (s.tlane l).bookings.any fun b => decide (t ≤ (s.bookedIv l b).2) && decide ((s.bookedIv l b).1 ≤ u)

/-! ### Queues -/

/-- DEPTH_BYTES. -/
def TmgQ.depth (q : TmgQ) : Nat := (q.frames.map (·.wire)).sum

/-- The queue is at its limit (R260). -/
def State.qFull (s : State) (q : Nat) : Bool := decide ((s.tqCfg q).qlimitKb.toNat * 1024 ≤ (s.tq q).depth)

/-- The frame is longer than any window of its class (R265). -/
def State.overrun (s : State) (l c w : Nat) : Bool :=
  match (s.tlane l).oper.longest c with
  | none => false
  | some r => decide (r < s.tx16 l w)

/-- A frame longer than every window is dropped and reported; a host descriptor completes WINDOW_OVERRUN (R265). -/
def State.dropOverrun (s : State) (l q : Nat) (f : TxFrame) : State :=
  let a := (s.modTq q fun t => { t with wovr := t.wovr + 1 }).tmgRaise 0 l
  if f.host then (a.completeTx l 5 f.slotIdx f.cookie none).ethCount l 12 else a

/-- A frame enters a queue (R260). -/
def State.putFrame (s : State) (q : Nat) (f : TxFrame) : State :=
  s.modTq q fun t =>
    let d := t.depth + f.wire
    { t with frames := t.frames ++ [f], maxDepth := max t.maxDepth d }

/-- A numbered frame is offered to queue `c` of a lane: a frame too long for its windows, and a service frame that
finds the queue full, are dropped (R260, R265). -/
def State.enqueueTx (s : State) (l c : Nat) (f : TxFrame) : State :=
  let q := 8 * l + c
  if s.overrun l c f.wire then s.dropOverrun l q f
  else if !f.host && s.qFull q then (s.modTq q fun t => { t with qDrop := t.qDrop + 1 }).tmgRaise 1 l
  else s.putFrame q f

/-- A number for a new frame, and the state in which the next differs. -/
def State.newId (s : State) : Nat × State := (s.tmg.nextId, { s with tmg := { s.tmg with nextId := s.tmg.nextId + 1 } })

/-- After a swap every queued frame is checked against the new list (R265). -/
def State.recheckQueue (s : State) (l c : Nat) : State :=
  let q := 8 * l + c
  let bad := (s.tq q).frames.filter fun f => s.overrun l c f.wire
  let gone := bad.map (·.id)
  if bad.isEmpty then s
  else
    let a := s.modTq q fun t => { t with frames := t.frames.filter fun f => !gone.contains f.id }
    let b := a.modTLane l fun t => { t with bookings := t.bookings.filter fun b => !gone.contains b.id }
    bad.foldl (fun s f => s.dropOverrun l q f) b

/-! ### Swaps -/

/-- OPER and ADMIN of a lane exchange (R267). -/
def State.swapLane (s : State) (l : Nat) (skew : Bool) : State :=
  let n := (s.tlane l).swapSeq + 1
  let a := s.modTLane l fun t => { t with
    oper := t.admin, admin := t.oper, adminReady := true, written := 0, swapPend := false, swapSkew := skew
    swapSeq := n }
  let b := a.gateEval l
  ((List.range 8).foldl (fun s c => s.recheckQueue l c) b).tmgRaise 3 l l n.toNat

/-- Every lane whose pending swap has its SWAP_AT reached swaps (R267). -/
def State.swapsDue (s : State) (skew : Bool) : State :=
  (List.range 16).foldl (fun s l =>
    let t := s.tlane l
    if t.swapPend && decide (taiNat t.swapAt ≤ s.now16) && s.laneReady l then s.swapLane l skew else s) s

/-! ### Release -/

/-- The head frame of class `c` passes its shaper (R270). -/
def State.shaperOk (s : State) (q : Nat) : Bool :=
  let c := s.tqCfg q
  !c.shapeEn || (decide (0 ≤ (s.tq q).credit) && c.idleKbps != 0)

/-- The head frame of a class 0 to 6, where it is eligible to start at `t0` (R261, R264, R289). -/
def State.headMay (s : State) (l c t0 : Nat) : Option TxFrame :=
  match (s.tq (8 * l + c)).frames with
  | [] => none
  | f :: _ =>
    let d := s.tx16 l f.wire
    if s.openOver l c t0 d && !s.meetsBooked l t0 (t0 + d) && s.shaperOk (8 * l + c) && (!f.gated || s.svc.gateOpen)
    then some f else none

/-- The lane is at a frame boundary at `t0`, in this tick or after it: the occupancy of the last frame is over (R261, R264). -/
def State.frameEdge (s : State) (l t0 : Nat) : Bool :=
  (s.tlane l).wireFrame.isNone && decide ((s.tlane l).wireFree ≤ s.ticks + phaseTicks (t0 - s.now16))

/-- The booking of the frame at the head of the commit queue, where its first preamble bit is due in this tick (R268). -/
def State.commitDue (s : State) (l : Nat) : Option (TxFrame × Booking) :=
  match (s.tq (8 * l + 7)).frames with
  | [] => none
  | f :: _ =>
    match (s.tlane l).bookings.find? (·.id == f.id) with
    | some b =>
      let t := b.slot - s.pre16 l
      if s.now16 ≤ t && t < s.now16 + s.tickLen && !s.flt.safe && s.svc.gateOpen then some (f, b) else none
    | none => none

/-! ### On-the-fly insertion (R245) -/

/-- Bytes of a frame from `o` are replaced. -/
def putBytes (bs : List Byte) (o : Nat) (x : List Byte) : List Byte := bs.take o ++ x ++ bs.drop (o + x.length)

/-- An NTP timestamp (R245): the bytes of `t` with the UTC offset in force. -/
def ntpOf (t : Tai) (utc : Int) : Nat :=
  let sec := (((taiSec t).toNat : Int) - utc + 2208988800) % 4294967296
  let frac := ((taiNs t).toNat * 65536 + (taiFrac t).toNat) * 65536 / 1000000000
  sec.toNat * 4294967296 + frac

/-- The weight of a byte in a one's-complement sum whose words stand as the one at `c` does. -/
def sumAt (c : Nat) (bs : List Byte) (o n : Nat) : Nat :=
  ((List.range n).map fun i => byteAt bs (o + i) * (if (o + i) % 2 = c % 2 then 256 else 1)).sum

/-- A one's-complement sum folded to 16 bits. -/
def fold16 (n : Nat) : Nat := if n = 0 then 0 else if n % 65535 = 0 then 65535 else n % 65535

/-- The frame's bytes with its transmit stamp written in (R245). -/
def insertStamp (f : TxFrame) (t : Tai) (utc : Int) : List Byte :=
  let o := f.insOff.toNat + 4 * f.tags
  let cf := f.cfOff.toNat + 4 * f.tags
  let cs := f.csumOff.toNat + 4 * f.tags
  let b0 := f.bytes
  let n := if f.insMode = 1 then 10 else 8
  let b1 := if f.insMode = 1 then putBytes b0 o (beNat 6 (taiSec t).toNat ++ beNat 4 (taiNs t).toNat)
    else putBytes b0 o (beNat 8 (ntpOf t utc))
  let useCf := f.insMode = 1 && f.cfOff != 0
  let old := natOfLe ((b0.drop cf).take 8).reverse
  let b2 := if useCf then putBytes b1 cf (beNat 8 (old + (taiFrac t).toNat)) else b1
  let m := if useCf then sumAt cs b0 cf 8 else 0
  let m' := if useCf then sumAt cs b2 cf 8 else 0
  let sum := (65535 - be16 b0 cs) + (65535 * 65535 - (sumAt cs b0 o n + m)) + (sumAt cs b2 o n + m')
  let b3 := if f.csumOff = 0 then b2 else putBytes b2 cs (beNat 2 (65535 - fold16 sum))
  if f.insMode = 0 then b0 else b3

/-- A time without its FRACTION. -/
def wholeNs (t : Tai) : Tai := t &&& ~~~(0xFFFF : Tai)

/-- An error bound in NTP short format, rounded up (R296). -/
def ntpShort (eb : Nat) : BitVec 32 := BitVec.ofNat 32 (ceilDiv (eb * 65536) 100000000000)

/-- A service message with its transmit stamp written in (R245, R284, R296, R307). -/
def SvcMsg.filled (m : SvcMsg) (ins : BitVec 2) (st : Stamp) (utc : Int) : SvcMsg :=
  let b := if m.bound && decide (m.bEb < st.eb) then { m with bEb := st.eb, bFlags := st.flags &&& 0x1F } else m
  if ins = 1 then { b with time := wholeNs st.time, cf := (taiFrac st.time).setWidth 64 }
  else
    let d := ntpShort st.eb.toNat
    { b with txTs := BitVec.ofNat 64 (ntpOf st.time utc), disp := if b.disp < d then d else b.disp }

/-- A frame with its transmit stamp written in, where its INS_MODE asks for it (R245). -/
def TxFrame.filled (f : TxFrame) (st : Stamp) (utc : Int) : TxFrame :=
  if f.insMode = 0 then f
  else { f with
    bytes := if f.host then insertStamp f st.time utc else f.bytes
    msg := f.msg.map fun m => m.filled f.insMode st utc }

/-! ### Onto the wire -/

/-- A frame leaves its queue for the wire at `t0` (R261, R275, R276); its SFD boundary crosses at `sfd`. -/
def State.toWire (s : State) (l c : Nat) (f : TxFrame) (t0 sfd : Nat) : State :=
  let st := s.laneValue l ((trunc8 sfd : Nat) + s.txExt16 l)
  let start := t0 - s.now16
  let soj := s.ticks + start * 5 / 262144 - f.enqTick
  let a := s.modTq (8 * l + c) fun t => { t with
    frames := t.frames.drop 1, maxSojTicks := max t.maxSojTicks soj, departed := t.departed + 1 }
  let stop := t0 + s.tx16 l f.wire
  a.modTLane l fun t => { t with
    wireFrame := some (f.filled st s.cfg.acd.utcOffsetS.toInt), wireClass := BitVec.ofNat 3 c, wireUntil := stop, wireStamp := st.time, wireEb := st.eb
    wireFlags := st.flags, wireGate := s.svc.gateOpen, wireEnd := s.ticks + phaseTicks (start + s.bits16 l (f.wire + 8))
    wireFree := s.ticks + (start + s.tx16 l f.wire) * 5 / 262144 }

/-! ### Commit slots -/

/-- The first slot at or after an instant, in a window that opened at `w0` (R268). -/
def firstSlot (w0 t slot : Nat) : Nat := w0 + ceilDiv (t - w0) slot * slot

/-- The list in force on a lane at an instant from now on: ADMIN from a pending swap's SWAP_AT on (R264, R267). -/
def State.listAt (s : State) (l t : Nat) : Gcl :=
  let x := s.tlane l
  if x.swapPend && decide (taiNat x.swapAt ≤ t) then x.admin else x.oper

/-- The SWAP_AT of a swap that is pending after an instant. -/
def State.swapWithin (s : State) (l t : Nat) : Option Nat :=
  let x := s.tlane l
  if x.swapPend && decide (t < taiNat x.swapAt) then some (taiNat x.swapAt) else none

/-- An instant is at or past a bound, where there is one. -/
def reachedBy (o : Option Nat) (t : Nat) : Bool := match o with
  | some a => decide (a ≤ t)
  | none => false

/-- The first free class-7 slot for a frame of length `w` at or after `t` (R268, R302). A list whose class 7 never
closes counts its slots from BASE_TIME; the empty list has one at every 1,000 ns. -/
def State.findSlot (s : State) (l w : Nat) : Nat → Nat → Option Nat
  | 0, _ => none
  | fuel + 1, t =>
    let g := s.listAt l t
    let d := s.tx16 l w
    let slot := if g.entries = 0 then 1000 * 65536 else g.slot.toNat * 65536
    let stop : Nat → Nat := fun x => x - s.pre16 l + d
    let free : Nat → Bool := fun x => !s.meetsBooked l (x - s.pre16 l) (stop x)
    let swap : Option Nat := s.swapWithin l t
    match g.holds 7 true t with
    | none =>
      let base := if g.entries = 0 then 0 else taiNat g.base % slot
      let x := firstSlot base t slot
      if reachedBy swap (stop x) then s.findSlot l w fuel (swap.getD t)
      else if free x then some x else s.findSlot l w fuel (x + 1)
    | some 0 =>
      match g.holds 7 false t with
      | none => swap.bind fun at0 => s.findSlot l w fuel at0
      | some r => s.findSlot l w fuel (if reachedBy swap (t + r) then swap.getD t else t + r)
    | some r =>
      let w0 := t - g.openSince 7 t
      let x := firstSlot w0 t slot
      if reachedBy swap (min (stop x) (t + r)) then s.findSlot l w fuel (swap.getD t)
      else if t + r < stop x then s.findSlot l w fuel (t + r)
      else if free x then some x else s.findSlot l w fuel (x + 1)

/-- A booked slot is missed: it is freed, counted and reported, and its frame leaves the commit queue (R269). -/
def State.slotMissed (s : State) (l : Nat) (b : Booking) : State :=
  let a := s.modTLane l fun t => { t with
    bookings := t.bookings.filter fun x => x.id != b.id, commitMiss := t.commitMiss + 1 }
  (a.modTq (8 * l + 7) fun q => { q with frames := q.frames.filter fun f => f.id != b.id }).tmgRaise 5 l

/-! ### A step while a frame is on the wire (R263) -/

/-- A lane's frame on the wire after a step by `d`: its end moves with the accord, and an overlap is counted. -/
def State.stepWire (s : State) (l : Nat) (d : Int) : State :=
  let t := s.tlane l
  match t.wireFrame with
  | none => s
  | some f =>
    let stop := ((t.wireUntil : Int) + d).toNat
    let a := s.modTLane l fun x => { x with wireUntil := stop }
    let other := { s with tmg := { s.tmg with lanes := Tab.mod s.tmg.lanes l fun x =>
      { x with bookings := x.bookings.filter fun b => b.id != f.id } } }
    let clear := s.openOver l t.wireClass.toNat s.now16 (stop - s.now16) && !other.meetsBooked l s.now16 stop
    if clear then a else (a.modTLane l fun x => { x with stepOverlap := x.stepOverlap + 1 }).tmgRaise 4 l l

/-! ### Policers -/

/-- A filter matches a frame (R272). -/
def PolCfg.hits (c : PolCfg) (l : Nat) (k : FrameKey) : Bool :=
  c.enable && c.lane.toNat == l && (!has c.use 0 || k.etherType == c.etherType.toNat) &&
    (!has c.use 1 || k.vid == some c.vid.toNat) && (!has c.use 2 || k.pcp == some c.pcp.toNat) &&
    (!has c.use 3 || k.port == some c.udpPort.toNat)

/-- A frame of length `w` meets policer `p` of lane `l`: whether it passes (R273). -/
def State.police (s : State) (p l w : Nat) : State × Bool :=
  let x := s.pol p
  if w * 125000 ≤ x.tokens then
    (s.modPol p fun y => { y with tokens := y.tokens - w * 125000, pass := y.pass + 1 }, true)
  else
    ((s.modPol p fun y => { y with dropF := y.dropF + 1, dropB := y.dropB + BitVec.ofNat 64 w }).tmgRaise 7 l, false)

/-- A frame of a lane meets the lowest enabled filter that matches it (R272). -/
def State.policeFrame (s : State) (l : Nat) (k : FrameKey) (w : Nat) : State × Bool :=
  match (List.range 240).find? fun p => (s.polCfg p).hits l k with
  | some p => s.police p l w
  | none => (s, true)

/-- A service request meets the admission policer of its lane (R274). -/
def State.admitClient (s : State) (l w : Nat) : State × Bool :=
  if s.svc.gateOpen then s.police (240 + l) l w
  else ((s.modPol (240 + l) fun y => { y with dropG := y.dropG + 1 }).tmgRaise 8 l, false)

/-- The tokens of a policer after another 64 ns (R273), in 1/125,000 byte. -/
def Pol.accrue (x : Pol) (c : PolCfg) : Pol :=
  { x with tokens := min (x.tokens + c.rateKbps.toNat) (c.burst.toNat * 125000) }

/-! ### Shapers -/

/-- What an update adds to a queue's credit (R270), in 2^-16 bit. -/
def QCfg.idle16 (c : QCfg) : Nat := c.idleKbps.toNat * 64 * 65536 / 1000

/-- CREDIT after another 80 ticks (R270, R271). -/
def State.creditNext (s : State) (q : Nat) : Int :=
  let l := q / 8
  let x := s.tq q
  let c := s.tqCfg q
  let t := s.tlane l
  if t.wireFrame.isSome && t.wireClass.toNat = q % 8 then x.credit + c.idle16 - (s.rateMbps l * 64 * 65536 : Nat)
  else if !has (s.gatesNow l) (q % 8) || c.idleKbps = 0 then x.credit
  else if !x.frames.isEmpty || x.credit < 0 then
    let cap : Int := ((c.maxCredit.toNat * 8 * 65536 : Nat) : Int)
    if cap ≤ x.credit then x.credit else min (x.credit + c.idle16) cap
  else 0

/-- A queue's shaper is updated; a queue that waits on a zero slope reports its stall once (R270, R271). -/
def State.shape (s : State) (q : Nat) : State :=
  let c := s.tqCfg q
  if q % 8 = 7 || !c.shapeEn then s
  else
    let n := s.creditNext q
    let stall := c.idleKbps = 0 && !(s.tq q).frames.isEmpty
    let told := (s.tq q).stallTold
    let a := s.modTq q fun t => { t with credit := n, stallTold := stall }
    if stall && !told then a.tmgRaise 6 (q / 8) q else a

/-! ### Sampling -/

/-- One queue is sampled (R275). -/
def State.sampleQ (s : State) (q : Nat) : State :=
  let x := s.tq q
  let ns := x.maxSojTicks * 4 / 5
  let alarm := s.cfg.tmg.sojournUs.toNat * 1000
  let a := s.modTq q fun t => { t with
    sValid := true, sSeq := t.sSeq + 1, sDepth := BitVec.ofNat 20 t.depth, sMaxDepth := BitVec.ofNat 20 t.maxDepth
    sSojNs := BitVec.ofNat 32 ns, sDep := BitVec.ofNat 32 t.departed, maxDepth := t.depth, maxSojTicks := 0
    departed := 0 }
  if alarm != 0 && decide (alarm < ns) then a.tmgRaise 9 (q / 8) else a

/-- SVC_CLASSES of every lane follows LANE_MODE and SVC_CLASS (R301). -/
def State.svcClassesSet (s : State) : State :=
  let c := bitAt 8 s.cfg.svc.svcClass.toNat
  let f : Nat → TmgLane → TmgLane := fun l t =>
    if (s.laneCfg l).laneMode = 2 then { t with svcClasses := 0x80 ||| c } else { t with svcClasses := 0x80 }
  { s with tmg := { s.tmg with lanes := Tab.mapIdx s.tmg.lanes f } }

/-- A lane's queues are emptied (R277): host descriptors complete FLUSHED, bookings are freed. -/
def State.emptyLane (s : State) (l : Nat) : State :=
  ((List.range 8).foldl (fun s c => s.emptyQueue (8 * l + c) false) s).modTLane l fun t => { t with bookings := [] }

end Sys2Proof.Machine
end

