-- ==== Sys2Proof/Machine/Eth.lean ====
section
/-! DEFINITION. The ETH commands (R258) and the ETH block's events. -/

namespace Sys2Proof.Machine

/-! ### Queries -/

/-- ETH_n_CFG. -/
def State.ethCfgWord (s : State) (l : Nat) : W32 :=
  let c := s.laneCfg l
  word [(0, s.quadMode (l / 4)), (2, c.laneMode.toNat), (4, c.fec.toNat), (5, c.tagAllow.toNat), (7, c.enable.toNat),
    (8, c.defaultRing.toNat), (16, c.maxFrame.toNat)]

/-- ETH_n_STATUS. -/
def State.ethStatusWord (s : State) (l : Nat) : W32 :=
  let x := s.lane l
  let idle := !s.laneActive l
  let fb := (s.laneCfg l).laneMode = 1 && (s.log.fallback || !x.supers.isEmpty)
  word [(0, x.linkUp.toNat), (1, x.blockLock.toNat), (2, x.fecLock.toNat), (3, x.delayValid.toNat), (4, idle.toNat),
    (5, x.capSusp.toNat), (6, fb.toNat), (7, (s.activePort l).toNat), (16, x.stage.length)]

/-- ETH_n_CAP_CFG. -/
def LaneCfg.capWord (c : LaneCfg) : W32 := word [(0, c.stageRec.toNat), (16, c.stageHighPct.toNat)]

/-- A lane is named by a state-changing command while it is no active port or its quad is off (R234, R258). -/
def State.laneUsable (s : State) (l : Nat) : Bool := s.laneReady l && s.activePort l

/-- The words of a query of a lane: STATE where it is no active port, zeros while its quad is off (R234, R258). -/
def State.laneQuery (s : State) (l : Nat) (ws : List W32) : Done :=
  if !s.activePort l then Done.err s .state
  else Done.ok s (if s.laneReady l then ws else ws.map fun _ => 0)

/-- ETH_QUERY_LANE. -/
def specEthQueryLane : OpSpec where
  opcode := 0x0600
  states := stAll
  len := fun _ => some 1
  params := fun _ p => p.only [0xF]
  body := fun p s =>
    let l := fld (p.w 0) 0 4
    s.laneQuery l ([s.ethCfgWord l, s.ethStatusWord l, (s.laneCfg l).capWord] ++ w64 (s.capSeq l) ++
      ((s.lane l).cnt.toList.take 20).flatMap w64)

/-- The delay registers of a lane. -/
def State.delayWords (s : State) (l : Nat) : List W32 :=
  let c := s.laneCfg l
  let i := 8 * l + 2 * s.quadMode (l / 4) + c.fec.toNat
  [Tab.get s.fuse.rxCalPs i 0, Tab.get s.fuse.txCalPs i 0, (s.lane l).rxPhasePs.setWidth 32, BitVec.ofNat 32 (s.ePort l),
    c.rxExt, c.txExt, c.extUnc.setWidth 32]

/-- ETH_QUERY_DELAY. -/
def specEthQueryDelay : OpSpec where
  opcode := 0x0601
  states := stAll
  len := fun _ => some 1
  params := fun _ p => p.only [0xF]
  body := fun p s => s.laneQuery (fld (p.w 0) 0 4) (s.delayWords (fld (p.w 0) 0 4))

/-! ### Configuration -/

/-- The lanes of a quad. -/
def quadLanes (q : Nat) : List Nat := [4 * q, 4 * q + 1, 4 * q + 2, 4 * q + 3]

/-- ETH_SET_QUAD_MODE. -/
def specEthSetQuadMode : OpSpec where
  opcode := 0x0640
  states := stIM
  len := fun _ => some 1
  params := fun s p =>
    let q := fld (p.w 0) 0 2
    p.only [0x33] && fld (p.w 0) 4 2 != 3 &&
      (fld (p.w 0) 4 2 != 0 || (quadLanes q).all fun l => !(s.laneCfg l).fec)
  csp := fun _ => true
  body := fun p s =>
    let q := fld (p.w 0) 0 2
    if !s.ready (pdQ q) || (quadLanes q).any fun l => (s.laneCfg l).enable then Done.err s .state
    else if has s.eth.relock q then Done.err s .busy
    else
      let m : BitVec 2 := (p.w 0).extractLsb' 4 2
      Done.ok { s with
        cfg := { s.cfg with eth := { s.cfg.eth with quadMode := Tab.set s.cfg.eth.quadMode q m } }
        eth := { s.eth with relock := s.eth.relock ||| bitAt 4 q } }

/-- ETH_SET_LANE. -/
def specEthSetLane : OpSpec where
  opcode := 0x0641
  states := stIRM
  len := fun _ => some 2
  params := fun s p =>
    p.only [0x37F, 0x3FFF] && fld (p.w 0) 4 2 != 3 && fld (p.w 0) 8 2 != 3 && within (p.w 1) 1518 9216 &&
      !(flag (p.w 0) 6 && s.quadMode (fld (p.w 0) 0 4 / 4) == 0)
  csp := fun _ => true
  body := fun p s =>
    let w := p.w 0
    let l := fld w 0 4
    let c := s.laneCfg l
    let mode : BitVec 2 := w.extractLsb' 4 2
    let mf : BitVec 14 := (p.w 1).setWidth 14
    let change := mode != c.laneMode || flag w 6 != c.fec || mf != c.maxFrame
    if !s.laneUsable l || (c.enable && change) || (mode = 1 && !s.ready pdCrypto) then Done.err s .state
    else Done.ok (s.setLaneCfg l fun c => { c with
      laneMode := mode, fec := flag w 6, tagAllow := w.extractLsb' 8 2, maxFrame := mf }).svcClassesSet

/-- A declared external delay is in range (R240). -/
def extDelayOk (w : W32) : Bool := decide (-100000 ≤ w.toInt) && decide (w.toInt ≤ 100000)

/-- ETH_SET_DELAY. -/
def specEthSetDelay : OpSpec where
  opcode := 0x0642
  states := stIRM
  len := fun _ => some 4
  params := fun _ p => p.only [0xF, 0xFFFFFFFF, 0xFFFFFFFF, 0xFFFFFF] && extDelayOk (p.w 1) && extDelayOk (p.w 2)
  csp := fun _ => true
  body := fun p s =>
    let l := fld (p.w 0) 0 4
    if !s.laneUsable l then Done.err s .state
    else
      let c := s.laneCfg l
      Done.ok ((s.modLane l fun x => { x with
          extPast := (⟨s.ticks, c.rxExt, c.txExt, c.extUnc⟩ :: x.extPast).take 4 }).setLaneCfg l fun c => { c with
        rxExt := p.w 1, txExt := p.w 2, extUnc := (p.w 3).setWidth 24 })

/-- STAGE_REC over all lanes with lane `l` given `n` (R252). -/
def State.stageTotal (s : State) (l n : Nat) : Nat :=
  ((List.range 16).map fun i => if i = l then n else (s.laneCfg i).stageRec.toNat).sum

/-- ETH_SET_CAPTURE. -/
def specEthSetCapture : OpSpec where
  opcode := 0x0643
  states := stIRM
  len := fun _ => some 2
  params := fun s p =>
    let n := fld (p.w 1) 0 16
    let h := fld (p.w 1) 16 7
    p.only [0xF, 0x7FFFFF] && decide (256 ≤ n) && decide (n ≤ 32768) && decide (1 ≤ h) && decide (h ≤ 100) &&
      decide (s.stageTotal (fld (p.w 0) 0 4) n ≤ 32768)
  csp := fun _ => true
  body := fun p s =>
    let l := fld (p.w 0) 0 4
    let c := s.laneCfg l
    if !s.laneUsable l || (c.enable && c.laneMode == 1) then Done.err s .state
    else Done.ok (s.setLaneCfg l fun c => { c with
      stageRec := (p.w 1).extractLsb' 0 16, stageHighPct := (p.w 1).extractLsb' 16 7 })

/-- A classifier's ring: 52 to 63, or 0 for DROP (R246, R258). -/
def rxRingOk (n : Nat) : Bool := n == 0 || (decide (52 ≤ n) && decide (n ≤ 63))

/-- ETH_SET_CLASSIFIER. -/
def specEthSetClassifier : OpSpec where
  opcode := 0x0644
  states := stIRM
  len := fun _ => some 4
  params := fun _ p =>
    let w := p.w 0
    p.only [0x3F01FF, 0xFFFFFFFF, 0xFFFF00FF, 0x3F] && rxRingOk (fld (p.w 3) 0 6) &&
      (if flag w 8 then rxRingOk (fld w 16 6) else fld w 16 6 == 0)
  csp := fun _ => true
  body := fun p s =>
    let w := p.w 0
    let l := fld w 0 4
    let m := p.w 1
    let r : ClsRule := { etherType := m.extractLsb' 0 16, vid := m.extractLsb' 16 12, use := m.extractLsb' 28 4,
                         proto := (p.w 2).extractLsb' 0 8, port := (p.w 2).extractLsb' 16 16
                         ring := (p.w 3).setWidth 6 }
    if !s.laneUsable l then Done.err s .state
    else Done.ok (s.setLaneCfg l fun c => { c with
      rules := Tab.set c.rules (fld w 4 4) r
      defaultRing := if flag w 8 then w.extractLsb' 16 6 else c.defaultRing })

/-- LINK_UP of a lane clears (R237). -/
def State.linkFall (s : State) (l : Nat) : State :=
  if (s.lane l).linkUp then
    let a := s.modLane l fun x => { x with linkUp := false, blockLock := false, fecLock := false, delayValid := false }
    ((a.ethCount l 19).ethRaise 1 l 0 1 0).capLink l false
  else s

/-- A lane stops: its link falls, capture ends, its queues are emptied (R88, R258, R277). -/
def State.laneStop (s : State) (l : Nat) : State :=
  let a := s.linkFall l
  let b := if (a.laneCfg l).laneMode = 1 then a.capEnd l else a
  b.emptyLane l

/-- ENABLE of a lane becomes `on` (R258). -/
def State.laneEnable (s : State) (l : Nat) (on : Bool) : State :=
  let a := if (s.laneCfg l).enable && !on then s.laneStop l else s
  a.setLaneCfg l fun c => { c with enable := on }

/-- ETH_LANE_ENABLE. -/
def specEthLaneEnable : OpSpec where
  opcode := 0x0645
  states := stIRM
  len := fun _ => some 2
  params := fun _ p => p.only [0xFFFF, 0xFFFF]
  csp := fun _ => true
  body := fun p s =>
    let ls := (List.range 16).filter fun l => flag (p.w 0) l
    if ls.any fun l => !s.laneUsable l then Done.err s .state
    else Done.ok (ls.foldl (fun s l => s.laneEnable l (flag (p.w 1) l)) s)

/-- ETH_SET_TAGS. -/
def specEthSetTags : OpSpec where
  opcode := 0x0646
  states := stIRM
  len := fun _ => some 2
  params := fun _ p => p.only [0x3F, 0xFFFFFFFF]
  csp := fun _ => true
  body := fun p s =>
    let w := p.w 0
    let l := fld w 0 4
    if !s.laneUsable l then Done.err s .state
    else Done.ok (s.setLaneCfg l fun c => { c with
      stripOuter := flag w 4, stripInner := flag w 5, tpidOuter := (p.w 1).extractLsb' 0 16
      tpidInner := (p.w 1).extractLsb' 16 16 })

/-! ### Host transmit (R242, R244, R245) -/

/-- A host descriptor's fields (R244). -/
structure TxDesc where
  /-- LEN -/
  len : Nat
  /-- CLASS -/
  cls : Nat
  /-- TS_REQ -/
  tsReq : Bool
  /-- T -/
  tags : Nat
  /-- INS_MODE -/
  ins : BitVec 2
  /-- TCI of the first and second inserted tag -/
  tci0 : Nat
  /-- second TCI -/
  tci1 : Nat
  /-- INS_OFFSET -/
  insOff : BitVec 14
  /-- CF_OFFSET -/
  cfOff : BitVec 14
  /-- CSUM_OFFSET -/
  csOff : BitVec 14
  /-- COOKIE -/
  cookie : BitVec 16
deriving DecidableEq, Repr

/-- The descriptor in a slot's words (R244). -/
def txDesc (d : List W32) : TxDesc :=
  let w : Nat → W32 := fun i => d.getD i 0
  { len := fld (w 2) 0 14, cls := fld (w 2) 16 3, tsReq := flag (w 2) 19, tags := fld (w 2) 20 2
    ins := (w 2).extractLsb' 22 2, tci0 := fld (w 3) 0 16, tci1 := fld (w 3) 16 16
    insOff := (w 4).extractLsb' 0 14, cfOff := (w 4).extractLsb' 16 14, csOff := (w 5).extractLsb' 0 14
    cookie := (w 6).extractLsb' 0 16 }

/-- The fields a descriptor has written: offset and size in the host buffer (R245). -/
def TxDesc.fields (d : TxDesc) : List (Nat × Nat) :=
  (if d.ins = 1 then [(d.insOff.toNat, 10)] else if d.ins = 2 then [(d.insOff.toNat, 8)] else []) ++
    (if d.cfOff = 0 then [] else [(d.cfOff.toNat, 8)]) ++ (if d.csOff = 0 then [] else [(d.csOff.toNat, 2)])

/-- No two fields overlap. -/
def apart : List (Nat × Nat) → Bool
  | [] => true
  | (o, n) :: r => (r.all fun x => decide (o + n ≤ x.1) || decide (x.1 + x.2 ≤ o)) && apart r

/-- The offsets of a descriptor are legal (R245). -/
def TxDesc.offsetsOk (d : TxDesc) : Bool :=
  d.ins != 3 && (d.fields.all fun x => decide (14 ≤ x.1) && decide (x.1 + x.2 ≤ d.len)) && apart d.fields &&
    (d.ins != 0 || (d.cfOff == 0 && d.csOff == 0)) && (d.ins != 2 || d.cfOff == 0)

/-- The frame's bytes with the tags a descriptor inserts (R243), before padding. -/
def TxDesc.tagged (d : TxDesc) (c : LaneCfg) (frame : List Byte) : List Byte :=
  let b := frame.take d.len ++ List.replicate (d.len - frame.length) 0
  let one : Nat → Nat → List Byte := fun t v => beNat 2 t ++ beNat 2 v
  let ts : List Byte :=
    if d.tags = 0 then [] else if d.tags = 1 then one c.tpidInner.toNat d.tci0
    else one c.tpidOuter.toNat d.tci0 ++ one c.tpidInner.toNat d.tci1
  b.take 12 ++ ts ++ b.drop 12

/-- The status a descriptor is refused with, 0 where it is not (R244). -/
def TxDesc.refused (d : TxDesc) (c : LaneCfg) (frame : List Byte) : Nat :=
  let w := d.len + 4 * d.tags + 4
  if c.laneMode = 1 then 3
  else if d.cls = 7 then 2
  else if d.len = 0 || d.tags = 3 || c.limit (c.tags (d.tagged c frame)) < w then 1
  else if !d.offsetsOk then 4
  else 0

/-- A fetched frame is padded and offered to its queue (R242, R260). -/
def State.hostFrame (s : State) (l slot : Nat) (d : TxDesc) (frame : List Byte) : State :=
  let b := d.tagged (s.laneCfg l) frame
  let n := s.newId
  let padded := b ++ List.replicate (60 - b.length) 0
  let f : TxFrame := { TxFrame.reset with
    id := n.1, host := true, bytes := padded, wire := padded.length + 4, tags := d.tags, insMode := d.ins
    insOff := d.insOff, cfOff := d.cfOff, csumOff := d.csOff, tsReq := d.tsReq, cookie := d.cookie, slotIdx := slot
    enqTick := s.ticks }
  let a := if b.length < 60 then n.2.ethCount l 11 else n.2
  a.enqueueTx l d.cls f

/-- A descriptor of ring 36 + lane is fetched (R244): refused, flushed on a disabled lane, or its frame enqueued. While
its queue is at its limit it waits (R260). -/
def execTxDescriptorFetch (dt : Nat) (lane : BitVec 4) (desc : List W32) (frame : List (BitVec 8)) (s : State) : Res :=
  let s := s.advance dt
  let l := lane.toNat
  let r := s.ring (36 + l)
  let d := txDesc desc
  let c := s.laneCfg l
  if !(s.laneUsable l && s.ready pdPcie && r.enable && r.fetch != r.prod) then .next s
  else
    let x := d.refused c frame
    if x = 0 && c.enable && s.qFull (8 * l + d.cls) then .next s
    else
      let a := { s with cmd := { s.cmd with rings := Tab.mod s.cmd.rings (36 + l) fun q =>
        { q with fetch := q.fetch + 1 } } }
      let slot := r.fetch.toNat
      if x != 0 then .next (((a.completeTx l x slot d.cookie none).ethCount l 12).ethRaise 4 l)
      else if !c.enable then .next (a.completeTx l 6 slot d.cookie none)
      else .next (a.hostFrame l slot d frame)

/-! ### Receive and transmit -/

/-- The frame is one the protocol engines of a SERVICE lane take: PTP, or NTP (R236). Its effect is the SVC row's. -/
def FrameKey.service (k : FrameKey) : Bool :=
  k.etherType == 0x88F7 || k.port == some 319 || k.port == some 320 || k.port == some 123

/-- Where the PTP message of a frame starts (R280). -/
def LaneCfg.ptpAt (c : LaneCfg) (bs : List Byte) : Option Nat :=
  let o := 12 + 4 * c.tags bs
  if be16 bs o = 0x88F7 then some (o + 2)
  else match ipProto bs o with
    | some (17, u) => if be16 bs (u + 2) = 319 || be16 bs (u + 2) = 320 then some (u + 8) else none
    | _ => none

/-- The frame is a request that the SVC block answers, which its admission policer meets (R274): Delay_Req, Signaling or
an NTP request. Its effect, policing among it, is the SVC row's. -/
def LaneCfg.request (c : LaneCfg) (bs : List Byte) : Bool :=
  match c.ptpAt bs with
  | some o => byteAt bs o % 16 == 1 || byteAt bs o % 16 == 12
  | none => match ipProto bs (12 + 4 * c.tags bs) with
    | some (17, u) => be16 bs (u + 2) == 123 && byteAt bs (u + 8) % 8 == 3
    | _ => false

/-- A PTP slave bound to the lane listens to a domain (R281, R283). -/
def State.slaveDomain (s : State) (l : Nat) (dom : BitVec 8) : Bool :=
  s.cfg.ref.ptp.toList.any fun c => c.enable && c.lane.toNat == l && c.domain == dom

/-- The lane's master port discards a message (R281): Pdelay_Req, Pdelay_Resp and its follow-up, Management, and an Announce
that no slave on the lane listens to. -/
def State.ptpDiscards (s : State) (l : Nat) (bs : List Byte) : Bool :=
  match (s.laneCfg l).ptpAt bs with
  | none => false
  | some o =>
    let ty := byteAt bs o % 16
    (Tab.get s.cfg.svc.ports l PortCfg.reset).enable &&
      (ty == 2 || ty == 3 || ty == 10 || ty == 13 || (ty == 11 && !s.slaveDomain l (BitVec.ofNat 8 (byteAt bs (o + 4)))))

/-- An OK frame on a HOST or SERVICE lane is policed, classified and delivered (R246, R272). -/
def State.rxHost (s : State) (l : Nat) (t : Stamp) (f : RxFrame) : State :=
  let c := s.laneCfg l
  let k := c.keyOf f.bytes
  let srv := c.laneMode = 2 && k.service && s.ready pdEngine
  let a := if srv && c.request f.bytes then (s, true) else s.policeFrame l k (rxLength f)
  if !a.2 then a.1
  else if srv then (if a.1.ptpDiscards l f.bytes then a.1.svcCount l 17 else a.1)
  else
    let x := c.classify k
    if x.1 = 0 then a.1.ethCount l 8 else a.1.rxDeliver l t f.bytes x.1 x.2

/-- The RS-FEC codewords of lane `l` since its last frame, corrected and uncorrected (R257); one that could not be corrected
is told (R259). -/
def State.fecCount (s : State) (l : Nat) (f : RxFrame) : State :=
  let a := (s.ethCount l 17 f.corrected).ethCount l 18 f.uncorrected
  if f.uncorrected = 0 then a else a.ethRaise 9 l f.uncorrected

/-- What the receive path reports beside a frame: the RS-FEC codewords since the last frame, and RX_PHASE_PS, which follows
the recovered clock (R239). -/
def State.rxPath (s : State) (l : Nat) (f : RxFrame) : State :=
  let a := if (s.laneCfg l).fec then s.fecCount l f else s
  match f.rxPhasePs with
  | some ps => a.modLane l fun x => { x with rxPhasePs := ps }
  | none => a

/-- A frame is received whole (R241, R246, R247); its SFD crossed the ball `phase` before this tick. -/
def execFrameReceive (dt : Nat) (lane : BitVec 4) (phase : Nat) (f : RxFrame) (s : State) : Res :=
  let s := s.advance dt
  let l := lane.toNat
  let c := s.laneCfg l
  if !(s.laneActive l && (s.lane l).linkUp && decide (1 ≤ rxLength f)) then .next s
  else
    let t := s.rxStamp l phase
    let o := c.outcome f
    let a := (s.rxPath l f).rxCount l o (rxLength f)
    if c.laneMode = 1 then .next (if a.capOn l then a.capFrame l t o f else a)
    else .next (if o = .ok then a.rxHost l t f else a)

/-- At a frame boundary the next frame is released, its first preamble bit `phase` after this tick (R261, R264, R268). -/
def execFrameRelease (dt : Nat) (lane : BitVec 4) (phase : Nat) (s : State) : Res :=
  let s := s.advance dt
  let l := lane.toNat
  let t0 := s.now16 + phase
  if !(s.laneActive l && (s.lane l).linkUp && s.frameEdge l t0 && (s.laneCfg l).laneMode != 1) then .next s
  else
    match s.commitDue l with
    | some (f, b) => .next (s.toWire l 7 f (b.slot - s.pre16 l) b.slot)
    | none =>
      match [6, 5, 4, 3, 2, 1, 0].findSome? fun c => (s.headMay l c t0).map fun f => (c, f) with
      | some (c, f) => .next (s.toWire l c f t0 (t0 + s.pre16 l))
      | none => .next s

/-- A service frame's counter: SYNC_TX, FOLLOW_UP_TX, DELAY_RESP_TX, ANNOUNCE_TX, NTP_TX, NTS_TX (R312). -/
def SvcKind.counter : SvcKind → Option Nat
  | .sync => some 0 | .followUp => some 1 | .delayResp => some 2 | .announce => some 3 | .ntp => some 4
  | .nts => some 5 | .kod => some 4 | .grant => none | .cancelAck => none | .nak => none

/-- The frame on a lane's wire has left: it is counted and a host descriptor completes SENT (R244); a two-step Sync whose stamp
may be told (R289) waits for its Follow_Up (R284). -/
def State.txDone (s : State) (l : Nat) (f : TxFrame) : State :=
  let t := s.tlane l
  let st : Stamp := ⟨t.wireStamp, t.wireEb, t.wireFlags⟩
  let a := ((s.modTLane l fun x => { x with wireFrame := none }).ethCount l 9).ethCount l 10 f.wire
  if f.host then a.completeTx l 0 f.slotIdx f.cookie (if f.tsReq || f.insMode != 0 then some st else none)
  else
    let b := match f.msg.bind fun m => m.kind.counter with
      | some i => a.svcCount l i
      | none => a
    match f.msg with
    | some m =>
      if m.kind = .sync && m.twoStep && t.wireGate then
        { b with svc := { b.svc with ports := Tab.mod b.svc.ports l fun p =>
          { p with sent := p.sent ++ [⟨m.seq, m.dst, st.time, st.eb⟩] } } }
      else b
    | none => b

/-- The frame on the wire has left it, once its last bit has crossed (R264), other than a commit frame, whose own decision
ends it (R304). -/
def execTxComplete (dt : Nat) (lane : BitVec 4) (s : State) : Res :=
  let s := s.advance dt
  let l := lane.toNat
  match (s.tlane l).wireFrame with
  | none => .next s
  | some f => .next (if f.commit.isSome || !s.laneLive l || decide (s.ticks < (s.tlane l).wireEnd) then s else s.txDone l f)

/-! ### Links and quads -/

/-- LINK_UP sets (R237). -/
def execLinkUp (dt : Nat) (lane : BitVec 4) (rxPhasePs : BitVec 16) (s : State) : Res :=
  let s := s.advance dt
  let l := lane.toNat
  if s.laneActive l && !(s.lane l).linkUp then
    let fec := (s.laneCfg l).fec
    let a := s.modLane l fun x => { x with
      linkUp := true, blockLock := true, fecLock := fec, delayValid := true, rxPhasePs := rxPhasePs }
    .next ((a.ethRaise 0 l 0 0 1).capLink l true)
  else .next s

/-- LINK_UP clears (R237). -/
def execLinkDown (dt : Nat) (lane : BitVec 4) (s : State) : Res :=
  .next ((s.advance dt).linkFall lane.toNat)

/-- The PLLs of a quad have relocked (R235). -/
def execQuadReady (dt : Nat) (q : BitVec 2) (s : State) : Res :=
  let s := s.advance dt
  let n := q.toNat
  if has s.eth.relock n && s.ready (pdQ n) then
    let a := { s with eth := { s.eth with relock := s.eth.relock &&& ~~~(bitAt 4 n) } }
    .next (a.raise (src 7 10) n (s.quadMode n))
  else .next s

/-! ### Capture -/

/-- Capture runs and is not suspended. -/
def State.capRuns (s : State) (l : Nat) : Bool := s.capOn l && !(s.lane l).capSusp

/-- The lane's tap reaches a new whole millisecond: its interval opens (R249). -/
def execCaptureIntervalOpen (dt : Nat) (lane : BitVec 4) (s : State) : Res :=
  let s := s.advance dt
  let l := lane.toNat
  .next (if s.capRuns l && s.capMsDue l then s.capRoll l else s)

/-- An interval open for 1,251,000 ticks closes and a REPEAT interval opens (R249). -/
def execCaptureIntervalTimeout (dt : Nat) (lane : BitVec 4) (s : State) : Res :=
  let s := s.advance dt
  let l := lane.toNat
  .next (if s.capRuns l && !s.capMsDue l && s.capLate l then s.capRoll l else s)

/-- The root of the lane's oldest closed interval is computed (R250, R251). -/
def execCaptureRootReady (dt : Nat) (lane : BitVec 4) (s : State) : Res :=
  let s := s.advance dt
  let l := lane.toNat
  match (s.lane l).closed with
  | [] => .next s
  | c :: _ => .next (if s.laneLive l then s.rootReady l c else s)

/-- The lane's next super-root is written (R251), or capture suspends where the log cannot take it (R254, R325). -/
def execCaptureSuperRoot (dt : Nat) (lane : BitVec 4) (s : State) : Res :=
  let s := s.advance dt
  let l := lane.toNat
  .next (if s.superDue l && s.laneLive l then s.superWrite l else s)

/-- A staging slot is free after losses: the LOSS record is made (R253). -/
def execCaptureLossRecord (dt : Nat) (lane : BitVec 4) (s : State) : Res :=
  let s := s.advance dt
  let l := lane.toNat
  let due := s.capRuns l && decide (0 < (s.lane l).lossCount) && decide (0 < s.stageFree l)
  .next (if due then (s.capRoll l).capLoss l else s)

/-- Suspended capture resumes (R254). -/
def execCaptureResume (dt : Nat) (lane : BitVec 4) (s : State) : Res :=
  .next ((s.advance dt).capResume lane.toNat)

end Sys2Proof.Machine
end

