-- ==== Sys2Proof/Machine/SvcWire.lean ====
section
/-! DEFINITION. The bytes of time requests and of the SVC block's own messages: what a PTP message (R284 to R287, R290, R307) and
an NTP packet (R296 to R300) hold. Where a standard the spec names lays a field out and the spec does not, the layout is
that standard's: PRESUMED, log entry 81. -/

namespace Sys2Proof

/-- The number that `n` bytes from `o` on give, the first the highest. -/
def beAt (bs : List Byte) (o n : Nat) : Nat := Aes.natOfBe ((bs.drop o).take n)

/-! ### Requests -/

/-- messageType of a PTP message. -/
def SvcReq.ptpType (r : SvcReq) : Nat := beAt r.msg 0 1 % 16

/-- domainNumber. -/
def SvcReq.domain (r : SvcReq) : BitVec 8 := BitVec.ofNat 8 (beAt r.msg 4 1)

/-- correctionField. -/
def SvcReq.cf (r : SvcReq) : BitVec 64 := BitVec.ofNat 64 (beAt r.msg 8 8)

/-- sourcePortIdentity. -/
def SvcReq.portId (r : SvcReq) : BitVec 80 := BitVec.ofNat 80 (beAt r.msg 20 10)

/-- sequenceId. -/
def SvcReq.seq (r : SvcReq) : BitVec 16 := BitVec.ofNat 16 (beAt r.msg 30 2)

/-- The TLVs of a message from `o` on: type, where the value starts, its length. -/
def tlvsFrom (bs : List Byte) : Nat → Nat → List (Nat × Nat × Nat)
  | 0, _ => []
  | n + 1, o =>
    if o + 4 ≤ bs.length then (beAt bs o 2, o + 4, beAt bs (o + 2) 2) :: tlvsFrom bs n (o + 4 + beAt bs (o + 2) 2)
    else []

/-- The message within its messageLength. -/
def SvcReq.body (r : SvcReq) : List Byte := r.msg.take (beAt r.msg 2 2)

/-- The TLVs of a Delay_Req or Signaling message, whose fields take 44 bytes. -/
def SvcReq.tlvs (r : SvcReq) : List (Nat × Nat × Nat) := tlvsFrom r.body r.body.length 44

/-- The AUTHENTICATION TLV, the last of the message: where its value starts and its length (R290). -/
def SvcReq.authTlv (r : SvcReq) : Option (Nat × Nat) :=
  match r.tlvs.getLast? with
  | some (ty, o, n) =>
    if ty = 0x8009 && o + n = r.body.length && ((n = 22 && beAt r.body (o + 1) 1 = 0) || (n = 26 && beAt r.body (o + 1) 1 = 2))
    then some (o, n) else none
  | none => none

/-- The message carries an AUTHENTICATION TLV. -/
def SvcReq.auth (r : SvcReq) : Bool := r.authTlv.isSome

/-- SPP of that TLV. -/
def SvcReq.spp (r : SvcReq) : BitVec 8 :=
  match r.authTlv with
  | some (o, _) => BitVec.ofNat 8 (beAt r.body o 1)
  | none => 0

/-- keyID of that TLV. -/
def SvcReq.keyId (r : SvcReq) : BitVec 32 :=
  match r.authTlv with
  | some (o, _) => BitVec.ofNat 32 (beAt r.body (o + 2) 4)
  | none => 0

/-- A message's bytes with the correctionField taken as zero (R291). -/
def maskCf (bs : List Byte) : List Byte := bs.take 8 ++ List.replicate 8 0 ++ bs.drop 16

/-- The ICV of a message's bytes under a key (R291): `alg` 1 is HMAC-SHA256-128, 2 is AES-GMAC-128 with its IV. -/
def icvBytes (alg : Nat) (key iv bs : List Byte) : BitVec 128 :=
  if alg = 1 then BitVec.ofNat 128 (Aes.natOfBe ((digBytes (hmac256 key bs)).take 16)) else gmac (key.take 16) iv bs

/-- The ICV of a request verifies under a key of algorithm `alg` (R291, R293). -/
def SvcReq.icvOk (r : SvcReq) (alg : Nat) (key : List Byte) (mask : Bool) : Bool :=
  match r.authTlv with
  | none => false
  | some (o, n) =>
    let bs := r.body.take (o + n - 16)
    let iv := (r.body.drop 20).take 8 ++ (r.body.drop (o + 6)).take 4
    alg == (if n = 22 then 1 else 2) &&
      (icvBytes alg key iv (if mask then maskCf bs else bs)).toNat == beAt r.body (o + n - 16) 16

/-- A unicast transmission asked for (R287): 0 Announce, 1 Sync, 2 Delay_Resp, 15 any other; its period and duration. -/
structure UniReq where
  /-- the message type -/
  ty : Nat
  /-- logInterMessagePeriod -/
  period : BitVec 8
  /-- durationField -/
  dur : Nat
deriving DecidableEq, Repr

/-- The message type a unicast TLV names. -/
def uniType (n : Nat) : Nat := if n / 16 = 0xB then 0 else if n / 16 = 0 then 1 else if n / 16 = 9 then 2 else 15

/-- The REQUEST_UNICAST_TRANSMISSION TLVs of a Signaling message (R287). -/
def SvcReq.requests (r : SvcReq) : List UniReq :=
  (r.tlvs.filter fun t => t.1 == 4 && t.2.2 == 6).map fun t =>
    { ty := uniType (beAt r.body t.2.1 1), period := BitVec.ofNat 8 (beAt r.body (t.2.1 + 1) 1)
      dur := beAt r.body (t.2.1 + 2) 4 }

/-- The message types its CANCEL_UNICAST_TRANSMISSION TLVs name (R287). -/
def SvcReq.cancels (r : SvcReq) : List Nat :=
  (r.tlvs.filter fun t => t.1 == 6 && t.2.2 == 2).map fun t => uniType (beAt r.body t.2.1 1)

/-- NTP version. -/
def SvcReq.vn (r : SvcReq) : BitVec 3 := BitVec.ofNat 3 (beAt r.msg 0 1 / 8)

/-- NTP mode. -/
def SvcReq.mode (r : SvcReq) : BitVec 3 := BitVec.ofNat 3 (beAt r.msg 0 1)

/-- Poll. -/
def SvcReq.poll (r : SvcReq) : BitVec 8 := BitVec.ofNat 8 (beAt r.msg 2 1)

/-- The request's transmit timestamp. -/
def SvcReq.txTs (r : SvcReq) : BitVec 64 := BitVec.ofNat 64 (beAt r.msg 40 8)

/-- The NTP extension fields from `o` on, and where they end: type, where the field starts, its length with its header. What is
at most 24 bytes long is a legacy MAC (RFC 7822). -/
def fieldsFrom (bs : List Byte) : Nat → Nat → List (Nat × Nat × Nat) × Nat
  | 0, o => ([], o)
  | n + 1, o =>
    let k := beAt bs (o + 2) 2
    if o + 24 < bs.length && 16 ≤ k && k % 4 = 0 && o + k ≤ bs.length then
      let r := fieldsFrom bs n (o + k)
      ((beAt bs o 2, o, k) :: r.1, r.2)
    else ([], o)

/-- The packet is a header and whole extension fields, with no legacy MAC (R282). -/
def SvcReq.ntpWhole (r : SvcReq) : Bool :=
  decide (48 ≤ r.msg.length) && (fieldsFrom r.msg r.msg.length 48).2 == r.msg.length

/-- What an NTS request holds (R297). -/
structure NtsReq where
  /-- the value of the Unique Identifier -/
  uid : List Byte
  /-- the cookie, 104 bytes -/
  cookie : List Byte
  /-- Cookie Placeholders -/
  placeholders : Nat
  /-- the NTP header and every field before the Authenticator -/
  ad : List Byte
  /-- the Authenticator's nonce -/
  nonce : List Byte
  /-- the Authenticator's ciphertext -/
  sealed : List Byte
deriving DecidableEq, Repr

/-- The fields of an NTS request, where it is laid out as R297 says. -/
def SvcReq.nts (r : SvcReq) : Option NtsReq :=
  let bs := r.msg
  if !r.ntpWhole then none
  else
    match (fieldsFrom bs bs.length 48).1 with
    | (0x0104, ou, nu) :: (0x0204, oc, nc) :: rest =>
      match rest.getLast? with
      | some (0x0404, oa, na) =>
        let ph := rest.dropLast
        let n := beAt bs (oa + 6) 2
        if 36 ≤ nu && nc = 108 && (ph.all fun f => f.1 == 0x0304 && f.2.2 == nc) && ph.length ≤ 7 &&
            beAt bs (oa + 4) 2 = 16 && 16 ≤ n && 24 + n ≤ na then
          some { uid := (bs.drop (ou + 4)).take (nu - 4), cookie := (bs.drop (oc + 4)).take 104, placeholders := ph.length
                 ad := bs.take oa, nonce := (bs.drop (oa + 8)).take 16, sealed := (bs.drop (oa + 24)).take n }
        else none
      | _ => none
    | _ => none

/-- The Unique Identifier of a request that has one as its first field (R300). -/
def SvcReq.uid (r : SvcReq) : List Byte :=
  match (fieldsFrom r.msg r.msg.length 48).1 with
  | (0x0104, o, n) :: _ => (r.msg.drop (o + 4)).take (n - 4)
  | _ => []

/-! ### Cookies (R299) -/

/-- KEYID of a cookie. -/
def cookieKeyId (c : List Byte) : BitVec 32 := BitVec.ofNat 32 (beAt c 0 4)

/-- A cookie: KEYID, the nonce N and the keys sealed under the cookie key. -/
def mintCookie (key : Dig) (keyId : BitVec 32) (n : List Byte) (c2s s2c : Dig) : List Byte :=
  let id_ := beNat 4 keyId.toNat
  id_ ++ n ++ Aes.sivSeal (digBytes key) [id_, n] ([0x00, 0x0F, 0x00, 0x00] ++ digBytes c2s ++ digBytes s2c)

/-- The C2S and the S2C key of a cookie that opens under a key and holds AEAD identifier 15. -/
def openCookie (key : Dig) (c : List Byte) : Option (Dig × Dig) :=
  match Aes.sivOpen (digBytes key) [c.take 4, (c.drop 4).take 16] (c.drop 20) with
  | some p => if beAt p 0 2 = 15 then some (digOf ((p.drop 4).take 32), digOf ((p.drop 36).take 32)) else none
  | none => none

/-- The authenticator of a request verifies under its C2S key (R297). -/
def NtsReq.verifies (q : NtsReq) (c2s : Dig) : Bool := (Aes.sivOpen (digBytes c2s) [q.ad, q.nonce] q.sealed).isSome

end Sys2Proof
end

