-- ==== Sys2Proof/Machine/SvcOps.lean ====
section
/-! DEFINITION. The SVC block's own operations: the messages it builds (R284 to R286, R296), signing (R290 to R295), the
client table (R308 to R310), grants (R287) and committed departure (R301 to R306). -/

namespace Sys2Proof.Machine

/-! ### Places -/

/-- A PTP port at work. -/
def State.port (s : State) (k : Nat) : Port := Tab.get s.svc.ports k Port.reset

/-- A PTP port's configuration. -/
def State.portCfg (s : State) (k : Nat) : PortCfg := Tab.get s.cfg.svc.ports k PortCfg.reset

/-- A security parameter pointer at work. -/
def State.spp (s : State) (i : Nat) : Spp := Tab.get s.svc.spp i Spp.reset

/-- A security parameter pointer's configuration. -/
def State.sppCfg (s : State) (i : Nat) : SppCfg := Tab.get s.cfg.svc.spp i SppCfg.reset

/-- A port at work is changed. -/
def State.modPort (s : State) (k : Nat) (f : Port → Port) : State :=
  { s with svc := { s.svc with ports := Tab.mod s.svc.ports k f } }

/-- A security parameter pointer at work is changed. -/
def State.modSpp (s : State) (i : Nat) (f : Spp → Spp) : State :=
  { s with svc := { s.svc with spp := Tab.mod s.svc.spp i f } }

/-- SVC fields of the keep are changed. -/
def State.setSvcCfg (s : State) (f : SvcCfg → SvcCfg) : State := { s with cfg := { s.cfg with svc := f s.cfg.svc } }

/-- A port's configuration is changed. -/
def State.setPortCfg (s : State) (k : Nat) (f : PortCfg → PortCfg) : State :=
  s.setSvcCfg fun c => { c with ports := Tab.mod c.ports k f }

/-- A security parameter pointer's configuration is changed. -/
def State.setSppCfg (s : State) (i : Nat) (f : SppCfg → SppCfg) : State :=
  s.setSvcCfg fun c => { c with spp := Tab.mod c.spp i f }

/-- CLOCK_ID (R283). -/
def State.clockId (s : State) : BitVec 64 := (s.cfg.svc.clockId).getD s.fuse.eui64

/-- The lane serves: SERVICE mode, active, and the engines have power (R236). -/
def State.svcLane (s : State) (l : Nat) : Bool :=
  s.ready pdEngine && s.laneActive l && (s.laneCfg l).laneMode = 2

/-- SVC_PORT_k_STATUS.RUNNING (R312). -/
def State.portRuns (s : State) (k : Nat) : Bool := (s.portCfg k).enable && s.svcLane k

/-- The lane receives: it serves and its link is up (R237). -/
def State.svcHears (s : State) (l : Nat) : Bool := s.svcLane l && (s.lane l).linkUp

/-! ### Fields of messages -/

/-- The accord, truncated to the nanosecond (R284). -/
def State.buildTime (s : State) : Tai := taiOf (s.now16 / 65536 * 65536)

/-- clockAccuracy of an error bound in 10 ps (R286). -/
def accuracyCode (e : Nat) : Nat :=
  match ([2500, 10000, 25000, 100000, 250000, 1000000, 2500000, 10000000, 25000000].findIdx? fun b => decide (e ≤ b)) with
  | some i => 0x20 + i
  | none => 0xFE

/-- clockAccuracy of a port now (R286). -/
def State.portAccuracy (s : State) (k : Nat) : BitVec 8 :=
  let e := s.ebAccord + s.eLane k
  if 0xFFFFFF ≤ e || s.svc.clockClass = 248 then 0xFE else BitVec.ofNat 8 (accuracyCode e)

/-- timeSource (R286). -/
def State.timeSourceNow (s : State) : BitVec 8 :=
  match s.selectedSlot with
  | none => 0xA0
  | some n => if n = 12 then 0x20 else if 13 ≤ n && n ≤ 16 then 0x40 else s.cfg.svc.timeSource

/-- A leap second is due within a day (R286, R296): 1 insert, 2 delete, 0 none. -/
def State.leapDue (s : State) : Nat :=
  let now := s.now16 / sec16
  let at0 := s.cfg.acd.leapAt.toNat
  if s.acd.leapPending && at0 - 86400 ≤ now && now < at0 then s.cfg.acd.leap.toNat else 0

/-- The flags of an Announce (R286). -/
def State.annFlags (s : State) : BitVec 8 :=
  let trace := s.svc.clockClass = 6 || s.svc.clockClass = 7
  BitVec.ofNat 8 (1 + 2 * s.cfg.acd.utcValid.toNat + 12 * trace.toNat + 16 * (decide (s.leapDue = 1)).toNat
    + 32 * (decide (s.leapDue = 2)).toNat)

/-- The bound's fields of now on a message (R307): `eb` in 10 ps. -/
def State.withBound (s : State) (on : Bool) (eb : Nat) (m : SvcMsg) : SvcMsg :=
  if on then { m with
    bound := true, bEb := ebSat eb, bFlags := s.flagsFor eb, bState := BitVec.ofNat 3 s.acd.state.code.toNat
    bClass := s.svc.clockClass }
  else m

/-! ### Lengths on the wire (R290, R298, R303, R307) -/

/-- Ethernet, IP and UDP headers of a port's transport, with the FCS. -/
def headerLen (transport : Nat) : Nat := if transport = 0 then 18 else if transport = 1 then 46 else 66

/-- An IPv4 address as R308 holds it: bytes 10 and 11 are 0xFF, those before zero. -/
def isV4 (a : BitVec 128) : Bool := a.extractLsb' 0 96 == 0xFFFF00000000000000000000#96

/-- The AUTHENTICATION TLV's length. -/
def authLen (alg : Nat) : Nat := if alg = 1 then 26 else 30

/-- The Unique Identifier field's length. -/
def uidLen (m : SvcMsg) : Nat := 4 + (m.uid.length + 3) / 4 * 4

/-- The message's length without headers, PAD and FCS. -/
def SvcMsg.bodyLen (m : SvcMsg) : Nat :=
  let b := if m.bound then 16 else 0
  let a := if m.auth then authLen m.alg.toNat else 0
  match m.kind with
  | .sync | .followUp => 44 + b + a
  | .delayResp => 54 + b + a
  | .announce => 64 + a
  | .grant => 56 + a
  | .cancelAck => 50 + a
  | .ntp => 48 + b
  | .nts => 48 + uidLen m + 24 + 108 * m.cookies.toNat + b + 16
  | .nak => 48 + (if m.uid.isEmpty then 0 else uidLen m)
  | .kod => 48

/-- A message's length on the wire (R242, R303). -/
def State.wireLen (s : State) (m : SvcMsg) (commit : Bool) : Nat :=
  let h := match m.kind with
    | .ntp | .nts | .nak | .kod => if isV4 m.dst then 46 else 66
    | _ => headerLen (s.portCfg m.port.toNat).transport.toNat
  max (h + m.bodyLen) (if commit then 128 else 64)

/-! ### Bytes on the wire -/

/-- A time as a PTP Timestamp: secondsField and nanosecondsField. -/
def ptpTime (t : Tai) : List Byte := beNat 6 (taiSec t).toNat ++ beNat 4 (taiNs t).toNat

/-- messageType and controlField of a kind. -/
def SvcKind.ptpCode : SvcKind → Nat × Nat
  | .sync => (0, 0) | .followUp => (8, 2) | .delayResp => (9, 3) | .announce => (0xB, 5)
  | .grant | .cancelAck | .ntp | .nts | .nak | .kod => (0xC, 5)

/-- The second byte of flagField: leap61, leap59, currentUtcOffsetValid, ptpTimescale, timeTraceable, frequencyTraceable. -/
def SvcMsg.flagByte (m : SvcMsg) : Nat :=
  let f := m.aflags
  (has f 4).toNat + 2 * (has f 5).toNat + 4 * (has f 1).toNat + 8 * (has f 0).toNat + 16 * (has f 2).toNat +
    32 * (has f 3).toNat

/-- logMessageInterval: 0x7F in a unicast message, and in Signaling (R287). -/
def State.logInterval (s : State) (m : SvcMsg) (unicast : Bool) : BitVec 8 :=
  let c := s.portCfg m.port.toNat
  match m.kind with
  | .sync | .followUp => if unicast then 0x7F else c.logSync
  | .announce => if unicast then 0x7F else c.logAnnounce
  | .delayResp => if unicast then 0x7F else c.logMinDelay
  | _ => 0x7F

/-- The 34 header bytes of a PTP message of `len` bytes. -/
def State.ptpHead (s : State) (m : SvcMsg) (len : Nat) : List Byte :=
  let c := s.portCfg m.port.toNat
  let code := m.kind.ptpCode
  let uni := c.profile == 2
  beNat 1 code.1 ++ [0x12] ++ beNat 2 len ++ [c.domain, 0] ++ beNat 1 (2 * m.twoStep.toNat + 4 * uni.toNat) ++
    beNat 1 m.flagByte ++ beNat 8 m.cf.toNat ++ beNat 4 0 ++ beNat 8 s.clockId.toNat ++ beNat 2 (m.port.toNat + 1) ++
    beNat 2 m.seq.toNat ++ beNat 1 code.2 ++ [s.logInterval m uni]

/-- The message type of a unicast TLV (R287). -/
def uniNibble (g : BitVec 4) : Nat := if g = 0 then 0xB0 else if g = 1 then 0x00 else 0x90

/-- The fields between a PTP message's header and its TLVs, and the TLV of a Signaling message. -/
def State.ptpFields (s : State) (m : SvcMsg) : List Byte :=
  match m.kind with
  | .sync | .followUp => ptpTime m.time
  | .delayResp => ptpTime m.time ++ beNat 10 m.reqPort.toNat
  | .announce =>
    ptpTime m.time ++ beNat 2 m.utcOff.toNat ++ [0, m.prio1, m.annClass, m.annAcc] ++ beNat 2 m.annVar.toNat ++ [m.prio2] ++
      beNat 8 s.clockId.toNat ++ beNat 2 0 ++ [m.source]
  | .grant =>
    beNat 10 m.reqPort.toNat ++ beNat 2 5 ++ beNat 2 8 ++ beNat 1 (uniNibble m.gType) ++ [m.gPeriod] ++
      beNat 4 m.gDur.toNat ++ [0, 0]
  | .cancelAck => beNat 10 m.reqPort.toNat ++ beNat 2 7 ++ beNat 2 2 ++ beNat 1 (uniNibble m.gType) ++ [0]
  | .ntp | .nts | .nak | .kod => []

/-- EB, flag byte, ACCORD_STATE and clockClass of a bound (R307). -/
def SvcMsg.boundData (m : SvcMsg) : List Byte :=
  beNat 3 m.bEb.toNat ++ [m.bFlags, m.bState.setWidth 8, m.bClass]

/-- A PTP message travels by committed departure (R301). -/
def SvcMsg.committed (m : SvcMsg) : Bool := m.kind = .sync && m.auth && !m.twoStep

/-- The length of a message's PAD TLV, 0 where it has none (R303). -/
def State.padLen (s : State) (m : SvcMsg) : Nat :=
  if m.committed then 128 - (headerLen (s.portCfg m.port.toNat).transport.toNat + m.bodyLen) else 0

/-- The AUTHENTICATION TLV up to its ICV (R290). -/
def SvcMsg.authHead (m : SvcMsg) : List Byte :=
  let gm := m.alg == 2
  beNat 2 0x8009 ++ beNat 2 (if gm then 26 else 22) ++ beNat 1 m.spp.toNat ++ beNat 1 (2 * gm.toNat) ++
    beNat 4 m.keyId.toNat ++ (if gm then beNat 4 m.seqNo.toNat else [])

/-- A PTP message up to its ICV, or whole where it is not signed (R290): body, bound TLV, PAD TLV, AUTHENTICATION TLV. -/
def State.ptpBytes (s : State) (m : SvcMsg) : List Byte :=
  let pad := s.padLen m
  let org := beNat 2 0x8000 ++ beNat 2 12 ++ beNat 3 s.cfg.svc.orgId.toNat ++ beNat 3 1 ++ m.boundData
  s.ptpHead m (m.bodyLen + pad) ++ s.ptpFields m ++ (if m.bound then org else []) ++
    (if pad = 0 then [] else beNat 2 0x8008 ++ beNat 2 (pad - 4) ++ List.replicate (pad - 4) 0) ++
    (if m.auth then m.authHead else [])

/-- The header of an NTP response (R296). -/
def SvcMsg.ntpHead (m : SvcMsg) : List Byte :=
  beNat 1 (64 * m.li.toNat + 8 * m.vn.toNat + 4) ++ beNat 1 m.stratum.toNat ++ [m.poll, m.precision] ++ beNat 4 0 ++
    beNat 4 m.disp.toNat ++ beNat 4 m.refId.toNat ++ beNat 8 m.refTs.toNat ++ beNat 8 m.orgTs.toNat ++
    beNat 8 m.rxTs.toNat ++ beNat 8 m.txTs.toNat

/-- An NTP extension field. -/
def ntpField (ty : Nat) (v : List Byte) : List Byte :=
  let n := (v.length + 3) / 4 * 4
  beNat 2 ty ++ beNat 2 (n + 4) ++ v ++ List.replicate (n - v.length) 0

/-- The bound field, where a response carries one (R307). -/
def State.boundField (s : State) (m : SvcMsg) : List Byte :=
  if m.bound then ntpField s.cfg.svc.efType.toNat (m.boundData ++ List.replicate 6 0) else []

/-- What an NTS Authenticator covers: the header and the Unique Identifier (R298). -/
def SvcMsg.ntsAd (m : SvcMsg) : List Byte := m.ntpHead ++ ntpField 0x0104 m.uid

/-- What an NTS Authenticator seals: the new cookies and the bound field (R298). -/
def State.ntsPlain (s : State) (m : SvcMsg) : List Byte := m.jar.flatMap (ntpField 0x0204) ++ s.boundField m

/-- The bytes of a message on the wire, from its first header byte on. -/
def State.msgBytes (s : State) (m : SvcMsg) : List Byte :=
  match m.kind with
  | .ntp => m.ntpHead ++ s.boundField m
  | .kod => m.ntpHead
  | .nak => m.ntpHead ++ (if m.uid.isEmpty then [] else ntpField 0x0104 m.uid)
  | .nts =>
    m.ntsAd ++ ntpField 0x0404 (beNat 2 16 ++ beNat 2 m.sealed.length ++ beNat 16 m.nonce.toNat ++ m.sealed)
  | _ => s.ptpBytes m ++ (if m.auth then beNat 16 m.icv.toNat else [])

/-! ### Signing (R290 to R295) -/

/-- KEYID, slot and algorithm of a position. -/
def SppCfg.pos (c : SppCfg) (b : Bool) : BitVec 32 × Nat × Nat :=
  if b then (c.bId, c.bSlot.toNat, c.bAlg.toNat) else (c.aId, c.aSlot.toNat, c.aAlg.toNat)

/-- The key of a position, where it holds one that may be used (R295, R312). -/
def State.posKey (s : State) (i : Nat) (b : Bool) : Option KeySlot :=
  let p := (s.sppCfg i).pos b
  let k := Tab.get s.key.slots p.2.1 KeySlot.reset
  if s.ready pdCrypto && p.1 != 0 && k.loaded && k.usage == 1 then some k else none

/-- The position of SPP `i` that holds a KEYID and whose key may be used (R293). -/
def State.posOf (s : State) (i : Nat) (keyId : BitVec 32) : Option Bool :=
  let c := s.sppCfg i
  if keyId = 0 then none
  else if c.aId = keyId && (s.posKey i false).isSome then some false
  else if c.bId = keyId && (s.posKey i true).isSome then some true
  else none

/-- The ICV of a message under a key (R291): over its bytes up to the ICV field. -/
def State.icvOf (s : State) (k : KeySlot) (m : SvcMsg) (mask : Bool) : BitVec 128 :=
  let bs := s.ptpBytes m
  icvBytes m.alg.toNat (digBytes k.key) (beNat 8 s.clockId.toNat ++ beNat 4 m.seqNo.toNat) (if mask then maskCf bs else bs)

/-- The counter of a position. -/
def Spp.seqOf (x : Spp) (b : Bool) : Nat := if b then x.seqB.toNat else x.seqA.toNat

/-- A GMAC position has no counter value left: at 2^31 − 2^20, or at its mark while the keep is read-only (R292, R397). -/
def State.gmacSpent (s : State) (i : Nat) (b : Bool) : Bool :=
  let n := (s.spp i).seqOf b
  decide (2 ^ 31 - 2 ^ 20 ≤ n) || (s.keep.ro && decide (Tab.get s.keep.gmacMark (2 * i + b.toNat) 0 ≤ n))

/-- The counter value for the next GMAC signature of a position (R292, R397), with the reservation mark moved on where it
must be; none where the position is exhausted. -/
def State.gmacNext (s : State) (i : Nat) (b : Bool) : Option Nat × State :=
  let x := s.spp i
  let n := x.seqOf b
  let p := 2 * i + b.toNat
  let stop : State → Option Nat × State := fun s =>
    (none, (s.modSpp i fun y => { y with exhausted := true }).raise (src 9 7) i)
  let next : State → State := fun s => s.modSpp i fun y =>
    if b then { y with seqB := BitVec.ofNat 31 (n + 1) } else { y with seqA := BitVec.ofNat 31 (n + 1) }
  if x.exhausted && s.gmacSpent i b then (none, s)
  else if 2 ^ 31 - 2 ^ 20 ≤ n then stop s
  else if n < Tab.get s.keep.gmacMark p 0 then (some n, next s)
  else if s.keep.ro then stop (s.keepOwn id)
  else (some n, next (s.keepOwn fun k => { k with gmacMark := Tab.set k.gmacMark p (n + 2 ^ 20) }))

/-- A message is signed with the ACTIVE position of SPP `i` (R290, R291, R294); none where it cannot be (R295). -/
def State.signMsg (s : State) (i : Nat) (m : SvcMsg) : Option SvcMsg × State :=
  let c := s.sppCfg i
  let p := c.pos c.activeB
  match s.posKey i c.activeB with
  | none => (none, s)
  | some k =>
    if (s.spp i).keyLost then (none, s)
    else
      let m1 := { m with auth := true, spp := BitVec.ofNat 4 i, alg := BitVec.ofNat 2 p.2.2, keyId := p.1 }
      if p.2.2 = 2 then
        match s.gmacNext i c.activeB with
        | (none, s1) => (none, s1)
        | (some n, s1) =>
          let m2 := { m1 with seqNo := BitVec.ofNat 32 (n + 2 ^ 31 * s.cfg.svc.side.toNat) }
          (some { m2 with icv := s1.icvOf k m2 c.cfMask }, s1)
      else (some { m1 with seqNo := 0, icv := s.icvOf k m1 c.cfMask }, s)

/-! ### Sending -/

/-- A frame that carries a message. -/
def State.svcFrame (s : State) (m : SvcMsg) (commit : Bool) : TxFrame × State :=
  let n := s.newId
  ({ TxFrame.reset with id := n.1, wire := s.wireLen m commit, enqTick := s.ticks, msg := some m }, n.2)

/-- A message enters the service class of its lane, its stamp written on the fly with `ins` 1 or 2 (R245, R301). -/
def State.sendSvc (s : State) (m : SvcMsg) (ins : BitVec 2 := 0) : State :=
  let f := s.svcFrame m false
  f.2.enqueueTx m.port.toNat s.cfg.svc.svcClass.toNat { f.1 with insMode := ins }

/-- A message of a port is signed where `auth` says so, and sent; without a working key it is not (R295). -/
def State.sendAuth (s : State) (auth : Bool) (i : Nat) (m : SvcMsg) (ins : BitVec 2 := 0) : State :=
  if auth then
    match s.signMsg i m with
    | (some x, s1) => s1.sendSvc x ins
    | (none, s1) => s1
  else s.sendSvc m ins

/-! ### Committed departure (R302 to R306) -/

/-- COMMIT_TOL_PS in 10 ps, rounded up (R306). -/
def State.tol10 (s : State) : Nat := ceilDiv s.cfg.svc.tolPs.toNat 10

/-- The time and bound of a message committed to slot `S` (R302, R306). -/
def State.commitTimes (s : State) (m : SvcMsg) (S : Nat) : SvcMsg :=
  let l := m.port.toNat
  let t := taiOfInt ((S : Int) + s.txExt16 l)
  let eb := s.ebAccord + s.eLane l + s.tol10
  let m1 := s.withBound m.bound eb m
  if m.kind = .sync then { m1 with time := wholeNs t, cf := (taiFrac t).setWidth 64 }
  else { m1 with time := t, txTs := BitVec.ofNat 64 (ntpOf t s.cfg.acd.utcOffsetS.toInt), disp := ntpShort eb }

/-- The Authenticator of an NTS response: a nonce from the DRBG, and cookies and bound sealed under the S2C key (R298). -/
def State.sealNts (s : State) (m : SvcMsg) : SvcMsg :=
  let n : BitVec 128 := s.drbg.setWidth 128
  { m with nonce := n, sealed := Aes.sivSeal (digBytes m.s2c) [m.ntsAd, beNat 16 n.toNat] (s.ntsPlain m) }

/-- The tag of a committed message: the ICV of a Sync, or the Authenticator of an NTS response (R291, R298). -/
def State.commitSign (s : State) (m : SvcMsg) : Option SvcMsg × State :=
  if m.kind = .sync then s.signMsg m.spp.toNat m
  else if s.ready pdCrypto then (some (s.sealNts m), s.drawn) else (none, s)

/-- A frame is given up (R305). -/
def State.commitGiveUp (s : State) (l : Nat) : State := (s.svcCount l 11).svcRaise 4 l

/-- A message is committed to the first free slot at or after now + COMMIT_LEAD_NS (R302): it is timed, signed, booked and
queued. Where no slot exists it is given up. -/
def State.commitMsg (s : State) (m : SvcMsg) (attempt : Nat) : State :=
  let l := m.port.toNat
  let w := s.wireLen m true
  match s.findSlot l w 4096 (s.now16 + s.cfg.svc.leadNs.toNat * 65536) with
  | none => s.commitGiveUp l
  | some S =>
    match s.commitSign (s.commitTimes m S) with
    | (none, s1) => s1
    | (some x, s1) =>
      let f := s1.svcFrame x true
      let g := { f.1 with commit := some S, attempt := attempt, signedEb := s.ebAccord }
      let s2 := f.2.enqueueTx l 7 g
      if (s2.tq (8 * l + 7)).frames.any fun y => y.id == g.id then
        s2.modTLane l fun t => { t with bookings := t.bookings ++ [⟨S, w, g.id⟩] }
      else s2

/-- An aborted or missed frame is committed again, or given up after COMMIT_RETRY further attempts (R305). -/
def State.recommit (s : State) (l : Nat) (f : TxFrame) : State :=
  match f.msg with
  | none => s
  | some m => if s.cfg.svc.retry.toNat ≤ f.attempt then s.commitGiveUp l else s.commitMsg m (f.attempt + 1)

/-- A booked slot is missed and its frame goes back to its engine (R269, R305). -/
def State.missSlot (s : State) (l : Nat) (b : Booking) : State :=
  let f := (s.tq (8 * l + 7)).frames.find? fun x => x.id == b.id
  let a := s.slotMissed l b
  match f with
  | some x => if s.svc.gateOpen then a.recommit l x else a
  | none => a

/-! ### The client table (R308 to R310) -/

/-- A client's bucket. -/
def State.bucketOf (s : State) (l kind : Nat) (a : BitVec 128) : Nat :=
  (Config.clientBucket s.svc.bootSeed (BitVec.ofNat 4 l) (BitVec.ofNat 3 kind) a).toNat

/-- The entry of a client. -/
def State.findClient (s : State) (l kind : Nat) (a : BitVec 128) : Option Client :=
  s.svc.clients.find? fun c => c.addr == a && c.lane.toNat == l && c.kind.toNat == kind

/-- The entries in rising table order with `c` put in. -/
def putClient (c : Client) : List Client → List Client
  | [] => [c]
  | x :: r => if x.idx = c.idx then c :: r else if c.idx < x.idx then c :: x :: r else x :: putClient c r

/-- An entry is written. -/
def State.setClient (s : State) (c : Client) : State := { s with svc := { s.svc with clients := putClient c s.svc.clients } }

/-- An entry is freed. -/
def State.freeClient (s : State) (idx : BitVec 20) : State :=
  { s with svc := { s.svc with clients := s.svc.clients.filter fun c => c.idx != idx } }

/-- The entry has been silent for CLIENT_AGE_S and holds no grant (R309). -/
def State.clientOld (s : State) (c : Client) : Bool :=
  !c.grant && decide (c.seenTick + s.cfg.svc.clientAgeS.toNat * sTicks ≤ s.ticks)

/-- Of two entries the one with the older LAST_SEEN, the first where they tie. -/
def olderClient (b : Option Client) (c : Client) : Option Client :=
  match b with
  | none => some c
  | some x => if c.lastSeen < x.lastSeen then some c else some x

/-- The place a new client takes: a free entry of its bucket, else the oldest where it is old enough (R309). -/
def State.clientPlace (s : State) (bucket : Nat) : Option (BitVec 20) :=
  let inB := s.svc.clients.filter fun c => c.idx.toNat / 8 == bucket
  match (List.range 8).find? fun w => inB.all fun c => c.idx.toNat != 8 * bucket + w with
  | some w => some (BitVec.ofNat 20 (8 * bucket + w))
  | none =>
    match inB.foldl olderClient none with
    | some c => if s.clientOld c then some c.idx else none
    | none => none

/-- The largest token count, in 1/16 request (R308, R310). -/
def State.burst16 (s : State) : Nat := min (s.cfg.svc.burst.toNat * 16) 65535

/-- Tokens have accrued up to now (R310). -/
def State.accrueClient (s : State) (c : Client) : Client :=
  let r := s.cfg.svc.ratePps.toNat * 16
  let g := (s.ticks - c.tokTick) * r / sTicks
  { c with tokens := BitVec.ofNat 16 (min (c.tokens.toNat + g) s.burst16), tokTick := c.tokTick + g * sTicks / r }

/-- A request of a client is noted in its entry; a new client's starts with a full bucket. None where the table has no
entry for it (R309). -/
def State.noteClient (s : State) (l kind : Nat) (r : SvcReq) (sppIdx : Nat) : Option Client × State :=
  let sec : BitVec 32 := (taiSec s.timeNow).setWidth 32
  let fresh : BitVec 20 → Client := fun i => { Client.reset with
    idx := i, addr := r.addr, lane := BitVec.ofNat 4 l, kind := BitVec.ofNat 3 kind, tokTick := s.ticks
    tokens := BitVec.ofNat 16 s.burst16 }
  let old := match s.findClient l kind r.addr with
    | some c => some (s.accrueClient c)
    | none => (s.clientPlace (s.bucketOf l kind r.addr)).map fresh
  match old with
  | none =>
    let a := { s with svc := { s.svc with fullTick := some s.ticks } }
    (none, (a.svcCount l 15).svcRaise 9 l)
  | some c =>
    let from_ : BitVec 16 := if 3 ≤ kind then r.portId.setWidth 16 else r.srcPort
    let c1 := { c with lastSeen := sec, seenTick := s.ticks, srcPort := from_, sppIdx := BitVec.ofNat 8 sppIdx }
    (some c1, s.setClient c1)

/-- A request takes one token, where one is left (R310). -/
def State.takeToken (s : State) (c : Client) : Bool × State :=
  if 16 ≤ c.tokens.toNat then (true, s.setClient { c with tokens := c.tokens - 16 })
  else
    let d := if c.drops = 0xFFFF then c.drops else c.drops + 1
    let l := c.lane.toNat
    (false, ((s.setClient { c with drops := d }).svcCount l 13).svcRaise 10 l)

/-- A client that may get an unsigned NAK or Kiss-o'-Death now: none in the last `n` seconds (R300). -/
def State.kodFree (s : State) (c : Client) (n : Nat) : Bool :=
  match c.kodTick with
  | none => true
  | some t => decide (t + n * sTicks ≤ s.ticks)

/-- GRANT_LEFT_S (R308). -/
def State.grantLeft (s : State) (c : Client) : Nat :=
  (c.grantEnd.map fun g => ceilDiv (g.2 - s.ticks) sTicks).foldl max 0

/-- The 8 words of an entry (R308). -/
def State.clientWords (s : State) (c : Client) : List W32 :=
  leWords 4 c.addr.toNat ++
    [word [(0, c.lane.toNat), (4, c.kind.toNat), (7, c.grant.toNat), (8, c.sppIdx.toNat),
      (16, (s.accrueClient c).tokens.toNat)], c.lastSeen,
      word [(0, c.srcPort.toNat), (16, c.grantSync.toNat), (24, c.grantTypes.toNat)],
      word [(0, s.grantLeft c), (16, c.drops.toNat)]]

/-! ### Grants (R287) -/

/-- Messages per second of a period, in 1/8 message. -/
def rate8 (p : BitVec 8) : Nat := if p.toInt ≤ 0 then 8 * 2 ^ (-p.toInt).toNat else 8 / 2 ^ p.toInt.toNat

/-- The lane's granted message rate without a client's own grant of a type, in 1/8 message per second. -/
def State.grantedRate (s : State) (l : Nat) (but : BitVec 20) (ty : Nat) : Nat :=
  ((s.svc.clients.filter fun c => c.lane.toNat == l).flatMap fun c =>
    (c.grantRates.filter fun g => !(c.idx == but && g.1 == ty)).map fun g => rate8 g.2).sum

/-- A grant of a type ends (R287). -/
def Client.ungrant (c : Client) (ty : Nat) : Client :=
  let e := c.grantEnd.filter fun g => g.1 != ty
  { c with
    grant := !e.isEmpty, grantEnd := e, grantRates := c.grantRates.filter fun g => g.1 != ty
    grantTypes := putBit c.grantTypes ty false, grantSync := if ty = 1 then 0 else c.grantSync }

/-- A grant of a type begins or is renewed (R287). -/
def Client.grantFor (c : Client) (ty stop : Nat) (period : BitVec 8) : Client :=
  let x := c.ungrant ty
  { x with
    grant := true, grantEnd := x.grantEnd ++ [(ty, stop)], grantRates := x.grantRates ++ [(ty, period)]
    grantTypes := putBit x.grantTypes ty true, grantSync := if ty = 1 then period else x.grantSync }

/-- The requested interval lies within R283. -/
def grantPeriodOk (ty : Nat) (p : BitVec 8) : Bool :=
  decide (p.toInt ≤ 0) && decide ((if ty = 0 then -3 else -7) ≤ p.toInt)

/-- The client of a port holds a grant of a type. -/
def State.holdsGrant (s : State) (k : Nat) (a : BitVec 128) (ty : Nat) : Bool :=
  s.svc.clients.any fun c => c.addr == a && c.lane.toNat == k && decide (3 ≤ c.kind.toNat) && has c.grantTypes ty

/-- KIND of a PTP client of a port (R308). -/
def State.ptpKind (s : State) (k : Nat) : Nat := 3 + (s.portCfg k).transport.toNat

end Sys2Proof.Machine
end

