-- ==== Sys2Proof/Machine/Svc.lean ====
section
/-! DEFINITION. The SVC commands (R312) and the SVC block's events. -/

namespace Sys2Proof.Machine

/-! ### Queries -/

/-- SVC_STATUS. -/
def State.svcStatus (s : State) : W32 :=
  let act := s.svc.cookies.toList.any fun c => c.state == 1
  let full := match s.svc.fullTick with
    | some t => decide (s.ticks < t + sTicks)
    | none => false
  word [(0, s.svc.gateOpen.toNat), (8, s.svc.clockClass.toNat), (16, s.svc.clockAcc.toNat), (24, act.toNat),
    (25, full.toNat)]

/-- Clients of a lane that hold grants. -/
def State.portGrants (s : State) (k : Nat) : Nat := (s.svc.clients.filter fun c => c.lane.toNat == k && c.grant).length

/-- SVC_PORT_k_CFG. -/
def PortCfg.cfgWord (c : PortCfg) : W32 :=
  word [(0, c.enable.toNat), (1, c.profile.toNat), (3, c.transport.toNat), (5, c.twoStep.toNat), (6, c.auth.toNat),
    (7, c.l2NonFwd.toNat), (8, c.domain.toNat), (16, c.spp.toNat), (20, c.slaveSpp.toNat)]

/-- The registers of a port's window but for its counters, by offset. -/
def State.portRegs (s : State) (k : Nat) : List (Nat × W32) :=
  let c := s.portCfg k
  [(0x00, c.cfgWord), (0x04, word [(0, c.logSync.toNat), (8, c.logAnnounce.toNat), (16, c.logMinDelay.toNat)])] ++
    at64 0x08 (c.mac.setWidth 64) ++ [(0x10, c.ip4)] ++ atWords 0x14 (leWords 4 c.ip6.toNat) ++
    [(0x30, word [(0, (s.portRuns k).toNat), (4, s.portGrants k)])]

/-- A port's window, +0x00 to +0x30. -/
def State.portWindow (s : State) (k : Nat) : List W32 := win 13 (s.portRegs k)

/-- An SVC query answers zeros while PD_ENGINE is off (R312). -/
def State.svcQuery (s : State) (ws : List W32) : List W32 := if s.ready pdEngine then ws else ws.map fun _ => 0

/-- SVC_QUERY_STATUS. -/
def specSvcQueryStatus : OpSpec where
  opcode := 0x0800
  states := stAll
  len := fun _ => some 1
  params := fun _ p => p.only [0xF]
  body := answer fun p s =>
    let k := fld (p.w 0) 0 4
    s.svcQuery (s.svcStatus :: s.portWindow k ++ (s.port k).cnt.toList.flatMap w64)

/-- The client an SVC_QUERY_CLIENT names. -/
def State.askedClient (s : State) (p : Packet) : Option Client :=
  if flag (p.w 0) 0 then
    s.findClient (fld (p.w 5) 0 4) (fld (p.w 5) 4 3) (p.w 4 ++ (p.w 3 ++ (p.w 2 ++ p.w 1)))
  else s.svc.clients.find? fun c => c.idx.toNat == (p.w 1).toNat

/-- SVC_QUERY_CLIENT. -/
def specSvcQueryClient : OpSpec where
  opcode := 0x0801
  states := stAll
  len := fun p => some (if flag (p.w 0) 0 then 6 else 2)
  params := fun _ p =>
    if flag (p.w 0) 0 then p.only [1, 0xFFFFFFFF, 0xFFFFFFFF, 0xFFFFFFFF, 0xFFFFFFFF, 0x7F] else p.only [1, 0xFFFFF]
  body := answer fun p s =>
    s.svcQuery (match s.askedClient p with
      | some c => s.clientWords c
      | none => List.replicate 8 0)

/-! ### Configuration -/

/-- While PD_ENGINE is off the state-changing SVC opcodes return STATE (R312). -/
def svcBody (f : Packet → State → Done) (p : Packet) (s : State) : Done :=
  if s.ready pdEngine then f p s else Done.err s .state

/-- A signed byte lies in a range. -/
def byteIn (b : BitVec 8) (lo hi : Int) : Bool := decide (lo ≤ b.toInt) && decide (b.toInt ≤ hi)

/-- The profile's column of R283. -/
def profileOk (profile transport : Nat) (dom sync ann dly : BitVec 8) : Bool :=
  match profile with
  | 0 => decide (transport ≤ 2) && decide (dom ≤ 127) && byteIn sync (-7) 1 && byteIn ann (-3) 3 && byteIn dly (-7) 6
  | 1 => transport == 0 && decide (24 ≤ dom) && decide (dom ≤ 43) && byteIn sync (-4) (-4) && byteIn ann (-3) (-3) &&
      byteIn dly (-4) (-4)
  | 2 => (transport == 1 || transport == 2) && decide (44 ≤ dom) && decide (dom ≤ 63) && byteIn sync (-7) 0 &&
      byteIn ann (-3) 0 && byteIn dly (-7) 0
  | _ => false

/-- SVC_SET_PTP_PORT. -/
def specSvcSetPtpPort : OpSpec where
  opcode := 0x0840
  states := stIRM
  len := fun _ => some 9
  params := fun s p =>
    let w := p.w 0
    let l := fld w 0 4
    let dom : BitVec 8 := w.extractLsb' 16 8
    let r := p.w 1
    p.only [0xFFFF03FF, 0xFFFFFF, 0xFFFFFFFF, 0xFFFF, 0xFFFFFFFF, 0xFFFFFFFF, 0xFFFFFFFF, 0xFFFFFFFF, 0xFFFFFFFF] &&
      profileOk (s.portCfg l).profile.toNat (fld w 5 2) dom (r.extractLsb' 0 8) (r.extractLsb' 8 8)
        (r.extractLsb' 16 8) && !(flag w 4 && s.slaveDomain l dom)
  csp := fun _ => true
  body := svcBody fun p s =>
    let w := p.w 0
    let l := fld w 0 4
    if !s.activePort l || (s.laneCfg l).laneMode != 2 then Done.err s .state
    else Done.ok (s.setPortCfg l fun c => { c with
      enable := flag w 4, transport := w.extractLsb' 5 2, twoStep := flag w 7, auth := flag w 8, l2NonFwd := flag w 9
      domain := w.extractLsb' 16 8, spp := w.extractLsb' 24 4, slaveSpp := w.extractLsb' 28 4
      logSync := (p.w 1).extractLsb' 0 8, logAnnounce := (p.w 1).extractLsb' 8 8
      logMinDelay := (p.w 1).extractLsb' 16 8, mac := (p.w 3 ++ p.w 2).setWidth 48, ip4 := p.w 4
      ip6 := p.w 8 ++ (p.w 7 ++ (p.w 6 ++ p.w 5)) })

/-- The default domain of a profile (R283). -/
def profileDomain (profile : BitVec 2) : BitVec 8 := if profile = 1 then 24 else if profile = 2 then 44 else 0

/-- The values CLASS_SECONDARY may take (R285). -/
def classSecOk (c : Nat) : Bool := [52, 58, 187, 193, 248].contains c

/-- A port's profile becomes another; DOMAIN takes that profile's default (R283). -/
def State.setProfile (s : State) (l : Nat) (pr : BitVec 2) : State :=
  s.setPortCfg l fun c => if c.profile = pr then c else { c with profile := pr, domain := profileDomain pr }

/-- SVC_SET_PROFILE. -/
def specSvcSetProfile : OpSpec where
  opcode := 0x0841
  states := stIRM
  len := fun _ => some 4
  params := fun _ p =>
    let w := p.w 0
    p.only [0x13F, 0xFFFFFFFF, 0xFFFFFFFF, 0xFFFFFFFF] && fld w 4 2 != 3 &&
      (if flag w 8 then classSecOk (fld (p.w 3) 16 8) else p.w 1 == 0 && p.w 2 == 0 && p.w 3 == 0)
  csp := fun _ => true
  body := svcBody fun p s =>
    let w := p.w 0
    let l := fld w 0 4
    let pr : BitVec 2 := w.extractLsb' 4 2
    if !s.activePort l || ((s.portCfg l).enable && pr != (s.portCfg l).profile) then Done.err s .state
    else
      let a := s.setProfile l pr
      let g : SvcCfg → SvcCfg := fun c => { c with
        clockId := some (p.w2 1), priority1 := (p.w 3).extractLsb' 0 8, priority2 := (p.w 3).extractLsb' 8 8
        classSec := (p.w 3).extractLsb' 16 8, timeSource := (p.w 3).extractLsb' 24 8 }
      Done.ok (if flag w 8 then (a.setSvcCfg g).svcEval else a)

/-- The slot an SVC_SET_AUTH names may serve its algorithm (R341). -/
def State.authSlotOk (s : State) (k alg : Nat) : Bool :=
  let x := Tab.get s.key.slots k KeySlot.reset
  decide (k < 64) && x.loaded && x.usage == 1 && x.alg.toNat == alg

/-- A position of an SPP is loaded: its counter resumes at the mark, and a working key clears KEY_LOST (R292, R295). -/
def State.loadPos (s : State) (i : Nat) (b : Bool) (id_ : BitVec 32) (slot : BitVec 8) (alg : BitVec 2) : State :=
  let mark : BitVec 31 := BitVec.ofNat 31 (Tab.get s.keep.gmacMark (2 * i + b.toNat) 0)
  let a := s.setSppCfg i fun c =>
    if b then { c with bId := id_, bSlot := slot, bAlg := alg } else { c with aId := id_, aSlot := slot, aAlg := alg }
  a.modSpp i fun x =>
    let y := { x with keyLost := false, oldUntil := if x.oldB = b then none else x.oldUntil }
    if b then { y with seqB := mark } else { y with seqA := mark }

/-- SVC_SET_AUTH. -/
def specSvcSetAuth : OpSpec where
  opcode := 0x0842
  states := stIRM
  len := fun _ => some 6
  params := fun s p =>
    let w := p.w 0
    let c := s.sppCfg (fld w 0 4)
    let other := (c.pos (!flag w 4)).1
    p.only [0x0303FF7F, 0xFFFFFFFF, 0xFFFFFFFF, 0xFFFFFFFF, 0xFFFFFFFF, 0xFFFF] &&
      (fld w 5 2 == 1 || fld w 5 2 == 2) && p.w 1 != 0 && p.w 1 != other && s.authSlotOk (fld w 8 8) (fld w 5 2) &&
      (flag w 24 || !flag w 25) && (if flag w 16 then taiOk (p.tai 2) else p.tai 2 == 0) && within (p.w 5) 0 3600
  csp := fun _ => true
  body := svcBody fun p s =>
    let w := p.w 0
    let i := fld w 0 4
    if !s.ready pdCrypto then Done.err s .state
    else if flag w 16 && decide (taiNat (p.tai 2) < s.now16 + 10 * us16) then Done.err s .late
    else
      let a := s.loadPos i (flag w 4) (p.w 1) (w.extractLsb' 8 8) (w.extractLsb' 5 2)
      let b := a.setSppCfg i fun c => { c with cfMask := flag w 17, acceptOldS := (p.w 5).setWidth 16 }
      let d := if flag w 24 then b.setSvcCfg fun c => { c with side := flag w 25 } else b
      Done.ok (if flag w 16 then d.modSpp i fun x => { x with rollPending := true, rollAt := p.tai 2 } else d)

/-- SVC_SET_NTP. -/
def specSvcSetNtp : OpSpec where
  opcode := 0x0843
  states := stIRM
  len := fun _ => some 3
  params := fun s p =>
    let w := p.w 0
    p.only [0xFFFFFFFF, 0xF03, 0xFFFFFFFF] && decide (2 ≤ fld (p.w 1) 8 4) &&
      (List.range 16).all fun l => (!flag w l && !flag w (16 + l)) || (s.laneCfg l).laneMode == 2
  csp := fun _ => true
  body := svcBody fun p s =>
    Done.ok (s.setSvcCfg fun c => { c with
      ntpLanes := (p.w 0).extractLsb' 0 16, ntsLanes := (p.w 0).extractLsb' 16 16, nakEn := flag (p.w 1) 0
      kodRate := flag (p.w 1) 1, stratumSec := (p.w 1).extractLsb' 8 4, refId := p.w 2 })

/-- The cookie-key entry of a KEYID. -/
def State.cookieOf (s : State) (id_ : BitVec 32) : Option Nat :=
  s.svc.cookies.toList.findIdx? fun c => c.state != 0 && c.keyId == id_

/-- SVC_LOAD_COOKIE_KEY. -/
def specSvcLoadCookieKey : OpSpec where
  opcode := 0x0844
  states := stRM
  len := fun _ => some 10
  params := fun s p => (p.w 1 &&& 0xFFFFFFFE) == 0 && p.w 0 != 0 && (s.cookieOf (p.w 0)).isNone
  body := svcBody fun p s =>
    if !s.ready pdCrypto then Done.err s .state
    else
      match s.svc.cookies.toList.findIdx? fun c => c.state == 0 with
      | none => Done.err s .noResource
      | some i =>
        let key : Dig := BitVec.ofNat 256 (natOfWords ((p.payload.drop 2).take 8))
        let act := flag (p.w 1) 0
        let demote : Nat → Cookie → Cookie := fun _ c => if act && c.state = 1 then { c with state := 2 } else c
        let new : Cookie := { keyId := p.w 0, state := if act then 1 else 2, fprint := print8 (digBytes key)
                              uses := 0, key := key }
        Done.ok { s with svc := { s.svc with cookies := Tab.set (Tab.mapIdx s.svc.cookies demote) i new } }
          [BitVec.ofNat 32 i]

/-- SVC_RETIRE_COOKIE_KEY. -/
def specSvcRetireCookieKey : OpSpec where
  opcode := 0x0845
  states := stRM
  len := fun _ => some 1
  params := fun s p => p.w 0 != 0 && (s.cookieOf (p.w 0)).isSome
  body := svcBody fun p s =>
    if !s.ready pdCrypto then Done.err s .state
    else
      match s.cookieOf (p.w 0) with
      | none => Done.err s .badParam
      | some i => Done.ok { s with svc := { s.svc with cookies := Tab.set s.svc.cookies i Cookie.reset } }

/-- SVC_SET_GATE. -/
def specSvcSetGate : OpSpec where
  opcode := 0x0846
  states := stIRM
  len := fun _ => some 3
  params := fun _ p =>
    let w := p.w 1
    p.only [0x3FFFF, 0x771FFF, 0xFFFFF] && within (p.w 0) 1 167772 && decide (10 ≤ fld w 0 13) &&
      decide (fld w 0 13 ≤ 5000) && fld w 20 3 != 7 && within (p.w 2) 2000 1000000
  csp := fun _ => true
  body := svcBody fun p s =>
    let w := p.w 1
    Done.ok (s.setSvcCfg fun c => { c with
      ebMaxNs := (p.w 0).setWidth 18, tolPs := w.extractLsb' 0 13, retry := w.extractLsb' 16 3
      svcClass := w.extractLsb' 20 3, leadNs := (p.w 2).setWidth 20 }).svcClassesSet

/-- SVC_SET_RATE_LIMIT. -/
def specSvcSetRateLimit : OpSpec where
  opcode := 0x0847
  states := stIRM
  len := fun _ => some 3
  params := fun _ p => fld (p.w 0) 0 16 != 0 && fld (p.w 0) 16 16 != 0 && within (p.w 1) 60 86400
  csp := fun _ => true
  body := svcBody fun p s =>
    let old := s.svc.clients.map s.accrueClient
    let a := s.setSvcCfg fun c => { c with
      ratePps := (p.w 0).extractLsb' 0 16, burst := (p.w 0).extractLsb' 16 16, clientAgeS := (p.w 1).setWidth 17
      grantMax := p.w 2 }
    let cap : Client → Client := fun c => { c with tokens := BitVec.ofNat 16 (min c.tokens.toNat a.burst16) }
    Done.ok { a with svc := { a.svc with clients := old.map cap } }

/-- SVC_CLIENT_FLUSH. -/
def specSvcClientFlush : OpSpec where
  opcode := 0x0848
  states := stRM
  len := fun _ => some 1
  params := fun _ p => p.only [0x3FFFFF]
  body := svcBody fun p s =>
    let gone : Client → Bool := fun c => flag (p.w 0) c.lane.toNat && flag (p.w 0) (16 + c.kind.toNat)
    let n := (s.svc.clients.filter gone).length
    Done.ok { s with svc := { s.svc with clients := s.svc.clients.filter fun c => !gone c } } [BitVec.ofNat 32 n]

/-- SVC_SET_BOUND_TLV. -/
def specSvcSetBoundTlv : OpSpec where
  opcode := 0x0849
  states := stIRM
  len := fun _ => some 2
  params := fun _ p =>
    p.only [0xFFFFFF03, 0xFFFF] && (!flag (p.w 0) 0 || fld (p.w 0) 8 24 != 0) && (!flag (p.w 0) 1 || p.w 1 != 0)
  csp := fun _ => true
  body := svcBody fun p s =>
    Done.ok (s.setSvcCfg fun c => { c with
      boundPtp := flag (p.w 0) 0, boundNtp := flag (p.w 0) 1, orgId := (p.w 0).extractLsb' 8 24
      efType := (p.w 1).setWidth 16 })

/-! ### Requests (R284, R287, R293, R296 to R300) -/

/-- A request is discarded as none the block acts on (R281, R282). -/
def State.otherDiscard (s : State) (l : Nat) : State := s.svcCount l 17

/-- Requests a lane's engine answers each second (R311). -/
def State.engineRate (s : State) (l : Nat) : Nat :=
  if s.quadMode (l / 4) = 0 then 1200000 else if s.quadMode (l / 4) = 2 then 12000000 else 3000000

/-- A request joins the lane's queue for its engine, which answers at the rate of R311; one that finds 4,096 waiting is dropped
(DESIGN CHOICE, log entry 48). -/
def State.engineTake (s : State) (l : Nat) : State × Bool :=
  let p := s.port l
  let left := p.load - (s.ticks - p.loadTick) * s.engineRate l
  if 4095 * sTicks < left then ((s.svcCount l 14).svcRaise 11 l, false)
  else (s.modPort l fun x => { x with load := left + sTicks, loadTick := s.ticks }, true)

/-- A request is received: counted as a frame, met by the admission policer (R274), and queued for the engine (R311). -/
def State.intake (s : State) (l : Nat) (r : SvcReq) : State × Bool :=
  let a := ((s.ethCount l 0).ethCount l 1 r.len).admitClient l r.len
  if a.2 then a.1.engineTake l else a

/-- The active position of SPP `i` can sign (R292, R295). -/
def State.canSign (s : State) (i : Nat) : Bool :=
  let c := s.sppCfg i
  (s.posKey i c.activeB).isSome && !(s.spp i).keyLost && !((c.pos c.activeB).2.2 == 2 && (s.spp i).exhausted && s.gmacSpent i c.activeB)

/-- The ICV of a request verifies under the position of its SPP that holds its keyID (R291, R293). -/
def State.icvVerifies (s : State) (r : SvcReq) : Bool :=
  let i := r.spp.toNat
  match s.posOf i r.keyId with
  | none => false
  | some b =>
    match s.posKey i b with
    | none => false
    | some k => r.icvOk ((s.sppCfg i).pos b).2.2 (digBytes k.key) (s.sppCfg i).cfMask

/-- A request on a port with AUTH verifies, and its answer can be signed (R293, R295). -/
def State.reqAuthOk (s : State) (k : Nat) (r : SvcReq) : Bool :=
  !(s.portCfg k).auth ||
    (r.auth && decide (r.spp.toNat < 16) && s.icvVerifies r && s.canSign r.spp.toNat)

/-- A request that does not verify is dropped (R293). -/
def State.authFail (s : State) (l : Nat) : State := (s.svcCount l 6).svcRaise 5 l

/-- A PTP request reaches the engine: its port runs, it is admitted, its domain is the port's and it verifies. The
answer says whether it does. -/
def State.ptpIntake (s : State) (l : Nat) (r : SvcReq) : State × Bool :=
  if !(s.portCfg l).enable then (((s.ethCount l 0).ethCount l 1 r.len).otherDiscard l, false)
  else
    let a := s.intake l r
    if !a.2 then a
    else if r.domain != (s.portCfg l).domain then (a.1.otherDiscard l, false)
    else if !a.1.reqAuthOk l r then (a.1.authFail l, false)
    else a

/-- A message of a port to a client, with the port's bound (R307). -/
def State.portMsg (s : State) (l : Nat) (kind : SvcKind) (dst : BitVec 128) (seq : BitVec 16) (eb : Nat) : SvcMsg :=
  let m : SvcMsg := { SvcMsg.reset with kind := kind, port := BitVec.ofNat 4 l, dst := dst, seq := seq }
  s.withBound s.cfg.svc.boundPtp eb m

/-- A Delay_Resp (R284). -/
def State.delayResp (s : State) (l : Nat) (t : Stamp) (r : SvcReq) : SvcMsg :=
  { s.portMsg l .delayResp r.addr r.seq t.eb.toNat with
    reqPort := r.portId, time := wholeNs t.time, cf := r.cf - (taiFrac t.time).setWidth 64 }

/-- A Delay_Req is verified and answered (R284, R287, R309, R310). -/
def execPtpDelayReq (dt : Nat) (lane : BitVec 4) (phase : Nat) (r : SvcReq) (s : State) : Res :=
  let s := s.advance dt
  let l := lane.toNat
  if !s.svcHears l then .next s
  else
    let t := s.rxStamp l phase
    let a := s.ptpIntake l r
    if !a.2 then .next a.1
    else if r.ptpType != 1 || ((s.portCfg l).profile = 2 && !a.1.holdsGrant l r.addr 2) then .next (a.1.otherDiscard l)
    else
      match a.1.noteClient l (s.ptpKind l) r r.spp.toNat with
      | (none, b) => .next b
      | (some c, b) =>
        let k := if c.grant then (true, b) else b.takeToken c
        if !k.1 then .next k.2 else .next (k.2.sendAuth (s.portCfg l).auth r.spp.toNat (k.2.delayResp l t r))

/-- The answer to a unicast request: `dur` seconds granted, 0 for a refusal (R287). -/
def grantMsg (l : Nat) (r : SvcReq) (g : UniReq) (dur : Nat) : SvcMsg :=
  { SvcMsg.reset with
    kind := .grant, port := BitVec.ofNat 4 l, dst := r.addr, reqPort := r.portId, seq := r.seq, gType := BitVec.ofNat 4 g.ty
    gPeriod := g.period, gDur := BitVec.ofNat 16 dur }

/-- A unicast request is refused (R287). -/
def State.grantDeny (s : State) (l : Nat) (r : SvcReq) (g : UniReq) : State :=
  ((s.svcCount l 16).svcRaise 12 l).sendAuth (s.portCfg l).auth r.spp.toNat (grantMsg l r g 0)

/-- The lane's granted rate with this grant stays within GRANT_RATE_MAX (R287). -/
def State.grantRateOk (s : State) (l : Nat) (c : Client) (g : UniReq) : Bool :=
  decide (s.grantedRate l c.idx g.ty + rate8 g.period ≤ 8 * s.cfg.svc.grantMax.toNat)

/-- One request of a client is granted or refused (R287). -/
def State.grantOne (s : State) (l : Nat) (r : SvcReq) (c : Client) (g : UniReq) : State :=
  if 2 < g.ty then s.otherDiscard l
  else if !grantPeriodOk g.ty g.period || !s.grantRateOk l c g then s.grantDeny l r g
  else
    let dur := max 60 (min 1000 g.dur)
    let c1 := (s.svc.clients.find? fun x => x.idx == c.idx).getD c
    let d := s.setClient (c1.grantFor g.ty (s.ticks + dur * sTicks) g.period)
    d.sendAuth (s.portCfg l).auth r.spp.toNat (grantMsg l r g dur)

/-- A REQUEST_UNICAST_TRANSMISSION is answered (R287). -/
def execPtpUnicastRequest (dt : Nat) (lane : BitVec 4) (r : SvcReq) (s : State) : Res :=
  let s := s.advance dt
  let l := lane.toNat
  if !s.svcHears l then .next s
  else
    let a := s.ptpIntake l r
    if !a.2 then .next a.1
    else if (s.portCfg l).profile != 2 || r.ptpType != 12 || r.requests.isEmpty then .next (a.1.otherDiscard l)
    else
      match a.1.noteClient l (s.ptpKind l) r r.spp.toNat with
      | (none, b) => .next (r.requests.foldl (fun s g => s.grantDeny l r g) b)
      | (some c, b) =>
        let k := if c.grant then (true, b) else b.takeToken c
        .next (if k.1 then r.requests.foldl (fun s g => s.grantOne l r c g) k.2 else k.2)

/-- One grant of a client ends and its end is acknowledged (R287). -/
def State.cancelOne (s : State) (l : Nat) (r : SvcReq) (ty : Nat) : State :=
  if 2 < ty then s.otherDiscard l
  else
    let b := match s.findClient l (s.ptpKind l) r.addr with
      | some c => s.setClient (c.ungrant ty)
      | none => s
    b.sendAuth (s.portCfg l).auth r.spp.toNat { grantMsg l r ⟨ty, 0, 0⟩ 0 with kind := SvcKind.cancelAck }

/-- A CANCEL_UNICAST_TRANSMISSION ends a grant and is acknowledged (R287). -/
def execPtpUnicastCancel (dt : Nat) (lane : BitVec 4) (r : SvcReq) (s : State) : Res :=
  let s := s.advance dt
  let l := lane.toNat
  if !s.svcHears l then .next s
  else
    let a := s.ptpIntake l r
    if !a.2 then .next a.1
    else if (s.portCfg l).profile != 2 || r.ptpType != 12 || r.cancels.isEmpty then .next (a.1.otherDiscard l)
    else .next (r.cancels.foldl (fun s ty => s.cancelOne l r ty) a.1)

/-- The Reference ID (R296). -/
def State.ntpRefId (s : State) : BitVec 32 :=
  match s.selectedSlot with
  | some n => if n = 12 then 0x47505300 else if 13 ≤ n && n ≤ 16 then 0x50545000 else s.cfg.svc.refId
  | none => s.cfg.svc.refId

/-- The accord's time at the selected slot's last update, as an NTP timestamp (R296). -/
def State.ntpRefTime (s : State) : BitVec 64 :=
  match s.selectedSlot.map fun n => s.slot n with
  | some q => if q.lastUpd.isSome then BitVec.ofNat 64 (ntpOf q.lastTime s.cfg.acd.utcOffsetS.toInt) else 0
  | none => 0

/-- An NTP response's header and its bound (R296, R307). -/
def State.ntpMsg (s : State) (l : Nat) (t : Stamp) (r : SvcReq) (kind : SvcKind) : SvcMsg :=
  let eb := max t.eb.toNat (s.ebAccord + s.eLane l)
  let good := s.svc.clockClass = 6 || s.svc.clockClass = 7
  let m : SvcMsg := { SvcMsg.reset with
    kind := kind, port := BitVec.ofNat 4 l, dst := r.addr
    li := if s.cfg.acd.utcValid then BitVec.ofNat 2 s.leapDue else 3
    vn := r.vn, poll := r.poll, stratum := if good then 1 else s.cfg.svc.stratumSec
    precision := 0xE2, disp := ntpShort eb, refId := s.ntpRefId
    refTs := s.ntpRefTime, orgTs := r.txTs
    rxTs := BitVec.ofNat 64 (ntpOf t.time s.cfg.acd.utcOffsetS.toInt), gateTime := true, uid := r.uid }
  s.withBound s.cfg.svc.boundNtp eb m

/-- A Kiss-o'-Death or NAK: stratum 0 and a code (R300). -/
def kissMsg (l : Nat) (r : SvcReq) (kind : SvcKind) (code : BitVec 32) : SvcMsg :=
  { SvcMsg.reset with
    kind := kind, port := BitVec.ofNat 4 l, dst := r.addr, vn := r.vn, poll := r.poll, refId := code, orgTs := r.txTs
    uid := r.uid }

/-- A client over its rate limit gets a Kiss-o'-Death where KOD_RATE allows one (R300). -/
def State.kodRate (s : State) (l : Nat) (r : SvcReq) : State :=
  match s.findClient l 1 r.addr with
  | some c =>
    if s.cfg.svc.kodRate && s.kodFree c 16 then
      (s.setClient { c with kodTick := some s.ticks }).sendSvc (kissMsg l r .kod 0x52415445)
    else s
  | none => s

/-- The request is one of NTP's that the block answers (R282). -/
def ntpOk (r : SvcReq) : Bool := r.mode == 3 && (r.vn == 3 || r.vn == 4) && decide (48 ≤ r.msg.length)

/-- A plain NTP request is rate-limited and answered (R296, R300, R309, R310). -/
def execNtpRequest (dt : Nat) (lane : BitVec 4) (phase : Nat) (r : SvcReq) (s : State) : Res :=
  let s := s.advance dt
  let l := lane.toNat
  if !(s.svcHears l && has s.cfg.svc.ntpLanes l) then .next s
  else
    let t := s.rxStamp l phase
    let a := s.intake l r
    if !a.2 then .next a.1
    else if !ntpOk r || !r.ntpWhole then .next (a.1.otherDiscard l)
    else
      match a.1.noteClient l 1 r 0 with
      | (none, b) => .next (b.sendSvc (b.ntpMsg l t r .ntp) 2)
      | (some c, b) =>
        let k := b.takeToken c
        .next (if k.1 then k.2.sendSvc (k.2.ntpMsg l t r .ntp) 2 else k.2.kodRate l r)

/-- An NTS NAK, at most once a second for a client (R300). -/
def State.ntsNak (s : State) (l : Nat) (r : SvcReq) : State :=
  let free := match s.findClient l 2 r.addr with
    | some c => s.kodFree c 1
    | none => true
  if !s.cfg.svc.nakEn || !free then s
  else
    let a := match s.findClient l 2 r.addr with
      | some c => s.setClient { c with kodTick := some s.ticks }
      | none => s
    ((a.svcCount l 8).svcRaise 8 l).sendSvc (kissMsg l r .nak 0x4E54534E)

/-- The entry new cookies are minted under: the ACTIVE one, else the one that opened the request (R298). -/
def State.mintEntry (s : State) (opened : Nat) : Cookie :=
  match s.svc.cookies.toList.find? fun c => c.state == 1 with
  | some c => c
  | none => Tab.get s.svc.cookies opened Cookie.reset

/-- `n` new cookies for a client's keys, each with a nonce of its own (R298, R299). -/
def State.mintJar (s : State) (e : Cookie) (c2s s2c : Dig) : Nat → List (List Byte) × State
  | 0 => ([], s)
  | n + 1 =>
    let r := s.mintJar e c2s s2c n
    let x := mintCookie e.key e.keyId (beNat 16 (r.2.drbg.setWidth 128 : BitVec 128).toNat) c2s s2c
    (r.1 ++ [x], r.2.drawn)

/-- A verified NTS request is answered by committed departure (R298, R301); its cookie opened under entry `i` to the two keys. -/
def State.ntsAnswer (s : State) (l : Nat) (t : Stamp) (r : SvcReq) (q : NtsReq) (i : Nat) (c2s s2c : Dig) : State :=
  let e := s.mintEntry i
  let j := s.mintJar e c2s s2c (1 + q.placeholders)
  j.2.commitMsg { s.ntpMsg l t r .nts with
    auth := true, cookies := BitVec.ofNat 4 (1 + q.placeholders), cookieKey := e.keyId, jar := j.1, s2c := s2c } 0

/-- The cookie-key entry that a request's cookie names and the keys it opens to (R297, R299). -/
def State.ntsKeys (s : State) (q : NtsReq) : Option (Nat × Dig × Dig) :=
  match s.cookieOf (cookieKeyId q.cookie) with
  | none => none
  | some i => (openCookie (Tab.get s.svc.cookies i Cookie.reset).key q.cookie).map fun k => (i, k)

/-- The cookie and the authenticator of an NTS request are checked (R297). -/
def State.ntsCheck (s : State) (l : Nat) (t : Stamp) (r : SvcReq) (q : NtsReq) : State :=
  match s.ntsKeys q with
  | none => s.ntsNak l r
  | some (i, c2s, s2c) =>
    let a := { s with svc := { s.svc with cookies := Tab.mod s.svc.cookies i fun c => { c with uses := c.uses + 1 } } }
    if q.verifies c2s then a.ntsAnswer l t r q i c2s s2c else a.ntsNak l r

/-- An NTS request is checked and answered by committed departure or a NAK (R297, R298, R300). -/
def execNtsRequest (dt : Nat) (lane : BitVec 4) (phase : Nat) (r : SvcReq) (s : State) : Res :=
  let s := s.advance dt
  let l := lane.toNat
  if !(s.svcHears l && has s.cfg.svc.ntsLanes l) then .next s
  else
    let t := s.rxStamp l phase
    let a := s.intake l r
    if !a.2 then .next a.1
    else if !ntpOk r then .next (a.1.otherDiscard l)
    else
      match r.nts with
      | none => .next (a.1.svcCount l 7)
      | some q =>
        if !s.ready pdCrypto then .next (a.1.svcCount l 6)
        else
          match a.1.noteClient l 2 r ((a.1.cookieOf (cookieKeyId q.cookie)).getD 0xFF) with
          | (none, b) => .next (b.ntsCheck l t r q)
          | (some c, b) =>
            let k := b.takeToken c
            .next (if k.1 then k.2.ntsCheck l t r q else k.2)

/-! ### Unsolicited messages (R284 to R286) -/

/-- The port may send to a destination: multicast, or on a G.8275.2 port a client that holds a grant of the type. -/
def State.mayServe (s : State) (k : Nat) (dst : BitVec 128) (ty : Nat) : Bool :=
  s.portRuns k && (if (s.portCfg k).profile = 2 then s.holdsGrant k dst ty else dst == 0) &&
    (!(s.portCfg k).auth || s.canSign (s.portCfg k).spp.toNat)

/-- A Sync of a port, before its time is known (R284). -/
def State.syncMsg (s : State) (k : Nat) (dst : BitVec 128) : SvcMsg :=
  let c := s.portCfg k
  let m := s.portMsg k .sync dst (s.port k).syncSeq (s.ebAccord + s.eLane k)
  let x := s.sppCfg c.spp.toNat
  if c.twoStep then { m with twoStep := true, time := s.buildTime }
  else if c.auth then { m with
    gateTime := true, auth := true, spp := c.spp, alg := BitVec.ofNat 2 (x.pos x.activeB).2.2 }
  else { m with gateTime := true }

/-- A Sync interval arrives: a Sync is built, one-step, two-step or committed (R284, R301). -/
def execPtpSyncInterval (dt : Nat) (lane : BitVec 4) (dst : BitVec 128) (s : State) : Res :=
  let s := s.advance dt
  let k := lane.toNat
  let c := s.portCfg k
  if !(s.mayServe k dst 1 && s.svc.gateOpen) then .next s
  else
    let m := s.syncMsg k dst
    let a := s.modPort k fun x => { x with syncSeq := x.syncSeq + 1 }
    if c.twoStep then .next (a.sendAuth c.auth c.spp.toNat m)
    else if c.auth then .next (a.commitMsg m 0)
    else .next (a.sendSvc m 1)

/-- The Follow_Up of a two-step Sync that has left, where the port may send it: the gate is open as it is built (R284, R288). -/
def State.followUp (s : State) (k : Nat) (x : SyncSent) : State :=
  let c := s.portCfg k
  if s.mayServe k x.dst 1 && s.svc.gateOpen then
    s.sendAuth c.auth c.spp.toNat { s.portMsg k .followUp x.dst x.seq x.eb.toNat with
      time := wholeNs x.time, cf := (taiFrac x.time).setWidth 64 }
  else s

/-- A two-step Sync's transmit stamp is known: its Follow_Up is sent (R284). -/
def execPtpFollowUp (dt : Nat) (lane : BitVec 4) (s : State) : Res :=
  let s := s.advance dt
  let k := lane.toNat
  match (s.port k).sent with
  | [] => .next s
  | x :: r => .next ((s.modPort k fun p => { p with sent := r }).followUp k x)

/-- An Announce of a port (R284 to R286). -/
def State.announceMsg (s : State) (k : Nat) (dst : BitVec 128) : SvcMsg :=
  { SvcMsg.reset with
    kind := .announce, port := BitVec.ofNat 4 k, dst := dst, seq := (s.port k).annSeq
    time := if s.svc.gateOpen then s.buildTime else 0
    annClass := s.svc.clockClass, annAcc := s.portAccuracy k
    annVar := if s.svc.clockClass = 248 then 0xFFFF else 0x4E5D
    prio1 := if (s.portCfg k).profile = 0 then s.cfg.svc.priority1 else 128
    prio2 := s.cfg.svc.priority2, utcOff := s.cfg.acd.utcOffsetS, source := s.timeSourceNow, aflags := s.annFlags }

/-- An Announce interval arrives: an Announce is built in every state but SAFE (R285, R288). -/
def execPtpAnnounceInterval (dt : Nat) (lane : BitVec 4) (dst : BitVec 128) (s : State) : Res :=
  let s := s.advance dt
  let k := lane.toNat
  let c := s.portCfg k
  if !(s.mayServe k dst 0) || s.flt.safe || s.acd.state == .safe then .next s
  else
    let m := s.announceMsg k dst
    let a := { s with svc := { s.svc with clockAcc := m.annAcc } }.modPort k fun x => { x with annSeq := x.annSeq + 1 }
    .next (a.sendAuth c.auth c.spp.toNat m)

/-! ### Expiries -/

/-- A unicast grant lapses at its end (R287). -/
def execGrantExpiry (dt : Nat) (idx : BitVec 20) (gType : BitVec 4) (s : State) : Res :=
  let s := s.advance dt
  match s.svc.clients.find? fun c => c.idx == idx with
  | none => .next s
  | some c =>
    let due := c.grantEnd.any fun g => g.1 == gType.toNat && decide (g.2 ≤ s.ticks)
    .next (if due then s.setClient (c.ungrant gType.toNat) else s)

/-- ACTIVE_POS of an SPP flips (R294); the old position stays valid for ACCEPT_OLD_S. -/
def State.keyRoll (s : State) (i : Nat) : State :=
  let c := s.sppCfg i
  let a := s.setSppCfg i fun x => { x with activeB := !x.activeB }
  let b := (a.keepOwn id).modSpp i fun x => { x with
    rollPending := false, oldUntil := some (s.ticks + c.acceptOldS.toNat * sTicks), oldB := c.activeB }
  (if s.keep.ro then b else b.commitCsp).raise (src 9 6) i (!c.activeB).toNat

/-- Every roll whose ROLL_AT the accord has reached flips (R294). -/
def State.rollsDue (s : State) : State :=
  (List.range 16).foldl (fun s i =>
    if (s.spp i).rollPending && decide (taiNat (s.spp i).rollAt ≤ s.now16) && s.ready pdEngine then s.keyRoll i else s) s

/-- ROLL_AT is reached (R294). -/
def execKeyRoll (dt : Nat) (spp : BitVec 4) (s : State) : Res :=
  let s := s.advance dt
  let x := s.spp spp.toNat
  .next (if x.rollPending && decide (taiNat x.rollAt ≤ s.now16) && s.ready pdEngine then s.keyRoll spp.toNat else s)

/-- The old position of an SPP is emptied (R294). -/
def State.dropOld (s : State) (i : Nat) : State :=
  let b := (s.spp i).oldB
  let a := s.setSppCfg i fun c =>
    if b then { c with bId := 0, bSlot := 0, bAlg := 0 } else { c with aId := 0, aSlot := 0, aAlg := 0 }
  let d := (a.keepOwn id).modSpp i fun x => { x with oldUntil := none }
  if s.keep.ro then d else d.commitCsp

/-- The old position's acceptance period ends (R294). -/
def execAcceptOldExpiry (dt : Nat) (spp : BitVec 4) (s : State) : Res :=
  let s := s.advance dt
  match (s.spp spp.toNat).oldUntil with
  | some t => .next (if t ≤ s.ticks then s.dropOld spp.toNat else s)
  | none => .next s

/-- An entry silent for CLIENT_AGE_S that holds no grant is freed (R309). -/
def execClientAgeExpiry (dt : Nat) (idx : BitVec 20) (s : State) : Res :=
  let s := s.advance dt
  match s.svc.clients.find? fun c => c.idx == idx with
  | none => .next s
  | some c => .next (if s.clientOld c then s.freeClient idx else s)

/-! ### Commit slots (R269, R304, R305) -/

/-- The frame of a booking is in its queue, with none ahead of it but frames of earlier slots. -/
def State.atHead (s : State) (l : Nat) (b : Booking) : Bool :=
  let fs := (s.tq (8 * l + 7)).frames
  (fs.any fun f => f.id == b.id) &&
    (fs.takeWhile fun f => f.id != b.id).all fun f =>
      (s.tlane l).bookings.any fun x => x.id == f.id && decide (x.slot < b.slot)

/-- A booking's frame is not at the head of its queue by slot − 2,000 ns, or the accord is past the slot before the frame
is released (R269). -/
def State.slotLate (s : State) (l : Nat) (b : Booking) : Bool :=
  decide (b.slot ≤ s.now16 + 2000 * 65536) && (!s.atHead l b || decide (b.slot < s.now16)) && (s.tlane l).wireFrame.map (·.id) != some b.id

/-- Booked slots of a lane are checked: each one that is late is missed (R269). -/
def execCommitSlotCheck (dt : Nat) (lane : BitVec 4) (s : State) : Res :=
  let s := s.advance dt
  let l := lane.toNat
  let late := (s.tlane l).bookings.filter (s.slotLate l)
  .next (if s.laneReady l then late.foldl (fun s b => s.missSlot l b) s else s)

/-- The departure record (R304, R306). -/
def State.lastCommit (s : State) (l : Nat) (f : TxFrame) (S : Nat) (res : Int) (aborted : Bool) : State :=
  let eb := s.ebAccord + s.eLane l + ceilDiv res.natAbs 10
  { s with svc := { s.svc with
    lcValid := true, lcAborted := aborted, lcLane := BitVec.ofNat 4 l, lcRetry := BitVec.ofNat 3 f.attempt
    lcSeq := s.svc.lcSeq + 1, lcAt := taiOf S, lcResPs := BitVec.ofInt 32 res, lcEb := ebSat eb
    lcFlags := s.flagsFor eb } }

/-- A committed frame is aborted on the wire (R289, R304, R305). -/
def State.commitAbort (s : State) (l : Nat) (f : TxFrame) : State :=
  let a := (((s.modTLane l fun t => { t with wireFrame := none }).ethCount l 13).svcCount l 10).svcRaise 3 l
  if s.svc.gateOpen then a.recommit l f else a.svcRaise 13 l

/-- A committed frame's residual is measured and the frame sent or aborted (R304). -/
def State.commitDecide (s : State) (l : Nat) (f : TxFrame) (S : Nat) (res : Int) : State :=
  let ok := decide (res.natAbs ≤ s.cfg.svc.tolPs.toNat) && decide (s.ebAccord ≤ f.signedEb) && s.svc.gateOpen
  let a := s.lastCommit l f S res (!ok)
  let b := a.modTLane l fun t => { t with bookings := t.bookings.filter fun x => x.id != f.id }
  if ok then (b.svcCount l 9).txDone l f else b.commitAbort l f

/-- A committed frame crosses the ball, `residualPs` after its slot (R304). -/
def execCommitDecision (dt : Nat) (lane : BitVec 4) (residualPs : Int) (s : State) : Res :=
  let s := s.advance dt
  let l := lane.toNat
  match (s.tlane l).wireFrame with
  | none => .next s
  | some f =>
    match f.commit with
    | none => .next s
    | some S => .next (if s.laneLive l then s.commitDecide l f S residualPs else s)

end Sys2Proof.Machine
end

