-- ==== Sys2Proof/Machine/Key.lean ====
section
/-! DEFINITION. The KEY commands (R355), the derivations they end in, and the KEY block's events. -/

namespace Sys2Proof.Machine

/-! ### Roots in use (R330, R332, R336) -/

/-- A key slot. -/
def State.kslot (s : State) (k : Nat) : KeySlot := Tab.get s.key.slots k KeySlot.reset

/-- The test KEK: epoch 0 under KT (R332). -/
def testKek (kt : Dig) : Dig := kekOf kt 0 0

/-- The epoch registers follow the keep's epoch slots (R347). -/
def State.epochRegs (s : State) : State :=
  { s with key := { s.key with
    epoch := (s.keep.curEpoch.map (·.epoch)).getD 0
    epochPrev := (s.keep.prevEpoch.map (·.epoch)).getD 0
    prevValid := s.keep.prevEpoch.isSome } }

/-- UDS and AK are derived (R332). -/
def State.deriveUds (s : State) : State :=
  let u := s.fuse.udsOf
  let ak := s.fuse.akOf u
  { s with key := { s.key with udsOk := true, uds := u, ak := ak, akPub := Config.ecdsaPub ak } }

/-- The production roots are derived: KR, the KEKs and the LSK of the current epoch (R330). -/
def State.deriveProduction (s : State) : State :=
  let a := s.epochRegs
  let kr := krOf a.key.uds a.vbat.sealKey a.keep.sealGen
  match a.keep.curEpoch with
  | none => { a with key := { a.key with unsealed := true, kr := kr } }
  | some e =>
    let prev : Dig := match a.keep.prevEpoch with
      | some q => kekOf kr q.epoch q.salt
      | none => 0
    let lsk := lskOf kr e.epoch e.salt
    { a with key := { a.key with
      unsealed := true, kr := kr, kek := kekOf kr e.epoch e.salt, kekPrev := prev, lsk := lsk
      lskPub := Config.ecdsaPub lsk } }

/-- The test roots are derived: KT, KEK_0 and LSK_0; KR is out of reach (R336, R337). -/
def State.deriveTest (s : State) : State :=
  let kt := s.fuse.ktOf s.key.uds
  let lsk := lskOf kt 0 0
  { s with key := { s.key with
    unsealed := false, kr := 0, kt := kt, kek := testKek kt, kekPrev := 0, lsk := lsk
    lskPub := Config.ecdsaPub lsk } }

/-- The LSK in hand, a new one, is installed in the LOG engine (R319). -/
def State.installKeyed (s : State) : State :=
  s.installLsk s.key.lskPub (if s.testKeys then 0 else s.key.epoch)

/-- A boot installs the LSK it derives, which is no new one (R318, R330): no LSK entry is written (DEDUCED, log entry
32). -/
def State.reinstallLsk (s : State) : State := s.useLsk (if s.testKeys then 0 else s.key.epoch)

/-- The epoch that wraps and loads use now (R343, R345): 0 with the test keys. -/
def State.useEpoch (s : State) : BitVec 16 := if s.testKeys then 0 else s.key.epoch

/-! ### Queries -/

/-- KEY_STATUS. -/
def State.keyStatus (s : State) : W32 :=
  let k := s.key
  word [(0, k.unsealed.toNat), (1, s.sys.tamperHold.toNat), (2, (s.sys.debug).toNat), (3, k.busyOp.isSome.toNat),
    (4, k.pfwBlock.toNat), (5, k.prevValid.toNat), (8, (k.slots.toList.filter (·.loaded)).length)]

/-- KEY_EPOCH. -/
def State.keyEpochWord (s : State) : W32 := s.key.epochPrev ++ s.key.epoch

/-- KEY_SEAL. -/
def State.keySealWord (s : State) : W32 := word [(0, s.keep.sealGen.toNat % 65536), (16, s.key.sealOk.toNat)]

/-- KEY_LC. -/
def State.keyLcWord (s : State) : W32 :=
  word [(0, s.fuse.lcSteps.toNat), (4, s.fuse.ownerDbgSet.toNat), (5, (!s.fuse.seedValid0 && s.fuse.seedValid1).toNat)]

/-- A slot's window, +0x00 to +0x14. -/
def KeySlot.words (k : KeySlot) : List W32 :=
  [word [(0, k.loaded.toNat), (2, k.usage.toNat), (6, k.alg.toNat), (10, k.test.toNat), (11, k.prev.toNat),
    (12, k.exportable.toNat), (16, k.loadSeq.toNat)], k.labelId, k.epoch.setWidth 32, 0] ++ w64 k.fprint

/-- KEY_QUERY_SLOTS. -/
def specKeyQuerySlots : OpSpec where
  opcode := 0x0900
  states := stAll
  len := fun _ => some 1
  params := fun _ p =>
    let n := fld (p.w 0) 8 6
    p.only [0x3F3F] && decide (1 ≤ n) && decide (n ≤ 32) && decide (fld (p.w 0) 0 6 + n ≤ 64)
  body := answer fun p s =>
    let ws := ((s.key.slots.toList.drop (fld (p.w 0) 0 6)).take (fld (p.w 0) 8 6)).flatMap KeySlot.words
    if s.ready pdCrypto then ws else ws.map fun _ => 0

/-- KEY_AK_PUB, which cannot be read in SCRAPPED (R354). -/
def State.akPubWords (s : State) : List W32 := leWords 9 (if s.lc == .scrapped then 0 else s.key.akPub.toNat)

/-- KEY_QUERY_EPOCH. -/
def specKeyQueryEpoch : OpSpec where
  opcode := 0x0901
  states := stAll
  len := fun _ => some 0
  body := answer fun _ s =>
    [s.keyStatus, s.keyEpochWord, s.keySealWord, s.keyLcWord, s.keep.wrapCount, s.key.lastSrc.setWidth 32] ++
      leWords 4 s.key.challenge.toNat ++ s.akPubWords

/-! ### What every state-changing KEY command is held to (R336, R349, R351, R355) -/

/-- STATE and BUSY of a KEY command: it may need PD_CRYPTO, and TAMPER_HOLD clear. -/
def keyBody (crypto noHold : Bool) (f : Packet → State → Done) (p : Packet) (s : State) : Done :=
  if (crypto && !s.ready pdCrypto) || (noHold && s.sys.tamperHold) then Done.err s .state
  else if s.mon.pfw || s.key.busyOp.isSome then Done.err s .busy
  else f p s

/-- A long-running KEY command starts: the result it will give is no longer valid (R57). -/
def State.startKeyOp (s : State) (o : KeyOp) : Done :=
  let att := match o with | .attest _ => false | _ => s.key.attValid
  Done.ok { s with key := { s.key with busyOp := some o, resValid := false, attValid := att } }

/-- Keys may be loaded (R336). -/
def lcLoads (s : State) (_ : Packet) : Bool := s.lc != .blank && s.lc != .scrapped

/-- Production keys are in use (R336). -/
def lcProduction (s : State) (_ : Packet) : Bool := s.lc == .provisioned || s.lc == .deployed

/-! ### Slots and flacons (R341 to R346) -/

/-- KEY_LEN of an algorithm (R341). -/
def keyLenOf (alg : Nat) : Nat := if alg = 1 then 32 else 16

/-- USAGE and ALG are legal together (R341). -/
def usageOk (usage alg : Nat) : Bool := (usage == 1 && (alg == 1 || alg == 2)) || (usage == 2 && alg == 1)

/-- Slot `k` has been loaded: SPP positions that name it resume at their marks, and a working one clears KEY_LOST (R292,
R295). -/
def State.slotLoaded (s : State) (k : Nat) : State :=
  let hit : Bool → Nat → Bool := fun b i =>
    let q := (s.sppCfg i).pos b
    q.1 != 0 && q.2.1 == k && q.2.2 == (s.kslot k).alg.toNat && (s.kslot k).usage == 1
  let mark : Bool → Nat → BitVec 31 := fun b i => BitVec.ofNat 31 (Tab.get s.keep.gmacMark (2 * i + b.toNat) 0)
  let f : Nat → Spp → Spp := fun i x =>
    let act := (s.sppCfg i).activeB
    { x with
      seqA := if hit false i then mark false i else x.seqA
      seqB := if hit true i then mark true i else x.seqB
      keyLost := x.keyLost && !hit act i }
  { s with svc := { s.svc with spp := Tab.mapIdx s.svc.spp f } }

/-- Slot `k` takes a key and its attributes. -/
def State.fillSlot (s : State) (k : Nat) (x : KeySlot) : State :=
  let n := (s.kslot k).loadSeq + 1
  let y := { x with loaded := true, loadSeq := n, fprint := print8 (leNat (keyLenOf x.alg.toNat) x.key.toNat) }
  ({ s with key := { s.key with slots := Tab.set s.key.slots k y } }).slotLoaded k

/-- A fillled slot's reply: FPRINT. -/
def State.filled (s : State) (k : Nat) (x : KeySlot) : Done :=
  let a := s.fillSlot k x
  Done.ok a (w64 (a.kslot k).fprint)

/-- The 96 bytes of a flacon in words. -/
def flaconBytes (ws : List W32) : List Byte := wordsBytes ws

/-- A little-endian field of a flacon. -/
def flField (b : List Byte) (o n : Nat) : Nat := natOfLe ((b.drop o).take n)

/-- A flacon's form is legal (R344). -/
def flaconOk (b : List Byte) : Bool :=
  let usage := flField b 5 1
  let alg := flField b 6 1
  (b.take 4 == [0x53, 0x5A, 0x46, 0x4C]) && flField b 4 1 == 1 && usageOk usage alg && decide (flField b 7 1 < 4) &&
    flField b 10 1 == keyLenOf alg && flField b 11 1 == 0 && flField b 20 4 == 0 && flField b 44 4 == 0

/-- The check of R344 that a flacon fails: its REASON, 0 where it fails none of them; and the slot it fills. -/
def State.openFlacon (s : State) (b : List Byte) : Nat × KeySlot :=
  let test := flField b 7 1 % 2 == 1
  let epoch : BitVec 16 := BitVec.ofNat 16 (flField b 8 2)
  let cur := epoch == s.useEpoch
  let prev := !test && s.key.prevValid && epoch == s.key.epochPrev
  let kek := if cur then s.key.kek else s.key.kekPrev
  let n := flField b 10 1
  let iv := (b.drop 32).take 12
  let tag : BitVec 128 := BitVec.ofNat 128 (flField b 80 16)
  let x : KeySlot := { KeySlot.reset with
    usage := BitVec.ofNat 4 (flField b 5 1), alg := BitVec.ofNat 4 (flField b 6 1), test := test, prev := !cur
    exportable := flField b 7 1 / 2 == 1, labelId := BitVec.ofNat 32 (flField b 16 4), epoch := epoch }
  if (b.drop 24).take 8 != s.fuse.euiBytes then (1, x)
  else if !test && flField b 12 4 != s.keep.sealGen.toNat then (2, x)
  else if !cur && !prev then (3, x)
  else
    match gcmOpen kek iv ((b.drop 48).take 32) (b.take 48) tag with
    | none => (4, x)
    | some key =>
      if (key.drop n).any fun y => y != 0 then (4, x) else (0, { x with key := BitVec.ofNat 256 (natOfLe (key.take n)) })

/-- A flacon or token fails (R334, R344, R356). -/
def State.keyAuthFail (s : State) (reason : List W32) : Done := { st := s.irq (src 10 2), status := .authFail, payload := reason }

/-- A flacon is loaded (R344). -/
def State.loadFlacon (s : State) (k : Nat) (b : List Byte) : Done :=
  if (s.kslot k).loaded then Done.err s .busy
  else if (flField b 7 1 % 2 == 1) != s.testKeys then Done.err s .denied
  else
    let r := s.openFlacon b
    if r.1 = 0 then s.filled k r.2 else s.keyAuthFail [BitVec.ofNat 32 r.1]

/-- A key in plaintext is imported (R345). -/
def State.importKey (s : State) (k : Nat) (p : Packet) : Done :=
  if (s.kslot k).loaded then Done.err s .busy
  else s.filled k { KeySlot.reset with
    usage := (p.w 1).extractLsb' 0 4, alg := (p.w 1).extractLsb' 4 4, test := s.testKeys, exportable := flag (p.w 1) 8
    labelId := p.w 2, epoch := s.useEpoch, key := BitVec.ofNat 256 (natOfWords ((p.payload.drop 3).take 8)) }

/-- KEY_LOAD_FLACON. -/
def specKeyLoadFlacon : OpSpec where
  opcode := 0x0940
  states := stIRM
  len := fun p => some (if flag (p.w 0) 8 then 11 else 25)
  lcOk := lcLoads
  params := fun _ p =>
    (p.w 0 &&& 0xFFFFFEC0) == 0 &&
      (if flag (p.w 0) 8 then
        (p.w 1 &&& 0xFFFFFE00) == 0 && usageOk (fld (p.w 1) 0 4) (fld (p.w 1) 4 4) &&
          (fld (p.w 1) 4 4 == 1 || ((p.payload.drop 7).take 4).all fun w => w == 0)
       else flaconOk (flaconBytes ((p.payload.drop 1).take 24)))
  body := keyBody true true fun p s =>
    let k := fld (p.w 0) 0 6
    if flag (p.w 0) 8 then s.importKey k p else s.loadFlacon k (flaconBytes ((p.payload.drop 1).take 24))

/-- Bytes 0 to 47 of the flacon of a slot, its IV last drawn (R342). -/
def State.flaconHead (s : State) (x : KeySlot) (iv : BitVec 96) : List Byte :=
  let gen := if x.test then 0 else s.keep.sealGen.toNat
  [0x53, 0x5A, 0x46, 0x4C, 0x01] ++ leNat 1 x.usage.toNat ++ leNat 1 x.alg.toNat ++
    leNat 1 (x.test.toNat + 2 * x.exportable.toNat) ++ leNat 2 s.useEpoch.toNat ++ leNat 1 (keyLenOf x.alg.toNat) ++
    [0] ++ leNat 4 gen ++ leNat 4 x.labelId.toNat ++ leNat 4 0 ++ s.fuse.euiBytes ++ leNat 12 iv.toNat ++ leNat 4 0

/-- The flacon of a slot (R342, R343): bytes. -/
def State.flaconOf (s : State) (x : KeySlot) (iv : BitVec 96) : List Byte :=
  let h := s.flaconHead x iv
  let g := gcmSeal s.key.kek (leNat 12 iv.toNat) (leNat 32 x.key.toNat) h
  h ++ (g.1 ++ List.replicate 32 0).take 32 ++ leNat 16 g.2.toNat

/-- KEY_WRAP. -/
def specKeyWrap : OpSpec where
  opcode := 0x0941
  states := stIRM
  len := fun _ => some 1
  lcOk := lcLoads
  params := fun _ p => p.only [0x3F]
  body := keyBody true true fun p s =>
    let x := s.kslot (fld (p.w 0) 0 6)
    if !x.loaded || !x.exportable then Done.err s .denied
    else if s.keep.ro || s.keep.wrapCount = 0xFFFFFFFF then Done.err s .noResource
    else
      let n := s.keep.wrapCount + 1
      let fl := packWords (s.flaconOf x (s.drbg.setWidth 96))
      let a := s.drawn.keepOwn fun k => { k with wrapCount := n }
      Done.ok (if n = 0xFFF00000 then a.raise (src 10 7) else a) fl

/-- Bytes past the stated length of a text field are zero (R450). -/
def textOk (b : List Byte) (n : Nat) : Bool := (b.drop n).all fun x => x == 0

/-- The label and context fields of KEY_DERIVE. -/
def deriveText (p : Packet) : List Byte × List Byte :=
  (wordsBytes ((p.payload.drop 3).take 8), wordsBytes ((p.payload.drop 11).take 16))

/-- The parent of a KEY_DERIVE is a LOADED slot with USAGE KDF (R346). -/
def parentOk (s : State) (p : Packet) : Bool :=
  let x := s.kslot (fld (p.w 0) 0 6)
  x.loaded && x.usage == 2

/-- The key a KEY_DERIVE makes (R331, R346). -/
def derivedKey (par : KeySlot) (p : Packet) (alg : Nat) : Dig :=
  let t := deriveText p
  let n := keyLenOf alg
  BitVec.ofNat 256 (natOfLe (kdf (digBytes par.key) (t.1.take (fld (p.w 2) 0 8)) (t.2.take (fld (p.w 2) 8 8)) (8 * n)))

/-- KEY_DERIVE. -/
def specKeyDerive : OpSpec where
  opcode := 0x0942
  states := stIRM
  len := fun _ => some 27
  lcOk := lcLoads
  params := fun s p =>
    let w := p.w 0
    let n := fld (p.w 2) 0 8
    let m := fld (p.w 2) 8 8
    (w &&& 0xFE00C0C0) == 0 && (p.w 2 &&& 0xFFFF0000) == 0 && usageOk (fld w 16 4) (fld w 20 4) &&
      decide (1 ≤ n) && decide (n ≤ 32) && decide (m ≤ 64) && textOk (deriveText p).1 n && textOk (deriveText p).2 m &&
      parentOk s p
  body := keyBody true true fun p s =>
    let w := p.w 0
    let par := s.kslot (fld w 0 6)
    let k := fld w 8 6
    if !parentOk s p then Done.err s .badParam
    else if (s.kslot k).loaded then Done.err s .busy
    else if flag w 24 && !par.exportable then Done.err s .denied
    else s.filled k { KeySlot.reset with
      usage := w.extractLsb' 16 4, alg := w.extractLsb' 20 4, test := par.test, prev := par.prev
      exportable := flag w 24, labelId := p.w 1, epoch := par.epoch, key := derivedKey par p (fld w 20 4) }

/-- KEY_ZERO: whatever TAMPER_HOLD, the warning and a running command say (R341, R355). -/
def specKeyZero : OpSpec where
  opcode := 0x0943
  states := stAll
  len := fun _ => some 2
  body := fun p s => if s.ready pdCrypto then Done.ok (s.zeroSlots (p.w2 0)) else Done.err s .state

/-! ### Long-running commands -/

/-- The commit record is written: the highest epoch slot becomes current (R348 steps 4 and 5). -/
def State.commitEpoch (s : State) : State :=
  let b := s.commitRecord.deriveProduction
  b.raise (src 10 4) 0 b.key.epoch.toNat

/-- KEY_EPOCH_UPDATE. -/
def specKeyEpochUpdate : OpSpec where
  opcode := 0x0944
  states := stIRM
  len := fun _ => some 0
  lcOk := lcProduction
  body := keyBody true true fun _ s =>
    if s.keep.ro || s.key.epoch = 0xFFFF then Done.err s .noResource
    else (s.writeEpoch (s.key.epoch + 1)).startKeyOp .epochUpdate

/-- KEY_ATTEST. -/
def specKeyAttest : OpSpec where
  opcode := 0x0945
  states := 0x0F
  len := fun _ => some 8
  lcOk := fun s _ => s.lc != .scrapped
  body := keyBody false false fun p s =>
    if s.sys.tamperHold && s.fuse.pufFail then Done.err s .noResource
    else s.startKeyOp (.attest (BitVec.ofNat 256 (natOfWords (p.payload.take 8))))

/-- OWNER_DBG of a KEY_PROVISION. -/
def ownerOf (p : Packet) : Dig := BitVec.ofNat 256 (natOfWords (p.payload.take 8))

/-- An OTP_SEED bank is valid or can still take the seed (R339). -/
def Fuse.seedPossible (f : Fuse) : Bool := f.seedValid0 || f.seedValid1 || !f.seedBits0 || !f.seedBits1

/-- No enabled tamper source is asserted (R340). -/
def State.tamperQuiet (s : State) : Bool :=
  (List.range 12).all fun n => !(has s.vbat.tamperActive n && s.tamperEnabled n)

/-- KEY_PROVISION. -/
def specKeyProvision : OpSpec where
  opcode := 0x0946
  states := stIM
  len := fun _ => some 8
  lcOk := fun s _ => s.lc == .blank || s.lc == .provisioned || s.lc == .deployed
  params := fun s p => s.lc == .blank || ownerOf p == 0 || ownerOf p == s.fuse.ownerDbg
  body := keyBody false false fun p s =>
    if s.lc = .blank then
      if s.fuse.seedPossible then s.startKeyOp (.provision (ownerOf p)) else Done.err s .noResource
    else if s.sys.tamperHold && s.tamperQuiet then s.startKeyOp (.provision (ownerOf p))
    else Done.err s .state

/-- A transition of KEY_LC_ADVANCE (R334). -/
def lcStep (a : LcState) (target : Nat) : Bool :=
  match a with
  | .provisioned => target == 2 || target == 4 || target == 5
  | .deployed => target == 4 || target == 5
  | .rma => target == 5
  | _ => false

/-- The token in W1 to W25: key, r, s; r and s as numbers (R333, R355). -/
def tokenOf (p : Packet) : BitVec 264 × BitVec 256 × BitVec 256 :=
  (BitVec.ofNat 264 (natOfWords ((p.payload.drop 1).take 9)), BitVec.ofNat 256 (natOfWords ((p.payload.drop 10).take 8)),
    BitVec.ofNat 256 (natOfWords ((p.payload.drop 18).take 8)))

/-- The token's words are zero. -/
def tokenZero (p : Packet) : Bool := ((p.payload.drop 1).take 25).all fun w => w == 0

/-- KEY_LC_ADVANCE. The token is zero but for DEPLOYED to RMA (R450). -/
def specKeyLcAdvance : OpSpec where
  opcode := 0x0947
  states := stIM
  len := fun _ => some 26
  lcOk := fun s p => lcStep s.lc (fld (p.w 0) 0 3)
  params := fun s p =>
    (p.w 0 &&& 0xFFFFFFF8) == 0 && (p.w 9 &&& 0xFFFFFF00) == 0 &&
      ((s.lc == .deployed && fld (p.w 0) 0 3 == 4) || tokenZero p)
  body := keyBody true true fun p s =>
    let t := tokenOf p
    if !lcStep s.lc (fld (p.w 0) 0 3) then Done.err s .denied
    else s.startKeyOp (.lcAdvance ((p.w 0).setWidth 3) t.1 t.2.1 t.2.2)

/-- KEY_DEBUG_ENTER. -/
def specKeyDebugEnter : OpSpec where
  opcode := 0x0948
  states := stM
  len := fun _ => some 26
  lcOk := fun s _ => s.lc == .deployed
  params := fun _ p => p.w 0 == 0 && (p.w 9 &&& 0xFFFFFF00) == 0
  body := keyBody true true fun p s =>
    let t := tokenOf p
    if !s.fuse.ownerDbgSet then Done.err s .denied
    else if s.pair.role = .active then Done.err s .state else s.startKeyOp (.debugEnter t.1 t.2.1 t.2.2)

/-- KEY_DEBUG_EXIT. -/
def specKeyDebugExit : OpSpec where
  opcode := 0x0949
  states := stM
  len := fun _ => some 0
  lcOk := fun s _ => s.lc == .debug
  body := keyBody true false fun _ s => s.startKeyOp .debugExit

/-! ### Their completion -/

/-- A report of R353 over a nonce. -/
def State.attestReport (s : State) (nonce : BitVec 256) : List W32 :=
  let t := s.stamp
  let flags := s.sys.tamperHold.toNat + 2 * (s.sys.debug).toNat + 4 * (!s.log.lskOn).toNat + 8 * s.key.prevValid.toNat
  let epoch := if s.log.lskOn then s.log.keyEpoch.toNat else 0
  let variant := s.fuse.gnssEn.toNat + 2 * s.fuse.tempInd.toNat + 256 * s.fuse.siRev.toNat
  [0x54415A53, word [(0, 1), (8, s.lc.code.toNat), (16, flags)]] ++
    leWords 2 (natOfLe s.fuse.euiBytes) ++ [s.fuse.chipId, BitVec.ofNat 32 variant,
      word [(0, s.sys.svnRunning.toNat), (8, s.fuse.svnFloor.toNat), (16, s.sys.bootCode.code.toNat)],
      BitVec.ofNat 32 epoch, s.keep.sealGen] ++ leWords 2 s.log.seq.toNat ++ t.words ++ [0] ++
    leWords 8 nonce.toNat ++ digWords s.sys.runHash ++
    leWords 16 (if s.log.lskOn then s.key.lskPub.toNat else 0)

/-- The attestation is written, its signature a free value (R353). -/
def State.attestDone (s : State) (nonce : BitVec 256) : State :=
  let ws := s.attestReport nonce ++ digWords s.free ++ digWords s.drawn.free
  let a := { s.drawn.drawn with key := { s.key with attValid := true, attSeq := s.key.attSeq + 1, attData := ws } }
  a.keyResult .ok 0x45

/-- First provisioning completes (R339). -/
def State.provisionFirst (s : State) (owner : Dig) : State :=
  let a := (((s.programSeed).fuseOwner owner).newSeal 1).deriveUds
  let b := ((a.writeEpoch 1).commitEpoch).installKeyed
  (b.fuseLc 1).keyResult .ok 0x46

/-- Re-provisioning completes (R340); with AUTO_RUN the hold's end is also the start of RUN (R72). -/
def State.provisionAgain (s : State) : State :=
  let a := (s.newSeal (s.keep.sealGen + 1)).deriveUds
  let e := (s.keep.curEpoch.map (·.epoch)).getD 0 + 1
  let b := ((a.writeEpoch e).commitEpoch).installKeyed
  let c := { b with
    vbat := { b.vbat with latched := false, tamperSrc := 0 }, sys := { b.sys with tamperHold := false } }
  ((c.faultEnd 192).keyResult .ok 0x46).autoRunNow

/-- LC_STATE reaches RMA or SCRAPPED: no production root remains (R329, R336). -/
def State.lcEnd (s : State) (target : Nat) : State :=
  let a := (s.zeroKeys).zeroRoots
  if target = 4 then
    (({ a with vbat := { a.vbat with sealKey := 0 } }.deriveUds).fuseLc 0x7).deriveTest.installKeyed
  else
    let b := a.fuseLc 0xF
    { b with fuse := { b.fuse with puf := 0 }, key := { b.key with akPub := 0 } }

/-- KEY_LC_ADVANCE completes (R334). -/
def State.lcAdvanceDone (s : State) (target : Nat) (k : BitVec 264) (r v : BitVec 256) : State :=
  let needs := s.lc == .deployed && target == 4
  let t := if needs then s.checkToken rmaDigest lblRma k r v else (true, s)
  if !t.1 then (t.2.irq (src 10 2)).keyResult .authFail 0x47
  else if target = 2 then (t.2.fuseLc 0x3).keyResult .ok 0x47
  else (t.2.lcEnd target).keyResult .ok 0x47

/-- KEY_DEBUG_ENTER completes (R337). -/
def State.debugEnterDone (s : State) (k : BitVec 264) (r v : BitVec 256) : State :=
  let t := s.checkToken s.fuse.ownerDbg lblDebug k r v
  if !t.1 then (t.2.irq (src 10 2)).keyResult .authFail 0x48
  else
    let old := s.lc
    let a := (t.2.zeroKeys).deriveTest
    let b := { a with sys := { a.sys with debug := true } }
    ((b.installKeyed).lcChanged old).keyResult .ok 0x48

/-- KEY_DEBUG_EXIT completes (R338). -/
def State.debugExitDone (s : State) : State :=
  let old := s.lc
  let a := s.zeroSlots (BitVec.allOnes 64)
  let b := { a with sys := { a.sys with debug := false }, key := { a.key with kt := 0 } }
  let c := if b.key.udsOk && b.key.sealOk then (b.deriveProduction).installKeyed else b
  (c.lcChanged old).keyResult .ok 0x49

/-- A long-running KEY command reaches its end. -/
def State.keyOpDone (s : State) (o : KeyOp) : State :=
  match o with
  | .epochUpdate => (s.commitEpoch.installKeyed).keyResult .ok 0x44
  | .attest n => s.attestDone n
  | .provision d => if s.lc = .blank then s.provisionFirst d else s.provisionAgain
  | .lcAdvance t k r v => s.lcAdvanceDone t.toNat k r v
  | .debugEnter k r v => s.debugEnterDone k r v
  | .debugExit => s.debugExitDone

/-- A long-running KEY command ends: `ok` false where a keep or fuse step of it failed (R355, R397). -/
def execKeyOperationDone (dt : Nat) (ok : Bool) (s : State) : Res :=
  let s := s.advance dt
  match s.key.busyOp with
  | none => .next s
  | some o => .next (if ok then s.keyOpDone o else s.keyResult .noResource o.op)

/-- The power-fail warning catches a running KEY command (R349). One whose last write has begun completes; any other stops, with
the fuse and commit steps of a first provisioning that were already made (R339), and KEY_RESULT reports BUSY. How far the
command had come is a free value: the spec gives its steps no times. -/
def State.keyCaught (s : State) (o : KeyOp) : State :=
  let n := s.free.toNat % 7
  let a := s.drawn
  match o with
  | .provision _ =>
    if a.lc = .blank then (if n = 6 then a.keyOpDone o else (a.keyWrites o n).keyResult .busy o.op)
    else if n = 6 then a.keyOpDone o else a.keyResult .busy o.op
  | .epochUpdate | .lcAdvance _ _ _ _ => if n = 6 then a.keyOpDone o else a.keyResult .busy o.op
  | .attest _ | .debugEnter _ _ _ | .debugExit => a.keyResult .busy o.op

/-- The power-fail warning asserts at the KEY block: PFW_BLOCK sets (R349). -/
def State.keyPfw (s : State) : State :=
  let a := match s.key.busyOp with
    | some o => s.keyCaught o
    | none => s
  ({ a with key := { a.key with pfwBlock := true } }).raise (src 10 5)

/-- A tamper source asserts or deasserts (R350, R351). -/
def execTamperAssert (dt : Nat) (src_ : BitVec 4) (on : Bool) (s : State) : Res :=
  let s := s.advance dt
  let n := src_.toNat
  let a := { s with vbat := { s.vbat with tamperActive := putBit s.vbat.tamperActive n on } }
  .next (if on then a.tamper n else a)

end Sys2Proof.Machine
end

