-- ==== Sys2Proof/Machine/TicOps.lean ====
section
/-! DEFINITION. The TIC block's own operations (R181 to R204): stamps and their bounds, stream records and marks,
interval results, spare converters and their swaps. -/

namespace Sys2Proof.Machine

/-! ### Parts of the state -/

/-- A channel at work. -/
def State.tch (s : State) (n : Nat) : TicCh := Tab.get s.tic.ch n TicCh.reset

/-- A channel's configuration. -/
def State.tchCfg (s : State) (n : Nat) : TicChCfg := Tab.get s.cfg.tic.ch n TicChCfg.reset

/-- A converter. -/
def State.tconv (s : State) (c : Nat) : TicConv := Tab.get s.tic.convs c TicConv.reset

/-- A spare's use. -/
def State.tspare (s : State) (i : Nat) : TicSpare := Tab.get s.tic.spares i TicSpare.reset

/-- A channel changes. -/
def State.modTch (s : State) (n : Nat) (f : TicCh → TicCh) : State :=
  { s with tic := { s.tic with ch := Tab.mod s.tic.ch n f } }

/-- A converter changes. -/
def State.modConv (s : State) (c : Nat) (f : TicConv → TicConv) : State :=
  { s with tic := { s.tic with convs := Tab.mod s.tic.convs c f } }

/-- A spare's use changes. -/
def State.modSpare (s : State) (i : Nat) (f : TicSpare → TicSpare) : State :=
  { s with tic := { s.tic with spares := Tab.mod s.tic.spares i f } }

/-- A source of group 5 is raised for a channel (R206). -/
def State.ticRaise (s : State) (b ch : Nat) (value : Int := 0) : State :=
  ({ s with tic := { s.tic with intSrc := s.tic.intSrc ||| bitAt 32 ch } }).raise (src 5 b) ch value

/-- The serving converter of a channel. -/
def State.servConv (s : State) (n : Nat) : TicConv := s.tconv (s.tch n).conv.toNat

/-- The channel that converter `c` serves, if any. -/
def State.servedBy (s : State) (c : Nat) : Option Nat :=
  (List.range 32).find? fun n => (s.tch n).conv.toNat == c

/-- SERVING: the converter serves a channel that is in use, or a borrowing use. -/
def State.serving (s : State) (c : Nat) : Bool :=
  s.tic.bridge == some c || (match s.servedBy c with
    | some n => (s.tchCfg n).mode != 0 || (s.tch n).claim != 0
    | none => false) || (32 ≤ c && (s.tspare (c - 32)).use != 0)

/-! ### Bounds and readings -/

/-- TB_REF (R187). -/
def State.tbRef (s : State) : Nat :=
  match s.acd.state with
  | .cold => if s.acd.cpllLock then 3 else 0
  | .acquire | .locked => 2
  | _ => 1

/-- PATH_UNC of an input route, in 0.002 ps (R185). -/
def pathUnc2 (sel : Nat) : Nat := if sel = 2 || sel = 3 || sel = 4 then 2000 else 0

/-- E_TIC of channel `n` served by converter `c` (R185, R186): in 10 ps, rounded up once. -/
def State.eTicOf (s : State) (n c : Nat) : Nat :=
  let v := s.tconv c
  if !v.warm then 100
  else
    let g := s.tchCfg n
    let dt := (s.tempOf 1 - v.table.tCal.toInt).natAbs
    ceilDiv (v.table.calUnc.toNat * 50 + v.table.ssRms.toNat * 300 + pathUnc2 g.inputSel.toNat + g.delayUnc.toNat * 5000
      + dt) 5000

/-- COARSE at a tick (R190). -/
def State.coarse (s : State) : Nat := (s.ticks - s.tic.zeroTick) % 2 ^ 40

/-- The stamp of an edge `fine` of 4,096 into this tick, less the channel's DELAY_PS, in 2^-16 ns (R182, R183). -/
def State.ticTime (s : State) (n fine : Nat) : Int :=
  ((s.acd.count * 4096 + fine * s.acd.incrCur.toNat) / (4096 * 2 ^ 40) : Nat) - ps16 (s.tchCfg n).delayPs.toInt

/-- The flag byte of a record of channel `n` with bound `eb`. -/
def State.ticFlags (s : State) (n eb : Nat) : BitVec 8 :=
  s.flagsFor eb ||| BitVec.ofNat 8 (32 * (!(s.servConv n).warm).toNat + 64 * (n % 4))

/-- W3 of a record. -/
def State.ticEbWord (s : State) (n eb : Nat) : W32 := ebWord (ebSat eb) (s.ticFlags n eb)

/-! ### Records -/

/-- A TAI96 record of a type (R189, R191). -/
def taiRecord (typ : Nat) (t : Tai) (w3 : W32) : List W32 :=
  (taiWords t).set 1 ((taiWords t).getD 1 0 ||| BitVec.ofNat 32 (typ * 2 ^ 14)) ++ [w3]

/-- A raw record (R190). -/
def State.rawRecord (s : State) (n fine : Nat) : List W32 :=
  let c := s.coarse
  let eb := if s.tbRef = 0 then 0xFFFFFF else (s.tch n).eTic.toNat
  [BitVec.ofNat 32 c, word [(0, c / 2 ^ 32), (14, 1), (16, fine)], (s.tch n).eventSeq, s.ticEbWord n eb]

/-- A MARK record (R192). -/
def State.markRecord (s : State) (n code : Nat) (arg : Nat) (arg2 : W32) : List W32 :=
  let eb := s.ebAccord + (s.tch n).eTic.toNat
  [word [(0, code), (8, arg)], word [(14, 3)], arg2, s.ticEbWord n eb]

/-- The channel has a stream (R192). -/
def State.streams (s : State) (n : Nat) : Bool := let m := (s.tchCfg n).mode.toNat; m == 1 || m == 2

/-- The LOSS mark that precedes the next record, where one is due (R192). -/
def State.lossMarks (s : State) (n : Nat) : List (List W32) :=
  let c := s.tch n
  if c.lossDue then [s.markRecord n 1 c.lossDt.toNat c.lossQ] else []

/-- Records enter the queue, a due LOSS mark before them; 3,072 records raise INT_TIC_QUEUE_HIGH (R197). -/
def State.ticEnqueue (s : State) (n : Nat) (rec : List W32) : State :=
  let c := s.tch n
  let q := c.queue ++ s.lossMarks n ++ [rec]
  let s1 := s.modTch n fun c => { c with queue := q, lossDue := false, lossDt := 0, lossQ := 0 }
  if c.queue.length < 3072 && 3072 ≤ q.length then s1.ticRaise 4 n else s1

/-- A record that may not use the two places held back (R197). -/
def State.ticMark (s : State) (n code : Nat) (arg : Nat) (arg2 : W32 := 0) : State :=
  if s.streams n && decide ((s.tch n).queue.length < 4094) then s.ticEnqueue n (s.markRecord n code arg arg2) else s

/-- An edge's record enters the queue, or is lost and counted (R197). -/
def State.ticPush (s : State) (n : Nat) (rec : List W32) : State :=
  if 4094 ≤ (s.tch n).queue.length then
    (s.modTch n fun c => { c with qLost := c.qLost + 1, lossQ := c.lossQ + 1, lossDue := true }).ticRaise 3 n
  else s.ticEnqueue n rec

/-! ### Interval measurements -/

/-- What a result says, beside its start channel (R193 to R195). -/
structure IvResult where
  /-- STATUS -/
  status : Nat
  /-- INTERVAL -/
  val : Int := 0
  /-- IEB -/
  eb : Nat := 0
  /-- FLAGS -/
  flags : BitVec 8 := 0
  /-- STEP_REMOVED -/
  step : Bool := false

/-- The result is written and the measurement disarms; source `b` of group 5 is raised. -/
def State.ivWrite (s : State) (n : Nat) (a : TicArm) (r : IvResult) (b : Nat) : State :=
  let s1 := s.modTch n fun c => { c with
    arm := none, ivValid := true, ivStatus := BitVec.ofNat 2 r.status, ivOrder := decide (r.val < 0)
    ivStartSeen := a.start.isSome, ivStopSeen := a.stopE.isSome, ivDtMiss := a.dtMiss, ivStep := r.step
    ivSeq := c.ivSeq + 1, ivVal := BitVec.ofInt 64 r.val, ivEb := ebSat r.eb, ivFlags := r.flags
    ivStart := match a.start with | some e => taiOfInt e.time | none => 0
    ivStop := a.stop }
  (s1.modTch a.stop.toNat fun c => { c with armedStop := false }).ticRaise b n

/-- The rate term of R194 as a fraction: Y_IV in 0.001 ppt times 108,000,000,000,000. -/
def State.yIvNum (s : State) : Nat :=
  let o := s.osc
  let k := 108000000000000
  match s.acd.state with
  | .acquire | .locked => o.y0.toNat * k
  | .freerun | .cold => o.y0Free.toNat * k
  | _ =>
    let t := match s.acd.holdFrom with | some t0 => s.ticks - t0 | none => 0
    s.y0Now * k + o.age.toNat * t + o.tempco.toNat * s.acd.dtMax.toNat * (k / 100)

/-- Both edges exist: the result of R194. -/
def State.ivDone (s : State) (n : Nat) (a : TicArm) (x y : IvEdge) : State :=
  let v := (y.time - x.time) - Int.tdiv (y.adj - x.adj) (2 ^ 40)
  let rate := ceilDiv (v.natAbs * s.yIvNum * 100) (65536 * 10 ^ 15 * 108000000000000)
  s.ivWrite n a {
    status := 0, val := v, eb := min (x.eTic.toNat + y.eTic.toNat + rate) (x.eb + y.eb)
    flags := (x.flags ||| y.flags) &&& 0x3F, step := decide (x.adj ≠ y.adj) } 0

/-- The measurement that starts on channel `n` has what it needs. -/
def State.ivCheck (s : State) (n : Nat) : State :=
  match (s.tch n).arm with
  | some a => match a.start, a.stopE with
    | some x, some y => s.ivDone n a x y
    | _, _ => s
  | none => s

/-- The timeout tick has not come (R195). -/
def State.ivOpen (s : State) (a : TicArm) : Bool := decide (s.ticks < a.armTick + a.timeoutUs.toNat * usTicks)

/-- An edge on channel `ch` as the start of the measurement armed there, or, with one channel, its stop (R193). -/
def State.ivAsStart (s : State) (ch : Nat) (falling : Bool) (e : IvEdge) : State :=
  match (s.tch ch).arm with
  | none => s
  | some a =>
    if !s.ivOpen a then s
    else if a.start.isNone then
      if falling == a.startFall then s.modTch ch fun c => { c with arm := some { a with start := some e } } else s
    else if a.stop.toNat = ch && a.stopE.isNone && falling == a.stopFall then
      s.modTch ch fun c => { c with arm := some { a with stopE := some e } }
    else s

/-- The measurement whose stop channel is `ch`, by its start channel. -/
def State.ivStopOf (s : State) (ch : Nat) : Option Nat :=
  (List.range 32).find? fun n =>
    match (s.tch n).arm with
    | some a => a.stop.toNat == ch
    | none => false

/-- An edge on channel `ch` as the stop of a measurement started elsewhere (R193). -/
def State.ivAsStop (s : State) (ch : Nat) (falling : Bool) (e : IvEdge) : State :=
  match s.ivStopOf ch with
  | none => s
  | some n =>
    match (s.tch n).arm with
    | none => s
    | some a =>
      if n ≠ ch && s.ivOpen a && a.stopE.isNone && falling == a.stopFall then
        s.modTch n fun c => { c with arm := some { a with stopE := some e } }
      else s

/-- A stop on the start's own channel is lost to dead time (R196). -/
def State.ivMissed (s : State) (ch : Nat) (falling : Bool) : State :=
  match (s.tch ch).arm with
  | some a =>
    if a.stop.toNat = ch && a.start.isSome && falling == a.stopFall then
      s.modTch ch fun c => { c with arm := some { a with dtMiss := true } }
    else s
  | none => s

/-- The measurement that starts on channel `n` ends with a status and no interval (R195). -/
def State.ivEnd (s : State) (n status b : Nat) : State :=
  match (s.tch n).arm with
  | some a => s.ivWrite n a { status := status } b
  | none => s

/-- Every measurement that uses channel `ch` ends ABORTED (R195, R204). -/
def State.ivAbort (s : State) (ch : Nat) : State :=
  let s1 := s.ivEnd ch 2 0
  match s1.ivStopOf ch with
  | some n => s1.ivEnd n 2 0
  | none => s1

/-! ### Spares -/

/-- The lowest spare that is free and works (R200). -/
def State.freeSpare (s : State) : Option Nat :=
  (List.range 4).find? fun i =>
    let c := s.tconv (32 + i)
    (s.tspare i).use == 0 && !c.failed && !c.calRun && !(s.blt.sel == 16 && s.blt.arg.toNat == 32 + i)

/-- SPARES_FREE. -/
def State.sparesFree (s : State) : Nat :=
  ((List.range 4).filter fun i => (s.tspare i).use == 0 && !(s.tconv (32 + i)).failed).length

/-- The spare in rolling use, if one is. -/
def State.rollingSpare (s : State) : Option Nat := (List.range 4).find? fun i => (s.tspare i).use == 2

/-- A spare is taken for a use; the last one taken empties the pool (R400). -/
def State.takeSpare (s : State) (i use n home : Nat) : State :=
  let s1 := s.modSpare i fun _ => { TicSpare.reset with
    use := BitVec.ofNat 2 use, chan := BitVec.ofNat 6 n, home := BitVec.ofNat 6 home }
  if s1.sparesFree = 0 && s.sparesFree ≠ 0 then s1.raise (src 14 7) 0 else s1

/-- A spare is free again. -/
def State.dropSpare (s : State) (i : Nat) : State := s.modSpare i fun _ => TicSpare.reset

/-- Fault 97 ends when every channel is served by a converter that works (R201, R359). -/
def State.ticServed (s : State) : State :=
  if has s.flt.present 97 && (List.range 32).all fun n => !(s.servConv n).failed then s.faultEnd 97 else s

/-- The channel is handed from one converter to another at the next tick: a SUBST mark lies between them (R201). -/
def State.handOver (s : State) (n c : Nat) : State :=
  let old := (s.tch n).conv.toNat
  let s1 := s.ticMark n 3 (old + 256 * c) (BitVec.ofNat 32 (s.coarse + 1))
  ((s1.modTch n fun h => { h with conv := BitVec.ofNat 6 c }).ticRaise 11 n c).ticServed

/-- A channel leaves a spare that was permanently its own for another one: the spare is free (R201). -/
def State.spareLeft (s : State) (c : Nat) : State :=
  if 32 ≤ c && (s.tspare (c - 32)).use == 1 then
    { s.dropSpare (c - 32) with cfg := { s.cfg with tic := { s.cfg.tic with
      subst := Tab.set s.cfg.tic.subst (c - 32) 0x3F } } }
  else s

/-- The spare in rolling use is released for a use of higher precedence (R200). -/
def State.releaseRolling (s : State) (i : Nat) : State :=
  let sp := s.tspare i
  let n := sp.chan.toNat
  let home := sp.home.toNat
  let due := { s with tic := { s.tic with recalDue := s.tic.recalDue ||| bitAt 36 home } }
  if (s.tch n).conv.toNat = 32 + i then
    ((due.modConv home fun c => { c with calRun := false }).handOver n home).dropSpare i
  else due.dropSpare i

/-- A spare that is itself being calibrated gives its run up; it is made again later (R200). -/
def State.calBreak (s : State) (i : Nat) : State :=
  if (s.tconv (32 + i)).calRun then
    let s1 := s.modConv (32 + i) fun c => { c with calRun := false }
    { s1 with tic := { s1.tic with recalDue := s1.tic.recalDue ||| bitAt 36 (32 + i) } }
  else s

/-- The lowest free working spare, being calibrated or not. -/
def State.idleSpare (s : State) : Option Nat :=
  (List.range 4).find? fun i => (s.tspare i).use == 0 && !(s.tconv (32 + i)).failed &&
    !(s.blt.sel == 16 && s.blt.arg.toNat == 32 + i)

/-- A spare for a use above rolling recalibration: a free one, one that is being calibrated, or the one in rolling use
(R200). -/
def State.claimSpare (s : State) : State × Option Nat :=
  match s.freeSpare, s.idleSpare with
  | some i, _ => (s, some i)
  | none, some i => (s.calBreak i, some i)
  | none, none =>
    match s.rollingSpare with
    | some i => if (s.tconv (32 + i)).failed then (s, none) else (s.releaseRolling i, some i)
    | none => (s, none)

/-- The map is written to TIC_SUBST_CFG in the keep (R201). -/
def State.substKeep (s : State) (i n : Nat) : State :=
  let s1 := { s with cfg := { s.cfg with tic := { s.cfg.tic with
    subst := Tab.set s.cfg.tic.subst i (BitVec.ofNat 6 n) } } }
  s1.keepOwn fun k => { k with image := some s1.cfg, commitSeq := k.commitSeq + 1 }

/-- With AUTO_SPARE set a spare takes channel `n` at once, if there is one to take; its failed converter was `c` (R200,
R201). -/
def State.spareFor (s : State) (n c : Nat) : Option State :=
  let r := if s.cfg.tic.autoSpare then s.claimSpare else (s, none)
  r.2.map fun i => (((r.1.takeSpare i 1 n c).substKeep i n).handOver n (32 + i)).faultAssert 96

/-- Channel `n` loses the converter that serves it: a spare takes it at once, or the channel stops (R201). -/
def State.convLost (s : State) (n c : Nat) : State :=
  (s.spareFor n c).getD ((s.raise (src 5 10) c).faultAssert 97)

/-- A spare takes the place of a converter that has failed for good: the swap it was in is over (R201). -/
def State.swapKeep (s : State) (i : Nat) : State :=
  ((s.modSpare i fun p => { p with use := 1, swapOn := false, swapBack := false }).substKeep i
    (s.tspare i).chan.toNat).faultAssert 96

/-- The swaps that a failed converter of a channel takes part in end: the spare that was to take over a channel for good does
so at once, one in rolling use is free, and one that was to give the channel back keeps it (R201). -/
def State.swapBroken (c : Nat) (s : State) (i : Nat) : State :=
  let sp := s.tspare i
  let n := sp.chan.toNat
  if !sp.swapOn then s
  else if sp.swapBack then (if sp.home.toNat = c then s.swapKeep i else s)
  else if (s.tch n).conv.toNat ≠ c then s
  else if sp.use = 1 then ((s.handOver n (32 + i)).spareLeft c).swapKeep i
  else s.dropSpare i

/-- Converter `c` fails (R201). A swap that it takes part in ends. -/
def State.convFail (s : State) (c : Nat) : State :=
  let s1 := s.modConv c fun v => { v with failed := true, calRun := false, warmWait := false }
  let s2 := if 32 ≤ c then
      let sp := s1.tspare (c - 32)
      if sp.use ≠ 0 && (s1.tch sp.chan.toNat).conv.toNat ≠ c then s1.dropSpare (c - 32) else s1
    else s1
  let s3 := (List.range 4).foldl (State.swapBroken c) s2
  match s3.servedBy c with
  | some n =>
    if 32 ≤ c && (s3.tspare (c - 32)).use = 2 then s3.releaseRolling (c - 32)
    else (if 32 ≤ c then s3.dropSpare (c - 32) else s3).convLost n c
  | none => s3

/-- A spare that has become free replaces a converter that failed when none was (R200). -/
def State.heal (s : State) (n : Nat) : State :=
  if (s.servConv n).failed then (s.spareFor n (s.tch n).conv.toNat).getD s else s

/-- A swap between healthy converters begins: at once where PRESENT is clear, else with its overlap (R201). -/
def State.swapStart (s : State) (i : Nat) (back : Bool) : State :=
  s.modSpare i fun p => { p with swapOn := true, swapBack := back, swapFrom := s.ticks, swapEdges := 0, swapSum := 0 }

/-- The incoming converter of a swap. -/
def State.swapIn (s : State) (i : Nat) : Nat := if (s.tspare i).swapBack then (s.tspare i).home.toNat else 32 + i

/-- A swap hands over. After the first half of a rolling swap the converter is calibrated; after the second the spare is
free (R202). -/
def State.swapOver (s : State) (i : Nat) : State :=
  let sp := s.tspare i
  let s1 := (s.handOver sp.chan.toNat (s.swapIn i)).spareLeft (s.tch sp.chan.toNat).conv.toNat
  if sp.swapBack then s1.dropSpare i
  else
    let s2 := s1.modSpare i fun p => { p with swapOn := false }
    if sp.use = 2 then s2.modConv sp.home.toNat fun c => { c with calRun := true, calFrom := s.ticks } else s2

/-- A swap is wanted: it begins, or hands over at once where there is nothing to compare: PRESENT clear, or an outgoing
converter that has failed (R201). -/
def State.swap (s : State) (i : Nat) (back : Bool) : State :=
  let s1 := s.swapStart i back
  let n := (s.tspare i).chan.toNat
  if (s.tch n).present && !(s.servConv n).failed then s1 else s1.swapOver i

/-! ### Recalibration -/

/-- CAL_STALE sets on a channel (R202). -/
def State.calStale (s : State) (n : Nat) : State :=
  if (s.tch n).calStale then s else (s.modTch n fun c => { c with calStale := true }).ticRaise 9 n

/-- A converter of a TIC_CALIBRATE run is finished; the last one ends the run (R205). -/
def State.ticCalCount (s : State) (c : Nat) : State :=
  let l := s.tic.calList &&& ~~~(bitAt 36 c)
  let s1 := { s with tic := { s.tic with calList := l } }
  if s.tic.calCmd && l = 0 then ({ s1 with tic := { s1.tic with calCmd := false } }).raise (src 5 8) else s1

/-- A swap is abandoned: the outgoing converter keeps serving (R201), and a run that the swap was for is not made. -/
def State.swapAbandon (s : State) (i : Nat) : State :=
  let sp := s.tspare i
  let s1 := if sp.swapBack then s.modSpare i fun p => { p with swapOn := false } else s.dropSpare i
  let s2 := if sp.use = 2 && !sp.swapBack then s1.ticCalCount sp.home.toNat else s1
  (s2.ticRaise 12 sp.chan.toNat).faultAssert 98

/-- A converter's run is due and not yet made: it starts where it can (R202). -/
def State.calTry (s : State) (c : Nat) : State :=
  let v := s.tconv c
  let done (t : State) : State := { t with tic := { t.tic with recalDue := t.tic.recalDue &&& ~~~(bitAt 36 c) } }
  if !has s.tic.recalDue c || v.calRun then s
  else if v.failed then (done s).ticCalCount c
  else if !s.serving c then (done s).modConv c fun v => { v with calRun := true, calFrom := s.ticks }
  else if s.rollingSpare.isSome then s
  else
    match s.freeSpare, s.servedBy c with
    | some i, some n => ((done s).takeSpare i 2 n c).swap i false
    | _, some n => if v.warm then s.calStale n else s
    | _, none => s

/-- Free spares go to the channels without a working converter (R200); then every due run starts where it can, lowest number
first. -/
def State.calNext (s : State) : State := (List.range 36).foldl State.calTry ((List.range 32).foldl State.heal s)

/-- The table of a successful run. -/
structure CalRun where
  /-- CAL_UNC -/
  calUnc : BitVec 16
  /-- SS_RMS -/
  ssRms : BitVec 16
  /-- GAIN_DEV -/
  gainDev : BitVec 16
  /-- SEG_DEV -/
  segDev : BitVec 16
  /-- the 64 break points -/
  points : List (BitVec 16)

/-- A run succeeds: the table is set and written to the keep, and the converter is WARM (R184, R186). -/
def State.calPass (s : State) (c : Nat) (r : CalRun) : State :=
  let v := s.tconv c
  let t : TicTable := {
    valid := true, calUnc := r.calUnc, ssRms := r.ssRms, tCal := BitVec.ofInt 16 (s.tempOf 1), gainDev := r.gainDev
    segDev := r.segDev, calSeq := v.table.calSeq + 1, points := r.points }
  let s1 := s.modConv c fun v => { v with
    table := t, warm := true, warmWait := false, calRun := false, calTick := some s.ticks, outCodes := 0 }
  let s2 := s1.keepOwn fun k => { k with ticTables := Tab.set k.ticTables c t }
  let ch := match s.servedBy c with
    | some n => some n
    | none => (List.range 4).findSome? fun i =>
        let p := s.tspare i
        if p.use = 2 && p.home.toNat = c then some p.chan.toNat else none
  let told := if v.warm then s2 else s2.raise (src 5 5) c
  match ch with
  | some n =>
    (told.ticMark n (if v.warm then 4 else 2) c (t.calSeq.setWidth 32)).modTch n fun h => { h with calStale := false }
  | none => told

/-- The spare that covers converter `c` swaps it back (R202). -/
def State.swapHome (s : State) (c : Nat) : State :=
  match (List.range 4).find? fun i => (s.tspare i).use == 2 && (s.tspare i).home.toNat == c with
  | some i => s.swap i true
  | none => s

/-- Converter `c`, covered by a spare in rolling use, has failed: the spare keeps its channel (R201). -/
def State.coverKeep (s : State) (c : Nat) : State :=
  match (List.range 4).find? fun i => (s.tspare i).use == 2 && (s.tspare i).home.toNat == c with
  | some i =>
    if s.cfg.tic.autoSpare then s.swapKeep i
    else ((s.handOver (s.tspare i).chan.toNat c).dropSpare i |>.raise (src 5 10) c).faultAssert 97
  | none => s

/-- A comparison entry takes the first rising edge after each 10 µs boundary that its channel stamps (R377). -/
def State.pairStamp (s : State) (n : Nat) (t : Int) : State :=
  let w : Int := 10 * us16
  let take : PairCmp → PairCmp := fun m => match m.stamps.getLast? with
    | some l => if t / w = l / w then m else { m with stamps := m.stamps ++ [t] }
    | none => { m with stamps := [t] }
  { s with pair := { s.pair with cmp := Tab.mapIdx s.pair.cmp fun e m =>
    let c := Tab.get s.cfg.pair.cmp e PairCmpCfg.reset
    if c.en && c.channel.toNat == n then take m else m } }

end Sys2Proof.Machine
end

