-- ==== Sys2Proof/Machine/Blt.lean ====
section
/-! DEFINITION. The blotter, the test access port and the self-test (R409 to R418). -/

namespace Sys2Proof.Machine

/-- The BLT block changes. -/
def State.modBlt (s : State) (f : Blt → Blt) : State := { s with blt := f s.blt }

/-! ### Scopes (R410, R411) -/

/-- The scopes open without unlock: bit 0 NODES, 1 ANALOG, 2 SCAN. -/
def bltOpen (l : LcState) : BitVec 3 :=
  match l with
  | .blank => 5
  | .provisioned | .deployed => 0
  | .debug => 1
  | .rma | .scrapped => 7

/-- The scopes a token can unlock. -/
def bltUnlockable (l : LcState) : BitVec 3 :=
  match l with
  | .blank => 2
  | .provisioned | .deployed => 5
  | .debug => 4
  | .rma | .scrapped => 0

/-- BLT_STATUS.SCOPE: the scopes open or unlocked. -/
def State.bltScope (s : State) : BitVec 3 := bltOpen s.lc ||| s.blt.unlocked

/-- BLT_STATUS. -/
def State.bltStatus (s : State) : W32 :=
  word [(0, s.bltScope.toNat), (3, s.blt.scanActive.toNat), (4, s.blt.bist.isSome.toNat)]

/-- The token of a SYS_BLT_UNLOCK is of a key that R410 names, over the requested scope (R411). -/
def State.bltToken (s : State) (p : Packet) : Bool :=
  let t := tokenOf p
  let d := if s.lc == .blank then rmaDigest else s.fuse.ownerDbg
  pubDigest t.1 == d && s.tokenOk lblBlt [BitVec.ofNat 8 (fld (p.w 0) 0 3)] t.1 t.2.1 t.2.2

/-- SYS_BLT_UNLOCK. SCOPE 0 relocks. DESIGN CHOICE (log entry 88): SCOPE 0 and a scope that is open already check no token; a
scope that no unlock gives in the life-cycle state is DENIED. -/
def specSysBltUnlock : OpSpec where
  opcode := 0x004F
  states := stM
  len := fun _ => some 26
  lcOk := fun s p =>
    let need := (p.w 0).setWidth 3 &&& ~~~bltOpen s.lc
    need &&& ~~~bltUnlockable s.lc == 0 && (need == 0 || s.lc == .blank || s.fuse.ownerDbgSet)
  params := fun _ p =>
    (p.w 0 &&& 0xFFFFFFF8) == 0 && (p.w 9 &&& 0xFFFFFF00) == 0 && (p.w 0 != 0 || tokenZero p)
  body := fun p s =>
    let want : BitVec 3 := (p.w 0).setWidth 3
    let need := want &&& ~~~bltOpen s.lc
    let answer : State → Done := fun t => Done.ok t [word [(0, t.bltScope.toNat)]]
    if want = 0 then answer s.endUnlock
    else if need &&& ~~~bltUnlockable s.lc != 0 || (need != 0 && s.lc != .blank && !s.fuse.ownerDbgSet) then
      Done.err s .denied
    else if need = 0 then answer s
    else
      let s1 := s.newChallenge
      if s.bltToken p then
        answer ((s1.modBlt fun b => { b with unlocked := b.unlocked ||| need }).raise (src 15 24) need.toNat)
      else Done.err s1 .authFail

/-! ### Nodes (R412) -/

/-- How many ARG values a node has; none where the table has no such SEL. -/
def bltArgs (sel : Nat) : Option Nat :=
  match sel with
  | 0 | 1 | 2 | 4 | 5 | 6 | 8 | 9 | 18 => some 1
  | 3 | 7 => some 4
  | 16 => some 36
  | 17 => some 8
  | _ => none

/-- The scope a node needs. -/
def bltNeeds (sel : Nat) : BitVec 3 := if sel = 0 then 0 else if sel < 16 then 1 else 2

/-- The power domain of a node. -/
def bltDomain (sel arg : Nat) : Nat :=
  match sel with
  | 1 | 2 | 3 | 4 => pdTime
  | 6 => pdEngine
  | 7 => pdQ (arg % 4)
  | 8 => pdPair
  | 9 => pdGnss
  | 16 => pdTic
  | _ => 1

/-- The running self-test works on the node's unit. -/
def State.bistHolds (s : State) (sel arg : Nat) : Bool :=
  match s.blt.bist with
  | none => false
  | some r =>
    (sel == 7 && has r.mask 3 && has r.quads arg) || (sel == 9 && has r.mask 4) || (sel == 16 && has r.mask 1) ||
      (sel == 3 && has r.mask 5)

/-- SYS_BLT_SELECT. -/
def specSysBltSelect : OpSpec where
  opcode := 0x0050
  states := stM
  len := fun _ => some 1
  lcOk := fun s p => bltNeeds (fld (p.w 0) 0 8) &&& ~~~s.bltScope == 0 || bltArgs (fld (p.w 0) 0 8) == none
  params := fun _ p => p.only [0xFFFF] && match bltArgs (fld (p.w 0) 0 8) with
    | some n => decide (fld (p.w 0) 8 8 < n)
    | none => false
  body := fun p s =>
    let sel := fld (p.w 0) 0 8
    let arg := fld (p.w 0) 8 8
    if bltNeeds sel &&& ~~~s.bltScope != 0 then Done.err s .denied
    else if !s.ready (bltDomain sel arg) then Done.err s .state
    else if (sel = 16 && s.serving arg) || s.bistHolds sel arg then Done.err s .busy
    else Done.ok (s.modBlt fun b => { b with
      sel := BitVec.ofNat 8 sel, arg := BitVec.ofNat 8 arg, selAt := s.ticks + usTicks })

/-! ### The test access port (R413, R414) -/

/-- The model's numbers for the open set: 0xFF BYPASS, 1 IDCODE, 2 SAMPLE/PRELOAD. -/
def tapOpen (code : Nat) : Bool := code == 0xFF || code == 1 || code == 2

/-- The model's numbers for the scan set: 0 EXTEST, 3 EXTEST_PULSE, 4 EXTEST_TRAIN, 5 CLAMP, 6 HIGHZ. -/
def tapScan (code : Nat) : Bool := code == 0 || code == 3 || code == 4 || code == 5 || code == 6

/-- A scan-set instruction is accepted (R413). -/
def State.scanOk (s : State) : Bool :=
  has s.bltScope 2 && (s.sys.devState == .boot || s.sys.devState == .safe) && s.pair.role != .active

/-- TAP_INSTRUCTION (R413, R414). -/
def execTapInstruction (dt : Nat) (code : BitVec 8) (s : State) : Res :=
  let s := s.advance dt
  let n := code.toNat
  .next (if tapOpen n then s.modBlt fun b => { b with ir := code, scanActive := false }
    else if tapScan n && s.scanOk then
      (s.modBlt fun b => { b with ir := code, scanActive := true }).raise (src 15 28)
    else
      let s1 := (s.modBlt fun b => { b with ir := 0xFF, scanActive := false, probes := b.probes + 1 }).raise (src 15 26)
      if has s.bltScope 2 then s1 else s1.tamper 11)

/-- TAP_TEST_LOGIC_RESET (R415): no scan instruction is in force. -/
def execTapTestLogicReset (dt : Nat) (s : State) : Res :=
  let s := s.advance dt
  .next (s.modBlt fun b => { b with ir := 0xFF, scanActive := false })

/-! ### Self-test (R416) -/

/-- No enabled lane among those of the mask of quads. -/
def State.lanesOff (s : State) (quads : BitVec 4) : Bool :=
  (List.range 16).all fun l => !has quads (l / 4) || !(Tab.get s.cfg.eth.lane l LaneCfg.reset).enable

/-- The condition of a target (R416); a target whose domain is off cannot run. -/
def State.bistOk (s : State) (quads : BitVec 4) (t : Nat) : Bool :=
  match t with
  | 0 => s.lanesOff 0xF && (s.cfg.svc.ports.toList.all fun c => !c.enable) && s.ready pdEngine
  | 1 => (s.cfg.tic.ch.toList.all fun c => c.mode == 0) && s.ready pdTic
  | 2 => s.acd.state != .acquire && s.acd.state != .locked && s.ready pdEngine
  | 3 => s.lanesOff quads && ((List.range 4).all fun q => !has quads q || s.ready (pdQ q))
  | 4 => s.gns.acq.isNone && !s.gns.snapBusy && !s.gns.snapArmed && (s.gns.trk.toList.all fun k => !k.assigned) &&
      s.ready pdGnss
  | _ => s.ready pdTime

/-- SYS_BIST_RUN: the result's VALID clears as the run starts (R57). -/
def specSysBistRun : OpSpec where
  opcode := 0x0051
  states := stM
  len := fun _ => some 3
  params := fun _ p =>
    p.only [0x3F, if flag (p.w 0) 3 then 0xF else 0, if flag (p.w 0) 5 then 0xFFFF else 0] && p.w 0 != 0
  body := fun p s =>
    let m : BitVec 6 := (p.w 0).setWidth 6
    let q : BitVec 4 := (p.w 1).setWidth 4
    if s.blt.bist.isSome then Done.err s .busy
    else if (List.range 6).any fun t => has m t && !s.bistOk q t then Done.err s .state
    else
      let r : BistRun := { mask := m, quads := q, outs := (p.w 2).setWidth 16, start := s.ticks }
      Done.ok (s.modBlt fun b => { b with bist := some r, bistValid := false })

/-- The sub-bank test's failures are spared as R158 has it; which sub-banks failed is a free value. -/
def State.bistGns (s : State) (fails : Bool) : State :=
  if fails then s.drawn.bankTest (s.free.setWidth 72) else s.bankTest 0

/-- The targets that change state have run. -/
def State.bistEffects (s : State) (m fail : BitVec 6) : State :=
  let s1 := s.bistClears m
  if has m 4 then s1.bistGns (has fail 4) else s1

/-- BIST_DONE (R416): every target named has run its time; `fail` names those that failed. -/
def execBistDone (dt : Nat) (fail : BitVec 6) (s : State) : Res :=
  let s := s.advance dt
  match s.blt.bist with
  | none => .next s
  | some r =>
    if s.ticks < r.start + r.begins 6 then .next s
    else
    let f := fail &&& r.mask
    let s1 := (s.bistEffects r.mask f).modBlt fun b => { b with
      bist := none, bistValid := true, bistStatus := if f = 0 then 0 else 1, bistFail := f, bistSeq := b.bistSeq + 1 }
    .next (s1.raise (src 15 27) 0 f.toNat)

end Sys2Proof.Machine
end

