-- ==== Sys2Proof/Machine/Log.lean ====
section
/-! DEFINITION. The LOG commands (R327) and the LOG engine's events. -/

namespace Sys2Proof.Machine

/-! ### Queries -/

/-- LOG_STATUS. -/
def State.logStatus (s : State) : W32 :=
  let g := s.log
  word [(0, g.level.toNat), (3, g.fallback.toNat), (4, (!g.lskOn).toNat), (5, g.signing.toNat),
    (6, (!g.replay.isEmpty).toNat), (16, if g.lskOn then g.keyEpoch.toNat else 0)]

/-- A 48-bit SEQ in two words. -/
def seqWords (q : BitVec 48) : List W32 := leWords 2 q.toNat

/-- The 24 words of LOG_QUERY_STATUS. -/
def State.logWords (s : State) : List W32 :=
  let g := s.log
  [s.logStatus, BitVec.ofNat 32 g.heldCount, BitVec.ofNat 32 (64 * g.manifest.length)] ++ seqWords g.seq ++
    digWords g.head ++ seqWords g.ckSeq ++ seqWords g.lastExported ++ seqWords g.acked ++ w64 g.refused ++
    w64 g.unentered ++ [g.mirrorSkip]

/-- LOG_QUERY_STATUS. -/
def specLogQueryStatus : OpSpec where
  opcode := 0x0A00
  states := stAll
  len := fun _ => some 0
  body := answer fun _ s => s.logWords

/-- LOG_QUERY_HEAD. -/
def specLogQueryHead : OpSpec where
  opcode := 0x0A01
  states := stAll
  len := fun _ => some 0
  body := answer fun _ s =>
    let ck := s.log.lastCk.flatMap LogEntry.words
    seqWords s.log.seq ++ digWords s.log.head ++ (ck ++ List.replicate 48 0).take 48

/-! ### Release (R324) -/

/-- Held entries that ring 4 has carried, up to a SEQ, are released; those a replay has yet to carry stay. -/
def State.release (s : State) (q : BitVec 48) : State :=
  let owed := s.log.replay.map (·.seq)
  let go : LogEntry → Bool := fun e =>
    decide (e.seq ≤ q) && decide (e.seq ≤ s.log.lastExported) && !owed.contains e.seq
  let gone := s.log.held.filter go
  if gone.isEmpty then s
  else
    let a := { s with log := { s.log with
      held := s.log.held.filter fun (e : LogEntry) => !go e
      acked := gone.foldl (fun (m : BitVec 48) (e : LogEntry) => if m < e.seq then e.seq else m) s.log.acked } }
    a.logRecover.logLevel State.logPut

/-- LOG_EXPORT_ACK. Entries a replay holds back are released once it has carried them: ACKED names the SEQ. -/
def specLogExportAck : OpSpec where
  opcode := 0x0A40
  states := stAll
  len := fun _ => some 2
  params := fun s p => (p.w 1 &&& 0xFFFF0000) == 0 && decide ((p.w2 0).toNat ≤ s.log.lastExported.toNat)
  body := fun p s =>
    let q : BitVec 48 := (p.w2 0).setWidth 48
    let r := { s with log := { s.log with ackReq := if s.log.ackReq < q then q else s.log.ackReq } }
    Done.ok (r.release q)

/-! ### Export, checkpoints, notes -/

/-- The held entries a replay carries (R327). -/
def State.replayOf (s : State) (q : BitVec 48) : List LogEntry :=
  s.log.held.filter fun e => decide (q ≤ e.seq) && decide (e.seq ≤ s.log.lastExported)

/-- LOG_SET_EXPORT. -/
def specLogSetExport : OpSpec where
  opcode := 0x0A41
  states := stIRM
  len := fun _ => some 3
  params := fun s p =>
    let w := p.w 0
    let h := fld w 0 7
    let q : BitVec 48 := (p.w2 1).setWidth 48
    (w &&& 0xFFFFFC80) == 0 && (p.w 2 &&& 0xFFFF0000) == 0 && decide (1 ≤ h) && decide (h ≤ 89) &&
      (if flag w 9 then s.log.held.any fun e => e.seq == q else p.w 1 == 0 && p.w 2 == 0)
  csp := fun _ => true
  body := fun p s =>
    let w := p.w 0
    let q : BitVec 48 := (p.w2 1).setWidth 48
    if flag w 9 && !s.log.replay.isEmpty then Done.err s .busy
    else if flag w 9 && !(s.log.held.any fun e => e.seq == q) then Done.err s .badParam
    else
      let a := { s with cfg := { s.cfg with log := { s.cfg.log with
        highPct := w.extractLsb' 0 7, ckMirror := flag w 8 } } }
      let b := a.logLevel State.logPut
      if flag w 9 then
        let r := b.replayOf q
        let c := { b with log := { b.log with replayFrom := q, replay := r } }
        Done.ok (if r.isEmpty then c.irq (src 13 10) else c)
      else Done.ok b

/-- LOG_CHECKPOINT. -/
def specLogCheckpoint : OpSpec where
  opcode := 0x0A42
  states := 0x0F
  len := fun _ => some 0
  body := fun _ s =>
    if s.log.signing || s.log.ckWait then Done.err s .busy
    else
      let q := s.log.nextSeq
      Done.ok (s.checkpoint true) (seqWords q)

/-- The SEQ an entry that arises now will have, behind what waits for a signature. -/
def State.nextEntrySeq (s : State) : BitVec 48 :=
  if s.log.signing then
    s.log.nextSeq + BitVec.ofNat 48 (2 + s.log.waitQ.length + (decide (0 < s.log.gapCount)).toNat)
  else s.log.nextSeq

/-- LOG_NOTE: the NOTE entry, then the command's own (R12, R316). -/
def specLogNote : OpSpec where
  opcode := 0x0A43
  states := stAll
  len := fun _ => some 10
  params := fun _ p =>
    let n := fld (p.w 0) 16 16
    decide (n ≤ 36) && textOk (wordsBytes ((p.payload.drop 1).take 9)) n
  body := fun p s =>
    let q := s.nextEntrySeq
    let e := entryOf 0x0F p.master.toNat 0 s.stamp ((p.payload ++ List.replicate 10 0).take 10)
    Done.ok (s.logPut e) (seqWords q)

/-! ### Events -/

/-- Entries other than the last checkpoint's signature have been written since it (R318). -/
def State.ckDue (s : State) : Bool := decide (0 < s.log.sinceCk - (s.log.lastCk.length - 1)) ||
  (s.log.lastCk.isEmpty && s.log.any)

/-- A whole second of the accord arrives on this tick: it is the second's first tick, also after a backward step, or a forward
step has crossed into a later second (R318). -/
def State.secondArrives (s : State) : Bool :=
  decide (s.now16 % sec16 < s.tickLen) || (match s.log.lastSec with
    | some n => decide (n < s.now16 / sec16)
    | none => true)

/-- A whole accord second arrives: a checkpoint is written where one is due, and the head is persisted with it (R318,
R320). -/
def execLogSecondTick (dt : Nat) (keepFail : Option (BitVec 10)) (s : State) : Res :=
  let s := s.advance dt
  if s.sys.devState == .boot || s.sys.inReset || !s.secondArrives then .next s
  else
    let a := { s with log := { s.log with persistedThisSec := false, lastSec := some (s.now16 / sec16) } }
    let b := match keepFail with
      | some row => if a.ckDue && !a.keep.ro then (a.keepRowFail row).1 else a
      | none => a
    .next (if b.ckDue then b.checkpoint false else b)

/-- The entries that waited behind a signature follow it (R318). -/
def State.drainWait (s : State) : State :=
  let q := s.log.waitQ
  q.foldl State.logPut { s with log := { s.log with waitQ := [] } }

/-- A checkpoint's signature completes: SIG_R, SIG_S, a GAP entry where entries were missed, then what waited (R318). -/
def execLogSignatureDone (dt : Nat) (r : BitVec 256) (s_ : BitVec 256) (s : State) : Res :=
  let s := s.advance dt
  if !s.log.signing then .next s
  else
    let forced := s.log.forcedSig
    let a := { s with log := { s.log with signing := false, forcedSig := false } }
    let d := ((a.logSig 0x0A r).logSig 0x0B s_).ckOrderly State.logPut
    let e := if forced then d.irq (src 13 7) else d
    let f := (e.logGap.logLevel State.logPut).drainWait
    .next (if f.log.ckWait && !f.log.signing then f.logRecover else f).settle

end Sys2Proof.Machine
end

