-- ==== Sys2Proof/Machine/Mon.lean ====
section
/-! DEFINITION. Monitors, the keep's scrub and the calendar (R386 to R408): the MON, KEEP and CAL opcodes and the events
of those blocks. -/

namespace Sys2Proof.Machine

/-- A MON field changes. -/
def State.modMon (s : State) (f : Mon → Mon) : State := { s with mon := f s.mon }

/-- A MON field of the keep changes. -/
def State.setMonCfg (s : State) (f : MonCfg → MonCfg) : State := { s with cfg := { s.cfg with mon := f s.cfg.mon } }

/-- The calendar changes. -/
def State.modVbat (s : State) (f : Vbat → Vbat) : State := { s with vbat := f s.vbat }

/-- A level source follows its condition. -/
def State.faultLevelIs (s : State) (n : Nat) (on : Bool) : State :=
  if on then s.faultAssert n else if has s.flt.present n then s.faultEnd n else s

/-! ### Registers -/

/-- MON_STATUS. -/
def State.monStatus (s : State) : W32 :=
  let m := s.mon
  word [(0, m.pfw.toNat), (1, m.pfwPin.toNat), (2, m.mainsPresent.toNat), (3, m.mainsRange.toNat), (4, m.pfw.toNat),
    (8, m.supWarn.toNat), (16, m.tempWarn.toNat), (22, m.vbatLow.toNat)]

/-- MON_TEMP_c. -/
def State.tempWord (s : State) (c : Nat) : W32 :=
  word [(0, (Tab.get s.mon.temp c 0).toNat), (16, (has s.mon.tempValid c).toNat)]

/-- Benit lanes that have block lock (R400). -/
def State.lanesLocked (s : State) : Nat := (has s.pair.lanesUp 0).toNat + (has s.pair.lanesUp 1).toNat

/-- MON_SPARES (R400). -/
def State.sparesWord (s : State) : W32 :=
  word [(0, s.mon.ticFree.toNat), (4, s.mon.gnssFree.toNat), (8, s.keep.sparesFree), (16, s.lanesLocked)]

/-- MON_QUERY's words. -/
def State.monWords (s : State) : List W32 :=
  let m := s.mon
  [s.monStatus] ++ (m.supMv.toList.map fun v => v.setWidth 32) ++ (List.range 6).map s.tempWord ++
    [m.rmsDv.setWidth 32, m.freqMhz] ++ taiWords m.pfwAt ++ [ebWord m.pfwEb m.pfwFlags, s.sparesWord]

/-- KEEP_STATUS. -/
def State.keepStatus (s : State) : W32 :=
  let k := s.keep
  word [(0, k.restored.toNat), (1, k.blank.toNat), (2, k.ro.toNat), (3, k.scrubBusy.toNat), (4, s.mon.pfw.toNat),
    (8, k.sparesFree)]

/-- KEEP_QUERY's words: the registers to KEEP_SCRUB_COUNTS, then the counters. -/
def State.keepWords (s : State) : List W32 :=
  let k := s.keep
  [s.keepStatus, k.commitSeq, word [(0, s.cfg.keep.scrubH.toNat)],
    word [(0, k.scrubValid.toNat), (1, k.scrubOk.toNat), (16, k.scrubSeq.toNat)],
    word [(0, k.scrubCorrected.toNat), (16, k.scrubSpared.toNat)]] ++ w64 k.writes ++
    [k.verifyFail, k.corrected, k.uncorr, k.roSkips, k.pfwRefused]

/-- The calendar syncs now (R402). -/
def State.calSyncing (s : State) : Bool := s.acd.state == .locked || s.acd.state == .drydownIn

/-- CAL_EB_NOW: the bound in microseconds, all ones while not VALID (R403). -/
def State.calEbUs (s : State) : W32 :=
  if s.vbat.calValid then BitVec.ofNat 32 (min 0xFFFFFFFE (ceilDiv s.calEb 100000)) else 0xFFFFFFFF

/-- The registers CAL_STATUS to CAL_EB_NOW, by offset. -/
def State.calRegs (s : State) : List (Nat × W32) :=
  let v := s.vbat
  let c := s.cfg.cal
  let n := s.calCount
  [(0x00, word [(0, v.calValid.toNat), (1, s.calSyncing.toNat), (2, v.xtalOk.toNat), (3, s.mon.vbatLow.toNat)]),
    (0x04, BitVec.ofNat 32 (n % 32768)), (0x08, BitVec.ofNat 32 (n / 32768)),
    (0x0C, BitVec.ofNat 32 (n / 32768 / 2 ^ 32 % 65536)), (0x18, word [(0, c.calEbMs.toNat)]),
    (0x1C, word [(0, c.calDriftPpb.toNat)]), (0x20, word [(0, c.trimPpb.toNat), (24, c.autoTrim.toNat)]),
    (0x24, v.calOffsetPpb), (0x28, s.calEbUs)] ++ at64 0x10 (v.lastSyncS.setWidth 64)

/-- CAL_STATUS to CAL_EB_NOW. -/
def State.calWords (s : State) : List W32 := win 11 s.calRegs

/-! ### Queries -/

/-- MON_QUERY. -/
def specMonQuery : OpSpec where
  opcode := 0x0C00
  states := stAll
  len := fun _ => some 0
  body := answer fun _ s => s.monWords

/-- KEEP_QUERY. -/
def specKeepQuery : OpSpec where
  opcode := 0x0C01
  states := stAll
  len := fun _ => some 0
  body := answer fun _ s => s.keepWords

/-- CAL_QUERY. -/
def specCalQuery : OpSpec where
  opcode := 0x0C02
  states := stAll
  len := fun _ => some 0
  body := answer fun _ s => s.calWords

/-! ### Supplies and temperatures (R386 to R388) -/

/-- MON_SET_LIMITS. -/
def specMonSetLimits : OpSpec where
  opcode := 0x0C40
  states := stIRM
  len := fun _ => some 2
  params := fun _ p =>
    let temp := flag (p.w 0) 4
    let c := fld (p.w 0) 0 4
    p.only [0x1F, if temp then 0xFFFF else 0xFFFFFFFF] && decide (c ≤ if temp then 5 else 7) &&
      (temp || decide (fld (p.w 1) 0 16 < fld (p.w 1) 16 16))
  csp := fun _ => true
  body := fun p s =>
    let c := fld (p.w 0) 0 4
    let lo : BitVec 16 := (p.w 1).setWidth 16
    Done.ok (s.setMonCfg fun m =>
      if flag (p.w 0) 4 then { m with tempHigh := Tab.set m.tempHigh c lo }
      else { m with sup := Tab.set m.sup c { lowMv := lo, highMv := (p.w 1).extractLsb' 16 16 } })

/-- Rail `r`'s reading lies below its LOW_MV. -/
def State.supLow (s : State) (r : Nat) (mv : BitVec 16) : Bool :=
  decide (mv < (Tab.get s.cfg.mon.sup r SupLim.reset).lowMv)

/-- Rail `r`'s reading lies outside its limits. -/
def State.supBad (s : State) (r : Nat) (mv : BitVec 16) : Bool :=
  s.supLow r mv || decide ((Tab.get s.cfg.mon.sup r SupLim.reset).highMv < mv)

/-- A rail's new reading: it has stayed on its side since the last reading that lay elsewhere. -/
def State.supRead (s : State) (r : Nat) (mv : BitVec 16) : State :=
  let b := s.supBad r mv
  let same := b = has s.mon.supOut r && (!b || s.supLow r mv = s.supLow r (Tab.get s.mon.supMv r 0))
  s.modMon fun m => { m with
    supMv := Tab.set m.supMv r mv
    supSince := if same then m.supSince else Tab.set m.supSince r s.ticks
    supOut := putBit m.supOut r b }

/-- SUPPLY_SAMPLE (R386): the readings of the rails, in mV. -/
def execSupplySample (dt : Nat) (mv : List (BitVec 16)) (s : State) : Res :=
  let s := s.advance dt
  .next ((List.range 8).foldl (fun s r => match mv[r]? with
    | some v => s.supRead r v
    | none => s) s)

/-- VBAT_LOW follows (R386). -/
def State.vbatLowIs (s : State) (on : Bool) : State :=
  if s.mon.vbatLow = on then s
  else
    let s1 := s.modMon fun m => { m with vbatLow := on }
    if on then (s1.raise (src 14 22)).faultAssert 204 else s1.faultEnd 204

/-- Rail `r`'s warning follows (R386). -/
def State.supWarnIs (s : State) (r : Nat) (on : Bool) : State :=
  if has s.mon.supWarn r = on then s
  else
    let s1 := s.modMon fun m => { m with supWarn := putBit m.supWarn r on }
    if on then (s1.raise (src 14 2) r (Tab.get s.mon.supMv r 0).toNat).faultAssert (196 + r) else s1.faultEnd (196 + r)

/-- SUPPLY_WARNING_CHANGE (R386): a rail has stayed on one side for 1 ms. VBAT below its LOW_MV is VBAT_LOW and never a
supply warning. -/
def execSupplyWarningChange (dt : Nat) (r : BitVec 3) (s : State) : Res :=
  let s := s.advance dt
  let k := r.toNat
  let out := has s.mon.supOut k
  let low := k = 7 && s.supLow 7 (Tab.get s.mon.supMv 7 0)
  .next (if decide (Tab.get s.mon.supSince k 0 + msTicks ≤ s.ticks) then
    let s1 := s.supWarnIs k (out && !low)
    if k = 7 then s1.vbatLowIs (out && low) else s1
  else s)

/-- A channel's reading is VALID: a diode is detected on a remote channel (a reading of 0x8000 stands for none), or the
channel's die is powered (R388). -/
def State.tempOk (s : State) (c : Nat) (v : BitVec 16) : Bool :=
  if 4 ≤ c then v != 0x8000 else if 2 ≤ c then s.sys.domOn.toNat / 16 ≠ 0 else true

/-- Channel `c`'s new reading: its warning follows (R407). -/
def State.tempRead (s : State) (c : Nat) (v : BitVec 16) : State :=
  let ok := s.tempOk c v
  let warn := ok && decide ((Tab.get s.cfg.mon.tempHigh c 0).toInt < v.toInt)
  let was := has s.mon.tempWarn c
  let s1 := s.modMon fun m => { m with
    temp := if ok then Tab.set m.temp c v else m.temp, tempValid := putBit m.tempValid c ok
    tempWarn := putBit m.tempWarn c warn }
  if warn && !was then (s1.raise (src 14 3) c v.toInt).faultAssert (205 + c)
  else if was && !warn then s1.faultEnd (205 + c) else s1

/-- JUNCTION_LIMIT follows channels 0 to 3 (R436). -/
def State.junction (s : State) : State :=
  s.faultLevelIs 9 ((List.range 4).any fun c =>
    has s.mon.tempValid c && decide (12400 ≤ (Tab.get s.mon.temp c 0).toInt))

/-- EXT_TEMP_ABSENT follows the channels that TEMP_SRC and the TIC block name (R388). -/
def State.extTemp (s : State) : State :=
  let on := !has s.mon.tempValid s.osc.tempSrc.toNat || (s.ready pdTic && !has s.mon.tempValid 1)
  let s1 := if on && !has s.flt.present 217 then s.raise (src 14 8) else s
  s1.faultLevelIs 217 on

/-- TEMP_SAMPLE (R387, R388): the readings of the channels, in 0.01 degrees. -/
def execTempSample (dt : Nat) (t : List (BitVec 16)) (s : State) : Res :=
  let s := s.advance dt
  let s1 := (List.range 6).foldl (fun s c => match t[c]? with
    | some v => s.tempRead c v
    | none => s) s
  .next (((s1.holdTemp).anchorTempStep.extTemp).junction)

/-! ### The power-fail warning (R390, R395, R322) -/

/-- The log's reaction (R322): POWER_FAIL, a FORCED checkpoint, and after its signature the persisted head; at once where
the exhausted log makes the checkpoint wait. -/
def State.logPfw (s : State) : State :=
  if s.sys.devState = .boot then s
  else
    let s1 := s.logPut (entryOf 0x10 15 0 s.stamp (w64 (s.log.lastExported.setWidth 64)))
    let s2 := { s1 with log := { s1.log with pfWant := true } }.checkpoint true
    if s2.log.pfWant && !s2.log.signing then
      { s2 with log := { s2.log with pfWant := false } }.persistHead State.logPut true
    else s2

/-- PFW asserts. -/
def State.pfwAssert (s : State) : State :=
  let t := s.stamp
  let s1 := s.modMon fun m => { m with
    pfw := true, pfwAt := t.time, pfwEb := t.eb, pfwFlags := t.flags, pfwCount := m.pfwCount + 1 }
  let s1 := { s1 with keep := { s1.keep with scrubCut := s1.keep.scrubBusy } }
  let s2 := ((s1.irq (src 14 0)).faultAssert 211).keyPfw
  let s3 := (s2.bistAbort).logPfw
  (List.range 16).foldl (fun s l => if s.capOn l then s.capSuspend l 3 else s) s3

/-- A condition of PFW holds (R390). -/
def State.pfwCond (s : State) : Bool :=
  (s.cfg.mon.pfwPinEn && s.mon.pfwPin) || (s.cfg.mon.mainsEn && (s.mon.lowRms || s.mon.gapOut))

/-- Both conditions of clearing hold (R390). -/
def State.pfwClearOk (s : State) : Bool :=
  (!s.mon.pfwPin || !s.cfg.mon.pfwPinEn) && (s.mon.rmsClear || !s.cfg.mon.mainsEn)

/-- PFW follows a change, and the PFW_CLEAR_MS count restarts where a clearing condition has just been met. `was`: both
held before. -/
def State.pfwEval (s : State) (was : Bool) : State :=
  let s1 := if s.pfwClearOk && !was then s.modMon fun m => { m with clearSince := s.ticks } else s
  if !s1.mon.pfw && s1.pfwCond then s1.pfwAssert else s1

/-- PFW_PIN_CHANGE (R390). -/
def execPfwPinChange (dt : Nat) (low : Bool) (s : State) : Res :=
  let s := s.advance dt
  .next ((s.modMon fun m => { m with pfwPin := low }).pfwEval s.pfwClearOk)

/-- PFW_CLEAR (R390): the clearing conditions have held for PFW_CLEAR_MS; blocks resume. -/
def execPfwClear (dt : Nat) (s : State) : Res :=
  let s := s.advance dt
  let due := decide (s.mon.clearSince + s.cfg.mon.pfwClearMs.toNat * msTicks ≤ s.ticks)
  .next (if s.mon.pfw && s.pfwClearOk && due then
    let s1 := ((s.modMon fun m => { m with pfw := false }).raise (src 14 1)).faultEnd 211
    let s2 := { s1 with key := { s1.key with pfwBlock := false } }
    (List.range 16).foldl State.capResume s2
  else s)

/-! ### Mains (R389, R391) -/

/-- Limits of MON_SET_MAINS (R389, R390). -/
def monSetMainsOk (p : Packet) : Bool :=
  let w := p.w 0
  p.only [0xFFFFFF03, 0xFFFFFFFF, 0xFFFF, 0xFFFFFFFF, 0xFFFFFF] && fld w 0 2 != 0 &&
    decide (23 ≤ fld w 8 8) && decide (fld w 8 8 ≤ 100) && decide (10 ≤ fld w 16 16) && decide (fld w 16 16 ≤ 10000) &&
    decide (fld (p.w 1) 0 16 < fld (p.w 1) 16 16)

/-- MON_SET_MAINS. -/
def specMonSetMains : OpSpec where
  opcode := 0x0C41
  states := stIRM
  len := fun _ => some 5
  params := fun _ p => monSetMainsOk p
  csp := fun _ => true
  body := fun p s =>
    let w := p.w 0
    let s1 := s.setMonCfg fun m => { m with
      mainsEn := flag w 0, pfwPinEn := flag w 1, pfwGapMs := BitVec.ofNat 8 (fld w 8 8)
      pfwClearMs := BitVec.ofNat 16 (fld w 16 16), pfwLowV := (p.w 1).setWidth 16
      pfwClearV := (p.w 1).extractLsb' 16 16, fsV := (p.w 2).setWidth 16, mainsDelayNs := p.w 3
      mainsDunc := (p.w 4).setWidth 24 }
    Done.ok (s1.pfwEval s.pfwClearOk)

/-- The conditions of MAINS_RANGE as they stand (R389). -/
def rangeBits (rms freq : Nat) : BitVec 3 :=
  BitVec.ofNat 3 ((decide (rms < 850)).toNat + 2 * (decide (2650 < rms)).toNat
    + 4 * (decide (freq < 45000) || decide (66000 < freq)).toNat)

/-- One of the conditions of MAINS_RANGE has held for 1 s (R389). -/
def State.rangeHeld (s : State) : Bool :=
  (List.range 3).any fun i => has s.mon.rangeBad i && decide (Tab.get s.mon.rangeSince i 0 + sTicks ≤ s.ticks)

/-- The conditions follow RMS and frequency; MAINS_RANGE ends where none that has held for 1 s is left (R389). -/
def State.rangeEval (s : State) (rms freq : Nat) : State :=
  let b := rangeBits rms freq
  let s1 := s.modMon fun m => { m with
    rangeBad := b
    rangeSince := Tab.mapIdx m.rangeSince fun i t => if has b i && !has m.rangeBad i then s.ticks else t }
  if s.mon.mainsRange && !s1.rangeHeld then (s1.modMon fun m => { m with mainsRange := false }).faultEnd 212 else s1

/-- The mains voltage, in 0.1 V cut down, of an input of `uv` microvolts: full scale of 1.0 V stands for FS_V (R389; the cut
DESIGN CHOICE, log entry 86). -/
def State.mainsDv (s : State) (uv : Nat) : Nat := min 65535 (uv * s.cfg.mon.fsV.toNat * 10 / 1000000)

/-- The square root of `n`, cut to whole numbers, below 2^16. -/
def rootOf (n : Nat) : Nat :=
  (List.range 16).foldl (fun r i => let c := r + 2 ^ (15 - i); if c * c ≤ n then c else r) 0

/-- The RMS of a cycle from those of its two half-cycles, cut down (R391; DESIGN CHOICE, log entry 86). -/
def cycleRms (a b : Nat) : Nat := rootOf ((a * a + b * b) / 2)

/-- MAINS_HALF_CYCLE (R389, R390): a half-cycle ends; its RMS at the balls, in microvolts. -/
def execMainsHalfCycle (dt : Nat) (rmsUv : BitVec 20) (s : State) : Res :=
  let s := s.advance dt
  let c := s.cfg.mon
  let v := s.mainsDv rmsUv.toNat
  let rms : BitVec 16 := BitVec.ofNat 16 v
  let ok := decide (c.pfwClearV.toNat * 10 ≤ v) && !s.mon.gapOut && decide (0 < s.mon.crossings)
  let s1 := s.modMon fun m => { m with
    rmsDv := if m.mainsPresent then rms else 0, halfRms := rms, halfPrev := m.halfRms
    lowRms := decide (v < c.pfwLowV.toNat * 10), rmsClear := ok }
  let s2 := if s.mon.mainsPresent then s1.rangeEval v s.mon.freqMhz.toNat else s1
  .next (s2.pfwEval s.pfwClearOk)

/-- The record of a crossing enters the queue (R391). -/
def State.mainsPush (s : State) (rec : List W32) : State :=
  if 256 ≤ s.mon.queue.length then (s.modMon fun m => { m with lost := m.lost + 1 }).irq (src 14 6)
  else
    let s1 := s.modMon fun m => { m with queue := m.queue ++ [rec] }
    if s1.mon.queue.length = 192 then s1.irq (src 14 5) else s1

/-- The place of an event `phase` before this tick, in 2^-16 ns of the tick scale. -/
def State.tickPlace (s : State) (phase : Nat) : Nat := s.ticks * 262144 / 5 - phase

/-- The stamp of a crossing `phase` before this tick, in 2^-16 ns: less MAINS_DELAY_NS, with the converter's and the board's
bounds (R391). -/
def State.crossStamp (s : State) (phase : Nat) : Stamp :=
  let c := s.cfg.mon
  s.stampTick (s.ticks - phaseTicks phase) (phaseSub phase - c.mainsDelayNs.toInt * 65536) (50000 + c.mainsDunc.toNat)

/-- MAINS_CROSSING (R389, R391): a positive-going zero crossing, `phase` before this tick in 2^-16 ns; the cycle that it ends
began at the crossing before it. -/
def execMainsCrossing (dt : Nat) (phase : Nat) (s : State) : Res :=
  let s := s.advance dt
  let n := min 2 (s.mon.crossings + 1)
  let x := s.tickPlace phase
  let per := if n = 2 then (x - s.mon.crossAt) / 65536 else 0
  let rms := if n = 2 then cycleRms s.mon.halfRms.toNat s.mon.halfPrev.toNat else 0
  let t := s.crossStamp phase
  let f := if per = 0 then 0 else 10 ^ 12 / per
  let s1 := s.modMon fun m => { m with
    crossings := n, lastCross := s.ticks, crossAt := x, gapOut := false, mainsPresent := m.mainsPresent || n = 2
    freqMhz := BitVec.ofNat 32 f, rmsDv := if n = 2 then m.halfRms else 0 }
  let s2 := s1.mainsPush (taiWords t.time ++
    [ebWord t.eb (putBit t.flags 5 s.mon.mainsRange), BitVec.ofNat 32 per, word [(0, rms)]])
  .next (if n = 2 then s2.rangeEval s2.mon.rmsDv.toNat f else s2)

/-- MAINS_GAP_TIMEOUT (R389, R390): PFW_GAP_MS without a positive-going crossing. -/
def execMainsGapTimeout (dt : Nat) (s : State) : Res :=
  let s := s.advance dt
  .next (if s.mon.gapOut || s.ticks < s.mon.lastCross + s.cfg.mon.pfwGapMs.toNat * msTicks then s
    else
      let s1 := s.modMon fun m => { m with
        gapOut := true, mainsPresent := false, crossings := 0, rmsDv := 0, freqMhz := 0, rmsClear := false }
      (s1.rangeEval 0 0).pfwEval s.pfwClearOk)

/-- MAINS_RANGE_TIMER (R389): a condition has held for 1 s. -/
def execMainsRangeTimer (dt : Nat) (s : State) : Res :=
  let s := s.advance dt
  .next (if !s.mon.mainsRange && s.rangeHeld then
    ((s.modMon fun m => { m with mainsRange := true }).raise (src 14 4)).faultAssert 212
  else s)

/-! ### Scrubbing the keep (R399) -/

/-- A scrub starts; the result's VALID clears (R57). -/
def State.scrubStart (s : State) : State :=
  { s with keep := { s.keep with scrubBusy := true, scrubValid := false, scrubCut := false, lastScrub := s.ticks } }

/-- KEEP_SCRUB. -/
def specKeepScrub : OpSpec where
  opcode := 0x0C80
  states := 0x17
  len := fun _ => some 1
  params := fun _ p => p.only [if flag (p.w 0) 8 then 0x00FF0101 else 0x1]
  csp := fun p => flag (p.w 0) 8
  body := fun p s =>
    let w := p.w 0
    if flag w 0 && (s.keep.scrubBusy || s.mon.pfw) then Done.err s .busy
    else
      let h : BitVec 8 := BitVec.ofNat 8 (fld w 16 8)
      let s1 := if flag w 8 then { s with cfg := { s.cfg with keep := { s.cfg.keep with scrubH := h } } } else s
      Done.ok (if flag w 0 then s1.scrubStart else s1)

/-- KEEP_AUTO_SCRUB (R399): SCRUB_H hours have passed since the last scrub. -/
def execKeepAutoScrub (dt : Nat) (s : State) : Res :=
  let s := s.advance dt
  let h := s.cfg.keep.scrubH.toNat
  .next (if h ≠ 0 && !s.keep.scrubBusy && !s.mon.pfw && decide (s.keep.lastScrub + h * 3600 * sTicks ≤ s.ticks) then
    s.scrubStart else s)

/-- A free spare fails the write test (R399). -/
def State.spareFails (s : State) (i : BitVec 7) : State :=
  let r := Tab.get s.keep.remap i.toNat Remap.reset
  if r.used || r.failed then s
  else
    State.keepSpareTold { s with keep := { s.keep with remap := Tab.set s.keep.remap i.toNat { r with failed := true } } }

/-- KEEP_SCRUB_DONE (R394, R399): the scrub has run to its end, or to the row at which PFW stopped it. The fields of a row
that it lost take their defaults in the keep (log entry 85). -/
def execKeepScrubDone (dt : Nat) (r : KeepScrub) (s : State) : Res :=
  let s := s.advance dt
  .next (if !s.keep.scrubBusy then s
    else
      let s1 := r.spared.foldl (fun (s : State) row => (s.keepRowFail row).1) s
      let s2 := r.failed.foldl State.spareFails s1
      let k := (s2.keep.without r.lost).readCount r.corrected.toNat r.copies r.lost
      let s3 := { s2 with keep := { k with
        scrubBusy := false, scrubValid := true, scrubOk := !s.keep.scrubCut, scrubSeq := k.scrubSeq + 1
        scrubCorrected := r.corrected, scrubSpared := BitVec.ofNat 16 r.spared.length } }
      (s3.keepUncorr r.lost).raise (src 14 16))

/-! ### The calendar (R401 to R405) -/

/-- VALID sets. -/
def State.calSetValid (s : State) : State :=
  let s1 := s.modVbat fun v => { v with calValid := true }
  if has s.flt.present 213 then s1.faultEnd 213 else s1

/-- CAL_SET_TIME. -/
def specCalSetTime : OpSpec where
  opcode := 0x0CC0
  states := stIRM
  len := fun _ => some 3
  params := fun _ p => taiOk (p.tai 0)
  body := fun p s =>
    if s.calSyncing then Done.err s .state
    else
      let n := taiNat (p.tai 0) * 32768 / sec16
      let s1 := s.modVbat fun v => { v with
        seconds := BitVec.ofNat 48 (n / 32768), subsec := BitVec.ofNat 15 (n % 32768), calBase := s.ticks
        lastSyncS := BitVec.ofNat 48 (n / 32768), syncRun := 0, syncDevs := [] }
      Done.ok s1.calSetValid

/-- CAL_SET_TRIM. -/
def specCalSetTrim : OpSpec where
  opcode := 0x0CC1
  states := stIRM
  len := fun _ => some 3
  params := fun _ p =>
    let t : BitVec 24 := (p.w 0).setWidth 24
    p.only [0x01FFFFFF, 0xFFFF, 0xFFFFFFFF] && decide (t.toInt.natAbs ≤ 200000) && within (p.w 1) 1 60000 &&
      within (p.w 2) 1 1000000
  csp := fun _ => true
  body := fun p s =>
    let s1 := s.calRebase
    Done.ok { s1 with cfg := { s1.cfg with cal := { s1.cfg.cal with
      trimPpb := (p.w 0).setWidth 24, autoTrim := flag (p.w 0) 24, calEbMs := (p.w 1).setWidth 16
      calDriftPpb := (p.w 2).setWidth 20 } } }

/-- The enables as they read: bits 3, 9 and 10 always 1, bits 0 and 12 to 15 always 0 (R405). -/
def tamperMask (en : BitVec 16) : BitVec 16 := (en &&& 0x0FFE) ||| 0x0608

/-- CAL_SET_TAMPER. -/
def specCalSetTamper : OpSpec where
  opcode := 0x0CC2
  states := stIM
  len := fun _ => some 2
  lcOk := fun s p =>
    s.lc != .deployed || s.cfg.cal.tamperEn &&& ~~~(tamperMask ((p.w 0).setWidth 16)) == 0
  params := fun _ p => p.only [0x3FFFF, 0x3FF] && within (p.w 1) 1 1000
  csp := fun _ => true
  body := fun p s =>
    let en := tamperMask ((p.w 0).setWidth 16)
    let s1 := { s with cfg := { s.cfg with cal := { s.cfg.cal with
      tamperEn := en, tampPol := (p.w 0).extractLsb' 16 2, tampFilterUs := (p.w 1).setWidth 10 } } }
    Done.ok (s1.modVbat fun v => { v with tamperEn := en })

/-- CAL_OFFSET_PPB of a list of deviations in crystal counts per second (R402). -/
def calOffsetOf (ds : List Int) : Int := if ds.isEmpty then 0 else nearest (ds.sum * 10 ^ 9) (32768 * ds.length)

/-- This tick is the first of a whole accord second, also of one that is reached again after a backward step (R402). -/
def State.secondBegins (s : State) : Bool := decide (s.now16 % sec16 < s.tickLen)

/-- CAL_SYNC (R402): the first tick of a whole accord second while the calendar syncs. The deviation is measured first; SUBSEC
restarts at the crystal's next edge. -/
def execCalSync (dt : Nat) (s : State) : Res :=
  let s := s.advance dt
  .next (if !s.calSyncing || !s.ready pdTime || !s.vbat.xtalOk || !s.secondBegins then s
    else
      let sec := s.now16 / sec16
      let v := s.vbat
      let run := v.calValid && v.lastSyncS.toNat + 1 == sec
      let dev : Int := (s.calCount : Int) - (sec * 32768 : Nat)
      let ds := if run then (dev :: v.syncDevs).take 1024 else []
      let s1 := s.modVbat fun v => { v with
        seconds := BitVec.ofNat 48 sec, subsec := 0, calBase := s.calEdge, lastSyncS := BitVec.ofNat 48 sec
        syncRun := if run then v.syncRun + 1 else 0, syncDevs := ds
        calOffsetPpb := if ds.isEmpty then v.calOffsetPpb else BitVec.ofInt 32 (calOffsetOf ds) }
      if v.calValid then s1 else (s1.calSetValid).raise (src 14 20))

/-- CAL_AUTO_TRIM (R402): the end of 1,024 s of unbroken syncs with AUTO_TRIM set. -/
def execCalAutoTrim (dt : Nat) (s : State) : Res :=
  let s := s.advance dt
  let c := s.cfg.cal
  .next (if !c.autoTrim || s.vbat.syncRun < 1024 then s
    else
      let t := max (-200000) (min 200000 (c.trimPpb.toInt - s.vbat.calOffsetPpb.toInt))
      let x : BitVec 24 := BitVec.ofInt 24 t
      let s1 := (s.calRebase).modVbat fun v => { v with syncRun := 0, syncDevs := [] }
      if x = c.trimPpb then s1
      else
        let s2 := { s1 with cfg := { s1.cfg with cal := { c with trimPpb := x } } }
        let put : Keep → Keep := fun k => { k with image := k.image.map fun i => { i with cal := { i.cal with trimPpb := x } } }
        (s2.keepOwn put).raise (src 14 23))

/-- RTC_STOP (R401): the crystal has stopped for 2 ms. -/
def execRtcStop (dt : Nat) (s : State) : Res :=
  let s := s.advance dt
  .next ((s.calRebase).modVbat fun v => { v with xtalOk := false }).calLost

/-- PD_VBAT_POWER_LOSS (R401): VBAT and VDD_ANA are both lost, and with them the calendar, the latch and the seal. -/
def execPdVbatPowerLoss (dt : Nat) (s : State) : Res :=
  let s := s.advance dt
  .next { s.calLost with vbat := { Vbat.reset with calBase := s.ticks, tamperActive := s.vbat.tamperActive } }

end Sys2Proof.Machine
end

