-- ==== Sys2Proof/Machine/Flt.lean ====
section
/-! DEFINITION. The FLT opcodes, SYS_CLEAR_SAFE, and the fault collector's own events (R357 to R364, R383). -/

namespace Sys2Proof.Machine

/-! ### Registers -/

/-- A class A source is present (R363). -/
def State.causePresent (s : State) (m : BitVec 256) : Bool :=
  (List.range 256).any fun n => has m n && s.faultClass n == 2

/-- FIRST_A as it reads: 0 while SELF is set (R363). -/
def Flt.first (f : Flt) : Nat := if f.selfFail then 0 else f.firstA.toNat

/-- FLT_STATUS. -/
def State.fltStatus (s : State) : W32 :=
  let f := s.flt
  word [(0, f.safe.toNat), (1, f.selfFail.toNat), (2, (s.causePresent f.present).toNat), (8, f.first),
    (16, f.safeSeq.toNat)]

/-- The eight words of a set of sources. -/
def setWords (m : BitVec 256) : List W32 := (List.range 8).map fun i => m.extractLsb' (32 * i) 32

/-- The set of sources in eight payload words. -/
def Packet256 (p : Packet) : BitVec 256 :=
  (List.range 8).foldl (fun a i => a ||| ((p.w i).setWidth 256 <<< (32 * i))) 0

/-- FLT_STATUS to FLT_SAFE_EB, the latches and the present sources. -/
def State.fltWords (s : State) : List W32 :=
  let f := s.flt
  win 6 ([(0x00, s.fltStatus), (0x04, word [(0, f.tapId.toNat)]), (0x14, ebWord f.safeEb.toNat f.safeFlags)] ++
    at96 0x08 f.safeAt) ++ setWords f.latch ++ setWords f.present

/-! ### Opcodes -/

/-- FLT_QUERY. -/
def specFltQuery : OpSpec where
  opcode := 0x0B00
  states := stAll
  len := fun _ => some 0
  body := answer fun _ s => s.fltWords

/-- A level source that is present and raised to class A puts the device in the safe state (R360). -/
def State.classRaised (s : State) (n cls : Nat) : State :=
  if cls = 2 && has s.flt.present n && !s.flt.safe then s.safeLine n false
  else s.pairEval

/-- The class table with one source's class set. -/
def setClass (m : BitVec 512) (n cls : Nat) : BitVec 512 :=
  (m &&& ~~~((3 : BitVec 512) <<< (2 * n))) ||| (BitVec.ofNat 512 cls <<< (2 * n))

/-- FLT_SET_CLASS. -/
def specFltSetClass : OpSpec where
  opcode := 0x0B40
  states := stIM
  len := fun _ => some 1
  params := fun _ p => p.only [0x3FF] && fld (p.w 0) 8 2 != 3 && !faultFixed (fld (p.w 0) 0 8)
  csp := fun _ => true
  body := fun p s =>
    let n := fld (p.w 0) 0 8
    let c := fld (p.w 0) 8 2
    let f := s.cfg.flt
    let s1 := { s with cfg := { s.cfg with flt := { f with classes := setClass f.classes n c } } }
    Done.ok (s1.classRaised n c)

/-- Latch bits that FLT_CLEAR leaves set: those of class A sources and of level sources still present (R359). -/
def Flt.stays (f : Flt) (m : BitVec 256) : BitVec 256 := f.latch &&& m &&& (f.latchA ||| f.present)

/-- FLT_CLEAR. -/
def specFltClear : OpSpec where
  opcode := 0x0B41
  states := 0x0F
  len := fun _ => some 8
  body := fun p s =>
    let m := Packet256 p
    let k := s.flt.stays m
    Done.ok { s with flt := { s.flt with latch := s.flt.latch &&& ~~~(m &&& ~~~k) } } (setWords k)

/-- FLT_INJECT. -/
def specFltInject : OpSpec where
  opcode := 0x0B42
  states := stM
  len := fun _ => some 1
  params := fun _ p => p.only [0xFF] && fld (p.w 0) 0 8 != 0 && faultNamed (fld (p.w 0) 0 8)
  body := fun p s => Done.ok ((s.irq (src 11 5)).faultAssert (fld (p.w 0) 0 8) true)

/-! ### Leaving the safe state -/

/-- A chip in PAIRED mode becomes a standby that claims, with every HEALTH bit clear (R382). -/
def State.rejoinNow (s : State) : State :=
  let s1 := { s with pair := { s.pair with
    rejoinArmed := false, started := true, incumbent := false, own := false, health := 0
    notices := if s.pair.linkUp then s.pair.notices ++ [PairNotice.rejoin] else s.pair.notices } }
  (s1.setRole .standby).pairEval

/-- ACCORD_STATE as the safe state is left (R130); the servo may return to a slot that is still selected (R138). -/
def State.accordLeave (s : State) : State :=
  let t : AccordState := if s.acd.everLocked then s.dryState else if s.acd.everSeeded then .freerun else .cold
  let s1 := { s with acd := { s.acd with
    reentry := s.selectedSlot.isSome && !s.acd.forced, reentryAt := s.ticks, tapReload := true, tapsBad := [] } }
  let s2 := if s.acd.everLocked then s1.raise (src 3 2) 0 s1.acd.eb0 else s1
  s2.setAccord t

/-- The role after the safe state: SOLO in SOLO mode, else SAFE until a rejoin (R364, R382). -/
def State.roleLeave (s : State) : State :=
  if !s.cfg.pair.mode then s.setRole .solo else if s.pair.rejoinArmed then s.rejoinNow else s

/-- The safe state is left (R364). -/
def State.safeLeave (s : State) : State :=
  let first := s.flt.first
  let f := s.flt
  let s1 := { s with flt := { f with safe := false, latch := f.latch &&& ~~~f.latchA, latchA := 0 } }
  let scan := s1.blt.scanActive
  let s2 := if scan then { s1 with blt := { s1.blt with scanActive := false, ir := 0xFF } } else s1
  let s3 := (s2.raise (src 11 3) first).setDev .maint
  let s4 := (s3.accordLeave).roleLeave
  let s5 := (List.range 16).foldl State.gateEval s4
  let s6 := s5.react
  if s6.own && !s.own then s6.raise (src 4 11) else s6

/-- SYS_CLEAR_SAFE. -/
def specSysClearSafe : OpSpec where
  opcode := 0x0041
  states := 8
  len := fun _ => some 0
  body := fun _ s =>
    let f := s.flt
    let fresh := f.freshA && f.freshTick == s.ticks
    let before := if fresh then f.presentBefore else f.present
    if f.selfFail || s.causePresent before then Done.err s .state
    else if fresh then Done.err s .aborted
    else { st := s.safeLeave, status := .ok, payload := [word [(0, f.first)]] }

/-! ### Events -/

/-- A dual-rail or parity check of the collector fails: the safe-state line is driven whatever the class table says
(R361). -/
def State.selfFails0 (s : State) : State :=
  if s.sys.devState = .boot || s.flt.selfFail then s
  else
    let s1 := { s with flt := { s.flt.assert 0 true false s.ticks with selfFail := true } }
    (s1.raise (src 11 4)).safeLine 0 false

/-- The warden misses its watchdog: ALIVE stops (R358, R365). -/
def State.wardenLate (s : State) : State :=
  ({ s with sys := { s.sys with aliveLow := true } }).faultAssert 8

/-- FAULT_ASSERT (R357): source `n` asserts. `inst` tells which tap disagreed (source 3, R19). -/
def execFaultAssert (dt : Nat) (n : BitVec 8) (inst : BitVec 16) (s : State) : Res :=
  let s := s.advance dt
  let k := n.toNat
  .next (if k = 0 then s.selfFails0
    else if k = 8 then s.wardenLate
    else if k = 3 then
      let t : BitVec 8 := inst.setWidth 8
      ({ s with
        flt := { s.flt with tapId := t }
        acd := { s.acd with tapsBad := s.acd.tapsBad ++ [t] } }).faultAssert 3
    else s.faultAssert k)

/-- COLLECTOR_SELF_FAIL (R361). -/
def execCollectorSelfFail (dt : Nat) (s : State) : Res := .next (s.advance dt).selfFails0

/-- COLLECTOR_SELF_RECOVER (R361): the check passes again. -/
def execCollectorSelfRecover (dt : Nat) (s : State) : Res :=
  let s := s.advance dt
  .next { s with flt := { s.flt with selfFail := false } }

/-- WARDEN_WDOG_EXPIRY (R358, R365). -/
def execWardenWdogExpiry (dt : Nat) (s : State) : Res := .next (s.advance dt).wardenLate

end Sys2Proof.Machine
end

