-- ==== Sys2Proof/Machine/OutOps.lean ====
section
/-! DEFINITION. The OUT block's own operations (R207 to R230): bounds, glides, synchronisation, pulses, messages, echo. -/

namespace Sys2Proof.Machine

/-! ### Parts of the state -/

/-- A clock output at work. -/
def State.och (s : State) (n : Nat) : OutCh := Tab.get s.out.ch n OutCh.reset

/-- A clock output's configuration. -/
def State.ochCfg (s : State) (n : Nat) : OutChCfg := Tab.get s.cfg.out.ch n OutChCfg.reset

/-- A time pulse at work. -/
def State.otp (s : State) (m : Nat) : Tp := Tab.get s.out.tp m Tp.reset

/-- A time pulse's configuration. -/
def State.otpCfg (s : State) (m : Nat) : TpCfg := Tab.get s.cfg.out.tp m TpCfg.reset

/-- A ToD output at work. -/
def State.otod (s : State) (k : Nat) : Tod := Tab.get s.out.tod k Tod.reset

/-- A ToD output's configuration. -/
def State.otodCfg (s : State) (k : Nat) : TodCfg := Tab.get s.cfg.out.tod k TodCfg.reset

/-- A synthesizer. -/
def State.syn (s : State) (k : Nat) : Syn := Tab.get s.out.syn k Syn.reset

/-- A synthesizer's configuration. -/
def State.synCfg (s : State) (k : Nat) : SynCfg := Tab.get s.cfg.out.syn k SynCfg.reset

/-- A clock output changes. -/
def State.modOch (s : State) (n : Nat) (f : OutCh → OutCh) : State :=
  { s with out := { s.out with ch := Tab.mod s.out.ch n f } }

/-- A time pulse changes. -/
def State.modOtp (s : State) (m : Nat) (f : Tp → Tp) : State :=
  { s with out := { s.out with tp := Tab.mod s.out.tp m f } }

/-- A ToD output changes. -/
def State.modOtod (s : State) (k : Nat) (f : Tod → Tod) : State :=
  { s with out := { s.out with tod := Tab.mod s.out.tod k f } }

/-- A synthesizer changes. -/
def State.modSyn (s : State) (k : Nat) (f : Syn → Syn) : State :=
  { s with out := { s.out with syn := Tab.mod s.out.syn k f } }

/-- The OUT configuration changes. -/
def State.setOutCfg (s : State) (f : OutCfg → OutCfg) : State := { s with cfg := { s.cfg with out := f s.cfg.out } }

/-! ### Glides (R212) -/

/-- A phase reduced modulo the period of `hz` into (−P ÷ 2, P ÷ 2]. -/
def reduceTo (hz : Nat) (x : Int) : Int :=
  if hz = 0 then x
  else
    let m : Int := sec16
    let y := (x * hz) % m
    Int.tdiv (if m < 2 * y then y - m else y) hz

/-- PHASE_ERR now: what a running glide has still to move. -/
def State.perrNow (s : State) (n : Nat) : Int :=
  let o := s.och n
  if !o.gliding then o.phaseErr
  else
    let moved : Nat := (s.ticks - o.glideFrom) * (s.ochCfg n).glideNsS.toNat * 524288 / 10 ^ 10
    if o.phaseErr.natAbs ≤ moved then 0 else if 0 < o.phaseErr then o.phaseErr - moved else o.phaseErr + moved

/-- A residual enters PHASE_ERR of a running ALIGNED output, and the output glides (R212). -/
def State.glide (s : State) (n : Nat) (r : Int) : State :=
  let o := s.och n
  let x := reduceTo (s.ochCfg n).freqHz.toNat (s.perrNow n + r)
  let s1 := s.modOch n fun o => { o with phaseErr := x, glideFrom := s.ticks, gliding := x ≠ 0, misTick := s.ticks }
  if x ≠ 0 && !o.gliding then s1.outRaise 5 n else s1

/-- A step applied at once reaches clock output `n` (R212, R214). -/
def State.outStep (s : State) (x : Int) (n : Nat) : State :=
  let o := s.och n
  let c := s.ochCfg n
  if c.sync then
    if o.running || (o.sqAuto && o.sqCause != 2) then
      let s1 := s.modOch n fun o => { o with phaseErr := o.phaseErr + reduceTo c.freqHz.toNat x, offgrid := true }
      if o.offgrid then s1 else s1.outRaise 7 n
    else s
  else if o.running && !o.bypassAct then s.glide n x else s

/-! ### Bounds (R215) -/

/-- The multiplier of synthesizer `k`, in 2^-48 (R207): VCO_KHZ × 1,000 ÷ 1,250,000,000, scaled by the increment in force and
SLEW_MPPT, to the nearest unit (DESIGN CHOICE, log entry 79); 0 while the synthesizer is off. -/
def State.synMult (s : State) (k : Nat) : BitVec 64 :=
  let y := s.synCfg k
  let base : Nat := (incrOf 0).toNat
  let rate : Int := (s.acd.incrCur.toNat : Int) * 10 ^ 15 + s.slewMppt.toInt * base
  if !y.on || !s.ready pdTime then 0
  else BitVec.ofInt 64 (nearest (y.vcoKhz.toNat * 1000 * 2 ^ 48 * rate) (1250000000 * base * 10 ^ 15))

/-- |TRIM_PS| of the comparison entries that name target `t`, in ps (R378). -/
def State.trimAbs (s : State) (t : Nat) : Nat :=
  ((List.range 8).map fun e =>
    let c := Tab.get s.cfg.pair.cmp e PairCmpCfg.reset
    if c.en && c.target.toNat == t then (Tab.get s.pair.cmp e PairCmp.reset).trimPs.toInt.natAbs else 0).sum

/-- E_OUT of a clock output, in 10 ps. -/
def State.eOut (s : State) (n : Nat) : Nat :=
  (Tab.get s.fuse.pathUnc n 3).toNat + (s.ochCfg n).delayUnc.toNat +
    ceilDiv ((s.perrNow n).natAbs * 1000 + s.trimAbs n * 65536) 655360

/-- E_OUT of a time pulse, in 10 ps. -/
def State.eOutTp (s : State) (m : Nat) : Nat := 5 + (s.otpCfg m).delayUnc.toNat + ceilDiv (s.trimAbs (16 + m)) 10

/-- E_OUT of a ToD output, in 10 ps. -/
def State.eOutTod (s : State) (k : Nat) : Nat := 5 + (s.otodCfg k).delayUnc.toNat

/-- OUT_n_EB. -/
def State.outEb (s : State) (n : Nat) : W32 :=
  let o := s.och n
  if o.running && !o.bypassAct then (s.stampWith (s.eOut n)).words.getD 3 0 else ebWord 0xFFFFFF (s.flagsFor 0xFFFFFF)

/-! ### Synthesizers -/

/-- A clock output's enabled drive is held until it starts anew, for a cause. -/
def OutCh.hold (o : OutCh) (cause : Nat) (auto : Bool) : OutCh :=
  { o with
    running := false, gliding := false, aligned := false, phaseErr := 0, sqAuto := auto, sqCause := BitVec.ofNat 3 cause }

/-- SYN_UNLOCK at clock output `n` of synthesizer `k` (R216). -/
def State.outUnlock (k : Nat) (s : State) (n : Nat) : State :=
  let o := s.och n
  let c := s.ochCfg n
  if c.synSel.toNat ≠ k || !c.enable || !o.running then s
  else if c.bypass then
    (s.modOch n fun o => { o with bypassAct := true, aligned := false, gliding := false }).outRaise 2 n
  else (s.modOch n fun o => o.hold 2 true).outRaise 8 n

/-- OFFGRID sets (R213, R217). -/
def State.outOffgrid (s : State) (n : Nat) : State :=
  if (s.och n).offgrid then s else (s.modOch n fun o => { o with offgrid := true }).outRaise 7 n

/-- A SYNC-mode output that has never been synchronised is OFFGRID (R213). -/
def State.outUnsynced (s : State) (n : Nat) : State :=
  if (s.ochCfg n).sync && !(s.och n).synced then s.outOffgrid n else s

/-- SYN_LOCK at clock output `n` of synthesizer `k` (R217). The phase error that a bypassed output has gathered is a free
value. -/
def State.outRelock (k : Nat) (s : State) (n : Nat) : State :=
  let o := s.och n
  let c := s.ochCfg n
  if c.synSel.toNat ≠ k || !c.enable then s
  else if o.bypassAct then
    let s1 := (s.modOch n fun o => { o with bypassAct := false, phaseErr := 0 }).outRaise 3 n
    if c.sync then s1.outOffgrid n
    else if o.running then s1.drawn.glide n (s1.free.setWidth 64).toInt
    else s1
  else
    let s1 := s.modOch n fun o => { o with
      readyTick := s.ticks, sqAuto := o.sqAuto && o.sqCause != 2, sqCause := if o.sqCause = 2 then 0 else o.sqCause }
    if c.sync && o.sqAuto then s1.outOffgrid n else s1

/-- A synthesizer loses lock (R216). -/
def State.synUnlock (s : State) (k : Nat) : State :=
  let s1 := (s.modSyn k fun y => { y with lock := false }).raise (src 4 1) k
  ((List.range 16).foldl (State.outUnlock k) (s1.faultAssert 64)).pairEval

/-- No synthesizer that is on stands without its lock; one that a command has just set is still locking (R208, R216). -/
def State.synsLocked (s : State) : Bool :=
  (List.range 4).all fun k => !(s.synCfg k).on || (s.syn k).lock || (s.syn k).locking

/-- Fault 64 ends when no synthesizer stands without its lock (R216, R359). -/
def State.synClear (s : State) : State := if s.synsLocked && has s.flt.present 64 then s.faultEnd 64 else s

/-- A synthesizer locks or relocks (R208, R217). -/
def State.synLocked (s : State) (k : Nat) : State :=
  let s1 := (s.modSyn k fun y => { y with lock := true, locking := false, lockTick := s.ticks }).raise (src 4 0) k
  (List.range 16).foldl (State.outRelock k) s1.synClear

/-! ### OUT_SYNC (R213) -/

/-- The largest DELAY_PS of the outputs that wait for the same synchronisation as output `n`: they all restart from the tick
that the first edge of them needs (R213). -/
def State.syncLead (s : State) (n : Nat) : Int :=
  (((List.range 16).filter fun m => (s.och m).syncAt == (s.och n).syncAt).map fun m =>
    ps16 (s.ochCfg m).delayPs.toInt).foldl max (ps16 (s.ochCfg n).delayPs.toInt)

/-- The accord has reached the synchronisation that output `n` waits for. -/
def State.syncDue (s : State) (n : Nat) : Bool :=
  match (s.och n).syncAt with
  | some t => decide ((taiNat t : Int) ≤ s.now16 + s.syncLead n)
  | none => false

/-- Output `n` is stopped for a synchronisation: from SYNC_AT − DELAY_PS − 1 ÷ FREQ_HZ it stops at its falling edge, and it
stays low until its first new rising edge (R213). -/
def State.syncLow (s : State) (n : Nat) : Bool :=
  let o := s.och n
  let c := s.ochCfg n
  let at_ (t : Tai) : Int := (taiNat t : Int) - ps16 c.delayPs.toInt
  c.sync && match o.syncAt with
    | some t => decide (at_ t - (ceilDiv sec16 (max 1 c.freqHz.toNat) : Nat) ≤ s.now16)
    | none => o.synced && decide ((s.now16 : Int) < at_ o.anchor)

/-- Output `n` restarts its divider on the new anchor. -/
def State.syncRun (s : State) (n : Nat) : State :=
  if (s.och n).syncAt.isNone then s
  else
    let t := (s.och n).syncAt.getD 0
    (s.modOch n fun o => { o with
      anchor := t, synced := true, syncAt := none, phaseErr := 0, offgrid := false }).outRaise 6 n

/-- Every synchronisation that is due runs, on one tick. -/
def State.syncRunAll (s : State) : State :=
  ((List.range 16).filter s.syncDue).foldl State.syncRun s

/-! ### Time pulses (R222, R223) -/

/-- The pulse instant of TP `m` at or before an instant, in 2^-16 ns. -/
def State.tpInst (s : State) (m now : Nat) : Nat :=
  let c := s.otpCfg m
  let hz := c.rateHz.toNat
  if hz ≤ 1 then
    let sec : Int := now / sec16
    let off : Int := if c.alignUtc then s.cfg.acd.utcOffsetS.toInt else 0
    let p : Int := max 1 c.periodS.toNat
    (sec - (sec - off) % p).toNat * sec16
  else now / (sec16 / hz) * (sec16 / hz)

/-- A pulse instant not yet marked. -/
def Tp.fresh (t : Tp) (inst : Nat) : Bool :=
  match t.lastInst with
  | some l => decide (l < inst)
  | none => true

/-- TP `m` goes high: the pulse's time at the ball, its bound and flags are latched (R223). -/
def State.tpFire (s : State) (m inst : Nat) (at_ : Int) : State :=
  let t := s.stampAt at_ (s.eOutTp m)
  s.modOtp m fun q => { q with
    high := true, highFrom := s.ticks, lastInst := some inst, last := t.time, lastEb := t.eb, lastFlags := t.flags
    lowUntilS := false }

/-- Pulse instants of TP `m` after `a` up to `b`. -/
def State.tpCrossed (s : State) (m a b : Nat) : Nat :=
  let c := s.otpCfg m
  let hz := c.rateHz.toNat
  if hz ≤ 1 then (s.tpInst m b - s.tpInst m a) / (max 1 c.periodS.toNat * sec16)
  else b / (sec16 / hz) - a / (sec16 / hz)

/-- A forward step carries TP `m` across pulse instants: one pulse at the apply tick, the others counted (R223). One that is
low until a whole second stays low unless the step crosses one (R135). -/
def State.tpStep (s : State) (old : Nat) (m : Nat) : State :=
  let t := s.otp m
  let d := ps16 (s.otpCfg m).delayPs.toInt
  let b := ((s.now16 : Int) + d).toNat
  let a := max ((old : Int) + d).toNat (t.lastInst.getD 0)
  let n := s.tpCrossed m a b
  if !t.running || n = 0 || b ≤ a || (t.lowUntilS && b / sec16 = a / sec16) then s
  else
    let inst := s.tpInst m b
    let s1 := s.tpFire m inst s.now16
    if n = 1 then s1
    else (s1.modOtp m fun q => { q with skip := q.skip + BitVec.ofNat 32 (n - 1) }).outRaise 10 (16 + m) (n - 1)

/-! ### ToD messages (R224 to R226) -/

/-- CRC-16 of R225 over bytes. -/
def crc16 (bs : List Nat) : Nat :=
  bs.foldl (fun c b =>
    (List.range 8).foldl (fun c _ => if c / 32768 % 2 = 1 then (2 * c % 65536) ^^^ 0x1021 else 2 * c % 65536)
      (c ^^^ (b * 256))) 0xFFFF

/-- A number as `n` bytes, most significant first. -/
def beBytes (n v : Nat) : List Nat := (List.range n).map fun i => v / 256 ^ (n - 1 - i) % 256

/-- A number as `n` decimal digits in ASCII. -/
def decDigits (n v : Nat) : List Nat := (List.range n).map fun i => 48 + v / 10 ^ (n - 1 - i) % 10

/-- One hexadecimal digit in ASCII, upper case. -/
def hexDigit (v : Nat) : Nat := if v < 10 then 48 + v else 55 + v

/-- The SZTOD message of second `sec` (R225). -/
def State.sztod (s : State) (k sec seq : Nat) : List Nat :=
  let a := s.cfg.acd
  let eb := s.ebAccord + s.eOutTod k
  let b := [0x53, 0x5A, 0x01, 32] ++ beBytes 6 sec ++ beBytes 2 a.utcOffsetS.toNat ++
    [a.leap.toNat + 4 * s.acd.leapPending.toNat + 8 * a.utcValid.toNat,
      s.acd.state.code.toNat + 8 * s.primary.toNat, s.clockClassNow.toNat] ++ beBytes 3 (ebSat eb).toNat ++
    [(s.flagsFor eb).toNat] ++ beBytes 6 (if a.leap = 0 then 0 else a.leapAt.toNat) ++ beBytes 2 seq ++ [0, 0, 0]
  b ++ beBytes 2 (crc16 b)

/-- Year, month and day of a day counted from 1970-01-01 (proleptic Gregorian). -/
def civil (day : Nat) : Nat × Nat × Nat :=
  let z := day + 719468
  let era := z / 146097
  let doe := z % 146097
  let yoe := (doe - doe / 1460 + doe / 36524 - doe / 146096) / 365
  let doy := doe - (365 * yoe + yoe / 4 - yoe / 100)
  let mp := (5 * doy + 2) / 153
  let m := if mp < 10 then mp + 3 else mp - 9
  (yoe + era * 400 + (if m ≤ 2 then 1 else 0), m, doy - (153 * mp + 2) / 5 + 1)

/-- The ZDA sentence of second `sec` (R226). -/
def State.zda (s : State) (sec : Nat) : List Nat :=
  let a := s.cfg.acd
  let ins := s.acd.leapPending && a.leap = 1 && decide (sec + 1 = a.leapAt.toNat)
  let u := ((sec : Int) - a.utcOffsetS.toInt - (if ins then 1 else 0)).toNat
  let t := u % 86400
  let d := civil (u / 86400)
  let ss := if ins then 60 else t % 60
  let body := [0x47, 0x50, 0x5A, 0x44, 0x41, 0x2C] ++ decDigits 2 (t / 3600) ++ decDigits 2 (t / 60 % 60) ++
    decDigits 2 ss ++ [0x2E, 48, 48, 0x2C] ++ decDigits 2 d.2.2 ++ [0x2C] ++ decDigits 2 d.2.1 ++ [0x2C] ++
    decDigits 4 d.1 ++ [0x2C, 48, 48, 0x2C, 48, 48]
  let cs := body.foldl (fun c b => c ^^^ b) 0
  [0x24] ++ body ++ [0x2A, hexDigit (cs / 16), hexDigit (cs % 16), 13, 10]

/-- After the acquisition step TP `m` stays low until the first whole second after it: the instants up to now are past
(R135). -/
def State.tpAcq (s : State) (m : Nat) : State :=
  let d := ps16 (s.otpCfg m).delayPs.toInt
  s.modOtp m fun t => { t with
    high := false, lowUntilS := true, lastInst := some (s.tpInst m ((s.now16 : Int) + d).toNat) }

/-- ToD output `k` sends the message of second `sec`. -/
def State.todSend (s : State) (k sec : Nat) : State :=
  let t := s.otod k
  let q := t.seq + 1
  let m := if (s.otodCfg k).fmt = 0 then s.sztod k sec q.toNat else s.zda sec
  s.modOtod k fun t => { t with lastSec := some sec, seq := q, message := m.map (BitVec.ofNat 8) }

/-- A forward step carries ToD output `k` across seconds: their messages are not sent, SEQ advances (R227). -/
def State.todStep (s : State) (old : Nat) (k : Nat) : State :=
  let t := s.otod k
  let d := ps16 (s.otodCfg k).delayPs.toInt
  let b := ((s.now16 : Int) + d).toNat / sec16
  let a := max (((old : Int) + d).toNat / sec16) (t.lastSec.getD 0)
  if !t.running || b ≤ a then s
  else s.modOtod k fun t => { t with lastSec := some b, seq := t.seq + BitVec.ofNat 16 (b - a) }

/-! ### Delays and the echo (R228 to R230) -/

/-- The target's DELAY_PS and DELAY_UNC change; a running ALIGNED clock glides (R228). -/
def State.setDelay (s : State) (t : Nat) (d : BitVec 32) (u : BitVec 24) : State :=
  if t < 16 then
    let old := (s.ochCfg t).delayPs
    let s1 := s.setOutCfg fun c => { c with ch := Tab.mod c.ch t fun q => { q with delayPs := d, delayUnc := u } }
    let o := s.och t
    if o.running && !(s.ochCfg t).sync && !o.bypassAct then s1.glide t (ps16 d.toInt - ps16 old.toInt) else s1
  else if t < 20 then
    s.setOutCfg fun c => { c with tp := Tab.mod c.tp (t - 16) fun q => { q with delayPs := d, delayUnc := u } }
  else s.setOutCfg fun c => { c with tod := Tab.mod c.tod (t - 20) fun q => { q with delayPs := d, delayUnc := u } }

/-- ECHO_UNC (R229), in 10 ps: σ in 0.1 ps over `n` good shots. -/
def echoUnc (ea eb sigma n : Nat) : Nat :=
  ceilDiv (ea + eb + 2 + ceilSqrt (ceilDiv (36 * sigma * sigma) (10000 * n))) 2

/-- The target of an echo measurement may start again (R229). -/
def State.echoFree (s : State) (t : Nat) : State :=
  let s1 := if t < 16 then s.modOch t fun o => { o with sqCause := 0, readyTick := s.ticks } else s
  s1.outEval

end Sys2Proof.Machine
end

