-- ==== Sys2Proof/Machine/Pair.lean ====
section
/-! DEFINITION. The PAIR block (R366 to R382): the Benit link, claims and rounds, ownership, comparison of outputs, the
standby's self-test; and the PAIR opcodes (R383). -/

namespace Sys2Proof.Machine

/-! ### Accessors -/

/-- A comparison entry's configuration. -/
def State.pcmpCfg (s : State) (e : Nat) : PairCmpCfg := Tab.get s.cfg.pair.cmp e PairCmpCfg.reset

/-- A comparison entry at work. -/
def State.pcmp (s : State) (e : Nat) : PairCmp := Tab.get s.pair.cmp e PairCmp.reset

/-- A comparison entry changes. -/
def State.modPcmp (s : State) (e : Nat) (f : PairCmp → PairCmp) : State :=
  { s with pair := { s.pair with cmp := Tab.mod s.pair.cmp e f } }

/-- The PAIR fields of the keep change. -/
def State.setPairCfg (s : State) (f : PairCfg → PairCfg) : State := { s with cfg := { s.cfg with pair := f s.cfg.pair } }

/-- A notice is sent to the partner (R366). -/
def State.notify (s : State) (n : PairNotice) : State :=
  if s.pair.linkUp then { s with pair := { s.pair with notices := s.pair.notices ++ [n] } } else s

/-- A target code (0 to 15 OUT, 16 to 19 TP) is a SHARED output (R376). -/
def State.pairShared (s : State) (t : Nat) : Bool :=
  if t < 16 then (s.ochCfg t).shared else t < 20 && (s.otpCfg (t - 16)).shared

/-- Output `t` is SHARED (R221): 0 to 15 OUT, 16 to 19 TP, 20 and 21 TOD. -/
def State.outShared (s : State) (t : Nat) : Bool := if t < 20 then s.pairShared t else (s.otodCfg (t - 20)).shared

/-- Some output is SHARED (R221). -/
def State.anyShared (s : State) : Bool := (List.range 22).any s.outShared

/-! ### Registers -/

/-- PAIR_STATUS. -/
def State.pairStatus (s : State) : W32 :=
  let p := s.pair
  word [(0, p.role.code.toNat), (2, p.linkUp.toNat), (3, p.lanesUp.toNat), (5, s.fuse.pairSide.toNat),
    (6, p.sideConflict.toNat), (7, p.rejoinArmed.toNat), (8, p.handoverPending.toNat), (9, (s.claimNow != 0).toNat)]

/-- PAIR_PEER_AGE: microseconds since the last timing frame, saturating (R368). -/
def State.peerAge (s : State) : W32 :=
  match s.pair.peerTick with
  | none => 0xFFFFFFFF
  | some t => BitVec.ofNat 32 (min 0xFFFFFFFF ((s.ticks - t) / usTicks))

/-- The registers PAIR_STATUS to PAIR_LANE_DIFF, by offset. -/
def State.pairRegs (s : State) : List (Nat × W32) :=
  let p := s.pair
  let c := s.cfg.pair
  [(0x00, s.pairStatus), (0x04, word [(0, p.claim.toNat), (16, p.peerClaim.toNat)]),
    (0x08, word [(0, p.health.toNat), (8, s.healthRaw.toNat)]),
    (0x0C, word [(0, c.mode.toNat), (1, c.pref.toNat), (5, c.matchOn.toNat)]),
    (0x10, word [(0, c.healthHoldMs.toNat), (16, c.linkWaitMs.toNat)]), (0x14, word [(0, c.ebMaxNs.toNat)]),
    (0x18, c.asymPs), (0x1C, word [(0, c.comparePs.toNat), (16, c.compareN.toNat)]), (0x20, word [(0, c.tiePs.toNat)]),
    (0x30, p.laneDiffPs)] ++ at64 0x28 p.x17

/-- PAIR_STATUS to PAIR_LANE_DIFF. -/
def State.pairWords (s : State) : List W32 := win 13 s.pairRegs

/-- The registers PAIR_PEER_STATE to PAIR_PEER_AGE, by offset. -/
def State.peerRegs (s : State) : List (Nat × W32) :=
  let p := s.pair
  [(0x00, word [(0, p.peerAccord.toNat), (3, p.peerDev.toNat), (6, p.peerRole.toNat), (8, p.peerSelected.toNat),
      (13, p.peerPrimary.toNat)]),
    (0x04, ebWord p.peerEb.toNat p.peerFlags), (0x20, s.peerAge)] ++ at64 0x08 (p.peerFreq.setWidth 64) ++
    at64 0x10 p.peerDigest ++ at64 0x18 (p.peerLog.setWidth 64)

/-- PAIR_PEER_STATE to PAIR_PEER_AGE. -/
def State.peerWords (s : State) : List W32 := win 9 s.peerRegs

/-- PAIR_QUERY. -/
def specPairQuery : OpSpec where
  opcode := 0x0B01
  states := stAll
  len := fun _ => some 0
  body := answer fun _ s => if s.ready pdPair then s.pairWords ++ s.peerWords else List.replicate 22 0

/-- A state-changing PAIR opcode's body: STATE while PD_PAIR is off (R383). -/
def pairBody (f : Packet → State → Done) (p : Packet) (s : State) : Done :=
  if s.ready pdPair then f p s else Done.err s .state

/-! ### Sides, mode, claim number -/

/-- Whether the partner's SIDE equals this chip's own in PAIRED mode (R372). -/
def State.sideCheck (s : State) : State :=
  let c := s.cfg.pair.mode && s.pair.peerSide == some s.fuse.pairSide
  if c = s.pair.sideConflict then s
  else
    let s1 := { s with pair := { s.pair with sideConflict := c } }
    if c then (s1.raise (src 12 8)).faultAssert 227 else s1.faultEnd 227

/-- CLAIM_N has shown a falling edge within the last 100 µs (R375). -/
def State.lineBusy (s : State) : Bool :=
  s.pair.lineEdgeSeen && decide (s.ticks ≤ s.pair.lineEdgeTick + 100 * usTicks)

/-- PAIRED mode is left: the chip takes no part in arbitration. -/
def State.goSolo (s : State) : State :=
  let owned := s.own
  let s1 := { s with pair := { s.pair with
    own := false, incumbent := false, started := false, inRound := false, hPending := false
    handoverPending := false, handoverIn := false, rejoinArmed := false, claim := 0 } }
  let s2 := (s1.setRole .solo).sideCheck
  (if owned then s2 else s2.raise (src 4 11)).pairEval

/-- PAIRED mode is entered from SOLO (R375). -/
def State.goPaired (s : State) : State :=
  if s.pair.role != .solo then s.sideCheck
  else
    let act := s.own && s.anyShared
    let s1 := { s with pair := { s.pair with own := act, incumbent := act, leaseTick := s.ticks } }
    ((s1.setRole (if act then .active else .standby)).sideCheck).pairEval

/-- PAIR_SET_MODE. -/
def specPairSetMode : OpSpec where
  opcode := 0x0B80
  states := stIM
  len := fun _ => some 3
  params := fun _ p => p.only [1, 0xFFFFFFFF, 0xFFFF] && within (p.w 2) 0 10000
  csp := fun _ => true
  body := pairBody fun p s =>
    let m := flag (p.w 0) 0
    if !m && (s.pair.linkUp || s.lineBusy) then Done.err s .state
    else
      let s1 := s.setPairCfg fun c => { c with mode := m, asymPs := p.w 1, linkWaitMs := (p.w 2).setWidth 16 }
      Done.ok (if m then s1.goPaired else s1.goSolo)

/-- PAIR_SET_CLAIM. -/
def specPairSetClaim : OpSpec where
  opcode := 0x0B81
  states := stIRM
  len := fun _ => some 3
  params := fun _ p => p.only [0xF, 0xFFFF, 0xFFFFFFFF] && within (p.w 1) 0 60000 && within (p.w 2) 1 167772
  csp := fun _ => true
  body := pairBody fun p s =>
    Done.ok (s.setPairCfg fun c => { c with
      pref := (p.w 0).setWidth 4, healthHoldMs := (p.w 1).setWidth 16, ebMaxNs := (p.w 2).setWidth 18 }).pairEval

/-! ### Comparison entries (R376, R377) -/

/-- Faults 224 and 226 follow the entries. -/
def State.cmpFaults (s : State) : State :=
  let amb := s.pair.cmp.toList.any (·.ambig)
  let s1 := if s.selfFails then s.faultAssert 224 else if has s.flt.present 224 then s.faultEnd 224 else s
  let s2 := if amb then s1.faultAssert 226 else if has s1.flt.present 226 then s1.faultEnd 226 else s1
  s2.pairEval

/-- An OUT_BAD report against target `t` that this chip sent is withdrawn (R377). -/
def State.reportEnd (s : State) (t : Nat) : State :=
  if has s.pair.outBadSent t then
    ({ s with pair := { s.pair with outBadSent := putBit s.pair.outBadSent t false } }).notify
      (.outBad (BitVec.ofNat 5 t) false)
  else s

/-- Entry `e` is disabled: its channel is released and what it reported ends (R376). -/
def State.entryOff (s : State) (e : Nat) : State :=
  let c := s.pcmpCfg e
  if !c.en then s
  else
    let s1 := s.modTch c.channel.toNat fun t => { t with claim := 0 }
    let s2 := (s1.modPcmp e fun _ => PairCmp.reset).setPairCfg fun g => { g with
      cmp := Tab.mod g.cmp e fun q => { q with en := false } }
    (s2.reportEnd c.target.toNat).cmpFaults

/-- Ranges of PAIR_SET_COMPARE (R376, R377): the global fields count only with SET_GLOBAL. -/
def pairCompareOk (s : State) (p : Packet) : Bool :=
  let w := p.w 0
  let g := flag w 24
  let k := (p.w 1).toInt
  p.only [0x031F1FFF, 0xFFFFFFFF, if g then 0x000F3FFF else 0, if g then 0x1FFFF else 0] && (g || !flag w 25) &&
    s.pairShared (fld w 4 5) && decide (-100000 ≤ k) && decide (k ≤ 100000) &&
    (!g || (decide (20 ≤ fld (p.w 2) 0 14) && decide (fld (p.w 2) 0 14 ≤ 10000) && decide (1 ≤ fld (p.w 2) 16 4) &&
      within (p.w 3) 1 100000))

/-- PAIR_SET_COMPARE. -/
def specPairSetCompare : OpSpec where
  opcode := 0x0B83
  states := stIRM
  len := fun _ => some 4
  params := pairCompareOk
  csp := fun _ => true
  body := pairBody fun p s =>
    let w := p.w 0
    let e := fld w 0 3
    let en := flag w 3
    let ch := fld w 12 5
    let s0 := s.entryOff e
    if en && !s.ready pdTic then Done.err s .state
    else if en && (s0.tch ch).claim != 0 then Done.err s .busy
    else if en && (s0.tchCfg ch).mode != 0 then Done.err s .state
    else
      let s1 := s0.setPairCfg fun c => { c with
        cmp := Tab.set c.cmp e {
          en := en, target := BitVec.ofNat 5 (fld w 4 5), channel := BitVec.ofNat 5 ch, netSkewPs := p.w 1 }
        matchOn := if flag w 24 then flag w 25 else c.matchOn
        comparePs := if flag w 24 then (p.w 2).setWidth 14 else c.comparePs
        compareN := if flag w 24 then (p.w 2).extractLsb' 16 4 else c.compareN
        tiePs := if flag w 24 then (p.w 3).setWidth 17 else c.tiePs }
      Done.ok ((if en then (s1.ivAbort ch).modTch ch fun t => { t with claim := 2 } else s1).pairEval)

/-- d of one stamp before NET_SKEW_PS: the stamp less the grid instant nearest to it, in 2^-16 ns (R210, R377). -/
def State.gridDev (s : State) (t : Nat) (x : Int) : Int :=
  if t < 16 then
    let c := s.ochCfg t
    let base : Int := if c.sync then (taiNat (s.och t).anchor : Int) else ps16 (c.phasePs.toNat : Int)
    reduceTo c.freqHz.toNat (x - base + ps16 c.delayPs.toInt)
  else
    let m := t - 16
    let c := s.otpCfg m
    let hz := c.rateHz.toNat
    let half := if hz ≤ 1 then max 1 c.periodS.toNat * sec16 / 2 else sec16 / hz / 2
    let y := x + ps16 c.delayPs.toInt
    y - (s.tpInst m (y + half).toNat : Int)

/-- The partner drives the shared nets: its rounds are won, or its frames show it ACTIVE (R374, R377). -/
def State.partnerDrives (s : State) : Bool :=
  !s.own && !s.pair.peerSafe &&
    ((s.pair.peerWonTick ≠ 0 && decide (s.ticks ≤ s.pair.peerWonTick + 10 * usTicks)) ||
      (s.pair.linkUp && s.pair.peerRole == 1))

/-- MEAN_PS of a window's stamps. -/
def State.meanPs (s : State) (e : Nat) (mine : Bool) (xs : List Int) : Int :=
  let c := s.pcmpCfg e
  let skew := if mine then 0 else ps16 c.netSkewPs.toInt
  nearest (((xs.map fun x => s.gridDev c.target.toNat x - skew).sum) * 1000) (65536 * xs.length)

/-- RUN: consecutive windows in the present outcome, saturating. -/
def PairCmp.count (m : PairCmp) (ok : Bool) : PairCmp :=
  let n := if m.runPass = ok then min 15 (m.run.toNat + 1) else 1
  { m with run := BitVec.ofNat 4 n, runPass := ok }

/-- Entry `e` fails (R377). -/
def State.entryFails (s : State) (e : Nat) (mine : Bool) (mean : Int) : State :=
  let c := s.pcmpCfg e
  let amb := !mine && decide (s.cfg.pair.tiePs.toNat * 65536 < s.pair.x17.toInt.natAbs * 1000)
  let s1 := s.modPcmp e fun m => { m with pass := false, fail := true, ambig := amb }
  let s2 := s1.raise (src 12 4) e mean
  let s3 := if amb then s2.raise (src 12 5) e
    else if mine then s2
    else ({ s2 with pair := { s2.pair with outBadSent := putBit s2.pair.outBadSent c.target.toNat true } }).notify
      (.outBad c.target true)
  s3.cmpFaults

/-- Entry `e` passes again (R377). -/
def State.entryPasses (s : State) (e : Nat) : State :=
  let s1 := s.modPcmp e fun m => { m with pass := true, fail := false, ambig := false }
  (s1.reportEnd (s.pcmpCfg e).target.toNat).cmpFaults

/-- A window of entry `e` is evaluated (R377, R378). -/
def State.entryWindow (s : State) (e : Nat) (mine : Bool) (xs : List Int) : State :=
  let g := s.cfg.pair
  let mean := s.meanPs e mine xs
  let ok := decide (mean.natAbs ≤ g.comparePs.toNat)
  let trim := ok && !mine && g.matchOn && s.pair.role == .standby && !(s.pcmp e).fail
  let s1 := s.modPcmp e fun m => { m.count ok with
    selfDrv := mine, edges := BitVec.ofNat 16 xs.length, meanPs := BitVec.ofInt 32 mean
    trimPs := if trim then BitVec.ofInt 32 mean else m.trimPs }
  let m := s1.pcmp e
  if g.compareN ≤ m.run then
    if ok then (if m.pass then s1 else s1.entryPasses e)
    else if m.fail then s1 else s1.entryFails e mine mean
  else s1

/-- PAIR_COMPARE_WINDOW (R377): at a 1 ms boundary of the accord that entry `e` has not yet acted on, its window ends: the
stamps that its channel left with it before the boundary. -/
def execPairCompareWindow (dt : Nat) (e : BitVec 3) (s : State) : Res :=
  let s := s.advance dt
  let k := e.toNat
  let ms := s.now16 / ms16
  let old (t : Int) : Bool := decide (t < (ms * ms16 : Nat))
  let xs := (s.pcmp k).stamps.filter old
  let s1 := s.modPcmp k fun m => { m with stamps := m.stamps.filter fun t => !old t, lastMs := some ms }
  .next (if (s.pcmp k).lastMs = some ms then s
    else if !(s.pcmpCfg k).en || !s.ready pdPair || xs.isEmpty then s1
    else if s.own then s1.entryWindow k true xs
    else if s.partnerDrives then s1.entryWindow k false xs
    else s1)

/-! ### Rounds (R373, R374) -/

/-- A round starts, or is joined, now. -/
def State.roundStart (s : State) : State :=
  if s.pair.inRound || !s.ready pdPair then s
  else { s with pair := { s.pair with
    inRound := true, roundTick := s.ticks, roundClaim := s.claimNow, lineEdgeTick := s.ticks, lineEdgeSeen := true } }

/-- A claiming chip starts a round at once (R373). -/
def State.roundNow (s : State) : State := if s.claimNow = 0 then s else s.roundStart

/-- CLAIM_ROUND_START (R373): the 4 µs round timer expires. -/
def execClaimRoundStart (dt : Nat) (s : State) : Res :=
  let s := s.advance dt
  .next (if decide (s.pair.roundTick + 4 * usTicks ≤ s.ticks) || s.pair.roundTick = 0 then s.roundNow else s)

/-- CLAIM_SOF_DETECT (R373): a falling edge on CLAIM_N while idle. -/
def execClaimSofDetect (dt : Nat) (s : State) : Res :=
  let s := s.advance dt
  .next (if !s.ready pdPair then s
    else
      let s1 := { s with pair := { s.pair with lineEdgeTick := s.ticks, lineEdgeSeen := true } }
      if s.pair.role == .solo then s1 else s1.roundStart)

/-- A round's length in ticks: 17 bits of 200 (R373). -/
def roundTicks : Nat := 3400

/-- What the claim line test of a round finds (R379): a standby must read END high, and TEST low where it drove it, having
lost the claim; the active must read TEST low where LINK_UP shows a standby that is claiming. None: no test. -/
def State.lineBad (s : State) (lost testLow endLow : Bool) : Option Bool :=
  let p := s.pair
  if p.role == .standby then some (endLow || (has p.roundClaim 12 && lost && !testLow))
  else if p.role == .active && p.linkUp && p.peerRole == 2 && has p.peerClaim 12 then some (!testLow)
  else none

/-- The claim line test of a round (R379): two failures in a row assert PAIR_CLAIM_TEST. -/
def State.lineTest (s : State) : Option Bool → State
  | none => s
  | some bad =>
    let n := if bad then s.pair.lineFails + 1 else 0
    let s1 := { s with pair := { s.pair with lineFails := n } }
    if 2 ≤ n && !s.pair.claimTestBad then
      (({ s1 with pair := { s1.pair with claimTestBad := true } }).raise (src 12 9)).faultAssert 228
    else if !bad && s.pair.claimTestBad then
      ({ s1 with pair := { s1.pair with claimTestBad := false } }).faultEnd 228
    else s1

/-- This chip wins a valid round: from the round's end its lease is renewed, or H is set (R374). -/
def State.roundWon (s : State) : State :=
  let p := s.pair
  let silent := !p.peerSafe && !p.linkUp
  let e := p.roundTick + roundTicks
  let h := if silent && p.peerWonTick ≠ 0 then max (e + usTicks) (p.peerWonTick + 11 * usTicks) else e + usTicks
  let s1 := { s with pair := { p with leaseTick := e, incumbent := p.incumbent || p.own } }
  if p.own || (p.hPending && p.hGain) then s1
  else { s1 with pair := { s1.pair with
    hPending := true, hTick := h, hGain := true, hFailover := p.peerSafe || silent } }

/-- The partner wins a valid round. -/
def State.roundLost (s : State) : State :=
  let p := s.pair
  let s1 := { s with pair := { p with
    peerWonTick := p.roundTick + roundTicks, incumbent := p.incumbent && p.own
    hPending := (p.hPending && !p.hGain) || p.own
    hTick := if p.own && !p.hPending then p.roundTick + roundTicks + usTicks else p.hTick
    hGain := false, hFailover := false } }
  s1

/-- A pending handover whose round this chip wins is abandoned (R381). -/
def State.handoverFails (s : State) : State :=
  if s.pair.handoverPending && s.pair.own && !s.pair.incumbent && !has s.pair.roundClaim 5 then
    ({ s with pair := { s.pair with handoverPending := false } }).raise (src 12 7)
  else s

/-- CLAIM_ROUND_END (R374): the partner's claim as read on the line, whether TEST read low and whether END read low. -/
def execClaimRoundEnd (dt : Nat) (peer : BitVec 13) (testLow endLow : Bool) (s : State) : Res :=
  let s := s.advance dt
  let p := s.pair
  .next (if !p.inRound || !s.ready pdPair || s.ticks < p.roundTick + roundTicks then s
    else
      let t := s.lineBad (decide (p.roundClaim < peer)) testLow endLow
      let s1 := { s with pair := { p with inRound := false } }
      if endLow then ({ s1 with pair := { s1.pair with roundsVoid := p.roundsVoid + 1 } }).lineTest t
      else
        let s2 := ({ s1 with pair := { s1.pair with rounds := p.rounds + 1, claim := p.roundClaim } }).lineTest t
        let win := has p.roundClaim 12 && decide (peer ≤ p.roundClaim)
        let lose := has peer 12 && decide (p.roundClaim ≤ peer)
        let s3 := if win then s2.handoverFails.roundWon else s2
        if lose then s3.roundLost else s3)

/-! ### Ownership (R374, R375) -/

/-- PAIR_LAST_OWN: the ownership change of this tick. -/
def State.ownRecord (s : State) (gained : Bool) : State :=
  let p := s.pair
  { s with pair := { p with
    lastOwnValid := true, lastOwnGained := gained, lastOwnFailover := p.hFailover && gained, lastOwnLinked := p.linkUp
    lastOwnSeq := p.lastOwnSeq + 1, lastOwnH := s.timeNow } }

/-- The new owner glides its trims to zero (R378). -/
def State.trimsOut (s : State) : State :=
  (List.range 8).foldl (fun s e =>
    let c := s.pcmpCfg e
    let t := (s.pcmp e).trimPs.toInt
    if c.en && t ≠ 0 then
      let s1 := s.modPcmp e fun m => { m with trimPs := 0 }
      if c.target.toNat < 16 then s1.glide c.target.toNat (ps16 t) else s1
    else s) s

/-- OWN is gained or given up: the role follows (R375). -/
def State.ownChange (s : State) (gain : Bool) : State :=
  let old := s.pair.role
  let new : PairRole := if gain then .active else .standby
  let s1 := { s with pair := { s.pair with own := gain, incumbent := gain, role := new } }
  let s2 := (s1.ownRecord gain).raise (src 12 0) 0 0 old.code.toNat new.code.toNat
  let s3 := s2.raise (src 4 11)
  let s4 := if gain then s3.trimsOut else s3
  s4.pairEval

/-- HANDOVER_INSTANT (R374): H is reached; a pending handover is done, even where OWN passes before HANDOVER_AT (DESIGN CHOICE,
log 84). -/
def execHandoverInstant (dt : Nat) (s : State) : Res :=
  let s := s.advance dt
  .next (if !s.pair.hPending || s.ticks < s.pair.hTick || !s.ready pdPair then s
    else
      let g := s.pair.hGain
      let s1 := ({ s with pair := { s.pair with hPending := false } }).ownChange g
      let s2 := { s1 with pair := { s1.pair with hFailover := false } }
      if !g && s.pair.handoverPending then
        ({ s2 with pair := { s2.pair with handoverPending := false } }).raise (src 12 6)
      else s2)

/-- OWN_LEASE_LAPSE (R374): 10 µs after the last won round the lease ends; a handover that was pending has failed (DESIGN
CHOICE, log 84). -/
def execOwnLeaseLapse (dt : Nat) (s : State) : Res :=
  let s := s.advance dt
  .next (if s.pair.own && s.pair.role == .active && decide (s.pair.leaseTick + 10 * usTicks ≤ s.ticks) then
    let s1 := ({ s with pair := { s.pair with hPending := false, handoverPending := false } }).ownChange false
    if s.pair.handoverPending then s1.raise (src 12 7) else s1
  else s)

/-- PAIR_FIRST_CLAIM (R372). -/
def execPairFirstClaim (dt : Nat) (s : State) : Res :=
  let s := s.advance dt
  let seen := s.pair.linkUp && s.pair.peerSide == some (!s.fuse.pairSide)
  let waited := decide (s.pair.readyTick + s.cfg.pair.linkWaitMs.toNat * msTicks ≤ s.ticks)
  .next (if s.ready pdPair && (s.pair.role == .active || s.pair.role == .standby) && !s.pair.started &&
      (seen || waited) then
    { s with pair := { s.pair with started := true } }
  else s)

/-- HEALTH_BIT_SET (R371): a condition has held for HEALTH_HOLD_MS. -/
def execHealthBitSet (dt : Nat) (b : BitVec 3) (s : State) : Res :=
  let s := (s.advance dt).pairEval
  let k := b.toNat
  let since := Tab.get s.pair.rawSince k 0
  .next (if s.ready pdPair && decide (k < 6) && has s.pair.raw k && !has s.pair.health k &&
      decide (since + s.cfg.pair.healthHoldMs.toNat * msTicks ≤ s.ticks) then
    ({ s with pair := { s.pair with health := putBit s.pair.health k true } }).raise (src 12 10)
  else s)

/-! ### Handover and rejoin (R381, R382) -/

/-- PAIR_HANDOVER. -/
def specPairHandover : OpSpec where
  opcode := 0x0B82
  states := stRM
  len := fun _ => some 3
  params := fun _ p => taiOk (p.tai 0)
  body := pairBody fun p s =>
    if s.pair.role != .active || !s.pair.linkUp || decide (s.pair.peerHealth < s.pair.health) then Done.err s .state
    else if s.pair.handoverPending then Done.err s .busy
    else if taiNat (p.tai 0) < s.now16 + 10 * us16 then Done.err s .late
    else
      let s1 := { s with pair := { s.pair with handoverPending := true, handoverAt := p.tai 0 } }
      Done.ok (s1.notify (.handover (p.tai 0)))

/-- PAIR_HANDOVER_EXECUTE (R381): at HANDOVER_AT INCUMBENT moves, and both chips start a round. -/
def execPairHandoverExecute (dt : Nat) (s : State) : Res :=
  let s := s.advance dt
  let p := s.pair
  .next (if !s.ready pdPair || s.now16 < taiNat p.handoverAt then s
    else if p.handoverPending && p.incumbent then
      ({ s with pair := { p with incumbent := false } }).roundNow
    else if p.handoverIn then
      ({ s with pair := { p with handoverIn := false, incumbent := true } }).roundNow
    else s)

/-- PAIR_REJOIN. -/
def specPairRejoin : OpSpec where
  opcode := 0x0B84
  states := 0x0F
  len := fun _ => some 0
  body := pairBody fun _ s =>
    if s.pair.role != .safe then Done.err s .state
    else if s.sys.devState == .safe then Done.ok { s with pair := { s.pair with rejoinArmed := true } }
    else Done.ok s.rejoinNow

/-! ### The Benit link (R366 to R369) -/

/-- The Benit pool's last spare lane is lost (R400). -/
def State.benitSpare (s : State) : State :=
  if s.cfg.pair.mode && s.pair.linkUp && s.pair.lanesUp != 3 then s.raise (src 14 7) 3 else s

/-- BENIT_LINK_UP (R366): a lane gains block lock. -/
def execBenitLinkUp (dt : Nat) (lane : BitVec 1) (side : Bool) (s : State) : Res :=
  let s := s.advance dt
  let up := s.pair.linkUp
  .next (if !s.ready pdPair || s.sys.devState == .sleep then s
    else
      let s1 := { s with pair := { s.pair with
        linkUp := true, lanesUp := putBit s.pair.lanesUp lane.toNat true, peerSide := some side } }
      let s2 := if up then s1 else s1.raise (src 12 1)
      let s3 := s2.sideCheck
      if up then s3 else s3.benitSpare)

/-- BENIT_LANE_DOWN (R366): one lane loses block lock while the other keeps LINK_UP. -/
def execBenitLaneDown (dt : Nat) (lane : BitVec 1) (s : State) : Res :=
  let s := s.advance dt
  let m := putBit s.pair.lanesUp lane.toNat false
  .next (if !s.ready pdPair || m = s.pair.lanesUp || m = 0 then s
    else ({ s with pair := { s.pair with lanesUp := m } }).benitSpare)

/-- BENIT_LINK_LOSS (R366): no valid block on either lane for 1 µs. -/
def execBenitLinkLoss (dt : Nat) (s : State) : Res :=
  let s := s.advance dt
  .next (if !s.pair.linkUp then s
    else
      let s1 := { s with pair := { s.pair with linkUp := false, lanesUp := 0, notices := [], handoverIn := false } }
      let s2 := (s1.raise (src 12 2)).faultAssert 229
      (s2.setSource 17 true (s2.slot 17).classLimit false).roundNow)

/-- BENIT_SAFE_NOTICE (R366): the partner enters its safe state. -/
def execBenitSafeNotice (dt : Nat) (s : State) : Res :=
  let s := s.advance dt
  .next (if !s.pair.linkUp then s
    else
      let s1 := { s with pair := { s.pair with peerSafe := true, peerDev := 4, peerRole := 3 } }
      ((s1.raise (src 12 3)).faultAssert 232).roundNow)

/-- BENIT_OUT_BAD_NOTICE (R377): the partner reports this chip's output, or ends its report. -/
def execBenitOutBadNotice (dt : Nat) (target : BitVec 5) (bad : Bool) (s : State) : Res :=
  let s := s.advance dt
  .next (if !s.pair.linkUp || 20 ≤ target.toNat then s
    else
      let s1 := { s with pair := { s.pair with outBad := putBit s.pair.outBad target.toNat bad } }
      if s1.pair.outBad ≠ 0 then (s1.faultAssert 225).pairEval else s1.faultEnd 225)

/-- BENIT_HANDOVER_NOTICE (R381): the active hands over at the given instant. -/
def execBenitHandoverNotice (dt : Nat) (at_ : Tai) (s : State) : Res :=
  let s := s.advance dt
  .next (if !s.pair.linkUp || s.pair.role != .standby then s
    else { s with pair := { s.pair with handoverIn := true, handoverAt := at_ } })

/-- BENIT_REJOIN_NOTICE (R366, R382): the partner claims again. -/
def execBenitRejoinNotice (dt : Nat) (s : State) : Res :=
  let s := s.advance dt
  .next (if !s.pair.linkUp then s else { s with pair := { s.pair with peerSafe := false } })

/-- The fields that CFG_DIGEST covers (R369): the fused SVC_CLOCK_ID is held as "none" and so is the same on both. -/
def Csp.digested (c : Csp) : Csp :=
  { c with
    pair := PairCfg.reset
    sys := { c.sys with bootOn := SysCfg.reset.bootOn }
    svc := { c.svc with clockId := none }
    eth := { c.eth with lane := Tab.mapIdx c.eth.lane fun _ l => { l with
      rxExt := 0, txExt := 0, extUnc := 0 } } }

/-- CFG_DIGEST of this chip (R369). -/
def State.cfgDigest (s : State) : BitVec 64 := Config.cspDigest (s.cfg.digested)

/-- The partner's digest is compared (R369). -/
def State.digestCheck (s : State) (d : BitVec 64) : State :=
  let n := if d = s.cfgDigest then 0 else s.pair.cfgDiffer + 1
  let s1 := { s with pair := { s.pair with peerDigest := d, cfgDiffer := n } }
  if n = 10 then (s1.raise (src 12 11)).faultAssert 231 else s1

/-- One SHARED output as the frame mirrors it (R368). -/
def State.peerOut (s : State) (t : Nat) : PeerOut :=
  let target := BitVec.ofNat 5 t
  if t < 16 then
    let o := s.och t
    { target, running := o.running, aligned := o.aligned, offgrid := o.offgrid
      phaseErr := BitVec.ofInt 64 (s.perrNow t), anchor := o.anchor }
  else
    let running := if t < 20 then (s.otp (t - 16)).running else (s.otod (t - 20)).running
    { target, running, aligned := false, offgrid := false, phaseErr := 0, anchor := 0 }

/-- QSTATE of REF0 to REF19 as the frame carries them (R368). -/
def State.qstates (s : State) : BitVec 60 :=
  (List.range 20).foldl (fun a n => a ||| ((s.slot n).qstate.code.setWidth 60 <<< (3 * n))) 0

/-- The state that a timing frame mirrors at the 1 ms boundary `ms` (R368). -/
def State.peerFrame (s : State) (ms : Nat) : PeerFrame :=
  let t := s.stamp
  { time := taiOf (ms * ms16), eb := t.eb, flags := t.flags, dev := s.sys.devState.code, accord := s.acd.state.code
    role := s.pair.role.code, lc := s.lc.code, primary := s.primary, selected := s.ref.selected, qstates := s.qstates
    freq := s.acd.freqServo, hold := s.freqHoldReg, claim := s.claimNow, health := s.pair.health, raw := s.healthRaw
    outs := ((List.range 22).filter s.outShared).map s.peerOut, seq := s.log.seq, head := s.log.head.extractLsb' 192 64
    digest := s.cfgDigest, side := s.fuse.pairSide }

/-- BENIT_TIMING_FRAME_SEND (R367, R368): at a 1 ms boundary of the accord that has not yet been acted on a frame leaves with
the state mirrored there, after the notices. -/
def execBenitTimingFrameSend (dt : Nat) (s : State) : Res :=
  let s := s.advance dt
  let ms := s.now16 / ms16
  .next (if !s.ready pdPair || !s.pair.linkUp || s.pair.sentMs = some ms then s
    else { s with pair := { s.pair with
      sentFrames := s.pair.sentFrames + 1, sentMs := some ms, sentFrame := some (s.peerFrame ms), notices := [] } })

/-- x_17 of R367 from one lane's instants, in 2^-16 ns. -/
def State.x17Of (s : State) (b : BenitTimes) : Int :=
  Int.tdiv (((b.t4 - b.t3) - (b.t2 - b.t1)).toInt + ps16 s.cfg.pair.asymPs.toInt) 2

/-- x_17 as the frame gives it: lane 0's value while that lane is up (R367; where both are and agree, DESIGN CHOICE, log
84). -/
def State.x17Now (s : State) (lane0 lane1 : BenitTimes) : Int :=
  s.x17Of (if has s.pair.lanesUp 0 then lane0 else lane1)

/-- The two lanes' values differ by more than 20 ps (R367). -/
def skewed (diff : Int) : Bool := decide (20 * 65536 < diff.natAbs * 1000)

/-- While both lanes are up their values are compared (R367): PAIR_LANE_SKEW asserts as they begin to differ. -/
def State.laneSkew (s : State) (lane0 lane1 : BenitTimes) : State :=
  if s.pair.lanesUp ≠ 3 then s
  else
    let d := s.x17Of lane0 - s.x17Of lane1
    let s1 := { s with pair := { s.pair with laneDiffPs := BitVec.ofInt 32 (nearest (d * 1000) 65536), laneSkewed := skewed d } }
    if skewed d && !s.pair.laneSkewed then (s1.raise (src 12 12)).faultAssert 230 else s1

/-- The PEER registers and the rest of the mirrored state take the frame's (R368). -/
def Pair.mirror (p : Pair) (f : PeerFrame) (tick : Nat) : Pair :=
  { p with
    peerClaim := f.claim, peerAccord := f.accord, peerDev := f.dev, peerRole := f.role, peerSelected := f.selected
    peerPrimary := f.primary, peerHealth := f.health, peerEb := f.eb, peerFlags := f.flags, peerFreq := f.freq
    peerLog := f.seq, peerTime := f.time, peerLc := f.lc, peerQ := f.qstates, peerHold := f.hold, peerRaw := f.raw
    peerOuts := f.outs, peerHead := f.head, peerTick := some tick, peerSide := some f.side, peerSafe := f.dev == 4 }

/-- BENIT_TIMING_FRAME (R367 to R369): the partner's frame arrives on the lanes that are up; the E_SRC that slot 17 receives
is the frame's EB_ACCORD. -/
def execBenitTimingFrame (dt : Nat) (lane0 lane1 : BenitTimes) (f : PeerFrame) (s : State) : Res :=
  let s := s.advance dt
  .next (if !s.ready pdPair || !s.pair.linkUp then s
    else
      let x := s.x17Now lane0 lane1
      let s1 := { s with pair := { s.pair.mirror f s.ticks with x17 := BitVec.ofInt 64 x } }
      let s2 := ((s1.sideCheck).laneSkew lane0 lane1).digestCheck f.digest
      s2.refDeliver 17 x f.eb)

/-! ### The standby's self-test (R379) -/

/-- A compare channel's converter failed its test: it is replaced under R201, CLEAN clearing until the entry is served
again. -/
def State.entryCalBad (s : State) (e : Nat) : State :=
  let c := s.pcmpCfg e
  if !c.en then s
  else
    let s1 := (s.modPcmp e fun m => { m with calBad := true }).pairEval
    let s2 := s1.convFail (s1.tch c.channel.toNat).conv.toNat
    s2.modPcmp e fun m => { m with calBad := (s2.servConv c.channel.toNat).failed }

/-- STANDBY_CAL_TEST (R379): every 60 s each compare channel is stamped from the CAL source; the converters of the entries
in `bad` fail. -/
def execStandbyCalTest (dt : Nat) (bad : BitVec 8) (s : State) : Res :=
  let s := s.advance dt
  let due := match s.pair.calTestTick with
    | some t => decide (t + 60 * sTicks ≤ s.ticks)
    | none => true
  .next (if !due || !s.ready pdPair || !s.ready pdTic || (s.pair.role != .standby && s.pair.role != .active) then s
    else
      let s1 := { s with pair := { s.pair with
        calTestTick := some s.ticks
        cmp := Tab.mapIdx s.pair.cmp fun e m => if has bad e then m else { m with calBad := false } } }
      (((List.range 8).filter fun e => has bad e).foldl State.entryCalBad s1).pairEval)

end Sys2Proof.Machine
end

