-- ==== Sys2Proof/Machine/Power.lean ====
section
/-! DEFINITION. Power domains (R28, R80, R87, R88), the SYS commands that govern device state, power and reset (R93),
and the rows of the domains' own progress. -/

namespace Sys2Proof.Machine

/-! ### Masks (R28, R87) -/

/-- The domains of a mask and every domain they depend on. -/
def upClosure (m : BitVec 13) : BitVec 13 :=
  let f : BitVec 13 → Nat → BitVec 13 := fun m d => if has m d then m ||| domDeps d else m
  (List.range 13).reverse.foldl f m

/-- The domains of a mask and every domain that depends on them. -/
def downClosure (m : BitVec 13) : BitVec 13 :=
  let f : BitVec 13 → Nat → BitVec 13 := fun m d => if domDeps d &&& m == 0 then m else m ||| bitAt 13 d
  (List.range 13).foldl f m

/-- PD_VBAT and PD_AON, which no command switches. -/
def fixedDomains : BitVec 13 := 0x0003

/-- The ON mask that a power-up applies: prerequisites added; PD_GNSS is never powered on SZ1860-AN-I (R2, R87). -/
def State.onMask (s : State) (m : BitVec 13) : BitVec 13 :=
  let u := upClosure m &&& ~~~fixedDomains
  if s.fuse.gnssEn then u else u &&& 0x1FEF

/-- The OFF mask that a power-down applies: dependants added (R87). -/
def offMask (m : BitVec 13) : BitVec 13 := downClosure m &&& ~~~fixedDomains

/-- Domains that are still powering up or down. -/
def State.switchingDoms (s : State) : BitVec 13 := s.sys.domUp ||| s.sys.domDown ||| s.sys.domAgain

/-! ### Power-up -/

/-- The domains of a mask, whose prerequisites it holds, begin to power up together; while one of them is powering down,
they wait until it has completed that (R55, R80). -/
def State.powerUp (s : State) (m : BitVec 13) : State :=
  let y := s.sys
  let off := m &&& ~~~y.domOn
  if m &&& y.domDown == 0 then { s with sys := { y with domOn := y.domOn ||| off, domUp := y.domUp ||| off } }
  else { s with sys := { y with domAgain := y.domAgain ||| off ||| (m &&& y.domDown) } }

/-! ### The beginning of a power-down -/

/-- One staged record goes to its lane's ring, where it has room (R252). -/
def State.stageSend (s : State) (l : Nat) : State :=
  match (s.lane l).stage with
  | [] => s
  | r :: t => if s.ringRoom (8 + l) then (s.modLane l fun x => { x with stage := t }).ringPush (8 + l) r else s

/-- A lane's staged records go to its ring as far as it takes them (R88). -/
def State.stageDrain (s : State) (l : Nat) : State :=
  (List.range (s.lane l).stage.length).foldl (fun (s : State) _ => s.stageSend l) s

/-- A lane of a quad that powers down stops (R88). -/
def State.laneGoing (s : State) (l : Nat) : State :=
  if (s.laneCfg l).enable && s.activePort l then (s.laneStop l).stageDrain l else s

/-- Capture ends on a lane whose hashing or staging loses power (R256). -/
def State.capGoing (s : State) (l : Nat) : State := if s.capOn l then (s.capEnd l).stageDrain l else s

/-- PD_TIME begins to power down: the outputs leave their balls, the warden's tap holds its last value, the accord goes
COLD (R26, R89, R231). -/
def State.timeGoing (s : State) : State :=
  let s1 := { s with
    sys := { s.sys with tapHeld := s.timeNow }
    out := { s.out with
      ch := Tab.mapIdx s.out.ch fun _ c => { c with running := false, gliding := false }
      tp := Tab.mapIdx s.out.tp fun _ t => { t with running := false, high := false }
      tod := Tab.mapIdx s.out.tod fun _ t => { t with running := false } } }
  (s1.echoAbort).setAccord .cold

/-- PD_TIC begins to power down: armed intervals and an echo measurement end ABORTED, and the records that wait are
counted for the command's sillage entry (R199, R230). -/
def State.ticGoing (s : State) : State :=
  let n := ((List.range 32).map fun k => (s.tch k).queue.length).sum
  let s1 := ((List.range 32).foldl State.ivAbort s).echoAbort
  { s1 with sys := { s1.sys with ticDownAt := s1.ticks, note := n } }

/-- The lease is given up with PD_PAIR (R370, R375). -/
def State.pairYield (s : State) : State :=
  if s.pair.role == .active then
    let s1 := { s with pair := { s.pair with own := false, incumbent := false } }
    (s1.raise (src 4 11)).setRole .standby
  else s

/-- PD_PAIR begins to power down: the link is lost and the comparison channels are released (R204, R366). -/
def State.pairGoing (s : State) : State :=
  let s0 := s.pairYield
  let s1 := { s0 with tic := { s0.tic with ch := Tab.mapIdx s0.tic.ch fun _ c => if c.claim = 2 then { c with claim := 0 } else c } }
  if !s1.pair.linkUp then s1
  else
    let s2 := { s1 with pair := { s1.pair with linkUp := false, lanesUp := 0, notices := [], handoverIn := false } }
    let s3 := (s2.raise (src 12 2)).faultAssert 229
    s3.setSource 17 true (s3.slot 17).classLimit false

/-- What a domain's blocks do as its power-down begins. -/
def State.domGoing (s : State) (d : Nat) : State :=
  match d with
  | 2 => s.timeGoing
  | 3 => s.ticGoing
  | 5 | 6 | 7 | 8 => (quadLanes (d - 5)).foldl State.laneGoing s
  | 10 => ((List.range 16).foldl State.capGoing s).zeroSlots (BitVec.allOnes 64)
  | 12 => s.pairGoing
  | _ => s

/-- The running self-test has lost the power of a target (R416). -/
def State.bistUnpowered (s : State) : Bool :=
  match s.blt.bist with
  | none => false
  | some r => (has r.mask 0 && !s.ready pdEngine) || (has r.mask 1 && !s.ready pdTic) ||
      (has r.mask 2 && !s.ready pdEngine) ||
      (has r.mask 3 && (List.range 4).any fun q => has r.quads q && !s.ready (pdQ q)) ||
      (has r.mask 4 && !s.ready pdGnss) || (has r.mask 5 && !s.ready pdTime)

/-- The order in which a power-down works through the domains: dependants first (R28). -/
def downOrder : List Nat := [12, 11, 10, 8, 7, 6, 5, 4, 9, 3, 2]

/-- The domains of a mask, which holds their dependants, begin to power down (R87, R88). -/
def State.powerDown (s : State) (m : BitVec 13) : State :=
  let go := m &&& s.sys.domOn &&& ~~~s.sys.domDown
  let s1 := downOrder.foldl (fun (s : State) d => if has go d && s.ready d then s.domGoing d else s) s
  let y := s1.sys
  let s2 := { s1 with sys := { y with
    domUp := y.domUp &&& ~~~go, domReady := y.domReady &&& ~~~go, domDown := y.domDown ||| go
    domAgain := y.domAgain &&& ~~~m } }
  let s3 := (if has go 4 then s2.gnsEval else s2).refPresence
  if s3.bistUnpowered then s3.bistAbort else s3

/-- The domains of a mask that are powered are power-cycled (R68). -/
def State.powerCycle (s : State) (m : BitVec 13) : State :=
  let again := m &&& s.sys.domOn
  let s1 := s.powerDown m
  { s1 with sys := { s1.sys with domAgain := s1.sys.domAgain ||| again } }

/-! ### PCIe and its rings (R35) -/

/-- Replies owed to rings 2 and 3 are discarded and counted. -/
def State.dropReplies (s : State) : State :=
  let gone := s.cmd.replies.filter fun (r : Reply) => r.source.toNat < 2
  { s with cmd := { s.cmd with
    replies := s.cmd.replies.filter fun (r : Reply) => !(r.source.toNat < 2)
    replyDrop := s.cmd.replyDrop + BitVec.ofNat 32 gone.length, stall := 0 } }

/-- Frames already fetched from a lane's host ring have no descriptor left to complete. -/
def State.orphanTx (s : State) (l : Nat) : State :=
  let f : TxFrame → TxFrame := fun x => { x with host := false }
  { s with tmg := { s.tmg with
    q := Tab.mapIdx s.tmg.q fun i q => if i / 8 = l then { q with frames := q.frames.map f } else q
    lanes := Tab.mod s.tmg.lanes l fun t => { t with wireFrame := t.wireFrame.map f } } }

/-- A ring that a function-level reset or link loss disables: base, size and moderation stay. -/
def Ring.down (r : Ring) : Ring :=
  { r with enable := false, prod := 0, cons := 0, fetch := 0, doneSlots := [], modPending := 0 }

/-- Every ring is disabled, the replies owed to the host are discarded, and MSI-X is as after reset (R35). -/
def State.ringsDown (s : State) : State :=
  let s1 := (List.range 16).foldl State.orphanTx s
  ({ s1 with cmd := { s1.cmd with rings := Tab.mapIdx s1.cmd.rings fun _ r => r.down }.msixOff }).dropReplies.acqResume

/-- The PCIe link is lost (R35). -/
def State.linkLost (s : State) : State :=
  let s1 := s.ringsDown
  ({ s1 with sys := { s1.sys with pcieLink := false } }).raise (src 15 4)

/-- PD_PCIE is off: every ring register returns to its reset value (R35). -/
def State.pcieOff (s : State) : State :=
  let s1 := if s.sys.pcieLink then s.linkLost else s.ringsDown
  { s1 with cmd := { s1.cmd with rings := Vector.replicate 64 Ring.reset } }

/-! ### The end of a power-down -/

/-- A domain's registers return to their reset values. -/
def State.domBlank (s : State) (d : Nat) : State :=
  match d with
  | 2 => { s with
      acd := { Acd.reset with lastPub := s.acd.lastPub }, ref := Ref.reset, out := Out.reset
      sys := { s.sys with seeded := false } }
  | 3 => { s with tic := { Tic.reset with bridgeDone := s.tic.bridgeDone } }
  | 4 => { s with gns := Gns.reset }
  | 5 | 6 | 7 | 8 =>
    let q := d - 5
    { s with
      eth := { s.eth with
        lanes := Tab.mapIdx s.eth.lanes fun l x => if l / 4 = q then Lane.reset else x
        relock := putBit s.eth.relock q false }
      tmg := { s.tmg with
        lanes := Tab.mapIdx s.tmg.lanes fun l x => if l / 4 = q then TmgLane.reset else x
        q := Tab.mapIdx s.tmg.q fun i x => if i / 32 = q then TmgQ.reset else x } }
  | 9 => { s with
      svc := { Svc.reset with bootSeed := s.svc.bootSeed }
      eth := { s.eth with intSrc := 0 }
      tmg := { s.tmg with p := Vector.replicate 256 Pol.reset, intSrc := 0 } }
  | 10 => { s with key := { s.key with slots := Vector.replicate 64 KeySlot.reset } }
  | 11 => s.pcieOff
  | 12 => { s with pair := { Pair.reset with role := s.pair.role } }
  | _ => s

/-- Nothing of a lane is left to go out: the frame on the wire, the roots, and the staged records while its ring takes
them (R88, R256). -/
def State.laneDrained (s : State) (l : Nat) : Bool :=
  let x := s.lane l
  (s.tlane l).wireFrame.isNone && x.closed.isEmpty && x.supers.isEmpty &&
    (x.stage.isEmpty || !s.ready pdPcie || !(s.ring (8 + l)).enable)

/-- The streaming queues have drained to their rings, or have had 10 ms (R80, R199). -/
def State.ticDrained (s : State) : Bool :=
  decide (s.sys.ticDownAt + 10 * msTicks ≤ s.ticks) ||
    (List.range 32).all fun k => !(s.tch k).stream || (s.tch k).queue.isEmpty

/-- Power may be removed from a domain: its dependants are off and it has drained (R28, R80, R88, R256). -/
def State.mayOff (s : State) (d : Nat) : Bool :=
  ((List.range 13).all fun x => !(has (domDeps x) d) || !has s.sys.domOn x) &&
    (match d with
      | 3 => s.ticDrained
      | 5 | 6 | 7 | 8 => (quadLanes (d - 5)).all s.laneDrained
      | 9 | 10 => (List.range 16).all fun l => (s.lane l).closed.isEmpty && (s.lane l).supers.isEmpty
      | _ => true)

/-- Domains that wait for a power-down to complete begin to power up (R55, R68). -/
def State.powerAgain (s : State) : State :=
  let ok := s.sys.domAgain &&& ~~~s.sys.domDown
  let m := s.onMask ok
  if ok == 0 || m &&& s.sys.domDown != 0 then s
  else { s with sys := { s.sys with domAgain := s.sys.domAgain &&& ~~~ok } }.powerUp m

/-- The level sources whose condition is held by a domain's blocks (R358). -/
def domSources (d : Nat) : List Nat :=
  if d = 2 then [64, 65] else if d = 3 then [97] else if d = 12 then [224, 225, 226, 227, 228] else []

/-- Those of them that are present end with the domain's registers (R359). -/
def State.domQuiet (s : State) (d : Nat) : State :=
  (domSources d).foldl (fun (s : State) n => if has s.flt.present n then s.faultEnd n else s) s

/-- A domain completes its power-down (R80). -/
def State.domOff (s : State) (d : Nat) : State :=
  let s1 := (s.domBlank d).domQuiet d
  let y := s1.sys
  let s2 := { s1 with sys := { y with domOn := putBit y.domOn d false, domDown := putBit y.domDown d false } }
  (s2.raise (src 0 2) d).powerAgain

/-- DOMAIN_OFF (R80). -/
def execDomainOff (dt : Nat) (d : BitVec 4) (s : State) : Res :=
  let s := s.advance dt
  let k := d.toNat
  .next (if has s.sys.domDown k && s.mayOff k then s.domOff k else s)

/-! ### The end of a power-up -/

/-- CAP_EPOCH of a quad advances and is persisted; with the keep read-only it still advances in PD_AON (R247). -/
def State.capEpochStep (s : State) (q : Nat) : State :=
  let f : Keep → Keep := fun k => { k with capEpoch := Tab.mod k.capEpoch q (· + 1) }
  let s1 := s.keepOwn f
  if s.keep.ro then { s1 with keep := f s1.keep } else s1

/-- The converter of the bridge measurement: the lowest spare that is calibrated, else C31 (R203). -/
def State.bridgeConv (s : State) : Nat :=
  match (List.range 4).find? fun i => (s.tconv (32 + i)).table.valid && !(s.tconv (32 + i)).failed with
  | some i => 32 + i
  | none => 31

/-- The bridge measurement begins (R203). -/
def State.bridgeStart (s : State) : State :=
  let c := s.bridgeConv
  let s1 := { s with tic := { s.tic with bridge := some c } }
  if 32 ≤ c then s1.modSpare (c - 32) fun x => { x with use := 3 } else s1

/-- A substitution of the keep is in force again (R201). -/
def State.substNow (s : State) (i : Nat) : State :=
  let t := (Tab.get s.cfg.tic.subst i 0x3F).toNat
  if t < 32 then
    let s1 := s.modSpare i fun _ => { TicSpare.reset with use := 1, chan := BitVec.ofNat 6 t }
    s1.modTch t fun c => { c with conv := BitVec.ofNat 6 (32 + i) }
  else s

/-- Channels that enabled comparison entries use are claimed; an interval armed on one ends ABORTED (R204, R376). -/
def State.pairClaims (s : State) : State :=
  (List.range 8).foldl (fun (s : State) e =>
    let c := Tab.get s.cfg.pair.cmp e PairCmpCfg.reset
    if c.en && s.ready pdTic && s.ready pdPair then
      (s.ivAbort c.channel.toNat).modTch c.channel.toNat fun x => { x with claim := 2 }
    else s) s

/-- The substitutions of the keep are in force. -/
def State.substAll (s : State) : State := (List.range 4).foldl State.substNow s

/-- PD_TIC is ready: tables are loaded, the coarse counter starts, every converter is cold (R186, R190); in INIT the
bridge is measured first, before the substitutions of the keep apply (R203). -/
def State.ticReady (s : State) : State :=
  let s1 := { s with tic := { s.tic with
    zeroTick := s.ticks, readyTick := s.ticks
    convs := Tab.mapIdx s.tic.convs fun c _ => { TicConv.reset with table := Tab.get s.keep.ticTables c TicTable.reset } } }
  let s2 := if s.sys.devState = .init && !s.tic.bridgeDone then s1.bridgeStart else s1.substAll
  let s4 := s2.pairClaims
  { s4 with mon := { s4.mon with ticFree := BitVec.ofNat 4 s4.sparesFree } }

/-- The OUT block starts under its configuration: synthesizers that are on begin to lock, outputs wait to start, those
in SYNC mode OFFGRID (R208, R210, R231). -/
def State.outStart (s : State) : Out :=
  let o := s.cfg.out
  { Out.reset with
    syn := Tab.mapIdx Out.reset.syn fun k y => { y with locking := (Tab.get o.syn k SynCfg.reset).on }
    ch := Tab.mapIdx Out.reset.ch fun n c => { c with
      readyTick := s.ticks, misTick := s.ticks, offgrid := (Tab.get o.ch n OutChCfg.reset).sync } }

/-- PD_TIME is ready: the counter starts at zero, COLD (R121, R130), and the configured slots enter qualification (R84);
in BOOT they wait for the keep. -/
def State.timeReady (s : State) : State :=
  let s1 := { s with
    acd := { Acd.reset with lastPub := s.ticks, checkFrom := s.ticks, leapPending := s.cfg.acd.leapWaits }
    sys := { s.sys with seeded := false }
    out := s.outStart }
  if s.sys.devState = .boot then s1 else ((s1.faultEnd 4).refStart).react

/-- A quad is ready: a new CAP_EPOCH begins, and its service classes follow the configuration (R247, R301). -/
def State.quadReady (s : State) (q : Nat) : State :=
  let s1 := s.capEpochStep q
  (quadLanes q).foldl State.gateEval s1.svcClassesSet

/-- BRIDGE_MEASURE (R14, R203): the bridge measurement that began in INIT completes and has found `skew` (2^-16 ns), to which
the digital die's taps are set. Its converter is free again, the substitutions of the keep apply, and PD_TIC is powered down
where BOOT_ON excludes it. -/
def execBridgeMeasure (dt : Nat) (skew : Int) (s : State) : Res :=
  let s := s.advance dt
  let due := s.ready pdTic && s.tic.bridge.isSome && decide (s.tic.readyTick + msTicks ≤ s.ticks)
  .next (if due then
      let s1 := { s with
        sys := { s.sys with tapPhase := skew }
        tic := { s.tic with
          bridgeDone := true, bridge := none
          spares := Tab.mapIdx s.tic.spares fun _ p => if p.use = 3 then TicSpare.reset else p } }
      let s2 := s1.substAll.calNext
      if has s2.bootOn pdTic then s2 else s2.powerDown (bitAt 13 pdTic)
    else s)

/-- What a domain's blocks do as it becomes ready. -/
def State.domStart (s : State) (d : Nat) (banks : BitVec 72) : State :=
  match d with
  | 2 => s.timeReady
  | 3 => s.ticReady
  | 4 =>
    let s1 := ({ s with gns := { s.gns with solTick := s.ticks } }).notchesOn
    let s2 := (s1.bankTest banks).gnsEval
    { s2 with mon := { s2.mon with gnssFree := BitVec.ofNat 4 s2.banksFree } }
  | 5 | 6 | 7 | 8 => s.quadReady (d - 5)
  | 9 => s.svcEval
  | 12 => ({ s with pair := { s.pair with readyTick := s.ticks } }.pairClaims).pairEval
  | _ => s

/-- A domain reports ready (R80): its number, and for a quad its new CAP_EPOCH (R247, R449). -/
def State.domReadyNow (s : State) (d : Nat) (banks : BitVec 72) : State :=
  let y := s.sys
  let s1 := { s with sys := { y with
    domOn := putBit y.domOn d true, domUp := putBit y.domUp d false, domReady := putBit y.domReady d true } }
  let s2 := s1.domStart d banks
  let v : Int := if 5 ≤ d && d ≤ 8 then ((Tab.get s2.keep.capEpoch (d - 5) 0).toNat : Int) else 0
  s2.raise (src 0 1) d v

/-- DOMAIN_READY (R80). In BOOT the boot ROM powers PD_TIME first, with no row of its own, and PD_PCIE as soon as
PD_ENGINE is ready (R78). -/
def execDomainReady (dt : Nat) (d : BitVec 4) (banks : BitVec 72) (s : State) : Res :=
  let s := s.advance dt
  let k := d.toNat
  let bootTime := s.sys.devState == .boot && !s.sys.inReset && k == 2 && !s.ready 2
  .next (if has s.sys.domUp k || bootTime then
    let s1 := s.domReadyNow k banks
    if s.sys.devState == .boot && k == 9 then s1.powerUp (bitAt 13 11) else s1
  else s)

/-! ### Firmware images and the SVN floor (R73 to R77) -/

/-- Bytes of a slot of the flash: image A lies at offset 0, image B at 0x0040_0000 (R73). -/
def slotSize : Nat := 0x400000

/-- The image of a slot: A, or B. -/
def Sys.slotImage (y : Sys) (b : Bool) : FwImage := if b then y.flashB else y.flashA

/-- A slot's image changes. -/
def Sys.putImage (y : Sys) (b : Bool) (f : FwImage) : Sys := if b then { y with flashB := f } else { y with flashA := f }

/-- An image is valid: it checks, and its SVN is at least the floor (R75). -/
def State.imageValid (s : State) (f : FwImage) : Bool := f.checks && decide (s.fuse.svnFloor ≤ f.svn)

/-- The floor's steps up to `n` are programmed: both fuses of each pair (R75, R77). -/
def Fuse.raiseFloor (f : Fuse) (n : BitVec 6) : Fuse :=
  let m : BitVec 63 := BitVec.ofNat 63 (2 ^ n.toNat - 1)
  { f with svnPairA := f.svnPairA ||| m, svnPairB := f.svnPairB ||| m }

/-! ### SYS registers -/

/-- SYS_STATE. -/
def State.sysStateWord (s : State) : W32 :=
  let y := s.sys
  word [(0, y.devState.code.toNat), (3, y.tamperHold.toNat), (4, s.lc.code.toNat), (8, s.acd.state.code.toNat),
    (12, s.pair.role.code.toNat), (16, y.wakeSrc.toNat), (20, y.wakeOrigin.toNat)]

/-- SYS_BOOT_STATUS. -/
def State.bootStatusWord (s : State) : W32 :=
  let y := s.sys
  word [(0, y.bootCode.code.toNat), (4, y.bootSlot.toNat), (5, s.acd.ocxoPresent.toNat), (6, y.seeded.toNat),
    (8, y.lastReset.toNat), (12, y.tamperSrc.toNat), (16, y.svnRunning.toNat)]

/-- SYS_DOMAIN_STATUS. -/
def State.domStatusWord (s : State) : W32 := word [(0, s.sys.domOn.toNat), (16, s.sys.domReady.toNat)]

/-- SYS_FW_STATUS. -/
def State.fwStatusWord (s : State) : W32 :=
  let y := s.sys
  word [(0, s.cfg.sys.nextSlot.toNat), (1, y.stageBusy.toNat), (8, y.svnA.toNat), (14, y.validA.toNat),
    (16, y.svnB.toNat), (22, y.validB.toNat), (24, s.fuse.svnFloor.toNat)]

/-- SYS_QUERY_STATE. -/
def specSysQueryState : OpSpec where
  opcode := 0x0000
  states := stAll
  len := fun _ => some 0
  body := answer fun _ s => [s.sysStateWord, s.bootStatusWord, s.domStatusWord, s.fwStatusWord]

/-! ### Device state -/

/-- SYS_SET_STATE leaves INIT only where the life-cycle state lets it (R72). -/
def setStateLc (s : State) (_ : Packet) : Bool := !(s.sys.devState == .init && s.lc == .blank)

/-- SYS_SET_STATE. -/
def specSysSetState : OpSpec where
  opcode := 0x0040
  states := stIRM
  len := fun _ => some 1
  lcOk := setStateLc
  params := fun _ p =>
    let t := fld (p.w 0) 0 3
    p.only [0x307] && (t == 0 || t == 2 || t == 3) && (flag (p.w 0) 8 || !flag (p.w 0) 9)
  csp := fun p => flag (p.w 0) 8
  body := fun p s =>
    let w := p.w 0
    let t := fld w 0 3
    if !setStateLc s p then Done.err s .denied
    else if t ≠ 0 && s.sys.tamperHold then Done.err s .state
    else
      let a := if flag w 8 then { s with cfg := { s.cfg with sys := { s.cfg.sys with autoRun := flag w 9 } } } else s
      Done.ok (if t = 2 then a.enterRun else if t = 3 then (a.setDev .maint).react else a)

/-- AUTO_RUN (R71, R72). -/
def execAutoRun (dt : Nat) (s : State) : Res := .next (s.advance dt).autoRunNow

/-! ### SYS_DOMAIN_POWER (R87) -/

/-- The ON and OFF masks of a packet. -/
def domMasks (p : Packet) : BitVec 13 × BitVec 13 := ((p.w 0).setWidth 13, (p.w 1).setWidth 13)

/-- The masks are legal (R87). -/
def domPowerOk (_ : State) (p : Packet) : Bool :=
  let m := domMasks p
  p.only [0x1FFC, 0x1FFC, 1] && m.1 &&& m.2 == 0 && upClosure m.1 &&& downClosure m.2 == 0 &&
    !(p.master == 0 && has (offMask m.2) 11)

/-- The ON set that results, as BOOT_ON holds it. -/
def State.onResult (s : State) (on off : BitVec 13) : BitVec 13 :=
  let y := s.sys
  let m := (((y.domOn &&& ~~~y.domDown) ||| y.domAgain ||| on) &&& ~~~off) ||| 0x0A07
  if s.fuse.gnssEn then m else m &&& 0x1FEF

/-- SYS_DOMAIN_POWER. -/
def specSysDomainPower : OpSpec where
  opcode := 0x0042
  states := 0x17
  len := fun _ => some 3
  params := domPowerOk
  csp := fun p => flag (p.w 2) 0
  body := fun p s =>
    let on := s.onMask (domMasks p).1
    let off := offMask (domMasks p).2
    if (has off 2 && s.sys.devState != .maint) || (has off 12 && s.pair.role == .active) then Done.err s .state
    else if (on ||| off) &&& s.switchingDoms != 0 then Done.err s .busy
    else
      let r := s.onResult on off
      let a := (s.powerDown off).powerUp on
      let b := if flag (p.w 2) 0 then { a with cfg := { a.cfg with sys := { a.cfg.sys with bootOn := r } } } else a
      Done.ok b [on.setWidth 32, off.setWidth 32]

/-! ### Sleep and wake (R89 to R91) -/

/-- The servo is declared lost at SYS_SLEEP with TIME_KEEP (R124). -/
def State.servoSleeps (s : State) : State :=
  if s.acd.state == .locked || s.acd.state == .acquire then
    let s1 := { s with acd := { s.acd with servoLost := true } }
    ((s1.raise (src 3 7)).faultAssert 32).enterDrydown false
  else s

/-- SYS_SLEEP with TIC_KEEP clears every STREAM (R199). -/
def State.streamsOff (s : State) : State :=
  { s with tic := { s.tic with ch := Tab.mapIdx s.tic.ch fun _ c => { c with stream := false } } }

/-- The domains that a sleep powers down (R89). -/
def sleepMask (timeKeep ticKeep : Bool) : BitVec 13 :=
  0x1FF0 ||| (if timeKeep then 0 else 0x0004) ||| (if ticKeep then 0 else 0x0008)

/-- SLEEP is entered (R89). -/
def State.sleepNow (s : State) (timeKeep ticKeep : Bool) : State :=
  let s1 := if timeKeep then s.servoSleeps else s
  let s2 := if ticKeep then s1.streamsOff else s1
  let s3 := s2.powerDown (sleepMask timeKeep ticKeep)
  let s4 := { s3 with sys := { s3.sys with domAgain := 0, waking := false, after := 2 } }
  (s4.setDev .sleep).react

/-- SYS_SLEEP. -/
def specSysSleep : OpSpec where
  opcode := 0x0043
  states := stRM
  len := fun _ => some 1
  params := fun _ p => p.only [3] && (flag (p.w 0) 0 || !flag (p.w 0) 1)
  body := fun p s =>
    if s.pair.role == .active then Done.err s .state
    else if !flag (p.w 0) 0 && !s.cmd.sched.isEmpty then Done.err s .busy
    else Done.ok (s.sleepNow (flag (p.w 0) 0) (flag (p.w 0) 1))

/-- A wake begins: its cause is recorded, and the domains of SYS_DOMAIN_BOOT power up (R91). One that is already under
way goes on. -/
def State.wakeNow (s : State) (source : BitVec 2) (origin : BitVec 4) : State :=
  if s.sys.waking then s
  else
    let s1 := { s with sys := { s.sys with waking := true, wakeSrc := source, wakeOrigin := origin } }
    s1.powerUp (s1.onMask s1.bootOn)

/-- SYS_WAKE. -/
def specSysWake : OpSpec where
  opcode := 0x0044
  states := 0x10
  len := fun _ => some 0
  body := fun p s => Done.ok (s.wakeNow 1 p.master)

/-- The packet that stands for a WAKE_N edge: SYS_WAKE from M15, with no reply (R91). -/
def wakePacket : Packet := { ({} : Packet) with master := 15, noReply := true }

/-- WAKE_N_EDGE: it executes as SYS_WAKE from M15 and is logged (R91). -/
def execWakeNEdge (dt : Nat) (s : State) : Res :=
  let s := s.advance dt
  .next (if s.sys.devState == .sleep then
    let s := { s with sys := { s.sys with note := 0 } }
    (s.wakeNow 2 15).logPut (commandEntry s wakePacket 0x0044 .ok)
  else s)

/-- What follows a re-verified image: RUN, or INIT with TAMPER_HOLD where a tamper alarm arrived in SLEEP (R86, R91). -/
def State.wakeDone (s : State) : State :=
  let s1 := { s with sys := { s.sys with waking := false } }
  if s1.vbat.latched then
    let s2 := ((s1.zeroRoots).zeroKeys).setDev .init
    let s3 := { s2 with
      sys := { s2.sys with tamperSrc := s2.vbat.tamperSrc, bootCode := .tamper }
      key := { s2.key with lastSrc := s2.vbat.tamperSrc } }
    ((s3.tamperHoldSet).faultAssert 192).react
  else s1.enterRun

/-- WAKE_COMPLETE (R91): the running image, as its slot now holds it, is verified again. An image that no longer verifies
leaves the device in SLEEP with NO_IMAGE (DESIGN CHOICE, log entry 92). -/
def execWakeComplete (dt : Nat) (flash : Option FwImage) (s : State) : Res :=
  let s := s.advance dt
  let y := s.sys
  let f := flash.getD (y.slotImage y.bootSlot)
  let r := { s with sys := y.putImage y.bootSlot f }
  .next (if y.devState == .sleep && y.waking && s.bootReady then
    if s.imageValid f && f.hash == y.runHash then r.wakeDone
    else { r with sys := { r.sys with waking := false, bootCode := .noImage } }
  else s)

/-! ### SYS_RESET (R68, R70) -/

/-- The scope and its mask are legal (R93). -/
def sysResetOk (_ : State) (p : Packet) : Bool :=
  let sc := fld (p.w 0) 0 2
  p.only [3, 0xFFFFFFFF] && sc != 3 && (if sc = 1 then p.w 1 != 0 && (p.w 1 &&& 0xFFFFE003) == 0 else p.w 1 == 0)

/-- SYS_RESET. Scope ENGINES restarts the firmware of M4 to M13 (R68), of which the machine holds the servo's integrator: it
starts again from the rate in force (DESIGN CHOICE, log entry 87). -/
def specSysReset : OpSpec where
  opcode := 0x0045
  states := stAll
  len := fun _ => some 2
  params := sysResetOk
  body := fun p s =>
    let m := offMask ((p.w 1).setWidth 13)
    match fld (p.w 0) 0 2 with
    | 0 => Done.ok { s with sys := { s.sys with after := 1 } }
    | 1 =>
      if has m 2 && s.sys.devState != .maint && s.sys.devState != .safe then Done.err s .state
      else if m &&& s.switchingDoms != 0 then Done.err s .busy
      else Done.ok (s.powerCycle m)
    | _ => Done.ok s.loopLoad

/-! ### SYS_FW_STAGE and SYS_FW_ACTIVATE (R77) -/

/-- SYS_FW_STAGE: any master but M0 is DENIED (R93). The result register's VALID clears as the new action starts (R57). -/
def specSysFwStage : OpSpec where
  opcode := 0x0046
  states := stRM
  len := fun _ => some 3
  lcOk := fun _ p => p.master == 0
  body := fun p s =>
    if s.sys.stageBusy then Done.err s .busy
    else Done.ok { s with sys := { s.sys with
      stageBusy := true, stageValid := false, stageAddr := p.w2 0, stageLen := p.w 2 } }

/-- What staging an image ends with (R93): its code. An image that fails another check than its SVN's is BAD_SIGNATURE
(DEDUCED, log entry 75). -/
def State.stageCode (s : State) (f : FwImage) (dmaError powerFail : Bool) : Nat :=
  if slotSize < s.sys.stageLen.toNat then 4
  else if powerFail then 5
  else if dmaError then 3
  else if !f.checks then 1
  else if !s.imageValid f then 2
  else 0

/-- The inactive slot receives an image: what of it could not be taken leaves the slot without a valid one (R77). -/
def State.stageImage (s : State) (code : Nat) (f : FwImage) : State :=
  let b := !s.sys.bootSlot
  let y := s.sys.putImage b (if code = 3 ∨ code = 5 then {} else f)
  let svn := if code = 3 ∨ code = 5 then 0 else f.svn
  { s with sys := if b then { y with validB := code == 0, svnB := svn } else { y with validA := code == 0, svnA := svn } }

/-- FW_STAGE_DONE (R65, R77, R93): `image` is what the host's memory held. A length that is too large leaves the slot as it
was. -/
def execFwStageDone (dt : Nat) (image : FwImage) (dmaError powerFail : Bool) (s : State) : Res :=
  let s := s.advance dt
  .next (if !s.sys.stageBusy then s
    else
      let code := s.stageCode image dmaError powerFail
      let s1 := if code = 4 then s else s.stageImage code image
      let s2 := { s1 with sys := { s1.sys with
        stageBusy := false, stageValid := true, stageResult := BitVec.ofNat 3 code, stageSeq := s1.sys.stageSeq + 1 } }
      let s3 := if code = 3 then s2.irq (src 15 1) else s2
      s3.raise (src 0 4) 0 code)

/-- COMMIT_SVN is legal: the slot is the running one, and its SVN exceeds the floor (R77). -/
def State.svnCommits (s : State) (p : Packet) : Bool :=
  !flag (p.w 0) 8 || (flag (p.w 0) 0 == s.sys.bootSlot && decide (s.fuse.svnFloor < s.sys.svnRunning))

/-- SYS_FW_ACTIVATE. -/
def specSysFwActivate : OpSpec where
  opcode := 0x0047
  states := stM
  len := fun _ => some 1
  params := fun s p => p.only [0x101] && s.svnCommits p
  csp := fun _ => true
  body := fun p s =>
    if !s.svnCommits p then Done.err s .badParam
    else Done.ok { s with
      cfg := { s.cfg with sys := { s.cfg.sys with nextSlot := flag (p.w 0) 0 } }
      fuse := if flag (p.w 0) 8 then s.fuse.raiseFloor s.sys.svnRunning else s.fuse }

end Sys2Proof.Machine
end

