-- ==== Sys2Proof/Machine/Boot.lean ====
section
/-! DEFINITION. Resets and the boot sequence (R66 to R86): the reset balls and the rails, the boot ROM's image check, the
unseal, the keep's restoration, and what opens the log. -/

namespace Sys2Proof.Machine

/-! ### Resets (R66 to R69) -/

/-- The block enters a cold or chip reset and stays in it. -/
def State.hold (s : State) (cause : Nat) (cold : Bool) : State :=
  let s1 := s.toReset cause cold
  { s1 with sys := { s1.sys with inReset := true, railWaitFrom := s.ticks } }

/-- POR_N_ASSERT (R66, R68): POR_N low is a cold reset, held until it is high again. -/
def execPorNAssert (dt : Nat) (low : Bool) (s : State) : Res :=
  let s := s.advance dt
  .next (if low && !s.sys.porLow then
      let s1 := s.hold 0 true
      { s1 with sys := { s1.sys with porLow := true } }
    else { s with sys := { s.sys with porLow := low } })

/-- RAIL_MONITOR_RESET (R66, R67): `out` are the rails other than VBAT that are outside their windows from now on, for more
than 1 µs. One that has left is a cold reset; the 2 ms wait starts when the last is back. -/
def execRailMonitorReset (dt : Nat) (out : BitVec 7) (s : State) : Res :=
  let s := s.advance dt
  let a := if out &&& ~~~s.sys.railsOut = 0 then s else s.hold 3 true
  .next { a with sys := { a.sys with
    railsOut := out, railWaitFrom := if out = 0 && s.sys.railsOut ≠ 0 then s.ticks else a.sys.railWaitFrom } }

/-- RESET_N_ASSERT (R68): RESET_N low is a chip reset, held until it is high again; a cold reset in force stays one. -/
def execResetNAssert (dt : Nat) (low : Bool) (s : State) : Res :=
  let s := s.advance dt
  .next (if low && !s.sys.resetLow && !(s.sys.inReset && s.sys.coldReset) then
      let s1 := s.hold 1 false
      { s1 with sys := { s1.sys with resetLow := true } }
    else { s with sys := { s.sys with resetLow := low } })

/-- RESET_RELEASE (R66): a cold reset is released once the rails have been valid for 2 ms and POR_N is high; BOOT
begins. -/
def execResetRelease (dt : Nat) (s : State) : Res :=
  let s := s.advance dt
  let y := s.sys
  let rails := y.railsOut = 0 && (!y.coldReset || decide (y.railWaitFrom + 2 * msTicks ≤ s.ticks))
  .next (if y.inReset && !y.porLow && !y.resetLow && rails then
      { s with sys := { y with inReset := false, releasedAt := s.ticks }, mon := { s.mon with lastCross := s.ticks } }
    else s)

/-- STRAP_SAMPLE (R425): once per cold reset, 0.02 ms after its release. -/
def execStrapSample (dt : Nat) (s : State) : Res :=
  let s := s.advance dt
  .next (if s.sys.devState == .boot && !s.sys.inReset && s.sys.coldReset && decide (s.sys.releasedAt + 20 * usTicks ≤ s.ticks)
    then
      { s with
        fuse := { s.fuse with pairSide := s.fuse.pairSidePin, i2cAddr := s.fuse.i2cAddrPin }
        sys := { s.sys with coldReset := false } }
    else s)

/-! ### The boot ROM (R75, R76, R78) -/

/-- PD_ENGINE may begin to power up: the CPLL has locked, or 5 ms have passed since PD_TIME became ready with no reference
detected, or 9 ms since the release of the reset (R78). -/
def State.engineStarts (s : State) : Bool :=
  s.acd.cpllLock || (decide (s.acd.checkFrom + 5 * msTicks ≤ s.ticks) && !s.cpllRefPresent) ||
    decide (s.sys.releasedAt + 9 * msTicks ≤ s.ticks)

/-- ENGINE_BOOT_POWER_START (R78): PD_ENGINE begins to power up; before the CPLL's lock that is reported. -/
def execEngineBootPowerStart (dt : Nat) (s : State) : Res :=
  let s := s.advance dt
  .next (if s.sys.devState == .boot && !s.sys.inReset && s.ready pdTime && !has s.sys.domOn pdEngine && s.engineStarts then
      let s1 := s.powerUp (bitAt 13 pdEngine)
      if s.acd.cpllLock then s1 else s1.raise (src 0 9)
    else s)

/-- The boot ROM has read both slots of the flash (R75): the slot that NEXT_SLOT names is taken where its image is valid,
else the other; with none the device stays in BOOT (R76). -/
def State.imageCheck (s : State) : State :=
  let y := s.sys
  let okA := y.flashA.checks
  let okB := y.flashB.checks
  let vA := s.imageValid y.flashA
  let vB := s.imageValid y.flashB
  let first := s.cfg.sys.nextSlot
  let y1 := { y with svnA := y.flashA.svn, svnB := y.flashB.svn, validA := vA, validB := vB }
  if !vA && !vB then { s with sys := { y1 with bootCode := if okA || okB then .rollback else .noImage } }
  else
    let b := if (if first then vB else vA) then first else !first
    let s1 := { s with sys := { y1 with
      bootSlot := b, imageOk := true, runHash := (y.slotImage b).hash, svnRunning := (y.slotImage b).svn } }
    if b = first then s1 else s1.raise (src 0 3)

/-- BOOT_IMAGE_CHECK (R73 to R76). A slot that the board controller has written since holds what the operand says (R76). -/
def execBootImageCheck (dt : Nat) (flashA flashB : Option FwImage) (s : State) : Res :=
  let s := s.advance dt
  let y := s.sys
  .next (if y.devState == .boot && !y.inReset && !y.imageOk && y.bootCode == .inProgress then
      State.imageCheck { s with sys := { y with flashA := flashA.getD y.flashA, flashB := flashB.getD y.flashB } }
    else s)

/-! ### The keep and the roots (R86, R330, R394) -/

/-- What a keep whose header copies are both invalid holds (R394). -/
def Keep.blanked (k : Keep) : Keep :=
  { k with
    image := none, commitSeq := 0, remap := Vector.replicate 128 Remap.reset, headSlot := none
    headOlder := []
    epochs := Vector.replicate 2 EpochSlot.reset, keyCommit := 0, sealCheck := 0, sealGen := 0, wrapCount := 0
    gmacMark := Vector.replicate 32 0, ticTables := Vector.replicate 36 TicTable.reset
    capEpoch := Vector.replicate 4 0 }

/-- The keep is restored and examined (R394, R397, R398). A keep that was never committed to and holds no seal is blank
(DEDUCED, log entry 5). -/
def State.keepRestore (s : State) (r : KeepRead) : State :=
  let k := if r.header then ((s.keep.without r.lost).headDrop r.headLost).readCount r.corrected r.copies r.lost
    else s.keep.blanked
  let b := k.image.isNone && k.sealGen == 0
  let c := k.image.getD Csp.reset
  { s with
    cfg := c
    keep := { k with blank := b, restored := !b, ro := k.ro && k.sparesFree == 0, lastScrub := s.ticks }
    vbat := { s.vbat with tamperEn := c.cal.tamperEn } }

/-- The seal check of R330. -/
def State.sealHolds (s : State) : Bool := !s.keep.blank && sealCheckOf s.vbat.sealKey == s.keep.sealCheck

/-- The tamper source that stops the unseal, if any (R86, R330): the latch, the PUF, a source that is asserted, the
seal. -/
def State.bootTamperSrc (s : State) : Option Nat :=
  let sealed := s.lc == .provisioned || s.lc == .deployed
  if s.vbat.latched then some s.vbat.tamperSrc.toNat
  else if s.fuse.pufFail then some 10
  else match (List.range 12).find? fun n => has s.vbat.tamperActive n && s.tamperEnabled n with
    | some n => some n
    | none => if sealed && !s.sealHolds then some 3 else none

/-- The boot stops before any root is unsealed (R86). -/
def State.bootTamper (s : State) (n : Nat) : State :=
  let v := if s.vbat.latched then { s.vbat with sealKey := 0 } else s.vbat.latch n s.calSec
  let s1 := { s.zeroRoots with vbat := v }
  { s1 with
    sys := { s1.sys with tamperSrc := BitVec.ofNat 4 n, bootCode := .tamper, tamperHold := true }
    key := { s1.key with lastSrc := BitVec.ofNat 4 n } }

/-- The roots that the life-cycle state unseals (R330, R336). -/
def State.unseal (s : State) : State :=
  match s.lc with
  | .blank => s.deriveUds
  | .provisioned | .deployed | .debug =>
    let a := s.deriveUds.deriveProduction
    { a with key := { a.key with sealOk := true } }
  | .rma => s.deriveUds.deriveTest
  | .scrapped => s

/-! ### The log's opening (R317, R321) -/

/-- GENESIS (R316). -/
def genesisEntry (s : State) : LogEntry :=
  entryOf 0x01 3 0 s.stamp (leWords 2 (natOfLe s.fuse.euiBytes) ++ [s.fuse.chipId, word [(0, s.lc.code.toNat)]])

/-- BOOT (R316). -/
def bootEntry (s : State) (persisted exported : BitVec 48) (orderly : Bool) : LogEntry :=
  entryOf 0x02 3 0 s.stamp (seqWords persisted ++
    [word [(0, orderly.toNat), (8, s.sys.lastReset.toNat), (16, s.sys.svnRunning.toNat),
      (24, s.sys.bootCode.code.toNat)]] ++ seqWords exported)

/-- The chain is taken up from the persisted head, or begun (R317, R321): the SEQ before the boot's first entry, and
what BOOT says. -/
def State.logTakeUp (s : State) : State × BitVec 48 × BitVec 48 × Bool :=
  match s.keep.headSlot with
  | none => (s.logRaw (genesisEntry s), 0, 0, true)
  | some h =>
    let q := if h.orderly then h.seq else h.seq + 65536
    ({ s with log := { s.log with
      seq := q, any := true, head := h.head, ckSeq := h.ckSeq, lastExported := q, acked := q, ackReq := q } },
      h.seq, h.lastExported, h.orderly)

/-- The boot's first entries: TAMPER under R86, then BOOT (R321). -/
def State.logOpen (s : State) : State :=
  let r := s.logTakeUp
  let a := r.1
  let b := if a.sys.tamperHold then a.logPut (tamperEntry a a.sys.tamperSrc.toNat a.vbat.tamperTime true false true)
    else a
  b.logPut (bootEntry b r.2.1 r.2.2.1 r.2.2.2)

/-! ### INIT -/

/-- The collector is armed: the conditions that are present assert (R357, R359). -/
def State.armFaults (s : State) : State :=
  let m := s.mon
  let at_ : Bool → Nat → State → State := fun on n s => if on then s.faultAssert n else s
  let a := at_ s.sys.tamperHold 192 s
  let b := at_ a.keep.ro 195 a
  let c := (List.range 8).foldl (fun (s : State) r => at_ (has m.supWarn r) (196 + r) s) b
  let d := at_ m.vbatLow 204 c
  let e := (List.range 6).foldl (fun (s : State) i => at_ (has m.tempWarn i) (205 + i) s) d
  let f := at_ m.mainsRange 212 (at_ m.pfw 211 e)
  let g := at_ (decide (f.keep.sparesFree ≤ 16)) 214 (at_ (!f.vbat.calValid) 213 f)
  let h := if g.keep.blank && g.lc != .blank then (g.raise (src 14 17)).faultAssert 216 else g
  let i := at_ (h.ready pdTime && h.acd.cpllEver && !h.acd.cpllLock) 4 (h.keepUncorr h.keep.lost)
  i.extTemp.junction

/-- Everything that follows from DEV_STATE INIT: references, outputs, the role, the domains of SYS_DOMAIN_BOOT and
PD_TIC for the bridge measurement (R71, R84, R203). -/
def State.initBlocks (s : State) : State :=
  let s1 := { s with out := s.outStart, acd := { s.acd with leapPending := s.cfg.acd.leapWaits } }
  let s2 := if s1.ready pdTime then s1.refStart else s1
  let s3 := if s2.cfg.pair.mode then s2.setRole .standby else s2
  let want := s3.onMask (s3.bootOn ||| bitAt 13 pdTic)
  (s3.powerUp (want &&& ~~~s3.sys.domOn)).react

/-- The boot completes: BOOT passes to INIT (R71). -/
def State.bootDone (s : State) (keep : KeepRead) : State :=
  let a := s.keepRestore keep
  let fallback := a.sys.bootSlot != a.cfg.sys.nextSlot
  let b := { a with sys := { a.sys with bootCode := if fallback then .fallback else .ok } }
  let c := match b.bootTamperSrc with
    | some n => b.bootTamper n
    | none => b.unseal
  let d := c.newChallenge
  let e := { d.drawn with svc := { d.svc with bootSeed := d.freeCtr }, sys := { d.sys with devState := .init } }
  let f := (e.epochRegs.logOpen).drainWait
  let g := if f.sys.tamperHold || f.lc == .blank || f.lc == .scrapped then f else f.reinstallLsk
  let h := g.raise (src 0 0) 0 0 0 1
  let i := if h.sys.tamperHold then (h.raise (src 0 6)).irq (src 10 1) else h
  (i.initBlocks).armFaults

/-- BOOT_COMPLETE (R71, R86, R330, R394): the verified image is loaded and the engines start. -/
def execBootComplete (dt : Nat) (keep : KeepRead) (s : State) : Res :=
  let s := s.advance dt
  .next (if s.sys.devState == .boot && !s.sys.inReset && s.sys.imageOk && s.ready pdEngine then s.bootDone keep else s)

end Sys2Proof.Machine
end

