-- ==== Sys2Proof/Machine/Cmd.lean ====
section
/-! DEFINITION. The SYS commands that the command chapter owns (R452): counters, echo, the MBX7 route, semaphores, rings,
interrupt routing, cancelling. -/

namespace Sys2Proof.Machine

/-! ### Counters and echo -/

/-- The reply of SYS_QUERY_COUNTERS (R452). -/
def State.counterWords (s : State) : List W32 :=
  w64 s.sys.refusedWrites ++ s.cmd.stat.toList.flatMap w64 ++ [s.cmd.replyDrop]

/-- SYS_QUERY_COUNTERS. -/
def specSysQueryCounters : OpSpec where
  opcode := 0x0001
  states := stAll
  len := fun _ => some 0
  body := answer fun _ s => s.counterWords

/-- SYS_ECHO. -/
def specSysEcho : OpSpec where
  opcode := 0x0002
  states := stAll
  len := fun _ => none
  body := answer fun p _ => p.payload

/-! ### Mailbox route and semaphores -/

/-- M0, M1 or M2. -/
def isBoardMaster (m : Nat) : Bool := decide (m < 3)

/-- An engine, M4 to M13. -/
def isEngine (m : Nat) : Bool := decide (4 ≤ m) && decide (m ≤ 13)

/-- A pair that MBX7 may join (R54, R452). -/
def routeOk (a b : Nat) : Bool := (isBoardMaster a && isEngine b) || (isEngine a && isBoardMaster b)

/-- Mailbox `n`. -/
def State.mbx (s : State) (n : Nat) : Mbx := Tab.get s.cmd.mbx n Mbx.reset

/-- Mailbox `n` changes. -/
def State.modMbx (s : State) (n : Nat) (f : Mbx → Mbx) : State :=
  { s with cmd := { s.cmd with mbx := Tab.mod s.cmd.mbx n f } }

/-- SYS_SET_MBX_ROUTE. -/
def specSysSetMbxRoute : OpSpec where
  opcode := 0x0048
  states := stIRM
  len := fun _ => some 1
  params := fun _ p => p.only [0xFF] && routeOk (fld (p.w 0) 0 4) (fld (p.w 0) 4 4)
  body := fun p s =>
    if (s.mbx 7).full then Done.err s .busy
    else Done.ok (s.modMbx 7 fun m =>
      { m with sender := (p.w 0).extractLsb' 0 4, receiver := (p.w 0).extractLsb' 4 4 })

/-- SYS_SET_SEM_CFG. -/
def specSysSetSemCfg : OpSpec where
  opcode := 0x0049
  states := stIRM
  len := fun _ => some 1
  body := fun p s => Done.ok { s with cmd := { s.cmd with semLog := p.w 0 } }

/-- The holder of semaphore `i` changes; the semaphores as they stood at the start of the cycle are kept (R56). -/
def State.semPut (s : State) (i : Nat) (holder : Option (BitVec 4)) : State :=
  let c := s.cmd
  { s with cmd := { c with
    semWas := if c.semTick = s.ticks then c.semWas else c.sems
    semTick := s.ticks
    sems := Tab.set c.sems i holder } }

/-- SYS_SEM_FORCE. -/
def specSysSemForce : OpSpec where
  opcode := 0x004A
  states := stAll
  len := fun _ => some 1
  params := fun _ p => p.only [0x1F]
  body := fun p s =>
    let i := fld (p.w 0) 0 5
    match Tab.get s.cmd.sems i none with
    | none => Done.ok s [0]
    | some h => Done.ok ((s.semPut i none).raise (src 1 10) i) [word [(0, h.toNat), (4, 1)]]

/-! ### Rings -/

/-- Ring `n` runs from the host to the device (R33). -/
def hostToDevice (n : Nat) : Bool := decide (n < 2) || (decide (36 ≤ n) && decide (n ≤ 51))

/-- Ring `n` changes. -/
def State.modRing (s : State) (n : Nat) (f : Ring → Ring) : State :=
  { s with cmd := { s.cmd with rings := Tab.mod s.cmd.rings n f } }

/-- The parameters of SYS_RING_CONFIG (R452). -/
def ringConfigOk (p : Packet) : Bool :=
  p.only [0x3F, 0xFFFFFFC0, 0xFFFFFFFF, 0xF, 0xFFFFFFFF] && within (p.w 3) 4 12 && fld (p.w 4) 16 16 != 0

/-- SYS_RING_CONFIG. -/
def specSysRingConfig : OpSpec where
  opcode := 0x004B
  states := stIRM
  len := fun _ => some 5
  params := fun _ p => ringConfigOk p
  body := fun p s =>
    let n := fld (p.w 0) 0 6
    if !s.ready pdPcie || (s.ring n).enable then Done.err s .state
    else Done.ok (s.modRing n fun r =>
      { r with
        baseLo := p.w 1, baseHi := p.w 2, sizeLog2 := (p.w 3).extractLsb' 0 4
        holdUs := (p.w 4).extractLsb' 0 16, modCount := (p.w 4).extractLsb' 16 16 })

/-- A disabled ring that is enabled starts at PROD and CONS zero (R452). -/
def Ring.start (r : Ring) : Ring :=
  { r with
    enable := true, prod := 0, cons := 0, fetch := 0, doneSlots := [], modPending := 0, stallTold := false }

/-- One ring is enabled or disabled. -/
def State.ringEnable (s : State) (n : Nat) (on : Bool) : State :=
  let r := s.ring n
  if on && !r.enable then
    let s1 := if decide (36 ≤ n) && decide (n ≤ 51) then s.orphanTx (n - 36) else s
    s1.modRing n Ring.start
  else if on then s
  else s.modRing n fun r => { r with enable := false }

/-- The rings of a mask take their new ENABLE values. -/
def State.ringsEnable (s : State) (affected values : BitVec 64) : State :=
  (List.range 64).foldl (fun (s : State) n => if has affected n then s.ringEnable n (has values n) else s) s

/-- SYS_RING_ENABLE. -/
def specSysRingEnable : OpSpec where
  opcode := 0x004C
  states := 0x0F
  len := fun _ => some 4
  body := fun p s =>
    if !s.ready pdPcie then Done.err s .state else Done.ok (s.ringsEnable (p.w2 0) (p.w2 2))

/-! ### Interrupt routing -/

/-- Every vector whose unmasked set a change has made non-empty sends its message (R61). -/
def Cmd.sendNew (old new : Cmd) : Cmd :=
  (List.range 32).foldl (fun (c : Cmd) v => if !old.vecOn v && c.vecOn v then c.msi v else c) new

/-- The parameters of SYS_INT_ROUTE: vectors 0 to 31, and a vector that is not set is zero (R450, R452). -/
def intRouteOk (p : Packet) : Bool :=
  p.only [0x30F, 0x1F1F] && (flag (p.w 0) 8 || fld (p.w 1) 0 6 == 0) && (flag (p.w 0) 9 || fld (p.w 1) 8 6 == 0)

/-- A group's vectors after SYS_INT_ROUTE. -/
def IntGroup.route (g : IntGroup) (p : Packet) : IntGroup :=
  { g with
    vecLo := if flag (p.w 0) 8 then (p.w 1).extractLsb' 0 6 else g.vecLo
    vecHi := if flag (p.w 0) 9 then (p.w 1).extractLsb' 8 6 else g.vecHi }

/-- SYS_INT_ROUTE. -/
def specSysIntRoute : OpSpec where
  opcode := 0x004D
  states := stIRM
  len := fun _ => some 2
  params := fun _ p => intRouteOk p
  body := fun p s =>
    let c := { s.cmd with groups := Tab.mod s.cmd.groups (fld (p.w 0) 0 4) fun g => g.route p }
    Done.ok { s with cmd := s.cmd.sendNew c }

/-! ### Cancelling -/

/-- A waiting entry that SYS_CANCEL names (R50). -/
def SchedEntry.named (e : SchedEntry) (w : W32) : Bool :=
  e.pkt.master == w.extractLsb' 0 4 && e.pkt.source == w.extractLsb' 8 8 && e.pkt.tag == w.extractLsb' 16 16

/-- SYS_CANCEL. Of several waiting entries with the named origin master, source and TAG it takes the oldest accepted: DESIGN
CHOICE (log entry 91), the spec does not say which (R50). -/
def specSysCancel : OpSpec where
  opcode := 0x004E
  states := stAll
  len := fun _ => some 1
  params := fun _ p => p.only [0xFFFFFF0F]
  body := fun p s =>
    match s.cmd.sched.find? fun e => e.named (p.w 0) with
    | none => Done.err s .badParam
    | some e =>
      if p.master != 0 && p.master != e.pkt.master then Done.err s .denied
      else
        let s1 := { s with cmd := { s.cmd with sched := s.cmd.sched.erase e } }
        Done.ok ((s1.countStatus .ok false).reply e.pkt e.opcode.toNat 2 .ok [] 0 true)

end Sys2Proof.Machine
end

