-- ==== Sys2Proof/Machine/Gns.lean ====
section
/-! DEFINITION. The GNS commands (R179), the engine's writes and the GNS block's events. -/

namespace Sys2Proof.Machine

/-! ### Queries -/

/-- GNS_STATUS. -/
def State.gnsStatus (s : State) : W32 :=
  let g := s.gns
  let n := (g.trk.toList.filter (·.assigned)).length
  word [(0, g.clkPresent.toNat), (1, g.clkRateErr.toNat), (2, g.acq.isSome.toNat), (3, g.snapOn.toNat),
    (4, g.solValid.toNat), (5, g.spoof.toNat), (6, g.jamWarn.toNat), (7, g.notchFull.toNat), (8, n),
    (16, s.banksFree), (20, s.usable)]

/-- GNS_NOTCH_m_STAT. -/
def Gns.notchStat (g : Gns) (m : Nat) : W32 :=
  word [(0, (has g.notchActive m).toNat), (8, (Tab.get g.notchKhz m 0).toNat)]

/-- The words of GNS_QUERY_STATUS. -/
def State.gnsStatusWords (s : State) : List W32 :=
  let g := s.gns
  [s.gnsStatus, g.history.setWidth 32, g.clkOffsetPpb, g.jamPostDb ++ g.jamPreDb] ++
    (List.range 4).map g.notchStat ++ w64 g.bankFail

/-- The words of GNS_QUERY_SOLUTION. -/
def State.gnsSolutionWords (s : State) : List W32 :=
  let g := s.gns
  [word [(0, g.solValid.toNat), (1, g.solSnap.toNat), (8, g.solNsv.toNat)], 0] ++ w64 g.solOffset ++
    [g.solUnc.setWidth 32, g.solESrc.setWidth 32] ++ w64 g.checkDev ++ [g.checkBound.setWidth 32] ++ taiWords g.anchorTai

/-- GNS_QUERY_STATUS. -/
def specGnsQueryStatus : OpSpec where
  opcode := 0x0500
  states := stAll
  len := fun _ => some 0
  body := answer fun _ s => if s.ready pdGnss then s.gnsStatusWords else List.replicate 10 0

/-- GNS_QUERY_SOLUTION. -/
def specGnsQuerySolution : OpSpec where
  opcode := 0x0501
  states := stAll
  len := fun _ => some 0
  body := answer fun _ s => if s.ready pdGnss then s.gnsSolutionWords else List.replicate 12 0

/-! ### Configuration -/

/-- The body of a state-changing GNS command: STATE while PD_GNSS is off. -/
def gnsBody (f : Packet → State → Done) (p : Packet) (s : State) : Done :=
  if s.ready pdGnss then f p s else Done.err s .state

/-- The rate and frequency of a port format are legal (R150). -/
def portRateOk (iq : Bool) (hz : Nat) (ifHz : Int) : Bool :=
  decide (hz % 1000 = 0) &&
    (if iq then decide (2046000 ≤ hz) && decide (hz ≤ 40920000) && decide ((ifHz.natAbs : Int) * 2 ≤ hz - 2046000)
      else decide (4092000 ≤ hz) && decide (hz ≤ 81840000) && decide (1023000 ≤ ifHz) &&
        decide (ifHz * 2 ≤ (hz : Int) - 2046000))

/-- GNS_SET_PORT. A snapshot counts as running during its capture and its export, as SNAP_BUSY does, and not while it is only
armed (R150; DESIGN CHOICE, log entry 77). -/
def specGnsSetPort : OpSpec where
  opcode := 0x0540
  states := stIRM
  len := fun _ => some 3
  params := fun _ p =>
    let w := p.w 0
    p.only [0xFFFF031F, 0x07FFFFFF, 0xFFFFFFFF] && portRateOk (flag w 0) (p.w 1).toNat (p.w 2).toInt &&
      decide (1 ≤ fld w 16 4) && decide (fld w 16 4 ≤ 12) && decide (1 ≤ fld w 20 12) && decide (fld w 20 12 ≤ 1000)
  csp := fun _ => true
  body := gnsBody fun p s =>
    let w := p.w 0
    if (s.gns.trk.toList.any (·.assigned)) || s.gns.acq.isSome || s.gns.snapOn then Done.err s .state
    else
      let s1 := s.setGnsCfg fun c => { c with
        formatIq := flag w 0, coding := flag w 1, edge := flag w 2, invert := flag w 3, portGate := flag w 4
        engine := BitVec.ofNat 2 (fld w 8 2), solMinSv := BitVec.ofNat 4 (fld w 16 4)
        feLeadMs := BitVec.ofNat 12 (fld w 20 12), sampleHz := (p.w 1).setWidth 27, ifHz := p.w 2 }
      Done.ok (({ s1 with gns := { s1.gns with feEn := false } }).gnsEval)

/-- GNS_SET_NOTCH. NOISE_REF, which CAL measures over the signal, is a free value. -/
def specGnsSetNotch : OpSpec where
  opcode := 0x0541
  states := stIRM
  len := fun _ => some 3
  params := fun _ p => p.only [0x0001FF0F, 0xFFFFFFFF, 0xFFFFFFFF] && fld (p.w 0) 2 2 != 3 && decide (fld (p.w 0) 8 8 ≤ 40)
  csp := fun _ => true
  body := gnsBody fun p s =>
    let w := p.w 0
    let m := fld w 0 2
    let n : NotchCfg := {
      mode := BitVec.ofNat 2 (fld w 2 2), depthDb := BitVec.ofNat 8 (fld w 8 8), centreHz := p.w 1 }
    let cal := flag w 16
    let s1 := s.setGnsCfg fun c => { c with
      notch := Tab.set c.notch m n, jamWarnDb := (p.w 2).setWidth 16, notchThreshDb := (p.w 2).extractLsb' 16 16
      noiseRef := if cal then s.free.setWidth 16 else c.noiseRef }
    let s2 := { s1 with gns := s1.gns.setNotch m (Tab.get s.cfg.gns.notch m NotchCfg.reset).mode.toNat (fld w 2 2) (p.w 1) }
    Done.ok (if cal then s2.drawn else s2)

/-- GNS_SET_LATCH. -/
def specGnsSetLatch : OpSpec where
  opcode := 0x0545
  states := stIRM
  len := fun _ => some 1
  params := fun _ p => [0, 1, 2, 4, 5, 8, 10, 20, 25, 40, 50].contains (p.w 0).toNat
  csp := fun _ => true
  body := gnsBody fun p s =>
    let now := s.now16
    let old := if now < s.gns.latchAt then s.gns.latchOld else s.cfg.gns.latchHz
    let s1 := s.setGnsCfg fun c => { c with latchHz := (p.w 0).setWidth 6 }
    Done.ok { s1 with gns := { s1.gns with latchOld := old, latchAt := (now / sec16 + 1) * sec16 } }

/-- GNS_SET_ANTENNA. -/
def specGnsSetAntenna : OpSpec where
  opcode := 0x0547
  states := stIRM
  len := fun _ => some 10
  params := fun _ p => p.only [1, 0xFFFFFFFF, 0xFFFFFFFF, 0xFFFFFFFF, 0xFFFFFFFF, 0xFFFFFFFF, 0xFFFFFFFF, 0xFFFFFFFF,
    0xFFFFFFFF, 0xFFFFFF]
  csp := fun _ => true
  body := gnsBody fun p s =>
    let s1 := s.setGnsCfg fun c => { c with
      survey := flag (p.w 0) 0, xMm := p.w2 1, yMm := p.w2 3, zMm := p.w2 5, posUncMm := p.w 7, cableDelayPs := p.w 8
      cableUnc := (p.w 9).setWidth 24 }
    let was := s.gns.solValid
    let s2 := { s1 with gns := { s1.gns with
      solValid := false, solHoldUntil := s.ticks + sTicks, reanchor := true } }
    Done.ok ((if was then s2.raise (src 6 9) else s2).gnsEval)

/-- GNS_SET_CHECK. -/
def specGnsSetCheck : OpSpec where
  opcode := 0x0548
  states := stIRM
  len := fun _ => some 3
  params := fun _ p => p.only [0xFFFF0003, 0xFFFFFF, 0xFF]
  csp := fun _ => true
  body := gnsBody fun p s =>
    let w := p.w 0
    let s1 := s.setGnsCfg fun c => { c with
      checkEn := flag w 0, checkMarginNs := w.extractLsb' 16 16, reanchorNs := (p.w 1).setWidth 24 }
    let s2 := { s1 with gns := { s1.gns with history := s1.gns.history &&& ~~~((p.w 2).setWidth 8) } }
    if !flag w 1 then Done.ok s2
    else if s2.gns.solValid then Done.ok (s2.anchorByHand.gnsEval)
    else Done.ok { s2 with gns := { s2.gns with reanchor := true } }

/-- GNS_SPARE_BANK's parameters. -/
def gnsSpareBankOk (s : State) (p : Packet) : Bool :=
  let w := p.w 0
  let b := fld w 8 7
  p.only [0x00037F07] && (flag w 16 || !flag w 17) && !has s.gns.spareFail (fld w 0 3) &&
    (b == 0x7F || (decide (b < 64) && (s.bankSpare b).isNone))

/-- GNS_SPARE_BANK. -/
def specGnsSpareBank : OpSpec where
  opcode := 0x0549
  states := stIRM
  len := fun _ => some 1
  params := gnsSpareBankOk
  csp := fun _ => true
  body := gnsBody fun p s =>
    let w := p.w 0
    let n := s.banksFree
    let s1 := (s.mapBank (fld w 0 3) (BitVec.ofNat 7 (fld w 8 7))).setGnsCfg fun c => { c with
      autoSpare := if flag w 16 then flag w 17 else c.autoSpare }
    let s2 := s1.bankPool n
    Done.ok (if s2.usable < s.usable then s2.faultAssert 128 else s2)

/-! ### Acquisition (R156, R157) -/

/-- Bits set in a mask. -/
def popCount {w : Nat} (m : BitVec w) : Nat := ((List.range w).filter fun i => has m i).length

/-- The bins on either side of the centre (R156): the span in bins of 1,000 ÷ (2 × T_COH_MS) Hz, rounded up. -/
def acqHalf (span tCoh : Nat) : Nat := ceilDiv (span * 2 * tCoh) 1000

/-- The passes a search needs (R156). -/
def acqPasses (prns span tCoh usable : Nat) : Nat := ceilDiv (prns * (2 * acqHalf span tCoh + 1)) usable

/-- The cells of a search (R156), each a PRN and a bin counted from the lowest: PRN-ascending, then bin-ascending. -/
def AcqRun.cells (a : AcqRun) : List (Nat × Nat) :=
  ((List.range 32).filter fun i => has a.mask i).flatMap fun i =>
    (List.range (2 * acqHalf a.doppSpanHz.toNat a.tCohMs.toNat + 1)).map fun b => (i + 1, b)

/-- The cells dealt to the sub-banks for the pass under way (R156). -/
def AcqRun.dealt (a : AcqRun) : List (Nat × Nat) := (a.cells.drop (a.pass * a.share)).take a.share

/-- The Doppler of a bin's centre, in mHz (R156). -/
def AcqRun.binMhz (a : AcqRun) (bin : Nat) : W32 :=
  let off : Int := (bin : Int) - acqHalf a.doppSpanHz.toNat a.tCohMs.toNat
  BitVec.ofInt 32 (a.doppCentreHz.toInt * 1000 + nearest (off * 500000) a.tCohMs.toNat)

/-- A searched cell becomes its PRN's best where its peak is the highest so far (R157); of equal peaks the first stays. -/
def AcqRun.best1 (peaks : List AcqPeak) (head : List W32) (a : AcqRun) (c : Nat × Nat) : AcqRun :=
  let x := (peaks.find? fun x => x.prn.toNat == c.1 && x.bin == c.2).getD
    { prn := BitVec.ofNat 6 c.1, bin := c.2, code := 0, peak := 0 }
  let b : AcqBest := { prn := x.prn, peak := x.peak, code := x.code, doppler := a.binMhz c.2, head := head }
  match a.best.find? fun o => o.prn == x.prn with
  | none => { a with best := a.best ++ [b] }
  | some o => if o.peak < x.peak then { a with best := a.best.map fun o => if o.prn = x.prn then b else o } else a

/-- GNS_ACQUIRE. -/
def specGnsAcquire : OpSpec where
  opcode := 0x0542
  states := stRM
  len := fun _ => some 4
  params := fun _ p =>
    let w := p.w 3
    p.only [0xFFFFFFFF, 0xFFFFFFFF, 0xFFFF, 0x01FFFF0F] && within (p.w 2) 0 50000 && decide (1 ≤ fld w 0 4) &&
      decide (fld w 0 4 ≤ 10) && decide (1 ≤ fld w 8 8)
  body := gnsBody fun p s =>
    let w := p.w 3
    let snap := flag w 24
    let t := fld w 0 4
    let n := fld w 8 8
    if s.gns.acq.isSome || (snap && s.gns.snapBusy) then Done.err s .busy
    else if snap && decide (s.gns.snapMs < t * n) then Done.err s .noResource
    else
      let a : AcqRun := { AcqRun.reset with
        mask := p.w 0, doppCentreHz := p.w 1, doppSpanHz := (p.w 2).setWidth 16, tCohMs := BitVec.ofNat 4 t
        nNc := BitVec.ofNat 8 n, threshDb := BitVec.ofNat 16 (4 * fld w 16 8), snapshot := snap
        passes := acqPasses (popCount (p.w 0)) (p.w 2).toNat t s.usable, share := s.usable, startTick := s.ticks }
      Done.ok { s with gns := { s.gns with acq := some a, acqValid := false } }

/-- A search ends: its result is written and INT_GNS_ACQ_DONE raised (R157). -/
def State.acqEnd (s : State) (ok : Bool) (detected : Nat) : State :=
  ({ s with gns := { s.gns with
    acq := none, acqValid := true, acqOk := ok, acqDetected := BitVec.ofNat 6 detected
    acqSeq := s.gns.acqSeq + 1 } }).irq (src 6 4)

/-- DETECTED of a PRN's best cell (R157). -/
def AcqRun.detects (a : AcqRun) (b : AcqBest) : Bool := decide (a.threshDb.toNat ≤ b.peak.toNat)

/-- The record of a PRN's best cell (R157), its code phase in steps of 1/16 chip. -/
def State.acqRecord (s : State) (a : AcqRun) (b : AcqBest) : List W32 :=
  b.head ++ [word [(0, b.prn.toNat), (8, (a.detects b).toNat), (16, (s.gns.acqSeq + 1).toNat)],
    BitVec.ofNat 32 (b.code.toNat % 16 * 2 ^ 28), word [(0, b.code.toNat / 16), (16, b.peak.toNat)], b.doppler]

/-- The last pass of a search: a record of each PRN of the mask waits for ring 33, and the search ends when they are gone. -/
def State.acqLast (s : State) (a : AcqRun) : State :=
  let d := (a.best.filter a.detects).length
  if a.best.isEmpty then s.acqEnd true 0
  else { s with gns := { s.gns with
    acq := some { a with pass := a.passes, detected := d }, acqQ := a.best.map (s.acqRecord a) } }

/-- TIME, EB and FLAGS of the first sample of the pass under way (R157), whose edge came `edge` after the pass began: that of
the snapshot's first sample where the search reads the snapshot. -/
def State.acqHead (s : State) (a : AcqRun) (edge : Nat) : List W32 :=
  if a.snapshot then s.gns.snapHeader.take 4
  else (s.gnsStampTick (a.startTick + edge * 5 / 262144) (edge - edge * 5 / 262144 * 262144 / 5 : Nat)).words

/-- CLK_CORE ticks from one live pass to the next: 0.1 ms (R156). -/
def acqGap : Nat := 125000

/-- ACQ_PASS (R156): a pass completes, with the peaks of the cells dealt to it; the next follows, or waits while ring 33 is
full (R157). -/
def execAcqPass (dt : Nat) (edge : Nat) (peaks : List AcqPeak) (s : State) : Res :=
  let s := s.advance dt
  .next (if !s.ready pdGnss || !s.gns.acqQ.isEmpty then s
    else match s.gns.acq with
      | none => s
      | some a =>
        if a.paused || !(a.snapshot || s.gnsClk) then s
        else
          let a1 := a.dealt.foldl (AcqRun.best1 peaks (s.acqHead a edge)) a
          if a.passes ≤ a.pass + 1 then s.acqLast a1
          else { s with gns := { s.gns with acq := some { a1 with
            pass := a.pass + 1, startTick := s.ticks + (if a.snapshot then 0 else acqGap), paused := (s.ring 33).full } } })

/-! ### Tracking (R159 to R163) -/

/-- GNS_TRACK. -/
def specGnsTrack : OpSpec where
  opcode := 0x0543
  states := stRM
  len := fun _ => some 7
  params := fun s p =>
    let w := p.w 0
    let v := p.w 1
    let prn := fld w 8 6
    p.only [0x001F3F1F, 0x3F3F03FF, 0xFFFFFFFF, 0xFFFFFFFF, 0xFFFFFFFF, 0xFFFFFFFF, 0xFFFFFFFF] &&
      decide (1 ≤ prn) && decide (prn ≤ 32) && decide (1 ≤ fld w 16 5) && decide (fld w 16 5 ≤ 20) &&
      decide (fld v 0 10 ≤ 1022) && decide (1 ≤ fld v 16 6) && decide (fld v 16 6 ≤ fld v 24 6) &&
      decide (fld v 24 6 ≤ 32) && taiOk (p.tai 4) &&
      (List.range 32).all fun k => k == fld w 0 5 || !(s.trk k).assigned || (s.trk k).prn.toNat != prn
  body := gnsBody fun p s =>
    let w := p.w 0
    let v := p.w 1
    let k := fld w 0 5
    if (s.trk k).assigned then Done.err s .busy
    else
      let t : GnsTrk := { GnsTrk.reset with
        assigned := true, prn := BitVec.ofNat 6 (fld w 8 6), tIntMs := BitVec.ofNat 5 (fld w 16 5)
        elSpacing := BitVec.ofNat 6 (fld v 16 6), vevlSpacing := BitVec.ofNat 6 (fld v 24 6)
        codePhase := BitVec.ofNat 42 (fld v 0 10 * 2 ^ 32 + (p.w 2).toNat), doppler := p.w 3, startTai := p.tai 4
        dumpLost := (s.trk k).dumpLost }
      Done.ok { s with gns := { s.gns with trk := Tab.set s.gns.trk k t } }

/-- GNS_RELEASE. -/
def specGnsRelease : OpSpec where
  opcode := 0x0544
  states := stRM
  len := fun _ => some 1
  params := fun s p => !s.ready pdGnss || (List.range 32).all fun k => !flag (p.w 0) k || (s.trk k).assigned
  body := gnsBody fun p s =>
    let f : Nat → GnsTrk → GnsTrk := fun k t =>
      if flag (p.w 0) k then { t with assigned := false, running := false, dumps := [] } else t
    Done.ok { s with gns := { s.gns with trk := Tab.mapIdx s.gns.trk f } }

/-- The code rate at a Doppler in mHz, in chips times 1,540,000 a second: C/A code and L1 in their ratio of 1,540. -/
def codeRate (mhz : Int) : Nat := (1023000 * 1540000 + mhz).toNat

/-- The increments a channel starts with at its commanded Doppler (R159, R166). -/
def State.startIncs (s : State) (mhz : Int) : BitVec 48 × BitVec 48 :=
  let hz := max 1 s.cfg.gns.sampleHz.toNat
  let d := if s.cfg.gns.invert then -mhz else mhz
  (BitVec.ofNat 48 ((codeRate mhz * 2 ^ 48) / (1540000 * hz)),
    BitVec.ofInt 48 (nearest ((s.cfg.gns.ifHz.toInt * 1000 + d) * 2 ^ 48) (1000 * hz)))

/-- The commanded code phase carried to the present instant (R162). -/
def State.startPhase (s : State) (t : GnsTrk) : BitVec 42 :=
  let dt : Int := (s.now16 : Int) - taiNat t.startTai
  let gain := (codeRate t.doppler.toInt : Int) * dt * 2 ^ 32 / (1540000 * (sec16 : Int))
  BitVec.ofNat 42 (((t.codePhase.toNat : Int) + gain) % (1023 * 2 ^ 32)).toNat

/-- GNS_TRACK_START (R162): an assigned channel starts. -/
def execGnsTrackStart (dt : Nat) (k : BitVec 5) (n : Nat) (s : State) : Res :=
  let s := (s.advance dt).samples n
  let t := s.trk k.toNat
  .next (if s.gnsClk && t.assigned && !t.running && !t.lostClk then
      let i := s.startIncs t.doppler.toInt
      let ph := s.startPhase t
      s.modTrk k.toNat fun t => { t with
        running := true, codeInc := i.1, carrInc := i.2, codePhase := ph, codeSub := 0, carrPhase := 0, carrSub := 0
        dumpSamples := 0, dumpEpochs := 0 }
    else s)

/-- A dump of the channel is due (R161): T_INT_MS code epochs have gone by, or, for a T_INT_MS that divides 20 once BIT_SYNC
is set, a boundary of that many epochs within the navigation bit. -/
def GnsTrk.dumpDue (t : GnsTrk) : Bool :=
  let n := t.tIntMs.toNat
  if t.bitSync && 20 % n == 0 then decide (t.epoch.toNat % n < t.dumpEpochs) else decide (n ≤ t.dumpEpochs)

/-- The entry of a dump (R161): the sums are sign-extended. -/
def GnsTrk.dump (t : GnsTrk) (accum : List (BitVec 24)) : List W32 :=
  word [(0, t.dumpSeq.toNat), (16, t.epoch.toNat)] :: BitVec.ofNat 32 t.dumpSamples ::
    (List.range 10).map fun i => (accum.getD i 0).signExtend 32

/-- GNS_DUMP (R161). -/
def execGnsDump (dt : Nat) (k : BitVec 5) (n : Nat) (accum : List (BitVec 24)) (s : State) : Res :=
  let s := (s.advance dt).samples n
  let t := s.trk k.toNat
  .next (if !(s.gnsClk && t.assigned && t.running && t.dumpDue) then s
    else
      let s1 := s.modTrk k.toNat fun t => { t with dumpSeq := t.dumpSeq + 1, dumpSamples := 0, dumpEpochs := 0 }
      if t.dumps.length < 16 then s1.modTrk k.toNat fun t' => { t' with dumps := t.dumps ++ [t.dump accum] }
      else ((s1.modTrk k.toNat fun t => { t with dumpLost := t.dumpLost + 1 }).gnsHist 7).irq (src 6 6))

/-- A write of an operational GNS register that is not taken: refused, or where the block is absent ignored and not counted
(R2, R160). -/
def State.gnsRefuse (s : State) : State := if s.fuse.gnssEn then s.refuseWrite else s

/-- A write of an operational GNS register by master `m`: only the engine that GNS_SET_PORT names may make it (R160). -/
def State.gnsEngineDo (s : State) (m : BitVec 4) (f : State → State) : State :=
  if s.gnsEngine m && s.ready pdGnss then f s else s.gnsRefuse

/-- GNS_NCO_WRITE (R160): the increment acts from the next sample. -/
def execGnsNcoWrite (dt : Nat) (m : BitVec 4) (k : BitVec 5) (carrier : Bool) (value : BitVec 48) (n : Nat) (s : State) :
    Res :=
  .next (((s.advance dt).samples n).gnsEngineDo m fun s =>
    s.modTrk k.toNat fun t => if carrier then { t with carrInc := value } else { t with codeInc := value })

/-- GNS_TRK_STATE_WRITE (R160); LOST_CLK is the hardware's own. The epoch within the navigation bit at which BIT_SYNC sets is
the firmware's finding, of which the spec gives no register: a free value (log entry 76). -/
def execGnsTrkStateWrite (dt : Nat) (m : BitVec 4) (k : BitVec 5) (codeLock carrLock bitSync : Bool) (cn0 : BitVec 16)
    (slip : Option (BitVec 16)) (s : State) : Res :=
  .next ((s.advance dt).gnsEngineDo m fun s =>
    let syncs := bitSync && !(s.trk k.toNat).bitSync
    let s1 := s.modTrk k.toNat fun t => { t with
      codeLock := codeLock, carrLock := carrLock, bitSync := bitSync, cn0 := cn0
      epoch := if syncs then BitVec.ofNat 5 (s.free.toNat % 20) else if bitSync then t.epoch else 0
      lockTick := if codeLock && !t.codeLock then s.ticks else t.lockTick
      slipCount := slip.getD t.slipCount }
    if syncs then s1.drawn else s1)

/-- A navigation word whose first bit began `ago` (2^-16 ns) before now is stamped and queued (R163). -/
def State.navPut (s : State) (k : Nat) (w : W32) (ago : Nat) : State :=
  let g := s.gns
  let r := (s.gnsStampAgo ago).words ++ [word [(0, k), (8, (s.trk k).prn.toNat)], w &&& 0x3FFFFFFF,
    word [(0, g.navSeq.toNat)], 0]
  let s1 := { s with gns := { g with navWord := w, navSeq := g.navSeq + 1 } }
  if g.navQ.length < 256 || (g.navQ.length = 256 && s.ringRoom 35) then
    { s1 with gns := { s1.gns with navQ := g.navQ ++ [r] } }
  else ({ s1 with gns := { s1.gns with navLost := g.navLost + 1 } }).irq (src 6 7)

/-- GNS_NAV_PUSH (R163). -/
def execGnsNavPush (dt : Nat) (m : BitVec 4) (k : BitVec 5) (word : W32) (ago : Nat) (s : State) : Res :=
  .next ((s.advance dt).gnsEngineDo m fun s => s.navPut k.toNat word ago)

/-! ### The solution (R169 to R175) -/

/-- VALID of the solution, `v` now, sets or clears where `turns` says so (R180); a coarse-time solution is logged whatever it
does (R178; the entry's form DESIGN CHOICE, log entry 78). -/
def State.solTell (s : State) (v turns snap : Bool) : State :=
  let so := if v then src 6 8 else src 6 9
  if turns then s.raise so else if snap then s.logPut (eventEntry s so 0 0 0 0 15) else s

/-- The solution is stored; VALID with too few satellites is cleared (R169). -/
def State.solStore (s : State) (valid : Bool) (nsv : BitVec 6) (snap : Bool) (offset : BitVec 64) (unc : BitVec 24) :
    State :=
  let g := s.gns
  let v := valid && decide (s.cfg.gns.solMinSv.toNat ≤ nsv.toNat) && decide (g.solHoldUntil ≤ s.ticks)
  let s1 := { s with gns := { g with
    solValid := v, solNsv := nsv, solSnap := snap, solOffset := offset, solUnc := unc, solTick := s.ticks
    solLate := false } }
  let s2 := { s1 with gns := { s1.gns with solESrc := s1.gnsESrc } }
  s2.solTell v (v != g.solValid) snap

/-- A stored solution is checked, and delivered to REF12 (R170, R172 to R175): a re-anchor that waits for it comes first. -/
def State.solUse (s : State) : State :=
  let sel := s.isSel 12
  let s0 := if s.gns.solValid && s.gns.reanchor then s.anchorByHand else s
  let was := s0.gns.spoofDev
  let s1 := if s0.gns.solValid && s0.cfg.gns.checkEn then s0.crossCheck else s0
  let s2 := if s1.gns.solValid then s1.anchorStep else s1
  let s3 := s2.gnsEval
  let s4 := if !s3.gnsInvalid && !s3.gns.solSnap then s3.refDeliver 12 s3.gns.solOffset.toInt s3.gns.solESrc else s3
  s4.spoofEb (s4.gns.spoofDev && !was) sel

/-- GNS_SOL_WRITE (R169). -/
def execGnsSolWrite (dt : Nat) (m : BitVec 4) (valid : Bool) (nsv : BitVec 6) (snap : Bool) (offset : BitVec 64)
    (unc : BitVec 24) (s : State) : Res :=
  .next ((s.advance dt).gnsEngineDo m fun s => (s.solStore valid nsv snap offset unc).solUse)

/-- GNS_SOL_TIMEOUT (R170). -/
def execGnsSolTimeout (dt : Nat) (s : State) : Res :=
  let s := s.advance dt
  .next (if s.ready pdGnss && !s.gns.solLate && decide (s.gns.solTick + 3 * sTicks / 2 ≤ s.ticks) then
      (({ s with gns := { s.gns with solLate := true } }).raise (src 6 9)).gnsEval
    else s)

/-! ### The sample clock (R151) -/

/-- GNSS_CLK_PRESENT (R151). -/
def execGnssClkPresent (dt : Nat) (s : State) : Res :=
  let s := s.advance dt
  .next (if s.ready pdGnss then ({ s with gns := { s.gns with clkPresent := true } }).gnsEval else s)

/-- GNSS_CLK_MEASURE (R151): the edges counted in a second of the accord, once for each second. -/
def execGnssClkMeasure (dt : Nat) (edges : Nat) (s : State) : Res :=
  let s := s.advance dt
  let hz := s.cfg.gns.sampleHz.toNat
  let off := Int.tdiv (((edges : Int) - hz) * 1000000000) hz
  let bad := decide (50000 < off.natAbs)
  let sec := s.now16 / sec16
  .next (if !s.gnsClk || s.gns.clkSecond == some sec then s
    else
      let s1 := { s with gns := { s.gns with clkOffsetPpb := satInt 32 off, clkRateErr := bad, clkSecond := some sec } }
      if bad && !s.gns.clkRateErr then s1.raise (src 6 1) else s1)

/-! ### Notches and jamming (R153, R154) -/

/-- The filter that notches a tone at `khz`: one whose centre lies within one line of the spectrum, SAMPLE_HZ ÷ 256, of it
(DESIGN CHOICE, log entry 76). -/
def State.notchOf (s : State) (khz : BitVec 24) : Option Nat :=
  (List.range 4).find? fun m => has s.gns.notchActive m &&
    decide ((khz.toInt - (Tab.get s.gns.notchKhz m 0).toInt).natAbs * 256000 ≤ s.cfg.gns.sampleHz.toNat)

/-- The mode of filter `m`. -/
def State.notchMode (s : State) (m : Nat) : BitVec 2 := (Tab.get s.cfg.gns.notch m NotchCfg.reset).mode

/-- The lowest free adaptive filter. -/
def State.freeNotch (s : State) : Option Nat :=
  (List.range 4).find? fun m => !has s.gns.notchActive m && s.notchMode m == 2

/-- Adaptive filter `m` is centred on its tone, seen now (R153). -/
def State.notchAt (s : State) (m : Nat) (khz : BitVec 24) : State :=
  { s with gns := { s.gns with
    notchActive := putBit s.gns.notchActive m true, notchKhz := Tab.set s.gns.notchKhz m khz
    notchSeen := Tab.set s.gns.notchSeen m s.ticks } }

/-- One tone of the spectrum: its centre in kHz (two's complement) and its level above the floor in 0.1 dB. An adaptive
filter tracks its tone. The answer says whether it stays unnotched. -/
def State.tone (r : State × Bool) (t : Nat × Nat) : State × Bool :=
  let s := r.1
  let khz := BitVec.ofNat 24 t.1
  if t.2 < s.cfg.gns.notchThreshDb.toNat then r
  else match s.notchOf khz with
    | some m => if s.notchMode m = 2 then (s.notchAt m khz, r.2) else r
    | none => match s.freeNotch with
      | some m => (s.notchAt m khz, r.2)
      | none => (s, true)

/-- NOTCH_DETECT (R153): the tones of a 1 ms spectrum. -/
def execNotchDetect (dt : Nat) (tones : List (Nat × Nat)) (s : State) : Res :=
  let s := s.advance dt
  .next (if !s.gnsClk then s
    else
      let r := tones.foldl State.tone (s, false)
      let s1 := { r.1 with gns := { r.1.gns with notchFull := r.2 } }
      if r.2 && !s.gns.notchFull then (s1.gnsHist 1).raise (src 6 3) else s1)

/-- NOTCH_RELEASE (R153): the tone of an adaptive filter has stayed below the threshold for 1 s. -/
def execNotchRelease (dt : Nat) (n : BitVec 2) (s : State) : Res :=
  let s := s.advance dt
  .next (if s.ready pdGnss && s.notchMode n.toNat == 2 && decide (Tab.get s.gns.notchSeen n.toNat 0 + sTicks ≤ s.ticks) then
      { s with gns := { s.gns with notchActive := putBit s.gns.notchActive n.toNat false } }
    else s)

/-- JAM_WARN_CHANGE (R154): the indicator's values, on one side of JAM_WARN_DB for 1 s. -/
def execJamWarnChange (dt : Nat) (pre post : BitVec 16) (s : State) : Res :=
  let s := s.advance dt
  let on := decide (s.cfg.gns.jamWarnDb.toInt ≤ post.toInt)
  .next (if !s.ready pdGnss then s
    else
      let s1 := { s with gns := { s.gns with jamPreDb := pre, jamPostDb := post, jamWarn := on } }
      if on && !s.gns.jamWarn then (s1.gnsHist 0).raise (src 6 2) else s1)

/-! ### The measurement latch (R164 to R167) -/

/-- The latch rate in force at the instant `x`. -/
def State.latchHz (s : State) (x : Nat) : Nat :=
  if x < s.gns.latchAt then s.gns.latchOld.toNat else s.cfg.gns.latchHz.toNat

/-- The last latch instant at or before the instant `x`, in 2^-16 ns. -/
def State.latchInst (s : State) (x : Nat) : Option Nat :=
  let hz := s.latchHz x
  if hz = 0 then none else some (x / (sec16 / hz) * (sec16 / hz))

/-- DOPPLER_MHZ of a channel (R166). -/
def State.dopplerMhz (s : State) (t : GnsTrk) : W32 :=
  let v := nearest (t.carrInc.toInt * s.cfg.gns.sampleHz.toNat * 1000) (2 ^ 48) - s.cfg.gns.ifHz.toInt * 1000
  BitVec.ofInt 32 (if s.cfg.gns.invert then -v else v)

/-- A channel record (R166). -/
def State.latchRecord (s : State) (k : Nat) : List W32 :=
  let t := s.trk k
  let secs := if t.codeLock then min ((s.ticks - t.lockTick) / sTicks) 65535 else 0
  [word [(0, k), (8, t.prn.toNat), (16, t.codeLock.toNat), (17, t.carrLock.toNat), (18, t.bitSync.toNat),
      (19, (t.slipCount != t.slipAtLatch).toNat)],
    t.codePhase.setWidth 32, word [(0, t.codePhase.toNat / 2 ^ 32), (16, t.epoch.toNat)], t.carrPhase.setWidth 32,
    word [(0, t.carrPhase.toNat / 2 ^ 32)], s.dopplerMhz t, word [(0, t.cn0.toNat), (16, secs)],
    word [(0, t.slipCount.toNat)]]

/-- Assigned channels. -/
def State.assigned (s : State) : List Nat := (List.range 32).filter fun k => (s.trk k).assigned

/-- The slot of a latch stamped `t` (R166), LOST zero until the header is delivered. -/
def State.latchSlot (s : State) (t : Stamp) : List W32 :=
  let g := s.gns
  let ks := s.assigned
  let body := t.words ++ [word [(0, g.latchSeq.toNat), (16, ks.length)], g.clkOffsetPpb,
    word [(0, g.jamPostDb.toNat)], word [(0, g.latchSkipped.toNat)]] ++ ks.flatMap s.latchRecord
  body ++ List.replicate (264 - body.length) 0

/-- An epoch is latched: queued, or lost with the holding queue full (R167). -/
def State.latchTake (s : State) (t : Stamp) : State :=
  let g := s.gns
  let f : Nat → GnsTrk → GnsTrk := fun _ t => { t with slipAtLatch := t.slipCount }
  let s1 := { s with gns := { g with latchSeq := g.latchSeq + 1, latchSkipped := 0, trk := Tab.mapIdx g.trk f } }
  let n := g.latchQ.length
  if n < 64 || (n = 64 && s.ringRoom 32) then { s1 with gns := { s1.gns with latchQ := g.latchQ ++ [s.latchSlot t] } }
  else
    let s2 := { s1 with gns := { s1.gns with
      latchSkipped := g.latchSkipped, latchLost := g.latchLost + 1
      latchLostSince := if g.latchLostSince = 255 then 255 else g.latchLostSince + 1 } }
    (s2.gnsHist 6).irq (src 6 7)

/-- GNS_LATCH (R164): the first GNSS_CLK edge after a latch instant; every assigned channel is latched at the sample it
strobes. With no clock the instant only counts (R151). -/
def execGnsLatch (dt : Nat) (n : Nat) (edge : Nat) (s : State) : Res :=
  let s := s.advance dt
  let t := s.gnsStampAgo edge
  .next (if !s.ready pdGnss then s
    else match s.latchInst (taiNat t.time) with
      | none => s
      | some i =>
        let again := match s.gns.lastLatch with | some l => decide (i ≤ l) | none => false
        if again then s
        else
          let s1 := { s with gns := { s.gns with lastLatch := some i } }
          if s.gnsClk then (s1.samples n).latchTake t
          else { s1 with gns := { s1.gns with latchMiss := s1.gns.latchMiss + 1, latchSeq := s1.gns.latchSeq + 1 } })

/-! ### Snapshots (R176 to R178) -/

/-- GNS_SNAPSHOT's parameters: STOP takes no other field (R450). -/
def gnsSnapshotOk (p : Packet) : Bool :=
  let w := p.w 3
  p.only [0xFFFFFFFF, 0xFFFFFFFF, 0xFFFFFFFF, 0x17F, 0x1FFFF] && taiOk (p.tai 0) &&
    (if flag w 8 then p.tai 0 == 0 && fld w 0 7 == 0 && p.w 4 == 0
      else decide (1 ≤ fld w 0 7) && decide (fld w 0 7 ≤ 100) && within (p.w 4) 0 86400)

/-- GNS_SNAPSHOT. An armed or running capture answers BUSY to another (R46); an export that still runs does not, the capture
waits for it (R177). -/
def specGnsSnapshot : OpSpec where
  opcode := 0x0546
  states := stRM
  len := fun _ => some 5
  params := fun _ p => gnsSnapshotOk p
  body := gnsBody fun p s =>
    let w := p.w 3
    let snapAcq := match s.gns.acq with | some a => a.snapshot | none => false
    if flag w 8 then Done.ok { s with gns := { s.gns with snapArmed := false, snapRepeatS := 0, feEn := false } }
    else if taiNat (p.tai 0) < s.now16 + 10 * us16 then Done.err s .late
    else if snapAcq || s.gns.snapArmed || s.gns.snapBusy then Done.err s .busy
    else Done.ok { s with gns := { s.gns with
      snapArmed := true, snapAt := p.tai 0, snapDurMs := BitVec.ofNat 7 (fld w 0 7), snapRepeatS := (p.w 4).setWidth 17 } }

/-- The header of a capture (R177), its byte count and SNAP_SEQ zero until it is complete. -/
def State.snapHead (s : State) (t : Stamp) : List W32 :=
  let c := s.cfg.gns
  t.words ++ [c.sampleHz.setWidth 32, word [(0, c.formatIq.toNat), (1, c.coding.toNat), (2, c.invert.toNat)], 0, 0, c.ifHz]

/-- A capture ends: its result, and the front end of a gated receiver off (R152, R176). -/
def State.snapEnd (s : State) (ok : Bool) : State :=
  ({ s with gns := { s.gns with
    snapBusy := false, snapValid := true, snapOk := ok, snapSeq := s.gns.snapSeq + 1, feEn := false } }).irq (src 6 12)

/-- A capture that would overwrite an export waits for it, which is told once (R177). -/
def State.snapWait (s : State) : State :=
  if s.gns.snapWaits then s else ({ s with gns := { s.gns with snapWaits := true } }).irq (src 6 13)

/-- SNAPSHOT_START (R176): the first edge at or after START_AT. -/
def execSnapshotStart (dt : Nat) (edge : Nat) (s : State) : Res :=
  let s := s.advance dt
  let g := s.gns
  let t := s.gnsStampAgo edge
  .next (if !(s.ready pdGnss && g.clkPresent && g.snapArmed && !g.snapBusy && decide (taiNat g.snapAt ≤ taiNat t.time)) then s
    else if 0 < g.snapExport then s.snapWait
    else
      let next := taiNat g.snapAt + g.snapRepeatS.toNat * sec16
      { s with gns := { g with
        snapArmed := g.snapRepeatS != 0, snapAt := if g.snapRepeatS = 0 then g.snapAt else taiOf next, snapWaits := false
        snapHeader := s.snapHead t, snapBytes := 0, snapMs := 0, snapBusy := true, snapValid := false } })

/-- The bytes of a capture: one for each sample of DURATION_MS (R150, R176). -/
def State.snapLen (s : State) : Nat := s.gns.snapDurMs.toNat * (s.cfg.gns.sampleHz.toNat / 1000)

/-- SNAPSHOT_DONE (R176): the last sample of the capture has come, and its export begins (R177). What an earlier capture left
behind it in the buffer stays. -/
def execSnapshotDone (dt : Nat) (samples : List (BitVec 8)) (s : State) : Res :=
  let s := s.advance dt
  let g := s.gns
  let n := samples.length
  .next (if !(s.ready pdGnss && g.snapBusy) || n ≠ s.snapLen then s
    else
      let h := (g.snapHeader.set 6 (BitVec.ofNat 32 n)).set 7 (word [(0, (g.snapSeq + 1).toNat)])
      ({ s with gns := { g with
        snapHeader := h, snapBytes := n, snapData := samples ++ g.snapData.drop n, snapMs := g.snapDurMs.toNat
        snapExport := ceilDiv (64 + n) 4096 } }).snapEnd true)

/-- GNSS_FE_EN_LEAD (R152): FE_LEAD_MS before a gated snapshot the front end goes on. -/
def execGnssFeEnLead (dt : Nat) (s : State) : Res :=
  let s := s.advance dt
  let g := s.gns
  .next (if s.ready pdGnss && s.cfg.gns.portGate && g.snapArmed &&
      decide (taiNat g.snapAt ≤ s.now16 + s.cfg.gns.feLeadMs.toNat * ms16) then
      { s with gns := { g with feEn := true } }
    else s)

/-! ### The sample clock stops (R151) -/

/-- GNSS_CLK_LOSS: channels hold their phases, a live search and a capture stop (the capture DESIGN CHOICE, log entry 78). -/
def execGnssClkLoss (dt : Nat) (n : Nat) (s : State) : Res :=
  let s := (s.advance dt).samples n
  .next (if !s.ready pdGnss || !s.gns.clkPresent then s
    else
      let f : Nat → GnsTrk → GnsTrk := fun _ t => if t.assigned then { t with running := false, lostClk := true } else t
      let s1 := { s with gns := { s.gns with clkPresent := false, trk := Tab.mapIdx s.gns.trk f } }
      let s2 := (s1.gnsHist 4).raise (src 6 0)
      let s3 := match s2.gns.acq with
        | some a => if !a.snapshot && s2.gns.acqQ.isEmpty then s2.acqEnd false a.detected else s2
        | none => s2
      (if s3.gns.snapBusy then s3.snapEnd false else s3).gnsEval)

end Sys2Proof.Machine
end

