-- ==== Sys2Proof/Machine/Out.lean ====
section
/-! DEFINITION. The OUT commands (R232) and the OUT block's events. -/

namespace Sys2Proof.Machine

/-! ### Queries -/

/-- DIV (R209). -/
def State.outDiv (s : State) (n : Nat) : Nat :=
  let c := s.ochCfg n
  (s.synCfg c.synSel.toNat).vcoKhz.toNat * 1000 / c.freqHz.toNat

/-- The registers of a clock output's window, by offset. -/
def State.outRegs (s : State) (n : Nat) : List (Nat × W32) :=
  let o := s.och n
  let c := s.ochCfg n
  let st := word [(0, o.running.toNat), (1, (c.enable && !o.running).toNat), (2, o.sqAuto.toNat), (3, o.bypassAct.toNat),
    (4, o.aligned.toNat), (5, o.gliding.toNat), (6, o.offgrid.toNat), (7, s.own.toNat), (8, o.sqCause.toNat)]
  let cf := word [(0, c.synSel.toNat), (2, c.format.toNat), (4, c.sync.toNat), (5, c.bypass.toNat), (6, c.sqHighZ.toNat),
    (7, c.shared.toNat), (8, c.sqMask.toNat)]
  [(0x00, cf), (0x04, c.freqHz.setWidth 32), (0x08, c.phasePs), (0x0C, c.glideNsS.setWidth 32),
    (0x10, c.delayPs), (0x14, c.delayUnc.setWidth 32), (0x18, word [(0, c.enable.toNat)]), (0x20, st),
    (0x24, BitVec.ofNat 32 (s.outDiv n))] ++ at64 0x28 (BitVec.ofInt 64 (s.perrNow n)) ++
    [(0x30, (ebSat (s.eOut n)).setWidth 32), (0x34, (Tab.get s.fuse.pathUnc n 3).setWidth 32), (0x38, s.outEb n)] ++
    at96 0x40 o.anchor

/-- A clock output's window. -/
def State.outWindow (s : State) (n : Nat) : List W32 := win 19 (s.outRegs n)

/-- The registers of a time pulse's window, by offset. -/
def State.tpRegs (s : State) (m : Nat) : List (Nat × W32) :=
  let t := s.otp m
  let c := s.otpCfg m
  let cf := word [(0, c.rateHz.toNat), (10, c.alignUtc.toNat), (11, c.shared.toNat), (12, c.sqMask.toNat),
    (19, c.sqHighZ.toNat)]
  let st := word [(0, t.running.toNat), (1, (c.enable && !t.running).toNat), (2, t.sqAuto.toNat), (3, s.own.toNat)]
  [(0x00, cf), (0x04, c.periodS.setWidth 32), (0x08, c.widthNs.setWidth 32), (0x0C, c.delayPs),
    (0x10, c.delayUnc.setWidth 32), (0x14, word [(0, c.enable.toNat)]), (0x20, st), (0x24, t.skip),
    (0x28, (ebSat (s.eOutTp m)).setWidth 32)] ++ at96 0x2C t.last ++ [(0x38, ebWord t.lastEb t.lastFlags)]

/-- A time pulse's window. -/
def State.tpWindow (s : State) (m : Nat) : List W32 := win 15 (s.tpRegs m)

/-- A ToD output's window. -/
def State.todWindow (s : State) (k : Nat) : List W32 :=
  let t := s.otod k
  let c := s.otodCfg k
  [word [(0, c.fmt.toNat), (4, c.baud.toNat), (7, c.nmeaAlways.toNat), (8, c.shared.toNat)], c.delayPs,
    c.delayUnc.setWidth 32, word [(0, c.enable.toNat)],
    word [(0, t.running.toNat), (1, t.silent.toNat), (2, s.own.toNat), (16, t.seq.toNat)],
    (ebSat (s.eOutTod k)).setWidth 32]

/-- The window of a target code. -/
def State.targetWindow (s : State) (t : Nat) : List W32 :=
  if t < 16 then s.outWindow t else if t < 20 then s.tpWindow (t - 16) else s.todWindow (t - 20)

/-- The echo result's words. -/
def State.echoWords (s : State) : List W32 :=
  let o := s.out
  [word [(0, o.echoValid.toNat), (1, o.echoStatus.toNat), (3, o.echoApplied.toNat), (4, o.echoTarget.toNat),
    (16, o.echoSeq.toNat)], o.echoTau, o.echoUnc.setWidth 32, o.echoTaken ++ o.echoGood, o.echoSigma.setWidth 32,
    s.fuse.echoCalPs.setWidth 32]

/-- OUT_QUERY_STATUS. -/
def specOutQueryStatus : OpSpec where
  opcode := 0x0300
  states := stAll
  len := fun _ => some 1
  params := fun _ p => p.only [0x1F] && within (p.w 0) 0 21
  body := answer fun p s => s.targetWindow (p.w 0).toNat

/-- OUT_QUERY_ECHO. -/
def specOutQueryEcho : OpSpec where
  opcode := 0x0301
  states := stAll
  len := fun _ => some 0
  body := answer fun _ s => s.echoWords

/-! ### Configuration -/

/-- OUT_SET_SYN. -/
def specOutSetSyn : OpSpec where
  opcode := 0x0340
  states := stIRM
  len := fun _ => some 2
  params := fun _ p => p.only [0x103, 0x7FFFFF] && within (p.w 1) 5000000 6250000
  csp := fun _ => true
  body := fun p s =>
    let k := fld (p.w 0) 0 2
    let on := flag (p.w 0) 8
    if (List.range 16).any fun n => (s.ochCfg n).enable && (s.ochCfg n).synSel.toNat == k then Done.err s .state
    else if (s.syn k).locking then Done.err s .busy
    else
      let c : SynCfg := { on := on, vcoKhz := (p.w 1).setWidth 23 }
      let s1 := s.setOutCfg fun o => { o with syn := Tab.set o.syn k c }
      Done.ok (s1.modSyn k fun y => { y with lock := false, locking := on }).synClear

/-- The frequency limit of a format (R209). -/
def formatMax (f : Nat) : Nat := if f = 1 then 400000000 else if f = 3 then 250000000 else 1250000000

/-- OUT_SET_OUTPUT's parameters (R209, R210, R212, R216). -/
def outSetOutputOk (s : State) (p : Packet) : Bool :=
  let w := p.w 0
  let hz := (p.w 1).toNat
  let vco := (s.synCfg (fld w 4 2)).vcoKhz.toNat * 1000
  p.only [0x7FFFF, 0x7FFFFFFF, 0xFFFFFFFF, 0x3FFF] && within (p.w 1) 10000 (formatMax (fld w 6 2)) &&
    decide (vco % hz = 0) && decide (4 ≤ vco / hz) && decide (vco / hz ≤ 1048575) &&
    decide (((p.w 2).toNat + 1) * hz ≤ 1000000000000) && within (p.w 3) 1 10000 &&
    (!flag w 9 || decide (1250000000 % hz = 0))

/-- The configuration that OUT_SET_OUTPUT names. -/
def outCfgOf (p : Packet) (c : OutChCfg) : OutChCfg :=
  let w := p.w 0
  { c with
    synSel := BitVec.ofNat 2 (fld w 4 2), format := BitVec.ofNat 2 (fld w 6 2), sync := flag w 8, bypass := flag w 9
    sqHighZ := flag w 10, shared := flag w 11, sqMask := BitVec.ofNat 7 (fld w 12 7), freqHz := (p.w 1).setWidth 31
    phasePs := p.w 2, glideNsS := (p.w 3).setWidth 14 }

/-- The fields that may not change while the output is enabled (R209). -/
def OutChCfg.fixed (a b : OutChCfg) : Bool :=
  a.synSel == b.synSel && a.freqHz == b.freqHz && a.format == b.format && a.sync == b.sync && a.shared == b.shared

/-- OUT_SET_OUTPUT. A glide that runs goes on from where it is at the new GLIDE_NS_S. -/
def specOutSetOutput : OpSpec where
  opcode := 0x0341
  states := stIRM
  len := fun _ => some 4
  params := outSetOutputOk
  csp := fun _ => true
  body := fun p s =>
    let n := fld (p.w 0) 0 4
    let old := s.ochCfg n
    let new := outCfgOf p old
    if old.enable && !old.fixed new then Done.err s .state
    else
      let s0 := s.modOch n fun o => if o.gliding then { o with phaseErr := s.perrNow n, glideFrom := s.ticks } else o
      let s1 := s0.setOutCfg fun c => { c with ch := Tab.set c.ch n new }
      let o := s.och n
      let d := ps16 old.phasePs.toInt - ps16 new.phasePs.toInt
      let s2 := if o.running && !new.sync && !o.bypassAct && d ≠ 0 then s1.glide n d else s1
      Done.ok s2.outEval

/-- The named outputs of a mask. -/
def maskList (n : Nat) (w : W32) : List Nat := (List.range n).filter fun i => flag w i

/-- The earliest SYNC_AT that is not LATE (R213), in 2^-16 ns. -/
def State.syncEarliest (s : State) (ns : List Nat) : Int :=
  let xs : List Int := ns.map fun n =>
    let c := s.ochCfg n
    (ceilDiv sec16 c.freqHz.toNat : Nat) + ps16 c.delayPs.toInt
  (s.now16 : Int) + (10 * us16 : Nat) + xs.foldl max (xs.headD 0)

/-- OUT_SYNC. -/
def specOutSync : OpSpec where
  opcode := 0x0342
  states := stRM
  len := fun _ => some 4
  params := fun s p => p.only [0xFFFF, 0xFFFFFFFF, 0xFFFFFFFF, 0xFFFFFFFF] && p.w 0 != 0 && taiOk (p.tai 1) &&
    (maskList 16 (p.w 0)).all fun n => (s.ochCfg n).sync
  body := fun p s =>
    let ns := maskList 16 (p.w 0)
    if (taiNat (p.tai 1) : Int) < s.syncEarliest ns then Done.err s .late
    else Done.ok (ns.foldl (fun s n => s.modOch n fun o => { o with syncAt := some (p.tai 1) }) s)

/-- OUT_SET_TP. -/
def specOutSetTp : OpSpec where
  opcode := 0x0343
  states := stIRM
  len := fun _ => some 3
  params := fun _ p =>
    let hz := fld (p.w 0) 16 10
    p.only [0x03FF0FFF, 0xFFF, 0x1FFFFFFF] &&
      [1, 2, 4, 5, 8, 10, 20, 25, 40, 50, 100, 125, 200, 250, 500, 1000].contains hz && within (p.w 1) 1 3600 &&
      (hz == 1 || p.w 1 == 1) && within (p.w 2) 10 500000000 &&
      decide ((p.w 2).toNat * hz < 1000000000 * (p.w 1).toNat)
  csp := fun _ => true
  body := fun p s =>
    let w := p.w 0
    let m := fld w 0 2
    let c := s.otpCfg m
    if c.enable && c.shared != flag w 3 then Done.err s .state
    else
      let c' : TpCfg := { c with
        rateHz := BitVec.ofNat 10 (fld w 16 10), alignUtc := flag w 2, shared := flag w 3
        sqMask := BitVec.ofNat 7 (fld w 4 7), sqHighZ := flag w 11, periodS := (p.w 1).setWidth 12
        widthNs := (p.w 2).setWidth 29 }
      Done.ok (s.setOutCfg fun o => { o with tp := Tab.set o.tp m c' }).outEval

/-- OUT_SET_TOD. -/
def specOutSetTod : OpSpec where
  opcode := 0x0344
  states := stIRM
  len := fun _ => some 1
  params := fun _ p => p.only [0x1FF1] && decide (fld (p.w 0) 4 4 ≤ 1)
  csp := fun _ => true
  body := fun p s =>
    let w := p.w 0
    let f : TodCfg → TodCfg := fun c => { c with
      fmt := BitVec.ofNat 4 (fld w 4 4), baud := BitVec.ofNat 3 (fld w 8 3), nmeaAlways := flag w 11, shared := flag w 12 }
    Done.ok (s.setOutCfg fun o => { o with tod := Tab.mod o.tod (fld w 0 1) f }).outEval

/-- OUT_SET_DELAY. -/
def specOutSetDelay : OpSpec where
  opcode := 0x0346
  states := stIRM
  len := fun _ => some 3
  params := fun _ p => p.only [0x1F, 0xFFFFFFFF, 0xFFFFFF] && within (p.w 0) 0 21 &&
    decide ((p.w 1).toInt.natAbs ≤ 10000000)
  csp := fun _ => true
  body := fun p s => Done.ok (s.setDelay (p.w 0).toNat (p.w 1) ((p.w 2).setWidth 24))

/-- Output `n` has not met ALIGNED for 3 s without a glide (R358). -/
def State.alignLate (s : State) (n : Nat) : Bool :=
  let o := s.och n
  s.ready pdTime && o.running && !(s.ochCfg n).sync && !o.bypassAct && !o.aligned && !o.gliding &&
    decide (o.misTick + 3 * sTicks ≤ s.ticks)

/-- No output keeps ALIGN_HOLD present. -/
def State.alignClear (s : State) : State :=
  if has s.flt.present 65 && !((List.range 16).any fun n => s.alignLate n) then s.faultEnd 65 else s

/-- ENABLE of one output changes (R218). -/
def State.outEnable (s : State) (t : Nat) (on : Bool) : State :=
  if t < 16 then
    let was := (s.ochCfg t).enable
    let s1 := s.setOutCfg fun c => { c with ch := Tab.mod c.ch t fun q => { q with enable := on } }
    if on && !was then s1.modOch t fun o => { o with readyTick := s.ticks, misTick := s.ticks }
    else if !on then s1.modOch t fun o => { o.hold 0 false with bypassAct := false }
    else s1
  else if t < 20 then s.setOutCfg fun c => { c with tp := Tab.mod c.tp (t - 16) fun q => { q with enable := on } }
  else s.setOutCfg fun c => { c with tod := Tab.mod c.tod (t - 20) fun q => { q with enable := on } }

/-- OUT_ENABLE. -/
def specOutEnable : OpSpec where
  opcode := 0x0347
  states := stIRM
  len := fun _ => some 2
  params := fun _ p => p.only [0x3FFFFF, 0x3FFFFF]
  csp := fun _ => true
  body := fun p s =>
    Done.ok (((maskList 22 (p.w 0)).foldl (fun s t => s.outEnable t (flag (p.w 1) t)) s).outEval.alignClear.pairEval)

/-! ### The echo (R229, R230) -/

/-- A target is SHARED. -/
def State.targetShared (s : State) (t : Nat) : Bool :=
  if t < 16 then (s.ochCfg t).shared else (s.otpCfg (t - 16)).shared

/-- The target squelches for the measurement. -/
def State.echoHold (s : State) (t : Nat) : State :=
  if t < 16 then s.modOch t fun o => o.hold 4 false else s.modOtp (t - 16) fun q => { q with running := false, high := false }

/-- OUT_ECHO_MEASURE. -/
def specOutEchoMeasure : OpSpec where
  opcode := 0x0345
  states := stM
  len := fun _ => some 2
  params := fun _ p =>
    let w := p.w 0
    p.only [0x011F1F1F, 0x1FFF] && decide (fld w 0 5 ≤ 19) && fld w 8 5 != fld w 16 5 && within (p.w 1) 16 4096
  body := fun p s =>
    let w := p.w 0
    let t := fld w 0 5
    let a := fld w 8 5
    let b := fld w 16 5
    if !s.ready pdTic || (s.targetShared t && !s.own) then Done.err s .state
    else if s.out.echo.isSome || (s.tch a).claim != 0 || (s.tch b).claim != 0 then Done.err s .busy
    else if (s.tchCfg a).mode != 0 || (s.tchCfg b).mode != 0 then Done.err s .state
    else
      let r : EchoRun := {
        target := BitVec.ofNat 5 t, a := BitVec.ofNat 5 a, b := BitVec.ofNat 5 b, autoComp := flag w 24
        shots := (p.w 1).setWidth 13 }
      let s1 := ((s.ivAbort a).ivAbort b).modTch a fun c => { c with claim := 1 }
      let s2 := s1.modTch b fun c => { c with claim := 1 }
      Done.ok (({ s2 with out := { s2.out with echo := some r, echoValid := false } }).echoHold t)

/-- STATUS of a measurement (R230). -/
def echoStatusOf (shots good sigma : Nat) : Nat := if good * 2 < shots then 1 else if 500 < sigma then 2 else 0

/-- A measurement's result, and its release of channels and target. -/
def State.echoResult (s : State) (r : EchoRun) (good meanFs sigma : Nat) : State :=
  let st := echoStatusOf r.shots.toNat good sigma
  let tau := nearest ((meanFs : Int) - s.fuse.echoCalPs.toNat * 1000) 2000
  let unc := echoUnc (s.eTicOf r.a.toNat (s.tch r.a.toNat).conv.toNat) (s.eTicOf r.b.toNat (s.tch r.b.toNat).conv.toNat)
    sigma good
  let app := st == 0 && r.autoComp
  let t := r.target.toNat
  let s1 := { s with out := { s.out with
    echo := none, echoValid := true, echoStatus := BitVec.ofNat 2 st, echoApplied := app, echoTarget := r.target
    echoSeq := s.out.echoSeq + 1, echoTau := BitVec.ofInt 32 tau, echoUnc := ebSat unc, echoGood := BitVec.ofNat 16 good
    echoTaken := r.shots.setWidth 16, echoSigma := BitVec.ofNat 16 sigma } }
  let s2 := if app then
      let c := s1.setDelay t (BitVec.ofInt 32 tau) (ebSat unc)
      c.keepOwn fun k => { k with image := some c.cfg, commitSeq := k.commitSeq + 1 }
    else s1
  (s2.echoRelease.echoFree t).outRaise 9 t tau

/-- ECHO_DONE (R229): the shots end; `good` of them, the mean of t_b − t_a in fs, σ in 0.1 ps. -/
def execEchoDone (dt : Nat) (good : BitVec 16) (meanFs : Nat) (sigma : BitVec 16) (s : State) : Res :=
  let s := s.advance dt
  .next (match s.out.echo with
    | some r => s.echoResult r good.toNat meanFs sigma.toNat
    | none => s)

/-! ### Synthesizers and clock outputs -/

/-- SYN_LOCK (R208). -/
def execSynLock (dt : Nat) (k : BitVec 2) (s : State) : Res :=
  let s := s.advance dt
  let n := k.toNat
  .next (if s.ready pdTime && (s.synCfg n).on && !(s.syn n).lock then s.synLocked n else s)

/-- SYN_UNLOCK (R216). -/
def execSynUnlock (dt : Nat) (k : BitVec 2) (s : State) : Res :=
  let s := s.advance dt
  .next (if s.ready pdTime && (s.syn k.toNat).lock then s.synUnlock k.toNat else s)

/-- A grid instant of output `n` falls into this tick (R210, R213): S + PHASE_OFS_PS + k ÷ FREQ_HZ − DELAY_PS when ALIGNED,
SYNC_AT + k ÷ FREQ_HZ − DELAY_PS once synchronised; a SYNC-mode output off its grid may start at any phase. -/
def State.onGrid (s : State) (n : Nat) : Bool :=
  let o := s.och n
  let c := s.ochCfg n
  let d := ps16 c.delayPs.toInt
  if c.sync then !o.synced || o.offgrid || s.gridTick ((taiNat o.anchor : Int) - d) c.freqHz.toNat
  else s.gridTick (ps16 c.phasePs.toInt - d) c.freqHz.toNat

/-- An enabled output has what it needs to start (R210): 10 µs since it was enabled and its synthesizer locked, and a grid
instant. -/
def State.canStart (s : State) (n : Nat) : Bool :=
  let o := s.och n
  let c := s.ochCfg n
  let y := s.syn c.synSel.toNat
  s.ready pdTime && !s.flt.safe && c.enable && !o.running && !s.echoes n && y.lock &&
    decide (o.readyTick + 10 * usTicks ≤ s.ticks) && s.onGrid n

/-- OUTPUT_START (R210, R213, R217): at a grid instant. An output that its mask squelches is squelched instead. -/
def execOutputStart (dt : Nat) (n : BitVec 4) (s : State) : Res :=
  let s := s.advance dt
  let i := n.toNat
  .next (if !s.canStart i then s
    else if s.sqHit (s.ochCfg i).sqMask then
      if (s.och i).sqAuto then s
      else ((s.modOch i fun o => { o with sqAuto := true, sqCause := 1 }).outRaise 8 i).outUnsynced i
    else
      let s1 := s.modOch i fun o => { o with
        running := true, sqAuto := false, sqCause := 0, aligned := false, misTick := s.ticks }
      (s1.outUnsynced i).pairEval)

/-- ALIGNER_COMPARE (R211): the error found at a whole second, in ps; the delay line is trimmed by it. -/
def execAlignerCompare (dt : Nat) (n : BitVec 4) (errPs : Int) (s : State) : Res :=
  let s := s.advance dt
  let i := n.toNat
  let o := s.och i
  let ok := decide (errPs.natAbs ≤ 20) && !o.gliding
  .next (if !(s.ready pdTime && o.running && !(s.ochCfg i).sync && !o.bypassAct && s.gridTick 0 1) then s
    else
      let s1 := s.modOch i fun o => { o with
        aligned := ok, trimPs := o.trimPs - errPs, misTick := if o.aligned && !ok then s.ticks else o.misTick }
      let s2 := if ok && !o.aligned then s1.outRaise 4 i else s1
      s2.alignClear.pairEval)

/-- GLIDE_END (R212). -/
def execGlideEnd (dt : Nat) (n : BitVec 4) (s : State) : Res :=
  let s := s.advance dt
  let i := n.toNat
  .next (if (s.och i).gliding && s.perrNow i = 0 then
      s.modOch i fun o => { o with gliding := false, phaseErr := 0, misTick := s.ticks }
    else s)

/-- ALIGN_HOLD_TIMER (R358). -/
def execAlignHoldTimer (dt : Nat) (n : BitVec 4) (s : State) : Res :=
  let s := s.advance dt
  .next (if s.alignLate n.toNat then s.faultAssert 65 else s.alignClear)

/-- OUT_SYNC_EXECUTE (R213). -/
def execOutSyncExecute (dt : Nat) (s : State) : Res :=
  let s := s.advance dt
  .next (if s.ready pdTime then s.syncRunAll else s)

/-! ### Time pulses and messages -/

/-- TP_PULSE (R222). -/
def execTpPulse (dt : Nat) (m : BitVec 2) (s : State) : Res :=
  let s := s.advance dt
  let i := m.toNat
  let t := s.otp i
  let d := ps16 (s.otpCfg i).delayPs.toInt
  let inst := s.tpInst i ((s.now16 : Int) + d).toNat
  .next (if t.running && t.fresh inst && (!t.lowUntilS || inst % sec16 = 0) then s.tpFire i inst ((inst : Int) - d) else s)

/-- TP_PULSE_END (R222). -/
def execTpPulseEnd (dt : Nat) (m : BitVec 2) (s : State) : Res :=
  let s := s.advance dt
  let t := s.otp m.toNat
  let w := ceilDiv ((s.otpCfg m.toNat).widthNs.toNat * 5) 4
  .next (if t.high && decide (t.highFrom + w ≤ s.ticks) then s.modOtp m.toNat fun t => { t with high := false } else s)

/-- TOD_MESSAGE (R224). -/
def execTodMessage (dt : Nat) (k : BitVec 1) (s : State) : Res :=
  let s := s.advance dt
  let i := k.toNat
  let t := s.otod i
  let sec := ((s.now16 : Int) + ps16 (s.otodCfg i).delayPs.toInt).toNat / sec16
  let due := match t.lastSec with | some l => decide (l < sec) | none => true
  .next (if t.running && due then s.todSend i sec else s)

end Sys2Proof.Machine
end

