-- ==== Sys2Proof/Machine/Ref.lean ====
section
/-! DEFINITION. The REF commands (R119) and the events of the reference slots. -/

namespace Sys2Proof.Machine

/-! ### Registers -/

/-- Time left on the running timer, in ms. -/
def State.refTimerLeft (s : State) (n : Nat) : Nat :=
  let q := s.slot n
  let c := s.slotCfg n
  let total := if q.qstate == .holdoff then c.holdoffMs.toNat
    else 1000 * (if q.timerFirst then c.firstWaitS else c.wtrS).toNat
  if q.timerOn then (total * msTicks - (s.ticks - q.timerFrom)) / msTicks else 0

/-- REF_SLOT_n_CFG. -/
def State.refCfgWord (s : State) (n : Nat) : W32 :=
  let c := s.slotCfg n
  word [(0, c.enable.toNat), (1, s.refType n), (4, c.edge.toNat), (5, (!s.refPps n).toNat), (6, c.mate.toNat),
    (11, (s.refTime n).toNat), (12, c.todFmt.toNat)]

/-- REF_SLOT_n_STATE. -/
def State.refStateWord (s : State) (n : Nat) : W32 :=
  let q := s.slot n
  let votes := (List.range 20).any fun j => (s.voters j).contains n
  word [(0, q.qstate.code.toNat), (3, (s.eligible n).toNat), (4, (q.faultSrc != 0).toNat), (5, (s.isSel n).toNat),
    (6, votes.toNat), (8, q.faultSrc.toNat)]

/-- The registers of a slot window, by offset. -/
def State.refRegs (s : State) (n : Nat) : List (Nat × W32) :=
  let c := s.slotCfg n
  let q := s.slot n
  let age := match q.lastUpd with | some t => BitVec.ofNat 32 ((s.ticks - t) / msTicks) | none => 0xFFFFFFFF
  [(0x00, s.refCfgWord n), (0x04, c.freqHz.setWidth 32), (0x08, c.delayPs), (0x0C, c.declUnc.setWidth 32)] ++
    at64 0x10 (c.ftol1s.setWidth 64) ++ at64 0x18 (c.ftol64s.setWidth 64) ++ at64 0x20 (c.ftol4096s.setWidth 64) ++
    [(0x28, c.tieLimitNs.setWidth 32), (0x2C, c.gateNs.setWidth 32), (0x30, c.horizonS),
      (0x34, c.holdoffMs.setWidth 32), (0x38, word [(0, c.wtrS.toNat), (16, c.firstWaitS.toNat)]),
      (0x3C, word [(0, c.priority.toNat), (8, c.quality.toNat)]), (0x40, s.refStateWord n),
      (0x44, BitVec.ofNat 32 (s.refTimerLeft n)), (0x48, q.history.setWidth 32)] ++
    at64 0x50 q.offset ++ at64 0x58 (q.freq1s.setWidth 64) ++ at64 0x60 (q.freq64s.setWidth 64) ++
    at64 0x68 (q.freq4096s.setWidth 64) ++
    [(0x70, q.slope), (0x74, q.breachS), (0x78, q.majTiePs), (0x7C, q.eMeas.setWidth 32), (0x80, q.eSrc.setWidth 32),
      (0x84, age), (0x88, word [(0, q.clockClassRx.toNat), (8, q.masterPresent.toNat), (9, q.freeRun.toNat)])] ++
    at64 0x90 q.masterId

/-- The slot window. -/
def State.refWindow (s : State) (n : Nat) : List W32 := win 38 (s.refRegs n)

/-- The record of cell `c` with contents `r`, `sel` being the selected slot (R99). -/
def cellRecord (c : Nat) (r : RefCell) (sel : Nat) : List W32 :=
  let p := cellSlots c
  let sel := p.1 == sel || p.2 == sel
  taiWords r.time ++ w64 r.phase ++
    [word [(0, r.unc.toNat), (24, r.valid.toNat), (25, r.clockOnly.toNat), (26, r.stale.toNat), (27, sel.toNat)],
      r.dfreq, word [(0, r.seq.toNat), (16, p.1), (24, p.2)]]

/-- The record of cell `c` as it stands (R99, R101). -/
def State.cellWords (s : State) (c : Nat) : List W32 :=
  cellRecord c (Tab.get s.ref.cells c RefCell.reset) s.ref.selected.toNat

/-- The record of cell `c` at the last 1 ms boundary (R101). -/
def State.cellSnapWords (s : State) (c : Nat) : List W32 :=
  cellRecord c (Tab.get s.ref.snap c RefCell.reset) s.ref.snapSel.toNat

/-! ### Commands -/

/-- REF_QUERY_SLOT. -/
def specRefQuerySlot : OpSpec where
  opcode := 0x0100
  states := stAll
  len := fun _ => some 1
  params := fun _ p => p.only [0x1F] && decide (fld (p.w 0) 0 5 < 20)
  body := answer fun p s => s.refWindow (fld (p.w 0) 0 5)

/-- REF_QUERY_MATRIX. -/
def specRefQueryMatrix : OpSpec where
  opcode := 0x0101
  states := stAll
  len := fun _ => some 1
  params := fun _ p =>
    let first := fld (p.w 0) 0 8
    let n := fld (p.w 0) 8 8
    p.only [0xFFFF] && decide (1 ≤ n) && decide (n ≤ 32) && decide (first + n ≤ 190)
  body := answer fun p s => (List.range (fld (p.w 0) 8 8)).flatMap fun i => s.cellSnapWords (fld (p.w 0) 0 8 + i)

/-- REF_QUERY_HISTORY. -/
def specRefQueryHistory : OpSpec where
  opcode := 0x0102
  states := stAll
  len := fun _ => some 0
  body := answer fun _ s => (List.range 20).map fun n => (s.slot n).history.setWidth 32

/-- A slot's configuration changes. -/
def State.setSlotCfg (s : State) (n : Nat) (f : RefSlotCfg → RefSlotCfg) : State :=
  { s with cfg := { s.cfg with ref := { s.cfg.ref with slots := Tab.mod s.cfg.ref.slots n f } } }

/-- The parameters of REF_SET_SLOT are legal (R119). -/
def setSlotParams (s : State) (p : Packet) : Bool :=
  let w := p.w 0
  let n := fld w 0 5
  let t := fld w 5 3
  let mate := fld w 9 5
  p.only [0x3FFFF, 0x3FFFFFFF, 0xFFFFFFFF, 0xFFFFFF] && decide (n < 20) &&
    (if n < 12 then decide (t < 4) else t == s.refType n && !flag w 8) &&
    (t != 2 || (decide (1000 ≤ (p.w 1).toNat) && decide ((p.w 1).toNat ≤ 800000000))) &&
    decide (fld w 14 4 ≤ 1) &&
    (mate == 31 || (decide (mate < 20) && mate != n && n != 18 && !ppsType t && s.refPps mate))

/-- The slot configuration REF_SET_SLOT gives. -/
def setSlotTo (p : Packet) (c : RefSlotCfg) : RefSlotCfg :=
  let w := p.w 0
  { c with
    typ := if fld w 0 5 < 12 then BitVec.ofNat 3 (fld w 5 3) else c.typ
    edge := flag w 8, mate := BitVec.ofNat 5 (fld w 9 5), todFmt := BitVec.ofNat 4 (fld w 14 4)
    freqHz := (p.w 1).setWidth 30, delayPs := p.w 2, declUnc := (p.w 3).setWidth 24 }

/-- REF_SET_SLOT. -/
def specRefSetSlot : OpSpec where
  opcode := 0x0140
  states := stIRM
  len := fun _ => some 4
  params := setSlotParams
  csp := fun _ => true
  body := fun p s =>
    let n := fld (p.w 0) 0 5
    let old := s.slotCfg n
    let new := setSlotTo p old
    if s.isSel n && { new with declUnc := old.declUnc } ≠ old then Done.err s .state
    else
      let s1 := s.setSlotCfg n fun _ => new
      Done.ok (if s.isSel n || (s.slot n).qstate == .disabled then s1 else s1.refAbsent n)

/-- REF_SET_QUAL. -/
def specRefSetQual : OpSpec where
  opcode := 0x0141
  states := stIRM
  len := fun _ => some 10
  params := fun _ p => p.only [0x1F, 0xFFFFFFFF, 0xFF, 0xFFFFFFFF, 0xFF, 0xFFFFFFFF, 0xFF, 0xFFFFFF, 0xFFFFFF, 0xFFFFFFFF]
    && decide (fld (p.w 0) 0 5 < 20)
  csp := fun _ => true
  body := fun p s => Done.ok (s.setSlotCfg (fld (p.w 0) 0 5) fun c => { c with
    ftol1s := (p.w2 1).setWidth 40, ftol64s := (p.w2 3).setWidth 40, ftol4096s := (p.w2 5).setWidth 40
    tieLimitNs := (p.w 7).setWidth 24, gateNs := (p.w 8).setWidth 24, horizonS := p.w 9 })

/-- A hold-off that has run out ends in FAILED (R107). -/
def State.holdoffOut (s : State) (n : Nat) : State :=
  let q := s.slot n
  if q.qstate == .holdoff && q.timerOn &&
      decide ((s.slotCfg n).holdoffMs.toNat * msTicks ≤ s.ticks - q.timerFrom) && q.faultSrc != 0 then
    let s1 := (s.refTimerOff n).qMove n .failed (some (src 2 4))
    let s2 := s1.majRefresh
    if s2.isSel n && s2.bestSlot.isNone && !s2.ref.switching then s2.refSelect else s2
  else s

/-- A wait that has run out ends in QUALIFIED (R107). -/
def State.waitOut (s : State) (n : Nat) : State :=
  let q := s.slot n
  let c := s.slotCfg n
  let w := (if q.timerFirst then c.firstWaitS else c.wtrS).toNat
  if q.qstate == .wait && q.timerOn && decide (w * sTicks ≤ s.ticks - q.timerFrom) && q.faultSrc = 0 then
    let s1 := (s.refTimerOff n).modSlot n fun q => { q with qualOnce := true }
    (s1.qMove n .qualified (some (src 2 5))).majRefresh
  else s

/-- REF_SET_TIMERS. -/
def specRefSetTimers : OpSpec where
  opcode := 0x0142
  states := stIRM
  len := fun _ => some 3
  params := fun _ p => p.only [0x1F, 0x3FFF, 0x0FFF0FFF] && decide (fld (p.w 0) 0 5 < 20) &&
    decide ((p.w 1).toNat ≤ 10000) && decide (fld (p.w 2) 0 12 ≤ 3600) && decide (fld (p.w 2) 16 12 ≤ 3600)
  csp := fun _ => true
  body := fun p s =>
    let n := fld (p.w 0) 0 5
    let s1 := s.setSlotCfg n fun c => { c with
      holdoffMs := (p.w 1).setWidth 14, wtrS := (p.w 2).setWidth 12, firstWaitS := (p.w 2).extractLsb' 16 12 }
    Done.ok ((s1.holdoffOut n).waitOut n)

/-- REF_SET_PRIORITY. -/
def specRefSetPriority : OpSpec where
  opcode := 0x0143
  states := stIRM
  len := fun _ => some 1
  params := fun _ p =>
    let w := p.w 0
    p.only [0x3FF1F] && (decide (fld w 0 5 < 20) || (fld w 0 5 == 31 && fld w 8 8 == 0)) &&
      (flag w 16 || !flag w 17)
  csp := fun _ => true
  body := fun p s =>
    let w := p.w 0
    let s1 := s.setSlotCfg (fld w 0 5) fun c => { c with
      priority := w.extractLsb' 8 4, quality := w.extractLsb' 12 4 }
    Done.ok (if flag w 16 then
      { s1 with cfg := { s1.cfg with ref := { s1.cfg.ref with revertive := flag w 17 } } } else s1)

/-- REF_SELECT. -/
def specRefSelect : OpSpec where
  opcode := 0x0144
  states := stRM
  len := fun _ => some 1
  params := fun _ p =>
    let w := p.w 0
    p.only [0x1F03] && ((fld w 0 2 == 0 && fld w 8 5 == 0) || (fld w 0 2 == 1 && decide (fld w 8 5 < 20)))
  body := fun p s =>
    let n := fld (p.w 0) 8 5
    if s.ref.switching then Done.err s .busy
    else if fld (p.w 0) 0 2 = 0 then Done.ok { s with ref := { s.ref with manual := false } }
    else if !s.eligible n || !s.maySwitch then Done.err s .state
    else
      let s1 := { s with ref := { s.ref with manual := true, standbyBetter := false } }
      Done.ok (if s.isSel n then s1 else s1.startSwitch s.ref.selected.toNat n)

/-- REF_CLEAR_HISTORY. -/
def specRefClearHistory : OpSpec where
  opcode := 0x0145
  states := 0x0F
  len := fun _ => some 2
  params := fun _ p => p.only [0xFFFFF, 0xFFFF]
  body := fun p s =>
    let m := (p.w 1).setWidth 16
    let s1 := (List.range 20).foldl (fun s n =>
      if flag (p.w 0) n then s.modSlot n fun q => { q with history := q.history &&& ~~~m } else s) s
    Done.ok (if s.fuse.gnssEn then s1 else s1.modSlot 12 fun q => { q with history := q.history ||| 1 })

/-- Slot `n` is enabled or disabled (R107). -/
def State.refEnableOne (s : State) (n : Nat) (on : Bool) : State :=
  let s1 := s.setSlotCfg n fun c => { c with enable := on }
  let q := (s.slot n).qstate
  if on then if q == QState.disabled && s1.ready pdTime then s1.refAbsent n else s1
  else if q == QState.disabled then s1
  else
    let s2 := (s1.servoHold n).modSlot n fun q => q.cleared
    (s2.cellsReset n).majRefresh

/-- The slots of a mask take their new ENABLE values together (R45); the selected slot's disabling starts a switch at once
(R107). -/
def State.refEnable (s : State) (affected values : W32) : State :=
  let s1 := (List.range 20).foldl (fun (s : State) n =>
    if flag affected n then s.refEnableOne n (flag values n) else s) s
  match s1.selectedSlot with
  | some n => if flag affected n && !flag values n then s1.refSelect else s1
  | none => s1

/-- REF_ENABLE. New values of slots that W0 does not name are ignored (DESIGN CHOICE, log entry 69). -/
def specRefEnable : OpSpec where
  opcode := 0x0146
  states := stIRM
  len := fun _ => some 2
  params := fun _ p => p.only [0xFFFFF, 0xFFFFF]
  csp := fun _ => true
  body := fun p s => Done.ok (s.refEnable (p.w 0) (p.w 1))

/-- REF_SET_PTP_SLAVE. -/
def specRefSetPtpSlave : OpSpec where
  opcode := 0x0147
  states := stIRM
  len := fun _ => some 3
  params := fun _ p => p.only [0x3FFF3, 0xFFFF, 0x1] && decide (fld (p.w 0) 16 2 < 3) && decide (2 ≤ fld (p.w 1) 0 8)
  csp := fun _ => true
  body := fun p s =>
    let w := p.w 0
    let k := fld w 0 2
    let c : RefPtpCfg := {
      lane := w.extractLsb' 4 4, domain := w.extractLsb' 8 8, profile := w.extractLsb' 16 2
      announceTimeout := (p.w 1).setWidth 8, classMax := (p.w 1).extractLsb' 8 8, enable := flag (p.w 2) 0 }
    let s1 := { s with cfg := { s.cfg with ref := { s.cfg.ref with ptp := Tab.set s.cfg.ref.ptp k c } } }
    let lim := decide (c.classMax < (s1.slot (13 + k)).clockClassRx) && (s1.slot (13 + k)).masterPresent
    Done.ok (s1.setSource (13 + k) (!c.enable || (s1.slot (13 + k)).srcInvalid) lim false).refPresence

/-! ### Events -/

/-- The ideal instant nearest to a reading, on a grid of `f` edges a second. -/
def gridNear (f : Nat) (r : Int) : Int := nearest (nearest (r * f) sec16 * (sec16 : Int)) f

/-- A clock-class edge of slot `n` at accord reading `r`, `cycles` nominal periods after the slot's anchor (R96, R97): the
first after a 1 ms boundary of the accord is measured. A mated slot takes the grid instant that its mate's second gives it;
until the mate has an offset it has none. -/
def State.clockEdge (s0 : State) (n : Nat) (r : Int) (cycles : Nat) : State :=
  let ms := s0.now16 / ms16
  let q := s0.slot n
  let s := s0.modSlot n fun q => { q with lastMs := some ms, lastEdge := some s0.ticks }
  if q.lastMs = some ms then s
  else match s.refMate n with
  | some m =>
    if (s.slot m).live then s.refUpdate n (r - (gridNear (s.refHz n) (r - (s.slot m).offset.toInt))) else s
  | none =>
    if q.anchored then s.refUpdate n (r - (q.anchorIdeal + nearest ((cycles : Int) * sec16) (s.refHz n)))
    else (s.modSlot n fun q => { q with anchored := true, anchorIdeal := r }).refUpdate n 0

/-- REF_EDGE (R96, R97): a significant edge of a ball or oscillator slot, at the accord's reading plus `phase`. -/
def execRefEdge (dt : Nat) (slot : BitVec 5) (phase : Int) (cycles : Nat) (s : State) : Res :=
  let s := s.advance dt
  let n := slot.toNat
  let t := s.refType n
  let r : Int := (s.now16 : Int) + phase - ps16 (s.slotCfg n).delayPs.toInt
  .next (if !s.ready pdTime || (s.slot n).qstate == .disabled || !(n < 12 || n = 18 || n = 19) || t = 3 then s
    else if t = 0 then s.refUpdate n (r - nearest r sec16 * sec16)
    else s.clockEdge n r cycles)

/-- REF_TOD_MESSAGE (R96, R97): the message labels the second that its start-bit edge, stamped `phase` from now, marks. -/
def execRefTodMessage (dt : Nat) (slot : BitVec 4) (phase : Int) (second : BitVec 48) (s : State) : Res :=
  let s := s.advance dt
  let n := slot.toNat
  let r : Int := (s.now16 : Int) + phase - ps16 (s.slotCfg n).delayPs.toInt
  .next (if !s.ready pdTime || (s.slot n).qstate == .disabled || n ≥ 12 || s.refType n ≠ 3 then s
    else s.refUpdate n (r - second.toNat * sec16))

/-- The mean of a list of offsets, cut off toward zero (DESIGN CHOICE, log entry 70). -/
def meanOf (l : List Int) : Int := Int.tdiv l.sum l.length

/-- The offset that slot `n` is given: a PTP instance's is the average of its two-way estimates since the last delivery, none
where there are none (R118); `x` is the solution's or the partner's. -/
def State.deliveredOffset (s : State) (n : Nat) (x : Int) : Option Int :=
  if 13 ≤ n && n ≤ 16 then
    let l := (s.slot n).estimates
    if l.isEmpty then none else some (meanOf l)
  else some x

/-- REF_OFFSET_DELIVERY (R97, R118): an engine delivers an offset and its bound for REF12 to REF17. -/
def execRefOffsetDelivery (dt : Nat) (m : BitVec 4) (slot : BitVec 5) (offset : BitVec 64) (eSrc : BitVec 24)
    (s : State) : Res :=
  let s := s.advance dt
  let n := slot.toNat
  .next (if 4 ≤ m.toNat && m != 14 && 12 ≤ n && n ≤ 17 && s.refExists n then
      match s.deliveredOffset n offset.toInt with
      | some x => (s.modSlot n fun q => { q with estimates := [] }).refDeliver n x eSrc
      | none => s
    else s)

/-- The time without an event after which a slot's signal is lost, in ticks (R106). -/
def State.refLosAfter (s : State) (n : Nat) : Nat :=
  if s.refPps n then 3 * sTicks / 2 else max (ceilDiv (8 * sTicks) (s.refHz n)) (10 * usTicks)

/-- REF_LOS_TIMEOUT (R106): no event of the slot's source within its loss-of-signal time. A slot that has delivered no
event since it was enabled sets NOT_PRESENT. What is told by windows that have to fill anew, or against voters, is no longer
present. -/
def execRefLosTimeout (dt : Nat) (slot : BitVec 5) (s : State) : Res :=
  let s := s.advance dt
  let n := slot.toNat
  let q := s.slot n
  .next (if q.qstate == .disabled || !(n < 20) then s
    else match q.lastEdge with
      | none => s.refHist n 0 none
      | some t =>
        if 12 ≤ n && n ≤ 17 || s.ticks - t < s.refLosAfter n then s
        else
          let s1 := s.modSlot n fun q => { q with sigFrom := s.ticks + 1, freqPts := [], breachS := 0xFFFFFFFF }
          (s1.cellsStale n).setFaults n ((q.faultSrc &&& 0xC0) ||| 1) false)

/-- HOLDOFF_EXPIRY (R107, R117). -/
def execHoldoffExpiry (dt : Nat) (slot : BitVec 5) (s : State) : Res := .next ((s.advance dt).holdoffOut slot.toNat)

/-- WAIT_EXPIRY (R107). -/
def execWaitExpiry (dt : Nat) (slot : BitVec 5) (s : State) : Res := .next ((s.advance dt).waitOut slot.toNat)

/-- REF_SELECT_TICK (R101, R112): a 1 ms boundary of the accord that has not yet been acted on. -/
def execRefSelectTick (dt : Nat) (s : State) : Res :=
  let s := s.advance dt
  let ms := s.now16 / ms16
  .next (if !s.ready pdTime || s.ref.lastMs = some ms then s
    else ({ s.cellsSnap with ref := { s.cellsSnap.ref with lastMs := some ms } }).refSelect)

end Sys2Proof.Machine
end

