-- ==== Sys2Proof/Machine/Tic.lean ====
section
/-! DEFINITION. The TIC commands (R205) and the TIC block's events. -/

namespace Sys2Proof.Machine

/-! ### Registers -/

/-- TIC_STATUS. -/
def State.ticStatus (s : State) : W32 :=
  let usable := (s.tic.convs.toList.filter fun c => !c.failed).length
  let warm := (List.range 36).all fun c => !s.serving c || (s.tconv c).warm
  word [(0, 1), (1, s.tic.bridgeDone.toNat), (2, s.tbRef), (4, s.sparesFree), (8, usable), (14, warm.toNat)]

/-- TIC_MAP. -/
def State.ticMap (s : State) : W32 :=
  word ((List.range 4).map fun i => (8 * i, (s.tspare i).chan.toNat + 64 * (s.tspare i).use.toNat))

/-- TIC_CH_n_CFG. -/
def State.ticChCfg (s : State) (n : Nat) : W32 :=
  let g := s.tchCfg n
  word [(0, g.mode.toNat), (2, g.edge.toNat), (4, g.inputSel.toNat), (8, g.inputIdx.toNat), (16, g.thMv.toNat),
    (28, (s.tch n).claim.toNat)]

/-- TIC_CH_n_STATUS. -/
def State.ticChStatus (s : State) (n : Nat) : W32 :=
  let c := s.tch n
  word [(0, c.stream.toNat), (1, (s.servConv n).warm.toNat), (2, c.present.toNat), (3, c.arm.isSome.toNat),
    (4, c.armedStop.toNat), (5, c.calStale.toNat), (6, (decide (32 ≤ c.conv.toNat)).toNat), (8, c.conv.toNat),
    (16, c.queue.length)]

/-- TIC_CH_n_IV. -/
def TicCh.ivWord (c : TicCh) : W32 :=
  word [(0, c.ivValid.toNat), (1, c.ivStatus.toNat), (3, c.ivOrder.toNat), (4, c.ivStartSeen.toNat),
    (5, c.ivStopSeen.toNat), (6, c.ivDtMiss.toNat), (7, c.ivStep.toNat), (16, c.ivSeq.toNat)]

/-- The interval result's words, +0x40 to +0x5C. -/
def TicCh.ivWords (c : TicCh) : List W32 :=
  [c.ivWord] ++ w64 c.ivVal ++ [ebWord c.ivEb c.ivFlags] ++ taiWords c.ivStart ++ [c.ivStop.setWidth 32]

/-- The registers of a channel window, by offset. -/
def State.ticRegs (s : State) (n : Nat) : List (Nat × W32) :=
  let c := s.tch n
  let g := s.tchCfg n
  [(0x00, s.ticChCfg n), (0x04, g.presenceUs), (0x08, g.delayPs), (0x0C, g.delayUnc.setWidth 32),
    (0x10, s.ticChStatus n), (0x14, c.eTic.setWidth 32), (0x18, c.dtMiss), (0x1C, c.qLost)] ++
    at64 0x20 c.events ++ atWords 0x40 c.ivWords

/-- A channel window, POP words zero. -/
def State.ticWindow (s : State) (n : Nat) : List W32 := win 24 (s.ticRegs n)

/-- CAL_AGE_S. -/
def State.calAge (s : State) (c : Nat) : W32 :=
  match (s.tconv c).calTick with
  | some t => BitVec.ofNat 32 (min ((s.ticks - t) / sTicks) 0xFFFFFFFE)
  | none => 0xFFFFFFFF

/-- A converter window. -/
def State.convWindow (s : State) (c : Nat) : List W32 :=
  let v := s.tconv c
  let t := v.table
  [word [(0, t.valid.toNat), (1, v.failed.toNat), (2, v.warm.toNat), (3, (s.serving c).toNat), (16, t.calSeq.toNat)],
    t.ssRms ++ t.calUnc, t.tCal.setWidth 32, t.gainDev.setWidth 32, t.segDev.setWidth 32, s.calAge c]

/-- The 64 break points, two to a word. -/
def TicTable.pointWords (t : TicTable) : List W32 :=
  (List.range 32).map fun i => t.points.getD (2 * i + 1) 0 ++ t.points.getD (2 * i) 0

/-! ### Queries -/

/-- TIC_QUERY_CHANNEL. -/
def specTicQueryChannel : OpSpec where
  opcode := 0x0400
  states := stAll
  len := fun _ => some 1
  params := fun _ p => p.only [0x1F]
  body := answer fun p s => if s.ready pdTic then s.ticWindow (p.w 0).toNat else List.replicate 24 0

/-- TIC_QUERY_CAL. -/
def specTicQueryCal : OpSpec where
  opcode := 0x0401
  states := stAll
  len := fun _ => some 1
  params := fun _ p => p.only [0x3F] && within (p.w 0) 0 35
  body := answer fun p s =>
    let c := (p.w 0).toNat
    if s.ready pdTic then s.convWindow c ++ (s.tconv c).table.pointWords else List.replicate 38 0

/-! ### Configuration -/

/-- A channel's configuration changes. -/
def State.setTch (s : State) (n : Nat) (f : TicChCfg → TicChCfg) : State :=
  { s with cfg := { s.cfg with tic := { s.cfg.tic with ch := Tab.mod s.cfg.tic.ch n f } } }

/-- A measurement armed on a channel. -/
def TicCh.armed (c : TicCh) : Bool := c.arm.isSome || c.armedStop

/-- The body of a TIC command that needs PD_TIC. -/
def ticBody (f : Packet → State → Done) (p : Packet) (s : State) : Done :=
  if s.ready pdTic then f p s else Done.err s .state

/-- TIC_SET_CHANNEL's parameters; an INPUT_IDX that its source does not use must be zero (R205, R450). -/
def ticSetChannelOk (_ : State) (p : Packet) : Bool :=
  let sel := fld (p.w 0) 12 3
  let idx := fld (p.w 0) 16 4
  p.only [0x000F771F, 0x7FF, 0xFFFFFFFF] && decide (sel ≤ 5) &&
    decide (idx ≤ (if sel = 2 then 11 else if sel = 3 then 15 else if sel = 4 then 3 else 0)) && within (p.w 1) 0 1800 && within (p.w 2) 1 100000000

/-- TIC_SET_CHANNEL. -/
def specTicSetChannel : OpSpec where
  opcode := 0x0440
  states := stIRM
  len := fun _ => some 3
  params := ticSetChannelOk
  csp := fun _ => true
  body := ticBody fun p s =>
    let w := p.w 0
    let n := fld w 0 5
    let c := s.tch n
    if c.armed || c.claim != 0 then Done.err s .busy
    else
      let s1 := s.setTch n fun g => { g with
        mode := BitVec.ofNat 2 (fld w 8 2), edge := flag w 10, inputSel := BitVec.ofNat 3 (fld w 12 3)
        inputIdx := BitVec.ofNat 4 (fld w 16 4), thMv := (p.w 1).setWidth 11, presenceUs := p.w 2 }
      let was := s.streams n
      let s2 := if was && !s1.streams n then s.ticMark n 5 (fld w 8 2) else s
      Done.ok (({ s2 with cfg := s1.cfg }).ticMark n 5 (fld w 8 2))

/-- TIC_SET_DELAY. -/
def specTicSetDelay : OpSpec where
  opcode := 0x0445
  states := stIRM
  len := fun _ => some 3
  params := fun _ p => p.only [0x1F, 0xFFFFFFFF, 0xFFFFFF]
  csp := fun _ => true
  body := ticBody fun p s =>
    let n := (p.w 0).toNat
    if (s.tch n).claim != 0 then Done.err s .busy
    else Done.ok (s.setTch n fun g => { g with delayPs := p.w 1, delayUnc := (p.w 2).setWidth 24 })

/-! ### Measurements and streams -/

/-- TIC_START_INTERVAL. -/
def specTicStartInterval : OpSpec where
  opcode := 0x0441
  states := stRM
  len := fun _ => some 2
  params := fun _ p => p.only [0x00031F1F, 0xFFFFFFFF] && within (p.w 1) 1 1000000000
  body := ticBody fun p s =>
    let w := p.w 0
    let n := fld w 0 5
    let m := fld w 8 5
    let a := s.tch n
    let b := s.tch m
    if a.claim != 0 || b.claim != 0 then Done.err s .busy
    else if (s.tchCfg n).mode != 3 || (s.tchCfg m).mode != 3 then Done.err s .state
    else if a.arm.isSome || b.armedStop then Done.err s .busy
    else
      let arm : TicArm := { TicArm.reset with
        stop := BitVec.ofNat 5 m, startFall := flag w 16, stopFall := flag w 17, armTick := s.ticks, timeoutUs := p.w 1 }
      let s1 := s.modTch n fun c => { c with arm := some arm, ivValid := false }
      Done.ok (s1.modTch m fun c => { c with armedStop := true })

/-- TIC_STREAM. -/
def specTicStream : OpSpec where
  opcode := 0x0442
  states := 0x0E
  len := fun _ => some 2
  body := ticBody fun p s =>
    let ns := (List.range 32).filter fun n => flag (p.w 0) n
    if ns.any fun n => (s.tch n).claim != 0 then Done.err s .busy
    else if ns.any fun n => !s.streams n then Done.err s .state
    else Done.ok (ns.foldl (fun s n => s.modTch n fun c => { c with stream := flag (p.w 1) n }) s)

/-! ### Calibration and spares -/

/-- TIC_CALIBRATE's parameters. -/
def ticCalibrateOk (_ : State) (p : Packet) : Bool :=
  p.only [0xFFFFFFFF, 0xF, 0xFFFF0003, 0xFFFFFFFF] &&
    (if flag (p.w 2) 0 then within ((p.w 2) >>> 16) 1 500 && within (p.w 3) 0 86400 else p.w 2 == 0 && p.w 3 == 0)

/-- The converters of a mask whose run can start (R202): every idle one, and the serving ones where a spare covers them. -/
def State.calStartable (s : State) (m : BitVec 36) : BitVec 36 :=
  (List.range 36).foldl (fun a c =>
    let v := s.tconv c
    let ok := has m c && !v.failed && (!s.serving c || s.freeSpare.isSome || s.rollingSpare.isSome)
    if ok then a ||| bitAt 36 c else a) 0

/-- Converter `c` is named by TIC_CALIBRATE but not started: the channel it serves turns stale (R202). -/
def State.calSkipped (m go : BitVec 36) (s : State) (c : Nat) : State :=
  if has m c && !has go c then
    match s.servedBy c with
    | some n => s.calStale n
    | none => s
  else s

/-- TIC_CALIBRATE. -/
def specTicCalibrate : OpSpec where
  opcode := 0x0443
  states := stIRM
  len := fun _ => some 4
  params := ticCalibrateOk
  csp := fun p => flag (p.w 2) 0
  body := ticBody fun p s =>
    if s.tic.calCmd then Done.err s .busy
    else
      let m : BitVec 36 := (p.w2 0).setWidth 36
      let go := s.calStartable m
      let s1 := if flag (p.w 2) 0 then { s with cfg := { s.cfg with tic := { s.cfg.tic with
          autoRecal := flag (p.w 2) 1, recalK := (p.w 2).extractLsb' 16 16, recalS := (p.w 3).setWidth 17 } } }
        else s
      let s2 := { s1 with tic := { s1.tic with
        calCmd := go != 0, calList := go, recalDue := s1.tic.recalDue ||| go } }
      let s3 := (List.range 36).foldl (State.calSkipped m go) s2
      Done.ok s3.calNext (w64 (go.setWidth 64))

/-- TIC_SUBSTITUTE's parameters. -/
def ticSubstituteOk (s : State) (p : Packet) : Bool :=
  let w := p.w 0
  let ch := fld w 8 6
  p.only [0x00033F03, 0xFFFF] && (decide (ch < 32) || ch == 0x3F) && !(s.tconv (32 + fld w 0 2)).failed &&
    (if flag w 16 then within (p.w 1) 1 65535 else !flag w 17 && p.w 1 == 0)

/-- TIC_SUBSTITUTE's settings. -/
def State.setSubst (s : State) (p : Packet) : State :=
  let w := p.w 0
  { s with cfg := { s.cfg with tic := { s.cfg.tic with
    subst := Tab.set s.cfg.tic.subst (fld w 0 2) (BitVec.ofNat 6 (fld w 8 6))
    autoSpare := if flag w 16 then flag w 17 else s.cfg.tic.autoSpare
    overlapEdges := if flag w 16 then (p.w 1).setWidth 16 else s.cfg.tic.overlapEdges } } }

/-- A spare's permanent channel goes back to its own converter (R201). -/
def State.unmap (s : State) (i : Nat) : State :=
  let sp := s.tspare i
  let n := sp.chan.toNat
  if sp.use ≠ 1 then s
  else if (s.tconv n).failed then
    (((s.handOver n n).dropSpare i).raise (src 5 10) n).faultAssert 97
  else if (s.tch n).conv.toNat ≠ 32 + i then s.dropSpare i
  else (s.modSpare i fun p => { p with home := BitVec.ofNat 6 n }).swap i true

/-- The spare that serves channel `n` in rolling use, or is about to. -/
def State.rollingOn (s : State) (n : Nat) : Option Nat :=
  (List.range 4).find? fun i => (s.tspare i).use == 2 && (s.tspare i).chan.toNat == n

/-- A commanded substitution of channel `n` is in its overlap. -/
def State.swapping (s : State) (n : Nat) : Bool :=
  (List.range 4).any fun i => let p := s.tspare i; p.swapOn && p.use == 1 && p.chan.toNat == n

/-- TIC_SUBSTITUTE: the spare takes the channel from whichever converter serves it, through an overlap (R201). -/
def specTicSubstitute : OpSpec where
  opcode := 0x0444
  states := stIRM
  len := fun _ => some 2
  params := ticSubstituteOk
  csp := fun _ => true
  body := ticBody fun p s =>
    let i := fld (p.w 0) 0 2
    let n := fld (p.w 0) 8 6
    let sp := s.tspare i
    if s.tic.bridge.isSome then Done.err s .busy
    else if n = 0x3F then
      if sp.use = 3 || sp.swapOn then Done.err s .busy else Done.ok ((s.setSubst p).unmap i)
    else if (sp.use ≠ 0 && sp.use ≠ 2) || s.swapping n then Done.err s .busy
    else
      let s1 := if sp.use = 2 then s.releaseRolling i else s.calBreak i
      let s2 := match s1.rollingOn n with
        | some j => s1.releaseRolling j
        | none => s1
      Done.ok (((s2.setSubst p).takeSpare i 1 n n).swap i false)

/-! ### Edges -/

/-- An edge's place on the scale of 800 ps ÷ 4,096. -/
def State.ticPos (s : State) (fine : Nat) : Nat := s.ticks * 4096 + fine

/-- The channel is to stamp an edge of this polarity: streams stamp their own, interval channels both, and a claimed channel
rising ones (R193, R376). -/
def State.ticWants (s : State) (n : Nat) (falling : Bool) : Bool :=
  let g := s.tchCfg n
  let m := g.mode.toNat
  s.ready pdTic && s.tic.bridge != some (s.tch n).conv.toNat &&
    (if (s.tch n).claim != 0 then !falling else m == 3 || ((m == 1 || m == 2) && falling == g.edge))

/-- The channel stamps such an edge: its converter works (R201). -/
def State.ticTakes (s : State) (n : Nat) (falling : Bool) : Bool := s.ticWants n falling && !(s.servConv n).failed

/-- An edge comes while the channel has no working converter: a LOSS mark is due (R192, R201). -/
def State.ticGap (s : State) (n : Nat) : State :=
  s.modTch n fun c => { c with lossDue := c.lossDue || s.streams n }

/-- The edge lies within the dead time of the previous one (R196). -/
def State.ticDead (s : State) (n fine : Nat) : Bool :=
  match (s.tch n).lastStamp with
  | some t => decide (s.ticPos fine < t + 12288)
  | none => false

/-- An edge lost to dead time (R196). -/
def State.ticMiss (s : State) (n : Nat) (falling : Bool) : State :=
  let s1 := s.modTch n fun c => { c with
    dtMiss := c.dtMiss + 1, lossDt := if c.lossDt = 0xFFFFFF then c.lossDt else c.lossDt + 1
    lossDue := c.lossDue || s.streams n }
  (s1.ticRaise 2 n).ivMissed n falling

/-- PRESENT sets at the first edge stamped (R188). -/
def State.ticPresent (s : State) (n : Nat) : State :=
  if (s.tchCfg n).mode = 0 then s
  else
    let s1 := s.modTch n fun c => { c with lastTick := some s.ticks, present := true }
    if (s.tch n).present then s1 else (s1.ticMark n 7 0).ticRaise 7 n

/-- The edge as an interval measurement takes it. -/
def State.ivEdge (s : State) (n fine : Nat) : IvEdge :=
  let e := (s.tch n).eTic
  let eb := s.ebAccord + e.toNat
  { tick := s.ticks, time := s.ticTime n fine, adj := s.acd.adj, eb := eb, eTic := e, flags := s.ticFlags n eb }

/-- What becomes of a stamped edge: a record, an interval's edge, or a claiming block's (R189, R190, R193, R204). -/
def State.ticUse (s : State) (n : Nat) (falling : Bool) (fine : Nat) : State :=
  if (s.tch n).claim = 2 then s.pairStamp n (s.ticTime n fine + ps16 (s.tchCfg n).delayPs.toInt)
  else if (s.tch n).claim != 0 then s
  else
    match (s.tchCfg n).mode.toNat with
    | 1 =>
      let eb := s.ebAccord + (s.tch n).eTic.toNat
      s.ticPush n (taiRecord 0 (taiOfInt (s.ticTime n fine)) (s.ticEbWord n eb))
    | 2 => (s.ticPush n (s.rawRecord n fine)).modTch n fun c => { c with eventSeq := c.eventSeq + 1 }
    | 3 =>
      let e := s.ivEdge n fine
      let s1 := (s.ivAsStart n falling e).ivAsStop n falling e
      match s1.ivStopOf n with
      | some k => (s1.ivCheck n).ivCheck k
      | none => s1.ivCheck n
    | _ => s

/-- A swap in its overlap on this channel counts the edge and its paired difference (R201). -/
def State.swapCount (s : State) (n : Nat) (other : Int) : State :=
  (List.range 4).foldl (fun s i =>
    let p := s.tspare i
    if p.swapOn && p.chan.toNat == n then
      s.modSpare i fun p => { p with swapEdges := p.swapEdges + 1, swapSum := p.swapSum + other }
    else s) s

/-- The ADC code of the edge lay outside or inside the gain window; the 16th in a row outside fails the converter
(R201). -/
def State.ticCode (s : State) (n : Nat) (bad : Bool) : State :=
  let c := (s.tch n).conv.toNat
  let k := if bad then (s.tconv c).outCodes + 1 else 0
  let s1 := s.modConv c fun v => { v with outCodes := k }
  if k = 16 then s1.convFail c else s1

/-- An edge is stamped. -/
def State.ticStamp (s : State) (n : Nat) (falling : Bool) (fine : Nat) (bad : Bool) (other : Int) : State :=
  let s1 := s.modTch n fun c => { c with lastStamp := some (s.ticPos fine), events := c.events + 1 }
  (((s1.ticPresent n).ticUse n falling fine).swapCount n other).ticCode n bad

/-- TIC_EDGE (R183, R196): an edge at the channel's input, `fine` of 4,096 into this tick. `other` is the difference of the
incoming converter's stamp of the same edge, in 2^-16 ns. -/
def execTicEdge (dt : Nat) (ch : BitVec 5) (falling : Bool) (fine : BitVec 12) (badCode : Bool) (other : Int)
    (s : State) : Res :=
  let s := s.advance dt
  let n := ch.toNat
  .next (if !s.ticWants n falling then s
    else if !s.ticTakes n falling then s.ticGap n
    else if s.ticDead n fine.toNat then s.ticMiss n falling
    else s.ticStamp n falling fine.toNat badCode other)

/-! ### Timers -/

/-- No edge for PRESENCE_US on a present channel (R188). -/
def State.ticAbsent (s : State) (n : Nat) : Bool :=
  let c := s.tch n
  let g := s.tchCfg n
  s.ready pdTic && c.present && g.mode != 0 &&
    (match c.lastTick with
      | some t => decide (g.presenceUs.toNat * usTicks ≤ s.ticks - t)
      | none => true)

/-- TIC_PRESENCE_TIMEOUT (R188). -/
def execTicPresenceTimeout (dt : Nat) (ch : BitVec 5) (s : State) : Res :=
  let s := s.advance dt
  let n := ch.toNat
  .next (if s.ticAbsent n then ((s.modTch n fun c => { c with present := false }).ticMark n 6 0).ticRaise 6 n else s)

/-- The measurement that starts on channel `n` has reached its timeout tick (R195). -/
def State.ivLate (s : State) (n : Nat) : Bool :=
  match (s.tch n).arm with
  | some a => s.ready pdTic && !s.ivOpen a
  | none => false

/-- TIC_INTERVAL_TIMEOUT (R195). -/
def execTicIntervalTimeout (dt : Nat) (ch : BitVec 5) (s : State) : Res :=
  let s := s.advance dt
  .next (if s.ivLate ch.toNat then s.ivEnd ch.toNat 1 1 else s)

/-- A WRAP record enters the stream of a RAW channel (R191). -/
def State.wrapRecord (s : State) (n : Nat) : State :=
  if (s.tchCfg n).mode = 2 && decide ((s.tch n).queue.length + (s.lossMarks n).length < 4096) then
    s.ticEnqueue n (taiRecord 2 s.timeNow (s.ticEbWord n s.ebAccord))
  else s

/-- TIC_COARSE_WRAP (R191). -/
def execTicCoarseWrap (dt : Nat) (s : State) : Res :=
  let s := s.advance dt
  let raw := (List.range 32).any fun n => (s.tchCfg n).mode == 2
  .next (if s.ready pdTic && s.coarse = 0 && decide (s.tic.zeroTick < s.ticks) then
      let s1 := (List.range 32).foldl State.wrapRecord s
      if raw then s1.raise (src 5 13) else s1
    else s)

/-- TIC_WARMUP_END (R186): 500 ms after PD_TIC became ready the converter is to be calibrated. -/
def execTicWarmupEnd (dt : Nat) (c : BitVec 6) (s : State) : Res :=
  let s := s.advance dt
  let v := s.tconv c.toNat
  let due := s.ready pdTic && decide (c.toNat < 36) && decide (s.tic.readyTick + 500 * msTicks ≤ s.ticks) && !v.warm &&
    !v.failed && !v.warmWait
  .next (if due then
      let s1 := s.modConv c.toNat fun v => { v with warmWait := true }
      ({ s1 with tic := { s1.tic with recalDue := s1.tic.recalDue ||| bitAt 36 c.toNat } }).calNext
    else s)

/-- A run has lasted its 12 ms (R184). -/
def State.calEnds (s : State) (c : Nat) : Bool :=
  let v := s.tconv c
  s.ready pdTic && v.calRun && decide (v.calFrom + 12 * msTicks ≤ s.ticks)

/-- The check of a run (R184): the gain within 20 % of nominal, and every segment's count within 50 % of the mean. -/
def calPasses (gainDev segDev : BitVec 16) : Bool := decide (gainDev.toInt.natAbs ≤ 2000) && decide (segDev.toNat ≤ 500)

/-- TIC_CAL_DONE (R184): a run ends; what it measured comes with it, and decides whether it passes. -/
def execTicCalDone (dt : Nat) (c : BitVec 6) (calUnc ssRms gainDev segDev : BitVec 16)
    (points : List (BitVec 16)) (s : State) : Res :=
  let s := s.advance dt
  let n := c.toNat
  let r : CalRun := { calUnc := calUnc, ssRms := ssRms, gainDev := gainDev, segDev := segDev, points := points }
  .next (if s.calEnds n then
      let s1 := if calPasses gainDev segDev then (s.calPass n r).swapHome n else (s.convFail n).coverKeep n
      (s1.ticCalCount n).calNext
    else s)

/-- A converter's recalibration has become due (R202). -/
def State.recalWanted (s : State) (c : Nat) : Bool :=
  let v := s.tconv c
  let warmer := decide (s.cfg.tic.recalK.toNat * 10 ≤ (s.tempOf 1 - v.table.tCal.toInt).natAbs)
  let older := s.cfg.tic.recalS != 0 && (match v.calTick with
    | some t => decide (s.cfg.tic.recalS.toNat * sTicks ≤ s.ticks - t)
    | none => true)
  s.ready pdTic && s.cfg.tic.autoRecal && v.warm && !v.failed && !v.calRun && (warmer || older)

/-- TIC_RECAL_TRIGGER (R202). -/
def execTicRecalTrigger (dt : Nat) (c : BitVec 6) (s : State) : Res :=
  let s := s.advance dt
  let n := c.toNat
  .next (if s.recalWanted n then
      ({ s with tic := { s.tic with recalDue := s.tic.recalDue ||| bitAt 36 n } }).calNext
    else s)

/-- The overlap of a swap is over (R201). -/
def State.overlapOver (s : State) (i : Nat) : Bool :=
  let p := s.tspare i
  s.ready pdTic && p.swapOn &&
    (decide (s.cfg.tic.overlapEdges.toNat ≤ p.swapEdges) || decide (p.swapFrom + 2 * sTicks ≤ s.ticks) ||
      !(s.tch p.chan.toNat).present)

/-- The mean of the paired differences lies within the two bounds (R201); a channel with PRESENT clear is not checked. -/
def State.swapAgrees (s : State) (i : Nat) : Bool :=
  let p := s.tspare i
  let n := p.chan.toNat
  let lim := s.eTicOf n (s.tch n).conv.toNat + s.eTicOf n (s.swapIn i)
  !(s.tch n).present || decide (p.swapSum.natAbs * 100 ≤ lim * 65536 * p.swapEdges)

/-- TIC_SUBST_HANDOVER (R201). -/
def execTicSubstHandover (dt : Nat) (sp : BitVec 2) (s : State) : Res :=
  let s := s.advance dt
  let i := sp.toNat
  .next (if s.overlapOver i then (if s.swapAgrees i then s.swapOver i else s.swapAbandon i).calNext else s)

/-- TIC_ETIC_UPDATE (R185): every E_TIC is evaluated again; runs that waited for a spare start where they can. -/
def execTicEticUpdate (dt : Nat) (s : State) : Res :=
  let s := s.advance dt
  .next (if s.ready pdTic then
      let f : Nat → TicCh → TicCh := fun n c => { c with eTic := ebSat (s.eTicOf n c.conv.toNat) }
      ({ s with tic := { s.tic with ch := Tab.mapIdx s.tic.ch f } }).calNext
    else s)

end Sys2Proof.Machine
end

