-- ==== Sys2Proof/Machine/Tmg.lean ====
section
/-! DEFINITION. The TMG commands (R278) and the TMG block's events. -/

namespace Sys2Proof.Machine

/-! ### Queries -/

/-- A queue's window, +0x00 to +0x30. -/
def State.queueWindow (s : State) (q : Nat) : List W32 :=
  let x := s.tq q
  let c := s.tqCfg q
  [word [(0, c.shapeEn.toNat), (16, c.qlimitKb.toNat)], c.idleKbps.setWidth 32, c.maxCredit.setWidth 32,
    BitVec.ofInt 32 (x.credit / 65536), BitVec.ofNat 32 x.depth, BitVec.ofNat 32 x.frames.length, x.qDrop, x.wovr,
    word [(0, x.sValid.toNat), (16, x.sSeq.toNat)], x.sDepth.setWidth 32, x.sMaxDepth.setWidth 32, x.sSojNs, x.sDep]

/-- TMG_QUERY_QUEUE. -/
def specTmgQueryQueue : OpSpec where
  opcode := 0x0700
  states := stAll
  len := fun _ => some 1
  params := fun _ p => p.only [0x7F]
  body := fun p s => s.laneQuery (fld (p.w 0) 0 7 / 8) (s.queueWindow (fld (p.w 0) 0 7))

/-- The words of a list: ENTRIES, CYCLE_NS, SLOT_NS, BASE_TIME, then two words for each entry asked for. -/
def Gcl.words (g : Gcl) (first count : Nat) : List W32 :=
  [g.entries.setWidth 32, g.cycle.setWidth 32, g.slot.setWidth 32] ++ taiWords g.base ++
    ((g.ent.toList.drop first).take count).flatMap fun e => [e.gates.setWidth 32, e.ns]

/-- TMG_QUERY_GCL. -/
def specTmgQueryGcl : OpSpec where
  opcode := 0x0701
  states := stAll
  len := fun _ => some 1
  params := fun _ p =>
    let n := fld (p.w 0) 16 8
    p.only [0xFFFF1F] && decide (1 ≤ n) && decide (n ≤ 120) && decide (fld (p.w 0) 8 8 + n ≤ 256)
  body := fun p s =>
    let l := fld (p.w 0) 0 4
    let t := s.tlane l
    s.laneQuery l ((if flag (p.w 0) 4 then t.admin else t.oper).words (fld (p.w 0) 8 8) (fld (p.w 0) 16 8))

/-! ### Gate control lists -/

/-- The entries a TMG_SET_GCL carries, from word 6 on. -/
def gclEntry (p : Packet) (i : Nat) : GclEntry :=
  { gates := (p.w (6 + 2 * i)).setWidth 8, ns := p.w (7 + 2 * i) }

/-- The ADMIN list with a command's entries written (R266). -/
def TmgLane.adminPut (t : TmgLane) (p : Packet) (first count : Nat) : TmgLane :=
  let put : Nat → GclEntry → GclEntry := fun e x =>
    if first ≤ e && e < first + count then gclEntry p (e - first) else x
  let mask : BitVec 256 := (List.range count).foldl (fun m i => m ||| bitAt 256 (first + i)) 0
  { t with admin := { t.admin with ent := Tab.mapIdx t.admin.ent put }, written := t.written ||| mask
           adminReady := false }

/-- The list that LAST completes passes the checks of R266. -/
def TmgLane.listOk (t : TmgLane) (n cycle : Nat) : Bool :=
  n == 0 || (((List.range n).all fun e => has t.written e) &&
    ((t.admin.ent.toList.take n).map fun e => e.ns.toNat).sum == cycle)

/-- Every entry of a command is legal (R262). -/
def gclOk (p : Packet) (count : Nat) : Bool :=
  (List.range count).all fun i =>
    p.w (6 + 2 * i) &&& 0xFFFFFF00 == 0 && within (p.w (7 + 2 * i)) 100 999999999

/-- The fields LAST sets are in range, and zero without it; the empty list's cycle is not checked (R262, R266). -/
def gclLastOk (p : Packet) : Bool :=
  let empty := fld (p.w 0) 8 8 == 0 && fld (p.w 0) 16 8 == 0
  if flag (p.w 0) 24 then
    (empty || within (p.w 1) 1000 1000000000) && (empty || within (p.w 2) 200 1000000) && taiOk (p.tai 3)
  else p.w 1 == 0 && p.w 2 == 0 && p.tai 3 == 0

/-- LAST fixes the ADMIN list's head (R266). -/
def TmgLane.adminLast (t : TmgLane) (p : Packet) (n : Nat) : TmgLane :=
  { t with
    admin := { t.admin with
      entries := BitVec.ofNat 9 n, cycle := (p.w 1).setWidth 30, slot := (p.w 2).setWidth 20, base := p.tai 3 }
    written := 0, adminReady := true }

/-- The list that a command with LAST completes passes the checks of R266. -/
def gclListOk (p : Packet) (s : State) : Bool :=
  let first := fld (p.w 0) 8 8
  let n := fld (p.w 0) 16 8
  ((s.tlane (fld (p.w 0) 0 4)).adminPut p first n).listOk (first + n) (p.w 1).toNat

/-- TMG_SET_GCL. A list that LAST completes and that fails its checks gives BAD_PARAM, with no effect (R43, R266). -/
def specTmgSetGcl : OpSpec where
  opcode := 0x0740
  states := stIRM
  len := fun p => some (6 + 2 * fld (p.w 0) 16 8)
  params := fun s p =>
    let n := fld (p.w 0) 16 8
    (p.w 0 &&& 0xFE0000F0) == 0 && decide (n ≤ 120) && decide (fld (p.w 0) 8 8 + n ≤ 256) && gclOk p n && gclLastOk p &&
      (!flag (p.w 0) 24 || gclListOk p s)
  body := fun p s =>
    let w := p.w 0
    let l := fld w 0 4
    let t := s.tlane l
    if !s.laneUsable l then Done.err s .state
    else if t.swapPend then Done.err s .busy
    else
      let first := fld w 8 8
      let t1 := t.adminPut p first (fld w 16 8)
      let n := first + fld w 16 8
      if !flag w 24 then Done.ok (s.modTLane l fun _ => t1)
      else if t1.listOk n (p.w 1).toNat then
        Done.ok ((s.modTLane l fun _ => t1.adminLast p n).tmgRaise 2 l l)
      else Done.err s .badParam

/-- TMG_SWAP_GCL. -/
def specTmgSwapGcl : OpSpec where
  opcode := 0x0741
  states := stRM
  len := fun _ => some 4
  params := fun _ p => p.only [0xFFFF, 0xFFFFFFFF, 0xFFFFFFFF, 0xFFFFFFFF] && taiOk (p.tai 1)
  body := fun p s =>
    let ls := (List.range 16).filter fun l => flag (p.w 0) l
    if ls.any fun l => !s.laneUsable l then Done.err s .state
    else if taiNat (p.tai 1) < s.now16 + 10 * us16 then Done.err s .late
    else if ls.any fun l => !(s.tlane l).adminReady then Done.err s .state
    else if ls.any fun l => (s.tlane l).swapPend then Done.err s .busy
    else Done.ok (ls.foldl (fun s l => s.modTLane l fun t => { t with swapPend := true, swapAt := p.tai 1 }) s)

/-! ### Shapers, policers, sampling -/

/-- The byte limits of a lane's queues with queue `q` given `n` KiB (R260). -/
def State.limitTotal (s : State) (q n : Nat) : Nat :=
  ((List.range 8).map fun c => let i := q / 8 * 8 + c; if i = q then n else (s.tqCfg i).qlimitKb.toNat).sum

/-- TMG_SET_SHAPER. A class 7 queue takes its limit only (R270). -/
def specTmgSetShaper : OpSpec where
  opcode := 0x0742
  states := stIRM
  len := fun _ => some 4
  params := fun s p =>
    let q := fld (p.w 0) 0 7
    p.only [0x17F, 0x7FFFFFF, 0xFFFFFF, 0x3FF] && q % 8 != 7 && within (p.w 3) 4 512 &&
      decide ((p.w 1).toNat ≤ s.rateMbps (q / 8) * 1000) && decide (s.limitTotal q (p.w 3).toNat ≤ 512)
  csp := fun _ => true
  body := fun p s =>
    let q := fld (p.w 0) 0 7
    if !s.laneUsable (q / 8) then Done.err s .state
    else
      let c : QCfg := { shapeEn := flag (p.w 0) 8, qlimitKb := (p.w 3).setWidth 10, idleKbps := (p.w 1).setWidth 27,
                        maxCredit := (p.w 2).setWidth 24 }
      Done.ok (s.setTmgCfg fun t => { t with q := Tab.set t.q q c })

/-- TMG_SET_POLICER. -/
def specTmgSetPolicer : OpSpec where
  opcode := 0x0743
  states := stIRM
  len := fun _ => some 3
  params := fun _ p => p.only [0xFF, 0x7FFFFFF, 0xFFFFFF] && within (p.w 2) 64 16777215
  csp := fun _ => true
  body := fun p s =>
    let i := fld (p.w 0) 0 8
    let b := (p.w 2).toNat * 125000
    if !s.ready pdEngine then Done.err s .state
    else
      let a := s.setTmgCfg fun t => { t with p := Tab.mod t.p i fun c =>
        { c with rateKbps := (p.w 1).setWidth 27, burst := (p.w 2).setWidth 24 } }
      Done.ok (a.modPol i fun x => { x with tokens := min x.tokens b })

/-- TMG_SET_FILTER. -/
def specTmgSetFilter : OpSpec where
  opcode := 0x0744
  states := stIRM
  len := fun _ => some 3
  params := fun _ p => p.only [0x8007FFFF, 0xFFF, 0xFFFFFFFF] && decide (fld (p.w 0) 0 8 < 240)
  csp := fun _ => true
  body := fun p s =>
    let w := p.w 0
    if !s.ready pdEngine || !s.laneUsable (fld w 8 4) then Done.err s .state
    else Done.ok (s.setTmgCfg fun t => { t with p := Tab.mod t.p (fld w 0 8) fun c =>
      { c with lane := w.extractLsb' 8 4, use := w.extractLsb' 12 4, pcp := w.extractLsb' 16 3, enable := flag w 31
               vid := (p.w 1).setWidth 12, etherType := (p.w 2).extractLsb' 0 16
               udpPort := (p.w 2).extractLsb' 16 16 } })

/-- TMG_SET_SAMPLING. -/
def specTmgSetSampling : OpSpec where
  opcode := 0x0745
  states := stIRM
  len := fun _ => some 2
  params := fun _ p => p.only [1, 0xFFFF]
  csp := fun _ => true
  body := fun p s =>
    if !s.ready pdEngine then Done.err s .state
    else Done.ok (s.setTmgCfg fun t => { t with sampleEn := flag (p.w 0) 0, sojournUs := (p.w 1).setWidth 16 })

/-! ### Events -/

/-- The OPER list advances: the gates follow it (R263). -/
def execGateEntryChange (dt : Nat) (lane : BitVec 4) (s : State) : Res :=
  let s := s.advance dt
  .next (if s.laneReady lane.toNat then s.gateEval lane.toNat else s)

/-- SWAP_AT is reached: every lane whose swap is due swaps on this tick (R267). -/
def execGclSwap (dt : Nat) (lane : BitVec 4) (s : State) : Res :=
  let s := s.advance dt
  let t := s.tlane lane.toNat
  .next (if t.swapPend && decide (taiNat t.swapAt ≤ s.now16) && s.laneReady lane.toNat then s.swapsDue false else s)

/-- This tick is one of the 64 ns updates of shapers and policers, every 80 ticks (R270, R273). DESIGN CHOICE, log entry 80:
they fall on the ticks whose number is a multiple of 80. -/
def State.updateTick (s : State) : Bool := decide (s.ticks % 80 = 0)

/-- Every shaper is updated (R270). -/
def execShaperUpdate (dt : Nat) (s : State) : Res :=
  let s := s.advance dt
  .next (if !s.updateTick then s else (List.range 128).foldl (fun s q => if s.laneReady (q / 8) then s.shape q else s) s)

/-- Tokens accrue; those of admission policers only while the service gate is open (R273, R274). -/
def execPolicerAccrue (dt : Nat) (s : State) : Res :=
  let s := s.advance dt
  let go : Nat → Pol → Pol := fun i x => if i < 240 || s.svc.gateOpen then x.accrue (s.polCfg i) else x
  .next (if s.ready pdEngine && s.updateTick then { s with tmg := { s.tmg with p := Tab.mapIdx s.tmg.p go } } else s)

/-- The accord has reached a whole millisecond not sampled yet (R275). -/
def State.sampleDue (s : State) : Bool :=
  match s.tmg.lastMs with
  | none => true
  | some m => decide (m < s.msNow)

/-- Every queue is sampled (R275). -/
def execQueueSample (dt : Nat) (s : State) : Res :=
  let s := s.advance dt
  if s.cfg.tmg.sampleEn && s.ready pdEngine && s.sampleDue then
    let a := { s with tmg := { s.tmg with lastMs := some s.msNow } }
    .next ((List.range 128).foldl (fun s q => if s.laneReady (q / 8) then s.sampleQ q else s) a)
  else .next s

end Sys2Proof.Machine
end

