-- ==== Sys2Proof/Machine/Bus.lean ====
section
/-! DEFINITION. The access paths (R29 to R38): rings, mailboxes, semaphores, destructive and shadowed register reads,
register writes, PCIe events. -/

namespace Sys2Proof.Machine

open Host

/-! ### Who reaches the registers -/

/-- Bytes of BAR0 (R29). -/
def bar0 : Nat := 0x04000000

/-- The last address that M1 and M2 reach (R38). -/
def serialTop : Nat := 0x00FFFFFF

/-- The word that the register read of a row returned. -/
def State.answerRead (s : State) (w : W32) : State := { s with cmd := { s.cmd with readWord := w } }

/-- A read that a master may not make, or of a reserved address: 0xBAD0_00FF (R31, R38). -/
def badRead : W32 := 0xBAD000FF

/-- A read of a register whose domain `d` is not ready (R31). -/
def offRead (d : Nat) : W32 := BitVec.ofNat 32 (0xBAD00000 + d)

/-- The host's accesses arrive: the endpoint is ready and the link is up (R78). -/
def State.hostLinked (s : State) : Bool := s.ready pdPcie && s.sys.pcieLink

/-- The partner's accesses arrive through the Benit link (R54). -/
def State.partnerLinked (s : State) : Bool := s.ready pdPair && s.pair.linkUp

/-- An access of master `m` reaches the device: not in reset, and its path is up. -/
def State.reached (s : State) (m : BitVec 4) : Bool :=
  !s.sys.inReset && (m != 0 || s.hostLinked) && (m != 14 || s.partnerLinked)

/-- The address lies outside the master's range (R38). -/
def outOfRange (m : BitVec 4) (addr : W32) : Bool :=
  m == 14 || ((m == 1 || m == 2) && decide (serialTop < addr.toNat))

/-- The words of a run of bytes, most significant byte first; a final incomplete word is discarded (R36). -/
def beWords : List (BitVec 8) → List W32
  | a :: b :: c :: d :: t => (a ++ b ++ c ++ d) :: beWords t
  | _ => []

/-- A word address. -/
def aligned (addr : W32) : Bool := addr.toNat % 4 == 0

/-- Consecutive words from an address (R36). -/
def burst (addr : W32) (ws : List W32) : List (W32 × W32) :=
  ws.mapIdx fun i w => (addr + BitVec.ofNat 32 (4 * i), w)

/-- The address and data words of a serial transaction after its command byte or bus address: nothing where the address is
short or misaligned (R36, R37). -/
def serialWrite (bytes : List (BitVec 8)) : List (W32 × W32) :=
  match beWords bytes with
  | addr :: ws => if aligned addr then burst addr ws else []
  | [] => []

/-- The addresses of `n` words that a serial transaction reads. -/
def serialRead (bytes : List (BitVec 8)) (n : Nat) : List W32 :=
  match bytes.length, beWords bytes with
  | 4, [addr] => if aligned addr then (List.range n).map fun i => addr + BitVec.ofNat 32 (4 * i) else []
  | _, _ => []

/-- The I2C target's address (R37). -/
def State.i2cAddress (s : State) : BitVec 7 := 0x58 + s.fuse.i2cAddr.setWidth 7

/-- Addresses of a 32-bit or 64-bit access of the host; none where it is misaligned (R30). -/
def hostSpan (addr : W32) (wide : Bool) : List W32 :=
  if addr.toNat % (if wide then 8 else 4) != 0 then [] else if wide then [addr, addr + 4] else [addr]

/-- The master of a write, and the registers it writes in order (R30, R36, R37). -/
def State.writes (s : State) : BusWrite → BitVec 4 × List (W32 × W32)
  | .bar0 addr wide v => (0, (hostSpan addr wide).zip [v.setWidth 32, v.extractLsb' 32 32])
  | .bar2 _ _ _ => (0, [])
  | .msixControl _ _ => (0, [])
  | .spi (0x02 :: bytes) => (1, serialWrite bytes)
  | .spi _ => (1, [])
  | .i2c target bytes => (2, if target = s.i2cAddress then serialWrite bytes else [])
  | .inside m addr v => (m, if aligned addr then [(addr, v)] else [])
  | .benit _ => (14, [])

/-- The master of a read, and the registers it reads in order (R30, R36, R37). -/
def State.reads (s : State) : BusRead → BitVec 4 × List W32
  | .bar0 addr wide => (0, hostSpan addr wide)
  | .bar2 _ _ => (0, [])
  | .spi (0x0B :: bytes) n => (1, serialRead bytes n)
  | .spi _ _ => (1, [])
  | .i2c target bytes n => (2, if target = s.i2cAddress then serialRead bytes n else [])
  | .inside m addr => (m, if aligned addr then [addr] else [])

/-- An access of master `m` to these registers reaches past BAR0: the address does not exist (R29). -/
def offMap (m : BitVec 4) (addrs : List W32) : Bool :=
  addrs.any fun (a : W32) => !outOfRange m a && decide (bar0 ≤ a.toNat)

/-- An access of master `m` to registers: past BAR0 it stops, without a path to the device it has no effect, else `f` is
what it does. -/
def State.access (s : State) (m : BitVec 4) (addrs : List W32) (f : State → State) : Res :=
  if !s.reached m then .next s else if offMap m addrs then .fault .outsideMap else .next (f s)

/-! ### The MSI-X table (R35, R61) -/

/-- A word of the MSI-X table is written: entry `v`, word `i` of its four. -/
def Msix.put (e : Msix) (i : Nat) (w : W32) : Msix :=
  match i with
  | 0 => { e with addr := e.addr.extractLsb' 32 32 ++ w }
  | 1 => { e with addr := w ++ e.addr.extractLsb' 0 32 }
  | 2 => { e with data := w }
  | _ => { e with masked := w.getLsbD 0 }

/-- A word of the MSI-X table. -/
def Msix.get (e : Msix) (i : Nat) : W32 :=
  match i with
  | 0 => e.addr.extractLsb' 0 32
  | 1 => e.addr.extractLsb' 32 32
  | 2 => e.data
  | _ => word [(0, e.masked.toNat)]

/-- A word of BAR2 is written: the table at 0x0000; the pending bits at 0x8000 and the rest take no write (R35). Pending
messages of a vector that is unmasked are sent (R61). -/
def Cmd.bar2Put (c : Cmd) (a : Nat) (w : W32) : Cmd :=
  if a < 0x400 then { c with msix := Tab.mod c.msix (a / 16) fun e => e.put (a % 16 / 4) w }.msiFlush else c

/-- A word of BAR2 as the host reads it: what holds nothing reads 0. -/
def Cmd.bar2Get (c : Cmd) (a : Nat) : W32 :=
  if a < 0x400 then (Tab.get c.msix (a / 16) Msix.reset).get (a % 16 / 4)
  else if a = 0x8000 then c.pba.extractLsb' 0 32
  else if a = 0x8004 then c.pba.extractLsb' 32 32
  else 0

/-- Offsets of a 32-bit or 64-bit access of BAR2. -/
def bar2Span (offset : BitVec 16) (wide : Bool) : List Nat :=
  if offset.toNat % (if wide then 8 else 4) ≠ 0 then []
  else if wide then [offset.toNat, offset.toNat + 4] else [offset.toNat]

/-- Entry number of `a` in a run of `n` registers that begins at `base`, `stride` bytes apart. -/
def span (a base stride n : Nat) : Option Nat :=
  if base ≤ a && (a - base) % stride == 0 && decide ((a - base) / stride < n) then some ((a - base) / stride) else none

/-! ### Ring pointers (R51, R52) -/

/-- A pointer write that R52 refuses. -/
def State.ringRefuse (s : State) (n : Nat) : State :=
  ((s.modRing n fun r => { r with ptrErr := true }).refuseWrite).irq (src 15 0)

/-- A write of PROD of a host-to-device ring: refused where it would pass SIZE or go backwards (R52). -/
def State.prodWrite (s : State) (n : Nat) (v : BitVec 32) : State :=
  let r := s.ring n
  let d := (v - r.cons).toNat
  if r.used ≤ d && decide (d ≤ r.size) then s.modRing n fun r => { r with prod := v } else s.ringRefuse n

/-- A write of CONS of a device-to-host ring (R52). A reply ring that has room again lets its command ring fetch. -/
def State.consWrite (s : State) (n : Nat) (v : BitVec 32) : State :=
  let r := s.ring n
  let d := (v - r.cons).toNat
  if d ≤ r.used then
    let s1 := (s.modRing n fun r => { r with cons := v }).acqResume
    if (n == 2 || n == 3) && s1.ringRoom n then
      { s1 with cmd := { s1.cmd with stall := s1.cmd.stall &&& ~~~(bitAt 2 (n - 2)) } }
    else s1
  else s.ringRefuse n

/-- A write of one of a ring's pointers: only M0's, and only of the pointer that the host owns (R38, R51). -/
def State.pointerWrite (s : State) (m : BitVec 4) (n : Nat) (prod : Bool) (v : BitVec 32) : State :=
  if !s.reached m then s
  else if m != 0 || hostToDevice n != prod then s.refuseWrite
  else if prod then s.prodWrite n v else s.consWrite n v

/-- RING_PROD_WRITE (R51, R52). -/
def execRingProdWrite (dt : Nat) (m : BitVec 4) (ring : BitVec 6) (value : W32) (s : State) : Res :=
  .next ((s.advance dt).pointerWrite m ring.toNat true value)

/-- RING_CONS_WRITE (R51, R52). -/
def execRingConsWrite (dt : Nat) (m : BitVec 4) (ring : BitVec 6) (value : W32) (s : State) : Res :=
  .next ((s.advance dt).pointerWrite m ring.toNat false value)

/-! ### Slots written by the device (R33, R51, R61) -/

/-- The next held entry that ring 4 carries (R323). -/
def State.exportNext (s : State) : Option LogEntry :=
  s.log.held.find? fun e => decide (s.log.lastExported < e.seq) || (e.seq == 0 && !s.log.genesisOut)

/-- Ring 4 takes the next held entry (R323). -/
def State.exportSlot (s : State) : State :=
  match s.exportNext with
  | none => s
  | some e =>
    { s with log := { s.log with
      lastExported := e.seq, genesisOut := s.log.genesisOut || e.seq == 0 } }.ringPush 4 e.words

/-- Ring 5 takes the next entry of a replay; an acknowledged entry is released once the replay has written it (R323,
R324, R327). -/
def State.replaySlot (s : State) : State :=
  match s.log.replay with
  | [] => s
  | e :: t =>
    let a := { s with log := { s.log with replay := t } }.ringPush 5 e.words
    let b := a.release a.log.ackReq
    if t.isEmpty then b.irq (src 13 10) else b

/-- Ring 6 takes the next manifest slot (R324). -/
def State.manifestSlot (s : State) : State :=
  match s.log.manifest with
  | [] => s
  | r :: t => { s with log := { s.log with manifest := t } }.ringPush 6 r

/-- Ring 7 takes the next copy (R323). -/
def State.mirrorSlot (s : State) : State :=
  match s.log.mirror with
  | [] => s
  | e :: t => { s with log := { s.log with mirror := t } }.ringPush 7 e.words

/-- The channels of stream ring `k` in the order in which they are served next (R197). -/
def State.streamOrder (s : State) (k : Nat) : List Nat :=
  let t := (Tab.get s.tic.turn k 0).toNat
  (List.range 4).map fun i => 4 * k + (t + i) % 4

/-- Stream ring 24 + k takes the next record of the first channel in turn that streams and has one (R197). -/
def State.streamSlot (s : State) (k : Nat) : State :=
  match (s.streamOrder k).find? fun n => (s.tch n).stream && !(s.tch n).queue.isEmpty with
  | none => s
  | some n =>
    match (s.tch n).queue with
    | [] => s
    | r :: t =>
      let a := s.modTch n fun c => { c with queue := t }
      { a with tic := { a.tic with turn := Tab.set a.tic.turn k (BitVec.ofNat 2 (n + 1)) } }.ringPush (24 + k) r

/-- Ring 32 takes the oldest latched epoch; its header carries the epochs lost since the previous one (R167). -/
def State.latchOut (s : State) : State :=
  match s.gns.latchQ with
  | [] => s
  | r :: t =>
    let w := r.getD 4 0 ||| (s.gns.latchLostSince.setWidth 32 <<< 24)
    { s with gns := { s.gns with latchQ := t, latchLostSince := 0 } }.ringPush 32 (r.set 4 w)

/-- Ring 33 takes the next acquisition record; the search ends with the last (R157). -/
def State.acqOut (s : State) : State :=
  match s.gns.acqQ with
  | [] => s
  | r :: t =>
    let a := { s with gns := { s.gns with acqQ := t } }.ringPush 33 r
    match t, s.gns.acq with
    | [], some q => a.acqEnd true q.detected
    | _, _ => a

/-- The snapshot buffer, header first (R177), with these bytes of samples. -/
def Gns.snapWords (g : Gns) (data : List (BitVec 8)) : List W32 :=
  (g.snapHeader ++ List.replicate (16 - g.snapHeader.length) 0) ++ packWords data

/-- Ring 34 takes the next 4,096 bytes of the snapshot buffer (R177). -/
def State.snapOut (s : State) : State :=
  let g := s.gns
  if g.snapExport = 0 then s
  else
    let i := ceilDiv (64 + g.snapBytes) 4096 - g.snapExport
    let ws := ((g.snapWords (g.snapData.take g.snapBytes)).drop (1024 * i)).take 1024
    { s with gns := { g with snapExport := g.snapExport - 1 } }.ringPush 34 (ws ++ List.replicate (1024 - ws.length) 0)

/-- Ring 35 takes the next navigation word (R163). -/
def State.navOut (s : State) : State :=
  match s.gns.navQ with
  | [] => s
  | r :: t => { s with gns := { s.gns with navQ := t } }.ringPush 35 r

/-- The waiting record of ring `n` goes into its slot. Replies go by REPLY_DELIVERY, received frames at FRAME_RECEIVE. -/
def State.slotOut (s : State) (n : Nat) : State :=
  if n = 4 then s.exportSlot
  else if n = 5 then s.replaySlot
  else if n = 6 then s.manifestSlot
  else if n = 7 then s.mirrorSlot
  else if 8 ≤ n && n ≤ 23 then s.stageSend (n - 8)
  else if 24 ≤ n && n ≤ 31 then s.streamSlot (n - 24)
  else if n = 32 then s.latchOut
  else if n = 33 then s.acqOut
  else if n = 34 then s.snapOut
  else if n = 35 then s.navOut
  else s

/-- RING_SLOT_WRITE (R33, R61): nothing is written while the ring has no room. -/
def execRingSlotWrite (dt : Nat) (ring : BitVec 6) (s : State) : Res :=
  let s := s.advance dt
  .next (if s.ringRoom ring.toNat then s.slotOut ring.toNat else s)

/-- MSI_MODERATION_TIMER (R61): HOLD_US expires with slots that no message has told of. -/
def execMsiModerationTimer (dt : Nat) (ring : BitVec 6) (s : State) : Res :=
  let s := s.advance dt
  let n := ring.toNat
  .next (if (s.ring n).modPending = 0 then s
    else
      let a := s.modRing n fun r => { r with modPending := 0 }
      { a with cmd := a.cmd.msi (32 + n / 2) })

/-- The stall time of a ring, where its owner states one (R167, R197, R252, R323). -/
def stallTime (n : Nat) : Option Nat :=
  if 4 ≤ n ∧ n ≤ 7 then some (10 * msTicks)
  else if 8 ≤ n ∧ n ≤ 23 then some (100 * usTicks)
  else if 24 ≤ n ∧ n ≤ 31 then some (10 * msTicks)
  else if 32 ≤ n ∧ n ≤ 35 then some (100 * msTicks)
  else none

/-- The ring has been full for its stall time, and this has not been told yet. -/
def State.stalled (s : State) (n : Nat) : Bool :=
  let r := s.ring n
  match stallTime n with
  | none => false
  | some t => s.ready pdPcie && r.enable && decide (r.size ≤ r.used) && !r.stallTold && decide (r.fullFrom + t ≤ s.ticks)

/-- RING_STALL_TIMEOUT (R65). -/
def execRingStallTimeout (dt : Nat) (ring : BitVec 6) (s : State) : Res :=
  let s := s.advance dt
  .next (if s.stalled ring.toNat then (s.modRing ring.toNat fun r => { r with stallTold := true }).irq (src 15 6) else s)

/-- DMA_TRANSFER_ERROR (R65): INT_DMA_FETCH_ERR or INT_DMA_WRITE_ERR with BUS_ERR, or INT_DMA_ECC alone. -/
def execDmaTransferError (dt : Nat) (ring : BitVec 6) (what : DmaError) (s : State) : Res :=
  let s := s.advance dt
  let n := ring.toNat
  let bad := s.modRing n fun r => { r with busErr := true }
  .next (if s.ready pdPcie && (s.ring n).enable then
      match what with
      | .fetch => bad.irq (src 15 1)
      | .write => bad.irq (src 15 2)
      | .corrected => s.irq (src 15 3)
    else s)

/-! ### PCIe (R30, R35, R68, R78) -/

/-- PCIE_UNSUPPORTED_ACCESS (R30): no effect. -/
def execPcieUnsupportedAccess (dt : Nat) (_write : Bool) (_addr : W32) (_size : Nat) (s : State) : Res :=
  .next (s.advance dt)

/-- A function-level reset (R35). -/
def State.flr (s : State) : State := s.ringsDown.raise (src 15 5)

/-- PCIE_FLR (R35). -/
def execPcieFlr (dt : Nat) (s : State) : Res :=
  let s := s.advance dt
  .next (if s.hostLinked then s.flr else s)

/-- PCIE_LINK_LOSS (R35). -/
def execPcieLinkLoss (dt : Nat) (s : State) : Res :=
  let s := s.advance dt
  .next (if s.hostLinked then s.linkLost else s)

/-- PERST_N_ASSERT (R35, R68): a function-level reset with link loss; its release changes nothing. -/
def execPerstNAssert (dt : Nat) (low : Bool) (s : State) : Res :=
  let s := s.advance dt
  .next (if low && s.ready pdPcie then s.flr.linkLost else s)

/-- PCIE_LINK_UP (R78); in SLEEP the link stays down (R90). -/
def execPcieLinkUp (dt : Nat) (s : State) : Res :=
  let s := s.advance dt
  .next (if s.ready pdPcie && s.sys.devState != .sleep then { s with sys := { s.sys with pcieLink := true } } else s)

/-! ### Mailboxes (R54, R55) -/

/-- The domain of a mailbox's receiver inside the device (R28, R55). -/
def receiverDomain (m : BitVec 4) : Option Nat :=
  if 4 ≤ m.toNat ∧ m.toNat ≤ 11 then some pdEngine
  else if m.toNat = 12 ∨ m.toNat = 13 then some pdCrypto
  else none

/-- GO: FULL sets, SEQ increments and the receiver gets its wake event; a receiver's domain that is off is powered up, and
the message is delivered once it is ready (R55). -/
def State.mbxGo (s : State) (n : Nat) : State :=
  let r := (s.mbx n).receiver
  let off := match receiverDomain r with
    | some d => !s.ready d
    | none => false
  let s1 := (s.modMbx n fun m => { m with full := true, seq := m.seq + 1, awaiting := off }).irq (src 0 (16 + n))
  match receiverDomain r with
  | some d => if off then s1.powerUp (upClosure (bitAt 13 d)) else s1
  | none => s1

/-- A write of MBX_n_CTRL.GO (R55). -/
def State.mbxSend (s : State) (m : BitVec 4) (n : Nat) : State :=
  let b := s.mbx n
  if m != b.sender then s.refuseWrite
  else if b.full then s.modMbx n fun x => { x with refused := x.refused + 1 }
  else s.mbxGo n

/-- MBX_SEND (R55). -/
def execMbxSend (dt : Nat) (m : BitVec 4) (n : BitVec 3) (s : State) : Res :=
  let s := s.advance dt
  .next (if s.reached m then s.mbxSend m n.toNat else s)

/-- MBX_DELIVER (R55): the receiver's domain reports ready. -/
def execMbxDeliver (dt : Nat) (n : BitVec 3) (s : State) : Res :=
  let s := s.advance dt
  let b := s.mbx n.toNat
  let up := match receiverDomain b.receiver with
    | some d => s.ready d
    | none => true
  .next (if b.awaiting && up then s.modMbx n.toNat fun x => { x with awaiting := false } else s)

/-- MBX_n_TAKE as a read that takes nothing returns it (R55). -/
def Mbx.emptyWord (b : Mbx) : W32 := word [(0, 1), (16, b.takenSeq.toNat)]

/-- A read of MBX_n_TAKE (R55). -/
def State.mbxTake (s : State) (m : BitVec 4) (n : Nat) : State :=
  let b := s.mbx n
  if m != b.receiver then (s.refuseWrite).answerRead b.emptyWord
  else if !b.full then s.answerRead b.emptyWord
  else if b.awaiting then s
  else
    ((s.modMbx n fun x => { x with full := false, takenSeq := x.seq }).irq (src 0 (24 + n))).answerRead
      (word [(16, b.seq.toNat)])

/-- MBX_TAKE (R55). -/
def execMbxTake (dt : Nat) (m : BitVec 4) (n : BitVec 3) (s : State) : Res :=
  let s := s.advance dt
  .next (if s.reached m then s.mbxTake m n.toNat else s)

/-! ### Replies (R40, R47, R51, R54) -/

/-- The reply's words. -/
def Reply.words (r : Reply) : List W32 :=
  [word [(0, r.status.toNat), (16, r.len.toNat)],
    word [(0, r.tag.toNat), (16, r.kind.toNat), (20, r.origin.toNat), (24, r.source.toNat)]] ++ taiWords r.time ++
    [ebWord r.eb r.flags, word [(0, r.opcode.toNat)], r.logSeq] ++ r.payload

/-- The mailbox that carries a reply: MBX3 to MBX5 for commands of MBX0 to MBX2 (R54). -/
def Reply.box (r : Reply) : Option Nat :=
  if 0x10 ≤ r.source.toNat ∧ r.source.toNat ≤ 0x12 then some (r.source.toNat - 0x10 + 3) else none

/-- The reply can be delivered now: its ring has room, its mailbox is free, or the Benit link is up. -/
def State.replyRoom (s : State) (r : Reply) : Bool :=
  if r.source.toNat < 2 then s.ringRoom (r.source.toNat + 2)
  else match r.box with
    | some n => !(s.mbx n).full
    | none => s.partnerLinked

/-- The reply is written where it goes. -/
def State.replyPut (s : State) (r : Reply) : State :=
  if r.source.toNat < 2 then s.ringPush (r.source.toNat + 2) r.words
  else match r.box with
    | some n =>
      let ws := (r.words ++ List.replicate 16 0).take 16
      (s.modMbx n fun b => { b with data := Tab.mapIdx b.data fun i _ => ws.getD i 0 }).mbxGo n
    | none => s

/-- The oldest reply that can be delivered is; an entry of the scheduled queue that it held is free again (R47). -/
def State.replyNext (s : State) : State :=
  match s.cmd.replies.find? s.replyRoom with
  | none => s
  | some r => { s with cmd := { s.cmd with replies := s.cmd.replies.erase r } }.replyPut r

/-- REPLY_DELIVERY (R47, R51, R54). -/
def execReplyDelivery (dt : Nat) (s : State) : Res :=
  let s := s.advance dt
  .next (if s.sys.inReset then s else s.replyNext)

/-! ### Semaphores (R56) -/

/-- The holder as it stood at the start of the cycle. -/
def State.semView (s : State) (i : Nat) : Option (BitVec 4) :=
  Tab.get (if s.cmd.semTick = s.ticks then s.cmd.semWas else s.cmd.sems) i none

/-- A semaphore is free, or held by `m`. -/
def freeFor (h : Option (BitVec 4)) (m : BitVec 4) : Bool :=
  match h with
  | none => true
  | some x => x == m

/-- The commands waiting that happen at the present tick: those before the first that lets ticks pass. -/
def State.sameTick (s : State) : List Instr := s.pending.takeWhile fun c => c.dt == 0

/-- A waiting read of semaphore `i`: its master. -/
def semReader (i : Nat) : Instr → Option (BitVec 4)
  | .semRead _ m sem => if sem.toNat = i then some m else none
  | _ => none

/-- The lowest of some masters. -/
def lowest (ms : List (BitVec 4)) : Option (BitVec 4) :=
  ms.foldl (fun (a : Option (BitVec 4)) m => match a with
    | some x => some (if m < x then m else x)
    | none => some m) none

/-- The master with a lower ID than `m` that reads semaphore `i` in the same cycle, the lowest where there are several
(R13, R56). -/
def State.semRival (s : State) (m : BitVec 4) (i : Nat) : Option (BitVec 4) :=
  lowest (((s.sameTick.filterMap (semReader i)).filter fun x => decide (x < m) && s.reached x && x != 14))

/-- What a read by `m` finds: granted or not, and the holder reported. Of two masters that read a free semaphore in the same
cycle the lower ID wins (R56). -/
def State.semFind (s : State) (m : BitVec 4) (i : Nat) : Bool × BitVec 4 :=
  let now := Tab.get s.cmd.sems i none
  let was := s.semView i
  if freeFor was m && freeFor now m then
    match was, s.semRival m i with
    | none, some r => (false, r)
    | _, _ => (true, m)
  else if freeFor was m then (false, now.getD 0)
  else (false, was.getD 0)

/-- The SEMAPHORE entry of a read (R316). -/
def State.semLogged (s : State) (m : BitVec 4) (i : Nat) (r : Bool × BitVec 4) : State :=
  if has s.cmd.semLog i then
    s.logPut (entryOf 0x06 m.toNat 0 s.stamp [word [(0, i), (8, r.1.toNat), (12, r.2.toNat)]])
  else s

/-- A read of MBX_SEM_i (R56). -/
def State.semRead (s : State) (m : BitVec 4) (i : Nat) : State :=
  let r := s.semFind m i
  let a := if r.1 then s.semPut i (some m) else s
  (a.semLogged m i r).answerRead (word [(0, r.2.toNat), (4, r.1.toNat), (5, (!r.1).toNat)])

/-- A read that a master without rights makes (R38). -/
def State.readDenied (s : State) : State := (s.refuseWrite).answerRead badRead

/-- SEM_READ (R56). -/
def execSemRead (dt : Nat) (m : BitVec 4) (sem : BitVec 5) (s : State) : Res :=
  let s := s.advance dt
  .next (if !s.reached m then s else if m == 14 then s.readDenied else s.semRead m sem.toNat)

/-- A write of MBX_SEM_i: the holder's releases it, any other is refused (R56). -/
def State.semRelease (s : State) (m : BitVec 4) (i : Nat) : State :=
  if Tab.get s.cmd.sems i none = some m then s.semPut i none else s.refuseWrite

/-- SEM_RELEASE (R56). -/
def execSemRelease (dt : Nat) (m : BitVec 4) (sem : BitVec 5) (s : State) : Res :=
  let s := s.advance dt
  .next (if s.reached m then s.semRelease m sem.toNat else s)

end Sys2Proof.Machine
end

