-- ==== Sys2Proof/Machine/RegMap.lean ====
section
/-! DEFINITION. The registers that a read without an effect returns: the register tables of every chapter, by offset. A
register whose read has an effect (a *_POP queue, an RC counter, a semaphore, MBX_n_TAKE) or that latches a record stands in
BusRegs. -/

namespace Sys2Proof.Machine

/-- The word at `off` of one of `n` windows that begin at `base`, `stride` bytes apart. -/
def windowAt (off base stride n : Nat) (f : Nat → List (Nat × W32)) : Option W32 :=
  if base ≤ off ∧ off < base + n * stride then (f ((off - base) / stride)).lookup ((off - base) % stride) else none

/-- A register of domain `d`. -/
def inDom (d : Nat) (r : Option W32) : Option (Nat × W32) := r.map fun w => (d, w)

/-! ### SYS, MBX, CMD and DMA (03, 02) -/

/-- Registers of the SYS block. -/
def State.sysRegs (s : State) : List (Nat × W32) :=
  let y := s.sys
  [(0x00, s.fuse.chipId), (0x04, word [(0, s.fuse.gnssEn.toNat), (1, s.fuse.tempInd.toNat), (8, s.fuse.siRev.toNat)]),
    (0x10, s.sysStateWord), (0x14, s.bootStatusWord), (0x18, s.domStatusWord), (0x1C, s.cfg.sys.bootOn.setWidth 32),
    (0x20, word [(0, s.cfg.sys.autoRun.toNat)]), (0x24, s.fwStatusWord),
    (0x28, word [(0, y.stageValid.toNat), (1, y.stageResult.toNat), (16, y.stageSeq.toNat)])]

/-- MBX_n_DATA0 to MBX_n_CTRL. -/
def State.mbxRegs (s : State) (n : Nat) : List (Nat × W32) :=
  let b := s.mbx n
  atWords 0 b.data.toList ++
    [(0x40, word [(1, b.full.toNat), (8, b.sender.toNat), (12, b.receiver.toNat), (16, b.seq.toNat)])]

/-- Registers of the MBX block. -/
def State.mbxAt (s : State) (off : Nat) : Option W32 :=
  if off = 0x1100 then some s.cmd.semLog else windowAt off 0 0x80 8 s.mbxRegs

/-- Groups with a bit that is set in one copy and clear in its mask. -/
def Cmd.anyIn (c : Cmd) (f : IntGroup → BitVec 32) : Nat :=
  word ((List.range 16).map fun g => (g, (f (Tab.get c.groups g IntGroup.reset) != 0).toNat)) |>.toNat

/-- Registers of an interrupt group. Every source is an event, so the level that RAW shows is that of the present tick
(DEDUCED, log entry 90). -/
def State.intRegs (s : State) (g : Nat) : List (Nat × W32) :=
  let q := Tab.get s.cmd.groups g IntGroup.reset
  [(0x00, Tab.get (s.cmd.raisedAt s.ticks) g 0), (0x04, q.status), (0x08, q.maskMsi), (0x0C, q.pinStatus),
    (0x10, q.maskPin), (0x14, word [(0, q.vecLo.toNat), (8, q.vecHi.toNat)])]

/-- CMD_STATUS: the command processor fetches from INIT on. -/
def State.cmdStatus (s : State) : W32 :=
  let ready := !s.sys.inReset && s.sys.devState != .boot
  word [(0, ready.toNat), (1, s.cmd.stall.toNat), (16, s.cmd.schedUsed)]

/-- CMD_SCHED_STATUS. -/
def State.schedStatus (s : State) : W32 :=
  let due := s.cmd.sched.any fun e => decide (e.at16 ≤ s.now16)
  word [(0, due.toNat), (1, (s.cmd.replies.filter (·.frees)).length)]

/-- Registers of the CMD block. -/
def State.cmdAt (s : State) (off : Nat) : Option W32 :=
  if off = 0 then some s.cmdStatus
  else if off = 4 then some s.schedStatus
  else if off = 0x8200 then
    some (word [(0, s.cmd.anyIn fun q => q.status &&& ~~~q.maskMsi), (16, s.cmd.anyIn fun q => q.pinStatus &&& ~~~q.maskPin)])
  else windowAt off 0x8000 0x20 16 s.intRegs

/-- Registers of a ring. -/
def State.ringRegs (s : State) (n : Nat) : List (Nat × W32) :=
  let r := s.ring n
  [(0x00, r.baseLo), (0x04, r.baseHi),
    (0x08, word [(0, r.sizeLog2.toNat), (4, r.enable.toNat), (5, (!hostToDevice n).toNat), (16, slotBytes n)]),
    (0x0C, r.prod), (0x10, r.cons),
    (0x14, word [(0, (decide (r.used = r.size)).toNat), (1, r.ptrErr.toNat), (2, r.busErr.toNat)]),
    (0x18, word [(0, r.holdUs.toNat), (16, r.modCount.toNat)])]

/-! ### REF, ACD and OUT (04, 05, 08) -/

/-- REF_SWITCH_LAST. -/
def Ref.switchRegs (r : Ref) : List (Nat × W32) :=
  [(0x10, word [(0, r.swValid.toNat), (1, r.swDone.toNat), (2, r.swFrom.toNat), (7, r.swTo.toNat), (12, r.swStepped.toNat),
    (13, r.swSetAside.toNat), (16, r.swSeq.toNat)])] ++ at64 0x14 r.swStep ++ at96 0x1C r.swStart ++ [(0x28, r.swDurUs)]

/-- REF_STATUS. -/
def State.refStatus (s : State) : W32 :=
  let r := s.ref
  word [(0, r.selected.toNat), (5, r.switching.toNat), (6, r.manual.toNat), (8, s.cfg.ref.revertive.toNat),
    (9, r.allLost.toNat), (10, r.standbyBetter.toNat), (16, r.best.toNat)]

/-- Registers of the REF block. -/
def State.refAt (s : State) (off : Nat) : Option W32 :=
  if off < 0x1000 then ([(0x00, s.refStatus), (0x40, s.ref.majNone.setWidth 32)] ++ s.ref.switchRegs).lookup off
  else windowAt off 0x1000 0x100 20 s.refRegs

/-- ACD registers of configuration, offsets 0x100 to 0x408. -/
def State.acdCfgRegs (s : State) : List (Nat × W32) :=
  let c := s.cfg.acd
  let pset : Nat → List (Nat × W32) := fun p =>
    let x := Tab.get c.psets p PSet.reset
    atWords (0x140 + 0x20 * p) [x.bwMhz, x.dampM.setWidth 32, x.servoFloor.setWidth 32, x.lockS ++ x.lockNs]
  let osc : Nat → List (Nat × W32) := fun k =>
    let x := Tab.get c.osc k OscModel.reset
    atWords (0x200 + 0x20 * k) [x.y0, x.y0Free, x.age, x.tempco, x.tempSrc.setWidth 32]
  [(0x100, word [(0, c.modeStep.toNat), (1, c.stepAllow.toNat), (2, c.acqSlew.toNat)]), (0x104, c.slewLimitNs.setWidth 32),
    (0x108, c.stepMinNs), (0x110, c.holdAvgS.setWidth 32), (0x114, c.holdSpecNs.setWidth 32),
    (0x118, word [(0, c.category.toNat), (4, c.primaryQmax.toNat)]),
    (0x120, word [(0, c.owner.toNat), (16, c.servoTimeoutMs.toNat)])] ++
    (List.range 4).flatMap pset ++ (List.range 5).flatMap osc ++
    [(0x2C0, word [(0, c.ocxoClass.toNat), (4, c.atomClass.toNat)]), (0x300, word [(0, c.cpllAtom.toNat)]),
      (0x304, c.ocxoHz.setWidth 32), (0x308, c.atomHz.setWidth 32),
      (0x310, word [(0, c.macerationS.toNat), (16, c.macEarly.toNat)]), (0x314, c.macStabMppt), (0x400, s.acdUtc)] ++
    at64 0x404 (c.leapAt.setWidth 64)

/-- Registers of the ACD block. -/
def State.acdAt (s : State) (off : Nat) : Option W32 :=
  if off < 0x100 then s.acdRegs.lookup off else s.acdCfgRegs.lookup off

/-- Registers of synthesizer `k`. -/
def State.synRegs (s : State) (k : Nat) : List (Nat × W32) :=
  let c := s.synCfg k
  [(0x00, word [(0, c.on.toNat), (1, (s.syn k).lock.toNat)]), (0x04, c.vcoKhz.setWidth 32)] ++
    at64 0x08 (s.synMult k)

/-- OUT_STATUS, OUT_OWN and OUT_INT_SRC. -/
def State.outTop (s : State) : List (Nat × W32) :=
  let lock : List (Nat × Nat) := (List.range 4).map fun k => (k, (s.syn k).lock.toNat)
  let on : List (Nat × Nat) := (List.range 4).map fun k => (4 + k, (s.synCfg k).on.toNat)
  [(0x00, word (lock ++ on)), (0x04, if s.own then 0x3FFFFF else 0), (0x08, s.out.intSrc.setWidth 32)]

/-- Registers of the OUT block. -/
def State.outAt (s : State) (off : Nat) : Option W32 :=
  if off < 0x40 then s.outTop.lookup off
  else if off < 0x80 then windowAt off 0x40 0x10 4 s.synRegs
  else if off < 0x3000 then windowAt off 0x1000 0x100 16 s.outRegs
  else if off < 0x3400 then windowAt off 0x3000 0x80 4 s.tpRegs
  else windowAt off 0x3400 0x80 2 fun k => atWords 0 (s.todWindow k)

/-! ### TIC and GNS (07, 06) -/

/-- Registers of the TIC block below its windows. -/
def State.ticTop (s : State) : List (Nat × W32) :=
  let c := s.cfg.tic
  let fail : BitVec 64 := (List.range 36).foldl (fun m i => if (s.tconv i).failed then m ||| bitAt 64 i else m) 0
  [(0x00, s.ticStatus), (0x20, word [(0, c.autoRecal.toNat), (16, c.recalK.toNat)]), (0x24, c.recalS.setWidth 32),
    (0x28, word [(0, c.autoSpare.toNat), (16, c.overlapEdges.toNat)]), (0x2C, s.ticMap),
    (0x30, word ((List.range 4).map fun i => (8 * i, (Tab.get c.subst i 0x3F).toNat))), (0x40, s.tic.intSrc)] ++
    at64 0x38 fail

/-- Registers of the TIC block. -/
def State.ticAt (s : State) (off : Nat) : Option W32 :=
  if off < 0x1000 then s.ticTop.lookup off
  else if off < 0x4000 then windowAt off 0x1000 0x100 32 s.ticRegs
  else windowAt off 0x4000 0x40 36 fun c => atWords 0 (s.convWindow c)

/-- GNS_STATUS to GNS_NOTCH_m_STAT. -/
def State.gnsPortRegs (s : State) : List (Nat × W32) :=
  let g := s.gns
  let c := s.cfg.gns
  let notch : Nat → List (Nat × W32) := fun m =>
    let x := Tab.get c.notch m NotchCfg.reset
    atWords (0x40 + 0x10 * m) [word [(0, x.mode.toNat), (8, x.depthDb.toNat)], x.centreHz, g.notchStat m]
  [(0x00, s.gnsStatus), (0x04, g.history.setWidth 32),
    (0x10, word [(0, c.formatIq.toNat), (1, c.coding.toNat), (2, c.edge.toNat), (3, c.invert.toNat), (4, c.portGate.toNat),
      (8, c.engine.toNat), (16, c.solMinSv.toNat), (20, c.feLeadMs.toNat)]),
    (0x14, c.sampleHz.setWidth 32), (0x18, c.ifHz), (0x1C, g.clkOffsetPpb), (0x20, g.jamPostDb ++ g.jamPreDb),
    (0x24, c.notchThreshDb ++ c.jamWarnDb), (0x28, c.noiseRef.setWidth 32)] ++ (List.range 4).flatMap notch

/-- GNS_ACQ_RESULT to GNS_SNAP_RESULT. -/
def State.gnsSearchRegs (s : State) : List (Nat × W32) :=
  let g := s.gns
  let c := s.cfg.gns
  let map : BitVec 64 := BitVec.ofNat 64
    (((List.range 8).map fun i => (Tab.get c.spareMap i 0x7F).toNat * 2 ^ (7 * i)).sum + g.spareFail.toNat * 2 ^ 56)
  [(0x100, word [(0, g.acqValid.toNat), (1, g.acqOk.toNat), (2, g.acqDetected.toNat), (16, g.acqSeq.toNat)]),
    (0x118, word [(0, c.autoSpare.toNat)]), (0x200, word [(0, c.latchHz.toNat), (8, eLatch)]), (0x210, g.navWord),
    (0x300, word [(0, g.snapValid.toNat), (1, g.snapOk.toNat), (16, g.snapSeq.toNat)])] ++
    at64 0x108 g.bankFail ++ at64 0x110 map

/-- GNS_ANT_CFG to GNS_SOL_ESRC. -/
def State.gnsSolRegs (s : State) : List (Nat × W32) :=
  let g := s.gns
  let c := s.cfg.gns
  [(0x400, word [(0, c.survey.toNat)]), (0x420, c.posUncMm), (0x424, c.cableDelayPs), (0x428, c.cableUnc.setWidth 32),
    (0x500, word [(0, c.checkEn.toNat), (16, c.checkMarginNs.toNat)]), (0x504, c.reanchorNs.setWidth 32),
    (0x510, g.checkBound.setWidth 32), (0x600, word [(0, g.solValid.toNat), (1, g.solSnap.toNat), (8, g.solNsv.toNat)]),
    (0x610, g.solUnc.setWidth 32), (0x614, g.solESrc.setWidth 32)] ++
    at64 0x408 c.xMm ++ at64 0x410 c.yMm ++ at64 0x418 c.zMm ++
    (List.range 3).flatMap (fun i => at64 (0x430 + 8 * i) (Tab.get g.antPos i 0)) ++
    at64 0x508 g.checkDev ++ at96 0x514 g.anchorTai ++ at64 0x608 g.solOffset

/-- Registers of a tracking channel. -/
def State.trkRegs (s : State) (k : Nat) : List (Nat × W32) :=
  let t := s.trk k
  [(0x00, word [(0, t.assigned.toNat), (8, t.prn.toNat), (16, t.tIntMs.toNat)]),
    (0x04, word [(0, t.elSpacing.toNat), (8, t.vevlSpacing.toNat)]),
    (0x28, word [(0, t.codeLock.toNat), (1, t.carrLock.toNat), (2, t.bitSync.toNat), (3, t.lostClk.toNat),
      (16, t.cn0.toNat)]), (0x2C, t.slipCount.setWidth 32)] ++
    at64 0x08 (t.codeInc.setWidth 64) ++ at64 0x10 (t.carrInc.setWidth 64) ++ at64 0x18 (t.codePhase.setWidth 64) ++
    at64 0x20 (t.carrPhase.setWidth 64)

/-- Registers of the GNS block. -/
def State.gnsAt (s : State) (off : Nat) : Option W32 :=
  if off < 0x100 then s.gnsPortRegs.lookup off
  else if off < 0x400 then s.gnsSearchRegs.lookup off
  else if off < 0x1000 then s.gnsSolRegs.lookup off
  else windowAt off 0x1000 0x100 32 s.trkRegs

/-- The snapshot window: 0xBAD0_00FF while a capture writes it (R177); what no capture has written reads 0 (log entry 78). -/
def State.snapAtOff (s : State) (off : Nat) : Option W32 :=
  if s.gns.snapBusy then none else some ((s.gns.snapWords s.gns.snapData).getD (off / 4) 0)

/-! ### ETH and TMG (09, 10) -/

/-- Registers of an ETH lane window. -/
def State.ethRegs (s : State) (l : Nat) : List (Nat × W32) :=
  let c := s.laneCfg l
  let rule : Nat → List (Nat × W32) := fun r =>
    let x := Tab.get c.rules r ClsRule.reset
    atWords (0x100 + 0x10 * r) [word [(0, x.etherType.toNat), (16, x.vid.toNat), (28, x.use.toNat)],
      word [(0, x.proto.toNat), (16, x.port.toNat)], word [(0, x.ring.toNat)]]
  [(0x000, s.ethCfgWord l), (0x004, s.ethStatusWord l)] ++ atWords 0x010 (s.delayWords l) ++
    [(0x030, c.tpidInner ++ c.tpidOuter), (0x034, word [(0, c.stripOuter.toNat), (1, c.stripInner.toNat)]),
      (0x040, c.capWord)] ++ at64 0x048 (s.capSeq l) ++ (List.range 16).flatMap rule

/-- Registers of the ETH block. -/
def State.ethAt (s : State) (off : Nat) : Option (Nat × W32) :=
  if off = 0x40000 then some (pdEngine, s.eth.intSrc.setWidth 32)
  else inDom (5 + off / 0x4000 / 4) (windowAt off 0 0x4000 16 s.ethRegs)

/-- Registers of a TMG lane window below its lists. -/
def State.tmgRegs (s : State) (l : Nat) : List (Nat × W32) :=
  let t := s.tlane l
  [(0x00, t.oper.entries.setWidth 32), (0x04, t.oper.cycle.setWidth 32), (0x08, t.oper.slot.setWidth 32),
    (0x20, word [(0, t.admin.entries.toNat), (16, t.adminReady.toNat)]), (0x24, t.admin.cycle.setWidth 32),
    (0x28, t.admin.slot.setWidth 32),
    (0x40, word [(0, t.swapPend.toNat), (1, t.swapSkew.toNat), (16, t.swapSeq.toNat)]),
    (0x50, word [(0, t.gates.toNat), (8, t.entry.toNat), (16, t.svcClasses.toNat)])] ++
    at96 0x0C t.oper.base ++ at96 0x2C t.admin.base ++ at96 0x44 t.swapAt

/-- The entries of a list as registers. -/
def Gcl.regs (g : Gcl) (e : Nat) : List (Nat × W32) :=
  let x := Tab.get g.ent e GclEntry.reset
  [(0, x.gates.setWidth 32), (4, x.ns)]

/-- Registers of a TMG lane window. -/
def State.tmgLaneAt (s : State) (l off : Nat) : Option W32 :=
  if off < 0x1000 then (s.tmgRegs l).lookup off
  else if off < 0x2000 then windowAt off 0x1000 8 256 (s.tlane l).oper.regs
  else windowAt off 0x2000 8 256 (s.tlane l).admin.regs

/-- Registers of a policer window. -/
def State.polRegs (s : State) (p : Nat) : List (Nat × W32) :=
  let c := s.polCfg p
  [(0x00, word [(0, c.lane.toNat), (4, c.use.toNat), (8, c.pcp.toNat), (16, c.vid.toNat), (31, c.enable.toNat)]),
    (0x04, c.udpPort ++ c.etherType), (0x08, c.rateKbps.setWidth 32), (0x0C, c.burst.setWidth 32),
    (0x10, BitVec.ofNat 32 ((s.pol p).tokens / 125000))]

/-- Registers of the TMG block. -/
def State.tmgAt (s : State) (off : Nat) : Option (Nat × W32) :=
  let c := s.cfg.tmg
  if off = 0 then some (pdEngine, s.tmg.intSrc.setWidth 32)
  else if off = 4 then some (pdEngine, word [(0, c.sampleEn.toNat), (16, c.sojournUs.toNat)])
  else if 0x10000 ≤ off ∧ off < 0x50000 then
    inDom (5 + (off - 0x10000) / 0x4000 / 4) (s.tmgLaneAt ((off - 0x10000) / 0x4000) (off % 0x4000))
  else if 0x80000 ≤ off ∧ off < 0x82000 then
    inDom (5 + (off - 0x80000) / 0x40 / 32) (windowAt off 0x80000 0x40 128 fun q => atWords 0 (s.queueWindow q))
  else inDom pdEngine (windowAt off 0xC0000 0x40 256 s.polRegs)

/-! ### SVC and KEY (11, 13) -/

/-- Registers of the SVC block below its windows. -/
def State.svcTop (s : State) : List (Nat × W32) :=
  let c := s.cfg.svc
  [(0x00, s.svcStatus), (0x04, c.ebMaxNs.setWidth 32),
    (0x08, word [(0, c.tolPs.toNat), (16, c.retry.toNat), (20, c.svcClass.toNat)]), (0x0C, c.leadNs.setWidth 32),
    (0x18, word [(0, c.priority1.toNat), (8, c.priority2.toNat), (16, c.classSec.toNat), (24, c.timeSource.toNat)]),
    (0x1C, word [(0, c.side.toNat)]), (0x20, c.ntsLanes ++ c.ntpLanes),
    (0x24, word [(0, c.nakEn.toNat), (1, c.kodRate.toNat), (8, c.stratumSec.toNat)]), (0x28, c.refId),
    (0x2C, c.burst ++ c.ratePps), (0x30, c.clientAgeS.setWidth 32), (0x34, c.grantMax),
    (0x38, BitVec.ofNat 32 s.svc.clients.length),
    (0x40, word [(0, c.boundPtp.toNat), (1, c.boundNtp.toNat), (8, c.orgId.toNat)]), (0x44, c.efType.setWidth 32),
    (0x48, s.svc.intSrc.setWidth 32)] ++ at64 0x10 s.clockId

/-- Registers of an SPP window. -/
def State.sppRegs (s : State) (k : Nat) : List (Nat × W32) :=
  let c := Tab.get s.cfg.svc.spp k SppCfg.reset
  let x := Tab.get s.svc.spp k Spp.reset
  [(0x00, word [(0, c.activeB.toNat), (1, c.cfMask.toNat), (2, x.rollPending.toNat), (3, x.keyLost.toNat),
      (4, x.exhausted.toNat), (16, c.acceptOldS.toNat)]),
    (0x04, c.aId), (0x08, word [(0, c.aSlot.toNat), (8, c.aAlg.toNat)]), (0x0C, c.bId),
    (0x10, word [(0, c.bSlot.toNat), (8, c.bAlg.toNat)]), (0x20, x.seqA.setWidth 32), (0x24, x.seqB.setWidth 32)] ++
    at96 0x14 x.rollAt

/-- Registers of a cookie-key window. -/
def State.cookieRegs (s : State) (c : Nat) : List (Nat × W32) :=
  let x := Tab.get s.svc.cookies c Cookie.reset
  [(0x00, x.keyId), (0x04, x.state.setWidth 32)] ++ at64 0x08 x.fprint

/-- Registers of the SVC block. -/
def State.svcAt (s : State) (off : Nat) : Option W32 :=
  if off < 0x1000 then s.svcTop.lookup off
  else if off < 0x2000 then windowAt off 0x1000 0x100 16 s.portRegs
  else if off < 0x3000 then windowAt off 0x2000 0x40 16 s.sppRegs
  else windowAt off 0x3000 0x20 8 s.cookieRegs

/-- Registers of the root unit. -/
def State.keyRegs (s : State) : List (Nat × W32) :=
  let k := s.key
  [(0x00, s.keyStatus), (0x04, s.keyEpochWord), (0x08, s.keySealWord), (0x0C, s.keyLcWord),
    (0x10, word [(0, k.resValid.toNat), (1, k.resStatus.toNat), (8, k.resOp.toNat), (16, k.resSeq.toNat)]),
    (0x14, s.keep.wrapCount), (0x18, k.lastSrc.setWidth 32)] ++
    atWords 0x20 (leWords 4 k.challenge.toNat) ++ atWords 0x40 s.akPubWords

/-- Registers of the KEY block; the slot window lies in PD_CRYPTO. -/
def State.keyAt (s : State) (off : Nat) : Option (Nat × W32) :=
  if off < 0x1000 then inDom 1 (s.keyRegs.lookup off)
  else inDom pdCrypto (windowAt off 0x1000 0x20 64 fun k =>
    let ws := (s.kslot k).words
    atWords 0 (ws.take 3) ++ atWords 0x10 (ws.drop 4))

/-! ### FLT, PAIR, LOG (14, 12) -/

/-- Registers of the FLT block. -/
def State.fltAt (s : State) (off : Nat) : Option W32 :=
  let f := s.flt
  let fixed : BitVec 256 := (List.range 256).foldl (fun m n => if faultFixed n then m ||| bitAt 256 n else m) 0
  if off < 0x20 then [(0x00, s.fltStatus), (0x04, word [(0, f.tapId.toNat)])].lookup off
  else if off < 0x40 then (atWords 0x20 (setWords f.latch)).lookup off
  else if off < 0x60 then (atWords 0x40 (setWords f.present)).lookup off
  else if off < 0x80 then (atWords 0x60 (setWords fixed)).lookup off
  else (atWords 0x100 ((List.range 16).map fun j => s.cfg.flt.classes.extractLsb' (32 * j) 32)).lookup off

/-- Registers of a comparison entry. -/
def State.cmpRegs (s : State) (e : Nat) : List (Nat × W32) :=
  let c := Tab.get s.cfg.pair.cmp e PairCmpCfg.reset
  let x := Tab.get s.pair.cmp e PairCmp.reset
  atWords 0 [word [(0, c.en.toNat), (1, c.target.toNat), (8, c.channel.toNat)], c.netSkewPs,
    word [(0, x.pass.toNat), (1, x.fail.toNat), (2, x.ambig.toNat), (3, x.selfDrv.toNat), (4, x.run.toNat),
      (16, x.edges.toNat)], x.meanPs, x.trimPs]

/-- Registers of the PAIR block. -/
def State.pairAt (s : State) (off : Nat) : Option W32 :=
  if off < 0x100 then s.pairRegs.lookup off
  else if off < 0x200 then windowAt off 0x100 0x20 8 s.cmpRegs
  else s.peerRegs.lookup (off - 0x200)

/-- Registers of the LOG block. -/
def State.logRegs (s : State) : List (Nat × W32) :=
  let g := s.log
  let c := s.cfg.log
  [(0x00, s.logStatus), (0x04, BitVec.ofNat 32 g.heldCount), (0x08, BitVec.ofNat 32 (64 * g.manifest.length)),
    (0x50, word [(0, c.highPct.toNat), (8, c.ckMirror.toNat)])] ++ atWords 0x38 (seqWords g.ckSeq) ++
    atWords 0x40 (seqWords g.lastExported) ++ atWords 0x48 (seqWords g.acked) ++ atWords 0x58 (seqWords g.replayFrom)

/-! ### MON, KEEP, CAL and BLT (15, 16) -/

/-- Registers of the MON block. -/
def State.monRegs (s : State) : List (Nat × W32) :=
  let m := s.mon
  let c := s.cfg.mon
  [(0x000, s.monStatus)] ++ atWords 0x010 (m.supMv.toList.map fun v => v.setWidth 32) ++
    atWords 0x030 (c.sup.toList.map fun l => l.highMv ++ l.lowMv) ++ atWords 0x050 ((List.range 6).map s.tempWord) ++
    atWords 0x070 (c.tempHigh.toList.map fun v => v.setWidth 32) ++
    [(0x100, word [(0, c.mainsEn.toNat), (1, c.pfwPinEn.toNat), (8, c.pfwGapMs.toNat), (16, c.pfwClearMs.toNat)]),
      (0x104, c.pfwClearV ++ c.pfwLowV), (0x108, c.fsV.setWidth 32), (0x10C, c.mainsDelayNs),
      (0x110, c.mainsDunc.setWidth 32), (0x114, m.rmsDv.setWidth 32), (0x118, m.freqMhz), (0x170, s.sparesWord)]

/-- Registers of the KEEP block. -/
def State.keepRegs (s : State) : List (Nat × W32) :=
  let remap : Remap → W32 := fun r => word [(0, r.row.toNat), (14, r.failed.toNat), (15, r.used.toNat)]
  atWords 0 (s.keepWords.take 5) ++ atWords 0x100 (s.keep.remap.toList.map remap)

/-- Registers of the CAL block. -/
def State.calAllRegs (s : State) : List (Nat × W32) :=
  let v := s.vbat
  let c := s.cfg.cal
  s.calRegs ++ [(0x30, word [(0, c.tamperEn.toNat), (16, c.tampPol.toNat)]), (0x34, c.tampFilterUs.setWidth 32),
    (0x38, word [(0, v.tamperSrc.toNat), (4, v.latched.toNat)]), (0x3C, v.tamperTime)]

/-- Registers of the BLT block. -/
def State.bltRegs (s : State) : List (Nat × W32) :=
  let b := s.blt
  [(0x00, s.bltStatus), (0x04, word [(0, b.sel.toNat), (8, b.arg.toNat)]), (0x08, b.unlocked.setWidth 32),
    (0x10, word [(0, b.bistValid.toNat), (1, b.bistStatus.toNat), (16, b.bistSeq.toNat)]), (0x14, b.bistFail.setWidth 32)]

/-! ### The register map (R29) -/

/-- Registers of the blocks from FLT to BLT. -/
def State.regLow (s : State) (a : Nat) : Option (Nat × W32) :=
  let off := a % 0x100000
  if a < 0x900000 then inDom 1 (s.fltAt off)
  else if a < 0xA00000 then inDom pdPair (s.pairAt off)
  else if a < 0xB00000 then inDom 1 (s.logRegs.lookup off)
  else if a < 0xC00000 then inDom 1 (s.monRegs.lookup off)
  else if a < 0xD00000 then inDom 1 (s.keepRegs.lookup off)
  else if a < 0xE00000 then inDom 0 (s.calAllRegs.lookup off)
  else if a < 0xF00000 then inDom 1 (s.bltRegs.lookup off)
  else none

/-- Registers of the blocks from TIC to KEY. -/
def State.regMid (s : State) (a : Nat) : Option (Nat × W32) :=
  let off := a % 0x100000
  if a < 0x300000 then inDom pdTic (s.ticAt off)
  else if a < 0x400000 then inDom pdGnss (s.gnsAt off)
  else if a < 0x500000 then s.ethAt off
  else if a < 0x600000 then s.tmgAt off
  else if a < 0x700000 then inDom pdEngine (s.svcAt off)
  else s.keyAt off

/-- Registers of the blocks below TIC. -/
def State.regTop (s : State) (a : Nat) : Option (Nat × W32) :=
  if a < 0x10000 then inDom 1 (s.sysRegs.lookup a)
  else if a < 0x20000 then inDom 1 (s.mbxAt (a - 0x10000))
  else if a < 0x30000 then inDom 1 (s.cmdAt (a - 0x20000))
  else if a < 0x100000 then none
  else if a < 0x120000 then inDom pdTime (s.refAt (a - 0x100000))
  else if a < 0x140000 then inDom pdTime (s.acdAt (a - 0x120000))
  else inDom pdTime (s.outAt (a - 0x140000))

/-- The domain and the word of the register at `a`; none where no register lies there (R29, R31). -/
def State.regGet (s : State) (a : Nat) : Option (Nat × W32) :=
  if a < 0x200000 then s.regTop a
  else if a < 0x800000 then s.regMid a
  else if a < 0x1000000 then s.regLow a
  else if a < 0x1001000 then inDom pdPcie (windowAt a 0x1000000 0x40 64 s.ringRegs)
  else if 0x2000000 ≤ a ∧ a < 0x2800000 then inDom pdGnss (s.snapAtOff (a - 0x2000000))
  else none

end Sys2Proof.Machine
end

