-- ==== Sys2Proof/Machine/BusRegs.lean ====
section
/-! DEFINITION. Register reads with an effect and register writes: *_POP queues, RC counters, records latched whole, W1C
bits (R31, R57 to R60, R101), over every access path (R30, R36, R37). -/

namespace Sys2Proof.Machine

open Host

/-! ### Shadows -/

/-- The word of a shadow of master `m` that a read of `a` returns: 0 before one is latched (DESIGN CHOICE, log entry 93). -/
def State.shadowWord (s : State) (m : BitVec 4) (a : Nat) : W32 :=
  let f : Shadow → Option W32 := fun h =>
    let b := h.addr.toNat
    if h.master == m && decide (b < a) && (a - b) % 4 == 0 then h.words[(a - b) / 4 - 1]? else none
  (s.cmd.shadows.findSome? f).getD 0

/-- The first word is returned and the others are latched into the reader's shadow. -/
def State.latchWords (s : State) (m : BitVec 4) (addr : W32) (ws : List W32) : State :=
  (s.latch m addr (ws.drop 1)).answerRead (ws.headD 0)

/-! ### Queues (R58) -/

/-- A waiting read whose first register is `addr`: its master. -/
def State.readsFirst (s : State) (addr : W32) : Instr → Option (BitVec 4)
  | .queuePop _ r =>
    let x := s.reads r
    if x.2.head? = some addr then some x.1 else none
  | _ => none

/-- How many masters with lower IDs than `m` pop the queue at `addr` in the same cycle: they receive the entries before
this one (R13, R58). -/
def State.popRank (s : State) (m : BitVec 4) (addr : W32) : Nat :=
  ((s.sameTick.filterMap (s.readsFirst addr)).filter fun x =>
    decide (x < m) && s.reached x && !outOfRange x addr).dedup.length

/-- GNS_TRK_k_ACC_POP (R161). -/
def State.popGns (s : State) (m : BitVec 4) (addr : W32) (k : Nat) : State :=
  let i := s.popRank m addr
  match (s.trk k).dumps[i]? with
  | none => s.latchWords m addr (0x80000000 :: List.replicate 11 0)
  | some d => (s.modTrk k fun x => { x with dumps := x.dumps.eraseIdx i }).latchWords m addr d

/-- TIC_CH_n_POP (R198). POP_SEQ counts the records popped (DEDUCED). -/
def State.popTic (s : State) (m : BitVec 4) (addr : W32) (n : Nat) : State :=
  let i := s.popRank m addr
  let c := s.tch n
  match c.stream, c.queue[i]? with
  | false, some r =>
    let a := s.modTch n fun x => { x with queue := x.queue.eraseIdx i, popSeq := x.popSeq + 1, popRec := r }
    a.latchWords m addr (word [(16, (c.popSeq + 1).toNat)] :: r)
  | _, _ => s.latchWords m addr (1 :: List.replicate 4 0)

/-- MON_MAINS_POP (R391). CYCLE_SEQ counts the records popped (DEDUCED). -/
def State.popMains (s : State) (m : BitVec 4) (addr : W32) : State :=
  let i := s.popRank m addr
  match s.mon.queue[i]? with
  | none => s.latchWords m addr (1 :: List.replicate 6 0)
  | some r =>
    (s.modMon fun x => { x with queue := x.queue.eraseIdx i, cycleSeq := x.cycleSeq + 1 }).latchWords m addr
      (word [(16, (s.mon.cycleSeq + 1).toNat)] :: r)

/-- The queue whose *_POP register lies at `a`: its domain, its words and the read of its first word. -/
def popAt (a : Nat) : Option (Nat × Nat × (State → BitVec 4 → W32 → State)) :=
  match span a 0x301030 0x100 32, span a 0x201028 0x100 32 with
  | some k, _ => some (pdGnss, 12, fun s m addr => s.popGns m addr k)
  | none, some n => some (pdTic, 5, fun s m addr => s.popTic m addr n)
  | none, none => if a = 0xB00120 then some (1, 7, fun s m addr => s.popMains m addr) else none

/-! ### RC counters (R59) -/

/-- An RC counter: its domain, whether it is 64 bits wide, its count, and the state with it cleared. -/
structure Rc where
  /-- power domain -/
  dom : Nat
  /-- 64 bits wide -/
  wide : Bool
  /-- the count -/
  val : BitVec 64
  /-- the state with the counter cleared -/
  cleared : State

/-- A 32-bit counter. -/
def rc32 (d : Nat) (v : BitVec 32) (t : State) : Option Rc := some { dom := d, wide := false, val := v.setWidth 64, cleared := t }

/-- A 64-bit counter. -/
def rc64 (d : Nat) (v : BitVec 64) (t : State) : Option Rc := some { dom := d, wide := true, val := v, cleared := t }

/-- Counters of SYS, MBX and CMD. -/
def State.rcSys (s : State) (a : Nat) : Option Rc :=
  match span a 0x10048 0x80 8, span a 0x20100 8 13 with
  | some n, _ => rc32 1 (s.mbx n).refused (s.modMbx n fun x => { x with refused := 0 })
  | none, some n => rc64 1 (Tab.get s.cmd.stat n 0) { s with cmd := { s.cmd with stat := Tab.set s.cmd.stat n 0 } }
  | none, none =>
    if a = 0x30 then rc64 1 s.sys.refusedWrites { s with sys := { s.sys with refusedWrites := 0 } }
    else if a = 0x20008 then rc32 1 s.cmd.replyDrop { s with cmd := { s.cmd with replyDrop := 0 } }
    else none

/-- Counters of the time-pulse windows. -/
def State.rcOut (s : State) (a : Nat) : Option Rc :=
  match span a 0x143024 0x80 4 with
  | some m => rc32 2 (s.otp m).skip (s.modOtp m fun x => { x with skip := 0 })
  | none => none

/-- Counters of a TIC channel window, by offset. -/
def State.rcTicCh (s : State) (n off : Nat) : Option Rc :=
  let c := s.tch n
  if off = 0x18 then rc32 3 c.dtMiss (s.modTch n fun x => { x with dtMiss := 0 })
  else if off = 0x1C then rc32 3 c.qLost (s.modTch n fun x => { x with qLost := 0 })
  else if off = 0x20 then rc64 3 c.events (s.modTch n fun x => { x with events := 0 })
  else none

/-- Counters of the TIC block. -/
def State.rcTic (s : State) (a : Nat) : Option Rc :=
  if 0x201000 ≤ a ∧ a < 0x203000 then s.rcTicCh ((a - 0x201000) / 0x100) (a % 0x100) else none

/-- Counters of the GNS block. -/
def State.rcGns (s : State) (a : Nat) : Option Rc :=
  let g := s.gns
  match span a 0x301060 0x100 32 with
  | some k => rc32 4 (s.trk k).dumpLost (s.modTrk k fun x => { x with dumpLost := 0 })
  | none =>
    if a = 0x300204 then rc32 4 g.latchLost { s with gns := { g with latchLost := 0 } }
    else if a = 0x300208 then rc32 4 g.latchMiss { s with gns := { g with latchMiss := 0 } }
    else if a = 0x30020C then rc32 4 g.navLost { s with gns := { g with navLost := 0 } }
    else none

/-- Counters of an ETH lane window, by offset (R257). -/
def State.rcEthLane (s : State) (l off : Nat) : Option Rc :=
  match span off 0x200 8 24 with
  | some i => rc64 (5 + l / 4) (Tab.get (s.lane l).cnt i 0) (s.modLane l fun x => { x with cnt := Tab.set x.cnt i 0 })
  | none => none

/-- Counters of the ETH lanes. -/
def State.rcEth (s : State) (a : Nat) : Option Rc :=
  if 0x400000 ≤ a ∧ a < 0x440000 then s.rcEthLane ((a - 0x400000) / 0x4000) (a % 0x4000) else none

/-- Counters of a TMG queue window, by offset. -/
def State.rcTmgQ (s : State) (q off : Nat) : Option Rc :=
  if off = 0x18 then rc32 (5 + q / 32) (s.tq q).qDrop (s.modTq q fun x => { x with qDrop := 0 })
  else if off = 0x1C then rc32 (5 + q / 32) (s.tq q).wovr (s.modTq q fun x => { x with wovr := 0 })
  else none

/-- Counters of a policer window, by offset. -/
def State.rcPol (s : State) (p off : Nat) : Option Rc :=
  let x := s.pol p
  if off = 0x18 then rc64 9 x.pass (s.modPol p fun y => { y with pass := 0 })
  else if off = 0x20 then rc64 9 x.dropF (s.modPol p fun y => { y with dropF := 0 })
  else if off = 0x28 then rc64 9 x.dropB (s.modPol p fun y => { y with dropB := 0 })
  else if off = 0x30 then rc64 9 x.dropG (s.modPol p fun y => { y with dropG := 0 })
  else none

/-- Counters of a TMG lane window, by offset. -/
def State.rcTmgLane (s : State) (l off : Nat) : Option Rc :=
  if off = 0x54 then rc32 (5 + l / 4) (s.tlane l).stepOverlap (s.modTLane l fun x => { x with stepOverlap := 0 })
  else if off = 0x58 then rc32 (5 + l / 4) (s.tlane l).commitMiss (s.modTLane l fun x => { x with commitMiss := 0 })
  else none

/-- Counters of the TMG block. -/
def State.rcTmg (s : State) (a : Nat) : Option Rc :=
  if 0x510000 ≤ a ∧ a < 0x550000 then s.rcTmgLane ((a - 0x510000) / 0x4000) (a % 0x4000)
  else if 0x580000 ≤ a ∧ a < 0x582000 then s.rcTmgQ ((a - 0x580000) / 0x40) (a % 0x40)
  else if 0x5C0000 ≤ a ∧ a < 0x5C4000 then s.rcPol ((a - 0x5C0000) / 0x40) (a % 0x40)
  else none

/-- Counters of a port window, by offset. -/
def State.rcPort (s : State) (k off : Nat) : Option Rc :=
  match span off 0x80 8 18 with
  | some i => rc64 9 (Tab.get (s.port k).cnt i 0) (s.modPort k fun x => { x with cnt := Tab.set x.cnt i 0 })
  | none => none

/-- Counters of the SVC block. -/
def State.rcSvc (s : State) (a : Nat) : Option Rc :=
  match span a 0x603010 0x20 8 with
  | some c =>
    rc64 9 (Tab.get s.svc.cookies c Cookie.reset).uses
      { s with svc := { s.svc with cookies := Tab.mod s.svc.cookies c fun x => { x with uses := 0 } } }
  | none =>
    if 0x601000 ≤ a ∧ a < 0x602000 then s.rcPort ((a - 0x601000) / 0x100) (a % 0x100) else none

/-- Counters of FLT and PAIR. -/
def State.rcFlt (s : State) (a : Nat) : Option Rc :=
  match span a 0x800400 4 256 with
  | some n => rc32 1 (Tab.get s.flt.counts n 0) { s with flt := { s.flt with counts := Tab.set s.flt.counts n 0 } }
  | none =>
    if a = 0x900060 then rc64 12 s.pair.rounds { s with pair := { s.pair with rounds := 0 } }
    else if a = 0x900068 then rc32 12 s.pair.roundsVoid { s with pair := { s.pair with roundsVoid := 0 } }
    else none

/-- Counters of LOG and BLT. -/
def State.rcLog (s : State) (a : Nat) : Option Rc :=
  let g := s.log
  if a = 0xA00060 then rc64 1 g.refused { s with log := { g with refused := 0 } }
  else if a = 0xA00068 then rc64 1 g.unentered { s with log := { g with unentered := 0 } }
  else if a = 0xA00070 then rc32 1 g.mirrorSkip { s with log := { g with mirrorSkip := 0 } }
  else if a = 0xE0000C then rc32 1 s.blt.probes (s.modBlt fun x => { x with probes := 0 })
  else none

/-- Counters of MON. -/
def State.rcMon (s : State) (a : Nat) : Option Rc :=
  if a = 0xB00140 then rc32 1 s.mon.lost (s.modMon fun x => { x with lost := 0 })
  else if a = 0xB00160 then rc32 1 s.mon.pfwCount (s.modMon fun x => { x with pfwCount := 0 })
  else none

/-- Counters of KEEP. -/
def State.rcKeep (s : State) (a : Nat) : Option Rc :=
  let k := s.keep
  if a = 0xC00018 then rc64 1 k.writes { s with keep := { k with writes := 0 } }
  else if a = 0xC00020 then rc32 1 k.verifyFail { s with keep := { k with verifyFail := 0 } }
  else if a = 0xC00024 then rc32 1 k.corrected { s with keep := { k with corrected := 0 } }
  else if a = 0xC00028 then rc32 1 k.uncorr { s with keep := { k with uncorr := 0 } }
  else if a = 0xC0002C then rc32 1 k.roSkips { s with keep := { k with roSkips := 0 } }
  else if a = 0xC00030 then rc32 1 k.pfwRefused { s with keep := { k with pfwRefused := 0 } }
  else none

/-- The RC counter whose low word lies at `a`. -/
def State.rcAt (s : State) (a : Nat) : Option Rc :=
  let fs : List (State → Nat → Option Rc) := [State.rcSys, State.rcOut, State.rcTic, State.rcGns, State.rcEth, State.rcTmg,
    State.rcSvc, State.rcFlt, State.rcLog, State.rcMon, State.rcKeep]
  fs.findSome? fun f => f s a

/-- A read of a counter's low word: it returns the word and clears the counter, and latches the high word into the reader's
shadow, which a 64-bit read takes at once (R59). -/
def Rc.read (r : Rc) (m : BitVec 4) (addr : W32) : State :=
  let t := if r.wide then r.cleared.latch m addr [r.val.extractLsb' 32 32] else r.cleared
  t.answerRead (r.val.setWidth 32)

/-! ### Records that are latched whole (R101) -/

/-- TIC_TB_LATCH: the coarse counter and the accord at the same tick. -/
def State.tbLatch (s : State) : List W32 :=
  [BitVec.ofNat 32 s.coarse, BitVec.ofNat 32 (s.coarse / 2 ^ 32)] ++ s.stamp.words

/-- ETH_n_CAP_ROOT. -/
def Lane.rootWords (x : Lane) : List W32 :=
  [word [(0, x.rootValid.toNat), (16, x.rootSeq.toNat)]] ++ taiWords x.rootIv ++ w64 x.rootFirst ++ [x.rootCount] ++
    digWords x.root

/-- SVC_LAST_COMMIT. -/
def Svc.lastWords (x : Svc) : List W32 :=
  [word [(0, x.lcValid.toNat), (1, x.lcAborted.toNat), (2, x.lcLane.toNat), (6, x.lcRetry.toNat), (16, x.lcSeq.toNat)]] ++
    taiWords x.lcAt ++ [x.lcResPs, ebWord x.lcEb x.lcFlags]

/-- KEY_ATTEST_OUT with its 64 data words. -/
def Key.attWords (x : Key) : List W32 :=
  word [(0, x.attValid.toNat), (16, x.attSeq.toNat)] :: (x.attData ++ List.replicate (64 - x.attData.length) 0)

/-- PAIR_LAST_OWN. -/
def Pair.ownWords (x : Pair) : List W32 :=
  word [(0, x.lastOwnValid.toNat), (1, x.lastOwnGained.toNat), (2, x.lastOwnFailover.toNat), (3, x.lastOwnLinked.toNat),
    (16, x.lastOwnSeq.toNat)] :: taiWords x.lastOwnH

/-- Records of PD_TIME. -/
def State.recTime (s : State) (a : Nat) : Option (Nat × List W32) :=
  match span a 0x108000 0x20 190, span a 0x141028 0x100 16, span a 0x141040 0x100 16, span a 0x14302C 0x80 4 with
  | some c, _, _, _ => some (2, s.cellWords c)
  | _, some n, _, _ => some (2, ((s.outWindow n).drop 10).take 2)
  | _, _, some n, _ => some (2, (s.outWindow n).drop 16)
  | _, _, _, some m => some (2, (s.tpWindow m).drop 11)
  | _, _, _, _ =>
    if a = 0x120010 then some (2, s.acdTime) else if a = 0x143800 then some (2, s.echoWords) else none

/-- Records of PD_TIC. -/
def State.recTic (s : State) (a : Nat) : Option (Nat × List W32) :=
  match span a 0x201040 0x100 32 with
  | some n => some (3, (s.tch n).ivWords)
  | none => if a = 0x200008 then some (3, s.tbLatch) else none

/-- Records of the lanes and of PD_ENGINE. -/
def State.recNet (s : State) (a : Nat) : Option (Nat × List W32) :=
  match span a 0x400050 0x4000 16, span a 0x580020 0x40 128 with
  | some l, _ => some (5 + l / 4, (s.lane l).rootWords)
  | none, some q => some (5 + q / 32, (s.queueWindow q).drop 8)
  | none, none => if a = 0x600060 then some (9, s.svc.lastWords) else none

/-- Records of PD_AON, PD_VBAT and PD_PAIR. -/
def State.recAon (s : State) (a : Nat) : Option (Nat × List W32) :=
  if a = 0x700200 then some (1, s.key.attWords)
  else if a = 0x800008 then some (1, taiWords s.flt.safeAt ++ [ebWord s.flt.safeEb s.flt.safeFlags])
  else if a = 0x900040 then some (12, s.pair.ownWords)
  else if a = 0xA00010 then some (1, seqWords s.log.seq ++ digWords s.log.head)
  else if a = 0xB00150 then some (1, taiWords s.mon.pfwAt ++ [ebWord s.mon.pfwEb s.mon.pfwFlags])
  else if a = 0xD00004 then some (0, (s.calWords.drop 1).take 3)
  else none

/-- The record whose first word lies at `a`, with its domain. -/
def State.recordAt (s : State) (a : Nat) : Option (Nat × List W32) :=
  let fs : List (State → Nat → Option (Nat × List W32)) := [State.recTime, State.recTic, State.recNet, State.recAon]
  fs.findSome? fun f => f s a

/-! ### One 32-bit read -/

/-- Domain and words of the queue, counter or record whose first word lies at `a`. -/
def State.firstAt (s : State) (a : Nat) : Option (Nat × Nat) :=
  match popAt a, s.rcAt a, s.recordAt a with
  | some p, _, _ => some (p.1, p.2.1)
  | none, some r, _ => some (r.dom, if r.wide then 2 else 1)
  | none, none, some r => some (r.1, r.2.length)
  | none, none, none => none

/-- The domain of the queue, counter or record of which `a` is a later word: such a word reads the reader's shadow. -/
def State.laterIn (s : State) (a : Nat) : Option Nat :=
  ((List.range 64).findSome? fun i =>
    let b := a - 4 * (i + 1)
    match s.firstAt b with
    | some x => if 4 * (i + 1) ≤ a && i + 1 < x.2 then some x.1 else none
    | none => none)

/-- The GNS block or the snapshot window of a chip on which GNSS_EN reads 0 (R2). -/
def State.noGns (s : State) (a : Nat) : Bool :=
  !s.fuse.gnssEn && ((decide (0x300000 ≤ a) && decide (a < 0x400000)) || (decide (0x2000000 ≤ a) && decide (a < 0x2800000)))

/-- A register of domain `d` is read: 0xBAD0_00nn while the domain is not ready (R31). -/
def State.inDomain (s : State) (d : Nat) (t : State) : State := if s.ready d then t else s.answerRead (offRead d)

/-- One 32-bit read by master `m`, which reaches the device: of a mailbox's TAKE, a semaphore, a queue, a counter, a record, a
word of the reader's shadow, any other register, or a reserved address (R2, R31, R38, R55, R56, R58, R59, R101). -/
def State.readReg (m : BitVec 4) (addr : W32) (s : State) : State :=
  let a := addr.toNat
  if outOfRange m addr then s.readDenied
  else if s.noGns a then s.answerRead 0
  else match span a 0x10044 0x80 8, span a 0x11000 4 32 with
    | some n, _ => s.mbxTake m n
    | none, some i => s.semRead m i
    | none, none =>
      match popAt a, s.rcAt a, s.recordAt a with
      | some p, _, _ => s.inDomain p.1 (p.2.2 s m addr)
      | none, some r, _ => s.inDomain r.dom (r.read m addr)
      | none, none, some r => s.inDomain r.1 (s.latchWords m addr r.2)
      | none, none, none =>
        match s.laterIn a, s.regGet a with
        | some d, _ => s.inDomain d (s.answerRead (s.shadowWord m a))
        | none, some r => s.inDomain r.1 (s.answerRead r.2)
        | none, none => s.answerRead badRead

/-- The words of one access are read in order (R36, R59); all of them are kept. -/
def State.readBurst (m : BitVec 4) (s : State) (addr : W32) : State :=
  let a := s.readReg m addr
  { a with cmd := { a.cmd with readWords := a.cmd.readWords ++ [a.cmd.readWord] } }

/-- A read of registers. -/
def State.busRead (s : State) (r : BusRead) : Res :=
  let x := s.reads r
  s.access x.1 x.2 fun s =>
    match r with
    | .bar2 offset wide =>
      let ws := (bar2Span offset wide).map s.cmd.bar2Get
      { s with cmd := { s.cmd with readWords := ws, readWord := ws.getLastD s.cmd.readWord } }
    | _ => x.2.foldl (State.readBurst x.1) { s with cmd := { s.cmd with readWords := [] } }

/-- QUEUE_POP (R58). -/
def execQueuePop (dt : Nat) (read : BusRead) (s : State) : Res := (s.advance dt).busRead read

/-- RC_COUNTER_READ (R59). -/
def execRcCounterRead (dt : Nat) (read : BusRead) (s : State) : Res := (s.advance dt).busRead read

/-- SHADOW_LATCH_READ (R101). -/
def execShadowLatchRead (dt : Nat) (read : BusRead) (s : State) : Res := (s.advance dt).busRead read

/-! ### Interrupt status (R60, R61) -/

/-- Bits of group `g` that a W1C may clear: those not raised in the same cycle (R60). -/
def State.w1cMask (s : State) (g : Nat) (v : BitVec 32) : BitVec 32 :=
  v &&& ~~~(Tab.get (s.cmd.raisedAt s.ticks) g 0)

/-- A W1C of the host copy: the group's vectors that are still set send again (R61). -/
def State.hostW1c (s : State) (g : Nat) (v : BitVec 32) : State :=
  let k := s.w1cMask g v
  let c := { s.cmd with groups := Tab.mod s.cmd.groups g fun q => { q with status := q.status &&& ~~~k } }
  { s with cmd := c.resend g }

/-- A W1C of the board copy. -/
def State.pinW1c (s : State) (g : Nat) (v : BitVec 32) : State :=
  let k := s.w1cMask g v
  { s with cmd := { s.cmd with groups := Tab.mod s.cmd.groups g fun q => { q with pinStatus := q.pinStatus &&& ~~~k } } }

/-- M1 or M2. -/
def isSerial (m : BitVec 4) : Bool := m == 1 || m == 2

/-- A write of one of the two status copies. -/
def State.statusWrite (m : BitVec 4) (addr v : W32) (s : State) : State :=
  match span addr.toNat 0x28004 0x20 16, span addr.toNat 0x2800C 0x20 16 with
  | some g, _ => if m == 0 then s.hostW1c g v else s.refuseWrite
  | none, some g => if isSerial m then s.pinW1c g v else s.refuseWrite
  | none, none => s.refuseWrite

/-! ### Any other register write (R12, R31, R38) -/

/-- MBX_n_DATAi is written by the mailbox's sender while it is not FULL (R55). -/
def State.mbxData (s : State) (m : BitVec 4) (n i : Nat) (v : W32) : State :=
  let b := s.mbx n
  if m != b.sender then s.refuseWrite
  else if b.full then s.modMbx n fun x => { x with refused := x.refused + 1 }
  else s.modMbx n fun x => { x with data := Tab.set x.data i v }

/-- A write in the MBX block. -/
def State.mbxWrite (s : State) (m : BitVec 4) (a : Nat) (v : W32) : State :=
  if 0x10000 ≤ a ∧ a < 0x10400 then
    let n := (a - 0x10000) / 0x80
    match span (a % 0x80) 0 4 16 with
    | some i => s.mbxData m n i v
    | none =>
      if a % 0x80 = 0x40 then
        if v.getLsbD 0 then s.mbxSend m n else if m != (s.mbx n).sender then s.refuseWrite else s
      else s.refuseWrite
  else match span a 0x11000 4 32 with
    | some i => s.semRelease m i
    | none => s.refuseWrite

/-- The mask registers: M0 writes MASK_MSI, M1 and M2 write MASK_PIN (R38). Unmasking a set bit may make a vector's set
non-empty (R61). -/
def State.maskWrite (s : State) (m : BitVec 4) (a : Nat) (v : W32) : State :=
  match span a 0x28008 0x20 16, span a 0x28010 0x20 16 with
  | some g, _ =>
    let c := { s.cmd with groups := Tab.mod s.cmd.groups g fun q => { q with maskMsi := v } }
    if m == 0 then { s with cmd := s.cmd.sendNew c } else s.refuseWrite
  | none, some g =>
    let c := { s.cmd with groups := Tab.mod s.cmd.groups g fun q => { q with maskPin := v } }
    if isSerial m then { s with cmd := c } else s.refuseWrite
  | none, none => s.statusWrite m (BitVec.ofNat 32 a) v

/-- A write of a ring's registers (R38, R52). -/
def State.dmaWrite (s : State) (m : BitVec 4) (a : Nat) (v : W32) : State :=
  let n := (a - 0x1000000) / 0x40
  let off := a % 0x40
  if !s.ready pdPcie || 64 ≤ n then s.refuseWrite
  else if off = 0x0C then s.pointerWrite m n true v
  else if off = 0x10 then s.pointerWrite m n false v
  else if off = 0x14 && m == 0 then
    s.modRing n fun r => { r with ptrErr := r.ptrErr && !v.getLsbD 1, busErr := r.busErr && !v.getLsbD 2 }
  else s.refuseWrite

/-- The per-block source registers, which M0 clears by W1C (R38). -/
def State.srcWrite (s : State) (a : Nat) (v : W32) : Option (Nat × State) :=
  if a = 0x200040 then some (3, { s with tic := { s.tic with intSrc := s.tic.intSrc &&& ~~~v } })
  else if a = 0x140008 then some (2, { s with out := { s.out with intSrc := s.out.intSrc &&& ~~~(v.setWidth 22) } })
  else if a = 0x440000 then some (9, { s with eth := { s.eth with intSrc := s.eth.intSrc &&& ~~~(v.setWidth 16) } })
  else if a = 0x500000 then some (9, { s with tmg := { s.tmg with intSrc := s.tmg.intSrc &&& ~~~(v.setWidth 16) } })
  else if a = 0x600048 then some (9, { s with svc := { s.svc with intSrc := s.svc.intSrc &&& ~~~(v.setWidth 16) } })
  else none

/-- The registers that the GNSS engine writes and that have no row of their own: the navigation word and the survey
estimate (R163, R171). -/
def State.gnsEngineWrite (s : State) (a : Nat) (v : W32) : Option State :=
  match span a 0x300430 4 6 with
  | some i =>
    let put : BitVec 64 → BitVec 64 := fun x => if i % 2 = 0 then x.extractLsb' 32 32 ++ v else v ++ x.extractLsb' 0 32
    some { s with gns := { s.gns with antPos := Tab.mod s.gns.antPos (i / 2) put } }
  | none => if a = 0x300210 then some { s with gns := { s.gns with navWord := v &&& 0x3FFFFFFF } } else none

/-- A write in the GNS block or the snapshot window: ignored, and not counted, where the block is absent (R2). -/
def State.gnsWrite (s : State) (m : BitVec 4) (a : Nat) (v : W32) : State :=
  if !s.fuse.gnssEn then s
  else if !s.ready pdGnss || !s.gnsEngine m then s.refuseWrite
  else (s.gnsEngineWrite a v).getD s.refuseWrite

/-- One 32-bit write by master `m`, which reaches the device (R12, R31, R38). -/
def State.regWrite (m : BitVec 4) (addr v : W32) (s : State) : State :=
  let a := addr.toNat
  if outOfRange m addr then s.refuseWrite
  else if 0x10000 ≤ a ∧ a < 0x20000 then s.mbxWrite m a v
  else if 0x28000 ≤ a ∧ a < 0x28200 then s.maskWrite m a v
  else if 0x1000000 ≤ a ∧ a < 0x2000000 then s.dmaWrite m a v
  else if (0x300000 ≤ a ∧ a < 0x400000) ∨ (0x2000000 ≤ a ∧ a < 0x2800000) then s.gnsWrite m a v
  else match s.srcWrite a v with
    | some x => if m == 0 && s.ready x.1 then x.2 else s.refuseWrite
    | none => s.refuseWrite

/-- A write outside BAR0: of BAR2, of the MSI-X capability, or of MBX6 by the partner through the Benit link (R38, R54). -/
def State.otherWrite (s : State) : BusWrite → State
  | .bar2 offset wide v =>
    let ws := (bar2Span offset wide).zip [v.setWidth 32, v.extractLsb' 32 32]
    { s with cmd := ws.foldl (fun (c : Cmd) (x : Nat × W32) => c.bar2Put x.1 x.2) s.cmd }
  | .msixControl en mask => { s with cmd := { s.cmd with msixEn := en, msixMask := mask }.msiFlush }
  | .benit ws => (List.range 16).foldl (fun (s : State) i => match ws[i]? with
    | some w => s.mbxData 14 6 i w
    | none => s) s
  | _ => s

/-- A write of registers, or of BAR2. -/
def State.busWrite (s : State) (w : BusWrite) : Res :=
  let x := s.writes w
  s.access x.1 (x.2.map (·.1)) fun s =>
    x.2.foldl (fun (s : State) (p : W32 × W32) => s.regWrite x.1 p.1 p.2) (s.otherWrite w)

/-- INT_STATUS_W1C (R60, R61). -/
def execIntStatusW1c (dt : Nat) (write : BusWrite) (s : State) : Res := (s.advance dt).busWrite write

/-- REGISTER_WRITE (R12, R31, R38). -/
def execRegisterWrite (dt : Nat) (write : BusWrite) (s : State) : Res := (s.advance dt).busWrite write

end Sys2Proof.Machine
end

