-- ==== Sys2Proof/Machine/Sched.lean ====
section
/-! DEFINITION. The opcode index (R53), scheduled execution (R47 to R49), a packet whose opcode is not listed (R41), and the
publication of EB_ACCORD with the steps it applies (R18, R132). -/

namespace Sys2Proof.Machine

/-! ### The opcode index (R53) -/

/-- The opcodes of class SYS. -/
def specsSys : List OpSpec :=
  [specSysQueryState, specSysQueryCounters, specSysEcho, specSysSetState, specSysClearSafe, specSysDomainPower,
    specSysSleep, specSysWake, specSysReset, specSysFwStage, specSysFwActivate, specSysSetMbxRoute, specSysSetSemCfg,
    specSysSemForce, specSysRingConfig, specSysRingEnable, specSysIntRoute, specSysCancel, specSysBltUnlock,
    specSysBltSelect, specSysBistRun]

/-- The opcodes of class REF. -/
def specsRef : List OpSpec :=
  [specRefQuerySlot, specRefQueryMatrix, specRefQueryHistory, specRefSetSlot, specRefSetQual, specRefSetTimers,
    specRefSetPriority, specRefSelect, specRefClearHistory, specRefEnable, specRefSetPtpSlave]

/-- The opcodes of class ACD. -/
def specsAcd : List OpSpec :=
  [specAcdQueryTime, specAcdQueryServo, specAcdSetServo, specAcdSetStepPolicy, specAcdSetHold, specAcdSetOscModel,
    specAcdSetTime, specAcdAdjustPhase, specAcdSetUtc, specAcdSetCpllSource, specAcdEnterDrydown,
    specAcdSetMaceration]

/-- The opcodes of class OUT. -/
def specsOut : List OpSpec :=
  [specOutQueryStatus, specOutQueryEcho, specOutSetSyn, specOutSetOutput, specOutSync, specOutSetTp, specOutSetTod,
    specOutEchoMeasure, specOutSetDelay, specOutEnable]

/-- The opcodes of class TIC. -/
def specsTic : List OpSpec :=
  [specTicQueryChannel, specTicQueryCal, specTicSetChannel, specTicStartInterval, specTicStream, specTicCalibrate,
    specTicSubstitute, specTicSetDelay]

/-- The opcodes of class GNS. -/
def specsGns : List OpSpec :=
  [specGnsQueryStatus, specGnsQuerySolution, specGnsSetPort, specGnsSetNotch, specGnsAcquire, specGnsTrack,
    specGnsRelease, specGnsSetLatch, specGnsSnapshot, specGnsSetAntenna, specGnsSetCheck, specGnsSpareBank]

/-- The opcodes of class ETH. -/
def specsEth : List OpSpec :=
  [specEthQueryLane, specEthQueryDelay, specEthSetQuadMode, specEthSetLane, specEthSetDelay, specEthSetCapture,
    specEthSetClassifier, specEthLaneEnable, specEthSetTags]

/-- The opcodes of class TMG. -/
def specsTmg : List OpSpec :=
  [specTmgQueryQueue, specTmgQueryGcl, specTmgSetGcl, specTmgSwapGcl, specTmgSetShaper, specTmgSetPolicer,
    specTmgSetFilter, specTmgSetSampling]

/-- The opcodes of class SVC. -/
def specsSvc : List OpSpec :=
  [specSvcQueryStatus, specSvcQueryClient, specSvcSetPtpPort, specSvcSetProfile, specSvcSetAuth, specSvcSetNtp,
    specSvcLoadCookieKey, specSvcRetireCookieKey, specSvcSetGate, specSvcSetRateLimit, specSvcClientFlush,
    specSvcSetBoundTlv]

/-- The opcodes of class KEY. -/
def specsKey : List OpSpec :=
  [specKeyQuerySlots, specKeyQueryEpoch, specKeyLoadFlacon, specKeyWrap, specKeyDerive, specKeyZero,
    specKeyEpochUpdate, specKeyAttest, specKeyProvision, specKeyLcAdvance, specKeyDebugEnter, specKeyDebugExit]

/-- The opcodes of class LOG. -/
def specsLog : List OpSpec :=
  [specLogQueryStatus, specLogQueryHead, specLogExportAck, specLogSetExport, specLogCheckpoint, specLogNote]

/-- The opcodes of class FLT and PAIR. -/
def specsFlt : List OpSpec :=
  [specFltQuery, specPairQuery, specFltSetClass, specFltClear, specFltInject, specPairSetMode, specPairSetClaim,
    specPairHandover, specPairSetCompare, specPairRejoin]

/-- The opcodes of class MON, KEEP and CAL. -/
def specsMon : List OpSpec :=
  [specMonQuery, specKeepQuery, specCalQuery, specMonSetLimits, specMonSetMains, specKeepScrub, specCalSetTime,
    specCalSetTrim, specCalSetTamper]

/-- Every listed opcode. -/
def allSpecs : List OpSpec :=
  specsSys ++ specsRef ++ specsAcd ++ specsOut ++ specsTic ++ specsGns ++ specsEth ++
    specsTmg ++ specsSvc ++ specsKey ++ specsLog ++ specsFlt ++ specsMon

/-- What an opcode is; none where it is not listed (R41). -/
def specOf (opcode : Nat) : Option OpSpec := allSpecs.find? fun o => o.opcode == opcode

/-! ### Scheduled execution (R47 to R49) -/

/-- The earlier of two entries; the one accepted first where they are due together (R47). -/
def firstDue (b : Option SchedEntry) (e : SchedEntry) : Option SchedEntry :=
  match b with
  | none => some e
  | some x => if e.at16 < x.at16 then some e else some x

/-- The waiting entry that executes next, where the accord has reached its EXEC_AT. -/
def State.nextDue (s : State) : Option SchedEntry :=
  match s.cmd.sched.foldl firstDue none with
  | some e => if e.at16 ≤ s.now16 then some e else none
  | none => none

/-- An entry leaves the waiting ones and executes, from the state step of R42 on. -/
def State.runEntry (s : State) (e : SchedEntry) : State :=
  let s1 := { s with cmd := { s.cmd with sched := s.cmd.sched.erase e } }
  match specOf e.opcode.toNat with
  | some o => o.execute e.pkt s1 true
  | none => s1

/-- Scheduled commands can execute: not in reset or in BOOT, with an accord to follow, and no SYS_RESET of the chip under
way (R44, R70). -/
def State.schedRuns (s : State) : Bool :=
  !s.sys.inReset && s.sys.devState != .boot && s.ready pdTime && s.sys.after != 1

/-- SCHEDULED_COMMAND_DUE (R42, R47, R48); a leap second of the same tick is seen by it (R147). -/
def execScheduledCommandDue (dt : Nat) (s : State) : Res :=
  let s := (s.advance dt).leapNow
  .next (if !s.schedRuns then s
    else match s.nextDue with
      | some e => s.runEntry e
      | none => s)

/-- The entries whose EXEC_AT a step has passed execute at its apply tick, in EXEC_AT order (R49). The first argument bounds
how many there are. -/
def State.runPassed : Nat → State → State
  | 0, s => s
  | n + 1, s =>
    match s.nextDue with
    | some e => if s.schedRuns then (s.runEntry e).runPassed n else s
    | none => s

/-- `dt` ticks pass, and what comes before an immediate command of that tick happens: a leap second (R147), then the
scheduled commands that are due (R47). -/
def State.arrive (s : State) (dt : Nat) : State :=
  let a := (s.advance dt).leapNow
  a.runPassed a.cmd.sched.length

/-- The scheduled queue after a step from `old`: INT_CMD_SCHED_SKEW tells how many entries the step passed (R49). -/
def State.schedStep (s : State) (old : Nat) : State :=
  let n := (s.cmd.sched.filter fun e => decide (old < e.at16) && decide (e.at16 ≤ s.now16)).length
  if n = 0 || !s.schedRuns then s
  else (s.raise (src 1 7) 0 n).runPassed s.cmd.sched.length

/-! ### A packet with an unlisted opcode (R41) -/

/-- A packet whose opcode is not listed is fetched and answered BAD_OPCODE, which is counted (R41 to R43). -/
def State.unlisted (s : State) (opcode : Nat) (p : Packet) : State :=
  if (specOf opcode).isSome then s
  else if !s.canFetch opcode p then s.fetchStall p
  else (s.fetched p).finish p opcode .badOpcode [] false

/-- UNLISTED_OPCODE (R41). -/
def execUnlistedOpcode (opcode : BitVec 16) (p : Packet) (s : State) : Res :=
  .next ((s.arrive p.dt).unlisted opcode.toNat p)

/-! ### What a step applied at once does (R49, R135, R167, R212, R214, R223, R227, R263, R267, R269, R294) -/

/-- Clock output `n`: a synchronisation that is due in `s0`, right after the step, runs; any other output takes the residual (R212, R214). -/
def State.clockStep (s0 : State) (x : Int) (s : State) (n : Nat) : State :=
  if s0.syncDue n then s.syncRun n else s.outStep x n

/-- Time pulse `m`: after the acquisition step it stays low until the first whole second, after any other forward step the
crossed instants are marked (R135, R223). -/
def State.pulseStep (old : Nat) (acq : Bool) (s : State) (m : Nat) : State :=
  if acq then s.tpAcq m else s.tpStep old m

/-- Outputs and ToD messages. -/
def State.outputsStep (s : State) (old : Nat) (x : Int) (acq : Bool) : State :=
  let a := (List.range 16).foldl (State.clockStep s x) s
  let b := (List.range 4).foldl (State.pulseStep old acq) a
  (List.range 2).foldl (fun (s : State) k => s.todStep old k) b

/-- Latch instants that a forward step crosses: one latch is made of them, the others are skipped (R167). -/
def State.latchStep (s : State) (old : Nat) : State :=
  let hz := s.latchHz s.now16
  let p := sec16 / hz
  let a := max old (s.gns.lastLatch.getD 0)
  let n := s.now16 / p - a / p
  if hz = 0 || s.now16 ≤ a || n ≤ 1 || !s.ready pdGnss then s
  else
    let k := n - 1
    ({ s with gns := { s.gns with
      latchSeq := s.gns.latchSeq + BitVec.ofNat 16 k, latchSkipped := s.gns.latchSkipped + BitVec.ofNat 16 k } }).raise
      (src 6 14) 0 k

/-- Booked slots that the step has passed before their frames were released are missed (R269). -/
def State.bookingsStep (old : Nat) (s : State) (l : Nat) : State :=
  let out := (s.tlane l).wireFrame.map (·.id)
  let gone := (s.tlane l).bookings.filter fun b => decide (old < b.slot) && decide (b.slot ≤ s.now16) && out != some b.id
  gone.foldl (fun (s : State) b => s.missSlot l b) s

/-- A lane's gates, its frame on the wire and its bookings (R263, R269). -/
def State.laneStep (old : Nat) (x : Int) (s : State) (l : Nat) : State :=
  if !s.laneReady l then s else ((s.stepWire l x).gateEval l).bookingsStep old l

/-- Lanes: swaps that the step passes run with SWAP_SKEW, then gates, frames and bookings follow (R263, R267, R269). -/
def State.lanesStep (s : State) (old : Nat) (x : Int) : State :=
  (List.range 16).foldl (State.laneStep old x) (s.swapsDue true)

/-- Everything that follows a step applied at once, on its apply tick. -/
def State.stepFollows (s : State) (old : Nat) (x : Int) (acq : Bool) : State :=
  let a := s.outputsStep old (step16 x) acq
  let b := (a.lanesStep old (step16 x)).rollsDue
  ((b.leapNow).latchStep old).schedStep old

/-! ### Publication (R18) -/

/-- S has reached zero: INT_ACD_STEP_DONE, and a switch that waited for it completes (R114, R132). -/
def State.stepDone (s : State) : State := (s.raise (src 3 5)).switchDone

/-- The publications due: steps and slew quanta apply, EB_ACCORD is computed and what depends on it follows. `n` counts the
publications since the last (more than one where the event comes late). -/
def State.publish (s : State) (n : Nat) : State :=
  let old := s.now16
  let ripe := s.stepsRipe.filter (·.once)
  let a := s.applyStep n
  let b := { a with acd := { a.acd with tapReload := false, lastPub := a.acd.lastPub + 64 * n } }
  let c := b.publishEb
  let d := if ripe.isEmpty then c else c.stepFollows old (stepSum ripe) (ripe.any (·.acq))
  if s.acd.stepOut ≠ 0 && a.acd.stepOut = 0 then d.stepDone else d

/-- EB_PUBLICATION (R18): every 64 ticks. -/
def execEbPublication (dt : Nat) (s : State) : Res :=
  let s := s.advance dt
  let n := (s.ticks - s.acd.lastPub) / 64
  .next (if s.sys.inReset || !s.ready pdTime || n = 0 then s else s.publish n)

end Sys2Proof.Machine
end

