-- ==== Sys2Proof/Machine/Commands.lean ====
section
/-! DEFINITION. The command packets: one meaning for each opcode of the opcode index (R53), each the run of its own
`OpSpec` after what is due before it at its tick. -/

namespace Sys2Proof.Machine

/-- A packet reaches the command processor: its ticks pass, what is due before a command at that tick happens, and the
packet is taken (R42, R47). -/
def State.packet (s : State) (o : OpSpec) (p : Packet) : State := (s.arrive p.dt).takePacket o p

/-- A packet's meaning. -/
def runPacket (o : OpSpec) (p : Packet) (s : State) : Res := .next (s.packet o p)

/-! ### SYS commands of the command chapter -/

/-- SYS_QUERY_COUNTERS (R452): the counters are read without clearing. -/
def execSysQueryCounters (p : Packet) (s : State) : Res := runPacket specSysQueryCounters p s

/-- SYS_ECHO (R452): the payload comes back unchanged. -/
def execSysEcho (p : Packet) (s : State) : Res := runPacket specSysEcho p s

/-- SYS_SET_MBX_ROUTE (R54, R452): SEQ is kept. -/
def execSysSetMbxRoute (p : Packet) (s : State) : Res := runPacket specSysSetMbxRoute p s

/-- SYS_SET_SEM_CFG (R56, R452). -/
def execSysSetSemCfg (p : Packet) (s : State) : Res := runPacket specSysSetSemCfg p s

/-- SYS_SEM_FORCE (R56, R452). -/
def execSysSemForce (p : Packet) (s : State) : Res := runPacket specSysSemForce p s

/-- SYS_RING_CONFIG (R452). -/
def execSysRingConfig (p : Packet) (s : State) : Res := runPacket specSysRingConfig p s

/-- SYS_RING_ENABLE (R452). -/
def execSysRingEnable (p : Packet) (s : State) : Res := runPacket specSysRingEnable p s

/-- SYS_INT_ROUTE (R61, R452). -/
def execSysIntRoute (p : Packet) (s : State) : Res := runPacket specSysIntRoute p s

/-- SYS_CANCEL (R50, R452): the cancelled entry answers CANCELLED with STATUS OK. -/
def execSysCancel (p : Packet) (s : State) : Res := runPacket specSysCancel p s

/-! ### SYS commands of state, power and firmware -/

/-- SYS_QUERY_STATE (R93). -/
def execSysQueryState (p : Packet) (s : State) : Res := runPacket specSysQueryState p s

/-- SYS_SET_STATE (R71, R72, R93). -/
def execSysSetState (p : Packet) (s : State) : Res := runPacket specSysSetState p s

/-- SYS_DOMAIN_POWER (R87, R88, R93). -/
def execSysDomainPower (p : Packet) (s : State) : Res := runPacket specSysDomainPower p s

/-- SYS_SLEEP (R89, R90, R93). -/
def execSysSleep (p : Packet) (s : State) : Res := runPacket specSysSleep p s

/-- SYS_WAKE (R91, R93). -/
def execSysWake (p : Packet) (s : State) : Res := runPacket specSysWake p s

/-- SYS_RESET (R68 to R70, R93). -/
def execSysReset (p : Packet) (s : State) : Res := runPacket specSysReset p s

/-- SYS_FW_STAGE (R76, R93). -/
def execSysFwStage (p : Packet) (s : State) : Res := runPacket specSysFwStage p s

/-- SYS_FW_ACTIVATE (R77, R93). -/
def execSysFwActivate (p : Packet) (s : State) : Res := runPacket specSysFwActivate p s

/-! ### SYS commands of test access -/

/-- SYS_BLT_UNLOCK (R411). -/
def execSysBltUnlock (p : Packet) (s : State) : Res := runPacket specSysBltUnlock p s

/-- SYS_BLT_SELECT (R412). -/
def execSysBltSelect (p : Packet) (s : State) : Res := runPacket specSysBltSelect p s

/-- SYS_BIST_RUN (R416). -/
def execSysBistRun (p : Packet) (s : State) : Res := runPacket specSysBistRun p s

/-! ### REF -/

/-- REF_QUERY_SLOT (R119). -/
def execRefQuerySlot (p : Packet) (s : State) : Res := runPacket specRefQuerySlot p s

/-- REF_QUERY_MATRIX (R101, R119). -/
def execRefQueryMatrix (p : Packet) (s : State) : Res := runPacket specRefQueryMatrix p s

/-- REF_QUERY_HISTORY (R119). -/
def execRefQueryHistory (p : Packet) (s : State) : Res := runPacket specRefQueryHistory p s

/-- REF_SET_SLOT (R107, R119). -/
def execRefSetSlot (p : Packet) (s : State) : Res := runPacket specRefSetSlot p s

/-- REF_SET_QUAL (R103 to R105, R119). -/
def execRefSetQual (p : Packet) (s : State) : Res := runPacket specRefSetQual p s

/-- REF_SET_TIMERS (R109, R119): a running timer takes the new value, measured from its start. -/
def execRefSetTimers (p : Packet) (s : State) : Res := runPacket specRefSetTimers p s

/-- REF_SET_PRIORITY (R112, R119). -/
def execRefSetPriority (p : Packet) (s : State) : Res := runPacket specRefSetPriority p s

/-- REF_SELECT (R113). -/
def execRefSelect (p : Packet) (s : State) : Res := runPacket specRefSelect p s

/-- REF_CLEAR_HISTORY (R2, R110). -/
def execRefClearHistory (p : Packet) (s : State) : Res := runPacket specRefClearHistory p s

/-- REF_ENABLE (R107, R119). -/
def execRefEnable (p : Packet) (s : State) : Res := runPacket specRefEnable p s

/-- REF_SET_PTP_SLAVE (R118). -/
def execRefSetPtpSlave (p : Packet) (s : State) : Res := runPacket specRefSetPtpSlave p s

/-! ### ACD -/

/-- ACD_QUERY_TIME (R148). -/
def execAcdQueryTime (p : Packet) (s : State) : Res := runPacket specAcdQueryTime p s

/-- ACD_QUERY_SERVO (R148). -/
def execAcdQueryServo (p : Packet) (s : State) : Res := runPacket specAcdQueryServo p s

/-- ACD_SET_SERVO (R123 to R126, R451). -/
def execAcdSetServo (p : Packet) (s : State) : Res := runPacket specAcdSetServo p s

/-- ACD_SET_STEP_POLICY (R115, R133). -/
def execAcdSetStepPolicy (p : Packet) (s : State) : Res := runPacket specAcdSetStepPolicy p s

/-- ACD_SET_HOLD (R130, R131, R137). -/
def execAcdSetHold (p : Packet) (s : State) : Res := runPacket specAcdSetHold p s

/-- ACD_SET_OSC_MODEL (R129, R139, R140, R387). -/
def execAcdSetOscModel (p : Packet) (s : State) : Res := runPacket specAcdSetOscModel p s

/-- ACD_SET_TIME (R130, R148). -/
def execAcdSetTime (p : Packet) (s : State) : Res := runPacket specAcdSetTime p s

/-- ACD_ADJUST_PHASE (R132, R136). -/
def execAcdAdjustPhase (p : Packet) (s : State) : Res := runPacket specAcdAdjustPhase p s

/-- ACD_SET_UTC (R146, R147). -/
def execAcdSetUtc (p : Packet) (s : State) : Res := runPacket specAcdSetUtc p s

/-- ACD_SET_CPLL_SOURCE (R143). -/
def execAcdSetCpllSource (p : Packet) (s : State) : Res := runPacket specAcdSetCpllSource p s

/-- ACD_ENTER_DRYDOWN (R138, R142). -/
def execAcdEnterDrydown (p : Packet) (s : State) : Res := runPacket specAcdEnterDrydown p s

/-- ACD_SET_MACERATION (R145, R148). -/
def execAcdSetMaceration (p : Packet) (s : State) : Res := runPacket specAcdSetMaceration p s

/-! ### OUT -/

/-- OUT_QUERY_STATUS (R232). -/
def execOutQueryStatus (p : Packet) (s : State) : Res := runPacket specOutQueryStatus p s

/-- OUT_QUERY_ECHO (R232). -/
def execOutQueryEcho (p : Packet) (s : State) : Res := runPacket specOutQueryEcho p s

/-- OUT_SET_SYN (R208). -/
def execOutSetSyn (p : Packet) (s : State) : Res := runPacket specOutSetSyn p s

/-- OUT_SET_OUTPUT (R209). -/
def execOutSetOutput (p : Packet) (s : State) : Res := runPacket specOutSetOutput p s

/-- OUT_SYNC (R213). -/
def execOutSync (p : Packet) (s : State) : Res := runPacket specOutSync p s

/-- OUT_SET_TP (R222). -/
def execOutSetTp (p : Packet) (s : State) : Res := runPacket specOutSetTp p s

/-- OUT_SET_TOD (R224). -/
def execOutSetTod (p : Packet) (s : State) : Res := runPacket specOutSetTod p s

/-- OUT_SET_DELAY (R228). -/
def execOutSetDelay (p : Packet) (s : State) : Res := runPacket specOutSetDelay p s

/-- OUT_ENABLE (R218). -/
def execOutEnable (p : Packet) (s : State) : Res := runPacket specOutEnable p s

/-- OUT_ECHO_MEASURE (R229). -/
def execOutEchoMeasure (p : Packet) (s : State) : Res := runPacket specOutEchoMeasure p s

/-! ### TIC -/

/-- TIC_QUERY_CHANNEL (R205). -/
def execTicQueryChannel (p : Packet) (s : State) : Res := runPacket specTicQueryChannel p s

/-- TIC_QUERY_CAL (R205). -/
def execTicQueryCal (p : Packet) (s : State) : Res := runPacket specTicQueryCal p s

/-- TIC_SET_CHANNEL (R181, R188). -/
def execTicSetChannel (p : Packet) (s : State) : Res := runPacket specTicSetChannel p s

/-- TIC_SET_DELAY (R182). -/
def execTicSetDelay (p : Packet) (s : State) : Res := runPacket specTicSetDelay p s

/-- TIC_START_INTERVAL (R193). -/
def execTicStartInterval (p : Packet) (s : State) : Res := runPacket specTicStartInterval p s

/-- TIC_STREAM (R197, R198). -/
def execTicStream (p : Packet) (s : State) : Res := runPacket specTicStream p s

/-- TIC_CALIBRATE (R202). -/
def execTicCalibrate (p : Packet) (s : State) : Res := runPacket specTicCalibrate p s

/-- TIC_SUBSTITUTE (R201). -/
def execTicSubstitute (p : Packet) (s : State) : Res := runPacket specTicSubstitute p s

/-! ### GNS -/

/-- GNS_QUERY_STATUS (R179). -/
def execGnsQueryStatus (p : Packet) (s : State) : Res := runPacket specGnsQueryStatus p s

/-- GNS_QUERY_SOLUTION (R179). -/
def execGnsQuerySolution (p : Packet) (s : State) : Res := runPacket specGnsQuerySolution p s

/-- GNS_SET_PORT (R150, R178). -/
def execGnsSetPort (p : Packet) (s : State) : Res := runPacket specGnsSetPort p s

/-- GNS_SET_NOTCH (R153, R154). -/
def execGnsSetNotch (p : Packet) (s : State) : Res := runPacket specGnsSetNotch p s

/-- GNS_SET_LATCH (R164). -/
def execGnsSetLatch (p : Packet) (s : State) : Res := runPacket specGnsSetLatch p s

/-- GNS_SET_ANTENNA (R171). -/
def execGnsSetAntenna (p : Packet) (s : State) : Res := runPacket specGnsSetAntenna p s

/-- GNS_SET_CHECK (R172, R174). -/
def execGnsSetCheck (p : Packet) (s : State) : Res := runPacket specGnsSetCheck p s

/-- GNS_SPARE_BANK (R158). -/
def execGnsSpareBank (p : Packet) (s : State) : Res := runPacket specGnsSpareBank p s

/-- GNS_ACQUIRE (R156). -/
def execGnsAcquire (p : Packet) (s : State) : Res := runPacket specGnsAcquire p s

/-- GNS_TRACK (R162). -/
def execGnsTrack (p : Packet) (s : State) : Res := runPacket specGnsTrack p s

/-- GNS_RELEASE (R162). -/
def execGnsRelease (p : Packet) (s : State) : Res := runPacket specGnsRelease p s

/-- GNS_SNAPSHOT (R176). -/
def execGnsSnapshot (p : Packet) (s : State) : Res := runPacket specGnsSnapshot p s

/-! ### ETH -/

/-- ETH_QUERY_LANE (R258). -/
def execEthQueryLane (p : Packet) (s : State) : Res := runPacket specEthQueryLane p s

/-- ETH_QUERY_DELAY (R258). -/
def execEthQueryDelay (p : Packet) (s : State) : Res := runPacket specEthQueryDelay p s

/-- ETH_SET_QUAD_MODE (R235). -/
def execEthSetQuadMode (p : Packet) (s : State) : Res := runPacket specEthSetQuadMode p s

/-- ETH_SET_LANE (R236, R241). -/
def execEthSetLane (p : Packet) (s : State) : Res := runPacket specEthSetLane p s

/-- ETH_SET_DELAY (R240). -/
def execEthSetDelay (p : Packet) (s : State) : Res := runPacket specEthSetDelay p s

/-- ETH_SET_CAPTURE (R252). -/
def execEthSetCapture (p : Packet) (s : State) : Res := runPacket specEthSetCapture p s

/-- ETH_SET_CLASSIFIER (R246). -/
def execEthSetClassifier (p : Packet) (s : State) : Res := runPacket specEthSetClassifier p s

/-- ETH_LANE_ENABLE (R237, R258). -/
def execEthLaneEnable (p : Packet) (s : State) : Res := runPacket specEthLaneEnable p s

/-- ETH_SET_TAGS (R243). -/
def execEthSetTags (p : Packet) (s : State) : Res := runPacket specEthSetTags p s

/-! ### TMG -/

/-- TMG_QUERY_QUEUE (R278). -/
def execTmgQueryQueue (p : Packet) (s : State) : Res := runPacket specTmgQueryQueue p s

/-- TMG_QUERY_GCL (R278). -/
def execTmgQueryGcl (p : Packet) (s : State) : Res := runPacket specTmgQueryGcl p s

/-- TMG_SET_GCL (R262, R266). -/
def execTmgSetGcl (p : Packet) (s : State) : Res := runPacket specTmgSetGcl p s

/-- TMG_SWAP_GCL (R267). -/
def execTmgSwapGcl (p : Packet) (s : State) : Res := runPacket specTmgSwapGcl p s

/-- TMG_SET_SHAPER (R260, R270, R271). -/
def execTmgSetShaper (p : Packet) (s : State) : Res := runPacket specTmgSetShaper p s

/-- TMG_SET_POLICER (R273). -/
def execTmgSetPolicer (p : Packet) (s : State) : Res := runPacket specTmgSetPolicer p s

/-- TMG_SET_FILTER (R272, R274). -/
def execTmgSetFilter (p : Packet) (s : State) : Res := runPacket specTmgSetFilter p s

/-- TMG_SET_SAMPLING (R275). -/
def execTmgSetSampling (p : Packet) (s : State) : Res := runPacket specTmgSetSampling p s

/-! ### SVC -/

/-- SVC_QUERY_STATUS (R312). -/
def execSvcQueryStatus (p : Packet) (s : State) : Res := runPacket specSvcQueryStatus p s

/-- SVC_QUERY_CLIENT (R308, R312). -/
def execSvcQueryClient (p : Packet) (s : State) : Res := runPacket specSvcQueryClient p s

/-- SVC_SET_PTP_PORT (R283, R312). -/
def execSvcSetPtpPort (p : Packet) (s : State) : Res := runPacket specSvcSetPtpPort p s

/-- SVC_SET_PROFILE (R283, R312). -/
def execSvcSetProfile (p : Packet) (s : State) : Res := runPacket specSvcSetProfile p s

/-- SVC_SET_AUTH (R292, R294, R312). -/
def execSvcSetAuth (p : Packet) (s : State) : Res := runPacket specSvcSetAuth p s

/-- SVC_SET_NTP (R296, R300, R312). -/
def execSvcSetNtp (p : Packet) (s : State) : Res := runPacket specSvcSetNtp p s

/-- SVC_LOAD_COOKIE_KEY (R300, R312). -/
def execSvcLoadCookieKey (p : Packet) (s : State) : Res := runPacket specSvcLoadCookieKey p s

/-- SVC_RETIRE_COOKIE_KEY (R300, R312). -/
def execSvcRetireCookieKey (p : Packet) (s : State) : Res := runPacket specSvcRetireCookieKey p s

/-- SVC_SET_GATE (R288, R301 to R305, R312). -/
def execSvcSetGate (p : Packet) (s : State) : Res := runPacket specSvcSetGate p s

/-- SVC_SET_RATE_LIMIT (R287, R309, R310, R312). -/
def execSvcSetRateLimit (p : Packet) (s : State) : Res := runPacket specSvcSetRateLimit p s

/-- SVC_CLIENT_FLUSH (R309, R312). -/
def execSvcClientFlush (p : Packet) (s : State) : Res := runPacket specSvcClientFlush p s

/-- SVC_SET_BOUND_TLV (R307, R312). -/
def execSvcSetBoundTlv (p : Packet) (s : State) : Res := runPacket specSvcSetBoundTlv p s

/-! ### KEY -/

/-- KEY_QUERY_SLOTS (R355). -/
def execKeyQuerySlots (p : Packet) (s : State) : Res := runPacket specKeyQuerySlots p s

/-- KEY_QUERY_EPOCH (R355). -/
def execKeyQueryEpoch (p : Packet) (s : State) : Res := runPacket specKeyQueryEpoch p s

/-- KEY_LOAD_FLACON (R344, R345). -/
def execKeyLoadFlacon (p : Packet) (s : State) : Res := runPacket specKeyLoadFlacon p s

/-- KEY_WRAP (R342, R343). -/
def execKeyWrap (p : Packet) (s : State) : Res := runPacket specKeyWrap p s

/-- KEY_DERIVE (R346). -/
def execKeyDerive (p : Packet) (s : State) : Res := runPacket specKeyDerive p s

/-- KEY_ZERO (R341). -/
def execKeyZero (p : Packet) (s : State) : Res := runPacket specKeyZero p s

/-- KEY_EPOCH_UPDATE (R348). -/
def execKeyEpochUpdate (p : Packet) (s : State) : Res := runPacket specKeyEpochUpdate p s

/-- KEY_ATTEST (R353). -/
def execKeyAttest (p : Packet) (s : State) : Res := runPacket specKeyAttest p s

/-- KEY_PROVISION (R339, R340). -/
def execKeyProvision (p : Packet) (s : State) : Res := runPacket specKeyProvision p s

/-- KEY_LC_ADVANCE (R334). -/
def execKeyLcAdvance (p : Packet) (s : State) : Res := runPacket specKeyLcAdvance p s

/-- KEY_DEBUG_ENTER (R334, R337). -/
def execKeyDebugEnter (p : Packet) (s : State) : Res := runPacket specKeyDebugEnter p s

/-- KEY_DEBUG_EXIT (R338). -/
def execKeyDebugExit (p : Packet) (s : State) : Res := runPacket specKeyDebugExit p s

/-! ### LOG -/

/-- LOG_QUERY_STATUS (R327). -/
def execLogQueryStatus (p : Packet) (s : State) : Res := runPacket specLogQueryStatus p s

/-- LOG_QUERY_HEAD (R327). -/
def execLogQueryHead (p : Packet) (s : State) : Res := runPacket specLogQueryHead p s

/-- LOG_EXPORT_ACK (R324). -/
def execLogExportAck (p : Packet) (s : State) : Res := runPacket specLogExportAck p s

/-- LOG_SET_EXPORT (R323, R325, R327). -/
def execLogSetExport (p : Packet) (s : State) : Res := runPacket specLogSetExport p s

/-- LOG_CHECKPOINT (R318, R327). -/
def execLogCheckpoint (p : Packet) (s : State) : Res := runPacket specLogCheckpoint p s

/-- LOG_NOTE (R327). -/
def execLogNote (p : Packet) (s : State) : Res := runPacket specLogNote p s

/-! ### FLT -/

/-- FLT_QUERY (R383). -/
def execFltQuery (p : Packet) (s : State) : Res := runPacket specFltQuery p s

/-- FLT_SET_CLASS (R360). -/
def execFltSetClass (p : Packet) (s : State) : Res := runPacket specFltSetClass p s

/-- FLT_CLEAR (R359). -/
def execFltClear (p : Packet) (s : State) : Res := runPacket specFltClear p s

/-- FLT_INJECT (R362). -/
def execFltInject (p : Packet) (s : State) : Res := runPacket specFltInject p s

/-- SYS_CLEAR_SAFE (R364). -/
def execSysClearSafe (p : Packet) (s : State) : Res := runPacket specSysClearSafe p s

/-! ### PAIR -/

/-- PAIR_QUERY (R383). -/
def execPairQuery (p : Packet) (s : State) : Res := runPacket specPairQuery p s

/-- PAIR_SET_MODE (R375). -/
def execPairSetMode (p : Packet) (s : State) : Res := runPacket specPairSetMode p s

/-- PAIR_SET_CLAIM (R370, R371). -/
def execPairSetClaim (p : Packet) (s : State) : Res := runPacket specPairSetClaim p s

/-- PAIR_SET_COMPARE (R376). -/
def execPairSetCompare (p : Packet) (s : State) : Res := runPacket specPairSetCompare p s

/-- PAIR_HANDOVER (R381). -/
def execPairHandover (p : Packet) (s : State) : Res := runPacket specPairHandover p s

/-- PAIR_REJOIN (R382). -/
def execPairRejoin (p : Packet) (s : State) : Res := runPacket specPairRejoin p s

/-! ### MON, KEEP and CAL -/

/-- MON_QUERY (R406). -/
def execMonQuery (p : Packet) (s : State) : Res := runPacket specMonQuery p s

/-- KEEP_QUERY (R406). -/
def execKeepQuery (p : Packet) (s : State) : Res := runPacket specKeepQuery p s

/-- CAL_QUERY (R406). -/
def execCalQuery (p : Packet) (s : State) : Res := runPacket specCalQuery p s

/-- MON_SET_LIMITS (R386, R387). -/
def execMonSetLimits (p : Packet) (s : State) : Res := runPacket specMonSetLimits p s

/-- MON_SET_MAINS (R389, R390). -/
def execMonSetMains (p : Packet) (s : State) : Res := runPacket specMonSetMains p s

/-- KEEP_SCRUB (R399). -/
def execKeepScrub (p : Packet) (s : State) : Res := runPacket specKeepScrub p s

/-- CAL_SET_TIME (R404). -/
def execCalSetTime (p : Packet) (s : State) : Res := runPacket specCalSetTime p s

/-- CAL_SET_TRIM (R402, R403). -/
def execCalSetTrim (p : Packet) (s : State) : Res := runPacket specCalSetTrim p s

/-- CAL_SET_TAMPER (R405). -/
def execCalSetTamper (p : Packet) (s : State) : Res := runPacket specCalSetTamper p s

end Sys2Proof.Machine
end

