-- ==== Sys2Proof/Machine/PtpSlave.lean ====
section
/-! DEFINITION. The PTP slave instances as references (R118): their masters' messages, two-way estimates and loss. -/

namespace Sys2Proof.Machine

/-- The binding of instance `k`. -/
def State.ptpCfg (s : State) (k : Nat) : RefPtpCfg := Tab.get s.cfg.ref.ptp k RefPtpCfg.reset

/-- 2^`log` seconds in ticks, `log` being a message interval of IEEE 1588. -/
def logTicks (log : BitVec 8) : Nat :=
  if 0 ≤ log.toInt then sTicks * 2 ^ log.toInt.toNat else sTicks / 2 ^ log.toInt.natAbs

/-- PTP_ANNOUNCE_TIMEOUT (R118): no Announce has come for ANNOUNCE_TIMEOUT announce intervals; the master has vanished, and
the slot is lost. -/
def execPtpAnnounceTimeout (dt : Nat) (i : BitVec 2) (s : State) : Res :=
  let s := s.advance dt
  let n := 13 + i.toNat
  let q := s.slot n
  let due := decide (q.annTick + (s.ptpCfg i.toNat).announceTimeout.toNat * logTicks q.annLog ≤ s.ticks)
  .next (if !q.masterPresent || !due then s
    else
      let s1 := s.modSlot n fun q => { q with
        masterPresent := false, freeRun := true, syncRx := none, masterToUs := none, estimates := [] }
      let s2 := (s1.refHist n 12 (some (src 2 12))).refHist n 13 (some (src 2 13))
      s2.setSource n true (s2.slot n).classLimit false)

/-- An Announce of the instance's master (R118). A new master's estimates are not mixed with the old one's. -/
def State.slaveAnnounce (s : State) (n : Nat) (classMax clockClass : BitVec 8) (masterId : BitVec 64)
    (log : BitVec 8) : State :=
  let q := s.slot n
  let changed := q.masterPresent && q.masterId != masterId
  let drop := changed || !q.masterPresent
  let s1 := s.modSlot n fun q => { q with
    clockClassRx := clockClass, masterId := masterId, masterPresent := true, freeRun := q.freeRun || changed
    annTick := s.ticks, annLog := log
    syncRx := if drop then none else q.syncRx, masterToUs := if drop then none else q.masterToUs
    estimates := if drop then [] else q.estimates }
  let s2 := if changed then s1.refHist n 12 (some (src 2 12)) else s1
  s2.setSource n (s2.slot n).srcInvalid (decide (classMax < clockClass)) false

/-- A Sync received at `rx`: with its origin known, the master-to-slave time is; else its Follow_Up is awaited. -/
def RefSlot.sync (q : RefSlot) (origin : Tai) (twoStep : Bool) (rx : Int) : RefSlot :=
  if twoStep then { q with freeRun := false, syncRx := some rx, syncWait := true }
  else { q with
    freeRun := false, syncTx := origin, syncRx := some rx, syncWait := false, masterToUs := some (rx - taiNat origin) }

/-- The Follow_Up of a Sync gives its origin. -/
def RefSlot.followUp (q : RefSlot) (origin : Tai) : RefSlot :=
  match q.syncRx, q.syncWait with
  | some rx, true => { q with
      freeRun := false, syncTx := origin, syncWait := false, masterToUs := some (rx - taiNat origin) }
  | _, _ => { q with freeRun := false }

/-- A Delay_Resp completes a two-way estimate: half of what the master-to-slave time exceeds the slave-to-master time by is
the accord's lead (R97, R118). -/
def RefSlot.delayResp (q : RefSlot) (sent received : Tai) : RefSlot :=
  match q.masterToUs with
  | some d => { q with
      freeRun := false
      estimates := q.estimates ++ [Int.tdiv (d - ((taiNat received : Int) - (taiNat sent : Int))) 2] }
  | none => { q with freeRun := false }

/-- PTP_SLAVE_MESSAGE (R84, R118, R281): a message the lane of instance `k` receives, heard while the lane is active; where
the SPP that SLAVE_SPP of its lane names holds a key, only one that verifies under it counts. -/
def execPtpSlaveMessage (dt : Nat) (i : BitVec 2) (auth : Bool) (msg : SlaveMsg) (s : State) : Res :=
  let s := s.advance dt
  let n := 13 + i.toNat
  let c := s.ptpCfg i.toNat
  let port := Tab.get s.cfg.svc.ports c.lane.toNat PortCfg.reset
  let k := Tab.get s.cfg.svc.spp port.slaveSpp.toNat SppCfg.reset
  .next (if !c.enable || !s.laneActive c.lane.toNat || !s.ready pdEngine || ((k.aId != 0 || k.bId != 0) && !auth) then s
    else match msg with
      | .announce class_ id_ log => s.slaveAnnounce n c.classMax class_ id_ log
      | .sync origin twoStep phase =>
        if !(s.slot n).masterPresent then s
        else
          let rx : Int := taiNat (s.rxStamp c.lane.toNat phase).time
          s.modSlot n fun q => q.sync origin twoStep rx
      | .followUp origin => if (s.slot n).masterPresent then s.modSlot n fun q => q.followUp origin else s
      | .delayResp sent received =>
        if (s.slot n).masterPresent then s.modSlot n fun q => q.delayResp sent received else s)

end Sys2Proof.Machine
end

