-- ==== Sys2Proof/Machine/Dispatch.lean ====
section
/-! DEFINITION. The dispatch: one arm for each command. -/

namespace Sys2Proof.Machine

def exec (i : Instr) (s : State) : Host.Outcome State Fault Refusal :=
  match i with
  | .sysQueryState p => Sys2Proof.Machine.execSysQueryState p s
  | .sysQueryCounters p => Sys2Proof.Machine.execSysQueryCounters p s
  | .sysEcho p => Sys2Proof.Machine.execSysEcho p s
  | .sysSetState p => Sys2Proof.Machine.execSysSetState p s
  | .sysClearSafe p => Sys2Proof.Machine.execSysClearSafe p s
  | .sysDomainPower p => Sys2Proof.Machine.execSysDomainPower p s
  | .sysSleep p => Sys2Proof.Machine.execSysSleep p s
  | .sysWake p => Sys2Proof.Machine.execSysWake p s
  | .sysReset p => Sys2Proof.Machine.execSysReset p s
  | .sysFwStage p => Sys2Proof.Machine.execSysFwStage p s
  | .sysFwActivate p => Sys2Proof.Machine.execSysFwActivate p s
  | .sysSetMbxRoute p => Sys2Proof.Machine.execSysSetMbxRoute p s
  | .sysSetSemCfg p => Sys2Proof.Machine.execSysSetSemCfg p s
  | .sysSemForce p => Sys2Proof.Machine.execSysSemForce p s
  | .sysRingConfig p => Sys2Proof.Machine.execSysRingConfig p s
  | .sysRingEnable p => Sys2Proof.Machine.execSysRingEnable p s
  | .sysIntRoute p => Sys2Proof.Machine.execSysIntRoute p s
  | .sysCancel p => Sys2Proof.Machine.execSysCancel p s
  | .sysBltUnlock p => Sys2Proof.Machine.execSysBltUnlock p s
  | .sysBltSelect p => Sys2Proof.Machine.execSysBltSelect p s
  | .sysBistRun p => Sys2Proof.Machine.execSysBistRun p s
  | .refQuerySlot p => Sys2Proof.Machine.execRefQuerySlot p s
  | .refQueryMatrix p => Sys2Proof.Machine.execRefQueryMatrix p s
  | .refQueryHistory p => Sys2Proof.Machine.execRefQueryHistory p s
  | .refSetSlot p => Sys2Proof.Machine.execRefSetSlot p s
  | .refSetQual p => Sys2Proof.Machine.execRefSetQual p s
  | .refSetTimers p => Sys2Proof.Machine.execRefSetTimers p s
  | .refSetPriority p => Sys2Proof.Machine.execRefSetPriority p s
  | .refSelect p => Sys2Proof.Machine.execRefSelect p s
  | .refClearHistory p => Sys2Proof.Machine.execRefClearHistory p s
  | .refEnable p => Sys2Proof.Machine.execRefEnable p s
  | .refSetPtpSlave p => Sys2Proof.Machine.execRefSetPtpSlave p s
  | .acdQueryTime p => Sys2Proof.Machine.execAcdQueryTime p s
  | .acdQueryServo p => Sys2Proof.Machine.execAcdQueryServo p s
  | .acdSetServo p => Sys2Proof.Machine.execAcdSetServo p s
  | .acdSetStepPolicy p => Sys2Proof.Machine.execAcdSetStepPolicy p s
  | .acdSetHold p => Sys2Proof.Machine.execAcdSetHold p s
  | .acdSetOscModel p => Sys2Proof.Machine.execAcdSetOscModel p s
  | .acdSetTime p => Sys2Proof.Machine.execAcdSetTime p s
  | .acdAdjustPhase p => Sys2Proof.Machine.execAcdAdjustPhase p s
  | .acdSetUtc p => Sys2Proof.Machine.execAcdSetUtc p s
  | .acdSetCpllSource p => Sys2Proof.Machine.execAcdSetCpllSource p s
  | .acdEnterDrydown p => Sys2Proof.Machine.execAcdEnterDrydown p s
  | .acdSetMaceration p => Sys2Proof.Machine.execAcdSetMaceration p s
  | .outQueryStatus p => Sys2Proof.Machine.execOutQueryStatus p s
  | .outQueryEcho p => Sys2Proof.Machine.execOutQueryEcho p s
  | .outSetSyn p => Sys2Proof.Machine.execOutSetSyn p s
  | .outSetOutput p => Sys2Proof.Machine.execOutSetOutput p s
  | .outSync p => Sys2Proof.Machine.execOutSync p s
  | .outSetTp p => Sys2Proof.Machine.execOutSetTp p s
  | .outSetTod p => Sys2Proof.Machine.execOutSetTod p s
  | .outEchoMeasure p => Sys2Proof.Machine.execOutEchoMeasure p s
  | .outSetDelay p => Sys2Proof.Machine.execOutSetDelay p s
  | .outEnable p => Sys2Proof.Machine.execOutEnable p s
  | .ticQueryChannel p => Sys2Proof.Machine.execTicQueryChannel p s
  | .ticQueryCal p => Sys2Proof.Machine.execTicQueryCal p s
  | .ticSetChannel p => Sys2Proof.Machine.execTicSetChannel p s
  | .ticStartInterval p => Sys2Proof.Machine.execTicStartInterval p s
  | .ticStream p => Sys2Proof.Machine.execTicStream p s
  | .ticCalibrate p => Sys2Proof.Machine.execTicCalibrate p s
  | .ticSubstitute p => Sys2Proof.Machine.execTicSubstitute p s
  | .ticSetDelay p => Sys2Proof.Machine.execTicSetDelay p s
  | .gnsQueryStatus p => Sys2Proof.Machine.execGnsQueryStatus p s
  | .gnsQuerySolution p => Sys2Proof.Machine.execGnsQuerySolution p s
  | .gnsSetPort p => Sys2Proof.Machine.execGnsSetPort p s
  | .gnsSetNotch p => Sys2Proof.Machine.execGnsSetNotch p s
  | .gnsAcquire p => Sys2Proof.Machine.execGnsAcquire p s
  | .gnsTrack p => Sys2Proof.Machine.execGnsTrack p s
  | .gnsRelease p => Sys2Proof.Machine.execGnsRelease p s
  | .gnsSetLatch p => Sys2Proof.Machine.execGnsSetLatch p s
  | .gnsSnapshot p => Sys2Proof.Machine.execGnsSnapshot p s
  | .gnsSetAntenna p => Sys2Proof.Machine.execGnsSetAntenna p s
  | .gnsSetCheck p => Sys2Proof.Machine.execGnsSetCheck p s
  | .gnsSpareBank p => Sys2Proof.Machine.execGnsSpareBank p s
  | .ethQueryLane p => Sys2Proof.Machine.execEthQueryLane p s
  | .ethQueryDelay p => Sys2Proof.Machine.execEthQueryDelay p s
  | .ethSetQuadMode p => Sys2Proof.Machine.execEthSetQuadMode p s
  | .ethSetLane p => Sys2Proof.Machine.execEthSetLane p s
  | .ethSetDelay p => Sys2Proof.Machine.execEthSetDelay p s
  | .ethSetCapture p => Sys2Proof.Machine.execEthSetCapture p s
  | .ethSetClassifier p => Sys2Proof.Machine.execEthSetClassifier p s
  | .ethLaneEnable p => Sys2Proof.Machine.execEthLaneEnable p s
  | .ethSetTags p => Sys2Proof.Machine.execEthSetTags p s
  | .tmgQueryQueue p => Sys2Proof.Machine.execTmgQueryQueue p s
  | .tmgQueryGcl p => Sys2Proof.Machine.execTmgQueryGcl p s
  | .tmgSetGcl p => Sys2Proof.Machine.execTmgSetGcl p s
  | .tmgSwapGcl p => Sys2Proof.Machine.execTmgSwapGcl p s
  | .tmgSetShaper p => Sys2Proof.Machine.execTmgSetShaper p s
  | .tmgSetPolicer p => Sys2Proof.Machine.execTmgSetPolicer p s
  | .tmgSetFilter p => Sys2Proof.Machine.execTmgSetFilter p s
  | .tmgSetSampling p => Sys2Proof.Machine.execTmgSetSampling p s
  | .svcQueryStatus p => Sys2Proof.Machine.execSvcQueryStatus p s
  | .svcQueryClient p => Sys2Proof.Machine.execSvcQueryClient p s
  | .svcSetPtpPort p => Sys2Proof.Machine.execSvcSetPtpPort p s
  | .svcSetProfile p => Sys2Proof.Machine.execSvcSetProfile p s
  | .svcSetAuth p => Sys2Proof.Machine.execSvcSetAuth p s
  | .svcSetNtp p => Sys2Proof.Machine.execSvcSetNtp p s
  | .svcLoadCookieKey p => Sys2Proof.Machine.execSvcLoadCookieKey p s
  | .svcRetireCookieKey p => Sys2Proof.Machine.execSvcRetireCookieKey p s
  | .svcSetGate p => Sys2Proof.Machine.execSvcSetGate p s
  | .svcSetRateLimit p => Sys2Proof.Machine.execSvcSetRateLimit p s
  | .svcClientFlush p => Sys2Proof.Machine.execSvcClientFlush p s
  | .svcSetBoundTlv p => Sys2Proof.Machine.execSvcSetBoundTlv p s
  | .keyQuerySlots p => Sys2Proof.Machine.execKeyQuerySlots p s
  | .keyQueryEpoch p => Sys2Proof.Machine.execKeyQueryEpoch p s
  | .keyLoadFlacon p => Sys2Proof.Machine.execKeyLoadFlacon p s
  | .keyWrap p => Sys2Proof.Machine.execKeyWrap p s
  | .keyDerive p => Sys2Proof.Machine.execKeyDerive p s
  | .keyZero p => Sys2Proof.Machine.execKeyZero p s
  | .keyEpochUpdate p => Sys2Proof.Machine.execKeyEpochUpdate p s
  | .keyAttest p => Sys2Proof.Machine.execKeyAttest p s
  | .keyProvision p => Sys2Proof.Machine.execKeyProvision p s
  | .keyLcAdvance p => Sys2Proof.Machine.execKeyLcAdvance p s
  | .keyDebugEnter p => Sys2Proof.Machine.execKeyDebugEnter p s
  | .keyDebugExit p => Sys2Proof.Machine.execKeyDebugExit p s
  | .logQueryStatus p => Sys2Proof.Machine.execLogQueryStatus p s
  | .logQueryHead p => Sys2Proof.Machine.execLogQueryHead p s
  | .logExportAck p => Sys2Proof.Machine.execLogExportAck p s
  | .logSetExport p => Sys2Proof.Machine.execLogSetExport p s
  | .logCheckpoint p => Sys2Proof.Machine.execLogCheckpoint p s
  | .logNote p => Sys2Proof.Machine.execLogNote p s
  | .fltQuery p => Sys2Proof.Machine.execFltQuery p s
  | .fltSetClass p => Sys2Proof.Machine.execFltSetClass p s
  | .fltClear p => Sys2Proof.Machine.execFltClear p s
  | .fltInject p => Sys2Proof.Machine.execFltInject p s
  | .pairQuery p => Sys2Proof.Machine.execPairQuery p s
  | .pairSetMode p => Sys2Proof.Machine.execPairSetMode p s
  | .pairSetClaim p => Sys2Proof.Machine.execPairSetClaim p s
  | .pairHandover p => Sys2Proof.Machine.execPairHandover p s
  | .pairSetCompare p => Sys2Proof.Machine.execPairSetCompare p s
  | .pairRejoin p => Sys2Proof.Machine.execPairRejoin p s
  | .monQuery p => Sys2Proof.Machine.execMonQuery p s
  | .keepQuery p => Sys2Proof.Machine.execKeepQuery p s
  | .calQuery p => Sys2Proof.Machine.execCalQuery p s
  | .monSetLimits p => Sys2Proof.Machine.execMonSetLimits p s
  | .monSetMains p => Sys2Proof.Machine.execMonSetMains p s
  | .keepScrub p => Sys2Proof.Machine.execKeepScrub p s
  | .calSetTime p => Sys2Proof.Machine.execCalSetTime p s
  | .calSetTrim p => Sys2Proof.Machine.execCalSetTrim p s
  | .calSetTamper p => Sys2Proof.Machine.execCalSetTamper p s
  | .scheduledCommandDue dt => Sys2Proof.Machine.execScheduledCommandDue dt s
  | .replyDelivery dt => Sys2Proof.Machine.execReplyDelivery dt s
  | .ringProdWrite dt m ring value => Sys2Proof.Machine.execRingProdWrite dt m ring value s
  | .ringConsWrite dt m ring value => Sys2Proof.Machine.execRingConsWrite dt m ring value s
  | .ringSlotWrite dt ring => Sys2Proof.Machine.execRingSlotWrite dt ring s
  | .txDescriptorFetch dt lane desc frame => Sys2Proof.Machine.execTxDescriptorFetch dt lane desc frame s
  | .msiModerationTimer dt ring => Sys2Proof.Machine.execMsiModerationTimer dt ring s
  | .mbxSend dt m n => Sys2Proof.Machine.execMbxSend dt m n s
  | .mbxDeliver dt n => Sys2Proof.Machine.execMbxDeliver dt n s
  | .mbxTake dt m n => Sys2Proof.Machine.execMbxTake dt m n s
  | .semRead dt m sem => Sys2Proof.Machine.execSemRead dt m sem s
  | .semRelease dt m sem => Sys2Proof.Machine.execSemRelease dt m sem s
  | .queuePop dt read => Sys2Proof.Machine.execQueuePop dt read s
  | .rcCounterRead dt read => Sys2Proof.Machine.execRcCounterRead dt read s
  | .shadowLatchRead dt read => Sys2Proof.Machine.execShadowLatchRead dt read s
  | .intStatusW1c dt write => Sys2Proof.Machine.execIntStatusW1c dt write s
  | .registerWrite dt write => Sys2Proof.Machine.execRegisterWrite dt write s
  | .pcieUnsupportedAccess dt write addr size => Sys2Proof.Machine.execPcieUnsupportedAccess dt write addr size s
  | .acdSteerWrite dt m value => Sys2Proof.Machine.execAcdSteerWrite dt m value s
  | .gnsNcoWrite dt m k carrier value n => Sys2Proof.Machine.execGnsNcoWrite dt m k carrier value n s
  | .gnsTrkStateWrite dt m k codeLock carrLock bitSync cn0 slip => Sys2Proof.Machine.execGnsTrkStateWrite dt m k codeLock carrLock bitSync cn0 slip s
  | .gnsNavPush dt m k word ago => Sys2Proof.Machine.execGnsNavPush dt m k word ago s
  | .gnsSolWrite dt m valid nsv snap offset unc => Sys2Proof.Machine.execGnsSolWrite dt m valid nsv snap offset unc s
  | .porNAssert dt low => Sys2Proof.Machine.execPorNAssert dt low s
  | .railMonitorReset dt out => Sys2Proof.Machine.execRailMonitorReset dt out s
  | .resetNAssert dt low => Sys2Proof.Machine.execResetNAssert dt low s
  | .resetRelease dt => Sys2Proof.Machine.execResetRelease dt s
  | .strapSample dt => Sys2Proof.Machine.execStrapSample dt s
  | .engineBootPowerStart dt => Sys2Proof.Machine.execEngineBootPowerStart dt s
  | .bootImageCheck dt flashA flashB => Sys2Proof.Machine.execBootImageCheck dt flashA flashB s
  | .bootComplete dt keep => Sys2Proof.Machine.execBootComplete dt keep s
  | .autoRun dt => Sys2Proof.Machine.execAutoRun dt s
  | .domainReady dt d banks => Sys2Proof.Machine.execDomainReady dt d banks s
  | .domainOff dt d => Sys2Proof.Machine.execDomainOff dt d s
  | .wakeNEdge dt => Sys2Proof.Machine.execWakeNEdge dt s
  | .wakeComplete dt flash => Sys2Proof.Machine.execWakeComplete dt flash s
  | .perstNAssert dt low => Sys2Proof.Machine.execPerstNAssert dt low s
  | .pcieFlr dt => Sys2Proof.Machine.execPcieFlr dt s
  | .pcieLinkLoss dt => Sys2Proof.Machine.execPcieLinkLoss dt s
  | .accordSeed dt => Sys2Proof.Machine.execAccordSeed dt s
  | .ocxoPresent dt => Sys2Proof.Machine.execOcxoPresent dt s
  | .cpllLock dt => Sys2Proof.Machine.execCpllLock dt s
  | .cpllLoss dt => Sys2Proof.Machine.execCpllLoss dt s
  | .macerationEnd dt => Sys2Proof.Machine.execMacerationEnd dt s
  | .ebPublication dt => Sys2Proof.Machine.execEbPublication dt s
  | .timeBusApply dt => Sys2Proof.Machine.execTimeBusApply dt s
  | .timeBusCheck dt tap value => Sys2Proof.Machine.execTimeBusCheck dt tap value s
  | .bridgeClockLoss dt => Sys2Proof.Machine.execBridgeClockLoss dt s
  | .timeBusError dt => Sys2Proof.Machine.execTimeBusError dt s
  | .bridgeMeasure dt skew => Sys2Proof.Machine.execBridgeMeasure dt skew s
  | .servoTimeout dt => Sys2Proof.Machine.execServoTimeout dt s
  | .accordReEntry dt => Sys2Proof.Machine.execAccordReEntry dt s
  | .leapApply dt => Sys2Proof.Machine.execLeapApply dt s
  | .faultAssert dt src inst => Sys2Proof.Machine.execFaultAssert dt src inst s
  | .collectorSelfFail dt => Sys2Proof.Machine.execCollectorSelfFail dt s
  | .wardenWdogExpiry dt => Sys2Proof.Machine.execWardenWdogExpiry dt s
  | .refEdge dt slot phase cycles => Sys2Proof.Machine.execRefEdge dt slot phase cycles s
  | .refTodMessage dt slot phase second => Sys2Proof.Machine.execRefTodMessage dt slot phase second s
  | .refOffsetDelivery dt m slot offset eSrc => Sys2Proof.Machine.execRefOffsetDelivery dt m slot offset eSrc s
  | .refLosTimeout dt slot => Sys2Proof.Machine.execRefLosTimeout dt slot s
  | .holdoffExpiry dt slot => Sys2Proof.Machine.execHoldoffExpiry dt slot s
  | .waitExpiry dt slot => Sys2Proof.Machine.execWaitExpiry dt slot s
  | .refSelectTick dt => Sys2Proof.Machine.execRefSelectTick dt s
  | .ptpAnnounceTimeout dt k => Sys2Proof.Machine.execPtpAnnounceTimeout dt k s
  | .gnssClkLoss dt n => Sys2Proof.Machine.execGnssClkLoss dt n s
  | .gnssClkMeasure dt edges => Sys2Proof.Machine.execGnssClkMeasure dt edges s
  | .notchDetect dt tones => Sys2Proof.Machine.execNotchDetect dt tones s
  | .notchRelease dt n => Sys2Proof.Machine.execNotchRelease dt n s
  | .jamWarnChange dt pre post => Sys2Proof.Machine.execJamWarnChange dt pre post s
  | .acqPass dt edge peaks => Sys2Proof.Machine.execAcqPass dt edge peaks s
  | .gnsTrackStart dt k n => Sys2Proof.Machine.execGnsTrackStart dt k n s
  | .gnsDump dt k n accum => Sys2Proof.Machine.execGnsDump dt k n accum s
  | .gnsLatch dt n edge => Sys2Proof.Machine.execGnsLatch dt n edge s
  | .gnsSolTimeout dt => Sys2Proof.Machine.execGnsSolTimeout dt s
  | .snapshotStart dt edge => Sys2Proof.Machine.execSnapshotStart dt edge s
  | .snapshotDone dt samples => Sys2Proof.Machine.execSnapshotDone dt samples s
  | .ticEdge dt ch falling fine badCode other => Sys2Proof.Machine.execTicEdge dt ch falling fine badCode other s
  | .ticPresenceTimeout dt ch => Sys2Proof.Machine.execTicPresenceTimeout dt ch s
  | .ticIntervalTimeout dt ch => Sys2Proof.Machine.execTicIntervalTimeout dt ch s
  | .ticCoarseWrap dt => Sys2Proof.Machine.execTicCoarseWrap dt s
  | .ticWarmupEnd dt c => Sys2Proof.Machine.execTicWarmupEnd dt c s
  | .ticCalDone dt c calUnc ssRms gainDev segDev points => Sys2Proof.Machine.execTicCalDone dt c calUnc ssRms gainDev segDev points s
  | .ticRecalTrigger dt c => Sys2Proof.Machine.execTicRecalTrigger dt c s
  | .ticSubstHandover dt sp => Sys2Proof.Machine.execTicSubstHandover dt sp s
  | .ticEticUpdate dt => Sys2Proof.Machine.execTicEticUpdate dt s
  | .synLock dt k => Sys2Proof.Machine.execSynLock dt k s
  | .synUnlock dt k => Sys2Proof.Machine.execSynUnlock dt k s
  | .outputStart dt n => Sys2Proof.Machine.execOutputStart dt n s
  | .alignerCompare dt n errPs => Sys2Proof.Machine.execAlignerCompare dt n errPs s
  | .glideEnd dt n => Sys2Proof.Machine.execGlideEnd dt n s
  | .alignHoldTimer dt n => Sys2Proof.Machine.execAlignHoldTimer dt n s
  | .outSyncExecute dt => Sys2Proof.Machine.execOutSyncExecute dt s
  | .tpPulse dt m => Sys2Proof.Machine.execTpPulse dt m s
  | .tpPulseEnd dt m => Sys2Proof.Machine.execTpPulseEnd dt m s
  | .todMessage dt k => Sys2Proof.Machine.execTodMessage dt k s
  | .echoDone dt good meanFs sigma => Sys2Proof.Machine.execEchoDone dt good meanFs sigma s
  | .frameReceive dt lane phase f => Sys2Proof.Machine.execFrameReceive dt lane phase f s
  | .frameRelease dt lane phase => Sys2Proof.Machine.execFrameRelease dt lane phase s
  | .txComplete dt lane => Sys2Proof.Machine.execTxComplete dt lane s
  | .linkUp dt lane rxPhasePs => Sys2Proof.Machine.execLinkUp dt lane rxPhasePs s
  | .linkDown dt lane => Sys2Proof.Machine.execLinkDown dt lane s
  | .quadReady dt q => Sys2Proof.Machine.execQuadReady dt q s
  | .captureIntervalOpen dt lane => Sys2Proof.Machine.execCaptureIntervalOpen dt lane s
  | .captureIntervalTimeout dt lane => Sys2Proof.Machine.execCaptureIntervalTimeout dt lane s
  | .captureRootReady dt lane => Sys2Proof.Machine.execCaptureRootReady dt lane s
  | .captureSuperRoot dt lane => Sys2Proof.Machine.execCaptureSuperRoot dt lane s
  | .captureLossRecord dt lane => Sys2Proof.Machine.execCaptureLossRecord dt lane s
  | .captureResume dt lane => Sys2Proof.Machine.execCaptureResume dt lane s
  | .gateEntryChange dt lane => Sys2Proof.Machine.execGateEntryChange dt lane s
  | .gclSwap dt lane => Sys2Proof.Machine.execGclSwap dt lane s
  | .shaperUpdate dt => Sys2Proof.Machine.execShaperUpdate dt s
  | .policerAccrue dt => Sys2Proof.Machine.execPolicerAccrue dt s
  | .queueSample dt => Sys2Proof.Machine.execQueueSample dt s
  | .commitSlotCheck dt lane => Sys2Proof.Machine.execCommitSlotCheck dt lane s
  | .commitDecision dt lane residualPs => Sys2Proof.Machine.execCommitDecision dt lane residualPs s
  | .ptpDelayReq dt lane phase r => Sys2Proof.Machine.execPtpDelayReq dt lane phase r s
  | .ptpUnicastRequest dt lane r => Sys2Proof.Machine.execPtpUnicastRequest dt lane r s
  | .ptpUnicastCancel dt lane r => Sys2Proof.Machine.execPtpUnicastCancel dt lane r s
  | .ntpRequest dt lane phase r => Sys2Proof.Machine.execNtpRequest dt lane phase r s
  | .ntsRequest dt lane phase r => Sys2Proof.Machine.execNtsRequest dt lane phase r s
  | .ptpSyncInterval dt lane dst => Sys2Proof.Machine.execPtpSyncInterval dt lane dst s
  | .ptpFollowUp dt lane => Sys2Proof.Machine.execPtpFollowUp dt lane s
  | .ptpAnnounceInterval dt lane dst => Sys2Proof.Machine.execPtpAnnounceInterval dt lane dst s
  | .grantExpiry dt idx gType => Sys2Proof.Machine.execGrantExpiry dt idx gType s
  | .keyRoll dt spp => Sys2Proof.Machine.execKeyRoll dt spp s
  | .acceptOldExpiry dt spp => Sys2Proof.Machine.execAcceptOldExpiry dt spp s
  | .clientAgeExpiry dt idx => Sys2Proof.Machine.execClientAgeExpiry dt idx s
  | .logSecondTick dt keepFail => Sys2Proof.Machine.execLogSecondTick dt keepFail s
  | .logSignatureDone dt r s_ => Sys2Proof.Machine.execLogSignatureDone dt r s_ s
  | .keyOperationDone dt ok => Sys2Proof.Machine.execKeyOperationDone dt ok s
  | .tamperAssert dt src on => Sys2Proof.Machine.execTamperAssert dt src on s
  | .benitTimingFrameSend dt => Sys2Proof.Machine.execBenitTimingFrameSend dt s
  | .benitTimingFrame dt lane0 lane1 f => Sys2Proof.Machine.execBenitTimingFrame dt lane0 lane1 f s
  | .benitSafeNotice dt => Sys2Proof.Machine.execBenitSafeNotice dt s
  | .benitOutBadNotice dt target bad => Sys2Proof.Machine.execBenitOutBadNotice dt target bad s
  | .benitHandoverNotice dt at_ => Sys2Proof.Machine.execBenitHandoverNotice dt at_ s
  | .benitRejoinNotice dt => Sys2Proof.Machine.execBenitRejoinNotice dt s
  | .benitLinkUp dt lane side => Sys2Proof.Machine.execBenitLinkUp dt lane side s
  | .benitLinkLoss dt => Sys2Proof.Machine.execBenitLinkLoss dt s
  | .pairFirstClaim dt => Sys2Proof.Machine.execPairFirstClaim dt s
  | .claimRoundStart dt => Sys2Proof.Machine.execClaimRoundStart dt s
  | .claimSofDetect dt => Sys2Proof.Machine.execClaimSofDetect dt s
  | .claimRoundEnd dt peer testLow endLow => Sys2Proof.Machine.execClaimRoundEnd dt peer testLow endLow s
  | .handoverInstant dt => Sys2Proof.Machine.execHandoverInstant dt s
  | .ownLeaseLapse dt => Sys2Proof.Machine.execOwnLeaseLapse dt s
  | .pairHandoverExecute dt => Sys2Proof.Machine.execPairHandoverExecute dt s
  | .pairCompareWindow dt e => Sys2Proof.Machine.execPairCompareWindow dt e s
  | .healthBitSet dt b => Sys2Proof.Machine.execHealthBitSet dt b s
  | .standbyCalTest dt bad => Sys2Proof.Machine.execStandbyCalTest dt bad s
  | .supplySample dt mv => Sys2Proof.Machine.execSupplySample dt mv s
  | .supplyWarningChange dt r => Sys2Proof.Machine.execSupplyWarningChange dt r s
  | .tempSample dt t => Sys2Proof.Machine.execTempSample dt t s
  | .mainsHalfCycle dt rmsUv => Sys2Proof.Machine.execMainsHalfCycle dt rmsUv s
  | .mainsCrossing dt phase => Sys2Proof.Machine.execMainsCrossing dt phase s
  | .mainsGapTimeout dt => Sys2Proof.Machine.execMainsGapTimeout dt s
  | .mainsRangeTimer dt => Sys2Proof.Machine.execMainsRangeTimer dt s
  | .pfwPinChange dt low => Sys2Proof.Machine.execPfwPinChange dt low s
  | .pfwClear dt => Sys2Proof.Machine.execPfwClear dt s
  | .rtcStop dt => Sys2Proof.Machine.execRtcStop dt s
  | .calSync dt => Sys2Proof.Machine.execCalSync dt s
  | .calAutoTrim dt => Sys2Proof.Machine.execCalAutoTrim dt s
  | .keepAutoScrub dt => Sys2Proof.Machine.execKeepAutoScrub dt s
  | .keepScrubDone dt r => Sys2Proof.Machine.execKeepScrubDone dt r s
  | .fwStageDone dt image dmaError powerFail => Sys2Proof.Machine.execFwStageDone dt image dmaError powerFail s
  | .bistDone dt fail => Sys2Proof.Machine.execBistDone dt fail s
  | .tapInstruction dt code => Sys2Proof.Machine.execTapInstruction dt code s
  | .unlistedOpcode opcode p => Sys2Proof.Machine.execUnlistedOpcode opcode p s
  | .gnssClkPresent dt => Sys2Proof.Machine.execGnssClkPresent dt s
  | .atomPresent dt => Sys2Proof.Machine.execAtomPresent dt s
  | .oscillatorAbsent dt atom => Sys2Proof.Machine.execOscillatorAbsent dt atom s
  | .pcieLinkUp dt => Sys2Proof.Machine.execPcieLinkUp dt s
  | .dmaTransferError dt ring what => Sys2Proof.Machine.execDmaTransferError dt ring what s
  | .ringStallTimeout dt ring => Sys2Proof.Machine.execRingStallTimeout dt ring s
  | .benitLaneDown dt lane => Sys2Proof.Machine.execBenitLaneDown dt lane s
  | .pdVbatPowerLoss dt => Sys2Proof.Machine.execPdVbatPowerLoss dt s
  | .tapTestLogicReset dt => Sys2Proof.Machine.execTapTestLogicReset dt s
  | .collectorSelfRecover dt => Sys2Proof.Machine.execCollectorSelfRecover dt s
  | .gnssFeEnLead dt => Sys2Proof.Machine.execGnssFeEnLead dt s
  | .ptpSlaveMessage dt k auth msg => Sys2Proof.Machine.execPtpSlaveMessage dt k auth msg s

end Sys2Proof.Machine
end

