-- ==== Sys2Proof/Machine/Balls.lean ====
section
/-! DEFINITION. The package's balls (R420 to R424): which net each carries, the type and power domain of every signal group,
and the level it takes in the present state (R62, R73, R92, R218, R220, R363, R365, R374, R409, R412). -/

namespace Sys2Proof.Machine

/-! ### Signals -/

/-- A signal of the package (R422); of a pair, `n` names the _N ball. -/
inductive Signal where
  | ethRx (l : Nat) (n : Bool) | ethTx (l : Nat) (n : Bool) | benitRx (k : Nat) (n : Bool) | benitTx (k : Nat) (n : Bool)
  | gnssD (k : Nat) | gnssClk | gnssFeEn | pcieRefclk (n : Bool) | perstN | pcieRx (k : Nat) (n : Bool)
  | pcieTx (k : Nat) (n : Bool) | spiCsN | spiSclk | spiMosi | spiMiso | i2cScl | i2cSda | intN | alive | porN | resetN
  | wakeN | pfwN | i2cAddr (k : Nat) | pairSide | claimN | qspiCsN | qspiSclk | qspiIo (k : Nat) | trstN | tck | tms | tdi
  | tdo | blt (n : Bool) | bltAux | mains (n : Bool) | tdiode (k : Nat) (n : Bool) | tampIn (k : Nat)
  | ticIn (k : Nat) (n : Bool) | rtcXin | rtcXout | atomIn (n : Bool) | out (k : Nat) (n : Bool) | tp (m : Nat)
  | tod (k : Nat) | refIn (k : Nat) (n : Bool) | ocxoIn (n : Bool)
deriving DecidableEq, Repr

/-- What a ball carries (R421, R422). -/
inductive BallNet where
  | vss | vddCore | vddSram | vddAna | vddSd09 | vddSd12 | vddIo | vddIo33 | vbat | signal (x : Signal)
deriving DecidableEq, Repr

/-- The row letters in the order of their index, from 1 (R420). -/
def rowNames : List String :=
  ["A", "B", "C", "D", "E", "F", "G", "H", "J", "K", "L", "M", "N", "P", "T", "U", "V", "W", "Y"] ++
    ["AA", "AB", "AC", "AD", "AE", "AF", "AG", "AH", "AJ", "AK", "AL", "AM", "AN", "AP", "AT", "AU", "AV", "AW", "AY"] ++
    ["BA", "BB", "BC"]

/-- Number of the pair whose balls stand at columns 3 + 3k and 4 + 3k, and whether this is its second ball. -/
def pairAt (c : Nat) : Option (Nat × Bool) :=
  if c % 3 = 0 ∧ 3 ≤ c then some ((c - 3) / 3, false)
  else if c % 3 = 1 ∧ 4 ≤ c then some ((c - 4) / 3, true) else none

/-- Row F: four receivers, the Benit receivers, four transmitters and the Benit transmitters. -/
def rowF (k : Nat) (n : Bool) : Option Signal :=
  if k < 4 then some (.ethRx (12 + k) n)
  else if k < 6 then some (.benitRx (k - 4) n)
  else if k < 10 then some (.ethTx (8 + (k - 6) + 4) n)
  else if k < 12 then some (.benitTx (k - 10) n) else none

/-- Number and ball of a PCIe lane by its row: P at row index 11 + 3n, N at 12 + 3n. -/
def pcieAt (r : Nat) : Option (Nat × Bool) :=
  if 11 ≤ r ∧ r ≤ 33 then
    if (r - 11) % 3 = 0 then some ((r - 11) / 3, false)
    else if (r - 11) % 3 = 1 then some ((r - 11) / 3, true) else none
  else none

/-- The signals of the west, columns 1 to 6 (R422). -/
def westAt (r c : Nat) : Option Signal :=
  if r = 7 then some (.gnssD (c - 1))
  else if r = 8 then
    match c with
    | 1 => some (.gnssD 6)
    | 2 => some (.gnssD 7)
    | 4 => some .gnssClk
    | 6 => some .gnssFeEn
    | _ => none
  else if c = 6 then
    (if r = 10 then some (.pcieRefclk false) else if r = 11 then some (.pcieRefclk true)
      else if r = 13 then some .perstN else none)
  else if c = 2 then (pcieAt r).map fun x => .pcieRx x.1 x.2
  else if c = 4 then (pcieAt r).map fun x => .pcieTx x.1 x.2
  else none

/-- One row of the east, from column 37: the signal at each place, where there is one. -/
def eastRow (r : Nat) : List (Option Signal) :=
  match r with
  | 7 => [some .spiCsN, some .spiSclk, some .spiMosi, some .spiMiso]
  | 8 => [some .i2cScl, some .i2cSda, some .intN, some .alive]
  | 9 => [some .porN, some .resetN, some .wakeN, some .pfwN]
  | 10 => [some (.i2cAddr 0), some (.i2cAddr 1), some .pairSide, none, some .claimN]
  | 11 => [some .qspiCsN, some .qspiSclk, some (.qspiIo 0), some (.qspiIo 1)]
  | 12 => [some (.qspiIo 2), some (.qspiIo 3), none, some .trstN]
  | 13 => [some .tck, some .tms, some .tdi, some .tdo]
  | 14 => [some (.blt false), some (.blt true), none, some .bltAux]
  | 15 => [some (.mains false), some (.mains true)]
  | 16 => [some (.tdiode 0 false), some (.tdiode 0 true), none, some (.tdiode 1 false), some (.tdiode 1 true)]
  | 17 => [some (.tampIn 0), none, some (.tampIn 1)]
  | 35 => [some .rtcXin, some .rtcXout]
  | _ =>
    if 18 ≤ r ∧ r ≤ 33 then
      let k := 2 * (r - 18)
      [some (.ticIn k false), some (.ticIn k true), none, some (.ticIn (k + 1) false), some (.ticIn (k + 1) true)]
    else []

/-- The signals of row AW: the atomic clock, OUT13 to OUT15, the time pulses and the ToD outputs. -/
def rowAW (c : Nat) : Option Signal :=
  match pairAt c with
  | none => none
  | some (0, n) => some (.atomIn n)
  | some (k, n) =>
    if k ≤ 3 then some (.out (12 + k) n)
    else match c with
      | 16 => some (.tp 0)
      | 19 => some (.tp 1)
      | 22 => some (.tp 2)
      | 25 => some (.tp 3)
      | 28 => some (.tod 0)
      | 31 => some (.tod 1)
      | _ => none

/-- The signal ball at row index `r` and column `c` (R422). -/
def signalAt (r c : Nat) : Option Signal :=
  let p := pairAt c
  match r with
  | 2 => p.bind fun x => if x.1 < 12 then some (.ethRx x.1 x.2) else none
  | 4 => p.bind fun x => if x.1 < 12 then some (.ethTx x.1 x.2) else none
  | 6 => p.bind fun x => rowF x.1 x.2
  | 37 => rowAW c
  | 39 => p.bind fun x => if x.1 < 12 then some (.refIn x.1 x.2) else some (.ocxoIn x.2)
  | 41 => p.bind fun x => if x.1 < 13 then some (.out x.1 x.2) else none
  | _ =>
    if 7 ≤ r ∧ r ≤ 35 then
      if c ≤ 6 then westAt r c else if 37 ≤ c then (eastRow r).getD (c - 37) none else none
    else none

/-! ### Supplies (R421) -/

/-- The columns 5, 8, 11 and so on. -/
def thirdCol (c : Nat) : Bool := decide (5 ≤ c) && c % 3 == 2

/-- Rows N, U, Y, AC, AF, AJ, AM and AT. -/
def westSupplyRow (r : Nat) : Bool := [13, 16, 19, 22, 25, 28, 31, 34].contains r

/-- The ring's supply balls. -/
def ringAt (r c : Nat) : BallNet :=
  if ((r = 1 ∨ r = 5) ∧ thirdCol c ∧ c ≤ 38) ∨ (c = 3 ∧ westSupplyRow r) then .vddSd09
  else if (r = 3 ∧ thirdCol c ∧ c ≤ 38) ∨ (c = 5 ∧ westSupplyRow r) then .vddSd12
  else if [(8, 3), (9, 1), (11, 41), (14, 41)].contains (r, c) ∨ (r = 40 ∧ thirdCol c) then .vddIo
  else if [(7, 41), (9, 41), (13, 41)].contains (r, c) then .vddIo33
  else if (r, c) = (15, 41) ∨ (r = 38 ∧ thirdCol c) then .vddAna
  else if [(35, 40), (35, 41)].contains (r, c) then .vbat
  else .vss

/-- A ball of the core. -/
def coreAt (r c : Nat) : BallNet :=
  if (r + c) % 2 = 0 then .vss
  else if r ≤ 8 ∧ r + c < 42 then .vddSram
  else if r + c < 42 then .vddCore
  else .vddAna

/-- The net of the ball at row index `r` and column `c`, each 1 to 41 (R420 to R422). -/
def ballNet (r c : Nat) : BallNet :=
  if 7 ≤ r ∧ r ≤ 35 ∧ 7 ≤ c ∧ c ≤ 35 then coreAt r c
  else match signalAt r c with
    | some x => .signal x
    | none => ringAt r c

/-! ### Types and domains (R423) -/

/-- The electrical type of a signal. -/
inductive BallType where
  | serdes | hcslIn | cmosIn | cmosOut | cmos | diffIn | clockOut | openDrain | schmitt | analog | lvdsOut | vbatLevel
deriving DecidableEq, Repr

/-- A signal's type and power domain (R423). -/
def Signal.kind : Signal → BallType × Nat
  | .ethRx l _ | .ethTx l _ => (.serdes, pdQ (l / 4))
  | .benitRx _ _ | .benitTx _ _ => (.serdes, pdPair)
  | .pcieRx _ _ | .pcieTx _ _ => (.serdes, pdPcie)
  | .pcieRefclk _ => (.hcslIn, pdPcie)
  | .gnssClk | .gnssD _ => (.cmosIn, pdGnss)
  | .gnssFeEn => (.cmosOut, pdGnss)
  | .refIn _ _ | .ocxoIn _ | .atomIn _ => (.diffIn, pdTime)
  | .ticIn _ _ => (.diffIn, pdTic)
  | .out _ _ => (.clockOut, pdTime)
  | .tp _ | .tod _ => (.cmosOut, pdTime)
  | .claimN => (.openDrain, pdPair)
  | .i2cScl | .i2cSda | .intN => (.openDrain, 1)
  | .alive => (.cmosOut, 1)
  | .porN | .resetN | .wakeN | .pfwN | .perstN | .i2cAddr _ | .pairSide => (.schmitt, 1)
  | .spiCsN | .spiSclk | .spiMosi | .spiMiso | .qspiCsN | .qspiSclk | .qspiIo _ | .tck | .tms | .tdi | .trstN | .tdo =>
    (.cmos, 1)
  | .blt _ => (.lvdsOut, 1)
  | .bltAux | .mains _ | .tdiode _ _ => (.analog, 1)
  | .tampIn _ | .rtcXin | .rtcXout => (.vbatLevel, 0)

/-! ### Levels (R92, R424) -/

/-- What a ball does. -/
inductive BallLevel where
  /-- high-impedance -/
  | highZ
  /-- a transmitter without power: no output -/
  | noOutput
  /-- a transmitter in electrical idle -/
  | idle
  /-- an input that its block receives -/
  | receiving
  /-- an input that is sensed -/
  | sensed
  /-- a strap with its internal pull-down -/
  | pullDown
  /-- driven low -/
  | low
  /-- driven high; a ToD output's mark -/
  | high
  /-- an open-drain ball that is not pulled low -/
  | released
  /-- an output that carries what its block sends -/
  | running
  /-- 10 kHz, 50 % -/
  | tenKHz
  /-- a ball of PD_VBAT at work -/
  | active
deriving DecidableEq, Repr

/-- Every monitored rail is outside its window: the device is unpowered (DESIGN CHOICE, log entry 89). -/
def State.unpowered (s : State) : Bool := s.sys.railsOut == 0x7F

/-- Unpowered or in reset. -/
def State.dark (s : State) : Bool := s.unpowered || s.sys.inReset

/-- A transmitter that sends while `on`. -/
def State.txLevel (s : State) (on : Bool) : BallLevel :=
  if s.unpowered then .noOutput else if s.sys.inReset || !on then .idle else .running

/-- An input that is received while `on`. -/
def State.rxLevel (s : State) (on : Bool) : BallLevel := if s.dark || !on then .highZ else .receiving

/-- The device drives the balls of the QSPI flash: in BOOT until it stops there without an image, during SYS_FW_STAGE and while
SLEEP exits (R73, R76). -/
def State.qspiDriven (s : State) : Bool :=
  !s.dark && ((s.sys.devState == .boot && s.sys.bootCode != .noImage && s.sys.bootCode != .rollback) || s.sys.stageBusy ||
    s.sys.waking)

/-- The Benit link sends while PD_PAIR is ready, but in SLEEP (R92). -/
def State.benitOn (s : State) : Bool := s.ready pdPair && s.sys.devState != .sleep

/-- PCIe trains from PD_PCIE ready, but in SLEEP (R78, R92). -/
def State.pcieOn (s : State) : Bool := s.ready pdPcie && s.sys.devState != .sleep

/-! ### Outputs (R218 to R221, R374) -/

/-- The first falling edge of clock output or time pulse `t` at or after accord time `x`, halfway between its rising edges, in
2^-16 ns (R374). -/
def State.fallAfter (s : State) (t : Nat) (x : Int) : Int :=
  x + ((sec16 / (2 * max 1 (s.ochCfg t).freqHz.toNat) : Nat) : Int) - s.gridDev t x

/-- From when clock output `t`, whose ownership was gained at `h`, drives its ball: 3 ns after the falling edge while the link
held; else at H + 2 µs in a low phase of its grid, or at the next falling edge (R374). -/
def State.driveFrom (s : State) (t : Nat) (h : Int) : Int :=
  if s.pair.lastOwnLinked then s.fallAfter t h + 3 * 65536
  else
    let e := h + 2 * us16
    if s.gridDev t e < 0 then e else s.fallAfter t e

/-- Until when clock output `t`, whose ownership was lost at `h`, drives its ball: 1 ns after the falling edge while the link
held; else at its falling edge, or at H + 1 µs (R374). -/
def State.driveUntil (s : State) (t : Nat) (h : Int) : Int :=
  if s.pair.lastOwnLinked then s.fallAfter t h + 65536 else min (s.fallAfter t h) (h + us16)

/-- A SHARED clock output drives its ball (R221, R374): the switch at H waits for the output's own instant. -/
def State.chDrives (s : State) (t : Nat) : Bool :=
  let p := s.pair
  let h : Int := taiNat p.lastOwnH
  let switched := p.lastOwnValid && p.role != .solo && !s.flt.safe
  if s.own then !(switched && p.lastOwnGained) || decide (s.driveFrom t h ≤ (s.now16 : Int))
  else switched && !p.lastOwnGained && decide ((s.now16 : Int) < s.driveUntil t h)

/-- A SHARED time pulse drives its ball: one that is high at H switches at the end of its pulse (R374). -/
def State.tpDrives (s : State) (m : Nat) : Bool :=
  let p := s.pair
  let late := p.lastOwnValid && p.role != .solo && (s.otp m).high && decide (taiNat p.lastOwnH ≤ s.now16) && !s.flt.safe
  if s.own then !(late && p.lastOwnGained) else late && !p.lastOwnGained

/-- The squelch level of SQ_MODE (R218). -/
def squelch (highImpedance : Bool) : BallLevel := if highImpedance then .highZ else .low

/-- Clock output `n`'s ball. -/
def State.outLevel (s : State) (n : Nat) : BallLevel :=
  let c := s.ochCfg n
  if s.dark || !s.ready pdTime || !c.enable || (c.shared && !s.chDrives n) then .highZ
  else if !(s.och n).running then squelch c.sqHighZ
  else if s.syncLow n then .low
  else .running

/-- Time pulse `m`'s ball: in the safe state it is held low (R220). -/
def State.tpLevel (s : State) (m : Nat) : BallLevel :=
  let c := s.otpCfg m
  if s.dark || !s.ready pdTime || !c.enable || (c.shared && !s.tpDrives m) then .highZ
  else if s.flt.safe then .low
  else if !(s.otp m).running then squelch c.sqHighZ
  else if (s.otp m).high then .high else .low

/-- ToD output `k`'s ball: the mark level while it is silent (R218, R220, R227). -/
def State.todLevel (s : State) (k : Nat) : BallLevel :=
  let c := s.otodCfg k
  if s.dark || !s.ready pdTime || !c.enable || (c.shared && !s.own) then .highZ
  else if (s.otod k).running then .running else .high

/-! ### The other groups -/

/-- CLAIM_N (R92, R373): in a round's claim field a bit of 1 pulls the line low; the model holds no place within the round, so
a ball in a round with a claim is `running`. -/
def State.claimLevel (s : State) : BallLevel :=
  if s.dark || !s.ready pdPair || s.claimNow == 0 || !s.pair.inRound then .released else .running

/-- ALIVE (R92, R365). -/
def State.aliveLevel (s : State) : BallLevel :=
  if s.dark then .highZ
  else if s.sys.devState == .boot || s.sys.devState == .safe || s.flt.safe || s.sys.aliveLow then .low
  else .tenKHz

/-- INT_N (R62). -/
def State.intLevel (s : State) : BallLevel := if s.dark then .highZ else if s.intN then .low else .released

/-- The digital test balls: high-impedance while SEL is 0 or names an analog node, low for 1 µs after a change (R409, R412). -/
def State.bltLevel (s : State) : BallLevel :=
  if s.dark || s.blt.sel == 0 || decide (16 ≤ s.blt.sel.toNat) then .highZ
  else if s.ticks < s.blt.selAt then .low else .running

/-- The analog test ball (R409, R412). -/
def State.auxLevel (s : State) : BallLevel :=
  if s.dark || s.blt.sel.toNat < 16 || decide (s.ticks < s.blt.selAt) then .highZ else .running

/-- The straps hold their pull-down during a cold reset until they are sampled (R424, R425). -/
def State.strapLevel (s : State) : BallLevel :=
  if s.unpowered then .highZ else if s.sys.coldReset then .pullDown else .highZ

/-- The level of a signal's ball in the present state (R92, R424). -/
def State.ballLevel (s : State) : Signal → BallLevel
  | .ethTx l _ => s.txLevel (s.laneActive l)
  | .benitTx _ _ => s.txLevel s.benitOn
  | .pcieTx _ _ => s.txLevel s.pcieOn
  | .ethRx l _ => s.rxLevel (s.laneActive l)
  | .benitRx _ _ => s.rxLevel s.benitOn
  | .pcieRx _ _ | .pcieRefclk _ => s.rxLevel s.pcieOn
  | .refIn _ _ | .ocxoIn _ | .atomIn _ => s.rxLevel (s.ready pdTime)
  | .ticIn _ _ => s.rxLevel (s.ready pdTic)
  | .gnssClk | .gnssD _ => s.rxLevel (s.ready pdGnss)
  | .out k _ => s.outLevel k
  | .tp m => s.tpLevel m
  | .tod k => s.todLevel k
  | .claimN => s.claimLevel
  | .alive => s.aliveLevel
  | .intN => s.intLevel
  | .spiMiso | .i2cSda => if s.dark then .highZ else .running
  | .qspiCsN | .qspiSclk | .qspiIo _ => if s.qspiDriven then .running else .highZ
  | .gnssFeEn => if s.dark then .highZ else match s.gnssFeEn with
    | some on => if on then .high else .low
    | none => .highZ
  | .tdo => .highZ
  | .blt _ => s.bltLevel
  | .bltAux => s.auxLevel
  | .i2cAddr _ | .pairSide => s.strapLevel
  | .tampIn _ | .rtcXin | .rtcXout => .active
  | .perstN | .spiCsN | .spiSclk | .spiMosi | .i2cScl | .porN | .resetN | .wakeN | .pfwN | .trstN | .tck | .tms | .tdi
  | .mains _ | .tdiode _ _ => if s.dark then .highZ else .sensed

end Sys2Proof.Machine
end

