-- ==== Sys2Proof/Safety.lean ====
section
/-! DEFINITION. What counts as a safe run of the block, in the terms the statements use. -/

namespace Sys2Proof.Machine

open Host

/-- A command runs to a next state: it neither faults nor is refused. -/
def Completes (i : Instr) (s : State) : Prop := ∃ t, exec i s = Outcome.next t

/-- The state in which a packet is checked: its ticks have passed, what comes before a command of that tick has happened
(R47, R147), and it has left its slot or mailbox (R51, R55). -/
def checkFrom (p : Packet) (s : State) : State := (s.arrive p.dt).fetched p

/-- The state in which a packet's body runs, with nothing yet to count in its COMMAND entry (R199). -/
def bodyFrom (p : Packet) (s : State) : State :=
  { checkFrom p s with sys := { (checkFrom p s).sys with note := 0 } }

/-- An immediate packet passes every check of R42 and nothing hinders the commit of its CSP fields (R395, R397): it
executes at once. -/
def runsNow (o : OpSpec) (p : Packet) (s : State) : Bool :=
  let u := checkFrom p s
  (s.arrive p.dt).canFetch o.opcode p && (o.early p u).isNone && !p.sched && !p.dryRun && devAllows o.states u.sys.devState &&
    !u.logFullFor o.opcode && (!o.csp p || (!u.mon.pfw && !u.keep.ro && p.keepFail.isNone))

/-- The machine after a command whose body left `v` and answered OK with the words `ws`: its CSP fields are committed to
the keep (R12), its COMMAND entry is written (R43), it is counted and answered with a FINAL reply (R40). -/
def ran (o : OpSpec) (p : Packet) (v : State) (ws : List W32) : State :=
  ((if o.csp p then (v.keepWrite none).1.commitCsp else v).finish p o.opcode .ok ws false).settle

/-- The life-cycle fuses are a thermometer of four steps (R335). -/
def LcThermometer (s : State) : Prop :=
  s.fuse.lcSteps = 0 ∨ s.fuse.lcSteps = 1 ∨ s.fuse.lcSteps = 3 ∨ s.fuse.lcSteps = 7 ∨ s.fuse.lcSteps = 15

/-- No mailbox holds a message, no semaphore is held and no command waits for its time (R69). -/
def Emptied (s : State) : Prop :=
  (∀ n, n < 8 → (s.mbx n).full = false ∧ (s.mbx n).seq = 0) ∧ (∀ i, i < 32 → Tab.get s.cmd.sems i none = none) ∧
  s.cmd.sched = []

/-- A register access, over whichever path: its ticks, its master and the addresses of its words (R30, R36, R37). -/
def State.accessOf (s : State) (i : Instr) : Option (Nat × BitVec 4 × List W32) :=
  let rd : Nat → BusRead → Option (Nat × BitVec 4 × List W32) := fun dt r => some (dt, (s.reads r).1, (s.reads r).2)
  let wr : Nat → BusWrite → Option (Nat × BitVec 4 × List W32) := fun dt w => some (dt, (s.writes w).1, (s.writes w).2.map (·.1))
  match i with
  | .queuePop dt r => rd dt r
  | .rcCounterRead dt r => rd dt r
  | .shadowLatchRead dt r => rd dt r
  | .intStatusW1c dt w => wr dt w
  | .registerWrite dt w => wr dt w
  | _ => none

/-- A packet row, its opcode's description and its packet. -/
def packetOf (i : Instr) : Option (OpSpec × Packet) :=
  match i with
  | .sysQueryState p => some (specSysQueryState, p)
  | .sysQueryCounters p => some (specSysQueryCounters, p)
  | .sysEcho p => some (specSysEcho, p)
  | .sysSetState p => some (specSysSetState, p)
  | .sysClearSafe p => some (specSysClearSafe, p)
  | .sysDomainPower p => some (specSysDomainPower, p)
  | .sysSleep p => some (specSysSleep, p)
  | .sysWake p => some (specSysWake, p)
  | .sysReset p => some (specSysReset, p)
  | .sysFwStage p => some (specSysFwStage, p)
  | .sysFwActivate p => some (specSysFwActivate, p)
  | .sysSetMbxRoute p => some (specSysSetMbxRoute, p)
  | .sysSetSemCfg p => some (specSysSetSemCfg, p)
  | .sysSemForce p => some (specSysSemForce, p)
  | .sysRingConfig p => some (specSysRingConfig, p)
  | .sysRingEnable p => some (specSysRingEnable, p)
  | .sysIntRoute p => some (specSysIntRoute, p)
  | .sysCancel p => some (specSysCancel, p)
  | .sysBltUnlock p => some (specSysBltUnlock, p)
  | .sysBltSelect p => some (specSysBltSelect, p)
  | .sysBistRun p => some (specSysBistRun, p)
  | .refQuerySlot p => some (specRefQuerySlot, p)
  | .refQueryMatrix p => some (specRefQueryMatrix, p)
  | .refQueryHistory p => some (specRefQueryHistory, p)
  | .refSetSlot p => some (specRefSetSlot, p)
  | .refSetQual p => some (specRefSetQual, p)
  | .refSetTimers p => some (specRefSetTimers, p)
  | .refSetPriority p => some (specRefSetPriority, p)
  | .refSelect p => some (specRefSelect, p)
  | .refClearHistory p => some (specRefClearHistory, p)
  | .refEnable p => some (specRefEnable, p)
  | .refSetPtpSlave p => some (specRefSetPtpSlave, p)
  | .acdQueryTime p => some (specAcdQueryTime, p)
  | .acdQueryServo p => some (specAcdQueryServo, p)
  | .acdSetServo p => some (specAcdSetServo, p)
  | .acdSetStepPolicy p => some (specAcdSetStepPolicy, p)
  | .acdSetHold p => some (specAcdSetHold, p)
  | .acdSetOscModel p => some (specAcdSetOscModel, p)
  | .acdSetTime p => some (specAcdSetTime, p)
  | .acdAdjustPhase p => some (specAcdAdjustPhase, p)
  | .acdSetUtc p => some (specAcdSetUtc, p)
  | .acdSetCpllSource p => some (specAcdSetCpllSource, p)
  | .acdEnterDrydown p => some (specAcdEnterDrydown, p)
  | .acdSetMaceration p => some (specAcdSetMaceration, p)
  | .outQueryStatus p => some (specOutQueryStatus, p)
  | .outQueryEcho p => some (specOutQueryEcho, p)
  | .outSetSyn p => some (specOutSetSyn, p)
  | .outSetOutput p => some (specOutSetOutput, p)
  | .outSync p => some (specOutSync, p)
  | .outSetTp p => some (specOutSetTp, p)
  | .outSetTod p => some (specOutSetTod, p)
  | .outEchoMeasure p => some (specOutEchoMeasure, p)
  | .outSetDelay p => some (specOutSetDelay, p)
  | .outEnable p => some (specOutEnable, p)
  | .ticQueryChannel p => some (specTicQueryChannel, p)
  | .ticQueryCal p => some (specTicQueryCal, p)
  | .ticSetChannel p => some (specTicSetChannel, p)
  | .ticStartInterval p => some (specTicStartInterval, p)
  | .ticStream p => some (specTicStream, p)
  | .ticCalibrate p => some (specTicCalibrate, p)
  | .ticSubstitute p => some (specTicSubstitute, p)
  | .ticSetDelay p => some (specTicSetDelay, p)
  | .gnsQueryStatus p => some (specGnsQueryStatus, p)
  | .gnsQuerySolution p => some (specGnsQuerySolution, p)
  | .gnsSetPort p => some (specGnsSetPort, p)
  | .gnsSetNotch p => some (specGnsSetNotch, p)
  | .gnsAcquire p => some (specGnsAcquire, p)
  | .gnsTrack p => some (specGnsTrack, p)
  | .gnsRelease p => some (specGnsRelease, p)
  | .gnsSetLatch p => some (specGnsSetLatch, p)
  | .gnsSnapshot p => some (specGnsSnapshot, p)
  | .gnsSetAntenna p => some (specGnsSetAntenna, p)
  | .gnsSetCheck p => some (specGnsSetCheck, p)
  | .gnsSpareBank p => some (specGnsSpareBank, p)
  | .ethQueryLane p => some (specEthQueryLane, p)
  | .ethQueryDelay p => some (specEthQueryDelay, p)
  | .ethSetQuadMode p => some (specEthSetQuadMode, p)
  | .ethSetLane p => some (specEthSetLane, p)
  | .ethSetDelay p => some (specEthSetDelay, p)
  | .ethSetCapture p => some (specEthSetCapture, p)
  | .ethSetClassifier p => some (specEthSetClassifier, p)
  | .ethLaneEnable p => some (specEthLaneEnable, p)
  | .ethSetTags p => some (specEthSetTags, p)
  | .tmgQueryQueue p => some (specTmgQueryQueue, p)
  | .tmgQueryGcl p => some (specTmgQueryGcl, p)
  | .tmgSetGcl p => some (specTmgSetGcl, p)
  | .tmgSwapGcl p => some (specTmgSwapGcl, p)
  | .tmgSetShaper p => some (specTmgSetShaper, p)
  | .tmgSetPolicer p => some (specTmgSetPolicer, p)
  | .tmgSetFilter p => some (specTmgSetFilter, p)
  | .tmgSetSampling p => some (specTmgSetSampling, p)
  | .svcQueryStatus p => some (specSvcQueryStatus, p)
  | .svcQueryClient p => some (specSvcQueryClient, p)
  | .svcSetPtpPort p => some (specSvcSetPtpPort, p)
  | .svcSetProfile p => some (specSvcSetProfile, p)
  | .svcSetAuth p => some (specSvcSetAuth, p)
  | .svcSetNtp p => some (specSvcSetNtp, p)
  | .svcLoadCookieKey p => some (specSvcLoadCookieKey, p)
  | .svcRetireCookieKey p => some (specSvcRetireCookieKey, p)
  | .svcSetGate p => some (specSvcSetGate, p)
  | .svcSetRateLimit p => some (specSvcSetRateLimit, p)
  | .svcClientFlush p => some (specSvcClientFlush, p)
  | .svcSetBoundTlv p => some (specSvcSetBoundTlv, p)
  | .keyQuerySlots p => some (specKeyQuerySlots, p)
  | .keyQueryEpoch p => some (specKeyQueryEpoch, p)
  | .keyLoadFlacon p => some (specKeyLoadFlacon, p)
  | .keyWrap p => some (specKeyWrap, p)
  | .keyDerive p => some (specKeyDerive, p)
  | .keyZero p => some (specKeyZero, p)
  | .keyEpochUpdate p => some (specKeyEpochUpdate, p)
  | .keyAttest p => some (specKeyAttest, p)
  | .keyProvision p => some (specKeyProvision, p)
  | .keyLcAdvance p => some (specKeyLcAdvance, p)
  | .keyDebugEnter p => some (specKeyDebugEnter, p)
  | .keyDebugExit p => some (specKeyDebugExit, p)
  | .logQueryStatus p => some (specLogQueryStatus, p)
  | .logQueryHead p => some (specLogQueryHead, p)
  | .logExportAck p => some (specLogExportAck, p)
  | .logSetExport p => some (specLogSetExport, p)
  | .logCheckpoint p => some (specLogCheckpoint, p)
  | .logNote p => some (specLogNote, p)
  | .fltQuery p => some (specFltQuery, p)
  | .fltSetClass p => some (specFltSetClass, p)
  | .fltClear p => some (specFltClear, p)
  | .fltInject p => some (specFltInject, p)
  | .pairQuery p => some (specPairQuery, p)
  | .pairSetMode p => some (specPairSetMode, p)
  | .pairSetClaim p => some (specPairSetClaim, p)
  | .pairHandover p => some (specPairHandover, p)
  | .pairSetCompare p => some (specPairSetCompare, p)
  | .pairRejoin p => some (specPairRejoin, p)
  | .monQuery p => some (specMonQuery, p)
  | .keepQuery p => some (specKeepQuery, p)
  | .calQuery p => some (specCalQuery, p)
  | .monSetLimits p => some (specMonSetLimits, p)
  | .monSetMains p => some (specMonSetMains, p)
  | .keepScrub p => some (specKeepScrub, p)
  | .calSetTime p => some (specCalSetTime, p)
  | .calSetTrim p => some (specCalSetTrim, p)
  | .calSetTamper p => some (specCalSetTamper, p)
  | _ => none

end Sys2Proof.Machine
end

