-- ==== Sys2Proof/Certificates/Slice0/Obligations.lean ====
section
/-! DEFINITION. What is claimed of the machine, one proposition each: the rules of the spec that say what it does, and
where every command completes. -/

open Host Sys2Proof Sys2Proof.Machine

/-- A step takes the command at the front of the queue and runs it on the state with the queue's rest. With no command
waiting one CLK_CORE tick passes and the block goes on: the model's choice, log entry 1. -/
def Obligations.StepRunsFront : Prop :=
  (∀ (c : Instr) (q : List Instr) (s : State), step { s with pending := c :: q } = exec c { s with pending := q }) ∧
  (∀ (s : State), s.pending = [] → step s = .next (s.advance 1))

/-- A step consumes exactly the command at the front of the queue: whatever that command does, even a reset of the chip,
the commands behind it wait on, in their order. The queue is the model's own (log entry 1). -/
def Obligations.StepTakesOne : Prop :=
  ∀ c q (s : State) t, s.pending = c :: q → step s = .next t → t.pending = q

/-- Exactly the ticks that a command carries pass before it, whatever it is and whether or not it has any effect. The
ticks are the model's own (log entry 1). -/
def Obligations.TimePasses : Prop :=
  ∀ i (s : State) t, exec i s = .next t → t.ticks = s.ticks + i.dt

/-- No command is refused, and none faults but a register access that reaches the device and names an address within its
master's range and past the 64 MiB of BAR0 (R29); each such access does fault. -/
def Obligations.OnlyAccessesPastBar0Fault : Prop :=
  (∀ i (s : State) r, exec i s ≠ .refused r) ∧
  (∀ i (s : State) f, exec i s = .fault f → ∃ m addrs, (s.advance i.dt).accessOf i = some (i.dt, m, addrs) ∧
    (s.advance i.dt).reached m = true ∧ ∃ a ∈ addrs, outOfRange m a = false ∧ bar0 ≤ a.toNat) ∧
  (∀ i (s : State) m addrs, (s.advance i.dt).accessOf i = some (i.dt, m, addrs) → (s.advance i.dt).reached m = true →
    (∃ a ∈ addrs, outOfRange m a = false ∧ bar0 ≤ a.toNat) → exec i s = .fault .outsideMap)

/-- The life-cycle fuses are a thermometer (R335) and stay one: a step from any state in which they are leaves them so. -/
def Obligations.LifeCycleStaysThermometer : Prop :=
  ∀ (s : State) t, LcThermometer s → step s = .next t → LcThermometer t

/-- After reset the life-cycle fuses are a thermometer: none is blown, the model's choice of log entry 3. -/
def Obligations.LifeCycleThermometerAtReset : Prop := LcThermometer State.reset ∧ State.reset.lc = .blank

/-- Nothing unblows a fuse (R75, R335): whatever command runs, neither fuse of a pair of the SVN_FLOOR steps or of the
life-cycle steps clears, so that no step clears; and OWNER_DBG once fused stays fused with its digest. -/
def Obligations.FusesNeverClear : Prop :=
  ∀ i (s : State) t, exec i s = .next t →
    s.fuse.svnPairA &&& ~~~t.fuse.svnPairA = 0 ∧ s.fuse.svnPairB &&& ~~~t.fuse.svnPairB = 0 ∧
    s.fuse.lcPairA &&& ~~~t.fuse.lcPairA = 0 ∧ s.fuse.lcPairB &&& ~~~t.fuse.lcPairB = 0 ∧
    (∀ k, k < 4 → has s.fuse.lcSteps k = true → has t.fuse.lcSteps k = true) ∧
    (s.fuse.ownerDbgSet = true → t.fuse.ownerDbgSet = true ∧ t.fuse.ownerDbg = s.fuse.ownerDbg)

/-- Queries and state-changing opcodes (R41). `o` and `p` are a row's opcode and packet: a query's body changes nothing
whatever it answers, a query is never logged, never meets LOG_FULL and is legal in INIT, RUN, MAINT, SAFE and SLEEP; a
state-changing command that has executed enters the log with its origin master, and with the time and bound of its
execution; an opcode that is not listed is answered BAD_OPCODE. -/
def Obligations.QueriesAndChanges : Prop :=
  (∀ i o (p : Packet), packetOf i = some (o, p) → (isQuery o.opcode = true ↔ o.opcode % 256 ≤ 0x3F) ∧
    (isQuery o.opcode = true →
      (∀ (s : State), (o.body p s).st = s) ∧
      (∀ (s : State) x ws frees, (s.finish p o.opcode x ws frees).log = s.log) ∧
      (∀ (s : State), s.logFullFor o.opcode = false) ∧
      (∀ d, devAllows o.states d = true ↔ d ≠ .boot))) ∧
  (∀ i o (p : Packet) (s : State) ws, packetOf i = some (o, p) → 0x40 ≤ o.opcode % 256 → p.dryRun = false →
    ∃ e, (s.finish p o.opcode .ok ws false).log = (s.logPut e).log ∧ e.typ = 0x04 ∧ e.origin = p.master ∧
      e.mid = taiWords s.timeNow ++ [ebWord (ebSat s.ebAccord) (s.flagsFor s.ebAccord)]) ∧
  (∀ op (p : Packet) (s : State), specOf (BitVec.toNat op) = none → (s.arrive p.dt).canFetch op.toNat p = true →
    exec (.unlistedOpcode op p) s = .next ((checkFrom p s).finish p op.toNat .badOpcode [] false))

/-- The order of R42's checks up to the state step. `u` is the state in which the packet is checked. The GNS class of a
chip without the GNSS block is answered first (R2). -/
def Obligations.FirstRefusalWins : Prop :=
  ∀ i o (p : Packet) (s : State), packetOf i = some (o, p) → (s.arrive p.dt).canFetch o.opcode p = true →
    let u := checkFrom p s
    let refuses (x : Status) := exec i s = .next (u.finish p o.opcode x [] false)
    let lenOk := p.len.toNat ≤ 256 ∧ (p.mailbox = true → p.len.toNat ≤ 8) ∧ ∀ n, o.len p = some n → p.len.toNat = n
    let mayRun := privileged p.master o.opcode = true ∧ o.lcOk u p = true
    let paramsOk := p.rsvd = 0 ∧ (p.sched = true → taiOk p.execAt = true) ∧ o.params u p = true
    (o.opcode / 256 = 5 → u.fuse.gnssEn = false → refuses .noResource) ∧
    ((o.opcode / 256 = 5 → u.fuse.gnssEn = true) →
      (¬ lenOk → refuses .badLength) ∧
      (lenOk → ¬ mayRun → refuses .denied) ∧
      (lenOk → mayRun → ¬ paramsOk → refuses .badParam) ∧
      (lenOk → mayRun → paramsOk → p.sched = true → u.acd.state = .cold → refuses .state) ∧
      (lenOk → mayRun → paramsOk → p.sched = true → u.acd.state ≠ .cold →
        taiNat p.execAt < u.now16 + 10 * us16 → refuses .late))

/-- What follows the checks of `FirstRefusalWins`, in R42's order: LOG_FULL, NO_RESOURCE for a full scheduled queue, the
answer of a DRY_RUN, and the entry of a scheduled command into its queue. -/
def Obligations.AcceptanceInOrder : Prop :=
  ∀ i o (p : Packet) (s : State), packetOf i = some (o, p) → (s.arrive p.dt).canFetch o.opcode p = true →
    let u := checkFrom p s
    o.early p u = none →
    (p.sched = true → u.logFullFor o.opcode = true →
      exec i s = .next ((u.countRefused p).finish p o.opcode .logFull [] false)) ∧
    (p.sched = true → u.logFullFor o.opcode = false → 256 ≤ u.cmd.schedUsed →
      exec i s = .next (u.finish p o.opcode .noResource [] false)) ∧
    (p.sched = true → u.logFullFor o.opcode = false → u.cmd.schedUsed < 256 → p.dryRun = true →
      exec i s = .next ((u.countStatus .accepted false).reply p o.opcode 1 .accepted [] 0 false)) ∧
    (p.sched = true → u.logFullFor o.opcode = false → u.cmd.schedUsed < 256 → p.dryRun = false →
      ∃ t, exec i s = .next t ∧ t.cmd.sched = u.cmd.sched ++ [{ opcode := BitVec.ofNat 16 o.opcode, pkt := p }]) ∧
    (p.sched = false → devAllows o.states u.sys.devState = true → u.logFullFor o.opcode = true →
      exec i s = .next ((u.countRefused p).finish p o.opcode .logFull [] false)) ∧
    (p.sched = false → devAllows o.states u.sys.devState = true → u.logFullFor o.opcode = false → p.dryRun = true →
      exec i s = .next ((u.countStatus .ok true).reply p o.opcode 0 .ok [] 0 false))

/-- Where opcodes execute (R44). In BOOT no command executes: no packet is fetched, and no scheduled command runs. A
command outside its states returns STATE, when it is submitted and when its time comes; one that the life-cycle state
does not allow returns DENIED. -/
def Obligations.StateLegality : Prop :=
  (∀ i o (p : Packet) (s : State), packetOf i = some (o, p) → s.sys.devState = .boot →
    exec i s = .next (s.advance p.dt).leapNow) ∧
  (∀ dt (s : State), s.sys.devState = .boot → exec (.scheduledCommandDue dt) s = .next (s.advance dt).leapNow) ∧
  (∀ i o (p : Packet) (s : State), packetOf i = some (o, p) → (s.arrive p.dt).canFetch o.opcode p = true →
    let u := checkFrom p s
    o.early p u = none → p.sched = false → devAllows o.states u.sys.devState = false →
    exec i s = .next (u.finish p o.opcode .state [] false)) ∧
  (∀ dt (s : State) e o, let u := (s.advance dt).leapNow
    u.schedRuns = true → u.nextDue = some e →
    specOf e.opcode.toNat = some o → devAllows o.states u.sys.devState = false →
    let v := { u with cmd := { u.cmd with sched := u.cmd.sched.erase e } }
    exec (.scheduledCommandDue dt) s = .next (v.finish e.pkt o.opcode .state [] true)) ∧
  (∀ i o (p : Packet) (s : State), packetOf i = some (o, p) → (s.arrive p.dt).canFetch o.opcode p = true →
    let u := checkFrom p s
    (o.opcode / 256 = 5 → u.fuse.gnssEn = true) → p.len.toNat ≤ 256 → (p.mailbox = true → p.len.toNat ≤ 8) →
    (∀ n, o.len p = some n → p.len.toNat = n) → o.lcOk u p = false →
    exec i s = .next (u.finish p o.opcode .denied [] false))

/-- What the end of a command touches besides its own effect (R40, R43): a FINAL reply, a count, the log and the
interrupts; every block, the rings, the mailboxes, the semaphores and the waiting commands stay as they were. -/
def Obligations.RepliesTouchNothingElse : Prop :=
  ∀ (s : State) (p : Packet) opcode x ws frees, let t := State.finish s p opcode x ws frees
    t.ticks = s.ticks ∧ t.freeCtr = s.freeCtr ∧ t.fuse = s.fuse ∧ t.vbat = s.vbat ∧ t.cfg = s.cfg ∧ t.sys = s.sys ∧
    t.ref = s.ref ∧ t.acd = s.acd ∧ t.gns = s.gns ∧ t.tic = s.tic ∧ t.out = s.out ∧ t.eth = s.eth ∧ t.tmg = s.tmg ∧
    t.svc = s.svc ∧ t.key = s.key ∧ t.pair = s.pair ∧ t.mon = s.mon ∧ t.blt = s.blt ∧ t.pending = s.pending ∧
    t.keep.image = s.keep.image ∧ t.cmd.mbx = s.cmd.mbx ∧ t.cmd.sems = s.cmd.sems ∧ t.cmd.rings = s.cmd.rings ∧
    t.cmd.sched = s.cmd.sched ∧
    (p.noReply = true → x = .ok → t.cmd.replies = s.cmd.replies) ∧
    (p.noReply = false → ∃ r, t.cmd.replies = s.cmd.replies ++ [r] ∧ r.tag = p.tag ∧ r.origin = p.master ∧
      r.source = p.source ∧ r.kind = 0 ∧ r.status = BitVec.ofNat 16 x.code ∧ r.opcode = BitVec.ofNat 16 opcode)

/-- CAL_SET_TIME (R404): SECONDS and SUBSEC are the TAI96 value truncated to 1/32,768 s, VALID sets and LAST_SYNC_S takes
that second; while the calendar syncs it returns STATE, and an illegal NANOSECONDS gives BAD_PARAM. No accord is seeded:
ACCORD_STATE and the count stay. -/
def Obligations.CalendarIsSet : Prop :=
  (∀ (p : Packet) (s : State), runsNow specCalSetTime p s = true → let u := bodyFrom p s
    u.acd.state ≠ .locked → u.acd.state ≠ .drydownIn →
    ∃ v, exec (.calSetTime p) s = .next (ran specCalSetTime p v []) ∧
      (v.vbat.seconds.toNat * 32768 + v.vbat.subsec.toNat) * sec16 ≤ taiNat (p.tai 0) * 32768 ∧
      taiNat (p.tai 0) * 32768 < (v.vbat.seconds.toNat * 32768 + v.vbat.subsec.toNat + 1) * sec16 ∧
      v.vbat.calValid = true ∧ v.vbat.lastSyncS = v.vbat.seconds ∧ v.acd = u.acd) ∧
  (∀ (p : Packet) (s : State), runsNow specCalSetTime p s = true → let u := bodyFrom p s
    u.acd.state = .locked ∨ u.acd.state = .drydownIn →
    exec (.calSetTime p) s = .next (u.finish p 0x0CC0 .state [] false).settle) ∧
  (∀ (p : Packet) (s : State), (s.arrive p.dt).canFetch 0x0CC0 p = true → p.len = 3 → privileged p.master 0x0CC0 = true →
    let u := checkFrom p s
    999999999 < (taiNs (p.tai 0)).toNat → exec (.calSetTime p) s = .next (u.finish p 0x0CC0 .badParam [] false))

/-- FLT_INJECT (R362): the named source asserts as an event, by the path a real assertion takes; an injected class A
source enters the safe state; a reserved source, and COLLECTOR_SELF (source 0), give BAD_PARAM. -/
def Obligations.FaultInjection : Prop :=
  (∀ (p : Packet) (s : State), runsNow specFltInject p s = true → let u := bodyFrom p s
    exec (.fltInject p) s = .next (ran specFltInject p ((u.irq (src 11 5)).faultAssert (fld (p.w 0) 0 8) true) [])) ∧
  (∀ (s : State) n, s.sys.devState ≠ .boot → faultNamed n = true → has (s.faultAssert n true).flt.latch n = true) ∧
  (∀ (s : State) n, s.sys.devState ≠ .boot → faultNamed n = true → s.faultClass n < 2 →
    s.faultAssert n true = ((({ s with flt := s.flt.assert n false false s.ticks }).irq
      (src 11 (2 - s.faultClass n))).faultEntry n (s.faultClass n) true).pairEval) ∧
  (∀ (s : State) n, s.sys.devState ≠ .boot → faultNamed n = true → s.faultClass n = 2 → s.flt.safe = false →
    (s.faultAssert n true).flt.safe = true ∧ (s.faultAssert n true).sys.devState = .safe) ∧
  (∀ (p : Packet) (s : State), (s.arrive p.dt).canFetch 0x0B42 p = true → p.len = 1 → privileged p.master 0x0B42 = true →
    let u := checkFrom p s
    fld (p.w 0) 0 8 = 0 ∨ faultNamed (fld (p.w 0) 0 8) = false →
    exec (.fltInject p) s = .next (u.finish p 0x0B42 .badParam [] false))

/-- Interrupt status (R60): a source event sets its bit, and no other, in the host copy and in the board copy; a W1C of
M0 clears bits of the host copy only, one of M1 or M2 of the board copy only; a bit whose event falls in the same cycle
stays set; both mask registers are all ones after reset. -/
def Obligations.InterruptCopies : Prop :=
  (∀ (s : State) n k, n < 512 → k < 512 →
    let was := Tab.get s.cmd.groups (k / 32) IntGroup.reset
    let now := Tab.get (State.irq s n).cmd.groups (k / 32) IntGroup.reset
    has now.status (k % 32) = (has was.status (k % 32) || decide (k = n)) ∧
    has now.pinStatus (k % 32) = (has was.pinStatus (k % 32) || decide (k = n))) ∧
  (∀ dt w addr v (s : State) g, g < 16 → BitVec.toNat addr = 0x28004 + 0x20 * g → let u := State.advance s dt
    State.writes u w = (0, [(addr, v)]) → u.reached 0 = true → ∃ t, exec (.intStatusW1c dt w) s = .next t ∧
      let was := Tab.get u.cmd.groups g IntGroup.reset
      let now := Tab.get t.cmd.groups g IntGroup.reset
      now.pinStatus = was.pinStatus ∧
      ∀ b, b < 32 → has now.status b =
        (has was.status b && (!has v b || has (Tab.get (u.cmd.raisedAt u.ticks) g 0) b))) ∧
  (∀ dt w m addr v (s : State) g, g < 16 → BitVec.toNat addr = 0x2800C + 0x20 * g → m = 1 ∨ m = 2 →
    let u := State.advance s dt
    State.writes u w = (m, [(addr, v)]) → u.reached m = true → ∃ t, exec (.intStatusW1c dt w) s = .next t ∧
      let was := Tab.get u.cmd.groups g IntGroup.reset
      let now := Tab.get t.cmd.groups g IntGroup.reset
      now.status = was.status ∧
      ∀ b, b < 32 → has now.pinStatus b =
        (has was.pinStatus b && (!has v b || has (Tab.get (u.cmd.raisedAt u.ticks) g 0) b))) ∧
  (∀ addr v (s : State) n, n < 512 → BitVec.toNat addr = 0x28004 + 0x20 * (n / 32) → s.reached 0 = true →
    ∃ t, exec (.intStatusW1c 0 (.bar0 addr false v)) (s.irq n) = .next t ∧
      has (Tab.get t.cmd.groups (n / 32) IntGroup.reset).status (n % 32) = true) ∧
  (∀ g, g < 16 → (Tab.get State.reset.cmd.groups g IntGroup.reset).maskMsi = 0xFFFFFFFF ∧
    (Tab.get State.reset.cmd.groups g IntGroup.reset).maskPin = 0xFFFFFFFF)

/-- Cold and chip reset (R69): whatever causes one, the mailboxes, the semaphores and the scheduled-command queue are
empty after it, and LAST_RESET names the cause: 0 POR_N, 3 the rail monitor, 1 RESET_N, 2 SYS_RESET, whose reset begins
when no entry waits behind a signature (log entry 55). -/
def Obligations.ResetsEmptyTheQueues : Prop :=
  (∀ dt (s : State), (State.advance s dt).sys.porLow = false →
    ∃ t, exec (.porNAssert dt true) s = .next t ∧ Emptied t ∧ t.sys.lastReset = 0) ∧
  (∀ dt out (s : State), out &&& ~~~s.sys.railsOut ≠ 0 → ∃ t, exec (.railMonitorReset dt out) s = .next t ∧ Emptied t ∧ t.sys.lastReset = 3) ∧
  (∀ dt (s : State), s.sys.resetLow = false → s.sys.inReset = false ∨ s.sys.coldReset = false →
    ∃ t, exec (.resetNAssert dt true) s = .next t ∧ Emptied t ∧ t.sys.lastReset = 1) ∧
  (∀ (p : Packet) (s : State), runsNow specSysReset p s = true → fld (p.w 0) 0 2 = 0 → let u := bodyFrom p s
    (({ u with sys := { u.sys with after := 1 } }).finish p 0x0045 .ok [] false).log.waitQ = [] →
    ∃ t, exec (.sysReset p) s = .next t ∧ Emptied t ∧ t.sys.lastReset = 2)

/-- KEY_DERIVE (R346): the EMPTY target slot takes KDF(parent key, LABEL, CONTEXT, 8 x KEY_LEN) with the parent's EPOCH,
TEST and PREV, and no other slot changes; a child more exportable than its parent is DENIED; a parent that is no LOADED
slot with USAGE KDF gives BAD_PARAM. -/
def Obligations.KeyDerivation : Prop :=
  (∀ (p : Packet) (s : State), runsNow specKeyDerive p s = true → let u := bodyFrom p s
    let par := u.kslot (fld (p.w 0) 0 6)
    let k := fld (p.w 0) 8 6
    u.ready pdCrypto = true → u.sys.tamperHold = false → u.mon.pfw = false → u.key.busyOp = none →
    (u.kslot k).loaded = false →
    ((flag (p.w 0) 24 = true → par.exportable = true) →
      ∃ v ws, exec (.keyDerive p) s = .next (ran specKeyDerive p v ws) ∧
        let c := v.kslot k
        c.loaded = true ∧ c.epoch = par.epoch ∧ c.test = par.test ∧ c.prev = par.prev ∧
        c.exportable = flag (p.w 0) 24 ∧
        c.key = BitVec.ofNat 256 (natOfLe (kdf (digBytes par.key) ((deriveText p).1.take (fld (p.w 2) 0 8))
          ((deriveText p).2.take (fld (p.w 2) 8 8)) (8 * keyLenOf (fld (p.w 0) 20 4)))) ∧
        ∀ j, j ≠ k → v.kslot j = u.kslot j) ∧
    (flag (p.w 0) 24 = true → par.exportable = false →
      exec (.keyDerive p) s = .next (u.finish p 0x0942 .denied [] false).settle)) ∧
  (∀ (p : Packet) (s : State), (s.arrive p.dt).canFetch 0x0942 p = true → p.len = 27 → p.mailbox = false → privileged p.master 0x0942 = true →
    let u := checkFrom p s
    lcLoads u p = true →
    (u.kslot (fld (p.w 0) 0 6)).loaded = false ∨ (u.kslot (fld (p.w 0) 0 6)).usage ≠ 2 →
    exec (.keyDerive p) s = .next (u.finish p 0x0942 .badParam [] false))

/-- TAI96 values (R3 to R5): every instant of the accord is emitted with a legal NANOSECONDS field and reads back as
itself, a legal value names one instant, and its three words are little-endian. A packet's header and payload spell that
packet (R39). A cookie of a 16-byte nonce opens, under the key that minted it, to its C2S and S2C keys and its KEYID (R299). -/
def Obligations.CodesReadBack : Prop :=
  (∀ n, n < 2 ^ 48 * sec16 → taiOk (taiOf n) = true ∧ taiNat (taiOf n) = n ∧
    (taiSec (taiOf n)).toNat = n / sec16 ∧ (taiNs (taiOf n)).toNat = n % sec16 / 65536 ∧
    (taiFrac (taiOf n)).toNat = n % 65536) ∧
  (∀ t, taiOk t = true → taiOf (taiNat t) = t) ∧
  (∀ t, taiWords t = [t.extractLsb' 0 32, t.extractLsb' 32 32, t.extractLsb' 64 32]) ∧
  (∀ (p : Packet) op, op < 65536 → p.rsvd < 2 ^ 109 → p.payload.length = min p.len.toNat 256 →
    Packet.ofWords p.master p.source (p.header op ++ p.payload) = (op, { p with dt := 0, keepFail := none })) ∧
  (∀ key id (n : List Byte) c2s s2c, n.length = 16 → let c := mintCookie key id n c2s s2c
    c.length = 104 ∧ cookieKeyId c = id ∧ openCookie key c = some (c2s, s2c))

/-- Error bounds and flags (R7, R8): a bound of 0xFF_FFFF or more is reported as 0xFF_FFFF with SAT, any other as it is
with SAT clear; the other flags are those of the device's condition, and the block-specific bits are zero. -/
def Obligations.BoundsAndFlags : Prop :=
  ∀ (s : State) e, let t := State.stampWith s e
    (t.eb.toNat = if s.ebAccord + e < 0xFFFFFF then s.ebAccord + e else 0xFFFFFF) ∧
    has t.flags 0 = decide (0xFFFFFF ≤ s.ebAccord + e) ∧
    (has t.flags 1 = true ↔ s.acd.state = .drydownIn ∨ s.acd.state = .drydownOut) ∧
    has t.flags 2 = s.acd.macerate ∧ has t.flags 3 = s.flt.safe ∧ has t.flags 4 = decide (s.acd.stepOut ≠ 0) ∧
    has t.flags 5 = false ∧ has t.flags 6 = false ∧ has t.flags 7 = false

/-- The accord is a counter that adds TOD_INCR on each tick while PD_TIME is ready (R121); a change of TOD_INCR counts
from its apply tick on (R16); readings truncate the internal value to FRACTION. -/
def Obligations.AccordCounts : Prop :=
  (∀ (s : State) dt, s.ready pdTime = true → s.acd.incrQueue = [] →
    (s.advance dt).acd.count = s.acd.count + dt * s.acd.incrCur.toNat) ∧
  (∀ (s : State) dt a v, s.ready pdTime = true → s.acd.incrQueue = [(a, v)] → s.ticks < a → a ≤ s.ticks + dt →
    (s.advance dt).acd.count =
      s.acd.count + (a - 1 - s.ticks) * s.acd.incrCur.toNat + (s.ticks + dt - (a - 1)) * v.toNat ∧
    (s.advance dt).acd.incrCur = v ∧ (s.advance dt).acd.incrQueue = []) ∧
  (∀ (s : State) dt a v, s.ready pdTime = true → s.acd.incrQueue = [(a, v)] → s.ticks + dt < a →
    (s.advance dt).acd.count = s.acd.count + dt * s.acd.incrCur.toNat ∧ (s.advance dt).acd.incrQueue = [(a, v)]) ∧
  (∀ (s : State) dt, s.ready pdTime = false → (s.advance dt).acd = s.acd) ∧
  (∀ (s : State), s.now16 * 2 ^ 40 ≤ s.acd.count ∧ s.acd.count < (s.now16 + 1) * 2 ^ 40)

/-- The chain (R317): an entry that is written takes the next SEQ, is held last, and its chain hash is the SHA-256 of the
head before it and of the entry's words. -/
def Obligations.LogChain : Prop :=
  ∀ (s : State) e, let x := { e with seq := Log.nextSeq s.log }
    let t := State.logRaw s e
    t.log.held = s.log.held ++ [x] ∧ t.log.seq = x.seq ∧ t.log.any = true ∧
    t.log.head = sha256 (digBytes s.log.head ++ wordsBytes x.words) ∧
    (x.mid.length = 4 → x.payload.length ≤ 10 → (wordsBytes x.words).length = 64)

/-- Semaphores (R56), where none has changed in this cycle: a read of a free semaphore, or by its holder, is GRANTED and
leaves it held by the reader; a read of one that another holds is BUSY with the holder's ID and changes no holder; a
write by the holder frees it, a write by anyone else is refused and counted; a read in the cycle of the release is still
BUSY with the releasing master's ID; of the masters that read a free one in the same cycle the lowest ID has it (R13). -/
def Obligations.Semaphores : Prop :=
  (∀ dt m i (s : State), let u := State.advance s dt
    let holder := Tab.get u.cmd.sems (BitVec.toNat i) none
    u.reached m = true → m ≠ 14 → u.cmd.semTick ≠ u.ticks →
    (holder = none → ∀ r, u.semRival m i.toNat = some r → ∃ t, exec (.semRead dt m i) s = .next t ∧
      t.cmd.readWord = word [(0, r.toNat), (4, 0), (5, 1)] ∧ t.cmd.sems = u.cmd.sems) ∧
    (holder = none ∧ u.semRival m i.toNat = none ∨ holder = some m → ∃ t, exec (.semRead dt m i) s = .next t ∧
      t.cmd.readWord = word [(0, m.toNat), (4, 1), (5, 0)] ∧ t.cmd.sems = Tab.set u.cmd.sems i.toNat (some m)) ∧
    (∀ h, holder = some h → h ≠ m → ∃ t, exec (.semRead dt m i) s = .next t ∧
      t.cmd.readWord = word [(0, h.toNat), (4, 0), (5, 1)] ∧ t.cmd.sems = u.cmd.sems)) ∧
  (∀ dt m i (s : State), let u := State.advance s dt
    let holder := Tab.get u.cmd.sems (BitVec.toNat i) none
    u.reached m = true →
    (holder = some m → ∃ t, exec (.semRelease dt m i) s = .next t ∧ t.cmd.sems = Tab.set u.cmd.sems i.toNat none) ∧
    (holder ≠ some m → ∃ t, exec (.semRelease dt m i) s = .next t ∧ t.cmd.sems = u.cmd.sems ∧
      t.sys.refusedWrites = u.sys.refusedWrites + 1)) ∧
  (∀ m h i (s : State), Tab.get s.cmd.sems (BitVec.toNat i) none = some h → s.reached h = true → s.reached m = true → m ≠ 14 →
    m ≠ h → s.cmd.semTick ≠ s.ticks →
    ∃ t r, exec (.semRelease 0 h i) s = .next t ∧ exec (.semRead 0 m i) t = .next r ∧
      r.cmd.readWord = word [(0, h.toNat), (4, 0), (5, 1)] ∧ Tab.get r.cmd.sems i.toNat none = none)

/-- A packet that would write a CSP field (R395, R397): under the power-fail warning it returns BUSY and is counted in
KEEP_PFW_REFUSED, whatever its opcode; otherwise, while the keep is read-only, it returns NO_RESOURCE. Neither has any
other effect. -/
def Obligations.PersistentFieldsGuarded : Prop :=
  ∀ i o (p : Packet) (s : State), packetOf i = some (o, p) → (s.arrive p.dt).canFetch o.opcode p = true →
    let u := bodyFrom p s
    o.early p u = none → p.sched = false → p.dryRun = false → devAllows o.states u.sys.devState = true →
    u.logFullFor o.opcode = false → o.csp p = true →
    (u.mon.pfw = true → exec i s = .next (({ u with keep := { u.keep with
      pfwRefused := u.keep.pfwRefused + 1 } }).finish p o.opcode .busy [] false).settle) ∧
    (u.mon.pfw = false → u.keep.ro = true → exec i s = .next (u.finish p o.opcode .noResource [] false).settle)

/-- Register accesses configure nothing (R12): whatever master makes one, and whatever it names, every CSP field, the
keep's image, the fuses and the keys stay; a write where the REF, ACD, OUT and TIC blocks take none is refused and
counted, and raises INT_CMD_REFUSED_WRITE. -/
def Obligations.AccessesConfigureNothing : Prop :=
  (∀ i (s : State) t dt m addrs, (s.advance i.dt).accessOf i = some (dt, m, addrs) → exec i s = .next t →
    t.cfg = s.cfg ∧ t.keep.image = s.keep.image ∧ t.fuse = s.fuse ∧ t.key = s.key) ∧
  (∀ dt w m addr v (s : State), let u := State.advance s dt
    State.writes u w = (m, [(addr, v)]) → u.reached m = true → outOfRange m addr = false →
    0x100000 ≤ BitVec.toNat addr → BitVec.toNat addr < 0x300000 →
    BitVec.toNat addr ≠ 0x140008 → BitVec.toNat addr ≠ 0x200040 →
    exec (.registerWrite dt w) s =
      .next (({ u with sys := { u.sys with refusedWrites := u.sys.refusedWrites + 1 } }).irq (src 1 8)))

/-- Ring pointers (R51, R52): the host moves PROD of a host-to-device ring, or CONS of a device-to-host ring, forward and
within the ring's slots; any other move of it, or of the pointer that the device owns, is refused and counted, and leaves
every pointer of the ring. -/
def Obligations.RingPointers : Prop :=
  (∀ dt n v (s : State), let u := State.advance s dt
    let r := u.ring (BitVec.toNat n)
    u.reached 0 = true → hostToDevice n.toNat = true →
    ((v - r.cons).toNat ≤ r.size → r.used ≤ (v - r.cons).toNat →
      exec (.ringProdWrite dt 0 n v) s = .next (u.modRing n.toNat fun r => { r with prod := v })) ∧
    (r.size < (v - r.cons).toNat ∨ (v - r.cons).toNat < r.used →
      ∃ t, exec (.ringProdWrite dt 0 n v) s = .next t ∧ (t.ring n.toNat).prod = r.prod ∧
        (t.ring n.toNat).cons = r.cons ∧ (t.ring n.toNat).enable = r.enable ∧ (t.ring n.toNat).ptrErr = true ∧
        t.sys.refusedWrites = u.sys.refusedWrites + 1 ∧
        has (Tab.get t.cmd.groups 15 IntGroup.reset).status 0 = true)) ∧
  (∀ dt n v (s : State), let u := State.advance s dt
    let r := u.ring (BitVec.toNat n)
    u.reached 0 = true → hostToDevice n.toNat = false →
    ((v - r.cons).toNat ≤ r.used → ∃ t, exec (.ringConsWrite dt 0 n v) s = .next t ∧
      (t.ring n.toNat).cons = v ∧ (t.ring n.toNat).prod = r.prod) ∧
    (r.used < (v - r.cons).toNat → ∃ t, exec (.ringConsWrite dt 0 n v) s = .next t ∧
      (t.ring n.toNat).cons = r.cons ∧ (t.ring n.toNat).prod = r.prod ∧ (t.ring n.toNat).enable = r.enable ∧
      (t.ring n.toNat).ptrErr = true ∧ t.sys.refusedWrites = u.sys.refusedWrites + 1)) ∧
  (∀ dt n v (s : State), let u := State.advance s dt
    u.reached 0 = true →
    (hostToDevice (BitVec.toNat n) = false → exec (.ringProdWrite dt 0 n v) s = .next u.refuseWrite) ∧
    (hostToDevice n.toNat = true → exec (.ringConsWrite dt 0 n v) s = .next u.refuseWrite))

/-- A class A source (R357, R363): once the collector is armed, its assertion enters the safe state and records the
first source; a further one is latched and leaves the record as it is. -/
def Obligations.ClassAEntersSafe : Prop :=
  (∀ (s : State) n, s.sys.devState ≠ .boot → faultNamed n = true → s.faultClass n = 2 →
    faultLevel n = false ∨ has s.flt.present n = false → s.flt.safe = false → let t := State.faultAssert s n
    t.flt.safe = true ∧ t.sys.devState = .safe ∧ has t.flt.latch n = true ∧
    (s.flt.selfFail = false → t.flt.firstA = BitVec.ofNat 8 n)) ∧
  (∀ (s : State) n, s.sys.devState ≠ .boot → faultNamed n = true → s.faultClass n = 2 →
    faultLevel n = false ∨ has s.flt.present n = false → s.flt.safe = true → let t := State.faultAssert s n
    t.flt.safe = true ∧ t.sys.devState = s.sys.devState ∧ has t.flt.latch n = true ∧ t.flt.firstA = s.flt.firstA ∧
    t.flt.safeAt = s.flt.safeAt)

/-- A tamper source that is enabled asserts in INIT, RUN, MAINT or SAFE (R351): the seal and every root are zero, every
key slot is EMPTY, the LOG engine has no LSK, TAMPER_HOLD is set, DEV_STATE is unchanged and the accord goes on. -/
def Obligations.TamperZeroes : Prop :=
  ∀ dt n (s : State), let u := State.advance s dt
    u.tamperEnabled (BitVec.toNat n) = true →
    u.sys.devState = .init ∨ u.sys.devState = .run ∨ u.sys.devState = .maint ∨ u.sys.devState = .safe →
    u.faultClass 213 < 2 → u.faultClass 192 = 1 →
    ∃ t, exec (.tamperAssert dt n true) s = .next t ∧
      t.vbat.sealKey = 0 ∧ t.vbat.latched = true ∧ t.key.uds = 0 ∧ t.key.kr = 0 ∧ t.key.kt = 0 ∧ t.key.kek = 0 ∧
      t.key.kekPrev = 0 ∧ t.key.lsk = 0 ∧ t.key.ak = 0 ∧ (∀ k, (t.kslot k).loaded = false) ∧
      t.log.lskOn = false ∧ t.sys.tamperHold = true ∧ t.sys.devState = u.sys.devState ∧ t.acd.count = u.acd.count

/-- Reads that reach no register (R31, R38): a counter, a record or any other register of a domain that is not ready reads
0xBAD0_00nn, nn the domain's number, clears nothing and powers nothing up; a read outside a serial master's range reads
0xBAD0_00FF and counts as a refused write. -/
def Obligations.ReadsOfNothing : Prop :=
  (∀ dt r m addr (s : State) x, let u := State.advance s dt
    State.reads u r = (m, [addr]) → (∀ o w, r ≠ .bar2 o w) → u.reached m = true → outOfRange m addr = false →
    BitVec.toNat addr < bar0 → u.noGns addr.toNat = false → u.rcAt addr.toNat = some x → u.ready x.dom = false →
    exec (.rcCounterRead dt r) s = .next { u with cmd := { u.cmd with
      readWord := BitVec.ofNat 32 (0xBAD00000 + x.dom), readWords := [BitVec.ofNat 32 (0xBAD00000 + x.dom)] } }) ∧
  (∀ dt r m addr (s : State) d ws, let u := State.advance s dt
    State.reads u r = (m, [addr]) → (∀ o w, r ≠ .bar2 o w) → u.reached m = true → outOfRange m addr = false →
    BitVec.toNat addr < bar0 → u.noGns addr.toNat = false → u.recordAt addr.toNat = some (d, ws) → u.ready d = false →
    exec (.shadowLatchRead dt r) s = .next { u with cmd := { u.cmd with
      readWord := BitVec.ofNat 32 (0xBAD00000 + d), readWords := [BitVec.ofNat 32 (0xBAD00000 + d)] } }) ∧
  (∀ dt r m addr (s : State), let u := State.advance s dt
    State.reads u r = (m, [addr]) → u.reached m = true → m = 1 ∨ m = 2 → 0x00FFFFFF < BitVec.toNat addr →
    ∃ t, exec (.queuePop dt r) s = .next t ∧ exec (.rcCounterRead dt r) s = .next t ∧
      exec (.shadowLatchRead dt r) s = .next t ∧ t.cmd.readWord = 0xBAD000FF ∧
      t.sys.refusedWrites = u.sys.refusedWrites + 1)

/-- What reset leaves, where the spec gives it: BOOT with the always-on domains ready, a COLD accord at zero, mailboxes,
semaphores and rings empty, INT_N not asserted, no fault latched, no key loaded, the part's identifier. -/
def Obligations.ResetValues : Prop :=
  let s := State.reset
  s.sys.devState = .boot ∧ s.sys.domReady = 0x0003 ∧ s.sys.tamperHold = false ∧ s.acd.state = .cold ∧ s.acd.count = 0 ∧
  s.fuse.chipId = 0x5A1860A1 ∧ s.fuse.siRev = 0xA1 ∧ Emptied s ∧
  (∀ n, n < 64 → (s.ring n).enable = false ∧ (s.ring n).prod = 0 ∧ (s.ring n).cons = 0) ∧
  (∀ k, k < 64 → (s.kslot k).loaded = false) ∧ s.flt.safe = false ∧ s.flt.latch = 0 ∧ s.intN = false ∧ s.pending = []

/-- The balls: the count of each net, and every signal on one ball (R420 to R422); and the levels of R92 and R424: in reset,
of the flash balls outside BOOT, staging and waking (R73), of ALIVE (R365), of INT_N (R62) and, in the safe state, of the
time pulses and silent ToD outputs (R220). A ball is out of reset and powered where `dark` is false; that every rail out of
its window is the unpowered device is the model's choice (log entry 89). -/
def Obligations.BallLevels : Prop :=
  let nets := (List.range 41).flatMap fun r => (List.range 41).map fun c => ballNet (r + 1) (c + 1)
  let signals := nets.filterMap fun b => match b with | .signal x => some x | _ => none
  (nets.count .vddCore = 182 ∧ nets.count .vddSram = 28 ∧ nets.count .vddAna = 224 ∧ nets.count .vddSd09 = 32 ∧
    nets.count .vddSd12 = 20 ∧ nets.count .vddIo = 17 ∧ nets.count .vddIo33 = 3 ∧ nets.count .vbat = 2 ∧
    nets.count .vss = 886 ∧ signals.length = 287 ∧ nets.length = 1681) ∧
  signals.Nodup ∧
  (∀ (s : State) x, s.sys.inReset = true → s.ballLevel x = match x with
    | .ethTx _ _ | .benitTx _ _ | .pcieTx _ _ => if s.unpowered then .noOutput else .idle
    | .claimN => .released
    | .i2cAddr _ | .pairSide => if s.sys.coldReset && !s.unpowered then .pullDown else .highZ
    | .tampIn _ | .rtcXin | .rtcXout => .active
    | _ => .highZ) ∧
  (∀ (s : State) k, s.sys.devState ≠ .boot → s.sys.stageBusy = false → s.sys.waking = false →
    s.ballLevel .qspiCsN = .highZ ∧ s.ballLevel .qspiSclk = .highZ ∧ s.ballLevel (.qspiIo k) = .highZ) ∧
  (∀ (s : State), s.dark = false →
    (s.sys.devState = .boot ∨ s.flt.safe = true → s.ballLevel .alive = .low) ∧
    (s.sys.devState = .init ∨ s.sys.devState = .run ∨ s.sys.devState = .maint ∨ s.sys.devState = .sleep →
      s.flt.safe = false → s.sys.aliveLow = false → s.ballLevel .alive = .tenKHz) ∧
    (s.ballLevel .intN = .low ↔ ∃ g ∈ s.cmd.groups.toList, g.pinStatus &&& ~~~g.maskPin ≠ 0)) ∧
  (∀ (s : State), s.dark = false → s.ready pdTime = true → s.flt.safe = true →
    (∀ m, (s.otpCfg m).enable = true → (s.otpCfg m).shared = false → s.ballLevel (.tp m) = .low) ∧
    (∀ k, (s.otodCfg k).enable = true → (s.otodCfg k).shared = false → (s.otod k).running = false →
      s.ballLevel (.tod k) = .high))

/-- Every SYS query and every other SYS packet that passes the checks of R42 at once has its effect: the state that its
body leaves, and its reply words, are the ones stated. -/
def Obligations.SysPacketsRun : Prop :=
  (∀ p s, runsNow specSysQueryState p s = true → let u := bodyFrom p s
    exec (.sysQueryState p) s = .next (ran specSysQueryState p u
      [u.sysStateWord, u.bootStatusWord, u.domStatusWord, u.fwStatusWord])) ∧
  (∀ p s, runsNow specSysQueryCounters p s = true → let u := bodyFrom p s
    exec (.sysQueryCounters p) s = .next (ran specSysQueryCounters p u u.counterWords)) ∧
  (∀ p s, runsNow specSysEcho p s = true →
    exec (.sysEcho p) s = .next (ran specSysEcho p (bodyFrom p s) p.payload)) ∧
  (∀ p s, runsNow specSysSetState p s = true → let u := bodyFrom p s
    let w := p.w 0
    let v := if flag w 8 then { u with cfg := { u.cfg with sys := { u.cfg.sys with autoRun := flag w 9 } } } else u
    setStateLc u p = true → fld w 0 3 = 0 ∨ u.sys.tamperHold = false →
    (fld w 0 3 = 2 → exec (.sysSetState p) s = .next (ran specSysSetState p v.enterRun [])) ∧
    (fld w 0 3 = 3 → exec (.sysSetState p) s = .next (ran specSysSetState p (v.setDev .maint).react [])) ∧
    (fld w 0 3 ≠ 2 → fld w 0 3 ≠ 3 → exec (.sysSetState p) s = .next (ran specSysSetState p v []))) ∧
  (∀ p s, runsNow specSysClearSafe p s = true → let u := bodyFrom p s
    u.flt.selfFail = false → (u.flt.freshA && u.flt.freshTick == u.ticks) = false → u.causePresent u.flt.present = false →
    exec (.sysClearSafe p) s = .next (ran specSysClearSafe p u.safeLeave [word [(0, u.flt.first)]])) ∧
  (∀ p s, runsNow specSysDomainPower p s = true → let u := bodyFrom p s
    let on := u.onMask (domMasks p).1
    let off := offMask (domMasks p).2
    (has off 2 = true → u.sys.devState = .maint) → (has off 12 = true → u.pair.role ≠ .active) →
    (on ||| off) &&& u.switchingDoms = 0 →
    let v := (u.powerDown off).powerUp on
    let x := if flag (p.w 2) 0 then { v with cfg := { v.cfg with sys := { v.cfg.sys with
      bootOn := u.onResult on off } } } else v
    exec (.sysDomainPower p) s = .next (ran specSysDomainPower p x [on.setWidth 32, off.setWidth 32])) ∧
  (∀ p s, runsNow specSysSleep p s = true → let u := bodyFrom p s
    u.pair.role ≠ .active → flag (p.w 0) 0 = true ∨ u.cmd.sched = [] →
    exec (.sysSleep p) s = .next (ran specSysSleep p (u.sleepNow (flag (p.w 0) 0) (flag (p.w 0) 1)) [])) ∧
  (∀ p s, runsNow specSysWake p s = true →
    exec (.sysWake p) s = .next (ran specSysWake p ((bodyFrom p s).wakeNow 1 p.master) [])) ∧
  (∀ p s, runsNow specSysReset p s = true → let u := bodyFrom p s
    (fld (p.w 0) 0 2 = 0 →
      exec (.sysReset p) s = .next (ran specSysReset p { u with sys := { u.sys with after := 1 } } [])) ∧
    (fld (p.w 0) 0 2 = 1 →
      (has (offMask ((p.w 1).setWidth 13)) 2 = true → u.sys.devState = .maint ∨ u.sys.devState = .safe) →
      offMask ((p.w 1).setWidth 13) &&& u.switchingDoms = 0 →
      exec (.sysReset p) s = .next (ran specSysReset p (u.powerCycle (offMask ((p.w 1).setWidth 13))) [])) ∧
    (fld (p.w 0) 0 2 ≠ 0 → fld (p.w 0) 0 2 ≠ 1 → exec (.sysReset p) s = .next (ran specSysReset p u.loopLoad []))) ∧
  (∀ p s, runsNow specSysFwStage p s = true → let u := bodyFrom p s
    u.sys.stageBusy = false →
    exec (.sysFwStage p) s = .next (ran specSysFwStage p { u with sys := { u.sys with
      stageBusy := true, stageValid := false, stageAddr := p.w2 0, stageLen := p.w 2 } } [])) ∧
  (∀ p s, runsNow specSysFwActivate p s = true → let u := bodyFrom p s
    (flag (p.w 0) 8 = true → flag (p.w 0) 0 = u.sys.bootSlot ∧ u.fuse.svnFloor < u.sys.svnRunning) →
    exec (.sysFwActivate p) s = .next (ran specSysFwActivate p { u with
      cfg := { u.cfg with sys := { u.cfg.sys with nextSlot := flag (p.w 0) 0 } }
      fuse := if flag (p.w 0) 8 then u.fuse.raiseFloor u.sys.svnRunning else u.fuse } [])) ∧
  (∀ p s, runsNow specSysSetMbxRoute p s = true → let u := bodyFrom p s
    (u.mbx 7).full = false →
    exec (.sysSetMbxRoute p) s = .next (ran specSysSetMbxRoute p (u.modMbx 7 fun m =>
      { m with sender := (p.w 0).extractLsb' 0 4, receiver := (p.w 0).extractLsb' 4 4 }) [])) ∧
  (∀ p s, runsNow specSysSetSemCfg p s = true → let u := bodyFrom p s
    exec (.sysSetSemCfg p) s = .next (ran specSysSetSemCfg p { u with cmd := { u.cmd with semLog := p.w 0 } } [])) ∧
  (∀ p s, runsNow specSysSemForce p s = true → let u := bodyFrom p s
    let i := fld (p.w 0) 0 5
    (Tab.get u.cmd.sems i none = none → exec (.sysSemForce p) s = .next (ran specSysSemForce p u [0])) ∧
    (∀ h, Tab.get u.cmd.sems i none = some h →
      exec (.sysSemForce p) s = .next (ran specSysSemForce p ((u.semPut i none).raise (src 1 10) i)
        [word [(0, h.toNat), (4, 1)]]))) ∧
  (∀ p s, runsNow specSysRingConfig p s = true → let u := bodyFrom p s
    let n := fld (p.w 0) 0 6
    u.ready pdPcie = true → (u.ring n).enable = false →
    exec (.sysRingConfig p) s = .next (ran specSysRingConfig p (u.modRing n fun r =>
      { r with
        baseLo := p.w 1, baseHi := p.w 2, sizeLog2 := (p.w 3).extractLsb' 0 4
        holdUs := (p.w 4).extractLsb' 0 16, modCount := (p.w 4).extractLsb' 16 16 }) [])) ∧
  (∀ p s, runsNow specSysRingEnable p s = true → let u := bodyFrom p s
    u.ready pdPcie = true →
    exec (.sysRingEnable p) s = .next (ran specSysRingEnable p (u.ringsEnable (p.w2 0) (p.w2 2)) [])) ∧
  (∀ p s, runsNow specSysIntRoute p s = true → let u := bodyFrom p s
    let c := { u.cmd with groups := Tab.mod u.cmd.groups (fld (p.w 0) 0 4) fun g => g.route p }
    exec (.sysIntRoute p) s = .next (ran specSysIntRoute p { u with cmd := u.cmd.sendNew c } [])) ∧
  (∀ p s e, runsNow specSysCancel p s = true → let u := bodyFrom p s
    (u.cmd.sched.find? fun e => e.named (p.w 0)) = some e → p.master = 0 ∨ p.master = e.pkt.master →
    exec (.sysCancel p) s = .next (ran specSysCancel p
      (({ u with cmd := { u.cmd with sched := u.cmd.sched.erase e } }.countStatus .ok false).reply
        e.pkt e.opcode.toNat 2 .ok [] 0 true) [])) ∧
  (∀ p s, runsNow specSysBltUnlock p s = true → let u := bodyFrom p s
    let want : BitVec 3 := (p.w 0).setWidth 3
    let need := want &&& ~~~bltOpen u.lc
    (want = 0 → exec (.sysBltUnlock p) s = .next (ran specSysBltUnlock p u.endUnlock
      [word [(0, u.endUnlock.bltScope.toNat)]])) ∧
    (want ≠ 0 → need = 0 →
      exec (.sysBltUnlock p) s = .next (ran specSysBltUnlock p u [word [(0, u.bltScope.toNat)]])) ∧
    (need ≠ 0 → need &&& ~~~bltUnlockable u.lc = 0 → u.lc = .blank ∨ u.fuse.ownerDbgSet = true →
      let a := u.newChallenge
      let v := (a.modBlt fun b => { b with unlocked := b.unlocked ||| need }).raise (src 15 24) need.toNat
      exec (.sysBltUnlock p) s = .next (if u.bltToken p then ran specSysBltUnlock p v [word [(0, v.bltScope.toNat)]]
        else (a.finish p 0x004F .authFail [] false).settle))) ∧
  (∀ p s, runsNow specSysBltSelect p s = true → let u := bodyFrom p s
    let sel := fld (p.w 0) 0 8
    let arg := fld (p.w 0) 8 8
    bltNeeds sel &&& ~~~u.bltScope = 0 → u.ready (bltDomain sel arg) = true →
    (sel = 16 → u.serving arg = false) → u.bistHolds sel arg = false →
    exec (.sysBltSelect p) s = .next (ran specSysBltSelect p
      (u.modBlt fun b => { b with sel := BitVec.ofNat 8 sel, arg := BitVec.ofNat 8 arg, selAt := u.ticks + usTicks }) [])) ∧
  (∀ p s, runsNow specSysBistRun p s = true → let u := bodyFrom p s
    u.blt.bist = none → (∀ t < 6, flag (p.w 0) t = true → u.bistOk ((p.w 1).setWidth 4) t = true) →
    let r : BistRun := { mask := (p.w 0).setWidth 6, quads := (p.w 1).setWidth 4, outs := (p.w 2).setWidth 16, start := u.ticks }
    exec (.sysBistRun p) s = .next (ran specSysBistRun p (u.modBlt fun b => { b with bist := some r, bistValid := false }) []))

/-- Every REF packet that passes the checks of R42 at once has its effect (R119 and the rules its rows name). -/
def Obligations.RefPacketsRun : Prop :=
  (∀ p s, runsNow specRefQuerySlot p s = true → let u := bodyFrom p s
    exec (.refQuerySlot p) s = .next (ran specRefQuerySlot p u (u.refWindow (fld (p.w 0) 0 5)))) ∧
  (∀ p s, runsNow specRefQueryMatrix p s = true → let u := bodyFrom p s
    exec (.refQueryMatrix p) s = .next (ran specRefQueryMatrix p u
      ((List.range (fld (p.w 0) 8 8)).flatMap fun i => u.cellSnapWords (fld (p.w 0) 0 8 + i)))) ∧
  (∀ p s, runsNow specRefQueryHistory p s = true → let u := bodyFrom p s
    exec (.refQueryHistory p) s = .next (ran specRefQueryHistory p u
      ((List.range 20).map fun n => (u.slot n).history.setWidth 32))) ∧
  (∀ p s, runsNow specRefSetSlot p s = true → let u := bodyFrom p s
    let n := fld (p.w 0) 0 5
    (u.isSel n = false → (u.slot n).qstate = .disabled →
      exec (.refSetSlot p) s = .next (ran specRefSetSlot p (u.setSlotCfg n fun _ => setSlotTo p (u.slotCfg n)) [])) ∧
    (u.isSel n = false → (u.slot n).qstate ≠ .disabled →
      exec (.refSetSlot p) s = .next (ran specRefSetSlot p
        ((u.setSlotCfg n fun _ => setSlotTo p (u.slotCfg n)).refAbsent n) []))) ∧
  (∀ p s, runsNow specRefSetQual p s = true → let u := bodyFrom p s
    exec (.refSetQual p) s = .next (ran specRefSetQual p (u.setSlotCfg (fld (p.w 0) 0 5) fun c => { c with
      ftol1s := (p.w2 1).setWidth 40, ftol64s := (p.w2 3).setWidth 40, ftol4096s := (p.w2 5).setWidth 40
      tieLimitNs := (p.w 7).setWidth 24, gateNs := (p.w 8).setWidth 24, horizonS := p.w 9 }) [])) ∧
  (∀ p s, runsNow specRefSetTimers p s = true → let u := bodyFrom p s
    let n := fld (p.w 0) 0 5
    exec (.refSetTimers p) s = .next (ran specRefSetTimers p (((u.setSlotCfg n fun c => { c with
      holdoffMs := (p.w 1).setWidth 14, wtrS := (p.w 2).setWidth 12
      firstWaitS := (p.w 2).extractLsb' 16 12 }).holdoffOut n).waitOut n) [])) ∧
  (∀ p s, runsNow specRefSetPriority p s = true →
    let v := (bodyFrom p s).setSlotCfg (fld (p.w 0) 0 5) fun c => { c with
      priority := (p.w 0).extractLsb' 8 4, quality := (p.w 0).extractLsb' 12 4 }
    exec (.refSetPriority p) s = .next (ran specRefSetPriority p (if flag (p.w 0) 16 then { v with
      cfg := { v.cfg with ref := { v.cfg.ref with revertive := flag (p.w 0) 17 } } } else v) [])) ∧
  (∀ p s, runsNow specRefSelect p s = true → let u := bodyFrom p s
    let n := fld (p.w 0) 8 5
    (fld (p.w 0) 0 2 = 0 → u.ref.switching = false →
      exec (.refSelect p) s = .next (ran specRefSelect p { u with ref := { u.ref with manual := false } } [])) ∧
    (fld (p.w 0) 0 2 ≠ 0 → u.ref.switching = false → u.eligible n = true →
      (u.acd.state ≠ .cold ∨ u.acd.cpllLock = true) →
      let v := { u with ref := { u.ref with manual := true, standbyBetter := false } }
      exec (.refSelect p) s = .next (ran specRefSelect p
        (if u.isSel n then v else v.startSwitch u.ref.selected.toNat n) []))) ∧
  (∀ p s, runsNow specRefClearHistory p s = true → let u := bodyFrom p s
    u.fuse.gnssEn = true →
    exec (.refClearHistory p) s = .next (ran specRefClearHistory p ((List.range 20).foldl (fun s n =>
      if flag (p.w 0) n then s.modSlot n fun q => { q with history := q.history &&& ~~~((p.w 1).setWidth 16) }
      else s) u) [])) ∧
  (∀ p s, runsNow specRefEnable p s = true →
    let v := (List.range 20).foldl (fun s n =>
      if flag (p.w 0) n then s.refEnableOne n (flag (p.w 1) n) else s) (bodyFrom p s)
    exec (.refEnable p) s = .next (ran specRefEnable p (match v.selectedSlot with
      | some n => if flag (p.w 0) n && !flag (p.w 1) n then v.refSelect else v
      | none => v) [])) ∧
  (∀ p s, runsNow specRefSetPtpSlave p s = true → ∃ v : State, exec (.refSetPtpSlave p) s = .next (ran specRefSetPtpSlave p v []) ∧
    v.cfg.ref.ptp = Tab.set (bodyFrom p s).cfg.ref.ptp (fld (p.w 0) 0 2) {
      lane := (p.w 0).extractLsb' 4 4, domain := (p.w 0).extractLsb' 8 8, profile := (p.w 0).extractLsb' 16 2
      announceTimeout := (p.w 1).setWidth 8, classMax := (p.w 1).extractLsb' 8 8, enable := flag (p.w 2) 0 })

/-- Every ACD packet that passes the checks of R42 at once has its effect (R148 and the rules its rows name). -/
def Obligations.AcdPacketsRun : Prop :=
  (∀ p s, runsNow specAcdQueryTime p s = true → let u := bodyFrom p s
    exec (.acdQueryTime p) s = .next (ran specAcdQueryTime p u (u.acdTime ++ [u.acdStatus, u.acdUtc]))) ∧
  (∀ p s, runsNow specAcdQueryServo p s = true → let u := bodyFrom p s
    exec (.acdQueryServo p) s = .next (ran specAcdQueryServo p u u.acdWindow)) ∧
  (∀ p s, runsNow specAcdSetServo p s = true →
    exec (.acdSetServo p) s = .next (ran specAcdSetServo p ((bodyFrom p s).setAcdCfg fun c => { c with
      owner := if flag (p.w 0) 8 then (p.w 0).setWidth 2 else c.owner
      psets := if flag (p.w 0) 14 then Tab.set c.psets (fld (p.w 0) 12 2) {
        bwMhz := p.w 1, dampM := (p.w 2).setWidth 16, servoFloor := (p.w 3).setWidth 24, lockNs := (p.w 4).setWidth 16
        lockS := (p.w 4).extractLsb' 16 16 } else c.psets
      servoTimeoutMs := if flag (p.w 0) 15 then (p.w 5).setWidth 16 else c.servoTimeoutMs }).loopLoad [])) ∧
  (∀ p s, runsNow specAcdSetStepPolicy p s = true →
    exec (.acdSetStepPolicy p) s = .next (ran specAcdSetStepPolicy p ((bodyFrom p s).setAcdCfg fun c => { c with
      modeStep := flag (p.w 0) 0, stepAllow := flag (p.w 0) 1, acqSlew := flag (p.w 0) 2
      slewLimitNs := (p.w 1).setWidth 17, stepMinNs := p.w 2 }) [])) ∧
  (∀ p s, runsNow specAcdSetHold p s = true →
    exec (.acdSetHold p) s = .next (ran specAcdSetHold p ((bodyFrom p s).setAcdCfg fun c => { c with
      holdAvgS := (p.w 0).setWidth 17, holdSpecNs := (p.w 1).setWidth 18, category := (p.w 2).setWidth 2
      primaryQmax := (p.w 2).extractLsb' 4 4 }).react [])) ∧
  (∀ p s, runsNow specAcdSetOscModel p s = true →
    exec (.acdSetOscModel p) s = .next (ran specAcdSetOscModel p ((bodyFrom p s).setAcdCfg fun c => { c with
      osc := Tab.set c.osc (fld (p.w 0) 0 3) {
        y0 := p.w 1, y0Free := p.w 2, age := p.w 3, tempco := p.w 4, tempSrc := (p.w 5).setWidth 4 }
      ocxoClass := if flag (p.w 0) 8 then (p.w 0).extractLsb' 9 3 else c.ocxoClass
      atomClass := if flag (p.w 0) 8 then (p.w 0).extractLsb' 12 3 else c.atomClass }) [])) ∧
  (∀ p s, runsNow specAcdSetTime p s = true → let u := bodyFrom p s
    u.acd.state = .cold ∧ u.acd.cpllLock = true ∨ u.acd.state = .freerun → u.ready pdTime = true →
    exec (.acdSetTime p) s = .next (ran specAcdSetTime p (u.seedAccord (p.tai 0) (p.w 3).toNat) [])) ∧
  (∀ p s, runsNow specAcdAdjustPhase p s = true → let u := bodyFrom p s
    u.acd.state = .freerun ∨ u.drydown = true →
    exec (.acdAdjustPhase p) s = .next (ran specAcdAdjustPhase p
      (u.addStep ((p.w2 0).toInt * 2 ^ 40) 2 false (ceilDiv ((p.w2 0).toInt.natAbs * 100) 65536)).switchDone [])) ∧
  (∀ p s, runsNow specAcdSetUtc p s = true →
    let w := p.w 0
    let k := fld w 17 2
    let a := (bodyFrom p s).setAcdCfg fun c => { c with
      utcOffsetS := if k = 0 then w.setWidth 16 else c.utcOffsetS, utcValid := flag w 16, leap := BitVec.ofNat 2 k
      leapAt := (p.w2 1).setWidth 48, leapOffset := w.setWidth 16 }
    let v := { a with acd := { a.acd with leapPending := k != 0 } }
    exec (.acdSetUtc p) s = .next (ran specAcdSetUtc p (if k = 0 then v else v.raise (src 3 11) 0 k) [])) ∧
  (∀ p s, runsNow specAcdSetCpllSource p s = true → let u := bodyFrom p s
    u.settable = true → u.acd.cpllRelock = false →
    let a := u.setAcdCfg fun c => { c with
      cpllAtom := flag (p.w 0) 0, ocxoHz := (p.w 1).setWidth 27, atomHz := (p.w 2).setWidth 27 }
    exec (.acdSetCpllSource p) s = .next (ran specAcdSetCpllSource p { a with acd := { a.acd with
      cpllRelock := u.ready pdTime, cpllLock := false
      cpllEver := u.acd.cpllEver && flag (p.w 0) 0 == u.cfg.acd.cpllAtom
      eb0 := if u.acd.state == .freerun then u.acd.eb0 + 100000 else u.acd.eb0 } } [])) ∧
  (∀ p s, runsNow specAcdEnterDrydown p s = true → let u := bodyFrom p s
    (flag (p.w 0) 0 = true → u.acd.state = .locked →
      exec (.acdEnterDrydown p) s = .next (ran specAcdEnterDrydown p
        ({ u with acd := { u.acd with forced := true } }.enterDrydown false) [])) ∧
    (flag (p.w 0) 0 = false → u.acd.forced = true →
      exec (.acdEnterDrydown p) s = .next (ran specAcdEnterDrydown p { u with acd := { u.acd with
        forced := false, reentry := u.selectedSlot.isSome && u.acd.state != .safe, reentryAt := u.ticks } } []))) ∧
  (∀ p s, runsNow specAcdSetMaceration p s = true →
    exec (.acdSetMaceration p) s = .next (ran specAcdSetMaceration p ((bodyFrom p s).setAcdCfg fun c => { c with
      macerationS := (p.w 0).setWidth 16, macEarly := flag (p.w 0) 16, macStabMppt := p.w 1 }) []))

/-- Every OUT packet that passes the checks of R42 at once has its effect (R232 and the rules its rows name). -/
def Obligations.OutPacketsRun : Prop :=
  (∀ p s, runsNow specOutQueryStatus p s = true → let u := bodyFrom p s
    exec (.outQueryStatus p) s = .next (ran specOutQueryStatus p u (u.targetWindow (p.w 0).toNat))) ∧
  (∀ p s, runsNow specOutQueryEcho p s = true → let u := bodyFrom p s
    exec (.outQueryEcho p) s = .next (ran specOutQueryEcho p u u.echoWords)) ∧
  (∀ p s, runsNow specOutSetSyn p s = true → let u := bodyFrom p s
    let k := fld (p.w 0) 0 2
    (∀ n < 16, (u.ochCfg n).enable = true → (u.ochCfg n).synSel.toNat ≠ k) → (u.syn k).locking = false →
    exec (.outSetSyn p) s = .next (ran specOutSetSyn p ((u.setOutCfg fun o => { o with
      syn := Tab.set o.syn k { on := flag (p.w 0) 8, vcoKhz := (p.w 1).setWidth 23 } }).modSyn k fun y =>
        { y with lock := false, locking := flag (p.w 0) 8 }).synClear [])) ∧
  (∀ p s, runsNow specOutSetOutput p s = true → let u := bodyFrom p s
    let n := fld (p.w 0) 0 4
    (u.ochCfg n).enable = false → (u.och n).running = false →
    let v := u.modOch n fun o => if o.gliding then { o with phaseErr := u.perrNow n, glideFrom := u.ticks } else o
    exec (.outSetOutput p) s = .next (ran specOutSetOutput p
      (v.setOutCfg fun c => { c with ch := Tab.set c.ch n (outCfgOf p (u.ochCfg n)) }).outEval [])) ∧
  (∀ p s, runsNow specOutSync p s = true → let u := bodyFrom p s
    let ns := maskList 16 (p.w 0)
    u.syncEarliest ns ≤ taiNat (p.tai 1) →
    exec (.outSync p) s = .next (ran specOutSync p
      (ns.foldl (fun s n => s.modOch n fun o => { o with syncAt := some (p.tai 1) }) u) [])) ∧
  (∀ p s, runsNow specOutSetTp p s = true → let u := bodyFrom p s
    let m := fld (p.w 0) 0 2
    (u.otpCfg m).enable = false ∨ (u.otpCfg m).shared = flag (p.w 0) 3 →
    let c := { u.otpCfg m with
      rateHz := BitVec.ofNat 10 (fld (p.w 0) 16 10), alignUtc := flag (p.w 0) 2, shared := flag (p.w 0) 3
      sqMask := BitVec.ofNat 7 (fld (p.w 0) 4 7), sqHighZ := flag (p.w 0) 11, periodS := (p.w 1).setWidth 12
      widthNs := (p.w 2).setWidth 29 }
    exec (.outSetTp p) s = .next (ran specOutSetTp p (u.setOutCfg fun o => { o with tp := Tab.set o.tp m c }).outEval
      [])) ∧
  (∀ p s, runsNow specOutSetTod p s = true →
    exec (.outSetTod p) s = .next (ran specOutSetTod p ((bodyFrom p s).setOutCfg fun o => { o with
      tod := Tab.mod o.tod (fld (p.w 0) 0 1) fun c => { c with
        fmt := BitVec.ofNat 4 (fld (p.w 0) 4 4), baud := BitVec.ofNat 3 (fld (p.w 0) 8 3)
        nmeaAlways := flag (p.w 0) 11, shared := flag (p.w 0) 12 } }).outEval [])) ∧
  (∀ p s, runsNow specOutEchoMeasure p s = true → let u := bodyFrom p s
    let t := fld (p.w 0) 0 5
    let a := fld (p.w 0) 8 5
    let b := fld (p.w 0) 16 5
    u.ready pdTic = true → u.targetShared t = false → u.out.echo = none → (u.tch a).claim = 0 → (u.tch b).claim = 0 →
    (u.tchCfg a).mode = 0 → (u.tchCfg b).mode = 0 →
    ∃ v : State, exec (.outEchoMeasure p) s = .next (ran specOutEchoMeasure p (v.echoHold t) []) ∧
      v.out.echo = some { target := BitVec.ofNat 5 t, a := BitVec.ofNat 5 a, b := BitVec.ofNat 5 b
                          autoComp := flag (p.w 0) 24, shots := (p.w 1).setWidth 13 } ∧ v.out.echoValid = false) ∧
  (∀ p s, runsNow specOutSetDelay p s = true →
    exec (.outSetDelay p) s = .next (ran specOutSetDelay p
      ((bodyFrom p s).setDelay (p.w 0).toNat (p.w 1) ((p.w 2).setWidth 24)) [])) ∧
  (∀ p s, runsNow specOutEnable p s = true →
    exec (.outEnable p) s = .next (ran specOutEnable p
      ((((maskList 22 (p.w 0)).foldl (fun s t => s.outEnable t (flag (p.w 1) t)) (bodyFrom p s)).outEval).alignClear.pairEval) []))

/-- Every TIC packet that passes the checks of R42 at once has its effect (R205 and the rules its rows name). -/
def Obligations.TicPacketsRun : Prop :=
  (∀ p s, runsNow specTicQueryChannel p s = true → let u := bodyFrom p s
    exec (.ticQueryChannel p) s = .next (ran specTicQueryChannel p u
      (if u.ready pdTic then u.ticWindow (p.w 0).toNat else List.replicate 24 0))) ∧
  (∀ p s, runsNow specTicQueryCal p s = true → let u := bodyFrom p s
    exec (.ticQueryCal p) s = .next (ran specTicQueryCal p u
      (if u.ready pdTic then u.convWindow (p.w 0).toNat ++ (u.tconv (p.w 0).toNat).table.pointWords
      else List.replicate 38 0))) ∧
  (∀ p s, runsNow specTicSetChannel p s = true → let u := bodyFrom p s
    let n := fld (p.w 0) 0 5
    u.ready pdTic = true → (u.tch n).armed = false → (u.tch n).claim = 0 →
    let v := u.setTch n fun g => { g with
      mode := BitVec.ofNat 2 (fld (p.w 0) 8 2), edge := flag (p.w 0) 10, inputSel := BitVec.ofNat 3 (fld (p.w 0) 12 3)
      inputIdx := BitVec.ofNat 4 (fld (p.w 0) 16 4), thMv := (p.w 1).setWidth 11, presenceUs := p.w 2 }
    let x := if u.streams n && !v.streams n then u.ticMark n 5 (fld (p.w 0) 8 2) else u
    exec (.ticSetChannel p) s = .next (ran specTicSetChannel p
      ({ x with cfg := v.cfg }.ticMark n 5 (fld (p.w 0) 8 2)) [])) ∧
  (∀ p s, runsNow specTicStartInterval p s = true → let u := bodyFrom p s
    let n := fld (p.w 0) 0 5
    let m := fld (p.w 0) 8 5
    u.ready pdTic = true → (u.tchCfg n).mode = 3 → (u.tchCfg m).mode = 3 → (u.tch n).claim = 0 → (u.tch m).claim = 0 →
    (u.tch n).arm = none → (u.tch m).armedStop = false →
    let a : TicArm := { TicArm.reset with
      stop := BitVec.ofNat 5 m, startFall := flag (p.w 0) 16, stopFall := flag (p.w 0) 17, armTick := u.ticks
      timeoutUs := p.w 1 }
    exec (.ticStartInterval p) s = .next (ran specTicStartInterval p
      ((u.modTch n fun c => { c with arm := some a, ivValid := false }).modTch m fun c => { c with armedStop := true }) [])) ∧
  (∀ p s, runsNow specTicStream p s = true → let u := bodyFrom p s
    let ns := (List.range 32).filter fun n => flag (p.w 0) n
    u.ready pdTic = true → (∀ n ∈ ns, u.streams n = true ∧ (u.tch n).claim = 0) →
    exec (.ticStream p) s = .next (ran specTicStream p
      (ns.foldl (fun s n => s.modTch n fun c => { c with stream := flag (p.w 1) n }) u) [])) ∧
  (∀ p s, runsNow specTicCalibrate p s = true → let u := bodyFrom p s
    let m : BitVec 36 := (p.w2 0).setWidth 36
    let go := u.calStartable m
    u.ready pdTic = true → u.tic.calCmd = false →
    let v := if flag (p.w 2) 0 then { u with cfg := { u.cfg with tic := { u.cfg.tic with
      autoRecal := flag (p.w 2) 1, recalK := (p.w 2).extractLsb' 16 16, recalS := (p.w 3).setWidth 17 } } } else u
    exec (.ticCalibrate p) s = .next (ran specTicCalibrate p
      ((List.range 36).foldl (State.calSkipped m go) { v with tic := { v.tic with
        calCmd := go != 0, calList := go, recalDue := v.tic.recalDue ||| go } }).calNext (w64 (go.setWidth 64)))) ∧
  (∀ p s, runsNow specTicSubstitute p s = true → let u := bodyFrom p s
    let i := fld (p.w 0) 0 2
    let n := fld (p.w 0) 8 6
    u.ready pdTic = true →
    u.tic.bridge = none →
    (n = 0x3F → (u.tspare i).use ≠ 3 → (u.tspare i).swapOn = false →
      exec (.ticSubstitute p) s = .next (ran specTicSubstitute p ((u.setSubst p).unmap i) [])) ∧
    (n ≠ 0x3F → (u.tspare i).use = 0 ∨ (u.tspare i).use = 2 → u.swapping n = false →
      let v := if (u.tspare i).use = 2 then u.releaseRolling i else u.calBreak i
      let x := match v.rollingOn n with
        | some j => v.releaseRolling j
        | none => v
      exec (.ticSubstitute p) s = .next (ran specTicSubstitute p (((x.setSubst p).takeSpare i 1 n n).swap i false) []))) ∧
  (∀ p s, runsNow specTicSetDelay p s = true → let u := bodyFrom p s
    let n := (p.w 0).toNat
    u.ready pdTic = true → (u.tch n).claim = 0 →
    exec (.ticSetDelay p) s = .next (ran specTicSetDelay p
      (u.setTch n fun g => { g with delayPs := p.w 1, delayUnc := (p.w 2).setWidth 24 }) []))

/-- Every GNS packet that passes the checks of R42 at once has its effect (R179 and the rules its rows name). -/
def Obligations.GnsPacketsRun : Prop :=
  (∀ p s, runsNow specGnsQueryStatus p s = true → let u := bodyFrom p s
    exec (.gnsQueryStatus p) s = .next (ran specGnsQueryStatus p u
      (if u.ready pdGnss then u.gnsStatusWords else List.replicate 10 0))) ∧
  (∀ p s, runsNow specGnsQuerySolution p s = true → let u := bodyFrom p s
    exec (.gnsQuerySolution p) s = .next (ran specGnsQuerySolution p u
      (if u.ready pdGnss then u.gnsSolutionWords else List.replicate 12 0))) ∧
  (∀ p s, runsNow specGnsSetPort p s = true → let u := bodyFrom p s
    u.ready pdGnss = true → u.gns.trk.toList.any (·.assigned) = false → u.gns.acq = none → u.gns.snapOn = false →
    let a := u.setGnsCfg fun c => { c with
      formatIq := flag (p.w 0) 0, coding := flag (p.w 0) 1, edge := flag (p.w 0) 2, invert := flag (p.w 0) 3
      portGate := flag (p.w 0) 4, engine := BitVec.ofNat 2 (fld (p.w 0) 8 2)
      solMinSv := BitVec.ofNat 4 (fld (p.w 0) 16 4), feLeadMs := BitVec.ofNat 12 (fld (p.w 0) 20 12)
      sampleHz := (p.w 1).setWidth 27, ifHz := p.w 2 }
    exec (.gnsSetPort p) s = .next (ran specGnsSetPort p { a with gns := { a.gns with feEn := false } }.gnsEval [])) ∧
  (∀ p s, runsNow specGnsSetNotch p s = true → let u := bodyFrom p s
    u.ready pdGnss = true →
    let a := u.setGnsCfg fun c => { c with
      notch := Tab.set c.notch (fld (p.w 0) 0 2) {
        mode := BitVec.ofNat 2 (fld (p.w 0) 2 2), depthDb := BitVec.ofNat 8 (fld (p.w 0) 8 8), centreHz := p.w 1 }
      jamWarnDb := (p.w 2).setWidth 16, notchThreshDb := (p.w 2).extractLsb' 16 16
      noiseRef := if flag (p.w 0) 16 then u.free.setWidth 16 else c.noiseRef }
    let old := Tab.get u.cfg.gns.notch (fld (p.w 0) 0 2) NotchCfg.reset
    let v := { a with gns := a.gns.setNotch (fld (p.w 0) 0 2) old.mode.toNat (fld (p.w 0) 2 2) (p.w 1) }
    exec (.gnsSetNotch p) s = .next (ran specGnsSetNotch p (if flag (p.w 0) 16 then v.drawn else v) [])) ∧
  (∀ p s, runsNow specGnsAcquire p s = true → let u := bodyFrom p s
    u.ready pdGnss = true → u.gns.acq = none →
    (flag (p.w 3) 24 = true → u.gns.snapBusy = false ∧ fld (p.w 3) 0 4 * fld (p.w 3) 8 8 ≤ u.gns.snapMs) →
    let a : AcqRun := { AcqRun.reset with
      mask := p.w 0, doppCentreHz := p.w 1, doppSpanHz := (p.w 2).setWidth 16, tCohMs := BitVec.ofNat 4 (fld (p.w 3) 0 4)
      nNc := BitVec.ofNat 8 (fld (p.w 3) 8 8), threshDb := BitVec.ofNat 16 (4 * fld (p.w 3) 16 8), snapshot := flag (p.w 3) 24
      passes := acqPasses (popCount (p.w 0)) (p.w 2).toNat (fld (p.w 3) 0 4) u.usable
      share := u.usable, startTick := u.ticks }
    exec (.gnsAcquire p) s = .next (ran specGnsAcquire p { u with gns := { u.gns with acq := some a, acqValid := false } } [])) ∧
  (∀ p s, runsNow specGnsTrack p s = true → let u := bodyFrom p s
    let k := fld (p.w 0) 0 5
    u.ready pdGnss = true → (u.trk k).assigned = false →
    let t : GnsTrk := { GnsTrk.reset with
      assigned := true, prn := BitVec.ofNat 6 (fld (p.w 0) 8 6), tIntMs := BitVec.ofNat 5 (fld (p.w 0) 16 5)
      elSpacing := BitVec.ofNat 6 (fld (p.w 1) 16 6), vevlSpacing := BitVec.ofNat 6 (fld (p.w 1) 24 6)
      codePhase := BitVec.ofNat 42 (fld (p.w 1) 0 10 * 2 ^ 32 + (p.w 2).toNat), doppler := p.w 3, startTai := p.tai 4
      dumpLost := (u.trk k).dumpLost }
    exec (.gnsTrack p) s = .next (ran specGnsTrack p
      { u with gns := { u.gns with trk := Tab.set u.gns.trk k t } } [])) ∧
  (∀ p s, runsNow specGnsRelease p s = true → let u := bodyFrom p s
    u.ready pdGnss = true →
    let f : Nat → GnsTrk → GnsTrk := fun k t =>
      if flag (p.w 0) k then { t with assigned := false, running := false, dumps := [] } else t
    exec (.gnsRelease p) s = .next (ran specGnsRelease p
      { u with gns := { u.gns with trk := Tab.mapIdx u.gns.trk f } } [])) ∧
  (∀ p s, runsNow specGnsSetLatch p s = true → let u := bodyFrom p s
    u.ready pdGnss = true → ∃ v : State, exec (.gnsSetLatch p) s = .next (ran specGnsSetLatch p v []) ∧
      v.cfg.gns.latchHz = (p.w 0).setWidth 6 ∧ v.gns.latchAt = (u.now16 / sec16 + 1) * sec16) ∧
  (∀ p s, runsNow specGnsSnapshot p s = true → let u := bodyFrom p s
    u.ready pdGnss = true →
    (flag (p.w 3) 8 = true → exec (.gnsSnapshot p) s = .next (ran specGnsSnapshot p { u with gns := { u.gns with
      snapArmed := false, snapRepeatS := 0, feEn := false } } [])) ∧
    (flag (p.w 3) 8 = false → u.now16 + 10 * us16 ≤ taiNat (p.tai 0) → (∀ a, u.gns.acq = some a → a.snapshot = false) →
      u.gns.snapArmed = false → u.gns.snapBusy = false →
      exec (.gnsSnapshot p) s = .next (ran specGnsSnapshot p { u with gns := { u.gns with
        snapArmed := true, snapAt := p.tai 0, snapDurMs := BitVec.ofNat 7 (fld (p.w 3) 0 7)
        snapRepeatS := (p.w 4).setWidth 17 } } []))) ∧
  (∀ p s, runsNow specGnsSetAntenna p s = true → let u := bodyFrom p s
    u.ready pdGnss = true →
    let a := u.setGnsCfg fun c => { c with
      survey := flag (p.w 0) 0, xMm := p.w2 1, yMm := p.w2 3, zMm := p.w2 5, posUncMm := p.w 7, cableDelayPs := p.w 8
      cableUnc := (p.w 9).setWidth 24 }
    let v := { a with gns := { a.gns with
      solValid := false, solHoldUntil := u.ticks + sTicks, reanchor := true } }
    exec (.gnsSetAntenna p) s = .next (ran specGnsSetAntenna p
      (if u.gns.solValid then v.raise (src 6 9) else v).gnsEval [])) ∧
  (∀ p s, runsNow specGnsSetCheck p s = true → let u := bodyFrom p s
    u.ready pdGnss = true →
    let a := u.setGnsCfg fun c => { c with
      checkEn := flag (p.w 0) 0, checkMarginNs := (p.w 0).extractLsb' 16 16, reanchorNs := (p.w 1).setWidth 24 }
    let v := { a with gns := { a.gns with history := a.gns.history &&& ~~~((p.w 2).setWidth 8) } }
    (flag (p.w 0) 1 = false → exec (.gnsSetCheck p) s = .next (ran specGnsSetCheck p v [])) ∧
    (flag (p.w 0) 1 = true → u.gns.solValid = true →
      exec (.gnsSetCheck p) s = .next (ran specGnsSetCheck p (v.anchorByHand.gnsEval) [])) ∧
    (flag (p.w 0) 1 = true → u.gns.solValid = false →
      exec (.gnsSetCheck p) s = .next (ran specGnsSetCheck p { v with gns := { v.gns with reanchor := true } } []))) ∧
  (∀ p s, runsNow specGnsSpareBank p s = true → let u := bodyFrom p s
    u.ready pdGnss = true →
    let v := ((u.mapBank (fld (p.w 0) 0 3) (BitVec.ofNat 7 (fld (p.w 0) 8 7))).setGnsCfg fun c => { c with
      autoSpare := if flag (p.w 0) 16 then flag (p.w 0) 17 else c.autoSpare }).bankPool u.banksFree
    exec (.gnsSpareBank p) s = .next (ran specGnsSpareBank p
      (if v.usable < u.usable then v.faultAssert 128 else v) []))

/-- Every ETH packet that passes the checks of R42 at once has its effect (R258 and the rules its rows name). -/
def Obligations.EthPacketsRun : Prop :=
  (∀ p s, runsNow specEthQueryLane p s = true → let u := bodyFrom p s
    let l := fld (p.w 0) 0 4
    u.activePort l = true →
    let ws := [u.ethCfgWord l, u.ethStatusWord l, (u.laneCfg l).capWord] ++ w64 (u.capSeq l) ++
        ((u.lane l).cnt.toList.take 20).flatMap w64
    exec (.ethQueryLane p) s = .next (ran specEthQueryLane p u
      (if u.laneReady l then ws else ws.map fun _ => 0))) ∧
  (∀ p s, runsNow specEthQueryDelay p s = true → let u := bodyFrom p s
    let l := fld (p.w 0) 0 4
    u.activePort l = true →
    exec (.ethQueryDelay p) s = .next (ran specEthQueryDelay p u
      (if u.laneReady l then u.delayWords l else (u.delayWords l).map fun _ => 0))) ∧
  (∀ p s, runsNow specEthSetQuadMode p s = true → let u := bodyFrom p s
    let q := fld (p.w 0) 0 2
    u.ready (pdQ q) = true → (∀ l ∈ quadLanes q, (u.laneCfg l).enable = false) → has u.eth.relock q = false →
    exec (.ethSetQuadMode p) s = .next (ran specEthSetQuadMode p { u with
      cfg := { u.cfg with eth := { u.cfg.eth with quadMode := Tab.set u.cfg.eth.quadMode q ((p.w 0).extractLsb' 4 2) } }
      eth := { u.eth with relock := u.eth.relock ||| bitAt 4 q } } [])) ∧
  (∀ p s, runsNow specEthSetLane p s = true → let u := bodyFrom p s
    let l := fld (p.w 0) 0 4
    let mode : BitVec 2 := (p.w 0).extractLsb' 4 2
    u.laneUsable l = true → (mode = 1 → u.ready pdCrypto = true) →
    (u.laneCfg l).enable = false ∨ (mode = (u.laneCfg l).laneMode ∧ flag (p.w 0) 6 = (u.laneCfg l).fec ∧
      (p.w 1).setWidth 14 = (u.laneCfg l).maxFrame) →
    exec (.ethSetLane p) s = .next (ran specEthSetLane p (u.setLaneCfg l fun c => { c with
      laneMode := (p.w 0).extractLsb' 4 2, fec := flag (p.w 0) 6, tagAllow := (p.w 0).extractLsb' 8 2
      maxFrame := (p.w 1).setWidth 14 }).svcClassesSet [])) ∧
  (∀ p s, runsNow specEthSetDelay p s = true → let u := bodyFrom p s
    let l := fld (p.w 0) 0 4
    u.laneUsable l = true →
    let c := u.laneCfg l
    let v := u.modLane l fun x => { x with extPast := (⟨u.ticks, c.rxExt, c.txExt, c.extUnc⟩ :: x.extPast).take 4 }
    exec (.ethSetDelay p) s = .next (ran specEthSetDelay p (v.setLaneCfg l fun c => { c with
      rxExt := p.w 1, txExt := p.w 2, extUnc := (p.w 3).setWidth 24 }) [])) ∧
  (∀ p s, runsNow specEthSetCapture p s = true → let u := bodyFrom p s
    let l := fld (p.w 0) 0 4
    u.laneUsable l = true → ((u.laneCfg l).enable = false ∨ (u.laneCfg l).laneMode ≠ 1) →
    exec (.ethSetCapture p) s = .next (ran specEthSetCapture p (u.setLaneCfg l fun c => { c with
      stageRec := (p.w 1).extractLsb' 0 16, stageHighPct := (p.w 1).extractLsb' 16 7 }) [])) ∧
  (∀ p s, runsNow specEthSetClassifier p s = true → let u := bodyFrom p s
    let l := fld (p.w 0) 0 4
    u.laneUsable l = true →
    let r : ClsRule := {
      etherType := (p.w 1).extractLsb' 0 16, vid := (p.w 1).extractLsb' 16 12, use := (p.w 1).extractLsb' 28 4
      proto := (p.w 2).extractLsb' 0 8, port := (p.w 2).extractLsb' 16 16, ring := (p.w 3).setWidth 6 }
    exec (.ethSetClassifier p) s = .next (ran specEthSetClassifier p (u.setLaneCfg l fun c => { c with
      rules := Tab.set c.rules (fld (p.w 0) 4 4) r
      defaultRing := if flag (p.w 0) 8 then (p.w 0).extractLsb' 16 6 else c.defaultRing }) [])) ∧
  (∀ p s, runsNow specEthLaneEnable p s = true → let u := bodyFrom p s
    let ls := (List.range 16).filter fun l => flag (p.w 0) l
    (∀ l ∈ ls, u.laneUsable l = true) →
    exec (.ethLaneEnable p) s = .next (ran specEthLaneEnable p
      (ls.foldl (fun s l => s.laneEnable l (flag (p.w 1) l)) u) [])) ∧
  (∀ p s, runsNow specEthSetTags p s = true → let u := bodyFrom p s
    let l := fld (p.w 0) 0 4
    u.laneUsable l = true →
    exec (.ethSetTags p) s = .next (ran specEthSetTags p (u.setLaneCfg l fun c => { c with
      stripOuter := flag (p.w 0) 4, stripInner := flag (p.w 0) 5, tpidOuter := (p.w 1).extractLsb' 0 16
      tpidInner := (p.w 1).extractLsb' 16 16 }) []))

/-- Every TMG packet that passes the checks of R42 at once has its effect (R278 and the rules its rows name). -/
def Obligations.TmgPacketsRun : Prop :=
  (∀ p s, runsNow specTmgQueryQueue p s = true → let u := bodyFrom p s
    let q := fld (p.w 0) 0 7
    u.activePort (q / 8) = true →
    exec (.tmgQueryQueue p) s = .next (ran specTmgQueryQueue p u
      (if u.laneReady (q / 8) then u.queueWindow q else (u.queueWindow q).map fun _ => 0))) ∧
  (∀ p s, runsNow specTmgQueryGcl p s = true → let u := bodyFrom p s
    let l := fld (p.w 0) 0 4
    u.activePort l = true →
    let ws := (if flag (p.w 0) 4 then (u.tlane l).admin else (u.tlane l).oper).words (fld (p.w 0) 8 8) (fld (p.w 0) 16 8)
    exec (.tmgQueryGcl p) s = .next (ran specTmgQueryGcl p u (if u.laneReady l then ws else ws.map fun _ => 0))) ∧
  (∀ p s, runsNow specTmgSetGcl p s = true → let u := bodyFrom p s
    let l := fld (p.w 0) 0 4
    u.laneUsable l = true → (u.tlane l).swapPend = false →
    let t := (u.tlane l).adminPut p (fld (p.w 0) 8 8) (fld (p.w 0) 16 8)
    let n := fld (p.w 0) 8 8 + fld (p.w 0) 16 8
    (flag (p.w 0) 24 = false →
      exec (.tmgSetGcl p) s = .next (ran specTmgSetGcl p (u.modTLane l fun _ => t) [])) ∧
    (flag (p.w 0) 24 = true → t.listOk n (p.w 1).toNat = true →
      exec (.tmgSetGcl p) s = .next (ran specTmgSetGcl p
        ((u.modTLane l fun _ => t.adminLast p n).tmgRaise 2 l l) []))) ∧
  (∀ p s, runsNow specTmgSwapGcl p s = true → let u := bodyFrom p s
    let ls := (List.range 16).filter fun l => flag (p.w 0) l
    (∀ l ∈ ls, u.laneUsable l = true ∧ (u.tlane l).adminReady = true ∧ (u.tlane l).swapPend = false) →
    u.now16 + 10 * us16 ≤ taiNat (p.tai 1) →
    exec (.tmgSwapGcl p) s = .next (ran specTmgSwapGcl p (ls.foldl (fun s l => s.modTLane l fun t => { t with
      swapPend := true, swapAt := p.tai 1 }) u) [])) ∧
  (∀ p s, runsNow specTmgSetShaper p s = true → let u := bodyFrom p s
    let q := fld (p.w 0) 0 7
    u.laneUsable (q / 8) = true →
    exec (.tmgSetShaper p) s = .next (ran specTmgSetShaper p (u.setTmgCfg fun t => { t with q := Tab.set t.q q {
      shapeEn := flag (p.w 0) 8, qlimitKb := (p.w 3).setWidth 10, idleKbps := (p.w 1).setWidth 27
      maxCredit := (p.w 2).setWidth 24 } }) [])) ∧
  (∀ p s, runsNow specTmgSetPolicer p s = true → let u := bodyFrom p s
    let i := fld (p.w 0) 0 8
    u.ready pdEngine = true →
    exec (.tmgSetPolicer p) s = .next (ran specTmgSetPolicer p ((u.setTmgCfg fun t => { t with
      p := Tab.mod t.p i fun c => { c with rateKbps := (p.w 1).setWidth 27, burst := (p.w 2).setWidth 24 } }).modPol i
        fun x => { x with tokens := min x.tokens ((p.w 2).toNat * 125000) }) [])) ∧
  (∀ p s, runsNow specTmgSetFilter p s = true → let u := bodyFrom p s
    u.ready pdEngine = true → u.laneUsable (fld (p.w 0) 8 4) = true →
    exec (.tmgSetFilter p) s = .next (ran specTmgSetFilter p (u.setTmgCfg fun t => { t with
      p := Tab.mod t.p (fld (p.w 0) 0 8) fun c => { c with
        lane := (p.w 0).extractLsb' 8 4, use := (p.w 0).extractLsb' 12 4, pcp := (p.w 0).extractLsb' 16 3
        enable := flag (p.w 0) 31, vid := (p.w 1).setWidth 12, etherType := (p.w 2).extractLsb' 0 16
        udpPort := (p.w 2).extractLsb' 16 16 } }) [])) ∧
  (∀ p s, runsNow specTmgSetSampling p s = true → let u := bodyFrom p s
    u.ready pdEngine = true →
    exec (.tmgSetSampling p) s = .next (ran specTmgSetSampling p (u.setTmgCfg fun t => { t with
      sampleEn := flag (p.w 0) 0, sojournUs := (p.w 1).setWidth 16 }) []))

/-- Every SVC packet that passes the checks of R42 at once has its effect (R312 and the rules its rows name). -/
def Obligations.SvcPacketsRun : Prop :=
  (∀ p s, runsNow specSvcQueryStatus p s = true → let u := bodyFrom p s
    let k := fld (p.w 0) 0 4
    exec (.svcQueryStatus p) s = .next (ran specSvcQueryStatus p u
      (u.svcQuery (u.svcStatus :: u.portWindow k ++ (u.port k).cnt.toList.flatMap w64)))) ∧
  (∀ p s, runsNow specSvcQueryClient p s = true → let u := bodyFrom p s
    (∀ c, u.askedClient p = some c →
      exec (.svcQueryClient p) s = .next (ran specSvcQueryClient p u (u.svcQuery (u.clientWords c)))) ∧
    (u.askedClient p = none →
      exec (.svcQueryClient p) s = .next (ran specSvcQueryClient p u (u.svcQuery (List.replicate 8 0))))) ∧
  (∀ p s, runsNow specSvcSetPtpPort p s = true → let u := bodyFrom p s
    let w := p.w 0
    let l := fld w 0 4
    u.ready pdEngine = true → u.activePort l = true → (u.laneCfg l).laneMode = 2 →
    exec (.svcSetPtpPort p) s = .next (ran specSvcSetPtpPort p (u.setPortCfg l fun c => { c with
      enable := flag w 4, transport := w.extractLsb' 5 2, twoStep := flag w 7, auth := flag w 8, l2NonFwd := flag w 9
      domain := w.extractLsb' 16 8, spp := w.extractLsb' 24 4, slaveSpp := w.extractLsb' 28 4
      logSync := (p.w 1).extractLsb' 0 8, logAnnounce := (p.w 1).extractLsb' 8 8
      logMinDelay := (p.w 1).extractLsb' 16 8, mac := (p.w 3 ++ p.w 2).setWidth 48, ip4 := p.w 4
      ip6 := p.w 8 ++ (p.w 7 ++ (p.w 6 ++ p.w 5)) }) [])) ∧
  (∀ p s, runsNow specSvcSetProfile p s = true → let u := bodyFrom p s
    let w := p.w 0
    let l := fld w 0 4
    let pr : BitVec 2 := w.extractLsb' 4 2
    u.ready pdEngine = true → u.activePort l = true →
    (u.portCfg l).enable = false ∨ pr = (u.portCfg l).profile →
    let a := u.setProfile l pr
    let b := a.setSvcCfg fun c => { c with
      clockId := some (p.w2 1), priority1 := (p.w 3).extractLsb' 0 8, priority2 := (p.w 3).extractLsb' 8 8
      classSec := (p.w 3).extractLsb' 16 8, timeSource := (p.w 3).extractLsb' 24 8 }
    exec (.svcSetProfile p) s = .next (ran specSvcSetProfile p (if flag w 8 then b.svcEval else a) [])) ∧
  (∀ p s, runsNow specSvcSetAuth p s = true → let u := bodyFrom p s
    let w := p.w 0
    let i := fld w 0 4
    u.ready pdEngine = true → u.ready pdCrypto = true →
    flag w 16 = false ∨ u.now16 + 10 * us16 ≤ taiNat (p.tai 2) →
    let a := u.loadPos i (flag w 4) (p.w 1) (w.extractLsb' 8 8) (w.extractLsb' 5 2)
    let b := a.setSppCfg i fun c => { c with cfMask := flag w 17, acceptOldS := (p.w 5).setWidth 16 }
    let d := if flag w 24 then b.setSvcCfg fun c => { c with side := flag w 25 } else b
    exec (.svcSetAuth p) s = .next (ran specSvcSetAuth p
      (if flag w 16 then d.modSpp i fun x => { x with rollPending := true, rollAt := p.tai 2 } else d) [])) ∧
  (∀ p s, runsNow specSvcSetNtp p s = true → let u := bodyFrom p s
    u.ready pdEngine = true →
    exec (.svcSetNtp p) s = .next (ran specSvcSetNtp p (u.setSvcCfg fun c => { c with
      ntpLanes := (p.w 0).extractLsb' 0 16, ntsLanes := (p.w 0).extractLsb' 16 16, nakEn := flag (p.w 1) 0
      kodRate := flag (p.w 1) 1, stratumSec := (p.w 1).extractLsb' 8 4, refId := p.w 2 }) [])) ∧
  (∀ p s, runsNow specSvcLoadCookieKey p s = true → let u := bodyFrom p s
    u.ready pdEngine = true → u.ready pdCrypto = true →
    ∀ i, u.svc.cookies.toList.findIdx? (fun c => c.state == 0) = some i →
    let key : Dig := BitVec.ofNat 256 (natOfWords ((p.payload.drop 2).take 8))
    let act := flag (p.w 1) 0
    let demote : Nat → Cookie → Cookie := fun _ c => if act && c.state = 1 then { c with state := 2 } else c
    exec (.svcLoadCookieKey p) s = .next (ran specSvcLoadCookieKey p
      { u with svc := { u.svc with cookies := Tab.set (Tab.mapIdx u.svc.cookies demote) i {
        keyId := p.w 0, state := if act then 1 else 2, fprint := print8 (digBytes key), uses := 0, key := key } } }
      [BitVec.ofNat 32 i])) ∧
  (∀ p s, runsNow specSvcRetireCookieKey p s = true → let u := bodyFrom p s
    u.ready pdEngine = true → u.ready pdCrypto = true →
    ∀ i, u.cookieOf (p.w 0) = some i →
    exec (.svcRetireCookieKey p) s = .next (ran specSvcRetireCookieKey p
      { u with svc := { u.svc with cookies := Tab.set u.svc.cookies i Cookie.reset } } [])) ∧
  (∀ p s, runsNow specSvcSetGate p s = true → let u := bodyFrom p s
    let w := p.w 1
    u.ready pdEngine = true →
    exec (.svcSetGate p) s = .next (ran specSvcSetGate p (u.setSvcCfg fun c => { c with
      ebMaxNs := (p.w 0).setWidth 18, tolPs := w.extractLsb' 0 13, retry := w.extractLsb' 16 3
      svcClass := w.extractLsb' 20 3, leadNs := (p.w 2).setWidth 20 }).svcClassesSet [])) ∧
  (∀ p s, runsNow specSvcSetRateLimit p s = true → let u := bodyFrom p s
    u.ready pdEngine = true →
    let a := u.setSvcCfg fun c => { c with
      ratePps := (p.w 0).extractLsb' 0 16, burst := (p.w 0).extractLsb' 16 16, clientAgeS := (p.w 1).setWidth 17
      grantMax := p.w 2 }
    let cap : Client → Client := fun c => { c with tokens := BitVec.ofNat 16 (min c.tokens.toNat a.burst16) }
    exec (.svcSetRateLimit p) s = .next (ran specSvcSetRateLimit p
      { a with svc := { a.svc with clients := (u.svc.clients.map u.accrueClient).map cap } } [])) ∧
  (∀ p s, runsNow specSvcClientFlush p s = true → let u := bodyFrom p s
    u.ready pdEngine = true →
    let gone : Client → Bool := fun c => flag (p.w 0) c.lane.toNat && flag (p.w 0) (16 + c.kind.toNat)
    exec (.svcClientFlush p) s = .next (ran specSvcClientFlush p
      { u with svc := { u.svc with clients := u.svc.clients.filter fun c => !gone c } }
      [BitVec.ofNat 32 (u.svc.clients.filter gone).length])) ∧
  (∀ p s, runsNow specSvcSetBoundTlv p s = true → let u := bodyFrom p s
    u.ready pdEngine = true →
    exec (.svcSetBoundTlv p) s = .next (ran specSvcSetBoundTlv p (u.setSvcCfg fun c => { c with
      boundPtp := flag (p.w 0) 0, boundNtp := flag (p.w 0) 1, orgId := (p.w 0).extractLsb' 8 24
      efType := (p.w 1).setWidth 16 }) []))

/-- Every KEY packet that passes the checks of R42 at once, while no key operation runs and the supplies hold, has its
effect; a long one starts its operation (R355). -/
def Obligations.KeyPacketsRun : Prop :=
  (∀ p s, runsNow specKeyQuerySlots p s = true → let u := bodyFrom p s
    let ws := ((u.key.slots.toList.drop (fld (p.w 0) 0 6)).take (fld (p.w 0) 8 6)).flatMap KeySlot.words
    exec (.keyQuerySlots p) s = .next (ran specKeyQuerySlots p u
      (if u.ready pdCrypto then ws else ws.map fun _ => 0))) ∧
  (∀ p s, runsNow specKeyQueryEpoch p s = true → let u := bodyFrom p s
    exec (.keyQueryEpoch p) s = .next (ran specKeyQueryEpoch p u
      ([u.keyStatus, u.keyEpochWord, u.keySealWord, u.keyLcWord, u.keep.wrapCount, u.key.lastSrc.setWidth 32] ++
        leWords 4 u.key.challenge.toNat ++
        leWords 9 (if u.lc = .scrapped then 0 else u.key.akPub.toNat)))) ∧
  (∀ p s, runsNow specKeyLoadFlacon p s = true → let u := bodyFrom p s
    let k := fld (p.w 0) 0 6
    let b := flaconBytes ((p.payload.drop 1).take 24)
    u.ready pdCrypto = true → u.sys.tamperHold = false → u.mon.pfw = false → u.key.busyOp = none →
    (u.kslot k).loaded = false →
    (flag (p.w 0) 8 = true →
      let v := u.fillSlot k { KeySlot.reset with
        usage := (p.w 1).extractLsb' 0 4, alg := (p.w 1).extractLsb' 4 4, test := u.testKeys
        exportable := flag (p.w 1) 8, labelId := p.w 2, epoch := u.useEpoch
        key := BitVec.ofNat 256 (natOfWords ((p.payload.drop 3).take 8)) }
      exec (.keyLoadFlacon p) s = .next (ran specKeyLoadFlacon p v (w64 (v.kslot k).fprint))) ∧
    (flag (p.w 0) 8 = false → (flField b 7 1 % 2 == 1) = u.testKeys →
      let r := u.openFlacon b
      let v := u.fillSlot k r.2
      exec (.keyLoadFlacon p) s = .next (if r.1 = 0 then ran specKeyLoadFlacon p v (w64 (v.kslot k).fprint)
        else ((u.irq (src 10 2)).finish p 0x0940 .authFail [BitVec.ofNat 32 r.1] false).settle))) ∧
  (∀ p s, runsNow specKeyWrap p s = true → let u := bodyFrom p s
    let x := u.kslot (fld (p.w 0) 0 6)
    let n := u.keep.wrapCount + 1
    u.ready pdCrypto = true → u.sys.tamperHold = false → u.mon.pfw = false → u.key.busyOp = none →
    x.loaded = true → x.exportable = true → u.keep.ro = false → u.keep.wrapCount ≠ 0xFFFFFFFF →
    let a := u.drawn.keepOwn fun k => { k with wrapCount := n }
    exec (.keyWrap p) s = .next (ran specKeyWrap p (if n = 0xFFF00000 then a.raise (src 10 7) else a)
      (packWords (u.flaconOf x (u.drbg.setWidth 96))))) ∧
  (∀ p s, runsNow specKeyDerive p s = true → let u := bodyFrom p s
    let w := p.w 0
    let par := u.kslot (fld w 0 6)
    let k := fld w 8 6
    u.ready pdCrypto = true → u.sys.tamperHold = false → u.mon.pfw = false → u.key.busyOp = none →
    parentOk u p = true → (u.kslot k).loaded = false → (flag w 24 = true → par.exportable = true) →
    let v := u.fillSlot k { KeySlot.reset with
      usage := w.extractLsb' 16 4, alg := w.extractLsb' 20 4, test := par.test, prev := par.prev
      exportable := flag w 24, labelId := p.w 1, epoch := par.epoch, key := derivedKey par p (fld w 20 4) }
    exec (.keyDerive p) s = .next (ran specKeyDerive p v (w64 (v.kslot k).fprint))) ∧
  (∀ p s, runsNow specKeyZero p s = true → let u := bodyFrom p s
    u.ready pdCrypto = true →
    exec (.keyZero p) s = .next (ran specKeyZero p (u.zeroSlots (p.w2 0)) [])) ∧
  (∀ p s, runsNow specKeyEpochUpdate p s = true → let u := bodyFrom p s
    u.ready pdCrypto = true → u.sys.tamperHold = false → u.mon.pfw = false → u.key.busyOp = none →
    u.keep.ro = false → u.key.epoch ≠ 0xFFFF →
    let v := u.writeEpoch (u.key.epoch + 1)
    exec (.keyEpochUpdate p) s = .next (ran specKeyEpochUpdate p
      { v with key := { v.key with busyOp := some .epochUpdate, resValid := false } } [])) ∧
  (∀ p s, runsNow specKeyAttest p s = true → let u := bodyFrom p s
    u.mon.pfw = false → u.key.busyOp = none → u.sys.tamperHold = false ∨ u.fuse.pufFail = false →
    exec (.keyAttest p) s = .next (ran specKeyAttest p { u with key := { u.key with
      busyOp := some (.attest (BitVec.ofNat 256 (natOfWords (p.payload.take 8))))
      resValid := false, attValid := false } } [])) ∧
  (∀ p s, runsNow specKeyProvision p s = true → let u := bodyFrom p s
    u.mon.pfw = false → u.key.busyOp = none →
    (u.lc = .blank ∧ u.fuse.seedPossible = true) ∨
      (u.lc ≠ .blank ∧ u.sys.tamperHold = true ∧ u.tamperQuiet = true) →
    exec (.keyProvision p) s = .next (ran specKeyProvision p { u with key := { u.key with
      busyOp := some (.provision (ownerOf p))
      resValid := false } } [])) ∧
  (∀ p s, runsNow specKeyLcAdvance p s = true → let u := bodyFrom p s
    u.ready pdCrypto = true → u.sys.tamperHold = false → u.mon.pfw = false → u.key.busyOp = none →
    lcStep u.lc (fld (p.w 0) 0 3) = true →
    exec (.keyLcAdvance p) s = .next (ran specKeyLcAdvance p { u with key := { u.key with
      busyOp := some (.lcAdvance ((p.w 0).setWidth 3) (tokenOf p).1 (tokenOf p).2.1 (tokenOf p).2.2)
      resValid := false } } [])) ∧
  (∀ p s, runsNow specKeyDebugEnter p s = true → let u := bodyFrom p s
    u.ready pdCrypto = true → u.sys.tamperHold = false → u.mon.pfw = false → u.key.busyOp = none →
    u.fuse.ownerDbgSet = true → u.pair.role ≠ .active →
    exec (.keyDebugEnter p) s = .next (ran specKeyDebugEnter p { u with key := { u.key with
      busyOp := some (.debugEnter (tokenOf p).1 (tokenOf p).2.1 (tokenOf p).2.2)
      resValid := false } } [])) ∧
  (∀ p s, runsNow specKeyDebugExit p s = true → let u := bodyFrom p s
    u.ready pdCrypto = true → u.mon.pfw = false → u.key.busyOp = none →
    exec (.keyDebugExit p) s = .next (ran specKeyDebugExit p { u with key := { u.key with
      busyOp := some .debugExit
      resValid := false } } []))

/-- Every LOG packet that passes the checks of R42 at once has its effect (R323 to R327). -/
def Obligations.LogPacketsRun : Prop :=
  (∀ p s, runsNow specLogQueryStatus p s = true → let u := bodyFrom p s
    exec (.logQueryStatus p) s = .next (ran specLogQueryStatus p u u.logWords)) ∧
  (∀ p s, runsNow specLogQueryHead p s = true → let u := bodyFrom p s
    exec (.logQueryHead p) s = .next (ran specLogQueryHead p u (seqWords u.log.seq ++ digWords u.log.head ++
      (u.log.lastCk.flatMap LogEntry.words ++ List.replicate 48 0).take 48))) ∧
  (∀ p s, runsNow specLogExportAck p s = true → let u := bodyFrom p s
    let q : BitVec 48 := (p.w2 0).setWidth 48
    let r := { u with log := { u.log with ackReq := if u.log.ackReq < q then q else u.log.ackReq } }
    exec (.logExportAck p) s = .next (ran specLogExportAck p (r.release q) [])) ∧
  (∀ p s, runsNow specLogSetExport p s = true → let u := bodyFrom p s
    let w := p.w 0
    let q : BitVec 48 := (p.w2 1).setWidth 48
    let a := { u with cfg := { u.cfg with log := { u.cfg.log with
      highPct := w.extractLsb' 0 7, ckMirror := flag w 8 } } }
    let b := a.logLevel State.logPut
    (flag w 9 = false → exec (.logSetExport p) s = .next (ran specLogSetExport p b [])) ∧
    (flag w 9 = true → u.log.replay = [] → (∃ e ∈ u.log.held, e.seq = q) →
      let c := { b with log := { b.log with replayFrom := q, replay := b.replayOf q } }
      exec (.logSetExport p) s = .next (ran specLogSetExport p
        (if b.replayOf q = [] then c.irq (src 13 10) else c) []))) ∧
  (∀ p s, runsNow specLogCheckpoint p s = true → let u := bodyFrom p s
    u.log.signing = false → u.log.ckWait = false →
    exec (.logCheckpoint p) s = .next (ran specLogCheckpoint p (u.checkpoint true) (seqWords u.log.nextSeq))) ∧
  (∀ p s, runsNow specLogNote p s = true → let u := bodyFrom p s
    let e := entryOf 0x0F p.master.toNat 0 u.stamp ((p.payload ++ List.replicate 10 0).take 10)
    exec (.logNote p) s = .next (ran specLogNote p (u.logPut e) (seqWords u.nextEntrySeq)))

/-- Every FLT packet and every PAIR packet that passes the checks of R42 at once has its effect. -/
def Obligations.FltPairPacketsRun : Prop :=
  (∀ p s, runsNow specFltQuery p s = true → let u := bodyFrom p s
    exec (.fltQuery p) s = .next (ran specFltQuery p u u.fltWords)) ∧
  (∀ p s, runsNow specFltSetClass p s = true → let u := bodyFrom p s
    let n := fld (p.w 0) 0 8
    let c := fld (p.w 0) 8 2
    let v := { u with cfg := { u.cfg with flt := { u.cfg.flt with classes := setClass u.cfg.flt.classes n c } } }
    exec (.fltSetClass p) s = .next (ran specFltSetClass p (v.classRaised n c) [])) ∧
  (∀ p s, runsNow specFltClear p s = true → let u := bodyFrom p s
    let m := Packet256 p
    let k := u.flt.stays m
    exec (.fltClear p) s = .next (ran specFltClear p
      { u with flt := { u.flt with latch := u.flt.latch &&& ~~~(m &&& ~~~k) } } (setWords k))) ∧
  (∀ p s, runsNow specFltInject p s = true →
    exec (.fltInject p) s = .next (ran specFltInject p
      (((bodyFrom p s).irq (src 11 5)).faultAssert (fld (p.w 0) 0 8) true) [])) ∧
  (∀ p s, runsNow specPairQuery p s = true → let u := bodyFrom p s
    exec (.pairQuery p) s = .next (ran specPairQuery p u
      (if u.ready pdPair then u.pairWords ++ u.peerWords else List.replicate 22 0))) ∧
  (∀ p s, runsNow specPairSetMode p s = true → let u := bodyFrom p s
    let m := flag (p.w 0) 0
    u.ready pdPair = true → (m = false → u.pair.linkUp = false ∧ u.lineBusy = false) →
    let v := u.setPairCfg fun c => { c with mode := m, asymPs := p.w 1, linkWaitMs := (p.w 2).setWidth 16 }
    exec (.pairSetMode p) s = .next (ran specPairSetMode p (if m then v.goPaired else v.goSolo) [])) ∧
  (∀ p s, runsNow specPairSetClaim p s = true → let u := bodyFrom p s
    u.ready pdPair = true →
    exec (.pairSetClaim p) s = .next (ran specPairSetClaim p (u.setPairCfg fun c => { c with
      pref := (p.w 0).setWidth 4, healthHoldMs := (p.w 1).setWidth 16, ebMaxNs := (p.w 2).setWidth 18 }).pairEval [])) ∧
  (∀ p s, runsNow specPairSetCompare p s = true → let u := bodyFrom p s
    let w := p.w 0
    let e := fld w 0 3
    let ch := fld w 12 5
    let a := u.entryOff e
    u.ready pdPair = true →
    (flag w 3 = true → u.ready pdTic = true ∧ (a.tch ch).claim = 0 ∧ (a.tchCfg ch).mode = 0) →
    let b := a.setPairCfg fun c => { c with
      cmp := Tab.set c.cmp e {
        en := flag w 3, target := BitVec.ofNat 5 (fld w 4 5), channel := BitVec.ofNat 5 ch, netSkewPs := p.w 1 }
      matchOn := if flag w 24 then flag w 25 else c.matchOn
      comparePs := if flag w 24 then (p.w 2).setWidth 14 else c.comparePs
      compareN := if flag w 24 then (p.w 2).extractLsb' 16 4 else c.compareN
      tiePs := if flag w 24 then (p.w 3).setWidth 17 else c.tiePs }
    exec (.pairSetCompare p) s = .next (ran specPairSetCompare p
      (if flag w 3 then (b.ivAbort ch).modTch ch fun t => { t with claim := 2 } else b).pairEval [])) ∧
  (∀ p s, runsNow specPairHandover p s = true → let u := bodyFrom p s
    u.ready pdPair = true → u.pair.role = .active → u.pair.linkUp = true → u.pair.health ≤ u.pair.peerHealth →
    u.pair.handoverPending = false → u.now16 + 10 * us16 ≤ taiNat (p.tai 0) →
    let v := { u with pair := { u.pair with handoverPending := true, handoverAt := p.tai 0 } }
    exec (.pairHandover p) s = .next (ran specPairHandover p (v.notify (.handover (p.tai 0))) [])) ∧
  (∀ p s, runsNow specPairRejoin p s = true → let u := bodyFrom p s
    u.ready pdPair = true → u.pair.role = .safe →
    (u.sys.devState = .safe →
      exec (.pairRejoin p) s = .next (ran specPairRejoin p
        { u with pair := { u.pair with rejoinArmed := true } } [])) ∧
    (u.sys.devState ≠ .safe → exec (.pairRejoin p) s = .next (ran specPairRejoin p u.rejoinNow [])))

/-- Every MON, KEEP and CAL packet that passes the checks of R42 at once has its effect. -/
def Obligations.MonPacketsRun : Prop :=
  (∀ p s, runsNow specMonQuery p s = true → let u := bodyFrom p s
    exec (.monQuery p) s = .next (ran specMonQuery p u u.monWords)) ∧
  (∀ p s, runsNow specKeepQuery p s = true → let u := bodyFrom p s
    exec (.keepQuery p) s = .next (ran specKeepQuery p u u.keepWords)) ∧
  (∀ p s, runsNow specCalQuery p s = true → let u := bodyFrom p s
    exec (.calQuery p) s = .next (ran specCalQuery p u u.calWords)) ∧
  (∀ p s, runsNow specMonSetLimits p s = true →
    let c := fld (p.w 0) 0 4
    let lo : BitVec 16 := (p.w 1).setWidth 16
    (flag (p.w 0) 4 = true → exec (.monSetLimits p) s = .next (ran specMonSetLimits p
      ((bodyFrom p s).setMonCfg fun m => { m with tempHigh := Tab.set m.tempHigh c lo }) [])) ∧
    (flag (p.w 0) 4 = false → exec (.monSetLimits p) s = .next (ran specMonSetLimits p
      ((bodyFrom p s).setMonCfg fun m => { m with
        sup := Tab.set m.sup c { lowMv := lo, highMv := (p.w 1).extractLsb' 16 16 } }) []))) ∧
  (∀ p s, runsNow specMonSetMains p s = true → let u := bodyFrom p s
    let w := p.w 0
    let v := u.setMonCfg fun m => { m with
      mainsEn := flag w 0, pfwPinEn := flag w 1, pfwGapMs := BitVec.ofNat 8 (fld w 8 8)
      pfwClearMs := BitVec.ofNat 16 (fld w 16 16), pfwLowV := (p.w 1).setWidth 16
      pfwClearV := (p.w 1).extractLsb' 16 16, fsV := (p.w 2).setWidth 16, mainsDelayNs := p.w 3
      mainsDunc := (p.w 4).setWidth 24 }
    exec (.monSetMains p) s = .next (ran specMonSetMains p (v.pfwEval u.pfwClearOk) [])) ∧
  (∀ p s, runsNow specKeepScrub p s = true → let u := bodyFrom p s
    let w := p.w 0
    (flag w 0 = true → u.keep.scrubBusy = false ∧ u.mon.pfw = false) →
    let v := if flag w 8 then { u with cfg := { u.cfg with keep := { u.cfg.keep with
      scrubH := BitVec.ofNat 8 (fld w 16 8) } } } else u
    exec (.keepScrub p) s = .next (ran specKeepScrub p (if flag w 0 then v.scrubStart else v) [])) ∧
  (∀ p s, runsNow specCalSetTime p s = true → let u := bodyFrom p s
    u.calSyncing = false →
    let n := taiNat (p.tai 0) * 32768 / sec16
    let v := u.modVbat fun v => { v with
      seconds := BitVec.ofNat 48 (n / 32768), subsec := BitVec.ofNat 15 (n % 32768), calBase := u.ticks
      lastSyncS := BitVec.ofNat 48 (n / 32768), syncRun := 0, syncDevs := [] }
    exec (.calSetTime p) s = .next (ran specCalSetTime p v.calSetValid [])) ∧
  (∀ p s, runsNow specCalSetTrim p s = true →
    let v := (bodyFrom p s).calRebase
    exec (.calSetTrim p) s = .next (ran specCalSetTrim p { v with cfg := { v.cfg with cal := { v.cfg.cal with
      trimPpb := (p.w 0).setWidth 24, autoTrim := flag (p.w 0) 24, calEbMs := (p.w 1).setWidth 16
      calDriftPpb := (p.w 2).setWidth 20 } } } [])) ∧
  (∀ p s, runsNow specCalSetTamper p s = true → let u := bodyFrom p s
    let en := tamperMask ((p.w 0).setWidth 16)
    let v := { u with cfg := { u.cfg with cal := { u.cfg.cal with
      tamperEn := en, tampPol := (p.w 0).extractLsb' 16 2, tampFilterUs := (p.w 1).setWidth 10 } } }
    exec (.calSetTamper p) s = .next (ran specCalSetTamper p (v.modVbat fun x => { x with tamperEn := en }) []))

/-- The events of the rings and of the PCIe link (R33, R35, R51, R52, R61, R65, R78): each, where it takes effect,
leaves the state stated. `u` is the state once the event's ticks have passed. -/
def Obligations.RingEventsRun : Prop :=
  (∀ dt ring v s, let u := State.advance s dt
    let n := BitVec.toNat ring
    u.reached 0 = true → hostToDevice n = true → (u.ring n).used ≤ (v - (u.ring n).cons).toNat →
    (v - (u.ring n).cons).toNat ≤ (u.ring n).size →
    exec (.ringProdWrite dt 0 ring v) s = .next (u.modRing n fun r => { r with prod := v })) ∧
  (∀ dt ring v s, let u := State.advance s dt
    let n := BitVec.toNat ring
    u.reached 0 = true → hostToDevice n = false → (v - (u.ring n).cons).toNat ≤ (u.ring n).used → n ≠ 2 → n ≠ 3 →
    exec (.ringConsWrite dt 0 ring v) s = .next (u.modRing n fun r => { r with cons := v }).acqResume) ∧
  (∀ dt ring s, let u := State.advance s dt
    u.ringRoom (BitVec.toNat ring) = true →
    exec (.ringSlotWrite dt ring) s = .next (u.slotOut ring.toNat)) ∧
  (∀ dt ring s, let u := State.advance s dt
    let n := BitVec.toNat ring
    (u.ring n).modPending ≠ 0 →
    let a := u.modRing n fun r => { r with modPending := 0 }
    exec (.msiModerationTimer dt ring) s = .next { a with cmd := a.cmd.msi (32 + n / 2) }) ∧
  (∀ dt ring s, let u := State.advance s dt
    let n := BitVec.toNat ring
    ∀ t, stallTime n = some t → u.ready pdPcie = true → (u.ring n).enable = true → (u.ring n).size ≤ (u.ring n).used →
    (u.ring n).stallTold = false → (u.ring n).fullFrom + t ≤ u.ticks →
    exec (.ringStallTimeout dt ring) s = .next ((u.modRing n fun r => { r with stallTold := true }).irq (src 15 6))) ∧
  (∀ dt ring s, let u := State.advance s dt
    let n := BitVec.toNat ring
    u.ready pdPcie = true → (u.ring n).enable = true →
    let v := u.modRing n fun r => { r with busErr := true }
    exec (.dmaTransferError dt ring .fetch) s = .next (v.irq (src 15 1)) ∧
    exec (.dmaTransferError dt ring .write) s = .next (v.irq (src 15 2)) ∧
    exec (.dmaTransferError dt ring .corrected) s = .next (u.irq (src 15 3))) ∧
  (∀ dt write addr size s, exec (.pcieUnsupportedAccess dt write addr size) s = .next (State.advance s dt)) ∧
  (∀ dt s, let u := State.advance s dt
    u.ready pdPcie = true → u.sys.pcieLink = true →
    exec (.pcieFlr dt) s = .next (u.ringsDown.raise (src 15 5)) ∧ exec (.pcieLinkLoss dt) s = .next u.linkLost) ∧
  (∀ dt s, let u := State.advance s dt
    u.ready pdPcie = true →
    exec (.perstNAssert dt true) s = .next (u.ringsDown.raise (src 15 5)).linkLost ∧
    exec (.perstNAssert dt false) s = .next u ∧
    (u.sys.devState ≠ .sleep →
      exec (.pcieLinkUp dt) s = .next { u with sys := { u.sys with pcieLink := true } }))

/-- The mailboxes, the semaphores and the replies (R40, R47, R51, R54, R55, R56): each event, where it takes effect,
leaves the state stated. -/
def Obligations.MailboxEventsRun : Prop :=
  (∀ dt m n s, let u := State.advance s dt
    let k := BitVec.toNat n
    u.reached m = true → m = (u.mbx k).sender →
    ((u.mbx k).full = true →
      exec (.mbxSend dt m n) s = .next (u.modMbx k fun x => { x with refused := x.refused + 1 })) ∧
    ((u.mbx k).full = false → receiverDomain (u.mbx k).receiver = none →
      exec (.mbxSend dt m n) s = .next
        ((u.modMbx k fun x => { x with full := true, seq := x.seq + 1, awaiting := false }).irq (src 0 (16 + k)))) ∧
    (∀ d, (u.mbx k).full = false → receiverDomain (u.mbx k).receiver = some d → u.ready d = true →
      exec (.mbxSend dt m n) s = .next
        ((u.modMbx k fun x => { x with full := true, seq := x.seq + 1, awaiting := false }).irq (src 0 (16 + k)))) ∧
    (∀ d, (u.mbx k).full = false → receiverDomain (u.mbx k).receiver = some d → u.ready d = false →
      exec (.mbxSend dt m n) s = .next
        (((u.modMbx k fun x => { x with full := true, seq := x.seq + 1, awaiting := true }).irq
          (src 0 (16 + k))).powerUp (upClosure (bitAt 13 d))))) ∧
  (∀ dt n s, let u := State.advance s dt
    let k := BitVec.toNat n
    (u.mbx k).awaiting = true → (∀ d, receiverDomain (u.mbx k).receiver = some d → u.ready d = true) →
    exec (.mbxDeliver dt n) s = .next (u.modMbx k fun x => { x with awaiting := false })) ∧
  (∀ dt m n s, let u := State.advance s dt
    let k := BitVec.toNat n
    u.reached m = true → m = (u.mbx k).receiver → (u.mbx k).full = true → (u.mbx k).awaiting = false →
    exec (.mbxTake dt m n) s = .next (((u.modMbx k fun x => { x with full := false, takenSeq := x.seq }).irq
      (src 0 (24 + k))).answerRead (word [(16, (u.mbx k).seq.toNat)]))) ∧
  (∀ dt m sem s, let u := State.advance s dt
    let i := BitVec.toNat sem
    u.reached m = true → m ≠ 14 →
    freeFor (u.semView i) m = true → freeFor (Tab.get u.cmd.sems i none) m = true → has u.cmd.semLog i = false →
    (u.semView i ≠ none ∨ u.semRival m i = none →
      exec (.semRead dt m sem) s = .next ((u.semPut i (some m)).answerRead (word [(0, m.toNat), (4, 1), (5, 0)]))) ∧
    (∀ r, u.semView i = none → u.semRival m i = some r →
      exec (.semRead dt m sem) s = .next (u.answerRead (word [(0, r.toNat), (4, 0), (5, 1)])))) ∧
  (∀ dt m sem s, let u := State.advance s dt
    let i := BitVec.toNat sem
    u.reached m = true →
    (Tab.get u.cmd.sems i none = some m → exec (.semRelease dt m sem) s = .next (u.semPut i none)) ∧
    (Tab.get u.cmd.sems i none ≠ some m → exec (.semRelease dt m sem) s = .next u.refuseWrite)) ∧
  (∀ dt r s, let u := State.advance s dt
    u.sys.inReset = false → u.cmd.replies.find? u.replyRoom = some r →
    exec (.replyDelivery dt) s = .next ({ u with cmd := { u.cmd with replies := u.cmd.replies.erase r } }.replyPut r))

/-- A 32-bit access of a register that reaches the device, from a master in whose range the address lies and below the end
of BAR0, is answered or has its effect; a misaligned one has none (R12, R30, R31, R36 to R38, R58 to R61, R101). The three
reading rows, QUEUE_POP, RC_COUNTER_READ and SHADOW_LATCH_READ, read alike, and so do the two writing rows, REGISTER_WRITE and
INT_STATUS_W1C, write. -/
def Obligations.RegisterAccessesRun : Prop :=
  let kept : State → State := fun t => { t with cmd := { t.cmd with readWords := t.cmd.readWords ++ [t.cmd.readWord] } }
  let asked : Nat → BusRead → List Instr := fun dt r => [.queuePop dt r, .rcCounterRead dt r, .shadowLatchRead dt r]
  let told : Nat → BusWrite → List Instr := fun dt w => [.registerWrite dt w, .intStatusW1c dt w]
  (∀ dt r m addr s, let u := State.advance s dt
    let v := { u with cmd := { u.cmd with readWords := [] } }
    State.reads u r = (m, [addr]) → (∀ o w, r ≠ .bar2 o w) → u.reached m = true → outOfRange m addr = false →
    BitVec.toNat addr < bar0 → u.noGns addr.toNat = false → ∀ c ∈ asked dt r,
    (∀ k, span addr.toNat 0x201028 0x100 32 = some k → u.ready pdTic = true → exec c s = .next (kept (v.popTic m addr k))) ∧
    (∀ k, span addr.toNat 0x301030 0x100 32 = some k → u.ready pdGnss = true → exec c s = .next (kept (v.popGns m addr k))) ∧
    (addr = 0xB00120 → u.ready 1 = true → exec c s = .next (kept (v.popMains m addr)))) ∧
  (∀ dt r m addr s, let u := State.advance s dt
    let v := { u with cmd := { u.cmd with readWords := [] } }
    State.reads u r = (m, [addr]) → (∀ o w, r ≠ .bar2 o w) → u.reached m = true → outOfRange m addr = false →
    BitVec.toNat addr < bar0 → u.noGns addr.toNat = false →
    span addr.toNat 0x10044 0x80 8 = none → span addr.toNat 0x11000 4 32 = none → popAt addr.toNat = none →
    ∀ c ∈ asked dt r,
    (∀ x, v.rcAt addr.toNat = some x → v.ready x.dom = false →
      exec c s = .next (kept (v.answerRead (BitVec.ofNat 32 (0xBAD00000 + x.dom))))) ∧
    (∀ x, v.rcAt addr.toNat = some x → v.ready x.dom = true → x.wide = false →
      exec c s = .next (kept (x.cleared.answerRead (x.val.setWidth 32)))) ∧
    (∀ x, v.rcAt addr.toNat = some x → v.ready x.dom = true → x.wide = true →
      exec c s = .next (kept ((x.cleared.latch m addr [x.val.extractLsb' 32 32]).answerRead (x.val.setWidth 32)))) ∧
    (∀ d ws, v.rcAt addr.toNat = none → v.recordAt addr.toNat = some (d, ws) → v.ready d = true →
      exec c s = .next (kept ((v.latch m addr (ws.drop 1)).answerRead (ws.headD 0)))) ∧
    (∀ d, v.rcAt addr.toNat = none → v.recordAt addr.toNat = none → v.laterIn addr.toNat = some d → v.ready d = true →
      exec c s = .next (kept (v.answerRead (v.shadowWord m addr.toNat)))) ∧
    (∀ d w, v.rcAt addr.toNat = none → v.recordAt addr.toNat = none → v.laterIn addr.toNat = none →
      v.regGet addr.toNat = some (d, w) →
      exec c s = .next (kept (v.answerRead (if v.ready d then w else BitVec.ofNat 32 (0xBAD00000 + d))))) ∧
    (v.rcAt addr.toNat = none → v.recordAt addr.toNat = none → v.laterIn addr.toNat = none → v.regGet addr.toNat = none →
      exec c s = .next (kept (v.answerRead 0xBAD000FF)))) ∧
  (∀ dt r m s, let u := State.advance s dt
    State.reads u r = (m, []) → (∀ o w, r ≠ .bar2 o w) → u.reached m = true →
    ∀ c ∈ asked dt r, exec c s = .next { u with cmd := { u.cmd with readWords := [] } }) ∧
  (∀ dt w addr v s, let u := State.advance s dt
    State.writes u w = (0, [(addr, v)]) → u.reached 0 = true → ∀ g < 16, ∀ c ∈ told dt w,
    (BitVec.toNat addr = 0x28004 + 0x20 * g → exec c s = .next (u.hostW1c g v)) ∧
    (BitVec.toNat addr = 0x28008 + 0x20 * g → exec c s = .next { u with cmd := u.cmd.sendNew { u.cmd with
      groups := Tab.mod u.cmd.groups g fun q => { q with maskMsi := v } } }) ∧
    (BitVec.toNat addr = 0x2800C + 0x20 * g ∨ addr.toNat = 0x28010 + 0x20 * g → exec c s = .next u.refuseWrite)) ∧
  (∀ dt w m addr v s, let u := State.advance s dt
    State.writes u w = (m, [(addr, v)]) → u.reached m = true → m = 1 ∨ m = 2 → ∀ g < 16, ∀ c ∈ told dt w,
    (BitVec.toNat addr = 0x2800C + 0x20 * g → exec c s = .next (u.pinW1c g v)) ∧
    (BitVec.toNat addr = 0x28010 + 0x20 * g → exec c s = .next { u with cmd := { u.cmd with
      groups := Tab.mod u.cmd.groups g fun q => { q with maskPin := v } } }) ∧
    (BitVec.toNat addr = 0x28004 + 0x20 * g ∨ addr.toNat = 0x28008 + 0x20 * g → exec c s = .next u.refuseWrite)) ∧
  (∀ dt w m addr v s, let u := State.advance s dt
    State.writes u w = (m, [(addr, v)]) → u.reached m = true → outOfRange m addr = false →
    ∀ n i, n < 8 → i < 16 → BitVec.toNat addr = 0x10000 + 0x80 * n + 4 * i → (u.mbx n).sender = m →
    (u.mbx n).full = false → ∀ c ∈ told dt w,
    exec c s = .next (u.modMbx n fun x => { x with data := Tab.set x.data i v })) ∧
  (∀ dt addr v s, let u := State.advance s dt
    u.reached 0 = true → u.ready pdPcie = true → ∀ n < 64, BitVec.toNat addr = 0x1000014 + 0x40 * n →
    exec (.registerWrite dt (.bar0 addr false v)) s = .next (u.modRing n fun r => { r with
      ptrErr := r.ptrErr && !v.getLsbD 1, busErr := r.busErr && !v.getLsbD 2 }))

/-- The access paths spell the registers an access reaches (R30, R36, R37): the host's 32-bit and 64-bit accesses, the SPI
command bytes 0x02 and 0x0B with a word address, most significant byte first, and bursts four addresses on; the I2C target
0x58 + I2C_ADDR. A misaligned address, another command byte or another target reaches nothing. BAR2 holds the MSI-X table and the pending
bits (R35, R61): a word of an entry's four is written and read there, a message that waits is sent once nothing masks its
vector, and the pending bits read at 0x8000; the layout of the table is PCIe's (log entry 73). -/
def Obligations.AccessPathsReachRegisters : Prop :=
  (∀ (s : State) (a : W32) (v : BitVec 64),
    (a.toNat % 4 = 0 → s.writes (.bar0 a false v) = (0, [(a, v.setWidth 32)]) ∧ s.reads (.bar0 a false) = (0, [a])) ∧
    (a.toNat % 8 = 0 → s.writes (.bar0 a true v) = (0, [(a, v.setWidth 32), (a + 4, v.extractLsb' 32 32)]) ∧
      s.reads (.bar0 a true) = (0, [a, a + 4])) ∧
    (a.toNat % 4 ≠ 0 → s.writes (.bar0 a false v) = (0, []) ∧ s.reads (.bar0 a false) = (0, [])) ∧
    (a.toNat % 8 ≠ 0 → s.writes (.bar0 a true v) = (0, []) ∧ s.reads (.bar0 a true) = (0, []))) ∧
  (∀ (s : State) (b0 b1 b2 b3 d0 d1 d2 d3 e0 e1 e2 e3 : BitVec 8) (n : Nat),
    let a := b0 ++ b1 ++ b2 ++ b3
    let bs := [b0, b1, b2, b3, d0, d1, d2, d3, e0, e1, e2, e3]
    let ws := [(a, d0 ++ d1 ++ d2 ++ d3), (a + 4, e0 ++ e1 ++ e2 ++ e3)]
    (a.toNat % 4 = 0 →
      s.writes (.spi (0x02 :: bs)) = (1, ws) ∧ s.writes (.spi (0x02 :: bs ++ [d0])) = (1, ws) ∧
      s.writes (.i2c (0x58 + s.fuse.i2cAddr.setWidth 7) bs) = (2, ws) ∧
      s.reads (.spi [0x0B, b0, b1, b2, b3] n) = (1, (List.range n).map fun i => a + BitVec.ofNat 32 (4 * i)) ∧
      s.reads (.i2c (0x58 + s.fuse.i2cAddr.setWidth 7) [b0, b1, b2, b3] n) =
        (2, (List.range n).map fun i => a + BitVec.ofNat 32 (4 * i))) ∧
    (a.toNat % 4 ≠ 0 → s.writes (.spi (0x02 :: bs)) = (1, []) ∧
      s.writes (.i2c (0x58 + s.fuse.i2cAddr.setWidth 7) bs) = (2, []) ∧
      s.reads (.spi [0x0B, b0, b1, b2, b3] n) = (1, [])) ∧
    (∀ k : BitVec 8, k ≠ 0x02 → s.writes (.spi (k :: bs)) = (1, [])) ∧
    (∀ k : BitVec 8, k ≠ 0x0B → s.reads (.spi (k :: bs) n) = (1, [])) ∧
    (∀ t : BitVec 7, t ≠ 0x58 + s.fuse.i2cAddr.setWidth 7 → s.writes (.i2c t bs) = (2, []) ∧
      s.reads (.i2c t bs n) = (2, []))) ∧
  (∀ dt (o : BitVec 16) v s, let u := State.advance s dt
    u.reached 0 = true → o.toNat % 4 = 0 → o.toNat < 0x400 →
    exec (.registerWrite dt (.bar2 o false v)) s = .next { u with cmd := { u.cmd with
      msix := Tab.mod u.cmd.msix (o.toNat / 16) fun e => e.put (o.toNat % 16 / 4) (v.setWidth 32) }.msiFlush }) ∧
  (∀ dt en mask s, let u := State.advance s dt
    u.reached 0 = true →
    exec (.registerWrite dt (.msixControl en mask)) s =
      .next { u with cmd := { u.cmd with msixEn := en, msixMask := mask }.msiFlush }) ∧
  (∀ dt (o : BitVec 16) s, let u := State.advance s dt
    u.reached 0 = true → o.toNat % 4 = 0 →
    (o.toNat < 0x400 → ∃ t, exec (.shadowLatchRead dt (.bar2 o false)) s = .next t ∧
      t.cmd.readWord = (Tab.get u.cmd.msix (o.toNat / 16) Msix.reset).get (o.toNat % 16 / 4) ∧ t.cmd.pba = u.cmd.pba) ∧
    (o = 0x8000 → ∃ t, exec (.shadowLatchRead dt (.bar2 o false)) s = .next t ∧
      t.cmd.readWord = u.cmd.pba.extractLsb' 0 32)) ∧
  (∀ (c : Cmd) v, v < 64 → c.msixEn = true →
    (c.msixMasked v = true → (c.msi v).msiSent = c.msiSent ∧ has (c.msi v).pba v = true) ∧
    (c.msixMasked v = false →
      (c.msi v).msiSent = Tab.mod c.msiSent v (· + 1) ∧ has (c.msi v).pba v = false)) ∧
  (∀ (e : Msix) (i : Nat) (w : W32), i < 4 → (e.put i w).get i = if i = 3 then w &&& 1 else w)

/-- The chip's resets, its boot and its power domains (R68 to R91): each event, where it takes effect, leaves the state
stated. `u` is the state once the event's ticks have passed. -/
def Obligations.BootEventsRun : Prop :=
  (∀ dt s, let u := State.advance s dt
    u.sys.porLow = false →
    let v := u.hold 0 true
    exec (.porNAssert dt true) s = .next { v with sys := { v.sys with porLow := true } }) ∧
  (∀ dt s, let u := State.advance s dt
    exec (.porNAssert dt false) s = .next { u with sys := { u.sys with porLow := false } }) ∧
  (∀ dt out s, let u := State.advance s dt
    (out &&& ~~~u.sys.railsOut ≠ 0 → let v := u.hold 3 true
      exec (.railMonitorReset dt out) s = .next { v with sys := { v.sys with
        railsOut := out, railWaitFrom := if out = 0 && u.sys.railsOut ≠ 0 then u.ticks else v.sys.railWaitFrom } }) ∧
    (out &&& ~~~u.sys.railsOut = 0 → exec (.railMonitorReset dt out) s = .next { u with sys := { u.sys with
      railsOut := out, railWaitFrom := if out = 0 && u.sys.railsOut ≠ 0 then u.ticks else u.sys.railWaitFrom } })) ∧
  (∀ dt s, let u := State.advance s dt
    u.sys.resetLow = false → u.sys.inReset = false ∨ u.sys.coldReset = false →
    let v := u.hold 1 false
    exec (.resetNAssert dt true) s = .next { v with sys := { v.sys with resetLow := true } }) ∧
  (∀ dt s, let u := State.advance s dt
    exec (.resetNAssert dt false) s = .next { u with sys := { u.sys with resetLow := false } }) ∧
  (∀ dt s, let u := State.advance s dt
    u.sys.inReset = true → u.sys.porLow = false → u.sys.resetLow = false → u.sys.railsOut = 0 →
    u.sys.coldReset = false ∨ u.sys.railWaitFrom + 2 * msTicks ≤ u.ticks →
    exec (.resetRelease dt) s = .next { u with
      sys := { u.sys with inReset := false, releasedAt := u.ticks }, mon := { u.mon with lastCross := u.ticks } }) ∧
  (∀ dt s, let u := State.advance s dt
    u.sys.devState = .boot → u.sys.inReset = false → u.sys.coldReset = true → u.sys.releasedAt + 20 * usTicks ≤ u.ticks →
    exec (.strapSample dt) s = .next ({ u with
      fuse := { u.fuse with pairSide := u.fuse.pairSidePin, i2cAddr := u.fuse.i2cAddrPin }
      sys := { u.sys with coldReset := false } })) ∧
  (∀ dt a b s, let u := State.advance s dt
    u.sys.devState = .boot → u.sys.inReset = false → u.sys.imageOk = false → u.sys.bootCode = .inProgress →
    exec (.bootImageCheck dt a b) s = .next (State.imageCheck { u with sys := { u.sys with
      flashA := a.getD u.sys.flashA, flashB := b.getD u.sys.flashB } })) ∧
  (∀ dt s, let u := State.advance s dt
    u.sys.devState = .boot → u.sys.inReset = false → u.ready pdTime = true → has u.sys.domOn pdEngine = false →
    u.acd.cpllLock = true ∨ (u.acd.checkFrom + 5 * msTicks ≤ u.ticks ∧ u.cpllRefPresent = false) ∨
      u.sys.releasedAt + 9 * msTicks ≤ u.ticks →
    let s1 := u.powerUp (bitAt 13 pdEngine)
    exec (.engineBootPowerStart dt) s = .next (if u.acd.cpllLock then s1 else s1.raise (src 0 9))) ∧
  (∀ dt d banks s, let u := State.advance s dt
    let k := BitVec.toNat d
    has u.sys.domUp k = true ∨ (u.sys.devState = .boot ∧ u.sys.inReset = false ∧ k = 2 ∧ u.ready 2 = false) →
    let v := u.domReadyNow k banks
    exec (.domainReady dt d banks) s =
      .next (if u.sys.devState = .boot ∧ k = 9 then v.powerUp (bitAt 13 11) else v)) ∧
  (∀ dt d s, let u := State.advance s dt
    let k := d.toNat
    has u.sys.domDown k = true → u.mayOff k = true →
    exec (.domainOff dt d) s = .next (u.domOff k)) ∧
  (∀ dt keep s, let u := State.advance s dt
    u.sys.devState = .boot → u.sys.inReset = false → u.sys.imageOk = true → u.ready pdEngine = true →
    exec (.bootComplete dt keep) s = .next (u.bootDone keep)) ∧
  (∀ dt skew s, let u := State.advance s dt
    u.ready pdTic = true → u.tic.bridge ≠ none → u.tic.readyTick + msTicks ≤ u.ticks →
    let v := ({ u with
      sys := { u.sys with tapPhase := skew }
      tic := { u.tic with
        bridgeDone := true, bridge := none
        spares := Tab.mapIdx u.tic.spares fun _ p => if p.use = 3 then TicSpare.reset else p } }).substAll.calNext
    exec (.bridgeMeasure dt skew) s = .next (if has v.bootOn pdTic then v else v.powerDown (bitAt 13 pdTic))) ∧
  (∀ dt s, let u := State.advance s dt
    u.sys.devState = .init → u.cfg.sys.autoRun = true → u.sys.tamperHold = false → u.bootReady = true →
    exec (.autoRun dt) s = .next u.enterRun) ∧
  (∀ dt s, let u := State.advance s dt
    u.sys.devState = .sleep →
    let v := { u with sys := { u.sys with note := 0 } }
    exec (.wakeNEdge dt) s = .next ((v.wakeNow 2 15).logPut (commandEntry v wakePacket 0x0044 .ok))) ∧
  (∀ dt flash s, let u := State.advance s dt
    u.sys.devState = .sleep → u.sys.waking = true → u.bootReady = true →
    let f := flash.getD (u.sys.slotImage u.sys.bootSlot)
    let r := { u with sys := u.sys.putImage u.sys.bootSlot f }
    (u.imageValid f = true → f.hash = u.sys.runHash → exec (.wakeComplete dt flash) s = .next r.wakeDone) ∧
    (u.imageValid f = false ∨ f.hash ≠ u.sys.runHash →
      exec (.wakeComplete dt flash) s = .next { r with sys := { r.sys with waking := false, bootCode := .noImage } })) ∧
  (∀ dt f dmaError powerFail s, let u := State.advance s dt
    u.sys.stageBusy = true →
    let code := if slotSize < u.sys.stageLen.toNat then 4 else if powerFail then 5 else if dmaError then 3
      else if f.checks = false then 1 else if u.fuse.svnFloor ≤ f.svn then 0 else 2
    let s1 := if code = 4 then u else u.stageImage code f
    let s2 := { s1 with sys := { s1.sys with
      stageBusy := false, stageValid := true, stageResult := BitVec.ofNat 3 code, stageSeq := s1.sys.stageSeq + 1 } }
    let s3 := if code = 3 then s2.irq (src 15 1) else s2
    exec (.fwStageDone dt f dmaError powerFail) s = .next (s3.raise (src 0 4) 0 code))

/-- The accord, its oscillators and the time bus (R15 to R19, R121 to R147): each event, where it takes effect, leaves the
state stated. -/
def Obligations.AccordEventsRun : Prop :=
  (∀ dt m v s, let u := State.advance s dt
    let y : Int := match v with | some x => BitVec.toInt x | none => u.acd.servoOut.toInt
    BitVec.toNat m = 4 + u.cfg.acd.owner.toNat → u.ready pdTime = true →
    (u.steering = true → exec (.acdSteerWrite dt m v) s = .next (u.steerWrite y)) ∧
    (u.steering = false → u.acd.servoLost = true → u.acd.forced = false → u.acd.state ≠ .safe →
      exec (.acdSteerWrite dt m v) s =
        .next { u with acd := { u.acd with reentry := u.selectedSlot.isSome, reentryAt := u.ticks } })) ∧
  (∀ dt s, let u := State.advance s dt
    u.steering = true → u.acd.steerWait = false →
    u.acd.lastSteer + u.cfg.acd.servoTimeoutMs.toNat * msTicks ≤ u.ticks →
    let v := { u with acd := { u.acd with servoLost := true } }
    exec (.servoTimeout dt) s = .next (((v.raise (src 3 7)).faultAssert 32).enterDrydown true)) ∧
  (∀ dt s, let u := State.advance s dt
    u.acd.reentry = true → u.acd.forced = false → u.acd.state ≠ .safe → u.acd.state ≠ .cold → u.ready pdTime = true →
    u.pubTick u.acd.reentryAt = true →
    let v := { u with acd := { u.acd with reentry := false } }
    ∀ n, v.selectedSlot = some n →
    exec (.accordReEntry dt) s = .next (v.steerTo (-(v.refNow n) * 2 ^ 40) 1).switchDone) ∧
  (∀ dt s, let u := State.advance s dt
    u.acd.ocxoPresent = false → u.ready pdTime = true →
    exec (.ocxoPresent dt) s = .next ({ u with acd := { u.acd with
      ocxoPresent := true, macerate := true, macFrom := u.ticks, macPts := [] } }.react)) ∧
  (∀ dt s, let u := State.advance s dt
    u.ready pdTime = true →
    exec (.atomPresent dt) s = .next ({ u with acd := { u.acd with atomPresent := true } })) ∧
  (∀ dt s, let u := State.advance s dt
    u.acd.cpllLock = false → u.ready pdTime = true → u.cpllRefPresent = true →
    let s1 := { u with acd := { u.acd with cpllLock := true, cpllEver := true, cpllRelock := false } }
    let s2 := if u.acd.cpllRelock then s1.raise (src 3 13) else s1
    exec (.cpllLock dt) s = .next (s2.faultEnd 4)) ∧
  (∀ dt s, let u := State.advance s dt
    u.acd.cpllRelock = false → u.ready pdTime = true →
    let v := { u with acd := { u.acd with cpllLock := false } }
    exec (.cpllLoss dt) s = .next (if u.acd.cpllEver then v.faultAssert 4 else v)) ∧
  (∀ dt atom s, let u := State.advance s dt
    let s1 := if atom then { u with acd := { u.acd with atomPresent := false } }
      else { u with acd := { u.acd with ocxoPresent := false } }
    exec (.oscillatorAbsent dt atom) s =
      .next (if atom = u.cfg.acd.cpllAtom then s1.refPresence.cpllLost true else s1.refPresence)) ∧
  (∀ dt s, let u := State.advance s dt
    u.acd.macerate = true →
    (u.acd.macFrom + u.cfg.acd.macerationS.toNat * sTicks ≤ u.ticks ∨
      u.cfg.acd.macEarly = true ∧ u.macStable = true) →
    exec (.macerationEnd dt) s = .next ({ u with acd := { u.acd with macerate := false } }.raise (src 3 10))) ∧
  (∀ dt s, let u := State.advance s dt
    u.ready pdTime = true → u.acd.cpllLock = true → (u.keep.restored = true ∨ u.keep.blank = true) →
    u.sys.seeded = false → u.acd.state = .cold → u.acd.calTold = false →
    (u.vbat.calValid = true →
      let v := u.seedAccord u.calTai u.calEb
      exec (.accordSeed dt) s = .next ({ v with sys := { v.sys with seeded := true } }.raise (src 0 7))) ∧
    (u.vbat.calValid = false →
      exec (.accordSeed dt) s = .next ({ u with acd := { u.acd with calTold := true } }.raise (src 0 8)))) ∧
  (∀ dt s, let u := State.advance s dt
    u.acd.leapPending = true → u.cfg.acd.leapAt.toNat ≤ u.now16 / sec16 → u.keep.ro = true ∨ u.mon.pfw = true →
    let v := u.setAcdCfg fun c => { c with utcOffsetS := c.leapOffset }
    exec (.leapApply dt) s = .next ({ v with acd := { v.acd with leapPending := false } }.raise (src 3 12) 0
      u.cfg.acd.leapOffset.toInt)) ∧
  (∀ dt s, let u := State.advance s dt
    u.acd.leapPending = true → u.cfg.acd.leapAt.toNat ≤ u.now16 / sec16 → u.keep.ro = false → u.mon.pfw = false →
    let v := u.setAcdCfg fun c => { c with utcOffsetS := c.leapOffset }
    let w := ({ v with acd := { v.acd with leapPending := false } }.keepWrite none).1.commitCsp
    exec (.leapApply dt) s = .next (w.raise (src 3 12) 0 w.cfg.acd.utcOffsetS.toInt)) ∧
  (∀ dt s, exec (.timeBusApply dt) s = .next (State.advance s dt)) ∧
  (∀ dt tap value s, let u := State.advance s dt
    u.ready pdTime = true → (u.ticks - u.acd.checkFrom) % 1024 = 0 →
    (value = u.timeNow.extractLsb' 16 48 → exec (.timeBusCheck dt tap value) s = .next u) ∧
    (value ≠ u.timeNow.extractLsb' 16 48 → exec (.timeBusCheck dt tap value) s = .next ({ u with
      acd := { u.acd with tapsBad := tap :: u.acd.tapsBad.filter (· != tap) }
      flt := { u.flt with tapId := tap } }.faultAssert 3))) ∧
  (∀ dt s, exec (.bridgeClockLoss dt) s = .next ((State.advance s dt).faultAssert 1)) ∧
  (∀ dt s, exec (.timeBusError dt) s = .next ((State.advance s dt).faultAssert 2)) ∧
  (∀ dt s, let u := State.advance s dt
    let n := (u.ticks - u.acd.lastPub) / 64
    u.sys.inReset = false → u.ready pdTime = true → n ≠ 0 →
    exec (.ebPublication dt) s = .next (u.publish n)) ∧
  (∀ dt s, let u := (State.advance s dt).leapNow
    u.sys.inReset = false → u.sys.devState ≠ .boot → u.ready pdTime = true → u.sys.after ≠ 1 →
    exec (.scheduledCommandDue dt) s = .next (match u.nextDue with
      | some e => u.runEntry e
      | none => u))

/-- The fault collector, tamper, the BIST and the test port (R351, R357 to R365, R439 to R447): each event, where it takes
effect, leaves the state stated. -/
def Obligations.FaultEventsRun : Prop :=
  (∀ dt n inst s, let u := State.advance s dt
    (BitVec.toNat n ≠ 0 → n.toNat ≠ 3 → n.toNat ≠ 8 → exec (.faultAssert dt n inst) s = .next (u.faultAssert n.toNat)) ∧
    (n = 3 → exec (.faultAssert dt n inst) s = .next ({ u with
      flt := { u.flt with tapId := inst.setWidth 8 }
      acd := { u.acd with tapsBad := u.acd.tapsBad ++ [inst.setWidth 8] } }.faultAssert 3)) ∧
    (n = 8 → exec (.faultAssert dt n inst) s =
      .next ({ u with sys := { u.sys with aliveLow := true } }.faultAssert 8))) ∧
  (∀ dt s, let u := State.advance s dt
    u.sys.devState ≠ .boot → u.flt.selfFail = false →
    let v := { u with flt := { u.flt.assert 0 true false u.ticks with selfFail := true } }
    exec (.collectorSelfFail dt) s = .next ((v.raise (src 11 4)).safeLine 0 false)) ∧
  (∀ dt s, let u := State.advance s dt
    exec (.collectorSelfRecover dt) s = .next { u with flt := { u.flt with selfFail := false } }) ∧
  (∀ dt s, let u := State.advance s dt
    exec (.wardenWdogExpiry dt) s = .next ({ u with sys := { u.sys with aliveLow := true } }.faultAssert 8)) ∧
  (∀ dt src_ s, let u := State.advance s dt
    let n := BitVec.toNat src_
    exec (.tamperAssert dt src_ true) s =
      .next ({ u with vbat := { u.vbat with tamperActive := putBit u.vbat.tamperActive n true } }.tamper n) ∧
    exec (.tamperAssert dt src_ false) s =
      .next { u with vbat := { u.vbat with tamperActive := putBit u.vbat.tamperActive n false } }) ∧
  (∀ dt code s, let u := State.advance s dt
    let n := BitVec.toNat code
    (tapOpen n = true →
      exec (.tapInstruction dt code) s = .next (u.modBlt fun b => { b with ir := code, scanActive := false })) ∧
    (tapOpen n = false → tapScan n = true → u.scanOk = true →
      exec (.tapInstruction dt code) s =
        .next ((u.modBlt fun b => { b with ir := code, scanActive := true }).raise (src 15 28))) ∧
    (tapOpen n = false → tapScan n = false ∨ u.scanOk = false →
      let v := (u.modBlt fun b => { b with ir := 0xFF, scanActive := false, probes := b.probes + 1 }).raise (src 15 26)
      exec (.tapInstruction dt code) s = .next (if has u.bltScope 2 then v else v.tamper 11))) ∧
  (∀ dt s, let u := State.advance s dt
    exec (.tapTestLogicReset dt) s = .next (u.modBlt fun b => { b with ir := 0xFF, scanActive := false })) ∧
  (∀ dt fail s, let u := State.advance s dt
    ∀ r, u.blt.bist = some r → r.start + r.begins 6 ≤ u.ticks →
    let f : BitVec 6 := fail &&& r.mask
    exec (.bistDone dt fail) s = .next (((u.bistEffects r.mask f).modBlt fun b => { b with
      bist := none, bistValid := true, bistStatus := if f = 0 then 0 else 1, bistFail := f
      bistSeq := b.bistSeq + 1 }).raise (src 15 27) 0 f.toNat))

/-- The reference slots (R96 to R117): each event, where it takes effect, leaves the state stated. -/
def Obligations.ReferenceEventsRun : Prop :=
  (∀ dt slot phase cycles s, let u := State.advance s dt
    let n := BitVec.toNat slot
    let r : Int := (u.now16 : Int) + phase - ps16 (u.slotCfg n).delayPs.toInt
    u.ready pdTime = true → (u.slot n).qstate ≠ .disabled → (n < 12 ∨ n = 18 ∨ n = 19) →
    (u.refType n = 0 →
      exec (.refEdge dt slot phase cycles) s = .next (u.refUpdate n (r - nearest r sec16 * sec16))) ∧
    (u.refType n ≠ 0 → u.refType n ≠ 3 →
      exec (.refEdge dt slot phase cycles) s = .next (u.clockEdge n r cycles))) ∧
  (∀ dt slot phase second s, let u := State.advance s dt
    let n := BitVec.toNat slot
    let r : Int := (u.now16 : Int) + phase - ps16 (u.slotCfg n).delayPs.toInt
    u.ready pdTime = true → (u.slot n).qstate ≠ .disabled → n < 12 → u.refType n = 3 →
    exec (.refTodMessage dt slot phase second) s =
      .next (u.refUpdate n (r - second.toNat * sec16))) ∧
  (∀ dt m slot offset eSrc s, let u := State.advance s dt
    let n := slot.toNat
    4 ≤ m.toNat → m ≠ 14 → 12 ≤ n → n ≤ 17 → u.refExists n = true →
    (n = 12 ∨ n = 17 → exec (.refOffsetDelivery dt m slot offset eSrc) s =
      .next ((u.modSlot n fun q => { q with estimates := [] }).refDeliver n offset.toInt eSrc)) ∧
    (n ≠ 12 → n ≠ 17 → (u.slot n).estimates ≠ [] → exec (.refOffsetDelivery dt m slot offset eSrc) s =
      .next ((u.modSlot n fun q => { q with estimates := [] }).refDeliver n (meanOf (u.slot n).estimates) eSrc))) ∧
  (∀ dt slot s, let u := State.advance s dt
    let n := BitVec.toNat slot
    (u.slot n).qstate ≠ .disabled → n < 20 →
    ((u.slot n).lastEdge = none → exec (.refLosTimeout dt slot) s = .next (u.refHist n 0 none)) ∧
    (∀ t, (u.slot n).lastEdge = some t → n < 12 ∨ n = 18 ∨ n = 19 → u.refLosAfter n ≤ u.ticks - t →
      let v := u.modSlot n fun q => { q with sigFrom := u.ticks + 1, freqPts := [], breachS := 0xFFFFFFFF }
      exec (.refLosTimeout dt slot) s =
        .next ((v.cellsStale n).setFaults n (((u.slot n).faultSrc &&& 0xC0) ||| 1) false))) ∧
  (∀ dt slot s, let u := State.advance s dt
    let n := BitVec.toNat slot
    (u.slot n).qstate = .holdoff → (u.slot n).timerOn = true →
    (u.slotCfg n).holdoffMs.toNat * msTicks ≤ u.ticks - (u.slot n).timerFrom → (u.slot n).faultSrc ≠ 0 →
    let v := ((u.refTimerOff n).qMove n .failed (some (src 2 4))).majRefresh
    exec (.holdoffExpiry dt slot) s =
      .next (if v.isSel n ∧ v.bestSlot = none ∧ v.ref.switching = false then v.refSelect else v)) ∧
  (∀ dt slot s, let u := State.advance s dt
    let n := BitVec.toNat slot
    let w := if (u.slot n).timerFirst then (u.slotCfg n).firstWaitS else (u.slotCfg n).wtrS
    (u.slot n).qstate = .wait → (u.slot n).timerOn = true → w.toNat * sTicks ≤ u.ticks - (u.slot n).timerFrom →
    (u.slot n).faultSrc = 0 →
    exec (.waitExpiry dt slot) s = .next ((((u.refTimerOff n).modSlot n fun q =>
      { q with qualOnce := true }).qMove n .qualified (some (src 2 5))).majRefresh)) ∧
  (∀ dt s, let u := State.advance s dt
    let v := { u.cellsSnap with ref := { u.cellsSnap.ref with lastMs := some (u.now16 / ms16) } }
    u.ready pdTime = true → u.ref.lastMs ≠ some (u.now16 / ms16) →
    exec (.refSelectTick dt) s = .next v.refSelect ∧
    (v.ref.switching = false → v.ready pdTime = true → v.selectedSlot = none →
      (v.bestSlot = none → v.refSelect = { v with ref := { v.ref with best := 31 } }) ∧
      (∀ b, v.bestSlot = some b → v.acd.state ≠ .cold ∨ v.acd.cpllLock = true →
        v.refSelect = { v with ref := { v.ref with best := BitVec.ofNat 5 b } }.startSwitch 31 b))) ∧
  (∀ dt i s, let u := State.advance s dt
    let n := 13 + i.toNat
    let q := u.slot n
    q.masterPresent = true → q.annTick + (u.ptpCfg i.toNat).announceTimeout.toNat * logTicks q.annLog ≤ u.ticks →
    let s1 := u.modSlot n fun q => { q with
      masterPresent := false, freeRun := true, syncRx := none, masterToUs := none, estimates := [] }
    let s2 := (s1.refHist n 12 (some (src 2 12))).refHist n 13 (some (src 2 13))
    exec (.ptpAnnounceTimeout dt i) s = .next (s2.setSource n true (s2.slot n).classLimit false)) ∧
  (∀ dt k auth msg s, let u := State.advance s dt
    let n := 13 + BitVec.toNat k
    let c := u.ptpCfg k.toNat
    let port := Tab.get u.cfg.svc.ports c.lane.toNat PortCfg.reset
    let x := Tab.get u.cfg.svc.spp port.slaveSpp.toNat SppCfg.reset
    c.enable = true → u.laneActive c.lane.toNat = true → u.ready pdEngine = true →
    (x.aId = 0 ∧ x.bId = 0) ∨ auth = true →
    (∀ cl id log, msg = .announce cl id log →
      exec (.ptpSlaveMessage dt k auth msg) s = .next (u.slaveAnnounce n c.classMax cl id log)) ∧
    ((u.slot n).masterPresent = true →
      (∀ t two ph, msg = .sync t two ph → exec (.ptpSlaveMessage dt k auth msg) s =
        .next (u.modSlot n fun q => q.sync t two (taiNat (u.rxStamp c.lane.toNat ph).time))) ∧
      (∀ t, msg = .followUp t →
        exec (.ptpSlaveMessage dt k auth msg) s = .next (u.modSlot n fun q => q.followUp t)) ∧
      (∀ a b, msg = .delayResp a b →
        exec (.ptpSlaveMessage dt k auth msg) s = .next (u.modSlot n fun q => q.delayResp a b))))

/-- The GNSS block (R149 to R180): each event, where it takes effect, leaves the state stated. -/
def Obligations.GnssEventsRun : Prop :=
  (∀ dt edge peaks s, let u := State.advance s dt
    u.ready pdGnss = true → u.gns.acqQ = [] → ∀ a, u.gns.acq = some a → a.paused = false →
    a.snapshot = true ∨ u.gnsClk = true →
    let b := a.dealt.foldl (AcqRun.best1 peaks (u.acqHead a edge)) a
    (a.passes ≤ a.pass + 1 → exec (.acqPass dt edge peaks) s = .next (u.acqLast b)) ∧
    (a.pass + 1 < a.passes →
      exec (.acqPass dt edge peaks) s = .next { u with gns := { u.gns with acq := some { b with
        pass := a.pass + 1, startTick := u.ticks + (if a.snapshot then 0 else acqGap), paused := (u.ring 33).full } } })) ∧
  (∀ dt k n s, let u := (State.advance s dt).samples n
    let t := u.trk (BitVec.toNat k)
    u.gnsClk = true → t.assigned = true → t.running = false → t.lostClk = false →
    let i := u.startIncs t.doppler.toInt
    let ph := u.startPhase t
    exec (.gnsTrackStart dt k n) s = .next (u.modTrk k.toNat fun t => { t with
      running := true, codeInc := i.1, carrInc := i.2, codePhase := ph, codeSub := 0, carrPhase := 0, carrSub := 0
      dumpSamples := 0, dumpEpochs := 0 })) ∧
  (∀ dt k m accum s, let u := (State.advance s dt).samples m
    let n := BitVec.toNat k
    let t := u.trk n
    u.gnsClk = true → t.assigned = true → t.running = true → t.dumpDue = true →
    let v := u.modTrk n fun t => { t with dumpSeq := t.dumpSeq + 1, dumpSamples := 0, dumpEpochs := 0 }
    (t.dumps.length < 16 → exec (.gnsDump dt k m accum) s = .next (v.modTrk n fun x => { x with
      dumps := t.dumps ++ [word [(0, t.dumpSeq.toNat), (16, t.epoch.toNat)] :: BitVec.ofNat 32 t.dumpSamples ::
        (List.range 10).map fun i => (accum.getD i 0).signExtend 32] })) ∧
    (16 ≤ t.dumps.length → exec (.gnsDump dt k m accum) s = .next
      (((v.modTrk n fun x => { x with dumpLost := x.dumpLost + 1 }).gnsHist 7).irq (src 6 6)))) ∧
  (∀ dt m k carrier value n s, let u := (State.advance s dt).samples n
    u.gnsEngine m = true → u.ready pdGnss = true →
    exec (.gnsNcoWrite dt m k carrier value n) s = .next (u.modTrk (BitVec.toNat k) fun t =>
      if carrier then { t with carrInc := value } else { t with codeInc := value })) ∧
  (∀ dt m k codeLock carrLock bitSync cn0 slip s, let u := State.advance s dt
    u.gnsEngine m = true → u.ready pdGnss = true →
    let syncs := bitSync && !(u.trk (BitVec.toNat k)).bitSync
    let v := u.modTrk k.toNat fun t => { t with
      codeLock := codeLock, carrLock := carrLock, bitSync := bitSync, cn0 := cn0
      epoch := if syncs then BitVec.ofNat 5 (u.free.toNat % 20) else if bitSync then t.epoch else 0
      lockTick := if codeLock && !t.codeLock then u.ticks else t.lockTick
      slipCount := slip.getD t.slipCount }
    exec (.gnsTrkStateWrite dt m k codeLock carrLock bitSync cn0 slip) s = .next (if syncs then v.drawn else v)) ∧
  (∀ dt m k word ago s, let u := State.advance s dt
    u.gnsEngine m = true → u.ready pdGnss = true →
    exec (.gnsNavPush dt m k word ago) s = .next (u.navPut (BitVec.toNat k) word ago)) ∧
  (∀ dt m valid nsv snap offset unc s, let u := State.advance s dt
    u.gnsEngine m = true → u.ready pdGnss = true →
    exec (.gnsSolWrite dt m valid nsv snap offset unc) s = .next (u.solStore valid nsv snap offset unc).solUse) ∧
  (∀ dt s, let u := State.advance s dt
    u.ready pdGnss = true → u.gns.solLate = false → u.gns.solTick + 3 * sTicks / 2 ≤ u.ticks →
    exec (.gnsSolTimeout dt) s = .next ((({ u with gns := { u.gns with solLate := true } }).raise (src 6 9)).gnsEval)) ∧
  (∀ dt n s, let u := (State.advance s dt).samples n
    u.ready pdGnss = true → u.gns.clkPresent = true →
    let f : Nat → GnsTrk → GnsTrk := fun _ t => if t.assigned then { t with running := false, lostClk := true } else t
    let v := ({ u with gns := { u.gns with clkPresent := false, trk := Tab.mapIdx u.gns.trk f } }.gnsHist 4).raise (src 6 0)
    let w := match v.gns.acq with
      | some a => if a.snapshot = false ∧ v.gns.acqQ = [] then v.acqEnd false a.detected else v
      | none => v
    exec (.gnssClkLoss dt n) s = .next (if w.gns.snapBusy then w.snapEnd false else w).gnsEval) ∧
  (∀ dt s, let u := State.advance s dt
    u.ready pdGnss = true →
    exec (.gnssClkPresent dt) s = .next (({ u with gns := { u.gns with clkPresent := true } }).gnsEval)) ∧
  (∀ dt (edges : Nat) s, let u := State.advance s dt
    let hz := u.cfg.gns.sampleHz.toNat
    let off := Int.tdiv (((edges : Int) - hz) * 1000000000) hz
    let bad := decide (50000 < off.natAbs)
    u.gnsClk = true → u.gns.clkSecond ≠ some (u.now16 / sec16) →
    let v := { u with gns := { u.gns with
      clkOffsetPpb := satInt 32 off, clkRateErr := bad, clkSecond := some (u.now16 / sec16) } }
    exec (.gnssClkMeasure dt edges) s = .next (if bad && !u.gns.clkRateErr then v.raise (src 6 1) else v)) ∧
  (∀ dt tones s, let u := State.advance s dt
    u.gnsClk = true →
    let r := tones.foldl State.tone (u, false)
    let v := { r.1 with gns := { r.1.gns with notchFull := r.2 } }
    exec (.notchDetect dt tones) s = .next (if r.2 && !u.gns.notchFull then (v.gnsHist 1).raise (src 6 3) else v)) ∧
  (∀ dt n s, let u := State.advance s dt
    u.ready pdGnss = true → u.notchMode (BitVec.toNat n) = 2 → Tab.get u.gns.notchSeen n.toNat 0 + sTicks ≤ u.ticks →
    exec (.notchRelease dt n) s = .next { u with gns := { u.gns with
      notchActive := putBit u.gns.notchActive n.toNat false } }) ∧
  (∀ dt pre post s, let u := State.advance s dt
    u.ready pdGnss = true →
    let on := decide (u.cfg.gns.jamWarnDb.toInt ≤ BitVec.toInt post)
    let v := { u with gns := { u.gns with jamPreDb := pre, jamPostDb := post, jamWarn := on } }
    exec (.jamWarnChange dt pre post) s =
      .next (if on = true ∧ u.gns.jamWarn = false then (v.gnsHist 0).raise (src 6 2) else v)) ∧
  (∀ dt n edge s, let u := State.advance s dt
    let t := u.gnsStampAgo edge
    u.ready pdGnss = true → ∀ i, u.latchInst (taiNat t.time) = some i → (∀ l, u.gns.lastLatch = some l → l < i) →
    let v := { u with gns := { u.gns with lastLatch := some i } }
    (u.gnsClk = true → exec (.gnsLatch dt n edge) s = .next ((v.samples n).latchTake t)) ∧
    (u.gnsClk = false → exec (.gnsLatch dt n edge) s = .next { v with gns := { v.gns with
      latchMiss := v.gns.latchMiss + 1, latchSeq := v.gns.latchSeq + 1 } })) ∧
  (∀ dt edge s, let u := State.advance s dt
    let g := u.gns
    let t := u.gnsStampAgo edge
    u.ready pdGnss = true → g.clkPresent = true → g.snapArmed = true → g.snapBusy = false →
    taiNat g.snapAt ≤ taiNat t.time →
    (0 < g.snapExport → exec (.snapshotStart dt edge) s = .next u.snapWait) ∧
    (g.snapExport = 0 → exec (.snapshotStart dt edge) s = .next { u with gns := { g with
      snapArmed := g.snapRepeatS != 0
      snapAt := if g.snapRepeatS = 0 then g.snapAt else taiOf (taiNat g.snapAt + g.snapRepeatS.toNat * sec16)
      snapWaits := false, snapHeader := u.snapHead t, snapBytes := 0, snapMs := 0, snapBusy := true
      snapValid := false } })) ∧
  (∀ dt samples s, let u := State.advance s dt
    let g := u.gns
    let n := List.length samples
    u.ready pdGnss = true → g.snapBusy = true → n = u.snapLen →
    exec (.snapshotDone dt samples) s = .next ({ u with gns := { g with
      snapHeader := (g.snapHeader.set 6 (BitVec.ofNat 32 n)).set 7 (word [(0, (g.snapSeq + 1).toNat)])
      snapBytes := n, snapData := samples ++ g.snapData.drop n, snapMs := g.snapDurMs.toNat
      snapExport := ceilDiv (64 + n) 4096 } }.snapEnd true)) ∧
  (∀ dt s, let u := State.advance s dt
    let g := u.gns
    u.ready pdGnss = true → u.cfg.gns.portGate = true → g.snapArmed = true → taiNat g.snapAt ≤ u.now16 + u.cfg.gns.feLeadMs.toNat * ms16 →
    exec (.gnssFeEnLead dt) s = .next ({ u with gns := { g with feEn := true } }))

/-- The TIC (R181 to R203): each event, where it takes effect, leaves the state stated. -/
def Obligations.TicEventsRun : Prop :=
  (∀ dt ch falling fine badCode other s, let u := State.advance s dt
    let n := BitVec.toNat ch
    u.ticWants n falling = true →
    (u.ticTakes n falling = false → exec (.ticEdge dt ch falling fine badCode other) s = .next (u.ticGap n)) ∧
    (u.ticTakes n falling = true → u.ticDead n (BitVec.toNat fine) = true →
      exec (.ticEdge dt ch falling fine badCode other) s = .next (u.ticMiss n falling)) ∧
    (u.ticTakes n falling = true → u.ticDead n (BitVec.toNat fine) = false →
      exec (.ticEdge dt ch falling fine badCode other) s =
        .next (u.ticStamp n falling (BitVec.toNat fine) badCode other))) ∧
  (∀ dt ch s, let u := State.advance s dt
    let n := ch.toNat
    u.ticAbsent n = true →
    exec (.ticPresenceTimeout dt ch) s = .next (((u.modTch n fun c => { c with present := false }).ticMark n 6 0).ticRaise 6 n)) ∧
  (∀ dt ch s, let u := State.advance s dt
    u.ivLate ch.toNat = true →
    exec (.ticIntervalTimeout dt ch) s = .next (u.ivEnd ch.toNat 1 1)) ∧
  (∀ dt s, let u := State.advance s dt
    u.ready pdTic = true → u.coarse = 0 → u.tic.zeroTick < u.ticks →
    let v := (List.range 32).foldl State.wrapRecord u
    ((∃ n < 32, (u.tchCfg n).mode = 2) → exec (.ticCoarseWrap dt) s = .next (v.raise (src 5 13))) ∧
    ((∀ n < 32, (u.tchCfg n).mode ≠ 2) → exec (.ticCoarseWrap dt) s = .next v)) ∧
  (∀ dt c s, let u := State.advance s dt
    let k := BitVec.toNat c
    let v := u.tconv k
    u.ready pdTic = true → k < 36 → u.tic.readyTick + 500 * msTicks ≤ u.ticks → v.warm = false → v.failed = false →
    v.warmWait = false →
    let a := u.modConv k fun v => { v with warmWait := true }
    exec (.ticWarmupEnd dt c) s =
      .next ({ a with tic := { a.tic with recalDue := a.tic.recalDue ||| bitAt 36 k } }.calNext)) ∧
  (∀ dt c unc ss gain seg pts s, let u := State.advance s dt
    let n := BitVec.toNat c
    let r : CalRun := { calUnc := unc, ssRms := ss, gainDev := gain, segDev := seg, points := pts }
    u.calEnds n = true →
    exec (.ticCalDone dt c unc ss gain seg pts) s = .next
      ((if calPasses gain seg then (u.calPass n r).swapHome n else (u.convFail n).coverKeep n).ticCalCount n).calNext) ∧
  (∀ dt c s, let u := State.advance s dt
    let n := c.toNat
    u.recalWanted n = true →
    exec (.ticRecalTrigger dt c) s = .next (({ u with tic := { u.tic with recalDue := u.tic.recalDue ||| bitAt 36 n } }).calNext)) ∧
  (∀ dt sp s, let u := State.advance s dt
    let i := sp.toNat
    u.overlapOver i = true →
    exec (.ticSubstHandover dt sp) s = .next ((if u.swapAgrees i then u.swapOver i else u.swapAbandon i).calNext)) ∧
  (∀ dt s, let u := State.advance s dt
    u.ready pdTic = true →
    let f : Nat → TicCh → TicCh := fun n c => { c with eTic := ebSat (u.eTicOf n c.conv.toNat) }
    exec (.ticEticUpdate dt) s = .next (({ u with tic := { u.tic with ch := Tab.mapIdx u.tic.ch f } }).calNext))

/-- The outputs (R204 to R231): each event, where it takes effect, leaves the state stated. -/
def Obligations.OutputEventsRun : Prop :=
  (∀ dt k s, let u := State.advance s dt
    let n := k.toNat
    u.ready pdTime = true → (u.synCfg n).on = true → (u.syn n).lock = false →
    exec (.synLock dt k) s = .next (u.synLocked n)) ∧
  (∀ dt k s, let u := State.advance s dt
    u.ready pdTime = true → (u.syn k.toNat).lock = true →
    exec (.synUnlock dt k) s = .next (u.synUnlock k.toNat)) ∧
  (∀ dt n s, let u := State.advance s dt
    let i := BitVec.toNat n
    u.canStart i = true →
    (u.sqHit (u.ochCfg i).sqMask = false →
      let v := u.modOch i fun o => { o with
        running := true, sqAuto := false, sqCause := 0, aligned := false, misTick := u.ticks }
      exec (.outputStart dt n) s = .next (v.outUnsynced i).pairEval) ∧
    (u.sqHit (u.ochCfg i).sqMask = true → (u.och i).sqAuto = false →
      exec (.outputStart dt n) s =
        .next (((u.modOch i fun o => { o with sqAuto := true, sqCause := 1 }).outRaise 8 i).outUnsynced i))) ∧
  (∀ dt n errPs s, let u := State.advance s dt
    let i := BitVec.toNat n
    let o := u.och i
    u.ready pdTime = true → o.running = true → (u.ochCfg i).sync = false → o.bypassAct = false →
    u.gridTick 0 1 = true →
    let ok := decide (Int.natAbs errPs ≤ 20) && !o.gliding
    let v := u.modOch i fun o => { o with
      aligned := ok, trimPs := o.trimPs - errPs, misTick := if o.aligned && !ok then u.ticks else o.misTick }
    exec (.alignerCompare dt n errPs) s = .next
      ((if ok = true ∧ o.aligned = false then v.outRaise 4 i else v).alignClear).pairEval) ∧
  (∀ dt n s, let u := State.advance s dt
    let i := n.toNat
    (u.och i).gliding = true → u.perrNow i = 0 →
    exec (.glideEnd dt n) s = .next (u.modOch i fun o => { o with gliding := false, phaseErr := 0, misTick := u.ticks })) ∧
  (∀ dt n s, let u := State.advance s dt
    u.alignLate n.toNat = true →
    exec (.alignHoldTimer dt n) s = .next (u.faultAssert 65)) ∧
  (∀ dt s, let u := State.advance s dt
    u.ready pdTime = true →
    exec (.outSyncExecute dt) s = .next (u.syncRunAll)) ∧
  (∀ dt m s, let u := State.advance s dt
    let i := BitVec.toNat m
    let t := u.otp i
    let d := ps16 (u.otpCfg i).delayPs.toInt
    let inst := u.tpInst i ((u.now16 : Int) + d).toNat
    t.running = true → t.fresh inst = true → t.lowUntilS = false ∨ inst % sec16 = 0 →
    exec (.tpPulse dt m) s = .next (u.tpFire i inst ((inst : Int) - d))) ∧
  (∀ dt m s, let u := State.advance s dt
    let t := u.otp m.toNat
    let w := ceilDiv ((u.otpCfg m.toNat).widthNs.toNat * 5) 4
    t.high = true → t.highFrom + w ≤ u.ticks →
    exec (.tpPulseEnd dt m) s = .next (u.modOtp m.toNat fun t => { t with high := false })) ∧
  (∀ dt k s, let u := State.advance s dt
    let i := BitVec.toNat k
    let t := u.otod i
    let sec := ((u.now16 : Int) + ps16 (u.otodCfg i).delayPs.toInt).toNat / sec16
    t.running = true → (∀ l, t.lastSec = some l → l < sec) →
    exec (.todMessage dt k) s = .next (u.todSend i sec)) ∧
  (∀ dt good meanFs sigma s, let u := State.advance s dt
    ∀ r, u.out.echo = some r →
    exec (.echoDone dt good meanFs sigma) s = .next (u.echoResult r (BitVec.toNat good) meanFs (BitVec.toNat sigma)))

/-- The Ethernet ports and capture (R233 to R257): each event, where it takes effect, leaves the state stated. -/
def Obligations.PortEventsRun : Prop :=
  (∀ dt lane desc frame s, let u := State.advance s dt
    let l := BitVec.toNat lane
    let r := u.ring (36 + l)
    let d := txDesc desc
    let c := u.laneCfg l
    u.laneUsable l = true → u.ready pdPcie = true → r.enable = true → r.fetch ≠ r.prod →
    let a := { u with cmd := { u.cmd with rings := Tab.mod u.cmd.rings (36 + l) fun q =>
      { q with fetch := q.fetch + 1 } } }
    (d.refused c frame ≠ 0 → exec (.txDescriptorFetch dt lane desc frame) s =
      .next (((a.completeTx l (d.refused c frame) r.fetch.toNat d.cookie none).ethCount l 12).ethRaise 4 l)) ∧
    (d.refused c frame = 0 → c.enable = true → u.qFull (8 * l + d.cls) = false →
      exec (.txDescriptorFetch dt lane desc frame) s = .next (a.hostFrame l r.fetch.toNat d frame))) ∧
  (∀ dt lane phase f s, let u := State.advance s dt
    let l := BitVec.toNat lane
    u.laneActive l = true → (u.lane l).linkUp = true → 1 ≤ rxLength f →
    let t := u.rxStamp l phase
    let o := (u.laneCfg l).outcome f
    let a := (u.rxPath l f).rxCount l o (rxLength f)
    ((u.laneCfg l).laneMode = 1 →
      exec (.frameReceive dt lane phase f) s = .next (if a.capOn l then a.capFrame l t o f else a)) ∧
    ((u.laneCfg l).laneMode ≠ 1 →
      exec (.frameReceive dt lane phase f) s = .next (if o = .ok then a.rxHost l t f else a))) ∧
  (∀ dt lane phase s, let u := State.advance s dt
    let l := BitVec.toNat lane
    let t0 := u.now16 + phase
    u.laneActive l = true → (u.lane l).linkUp = true → u.frameEdge l t0 = true → (u.laneCfg l).laneMode ≠ 1 →
    (∀ f b, u.commitDue l = some (f, b) →
      exec (.frameRelease dt lane phase) s = .next (u.toWire l 7 f (b.slot - u.pre16 l) b.slot)) ∧
    (u.commitDue l = none → ∀ c f, c < 7 → (∀ k, c < k → k < 7 → u.headMay l k t0 = none) → u.headMay l c t0 = some f →
      exec (.frameRelease dt lane phase) s = .next (u.toWire l c f t0 (t0 + u.pre16 l)))) ∧
  (∀ dt lane s, let u := State.advance s dt
    let l := BitVec.toNat lane
    ∀ f, (u.tlane l).wireFrame = some f → f.commit = none → u.laneLive l = true → (u.tlane l).wireEnd ≤ u.ticks →
    exec (.txComplete dt lane) s = .next (u.txDone l f)) ∧
  (∀ dt lane ps s, let u := State.advance s dt
    let l := BitVec.toNat lane
    u.laneActive l = true → (u.lane l).linkUp = false →
    exec (.linkUp dt lane ps) s = .next (((u.modLane l fun x => { x with
      linkUp := true, blockLock := true, fecLock := (u.laneCfg l).fec, delayValid := true
      rxPhasePs := ps }).ethRaise 0 l 0 0 1).capLink l true)) ∧
  (∀ dt lane s, let u := State.advance s dt
    let l := BitVec.toNat lane
    (u.lane l).linkUp = true →
    exec (.linkDown dt lane) s = .next ((((u.modLane l fun x => { x with
      linkUp := false, blockLock := false, fecLock := false, delayValid := false }).ethCount l 19).ethRaise 1 l 0 1
        0).capLink l false)) ∧
  (∀ dt q s, let u := State.advance s dt
    let n := BitVec.toNat q
    has u.eth.relock n = true → u.ready (pdQ n) = true →
    let a := { u with eth := { u.eth with relock := u.eth.relock &&& ~~~(bitAt 4 n) } }
    exec (.quadReady dt q) s = .next (a.raise (src 7 10) n (u.quadMode n))) ∧
  (∀ dt lane s, let u := State.advance s dt
    let l := BitVec.toNat lane
    u.capRuns l = true → u.capMsDue l = true →
    exec (.captureIntervalOpen dt lane) s = .next (u.capRoll l)) ∧
  (∀ dt lane s, let u := State.advance s dt
    let l := BitVec.toNat lane
    u.capRuns l = true → u.capMsDue l = false → u.capLate l = true →
    exec (.captureIntervalTimeout dt lane) s = .next (u.capRoll l)) ∧
  (∀ dt lane s, let u := State.advance s dt
    let l := BitVec.toNat lane
    ∀ c t, (u.lane l).closed = c :: t → u.laneLive l = true →
    exec (.captureRootReady dt lane) s = .next (u.rootReady l c)) ∧
  (∀ dt lane s, let u := State.advance s dt
    let l := lane.toNat
    u.superDue l = true → u.laneLive l = true →
    exec (.captureSuperRoot dt lane) s = .next (u.superWrite l)) ∧
  (∀ dt lane s, let u := State.advance s dt
    let l := BitVec.toNat lane
    u.capRuns l = true → 0 < (u.lane l).lossCount → 0 < u.stageFree l →
    exec (.captureLossRecord dt lane) s = .next ((u.capRoll l).capLoss l)) ∧
  (∀ dt lane s, let u := State.advance s dt
    let l := BitVec.toNat lane
    let x := u.lane l
    u.capMayResume l = true → x.suspCount ≠ 0 →
    let a := ((u.modLane l fun y => { y with capSusp := false, suspCount := 0 }).capRoll l).capLoss l
    exec (.captureResume dt lane) s = .next ((a.capRecord l (taiWords x.suspAt ++
      [ebWord x.suspEb x.suspFlags, BitVec.ofNat 32 x.suspCount, x.suspCause.setWidth 32, capW6 l 1])).ethRaise 8 l))

/-- Gates, shapers, policers, sampling and committed departures (R259 to R280, R301 to R305): each event, where it takes
effect, leaves the state stated. -/
def Obligations.SchedulingEventsRun : Prop :=
  (∀ dt lane s, let u := State.advance s dt
    u.laneReady lane.toNat = true →
    exec (.gateEntryChange dt lane) s = .next (u.gateEval lane.toNat)) ∧
  (∀ dt lane s, let u := State.advance s dt
    let t := u.tlane (BitVec.toNat lane)
    t.swapPend = true → taiNat t.swapAt ≤ u.now16 → u.laneReady lane.toNat = true →
    exec (.gclSwap dt lane) s = .next (u.swapsDue false)) ∧
  (∀ dt s, let u := State.advance s dt
    u.ticks % 80 = 0 → exec (.shaperUpdate dt) s =
      .next ((List.range 128).foldl (fun x q => if x.laneReady (q / 8) then x.shape q else x) u)) ∧
  (∀ dt s, let u := State.advance s dt
    u.ready pdEngine = true → u.ticks % 80 = 0 →
    let go : Nat → Pol → Pol := fun i x => if i < 240 || u.svc.gateOpen then x.accrue (u.polCfg i) else x
    exec (.policerAccrue dt) s = .next { u with tmg := { u.tmg with p := Tab.mapIdx u.tmg.p go } }) ∧
  (∀ dt s, let u := State.advance s dt
    u.cfg.tmg.sampleEn = true → u.ready pdEngine = true → u.sampleDue = true →
    let a := { u with tmg := { u.tmg with lastMs := some u.msNow } }
    exec (.queueSample dt) s =
      .next ((List.range 128).foldl (fun x q => if x.laneReady (q / 8) then x.sampleQ q else x) a)) ∧
  (∀ dt lane s, let u := State.advance s dt
    let l := BitVec.toNat lane
    u.laneReady l = true →
    exec (.commitSlotCheck dt lane) s =
      .next (((u.tlane l).bookings.filter (u.slotLate l)).foldl (fun x b => x.missSlot l b) u)) ∧
  (∀ dt lane ps s, let u := State.advance s dt
    let l := BitVec.toNat lane
    ∀ f at_, (u.tlane l).wireFrame = some f → f.commit = some at_ → u.laneLive l = true →
    exec (.commitDecision dt lane ps) s = .next (u.commitDecide l f at_ ps))

/-- The time service (R281 to R312): each event, where it takes effect, leaves the state stated. -/
def Obligations.ServiceEventsRun : Prop :=
  (∀ dt lane phase r s, let u := State.advance s dt
    let l := BitVec.toNat lane
    u.svcHears l = true → (u.ptpIntake l r).2 = true → r.ptpType = 1 →
    let a := (u.ptpIntake l r).1
    (u.portCfg l).profile ≠ 2 ∨ a.holdsGrant l r.addr 2 = true →
    ∀ c b, a.noteClient l (u.ptpKind l) r r.spp.toNat = (some c, b) → c.grant = true ∨ (b.takeToken c).1 = true →
    let v := if c.grant then b else (b.takeToken c).2
    exec (.ptpDelayReq dt lane phase r) s =
      .next (v.sendAuth (u.portCfg l).auth r.spp.toNat (v.delayResp l (u.rxStamp l phase) r))) ∧
  (∀ dt lane r s, let u := State.advance s dt
    let l := BitVec.toNat lane
    u.svcHears l = true → (u.ptpIntake l r).2 = true → (u.portCfg l).profile = 2 → r.ptpType = 12 → r.requests ≠ [] →
    ∀ c b, (u.ptpIntake l r).1.noteClient l (u.ptpKind l) r r.spp.toNat = (some c, b) →
    (c.grant = true → exec (.ptpUnicastRequest dt lane r) s = .next (r.requests.foldl (fun x g => x.grantOne l r c g) b)) ∧
    (c.grant = false → (b.takeToken c).1 = true → exec (.ptpUnicastRequest dt lane r) s =
      .next (r.requests.foldl (fun x g => x.grantOne l r c g) (b.takeToken c).2)) ∧
    (∀ (x : State) (g : UniReq), g.ty ≤ 2 → grantPeriodOk g.ty g.period = false ∨ x.grantRateOk l c g = false →
      x.grantOne l r c g = x.grantDeny l r g) ∧
    (∀ (x : State) (g : UniReq), g.ty ≤ 2 → grantPeriodOk g.ty g.period = true → x.grantRateOk l c g = true →
      let dur := max 60 (min 1000 g.dur)
      let c1 := (x.svc.clients.find? fun y => y.idx == c.idx).getD c
      x.grantOne l r c g = (x.setClient (c1.grantFor g.ty (x.ticks + dur * sTicks) g.period)).sendAuth
        (x.portCfg l).auth r.spp.toNat (grantMsg l r g dur))) ∧
  (∀ dt lane r s, let u := State.advance s dt
    let l := BitVec.toNat lane
    u.svcHears l = true → (u.ptpIntake l r).2 = true → (u.portCfg l).profile = 2 → r.ptpType = 12 → r.cancels ≠ [] →
    exec (.ptpUnicastCancel dt lane r) s = .next (r.cancels.foldl (fun x ty => x.cancelOne l r ty) (u.ptpIntake l r).1) ∧
    (∀ (x : State) (ty : Nat), ty ≤ 2 → ∀ c, x.findClient l (x.ptpKind l) r.addr = some c →
      x.cancelOne l r ty = (x.setClient (c.ungrant ty)).sendAuth (x.portCfg l).auth r.spp.toNat
        { grantMsg l r ⟨ty, 0, 0⟩ 0 with kind := .cancelAck })) ∧
  (∀ dt lane phase r s, let u := State.advance s dt
    let l := BitVec.toNat lane
    u.svcHears l = true → has u.cfg.svc.ntpLanes l = true → (u.intake l r).2 = true → ntpOk r = true →
    r.ntpWhole = true →
    let q := (u.intake l r).1.noteClient l 1 r 0
    (∀ c, q.1 = some c → (q.2.takeToken c).1 = false →
      exec (.ntpRequest dt lane phase r) s = .next ((q.2.takeToken c).2.kodRate l r)) ∧
    ((∀ c, q.1 = some c → (q.2.takeToken c).1 = true) →
      let v := match q.1 with
        | some c => (q.2.takeToken c).2
        | none => q.2
      exec (.ntpRequest dt lane phase r) s = .next (v.sendSvc (v.ntpMsg l (u.rxStamp l phase) r .ntp) 2))) ∧
  (∀ dt lane phase r s, let u := State.advance s dt
    let l := BitVec.toNat lane
    u.svcHears l = true → has u.cfg.svc.ntsLanes l = true → (u.intake l r).2 = true → ntpOk r = true →
    ∀ q, r.nts = some q → u.ready pdCrypto = true →
    let a := (u.intake l r).1
    ∀ c b, a.noteClient l 2 r ((a.cookieOf (cookieKeyId q.cookie)).getD 0xFF) = (some c, b) → (b.takeToken c).1 = true →
    let v := (b.takeToken c).2
    (v.ntsKeys q = none → exec (.ntsRequest dt lane phase r) s = .next (v.ntsNak l r)) ∧
    (∀ i c2s s2c, v.ntsKeys q = some (i, c2s, s2c) →
      let w := { v with svc := { v.svc with cookies := Tab.mod v.svc.cookies i fun x => { x with uses := x.uses + 1 } } }
      exec (.ntsRequest dt lane phase r) s = .next
        (if q.verifies c2s then w.ntsAnswer l (u.rxStamp l phase) r q i c2s s2c else w.ntsNak l r))) ∧
  (∀ dt lane dst s, let u := State.advance s dt
    let k := BitVec.toNat lane
    let c := u.portCfg k
    u.mayServe k dst 1 = true → u.svc.gateOpen = true →
    let a := u.modPort k fun x => { x with syncSeq := x.syncSeq + 1 }
    (c.twoStep = true →
      exec (.ptpSyncInterval dt lane dst) s = .next (a.sendAuth c.auth c.spp.toNat (u.syncMsg k dst))) ∧
    (c.twoStep = false → c.auth = true →
      exec (.ptpSyncInterval dt lane dst) s = .next (a.commitMsg (u.syncMsg k dst) 0)) ∧
    (c.twoStep = false → c.auth = false →
      exec (.ptpSyncInterval dt lane dst) s = .next (a.sendSvc (u.syncMsg k dst) 1))) ∧
  (∀ dt lane s, let u := State.advance s dt
    let k := BitVec.toNat lane
    let c := u.portCfg k
    ∀ x r, (u.port k).sent = x :: r → u.mayServe k x.dst 1 = true → u.svc.gateOpen = true →
    let v := u.modPort k fun p => { p with sent := r }
    exec (.ptpFollowUp dt lane) s = .next (v.sendAuth c.auth c.spp.toNat
      { v.portMsg k .followUp x.dst x.seq x.eb.toNat with
        time := wholeNs x.time, cf := (taiFrac x.time).setWidth 64 })) ∧
  (∀ dt lane dst s, let u := State.advance s dt
    let k := BitVec.toNat lane
    let c := u.portCfg k
    u.mayServe k dst 0 = true → u.flt.safe = false → u.acd.state ≠ .safe →
    let m := u.announceMsg k dst
    let a := { u with svc := { u.svc with clockAcc := m.annAcc } }.modPort k fun x => { x with annSeq := x.annSeq + 1 }
    exec (.ptpAnnounceInterval dt lane dst) s = .next (a.sendAuth c.auth c.spp.toNat m)) ∧
  (∀ dt idx gType s, let u := State.advance s dt
    ∀ c, u.svc.clients.find? (fun c => c.idx == idx) = some c →
    (∃ g ∈ c.grantEnd, g.1 = BitVec.toNat gType ∧ g.2 ≤ u.ticks) →
    exec (.grantExpiry dt idx gType) s = .next (u.setClient (c.ungrant gType.toNat))) ∧
  (∀ dt spp s, let u := State.advance s dt
    let x := u.spp (BitVec.toNat spp)
    x.rollPending = true → taiNat x.rollAt ≤ u.now16 → u.ready pdEngine = true →
    exec (.keyRoll dt spp) s = .next (u.keyRoll spp.toNat)) ∧
  (∀ dt spp s, let u := State.advance s dt
    ∀ t, (u.spp (BitVec.toNat spp)).oldUntil = some t → t ≤ u.ticks →
    exec (.acceptOldExpiry dt spp) s = .next (u.dropOld spp.toNat)) ∧
  (∀ dt idx s, let u := State.advance s dt
    ∀ c, u.svc.clients.find? (fun c => c.idx == idx) = some c → c.grant = false →
    c.seenTick + u.cfg.svc.clientAgeS.toNat * sTicks ≤ u.ticks →
    exec (.clientAgeExpiry dt idx) s =
      .next { u with svc := { u.svc with clients := u.svc.clients.filter fun c => c.idx != idx } })

/-- The log, the key block's long operations and packets with unlisted opcodes (R41, R317 to R326, R334 to R355): each event,
where it takes effect, leaves the state stated. -/
def Obligations.LogKeyEventsRun : Prop :=
  (∀ dt s, let u := State.advance s dt
    u.sys.devState ≠ .boot → u.sys.inReset = false → u.secondArrives = true →
    let a := { u with log := { u.log with persistedThisSec := false, lastSec := some (u.now16 / sec16) } }
    exec (.logSecondTick dt none) s = .next (if a.ckDue then a.checkpoint false else a)) ∧
  (∀ dt r z s, let u := State.advance s dt
    u.log.signing = true →
    let a := { u with log := { u.log with signing := false, forcedSig := false } }
    let d := ((a.logSig 0x0A r).logSig 0x0B z).ckOrderly State.logPut
    let f := ((if u.log.forcedSig then d.irq (src 13 7) else d).logGap.logLevel State.logPut).drainWait
    exec (.logSignatureDone dt r z) s = .next (if f.log.ckWait ∧ f.log.signing = false then f.logRecover else f).settle) ∧
  (∀ dt s, let u := State.advance s dt
    (∀ o, u.key.busyOp = some o →
      exec (.keyOperationDone dt false) s = .next (u.keyResult .noResource o.op)) ∧
    (u.key.busyOp = some .epochUpdate →
      exec (.keyOperationDone dt true) s = .next ((u.commitEpoch.installKeyed).keyResult .ok 0x44)) ∧
    (∀ n, u.key.busyOp = some (.attest n) → exec (.keyOperationDone dt true) s = .next (u.attestDone n)) ∧
    (∀ d, u.key.busyOp = some (.provision d) → u.lc = .blank →
      exec (.keyOperationDone dt true) s = .next (u.provisionFirst d)) ∧
    (∀ d, u.key.busyOp = some (.provision d) → u.lc ≠ .blank →
      exec (.keyOperationDone dt true) s = .next u.provisionAgain) ∧
    (∀ t k r v, u.key.busyOp = some (.lcAdvance t k r v) →
      exec (.keyOperationDone dt true) s = .next (u.lcAdvanceDone t.toNat k r v)) ∧
    (∀ k r v, u.key.busyOp = some (.debugEnter k r v) →
      exec (.keyOperationDone dt true) s = .next (u.debugEnterDone k r v)) ∧
    (u.key.busyOp = some .debugExit → exec (.keyOperationDone dt true) s = .next u.debugExitDone)) ∧
  (∀ opcode p s, let u := State.arrive s (Packet.dt p)
    specOf (BitVec.toNat opcode) = none → u.canFetch opcode.toNat p = true →
    exec (.unlistedOpcode opcode p) s = .next ((u.fetched p).finish p opcode.toNat .badOpcode [] false))

/-- The pair (R366 to R382): each event, where it takes effect, leaves the state stated. -/
def Obligations.PairEventsRun : Prop :=
  (∀ dt e s, let u := State.advance s dt
    let k := BitVec.toNat e
    let ms := u.now16 / ms16
    let xs := (u.pcmp k).stamps.filter fun t => decide (t < ((ms * ms16 : Nat) : Int))
    let v := u.modPcmp k fun m => { m with
      stamps := m.stamps.filter fun t => !decide (t < ((ms * ms16 : Nat) : Int)), lastMs := some ms }
    (u.pcmp k).lastMs ≠ some ms →
    (xs = [] → exec (.pairCompareWindow dt e) s = .next v) ∧
    ((u.pcmpCfg k).en = true → u.ready pdPair = true → xs ≠ [] → u.own = true ∨ u.partnerDrives = true →
      exec (.pairCompareWindow dt e) s = .next (v.entryWindow k u.own xs))) ∧
  (∀ dt s, let u := State.advance s dt
    u.pair.roundTick + 4 * usTicks ≤ u.ticks ∨ u.pair.roundTick = 0 → u.claimNow ≠ 0 → u.pair.inRound = false →
    u.ready pdPair = true →
    exec (.claimRoundStart dt) s = .next { u with pair := { u.pair with
      inRound := true, roundTick := u.ticks, roundClaim := u.claimNow, lineEdgeTick := u.ticks
      lineEdgeSeen := true } }) ∧
  (∀ dt s, let u := State.advance s dt
    u.ready pdPair = true → u.pair.role ≠ .solo → u.pair.inRound = false →
    let v := { u with pair := { u.pair with lineEdgeTick := u.ticks, lineEdgeSeen := true } }
    exec (.claimSofDetect dt) s = .next { u with pair := { u.pair with
      inRound := true, roundTick := u.ticks, roundClaim := v.claimNow, lineEdgeTick := u.ticks
      lineEdgeSeen := true } }) ∧
  (∀ dt peer testLow endLow s, let u := State.advance s dt
    let p := u.pair
    p.inRound = true → u.ready pdPair = true → p.roundTick + roundTicks ≤ u.ticks →
    let t := u.lineBad (decide (p.roundClaim < peer)) testLow endLow
    (endLow = true → exec (.claimRoundEnd dt peer testLow endLow) s = .next ({ u with pair := { p with
      inRound := false, roundsVoid := p.roundsVoid + 1 } }.lineTest t)) ∧
    (let v := { u with pair := { p with inRound := false, rounds := p.rounds + 1, claim := p.roundClaim } }.lineTest t
     endLow = false →
     (has p.roundClaim 12 = true → peer < p.roundClaim →
        exec (.claimRoundEnd dt peer testLow endLow) s = .next v.handoverFails.roundWon) ∧
     (has peer 12 = true → p.roundClaim < peer →
        exec (.claimRoundEnd dt peer testLow endLow) s = .next v.roundLost) ∧
     (has peer 12 = false → has p.roundClaim 12 = false →
        exec (.claimRoundEnd dt peer testLow endLow) s = .next v))) ∧
  (∀ dt s, let u := State.advance s dt
    u.pair.hPending = true → u.pair.hTick ≤ u.ticks → u.ready pdPair = true →
    u.pair.hGain = true ∨ u.pair.handoverPending = false →
    let v := { u with pair := { u.pair with hPending := false } }.ownChange u.pair.hGain
    exec (.handoverInstant dt) s = .next { v with pair := { v.pair with hFailover := false } }) ∧
  (∀ dt s, let u := State.advance s dt
    u.pair.own = true → u.pair.role = .active → u.pair.leaseTick + 10 * usTicks ≤ u.ticks →
    let v := { u with pair := { u.pair with hPending := false, handoverPending := false } }.ownChange false
    exec (.ownLeaseLapse dt) s = .next (if u.pair.handoverPending then v.raise (src 12 7) else v)) ∧
  (∀ dt s, let u := State.advance s dt
    u.ready pdPair = true → u.pair.role = .active ∨ u.pair.role = .standby → u.pair.started = false →
    (u.pair.linkUp = true ∧ u.pair.peerSide = some (!u.fuse.pairSide)) ∨
      u.pair.readyTick + u.cfg.pair.linkWaitMs.toNat * msTicks ≤ u.ticks →
    exec (.pairFirstClaim dt) s = .next { u with pair := { u.pair with started := true } }) ∧
  (∀ dt b s, let u := (State.advance s dt).pairEval
    let k := BitVec.toNat b
    u.ready pdPair = true → k < 6 → has u.pair.raw k = true → has u.pair.health k = false →
    Tab.get u.pair.rawSince k 0 + u.cfg.pair.healthHoldMs.toNat * msTicks ≤ u.ticks →
    exec (.healthBitSet dt b) s =
      .next ({ u with pair := { u.pair with health := putBit u.pair.health k true } }.raise (src 12 10))) ∧
  (∀ dt s, let u := State.advance s dt
    u.ready pdPair = true → taiNat u.pair.handoverAt ≤ u.now16 →
    (u.pair.handoverPending = true → u.pair.incumbent = true →
      exec (.pairHandoverExecute dt) s = .next { u with pair := { u.pair with incumbent := false } }.roundNow) ∧
    (u.pair.handoverPending = false → u.pair.handoverIn = true →
      exec (.pairHandoverExecute dt) s =
        .next { u with pair := { u.pair with handoverIn := false, incumbent := true } }.roundNow)) ∧
  (∀ dt lane side s, let u := State.advance s dt
    u.ready pdPair = true → u.sys.devState ≠ .sleep →
    let v := { u with pair := { u.pair with
      linkUp := true, lanesUp := putBit u.pair.lanesUp (BitVec.toNat lane) true, peerSide := some side } }
    (u.pair.linkUp = false →
      exec (.benitLinkUp dt lane side) s = .next (v.raise (src 12 1)).sideCheck.benitSpare) ∧
    (u.pair.linkUp = true → exec (.benitLinkUp dt lane side) s = .next v.sideCheck)) ∧
  (∀ dt lane s, let u := State.advance s dt
    let m := putBit u.pair.lanesUp lane.toNat false
    u.ready pdPair = true → m ≠ u.pair.lanesUp → m ≠ 0 →
    exec (.benitLaneDown dt lane) s = .next (({ u with pair := { u.pair with lanesUp := m } }).benitSpare)) ∧
  (∀ dt s, let u := State.advance s dt
    u.pair.linkUp = true →
    let s1 := { u with pair := { u.pair with linkUp := false, lanesUp := 0, notices := [], handoverIn := false } }
    let s2 := (s1.raise (src 12 2)).faultAssert 229
    exec (.benitLinkLoss dt) s = .next ((s2.setSource 17 true (s2.slot 17).classLimit false).roundNow)) ∧
  (∀ dt s, let u := State.advance s dt
    u.pair.linkUp = true →
    let s1 := { u with pair := { u.pair with peerSafe := true, peerDev := 4, peerRole := 3 } }
    exec (.benitSafeNotice dt) s = .next (((s1.raise (src 12 3)).faultAssert 232).roundNow)) ∧
  (∀ dt target bad s, let u := State.advance s dt
    u.pair.linkUp = true → BitVec.toNat target < 20 →
    let v := { u with pair := { u.pair with outBad := putBit u.pair.outBad target.toNat bad } }
    (v.pair.outBad ≠ 0 → exec (.benitOutBadNotice dt target bad) s = .next (v.faultAssert 225).pairEval) ∧
    (v.pair.outBad = 0 → exec (.benitOutBadNotice dt target bad) s = .next (v.faultEnd 225))) ∧
  (∀ dt at_ s, let u := State.advance s dt
    u.pair.linkUp = true → u.pair.role = .standby →
    exec (.benitHandoverNotice dt at_) s = .next ({ u with pair := { u.pair with handoverIn := true, handoverAt := at_ } })) ∧
  (∀ dt s, let u := State.advance s dt
    u.pair.linkUp = true →
    exec (.benitRejoinNotice dt) s = .next ({ u with pair := { u.pair with peerSafe := false } })) ∧
  (∀ dt s, let u := State.advance s dt
    let ms := u.now16 / ms16
    u.ready pdPair = true → u.pair.linkUp = true → u.pair.sentMs ≠ some ms →
    exec (.benitTimingFrameSend dt) s = .next { u with pair := { u.pair with
      sentFrames := u.pair.sentFrames + 1, sentMs := some ms, sentFrame := some (u.peerFrame ms), notices := [] } }) ∧
  (∀ dt lane0 lane1 f s, let u := State.advance s dt
    u.ready pdPair = true → u.pair.linkUp = true →
    let x := u.x17Now lane0 lane1
    let v := { u with pair := { u.pair.mirror f u.ticks with x17 := BitVec.ofInt 64 x } }
    exec (.benitTimingFrame dt lane0 lane1 f) s =
      .next (((v.sideCheck.laneSkew lane0 lane1).digestCheck f.digest).refDeliver 17 x f.eb)) ∧
  (∀ dt bad s, let u := State.advance s dt
    u.ready pdPair = true → u.ready pdTic = true → u.pair.role = .standby ∨ u.pair.role = .active →
    (∀ t, u.pair.calTestTick = some t → t + 60 * sTicks ≤ u.ticks) →
    let v := { u with pair := { u.pair with
      calTestTick := some u.ticks
      cmp := Tab.mapIdx u.pair.cmp fun e m => if has bad e then m else { m with calBad := false } } }
    exec (.standbyCalTest dt bad) s =
      .next (((List.range 8).filter fun e => has bad e).foldl State.entryCalBad v).pairEval)

/-- Supplies, temperatures, mains, the keep and the calendar (R383 to R438): each event, where it takes effect, leaves the
state stated. -/
def Obligations.MonitorEventsRun : Prop :=
  (∀ dt mv s, exec (.supplySample dt mv) s = .next ((List.range 8).foldl (fun x r => match mv[r]? with
    | some v => x.supRead r v
    | none => x) (State.advance s dt))) ∧
  (∀ dt r s, let u := State.advance s dt
    let k := BitVec.toNat r
    Tab.get u.mon.supSince k 0 + msTicks ≤ u.ticks →
    (k ≠ 7 → exec (.supplyWarningChange dt r) s = .next (u.supWarnIs k (has u.mon.supOut k))) ∧
    (k = 7 →
      let low := u.supLow 7 (Tab.get u.mon.supMv 7 0)
      exec (.supplyWarningChange dt r) s = .next ((u.supWarnIs 7 (has u.mon.supOut 7 && !low)).vbatLowIs
        (has u.mon.supOut 7 && low)))) ∧
  (∀ dt t s, let v := (List.range 6).foldl (fun x c => match t[c]? with
      | some v => x.tempRead c v
      | none => x) (State.advance s dt)
    exec (.tempSample dt t) s = .next (((v.holdTemp).anchorTempStep.extTemp).junction)) ∧
  (∀ dt low s, let u := State.advance s dt
    exec (.pfwPinChange dt low) s = .next ((u.modMon fun m => { m with pfwPin := low }).pfwEval u.pfwClearOk)) ∧
  (∀ dt s, let u := State.advance s dt
    u.mon.pfw = true → u.pfwClearOk = true →
    u.mon.clearSince + u.cfg.mon.pfwClearMs.toNat * msTicks ≤ u.ticks →
    let v := ((u.modMon fun m => { m with pfw := false }).raise (src 14 1)).faultEnd 211
    exec (.pfwClear dt) s = .next ((List.range 16).foldl State.capResume
      { v with key := { v.key with pfwBlock := false } })) ∧
  (∀ dt uv s, let u := State.advance s dt
    let c := u.cfg.mon
    let v := u.mainsDv (BitVec.toNat uv)
    let rms : BitVec 16 := BitVec.ofNat 16 v
    let ok := decide (c.pfwClearV.toNat * 10 ≤ v) && !u.mon.gapOut && decide (0 < u.mon.crossings)
    let a := u.modMon fun m => { m with
      rmsDv := if m.mainsPresent then rms else 0, halfRms := rms, halfPrev := m.halfRms
      lowRms := decide (v < c.pfwLowV.toNat * 10), rmsClear := ok }
    exec (.mainsHalfCycle dt uv) s = .next
      ((if u.mon.mainsPresent then a.rangeEval v u.mon.freqMhz.toNat else a).pfwEval u.pfwClearOk)) ∧
  (∀ dt phase s, let u := State.advance s dt
    let n := min 2 (u.mon.crossings + 1)
    let x := u.tickPlace phase
    let per := if n = 2 then (x - u.mon.crossAt) / 65536 else 0
    let rms := if n = 2 then cycleRms u.mon.halfRms.toNat u.mon.halfPrev.toNat else 0
    let t := u.crossStamp phase
    let f := if per = 0 then 0 else 10 ^ 12 / per
    let a := u.modMon fun m => { m with
      crossings := n, lastCross := u.ticks, crossAt := x, gapOut := false, mainsPresent := m.mainsPresent || n = 2
      freqMhz := BitVec.ofNat 32 f, rmsDv := if n = 2 then m.halfRms else 0 }
    let b := a.mainsPush (taiWords t.time ++
      [ebWord t.eb (putBit t.flags 5 u.mon.mainsRange), BitVec.ofNat 32 per, word [(0, rms)]])
    exec (.mainsCrossing dt phase) s = .next (if n = 2 then b.rangeEval b.mon.rmsDv.toNat f else b)) ∧
  (∀ dt s, let u := State.advance s dt
    u.mon.gapOut = false → u.mon.lastCross + u.cfg.mon.pfwGapMs.toNat * msTicks ≤ u.ticks →
    let s1 := u.modMon fun m => { m with
      gapOut := true, mainsPresent := false, crossings := 0, rmsDv := 0, freqMhz := 0, rmsClear := false }
    exec (.mainsGapTimeout dt) s = .next ((s1.rangeEval 0 0).pfwEval u.pfwClearOk)) ∧
  (∀ dt s, let u := State.advance s dt
    u.mon.mainsRange = false →
    (∃ i, i < 3 ∧ has u.mon.rangeBad i = true ∧ Tab.get u.mon.rangeSince i 0 + sTicks ≤ u.ticks) →
    exec (.mainsRangeTimer dt) s =
      .next (((u.modMon fun m => { m with mainsRange := true }).raise (src 14 4)).faultAssert 212)) ∧
  (∀ dt s, let u := State.advance s dt
    let h := u.cfg.keep.scrubH.toNat
    h ≠ 0 → u.keep.scrubBusy = false → u.mon.pfw = false → u.keep.lastScrub + h * 3600 * sTicks ≤ u.ticks →
    exec (.keepAutoScrub dt) s = .next (u.scrubStart)) ∧
  (∀ dt r s, let u := State.advance s dt
    u.keep.scrubBusy = true →
    let v := r.failed.foldl State.spareFails (r.spared.foldl (fun (x : State) row => (x.keepRowFail row).1) u)
    let k := (v.keep.without r.lost).readCount r.corrected.toNat r.copies r.lost
    let w := { v with keep := { k with
      scrubBusy := false, scrubValid := true, scrubOk := !u.keep.scrubCut, scrubSeq := k.scrubSeq + 1
      scrubCorrected := r.corrected, scrubSpared := BitVec.ofNat 16 r.spared.length } }
    exec (.keepScrubDone dt r) s = .next ((w.keepUncorr r.lost).raise (src 14 16))) ∧
  (∀ dt s, let u := State.advance s dt
    u.calSyncing = true → u.ready pdTime = true → u.vbat.xtalOk = true → u.secondBegins = true →
    let sec := u.now16 / sec16
    let v := u.vbat
    let run := v.calValid && v.lastSyncS.toNat + 1 == sec
    let dev : Int := (u.calCount : Int) - (sec * 32768 : Nat)
    let ds := if run then (dev :: v.syncDevs).take 1024 else []
    let s1 := u.modVbat fun v => { v with
      seconds := BitVec.ofNat 48 sec, subsec := 0, calBase := u.calEdge, lastSyncS := BitVec.ofNat 48 sec
      syncRun := if run then v.syncRun + 1 else 0, syncDevs := ds
      calOffsetPpb := if ds.isEmpty then v.calOffsetPpb else BitVec.ofInt 32 (calOffsetOf ds) }
    exec (.calSync dt) s = .next (if v.calValid then s1 else (s1.calSetValid).raise (src 14 20))) ∧
  (∀ dt s, let u := State.advance s dt
    let c := u.cfg.cal
    c.autoTrim = true → 1024 ≤ u.vbat.syncRun →
    let t := max (-200000) (min 200000 (c.trimPpb.toInt - u.vbat.calOffsetPpb.toInt))
    let x : BitVec 24 := BitVec.ofInt 24 t
    let s1 := (u.calRebase).modVbat fun v => { v with syncRun := 0, syncDevs := [] }
    exec (.calAutoTrim dt) s = .next (if x = c.trimPpb then s1
      else
      let s2 := { s1 with cfg := { s1.cfg with cal := { c with trimPpb := x } } }
      let put : Keep → Keep := fun k => { k with image := k.image.map fun i => { i with cal := { i.cal with trimPpb := x } } }
      (s2.keepOwn put).raise (src 14 23))) ∧
  (∀ dt s, let u := State.advance s dt
    exec (.rtcStop dt) s = .next (((u.calRebase).modVbat fun v => { v with xtalOk := false }).calLost)) ∧
  (∀ dt s, let u := State.advance s dt
    exec (.pdVbatPowerLoss dt) s = .next ({ u.calLost with vbat := { Vbat.reset with calBase := u.ticks, tamperActive := u.vbat.tamperActive } }))
end

