-- ==== Sys2Proof/Laws/FrameFuse.lean ====
section
/-! SUPPORT. Frames of the fuses: for each operation of the machine that leaves the fuses and straps alone, the lemma that says so. What they
do not cover changes it. -/

namespace Sys2Proof.Machine

set_option linter.all false
set_option maxRecDepth 4000

open Host

theorem foldl_fuse {α : Type} (l : List α) (f : State → α → State) (h : ∀ s a, (f s a).fuse = s.fuse) (s : State) :
    (l.foldl f s).fuse = s.fuse := by
  induction l generalizing s with
  | nil => rfl
  | cons a l ih => rw [List.foldl_cons, ih, h]

theorem State.advance_fuse (s : State) (dt : Nat) :
    (State.advance s dt).fuse = s.fuse := by
  unfold State.advance
  repeat' (first | simp only [apply_ite State.fuse, apply_ite Prod.fst, apply_ite Prod.snd, apply_ite Done.st, ite_self, implies_true, forall_const, foldl_fuse, Done.ok, Done.err] | split)

theorem State.drawn_fuse (s : State) :
    (State.drawn s).fuse = s.fuse := by
  unfold State.drawn
  repeat' (first | simp only [apply_ite State.fuse, apply_ite Prod.fst, apply_ite Prod.snd, apply_ite Done.st, ite_self, implies_true, forall_const, foldl_fuse, Done.ok, Done.err] | split)

theorem State.irq_fuse (s : State) (src : Nat) :
    (State.irq s src).fuse = s.fuse := by
  unfold State.irq
  repeat' (first | simp only [apply_ite State.fuse, apply_ite Prod.fst, apply_ite Prod.snd, apply_ite Done.st, ite_self, implies_true, forall_const, foldl_fuse, Done.ok, Done.err] | split)

theorem State.latch_fuse (s : State) (m : BitVec 4) (addr : W32) (ws : List W32) :
    (State.latch s m addr ws).fuse = s.fuse := by
  unfold State.latch
  repeat' (first | simp only [apply_ite State.fuse, apply_ite Prod.fst, apply_ite Prod.snd, apply_ite Done.st, ite_self, implies_true, forall_const, foldl_fuse, Done.ok, Done.err] | split)

theorem State.headSlotWrite_fuse (s : State) (orderly : Bool) :
    (State.headSlotWrite s orderly).fuse = s.fuse := by
  unfold State.headSlotWrite
  repeat' (first | simp only [apply_ite State.fuse, apply_ite Prod.fst, apply_ite Prod.snd, apply_ite Done.st, ite_self, implies_true, forall_const, foldl_fuse, Done.ok, Done.err] | split)

theorem State.acqResume_fuse (s : State) :
    (State.acqResume s).fuse = s.fuse := by
  unfold State.acqResume
  repeat' (first | simp only [apply_ite State.fuse, apply_ite Prod.fst, apply_ite Prod.snd, apply_ite Done.st, ite_self, implies_true, forall_const, foldl_fuse, Done.ok, Done.err] | split)

theorem State.mirrorCopy_fuse (s : State) (e : LogEntry) :
    (State.mirrorCopy s e).fuse = s.fuse := by
  unfold State.mirrorCopy
  repeat' (first | simp only [apply_ite State.fuse, apply_ite Prod.fst, apply_ite Prod.snd, apply_ite Done.st, ite_self, implies_true, forall_const, foldl_fuse, State.irq_fuse, Done.ok, Done.err] | split)

theorem State.logRaw_fuse (s : State) (e0 : LogEntry) :
    (State.logRaw s e0).fuse = s.fuse := by
  unfold State.logRaw
  repeat' (first | simp only [apply_ite State.fuse, apply_ite Prod.fst, apply_ite Prod.snd, apply_ite Done.st, ite_self, implies_true, forall_const, foldl_fuse, State.headSlotWrite_fuse, State.mirrorCopy_fuse, Done.ok, Done.err] | split)

theorem State.logMiss_fuse (s : State) (e : LogEntry) :
    (State.logMiss s e).fuse = s.fuse := by
  unfold State.logMiss
  repeat' (first | simp only [apply_ite State.fuse, apply_ite Prod.fst, apply_ite Prod.snd, apply_ite Done.st, ite_self, implies_true, forall_const, foldl_fuse, Done.ok, Done.err] | split)

theorem State.latchQuiet_fuse (s : State) (n : Nat) (isB : Bool) (level : Bool) :
    (State.latchQuiet s n isB level).fuse = s.fuse := by
  unfold State.latchQuiet
  repeat' (first | simp only [apply_ite State.fuse, apply_ite Prod.fst, apply_ite Prod.snd, apply_ite Done.st, ite_self, implies_true, forall_const, foldl_fuse, State.irq_fuse, State.latch_fuse, Done.ok, Done.err] | split)

theorem State.persistHead_fuse (put : State → LogEntry → State) (h : ∀ s e, (put s e).fuse = s.fuse) (s : State) (o : Bool) :
    (s.persistHead put o).fuse = s.fuse := by
  unfold State.persistHead
  split <;> simp only [h, State.latchQuiet_fuse, State.irq_fuse, State.headSlotWrite_fuse]

theorem State.logSig_fuse (s : State) (typ : Nat) (v : BitVec 256) :
    (State.logSig s typ v).fuse = s.fuse := by
  unfold State.logSig
  repeat' (first | simp only [apply_ite State.fuse, apply_ite Prod.fst, apply_ite Prod.snd, apply_ite Done.st, ite_self, implies_true, forall_const, foldl_fuse, State.logMiss_fuse, State.logRaw_fuse, Done.ok, Done.err] | split)

theorem State.ckPersist_fuse (put : State → LogEntry → State) (h : ∀ s e, (put s e).fuse = s.fuse) (s : State) :
    (s.ckPersist put).fuse = s.fuse := by
  unfold State.ckPersist
  simp only [apply_ite State.fuse, State.persistHead_fuse put h, ite_self]

theorem State.ckUnsigned_fuse (s : State) (forced : Bool) :
    (State.ckUnsigned s forced).fuse = s.fuse := by
  unfold State.ckUnsigned
  repeat' (first | simp only [apply_ite State.fuse, apply_ite Prod.fst, apply_ite Prod.snd, apply_ite Done.st, ite_self, implies_true, forall_const, foldl_fuse, State.irq_fuse, State.logSig_fuse, Done.ok, Done.err] | split)

theorem State.ckEnter_fuse (s : State) (forced : Bool) :
    (State.ckEnter s forced).fuse = s.fuse := by
  unfold State.ckEnter
  repeat' (first | simp only [apply_ite State.fuse, apply_ite Prod.fst, apply_ite Prod.snd, apply_ite Done.st, ite_self, implies_true, forall_const, foldl_fuse, State.logRaw_fuse, Done.ok, Done.err] | split)

theorem State.ckOrderly_fuse (put : State → LogEntry → State) (h : ∀ s e, (put s e).fuse = s.fuse) (s : State) :
    (s.ckOrderly put).fuse = s.fuse := by
  unfold State.ckOrderly
  simp only [apply_ite State.fuse, State.persistHead_fuse put h, ite_self]

theorem State.ckWrite_fuse (put : State → LogEntry → State) (h : ∀ s e, (put s e).fuse = s.fuse) (s : State) (o : Bool) :
    (s.ckWrite put o).fuse = s.fuse := by
  unfold State.ckWrite
  simp only [apply_ite State.fuse, State.ckUnsigned_fuse, State.ckPersist_fuse put h, State.ckOrderly_fuse put h, State.ckEnter_fuse, ite_self]

theorem State.levelFault_fuse (put : State → LogEntry → State) (h : ∀ s e, (put s e).fuse = s.fuse) (s : State) (a b : BitVec 3) :
    (s.levelFault put a b).fuse = s.fuse := by
  unfold State.levelFault
  simp only [apply_ite State.fuse, h, State.latchQuiet_fuse, ite_self]

theorem State.levelFallback_fuse (s : State) (lvl : BitVec 3) :
    (State.levelFallback s lvl).fuse = s.fuse := by
  unfold State.levelFallback
  repeat' (first | simp only [apply_ite State.fuse, apply_ite Prod.fst, apply_ite Prod.snd, apply_ite Done.st, ite_self, implies_true, forall_const, foldl_fuse, State.irq_fuse, Done.ok, Done.err] | split)

theorem State.levelEntry_fuse (put : State → LogEntry → State) (h : ∀ s e, (put s e).fuse = s.fuse) (s : State) (a : BitVec 3) :
    (s.levelEntry put a).fuse = s.fuse := by
  unfold State.levelEntry
  simp only [apply_ite State.fuse, h, State.irq_fuse, ite_self]

theorem State.logLevel_fuse (put : State → LogEntry → State) (h : ∀ s e, (put s e).fuse = s.fuse) (s : State) :
    (s.logLevel put).fuse = s.fuse := by
  unfold State.logLevel
  simp only [apply_ite State.fuse, State.levelFallback_fuse, State.levelFault_fuse put h, State.levelEntry_fuse put h, ite_self]

theorem State.logPutN_fuse (n : Nat) : ∀ (s : State) (e : LogEntry), (s.logPutN n e).fuse = s.fuse := by
  induction n with
  | zero => intro s e; unfold State.logPutN; split <;> simp only [State.logRaw_fuse, State.logMiss_fuse]
  | succ n ih =>
    intro s e
    unfold State.logPutN
    simp only [apply_ite State.fuse, State.logMiss_fuse, State.ckWrite_fuse _ ih, State.logLevel_fuse _ ih, State.logRaw_fuse, ite_self]

theorem State.logPut_fuse (s : State) (e : LogEntry) : (s.logPut e).fuse = s.fuse := State.logPutN_fuse 6 s e

theorem State.checkpoint_fuse (s : State) (forced : Bool) : (s.checkpoint forced).fuse = s.fuse := by
  unfold State.checkpoint
  rw [State.logLevel_fuse _ (fun s e => State.logPut_fuse s e), State.ckWrite_fuse _ (fun s e => State.logPut_fuse s e)]

theorem State.raiseBy_fuse (s : State) (origin : Nat) (so : Nat) (subject : Nat) (value : Int) (old : Nat) (new : Nat) :
    (State.raiseBy s origin so subject value old new).fuse = s.fuse := by
  unfold State.raiseBy
  repeat' (first | simp only [apply_ite State.fuse, apply_ite Prod.fst, apply_ite Prod.snd, apply_ite Done.st, ite_self, implies_true, forall_const, foldl_fuse, State.irq_fuse, State.logPut_fuse, Done.ok, Done.err] | split)

theorem State.raise_fuse (s : State) (so : Nat) (subject : Nat) (value : Int) (old : Nat) (new : Nat) :
    (State.raise s so subject value old new).fuse = s.fuse := by
  unfold State.raise
  repeat' (first | simp only [apply_ite State.fuse, apply_ite Prod.fst, apply_ite Prod.snd, apply_ite Done.st, ite_self, implies_true, forall_const, foldl_fuse, State.raiseBy_fuse, Done.ok, Done.err] | split)

theorem State.refuseWrite_fuse (s : State) :
    (State.refuseWrite s).fuse = s.fuse := by
  unfold State.refuseWrite
  repeat' (first | simp only [apply_ite State.fuse, apply_ite Prod.fst, apply_ite Prod.snd, apply_ite Done.st, ite_self, implies_true, forall_const, foldl_fuse, State.irq_fuse, Done.ok, Done.err] | split)

theorem State.logGap_fuse (s : State) :
    (State.logGap s).fuse = s.fuse := by
  unfold State.logGap
  repeat' (first | simp only [apply_ite State.fuse, apply_ite Prod.fst, apply_ite Prod.snd, apply_ite Done.st, ite_self, implies_true, forall_const, foldl_fuse, State.logPut_fuse, State.raise_fuse, Done.ok, Done.err] | split)

theorem State.logRecover_fuse (s : State) :
    (State.logRecover s).fuse = s.fuse := by
  unfold State.logRecover
  repeat' (first | simp only [apply_ite State.fuse, apply_ite Prod.fst, apply_ite Prod.snd, apply_ite Done.st, ite_self, implies_true, forall_const, foldl_fuse, State.checkpoint_fuse, State.irq_fuse, State.logGap_fuse, Done.ok, Done.err] | split)

theorem State.useLsk_fuse (s : State) (epoch : BitVec 16) :
    (State.useLsk s epoch).fuse = s.fuse := by
  unfold State.useLsk
  repeat' (first | simp only [apply_ite State.fuse, apply_ite Prod.fst, apply_ite Prod.snd, apply_ite Done.st, ite_self, implies_true, forall_const, foldl_fuse, Done.ok, Done.err] | split)

theorem State.installLsk_fuse (s : State) (pub : BitVec 264) (epoch : BitVec 16) :
    (State.installLsk s pub epoch).fuse = s.fuse := by
  unfold State.installLsk
  repeat' (first | simp only [apply_ite State.fuse, apply_ite Prod.fst, apply_ite Prod.snd, apply_ite Done.st, ite_self, implies_true, forall_const, foldl_fuse, State.checkpoint_fuse, State.logPut_fuse, State.useLsk_fuse, Done.ok, Done.err] | split)

theorem State.svcCount_fuse (s : State) (lane : Nat) (i : Nat) (n : Nat) :
    (State.svcCount s lane i n).fuse = s.fuse := by
  unfold State.svcCount
  repeat' (first | simp only [apply_ite State.fuse, apply_ite Prod.fst, apply_ite Prod.snd, apply_ite Done.st, ite_self, implies_true, forall_const, foldl_fuse, Done.ok, Done.err] | split)

theorem State.svcRaise_fuse (s : State) (b : Nat) (lane : Nat) :
    (State.svcRaise s b lane).fuse = s.fuse := by
  unfold State.svcRaise
  repeat' (first | simp only [apply_ite State.fuse, apply_ite Prod.fst, apply_ite Prod.snd, apply_ite Done.st, ite_self, implies_true, forall_const, foldl_fuse, State.raise_fuse, Done.ok, Done.err] | split)

theorem State.withdrawLane_fuse (s : State) (l : Nat) :
    (State.withdrawLane s l).fuse = s.fuse := by
  unfold State.withdrawLane
  repeat' (first | simp only [apply_ite State.fuse, apply_ite Prod.fst, apply_ite Prod.snd, apply_ite Done.st, ite_self, implies_true, forall_const, foldl_fuse, State.svcCount_fuse, State.svcRaise_fuse, Done.ok, Done.err] | split)

theorem State.svcEval_fuse (s : State) :
    (State.svcEval s).fuse = s.fuse := by
  unfold State.svcEval
  repeat' (first | simp only [apply_ite State.fuse, apply_ite Prod.fst, apply_ite Prod.snd, apply_ite Done.st, ite_self, implies_true, forall_const, foldl_fuse, State.raise_fuse, State.withdrawLane_fuse, Done.ok, Done.err] | split)

theorem State.outRaise_fuse (s : State) (b : Nat) (target : Nat) (value : Int) :
    (State.outRaise s b target value).fuse = s.fuse := by
  unfold State.outRaise
  repeat' (first | simp only [apply_ite State.fuse, apply_ite Prod.fst, apply_ite Prod.snd, apply_ite Done.st, ite_self, implies_true, forall_const, foldl_fuse, State.raise_fuse, Done.ok, Done.err] | split)

theorem State.outResume_fuse (s : State) (n : Nat) :
    (State.outResume s n).fuse = s.fuse := by
  unfold State.outResume
  repeat' (first | simp only [apply_ite State.fuse, apply_ite Prod.fst, apply_ite Prod.snd, apply_ite Done.st, ite_self, implies_true, forall_const, foldl_fuse, State.outRaise_fuse, Done.ok, Done.err] | split)

theorem State.outEvalCh_fuse (s : State) (n : Nat) :
    (State.outEvalCh s n).fuse = s.fuse := by
  unfold State.outEvalCh
  repeat' (first | simp only [apply_ite State.fuse, apply_ite Prod.fst, apply_ite Prod.snd, apply_ite Done.st, ite_self, implies_true, forall_const, foldl_fuse, State.outRaise_fuse, State.outResume_fuse, Done.ok, Done.err] | split)

theorem State.outEvalTp_fuse (s : State) (m : Nat) :
    (State.outEvalTp s m).fuse = s.fuse := by
  unfold State.outEvalTp
  repeat' (first | simp only [apply_ite State.fuse, apply_ite Prod.fst, apply_ite Prod.snd, apply_ite Done.st, ite_self, implies_true, forall_const, foldl_fuse, State.outRaise_fuse, Done.ok, Done.err] | split)

theorem State.outEvalTod_fuse (s : State) (k : Nat) :
    (State.outEvalTod s k).fuse = s.fuse := by
  unfold State.outEvalTod
  repeat' (first | simp only [apply_ite State.fuse, apply_ite Prod.fst, apply_ite Prod.snd, apply_ite Done.st, ite_self, implies_true, forall_const, foldl_fuse, Done.ok, Done.err] | split)

theorem State.outEval_fuse (s : State) :
    (State.outEval s).fuse = s.fuse := by
  unfold State.outEval
  repeat' (first | simp only [apply_ite State.fuse, apply_ite Prod.fst, apply_ite Prod.snd, apply_ite Done.st, ite_self, implies_true, forall_const, foldl_fuse, State.outEvalCh_fuse, State.outEvalTod_fuse, State.outEvalTp_fuse, Done.ok, Done.err] | split)

theorem State.pairEval_fuse (s : State) :
    (State.pairEval s).fuse = s.fuse := by
  unfold State.pairEval
  repeat' (first | simp only [apply_ite State.fuse, apply_ite Prod.fst, apply_ite Prod.snd, apply_ite Done.st, ite_self, implies_true, forall_const, foldl_fuse, State.raise_fuse, Done.ok, Done.err] | split)

theorem State.react_fuse (s : State) :
    (State.react s).fuse = s.fuse := by
  unfold State.react
  repeat' (first | simp only [apply_ite State.fuse, apply_ite Prod.fst, apply_ite Prod.snd, apply_ite Done.st, ite_self, implies_true, forall_const, foldl_fuse, State.outEval_fuse, State.pairEval_fuse, State.svcEval_fuse, Done.ok, Done.err] | split)

theorem State.setRate_fuse (s : State) (f : BitVec 40) :
    (State.setRate s f).fuse = s.fuse := by
  unfold State.setRate
  repeat' (first | simp only [apply_ite State.fuse, apply_ite Prod.fst, apply_ite Prod.snd, apply_ite Done.st, ite_self, implies_true, forall_const, foldl_fuse, Done.ok, Done.err] | split)

theorem State.holdBegin_fuse (s : State) (t0 : Nat) (eb0 : Nat) (temp : Int) (dt : BitVec 16) :
    (State.holdBegin s t0 eb0 temp dt).fuse = s.fuse := by
  unfold State.holdBegin
  repeat' (first | simp only [apply_ite State.fuse, apply_ite Prod.fst, apply_ite Prod.snd, apply_ite Done.st, ite_self, implies_true, forall_const, foldl_fuse, Done.ok, Done.err] | split)

theorem State.holdStart_fuse (s : State) :
    (State.holdStart s).fuse = s.fuse := by
  unfold State.holdStart
  repeat' (first | simp only [apply_ite State.fuse, apply_ite Prod.fst, apply_ite Prod.snd, apply_ite Done.st, ite_self, implies_true, forall_const, foldl_fuse, State.holdBegin_fuse, Done.ok, Done.err] | split)

theorem State.holdFromWrite_fuse (s : State) :
    (State.holdFromWrite s).fuse = s.fuse := by
  unfold State.holdFromWrite
  repeat' (first | simp only [apply_ite State.fuse, apply_ite Prod.fst, apply_ite Prod.snd, apply_ite Done.st, ite_self, implies_true, forall_const, foldl_fuse, State.holdBegin_fuse, Done.ok, Done.err] | split)

theorem State.writeMark_fuse (s : State) :
    (State.writeMark s).fuse = s.fuse := by
  unfold State.writeMark
  repeat' (first | simp only [apply_ite State.fuse, apply_ite Prod.fst, apply_ite Prod.snd, apply_ite Done.st, ite_self, implies_true, forall_const, foldl_fuse, Done.ok, Done.err] | split)

theorem State.holdTemp_fuse (s : State) :
    (State.holdTemp s).fuse = s.fuse := by
  unfold State.holdTemp
  repeat' (first | simp only [apply_ite State.fuse, apply_ite Prod.fst, apply_ite Prod.snd, apply_ite Done.st, ite_self, implies_true, forall_const, foldl_fuse, Done.ok, Done.err] | split)

theorem State.setAccord_fuse (s : State) (t : AccordState) :
    (State.setAccord s t).fuse = s.fuse := by
  unfold State.setAccord
  repeat' (first | simp only [apply_ite State.fuse, apply_ite Prod.fst, apply_ite Prod.snd, apply_ite Done.st, ite_self, implies_true, forall_const, foldl_fuse, State.raise_fuse, State.react_fuse, Done.ok, Done.err] | split)

theorem State.timeSet_fuse (s : State) :
    (State.timeSet s).fuse = s.fuse := by
  unfold State.timeSet
  repeat' (first | simp only [apply_ite State.fuse, apply_ite Prod.fst, apply_ite Prod.snd, apply_ite Done.st, ite_self, implies_true, forall_const, foldl_fuse, Done.ok, Done.err] | split)

theorem State.seedAccord_fuse (s : State) (t : Tai) (eb : Nat) :
    (State.seedAccord s t eb).fuse = s.fuse := by
  unfold State.seedAccord
  repeat' (first | simp only [apply_ite State.fuse, apply_ite Prod.fst, apply_ite Prod.snd, apply_ite Done.st, ite_self, implies_true, forall_const, foldl_fuse, State.raise_fuse, State.react_fuse, State.setAccord_fuse, State.timeSet_fuse, Done.ok, Done.err] | split)

theorem State.enterDrydown_fuse (s : State) (lost : Bool) :
    (State.enterDrydown s lost).fuse = s.fuse := by
  unfold State.enterDrydown
  repeat' (first | simp only [apply_ite State.fuse, apply_ite Prod.fst, apply_ite Prod.snd, apply_ite Done.st, ite_self, implies_true, forall_const, foldl_fuse, State.holdFromWrite_fuse, State.holdStart_fuse, State.raise_fuse, State.setAccord_fuse, State.setRate_fuse, Done.ok, Done.err] | split)

theorem State.addStep_fuse (s : State) (x : Int) (source : Nat) (fresh : Bool) (op : Nat) :
    (State.addStep s x source fresh op).fuse = s.fuse := by
  unfold State.addStep
  repeat' (first | simp only [apply_ite State.fuse, apply_ite Prod.fst, apply_ite Prod.snd, apply_ite Done.st, ite_self, implies_true, forall_const, foldl_fuse, State.raise_fuse, Done.ok, Done.err] | split)

theorem State.startSteer_fuse (s : State) (going : Bool) :
    (State.startSteer s going).fuse = s.fuse := by
  unfold State.startSteer
  repeat' (first | simp only [apply_ite State.fuse, apply_ite Prod.fst, apply_ite Prod.snd, apply_ite Done.st, ite_self, implies_true, forall_const, foldl_fuse, State.writeMark_fuse, Done.ok, Done.err] | split)

theorem State.loopLoad_fuse (s : State) :
    (State.loopLoad s).fuse = s.fuse := by
  unfold State.loopLoad
  repeat' (first | simp only [apply_ite State.fuse, apply_ite Prod.fst, apply_ite Prod.snd, apply_ite Done.st, ite_self, implies_true, forall_const, foldl_fuse, Done.ok, Done.err] | split)

theorem State.applyStep_fuse (s : State) (n : Nat) :
    (State.applyStep s n).fuse = s.fuse := by
  unfold State.applyStep
  repeat' (first | simp only [apply_ite State.fuse, apply_ite Prod.fst, apply_ite Prod.snd, apply_ite Done.st, ite_self, implies_true, forall_const, foldl_fuse, Done.ok, Done.err] | split)

theorem State.setAccuracy_fuse (s : State) (eb : Nat) :
    (State.setAccuracy s eb).fuse = s.fuse := by
  unfold State.setAccuracy
  repeat' (first | simp only [apply_ite State.fuse, apply_ite Prod.fst, apply_ite Prod.snd, apply_ite Done.st, ite_self, implies_true, forall_const, foldl_fuse, Done.ok, Done.err] | split)

theorem State.ebNow_fuse (s : State) :
    (State.ebNow s).fuse = s.fuse := by
  unfold State.ebNow
  repeat' (first | simp only [apply_ite State.fuse, apply_ite Prod.fst, apply_ite Prod.snd, apply_ite Done.st, ite_self, implies_true, forall_const, foldl_fuse, Done.ok, Done.err] | split)

theorem State.publishEb_fuse (s : State) :
    (State.publishEb s).fuse = s.fuse := by
  unfold State.publishEb
  repeat' (first | simp only [apply_ite State.fuse, apply_ite Prod.fst, apply_ite Prod.snd, apply_ite Done.st, ite_self, implies_true, forall_const, foldl_fuse, State.ebNow_fuse, State.raise_fuse, State.react_fuse, State.setAccord_fuse, State.setAccuracy_fuse, Done.ok, Done.err] | split)

theorem State.calRebase_fuse (s : State) :
    (State.calRebase s).fuse = s.fuse := by
  unfold State.calRebase
  repeat' (first | simp only [apply_ite State.fuse, apply_ite Prod.fst, apply_ite Prod.snd, apply_ite Done.st, ite_self, implies_true, forall_const, foldl_fuse, Done.ok, Done.err] | split)

theorem State.ringPush_fuse (s : State) (n : Nat) (rec : List W32) :
    (State.ringPush s n rec).fuse = s.fuse := by
  unfold State.ringPush
  repeat' (first | simp only [apply_ite State.fuse, apply_ite Prod.fst, apply_ite Prod.snd, apply_ite Done.st, ite_self, implies_true, forall_const, foldl_fuse, Done.ok, Done.err] | split)

theorem State.ringFree_fuse (s : State) (n : Nat) (rec : List W32) :
    (State.ringFree s n rec).fuse = s.fuse := by
  unfold State.ringFree
  repeat' (first | simp only [apply_ite State.fuse, apply_ite Prod.fst, apply_ite Prod.snd, apply_ite Done.st, ite_self, implies_true, forall_const, foldl_fuse, Done.ok, Done.err] | split)

theorem State.completeTx_fuse (s : State) (lane : Nat) (status : Nat) (slot : Nat) (cookie : BitVec 16) (stamp : Option Stamp) :
    (State.completeTx s lane status slot cookie stamp).fuse = s.fuse := by
  unfold State.completeTx
  repeat' (first | simp only [apply_ite State.fuse, apply_ite Prod.fst, apply_ite Prod.snd, apply_ite Done.st, ite_self, implies_true, forall_const, foldl_fuse, Done.ok, Done.err] | split)

theorem State.flushHost_fuse (s : State) (lane : Nat) (fs : List TxFrame) :
    (State.flushHost s lane fs).fuse = s.fuse := by
  unfold State.flushHost
  repeat' (first | simp only [apply_ite State.fuse, apply_ite Prod.fst, apply_ite Prod.snd, apply_ite Done.st, ite_self, implies_true, forall_const, foldl_fuse, State.completeTx_fuse, Done.ok, Done.err] | split)

theorem State.emptyQueue_fuse (s : State) (q : Nat) (count : Bool) :
    (State.emptyQueue s q count).fuse = s.fuse := by
  unfold State.emptyQueue
  repeat' (first | simp only [apply_ite State.fuse, apply_ite Prod.fst, apply_ite Prod.snd, apply_ite Done.st, ite_self, implies_true, forall_const, foldl_fuse, State.flushHost_fuse, Done.ok, Done.err] | split)

theorem State.echoRelease_fuse (s : State) :
    (State.echoRelease s).fuse = s.fuse := by
  unfold State.echoRelease
  repeat' (first | simp only [apply_ite State.fuse, apply_ite Prod.fst, apply_ite Prod.snd, apply_ite Done.st, ite_self, implies_true, forall_const, foldl_fuse, Done.ok, Done.err] | split)

theorem State.echoAbort_fuse (s : State) :
    (State.echoAbort s).fuse = s.fuse := by
  unfold State.echoAbort
  repeat' (first | simp only [apply_ite State.fuse, apply_ite Prod.fst, apply_ite Prod.snd, apply_ite Done.st, ite_self, implies_true, forall_const, foldl_fuse, State.echoRelease_fuse, State.outRaise_fuse, Done.ok, Done.err] | split)

theorem State.tmgSafe_fuse (s : State) :
    (State.tmgSafe s).fuse = s.fuse := by
  unfold State.tmgSafe
  repeat' (first | simp only [apply_ite State.fuse, apply_ite Prod.fst, apply_ite Prod.snd, apply_ite Done.st, ite_self, implies_true, forall_const, foldl_fuse, State.emptyQueue_fuse, Done.ok, Done.err] | split)

theorem State.bistSram_fuse (s : State) :
    (State.bistSram s).fuse = s.fuse := by
  unfold State.bistSram
  repeat' (first | simp only [apply_ite State.fuse, apply_ite Prod.fst, apply_ite Prod.snd, apply_ite Done.st, ite_self, implies_true, forall_const, foldl_fuse, Done.ok, Done.err] | split)

theorem State.bistTic_fuse (s : State) :
    (State.bistTic s).fuse = s.fuse := by
  unfold State.bistTic
  repeat' (first | simp only [apply_ite State.fuse, apply_ite Prod.fst, apply_ite Prod.snd, apply_ite Done.st, ite_self, implies_true, forall_const, foldl_fuse, Done.ok, Done.err] | split)

theorem State.bistClears_fuse (s : State) (m : BitVec 6) :
    (State.bistClears s m).fuse = s.fuse := by
  unfold State.bistClears
  repeat' (first | simp only [apply_ite State.fuse, apply_ite Prod.fst, apply_ite Prod.snd, apply_ite Done.st, ite_self, implies_true, forall_const, foldl_fuse, State.bistSram_fuse, State.bistTic_fuse, State.loopLoad_fuse, Done.ok, Done.err] | split)

theorem State.bistAbort_fuse (s : State) :
    (State.bistAbort s).fuse = s.fuse := by
  unfold State.bistAbort
  repeat' (first | simp only [apply_ite State.fuse, apply_ite Prod.fst, apply_ite Prod.snd, apply_ite Done.st, ite_self, implies_true, forall_const, foldl_fuse, State.bistClears_fuse, State.drawn_fuse, State.raise_fuse, Done.ok, Done.err] | split)

theorem State.setRole_fuse (s : State) (r : PairRole) :
    (State.setRole s r).fuse = s.fuse := by
  unfold State.setRole
  repeat' (first | simp only [apply_ite State.fuse, apply_ite Prod.fst, apply_ite Prod.snd, apply_ite Done.st, ite_self, implies_true, forall_const, foldl_fuse, State.raise_fuse, Done.ok, Done.err] | split)

theorem State.pairSafe_fuse (s : State) (owned : Bool) :
    (State.pairSafe s owned).fuse = s.fuse := by
  unfold State.pairSafe
  repeat' (first | simp only [apply_ite State.fuse, apply_ite Prod.fst, apply_ite Prod.snd, apply_ite Done.st, ite_self, implies_true, forall_const, foldl_fuse, State.raise_fuse, State.setRole_fuse, Done.ok, Done.err] | split)

theorem State.setDev_fuse (s : State) (d : DevState) :
    (State.setDev s d).fuse = s.fuse := by
  unfold State.setDev
  repeat' (first | simp only [apply_ite State.fuse, apply_ite Prod.fst, apply_ite Prod.snd, apply_ite Done.st, ite_self, implies_true, forall_const, foldl_fuse, State.raise_fuse, Done.ok, Done.err] | split)

theorem State.accordSafe_fuse (s : State) :
    (State.accordSafe s).fuse = s.fuse := by
  unfold State.accordSafe
  repeat' (first | simp only [apply_ite State.fuse, apply_ite Prod.fst, apply_ite Prod.snd, apply_ite Done.st, ite_self, implies_true, forall_const, foldl_fuse, State.holdStart_fuse, State.setAccord_fuse, State.setRate_fuse, Done.ok, Done.err] | split)

theorem State.outSafeTold_fuse (old : State) (s : State) (n : Nat) :
    (State.outSafeTold old s n).fuse = s.fuse := by
  unfold State.outSafeTold
  repeat' (first | simp only [apply_ite State.fuse, apply_ite Prod.fst, apply_ite Prod.snd, apply_ite Done.st, ite_self, implies_true, forall_const, foldl_fuse, State.outRaise_fuse, Done.ok, Done.err] | split)

theorem State.safeEnter_fuse (s : State) (first : Nat) :
    (State.safeEnter s first).fuse = s.fuse := by
  unfold State.safeEnter
  repeat' (first | simp only [apply_ite State.fuse, apply_ite Prod.fst, apply_ite Prod.snd, apply_ite Done.st, ite_self, implies_true, forall_const, foldl_fuse, State.accordSafe_fuse, State.bistAbort_fuse, State.echoRelease_fuse, State.outRaise_fuse, State.outSafeTold_fuse, State.pairSafe_fuse, State.react_fuse, State.setDev_fuse, State.tmgSafe_fuse, Done.ok, Done.err] | split)

theorem State.faultEntry_fuse (s : State) (n : Nat) (cls : Nat) (injected : Bool) :
    (State.faultEntry s n cls injected).fuse = s.fuse := by
  unfold State.faultEntry
  repeat' (first | simp only [apply_ite State.fuse, apply_ite Prod.fst, apply_ite Prod.snd, apply_ite Done.st, ite_self, implies_true, forall_const, foldl_fuse, State.logPut_fuse, Done.ok, Done.err] | split)

theorem State.safeLine_fuse (s : State) (n : Nat) (injected : Bool) :
    (State.safeLine s n injected).fuse = s.fuse := by
  unfold State.safeLine
  repeat' (first | simp only [apply_ite State.fuse, apply_ite Prod.fst, apply_ite Prod.snd, apply_ite Done.st, ite_self, implies_true, forall_const, foldl_fuse, State.faultEntry_fuse, State.irq_fuse, State.safeEnter_fuse, Done.ok, Done.err] | split)

theorem State.faultAssert_fuse (s : State) (n : Nat) (injected : Bool) :
    (State.faultAssert s n injected).fuse = s.fuse := by
  unfold State.faultAssert
  repeat' (first | simp only [apply_ite State.fuse, apply_ite Prod.fst, apply_ite Prod.snd, apply_ite Done.st, ite_self, implies_true, forall_const, foldl_fuse, State.faultEntry_fuse, State.irq_fuse, State.pairEval_fuse, State.safeLine_fuse, Done.ok, Done.err] | split)

theorem State.faultEnd_fuse (s : State) (n : Nat) :
    (State.faultEnd s n).fuse = s.fuse := by
  unfold State.faultEnd
  repeat' (first | simp only [apply_ite State.fuse, apply_ite Prod.fst, apply_ite Prod.snd, apply_ite Done.st, ite_self, implies_true, forall_const, foldl_fuse, State.pairEval_fuse, Done.ok, Done.err] | split)

theorem State.keepReadOnly_fuse (s : State) :
    (State.keepReadOnly s).fuse = s.fuse := by
  unfold State.keepReadOnly
  repeat' (first | simp only [apply_ite State.fuse, apply_ite Prod.fst, apply_ite Prod.snd, apply_ite Done.st, ite_self, implies_true, forall_const, foldl_fuse, State.faultAssert_fuse, State.raise_fuse, Done.ok, Done.err] | split)

theorem State.keepSpareTold_fuse (s : State) :
    (State.keepSpareTold s).fuse = s.fuse := by
  unfold State.keepSpareTold
  repeat' (first | simp only [apply_ite State.fuse, apply_ite Prod.fst, apply_ite Prod.snd, apply_ite Done.st, ite_self, implies_true, forall_const, foldl_fuse, State.faultAssert_fuse, State.raise_fuse, Done.ok, Done.err] | split)

theorem State.keepRowFail_fuse (s : State) (row : BitVec 10) :
    (State.keepRowFail s row).1.fuse = s.fuse := by
  unfold State.keepRowFail
  repeat' (first | simp only [apply_ite State.fuse, apply_ite Prod.fst, apply_ite Prod.snd, apply_ite Done.st, ite_self, implies_true, forall_const, foldl_fuse, State.keepReadOnly_fuse, State.keepSpareTold_fuse, State.raise_fuse, Done.ok, Done.err] | split)

theorem State.keepWrite_fuse (s : State) (fail : Option (BitVec 10)) :
    (State.keepWrite s fail).1.fuse = s.fuse := by
  unfold State.keepWrite
  repeat' (first | simp only [apply_ite State.fuse, apply_ite Prod.fst, apply_ite Prod.snd, apply_ite Done.st, ite_self, implies_true, forall_const, foldl_fuse, State.keepRowFail_fuse, Done.ok, Done.err] | split)

theorem State.keepOwn_fuse (s : State) (f : Keep → Keep) :
    (State.keepOwn s f).fuse = s.fuse := by
  unfold State.keepOwn
  repeat' (first | simp only [apply_ite State.fuse, apply_ite Prod.fst, apply_ite Prod.snd, apply_ite Done.st, ite_self, implies_true, forall_const, foldl_fuse, Done.ok, Done.err] | split)

theorem State.keepUncorr_fuse (s : State) (rows : List (BitVec 10)) :
    (State.keepUncorr s rows).fuse = s.fuse := by
  unfold State.keepUncorr
  repeat' (first | simp only [apply_ite State.fuse, apply_ite Prod.fst, apply_ite Prod.snd, apply_ite Done.st, ite_self, implies_true, forall_const, foldl_fuse, State.faultAssert_fuse, State.raise_fuse, Done.ok, Done.err] | split)

theorem State.commitCsp_fuse (s : State) :
    (State.commitCsp s).fuse = s.fuse := by
  unfold State.commitCsp
  repeat' (first | simp only [apply_ite State.fuse, apply_ite Prod.fst, apply_ite Prod.snd, apply_ite Done.st, ite_self, implies_true, forall_const, foldl_fuse, Done.ok, Done.err] | split)

theorem State.released_fuse (s : State) :
    (State.released s).fuse = s.fuse := by
  unfold State.released
  repeat' (first | simp only [apply_ite State.fuse, apply_ite Prod.fst, apply_ite Prod.snd, apply_ite Done.st, ite_self, implies_true, forall_const, foldl_fuse, Done.ok, Done.err] | split)

theorem State.toReset_fuse (s : State) (cause : Nat) (cold : Bool) :
    (State.toReset s cause cold).fuse = s.fuse := by
  unfold State.toReset
  repeat' (first | simp only [apply_ite State.fuse, apply_ite Prod.fst, apply_ite Prod.snd, apply_ite Done.st, ite_self, implies_true, forall_const, foldl_fuse, State.released_fuse, Done.ok, Done.err] | split)

theorem State.settle_fuse (s : State) :
    (State.settle s).fuse = s.fuse := by
  unfold State.settle
  repeat' (first | simp only [apply_ite State.fuse, apply_ite Prod.fst, apply_ite Prod.snd, apply_ite Done.st, ite_self, implies_true, forall_const, foldl_fuse, State.logPut_fuse, State.persistHead_fuse, State.toReset_fuse, Done.ok, Done.err] | split)

theorem Done.ok_fuse (s : State) (payload : List W32) :
    (Done.ok s payload).st.fuse = s.fuse := by
  unfold Done.ok
  repeat' (first | simp only [apply_ite State.fuse, apply_ite Prod.fst, apply_ite Prod.snd, apply_ite Done.st, ite_self, implies_true, forall_const, foldl_fuse, Done.ok, Done.err] | split)

theorem Done.err_fuse (s : State) (x : Status) :
    (Done.err s x).st.fuse = s.fuse := by
  unfold Done.err
  repeat' (first | simp only [apply_ite State.fuse, apply_ite Prod.fst, apply_ite Prod.snd, apply_ite Done.st, ite_self, implies_true, forall_const, foldl_fuse, Done.ok, Done.err] | split)

theorem State.countStatus_fuse (s : State) (x : Status) (final : Bool) :
    (State.countStatus s x final).fuse = s.fuse := by
  unfold State.countStatus
  repeat' (first | simp only [apply_ite State.fuse, apply_ite Prod.fst, apply_ite Prod.snd, apply_ite Done.st, ite_self, implies_true, forall_const, foldl_fuse, Done.ok_fuse, State.irq_fuse, Done.ok, Done.err] | split)

theorem State.reply_fuse (s : State) (p : Packet) (opcode : Nat) (kind : Nat) (x : Status) (payload : List W32) (seq : BitVec 32) (frees : Bool) :
    (State.reply s p opcode kind x payload seq frees).fuse = s.fuse := by
  unfold State.reply
  repeat' (first | simp only [apply_ite State.fuse, apply_ite Prod.fst, apply_ite Prod.snd, apply_ite Done.st, ite_self, implies_true, forall_const, foldl_fuse, Done.ok_fuse, Done.ok, Done.err] | split)

theorem State.finish_fuse (s : State) (p : Packet) (opcode : Nat) (x : Status) (payload : List W32) (frees : Bool) :
    (State.finish s p opcode x payload frees).fuse = s.fuse := by
  unfold State.finish
  repeat' (first | simp only [apply_ite State.fuse, apply_ite Prod.fst, apply_ite Prod.snd, apply_ite Done.st, ite_self, implies_true, forall_const, foldl_fuse, State.countStatus_fuse, State.logPut_fuse, State.reply_fuse, Done.ok, Done.err] | split)

theorem State.countRefused_fuse (s : State) (p : Packet) :
    (State.countRefused s p).fuse = s.fuse := by
  unfold State.countRefused
  repeat' (first | simp only [apply_ite State.fuse, apply_ite Prod.fst, apply_ite Prod.snd, apply_ite Done.st, ite_self, implies_true, forall_const, foldl_fuse, Done.ok, Done.err] | split)

theorem State.enqueue_fuse (s : State) (p : Packet) (opcode : Nat) :
    (State.enqueue s p opcode).fuse = s.fuse := by
  unfold State.enqueue
  repeat' (first | simp only [apply_ite State.fuse, apply_ite Prod.fst, apply_ite Prod.snd, apply_ite Done.st, ite_self, implies_true, forall_const, foldl_fuse, State.countStatus_fuse, State.raise_fuse, State.reply_fuse, Done.ok, Done.err] | split)

theorem State.fetched_fuse (s : State) (p : Packet) :
    (State.fetched s p).fuse = s.fuse := by
  unfold State.fetched
  repeat' (first | simp only [apply_ite State.fuse, apply_ite Prod.fst, apply_ite Prod.snd, apply_ite Done.st, ite_self, implies_true, forall_const, foldl_fuse, State.irq_fuse, State.ringFree_fuse, Done.ok, Done.err] | split)

theorem State.fetchStall_fuse (s : State) (p : Packet) :
    (State.fetchStall s p).fuse = s.fuse := by
  unfold State.fetchStall
  repeat' (first | simp only [apply_ite State.fuse, apply_ite Prod.fst, apply_ite Prod.snd, apply_ite Done.st, ite_self, implies_true, forall_const, foldl_fuse, State.raise_fuse, Done.ok, Done.err] | split)

theorem answer_fuse (f : Packet → State → List W32) (p : Packet) (s : State) :
    (answer f p s).st.fuse = s.fuse := by
  unfold answer
  repeat' (first | simp only [apply_ite State.fuse, apply_ite Prod.fst, apply_ite Prod.snd, apply_ite Done.st, ite_self, implies_true, forall_const, foldl_fuse, Done.ok_fuse, Done.ok, Done.err] | split)

theorem State.modSlot_fuse (s : State) (n : Nat) (f : RefSlot → RefSlot) :
    (State.modSlot s n f).fuse = s.fuse := by
  unfold State.modSlot
  repeat' (first | simp only [apply_ite State.fuse, apply_ite Prod.fst, apply_ite Prod.snd, apply_ite Done.st, ite_self, implies_true, forall_const, foldl_fuse, Done.ok, Done.err] | split)

theorem State.refHist_fuse (s : State) (n : Nat) (b : Nat) (so : Option Nat) (value : Int) :
    (State.refHist s n b so value).fuse = s.fuse := by
  unfold State.refHist
  repeat' (first | simp only [apply_ite State.fuse, apply_ite Prod.fst, apply_ite Prod.snd, apply_ite Done.st, ite_self, implies_true, forall_const, foldl_fuse, State.modSlot_fuse, State.raise_fuse, Done.ok, Done.err] | split)

theorem State.cellUpdate_fuse (s : State) (a : Nat) (b : Nat) :
    (State.cellUpdate s a b).fuse = s.fuse := by
  unfold State.cellUpdate
  repeat' (first | simp only [apply_ite State.fuse, apply_ite Prod.fst, apply_ite Prod.snd, apply_ite Done.st, ite_self, implies_true, forall_const, foldl_fuse, Done.ok, Done.err] | split)

theorem State.cellsUpdate_fuse (s : State) (n : Nat) :
    (State.cellsUpdate s n).fuse = s.fuse := by
  unfold State.cellsUpdate
  repeat' (first | simp only [apply_ite State.fuse, apply_ite Prod.fst, apply_ite Prod.snd, apply_ite Done.st, ite_self, implies_true, forall_const, foldl_fuse, State.cellUpdate_fuse, Done.ok, Done.err] | split)

theorem State.cellsStale_fuse (s : State) (n : Nat) :
    (State.cellsStale s n).fuse = s.fuse := by
  unfold State.cellsStale
  repeat' (first | simp only [apply_ite State.fuse, apply_ite Prod.fst, apply_ite Prod.snd, apply_ite Done.st, ite_self, implies_true, forall_const, foldl_fuse, Done.ok, Done.err] | split)

theorem State.cellsSnap_fuse (s : State) :
    (State.cellsSnap s).fuse = s.fuse := by
  unfold State.cellsSnap
  repeat' (first | simp only [apply_ite State.fuse, apply_ite Prod.fst, apply_ite Prod.snd, apply_ite Done.st, ite_self, implies_true, forall_const, foldl_fuse, Done.ok, Done.err] | split)

theorem State.cellsReset_fuse (s : State) (n : Nat) :
    (State.cellsReset s n).fuse = s.fuse := by
  unfold State.cellsReset
  repeat' (first | simp only [apply_ite State.fuse, apply_ite Prod.fst, apply_ite Prod.snd, apply_ite Done.st, ite_self, implies_true, forall_const, foldl_fuse, Done.ok, Done.err] | split)

theorem State.majRefresh_fuse (s : State) :
    (State.majRefresh s).fuse = s.fuse := by
  unfold State.majRefresh
  repeat' (first | simp only [apply_ite State.fuse, apply_ite Prod.fst, apply_ite Prod.snd, apply_ite Done.st, ite_self, implies_true, forall_const, foldl_fuse, State.raise_fuse, Done.ok, Done.err] | split)

theorem State.qMove_fuse (s : State) (n : Nat) (t : QState) (so : Option Nat) :
    (State.qMove s n t so).fuse = s.fuse := by
  unfold State.qMove
  repeat' (first | simp only [apply_ite State.fuse, apply_ite Prod.fst, apply_ite Prod.snd, apply_ite Done.st, ite_self, implies_true, forall_const, foldl_fuse, State.modSlot_fuse, State.raise_fuse, Done.ok, Done.err] | split)

theorem State.refTimer_fuse (s : State) (n : Nat) (first : Bool) :
    (State.refTimer s n first).fuse = s.fuse := by
  unfold State.refTimer
  repeat' (first | simp only [apply_ite State.fuse, apply_ite Prod.fst, apply_ite Prod.snd, apply_ite Done.st, ite_self, implies_true, forall_const, foldl_fuse, State.modSlot_fuse, Done.ok, Done.err] | split)

theorem State.refTimerOff_fuse (s : State) (n : Nat) :
    (State.refTimerOff s n).fuse = s.fuse := by
  unfold State.refTimerOff
  repeat' (first | simp only [apply_ite State.fuse, apply_ite Prod.fst, apply_ite Prod.snd, apply_ite Done.st, ite_self, implies_true, forall_const, foldl_fuse, State.modSlot_fuse, Done.ok, Done.err] | split)

theorem State.servoHold_fuse (s : State) (n : Nat) :
    (State.servoHold s n).fuse = s.fuse := by
  unfold State.servoHold
  repeat' (first | simp only [apply_ite State.fuse, apply_ite Prod.fst, apply_ite Prod.snd, apply_ite Done.st, ite_self, implies_true, forall_const, foldl_fuse, State.holdStart_fuse, Done.ok, Done.err] | split)

theorem State.servoResume_fuse (s : State) (n : Nat) :
    (State.servoResume s n).fuse = s.fuse := by
  unfold State.servoResume
  repeat' (first | simp only [apply_ite State.fuse, apply_ite Prod.fst, apply_ite Prod.snd, apply_ite Done.st, ite_self, implies_true, forall_const, foldl_fuse, Done.ok, Done.err] | split)

theorem State.waitFault_fuse (s : State) (n : Nat) :
    (State.waitFault s n).fuse = s.fuse := by
  unfold State.waitFault
  repeat' (first | simp only [apply_ite State.fuse, apply_ite Prod.fst, apply_ite Prod.snd, apply_ite Done.st, ite_self, implies_true, forall_const, foldl_fuse, State.qMove_fuse, State.raise_fuse, State.refHist_fuse, State.refTimerOff_fuse, Done.ok, Done.err] | split)

theorem State.qualFault_fuse (s : State) (n : Nat) :
    (State.qualFault s n).fuse = s.fuse := by
  unfold State.qualFault
  repeat' (first | simp only [apply_ite State.fuse, apply_ite Prod.fst, apply_ite Prod.snd, apply_ite Done.st, ite_self, implies_true, forall_const, foldl_fuse, State.qMove_fuse, State.refTimer_fuse, State.servoHold_fuse, Done.ok, Done.err] | split)

theorem State.refJudge_fuse (s : State) (n : Nat) (arrived : Bool) :
    (State.refJudge s n arrived).fuse = s.fuse := by
  unfold State.refJudge
  repeat' (first | simp only [apply_ite State.fuse, apply_ite Prod.fst, apply_ite Prod.snd, apply_ite Done.st, ite_self, implies_true, forall_const, foldl_fuse, State.qMove_fuse, State.qualFault_fuse, State.refHist_fuse, State.refTimer_fuse, State.refTimerOff_fuse, State.servoResume_fuse, State.waitFault_fuse, Done.ok, Done.err] | split)

theorem State.setFaults_fuse (s : State) (n : Nat) (m : BitVec 8) (arrived : Bool) :
    (State.setFaults s n m arrived).fuse = s.fuse := by
  unfold State.setFaults
  repeat' (first | simp only [apply_ite State.fuse, apply_ite Prod.fst, apply_ite Prod.snd, apply_ite Done.st, ite_self, implies_true, forall_const, foldl_fuse, State.majRefresh_fuse, State.modSlot_fuse, State.refHist_fuse, State.refJudge_fuse, Done.ok, Done.err] | split)

theorem State.setSource_fuse (s : State) (n : Nat) (invalid : Bool) (limit : Bool) (arrived : Bool) :
    (State.setSource s n invalid limit arrived).fuse = s.fuse := by
  unfold State.setSource
  repeat' (first | simp only [apply_ite State.fuse, apply_ite Prod.fst, apply_ite Prod.snd, apply_ite Done.st, ite_self, implies_true, forall_const, foldl_fuse, State.cellsStale_fuse, State.modSlot_fuse, State.refHist_fuse, State.setFaults_fuse, Done.ok, Done.err] | split)

theorem State.refAbsent_fuse (s : State) (n : Nat) :
    (State.refAbsent s n).fuse = s.fuse := by
  unfold State.refAbsent
  repeat' (first | simp only [apply_ite State.fuse, apply_ite Prod.fst, apply_ite Prod.snd, apply_ite Done.st, ite_self, implies_true, forall_const, foldl_fuse, State.cellsReset_fuse, State.majRefresh_fuse, State.modSlot_fuse, State.refHist_fuse, Done.ok, Done.err] | split)

theorem State.refPresence_fuse (s : State) :
    (State.refPresence s).fuse = s.fuse := by
  unfold State.refPresence
  repeat' (first | simp only [apply_ite State.fuse, apply_ite Prod.fst, apply_ite Prod.snd, apply_ite Done.st, ite_self, implies_true, forall_const, foldl_fuse, State.refHist_fuse, Done.ok, Done.err] | split)

theorem State.refStart_fuse (s : State) :
    (State.refStart s).fuse = s.fuse := by
  unfold State.refStart
  repeat' (first | simp only [apply_ite State.fuse, apply_ite Prod.fst, apply_ite Prod.snd, apply_ite Done.st, ite_self, implies_true, forall_const, foldl_fuse, State.modSlot_fuse, State.refAbsent_fuse, State.refHist_fuse, Done.ok, Done.err] | split)

theorem State.macPoint_fuse (s : State) (f : Option Int) :
    (State.macPoint s f).fuse = s.fuse := by
  unfold State.macPoint
  repeat' (first | simp only [apply_ite State.fuse, apply_ite Prod.fst, apply_ite Prod.snd, apply_ite Done.st, ite_self, implies_true, forall_const, foldl_fuse, Done.ok, Done.err] | split)

theorem State.refMonitor_fuse (s : State) (n : Nat) (jump : Bool) :
    (State.refMonitor s n jump).fuse = s.fuse := by
  unfold State.refMonitor
  repeat' (first | simp only [apply_ite State.fuse, apply_ite Prod.fst, apply_ite Prod.snd, apply_ite Done.st, ite_self, implies_true, forall_const, foldl_fuse, State.macPoint_fuse, State.modSlot_fuse, State.refHist_fuse, State.setFaults_fuse, Done.ok, Done.err] | split)

theorem State.servoLoop_fuse (s : State) (ps : PSet) (tMs : Nat) (e : Int) :
    (State.servoLoop s ps tMs e).fuse = s.fuse := by
  unfold State.servoLoop
  repeat' (first | simp only [apply_ite State.fuse, apply_ite Prod.fst, apply_ite Prod.snd, apply_ite Done.st, ite_self, implies_true, forall_const, foldl_fuse, Done.ok, Done.err] | split)

theorem State.lockStep_fuse (s : State) (ps : PSet) (e : Int) :
    (State.lockStep s ps e).fuse = s.fuse := by
  unfold State.lockStep
  repeat' (first | simp only [apply_ite State.fuse, apply_ite Prod.fst, apply_ite Prod.snd, apply_ite Done.st, ite_self, implies_true, forall_const, foldl_fuse, State.loopLoad_fuse, State.setAccord_fuse, Done.ok, Done.err] | split)

theorem State.refResidual_fuse (s : State) (n : Nat) (x : Int) :
    (State.refResidual s n x).fuse = s.fuse := by
  unfold State.refResidual
  repeat' (first | simp only [apply_ite State.fuse, apply_ite Prod.fst, apply_ite Prod.snd, apply_ite Done.st, ite_self, implies_true, forall_const, foldl_fuse, State.lockStep_fuse, State.servoLoop_fuse, Done.ok, Done.err] | split)

theorem State.refUpdate_fuse (s : State) (n : Nat) (x : Int) :
    (State.refUpdate s n x).fuse = s.fuse := by
  unfold State.refUpdate
  repeat' (first | simp only [apply_ite State.fuse, apply_ite Prod.fst, apply_ite Prod.snd, apply_ite Done.st, ite_self, implies_true, forall_const, foldl_fuse, State.cellsStale_fuse, State.cellsUpdate_fuse, State.modSlot_fuse, State.refMonitor_fuse, State.refResidual_fuse, Done.ok, Done.err] | split)

theorem State.refDeliver_fuse (s : State) (n : Nat) (x : Int) (eSrc : BitVec 24) :
    (State.refDeliver s n x eSrc).fuse = s.fuse := by
  unfold State.refDeliver
  repeat' (first | simp only [apply_ite State.fuse, apply_ite Prod.fst, apply_ite Prod.snd, apply_ite Done.st, ite_self, implies_true, forall_const, foldl_fuse, State.modSlot_fuse, State.refUpdate_fuse, Done.ok, Done.err] | split)

theorem State.steerTo_fuse (s : State) (x : Int) (source : Nat) :
    (State.steerTo s x source).fuse = s.fuse := by
  unfold State.steerTo
  repeat' (first | simp only [apply_ite State.fuse, apply_ite Prod.fst, apply_ite Prod.snd, apply_ite Done.st, ite_self, implies_true, forall_const, foldl_fuse, State.addStep_fuse, State.holdBegin_fuse, State.setAccord_fuse, State.startSteer_fuse, Done.ok, Done.err] | split)

theorem State.switchEnd_fuse (s : State) :
    (State.switchEnd s).fuse = s.fuse := by
  unfold State.switchEnd
  repeat' (first | simp only [apply_ite State.fuse, apply_ite Prod.fst, apply_ite Prod.snd, apply_ite Done.st, ite_self, implies_true, forall_const, foldl_fuse, State.raise_fuse, Done.ok, Done.err] | split)

theorem State.startSwitch_fuse (s : State) (cur : Nat) (dst : Nat) :
    (State.startSwitch s cur dst).fuse = s.fuse := by
  unfold State.startSwitch
  repeat' (first | simp only [apply_ite State.fuse, apply_ite Prod.fst, apply_ite Prod.snd, apply_ite Done.st, ite_self, implies_true, forall_const, foldl_fuse, State.addStep_fuse, State.pairEval_fuse, State.raise_fuse, State.startSteer_fuse, State.steerTo_fuse, State.switchEnd_fuse, Done.ok, Done.err] | split)

theorem State.allLost_fuse (s : State) (cur : Nat) :
    (State.allLost s cur).fuse = s.fuse := by
  unfold State.allLost
  repeat' (first | simp only [apply_ite State.fuse, apply_ite Prod.fst, apply_ite Prod.snd, apply_ite Done.st, ite_self, implies_true, forall_const, foldl_fuse, State.enterDrydown_fuse, State.raise_fuse, Done.ok, Done.err] | split)

theorem State.refSelect_fuse (s : State) :
    (State.refSelect s).fuse = s.fuse := by
  unfold State.refSelect
  repeat' (first | simp only [apply_ite State.fuse, apply_ite Prod.fst, apply_ite Prod.snd, apply_ite Done.st, ite_self, implies_true, forall_const, foldl_fuse, State.allLost_fuse, State.raise_fuse, State.startSwitch_fuse, Done.ok, Done.err] | split)

theorem State.switchDone_fuse (s : State) :
    (State.switchDone s).fuse = s.fuse := by
  unfold State.switchDone
  repeat' (first | simp only [apply_ite State.fuse, apply_ite Prod.fst, apply_ite Prod.snd, apply_ite Done.st, ite_self, implies_true, forall_const, foldl_fuse, State.refSelect_fuse, State.switchEnd_fuse, Done.ok, Done.err] | split)

theorem State.setAcdCfg_fuse (s : State) (f : AcdCfg → AcdCfg) :
    (State.setAcdCfg s f).fuse = s.fuse := by
  unfold State.setAcdCfg
  repeat' (first | simp only [apply_ite State.fuse, apply_ite Prod.fst, apply_ite Prod.snd, apply_ite Done.st, ite_self, implies_true, forall_const, foldl_fuse, Done.ok, Done.err] | split)

theorem specAcdQueryTime_fuse (p : Packet) (s : State) :
    (specAcdQueryTime.body p s).st.fuse = s.fuse := by
  unfold specAcdQueryTime
  repeat' (first | simp only [apply_ite State.fuse, apply_ite Prod.fst, apply_ite Prod.snd, apply_ite Done.st, ite_self, implies_true, forall_const, foldl_fuse, answer, gnsBody, keyBody, pairBody, svcBody, ticBody, answer_fuse, Done.ok, Done.err] | split)

theorem specAcdQueryServo_fuse (p : Packet) (s : State) :
    (specAcdQueryServo.body p s).st.fuse = s.fuse := by
  unfold specAcdQueryServo
  repeat' (first | simp only [apply_ite State.fuse, apply_ite Prod.fst, apply_ite Prod.snd, apply_ite Done.st, ite_self, implies_true, forall_const, foldl_fuse, answer, gnsBody, keyBody, pairBody, svcBody, ticBody, answer_fuse, Done.ok, Done.err] | split)

theorem specAcdSetServo_fuse (p : Packet) (s : State) :
    (specAcdSetServo.body p s).st.fuse = s.fuse := by
  unfold specAcdSetServo
  repeat' (first | simp only [apply_ite State.fuse, apply_ite Prod.fst, apply_ite Prod.snd, apply_ite Done.st, ite_self, implies_true, forall_const, foldl_fuse, answer, gnsBody, keyBody, pairBody, svcBody, ticBody, Done.ok_fuse, State.loopLoad_fuse, State.setAcdCfg_fuse, Done.ok, Done.err] | split)

theorem specAcdSetStepPolicy_fuse (p : Packet) (s : State) :
    (specAcdSetStepPolicy.body p s).st.fuse = s.fuse := by
  unfold specAcdSetStepPolicy
  repeat' (first | simp only [apply_ite State.fuse, apply_ite Prod.fst, apply_ite Prod.snd, apply_ite Done.st, ite_self, implies_true, forall_const, foldl_fuse, answer, gnsBody, keyBody, pairBody, svcBody, ticBody, Done.ok_fuse, State.setAcdCfg_fuse, Done.ok, Done.err] | split)

theorem specAcdSetHold_fuse (p : Packet) (s : State) :
    (specAcdSetHold.body p s).st.fuse = s.fuse := by
  unfold specAcdSetHold
  repeat' (first | simp only [apply_ite State.fuse, apply_ite Prod.fst, apply_ite Prod.snd, apply_ite Done.st, ite_self, implies_true, forall_const, foldl_fuse, answer, gnsBody, keyBody, pairBody, svcBody, ticBody, Done.ok_fuse, State.react_fuse, State.setAcdCfg_fuse, Done.ok, Done.err] | split)

theorem specAcdSetOscModel_fuse (p : Packet) (s : State) :
    (specAcdSetOscModel.body p s).st.fuse = s.fuse := by
  unfold specAcdSetOscModel
  repeat' (first | simp only [apply_ite State.fuse, apply_ite Prod.fst, apply_ite Prod.snd, apply_ite Done.st, ite_self, implies_true, forall_const, foldl_fuse, answer, gnsBody, keyBody, pairBody, svcBody, ticBody, Done.ok_fuse, State.setAcdCfg_fuse, Done.ok, Done.err] | split)

theorem specAcdSetTime_fuse (p : Packet) (s : State) :
    (specAcdSetTime.body p s).st.fuse = s.fuse := by
  unfold specAcdSetTime
  repeat' (first | simp only [apply_ite State.fuse, apply_ite Prod.fst, apply_ite Prod.snd, apply_ite Done.st, ite_self, implies_true, forall_const, foldl_fuse, answer, gnsBody, keyBody, pairBody, svcBody, ticBody, Done.err_fuse, Done.ok_fuse, State.seedAccord_fuse, Done.ok, Done.err] | split)

theorem specAcdAdjustPhase_fuse (p : Packet) (s : State) :
    (specAcdAdjustPhase.body p s).st.fuse = s.fuse := by
  unfold specAcdAdjustPhase
  repeat' (first | simp only [apply_ite State.fuse, apply_ite Prod.fst, apply_ite Prod.snd, apply_ite Done.st, ite_self, implies_true, forall_const, foldl_fuse, answer, gnsBody, keyBody, pairBody, svcBody, ticBody, Done.err_fuse, Done.ok_fuse, State.addStep_fuse, State.switchDone_fuse, Done.ok, Done.err] | split)

theorem specAcdSetUtc_fuse (p : Packet) (s : State) :
    (specAcdSetUtc.body p s).st.fuse = s.fuse := by
  unfold specAcdSetUtc
  repeat' (first | simp only [apply_ite State.fuse, apply_ite Prod.fst, apply_ite Prod.snd, apply_ite Done.st, ite_self, implies_true, forall_const, foldl_fuse, answer, gnsBody, keyBody, pairBody, svcBody, ticBody, Done.ok_fuse, State.raise_fuse, State.setAcdCfg_fuse, Done.ok, Done.err] | split)

theorem specAcdSetCpllSource_fuse (p : Packet) (s : State) :
    (specAcdSetCpllSource.body p s).st.fuse = s.fuse := by
  unfold specAcdSetCpllSource
  repeat' (first | simp only [apply_ite State.fuse, apply_ite Prod.fst, apply_ite Prod.snd, apply_ite Done.st, ite_self, implies_true, forall_const, foldl_fuse, answer, gnsBody, keyBody, pairBody, svcBody, ticBody, Done.err_fuse, Done.ok_fuse, State.setAcdCfg_fuse, Done.ok, Done.err] | split)

theorem specAcdEnterDrydown_fuse (p : Packet) (s : State) :
    (specAcdEnterDrydown.body p s).st.fuse = s.fuse := by
  unfold specAcdEnterDrydown
  repeat' (first | simp only [apply_ite State.fuse, apply_ite Prod.fst, apply_ite Prod.snd, apply_ite Done.st, ite_self, implies_true, forall_const, foldl_fuse, answer, gnsBody, keyBody, pairBody, svcBody, ticBody, Done.err_fuse, Done.ok_fuse, State.enterDrydown_fuse, Done.ok, Done.err] | split)

theorem specAcdSetMaceration_fuse (p : Packet) (s : State) :
    (specAcdSetMaceration.body p s).st.fuse = s.fuse := by
  unfold specAcdSetMaceration
  repeat' (first | simp only [apply_ite State.fuse, apply_ite Prod.fst, apply_ite Prod.snd, apply_ite Done.st, ite_self, implies_true, forall_const, foldl_fuse, answer, gnsBody, keyBody, pairBody, svcBody, ticBody, Done.ok_fuse, State.setAcdCfg_fuse, Done.ok, Done.err] | split)

theorem State.steerWrite_fuse (s : State) (v : Int) :
    (State.steerWrite s v).fuse = s.fuse := by
  unfold State.steerWrite
  repeat' (first | simp only [apply_ite State.fuse, apply_ite Prod.fst, apply_ite Prod.snd, apply_ite Done.st, ite_self, implies_true, forall_const, foldl_fuse, State.faultAssert_fuse, State.raise_fuse, State.setRate_fuse, State.writeMark_fuse, Done.ok, Done.err] | split)

theorem State.cpllLost_fuse (s : State) (gone : Bool) :
    (State.cpllLost s gone).fuse = s.fuse := by
  unfold State.cpllLost
  repeat' (first | simp only [apply_ite State.fuse, apply_ite Prod.fst, apply_ite Prod.snd, apply_ite Done.st, ite_self, implies_true, forall_const, foldl_fuse, State.faultAssert_fuse, Done.ok, Done.err] | split)

theorem State.leapNow_fuse (s : State) :
    (State.leapNow s).fuse = s.fuse := by
  unfold State.leapNow
  repeat' (first | simp only [apply_ite State.fuse, apply_ite Prod.fst, apply_ite Prod.snd, apply_ite Done.st, ite_self, implies_true, forall_const, foldl_fuse, State.commitCsp_fuse, State.keepWrite_fuse, State.raise_fuse, State.setAcdCfg_fuse, Done.ok, Done.err] | split)

theorem State.modTrk_fuse (s : State) (k : Nat) (f : GnsTrk → GnsTrk) :
    (State.modTrk s k f).fuse = s.fuse := by
  unfold State.modTrk
  repeat' (first | simp only [apply_ite State.fuse, apply_ite Prod.fst, apply_ite Prod.snd, apply_ite Done.st, ite_self, implies_true, forall_const, foldl_fuse, Done.ok, Done.err] | split)

theorem State.setGnsCfg_fuse (s : State) (f : GnsCfg → GnsCfg) :
    (State.setGnsCfg s f).fuse = s.fuse := by
  unfold State.setGnsCfg
  repeat' (first | simp only [apply_ite State.fuse, apply_ite Prod.fst, apply_ite Prod.snd, apply_ite Done.st, ite_self, implies_true, forall_const, foldl_fuse, Done.ok, Done.err] | split)

theorem State.gnsHist_fuse (s : State) (b : Nat) :
    (State.gnsHist s b).fuse = s.fuse := by
  unfold State.gnsHist
  repeat' (first | simp only [apply_ite State.fuse, apply_ite Prod.fst, apply_ite Prod.snd, apply_ite Done.st, ite_self, implies_true, forall_const, foldl_fuse, Done.ok, Done.err] | split)

theorem State.samples_fuse (s : State) (n : Nat) :
    (State.samples s n).fuse = s.fuse := by
  unfold State.samples
  repeat' (first | simp only [apply_ite State.fuse, apply_ite Prod.fst, apply_ite Prod.snd, apply_ite Done.st, ite_self, implies_true, forall_const, foldl_fuse, Done.ok, Done.err] | split)

theorem State.notchesOn_fuse (s : State) :
    (State.notchesOn s).fuse = s.fuse := by
  unfold State.notchesOn
  repeat' (first | simp only [apply_ite State.fuse, apply_ite Prod.fst, apply_ite Prod.snd, apply_ite Done.st, ite_self, implies_true, forall_const, foldl_fuse, Done.ok, Done.err] | split)

theorem State.mapBank_fuse (s : State) (i : Nat) (t : BitVec 7) :
    (State.mapBank s i t).fuse = s.fuse := by
  unfold State.mapBank
  repeat' (first | simp only [apply_ite State.fuse, apply_ite Prod.fst, apply_ite Prod.snd, apply_ite Done.st, ite_self, implies_true, forall_const, foldl_fuse, State.setGnsCfg_fuse, Done.ok, Done.err] | split)

theorem State.mapKeep_fuse (s : State) :
    (State.mapKeep s).fuse = s.fuse := by
  unfold State.mapKeep
  repeat' (first | simp only [apply_ite State.fuse, apply_ite Prod.fst, apply_ite Prod.snd, apply_ite Done.st, ite_self, implies_true, forall_const, foldl_fuse, State.keepOwn_fuse, Done.ok, Done.err] | split)

theorem State.bankPool_fuse (s : State) (before : Nat) :
    (State.bankPool s before).fuse = s.fuse := by
  unfold State.bankPool
  repeat' (first | simp only [apply_ite State.fuse, apply_ite Prod.fst, apply_ite Prod.snd, apply_ite Done.st, ite_self, implies_true, forall_const, foldl_fuse, State.raise_fuse, Done.ok, Done.err] | split)

theorem State.bankFailed_fuse (s : State) (b : Nat) :
    (State.bankFailed s b).fuse = s.fuse := by
  unfold State.bankFailed
  repeat' (first | simp only [apply_ite State.fuse, apply_ite Prod.fst, apply_ite Prod.snd, apply_ite Done.st, ite_self, implies_true, forall_const, foldl_fuse, State.bankPool_fuse, State.faultAssert_fuse, State.gnsHist_fuse, State.mapBank_fuse, State.mapKeep_fuse, State.raise_fuse, Done.ok, Done.err] | split)

theorem State.spareFailed_fuse (s : State) (i : Nat) :
    (State.spareFailed s i).fuse = s.fuse := by
  unfold State.spareFailed
  repeat' (first | simp only [apply_ite State.fuse, apply_ite Prod.fst, apply_ite Prod.snd, apply_ite Done.st, ite_self, implies_true, forall_const, foldl_fuse, State.mapBank_fuse, State.mapKeep_fuse, State.raise_fuse, Done.ok, Done.err] | split)

theorem State.bankTest_fuse (s : State) (banks : BitVec 72) :
    (State.bankTest s banks).fuse = s.fuse := by
  unfold State.bankTest
  repeat' (first | simp only [apply_ite State.fuse, apply_ite Prod.fst, apply_ite Prod.snd, apply_ite Done.st, ite_self, implies_true, forall_const, foldl_fuse, State.bankFailed_fuse, State.spareFailed_fuse, Done.ok, Done.err] | split)

theorem State.gnsEval_fuse (s : State) :
    (State.gnsEval s).fuse = s.fuse := by
  unfold State.gnsEval
  repeat' (first | simp only [apply_ite State.fuse, apply_ite Prod.fst, apply_ite Prod.snd, apply_ite Done.st, ite_self, implies_true, forall_const, foldl_fuse, State.setSource_fuse, Done.ok, Done.err] | split)

theorem State.anchorTake_fuse (s : State) :
    (State.anchorTake s).fuse = s.fuse := by
  unfold State.anchorTake
  repeat' (first | simp only [apply_ite State.fuse, apply_ite Prod.fst, apply_ite Prod.snd, apply_ite Done.st, ite_self, implies_true, forall_const, foldl_fuse, Done.ok, Done.err] | split)

theorem State.anchorMove_fuse (s : State) :
    (State.anchorMove s).fuse = s.fuse := by
  unfold State.anchorMove
  repeat' (first | simp only [apply_ite State.fuse, apply_ite Prod.fst, apply_ite Prod.snd, apply_ite Done.st, ite_self, implies_true, forall_const, foldl_fuse, State.anchorTake_fuse, State.raise_fuse, Done.ok, Done.err] | split)

theorem State.anchorByHand_fuse (s : State) :
    (State.anchorByHand s).fuse = s.fuse := by
  unfold State.anchorByHand
  repeat' (first | simp only [apply_ite State.fuse, apply_ite Prod.fst, apply_ite Prod.snd, apply_ite Done.st, ite_self, implies_true, forall_const, foldl_fuse, State.anchorMove_fuse, Done.ok, Done.err] | split)

theorem State.anchorTempStep_fuse (s : State) :
    (State.anchorTempStep s).fuse = s.fuse := by
  unfold State.anchorTempStep
  repeat' (first | simp only [apply_ite State.fuse, apply_ite Prod.fst, apply_ite Prod.snd, apply_ite Done.st, ite_self, implies_true, forall_const, foldl_fuse, Done.ok, Done.err] | split)

theorem State.spoofBegins_fuse (s : State) (b : Nat) :
    (State.spoofBegins s b).fuse = s.fuse := by
  unfold State.spoofBegins
  repeat' (first | simp only [apply_ite State.fuse, apply_ite Prod.fst, apply_ite Prod.snd, apply_ite Done.st, ite_self, implies_true, forall_const, foldl_fuse, State.gnsHist_fuse, State.raise_fuse, Done.ok, Done.err] | split)

theorem State.crossCheck_fuse (s : State) :
    (State.crossCheck s).fuse = s.fuse := by
  unfold State.crossCheck
  repeat' (first | simp only [apply_ite State.fuse, apply_ite Prod.fst, apply_ite Prod.snd, apply_ite Done.st, ite_self, implies_true, forall_const, foldl_fuse, State.spoofBegins_fuse, Done.ok, Done.err] | split)

theorem State.anchorStep_fuse (s : State) :
    (State.anchorStep s).fuse = s.fuse := by
  unfold State.anchorStep
  repeat' (first | simp only [apply_ite State.fuse, apply_ite Prod.fst, apply_ite Prod.snd, apply_ite Done.st, ite_self, implies_true, forall_const, foldl_fuse, State.anchorMove_fuse, State.anchorTake_fuse, Done.ok, Done.err] | split)

theorem State.spoofEb_fuse (s : State) (began : Bool) (sel : Bool) :
    (State.spoofEb s began sel).fuse = s.fuse := by
  unfold State.spoofEb
  repeat' (first | simp only [apply_ite State.fuse, apply_ite Prod.fst, apply_ite Prod.snd, apply_ite Done.st, ite_self, implies_true, forall_const, foldl_fuse, Done.ok, Done.err] | split)

theorem State.modTch_fuse (s : State) (n : Nat) (f : TicCh → TicCh) :
    (State.modTch s n f).fuse = s.fuse := by
  unfold State.modTch
  repeat' (first | simp only [apply_ite State.fuse, apply_ite Prod.fst, apply_ite Prod.snd, apply_ite Done.st, ite_self, implies_true, forall_const, foldl_fuse, Done.ok, Done.err] | split)

theorem State.modConv_fuse (s : State) (c : Nat) (f : TicConv → TicConv) :
    (State.modConv s c f).fuse = s.fuse := by
  unfold State.modConv
  repeat' (first | simp only [apply_ite State.fuse, apply_ite Prod.fst, apply_ite Prod.snd, apply_ite Done.st, ite_self, implies_true, forall_const, foldl_fuse, Done.ok, Done.err] | split)

theorem State.modSpare_fuse (s : State) (i : Nat) (f : TicSpare → TicSpare) :
    (State.modSpare s i f).fuse = s.fuse := by
  unfold State.modSpare
  repeat' (first | simp only [apply_ite State.fuse, apply_ite Prod.fst, apply_ite Prod.snd, apply_ite Done.st, ite_self, implies_true, forall_const, foldl_fuse, Done.ok, Done.err] | split)

theorem State.ticRaise_fuse (s : State) (b : Nat) (ch : Nat) (value : Int) :
    (State.ticRaise s b ch value).fuse = s.fuse := by
  unfold State.ticRaise
  repeat' (first | simp only [apply_ite State.fuse, apply_ite Prod.fst, apply_ite Prod.snd, apply_ite Done.st, ite_self, implies_true, forall_const, foldl_fuse, State.raise_fuse, Done.ok, Done.err] | split)

theorem State.ticEnqueue_fuse (s : State) (n : Nat) (rec : List W32) :
    (State.ticEnqueue s n rec).fuse = s.fuse := by
  unfold State.ticEnqueue
  repeat' (first | simp only [apply_ite State.fuse, apply_ite Prod.fst, apply_ite Prod.snd, apply_ite Done.st, ite_self, implies_true, forall_const, foldl_fuse, State.modTch_fuse, State.ticRaise_fuse, Done.ok, Done.err] | split)

theorem State.ticMark_fuse (s : State) (n : Nat) (code : Nat) (arg : Nat) (arg2 : W32) :
    (State.ticMark s n code arg arg2).fuse = s.fuse := by
  unfold State.ticMark
  repeat' (first | simp only [apply_ite State.fuse, apply_ite Prod.fst, apply_ite Prod.snd, apply_ite Done.st, ite_self, implies_true, forall_const, foldl_fuse, State.ticEnqueue_fuse, Done.ok, Done.err] | split)

theorem State.ticPush_fuse (s : State) (n : Nat) (rec : List W32) :
    (State.ticPush s n rec).fuse = s.fuse := by
  unfold State.ticPush
  repeat' (first | simp only [apply_ite State.fuse, apply_ite Prod.fst, apply_ite Prod.snd, apply_ite Done.st, ite_self, implies_true, forall_const, foldl_fuse, State.modTch_fuse, State.ticEnqueue_fuse, State.ticRaise_fuse, Done.ok, Done.err] | split)

theorem State.ivWrite_fuse (s : State) (n : Nat) (a : TicArm) (r : IvResult) (b : Nat) :
    (State.ivWrite s n a r b).fuse = s.fuse := by
  unfold State.ivWrite
  repeat' (first | simp only [apply_ite State.fuse, apply_ite Prod.fst, apply_ite Prod.snd, apply_ite Done.st, ite_self, implies_true, forall_const, foldl_fuse, State.modTch_fuse, State.ticRaise_fuse, Done.ok, Done.err] | split)

theorem State.ivDone_fuse (s : State) (n : Nat) (a : TicArm) (x : IvEdge) (y : IvEdge) :
    (State.ivDone s n a x y).fuse = s.fuse := by
  unfold State.ivDone
  repeat' (first | simp only [apply_ite State.fuse, apply_ite Prod.fst, apply_ite Prod.snd, apply_ite Done.st, ite_self, implies_true, forall_const, foldl_fuse, State.ivWrite_fuse, Done.ok, Done.err] | split)

theorem State.ivCheck_fuse (s : State) (n : Nat) :
    (State.ivCheck s n).fuse = s.fuse := by
  unfold State.ivCheck
  repeat' (first | simp only [apply_ite State.fuse, apply_ite Prod.fst, apply_ite Prod.snd, apply_ite Done.st, ite_self, implies_true, forall_const, foldl_fuse, State.ivDone_fuse, Done.ok, Done.err] | split)

theorem State.ivAsStart_fuse (s : State) (ch : Nat) (falling : Bool) (e : IvEdge) :
    (State.ivAsStart s ch falling e).fuse = s.fuse := by
  unfold State.ivAsStart
  repeat' (first | simp only [apply_ite State.fuse, apply_ite Prod.fst, apply_ite Prod.snd, apply_ite Done.st, ite_self, implies_true, forall_const, foldl_fuse, State.modTch_fuse, Done.ok, Done.err] | split)

theorem State.ivAsStop_fuse (s : State) (ch : Nat) (falling : Bool) (e : IvEdge) :
    (State.ivAsStop s ch falling e).fuse = s.fuse := by
  unfold State.ivAsStop
  repeat' (first | simp only [apply_ite State.fuse, apply_ite Prod.fst, apply_ite Prod.snd, apply_ite Done.st, ite_self, implies_true, forall_const, foldl_fuse, State.modTch_fuse, Done.ok, Done.err] | split)

theorem State.ivMissed_fuse (s : State) (ch : Nat) (falling : Bool) :
    (State.ivMissed s ch falling).fuse = s.fuse := by
  unfold State.ivMissed
  repeat' (first | simp only [apply_ite State.fuse, apply_ite Prod.fst, apply_ite Prod.snd, apply_ite Done.st, ite_self, implies_true, forall_const, foldl_fuse, State.modTch_fuse, Done.ok, Done.err] | split)

theorem State.ivEnd_fuse (s : State) (n : Nat) (status : Nat) (b : Nat) :
    (State.ivEnd s n status b).fuse = s.fuse := by
  unfold State.ivEnd
  repeat' (first | simp only [apply_ite State.fuse, apply_ite Prod.fst, apply_ite Prod.snd, apply_ite Done.st, ite_self, implies_true, forall_const, foldl_fuse, State.ivWrite_fuse, Done.ok, Done.err] | split)

theorem State.ivAbort_fuse (s : State) (ch : Nat) :
    (State.ivAbort s ch).fuse = s.fuse := by
  unfold State.ivAbort
  repeat' (first | simp only [apply_ite State.fuse, apply_ite Prod.fst, apply_ite Prod.snd, apply_ite Done.st, ite_self, implies_true, forall_const, foldl_fuse, State.ivEnd_fuse, Done.ok, Done.err] | split)

theorem State.takeSpare_fuse (s : State) (i : Nat) (use : Nat) (n : Nat) (home : Nat) :
    (State.takeSpare s i use n home).fuse = s.fuse := by
  unfold State.takeSpare
  repeat' (first | simp only [apply_ite State.fuse, apply_ite Prod.fst, apply_ite Prod.snd, apply_ite Done.st, ite_self, implies_true, forall_const, foldl_fuse, State.modSpare_fuse, State.raise_fuse, Done.ok, Done.err] | split)

theorem State.dropSpare_fuse (s : State) (i : Nat) :
    (State.dropSpare s i).fuse = s.fuse := by
  unfold State.dropSpare
  repeat' (first | simp only [apply_ite State.fuse, apply_ite Prod.fst, apply_ite Prod.snd, apply_ite Done.st, ite_self, implies_true, forall_const, foldl_fuse, State.modSpare_fuse, Done.ok, Done.err] | split)

theorem State.ticServed_fuse (s : State) :
    (State.ticServed s).fuse = s.fuse := by
  unfold State.ticServed
  repeat' (first | simp only [apply_ite State.fuse, apply_ite Prod.fst, apply_ite Prod.snd, apply_ite Done.st, ite_self, implies_true, forall_const, foldl_fuse, State.faultEnd_fuse, Done.ok, Done.err] | split)

theorem State.handOver_fuse (s : State) (n : Nat) (c : Nat) :
    (State.handOver s n c).fuse = s.fuse := by
  unfold State.handOver
  repeat' (first | simp only [apply_ite State.fuse, apply_ite Prod.fst, apply_ite Prod.snd, apply_ite Done.st, ite_self, implies_true, forall_const, foldl_fuse, State.modTch_fuse, State.ticMark_fuse, State.ticRaise_fuse, State.ticServed_fuse, Done.ok, Done.err] | split)

theorem State.spareLeft_fuse (s : State) (c : Nat) :
    (State.spareLeft s c).fuse = s.fuse := by
  unfold State.spareLeft
  repeat' (first | simp only [apply_ite State.fuse, apply_ite Prod.fst, apply_ite Prod.snd, apply_ite Done.st, ite_self, implies_true, forall_const, foldl_fuse, State.dropSpare_fuse, Done.ok, Done.err] | split)

theorem State.releaseRolling_fuse (s : State) (i : Nat) :
    (State.releaseRolling s i).fuse = s.fuse := by
  unfold State.releaseRolling
  repeat' (first | simp only [apply_ite State.fuse, apply_ite Prod.fst, apply_ite Prod.snd, apply_ite Done.st, ite_self, implies_true, forall_const, foldl_fuse, State.dropSpare_fuse, State.handOver_fuse, State.modConv_fuse, Done.ok, Done.err] | split)

theorem State.calBreak_fuse (s : State) (i : Nat) :
    (State.calBreak s i).fuse = s.fuse := by
  unfold State.calBreak
  repeat' (first | simp only [apply_ite State.fuse, apply_ite Prod.fst, apply_ite Prod.snd, apply_ite Done.st, ite_self, implies_true, forall_const, foldl_fuse, State.modConv_fuse, Done.ok, Done.err] | split)

theorem State.claimSpare_fuse (s : State) :
    (State.claimSpare s).1.fuse = s.fuse := by
  unfold State.claimSpare
  repeat' (first | simp only [apply_ite State.fuse, apply_ite Prod.fst, apply_ite Prod.snd, apply_ite Done.st, ite_self, implies_true, forall_const, foldl_fuse, State.calBreak_fuse, State.releaseRolling_fuse, Done.ok, Done.err] | split)

theorem State.substKeep_fuse (s : State) (i : Nat) (n : Nat) :
    (State.substKeep s i n).fuse = s.fuse := by
  unfold State.substKeep
  repeat' (first | simp only [apply_ite State.fuse, apply_ite Prod.fst, apply_ite Prod.snd, apply_ite Done.st, ite_self, implies_true, forall_const, foldl_fuse, State.keepOwn_fuse, Done.ok, Done.err] | split)

theorem State.spareFor_fuse (s : State) (n c : Nat) (t : State) (h : s.spareFor n c = some t) : t.fuse = s.fuse := by
  unfold State.spareFor at h
  obtain ⟨i, _, rfl⟩ := Option.map_eq_some_iff.mp h
  simp only [State.faultAssert_fuse, State.handOver_fuse, State.substKeep_fuse, State.takeSpare_fuse]
  split <;> simp only [State.claimSpare_fuse]

theorem State.spareForD_fuse (s : State) (n c : Nat) (d : State) (hd : d.fuse = s.fuse) :
    ((s.spareFor n c).getD d).fuse = s.fuse := by
  cases h : s.spareFor n c with
  | none => exact hd
  | some t => exact State.spareFor_fuse s n c t h

theorem State.convLost_fuse (s : State) (n c : Nat) : (s.convLost n c).fuse = s.fuse := by
  unfold State.convLost
  exact State.spareForD_fuse s n c _ (by simp only [State.faultAssert_fuse, State.raise_fuse])

theorem State.swapKeep_fuse (s : State) (i : Nat) :
    (State.swapKeep s i).fuse = s.fuse := by
  unfold State.swapKeep
  repeat' (first | simp only [apply_ite State.fuse, apply_ite Prod.fst, apply_ite Prod.snd, apply_ite Done.st, ite_self, implies_true, forall_const, foldl_fuse, State.faultAssert_fuse, State.modSpare_fuse, State.substKeep_fuse, Done.ok, Done.err] | split)

theorem State.swapBroken_fuse (c : Nat) (s : State) (i : Nat) :
    (State.swapBroken c s i).fuse = s.fuse := by
  unfold State.swapBroken
  repeat' (first | simp only [apply_ite State.fuse, apply_ite Prod.fst, apply_ite Prod.snd, apply_ite Done.st, ite_self, implies_true, forall_const, foldl_fuse, State.dropSpare_fuse, State.handOver_fuse, State.spareLeft_fuse, State.swapKeep_fuse, Done.ok, Done.err] | split)

theorem State.convFail_fuse (s : State) (c : Nat) :
    (State.convFail s c).fuse = s.fuse := by
  unfold State.convFail
  repeat' (first | simp only [apply_ite State.fuse, apply_ite Prod.fst, apply_ite Prod.snd, apply_ite Done.st, ite_self, implies_true, forall_const, foldl_fuse, State.convLost_fuse, State.dropSpare_fuse, State.modConv_fuse, State.releaseRolling_fuse, State.swapBroken_fuse, Done.ok, Done.err] | split)

theorem State.heal_fuse (s : State) (n : Nat) : (s.heal n).fuse = s.fuse := by
  unfold State.heal
  split
  · exact State.spareForD_fuse s n _ s rfl
  · rfl

theorem State.swapStart_fuse (s : State) (i : Nat) (back : Bool) :
    (State.swapStart s i back).fuse = s.fuse := by
  unfold State.swapStart
  repeat' (first | simp only [apply_ite State.fuse, apply_ite Prod.fst, apply_ite Prod.snd, apply_ite Done.st, ite_self, implies_true, forall_const, foldl_fuse, State.modSpare_fuse, Done.ok, Done.err] | split)

theorem State.swapOver_fuse (s : State) (i : Nat) :
    (State.swapOver s i).fuse = s.fuse := by
  unfold State.swapOver
  repeat' (first | simp only [apply_ite State.fuse, apply_ite Prod.fst, apply_ite Prod.snd, apply_ite Done.st, ite_self, implies_true, forall_const, foldl_fuse, State.dropSpare_fuse, State.handOver_fuse, State.modConv_fuse, State.modSpare_fuse, State.spareLeft_fuse, Done.ok, Done.err] | split)

theorem State.swap_fuse (s : State) (i : Nat) (back : Bool) :
    (State.swap s i back).fuse = s.fuse := by
  unfold State.swap
  repeat' (first | simp only [apply_ite State.fuse, apply_ite Prod.fst, apply_ite Prod.snd, apply_ite Done.st, ite_self, implies_true, forall_const, foldl_fuse, State.swapOver_fuse, State.swapStart_fuse, Done.ok, Done.err] | split)

theorem State.calStale_fuse (s : State) (n : Nat) :
    (State.calStale s n).fuse = s.fuse := by
  unfold State.calStale
  repeat' (first | simp only [apply_ite State.fuse, apply_ite Prod.fst, apply_ite Prod.snd, apply_ite Done.st, ite_self, implies_true, forall_const, foldl_fuse, State.modTch_fuse, State.ticRaise_fuse, Done.ok, Done.err] | split)

theorem State.ticCalCount_fuse (s : State) (c : Nat) :
    (State.ticCalCount s c).fuse = s.fuse := by
  unfold State.ticCalCount
  repeat' (first | simp only [apply_ite State.fuse, apply_ite Prod.fst, apply_ite Prod.snd, apply_ite Done.st, ite_self, implies_true, forall_const, foldl_fuse, State.raise_fuse, Done.ok, Done.err] | split)

theorem State.swapAbandon_fuse (s : State) (i : Nat) :
    (State.swapAbandon s i).fuse = s.fuse := by
  unfold State.swapAbandon
  repeat' (first | simp only [apply_ite State.fuse, apply_ite Prod.fst, apply_ite Prod.snd, apply_ite Done.st, ite_self, implies_true, forall_const, foldl_fuse, State.dropSpare_fuse, State.faultAssert_fuse, State.modSpare_fuse, State.ticCalCount_fuse, State.ticRaise_fuse, Done.ok, Done.err] | split)

theorem State.calTry_fuse (s : State) (c : Nat) :
    (State.calTry s c).fuse = s.fuse := by
  unfold State.calTry
  repeat' (first | simp only [apply_ite State.fuse, apply_ite Prod.fst, apply_ite Prod.snd, apply_ite Done.st, ite_self, implies_true, forall_const, foldl_fuse, State.calStale_fuse, State.modConv_fuse, State.swap_fuse, State.takeSpare_fuse, State.ticCalCount_fuse, Done.ok, Done.err] | split)

theorem State.calNext_fuse (s : State) :
    (State.calNext s).fuse = s.fuse := by
  unfold State.calNext
  repeat' (first | simp only [apply_ite State.fuse, apply_ite Prod.fst, apply_ite Prod.snd, apply_ite Done.st, ite_self, implies_true, forall_const, foldl_fuse, State.calTry_fuse, State.heal_fuse, Done.ok, Done.err] | split)

theorem State.calPass_fuse (s : State) (c : Nat) (r : CalRun) :
    (State.calPass s c r).fuse = s.fuse := by
  unfold State.calPass
  repeat' (first | simp only [apply_ite State.fuse, apply_ite Prod.fst, apply_ite Prod.snd, apply_ite Done.st, ite_self, implies_true, forall_const, foldl_fuse, State.calStale_fuse, State.keepOwn_fuse, State.modConv_fuse, State.modTch_fuse, State.raise_fuse, State.ticMark_fuse, Done.ok, Done.err] | split)

theorem State.swapHome_fuse (s : State) (c : Nat) :
    (State.swapHome s c).fuse = s.fuse := by
  unfold State.swapHome
  repeat' (first | simp only [apply_ite State.fuse, apply_ite Prod.fst, apply_ite Prod.snd, apply_ite Done.st, ite_self, implies_true, forall_const, foldl_fuse, State.swap_fuse, Done.ok, Done.err] | split)

theorem State.coverKeep_fuse (s : State) (c : Nat) :
    (State.coverKeep s c).fuse = s.fuse := by
  unfold State.coverKeep
  repeat' (first | simp only [apply_ite State.fuse, apply_ite Prod.fst, apply_ite Prod.snd, apply_ite Done.st, ite_self, implies_true, forall_const, foldl_fuse, State.dropSpare_fuse, State.faultAssert_fuse, State.handOver_fuse, State.raise_fuse, State.swapKeep_fuse, Done.ok, Done.err] | split)

theorem State.pairStamp_fuse (s : State) (n : Nat) (t : Int) :
    (State.pairStamp s n t).fuse = s.fuse := by
  unfold State.pairStamp
  repeat' (first | simp only [apply_ite State.fuse, apply_ite Prod.fst, apply_ite Prod.snd, apply_ite Done.st, ite_self, implies_true, forall_const, foldl_fuse, Done.ok, Done.err] | split)

theorem State.modLane_fuse (s : State) (l : Nat) (f : Lane → Lane) :
    (State.modLane s l f).fuse = s.fuse := by
  unfold State.modLane
  repeat' (first | simp only [apply_ite State.fuse, apply_ite Prod.fst, apply_ite Prod.snd, apply_ite Done.st, ite_self, implies_true, forall_const, foldl_fuse, Done.ok, Done.err] | split)

theorem State.setLaneCfg_fuse (s : State) (l : Nat) (f : LaneCfg → LaneCfg) :
    (State.setLaneCfg s l f).fuse = s.fuse := by
  unfold State.setLaneCfg
  repeat' (first | simp only [apply_ite State.fuse, apply_ite Prod.fst, apply_ite Prod.snd, apply_ite Done.st, ite_self, implies_true, forall_const, foldl_fuse, Done.ok, Done.err] | split)

theorem State.ethCount_fuse (s : State) (l : Nat) (i : Nat) (n : Nat) :
    (State.ethCount s l i n).fuse = s.fuse := by
  unfold State.ethCount
  repeat' (first | simp only [apply_ite State.fuse, apply_ite Prod.fst, apply_ite Prod.snd, apply_ite Done.st, ite_self, implies_true, forall_const, foldl_fuse, State.modLane_fuse, Done.ok, Done.err] | split)

theorem State.ethRaise_fuse (s : State) (b : Nat) (l : Nat) (value : Int) (old : Nat) (new : Nat) :
    (State.ethRaise s b l value old new).fuse = s.fuse := by
  unfold State.ethRaise
  repeat' (first | simp only [apply_ite State.fuse, apply_ite Prod.fst, apply_ite Prod.snd, apply_ite Done.st, ite_self, implies_true, forall_const, foldl_fuse, State.raise_fuse, Done.ok, Done.err] | split)

theorem State.ringPushN_fuse (s : State) (r : Nat) (n : Nat) (rec : List W32) :
    (State.ringPushN s r n rec).fuse = s.fuse := by
  unfold State.ringPushN
  repeat' (first | simp only [apply_ite State.fuse, apply_ite Prod.fst, apply_ite Prod.snd, apply_ite Done.st, ite_self, implies_true, forall_const, foldl_fuse, Done.ok, Done.err] | split)

theorem State.rxDeliver_fuse (s : State) (l : Nat) (t : Stamp) (bs : List Byte) (ring : Nat) (rule : Nat) :
    (State.rxDeliver s l t bs ring rule).fuse = s.fuse := by
  unfold State.rxDeliver
  repeat' (first | simp only [apply_ite State.fuse, apply_ite Prod.fst, apply_ite Prod.snd, apply_ite Done.st, ite_self, implies_true, forall_const, foldl_fuse, State.ethCount_fuse, State.ethRaise_fuse, State.ringPushN_fuse, Done.ok, Done.err] | split)

theorem State.rxCount_fuse (s : State) (l : Nat) (o : RxOutcome) (len : Nat) :
    (State.rxCount s l o len).fuse = s.fuse := by
  unfold State.rxCount
  repeat' (first | simp only [apply_ite State.fuse, apply_ite Prod.fst, apply_ite Prod.snd, apply_ite Done.st, ite_self, implies_true, forall_const, foldl_fuse, Done.ok_fuse, State.ethCount_fuse, State.ethRaise_fuse, Done.ok, Done.err] | split)

theorem State.capClose_fuse (s : State) (l : Nat) :
    (State.capClose s l).fuse = s.fuse := by
  unfold State.capClose
  repeat' (first | simp only [apply_ite State.fuse, apply_ite Prod.fst, apply_ite Prod.snd, apply_ite Done.st, ite_self, implies_true, forall_const, foldl_fuse, State.modLane_fuse, Done.ok, Done.err] | split)

theorem State.capOpen_fuse (s : State) (l : Nat) (ms : Nat) (again : Bool) :
    (State.capOpen s l ms again).fuse = s.fuse := by
  unfold State.capOpen
  repeat' (first | simp only [apply_ite State.fuse, apply_ite Prod.fst, apply_ite Prod.snd, apply_ite Done.st, ite_self, implies_true, forall_const, foldl_fuse, State.modLane_fuse, Done.ok, Done.err] | split)

theorem State.capRoll_fuse (s : State) (l : Nat) :
    (State.capRoll s l).fuse = s.fuse := by
  unfold State.capRoll
  repeat' (first | simp only [apply_ite State.fuse, apply_ite Prod.fst, apply_ite Prod.snd, apply_ite Done.st, ite_self, implies_true, forall_const, foldl_fuse, State.capClose_fuse, State.capOpen_fuse, Done.ok, Done.err] | split)

theorem State.capRecord_fuse (s : State) (l : Nat) (ws : List W32) :
    (State.capRecord s l ws).fuse = s.fuse := by
  unfold State.capRecord
  repeat' (first | simp only [apply_ite State.fuse, apply_ite Prod.fst, apply_ite Prod.snd, apply_ite Done.st, ite_self, implies_true, forall_const, foldl_fuse, State.ethCount_fuse, State.ethRaise_fuse, State.modLane_fuse, Done.ok, Done.err] | split)

theorem State.capLoss_fuse (s : State) (l : Nat) :
    (State.capLoss s l).fuse = s.fuse := by
  unfold State.capLoss
  repeat' (first | simp only [apply_ite State.fuse, apply_ite Prod.fst, apply_ite Prod.snd, apply_ite Done.st, ite_self, implies_true, forall_const, foldl_fuse, State.capRecord_fuse, State.ethRaise_fuse, State.modLane_fuse, Done.ok, Done.err] | split)

theorem State.capLink_fuse (s : State) (l : Nat) (up : Bool) :
    (State.capLink s l up).fuse = s.fuse := by
  unfold State.capLink
  repeat' (first | simp only [apply_ite State.fuse, apply_ite Prod.fst, apply_ite Prod.snd, apply_ite Done.st, ite_self, implies_true, forall_const, foldl_fuse, State.capLoss_fuse, State.capRecord_fuse, State.capRoll_fuse, Done.ok, Done.err] | split)

theorem State.capWhileSusp_fuse (s : State) (l : Nat) :
    (State.capWhileSusp s l).fuse = s.fuse := by
  unfold State.capWhileSusp
  repeat' (first | simp only [apply_ite State.fuse, apply_ite Prod.fst, apply_ite Prod.snd, apply_ite Done.st, ite_self, implies_true, forall_const, foldl_fuse, State.ethCount_fuse, State.modLane_fuse, Done.ok, Done.err] | split)

theorem State.capLost_fuse (s : State) (l : Nat) :
    (State.capLost s l).fuse = s.fuse := by
  unfold State.capLost
  repeat' (first | simp only [apply_ite State.fuse, apply_ite Prod.fst, apply_ite Prod.snd, apply_ite Done.st, ite_self, implies_true, forall_const, foldl_fuse, State.ethCount_fuse, State.modLane_fuse, Done.ok, Done.err] | split)

theorem State.capFrame_fuse (s : State) (l : Nat) (t : Stamp) (o : RxOutcome) (f : RxFrame) :
    (State.capFrame s l t o f).fuse = s.fuse := by
  unfold State.capFrame
  repeat' (first | simp only [apply_ite State.fuse, apply_ite Prod.fst, apply_ite Prod.snd, apply_ite Done.st, ite_self, implies_true, forall_const, foldl_fuse, State.capLoss_fuse, State.capLost_fuse, State.capRecord_fuse, State.capRoll_fuse, State.capWhileSusp_fuse, Done.ok, Done.err] | split)

theorem State.capSuspend_fuse (s : State) (l : Nat) (cause : Nat) :
    (State.capSuspend s l cause).fuse = s.fuse := by
  unfold State.capSuspend
  repeat' (first | simp only [apply_ite State.fuse, apply_ite Prod.fst, apply_ite Prod.snd, apply_ite Done.st, ite_self, implies_true, forall_const, foldl_fuse, State.capClose_fuse, State.ethRaise_fuse, State.modLane_fuse, Done.ok, Done.err] | split)

theorem State.capResume_fuse (s : State) (l : Nat) :
    (State.capResume s l).fuse = s.fuse := by
  unfold State.capResume
  repeat' (first | simp only [apply_ite State.fuse, apply_ite Prod.fst, apply_ite Prod.snd, apply_ite Done.st, ite_self, implies_true, forall_const, foldl_fuse, State.capLoss_fuse, State.capRecord_fuse, State.capRoll_fuse, State.ethRaise_fuse, State.modLane_fuse, Done.ok, Done.err] | split)

theorem State.capEnd_fuse (s : State) (l : Nat) :
    (State.capEnd s l).fuse = s.fuse := by
  unfold State.capEnd
  repeat' (first | simp only [apply_ite State.fuse, apply_ite Prod.fst, apply_ite Prod.snd, apply_ite Done.st, ite_self, implies_true, forall_const, foldl_fuse, State.capClose_fuse, State.capLoss_fuse, State.modLane_fuse, Done.ok, Done.err] | split)

theorem State.rootReady_fuse (s : State) (l : Nat) (c : ClosedIv) :
    (State.rootReady s l c).fuse = s.fuse := by
  unfold State.rootReady
  repeat' (first | simp only [apply_ite State.fuse, apply_ite Prod.fst, apply_ite Prod.snd, apply_ite Done.st, ite_self, implies_true, forall_const, foldl_fuse, State.logPut_fuse, State.modLane_fuse, Done.ok, Done.err] | split)

theorem State.superWrite_fuse (s : State) (l : Nat) :
    (State.superWrite s l).fuse = s.fuse := by
  unfold State.superWrite
  repeat' (first | simp only [apply_ite State.fuse, apply_ite Prod.fst, apply_ite Prod.snd, apply_ite Done.st, ite_self, implies_true, forall_const, foldl_fuse, State.capSuspend_fuse, State.logPut_fuse, State.modLane_fuse, Done.ok, Done.err] | split)

theorem State.modTLane_fuse (s : State) (l : Nat) (f : TmgLane → TmgLane) :
    (State.modTLane s l f).fuse = s.fuse := by
  unfold State.modTLane
  repeat' (first | simp only [apply_ite State.fuse, apply_ite Prod.fst, apply_ite Prod.snd, apply_ite Done.st, ite_self, implies_true, forall_const, foldl_fuse, Done.ok, Done.err] | split)

theorem State.modTq_fuse (s : State) (q : Nat) (f : TmgQ → TmgQ) :
    (State.modTq s q f).fuse = s.fuse := by
  unfold State.modTq
  repeat' (first | simp only [apply_ite State.fuse, apply_ite Prod.fst, apply_ite Prod.snd, apply_ite Done.st, ite_self, implies_true, forall_const, foldl_fuse, Done.ok, Done.err] | split)

theorem State.modPol_fuse (s : State) (p : Nat) (f : Pol → Pol) :
    (State.modPol s p f).fuse = s.fuse := by
  unfold State.modPol
  repeat' (first | simp only [apply_ite State.fuse, apply_ite Prod.fst, apply_ite Prod.snd, apply_ite Done.st, ite_self, implies_true, forall_const, foldl_fuse, Done.ok, Done.err] | split)

theorem State.setTmgCfg_fuse (s : State) (f : TmgCfg → TmgCfg) :
    (State.setTmgCfg s f).fuse = s.fuse := by
  unfold State.setTmgCfg
  repeat' (first | simp only [apply_ite State.fuse, apply_ite Prod.fst, apply_ite Prod.snd, apply_ite Done.st, ite_self, implies_true, forall_const, foldl_fuse, Done.ok, Done.err] | split)

theorem State.tmgRaise_fuse (s : State) (b : Nat) (l : Nat) (subject : Nat) (value : Int) :
    (State.tmgRaise s b l subject value).fuse = s.fuse := by
  unfold State.tmgRaise
  repeat' (first | simp only [apply_ite State.fuse, apply_ite Prod.fst, apply_ite Prod.snd, apply_ite Done.st, ite_self, implies_true, forall_const, foldl_fuse, State.raise_fuse, Done.ok, Done.err] | split)

theorem State.gateEval_fuse (s : State) (l : Nat) :
    (State.gateEval s l).fuse = s.fuse := by
  unfold State.gateEval
  repeat' (first | simp only [apply_ite State.fuse, apply_ite Prod.fst, apply_ite Prod.snd, apply_ite Done.st, ite_self, implies_true, forall_const, foldl_fuse, State.modTLane_fuse, Done.ok, Done.err] | split)

theorem State.dropOverrun_fuse (s : State) (l : Nat) (q : Nat) (f : TxFrame) :
    (State.dropOverrun s l q f).fuse = s.fuse := by
  unfold State.dropOverrun
  repeat' (first | simp only [apply_ite State.fuse, apply_ite Prod.fst, apply_ite Prod.snd, apply_ite Done.st, ite_self, implies_true, forall_const, foldl_fuse, State.completeTx_fuse, State.ethCount_fuse, State.modTq_fuse, State.tmgRaise_fuse, Done.ok, Done.err] | split)

theorem State.putFrame_fuse (s : State) (q : Nat) (f : TxFrame) :
    (State.putFrame s q f).fuse = s.fuse := by
  unfold State.putFrame
  repeat' (first | simp only [apply_ite State.fuse, apply_ite Prod.fst, apply_ite Prod.snd, apply_ite Done.st, ite_self, implies_true, forall_const, foldl_fuse, State.modTq_fuse, Done.ok, Done.err] | split)

theorem State.enqueueTx_fuse (s : State) (l : Nat) (c : Nat) (f : TxFrame) :
    (State.enqueueTx s l c f).fuse = s.fuse := by
  unfold State.enqueueTx
  repeat' (first | simp only [apply_ite State.fuse, apply_ite Prod.fst, apply_ite Prod.snd, apply_ite Done.st, ite_self, implies_true, forall_const, foldl_fuse, State.dropOverrun_fuse, State.modTq_fuse, State.putFrame_fuse, State.tmgRaise_fuse, Done.ok, Done.err] | split)

theorem State.newId_fuse (s : State) :
    (State.newId s).2.fuse = s.fuse := by
  unfold State.newId
  repeat' (first | simp only [apply_ite State.fuse, apply_ite Prod.fst, apply_ite Prod.snd, apply_ite Done.st, ite_self, implies_true, forall_const, foldl_fuse, Done.ok, Done.err] | split)

theorem State.recheckQueue_fuse (s : State) (l : Nat) (c : Nat) :
    (State.recheckQueue s l c).fuse = s.fuse := by
  unfold State.recheckQueue
  repeat' (first | simp only [apply_ite State.fuse, apply_ite Prod.fst, apply_ite Prod.snd, apply_ite Done.st, ite_self, implies_true, forall_const, foldl_fuse, State.dropOverrun_fuse, State.modTLane_fuse, State.modTq_fuse, Done.ok, Done.err] | split)

theorem State.swapLane_fuse (s : State) (l : Nat) (skew : Bool) :
    (State.swapLane s l skew).fuse = s.fuse := by
  unfold State.swapLane
  repeat' (first | simp only [apply_ite State.fuse, apply_ite Prod.fst, apply_ite Prod.snd, apply_ite Done.st, ite_self, implies_true, forall_const, foldl_fuse, State.gateEval_fuse, State.modTLane_fuse, State.recheckQueue_fuse, State.tmgRaise_fuse, Done.ok, Done.err] | split)

theorem State.swapsDue_fuse (s : State) (skew : Bool) :
    (State.swapsDue s skew).fuse = s.fuse := by
  unfold State.swapsDue
  repeat' (first | simp only [apply_ite State.fuse, apply_ite Prod.fst, apply_ite Prod.snd, apply_ite Done.st, ite_self, implies_true, forall_const, foldl_fuse, State.swapLane_fuse, Done.ok, Done.err] | split)

theorem State.toWire_fuse (s : State) (l : Nat) (c : Nat) (f : TxFrame) (t0 : Nat) (sfd : Nat) :
    (State.toWire s l c f t0 sfd).fuse = s.fuse := by
  unfold State.toWire
  repeat' (first | simp only [apply_ite State.fuse, apply_ite Prod.fst, apply_ite Prod.snd, apply_ite Done.st, ite_self, implies_true, forall_const, foldl_fuse, State.modTLane_fuse, State.modTq_fuse, Done.ok, Done.err] | split)

theorem State.slotMissed_fuse (s : State) (l : Nat) (b : Booking) :
    (State.slotMissed s l b).fuse = s.fuse := by
  unfold State.slotMissed
  repeat' (first | simp only [apply_ite State.fuse, apply_ite Prod.fst, apply_ite Prod.snd, apply_ite Done.st, ite_self, implies_true, forall_const, foldl_fuse, State.modTLane_fuse, State.modTq_fuse, State.tmgRaise_fuse, Done.ok, Done.err] | split)

theorem State.stepWire_fuse (s : State) (l : Nat) (d : Int) :
    (State.stepWire s l d).fuse = s.fuse := by
  unfold State.stepWire
  repeat' (first | simp only [apply_ite State.fuse, apply_ite Prod.fst, apply_ite Prod.snd, apply_ite Done.st, ite_self, implies_true, forall_const, foldl_fuse, State.modTLane_fuse, State.tmgRaise_fuse, Done.ok, Done.err] | split)

theorem State.police_fuse (s : State) (p : Nat) (l : Nat) (w : Nat) :
    (State.police s p l w).1.fuse = s.fuse := by
  unfold State.police
  repeat' (first | simp only [apply_ite State.fuse, apply_ite Prod.fst, apply_ite Prod.snd, apply_ite Done.st, ite_self, implies_true, forall_const, foldl_fuse, State.modPol_fuse, State.tmgRaise_fuse, Done.ok, Done.err] | split)

theorem State.policeFrame_fuse (s : State) (l : Nat) (k : FrameKey) (w : Nat) :
    (State.policeFrame s l k w).1.fuse = s.fuse := by
  unfold State.policeFrame
  repeat' (first | simp only [apply_ite State.fuse, apply_ite Prod.fst, apply_ite Prod.snd, apply_ite Done.st, ite_self, implies_true, forall_const, foldl_fuse, State.police_fuse, Done.ok, Done.err] | split)

theorem State.admitClient_fuse (s : State) (l : Nat) (w : Nat) :
    (State.admitClient s l w).1.fuse = s.fuse := by
  unfold State.admitClient
  repeat' (first | simp only [apply_ite State.fuse, apply_ite Prod.fst, apply_ite Prod.snd, apply_ite Done.st, ite_self, implies_true, forall_const, foldl_fuse, State.modPol_fuse, State.police_fuse, State.tmgRaise_fuse, Done.ok, Done.err] | split)

theorem State.shape_fuse (s : State) (q : Nat) :
    (State.shape s q).fuse = s.fuse := by
  unfold State.shape
  repeat' (first | simp only [apply_ite State.fuse, apply_ite Prod.fst, apply_ite Prod.snd, apply_ite Done.st, ite_self, implies_true, forall_const, foldl_fuse, State.modTq_fuse, State.tmgRaise_fuse, Done.ok, Done.err] | split)

theorem State.sampleQ_fuse (s : State) (q : Nat) :
    (State.sampleQ s q).fuse = s.fuse := by
  unfold State.sampleQ
  repeat' (first | simp only [apply_ite State.fuse, apply_ite Prod.fst, apply_ite Prod.snd, apply_ite Done.st, ite_self, implies_true, forall_const, foldl_fuse, State.modTq_fuse, State.tmgRaise_fuse, Done.ok, Done.err] | split)

theorem State.svcClassesSet_fuse (s : State) :
    (State.svcClassesSet s).fuse = s.fuse := by
  unfold State.svcClassesSet
  repeat' (first | simp only [apply_ite State.fuse, apply_ite Prod.fst, apply_ite Prod.snd, apply_ite Done.st, ite_self, implies_true, forall_const, foldl_fuse, Done.ok, Done.err] | split)

theorem State.emptyLane_fuse (s : State) (l : Nat) :
    (State.emptyLane s l).fuse = s.fuse := by
  unfold State.emptyLane
  repeat' (first | simp only [apply_ite State.fuse, apply_ite Prod.fst, apply_ite Prod.snd, apply_ite Done.st, ite_self, implies_true, forall_const, foldl_fuse, State.emptyQueue_fuse, State.modTLane_fuse, Done.ok, Done.err] | split)

theorem State.laneQuery_fuse (s : State) (l : Nat) (ws : List W32) :
    (State.laneQuery s l ws).st.fuse = s.fuse := by
  unfold State.laneQuery
  repeat' (first | simp only [apply_ite State.fuse, apply_ite Prod.fst, apply_ite Prod.snd, apply_ite Done.st, ite_self, implies_true, forall_const, foldl_fuse, Done.err_fuse, Done.ok_fuse, Done.ok, Done.err] | split)

theorem specEthQueryLane_fuse (p : Packet) (s : State) :
    (specEthQueryLane.body p s).st.fuse = s.fuse := by
  unfold specEthQueryLane
  repeat' (first | simp only [apply_ite State.fuse, apply_ite Prod.fst, apply_ite Prod.snd, apply_ite Done.st, ite_self, implies_true, forall_const, foldl_fuse, answer, gnsBody, keyBody, pairBody, svcBody, ticBody, State.laneQuery_fuse, Done.ok, Done.err] | split)

theorem specEthQueryDelay_fuse (p : Packet) (s : State) :
    (specEthQueryDelay.body p s).st.fuse = s.fuse := by
  unfold specEthQueryDelay
  repeat' (first | simp only [apply_ite State.fuse, apply_ite Prod.fst, apply_ite Prod.snd, apply_ite Done.st, ite_self, implies_true, forall_const, foldl_fuse, answer, gnsBody, keyBody, pairBody, svcBody, ticBody, State.laneQuery_fuse, Done.ok, Done.err] | split)

theorem specEthSetQuadMode_fuse (p : Packet) (s : State) :
    (specEthSetQuadMode.body p s).st.fuse = s.fuse := by
  unfold specEthSetQuadMode
  repeat' (first | simp only [apply_ite State.fuse, apply_ite Prod.fst, apply_ite Prod.snd, apply_ite Done.st, ite_self, implies_true, forall_const, foldl_fuse, answer, gnsBody, keyBody, pairBody, svcBody, ticBody, Done.err_fuse, Done.ok_fuse, Done.ok, Done.err] | split)

theorem specEthSetLane_fuse (p : Packet) (s : State) :
    (specEthSetLane.body p s).st.fuse = s.fuse := by
  unfold specEthSetLane
  repeat' (first | simp only [apply_ite State.fuse, apply_ite Prod.fst, apply_ite Prod.snd, apply_ite Done.st, ite_self, implies_true, forall_const, foldl_fuse, answer, gnsBody, keyBody, pairBody, svcBody, ticBody, Done.err_fuse, Done.ok_fuse, State.setLaneCfg_fuse, State.svcClassesSet_fuse, Done.ok, Done.err] | split)

theorem specEthSetDelay_fuse (p : Packet) (s : State) :
    (specEthSetDelay.body p s).st.fuse = s.fuse := by
  unfold specEthSetDelay
  repeat' (first | simp only [apply_ite State.fuse, apply_ite Prod.fst, apply_ite Prod.snd, apply_ite Done.st, ite_self, implies_true, forall_const, foldl_fuse, answer, gnsBody, keyBody, pairBody, svcBody, ticBody, Done.err_fuse, Done.ok_fuse, State.modLane_fuse, State.setLaneCfg_fuse, Done.ok, Done.err] | split)

theorem specEthSetCapture_fuse (p : Packet) (s : State) :
    (specEthSetCapture.body p s).st.fuse = s.fuse := by
  unfold specEthSetCapture
  repeat' (first | simp only [apply_ite State.fuse, apply_ite Prod.fst, apply_ite Prod.snd, apply_ite Done.st, ite_self, implies_true, forall_const, foldl_fuse, answer, gnsBody, keyBody, pairBody, svcBody, ticBody, Done.err_fuse, Done.ok_fuse, State.setLaneCfg_fuse, Done.ok, Done.err] | split)

theorem specEthSetClassifier_fuse (p : Packet) (s : State) :
    (specEthSetClassifier.body p s).st.fuse = s.fuse := by
  unfold specEthSetClassifier
  repeat' (first | simp only [apply_ite State.fuse, apply_ite Prod.fst, apply_ite Prod.snd, apply_ite Done.st, ite_self, implies_true, forall_const, foldl_fuse, answer, gnsBody, keyBody, pairBody, svcBody, ticBody, Done.err_fuse, Done.ok_fuse, State.setLaneCfg_fuse, Done.ok, Done.err] | split)

theorem State.linkFall_fuse (s : State) (l : Nat) :
    (State.linkFall s l).fuse = s.fuse := by
  unfold State.linkFall
  repeat' (first | simp only [apply_ite State.fuse, apply_ite Prod.fst, apply_ite Prod.snd, apply_ite Done.st, ite_self, implies_true, forall_const, foldl_fuse, State.capLink_fuse, State.ethCount_fuse, State.ethRaise_fuse, State.modLane_fuse, Done.ok, Done.err] | split)

theorem State.laneStop_fuse (s : State) (l : Nat) :
    (State.laneStop s l).fuse = s.fuse := by
  unfold State.laneStop
  repeat' (first | simp only [apply_ite State.fuse, apply_ite Prod.fst, apply_ite Prod.snd, apply_ite Done.st, ite_self, implies_true, forall_const, foldl_fuse, State.capEnd_fuse, State.emptyLane_fuse, State.linkFall_fuse, Done.ok, Done.err] | split)

theorem State.laneEnable_fuse (s : State) (l : Nat) (on : Bool) :
    (State.laneEnable s l on).fuse = s.fuse := by
  unfold State.laneEnable
  repeat' (first | simp only [apply_ite State.fuse, apply_ite Prod.fst, apply_ite Prod.snd, apply_ite Done.st, ite_self, implies_true, forall_const, foldl_fuse, State.laneStop_fuse, State.setLaneCfg_fuse, Done.ok, Done.err] | split)

theorem specEthLaneEnable_fuse (p : Packet) (s : State) :
    (specEthLaneEnable.body p s).st.fuse = s.fuse := by
  unfold specEthLaneEnable
  repeat' (first | simp only [apply_ite State.fuse, apply_ite Prod.fst, apply_ite Prod.snd, apply_ite Done.st, ite_self, implies_true, forall_const, foldl_fuse, answer, gnsBody, keyBody, pairBody, svcBody, ticBody, Done.err_fuse, Done.ok_fuse, State.laneEnable_fuse, Done.ok, Done.err] | split)

theorem specEthSetTags_fuse (p : Packet) (s : State) :
    (specEthSetTags.body p s).st.fuse = s.fuse := by
  unfold specEthSetTags
  repeat' (first | simp only [apply_ite State.fuse, apply_ite Prod.fst, apply_ite Prod.snd, apply_ite Done.st, ite_self, implies_true, forall_const, foldl_fuse, answer, gnsBody, keyBody, pairBody, svcBody, ticBody, Done.err_fuse, Done.ok_fuse, State.setLaneCfg_fuse, Done.ok, Done.err] | split)

theorem State.hostFrame_fuse (s : State) (l : Nat) (slot : Nat) (d : TxDesc) (frame : List Byte) :
    (State.hostFrame s l slot d frame).fuse = s.fuse := by
  unfold State.hostFrame
  repeat' (first | simp only [apply_ite State.fuse, apply_ite Prod.fst, apply_ite Prod.snd, apply_ite Done.st, ite_self, implies_true, forall_const, foldl_fuse, State.enqueueTx_fuse, State.ethCount_fuse, State.newId_fuse, Done.ok, Done.err] | split)

theorem State.rxHost_fuse (s : State) (l : Nat) (t : Stamp) (f : RxFrame) :
    (State.rxHost s l t f).fuse = s.fuse := by
  unfold State.rxHost
  repeat' (first | simp only [apply_ite State.fuse, apply_ite Prod.fst, apply_ite Prod.snd, apply_ite Done.st, ite_self, implies_true, forall_const, foldl_fuse, State.ethCount_fuse, State.policeFrame_fuse, State.rxDeliver_fuse, State.svcCount_fuse, Done.ok, Done.err] | split)

theorem State.fecCount_fuse (s : State) (l : Nat) (f : RxFrame) :
    (State.fecCount s l f).fuse = s.fuse := by
  unfold State.fecCount
  repeat' (first | simp only [apply_ite State.fuse, apply_ite Prod.fst, apply_ite Prod.snd, apply_ite Done.st, ite_self, implies_true, forall_const, foldl_fuse, State.ethCount_fuse, State.ethRaise_fuse, Done.ok, Done.err] | split)

theorem State.rxPath_fuse (s : State) (l : Nat) (f : RxFrame) :
    (State.rxPath s l f).fuse = s.fuse := by
  unfold State.rxPath
  repeat' (first | simp only [apply_ite State.fuse, apply_ite Prod.fst, apply_ite Prod.snd, apply_ite Done.st, ite_self, implies_true, forall_const, foldl_fuse, State.fecCount_fuse, State.modLane_fuse, Done.ok, Done.err] | split)

theorem State.txDone_fuse (s : State) (l : Nat) (f : TxFrame) :
    (State.txDone s l f).fuse = s.fuse := by
  unfold State.txDone
  repeat' (first | simp only [apply_ite State.fuse, apply_ite Prod.fst, apply_ite Prod.snd, apply_ite Done.st, ite_self, implies_true, forall_const, foldl_fuse, State.completeTx_fuse, State.ethCount_fuse, State.modTLane_fuse, State.svcCount_fuse, Done.ok, Done.err] | split)

theorem State.lcChanged_fuse (s : State) (old : LcState) :
    (State.lcChanged s old).fuse = s.fuse := by
  unfold State.lcChanged
  repeat' (first | simp only [apply_ite State.fuse, apply_ite Prod.fst, apply_ite Prod.snd, apply_ite Done.st, ite_self, implies_true, forall_const, foldl_fuse, State.raise_fuse, Done.ok, Done.err] | split)

theorem State.sppLost_fuse (s : State) (i : Nat) :
    (State.sppLost s i).fuse = s.fuse := by
  unfold State.sppLost
  repeat' (first | simp only [apply_ite State.fuse, apply_ite Prod.fst, apply_ite Prod.snd, apply_ite Done.st, ite_self, implies_true, forall_const, foldl_fuse, State.raise_fuse, Done.ok, Done.err] | split)

theorem State.zeroSlot_fuse (s : State) (k : Nat) :
    (State.zeroSlot s k).fuse = s.fuse := by
  unfold State.zeroSlot
  repeat' (first | simp only [apply_ite State.fuse, apply_ite Prod.fst, apply_ite Prod.snd, apply_ite Done.st, ite_self, implies_true, forall_const, foldl_fuse, State.raise_fuse, State.sppLost_fuse, Done.ok, Done.err] | split)

theorem State.zeroSlots_fuse (s : State) (mask : BitVec 64) :
    (State.zeroSlots s mask).fuse = s.fuse := by
  unfold State.zeroSlots
  repeat' (first | simp only [apply_ite State.fuse, apply_ite Prod.fst, apply_ite Prod.snd, apply_ite Done.st, ite_self, implies_true, forall_const, foldl_fuse, State.zeroSlot_fuse, Done.ok, Done.err] | split)

theorem State.zeroKeys_fuse (s : State) :
    (State.zeroKeys s).fuse = s.fuse := by
  unfold State.zeroKeys
  repeat' (first | simp only [apply_ite State.fuse, apply_ite Prod.fst, apply_ite Prod.snd, apply_ite Done.st, ite_self, implies_true, forall_const, foldl_fuse, State.zeroSlots_fuse, Done.ok, Done.err] | split)

theorem State.keyResult_fuse (s : State) (x : Status) (op : Nat) :
    (State.keyResult s x op).fuse = s.fuse := by
  unfold State.keyResult
  repeat' (first | simp only [apply_ite State.fuse, apply_ite Prod.fst, apply_ite Prod.snd, apply_ite Done.st, ite_self, implies_true, forall_const, foldl_fuse, State.irq_fuse, Done.ok, Done.err] | split)

theorem State.newChallenge_fuse (s : State) :
    (State.newChallenge s).fuse = s.fuse := by
  unfold State.newChallenge
  repeat' (first | simp only [apply_ite State.fuse, apply_ite Prod.fst, apply_ite Prod.snd, apply_ite Done.st, ite_self, implies_true, forall_const, foldl_fuse, State.drawn_fuse, Done.ok, Done.err] | split)

theorem State.endUnlock_fuse (s : State) :
    (State.endUnlock s).fuse = s.fuse := by
  unfold State.endUnlock
  repeat' (first | simp only [apply_ite State.fuse, apply_ite Prod.fst, apply_ite Prod.snd, apply_ite Done.st, ite_self, implies_true, forall_const, foldl_fuse, State.raise_fuse, Done.ok, Done.err] | split)

theorem State.writeEpoch_fuse (s : State) (epoch : BitVec 16) :
    (State.writeEpoch s epoch).fuse = s.fuse := by
  unfold State.writeEpoch
  repeat' (first | simp only [apply_ite State.fuse, apply_ite Prod.fst, apply_ite Prod.snd, apply_ite Done.st, ite_self, implies_true, forall_const, foldl_fuse, State.drawn_fuse, Done.ok, Done.err] | split)

theorem State.commitRecord_fuse (s : State) :
    (State.commitRecord s).fuse = s.fuse := by
  unfold State.commitRecord
  repeat' (first | simp only [apply_ite State.fuse, apply_ite Prod.fst, apply_ite Prod.snd, apply_ite Done.st, ite_self, implies_true, forall_const, foldl_fuse, Done.ok, Done.err] | split)

theorem State.newSeal_fuse (s : State) (gen : BitVec 32) :
    (State.newSeal s gen).fuse = s.fuse := by
  unfold State.newSeal
  repeat' (first | simp only [apply_ite State.fuse, apply_ite Prod.fst, apply_ite Prod.snd, apply_ite Done.st, ite_self, implies_true, forall_const, foldl_fuse, State.drawn_fuse, Done.ok, Done.err] | split)

theorem State.checkToken_fuse (s : State) (digest : Dig) (label : List Byte) (k : BitVec 264) (r : BitVec 256) (v : BitVec 256) :
    (State.checkToken s digest label k r v).2.fuse = s.fuse := by
  unfold State.checkToken
  repeat' (first | simp only [apply_ite State.fuse, apply_ite Prod.fst, apply_ite Prod.snd, apply_ite Done.st, ite_self, implies_true, forall_const, foldl_fuse, State.newChallenge_fuse, Done.ok, Done.err] | split)

theorem State.zeroRoots_fuse (s : State) :
    (State.zeroRoots s).fuse = s.fuse := by
  unfold State.zeroRoots
  repeat' (first | simp only [apply_ite State.fuse, apply_ite Prod.fst, apply_ite Prod.snd, apply_ite Done.st, ite_self, implies_true, forall_const, foldl_fuse, Done.ok, Done.err] | split)

theorem State.tamperHoldSet_fuse (s : State) :
    (State.tamperHoldSet s).fuse = s.fuse := by
  unfold State.tamperHoldSet
  repeat' (first | simp only [apply_ite State.fuse, apply_ite Prod.fst, apply_ite Prod.snd, apply_ite Done.st, ite_self, implies_true, forall_const, foldl_fuse, State.raise_fuse, Done.ok, Done.err] | split)

theorem State.calLost_fuse (s : State) :
    (State.calLost s).fuse = s.fuse := by
  unfold State.calLost
  repeat' (first | simp only [apply_ite State.fuse, apply_ite Prod.fst, apply_ite Prod.snd, apply_ite Done.st, ite_self, implies_true, forall_const, foldl_fuse, State.faultAssert_fuse, State.raise_fuse, Done.ok, Done.err] | split)

theorem State.enterRun_fuse (s : State) :
    (State.enterRun s).fuse = s.fuse := by
  unfold State.enterRun
  repeat' (first | simp only [apply_ite State.fuse, apply_ite Prod.fst, apply_ite Prod.snd, apply_ite Done.st, ite_self, implies_true, forall_const, foldl_fuse, State.endUnlock_fuse, State.react_fuse, State.setDev_fuse, Done.ok, Done.err] | split)

theorem State.autoRunNow_fuse (s : State) :
    (State.autoRunNow s).fuse = s.fuse := by
  unfold State.autoRunNow
  repeat' (first | simp only [apply_ite State.fuse, apply_ite Prod.fst, apply_ite Prod.snd, apply_ite Done.st, ite_self, implies_true, forall_const, foldl_fuse, State.enterRun_fuse, Done.ok, Done.err] | split)

theorem State.modPort_fuse (s : State) (k : Nat) (f : Port → Port) :
    (State.modPort s k f).fuse = s.fuse := by
  unfold State.modPort
  repeat' (first | simp only [apply_ite State.fuse, apply_ite Prod.fst, apply_ite Prod.snd, apply_ite Done.st, ite_self, implies_true, forall_const, foldl_fuse, Done.ok, Done.err] | split)

theorem State.modSpp_fuse (s : State) (i : Nat) (f : Spp → Spp) :
    (State.modSpp s i f).fuse = s.fuse := by
  unfold State.modSpp
  repeat' (first | simp only [apply_ite State.fuse, apply_ite Prod.fst, apply_ite Prod.snd, apply_ite Done.st, ite_self, implies_true, forall_const, foldl_fuse, Done.ok, Done.err] | split)

theorem State.setSvcCfg_fuse (s : State) (f : SvcCfg → SvcCfg) :
    (State.setSvcCfg s f).fuse = s.fuse := by
  unfold State.setSvcCfg
  repeat' (first | simp only [apply_ite State.fuse, apply_ite Prod.fst, apply_ite Prod.snd, apply_ite Done.st, ite_self, implies_true, forall_const, foldl_fuse, Done.ok, Done.err] | split)

theorem State.setPortCfg_fuse (s : State) (k : Nat) (f : PortCfg → PortCfg) :
    (State.setPortCfg s k f).fuse = s.fuse := by
  unfold State.setPortCfg
  repeat' (first | simp only [apply_ite State.fuse, apply_ite Prod.fst, apply_ite Prod.snd, apply_ite Done.st, ite_self, implies_true, forall_const, foldl_fuse, State.setSvcCfg_fuse, Done.ok, Done.err] | split)

theorem State.setSppCfg_fuse (s : State) (i : Nat) (f : SppCfg → SppCfg) :
    (State.setSppCfg s i f).fuse = s.fuse := by
  unfold State.setSppCfg
  repeat' (first | simp only [apply_ite State.fuse, apply_ite Prod.fst, apply_ite Prod.snd, apply_ite Done.st, ite_self, implies_true, forall_const, foldl_fuse, State.setSvcCfg_fuse, Done.ok, Done.err] | split)

theorem State.gmacNext_fuse (s : State) (i : Nat) (b : Bool) :
    (State.gmacNext s i b).2.fuse = s.fuse := by
  unfold State.gmacNext
  repeat' (first | simp only [apply_ite State.fuse, apply_ite Prod.fst, apply_ite Prod.snd, apply_ite Done.st, ite_self, implies_true, forall_const, foldl_fuse, State.keepOwn_fuse, State.modSpp_fuse, State.raise_fuse, Done.ok, Done.err] | split)

theorem State.signMsg_fuse (s : State) (i : Nat) (m : SvcMsg) :
    (s.signMsg i m).2.fuse = s.fuse := by
  unfold State.signMsg
  dsimp only
  repeat' split
  all_goals first
    | rfl
    | (rename_i heq
       have h2 := congrArg (fun r => r.2.fuse) heq
       simp only [State.gmacNext_fuse] at h2
       exact h2.symm)

theorem State.svcFrame_fuse (s : State) (m : SvcMsg) (commit : Bool) :
    (State.svcFrame s m commit).2.fuse = s.fuse := by
  unfold State.svcFrame
  repeat' (first | simp only [apply_ite State.fuse, apply_ite Prod.fst, apply_ite Prod.snd, apply_ite Done.st, ite_self, implies_true, forall_const, foldl_fuse, State.newId_fuse, Done.ok, Done.err] | split)

theorem State.sendSvc_fuse (s : State) (m : SvcMsg) (ins : BitVec 2) :
    (State.sendSvc s m ins).fuse = s.fuse := by
  unfold State.sendSvc
  repeat' (first | simp only [apply_ite State.fuse, apply_ite Prod.fst, apply_ite Prod.snd, apply_ite Done.st, ite_self, implies_true, forall_const, foldl_fuse, State.enqueueTx_fuse, State.svcFrame_fuse, Done.ok, Done.err] | split)

theorem State.sendAuth_fuse (s : State) (auth : Bool) (i : Nat) (m : SvcMsg) (ins : BitVec 2) :
    (s.sendAuth auth i m ins).fuse = s.fuse := by
  unfold State.sendAuth
  split
  · split <;> (rename_i heq; have h2 := congrArg (fun r => r.2.fuse) heq; simp only [State.signMsg_fuse] at h2)
    · simp only [State.sendSvc_fuse, h2]
    · exact h2.symm
  · simp only [State.sendSvc_fuse]

theorem State.commitSign_fuse (s : State) (m : SvcMsg) :
    (State.commitSign s m).2.fuse = s.fuse := by
  unfold State.commitSign
  repeat' (first | simp only [apply_ite State.fuse, apply_ite Prod.fst, apply_ite Prod.snd, apply_ite Done.st, ite_self, implies_true, forall_const, foldl_fuse, State.drawn_fuse, State.signMsg_fuse, Done.ok, Done.err] | split)

theorem State.commitGiveUp_fuse (s : State) (l : Nat) :
    (State.commitGiveUp s l).fuse = s.fuse := by
  unfold State.commitGiveUp
  repeat' (first | simp only [apply_ite State.fuse, apply_ite Prod.fst, apply_ite Prod.snd, apply_ite Done.st, ite_self, implies_true, forall_const, foldl_fuse, State.svcCount_fuse, State.svcRaise_fuse, Done.ok, Done.err] | split)

theorem State.commitMsg_fuse (s : State) (m : SvcMsg) (attempt : Nat) :
    (s.commitMsg m attempt).fuse = s.fuse := by
  unfold State.commitMsg
  dsimp only
  split
  · simp only [State.commitGiveUp_fuse]
  · split <;> (rename_i heq; have h2 := congrArg (fun r => r.2.fuse) heq; simp only [State.commitSign_fuse] at h2)
    · exact h2.symm
    · simp only [apply_ite State.fuse, State.modTLane_fuse, State.enqueueTx_fuse, State.svcFrame_fuse, ite_self, h2]

theorem State.recommit_fuse (s : State) (l : Nat) (f : TxFrame) :
    (State.recommit s l f).fuse = s.fuse := by
  unfold State.recommit
  repeat' (first | simp only [apply_ite State.fuse, apply_ite Prod.fst, apply_ite Prod.snd, apply_ite Done.st, ite_self, implies_true, forall_const, foldl_fuse, State.commitGiveUp_fuse, State.commitMsg_fuse, Done.ok, Done.err] | split)

theorem State.missSlot_fuse (s : State) (l : Nat) (b : Booking) :
    (State.missSlot s l b).fuse = s.fuse := by
  unfold State.missSlot
  repeat' (first | simp only [apply_ite State.fuse, apply_ite Prod.fst, apply_ite Prod.snd, apply_ite Done.st, ite_self, implies_true, forall_const, foldl_fuse, State.recommit_fuse, State.slotMissed_fuse, Done.ok, Done.err] | split)

theorem State.setClient_fuse (s : State) (c : Client) :
    (State.setClient s c).fuse = s.fuse := by
  unfold State.setClient
  repeat' (first | simp only [apply_ite State.fuse, apply_ite Prod.fst, apply_ite Prod.snd, apply_ite Done.st, ite_self, implies_true, forall_const, foldl_fuse, Done.ok, Done.err] | split)

theorem State.freeClient_fuse (s : State) (idx : BitVec 20) :
    (State.freeClient s idx).fuse = s.fuse := by
  unfold State.freeClient
  repeat' (first | simp only [apply_ite State.fuse, apply_ite Prod.fst, apply_ite Prod.snd, apply_ite Done.st, ite_self, implies_true, forall_const, foldl_fuse, Done.ok, Done.err] | split)

theorem State.noteClient_fuse (s : State) (l : Nat) (kind : Nat) (r : SvcReq) (sppIdx : Nat) :
    (State.noteClient s l kind r sppIdx).2.fuse = s.fuse := by
  unfold State.noteClient
  repeat' (first | simp only [apply_ite State.fuse, apply_ite Prod.fst, apply_ite Prod.snd, apply_ite Done.st, ite_self, implies_true, forall_const, foldl_fuse, State.setClient_fuse, State.svcCount_fuse, State.svcRaise_fuse, Done.ok, Done.err] | split)

theorem State.takeToken_fuse (s : State) (c : Client) :
    (State.takeToken s c).2.fuse = s.fuse := by
  unfold State.takeToken
  repeat' (first | simp only [apply_ite State.fuse, apply_ite Prod.fst, apply_ite Prod.snd, apply_ite Done.st, ite_self, implies_true, forall_const, foldl_fuse, State.setClient_fuse, State.svcCount_fuse, State.svcRaise_fuse, Done.ok, Done.err] | split)

theorem specSvcQueryStatus_fuse (p : Packet) (s : State) :
    (specSvcQueryStatus.body p s).st.fuse = s.fuse := by
  unfold specSvcQueryStatus
  repeat' (first | simp only [apply_ite State.fuse, apply_ite Prod.fst, apply_ite Prod.snd, apply_ite Done.st, ite_self, implies_true, forall_const, foldl_fuse, answer, gnsBody, keyBody, pairBody, svcBody, ticBody, answer_fuse, Done.ok, Done.err] | split)

theorem specSvcQueryClient_fuse (p : Packet) (s : State) :
    (specSvcQueryClient.body p s).st.fuse = s.fuse := by
  unfold specSvcQueryClient
  repeat' (first | simp only [apply_ite State.fuse, apply_ite Prod.fst, apply_ite Prod.snd, apply_ite Done.st, ite_self, implies_true, forall_const, foldl_fuse, answer, gnsBody, keyBody, pairBody, svcBody, ticBody, answer_fuse, Done.ok, Done.err] | split)

theorem specSvcSetPtpPort_fuse (p : Packet) (s : State) :
    (specSvcSetPtpPort.body p s).st.fuse = s.fuse := by
  unfold specSvcSetPtpPort
  repeat' (first | simp only [apply_ite State.fuse, apply_ite Prod.fst, apply_ite Prod.snd, apply_ite Done.st, ite_self, implies_true, forall_const, foldl_fuse, answer, gnsBody, keyBody, pairBody, svcBody, ticBody, Done.err_fuse, Done.ok_fuse, State.setPortCfg_fuse, Done.ok, Done.err] | split)

theorem State.setProfile_fuse (s : State) (l : Nat) (pr : BitVec 2) :
    (State.setProfile s l pr).fuse = s.fuse := by
  unfold State.setProfile
  repeat' (first | simp only [apply_ite State.fuse, apply_ite Prod.fst, apply_ite Prod.snd, apply_ite Done.st, ite_self, implies_true, forall_const, foldl_fuse, State.setPortCfg_fuse, Done.ok, Done.err] | split)

theorem specSvcSetProfile_fuse (p : Packet) (s : State) :
    (specSvcSetProfile.body p s).st.fuse = s.fuse := by
  unfold specSvcSetProfile
  repeat' (first | simp only [apply_ite State.fuse, apply_ite Prod.fst, apply_ite Prod.snd, apply_ite Done.st, ite_self, implies_true, forall_const, foldl_fuse, answer, gnsBody, keyBody, pairBody, svcBody, ticBody, Done.err_fuse, Done.ok_fuse, State.setProfile_fuse, State.setSvcCfg_fuse, State.svcEval_fuse, Done.ok, Done.err] | split)

theorem State.loadPos_fuse (s : State) (i : Nat) (b : Bool) (id_ : BitVec 32) (slot : BitVec 8) (alg : BitVec 2) :
    (State.loadPos s i b id_ slot alg).fuse = s.fuse := by
  unfold State.loadPos
  repeat' (first | simp only [apply_ite State.fuse, apply_ite Prod.fst, apply_ite Prod.snd, apply_ite Done.st, ite_self, implies_true, forall_const, foldl_fuse, State.modSpp_fuse, State.setSppCfg_fuse, Done.ok, Done.err] | split)

theorem specSvcSetAuth_fuse (p : Packet) (s : State) :
    (specSvcSetAuth.body p s).st.fuse = s.fuse := by
  unfold specSvcSetAuth
  repeat' (first | simp only [apply_ite State.fuse, apply_ite Prod.fst, apply_ite Prod.snd, apply_ite Done.st, ite_self, implies_true, forall_const, foldl_fuse, answer, gnsBody, keyBody, pairBody, svcBody, ticBody, Done.err_fuse, Done.ok_fuse, State.loadPos_fuse, State.modSpp_fuse, State.setSppCfg_fuse, State.setSvcCfg_fuse, Done.ok, Done.err] | split)

theorem specSvcSetNtp_fuse (p : Packet) (s : State) :
    (specSvcSetNtp.body p s).st.fuse = s.fuse := by
  unfold specSvcSetNtp
  repeat' (first | simp only [apply_ite State.fuse, apply_ite Prod.fst, apply_ite Prod.snd, apply_ite Done.st, ite_self, implies_true, forall_const, foldl_fuse, answer, gnsBody, keyBody, pairBody, svcBody, ticBody, Done.ok_fuse, State.setSvcCfg_fuse, Done.ok, Done.err] | split)

theorem specSvcLoadCookieKey_fuse (p : Packet) (s : State) :
    (specSvcLoadCookieKey.body p s).st.fuse = s.fuse := by
  unfold specSvcLoadCookieKey
  repeat' (first | simp only [apply_ite State.fuse, apply_ite Prod.fst, apply_ite Prod.snd, apply_ite Done.st, ite_self, implies_true, forall_const, foldl_fuse, answer, gnsBody, keyBody, pairBody, svcBody, ticBody, Done.err_fuse, Done.ok_fuse, Done.ok, Done.err] | split)

theorem specSvcRetireCookieKey_fuse (p : Packet) (s : State) :
    (specSvcRetireCookieKey.body p s).st.fuse = s.fuse := by
  unfold specSvcRetireCookieKey
  repeat' (first | simp only [apply_ite State.fuse, apply_ite Prod.fst, apply_ite Prod.snd, apply_ite Done.st, ite_self, implies_true, forall_const, foldl_fuse, answer, gnsBody, keyBody, pairBody, svcBody, ticBody, Done.err_fuse, Done.ok_fuse, Done.ok, Done.err] | split)

theorem specSvcSetGate_fuse (p : Packet) (s : State) :
    (specSvcSetGate.body p s).st.fuse = s.fuse := by
  unfold specSvcSetGate
  repeat' (first | simp only [apply_ite State.fuse, apply_ite Prod.fst, apply_ite Prod.snd, apply_ite Done.st, ite_self, implies_true, forall_const, foldl_fuse, answer, gnsBody, keyBody, pairBody, svcBody, ticBody, Done.ok_fuse, State.setSvcCfg_fuse, State.svcClassesSet_fuse, Done.ok, Done.err] | split)

theorem specSvcSetRateLimit_fuse (p : Packet) (s : State) :
    (specSvcSetRateLimit.body p s).st.fuse = s.fuse := by
  unfold specSvcSetRateLimit
  repeat' (first | simp only [apply_ite State.fuse, apply_ite Prod.fst, apply_ite Prod.snd, apply_ite Done.st, ite_self, implies_true, forall_const, foldl_fuse, answer, gnsBody, keyBody, pairBody, svcBody, ticBody, Done.ok_fuse, State.setSvcCfg_fuse, Done.ok, Done.err] | split)

theorem specSvcClientFlush_fuse (p : Packet) (s : State) :
    (specSvcClientFlush.body p s).st.fuse = s.fuse := by
  unfold specSvcClientFlush
  repeat' (first | simp only [apply_ite State.fuse, apply_ite Prod.fst, apply_ite Prod.snd, apply_ite Done.st, ite_self, implies_true, forall_const, foldl_fuse, answer, gnsBody, keyBody, pairBody, svcBody, ticBody, Done.ok_fuse, Done.ok, Done.err] | split)

theorem specSvcSetBoundTlv_fuse (p : Packet) (s : State) :
    (specSvcSetBoundTlv.body p s).st.fuse = s.fuse := by
  unfold specSvcSetBoundTlv
  repeat' (first | simp only [apply_ite State.fuse, apply_ite Prod.fst, apply_ite Prod.snd, apply_ite Done.st, ite_self, implies_true, forall_const, foldl_fuse, answer, gnsBody, keyBody, pairBody, svcBody, ticBody, Done.ok_fuse, State.setSvcCfg_fuse, Done.ok, Done.err] | split)

theorem State.otherDiscard_fuse (s : State) (l : Nat) :
    (State.otherDiscard s l).fuse = s.fuse := by
  unfold State.otherDiscard
  repeat' (first | simp only [apply_ite State.fuse, apply_ite Prod.fst, apply_ite Prod.snd, apply_ite Done.st, ite_self, implies_true, forall_const, foldl_fuse, State.svcCount_fuse, Done.ok, Done.err] | split)

theorem State.engineTake_fuse (s : State) (l : Nat) : (s.engineTake l).1.fuse = s.fuse := by
  unfold State.engineTake
  dsimp only
  split <;> simp only [State.svcRaise_fuse, State.svcCount_fuse, State.modPort_fuse]

theorem State.intake_fuse (s : State) (l : Nat) (r : SvcReq) :
    (State.intake s l r).1.fuse = s.fuse := by
  unfold State.intake
  repeat' (first | simp only [apply_ite State.fuse, apply_ite Prod.fst, apply_ite Prod.snd, apply_ite Done.st, ite_self, implies_true, forall_const, foldl_fuse, State.admitClient_fuse, State.engineTake_fuse, State.ethCount_fuse, Done.ok, Done.err] | split)

theorem State.authFail_fuse (s : State) (l : Nat) :
    (State.authFail s l).fuse = s.fuse := by
  unfold State.authFail
  repeat' (first | simp only [apply_ite State.fuse, apply_ite Prod.fst, apply_ite Prod.snd, apply_ite Done.st, ite_self, implies_true, forall_const, foldl_fuse, State.svcCount_fuse, State.svcRaise_fuse, Done.ok, Done.err] | split)

theorem State.ptpIntake_fuse (s : State) (l : Nat) (r : SvcReq) :
    (State.ptpIntake s l r).1.fuse = s.fuse := by
  unfold State.ptpIntake
  repeat' (first | simp only [apply_ite State.fuse, apply_ite Prod.fst, apply_ite Prod.snd, apply_ite Done.st, ite_self, implies_true, forall_const, foldl_fuse, State.authFail_fuse, State.ethCount_fuse, State.intake_fuse, State.otherDiscard_fuse, Done.ok, Done.err] | split)

theorem State.grantDeny_fuse (s : State) (l : Nat) (r : SvcReq) (g : UniReq) :
    (State.grantDeny s l r g).fuse = s.fuse := by
  unfold State.grantDeny
  repeat' (first | simp only [apply_ite State.fuse, apply_ite Prod.fst, apply_ite Prod.snd, apply_ite Done.st, ite_self, implies_true, forall_const, foldl_fuse, State.sendAuth_fuse, State.svcCount_fuse, State.svcRaise_fuse, Done.ok, Done.err] | split)

theorem State.grantOne_fuse (s : State) (l : Nat) (r : SvcReq) (c : Client) (g : UniReq) :
    (State.grantOne s l r c g).fuse = s.fuse := by
  unfold State.grantOne
  repeat' (first | simp only [apply_ite State.fuse, apply_ite Prod.fst, apply_ite Prod.snd, apply_ite Done.st, ite_self, implies_true, forall_const, foldl_fuse, State.grantDeny_fuse, State.otherDiscard_fuse, State.sendAuth_fuse, State.setClient_fuse, Done.ok, Done.err] | split)

theorem State.cancelOne_fuse (s : State) (l : Nat) (r : SvcReq) (ty : Nat) :
    (State.cancelOne s l r ty).fuse = s.fuse := by
  unfold State.cancelOne
  repeat' (first | simp only [apply_ite State.fuse, apply_ite Prod.fst, apply_ite Prod.snd, apply_ite Done.st, ite_self, implies_true, forall_const, foldl_fuse, State.otherDiscard_fuse, State.sendAuth_fuse, State.setClient_fuse, Done.ok, Done.err] | split)

theorem State.kodRate_fuse (s : State) (l : Nat) (r : SvcReq) :
    (State.kodRate s l r).fuse = s.fuse := by
  unfold State.kodRate
  repeat' (first | simp only [apply_ite State.fuse, apply_ite Prod.fst, apply_ite Prod.snd, apply_ite Done.st, ite_self, implies_true, forall_const, foldl_fuse, State.sendSvc_fuse, State.setClient_fuse, Done.ok, Done.err] | split)

theorem State.ntsNak_fuse (s : State) (l : Nat) (r : SvcReq) :
    (State.ntsNak s l r).fuse = s.fuse := by
  unfold State.ntsNak
  repeat' (first | simp only [apply_ite State.fuse, apply_ite Prod.fst, apply_ite Prod.snd, apply_ite Done.st, ite_self, implies_true, forall_const, foldl_fuse, State.sendSvc_fuse, State.setClient_fuse, State.svcCount_fuse, State.svcRaise_fuse, Done.ok, Done.err] | split)

theorem State.mintJar_fuse (s : State) (e : Cookie) (c2s s2c : Dig) (n : Nat) :
    (s.mintJar e c2s s2c n).2.fuse = s.fuse := by
  induction n with
  | zero => rfl
  | succ n ih => unfold State.mintJar; simp only [State.drawn_fuse, ih]

theorem State.ntsAnswer_fuse (s : State) (l : Nat) (t : Stamp) (r : SvcReq) (q : NtsReq) (i : Nat) (c2s : Dig) (s2c : Dig) :
    (State.ntsAnswer s l t r q i c2s s2c).fuse = s.fuse := by
  unfold State.ntsAnswer
  repeat' (first | simp only [apply_ite State.fuse, apply_ite Prod.fst, apply_ite Prod.snd, apply_ite Done.st, ite_self, implies_true, forall_const, foldl_fuse, State.commitMsg_fuse, State.mintJar_fuse, Done.ok, Done.err] | split)

theorem State.ntsCheck_fuse (s : State) (l : Nat) (t : Stamp) (r : SvcReq) (q : NtsReq) :
    (State.ntsCheck s l t r q).fuse = s.fuse := by
  unfold State.ntsCheck
  repeat' (first | simp only [apply_ite State.fuse, apply_ite Prod.fst, apply_ite Prod.snd, apply_ite Done.st, ite_self, implies_true, forall_const, foldl_fuse, State.ntsAnswer_fuse, State.ntsNak_fuse, Done.ok, Done.err] | split)

theorem State.followUp_fuse (s : State) (k : Nat) (x : SyncSent) :
    (State.followUp s k x).fuse = s.fuse := by
  unfold State.followUp
  repeat' (first | simp only [apply_ite State.fuse, apply_ite Prod.fst, apply_ite Prod.snd, apply_ite Done.st, ite_self, implies_true, forall_const, foldl_fuse, State.sendAuth_fuse, Done.ok, Done.err] | split)

theorem State.keyRoll_fuse (s : State) (i : Nat) :
    (State.keyRoll s i).fuse = s.fuse := by
  unfold State.keyRoll
  repeat' (first | simp only [apply_ite State.fuse, apply_ite Prod.fst, apply_ite Prod.snd, apply_ite Done.st, ite_self, implies_true, forall_const, foldl_fuse, State.commitCsp_fuse, State.keepOwn_fuse, State.modSpp_fuse, State.raise_fuse, State.setSppCfg_fuse, Done.ok, Done.err] | split)

theorem State.rollsDue_fuse (s : State) :
    (State.rollsDue s).fuse = s.fuse := by
  unfold State.rollsDue
  repeat' (first | simp only [apply_ite State.fuse, apply_ite Prod.fst, apply_ite Prod.snd, apply_ite Done.st, ite_self, implies_true, forall_const, foldl_fuse, State.keyRoll_fuse, Done.ok, Done.err] | split)

theorem State.dropOld_fuse (s : State) (i : Nat) :
    (State.dropOld s i).fuse = s.fuse := by
  unfold State.dropOld
  repeat' (first | simp only [apply_ite State.fuse, apply_ite Prod.fst, apply_ite Prod.snd, apply_ite Done.st, ite_self, implies_true, forall_const, foldl_fuse, State.commitCsp_fuse, State.keepOwn_fuse, State.modSpp_fuse, State.setSppCfg_fuse, Done.ok, Done.err] | split)

theorem State.lastCommit_fuse (s : State) (l : Nat) (f : TxFrame) (S : Nat) (res : Int) (aborted : Bool) :
    (State.lastCommit s l f S res aborted).fuse = s.fuse := by
  unfold State.lastCommit
  repeat' (first | simp only [apply_ite State.fuse, apply_ite Prod.fst, apply_ite Prod.snd, apply_ite Done.st, ite_self, implies_true, forall_const, foldl_fuse, Done.ok, Done.err] | split)

theorem State.commitAbort_fuse (s : State) (l : Nat) (f : TxFrame) :
    (State.commitAbort s l f).fuse = s.fuse := by
  unfold State.commitAbort
  repeat' (first | simp only [apply_ite State.fuse, apply_ite Prod.fst, apply_ite Prod.snd, apply_ite Done.st, ite_self, implies_true, forall_const, foldl_fuse, State.ethCount_fuse, State.modTLane_fuse, State.recommit_fuse, State.svcCount_fuse, State.svcRaise_fuse, Done.ok, Done.err] | split)

theorem State.commitDecide_fuse (s : State) (l : Nat) (f : TxFrame) (S : Nat) (res : Int) :
    (State.commitDecide s l f S res).fuse = s.fuse := by
  unfold State.commitDecide
  repeat' (first | simp only [apply_ite State.fuse, apply_ite Prod.fst, apply_ite Prod.snd, apply_ite Done.st, ite_self, implies_true, forall_const, foldl_fuse, Done.ok_fuse, State.commitAbort_fuse, State.lastCommit_fuse, State.modTLane_fuse, State.svcCount_fuse, State.txDone_fuse, Done.ok, Done.err] | split)

theorem State.epochRegs_fuse (s : State) :
    (State.epochRegs s).fuse = s.fuse := by
  unfold State.epochRegs
  repeat' (first | simp only [apply_ite State.fuse, apply_ite Prod.fst, apply_ite Prod.snd, apply_ite Done.st, ite_self, implies_true, forall_const, foldl_fuse, Done.ok, Done.err] | split)

theorem State.deriveUds_fuse (s : State) :
    (State.deriveUds s).fuse = s.fuse := by
  unfold State.deriveUds
  repeat' (first | simp only [apply_ite State.fuse, apply_ite Prod.fst, apply_ite Prod.snd, apply_ite Done.st, ite_self, implies_true, forall_const, foldl_fuse, Done.ok, Done.err] | split)

theorem State.deriveProduction_fuse (s : State) :
    (State.deriveProduction s).fuse = s.fuse := by
  unfold State.deriveProduction
  repeat' (first | simp only [apply_ite State.fuse, apply_ite Prod.fst, apply_ite Prod.snd, apply_ite Done.st, ite_self, implies_true, forall_const, foldl_fuse, State.epochRegs_fuse, Done.ok, Done.err] | split)

theorem State.deriveTest_fuse (s : State) :
    (State.deriveTest s).fuse = s.fuse := by
  unfold State.deriveTest
  repeat' (first | simp only [apply_ite State.fuse, apply_ite Prod.fst, apply_ite Prod.snd, apply_ite Done.st, ite_self, implies_true, forall_const, foldl_fuse, Done.ok, Done.err] | split)

theorem State.installKeyed_fuse (s : State) :
    (State.installKeyed s).fuse = s.fuse := by
  unfold State.installKeyed
  repeat' (first | simp only [apply_ite State.fuse, apply_ite Prod.fst, apply_ite Prod.snd, apply_ite Done.st, ite_self, implies_true, forall_const, foldl_fuse, State.installLsk_fuse, Done.ok, Done.err] | split)

theorem State.reinstallLsk_fuse (s : State) :
    (State.reinstallLsk s).fuse = s.fuse := by
  unfold State.reinstallLsk
  repeat' (first | simp only [apply_ite State.fuse, apply_ite Prod.fst, apply_ite Prod.snd, apply_ite Done.st, ite_self, implies_true, forall_const, foldl_fuse, State.useLsk_fuse, Done.ok, Done.err] | split)

theorem specKeyQuerySlots_fuse (p : Packet) (s : State) :
    (specKeyQuerySlots.body p s).st.fuse = s.fuse := by
  unfold specKeyQuerySlots
  repeat' (first | simp only [apply_ite State.fuse, apply_ite Prod.fst, apply_ite Prod.snd, apply_ite Done.st, ite_self, implies_true, forall_const, foldl_fuse, answer, gnsBody, keyBody, pairBody, svcBody, ticBody, answer_fuse, Done.ok, Done.err] | split)

theorem specKeyQueryEpoch_fuse (p : Packet) (s : State) :
    (specKeyQueryEpoch.body p s).st.fuse = s.fuse := by
  unfold specKeyQueryEpoch
  repeat' (first | simp only [apply_ite State.fuse, apply_ite Prod.fst, apply_ite Prod.snd, apply_ite Done.st, ite_self, implies_true, forall_const, foldl_fuse, answer, gnsBody, keyBody, pairBody, svcBody, ticBody, answer_fuse, Done.ok, Done.err] | split)

theorem State.startKeyOp_fuse (s : State) (o : KeyOp) :
    (State.startKeyOp s o).st.fuse = s.fuse := by
  unfold State.startKeyOp
  repeat' (first | simp only [apply_ite State.fuse, apply_ite Prod.fst, apply_ite Prod.snd, apply_ite Done.st, ite_self, implies_true, forall_const, foldl_fuse, Done.ok_fuse, Done.ok, Done.err] | split)

theorem State.slotLoaded_fuse (s : State) (k : Nat) :
    (State.slotLoaded s k).fuse = s.fuse := by
  unfold State.slotLoaded
  repeat' (first | simp only [apply_ite State.fuse, apply_ite Prod.fst, apply_ite Prod.snd, apply_ite Done.st, ite_self, implies_true, forall_const, foldl_fuse, Done.ok, Done.err] | split)

theorem State.fillSlot_fuse (s : State) (k : Nat) (x : KeySlot) :
    (State.fillSlot s k x).fuse = s.fuse := by
  unfold State.fillSlot
  repeat' (first | simp only [apply_ite State.fuse, apply_ite Prod.fst, apply_ite Prod.snd, apply_ite Done.st, ite_self, implies_true, forall_const, foldl_fuse, State.slotLoaded_fuse, Done.ok, Done.err] | split)

theorem State.filled_fuse (s : State) (k : Nat) (x : KeySlot) :
    (State.filled s k x).st.fuse = s.fuse := by
  unfold State.filled
  repeat' (first | simp only [apply_ite State.fuse, apply_ite Prod.fst, apply_ite Prod.snd, apply_ite Done.st, ite_self, implies_true, forall_const, foldl_fuse, Done.ok_fuse, State.fillSlot_fuse, Done.ok, Done.err] | split)

theorem State.keyAuthFail_fuse (s : State) (reason : List W32) :
    (State.keyAuthFail s reason).st.fuse = s.fuse := by
  unfold State.keyAuthFail
  repeat' (first | simp only [apply_ite State.fuse, apply_ite Prod.fst, apply_ite Prod.snd, apply_ite Done.st, ite_self, implies_true, forall_const, foldl_fuse, State.authFail_fuse, State.irq_fuse, Done.ok, Done.err] | split)

theorem State.loadFlacon_fuse (s : State) (k : Nat) (b : List Byte) :
    (State.loadFlacon s k b).st.fuse = s.fuse := by
  unfold State.loadFlacon
  repeat' (first | simp only [apply_ite State.fuse, apply_ite Prod.fst, apply_ite Prod.snd, apply_ite Done.st, ite_self, implies_true, forall_const, foldl_fuse, Done.err_fuse, State.filled_fuse, State.keyAuthFail_fuse, Done.ok, Done.err] | split)

theorem State.importKey_fuse (s : State) (k : Nat) (p : Packet) :
    (State.importKey s k p).st.fuse = s.fuse := by
  unfold State.importKey
  repeat' (first | simp only [apply_ite State.fuse, apply_ite Prod.fst, apply_ite Prod.snd, apply_ite Done.st, ite_self, implies_true, forall_const, foldl_fuse, Done.err_fuse, State.filled_fuse, Done.ok, Done.err] | split)

theorem specKeyLoadFlacon_fuse (p : Packet) (s : State) :
    (specKeyLoadFlacon.body p s).st.fuse = s.fuse := by
  unfold specKeyLoadFlacon
  repeat' (first | simp only [apply_ite State.fuse, apply_ite Prod.fst, apply_ite Prod.snd, apply_ite Done.st, ite_self, implies_true, forall_const, foldl_fuse, answer, gnsBody, keyBody, pairBody, svcBody, ticBody, State.importKey_fuse, State.loadFlacon_fuse, Done.ok, Done.err] | split)

theorem specKeyWrap_fuse (p : Packet) (s : State) :
    (specKeyWrap.body p s).st.fuse = s.fuse := by
  unfold specKeyWrap
  repeat' (first | simp only [apply_ite State.fuse, apply_ite Prod.fst, apply_ite Prod.snd, apply_ite Done.st, ite_self, implies_true, forall_const, foldl_fuse, answer, gnsBody, keyBody, pairBody, svcBody, ticBody, Done.err_fuse, Done.ok_fuse, State.drawn_fuse, State.keepOwn_fuse, State.raise_fuse, Done.ok, Done.err] | split)

theorem specKeyDerive_fuse (p : Packet) (s : State) :
    (specKeyDerive.body p s).st.fuse = s.fuse := by
  unfold specKeyDerive
  repeat' (first | simp only [apply_ite State.fuse, apply_ite Prod.fst, apply_ite Prod.snd, apply_ite Done.st, ite_self, implies_true, forall_const, foldl_fuse, answer, gnsBody, keyBody, pairBody, svcBody, ticBody, Done.err_fuse, State.filled_fuse, Done.ok, Done.err] | split)

theorem specKeyZero_fuse (p : Packet) (s : State) :
    (specKeyZero.body p s).st.fuse = s.fuse := by
  unfold specKeyZero
  repeat' (first | simp only [apply_ite State.fuse, apply_ite Prod.fst, apply_ite Prod.snd, apply_ite Done.st, ite_self, implies_true, forall_const, foldl_fuse, answer, gnsBody, keyBody, pairBody, svcBody, ticBody, Done.err_fuse, Done.ok_fuse, State.zeroSlots_fuse, Done.ok, Done.err] | split)

theorem State.commitEpoch_fuse (s : State) :
    (State.commitEpoch s).fuse = s.fuse := by
  unfold State.commitEpoch
  repeat' (first | simp only [apply_ite State.fuse, apply_ite Prod.fst, apply_ite Prod.snd, apply_ite Done.st, ite_self, implies_true, forall_const, foldl_fuse, State.commitRecord_fuse, State.deriveProduction_fuse, State.raise_fuse, Done.ok, Done.err] | split)

theorem specKeyEpochUpdate_fuse (p : Packet) (s : State) :
    (specKeyEpochUpdate.body p s).st.fuse = s.fuse := by
  unfold specKeyEpochUpdate
  repeat' (first | simp only [apply_ite State.fuse, apply_ite Prod.fst, apply_ite Prod.snd, apply_ite Done.st, ite_self, implies_true, forall_const, foldl_fuse, answer, gnsBody, keyBody, pairBody, svcBody, ticBody, Done.err_fuse, State.startKeyOp_fuse, State.writeEpoch_fuse, Done.ok, Done.err] | split)

theorem specKeyAttest_fuse (p : Packet) (s : State) :
    (specKeyAttest.body p s).st.fuse = s.fuse := by
  unfold specKeyAttest
  repeat' (first | simp only [apply_ite State.fuse, apply_ite Prod.fst, apply_ite Prod.snd, apply_ite Done.st, ite_self, implies_true, forall_const, foldl_fuse, answer, gnsBody, keyBody, pairBody, svcBody, ticBody, Done.err_fuse, State.startKeyOp_fuse, Done.ok, Done.err] | split)

theorem specKeyProvision_fuse (p : Packet) (s : State) :
    (specKeyProvision.body p s).st.fuse = s.fuse := by
  unfold specKeyProvision
  repeat' (first | simp only [apply_ite State.fuse, apply_ite Prod.fst, apply_ite Prod.snd, apply_ite Done.st, ite_self, implies_true, forall_const, foldl_fuse, answer, gnsBody, keyBody, pairBody, svcBody, ticBody, Done.err_fuse, State.startKeyOp_fuse, Done.ok, Done.err] | split)

theorem specKeyLcAdvance_fuse (p : Packet) (s : State) :
    (specKeyLcAdvance.body p s).st.fuse = s.fuse := by
  unfold specKeyLcAdvance
  repeat' (first | simp only [apply_ite State.fuse, apply_ite Prod.fst, apply_ite Prod.snd, apply_ite Done.st, ite_self, implies_true, forall_const, foldl_fuse, answer, gnsBody, keyBody, pairBody, svcBody, ticBody, Done.err_fuse, State.startKeyOp_fuse, Done.ok, Done.err] | split)

theorem specKeyDebugEnter_fuse (p : Packet) (s : State) :
    (specKeyDebugEnter.body p s).st.fuse = s.fuse := by
  unfold specKeyDebugEnter
  repeat' (first | simp only [apply_ite State.fuse, apply_ite Prod.fst, apply_ite Prod.snd, apply_ite Done.st, ite_self, implies_true, forall_const, foldl_fuse, answer, gnsBody, keyBody, pairBody, svcBody, ticBody, Done.err_fuse, State.startKeyOp_fuse, Done.ok, Done.err] | split)

theorem specKeyDebugExit_fuse (p : Packet) (s : State) :
    (specKeyDebugExit.body p s).st.fuse = s.fuse := by
  unfold specKeyDebugExit
  repeat' (first | simp only [apply_ite State.fuse, apply_ite Prod.fst, apply_ite Prod.snd, apply_ite Done.st, ite_self, implies_true, forall_const, foldl_fuse, answer, gnsBody, keyBody, pairBody, svcBody, ticBody, State.startKeyOp_fuse, Done.ok, Done.err] | split)

theorem State.attestDone_fuse (s : State) (nonce : BitVec 256) :
    (State.attestDone s nonce).fuse = s.fuse := by
  unfold State.attestDone
  repeat' (first | simp only [apply_ite State.fuse, apply_ite Prod.fst, apply_ite Prod.snd, apply_ite Done.st, ite_self, implies_true, forall_const, foldl_fuse, Done.ok_fuse, State.drawn_fuse, State.keyResult_fuse, Done.ok, Done.err] | split)

theorem State.provisionAgain_fuse (s : State) :
    (State.provisionAgain s).fuse = s.fuse := by
  unfold State.provisionAgain
  repeat' (first | simp only [apply_ite State.fuse, apply_ite Prod.fst, apply_ite Prod.snd, apply_ite Done.st, ite_self, implies_true, forall_const, foldl_fuse, Done.ok_fuse, State.autoRunNow_fuse, State.commitEpoch_fuse, State.deriveUds_fuse, State.faultEnd_fuse, State.installKeyed_fuse, State.keyResult_fuse, State.newSeal_fuse, State.writeEpoch_fuse, Done.ok, Done.err] | split)

theorem State.debugEnterDone_fuse (s : State) (k : BitVec 264) (r : BitVec 256) (v : BitVec 256) :
    (State.debugEnterDone s k r v).fuse = s.fuse := by
  unfold State.debugEnterDone
  repeat' (first | simp only [apply_ite State.fuse, apply_ite Prod.fst, apply_ite Prod.snd, apply_ite Done.st, ite_self, implies_true, forall_const, foldl_fuse, Done.ok_fuse, State.authFail_fuse, State.checkToken_fuse, State.deriveTest_fuse, State.installKeyed_fuse, State.irq_fuse, State.keyResult_fuse, State.lcChanged_fuse, State.zeroKeys_fuse, Done.ok, Done.err] | split)

theorem State.debugExitDone_fuse (s : State) :
    (State.debugExitDone s).fuse = s.fuse := by
  unfold State.debugExitDone
  repeat' (first | simp only [apply_ite State.fuse, apply_ite Prod.fst, apply_ite Prod.snd, apply_ite Done.st, ite_self, implies_true, forall_const, foldl_fuse, Done.ok_fuse, State.deriveProduction_fuse, State.installKeyed_fuse, State.keyResult_fuse, State.lcChanged_fuse, State.zeroSlots_fuse, Done.ok, Done.err] | split)

theorem State.modBlt_fuse (s : State) (f : Blt → Blt) :
    (State.modBlt s f).fuse = s.fuse := by
  unfold State.modBlt
  repeat' (first | simp only [apply_ite State.fuse, apply_ite Prod.fst, apply_ite Prod.snd, apply_ite Done.st, ite_self, implies_true, forall_const, foldl_fuse, Done.ok, Done.err] | split)

theorem specSysBltUnlock_fuse (p : Packet) (s : State) :
    (specSysBltUnlock.body p s).st.fuse = s.fuse := by
  unfold specSysBltUnlock
  repeat' (first | simp only [apply_ite State.fuse, apply_ite Prod.fst, apply_ite Prod.snd, apply_ite Done.st, ite_self, implies_true, forall_const, foldl_fuse, answer, gnsBody, keyBody, pairBody, svcBody, ticBody, Done.err_fuse, Done.ok_fuse, State.authFail_fuse, State.endUnlock_fuse, State.modBlt_fuse, State.newChallenge_fuse, State.raise_fuse, answer_fuse, Done.ok, Done.err] | split)

theorem specSysBltSelect_fuse (p : Packet) (s : State) :
    (specSysBltSelect.body p s).st.fuse = s.fuse := by
  unfold specSysBltSelect
  repeat' (first | simp only [apply_ite State.fuse, apply_ite Prod.fst, apply_ite Prod.snd, apply_ite Done.st, ite_self, implies_true, forall_const, foldl_fuse, answer, gnsBody, keyBody, pairBody, svcBody, ticBody, Done.err_fuse, Done.ok_fuse, State.modBlt_fuse, Done.ok, Done.err] | split)

theorem specSysBistRun_fuse (p : Packet) (s : State) :
    (specSysBistRun.body p s).st.fuse = s.fuse := by
  unfold specSysBistRun
  repeat' (first | simp only [apply_ite State.fuse, apply_ite Prod.fst, apply_ite Prod.snd, apply_ite Done.st, ite_self, implies_true, forall_const, foldl_fuse, answer, gnsBody, keyBody, pairBody, svcBody, ticBody, Done.err_fuse, Done.ok_fuse, State.modBlt_fuse, Done.ok, Done.err] | split)

theorem State.bistGns_fuse (s : State) (fails : Bool) :
    (State.bistGns s fails).fuse = s.fuse := by
  unfold State.bistGns
  repeat' (first | simp only [apply_ite State.fuse, apply_ite Prod.fst, apply_ite Prod.snd, apply_ite Done.st, ite_self, implies_true, forall_const, foldl_fuse, State.bankTest_fuse, State.drawn_fuse, Done.ok, Done.err] | split)

theorem State.bistEffects_fuse (s : State) (m : BitVec 6) (fail : BitVec 6) :
    (State.bistEffects s m fail).fuse = s.fuse := by
  unfold State.bistEffects
  repeat' (first | simp only [apply_ite State.fuse, apply_ite Prod.fst, apply_ite Prod.snd, apply_ite Done.st, ite_self, implies_true, forall_const, foldl_fuse, State.bistClears_fuse, State.bistGns_fuse, Done.ok, Done.err] | split)

theorem State.modOch_fuse (s : State) (n : Nat) (f : OutCh → OutCh) :
    (State.modOch s n f).fuse = s.fuse := by
  unfold State.modOch
  repeat' (first | simp only [apply_ite State.fuse, apply_ite Prod.fst, apply_ite Prod.snd, apply_ite Done.st, ite_self, implies_true, forall_const, foldl_fuse, Done.ok, Done.err] | split)

theorem State.modOtp_fuse (s : State) (m : Nat) (f : Tp → Tp) :
    (State.modOtp s m f).fuse = s.fuse := by
  unfold State.modOtp
  repeat' (first | simp only [apply_ite State.fuse, apply_ite Prod.fst, apply_ite Prod.snd, apply_ite Done.st, ite_self, implies_true, forall_const, foldl_fuse, Done.ok, Done.err] | split)

theorem State.modOtod_fuse (s : State) (k : Nat) (f : Tod → Tod) :
    (State.modOtod s k f).fuse = s.fuse := by
  unfold State.modOtod
  repeat' (first | simp only [apply_ite State.fuse, apply_ite Prod.fst, apply_ite Prod.snd, apply_ite Done.st, ite_self, implies_true, forall_const, foldl_fuse, Done.ok, Done.err] | split)

theorem State.modSyn_fuse (s : State) (k : Nat) (f : Syn → Syn) :
    (State.modSyn s k f).fuse = s.fuse := by
  unfold State.modSyn
  repeat' (first | simp only [apply_ite State.fuse, apply_ite Prod.fst, apply_ite Prod.snd, apply_ite Done.st, ite_self, implies_true, forall_const, foldl_fuse, Done.ok, Done.err] | split)

theorem State.setOutCfg_fuse (s : State) (f : OutCfg → OutCfg) :
    (State.setOutCfg s f).fuse = s.fuse := by
  unfold State.setOutCfg
  repeat' (first | simp only [apply_ite State.fuse, apply_ite Prod.fst, apply_ite Prod.snd, apply_ite Done.st, ite_self, implies_true, forall_const, foldl_fuse, Done.ok, Done.err] | split)

theorem State.glide_fuse (s : State) (n : Nat) (r : Int) :
    (State.glide s n r).fuse = s.fuse := by
  unfold State.glide
  repeat' (first | simp only [apply_ite State.fuse, apply_ite Prod.fst, apply_ite Prod.snd, apply_ite Done.st, ite_self, implies_true, forall_const, foldl_fuse, State.modOch_fuse, State.outRaise_fuse, Done.ok, Done.err] | split)

theorem State.outStep_fuse (s : State) (x : Int) (n : Nat) :
    (State.outStep s x n).fuse = s.fuse := by
  unfold State.outStep
  repeat' (first | simp only [apply_ite State.fuse, apply_ite Prod.fst, apply_ite Prod.snd, apply_ite Done.st, ite_self, implies_true, forall_const, foldl_fuse, State.glide_fuse, State.modOch_fuse, State.outRaise_fuse, Done.ok, Done.err] | split)

theorem State.outUnlock_fuse (k : Nat) (s : State) (n : Nat) :
    (State.outUnlock k s n).fuse = s.fuse := by
  unfold State.outUnlock
  repeat' (first | simp only [apply_ite State.fuse, apply_ite Prod.fst, apply_ite Prod.snd, apply_ite Done.st, ite_self, implies_true, forall_const, foldl_fuse, State.modOch_fuse, State.outRaise_fuse, Done.ok, Done.err] | split)

theorem State.outOffgrid_fuse (s : State) (n : Nat) :
    (State.outOffgrid s n).fuse = s.fuse := by
  unfold State.outOffgrid
  repeat' (first | simp only [apply_ite State.fuse, apply_ite Prod.fst, apply_ite Prod.snd, apply_ite Done.st, ite_self, implies_true, forall_const, foldl_fuse, State.modOch_fuse, State.outRaise_fuse, Done.ok, Done.err] | split)

theorem State.outUnsynced_fuse (s : State) (n : Nat) :
    (State.outUnsynced s n).fuse = s.fuse := by
  unfold State.outUnsynced
  repeat' (first | simp only [apply_ite State.fuse, apply_ite Prod.fst, apply_ite Prod.snd, apply_ite Done.st, ite_self, implies_true, forall_const, foldl_fuse, State.outOffgrid_fuse, Done.ok, Done.err] | split)

theorem State.outRelock_fuse (k : Nat) (s : State) (n : Nat) :
    (State.outRelock k s n).fuse = s.fuse := by
  unfold State.outRelock
  repeat' (first | simp only [apply_ite State.fuse, apply_ite Prod.fst, apply_ite Prod.snd, apply_ite Done.st, ite_self, implies_true, forall_const, foldl_fuse, State.drawn_fuse, State.glide_fuse, State.modOch_fuse, State.outOffgrid_fuse, State.outRaise_fuse, Done.ok, Done.err] | split)

theorem State.synUnlock_fuse (s : State) (k : Nat) :
    (State.synUnlock s k).fuse = s.fuse := by
  unfold State.synUnlock
  repeat' (first | simp only [apply_ite State.fuse, apply_ite Prod.fst, apply_ite Prod.snd, apply_ite Done.st, ite_self, implies_true, forall_const, foldl_fuse, State.faultAssert_fuse, State.modSyn_fuse, State.outUnlock_fuse, State.pairEval_fuse, State.raise_fuse, Done.ok, Done.err] | split)

theorem State.synClear_fuse (s : State) :
    (State.synClear s).fuse = s.fuse := by
  unfold State.synClear
  repeat' (first | simp only [apply_ite State.fuse, apply_ite Prod.fst, apply_ite Prod.snd, apply_ite Done.st, ite_self, implies_true, forall_const, foldl_fuse, State.faultEnd_fuse, Done.ok, Done.err] | split)

theorem State.synLocked_fuse (s : State) (k : Nat) :
    (State.synLocked s k).fuse = s.fuse := by
  unfold State.synLocked
  repeat' (first | simp only [apply_ite State.fuse, apply_ite Prod.fst, apply_ite Prod.snd, apply_ite Done.st, ite_self, implies_true, forall_const, foldl_fuse, State.modSyn_fuse, State.outRelock_fuse, State.raise_fuse, State.synClear_fuse, Done.ok, Done.err] | split)

theorem State.syncRun_fuse (s : State) (n : Nat) :
    (State.syncRun s n).fuse = s.fuse := by
  unfold State.syncRun
  repeat' (first | simp only [apply_ite State.fuse, apply_ite Prod.fst, apply_ite Prod.snd, apply_ite Done.st, ite_self, implies_true, forall_const, foldl_fuse, State.modOch_fuse, State.outRaise_fuse, Done.ok, Done.err] | split)

theorem State.syncRunAll_fuse (s : State) :
    (State.syncRunAll s).fuse = s.fuse := by
  unfold State.syncRunAll
  repeat' (first | simp only [apply_ite State.fuse, apply_ite Prod.fst, apply_ite Prod.snd, apply_ite Done.st, ite_self, implies_true, forall_const, foldl_fuse, State.syncRun_fuse, Done.ok, Done.err] | split)

theorem State.tpFire_fuse (s : State) (m : Nat) (inst : Nat) (at_ : Int) :
    (State.tpFire s m inst at_).fuse = s.fuse := by
  unfold State.tpFire
  repeat' (first | simp only [apply_ite State.fuse, apply_ite Prod.fst, apply_ite Prod.snd, apply_ite Done.st, ite_self, implies_true, forall_const, foldl_fuse, State.modOtp_fuse, Done.ok, Done.err] | split)

theorem State.tpStep_fuse (s : State) (old : Nat) (m : Nat) :
    (State.tpStep s old m).fuse = s.fuse := by
  unfold State.tpStep
  repeat' (first | simp only [apply_ite State.fuse, apply_ite Prod.fst, apply_ite Prod.snd, apply_ite Done.st, ite_self, implies_true, forall_const, foldl_fuse, State.modOtp_fuse, State.outRaise_fuse, State.tpFire_fuse, Done.ok, Done.err] | split)

theorem State.tpAcq_fuse (s : State) (m : Nat) :
    (State.tpAcq s m).fuse = s.fuse := by
  unfold State.tpAcq
  repeat' (first | simp only [apply_ite State.fuse, apply_ite Prod.fst, apply_ite Prod.snd, apply_ite Done.st, ite_self, implies_true, forall_const, foldl_fuse, State.modOtp_fuse, Done.ok, Done.err] | split)

theorem State.todSend_fuse (s : State) (k : Nat) (sec : Nat) :
    (State.todSend s k sec).fuse = s.fuse := by
  unfold State.todSend
  repeat' (first | simp only [apply_ite State.fuse, apply_ite Prod.fst, apply_ite Prod.snd, apply_ite Done.st, ite_self, implies_true, forall_const, foldl_fuse, State.modOtod_fuse, Done.ok, Done.err] | split)

theorem State.todStep_fuse (s : State) (old : Nat) (k : Nat) :
    (State.todStep s old k).fuse = s.fuse := by
  unfold State.todStep
  repeat' (first | simp only [apply_ite State.fuse, apply_ite Prod.fst, apply_ite Prod.snd, apply_ite Done.st, ite_self, implies_true, forall_const, foldl_fuse, State.modOtod_fuse, Done.ok, Done.err] | split)

theorem State.setDelay_fuse (s : State) (t : Nat) (d : BitVec 32) (u : BitVec 24) :
    (State.setDelay s t d u).fuse = s.fuse := by
  unfold State.setDelay
  repeat' (first | simp only [apply_ite State.fuse, apply_ite Prod.fst, apply_ite Prod.snd, apply_ite Done.st, ite_self, implies_true, forall_const, foldl_fuse, State.glide_fuse, State.setOutCfg_fuse, Done.ok, Done.err] | split)

theorem State.echoFree_fuse (s : State) (t : Nat) :
    (State.echoFree s t).fuse = s.fuse := by
  unfold State.echoFree
  repeat' (first | simp only [apply_ite State.fuse, apply_ite Prod.fst, apply_ite Prod.snd, apply_ite Done.st, ite_self, implies_true, forall_const, foldl_fuse, State.modOch_fuse, State.outEval_fuse, Done.ok, Done.err] | split)

theorem specFltQuery_fuse (p : Packet) (s : State) :
    (specFltQuery.body p s).st.fuse = s.fuse := by
  unfold specFltQuery
  repeat' (first | simp only [apply_ite State.fuse, apply_ite Prod.fst, apply_ite Prod.snd, apply_ite Done.st, ite_self, implies_true, forall_const, foldl_fuse, answer, gnsBody, keyBody, pairBody, svcBody, ticBody, answer_fuse, Done.ok, Done.err] | split)

theorem State.classRaised_fuse (s : State) (n : Nat) (cls : Nat) :
    (State.classRaised s n cls).fuse = s.fuse := by
  unfold State.classRaised
  repeat' (first | simp only [apply_ite State.fuse, apply_ite Prod.fst, apply_ite Prod.snd, apply_ite Done.st, ite_self, implies_true, forall_const, foldl_fuse, State.pairEval_fuse, State.safeLine_fuse, Done.ok, Done.err] | split)

theorem specFltSetClass_fuse (p : Packet) (s : State) :
    (specFltSetClass.body p s).st.fuse = s.fuse := by
  unfold specFltSetClass
  repeat' (first | simp only [apply_ite State.fuse, apply_ite Prod.fst, apply_ite Prod.snd, apply_ite Done.st, ite_self, implies_true, forall_const, foldl_fuse, answer, gnsBody, keyBody, pairBody, svcBody, ticBody, Done.ok_fuse, State.classRaised_fuse, Done.ok, Done.err] | split)

theorem specFltClear_fuse (p : Packet) (s : State) :
    (specFltClear.body p s).st.fuse = s.fuse := by
  unfold specFltClear
  repeat' (first | simp only [apply_ite State.fuse, apply_ite Prod.fst, apply_ite Prod.snd, apply_ite Done.st, ite_self, implies_true, forall_const, foldl_fuse, answer, gnsBody, keyBody, pairBody, svcBody, ticBody, Done.ok_fuse, State.latch_fuse, Done.ok, Done.err] | split)

theorem specFltInject_fuse (p : Packet) (s : State) :
    (specFltInject.body p s).st.fuse = s.fuse := by
  unfold specFltInject
  repeat' (first | simp only [apply_ite State.fuse, apply_ite Prod.fst, apply_ite Prod.snd, apply_ite Done.st, ite_self, implies_true, forall_const, foldl_fuse, answer, gnsBody, keyBody, pairBody, svcBody, ticBody, Done.ok_fuse, State.faultAssert_fuse, State.irq_fuse, Done.ok, Done.err] | split)

theorem State.rejoinNow_fuse (s : State) :
    (State.rejoinNow s).fuse = s.fuse := by
  unfold State.rejoinNow
  repeat' (first | simp only [apply_ite State.fuse, apply_ite Prod.fst, apply_ite Prod.snd, apply_ite Done.st, ite_self, implies_true, forall_const, foldl_fuse, State.pairEval_fuse, State.setRole_fuse, Done.ok, Done.err] | split)

theorem State.accordLeave_fuse (s : State) :
    (State.accordLeave s).fuse = s.fuse := by
  unfold State.accordLeave
  repeat' (first | simp only [apply_ite State.fuse, apply_ite Prod.fst, apply_ite Prod.snd, apply_ite Done.st, ite_self, implies_true, forall_const, foldl_fuse, State.raise_fuse, State.setAccord_fuse, Done.ok, Done.err] | split)

theorem State.roleLeave_fuse (s : State) :
    (State.roleLeave s).fuse = s.fuse := by
  unfold State.roleLeave
  repeat' (first | simp only [apply_ite State.fuse, apply_ite Prod.fst, apply_ite Prod.snd, apply_ite Done.st, ite_self, implies_true, forall_const, foldl_fuse, State.rejoinNow_fuse, State.setRole_fuse, Done.ok, Done.err] | split)

theorem State.safeLeave_fuse (s : State) :
    (State.safeLeave s).fuse = s.fuse := by
  unfold State.safeLeave
  repeat' (first | simp only [apply_ite State.fuse, apply_ite Prod.fst, apply_ite Prod.snd, apply_ite Done.st, ite_self, implies_true, forall_const, foldl_fuse, State.accordLeave_fuse, State.gateEval_fuse, State.latch_fuse, State.raise_fuse, State.react_fuse, State.roleLeave_fuse, State.setDev_fuse, Done.ok, Done.err] | split)

theorem specSysClearSafe_fuse (p : Packet) (s : State) :
    (specSysClearSafe.body p s).st.fuse = s.fuse := by
  unfold specSysClearSafe
  repeat' (first | simp only [apply_ite State.fuse, apply_ite Prod.fst, apply_ite Prod.snd, apply_ite Done.st, ite_self, implies_true, forall_const, foldl_fuse, answer, gnsBody, keyBody, pairBody, svcBody, ticBody, Done.err_fuse, Done.ok_fuse, State.safeLeave_fuse, Done.ok, Done.err] | split)

theorem State.selfFails0_fuse (s : State) :
    (State.selfFails0 s).fuse = s.fuse := by
  unfold State.selfFails0
  repeat' (first | simp only [apply_ite State.fuse, apply_ite Prod.fst, apply_ite Prod.snd, apply_ite Done.st, ite_self, implies_true, forall_const, foldl_fuse, State.raise_fuse, State.safeLine_fuse, Done.ok, Done.err] | split)

theorem State.wardenLate_fuse (s : State) :
    (State.wardenLate s).fuse = s.fuse := by
  unfold State.wardenLate
  repeat' (first | simp only [apply_ite State.fuse, apply_ite Prod.fst, apply_ite Prod.snd, apply_ite Done.st, ite_self, implies_true, forall_const, foldl_fuse, State.faultAssert_fuse, Done.ok, Done.err] | split)

theorem State.modPcmp_fuse (s : State) (e : Nat) (f : PairCmp → PairCmp) :
    (State.modPcmp s e f).fuse = s.fuse := by
  unfold State.modPcmp
  repeat' (first | simp only [apply_ite State.fuse, apply_ite Prod.fst, apply_ite Prod.snd, apply_ite Done.st, ite_self, implies_true, forall_const, foldl_fuse, Done.ok, Done.err] | split)

theorem State.setPairCfg_fuse (s : State) (f : PairCfg → PairCfg) :
    (State.setPairCfg s f).fuse = s.fuse := by
  unfold State.setPairCfg
  repeat' (first | simp only [apply_ite State.fuse, apply_ite Prod.fst, apply_ite Prod.snd, apply_ite Done.st, ite_self, implies_true, forall_const, foldl_fuse, Done.ok, Done.err] | split)

theorem State.notify_fuse (s : State) (n : PairNotice) :
    (State.notify s n).fuse = s.fuse := by
  unfold State.notify
  repeat' (first | simp only [apply_ite State.fuse, apply_ite Prod.fst, apply_ite Prod.snd, apply_ite Done.st, ite_self, implies_true, forall_const, foldl_fuse, Done.ok, Done.err] | split)

theorem specPairQuery_fuse (p : Packet) (s : State) :
    (specPairQuery.body p s).st.fuse = s.fuse := by
  unfold specPairQuery
  repeat' (first | simp only [apply_ite State.fuse, apply_ite Prod.fst, apply_ite Prod.snd, apply_ite Done.st, ite_self, implies_true, forall_const, foldl_fuse, answer, gnsBody, keyBody, pairBody, svcBody, ticBody, answer_fuse, Done.ok, Done.err] | split)

theorem State.sideCheck_fuse (s : State) :
    (State.sideCheck s).fuse = s.fuse := by
  unfold State.sideCheck
  repeat' (first | simp only [apply_ite State.fuse, apply_ite Prod.fst, apply_ite Prod.snd, apply_ite Done.st, ite_self, implies_true, forall_const, foldl_fuse, State.faultAssert_fuse, State.faultEnd_fuse, State.raise_fuse, Done.ok, Done.err] | split)

theorem State.goSolo_fuse (s : State) :
    (State.goSolo s).fuse = s.fuse := by
  unfold State.goSolo
  repeat' (first | simp only [apply_ite State.fuse, apply_ite Prod.fst, apply_ite Prod.snd, apply_ite Done.st, ite_self, implies_true, forall_const, foldl_fuse, State.pairEval_fuse, State.raise_fuse, State.setRole_fuse, State.sideCheck_fuse, Done.ok, Done.err] | split)

theorem State.goPaired_fuse (s : State) :
    (State.goPaired s).fuse = s.fuse := by
  unfold State.goPaired
  repeat' (first | simp only [apply_ite State.fuse, apply_ite Prod.fst, apply_ite Prod.snd, apply_ite Done.st, ite_self, implies_true, forall_const, foldl_fuse, State.pairEval_fuse, State.setRole_fuse, State.sideCheck_fuse, Done.ok, Done.err] | split)

theorem specPairSetMode_fuse (p : Packet) (s : State) :
    (specPairSetMode.body p s).st.fuse = s.fuse := by
  unfold specPairSetMode
  repeat' (first | simp only [apply_ite State.fuse, apply_ite Prod.fst, apply_ite Prod.snd, apply_ite Done.st, ite_self, implies_true, forall_const, foldl_fuse, answer, gnsBody, keyBody, pairBody, svcBody, ticBody, Done.err_fuse, Done.ok_fuse, State.goPaired_fuse, State.goSolo_fuse, State.setPairCfg_fuse, Done.ok, Done.err] | split)

theorem specPairSetClaim_fuse (p : Packet) (s : State) :
    (specPairSetClaim.body p s).st.fuse = s.fuse := by
  unfold specPairSetClaim
  repeat' (first | simp only [apply_ite State.fuse, apply_ite Prod.fst, apply_ite Prod.snd, apply_ite Done.st, ite_self, implies_true, forall_const, foldl_fuse, answer, gnsBody, keyBody, pairBody, svcBody, ticBody, Done.ok_fuse, State.pairEval_fuse, State.setPairCfg_fuse, Done.ok, Done.err] | split)

theorem State.cmpFaults_fuse (s : State) :
    (State.cmpFaults s).fuse = s.fuse := by
  unfold State.cmpFaults
  repeat' (first | simp only [apply_ite State.fuse, apply_ite Prod.fst, apply_ite Prod.snd, apply_ite Done.st, ite_self, implies_true, forall_const, foldl_fuse, State.faultAssert_fuse, State.faultEnd_fuse, State.pairEval_fuse, Done.ok, Done.err] | split)

theorem State.reportEnd_fuse (s : State) (t : Nat) :
    (State.reportEnd s t).fuse = s.fuse := by
  unfold State.reportEnd
  repeat' (first | simp only [apply_ite State.fuse, apply_ite Prod.fst, apply_ite Prod.snd, apply_ite Done.st, ite_self, implies_true, forall_const, foldl_fuse, State.notify_fuse, Done.ok, Done.err] | split)

theorem State.entryOff_fuse (s : State) (e : Nat) :
    (State.entryOff s e).fuse = s.fuse := by
  unfold State.entryOff
  repeat' (first | simp only [apply_ite State.fuse, apply_ite Prod.fst, apply_ite Prod.snd, apply_ite Done.st, ite_self, implies_true, forall_const, foldl_fuse, State.cmpFaults_fuse, State.modPcmp_fuse, State.modTch_fuse, State.reportEnd_fuse, State.setPairCfg_fuse, Done.ok, Done.err] | split)

theorem specPairSetCompare_fuse (p : Packet) (s : State) :
    (specPairSetCompare.body p s).st.fuse = s.fuse := by
  unfold specPairSetCompare
  repeat' (first | simp only [apply_ite State.fuse, apply_ite Prod.fst, apply_ite Prod.snd, apply_ite Done.st, ite_self, implies_true, forall_const, foldl_fuse, answer, gnsBody, keyBody, pairBody, svcBody, ticBody, Done.err_fuse, Done.ok_fuse, State.entryOff_fuse, State.ivAbort_fuse, State.modTch_fuse, State.pairEval_fuse, State.setPairCfg_fuse, Done.ok, Done.err] | split)

theorem State.entryFails_fuse (s : State) (e : Nat) (mine : Bool) (mean : Int) :
    (State.entryFails s e mine mean).fuse = s.fuse := by
  unfold State.entryFails
  repeat' (first | simp only [apply_ite State.fuse, apply_ite Prod.fst, apply_ite Prod.snd, apply_ite Done.st, ite_self, implies_true, forall_const, foldl_fuse, State.cmpFaults_fuse, State.modPcmp_fuse, State.notify_fuse, State.raise_fuse, Done.ok, Done.err] | split)

theorem State.entryPasses_fuse (s : State) (e : Nat) :
    (State.entryPasses s e).fuse = s.fuse := by
  unfold State.entryPasses
  repeat' (first | simp only [apply_ite State.fuse, apply_ite Prod.fst, apply_ite Prod.snd, apply_ite Done.st, ite_self, implies_true, forall_const, foldl_fuse, State.cmpFaults_fuse, State.modPcmp_fuse, State.reportEnd_fuse, Done.ok, Done.err] | split)

theorem State.entryWindow_fuse (s : State) (e : Nat) (mine : Bool) (xs : List Int) :
    (State.entryWindow s e mine xs).fuse = s.fuse := by
  unfold State.entryWindow
  repeat' (first | simp only [apply_ite State.fuse, apply_ite Prod.fst, apply_ite Prod.snd, apply_ite Done.st, ite_self, implies_true, forall_const, foldl_fuse, Done.ok_fuse, State.entryFails_fuse, State.entryPasses_fuse, State.modPcmp_fuse, Done.ok, Done.err] | split)

theorem State.roundStart_fuse (s : State) :
    (State.roundStart s).fuse = s.fuse := by
  unfold State.roundStart
  repeat' (first | simp only [apply_ite State.fuse, apply_ite Prod.fst, apply_ite Prod.snd, apply_ite Done.st, ite_self, implies_true, forall_const, foldl_fuse, Done.ok, Done.err] | split)

theorem State.roundNow_fuse (s : State) :
    (State.roundNow s).fuse = s.fuse := by
  unfold State.roundNow
  repeat' (first | simp only [apply_ite State.fuse, apply_ite Prod.fst, apply_ite Prod.snd, apply_ite Done.st, ite_self, implies_true, forall_const, foldl_fuse, State.roundStart_fuse, Done.ok, Done.err] | split)

theorem State.roundWon_fuse (s : State) :
    (State.roundWon s).fuse = s.fuse := by
  unfold State.roundWon
  repeat' (first | simp only [apply_ite State.fuse, apply_ite Prod.fst, apply_ite Prod.snd, apply_ite Done.st, ite_self, implies_true, forall_const, foldl_fuse, Done.ok, Done.err] | split)

theorem State.roundLost_fuse (s : State) :
    (State.roundLost s).fuse = s.fuse := by
  unfold State.roundLost
  repeat' (first | simp only [apply_ite State.fuse, apply_ite Prod.fst, apply_ite Prod.snd, apply_ite Done.st, ite_self, implies_true, forall_const, foldl_fuse, Done.ok, Done.err] | split)

theorem State.handoverFails_fuse (s : State) :
    (State.handoverFails s).fuse = s.fuse := by
  unfold State.handoverFails
  repeat' (first | simp only [apply_ite State.fuse, apply_ite Prod.fst, apply_ite Prod.snd, apply_ite Done.st, ite_self, implies_true, forall_const, foldl_fuse, State.raise_fuse, Done.ok, Done.err] | split)

theorem State.ownRecord_fuse (s : State) (gained : Bool) :
    (State.ownRecord s gained).fuse = s.fuse := by
  unfold State.ownRecord
  repeat' (first | simp only [apply_ite State.fuse, apply_ite Prod.fst, apply_ite Prod.snd, apply_ite Done.st, ite_self, implies_true, forall_const, foldl_fuse, Done.ok, Done.err] | split)

theorem State.trimsOut_fuse (s : State) :
    (State.trimsOut s).fuse = s.fuse := by
  unfold State.trimsOut
  repeat' (first | simp only [apply_ite State.fuse, apply_ite Prod.fst, apply_ite Prod.snd, apply_ite Done.st, ite_self, implies_true, forall_const, foldl_fuse, State.glide_fuse, State.modPcmp_fuse, Done.ok, Done.err] | split)

theorem State.ownChange_fuse (s : State) (gain : Bool) :
    (State.ownChange s gain).fuse = s.fuse := by
  unfold State.ownChange
  repeat' (first | simp only [apply_ite State.fuse, apply_ite Prod.fst, apply_ite Prod.snd, apply_ite Done.st, ite_self, implies_true, forall_const, foldl_fuse, State.ownRecord_fuse, State.pairEval_fuse, State.raise_fuse, State.trimsOut_fuse, Done.ok, Done.err] | split)

theorem specPairHandover_fuse (p : Packet) (s : State) :
    (specPairHandover.body p s).st.fuse = s.fuse := by
  unfold specPairHandover
  repeat' (first | simp only [apply_ite State.fuse, apply_ite Prod.fst, apply_ite Prod.snd, apply_ite Done.st, ite_self, implies_true, forall_const, foldl_fuse, answer, gnsBody, keyBody, pairBody, svcBody, ticBody, Done.err_fuse, Done.ok_fuse, State.notify_fuse, Done.ok, Done.err] | split)

theorem specPairRejoin_fuse (p : Packet) (s : State) :
    (specPairRejoin.body p s).st.fuse = s.fuse := by
  unfold specPairRejoin
  repeat' (first | simp only [apply_ite State.fuse, apply_ite Prod.fst, apply_ite Prod.snd, apply_ite Done.st, ite_self, implies_true, forall_const, foldl_fuse, answer, gnsBody, keyBody, pairBody, svcBody, ticBody, Done.err_fuse, Done.ok_fuse, State.rejoinNow_fuse, Done.ok, Done.err] | split)

theorem State.benitSpare_fuse (s : State) :
    (State.benitSpare s).fuse = s.fuse := by
  unfold State.benitSpare
  repeat' (first | simp only [apply_ite State.fuse, apply_ite Prod.fst, apply_ite Prod.snd, apply_ite Done.st, ite_self, implies_true, forall_const, foldl_fuse, State.raise_fuse, Done.ok, Done.err] | split)

theorem State.digestCheck_fuse (s : State) (d : BitVec 64) :
    (State.digestCheck s d).fuse = s.fuse := by
  unfold State.digestCheck
  repeat' (first | simp only [apply_ite State.fuse, apply_ite Prod.fst, apply_ite Prod.snd, apply_ite Done.st, ite_self, implies_true, forall_const, foldl_fuse, State.faultAssert_fuse, State.raise_fuse, Done.ok, Done.err] | split)

theorem State.laneSkew_fuse (s : State) (lane0 : BenitTimes) (lane1 : BenitTimes) :
    (State.laneSkew s lane0 lane1).fuse = s.fuse := by
  unfold State.laneSkew
  repeat' (first | simp only [apply_ite State.fuse, apply_ite Prod.fst, apply_ite Prod.snd, apply_ite Done.st, ite_self, implies_true, forall_const, foldl_fuse, State.faultAssert_fuse, State.raise_fuse, Done.ok, Done.err] | split)

theorem State.entryCalBad_fuse (s : State) (e : Nat) :
    (State.entryCalBad s e).fuse = s.fuse := by
  unfold State.entryCalBad
  repeat' (first | simp only [apply_ite State.fuse, apply_ite Prod.fst, apply_ite Prod.snd, apply_ite Done.st, ite_self, implies_true, forall_const, foldl_fuse, State.convFail_fuse, State.modPcmp_fuse, State.pairEval_fuse, Done.ok, Done.err] | split)

theorem State.powerUp_fuse (s : State) (m : BitVec 13) :
    (State.powerUp s m).fuse = s.fuse := by
  unfold State.powerUp
  repeat' (first | simp only [apply_ite State.fuse, apply_ite Prod.fst, apply_ite Prod.snd, apply_ite Done.st, ite_self, implies_true, forall_const, foldl_fuse, Done.ok, Done.err] | split)

theorem State.stageSend_fuse (s : State) (l : Nat) :
    (State.stageSend s l).fuse = s.fuse := by
  unfold State.stageSend
  repeat' (first | simp only [apply_ite State.fuse, apply_ite Prod.fst, apply_ite Prod.snd, apply_ite Done.st, ite_self, implies_true, forall_const, foldl_fuse, State.modLane_fuse, State.ringPush_fuse, Done.ok, Done.err] | split)

theorem State.stageDrain_fuse (s : State) (l : Nat) :
    (State.stageDrain s l).fuse = s.fuse := by
  unfold State.stageDrain
  repeat' (first | simp only [apply_ite State.fuse, apply_ite Prod.fst, apply_ite Prod.snd, apply_ite Done.st, ite_self, implies_true, forall_const, foldl_fuse, State.stageSend_fuse, Done.ok, Done.err] | split)

theorem State.laneGoing_fuse (s : State) (l : Nat) :
    (State.laneGoing s l).fuse = s.fuse := by
  unfold State.laneGoing
  repeat' (first | simp only [apply_ite State.fuse, apply_ite Prod.fst, apply_ite Prod.snd, apply_ite Done.st, ite_self, implies_true, forall_const, foldl_fuse, State.laneStop_fuse, State.stageDrain_fuse, Done.ok, Done.err] | split)

theorem State.capGoing_fuse (s : State) (l : Nat) :
    (State.capGoing s l).fuse = s.fuse := by
  unfold State.capGoing
  repeat' (first | simp only [apply_ite State.fuse, apply_ite Prod.fst, apply_ite Prod.snd, apply_ite Done.st, ite_self, implies_true, forall_const, foldl_fuse, State.capEnd_fuse, State.stageDrain_fuse, Done.ok, Done.err] | split)

theorem State.timeGoing_fuse (s : State) :
    (State.timeGoing s).fuse = s.fuse := by
  unfold State.timeGoing
  repeat' (first | simp only [apply_ite State.fuse, apply_ite Prod.fst, apply_ite Prod.snd, apply_ite Done.st, ite_self, implies_true, forall_const, foldl_fuse, State.echoAbort_fuse, State.setAccord_fuse, Done.ok, Done.err] | split)

theorem State.ticGoing_fuse (s : State) :
    (State.ticGoing s).fuse = s.fuse := by
  unfold State.ticGoing
  repeat' (first | simp only [apply_ite State.fuse, apply_ite Prod.fst, apply_ite Prod.snd, apply_ite Done.st, ite_self, implies_true, forall_const, foldl_fuse, State.echoAbort_fuse, State.ivAbort_fuse, Done.ok, Done.err] | split)

theorem State.pairYield_fuse (s : State) :
    (State.pairYield s).fuse = s.fuse := by
  unfold State.pairYield
  repeat' (first | simp only [apply_ite State.fuse, apply_ite Prod.fst, apply_ite Prod.snd, apply_ite Done.st, ite_self, implies_true, forall_const, foldl_fuse, State.raise_fuse, State.setRole_fuse, Done.ok, Done.err] | split)

theorem State.pairGoing_fuse (s : State) :
    (State.pairGoing s).fuse = s.fuse := by
  unfold State.pairGoing
  repeat' (first | simp only [apply_ite State.fuse, apply_ite Prod.fst, apply_ite Prod.snd, apply_ite Done.st, ite_self, implies_true, forall_const, foldl_fuse, State.faultAssert_fuse, State.pairYield_fuse, State.raise_fuse, State.setSource_fuse, Done.ok, Done.err] | split)

theorem State.domGoing_fuse (s : State) (d : Nat) :
    (State.domGoing s d).fuse = s.fuse := by
  unfold State.domGoing
  repeat' (first | simp only [apply_ite State.fuse, apply_ite Prod.fst, apply_ite Prod.snd, apply_ite Done.st, ite_self, implies_true, forall_const, foldl_fuse, State.capGoing_fuse, State.laneGoing_fuse, State.pairGoing_fuse, State.ticGoing_fuse, State.timeGoing_fuse, State.zeroSlots_fuse, Done.ok, Done.err] | split)

theorem State.powerDown_fuse (s : State) (m : BitVec 13) :
    (State.powerDown s m).fuse = s.fuse := by
  unfold State.powerDown
  repeat' (first | simp only [apply_ite State.fuse, apply_ite Prod.fst, apply_ite Prod.snd, apply_ite Done.st, ite_self, implies_true, forall_const, foldl_fuse, State.bistAbort_fuse, State.domGoing_fuse, State.gnsEval_fuse, State.refPresence_fuse, Done.ok, Done.err] | split)

theorem State.powerCycle_fuse (s : State) (m : BitVec 13) :
    (State.powerCycle s m).fuse = s.fuse := by
  unfold State.powerCycle
  repeat' (first | simp only [apply_ite State.fuse, apply_ite Prod.fst, apply_ite Prod.snd, apply_ite Done.st, ite_self, implies_true, forall_const, foldl_fuse, State.powerDown_fuse, Done.ok, Done.err] | split)

theorem State.dropReplies_fuse (s : State) :
    (State.dropReplies s).fuse = s.fuse := by
  unfold State.dropReplies
  repeat' (first | simp only [apply_ite State.fuse, apply_ite Prod.fst, apply_ite Prod.snd, apply_ite Done.st, ite_self, implies_true, forall_const, foldl_fuse, Done.ok, Done.err] | split)

theorem State.orphanTx_fuse (s : State) (l : Nat) :
    (State.orphanTx s l).fuse = s.fuse := by
  unfold State.orphanTx
  repeat' (first | simp only [apply_ite State.fuse, apply_ite Prod.fst, apply_ite Prod.snd, apply_ite Done.st, ite_self, implies_true, forall_const, foldl_fuse, Done.ok, Done.err] | split)

theorem State.ringsDown_fuse (s : State) :
    (State.ringsDown s).fuse = s.fuse := by
  unfold State.ringsDown
  repeat' (first | simp only [apply_ite State.fuse, apply_ite Prod.fst, apply_ite Prod.snd, apply_ite Done.st, ite_self, implies_true, forall_const, foldl_fuse, State.acqResume_fuse, State.dropReplies_fuse, State.orphanTx_fuse, Done.ok, Done.err] | split)

theorem State.linkLost_fuse (s : State) :
    (State.linkLost s).fuse = s.fuse := by
  unfold State.linkLost
  repeat' (first | simp only [apply_ite State.fuse, apply_ite Prod.fst, apply_ite Prod.snd, apply_ite Done.st, ite_self, implies_true, forall_const, foldl_fuse, State.raise_fuse, State.ringsDown_fuse, Done.ok, Done.err] | split)

theorem State.pcieOff_fuse (s : State) :
    (State.pcieOff s).fuse = s.fuse := by
  unfold State.pcieOff
  repeat' (first | simp only [apply_ite State.fuse, apply_ite Prod.fst, apply_ite Prod.snd, apply_ite Done.st, ite_self, implies_true, forall_const, foldl_fuse, State.linkLost_fuse, State.ringsDown_fuse, Done.ok, Done.err] | split)

theorem State.domBlank_fuse (s : State) (d : Nat) :
    (State.domBlank s d).fuse = s.fuse := by
  unfold State.domBlank
  repeat' (first | simp only [apply_ite State.fuse, apply_ite Prod.fst, apply_ite Prod.snd, apply_ite Done.st, ite_self, implies_true, forall_const, foldl_fuse, State.pcieOff_fuse, Done.ok, Done.err] | split)

theorem State.powerAgain_fuse (s : State) :
    (State.powerAgain s).fuse = s.fuse := by
  unfold State.powerAgain
  repeat' (first | simp only [apply_ite State.fuse, apply_ite Prod.fst, apply_ite Prod.snd, apply_ite Done.st, ite_self, implies_true, forall_const, foldl_fuse, Done.ok_fuse, State.powerUp_fuse, Done.ok, Done.err] | split)

theorem State.domQuiet_fuse (s : State) (d : Nat) :
    (State.domQuiet s d).fuse = s.fuse := by
  unfold State.domQuiet
  repeat' (first | simp only [apply_ite State.fuse, apply_ite Prod.fst, apply_ite Prod.snd, apply_ite Done.st, ite_self, implies_true, forall_const, foldl_fuse, State.faultEnd_fuse, Done.ok, Done.err] | split)

theorem State.domOff_fuse (s : State) (d : Nat) :
    (State.domOff s d).fuse = s.fuse := by
  unfold State.domOff
  repeat' (first | simp only [apply_ite State.fuse, apply_ite Prod.fst, apply_ite Prod.snd, apply_ite Done.st, ite_self, implies_true, forall_const, foldl_fuse, State.domBlank_fuse, State.domQuiet_fuse, State.powerAgain_fuse, State.raise_fuse, Done.ok, Done.err] | split)

theorem State.capEpochStep_fuse (s : State) (q : Nat) :
    (State.capEpochStep s q).fuse = s.fuse := by
  unfold State.capEpochStep
  repeat' (first | simp only [apply_ite State.fuse, apply_ite Prod.fst, apply_ite Prod.snd, apply_ite Done.st, ite_self, implies_true, forall_const, foldl_fuse, State.keepOwn_fuse, Done.ok, Done.err] | split)

theorem State.bridgeStart_fuse (s : State) :
    (State.bridgeStart s).fuse = s.fuse := by
  unfold State.bridgeStart
  repeat' (first | simp only [apply_ite State.fuse, apply_ite Prod.fst, apply_ite Prod.snd, apply_ite Done.st, ite_self, implies_true, forall_const, foldl_fuse, State.modSpare_fuse, Done.ok, Done.err] | split)

theorem State.substNow_fuse (s : State) (i : Nat) :
    (State.substNow s i).fuse = s.fuse := by
  unfold State.substNow
  repeat' (first | simp only [apply_ite State.fuse, apply_ite Prod.fst, apply_ite Prod.snd, apply_ite Done.st, ite_self, implies_true, forall_const, foldl_fuse, State.modSpare_fuse, State.modTch_fuse, Done.ok, Done.err] | split)

theorem State.pairClaims_fuse (s : State) :
    (State.pairClaims s).fuse = s.fuse := by
  unfold State.pairClaims
  repeat' (first | simp only [apply_ite State.fuse, apply_ite Prod.fst, apply_ite Prod.snd, apply_ite Done.st, ite_self, implies_true, forall_const, foldl_fuse, State.ivAbort_fuse, State.modTch_fuse, Done.ok, Done.err] | split)

theorem State.substAll_fuse (s : State) :
    (State.substAll s).fuse = s.fuse := by
  unfold State.substAll
  repeat' (first | simp only [apply_ite State.fuse, apply_ite Prod.fst, apply_ite Prod.snd, apply_ite Done.st, ite_self, implies_true, forall_const, foldl_fuse, State.substNow_fuse, Done.ok, Done.err] | split)

theorem State.ticReady_fuse (s : State) :
    (State.ticReady s).fuse = s.fuse := by
  unfold State.ticReady
  repeat' (first | simp only [apply_ite State.fuse, apply_ite Prod.fst, apply_ite Prod.snd, apply_ite Done.st, ite_self, implies_true, forall_const, foldl_fuse, State.bridgeStart_fuse, State.pairClaims_fuse, State.substAll_fuse, Done.ok, Done.err] | split)

theorem State.timeReady_fuse (s : State) :
    (State.timeReady s).fuse = s.fuse := by
  unfold State.timeReady
  repeat' (first | simp only [apply_ite State.fuse, apply_ite Prod.fst, apply_ite Prod.snd, apply_ite Done.st, ite_self, implies_true, forall_const, foldl_fuse, State.faultEnd_fuse, State.react_fuse, State.refStart_fuse, Done.ok, Done.err] | split)

theorem State.quadReady_fuse (s : State) (q : Nat) :
    (State.quadReady s q).fuse = s.fuse := by
  unfold State.quadReady
  repeat' (first | simp only [apply_ite State.fuse, apply_ite Prod.fst, apply_ite Prod.snd, apply_ite Done.st, ite_self, implies_true, forall_const, foldl_fuse, State.capEpochStep_fuse, State.gateEval_fuse, State.svcClassesSet_fuse, Done.ok, Done.err] | split)

theorem State.domStart_fuse (s : State) (d : Nat) (banks : BitVec 72) :
    (State.domStart s d banks).fuse = s.fuse := by
  unfold State.domStart
  repeat' (first | simp only [apply_ite State.fuse, apply_ite Prod.fst, apply_ite Prod.snd, apply_ite Done.st, ite_self, implies_true, forall_const, foldl_fuse, State.bankTest_fuse, State.gnsEval_fuse, State.notchesOn_fuse, State.pairClaims_fuse, State.pairEval_fuse, State.quadReady_fuse, State.svcEval_fuse, State.ticReady_fuse, State.timeReady_fuse, Done.ok, Done.err] | split)

theorem State.domReadyNow_fuse (s : State) (d : Nat) (banks : BitVec 72) :
    (State.domReadyNow s d banks).fuse = s.fuse := by
  unfold State.domReadyNow
  repeat' (first | simp only [apply_ite State.fuse, apply_ite Prod.fst, apply_ite Prod.snd, apply_ite Done.st, ite_self, implies_true, forall_const, foldl_fuse, State.domStart_fuse, State.raise_fuse, Done.ok, Done.err] | split)

theorem specSysQueryState_fuse (p : Packet) (s : State) :
    (specSysQueryState.body p s).st.fuse = s.fuse := by
  unfold specSysQueryState
  repeat' (first | simp only [apply_ite State.fuse, apply_ite Prod.fst, apply_ite Prod.snd, apply_ite Done.st, ite_self, implies_true, forall_const, foldl_fuse, answer, gnsBody, keyBody, pairBody, svcBody, ticBody, answer_fuse, Done.ok, Done.err] | split)

theorem specSysSetState_fuse (p : Packet) (s : State) :
    (specSysSetState.body p s).st.fuse = s.fuse := by
  unfold specSysSetState
  repeat' (first | simp only [apply_ite State.fuse, apply_ite Prod.fst, apply_ite Prod.snd, apply_ite Done.st, ite_self, implies_true, forall_const, foldl_fuse, answer, gnsBody, keyBody, pairBody, svcBody, ticBody, Done.err_fuse, Done.ok_fuse, State.enterRun_fuse, State.react_fuse, State.setDev_fuse, Done.ok, Done.err] | split)

theorem specSysDomainPower_fuse (p : Packet) (s : State) :
    (specSysDomainPower.body p s).st.fuse = s.fuse := by
  unfold specSysDomainPower
  repeat' (first | simp only [apply_ite State.fuse, apply_ite Prod.fst, apply_ite Prod.snd, apply_ite Done.st, ite_self, implies_true, forall_const, foldl_fuse, answer, gnsBody, keyBody, pairBody, svcBody, ticBody, Done.err_fuse, Done.ok_fuse, State.powerDown_fuse, State.powerUp_fuse, Done.ok, Done.err] | split)

theorem State.servoSleeps_fuse (s : State) :
    (State.servoSleeps s).fuse = s.fuse := by
  unfold State.servoSleeps
  repeat' (first | simp only [apply_ite State.fuse, apply_ite Prod.fst, apply_ite Prod.snd, apply_ite Done.st, ite_self, implies_true, forall_const, foldl_fuse, State.enterDrydown_fuse, State.faultAssert_fuse, State.raise_fuse, Done.ok, Done.err] | split)

theorem State.streamsOff_fuse (s : State) :
    (State.streamsOff s).fuse = s.fuse := by
  unfold State.streamsOff
  repeat' (first | simp only [apply_ite State.fuse, apply_ite Prod.fst, apply_ite Prod.snd, apply_ite Done.st, ite_self, implies_true, forall_const, foldl_fuse, Done.ok, Done.err] | split)

theorem State.sleepNow_fuse (s : State) (timeKeep : Bool) (ticKeep : Bool) :
    (State.sleepNow s timeKeep ticKeep).fuse = s.fuse := by
  unfold State.sleepNow
  repeat' (first | simp only [apply_ite State.fuse, apply_ite Prod.fst, apply_ite Prod.snd, apply_ite Done.st, ite_self, implies_true, forall_const, foldl_fuse, State.powerDown_fuse, State.react_fuse, State.servoSleeps_fuse, State.setDev_fuse, State.streamsOff_fuse, Done.ok, Done.err] | split)

theorem specSysSleep_fuse (p : Packet) (s : State) :
    (specSysSleep.body p s).st.fuse = s.fuse := by
  unfold specSysSleep
  repeat' (first | simp only [apply_ite State.fuse, apply_ite Prod.fst, apply_ite Prod.snd, apply_ite Done.st, ite_self, implies_true, forall_const, foldl_fuse, answer, gnsBody, keyBody, pairBody, svcBody, ticBody, Done.err_fuse, Done.ok_fuse, State.sleepNow_fuse, Done.ok, Done.err] | split)

theorem State.wakeNow_fuse (s : State) (source : BitVec 2) (origin : BitVec 4) :
    (State.wakeNow s source origin).fuse = s.fuse := by
  unfold State.wakeNow
  repeat' (first | simp only [apply_ite State.fuse, apply_ite Prod.fst, apply_ite Prod.snd, apply_ite Done.st, ite_self, implies_true, forall_const, foldl_fuse, State.powerUp_fuse, Done.ok, Done.err] | split)

theorem specSysWake_fuse (p : Packet) (s : State) :
    (specSysWake.body p s).st.fuse = s.fuse := by
  unfold specSysWake
  repeat' (first | simp only [apply_ite State.fuse, apply_ite Prod.fst, apply_ite Prod.snd, apply_ite Done.st, ite_self, implies_true, forall_const, foldl_fuse, answer, gnsBody, keyBody, pairBody, svcBody, ticBody, Done.ok_fuse, State.wakeNow_fuse, Done.ok, Done.err] | split)

theorem State.wakeDone_fuse (s : State) :
    (State.wakeDone s).fuse = s.fuse := by
  unfold State.wakeDone
  repeat' (first | simp only [apply_ite State.fuse, apply_ite Prod.fst, apply_ite Prod.snd, apply_ite Done.st, ite_self, implies_true, forall_const, foldl_fuse, State.enterRun_fuse, State.faultAssert_fuse, State.react_fuse, State.setDev_fuse, State.tamperHoldSet_fuse, State.zeroKeys_fuse, State.zeroRoots_fuse, Done.ok, Done.err] | split)

theorem specSysReset_fuse (p : Packet) (s : State) :
    (specSysReset.body p s).st.fuse = s.fuse := by
  unfold specSysReset
  repeat' (first | simp only [apply_ite State.fuse, apply_ite Prod.fst, apply_ite Prod.snd, apply_ite Done.st, ite_self, implies_true, forall_const, foldl_fuse, answer, gnsBody, keyBody, pairBody, svcBody, ticBody, Done.err_fuse, Done.ok_fuse, State.loopLoad_fuse, State.powerCycle_fuse, Done.ok, Done.err] | split)

theorem specSysFwStage_fuse (p : Packet) (s : State) :
    (specSysFwStage.body p s).st.fuse = s.fuse := by
  unfold specSysFwStage
  repeat' (first | simp only [apply_ite State.fuse, apply_ite Prod.fst, apply_ite Prod.snd, apply_ite Done.st, ite_self, implies_true, forall_const, foldl_fuse, answer, gnsBody, keyBody, pairBody, svcBody, ticBody, Done.err_fuse, Done.ok_fuse, Done.ok, Done.err] | split)

theorem State.stageImage_fuse (s : State) (code : Nat) (f : FwImage) :
    (State.stageImage s code f).fuse = s.fuse := by
  unfold State.stageImage
  repeat' (first | simp only [apply_ite State.fuse, apply_ite Prod.fst, apply_ite Prod.snd, apply_ite Done.st, ite_self, implies_true, forall_const, foldl_fuse, Done.ok, Done.err] | split)

theorem specLogQueryStatus_fuse (p : Packet) (s : State) :
    (specLogQueryStatus.body p s).st.fuse = s.fuse := by
  unfold specLogQueryStatus
  repeat' (first | simp only [apply_ite State.fuse, apply_ite Prod.fst, apply_ite Prod.snd, apply_ite Done.st, ite_self, implies_true, forall_const, foldl_fuse, answer, gnsBody, keyBody, pairBody, svcBody, ticBody, answer_fuse, Done.ok, Done.err] | split)

theorem specLogQueryHead_fuse (p : Packet) (s : State) :
    (specLogQueryHead.body p s).st.fuse = s.fuse := by
  unfold specLogQueryHead
  repeat' (first | simp only [apply_ite State.fuse, apply_ite Prod.fst, apply_ite Prod.snd, apply_ite Done.st, ite_self, implies_true, forall_const, foldl_fuse, answer, gnsBody, keyBody, pairBody, svcBody, ticBody, answer_fuse, Done.ok, Done.err] | split)

theorem State.release_fuse (s : State) (q : BitVec 48) :
    (State.release s q).fuse = s.fuse := by
  unfold State.release
  repeat' (first | simp only [apply_ite State.fuse, apply_ite Prod.fst, apply_ite Prod.snd, apply_ite Done.st, ite_self, implies_true, forall_const, foldl_fuse, State.logLevel_fuse, State.logPut_fuse, State.logRecover_fuse, Done.ok, Done.err] | split)

theorem specLogExportAck_fuse (p : Packet) (s : State) :
    (specLogExportAck.body p s).st.fuse = s.fuse := by
  unfold specLogExportAck
  repeat' (first | simp only [apply_ite State.fuse, apply_ite Prod.fst, apply_ite Prod.snd, apply_ite Done.st, ite_self, implies_true, forall_const, foldl_fuse, answer, gnsBody, keyBody, pairBody, svcBody, ticBody, Done.ok_fuse, State.release_fuse, Done.ok, Done.err] | split)

theorem specLogSetExport_fuse (p : Packet) (s : State) :
    (specLogSetExport.body p s).st.fuse = s.fuse := by
  unfold specLogSetExport
  repeat' (first | simp only [apply_ite State.fuse, apply_ite Prod.fst, apply_ite Prod.snd, apply_ite Done.st, ite_self, implies_true, forall_const, foldl_fuse, answer, gnsBody, keyBody, pairBody, svcBody, ticBody, Done.err_fuse, Done.ok_fuse, State.irq_fuse, State.logLevel_fuse, State.logPut_fuse, Done.ok, Done.err] | split)

theorem specLogCheckpoint_fuse (p : Packet) (s : State) :
    (specLogCheckpoint.body p s).st.fuse = s.fuse := by
  unfold specLogCheckpoint
  repeat' (first | simp only [apply_ite State.fuse, apply_ite Prod.fst, apply_ite Prod.snd, apply_ite Done.st, ite_self, implies_true, forall_const, foldl_fuse, answer, gnsBody, keyBody, pairBody, svcBody, ticBody, Done.err_fuse, Done.ok_fuse, State.checkpoint_fuse, Done.ok, Done.err] | split)

theorem specLogNote_fuse (p : Packet) (s : State) :
    (specLogNote.body p s).st.fuse = s.fuse := by
  unfold specLogNote
  repeat' (first | simp only [apply_ite State.fuse, apply_ite Prod.fst, apply_ite Prod.snd, apply_ite Done.st, ite_self, implies_true, forall_const, foldl_fuse, answer, gnsBody, keyBody, pairBody, svcBody, ticBody, Done.ok_fuse, State.logPut_fuse, Done.ok, Done.err] | split)

theorem State.drainWait_fuse (s : State) :
    (State.drainWait s).fuse = s.fuse := by
  unfold State.drainWait
  repeat' (first | simp only [apply_ite State.fuse, apply_ite Prod.fst, apply_ite Prod.snd, apply_ite Done.st, ite_self, implies_true, forall_const, foldl_fuse, State.logPut_fuse, Done.ok, Done.err] | split)

theorem State.modMon_fuse (s : State) (f : Mon → Mon) :
    (State.modMon s f).fuse = s.fuse := by
  unfold State.modMon
  repeat' (first | simp only [apply_ite State.fuse, apply_ite Prod.fst, apply_ite Prod.snd, apply_ite Done.st, ite_self, implies_true, forall_const, foldl_fuse, Done.ok, Done.err] | split)

theorem State.setMonCfg_fuse (s : State) (f : MonCfg → MonCfg) :
    (State.setMonCfg s f).fuse = s.fuse := by
  unfold State.setMonCfg
  repeat' (first | simp only [apply_ite State.fuse, apply_ite Prod.fst, apply_ite Prod.snd, apply_ite Done.st, ite_self, implies_true, forall_const, foldl_fuse, Done.ok, Done.err] | split)

theorem State.modVbat_fuse (s : State) (f : Vbat → Vbat) :
    (State.modVbat s f).fuse = s.fuse := by
  unfold State.modVbat
  repeat' (first | simp only [apply_ite State.fuse, apply_ite Prod.fst, apply_ite Prod.snd, apply_ite Done.st, ite_self, implies_true, forall_const, foldl_fuse, Done.ok, Done.err] | split)

theorem State.faultLevelIs_fuse (s : State) (n : Nat) (on : Bool) :
    (State.faultLevelIs s n on).fuse = s.fuse := by
  unfold State.faultLevelIs
  repeat' (first | simp only [apply_ite State.fuse, apply_ite Prod.fst, apply_ite Prod.snd, apply_ite Done.st, ite_self, implies_true, forall_const, foldl_fuse, State.faultAssert_fuse, State.faultEnd_fuse, Done.ok, Done.err] | split)

theorem specMonQuery_fuse (p : Packet) (s : State) :
    (specMonQuery.body p s).st.fuse = s.fuse := by
  unfold specMonQuery
  repeat' (first | simp only [apply_ite State.fuse, apply_ite Prod.fst, apply_ite Prod.snd, apply_ite Done.st, ite_self, implies_true, forall_const, foldl_fuse, answer, gnsBody, keyBody, pairBody, svcBody, ticBody, answer_fuse, Done.ok, Done.err] | split)

theorem specKeepQuery_fuse (p : Packet) (s : State) :
    (specKeepQuery.body p s).st.fuse = s.fuse := by
  unfold specKeepQuery
  repeat' (first | simp only [apply_ite State.fuse, apply_ite Prod.fst, apply_ite Prod.snd, apply_ite Done.st, ite_self, implies_true, forall_const, foldl_fuse, answer, gnsBody, keyBody, pairBody, svcBody, ticBody, answer_fuse, Done.ok, Done.err] | split)

theorem specCalQuery_fuse (p : Packet) (s : State) :
    (specCalQuery.body p s).st.fuse = s.fuse := by
  unfold specCalQuery
  repeat' (first | simp only [apply_ite State.fuse, apply_ite Prod.fst, apply_ite Prod.snd, apply_ite Done.st, ite_self, implies_true, forall_const, foldl_fuse, answer, gnsBody, keyBody, pairBody, svcBody, ticBody, answer_fuse, Done.ok, Done.err] | split)

theorem specMonSetLimits_fuse (p : Packet) (s : State) :
    (specMonSetLimits.body p s).st.fuse = s.fuse := by
  unfold specMonSetLimits
  repeat' (first | simp only [apply_ite State.fuse, apply_ite Prod.fst, apply_ite Prod.snd, apply_ite Done.st, ite_self, implies_true, forall_const, foldl_fuse, answer, gnsBody, keyBody, pairBody, svcBody, ticBody, Done.ok_fuse, State.setMonCfg_fuse, Done.ok, Done.err] | split)

theorem State.supRead_fuse (s : State) (r : Nat) (mv : BitVec 16) :
    (State.supRead s r mv).fuse = s.fuse := by
  unfold State.supRead
  repeat' (first | simp only [apply_ite State.fuse, apply_ite Prod.fst, apply_ite Prod.snd, apply_ite Done.st, ite_self, implies_true, forall_const, foldl_fuse, State.modMon_fuse, Done.ok, Done.err] | split)

theorem State.vbatLowIs_fuse (s : State) (on : Bool) :
    (State.vbatLowIs s on).fuse = s.fuse := by
  unfold State.vbatLowIs
  repeat' (first | simp only [apply_ite State.fuse, apply_ite Prod.fst, apply_ite Prod.snd, apply_ite Done.st, ite_self, implies_true, forall_const, foldl_fuse, State.faultAssert_fuse, State.faultEnd_fuse, State.modMon_fuse, State.raise_fuse, Done.ok, Done.err] | split)

theorem State.supWarnIs_fuse (s : State) (r : Nat) (on : Bool) :
    (State.supWarnIs s r on).fuse = s.fuse := by
  unfold State.supWarnIs
  repeat' (first | simp only [apply_ite State.fuse, apply_ite Prod.fst, apply_ite Prod.snd, apply_ite Done.st, ite_self, implies_true, forall_const, foldl_fuse, State.faultAssert_fuse, State.faultEnd_fuse, State.modMon_fuse, State.raise_fuse, Done.ok, Done.err] | split)

theorem State.tempRead_fuse (s : State) (c : Nat) (v : BitVec 16) :
    (State.tempRead s c v).fuse = s.fuse := by
  unfold State.tempRead
  repeat' (first | simp only [apply_ite State.fuse, apply_ite Prod.fst, apply_ite Prod.snd, apply_ite Done.st, ite_self, implies_true, forall_const, foldl_fuse, Done.ok_fuse, State.faultAssert_fuse, State.faultEnd_fuse, State.modMon_fuse, State.raise_fuse, Done.ok, Done.err] | split)

theorem State.junction_fuse (s : State) :
    (State.junction s).fuse = s.fuse := by
  unfold State.junction
  repeat' (first | simp only [apply_ite State.fuse, apply_ite Prod.fst, apply_ite Prod.snd, apply_ite Done.st, ite_self, implies_true, forall_const, foldl_fuse, State.faultLevelIs_fuse, Done.ok, Done.err] | split)

theorem State.extTemp_fuse (s : State) :
    (State.extTemp s).fuse = s.fuse := by
  unfold State.extTemp
  repeat' (first | simp only [apply_ite State.fuse, apply_ite Prod.fst, apply_ite Prod.snd, apply_ite Done.st, ite_self, implies_true, forall_const, foldl_fuse, State.faultLevelIs_fuse, State.raise_fuse, Done.ok, Done.err] | split)

theorem State.logPfw_fuse (s : State) :
    (State.logPfw s).fuse = s.fuse := by
  unfold State.logPfw
  repeat' (first | simp only [apply_ite State.fuse, apply_ite Prod.fst, apply_ite Prod.snd, apply_ite Done.st, ite_self, implies_true, forall_const, foldl_fuse, State.checkpoint_fuse, State.logPut_fuse, State.persistHead_fuse, Done.ok, Done.err] | split)

theorem State.rangeEval_fuse (s : State) (rms : Nat) (freq : Nat) :
    (State.rangeEval s rms freq).fuse = s.fuse := by
  unfold State.rangeEval
  repeat' (first | simp only [apply_ite State.fuse, apply_ite Prod.fst, apply_ite Prod.snd, apply_ite Done.st, ite_self, implies_true, forall_const, foldl_fuse, State.faultEnd_fuse, State.modMon_fuse, Done.ok, Done.err] | split)

theorem State.mainsPush_fuse (s : State) (rec : List W32) :
    (State.mainsPush s rec).fuse = s.fuse := by
  unfold State.mainsPush
  repeat' (first | simp only [apply_ite State.fuse, apply_ite Prod.fst, apply_ite Prod.snd, apply_ite Done.st, ite_self, implies_true, forall_const, foldl_fuse, State.irq_fuse, State.modMon_fuse, Done.ok, Done.err] | split)

theorem State.scrubStart_fuse (s : State) :
    (State.scrubStart s).fuse = s.fuse := by
  unfold State.scrubStart
  repeat' (first | simp only [apply_ite State.fuse, apply_ite Prod.fst, apply_ite Prod.snd, apply_ite Done.st, ite_self, implies_true, forall_const, foldl_fuse, Done.ok, Done.err] | split)

theorem specKeepScrub_fuse (p : Packet) (s : State) :
    (specKeepScrub.body p s).st.fuse = s.fuse := by
  unfold specKeepScrub
  repeat' (first | simp only [apply_ite State.fuse, apply_ite Prod.fst, apply_ite Prod.snd, apply_ite Done.st, ite_self, implies_true, forall_const, foldl_fuse, answer, gnsBody, keyBody, pairBody, svcBody, ticBody, Done.err_fuse, Done.ok_fuse, State.scrubStart_fuse, Done.ok, Done.err] | split)

theorem State.spareFails_fuse (s : State) (i : BitVec 7) :
    (State.spareFails s i).fuse = s.fuse := by
  unfold State.spareFails
  repeat' (first | simp only [apply_ite State.fuse, apply_ite Prod.fst, apply_ite Prod.snd, apply_ite Done.st, ite_self, implies_true, forall_const, foldl_fuse, State.keepSpareTold_fuse, Done.ok, Done.err] | split)

theorem State.calSetValid_fuse (s : State) :
    (State.calSetValid s).fuse = s.fuse := by
  unfold State.calSetValid
  repeat' (first | simp only [apply_ite State.fuse, apply_ite Prod.fst, apply_ite Prod.snd, apply_ite Done.st, ite_self, implies_true, forall_const, foldl_fuse, State.faultEnd_fuse, State.modVbat_fuse, Done.ok, Done.err] | split)

theorem specCalSetTime_fuse (p : Packet) (s : State) :
    (specCalSetTime.body p s).st.fuse = s.fuse := by
  unfold specCalSetTime
  repeat' (first | simp only [apply_ite State.fuse, apply_ite Prod.fst, apply_ite Prod.snd, apply_ite Done.st, ite_self, implies_true, forall_const, foldl_fuse, answer, gnsBody, keyBody, pairBody, svcBody, ticBody, Done.err_fuse, Done.ok_fuse, State.calSetValid_fuse, State.modVbat_fuse, State.syncRun_fuse, Done.ok, Done.err] | split)

theorem specCalSetTrim_fuse (p : Packet) (s : State) :
    (specCalSetTrim.body p s).st.fuse = s.fuse := by
  unfold specCalSetTrim
  repeat' (first | simp only [apply_ite State.fuse, apply_ite Prod.fst, apply_ite Prod.snd, apply_ite Done.st, ite_self, implies_true, forall_const, foldl_fuse, answer, gnsBody, keyBody, pairBody, svcBody, ticBody, Done.ok_fuse, State.calRebase_fuse, Done.ok, Done.err] | split)

theorem specCalSetTamper_fuse (p : Packet) (s : State) :
    (specCalSetTamper.body p s).st.fuse = s.fuse := by
  unfold specCalSetTamper
  repeat' (first | simp only [apply_ite State.fuse, apply_ite Prod.fst, apply_ite Prod.snd, apply_ite Done.st, ite_self, implies_true, forall_const, foldl_fuse, answer, gnsBody, keyBody, pairBody, svcBody, ticBody, Done.ok_fuse, State.modVbat_fuse, Done.ok, Done.err] | split)

theorem State.hold_fuse (s : State) (cause : Nat) (cold : Bool) :
    (State.hold s cause cold).fuse = s.fuse := by
  unfold State.hold
  repeat' (first | simp only [apply_ite State.fuse, apply_ite Prod.fst, apply_ite Prod.snd, apply_ite Done.st, ite_self, implies_true, forall_const, foldl_fuse, State.toReset_fuse, Done.ok, Done.err] | split)

theorem State.imageCheck_fuse (s : State) :
    (State.imageCheck s).fuse = s.fuse := by
  unfold State.imageCheck
  repeat' (first | simp only [apply_ite State.fuse, apply_ite Prod.fst, apply_ite Prod.snd, apply_ite Done.st, ite_self, implies_true, forall_const, foldl_fuse, State.raise_fuse, Done.ok, Done.err] | split)

theorem State.keepRestore_fuse (s : State) (r : KeepRead) :
    (State.keepRestore s r).fuse = s.fuse := by
  unfold State.keepRestore
  repeat' (first | simp only [apply_ite State.fuse, apply_ite Prod.fst, apply_ite Prod.snd, apply_ite Done.st, ite_self, implies_true, forall_const, foldl_fuse, Done.ok, Done.err] | split)

theorem State.bootTamper_fuse (s : State) (n : Nat) :
    (State.bootTamper s n).fuse = s.fuse := by
  unfold State.bootTamper
  repeat' (first | simp only [apply_ite State.fuse, apply_ite Prod.fst, apply_ite Prod.snd, apply_ite Done.st, ite_self, implies_true, forall_const, foldl_fuse, State.latch_fuse, State.zeroRoots_fuse, Done.ok, Done.err] | split)

theorem State.unseal_fuse (s : State) :
    (State.unseal s).fuse = s.fuse := by
  unfold State.unseal
  repeat' (first | simp only [apply_ite State.fuse, apply_ite Prod.fst, apply_ite Prod.snd, apply_ite Done.st, ite_self, implies_true, forall_const, foldl_fuse, State.deriveProduction_fuse, State.deriveTest_fuse, State.deriveUds_fuse, Done.ok, Done.err] | split)

theorem State.logTakeUp_fuse (s : State) :
    (State.logTakeUp s).1.fuse = s.fuse := by
  unfold State.logTakeUp
  repeat' (first | simp only [apply_ite State.fuse, apply_ite Prod.fst, apply_ite Prod.snd, apply_ite Done.st, ite_self, implies_true, forall_const, foldl_fuse, State.logRaw_fuse, Done.ok, Done.err] | split)

theorem State.logOpen_fuse (s : State) :
    (State.logOpen s).fuse = s.fuse := by
  unfold State.logOpen
  repeat' (first | simp only [apply_ite State.fuse, apply_ite Prod.fst, apply_ite Prod.snd, apply_ite Done.st, ite_self, implies_true, forall_const, foldl_fuse, State.logPut_fuse, State.logTakeUp_fuse, Done.ok, Done.err] | split)

theorem State.armFaults_fuse (s : State) :
    (State.armFaults s).fuse = s.fuse := by
  unfold State.armFaults
  repeat' (first | simp only [apply_ite State.fuse, apply_ite Prod.fst, apply_ite Prod.snd, apply_ite Done.st, ite_self, implies_true, forall_const, foldl_fuse, State.extTemp_fuse, State.faultAssert_fuse, State.junction_fuse, State.keepUncorr_fuse, State.raise_fuse, Done.ok, Done.err] | split)

theorem State.initBlocks_fuse (s : State) :
    (State.initBlocks s).fuse = s.fuse := by
  unfold State.initBlocks
  repeat' (first | simp only [apply_ite State.fuse, apply_ite Prod.fst, apply_ite Prod.snd, apply_ite Done.st, ite_self, implies_true, forall_const, foldl_fuse, State.powerUp_fuse, State.react_fuse, State.refStart_fuse, State.setRole_fuse, Done.ok, Done.err] | split)

theorem State.bootDone_fuse (s : State) (keep : KeepRead) :
    (State.bootDone s keep).fuse = s.fuse := by
  unfold State.bootDone
  repeat' (first | simp only [apply_ite State.fuse, apply_ite Prod.fst, apply_ite Prod.snd, apply_ite Done.st, ite_self, implies_true, forall_const, foldl_fuse, Done.ok_fuse, State.armFaults_fuse, State.bootTamper_fuse, State.drainWait_fuse, State.drawn_fuse, State.epochRegs_fuse, State.initBlocks_fuse, State.irq_fuse, State.keepRestore_fuse, State.logOpen_fuse, State.newChallenge_fuse, State.raise_fuse, State.reinstallLsk_fuse, State.unseal_fuse, Done.ok, Done.err] | split)

theorem specSysQueryCounters_fuse (p : Packet) (s : State) :
    (specSysQueryCounters.body p s).st.fuse = s.fuse := by
  unfold specSysQueryCounters
  repeat' (first | simp only [apply_ite State.fuse, apply_ite Prod.fst, apply_ite Prod.snd, apply_ite Done.st, ite_self, implies_true, forall_const, foldl_fuse, answer, gnsBody, keyBody, pairBody, svcBody, ticBody, answer_fuse, Done.ok, Done.err] | split)

theorem specSysEcho_fuse (p : Packet) (s : State) :
    (specSysEcho.body p s).st.fuse = s.fuse := by
  unfold specSysEcho
  repeat' (first | simp only [apply_ite State.fuse, apply_ite Prod.fst, apply_ite Prod.snd, apply_ite Done.st, ite_self, implies_true, forall_const, foldl_fuse, answer, gnsBody, keyBody, pairBody, svcBody, ticBody, answer_fuse, Done.ok, Done.err] | split)

theorem State.modMbx_fuse (s : State) (n : Nat) (f : Mbx → Mbx) :
    (State.modMbx s n f).fuse = s.fuse := by
  unfold State.modMbx
  repeat' (first | simp only [apply_ite State.fuse, apply_ite Prod.fst, apply_ite Prod.snd, apply_ite Done.st, ite_self, implies_true, forall_const, foldl_fuse, Done.ok, Done.err] | split)

theorem specSysSetMbxRoute_fuse (p : Packet) (s : State) :
    (specSysSetMbxRoute.body p s).st.fuse = s.fuse := by
  unfold specSysSetMbxRoute
  repeat' (first | simp only [apply_ite State.fuse, apply_ite Prod.fst, apply_ite Prod.snd, apply_ite Done.st, ite_self, implies_true, forall_const, foldl_fuse, answer, gnsBody, keyBody, pairBody, svcBody, ticBody, Done.err_fuse, Done.ok_fuse, State.modMbx_fuse, Done.ok, Done.err] | split)

theorem specSysSetSemCfg_fuse (p : Packet) (s : State) :
    (specSysSetSemCfg.body p s).st.fuse = s.fuse := by
  unfold specSysSetSemCfg
  repeat' (first | simp only [apply_ite State.fuse, apply_ite Prod.fst, apply_ite Prod.snd, apply_ite Done.st, ite_self, implies_true, forall_const, foldl_fuse, answer, gnsBody, keyBody, pairBody, svcBody, ticBody, Done.ok_fuse, Done.ok, Done.err] | split)

theorem State.semPut_fuse (s : State) (i : Nat) (holder : Option (BitVec 4)) :
    (State.semPut s i holder).fuse = s.fuse := by
  unfold State.semPut
  repeat' (first | simp only [apply_ite State.fuse, apply_ite Prod.fst, apply_ite Prod.snd, apply_ite Done.st, ite_self, implies_true, forall_const, foldl_fuse, Done.ok, Done.err] | split)

theorem specSysSemForce_fuse (p : Packet) (s : State) :
    (specSysSemForce.body p s).st.fuse = s.fuse := by
  unfold specSysSemForce
  repeat' (first | simp only [apply_ite State.fuse, apply_ite Prod.fst, apply_ite Prod.snd, apply_ite Done.st, ite_self, implies_true, forall_const, foldl_fuse, answer, gnsBody, keyBody, pairBody, svcBody, ticBody, Done.ok_fuse, State.raise_fuse, State.semPut_fuse, Done.ok, Done.err] | split)

theorem State.modRing_fuse (s : State) (n : Nat) (f : Ring → Ring) :
    (State.modRing s n f).fuse = s.fuse := by
  unfold State.modRing
  repeat' (first | simp only [apply_ite State.fuse, apply_ite Prod.fst, apply_ite Prod.snd, apply_ite Done.st, ite_self, implies_true, forall_const, foldl_fuse, Done.ok, Done.err] | split)

theorem specSysRingConfig_fuse (p : Packet) (s : State) :
    (specSysRingConfig.body p s).st.fuse = s.fuse := by
  unfold specSysRingConfig
  repeat' (first | simp only [apply_ite State.fuse, apply_ite Prod.fst, apply_ite Prod.snd, apply_ite Done.st, ite_self, implies_true, forall_const, foldl_fuse, answer, gnsBody, keyBody, pairBody, svcBody, ticBody, Done.err_fuse, Done.ok_fuse, State.modRing_fuse, Done.ok, Done.err] | split)

theorem State.ringEnable_fuse (s : State) (n : Nat) (on : Bool) :
    (State.ringEnable s n on).fuse = s.fuse := by
  unfold State.ringEnable
  repeat' (first | simp only [apply_ite State.fuse, apply_ite Prod.fst, apply_ite Prod.snd, apply_ite Done.st, ite_self, implies_true, forall_const, foldl_fuse, State.modRing_fuse, State.orphanTx_fuse, Done.ok, Done.err] | split)

theorem State.ringsEnable_fuse (s : State) (affected : BitVec 64) (values : BitVec 64) :
    (State.ringsEnable s affected values).fuse = s.fuse := by
  unfold State.ringsEnable
  repeat' (first | simp only [apply_ite State.fuse, apply_ite Prod.fst, apply_ite Prod.snd, apply_ite Done.st, ite_self, implies_true, forall_const, foldl_fuse, State.ringEnable_fuse, Done.ok, Done.err] | split)

theorem specSysRingEnable_fuse (p : Packet) (s : State) :
    (specSysRingEnable.body p s).st.fuse = s.fuse := by
  unfold specSysRingEnable
  repeat' (first | simp only [apply_ite State.fuse, apply_ite Prod.fst, apply_ite Prod.snd, apply_ite Done.st, ite_self, implies_true, forall_const, foldl_fuse, answer, gnsBody, keyBody, pairBody, svcBody, ticBody, Done.err_fuse, Done.ok_fuse, State.ringsEnable_fuse, Done.ok, Done.err] | split)

theorem specSysIntRoute_fuse (p : Packet) (s : State) :
    (specSysIntRoute.body p s).st.fuse = s.fuse := by
  unfold specSysIntRoute
  repeat' (first | simp only [apply_ite State.fuse, apply_ite Prod.fst, apply_ite Prod.snd, apply_ite Done.st, ite_self, implies_true, forall_const, foldl_fuse, answer, gnsBody, keyBody, pairBody, svcBody, ticBody, Done.ok_fuse, Done.ok, Done.err] | split)

theorem specSysCancel_fuse (p : Packet) (s : State) :
    (specSysCancel.body p s).st.fuse = s.fuse := by
  unfold specSysCancel
  repeat' (first | simp only [apply_ite State.fuse, apply_ite Prod.fst, apply_ite Prod.snd, apply_ite Done.st, ite_self, implies_true, forall_const, foldl_fuse, answer, gnsBody, keyBody, pairBody, svcBody, ticBody, Done.err_fuse, Done.ok_fuse, State.countStatus_fuse, State.reply_fuse, Done.ok, Done.err] | split)

theorem specGnsQueryStatus_fuse (p : Packet) (s : State) :
    (specGnsQueryStatus.body p s).st.fuse = s.fuse := by
  unfold specGnsQueryStatus
  repeat' (first | simp only [apply_ite State.fuse, apply_ite Prod.fst, apply_ite Prod.snd, apply_ite Done.st, ite_self, implies_true, forall_const, foldl_fuse, answer, gnsBody, keyBody, pairBody, svcBody, ticBody, answer_fuse, Done.ok, Done.err] | split)

theorem specGnsQuerySolution_fuse (p : Packet) (s : State) :
    (specGnsQuerySolution.body p s).st.fuse = s.fuse := by
  unfold specGnsQuerySolution
  repeat' (first | simp only [apply_ite State.fuse, apply_ite Prod.fst, apply_ite Prod.snd, apply_ite Done.st, ite_self, implies_true, forall_const, foldl_fuse, answer, gnsBody, keyBody, pairBody, svcBody, ticBody, answer_fuse, Done.ok, Done.err] | split)

theorem specGnsSetPort_fuse (p : Packet) (s : State) :
    (specGnsSetPort.body p s).st.fuse = s.fuse := by
  unfold specGnsSetPort
  repeat' (first | simp only [apply_ite State.fuse, apply_ite Prod.fst, apply_ite Prod.snd, apply_ite Done.st, ite_self, implies_true, forall_const, foldl_fuse, answer, gnsBody, keyBody, pairBody, svcBody, ticBody, Done.err_fuse, Done.ok_fuse, State.gnsEval_fuse, State.setGnsCfg_fuse, Done.ok, Done.err] | split)

theorem specGnsSetNotch_fuse (p : Packet) (s : State) :
    (specGnsSetNotch.body p s).st.fuse = s.fuse := by
  unfold specGnsSetNotch
  repeat' (first | simp only [apply_ite State.fuse, apply_ite Prod.fst, apply_ite Prod.snd, apply_ite Done.st, ite_self, implies_true, forall_const, foldl_fuse, answer, gnsBody, keyBody, pairBody, svcBody, ticBody, Done.ok_fuse, State.drawn_fuse, State.setGnsCfg_fuse, Done.ok, Done.err] | split)

theorem specGnsSetLatch_fuse (p : Packet) (s : State) :
    (specGnsSetLatch.body p s).st.fuse = s.fuse := by
  unfold specGnsSetLatch
  repeat' (first | simp only [apply_ite State.fuse, apply_ite Prod.fst, apply_ite Prod.snd, apply_ite Done.st, ite_self, implies_true, forall_const, foldl_fuse, answer, gnsBody, keyBody, pairBody, svcBody, ticBody, Done.ok_fuse, State.setGnsCfg_fuse, Done.ok, Done.err] | split)

theorem specGnsSetAntenna_fuse (p : Packet) (s : State) :
    (specGnsSetAntenna.body p s).st.fuse = s.fuse := by
  unfold specGnsSetAntenna
  repeat' (first | simp only [apply_ite State.fuse, apply_ite Prod.fst, apply_ite Prod.snd, apply_ite Done.st, ite_self, implies_true, forall_const, foldl_fuse, answer, gnsBody, keyBody, pairBody, svcBody, ticBody, Done.ok_fuse, State.gnsEval_fuse, State.raise_fuse, State.setGnsCfg_fuse, Done.ok, Done.err] | split)

theorem specGnsSetCheck_fuse (p : Packet) (s : State) :
    (specGnsSetCheck.body p s).st.fuse = s.fuse := by
  unfold specGnsSetCheck
  repeat' (first | simp only [apply_ite State.fuse, apply_ite Prod.fst, apply_ite Prod.snd, apply_ite Done.st, ite_self, implies_true, forall_const, foldl_fuse, answer, gnsBody, keyBody, pairBody, svcBody, ticBody, Done.ok_fuse, State.anchorByHand_fuse, State.gnsEval_fuse, State.setGnsCfg_fuse, Done.ok, Done.err] | split)

theorem specGnsSpareBank_fuse (p : Packet) (s : State) :
    (specGnsSpareBank.body p s).st.fuse = s.fuse := by
  unfold specGnsSpareBank
  repeat' (first | simp only [apply_ite State.fuse, apply_ite Prod.fst, apply_ite Prod.snd, apply_ite Done.st, ite_self, implies_true, forall_const, foldl_fuse, answer, gnsBody, keyBody, pairBody, svcBody, ticBody, Done.ok_fuse, State.bankPool_fuse, State.faultAssert_fuse, State.mapBank_fuse, State.setGnsCfg_fuse, Done.ok, Done.err] | split)

theorem specGnsAcquire_fuse (p : Packet) (s : State) :
    (specGnsAcquire.body p s).st.fuse = s.fuse := by
  unfold specGnsAcquire
  repeat' (first | simp only [apply_ite State.fuse, apply_ite Prod.fst, apply_ite Prod.snd, apply_ite Done.st, ite_self, implies_true, forall_const, foldl_fuse, answer, gnsBody, keyBody, pairBody, svcBody, ticBody, Done.err_fuse, Done.ok_fuse, Done.ok, Done.err] | split)

theorem State.acqEnd_fuse (s : State) (ok : Bool) (detected : Nat) :
    (State.acqEnd s ok detected).fuse = s.fuse := by
  unfold State.acqEnd
  repeat' (first | simp only [apply_ite State.fuse, apply_ite Prod.fst, apply_ite Prod.snd, apply_ite Done.st, ite_self, implies_true, forall_const, foldl_fuse, Done.ok_fuse, State.irq_fuse, Done.ok, Done.err] | split)

theorem State.acqLast_fuse (s : State) (a : AcqRun) :
    (State.acqLast s a).fuse = s.fuse := by
  unfold State.acqLast
  repeat' (first | simp only [apply_ite State.fuse, apply_ite Prod.fst, apply_ite Prod.snd, apply_ite Done.st, ite_self, implies_true, forall_const, foldl_fuse, State.acqEnd_fuse, Done.ok, Done.err] | split)

theorem specGnsTrack_fuse (p : Packet) (s : State) :
    (specGnsTrack.body p s).st.fuse = s.fuse := by
  unfold specGnsTrack
  repeat' (first | simp only [apply_ite State.fuse, apply_ite Prod.fst, apply_ite Prod.snd, apply_ite Done.st, ite_self, implies_true, forall_const, foldl_fuse, answer, gnsBody, keyBody, pairBody, svcBody, ticBody, Done.err_fuse, Done.ok_fuse, Done.ok, Done.err] | split)

theorem specGnsRelease_fuse (p : Packet) (s : State) :
    (specGnsRelease.body p s).st.fuse = s.fuse := by
  unfold specGnsRelease
  repeat' (first | simp only [apply_ite State.fuse, apply_ite Prod.fst, apply_ite Prod.snd, apply_ite Done.st, ite_self, implies_true, forall_const, foldl_fuse, answer, gnsBody, keyBody, pairBody, svcBody, ticBody, Done.ok_fuse, Done.ok, Done.err] | split)

theorem State.gnsRefuse_fuse (s : State) :
    (State.gnsRefuse s).fuse = s.fuse := by
  unfold State.gnsRefuse
  repeat' (first | simp only [apply_ite State.fuse, apply_ite Prod.fst, apply_ite Prod.snd, apply_ite Done.st, ite_self, implies_true, forall_const, foldl_fuse, State.refuseWrite_fuse, Done.ok, Done.err] | split)

theorem State.gnsEngineDo_fuse (s : State) (m : BitVec 4) (f : State → State) (h : (f s).fuse = s.fuse) :
    (s.gnsEngineDo m f).fuse = s.fuse := by
  unfold State.gnsEngineDo
  split
  · exact h
  · rw [State.gnsRefuse_fuse]

theorem State.navPut_fuse (s : State) (k : Nat) (w : W32) (ago : Nat) :
    (State.navPut s k w ago).fuse = s.fuse := by
  unfold State.navPut
  repeat' (first | simp only [apply_ite State.fuse, apply_ite Prod.fst, apply_ite Prod.snd, apply_ite Done.st, ite_self, implies_true, forall_const, foldl_fuse, State.irq_fuse, Done.ok, Done.err] | split)

theorem State.solTell_fuse (s : State) (v : Bool) (turns : Bool) (snap : Bool) :
    (State.solTell s v turns snap).fuse = s.fuse := by
  unfold State.solTell
  repeat' (first | simp only [apply_ite State.fuse, apply_ite Prod.fst, apply_ite Prod.snd, apply_ite Done.st, ite_self, implies_true, forall_const, foldl_fuse, State.logPut_fuse, State.raise_fuse, Done.ok, Done.err] | split)

theorem State.solStore_fuse (s : State) (valid : Bool) (nsv : BitVec 6) (snap : Bool) (offset : BitVec 64) (unc : BitVec 24) :
    (State.solStore s valid nsv snap offset unc).fuse = s.fuse := by
  unfold State.solStore
  repeat' (first | simp only [apply_ite State.fuse, apply_ite Prod.fst, apply_ite Prod.snd, apply_ite Done.st, ite_self, implies_true, forall_const, foldl_fuse, State.solTell_fuse, Done.ok, Done.err] | split)

theorem State.solUse_fuse (s : State) :
    (State.solUse s).fuse = s.fuse := by
  unfold State.solUse
  repeat' (first | simp only [apply_ite State.fuse, apply_ite Prod.fst, apply_ite Prod.snd, apply_ite Done.st, ite_self, implies_true, forall_const, foldl_fuse, State.anchorByHand_fuse, State.anchorStep_fuse, State.crossCheck_fuse, State.gnsEval_fuse, State.refDeliver_fuse, State.spoofEb_fuse, Done.ok, Done.err] | split)

theorem State.notchAt_fuse (s : State) (m : Nat) (khz : BitVec 24) :
    (State.notchAt s m khz).fuse = s.fuse := by
  unfold State.notchAt
  repeat' (first | simp only [apply_ite State.fuse, apply_ite Prod.fst, apply_ite Prod.snd, apply_ite Done.st, ite_self, implies_true, forall_const, foldl_fuse, Done.ok, Done.err] | split)

theorem State.latchTake_fuse (s : State) (t : Stamp) :
    (State.latchTake s t).fuse = s.fuse := by
  unfold State.latchTake
  repeat' (first | simp only [apply_ite State.fuse, apply_ite Prod.fst, apply_ite Prod.snd, apply_ite Done.st, ite_self, implies_true, forall_const, foldl_fuse, State.gnsHist_fuse, State.irq_fuse, Done.ok, Done.err] | split)

theorem specGnsSnapshot_fuse (p : Packet) (s : State) :
    (specGnsSnapshot.body p s).st.fuse = s.fuse := by
  unfold specGnsSnapshot
  repeat' (first | simp only [apply_ite State.fuse, apply_ite Prod.fst, apply_ite Prod.snd, apply_ite Done.st, ite_self, implies_true, forall_const, foldl_fuse, answer, gnsBody, keyBody, pairBody, svcBody, ticBody, Done.err_fuse, Done.ok_fuse, Done.ok, Done.err] | split)

theorem State.snapEnd_fuse (s : State) (ok : Bool) :
    (State.snapEnd s ok).fuse = s.fuse := by
  unfold State.snapEnd
  repeat' (first | simp only [apply_ite State.fuse, apply_ite Prod.fst, apply_ite Prod.snd, apply_ite Done.st, ite_self, implies_true, forall_const, foldl_fuse, Done.ok_fuse, State.irq_fuse, Done.ok, Done.err] | split)

theorem State.snapWait_fuse (s : State) :
    (State.snapWait s).fuse = s.fuse := by
  unfold State.snapWait
  repeat' (first | simp only [apply_ite State.fuse, apply_ite Prod.fst, apply_ite Prod.snd, apply_ite Done.st, ite_self, implies_true, forall_const, foldl_fuse, State.irq_fuse, Done.ok, Done.err] | split)

theorem specOutQueryStatus_fuse (p : Packet) (s : State) :
    (specOutQueryStatus.body p s).st.fuse = s.fuse := by
  unfold specOutQueryStatus
  repeat' (first | simp only [apply_ite State.fuse, apply_ite Prod.fst, apply_ite Prod.snd, apply_ite Done.st, ite_self, implies_true, forall_const, foldl_fuse, answer, gnsBody, keyBody, pairBody, svcBody, ticBody, answer_fuse, Done.ok, Done.err] | split)

theorem specOutQueryEcho_fuse (p : Packet) (s : State) :
    (specOutQueryEcho.body p s).st.fuse = s.fuse := by
  unfold specOutQueryEcho
  repeat' (first | simp only [apply_ite State.fuse, apply_ite Prod.fst, apply_ite Prod.snd, apply_ite Done.st, ite_self, implies_true, forall_const, foldl_fuse, answer, gnsBody, keyBody, pairBody, svcBody, ticBody, answer_fuse, Done.ok, Done.err] | split)

theorem specOutSetSyn_fuse (p : Packet) (s : State) :
    (specOutSetSyn.body p s).st.fuse = s.fuse := by
  unfold specOutSetSyn
  repeat' (first | simp only [apply_ite State.fuse, apply_ite Prod.fst, apply_ite Prod.snd, apply_ite Done.st, ite_self, implies_true, forall_const, foldl_fuse, answer, gnsBody, keyBody, pairBody, svcBody, ticBody, Done.err_fuse, Done.ok_fuse, State.modSyn_fuse, State.setOutCfg_fuse, State.synClear_fuse, Done.ok, Done.err] | split)

theorem specOutSetOutput_fuse (p : Packet) (s : State) :
    (specOutSetOutput.body p s).st.fuse = s.fuse := by
  unfold specOutSetOutput
  repeat' (first | simp only [apply_ite State.fuse, apply_ite Prod.fst, apply_ite Prod.snd, apply_ite Done.st, ite_self, implies_true, forall_const, foldl_fuse, answer, gnsBody, keyBody, pairBody, svcBody, ticBody, Done.err_fuse, Done.ok_fuse, State.glide_fuse, State.modOch_fuse, State.outEval_fuse, State.setOutCfg_fuse, Done.ok, Done.err] | split)

theorem specOutSync_fuse (p : Packet) (s : State) :
    (specOutSync.body p s).st.fuse = s.fuse := by
  unfold specOutSync
  repeat' (first | simp only [apply_ite State.fuse, apply_ite Prod.fst, apply_ite Prod.snd, apply_ite Done.st, ite_self, implies_true, forall_const, foldl_fuse, answer, gnsBody, keyBody, pairBody, svcBody, ticBody, Done.err_fuse, Done.ok_fuse, State.modOch_fuse, Done.ok, Done.err] | split)

theorem specOutSetTp_fuse (p : Packet) (s : State) :
    (specOutSetTp.body p s).st.fuse = s.fuse := by
  unfold specOutSetTp
  repeat' (first | simp only [apply_ite State.fuse, apply_ite Prod.fst, apply_ite Prod.snd, apply_ite Done.st, ite_self, implies_true, forall_const, foldl_fuse, answer, gnsBody, keyBody, pairBody, svcBody, ticBody, Done.err_fuse, Done.ok_fuse, State.outEval_fuse, State.setOutCfg_fuse, Done.ok, Done.err] | split)

theorem specOutSetTod_fuse (p : Packet) (s : State) :
    (specOutSetTod.body p s).st.fuse = s.fuse := by
  unfold specOutSetTod
  repeat' (first | simp only [apply_ite State.fuse, apply_ite Prod.fst, apply_ite Prod.snd, apply_ite Done.st, ite_self, implies_true, forall_const, foldl_fuse, answer, gnsBody, keyBody, pairBody, svcBody, ticBody, Done.ok_fuse, State.outEval_fuse, State.setOutCfg_fuse, Done.ok, Done.err] | split)

theorem specOutSetDelay_fuse (p : Packet) (s : State) :
    (specOutSetDelay.body p s).st.fuse = s.fuse := by
  unfold specOutSetDelay
  repeat' (first | simp only [apply_ite State.fuse, apply_ite Prod.fst, apply_ite Prod.snd, apply_ite Done.st, ite_self, implies_true, forall_const, foldl_fuse, answer, gnsBody, keyBody, pairBody, svcBody, ticBody, Done.ok_fuse, State.setDelay_fuse, Done.ok, Done.err] | split)

theorem State.alignClear_fuse (s : State) :
    (State.alignClear s).fuse = s.fuse := by
  unfold State.alignClear
  repeat' (first | simp only [apply_ite State.fuse, apply_ite Prod.fst, apply_ite Prod.snd, apply_ite Done.st, ite_self, implies_true, forall_const, foldl_fuse, State.faultEnd_fuse, Done.ok, Done.err] | split)

theorem State.outEnable_fuse (s : State) (t : Nat) (on : Bool) :
    (State.outEnable s t on).fuse = s.fuse := by
  unfold State.outEnable
  repeat' (first | simp only [apply_ite State.fuse, apply_ite Prod.fst, apply_ite Prod.snd, apply_ite Done.st, ite_self, implies_true, forall_const, foldl_fuse, State.hold_fuse, State.modOch_fuse, State.setOutCfg_fuse, Done.ok, Done.err] | split)

theorem specOutEnable_fuse (p : Packet) (s : State) :
    (specOutEnable.body p s).st.fuse = s.fuse := by
  unfold specOutEnable
  repeat' (first | simp only [apply_ite State.fuse, apply_ite Prod.fst, apply_ite Prod.snd, apply_ite Done.st, ite_self, implies_true, forall_const, foldl_fuse, answer, gnsBody, keyBody, pairBody, svcBody, ticBody, Done.ok_fuse, State.alignClear_fuse, State.outEnable_fuse, State.outEval_fuse, State.pairEval_fuse, Done.ok, Done.err] | split)

theorem State.echoHold_fuse (s : State) (t : Nat) :
    (State.echoHold s t).fuse = s.fuse := by
  unfold State.echoHold
  repeat' (first | simp only [apply_ite State.fuse, apply_ite Prod.fst, apply_ite Prod.snd, apply_ite Done.st, ite_self, implies_true, forall_const, foldl_fuse, State.hold_fuse, State.modOch_fuse, State.modOtp_fuse, Done.ok, Done.err] | split)

theorem specOutEchoMeasure_fuse (p : Packet) (s : State) :
    (specOutEchoMeasure.body p s).st.fuse = s.fuse := by
  unfold specOutEchoMeasure
  repeat' (first | simp only [apply_ite State.fuse, apply_ite Prod.fst, apply_ite Prod.snd, apply_ite Done.st, ite_self, implies_true, forall_const, foldl_fuse, answer, gnsBody, keyBody, pairBody, svcBody, ticBody, Done.err_fuse, Done.ok_fuse, State.echoHold_fuse, State.ivAbort_fuse, State.modTch_fuse, Done.ok, Done.err] | split)

theorem State.echoResult_fuse (s : State) (r : EchoRun) (good : Nat) (meanFs : Nat) (sigma : Nat) :
    (State.echoResult s r good meanFs sigma).fuse = s.fuse := by
  unfold State.echoResult
  repeat' (first | simp only [apply_ite State.fuse, apply_ite Prod.fst, apply_ite Prod.snd, apply_ite Done.st, ite_self, implies_true, forall_const, foldl_fuse, State.echoFree_fuse, State.echoRelease_fuse, State.keepOwn_fuse, State.outRaise_fuse, State.setDelay_fuse, Done.ok, Done.err] | split)

theorem specRefQuerySlot_fuse (p : Packet) (s : State) :
    (specRefQuerySlot.body p s).st.fuse = s.fuse := by
  unfold specRefQuerySlot
  repeat' (first | simp only [apply_ite State.fuse, apply_ite Prod.fst, apply_ite Prod.snd, apply_ite Done.st, ite_self, implies_true, forall_const, foldl_fuse, answer, gnsBody, keyBody, pairBody, svcBody, ticBody, answer_fuse, Done.ok, Done.err] | split)

theorem specRefQueryMatrix_fuse (p : Packet) (s : State) :
    (specRefQueryMatrix.body p s).st.fuse = s.fuse := by
  unfold specRefQueryMatrix
  repeat' (first | simp only [apply_ite State.fuse, apply_ite Prod.fst, apply_ite Prod.snd, apply_ite Done.st, ite_self, implies_true, forall_const, foldl_fuse, answer, gnsBody, keyBody, pairBody, svcBody, ticBody, answer_fuse, Done.ok, Done.err] | split)

theorem specRefQueryHistory_fuse (p : Packet) (s : State) :
    (specRefQueryHistory.body p s).st.fuse = s.fuse := by
  unfold specRefQueryHistory
  repeat' (first | simp only [apply_ite State.fuse, apply_ite Prod.fst, apply_ite Prod.snd, apply_ite Done.st, ite_self, implies_true, forall_const, foldl_fuse, answer, gnsBody, keyBody, pairBody, svcBody, ticBody, answer_fuse, Done.ok, Done.err] | split)

theorem State.setSlotCfg_fuse (s : State) (n : Nat) (f : RefSlotCfg → RefSlotCfg) :
    (State.setSlotCfg s n f).fuse = s.fuse := by
  unfold State.setSlotCfg
  repeat' (first | simp only [apply_ite State.fuse, apply_ite Prod.fst, apply_ite Prod.snd, apply_ite Done.st, ite_self, implies_true, forall_const, foldl_fuse, Done.ok, Done.err] | split)

theorem specRefSetSlot_fuse (p : Packet) (s : State) :
    (specRefSetSlot.body p s).st.fuse = s.fuse := by
  unfold specRefSetSlot
  repeat' (first | simp only [apply_ite State.fuse, apply_ite Prod.fst, apply_ite Prod.snd, apply_ite Done.st, ite_self, implies_true, forall_const, foldl_fuse, answer, gnsBody, keyBody, pairBody, svcBody, ticBody, Done.err_fuse, Done.ok_fuse, State.refAbsent_fuse, State.setSlotCfg_fuse, Done.ok, Done.err] | split)

theorem specRefSetQual_fuse (p : Packet) (s : State) :
    (specRefSetQual.body p s).st.fuse = s.fuse := by
  unfold specRefSetQual
  repeat' (first | simp only [apply_ite State.fuse, apply_ite Prod.fst, apply_ite Prod.snd, apply_ite Done.st, ite_self, implies_true, forall_const, foldl_fuse, answer, gnsBody, keyBody, pairBody, svcBody, ticBody, Done.ok_fuse, State.setSlotCfg_fuse, Done.ok, Done.err] | split)

theorem State.holdoffOut_fuse (s : State) (n : Nat) :
    (State.holdoffOut s n).fuse = s.fuse := by
  unfold State.holdoffOut
  repeat' (first | simp only [apply_ite State.fuse, apply_ite Prod.fst, apply_ite Prod.snd, apply_ite Done.st, ite_self, implies_true, forall_const, foldl_fuse, State.majRefresh_fuse, State.qMove_fuse, State.refSelect_fuse, State.refTimerOff_fuse, Done.ok, Done.err] | split)

theorem State.waitOut_fuse (s : State) (n : Nat) :
    (State.waitOut s n).fuse = s.fuse := by
  unfold State.waitOut
  repeat' (first | simp only [apply_ite State.fuse, apply_ite Prod.fst, apply_ite Prod.snd, apply_ite Done.st, ite_self, implies_true, forall_const, foldl_fuse, State.majRefresh_fuse, State.modSlot_fuse, State.qMove_fuse, State.refTimerOff_fuse, Done.ok, Done.err] | split)

theorem specRefSetTimers_fuse (p : Packet) (s : State) :
    (specRefSetTimers.body p s).st.fuse = s.fuse := by
  unfold specRefSetTimers
  repeat' (first | simp only [apply_ite State.fuse, apply_ite Prod.fst, apply_ite Prod.snd, apply_ite Done.st, ite_self, implies_true, forall_const, foldl_fuse, answer, gnsBody, keyBody, pairBody, svcBody, ticBody, Done.ok_fuse, State.holdoffOut_fuse, State.setSlotCfg_fuse, State.waitOut_fuse, Done.ok, Done.err] | split)

theorem specRefSetPriority_fuse (p : Packet) (s : State) :
    (specRefSetPriority.body p s).st.fuse = s.fuse := by
  unfold specRefSetPriority
  repeat' (first | simp only [apply_ite State.fuse, apply_ite Prod.fst, apply_ite Prod.snd, apply_ite Done.st, ite_self, implies_true, forall_const, foldl_fuse, answer, gnsBody, keyBody, pairBody, svcBody, ticBody, Done.ok_fuse, State.setSlotCfg_fuse, Done.ok, Done.err] | split)

theorem specRefSelect_fuse (p : Packet) (s : State) :
    (specRefSelect.body p s).st.fuse = s.fuse := by
  unfold specRefSelect
  repeat' (first | simp only [apply_ite State.fuse, apply_ite Prod.fst, apply_ite Prod.snd, apply_ite Done.st, ite_self, implies_true, forall_const, foldl_fuse, answer, gnsBody, keyBody, pairBody, svcBody, ticBody, Done.err_fuse, Done.ok_fuse, State.startSwitch_fuse, Done.ok, Done.err] | split)

theorem specRefClearHistory_fuse (p : Packet) (s : State) :
    (specRefClearHistory.body p s).st.fuse = s.fuse := by
  unfold specRefClearHistory
  repeat' (first | simp only [apply_ite State.fuse, apply_ite Prod.fst, apply_ite Prod.snd, apply_ite Done.st, ite_self, implies_true, forall_const, foldl_fuse, answer, gnsBody, keyBody, pairBody, svcBody, ticBody, Done.ok_fuse, State.modSlot_fuse, Done.ok, Done.err] | split)

theorem State.refEnableOne_fuse (s : State) (n : Nat) (on : Bool) :
    (State.refEnableOne s n on).fuse = s.fuse := by
  unfold State.refEnableOne
  repeat' (first | simp only [apply_ite State.fuse, apply_ite Prod.fst, apply_ite Prod.snd, apply_ite Done.st, ite_self, implies_true, forall_const, foldl_fuse, State.cellsReset_fuse, State.majRefresh_fuse, State.modSlot_fuse, State.refAbsent_fuse, State.servoHold_fuse, State.setSlotCfg_fuse, Done.ok, Done.err] | split)

theorem State.refEnable_fuse (s : State) (affected : W32) (values : W32) :
    (State.refEnable s affected values).fuse = s.fuse := by
  unfold State.refEnable
  repeat' (first | simp only [apply_ite State.fuse, apply_ite Prod.fst, apply_ite Prod.snd, apply_ite Done.st, ite_self, implies_true, forall_const, foldl_fuse, State.refEnableOne_fuse, State.refSelect_fuse, Done.ok, Done.err] | split)

theorem specRefEnable_fuse (p : Packet) (s : State) :
    (specRefEnable.body p s).st.fuse = s.fuse := by
  unfold specRefEnable
  repeat' (first | simp only [apply_ite State.fuse, apply_ite Prod.fst, apply_ite Prod.snd, apply_ite Done.st, ite_self, implies_true, forall_const, foldl_fuse, answer, gnsBody, keyBody, pairBody, svcBody, ticBody, Done.ok_fuse, State.refEnable_fuse, Done.ok, Done.err] | split)

theorem specRefSetPtpSlave_fuse (p : Packet) (s : State) :
    (specRefSetPtpSlave.body p s).st.fuse = s.fuse := by
  unfold specRefSetPtpSlave
  repeat' (first | simp only [apply_ite State.fuse, apply_ite Prod.fst, apply_ite Prod.snd, apply_ite Done.st, ite_self, implies_true, forall_const, foldl_fuse, answer, gnsBody, keyBody, pairBody, svcBody, ticBody, Done.ok_fuse, State.refPresence_fuse, State.setSource_fuse, Done.ok, Done.err] | split)

theorem State.clockEdge_fuse (s0 : State) (n : Nat) (r : Int) (cycles : Nat) :
    (State.clockEdge s0 n r cycles).fuse = s0.fuse := by
  unfold State.clockEdge
  repeat' (first | simp only [apply_ite State.fuse, apply_ite Prod.fst, apply_ite Prod.snd, apply_ite Done.st, ite_self, implies_true, forall_const, foldl_fuse, State.modSlot_fuse, State.refUpdate_fuse, Done.ok, Done.err] | split)

theorem specTicQueryChannel_fuse (p : Packet) (s : State) :
    (specTicQueryChannel.body p s).st.fuse = s.fuse := by
  unfold specTicQueryChannel
  repeat' (first | simp only [apply_ite State.fuse, apply_ite Prod.fst, apply_ite Prod.snd, apply_ite Done.st, ite_self, implies_true, forall_const, foldl_fuse, answer, gnsBody, keyBody, pairBody, svcBody, ticBody, answer_fuse, Done.ok, Done.err] | split)

theorem specTicQueryCal_fuse (p : Packet) (s : State) :
    (specTicQueryCal.body p s).st.fuse = s.fuse := by
  unfold specTicQueryCal
  repeat' (first | simp only [apply_ite State.fuse, apply_ite Prod.fst, apply_ite Prod.snd, apply_ite Done.st, ite_self, implies_true, forall_const, foldl_fuse, answer, gnsBody, keyBody, pairBody, svcBody, ticBody, answer_fuse, Done.ok, Done.err] | split)

theorem State.setTch_fuse (s : State) (n : Nat) (f : TicChCfg → TicChCfg) :
    (State.setTch s n f).fuse = s.fuse := by
  unfold State.setTch
  repeat' (first | simp only [apply_ite State.fuse, apply_ite Prod.fst, apply_ite Prod.snd, apply_ite Done.st, ite_self, implies_true, forall_const, foldl_fuse, Done.ok, Done.err] | split)

theorem specTicSetChannel_fuse (p : Packet) (s : State) :
    (specTicSetChannel.body p s).st.fuse = s.fuse := by
  unfold specTicSetChannel
  repeat' (first | simp only [apply_ite State.fuse, apply_ite Prod.fst, apply_ite Prod.snd, apply_ite Done.st, ite_self, implies_true, forall_const, foldl_fuse, answer, gnsBody, keyBody, pairBody, svcBody, ticBody, Done.err_fuse, Done.ok_fuse, State.setTch_fuse, State.ticMark_fuse, Done.ok, Done.err] | split)

theorem specTicSetDelay_fuse (p : Packet) (s : State) :
    (specTicSetDelay.body p s).st.fuse = s.fuse := by
  unfold specTicSetDelay
  repeat' (first | simp only [apply_ite State.fuse, apply_ite Prod.fst, apply_ite Prod.snd, apply_ite Done.st, ite_self, implies_true, forall_const, foldl_fuse, answer, gnsBody, keyBody, pairBody, svcBody, ticBody, Done.err_fuse, Done.ok_fuse, State.setTch_fuse, Done.ok, Done.err] | split)

theorem specTicStartInterval_fuse (p : Packet) (s : State) :
    (specTicStartInterval.body p s).st.fuse = s.fuse := by
  unfold specTicStartInterval
  repeat' (first | simp only [apply_ite State.fuse, apply_ite Prod.fst, apply_ite Prod.snd, apply_ite Done.st, ite_self, implies_true, forall_const, foldl_fuse, answer, gnsBody, keyBody, pairBody, svcBody, ticBody, Done.err_fuse, Done.ok_fuse, State.modTch_fuse, Done.ok, Done.err] | split)

theorem specTicStream_fuse (p : Packet) (s : State) :
    (specTicStream.body p s).st.fuse = s.fuse := by
  unfold specTicStream
  repeat' (first | simp only [apply_ite State.fuse, apply_ite Prod.fst, apply_ite Prod.snd, apply_ite Done.st, ite_self, implies_true, forall_const, foldl_fuse, answer, gnsBody, keyBody, pairBody, svcBody, ticBody, Done.err_fuse, Done.ok_fuse, State.modTch_fuse, Done.ok, Done.err] | split)

theorem State.calSkipped_fuse (m : BitVec 36) (go : BitVec 36) (s : State) (c : Nat) :
    (State.calSkipped m go s c).fuse = s.fuse := by
  unfold State.calSkipped
  repeat' (first | simp only [apply_ite State.fuse, apply_ite Prod.fst, apply_ite Prod.snd, apply_ite Done.st, ite_self, implies_true, forall_const, foldl_fuse, State.calStale_fuse, Done.ok, Done.err] | split)

theorem specTicCalibrate_fuse (p : Packet) (s : State) :
    (specTicCalibrate.body p s).st.fuse = s.fuse := by
  unfold specTicCalibrate
  repeat' (first | simp only [apply_ite State.fuse, apply_ite Prod.fst, apply_ite Prod.snd, apply_ite Done.st, ite_self, implies_true, forall_const, foldl_fuse, answer, gnsBody, keyBody, pairBody, svcBody, ticBody, Done.err_fuse, Done.ok_fuse, State.calNext_fuse, State.calSkipped_fuse, Done.ok, Done.err] | split)

theorem State.setSubst_fuse (s : State) (p : Packet) :
    (State.setSubst s p).fuse = s.fuse := by
  unfold State.setSubst
  repeat' (first | simp only [apply_ite State.fuse, apply_ite Prod.fst, apply_ite Prod.snd, apply_ite Done.st, ite_self, implies_true, forall_const, foldl_fuse, Done.ok, Done.err] | split)

theorem State.unmap_fuse (s : State) (i : Nat) :
    (State.unmap s i).fuse = s.fuse := by
  unfold State.unmap
  repeat' (first | simp only [apply_ite State.fuse, apply_ite Prod.fst, apply_ite Prod.snd, apply_ite Done.st, ite_self, implies_true, forall_const, foldl_fuse, State.dropSpare_fuse, State.faultAssert_fuse, State.handOver_fuse, State.modSpare_fuse, State.raise_fuse, State.swap_fuse, Done.ok, Done.err] | split)

theorem specTicSubstitute_fuse (p : Packet) (s : State) :
    (specTicSubstitute.body p s).st.fuse = s.fuse := by
  unfold specTicSubstitute
  repeat' (first | simp only [apply_ite State.fuse, apply_ite Prod.fst, apply_ite Prod.snd, apply_ite Done.st, ite_self, implies_true, forall_const, foldl_fuse, answer, gnsBody, keyBody, pairBody, svcBody, ticBody, Done.err_fuse, Done.ok_fuse, State.calBreak_fuse, State.releaseRolling_fuse, State.setSubst_fuse, State.swap_fuse, State.takeSpare_fuse, State.unmap_fuse, Done.ok, Done.err] | split)

theorem State.ticGap_fuse (s : State) (n : Nat) :
    (State.ticGap s n).fuse = s.fuse := by
  unfold State.ticGap
  repeat' (first | simp only [apply_ite State.fuse, apply_ite Prod.fst, apply_ite Prod.snd, apply_ite Done.st, ite_self, implies_true, forall_const, foldl_fuse, State.modTch_fuse, Done.ok, Done.err] | split)

theorem State.ticMiss_fuse (s : State) (n : Nat) (falling : Bool) :
    (State.ticMiss s n falling).fuse = s.fuse := by
  unfold State.ticMiss
  repeat' (first | simp only [apply_ite State.fuse, apply_ite Prod.fst, apply_ite Prod.snd, apply_ite Done.st, ite_self, implies_true, forall_const, foldl_fuse, State.ivMissed_fuse, State.modTch_fuse, State.ticRaise_fuse, Done.ok, Done.err] | split)

theorem State.ticPresent_fuse (s : State) (n : Nat) :
    (State.ticPresent s n).fuse = s.fuse := by
  unfold State.ticPresent
  repeat' (first | simp only [apply_ite State.fuse, apply_ite Prod.fst, apply_ite Prod.snd, apply_ite Done.st, ite_self, implies_true, forall_const, foldl_fuse, State.modTch_fuse, State.ticMark_fuse, State.ticRaise_fuse, Done.ok, Done.err] | split)

theorem State.ticUse_fuse (s : State) (n : Nat) (falling : Bool) (fine : Nat) :
    (State.ticUse s n falling fine).fuse = s.fuse := by
  unfold State.ticUse
  repeat' (first | simp only [apply_ite State.fuse, apply_ite Prod.fst, apply_ite Prod.snd, apply_ite Done.st, ite_self, implies_true, forall_const, foldl_fuse, State.ivAsStart_fuse, State.ivAsStop_fuse, State.ivCheck_fuse, State.modTch_fuse, State.pairStamp_fuse, State.ticPush_fuse, Done.ok, Done.err] | split)

theorem State.swapCount_fuse (s : State) (n : Nat) (other : Int) :
    (State.swapCount s n other).fuse = s.fuse := by
  unfold State.swapCount
  repeat' (first | simp only [apply_ite State.fuse, apply_ite Prod.fst, apply_ite Prod.snd, apply_ite Done.st, ite_self, implies_true, forall_const, foldl_fuse, State.modSpare_fuse, Done.ok, Done.err] | split)

theorem State.ticCode_fuse (s : State) (n : Nat) (bad : Bool) :
    (State.ticCode s n bad).fuse = s.fuse := by
  unfold State.ticCode
  repeat' (first | simp only [apply_ite State.fuse, apply_ite Prod.fst, apply_ite Prod.snd, apply_ite Done.st, ite_self, implies_true, forall_const, foldl_fuse, State.convFail_fuse, State.modConv_fuse, Done.ok, Done.err] | split)

theorem State.ticStamp_fuse (s : State) (n : Nat) (falling : Bool) (fine : Nat) (bad : Bool) (other : Int) :
    (State.ticStamp s n falling fine bad other).fuse = s.fuse := by
  unfold State.ticStamp
  repeat' (first | simp only [apply_ite State.fuse, apply_ite Prod.fst, apply_ite Prod.snd, apply_ite Done.st, ite_self, implies_true, forall_const, foldl_fuse, State.modTch_fuse, State.swapCount_fuse, State.ticCode_fuse, State.ticPresent_fuse, State.ticUse_fuse, Done.ok, Done.err] | split)

theorem State.wrapRecord_fuse (s : State) (n : Nat) :
    (State.wrapRecord s n).fuse = s.fuse := by
  unfold State.wrapRecord
  repeat' (first | simp only [apply_ite State.fuse, apply_ite Prod.fst, apply_ite Prod.snd, apply_ite Done.st, ite_self, implies_true, forall_const, foldl_fuse, State.ticEnqueue_fuse, Done.ok, Done.err] | split)

theorem specTmgQueryQueue_fuse (p : Packet) (s : State) :
    (specTmgQueryQueue.body p s).st.fuse = s.fuse := by
  unfold specTmgQueryQueue
  repeat' (first | simp only [apply_ite State.fuse, apply_ite Prod.fst, apply_ite Prod.snd, apply_ite Done.st, ite_self, implies_true, forall_const, foldl_fuse, answer, gnsBody, keyBody, pairBody, svcBody, ticBody, State.laneQuery_fuse, Done.ok, Done.err] | split)

theorem specTmgQueryGcl_fuse (p : Packet) (s : State) :
    (specTmgQueryGcl.body p s).st.fuse = s.fuse := by
  unfold specTmgQueryGcl
  repeat' (first | simp only [apply_ite State.fuse, apply_ite Prod.fst, apply_ite Prod.snd, apply_ite Done.st, ite_self, implies_true, forall_const, foldl_fuse, answer, gnsBody, keyBody, pairBody, svcBody, ticBody, State.laneQuery_fuse, Done.ok, Done.err] | split)

theorem specTmgSetGcl_fuse (p : Packet) (s : State) :
    (specTmgSetGcl.body p s).st.fuse = s.fuse := by
  unfold specTmgSetGcl
  repeat' (first | simp only [apply_ite State.fuse, apply_ite Prod.fst, apply_ite Prod.snd, apply_ite Done.st, ite_self, implies_true, forall_const, foldl_fuse, answer, gnsBody, keyBody, pairBody, svcBody, ticBody, Done.err_fuse, Done.ok_fuse, State.modTLane_fuse, State.tmgRaise_fuse, Done.ok, Done.err] | split)

theorem specTmgSwapGcl_fuse (p : Packet) (s : State) :
    (specTmgSwapGcl.body p s).st.fuse = s.fuse := by
  unfold specTmgSwapGcl
  repeat' (first | simp only [apply_ite State.fuse, apply_ite Prod.fst, apply_ite Prod.snd, apply_ite Done.st, ite_self, implies_true, forall_const, foldl_fuse, answer, gnsBody, keyBody, pairBody, svcBody, ticBody, Done.err_fuse, Done.ok_fuse, State.modTLane_fuse, Done.ok, Done.err] | split)

theorem specTmgSetShaper_fuse (p : Packet) (s : State) :
    (specTmgSetShaper.body p s).st.fuse = s.fuse := by
  unfold specTmgSetShaper
  repeat' (first | simp only [apply_ite State.fuse, apply_ite Prod.fst, apply_ite Prod.snd, apply_ite Done.st, ite_self, implies_true, forall_const, foldl_fuse, answer, gnsBody, keyBody, pairBody, svcBody, ticBody, Done.err_fuse, Done.ok_fuse, State.setTmgCfg_fuse, Done.ok, Done.err] | split)

theorem specTmgSetPolicer_fuse (p : Packet) (s : State) :
    (specTmgSetPolicer.body p s).st.fuse = s.fuse := by
  unfold specTmgSetPolicer
  repeat' (first | simp only [apply_ite State.fuse, apply_ite Prod.fst, apply_ite Prod.snd, apply_ite Done.st, ite_self, implies_true, forall_const, foldl_fuse, answer, gnsBody, keyBody, pairBody, svcBody, ticBody, Done.err_fuse, Done.ok_fuse, State.modPol_fuse, State.setTmgCfg_fuse, Done.ok, Done.err] | split)

theorem specTmgSetFilter_fuse (p : Packet) (s : State) :
    (specTmgSetFilter.body p s).st.fuse = s.fuse := by
  unfold specTmgSetFilter
  repeat' (first | simp only [apply_ite State.fuse, apply_ite Prod.fst, apply_ite Prod.snd, apply_ite Done.st, ite_self, implies_true, forall_const, foldl_fuse, answer, gnsBody, keyBody, pairBody, svcBody, ticBody, Done.err_fuse, Done.ok_fuse, State.setTmgCfg_fuse, Done.ok, Done.err] | split)

theorem specTmgSetSampling_fuse (p : Packet) (s : State) :
    (specTmgSetSampling.body p s).st.fuse = s.fuse := by
  unfold specTmgSetSampling
  repeat' (first | simp only [apply_ite State.fuse, apply_ite Prod.fst, apply_ite Prod.snd, apply_ite Done.st, ite_self, implies_true, forall_const, foldl_fuse, answer, gnsBody, keyBody, pairBody, svcBody, ticBody, Done.err_fuse, Done.ok_fuse, State.setTmgCfg_fuse, Done.ok, Done.err] | split)

theorem State.answerRead_fuse (s : State) (w : W32) :
    (State.answerRead s w).fuse = s.fuse := by
  unfold State.answerRead
  repeat' (first | simp only [apply_ite State.fuse, apply_ite Prod.fst, apply_ite Prod.snd, apply_ite Done.st, ite_self, implies_true, forall_const, foldl_fuse, Done.ok, Done.err] | split)

theorem State.ringRefuse_fuse (s : State) (n : Nat) :
    (State.ringRefuse s n).fuse = s.fuse := by
  unfold State.ringRefuse
  repeat' (first | simp only [apply_ite State.fuse, apply_ite Prod.fst, apply_ite Prod.snd, apply_ite Done.st, ite_self, implies_true, forall_const, foldl_fuse, State.irq_fuse, State.modRing_fuse, State.refuseWrite_fuse, Done.ok, Done.err] | split)

theorem State.prodWrite_fuse (s : State) (n : Nat) (v : BitVec 32) :
    (State.prodWrite s n v).fuse = s.fuse := by
  unfold State.prodWrite
  repeat' (first | simp only [apply_ite State.fuse, apply_ite Prod.fst, apply_ite Prod.snd, apply_ite Done.st, ite_self, implies_true, forall_const, foldl_fuse, State.modRing_fuse, State.ringRefuse_fuse, Done.ok, Done.err] | split)

theorem State.consWrite_fuse (s : State) (n : Nat) (v : BitVec 32) :
    (State.consWrite s n v).fuse = s.fuse := by
  unfold State.consWrite
  repeat' (first | simp only [apply_ite State.fuse, apply_ite Prod.fst, apply_ite Prod.snd, apply_ite Done.st, ite_self, implies_true, forall_const, foldl_fuse, State.acqResume_fuse, State.modRing_fuse, State.ringRefuse_fuse, Done.ok, Done.err] | split)

theorem State.pointerWrite_fuse (s : State) (m : BitVec 4) (n : Nat) (prod : Bool) (v : BitVec 32) :
    (State.pointerWrite s m n prod v).fuse = s.fuse := by
  unfold State.pointerWrite
  repeat' (first | simp only [apply_ite State.fuse, apply_ite Prod.fst, apply_ite Prod.snd, apply_ite Done.st, ite_self, implies_true, forall_const, foldl_fuse, State.consWrite_fuse, State.prodWrite_fuse, State.refuseWrite_fuse, Done.ok, Done.err] | split)

theorem State.exportSlot_fuse (s : State) :
    (State.exportSlot s).fuse = s.fuse := by
  unfold State.exportSlot
  repeat' (first | simp only [apply_ite State.fuse, apply_ite Prod.fst, apply_ite Prod.snd, apply_ite Done.st, ite_self, implies_true, forall_const, foldl_fuse, State.ringPush_fuse, Done.ok, Done.err] | split)

theorem State.replaySlot_fuse (s : State) :
    (State.replaySlot s).fuse = s.fuse := by
  unfold State.replaySlot
  repeat' (first | simp only [apply_ite State.fuse, apply_ite Prod.fst, apply_ite Prod.snd, apply_ite Done.st, ite_self, implies_true, forall_const, foldl_fuse, State.irq_fuse, State.release_fuse, State.ringPush_fuse, Done.ok, Done.err] | split)

theorem State.manifestSlot_fuse (s : State) :
    (State.manifestSlot s).fuse = s.fuse := by
  unfold State.manifestSlot
  repeat' (first | simp only [apply_ite State.fuse, apply_ite Prod.fst, apply_ite Prod.snd, apply_ite Done.st, ite_self, implies_true, forall_const, foldl_fuse, State.ringPush_fuse, Done.ok, Done.err] | split)

theorem State.mirrorSlot_fuse (s : State) :
    (State.mirrorSlot s).fuse = s.fuse := by
  unfold State.mirrorSlot
  repeat' (first | simp only [apply_ite State.fuse, apply_ite Prod.fst, apply_ite Prod.snd, apply_ite Done.st, ite_self, implies_true, forall_const, foldl_fuse, State.ringPush_fuse, Done.ok, Done.err] | split)

theorem State.streamSlot_fuse (s : State) (k : Nat) :
    (State.streamSlot s k).fuse = s.fuse := by
  unfold State.streamSlot
  repeat' (first | simp only [apply_ite State.fuse, apply_ite Prod.fst, apply_ite Prod.snd, apply_ite Done.st, ite_self, implies_true, forall_const, foldl_fuse, State.modTch_fuse, State.ringPush_fuse, Done.ok, Done.err] | split)

theorem State.latchOut_fuse (s : State) :
    (State.latchOut s).fuse = s.fuse := by
  unfold State.latchOut
  repeat' (first | simp only [apply_ite State.fuse, apply_ite Prod.fst, apply_ite Prod.snd, apply_ite Done.st, ite_self, implies_true, forall_const, foldl_fuse, State.ringPush_fuse, Done.ok, Done.err] | split)

theorem State.acqOut_fuse (s : State) :
    (State.acqOut s).fuse = s.fuse := by
  unfold State.acqOut
  repeat' (first | simp only [apply_ite State.fuse, apply_ite Prod.fst, apply_ite Prod.snd, apply_ite Done.st, ite_self, implies_true, forall_const, foldl_fuse, State.acqEnd_fuse, State.ringPush_fuse, Done.ok, Done.err] | split)

theorem State.snapOut_fuse (s : State) :
    (State.snapOut s).fuse = s.fuse := by
  unfold State.snapOut
  repeat' (first | simp only [apply_ite State.fuse, apply_ite Prod.fst, apply_ite Prod.snd, apply_ite Done.st, ite_self, implies_true, forall_const, foldl_fuse, State.ringPush_fuse, Done.ok, Done.err] | split)

theorem State.navOut_fuse (s : State) :
    (State.navOut s).fuse = s.fuse := by
  unfold State.navOut
  repeat' (first | simp only [apply_ite State.fuse, apply_ite Prod.fst, apply_ite Prod.snd, apply_ite Done.st, ite_self, implies_true, forall_const, foldl_fuse, State.ringPush_fuse, Done.ok, Done.err] | split)

theorem State.slotOut_fuse (s : State) (n : Nat) :
    (State.slotOut s n).fuse = s.fuse := by
  unfold State.slotOut
  repeat' (first | simp only [apply_ite State.fuse, apply_ite Prod.fst, apply_ite Prod.snd, apply_ite Done.st, ite_self, implies_true, forall_const, foldl_fuse, State.acqOut_fuse, State.exportSlot_fuse, State.latchOut_fuse, State.manifestSlot_fuse, State.mirrorSlot_fuse, State.navOut_fuse, State.replaySlot_fuse, State.snapOut_fuse, State.stageSend_fuse, State.streamSlot_fuse, Done.ok, Done.err] | split)

theorem State.flr_fuse (s : State) :
    (State.flr s).fuse = s.fuse := by
  unfold State.flr
  repeat' (first | simp only [apply_ite State.fuse, apply_ite Prod.fst, apply_ite Prod.snd, apply_ite Done.st, ite_self, implies_true, forall_const, foldl_fuse, State.raise_fuse, State.ringsDown_fuse, Done.ok, Done.err] | split)

theorem State.mbxGo_fuse (s : State) (n : Nat) :
    (State.mbxGo s n).fuse = s.fuse := by
  unfold State.mbxGo
  repeat' (first | simp only [apply_ite State.fuse, apply_ite Prod.fst, apply_ite Prod.snd, apply_ite Done.st, ite_self, implies_true, forall_const, foldl_fuse, State.irq_fuse, State.modMbx_fuse, State.powerUp_fuse, Done.ok, Done.err] | split)

theorem State.mbxSend_fuse (s : State) (m : BitVec 4) (n : Nat) :
    (State.mbxSend s m n).fuse = s.fuse := by
  unfold State.mbxSend
  repeat' (first | simp only [apply_ite State.fuse, apply_ite Prod.fst, apply_ite Prod.snd, apply_ite Done.st, ite_self, implies_true, forall_const, foldl_fuse, State.mbxGo_fuse, State.modMbx_fuse, State.refuseWrite_fuse, Done.ok, Done.err] | split)

theorem State.mbxTake_fuse (s : State) (m : BitVec 4) (n : Nat) :
    (State.mbxTake s m n).fuse = s.fuse := by
  unfold State.mbxTake
  repeat' (first | simp only [apply_ite State.fuse, apply_ite Prod.fst, apply_ite Prod.snd, apply_ite Done.st, ite_self, implies_true, forall_const, foldl_fuse, State.answerRead_fuse, State.irq_fuse, State.modMbx_fuse, State.refuseWrite_fuse, Done.ok, Done.err] | split)

theorem State.replyPut_fuse (s : State) (r : Reply) :
    (State.replyPut s r).fuse = s.fuse := by
  unfold State.replyPut
  repeat' (first | simp only [apply_ite State.fuse, apply_ite Prod.fst, apply_ite Prod.snd, apply_ite Done.st, ite_self, implies_true, forall_const, foldl_fuse, State.mbxGo_fuse, State.modMbx_fuse, State.ringPush_fuse, Done.ok, Done.err] | split)

theorem State.replyNext_fuse (s : State) :
    (State.replyNext s).fuse = s.fuse := by
  unfold State.replyNext
  repeat' (first | simp only [apply_ite State.fuse, apply_ite Prod.fst, apply_ite Prod.snd, apply_ite Done.st, ite_self, implies_true, forall_const, foldl_fuse, State.replyPut_fuse, Done.ok, Done.err] | split)

theorem State.semLogged_fuse (s : State) (m : BitVec 4) (i : Nat) (r : Bool × BitVec 4) :
    (State.semLogged s m i r).fuse = s.fuse := by
  unfold State.semLogged
  repeat' (first | simp only [apply_ite State.fuse, apply_ite Prod.fst, apply_ite Prod.snd, apply_ite Done.st, ite_self, implies_true, forall_const, foldl_fuse, State.logPut_fuse, Done.ok, Done.err] | split)

theorem State.semRead_fuse (s : State) (m : BitVec 4) (i : Nat) :
    (State.semRead s m i).fuse = s.fuse := by
  unfold State.semRead
  repeat' (first | simp only [apply_ite State.fuse, apply_ite Prod.fst, apply_ite Prod.snd, apply_ite Done.st, ite_self, implies_true, forall_const, foldl_fuse, State.answerRead_fuse, State.semLogged_fuse, State.semPut_fuse, Done.ok, Done.err] | split)

theorem State.readDenied_fuse (s : State) :
    (State.readDenied s).fuse = s.fuse := by
  unfold State.readDenied
  repeat' (first | simp only [apply_ite State.fuse, apply_ite Prod.fst, apply_ite Prod.snd, apply_ite Done.st, ite_self, implies_true, forall_const, foldl_fuse, State.answerRead_fuse, State.refuseWrite_fuse, Done.ok, Done.err] | split)

theorem State.semRelease_fuse (s : State) (m : BitVec 4) (i : Nat) :
    (State.semRelease s m i).fuse = s.fuse := by
  unfold State.semRelease
  repeat' (first | simp only [apply_ite State.fuse, apply_ite Prod.fst, apply_ite Prod.snd, apply_ite Done.st, ite_self, implies_true, forall_const, foldl_fuse, State.refuseWrite_fuse, State.semPut_fuse, Done.ok, Done.err] | split)

theorem State.latchWords_fuse (s : State) (m : BitVec 4) (addr : W32) (ws : List W32) :
    (State.latchWords s m addr ws).fuse = s.fuse := by
  unfold State.latchWords
  repeat' (first | simp only [apply_ite State.fuse, apply_ite Prod.fst, apply_ite Prod.snd, apply_ite Done.st, ite_self, implies_true, forall_const, foldl_fuse, State.answerRead_fuse, State.latch_fuse, Done.ok, Done.err] | split)

theorem State.popGns_fuse (s : State) (m : BitVec 4) (addr : W32) (k : Nat) :
    (State.popGns s m addr k).fuse = s.fuse := by
  unfold State.popGns
  repeat' (first | simp only [apply_ite State.fuse, apply_ite Prod.fst, apply_ite Prod.snd, apply_ite Done.st, ite_self, implies_true, forall_const, foldl_fuse, State.latchWords_fuse, State.modTrk_fuse, Done.ok, Done.err] | split)

theorem State.popTic_fuse (s : State) (m : BitVec 4) (addr : W32) (n : Nat) :
    (State.popTic s m addr n).fuse = s.fuse := by
  unfold State.popTic
  repeat' (first | simp only [apply_ite State.fuse, apply_ite Prod.fst, apply_ite Prod.snd, apply_ite Done.st, ite_self, implies_true, forall_const, foldl_fuse, State.latchWords_fuse, State.modTch_fuse, Done.ok, Done.err] | split)

theorem State.popMains_fuse (s : State) (m : BitVec 4) (addr : W32) :
    (State.popMains s m addr).fuse = s.fuse := by
  unfold State.popMains
  repeat' (first | simp only [apply_ite State.fuse, apply_ite Prod.fst, apply_ite Prod.snd, apply_ite Done.st, ite_self, implies_true, forall_const, foldl_fuse, State.latchWords_fuse, State.modMon_fuse, Done.ok, Done.err] | split)

theorem State.inDomain_fuse (s : State) (d : Nat) (t : State) (h : t.fuse = s.fuse) : (s.inDomain d t).fuse = s.fuse := by
  unfold State.inDomain
  split
  · exact h
  · rw [State.answerRead_fuse]

theorem Rc.read_fuse (s : State) (r : Rc) (h : r.cleared.fuse = s.fuse) (m : BitVec 4) (addr : W32) :
    (r.read m addr).fuse = s.fuse := by
  unfold Rc.read
  simp only [State.answerRead_fuse, apply_ite State.fuse, State.latch_fuse, h, ite_self]

theorem popAt_fuse (a : Nat) (p : Nat × Nat × (State → BitVec 4 → W32 → State)) (h : popAt a = some p) (s : State)
    (m : BitVec 4) (addr : W32) : (p.2.2 s m addr).fuse = s.fuse := by
  unfold popAt at h
  repeat' split at h
  all_goals cases h
  all_goals simp only [State.popGns_fuse, State.popTic_fuse, State.popMains_fuse]

theorem State.rcSys_fuse (s : State) (a : Nat) (r : Rc) (h : s.rcSys a = some r) : r.cleared.fuse = s.fuse := by
  unfold State.rcSys at h
  try dsimp only at h
  repeat' split at h
  all_goals first
    | (unfold rc32 at h; cases h; rfl)
    | (unfold rc64 at h; cases h; rfl)
    | cases h

theorem State.rcOut_fuse (s : State) (a : Nat) (r : Rc) (h : s.rcOut a = some r) : r.cleared.fuse = s.fuse := by
  unfold State.rcOut at h
  try dsimp only at h
  repeat' split at h
  all_goals first
    | (unfold rc32 at h; cases h; rfl)
    | (unfold rc64 at h; cases h; rfl)
    | cases h

theorem State.rcTicCh_fuse (s : State) (n off : Nat) (r : Rc) (h : s.rcTicCh n off = some r) : r.cleared.fuse = s.fuse := by
  unfold State.rcTicCh at h
  try dsimp only at h
  repeat' split at h
  all_goals first
    | (unfold rc32 at h; cases h; rfl)
    | (unfold rc64 at h; cases h; rfl)
    | cases h

theorem State.rcTic_fuse (s : State) (a : Nat) (r : Rc) (h : s.rcTic a = some r) : r.cleared.fuse = s.fuse := by
  unfold State.rcTic at h
  try dsimp only at h
  repeat' split at h
  all_goals first
    | (unfold rc32 at h; cases h; rfl)
    | (unfold rc64 at h; cases h; rfl)
    | cases h
    | exact State.rcTicCh_fuse _ _ _ _ h

theorem State.rcGns_fuse (s : State) (a : Nat) (r : Rc) (h : s.rcGns a = some r) : r.cleared.fuse = s.fuse := by
  unfold State.rcGns at h
  try dsimp only at h
  repeat' split at h
  all_goals first
    | (unfold rc32 at h; cases h; rfl)
    | (unfold rc64 at h; cases h; rfl)
    | cases h

theorem State.rcEthLane_fuse (s : State) (l off : Nat) (r : Rc) (h : s.rcEthLane l off = some r) : r.cleared.fuse = s.fuse := by
  unfold State.rcEthLane at h
  try dsimp only at h
  repeat' split at h
  all_goals first
    | (unfold rc32 at h; cases h; rfl)
    | (unfold rc64 at h; cases h; rfl)
    | cases h

theorem State.rcEth_fuse (s : State) (a : Nat) (r : Rc) (h : s.rcEth a = some r) : r.cleared.fuse = s.fuse := by
  unfold State.rcEth at h
  try dsimp only at h
  repeat' split at h
  all_goals first
    | (unfold rc32 at h; cases h; rfl)
    | (unfold rc64 at h; cases h; rfl)
    | cases h
    | exact State.rcEthLane_fuse _ _ _ _ h

theorem State.rcTmgQ_fuse (s : State) (q off : Nat) (r : Rc) (h : s.rcTmgQ q off = some r) : r.cleared.fuse = s.fuse := by
  unfold State.rcTmgQ at h
  try dsimp only at h
  repeat' split at h
  all_goals first
    | (unfold rc32 at h; cases h; rfl)
    | (unfold rc64 at h; cases h; rfl)
    | cases h

theorem State.rcPol_fuse (s : State) (p off : Nat) (r : Rc) (h : s.rcPol p off = some r) : r.cleared.fuse = s.fuse := by
  unfold State.rcPol at h
  try dsimp only at h
  repeat' split at h
  all_goals first
    | (unfold rc32 at h; cases h; rfl)
    | (unfold rc64 at h; cases h; rfl)
    | cases h

theorem State.rcTmgLane_fuse (s : State) (l off : Nat) (r : Rc) (h : s.rcTmgLane l off = some r) : r.cleared.fuse = s.fuse := by
  unfold State.rcTmgLane at h
  try dsimp only at h
  repeat' split at h
  all_goals first
    | (unfold rc32 at h; cases h; rfl)
    | (unfold rc64 at h; cases h; rfl)
    | cases h

theorem State.rcTmg_fuse (s : State) (a : Nat) (r : Rc) (h : s.rcTmg a = some r) : r.cleared.fuse = s.fuse := by
  unfold State.rcTmg at h
  try dsimp only at h
  repeat' split at h
  all_goals first
    | (unfold rc32 at h; cases h; rfl)
    | (unfold rc64 at h; cases h; rfl)
    | cases h
    | exact State.rcTmgLane_fuse _ _ _ _ h
    | exact State.rcTmgQ_fuse _ _ _ _ h
    | exact State.rcPol_fuse _ _ _ _ h

theorem State.rcPort_fuse (s : State) (k off : Nat) (r : Rc) (h : s.rcPort k off = some r) : r.cleared.fuse = s.fuse := by
  unfold State.rcPort at h
  try dsimp only at h
  repeat' split at h
  all_goals first
    | (unfold rc32 at h; cases h; rfl)
    | (unfold rc64 at h; cases h; rfl)
    | cases h

theorem State.rcSvc_fuse (s : State) (a : Nat) (r : Rc) (h : s.rcSvc a = some r) : r.cleared.fuse = s.fuse := by
  unfold State.rcSvc at h
  try dsimp only at h
  repeat' split at h
  all_goals first
    | (unfold rc32 at h; cases h; rfl)
    | (unfold rc64 at h; cases h; rfl)
    | cases h
    | exact State.rcPort_fuse _ _ _ _ h

theorem State.rcFlt_fuse (s : State) (a : Nat) (r : Rc) (h : s.rcFlt a = some r) : r.cleared.fuse = s.fuse := by
  unfold State.rcFlt at h
  try dsimp only at h
  repeat' split at h
  all_goals first
    | (unfold rc32 at h; cases h; rfl)
    | (unfold rc64 at h; cases h; rfl)
    | cases h

theorem State.rcLog_fuse (s : State) (a : Nat) (r : Rc) (h : s.rcLog a = some r) : r.cleared.fuse = s.fuse := by
  unfold State.rcLog at h
  try dsimp only at h
  repeat' split at h
  all_goals first
    | (unfold rc32 at h; cases h; rfl)
    | (unfold rc64 at h; cases h; rfl)
    | cases h

theorem State.rcMon_fuse (s : State) (a : Nat) (r : Rc) (h : s.rcMon a = some r) : r.cleared.fuse = s.fuse := by
  unfold State.rcMon at h
  try dsimp only at h
  repeat' split at h
  all_goals first
    | (unfold rc32 at h; cases h; rfl)
    | (unfold rc64 at h; cases h; rfl)
    | cases h

theorem State.rcKeep_fuse (s : State) (a : Nat) (r : Rc) (h : s.rcKeep a = some r) : r.cleared.fuse = s.fuse := by
  unfold State.rcKeep at h
  try dsimp only at h
  repeat' split at h
  all_goals first
    | (unfold rc32 at h; cases h; rfl)
    | (unfold rc64 at h; cases h; rfl)
    | cases h

theorem State.rcAt_fuse (s : State) (a : Nat) (r : Rc) (h : s.rcAt a = some r) : r.cleared.fuse = s.fuse := by
  unfold State.rcAt at h
  obtain ⟨f, hf, hr⟩ := List.exists_of_findSome?_eq_some h
  simp only [List.mem_cons, List.not_mem_nil, or_false] at hf
  rcases hf with rfl | rfl | rfl | rfl | rfl | rfl | rfl | rfl | rfl | rfl | rfl
  · exact State.rcSys_fuse s a r hr
  · exact State.rcOut_fuse s a r hr
  · exact State.rcTic_fuse s a r hr
  · exact State.rcGns_fuse s a r hr
  · exact State.rcEth_fuse s a r hr
  · exact State.rcTmg_fuse s a r hr
  · exact State.rcSvc_fuse s a r hr
  · exact State.rcFlt_fuse s a r hr
  · exact State.rcLog_fuse s a r hr
  · exact State.rcMon_fuse s a r hr
  · exact State.rcKeep_fuse s a r hr

theorem State.readReg_fuse (m : BitVec 4) (addr : W32) (s : State) : (State.readReg m addr s).fuse = s.fuse := by
  unfold State.readReg
  generalize addr.toNat = a
  dsimp only
  split
  · rw [State.readDenied_fuse]
  · split
    · rw [State.answerRead_fuse]
    · split
      · rw [State.mbxTake_fuse]
      · rw [State.semRead_fuse]
      · split
        · exact State.inDomain_fuse _ _ _ (popAt_fuse a _ ‹popAt a = some _› _ _ _)
        · exact State.inDomain_fuse _ _ _ (Rc.read_fuse _ _ (State.rcAt_fuse _ a _ ‹s.rcAt a = some _›) _ _)
        · exact State.inDomain_fuse _ _ _ (State.latchWords_fuse ..)
        · generalize s.laterIn a = x
          generalize s.regGet a = y
          split
          · exact State.inDomain_fuse _ _ _ (State.answerRead_fuse ..)
          · exact State.inDomain_fuse _ _ _ (State.answerRead_fuse ..)
          · rw [State.answerRead_fuse]

theorem State.readBurst_fuse (m : BitVec 4) (s : State) (addr : W32) :
    (State.readBurst m s addr).fuse = s.fuse := by
  unfold State.readBurst
  repeat' (first | simp only [apply_ite State.fuse, apply_ite Prod.fst, apply_ite Prod.snd, apply_ite Done.st, ite_self, implies_true, forall_const, foldl_fuse, State.readReg_fuse, Done.ok, Done.err] | split)

theorem State.hostW1c_fuse (s : State) (g : Nat) (v : BitVec 32) :
    (State.hostW1c s g v).fuse = s.fuse := by
  unfold State.hostW1c
  repeat' (first | simp only [apply_ite State.fuse, apply_ite Prod.fst, apply_ite Prod.snd, apply_ite Done.st, ite_self, implies_true, forall_const, foldl_fuse, Done.ok, Done.err] | split)

theorem State.pinW1c_fuse (s : State) (g : Nat) (v : BitVec 32) :
    (State.pinW1c s g v).fuse = s.fuse := by
  unfold State.pinW1c
  repeat' (first | simp only [apply_ite State.fuse, apply_ite Prod.fst, apply_ite Prod.snd, apply_ite Done.st, ite_self, implies_true, forall_const, foldl_fuse, Done.ok, Done.err] | split)

theorem State.statusWrite_fuse (m : BitVec 4) (addr : W32) (v : W32) (s : State) :
    (State.statusWrite m addr v s).fuse = s.fuse := by
  unfold State.statusWrite
  repeat' (first | simp only [apply_ite State.fuse, apply_ite Prod.fst, apply_ite Prod.snd, apply_ite Done.st, ite_self, implies_true, forall_const, foldl_fuse, State.hostW1c_fuse, State.pinW1c_fuse, State.refuseWrite_fuse, Done.ok, Done.err] | split)

theorem State.mbxData_fuse (s : State) (m : BitVec 4) (n : Nat) (i : Nat) (v : W32) :
    (State.mbxData s m n i v).fuse = s.fuse := by
  unfold State.mbxData
  repeat' (first | simp only [apply_ite State.fuse, apply_ite Prod.fst, apply_ite Prod.snd, apply_ite Done.st, ite_self, implies_true, forall_const, foldl_fuse, State.modMbx_fuse, State.refuseWrite_fuse, Done.ok, Done.err] | split)

theorem State.mbxWrite_fuse (s : State) (m : BitVec 4) (a : Nat) (v : W32) :
    (State.mbxWrite s m a v).fuse = s.fuse := by
  unfold State.mbxWrite
  repeat' (first | simp only [apply_ite State.fuse, apply_ite Prod.fst, apply_ite Prod.snd, apply_ite Done.st, ite_self, implies_true, forall_const, foldl_fuse, State.mbxData_fuse, State.mbxSend_fuse, State.refuseWrite_fuse, State.semRelease_fuse, Done.ok, Done.err] | split)

theorem State.maskWrite_fuse (s : State) (m : BitVec 4) (a : Nat) (v : W32) :
    (State.maskWrite s m a v).fuse = s.fuse := by
  unfold State.maskWrite
  repeat' (first | simp only [apply_ite State.fuse, apply_ite Prod.fst, apply_ite Prod.snd, apply_ite Done.st, ite_self, implies_true, forall_const, foldl_fuse, State.refuseWrite_fuse, State.statusWrite_fuse, Done.ok, Done.err] | split)

theorem State.dmaWrite_fuse (s : State) (m : BitVec 4) (a : Nat) (v : W32) :
    (State.dmaWrite s m a v).fuse = s.fuse := by
  unfold State.dmaWrite
  repeat' (first | simp only [apply_ite State.fuse, apply_ite Prod.fst, apply_ite Prod.snd, apply_ite Done.st, ite_self, implies_true, forall_const, foldl_fuse, State.modRing_fuse, State.pointerWrite_fuse, State.refuseWrite_fuse, Done.ok, Done.err] | split)

theorem State.gnsWrite_fuse (s : State) (m : BitVec 4) (a : Nat) (v : W32) :
    (s.gnsWrite m a v).fuse = s.fuse := by
  unfold State.gnsWrite State.gnsEngineWrite
  repeat' split
  all_goals first
    | rfl
    | simp only [State.refuseWrite_fuse, Option.getD_some, Option.getD_none]

theorem State.regWrite_fuse (m : BitVec 4) (addr v : W32) (s : State) :
    (State.regWrite m addr v s).fuse = s.fuse := by
  unfold State.regWrite
  dsimp only
  repeat' split
  all_goals try simp only [State.mbxWrite_fuse, State.maskWrite_fuse, State.dmaWrite_fuse, State.gnsWrite_fuse, State.refuseWrite_fuse]
  rename_i heq _
  unfold State.srcWrite at heq
  repeat' split at heq
  all_goals first
    | (injection heq with heq; rw [← heq])
    | cases heq

theorem State.unlisted_fuse (s : State) (opcode : Nat) (p : Packet) :
    (State.unlisted s opcode p).fuse = s.fuse := by
  unfold State.unlisted
  repeat' (first | simp only [apply_ite State.fuse, apply_ite Prod.fst, apply_ite Prod.snd, apply_ite Done.st, ite_self, implies_true, forall_const, foldl_fuse, State.fetchStall_fuse, State.fetched_fuse, State.finish_fuse, Done.ok, Done.err] | split)

theorem State.clockStep_fuse (s0 : State) (x : Int) (s : State) (n : Nat) :
    (State.clockStep s0 x s n).fuse = s.fuse := by
  unfold State.clockStep
  repeat' (first | simp only [apply_ite State.fuse, apply_ite Prod.fst, apply_ite Prod.snd, apply_ite Done.st, ite_self, implies_true, forall_const, foldl_fuse, State.outStep_fuse, State.syncRun_fuse, Done.ok, Done.err] | split)

theorem State.pulseStep_fuse (old : Nat) (acq : Bool) (s : State) (m : Nat) :
    (State.pulseStep old acq s m).fuse = s.fuse := by
  unfold State.pulseStep
  repeat' (first | simp only [apply_ite State.fuse, apply_ite Prod.fst, apply_ite Prod.snd, apply_ite Done.st, ite_self, implies_true, forall_const, foldl_fuse, State.tpAcq_fuse, State.tpStep_fuse, Done.ok, Done.err] | split)

theorem State.outputsStep_fuse (s : State) (old : Nat) (x : Int) (acq : Bool) :
    (State.outputsStep s old x acq).fuse = s.fuse := by
  unfold State.outputsStep
  repeat' (first | simp only [apply_ite State.fuse, apply_ite Prod.fst, apply_ite Prod.snd, apply_ite Done.st, ite_self, implies_true, forall_const, foldl_fuse, State.clockStep_fuse, State.pulseStep_fuse, State.todStep_fuse, Done.ok, Done.err] | split)

theorem State.latchStep_fuse (s : State) (old : Nat) :
    (State.latchStep s old).fuse = s.fuse := by
  unfold State.latchStep
  repeat' (first | simp only [apply_ite State.fuse, apply_ite Prod.fst, apply_ite Prod.snd, apply_ite Done.st, ite_self, implies_true, forall_const, foldl_fuse, State.raise_fuse, Done.ok, Done.err] | split)

theorem State.bookingsStep_fuse (old : Nat) (s : State) (l : Nat) :
    (State.bookingsStep old s l).fuse = s.fuse := by
  unfold State.bookingsStep
  repeat' (first | simp only [apply_ite State.fuse, apply_ite Prod.fst, apply_ite Prod.snd, apply_ite Done.st, ite_self, implies_true, forall_const, foldl_fuse, State.missSlot_fuse, Done.ok, Done.err] | split)

theorem State.laneStep_fuse (old : Nat) (x : Int) (s : State) (l : Nat) :
    (State.laneStep old x s l).fuse = s.fuse := by
  unfold State.laneStep
  repeat' (first | simp only [apply_ite State.fuse, apply_ite Prod.fst, apply_ite Prod.snd, apply_ite Done.st, ite_self, implies_true, forall_const, foldl_fuse, State.bookingsStep_fuse, State.gateEval_fuse, State.stepWire_fuse, Done.ok, Done.err] | split)

theorem State.lanesStep_fuse (s : State) (old : Nat) (x : Int) :
    (State.lanesStep s old x).fuse = s.fuse := by
  unfold State.lanesStep
  repeat' (first | simp only [apply_ite State.fuse, apply_ite Prod.fst, apply_ite Prod.snd, apply_ite Done.st, ite_self, implies_true, forall_const, foldl_fuse, State.laneStep_fuse, State.swapsDue_fuse, Done.ok, Done.err] | split)

theorem State.stepDone_fuse (s : State) :
    (State.stepDone s).fuse = s.fuse := by
  unfold State.stepDone
  repeat' (first | simp only [apply_ite State.fuse, apply_ite Prod.fst, apply_ite Prod.snd, apply_ite Done.st, ite_self, implies_true, forall_const, foldl_fuse, State.raise_fuse, State.switchDone_fuse, Done.ok, Done.err] | split)

theorem State.slaveAnnounce_fuse (s : State) (n : Nat) (classMax : BitVec 8) (clockClass : BitVec 8) (masterId : BitVec 64) (log : BitVec 8) :
    (State.slaveAnnounce s n classMax clockClass masterId log).fuse = s.fuse := by
  unfold State.slaveAnnounce
  repeat' (first | simp only [apply_ite State.fuse, apply_ite Prod.fst, apply_ite Prod.snd, apply_ite Done.st, ite_self, implies_true, forall_const, foldl_fuse, State.modSlot_fuse, State.refHist_fuse, State.setSource_fuse, Done.ok, Done.err] | split)

theorem OpSpec.run_fuse (o : OpSpec) (hb : ∀ p s, (o.body p s).st.fuse = s.fuse) (p : Packet) (s : State) :
    (o.run p s).st.fuse = s.fuse := by
  unfold OpSpec.run
  repeat' (first
    | simp only [Done.err, hb, State.commitCsp_fuse, State.keepWrite_fuse, State.keepRowFail_fuse]
    | split)

theorem OpSpec.execute_fuse (o : OpSpec) (hb : ∀ p s, (o.body p s).st.fuse = s.fuse) (p : Packet) (s : State) (f : Bool) :
    (o.execute p s f).fuse = s.fuse := by
  unfold OpSpec.execute
  repeat' (first
    | simp only [State.finish_fuse, State.countRefused_fuse, State.settle_fuse, OpSpec.run_fuse o hb]
    | split)

theorem OpSpec.accept_fuse (o : OpSpec) (hb : ∀ p s, (o.body p s).st.fuse = s.fuse) (p : Packet) (s : State) :
    (o.accept p s).fuse = s.fuse := by
  unfold OpSpec.accept
  repeat' (first
    | simp only [State.finish_fuse, State.countRefused_fuse, State.enqueue_fuse, State.reply_fuse, State.countStatus_fuse,
        OpSpec.execute_fuse o hb]
    | split)

/-- A packet changes the fuses and straps only through the body of its opcode. -/
theorem State.takePacket_fuse (o : OpSpec) (hb : ∀ p s, (o.body p s).st.fuse = s.fuse) (p : Packet) (s : State) :
    (s.takePacket o p).fuse = s.fuse := by
  unfold State.takePacket
  repeat' (first
    | simp only [State.finish_fuse, State.fetched_fuse, State.fetchStall_fuse, OpSpec.accept_fuse o hb]
    | split)

end Sys2Proof.Machine
end

