-- ==== Sys2Proof/Laws/FramePending.lean ====
section
/-! SUPPORT. Frames of the waiting commands: for each operation of the machine that leaves the queue of waiting commands alone, the lemma that says so. What they
do not cover changes it. -/

namespace Sys2Proof.Machine

set_option linter.all false
set_option maxRecDepth 4000

open Host

theorem foldl_pending {α : Type} (l : List α) (f : State → α → State) (h : ∀ s a, (f s a).pending = s.pending) (s : State) :
    (l.foldl f s).pending = s.pending := by
  induction l generalizing s with
  | nil => rfl
  | cons a l ih => rw [List.foldl_cons, ih, h]

theorem State.advance_pending (s : State) (dt : Nat) :
    (State.advance s dt).pending = s.pending := by
  unfold State.advance
  repeat' (first | simp only [apply_ite State.pending, apply_ite Prod.fst, apply_ite Prod.snd, apply_ite Done.st, ite_self, implies_true, forall_const, foldl_pending, Done.ok, Done.err] | split)

theorem State.drawn_pending (s : State) :
    (State.drawn s).pending = s.pending := by
  unfold State.drawn
  repeat' (first | simp only [apply_ite State.pending, apply_ite Prod.fst, apply_ite Prod.snd, apply_ite Done.st, ite_self, implies_true, forall_const, foldl_pending, Done.ok, Done.err] | split)

theorem State.irq_pending (s : State) (src : Nat) :
    (State.irq s src).pending = s.pending := by
  unfold State.irq
  repeat' (first | simp only [apply_ite State.pending, apply_ite Prod.fst, apply_ite Prod.snd, apply_ite Done.st, ite_self, implies_true, forall_const, foldl_pending, Done.ok, Done.err] | split)

theorem State.latch_pending (s : State) (m : BitVec 4) (addr : W32) (ws : List W32) :
    (State.latch s m addr ws).pending = s.pending := by
  unfold State.latch
  repeat' (first | simp only [apply_ite State.pending, apply_ite Prod.fst, apply_ite Prod.snd, apply_ite Done.st, ite_self, implies_true, forall_const, foldl_pending, Done.ok, Done.err] | split)

theorem State.headSlotWrite_pending (s : State) (orderly : Bool) :
    (State.headSlotWrite s orderly).pending = s.pending := by
  unfold State.headSlotWrite
  repeat' (first | simp only [apply_ite State.pending, apply_ite Prod.fst, apply_ite Prod.snd, apply_ite Done.st, ite_self, implies_true, forall_const, foldl_pending, Done.ok, Done.err] | split)

theorem State.acqResume_pending (s : State) :
    (State.acqResume s).pending = s.pending := by
  unfold State.acqResume
  repeat' (first | simp only [apply_ite State.pending, apply_ite Prod.fst, apply_ite Prod.snd, apply_ite Done.st, ite_self, implies_true, forall_const, foldl_pending, Done.ok, Done.err] | split)

theorem State.mirrorCopy_pending (s : State) (e : LogEntry) :
    (State.mirrorCopy s e).pending = s.pending := by
  unfold State.mirrorCopy
  repeat' (first | simp only [apply_ite State.pending, apply_ite Prod.fst, apply_ite Prod.snd, apply_ite Done.st, ite_self, implies_true, forall_const, foldl_pending, State.irq_pending, Done.ok, Done.err] | split)

theorem State.logRaw_pending (s : State) (e0 : LogEntry) :
    (State.logRaw s e0).pending = s.pending := by
  unfold State.logRaw
  repeat' (first | simp only [apply_ite State.pending, apply_ite Prod.fst, apply_ite Prod.snd, apply_ite Done.st, ite_self, implies_true, forall_const, foldl_pending, State.headSlotWrite_pending, State.mirrorCopy_pending, Done.ok, Done.err] | split)

theorem State.logMiss_pending (s : State) (e : LogEntry) :
    (State.logMiss s e).pending = s.pending := by
  unfold State.logMiss
  repeat' (first | simp only [apply_ite State.pending, apply_ite Prod.fst, apply_ite Prod.snd, apply_ite Done.st, ite_self, implies_true, forall_const, foldl_pending, Done.ok, Done.err] | split)

theorem State.latchQuiet_pending (s : State) (n : Nat) (isB : Bool) (level : Bool) :
    (State.latchQuiet s n isB level).pending = s.pending := by
  unfold State.latchQuiet
  repeat' (first | simp only [apply_ite State.pending, apply_ite Prod.fst, apply_ite Prod.snd, apply_ite Done.st, ite_self, implies_true, forall_const, foldl_pending, State.irq_pending, State.latch_pending, Done.ok, Done.err] | split)

theorem State.persistHead_pending (put : State → LogEntry → State) (h : ∀ s e, (put s e).pending = s.pending) (s : State) (o : Bool) :
    (s.persistHead put o).pending = s.pending := by
  unfold State.persistHead
  split <;> simp only [h, State.latchQuiet_pending, State.irq_pending, State.headSlotWrite_pending]

theorem State.logSig_pending (s : State) (typ : Nat) (v : BitVec 256) :
    (State.logSig s typ v).pending = s.pending := by
  unfold State.logSig
  repeat' (first | simp only [apply_ite State.pending, apply_ite Prod.fst, apply_ite Prod.snd, apply_ite Done.st, ite_self, implies_true, forall_const, foldl_pending, State.logMiss_pending, State.logRaw_pending, Done.ok, Done.err] | split)

theorem State.ckPersist_pending (put : State → LogEntry → State) (h : ∀ s e, (put s e).pending = s.pending) (s : State) :
    (s.ckPersist put).pending = s.pending := by
  unfold State.ckPersist
  simp only [apply_ite State.pending, State.persistHead_pending put h, ite_self]

theorem State.ckUnsigned_pending (s : State) (forced : Bool) :
    (State.ckUnsigned s forced).pending = s.pending := by
  unfold State.ckUnsigned
  repeat' (first | simp only [apply_ite State.pending, apply_ite Prod.fst, apply_ite Prod.snd, apply_ite Done.st, ite_self, implies_true, forall_const, foldl_pending, State.irq_pending, State.logSig_pending, Done.ok, Done.err] | split)

theorem State.ckEnter_pending (s : State) (forced : Bool) :
    (State.ckEnter s forced).pending = s.pending := by
  unfold State.ckEnter
  repeat' (first | simp only [apply_ite State.pending, apply_ite Prod.fst, apply_ite Prod.snd, apply_ite Done.st, ite_self, implies_true, forall_const, foldl_pending, State.logRaw_pending, Done.ok, Done.err] | split)

theorem State.ckOrderly_pending (put : State → LogEntry → State) (h : ∀ s e, (put s e).pending = s.pending) (s : State) :
    (s.ckOrderly put).pending = s.pending := by
  unfold State.ckOrderly
  simp only [apply_ite State.pending, State.persistHead_pending put h, ite_self]

theorem State.ckWrite_pending (put : State → LogEntry → State) (h : ∀ s e, (put s e).pending = s.pending) (s : State) (o : Bool) :
    (s.ckWrite put o).pending = s.pending := by
  unfold State.ckWrite
  simp only [apply_ite State.pending, State.ckUnsigned_pending, State.ckPersist_pending put h, State.ckOrderly_pending put h, State.ckEnter_pending, ite_self]

theorem State.levelFault_pending (put : State → LogEntry → State) (h : ∀ s e, (put s e).pending = s.pending) (s : State) (a b : BitVec 3) :
    (s.levelFault put a b).pending = s.pending := by
  unfold State.levelFault
  simp only [apply_ite State.pending, h, State.latchQuiet_pending, ite_self]

theorem State.levelFallback_pending (s : State) (lvl : BitVec 3) :
    (State.levelFallback s lvl).pending = s.pending := by
  unfold State.levelFallback
  repeat' (first | simp only [apply_ite State.pending, apply_ite Prod.fst, apply_ite Prod.snd, apply_ite Done.st, ite_self, implies_true, forall_const, foldl_pending, State.irq_pending, Done.ok, Done.err] | split)

theorem State.levelEntry_pending (put : State → LogEntry → State) (h : ∀ s e, (put s e).pending = s.pending) (s : State) (a : BitVec 3) :
    (s.levelEntry put a).pending = s.pending := by
  unfold State.levelEntry
  simp only [apply_ite State.pending, h, State.irq_pending, ite_self]

theorem State.logLevel_pending (put : State → LogEntry → State) (h : ∀ s e, (put s e).pending = s.pending) (s : State) :
    (s.logLevel put).pending = s.pending := by
  unfold State.logLevel
  simp only [apply_ite State.pending, State.levelFallback_pending, State.levelFault_pending put h, State.levelEntry_pending put h, ite_self]

theorem State.logPutN_pending (n : Nat) : ∀ (s : State) (e : LogEntry), (s.logPutN n e).pending = s.pending := by
  induction n with
  | zero => intro s e; unfold State.logPutN; split <;> simp only [State.logRaw_pending, State.logMiss_pending]
  | succ n ih =>
    intro s e
    unfold State.logPutN
    simp only [apply_ite State.pending, State.logMiss_pending, State.ckWrite_pending _ ih, State.logLevel_pending _ ih, State.logRaw_pending, ite_self]

theorem State.logPut_pending (s : State) (e : LogEntry) : (s.logPut e).pending = s.pending := State.logPutN_pending 6 s e

theorem State.checkpoint_pending (s : State) (forced : Bool) : (s.checkpoint forced).pending = s.pending := by
  unfold State.checkpoint
  rw [State.logLevel_pending _ (fun s e => State.logPut_pending s e), State.ckWrite_pending _ (fun s e => State.logPut_pending s e)]

theorem State.raiseBy_pending (s : State) (origin : Nat) (so : Nat) (subject : Nat) (value : Int) (old : Nat) (new : Nat) :
    (State.raiseBy s origin so subject value old new).pending = s.pending := by
  unfold State.raiseBy
  repeat' (first | simp only [apply_ite State.pending, apply_ite Prod.fst, apply_ite Prod.snd, apply_ite Done.st, ite_self, implies_true, forall_const, foldl_pending, State.irq_pending, State.logPut_pending, Done.ok, Done.err] | split)

theorem State.raise_pending (s : State) (so : Nat) (subject : Nat) (value : Int) (old : Nat) (new : Nat) :
    (State.raise s so subject value old new).pending = s.pending := by
  unfold State.raise
  repeat' (first | simp only [apply_ite State.pending, apply_ite Prod.fst, apply_ite Prod.snd, apply_ite Done.st, ite_self, implies_true, forall_const, foldl_pending, State.raiseBy_pending, Done.ok, Done.err] | split)

theorem State.refuseWrite_pending (s : State) :
    (State.refuseWrite s).pending = s.pending := by
  unfold State.refuseWrite
  repeat' (first | simp only [apply_ite State.pending, apply_ite Prod.fst, apply_ite Prod.snd, apply_ite Done.st, ite_self, implies_true, forall_const, foldl_pending, State.irq_pending, Done.ok, Done.err] | split)

theorem State.logGap_pending (s : State) :
    (State.logGap s).pending = s.pending := by
  unfold State.logGap
  repeat' (first | simp only [apply_ite State.pending, apply_ite Prod.fst, apply_ite Prod.snd, apply_ite Done.st, ite_self, implies_true, forall_const, foldl_pending, State.logPut_pending, State.raise_pending, Done.ok, Done.err] | split)

theorem State.logRecover_pending (s : State) :
    (State.logRecover s).pending = s.pending := by
  unfold State.logRecover
  repeat' (first | simp only [apply_ite State.pending, apply_ite Prod.fst, apply_ite Prod.snd, apply_ite Done.st, ite_self, implies_true, forall_const, foldl_pending, State.checkpoint_pending, State.irq_pending, State.logGap_pending, Done.ok, Done.err] | split)

theorem State.useLsk_pending (s : State) (epoch : BitVec 16) :
    (State.useLsk s epoch).pending = s.pending := by
  unfold State.useLsk
  repeat' (first | simp only [apply_ite State.pending, apply_ite Prod.fst, apply_ite Prod.snd, apply_ite Done.st, ite_self, implies_true, forall_const, foldl_pending, Done.ok, Done.err] | split)

theorem State.installLsk_pending (s : State) (pub : BitVec 264) (epoch : BitVec 16) :
    (State.installLsk s pub epoch).pending = s.pending := by
  unfold State.installLsk
  repeat' (first | simp only [apply_ite State.pending, apply_ite Prod.fst, apply_ite Prod.snd, apply_ite Done.st, ite_self, implies_true, forall_const, foldl_pending, State.checkpoint_pending, State.logPut_pending, State.useLsk_pending, Done.ok, Done.err] | split)

theorem State.svcCount_pending (s : State) (lane : Nat) (i : Nat) (n : Nat) :
    (State.svcCount s lane i n).pending = s.pending := by
  unfold State.svcCount
  repeat' (first | simp only [apply_ite State.pending, apply_ite Prod.fst, apply_ite Prod.snd, apply_ite Done.st, ite_self, implies_true, forall_const, foldl_pending, Done.ok, Done.err] | split)

theorem State.svcRaise_pending (s : State) (b : Nat) (lane : Nat) :
    (State.svcRaise s b lane).pending = s.pending := by
  unfold State.svcRaise
  repeat' (first | simp only [apply_ite State.pending, apply_ite Prod.fst, apply_ite Prod.snd, apply_ite Done.st, ite_self, implies_true, forall_const, foldl_pending, State.raise_pending, Done.ok, Done.err] | split)

theorem State.withdrawLane_pending (s : State) (l : Nat) :
    (State.withdrawLane s l).pending = s.pending := by
  unfold State.withdrawLane
  repeat' (first | simp only [apply_ite State.pending, apply_ite Prod.fst, apply_ite Prod.snd, apply_ite Done.st, ite_self, implies_true, forall_const, foldl_pending, State.svcCount_pending, State.svcRaise_pending, Done.ok, Done.err] | split)

theorem State.svcEval_pending (s : State) :
    (State.svcEval s).pending = s.pending := by
  unfold State.svcEval
  repeat' (first | simp only [apply_ite State.pending, apply_ite Prod.fst, apply_ite Prod.snd, apply_ite Done.st, ite_self, implies_true, forall_const, foldl_pending, State.raise_pending, State.withdrawLane_pending, Done.ok, Done.err] | split)

theorem State.outRaise_pending (s : State) (b : Nat) (target : Nat) (value : Int) :
    (State.outRaise s b target value).pending = s.pending := by
  unfold State.outRaise
  repeat' (first | simp only [apply_ite State.pending, apply_ite Prod.fst, apply_ite Prod.snd, apply_ite Done.st, ite_self, implies_true, forall_const, foldl_pending, State.raise_pending, Done.ok, Done.err] | split)

theorem State.outResume_pending (s : State) (n : Nat) :
    (State.outResume s n).pending = s.pending := by
  unfold State.outResume
  repeat' (first | simp only [apply_ite State.pending, apply_ite Prod.fst, apply_ite Prod.snd, apply_ite Done.st, ite_self, implies_true, forall_const, foldl_pending, State.outRaise_pending, Done.ok, Done.err] | split)

theorem State.outEvalCh_pending (s : State) (n : Nat) :
    (State.outEvalCh s n).pending = s.pending := by
  unfold State.outEvalCh
  repeat' (first | simp only [apply_ite State.pending, apply_ite Prod.fst, apply_ite Prod.snd, apply_ite Done.st, ite_self, implies_true, forall_const, foldl_pending, State.outRaise_pending, State.outResume_pending, Done.ok, Done.err] | split)

theorem State.outEvalTp_pending (s : State) (m : Nat) :
    (State.outEvalTp s m).pending = s.pending := by
  unfold State.outEvalTp
  repeat' (first | simp only [apply_ite State.pending, apply_ite Prod.fst, apply_ite Prod.snd, apply_ite Done.st, ite_self, implies_true, forall_const, foldl_pending, State.outRaise_pending, Done.ok, Done.err] | split)

theorem State.outEvalTod_pending (s : State) (k : Nat) :
    (State.outEvalTod s k).pending = s.pending := by
  unfold State.outEvalTod
  repeat' (first | simp only [apply_ite State.pending, apply_ite Prod.fst, apply_ite Prod.snd, apply_ite Done.st, ite_self, implies_true, forall_const, foldl_pending, Done.ok, Done.err] | split)

theorem State.outEval_pending (s : State) :
    (State.outEval s).pending = s.pending := by
  unfold State.outEval
  repeat' (first | simp only [apply_ite State.pending, apply_ite Prod.fst, apply_ite Prod.snd, apply_ite Done.st, ite_self, implies_true, forall_const, foldl_pending, State.outEvalCh_pending, State.outEvalTod_pending, State.outEvalTp_pending, Done.ok, Done.err] | split)

theorem State.pairEval_pending (s : State) :
    (State.pairEval s).pending = s.pending := by
  unfold State.pairEval
  repeat' (first | simp only [apply_ite State.pending, apply_ite Prod.fst, apply_ite Prod.snd, apply_ite Done.st, ite_self, implies_true, forall_const, foldl_pending, State.raise_pending, Done.ok, Done.err] | split)

theorem State.react_pending (s : State) :
    (State.react s).pending = s.pending := by
  unfold State.react
  repeat' (first | simp only [apply_ite State.pending, apply_ite Prod.fst, apply_ite Prod.snd, apply_ite Done.st, ite_self, implies_true, forall_const, foldl_pending, State.outEval_pending, State.pairEval_pending, State.svcEval_pending, Done.ok, Done.err] | split)

theorem State.setRate_pending (s : State) (f : BitVec 40) :
    (State.setRate s f).pending = s.pending := by
  unfold State.setRate
  repeat' (first | simp only [apply_ite State.pending, apply_ite Prod.fst, apply_ite Prod.snd, apply_ite Done.st, ite_self, implies_true, forall_const, foldl_pending, Done.ok, Done.err] | split)

theorem State.holdBegin_pending (s : State) (t0 : Nat) (eb0 : Nat) (temp : Int) (dt : BitVec 16) :
    (State.holdBegin s t0 eb0 temp dt).pending = s.pending := by
  unfold State.holdBegin
  repeat' (first | simp only [apply_ite State.pending, apply_ite Prod.fst, apply_ite Prod.snd, apply_ite Done.st, ite_self, implies_true, forall_const, foldl_pending, Done.ok, Done.err] | split)

theorem State.holdStart_pending (s : State) :
    (State.holdStart s).pending = s.pending := by
  unfold State.holdStart
  repeat' (first | simp only [apply_ite State.pending, apply_ite Prod.fst, apply_ite Prod.snd, apply_ite Done.st, ite_self, implies_true, forall_const, foldl_pending, State.holdBegin_pending, Done.ok, Done.err] | split)

theorem State.holdFromWrite_pending (s : State) :
    (State.holdFromWrite s).pending = s.pending := by
  unfold State.holdFromWrite
  repeat' (first | simp only [apply_ite State.pending, apply_ite Prod.fst, apply_ite Prod.snd, apply_ite Done.st, ite_self, implies_true, forall_const, foldl_pending, State.holdBegin_pending, Done.ok, Done.err] | split)

theorem State.writeMark_pending (s : State) :
    (State.writeMark s).pending = s.pending := by
  unfold State.writeMark
  repeat' (first | simp only [apply_ite State.pending, apply_ite Prod.fst, apply_ite Prod.snd, apply_ite Done.st, ite_self, implies_true, forall_const, foldl_pending, Done.ok, Done.err] | split)

theorem State.holdTemp_pending (s : State) :
    (State.holdTemp s).pending = s.pending := by
  unfold State.holdTemp
  repeat' (first | simp only [apply_ite State.pending, apply_ite Prod.fst, apply_ite Prod.snd, apply_ite Done.st, ite_self, implies_true, forall_const, foldl_pending, Done.ok, Done.err] | split)

theorem State.setAccord_pending (s : State) (t : AccordState) :
    (State.setAccord s t).pending = s.pending := by
  unfold State.setAccord
  repeat' (first | simp only [apply_ite State.pending, apply_ite Prod.fst, apply_ite Prod.snd, apply_ite Done.st, ite_self, implies_true, forall_const, foldl_pending, State.raise_pending, State.react_pending, Done.ok, Done.err] | split)

theorem State.timeSet_pending (s : State) :
    (State.timeSet s).pending = s.pending := by
  unfold State.timeSet
  repeat' (first | simp only [apply_ite State.pending, apply_ite Prod.fst, apply_ite Prod.snd, apply_ite Done.st, ite_self, implies_true, forall_const, foldl_pending, Done.ok, Done.err] | split)

theorem State.seedAccord_pending (s : State) (t : Tai) (eb : Nat) :
    (State.seedAccord s t eb).pending = s.pending := by
  unfold State.seedAccord
  repeat' (first | simp only [apply_ite State.pending, apply_ite Prod.fst, apply_ite Prod.snd, apply_ite Done.st, ite_self, implies_true, forall_const, foldl_pending, State.raise_pending, State.react_pending, State.setAccord_pending, State.timeSet_pending, Done.ok, Done.err] | split)

theorem State.enterDrydown_pending (s : State) (lost : Bool) :
    (State.enterDrydown s lost).pending = s.pending := by
  unfold State.enterDrydown
  repeat' (first | simp only [apply_ite State.pending, apply_ite Prod.fst, apply_ite Prod.snd, apply_ite Done.st, ite_self, implies_true, forall_const, foldl_pending, State.holdFromWrite_pending, State.holdStart_pending, State.raise_pending, State.setAccord_pending, State.setRate_pending, Done.ok, Done.err] | split)

theorem State.addStep_pending (s : State) (x : Int) (source : Nat) (fresh : Bool) (op : Nat) :
    (State.addStep s x source fresh op).pending = s.pending := by
  unfold State.addStep
  repeat' (first | simp only [apply_ite State.pending, apply_ite Prod.fst, apply_ite Prod.snd, apply_ite Done.st, ite_self, implies_true, forall_const, foldl_pending, State.raise_pending, Done.ok, Done.err] | split)

theorem State.startSteer_pending (s : State) (going : Bool) :
    (State.startSteer s going).pending = s.pending := by
  unfold State.startSteer
  repeat' (first | simp only [apply_ite State.pending, apply_ite Prod.fst, apply_ite Prod.snd, apply_ite Done.st, ite_self, implies_true, forall_const, foldl_pending, State.writeMark_pending, Done.ok, Done.err] | split)

theorem State.loopLoad_pending (s : State) :
    (State.loopLoad s).pending = s.pending := by
  unfold State.loopLoad
  repeat' (first | simp only [apply_ite State.pending, apply_ite Prod.fst, apply_ite Prod.snd, apply_ite Done.st, ite_self, implies_true, forall_const, foldl_pending, Done.ok, Done.err] | split)

theorem State.applyStep_pending (s : State) (n : Nat) :
    (State.applyStep s n).pending = s.pending := by
  unfold State.applyStep
  repeat' (first | simp only [apply_ite State.pending, apply_ite Prod.fst, apply_ite Prod.snd, apply_ite Done.st, ite_self, implies_true, forall_const, foldl_pending, Done.ok, Done.err] | split)

theorem State.setAccuracy_pending (s : State) (eb : Nat) :
    (State.setAccuracy s eb).pending = s.pending := by
  unfold State.setAccuracy
  repeat' (first | simp only [apply_ite State.pending, apply_ite Prod.fst, apply_ite Prod.snd, apply_ite Done.st, ite_self, implies_true, forall_const, foldl_pending, Done.ok, Done.err] | split)

theorem State.ebNow_pending (s : State) :
    (State.ebNow s).pending = s.pending := by
  unfold State.ebNow
  repeat' (first | simp only [apply_ite State.pending, apply_ite Prod.fst, apply_ite Prod.snd, apply_ite Done.st, ite_self, implies_true, forall_const, foldl_pending, Done.ok, Done.err] | split)

theorem State.publishEb_pending (s : State) :
    (State.publishEb s).pending = s.pending := by
  unfold State.publishEb
  repeat' (first | simp only [apply_ite State.pending, apply_ite Prod.fst, apply_ite Prod.snd, apply_ite Done.st, ite_self, implies_true, forall_const, foldl_pending, State.ebNow_pending, State.raise_pending, State.react_pending, State.setAccord_pending, State.setAccuracy_pending, Done.ok, Done.err] | split)

theorem State.calRebase_pending (s : State) :
    (State.calRebase s).pending = s.pending := by
  unfold State.calRebase
  repeat' (first | simp only [apply_ite State.pending, apply_ite Prod.fst, apply_ite Prod.snd, apply_ite Done.st, ite_self, implies_true, forall_const, foldl_pending, Done.ok, Done.err] | split)

theorem State.ringPush_pending (s : State) (n : Nat) (rec : List W32) :
    (State.ringPush s n rec).pending = s.pending := by
  unfold State.ringPush
  repeat' (first | simp only [apply_ite State.pending, apply_ite Prod.fst, apply_ite Prod.snd, apply_ite Done.st, ite_self, implies_true, forall_const, foldl_pending, Done.ok, Done.err] | split)

theorem State.ringFree_pending (s : State) (n : Nat) (rec : List W32) :
    (State.ringFree s n rec).pending = s.pending := by
  unfold State.ringFree
  repeat' (first | simp only [apply_ite State.pending, apply_ite Prod.fst, apply_ite Prod.snd, apply_ite Done.st, ite_self, implies_true, forall_const, foldl_pending, Done.ok, Done.err] | split)

theorem State.completeTx_pending (s : State) (lane : Nat) (status : Nat) (slot : Nat) (cookie : BitVec 16) (stamp : Option Stamp) :
    (State.completeTx s lane status slot cookie stamp).pending = s.pending := by
  unfold State.completeTx
  repeat' (first | simp only [apply_ite State.pending, apply_ite Prod.fst, apply_ite Prod.snd, apply_ite Done.st, ite_self, implies_true, forall_const, foldl_pending, Done.ok, Done.err] | split)

theorem State.flushHost_pending (s : State) (lane : Nat) (fs : List TxFrame) :
    (State.flushHost s lane fs).pending = s.pending := by
  unfold State.flushHost
  repeat' (first | simp only [apply_ite State.pending, apply_ite Prod.fst, apply_ite Prod.snd, apply_ite Done.st, ite_self, implies_true, forall_const, foldl_pending, State.completeTx_pending, Done.ok, Done.err] | split)

theorem State.emptyQueue_pending (s : State) (q : Nat) (count : Bool) :
    (State.emptyQueue s q count).pending = s.pending := by
  unfold State.emptyQueue
  repeat' (first | simp only [apply_ite State.pending, apply_ite Prod.fst, apply_ite Prod.snd, apply_ite Done.st, ite_self, implies_true, forall_const, foldl_pending, State.flushHost_pending, Done.ok, Done.err] | split)

theorem State.echoRelease_pending (s : State) :
    (State.echoRelease s).pending = s.pending := by
  unfold State.echoRelease
  repeat' (first | simp only [apply_ite State.pending, apply_ite Prod.fst, apply_ite Prod.snd, apply_ite Done.st, ite_self, implies_true, forall_const, foldl_pending, Done.ok, Done.err] | split)

theorem State.echoAbort_pending (s : State) :
    (State.echoAbort s).pending = s.pending := by
  unfold State.echoAbort
  repeat' (first | simp only [apply_ite State.pending, apply_ite Prod.fst, apply_ite Prod.snd, apply_ite Done.st, ite_self, implies_true, forall_const, foldl_pending, State.echoRelease_pending, State.outRaise_pending, Done.ok, Done.err] | split)

theorem State.tmgSafe_pending (s : State) :
    (State.tmgSafe s).pending = s.pending := by
  unfold State.tmgSafe
  repeat' (first | simp only [apply_ite State.pending, apply_ite Prod.fst, apply_ite Prod.snd, apply_ite Done.st, ite_self, implies_true, forall_const, foldl_pending, State.emptyQueue_pending, Done.ok, Done.err] | split)

theorem State.bistSram_pending (s : State) :
    (State.bistSram s).pending = s.pending := by
  unfold State.bistSram
  repeat' (first | simp only [apply_ite State.pending, apply_ite Prod.fst, apply_ite Prod.snd, apply_ite Done.st, ite_self, implies_true, forall_const, foldl_pending, Done.ok, Done.err] | split)

theorem State.bistTic_pending (s : State) :
    (State.bistTic s).pending = s.pending := by
  unfold State.bistTic
  repeat' (first | simp only [apply_ite State.pending, apply_ite Prod.fst, apply_ite Prod.snd, apply_ite Done.st, ite_self, implies_true, forall_const, foldl_pending, Done.ok, Done.err] | split)

theorem State.bistClears_pending (s : State) (m : BitVec 6) :
    (State.bistClears s m).pending = s.pending := by
  unfold State.bistClears
  repeat' (first | simp only [apply_ite State.pending, apply_ite Prod.fst, apply_ite Prod.snd, apply_ite Done.st, ite_self, implies_true, forall_const, foldl_pending, State.bistSram_pending, State.bistTic_pending, State.loopLoad_pending, Done.ok, Done.err] | split)

theorem State.bistAbort_pending (s : State) :
    (State.bistAbort s).pending = s.pending := by
  unfold State.bistAbort
  repeat' (first | simp only [apply_ite State.pending, apply_ite Prod.fst, apply_ite Prod.snd, apply_ite Done.st, ite_self, implies_true, forall_const, foldl_pending, State.bistClears_pending, State.drawn_pending, State.raise_pending, Done.ok, Done.err] | split)

theorem State.setRole_pending (s : State) (r : PairRole) :
    (State.setRole s r).pending = s.pending := by
  unfold State.setRole
  repeat' (first | simp only [apply_ite State.pending, apply_ite Prod.fst, apply_ite Prod.snd, apply_ite Done.st, ite_self, implies_true, forall_const, foldl_pending, State.raise_pending, Done.ok, Done.err] | split)

theorem State.pairSafe_pending (s : State) (owned : Bool) :
    (State.pairSafe s owned).pending = s.pending := by
  unfold State.pairSafe
  repeat' (first | simp only [apply_ite State.pending, apply_ite Prod.fst, apply_ite Prod.snd, apply_ite Done.st, ite_self, implies_true, forall_const, foldl_pending, State.raise_pending, State.setRole_pending, Done.ok, Done.err] | split)

theorem State.setDev_pending (s : State) (d : DevState) :
    (State.setDev s d).pending = s.pending := by
  unfold State.setDev
  repeat' (first | simp only [apply_ite State.pending, apply_ite Prod.fst, apply_ite Prod.snd, apply_ite Done.st, ite_self, implies_true, forall_const, foldl_pending, State.raise_pending, Done.ok, Done.err] | split)

theorem State.accordSafe_pending (s : State) :
    (State.accordSafe s).pending = s.pending := by
  unfold State.accordSafe
  repeat' (first | simp only [apply_ite State.pending, apply_ite Prod.fst, apply_ite Prod.snd, apply_ite Done.st, ite_self, implies_true, forall_const, foldl_pending, State.holdStart_pending, State.setAccord_pending, State.setRate_pending, Done.ok, Done.err] | split)

theorem State.outSafeTold_pending (old : State) (s : State) (n : Nat) :
    (State.outSafeTold old s n).pending = s.pending := by
  unfold State.outSafeTold
  repeat' (first | simp only [apply_ite State.pending, apply_ite Prod.fst, apply_ite Prod.snd, apply_ite Done.st, ite_self, implies_true, forall_const, foldl_pending, State.outRaise_pending, Done.ok, Done.err] | split)

theorem State.safeEnter_pending (s : State) (first : Nat) :
    (State.safeEnter s first).pending = s.pending := by
  unfold State.safeEnter
  repeat' (first | simp only [apply_ite State.pending, apply_ite Prod.fst, apply_ite Prod.snd, apply_ite Done.st, ite_self, implies_true, forall_const, foldl_pending, State.accordSafe_pending, State.bistAbort_pending, State.echoRelease_pending, State.outRaise_pending, State.outSafeTold_pending, State.pairSafe_pending, State.react_pending, State.setDev_pending, State.tmgSafe_pending, Done.ok, Done.err] | split)

theorem State.faultEntry_pending (s : State) (n : Nat) (cls : Nat) (injected : Bool) :
    (State.faultEntry s n cls injected).pending = s.pending := by
  unfold State.faultEntry
  repeat' (first | simp only [apply_ite State.pending, apply_ite Prod.fst, apply_ite Prod.snd, apply_ite Done.st, ite_self, implies_true, forall_const, foldl_pending, State.logPut_pending, Done.ok, Done.err] | split)

theorem State.safeLine_pending (s : State) (n : Nat) (injected : Bool) :
    (State.safeLine s n injected).pending = s.pending := by
  unfold State.safeLine
  repeat' (first | simp only [apply_ite State.pending, apply_ite Prod.fst, apply_ite Prod.snd, apply_ite Done.st, ite_self, implies_true, forall_const, foldl_pending, State.faultEntry_pending, State.irq_pending, State.safeEnter_pending, Done.ok, Done.err] | split)

theorem State.faultAssert_pending (s : State) (n : Nat) (injected : Bool) :
    (State.faultAssert s n injected).pending = s.pending := by
  unfold State.faultAssert
  repeat' (first | simp only [apply_ite State.pending, apply_ite Prod.fst, apply_ite Prod.snd, apply_ite Done.st, ite_self, implies_true, forall_const, foldl_pending, State.faultEntry_pending, State.irq_pending, State.pairEval_pending, State.safeLine_pending, Done.ok, Done.err] | split)

theorem State.faultEnd_pending (s : State) (n : Nat) :
    (State.faultEnd s n).pending = s.pending := by
  unfold State.faultEnd
  repeat' (first | simp only [apply_ite State.pending, apply_ite Prod.fst, apply_ite Prod.snd, apply_ite Done.st, ite_self, implies_true, forall_const, foldl_pending, State.pairEval_pending, Done.ok, Done.err] | split)

theorem State.keepReadOnly_pending (s : State) :
    (State.keepReadOnly s).pending = s.pending := by
  unfold State.keepReadOnly
  repeat' (first | simp only [apply_ite State.pending, apply_ite Prod.fst, apply_ite Prod.snd, apply_ite Done.st, ite_self, implies_true, forall_const, foldl_pending, State.faultAssert_pending, State.raise_pending, Done.ok, Done.err] | split)

theorem State.keepSpareTold_pending (s : State) :
    (State.keepSpareTold s).pending = s.pending := by
  unfold State.keepSpareTold
  repeat' (first | simp only [apply_ite State.pending, apply_ite Prod.fst, apply_ite Prod.snd, apply_ite Done.st, ite_self, implies_true, forall_const, foldl_pending, State.faultAssert_pending, State.raise_pending, Done.ok, Done.err] | split)

theorem State.keepRowFail_pending (s : State) (row : BitVec 10) :
    (State.keepRowFail s row).1.pending = s.pending := by
  unfold State.keepRowFail
  repeat' (first | simp only [apply_ite State.pending, apply_ite Prod.fst, apply_ite Prod.snd, apply_ite Done.st, ite_self, implies_true, forall_const, foldl_pending, State.keepReadOnly_pending, State.keepSpareTold_pending, State.raise_pending, Done.ok, Done.err] | split)

theorem State.keepWrite_pending (s : State) (fail : Option (BitVec 10)) :
    (State.keepWrite s fail).1.pending = s.pending := by
  unfold State.keepWrite
  repeat' (first | simp only [apply_ite State.pending, apply_ite Prod.fst, apply_ite Prod.snd, apply_ite Done.st, ite_self, implies_true, forall_const, foldl_pending, State.keepRowFail_pending, Done.ok, Done.err] | split)

theorem State.keepOwn_pending (s : State) (f : Keep → Keep) :
    (State.keepOwn s f).pending = s.pending := by
  unfold State.keepOwn
  repeat' (first | simp only [apply_ite State.pending, apply_ite Prod.fst, apply_ite Prod.snd, apply_ite Done.st, ite_self, implies_true, forall_const, foldl_pending, Done.ok, Done.err] | split)

theorem State.keepUncorr_pending (s : State) (rows : List (BitVec 10)) :
    (State.keepUncorr s rows).pending = s.pending := by
  unfold State.keepUncorr
  repeat' (first | simp only [apply_ite State.pending, apply_ite Prod.fst, apply_ite Prod.snd, apply_ite Done.st, ite_self, implies_true, forall_const, foldl_pending, State.faultAssert_pending, State.raise_pending, Done.ok, Done.err] | split)

theorem State.commitCsp_pending (s : State) :
    (State.commitCsp s).pending = s.pending := by
  unfold State.commitCsp
  repeat' (first | simp only [apply_ite State.pending, apply_ite Prod.fst, apply_ite Prod.snd, apply_ite Done.st, ite_self, implies_true, forall_const, foldl_pending, Done.ok, Done.err] | split)

theorem State.released_pending (s : State) :
    (State.released s).pending = s.pending := by
  unfold State.released
  repeat' (first | simp only [apply_ite State.pending, apply_ite Prod.fst, apply_ite Prod.snd, apply_ite Done.st, ite_self, implies_true, forall_const, foldl_pending, Done.ok, Done.err] | split)

theorem State.toReset_pending (s : State) (cause : Nat) (cold : Bool) :
    (State.toReset s cause cold).pending = s.pending := by
  unfold State.toReset
  repeat' (first | simp only [apply_ite State.pending, apply_ite Prod.fst, apply_ite Prod.snd, apply_ite Done.st, ite_self, implies_true, forall_const, foldl_pending, State.released_pending, Done.ok, Done.err] | split)

theorem State.settle_pending (s : State) :
    (State.settle s).pending = s.pending := by
  unfold State.settle
  repeat' (first | simp only [apply_ite State.pending, apply_ite Prod.fst, apply_ite Prod.snd, apply_ite Done.st, ite_self, implies_true, forall_const, foldl_pending, State.logPut_pending, State.persistHead_pending, State.toReset_pending, Done.ok, Done.err] | split)

theorem Done.ok_pending (s : State) (payload : List W32) :
    (Done.ok s payload).st.pending = s.pending := by
  unfold Done.ok
  repeat' (first | simp only [apply_ite State.pending, apply_ite Prod.fst, apply_ite Prod.snd, apply_ite Done.st, ite_self, implies_true, forall_const, foldl_pending, Done.ok, Done.err] | split)

theorem Done.err_pending (s : State) (x : Status) :
    (Done.err s x).st.pending = s.pending := by
  unfold Done.err
  repeat' (first | simp only [apply_ite State.pending, apply_ite Prod.fst, apply_ite Prod.snd, apply_ite Done.st, ite_self, implies_true, forall_const, foldl_pending, Done.ok, Done.err] | split)

theorem State.countStatus_pending (s : State) (x : Status) (final : Bool) :
    (State.countStatus s x final).pending = s.pending := by
  unfold State.countStatus
  repeat' (first | simp only [apply_ite State.pending, apply_ite Prod.fst, apply_ite Prod.snd, apply_ite Done.st, ite_self, implies_true, forall_const, foldl_pending, Done.ok_pending, State.irq_pending, Done.ok, Done.err] | split)

theorem State.reply_pending (s : State) (p : Packet) (opcode : Nat) (kind : Nat) (x : Status) (payload : List W32) (seq : BitVec 32) (frees : Bool) :
    (State.reply s p opcode kind x payload seq frees).pending = s.pending := by
  unfold State.reply
  repeat' (first | simp only [apply_ite State.pending, apply_ite Prod.fst, apply_ite Prod.snd, apply_ite Done.st, ite_self, implies_true, forall_const, foldl_pending, Done.ok_pending, Done.ok, Done.err] | split)

theorem State.finish_pending (s : State) (p : Packet) (opcode : Nat) (x : Status) (payload : List W32) (frees : Bool) :
    (State.finish s p opcode x payload frees).pending = s.pending := by
  unfold State.finish
  repeat' (first | simp only [apply_ite State.pending, apply_ite Prod.fst, apply_ite Prod.snd, apply_ite Done.st, ite_self, implies_true, forall_const, foldl_pending, State.countStatus_pending, State.logPut_pending, State.reply_pending, Done.ok, Done.err] | split)

theorem State.countRefused_pending (s : State) (p : Packet) :
    (State.countRefused s p).pending = s.pending := by
  unfold State.countRefused
  repeat' (first | simp only [apply_ite State.pending, apply_ite Prod.fst, apply_ite Prod.snd, apply_ite Done.st, ite_self, implies_true, forall_const, foldl_pending, Done.ok, Done.err] | split)

theorem State.enqueue_pending (s : State) (p : Packet) (opcode : Nat) :
    (State.enqueue s p opcode).pending = s.pending := by
  unfold State.enqueue
  repeat' (first | simp only [apply_ite State.pending, apply_ite Prod.fst, apply_ite Prod.snd, apply_ite Done.st, ite_self, implies_true, forall_const, foldl_pending, State.countStatus_pending, State.raise_pending, State.reply_pending, Done.ok, Done.err] | split)

theorem State.fetched_pending (s : State) (p : Packet) :
    (State.fetched s p).pending = s.pending := by
  unfold State.fetched
  repeat' (first | simp only [apply_ite State.pending, apply_ite Prod.fst, apply_ite Prod.snd, apply_ite Done.st, ite_self, implies_true, forall_const, foldl_pending, State.irq_pending, State.ringFree_pending, Done.ok, Done.err] | split)

theorem State.fetchStall_pending (s : State) (p : Packet) :
    (State.fetchStall s p).pending = s.pending := by
  unfold State.fetchStall
  repeat' (first | simp only [apply_ite State.pending, apply_ite Prod.fst, apply_ite Prod.snd, apply_ite Done.st, ite_self, implies_true, forall_const, foldl_pending, State.raise_pending, Done.ok, Done.err] | split)

theorem answer_pending (f : Packet → State → List W32) (p : Packet) (s : State) :
    (answer f p s).st.pending = s.pending := by
  unfold answer
  repeat' (first | simp only [apply_ite State.pending, apply_ite Prod.fst, apply_ite Prod.snd, apply_ite Done.st, ite_self, implies_true, forall_const, foldl_pending, Done.ok_pending, Done.ok, Done.err] | split)

theorem State.modSlot_pending (s : State) (n : Nat) (f : RefSlot → RefSlot) :
    (State.modSlot s n f).pending = s.pending := by
  unfold State.modSlot
  repeat' (first | simp only [apply_ite State.pending, apply_ite Prod.fst, apply_ite Prod.snd, apply_ite Done.st, ite_self, implies_true, forall_const, foldl_pending, Done.ok, Done.err] | split)

theorem State.refHist_pending (s : State) (n : Nat) (b : Nat) (so : Option Nat) (value : Int) :
    (State.refHist s n b so value).pending = s.pending := by
  unfold State.refHist
  repeat' (first | simp only [apply_ite State.pending, apply_ite Prod.fst, apply_ite Prod.snd, apply_ite Done.st, ite_self, implies_true, forall_const, foldl_pending, State.modSlot_pending, State.raise_pending, Done.ok, Done.err] | split)

theorem State.cellUpdate_pending (s : State) (a : Nat) (b : Nat) :
    (State.cellUpdate s a b).pending = s.pending := by
  unfold State.cellUpdate
  repeat' (first | simp only [apply_ite State.pending, apply_ite Prod.fst, apply_ite Prod.snd, apply_ite Done.st, ite_self, implies_true, forall_const, foldl_pending, Done.ok, Done.err] | split)

theorem State.cellsUpdate_pending (s : State) (n : Nat) :
    (State.cellsUpdate s n).pending = s.pending := by
  unfold State.cellsUpdate
  repeat' (first | simp only [apply_ite State.pending, apply_ite Prod.fst, apply_ite Prod.snd, apply_ite Done.st, ite_self, implies_true, forall_const, foldl_pending, State.cellUpdate_pending, Done.ok, Done.err] | split)

theorem State.cellsStale_pending (s : State) (n : Nat) :
    (State.cellsStale s n).pending = s.pending := by
  unfold State.cellsStale
  repeat' (first | simp only [apply_ite State.pending, apply_ite Prod.fst, apply_ite Prod.snd, apply_ite Done.st, ite_self, implies_true, forall_const, foldl_pending, Done.ok, Done.err] | split)

theorem State.cellsSnap_pending (s : State) :
    (State.cellsSnap s).pending = s.pending := by
  unfold State.cellsSnap
  repeat' (first | simp only [apply_ite State.pending, apply_ite Prod.fst, apply_ite Prod.snd, apply_ite Done.st, ite_self, implies_true, forall_const, foldl_pending, Done.ok, Done.err] | split)

theorem State.cellsReset_pending (s : State) (n : Nat) :
    (State.cellsReset s n).pending = s.pending := by
  unfold State.cellsReset
  repeat' (first | simp only [apply_ite State.pending, apply_ite Prod.fst, apply_ite Prod.snd, apply_ite Done.st, ite_self, implies_true, forall_const, foldl_pending, Done.ok, Done.err] | split)

theorem State.majRefresh_pending (s : State) :
    (State.majRefresh s).pending = s.pending := by
  unfold State.majRefresh
  repeat' (first | simp only [apply_ite State.pending, apply_ite Prod.fst, apply_ite Prod.snd, apply_ite Done.st, ite_self, implies_true, forall_const, foldl_pending, State.raise_pending, Done.ok, Done.err] | split)

theorem State.qMove_pending (s : State) (n : Nat) (t : QState) (so : Option Nat) :
    (State.qMove s n t so).pending = s.pending := by
  unfold State.qMove
  repeat' (first | simp only [apply_ite State.pending, apply_ite Prod.fst, apply_ite Prod.snd, apply_ite Done.st, ite_self, implies_true, forall_const, foldl_pending, State.modSlot_pending, State.raise_pending, Done.ok, Done.err] | split)

theorem State.refTimer_pending (s : State) (n : Nat) (first : Bool) :
    (State.refTimer s n first).pending = s.pending := by
  unfold State.refTimer
  repeat' (first | simp only [apply_ite State.pending, apply_ite Prod.fst, apply_ite Prod.snd, apply_ite Done.st, ite_self, implies_true, forall_const, foldl_pending, State.modSlot_pending, Done.ok, Done.err] | split)

theorem State.refTimerOff_pending (s : State) (n : Nat) :
    (State.refTimerOff s n).pending = s.pending := by
  unfold State.refTimerOff
  repeat' (first | simp only [apply_ite State.pending, apply_ite Prod.fst, apply_ite Prod.snd, apply_ite Done.st, ite_self, implies_true, forall_const, foldl_pending, State.modSlot_pending, Done.ok, Done.err] | split)

theorem State.servoHold_pending (s : State) (n : Nat) :
    (State.servoHold s n).pending = s.pending := by
  unfold State.servoHold
  repeat' (first | simp only [apply_ite State.pending, apply_ite Prod.fst, apply_ite Prod.snd, apply_ite Done.st, ite_self, implies_true, forall_const, foldl_pending, State.holdStart_pending, Done.ok, Done.err] | split)

theorem State.servoResume_pending (s : State) (n : Nat) :
    (State.servoResume s n).pending = s.pending := by
  unfold State.servoResume
  repeat' (first | simp only [apply_ite State.pending, apply_ite Prod.fst, apply_ite Prod.snd, apply_ite Done.st, ite_self, implies_true, forall_const, foldl_pending, Done.ok, Done.err] | split)

theorem State.waitFault_pending (s : State) (n : Nat) :
    (State.waitFault s n).pending = s.pending := by
  unfold State.waitFault
  repeat' (first | simp only [apply_ite State.pending, apply_ite Prod.fst, apply_ite Prod.snd, apply_ite Done.st, ite_self, implies_true, forall_const, foldl_pending, State.qMove_pending, State.raise_pending, State.refHist_pending, State.refTimerOff_pending, Done.ok, Done.err] | split)

theorem State.qualFault_pending (s : State) (n : Nat) :
    (State.qualFault s n).pending = s.pending := by
  unfold State.qualFault
  repeat' (first | simp only [apply_ite State.pending, apply_ite Prod.fst, apply_ite Prod.snd, apply_ite Done.st, ite_self, implies_true, forall_const, foldl_pending, State.qMove_pending, State.refTimer_pending, State.servoHold_pending, Done.ok, Done.err] | split)

theorem State.refJudge_pending (s : State) (n : Nat) (arrived : Bool) :
    (State.refJudge s n arrived).pending = s.pending := by
  unfold State.refJudge
  repeat' (first | simp only [apply_ite State.pending, apply_ite Prod.fst, apply_ite Prod.snd, apply_ite Done.st, ite_self, implies_true, forall_const, foldl_pending, State.qMove_pending, State.qualFault_pending, State.refHist_pending, State.refTimer_pending, State.refTimerOff_pending, State.servoResume_pending, State.waitFault_pending, Done.ok, Done.err] | split)

theorem State.setFaults_pending (s : State) (n : Nat) (m : BitVec 8) (arrived : Bool) :
    (State.setFaults s n m arrived).pending = s.pending := by
  unfold State.setFaults
  repeat' (first | simp only [apply_ite State.pending, apply_ite Prod.fst, apply_ite Prod.snd, apply_ite Done.st, ite_self, implies_true, forall_const, foldl_pending, State.majRefresh_pending, State.modSlot_pending, State.refHist_pending, State.refJudge_pending, Done.ok, Done.err] | split)

theorem State.setSource_pending (s : State) (n : Nat) (invalid : Bool) (limit : Bool) (arrived : Bool) :
    (State.setSource s n invalid limit arrived).pending = s.pending := by
  unfold State.setSource
  repeat' (first | simp only [apply_ite State.pending, apply_ite Prod.fst, apply_ite Prod.snd, apply_ite Done.st, ite_self, implies_true, forall_const, foldl_pending, State.cellsStale_pending, State.modSlot_pending, State.refHist_pending, State.setFaults_pending, Done.ok, Done.err] | split)

theorem State.refAbsent_pending (s : State) (n : Nat) :
    (State.refAbsent s n).pending = s.pending := by
  unfold State.refAbsent
  repeat' (first | simp only [apply_ite State.pending, apply_ite Prod.fst, apply_ite Prod.snd, apply_ite Done.st, ite_self, implies_true, forall_const, foldl_pending, State.cellsReset_pending, State.majRefresh_pending, State.modSlot_pending, State.refHist_pending, Done.ok, Done.err] | split)

theorem State.refPresence_pending (s : State) :
    (State.refPresence s).pending = s.pending := by
  unfold State.refPresence
  repeat' (first | simp only [apply_ite State.pending, apply_ite Prod.fst, apply_ite Prod.snd, apply_ite Done.st, ite_self, implies_true, forall_const, foldl_pending, State.refHist_pending, Done.ok, Done.err] | split)

theorem State.refStart_pending (s : State) :
    (State.refStart s).pending = s.pending := by
  unfold State.refStart
  repeat' (first | simp only [apply_ite State.pending, apply_ite Prod.fst, apply_ite Prod.snd, apply_ite Done.st, ite_self, implies_true, forall_const, foldl_pending, State.modSlot_pending, State.refAbsent_pending, State.refHist_pending, Done.ok, Done.err] | split)

theorem State.macPoint_pending (s : State) (f : Option Int) :
    (State.macPoint s f).pending = s.pending := by
  unfold State.macPoint
  repeat' (first | simp only [apply_ite State.pending, apply_ite Prod.fst, apply_ite Prod.snd, apply_ite Done.st, ite_self, implies_true, forall_const, foldl_pending, Done.ok, Done.err] | split)

theorem State.refMonitor_pending (s : State) (n : Nat) (jump : Bool) :
    (State.refMonitor s n jump).pending = s.pending := by
  unfold State.refMonitor
  repeat' (first | simp only [apply_ite State.pending, apply_ite Prod.fst, apply_ite Prod.snd, apply_ite Done.st, ite_self, implies_true, forall_const, foldl_pending, State.macPoint_pending, State.modSlot_pending, State.refHist_pending, State.setFaults_pending, Done.ok, Done.err] | split)

theorem State.servoLoop_pending (s : State) (ps : PSet) (tMs : Nat) (e : Int) :
    (State.servoLoop s ps tMs e).pending = s.pending := by
  unfold State.servoLoop
  repeat' (first | simp only [apply_ite State.pending, apply_ite Prod.fst, apply_ite Prod.snd, apply_ite Done.st, ite_self, implies_true, forall_const, foldl_pending, Done.ok, Done.err] | split)

theorem State.lockStep_pending (s : State) (ps : PSet) (e : Int) :
    (State.lockStep s ps e).pending = s.pending := by
  unfold State.lockStep
  repeat' (first | simp only [apply_ite State.pending, apply_ite Prod.fst, apply_ite Prod.snd, apply_ite Done.st, ite_self, implies_true, forall_const, foldl_pending, State.loopLoad_pending, State.setAccord_pending, Done.ok, Done.err] | split)

theorem State.refResidual_pending (s : State) (n : Nat) (x : Int) :
    (State.refResidual s n x).pending = s.pending := by
  unfold State.refResidual
  repeat' (first | simp only [apply_ite State.pending, apply_ite Prod.fst, apply_ite Prod.snd, apply_ite Done.st, ite_self, implies_true, forall_const, foldl_pending, State.lockStep_pending, State.servoLoop_pending, Done.ok, Done.err] | split)

theorem State.refUpdate_pending (s : State) (n : Nat) (x : Int) :
    (State.refUpdate s n x).pending = s.pending := by
  unfold State.refUpdate
  repeat' (first | simp only [apply_ite State.pending, apply_ite Prod.fst, apply_ite Prod.snd, apply_ite Done.st, ite_self, implies_true, forall_const, foldl_pending, State.cellsStale_pending, State.cellsUpdate_pending, State.modSlot_pending, State.refMonitor_pending, State.refResidual_pending, Done.ok, Done.err] | split)

theorem State.refDeliver_pending (s : State) (n : Nat) (x : Int) (eSrc : BitVec 24) :
    (State.refDeliver s n x eSrc).pending = s.pending := by
  unfold State.refDeliver
  repeat' (first | simp only [apply_ite State.pending, apply_ite Prod.fst, apply_ite Prod.snd, apply_ite Done.st, ite_self, implies_true, forall_const, foldl_pending, State.modSlot_pending, State.refUpdate_pending, Done.ok, Done.err] | split)

theorem State.steerTo_pending (s : State) (x : Int) (source : Nat) :
    (State.steerTo s x source).pending = s.pending := by
  unfold State.steerTo
  repeat' (first | simp only [apply_ite State.pending, apply_ite Prod.fst, apply_ite Prod.snd, apply_ite Done.st, ite_self, implies_true, forall_const, foldl_pending, State.addStep_pending, State.holdBegin_pending, State.setAccord_pending, State.startSteer_pending, Done.ok, Done.err] | split)

theorem State.switchEnd_pending (s : State) :
    (State.switchEnd s).pending = s.pending := by
  unfold State.switchEnd
  repeat' (first | simp only [apply_ite State.pending, apply_ite Prod.fst, apply_ite Prod.snd, apply_ite Done.st, ite_self, implies_true, forall_const, foldl_pending, State.raise_pending, Done.ok, Done.err] | split)

theorem State.startSwitch_pending (s : State) (cur : Nat) (dst : Nat) :
    (State.startSwitch s cur dst).pending = s.pending := by
  unfold State.startSwitch
  repeat' (first | simp only [apply_ite State.pending, apply_ite Prod.fst, apply_ite Prod.snd, apply_ite Done.st, ite_self, implies_true, forall_const, foldl_pending, State.addStep_pending, State.pairEval_pending, State.raise_pending, State.startSteer_pending, State.steerTo_pending, State.switchEnd_pending, Done.ok, Done.err] | split)

theorem State.allLost_pending (s : State) (cur : Nat) :
    (State.allLost s cur).pending = s.pending := by
  unfold State.allLost
  repeat' (first | simp only [apply_ite State.pending, apply_ite Prod.fst, apply_ite Prod.snd, apply_ite Done.st, ite_self, implies_true, forall_const, foldl_pending, State.enterDrydown_pending, State.raise_pending, Done.ok, Done.err] | split)

theorem State.refSelect_pending (s : State) :
    (State.refSelect s).pending = s.pending := by
  unfold State.refSelect
  repeat' (first | simp only [apply_ite State.pending, apply_ite Prod.fst, apply_ite Prod.snd, apply_ite Done.st, ite_self, implies_true, forall_const, foldl_pending, State.allLost_pending, State.raise_pending, State.startSwitch_pending, Done.ok, Done.err] | split)

theorem State.switchDone_pending (s : State) :
    (State.switchDone s).pending = s.pending := by
  unfold State.switchDone
  repeat' (first | simp only [apply_ite State.pending, apply_ite Prod.fst, apply_ite Prod.snd, apply_ite Done.st, ite_self, implies_true, forall_const, foldl_pending, State.refSelect_pending, State.switchEnd_pending, Done.ok, Done.err] | split)

theorem State.setAcdCfg_pending (s : State) (f : AcdCfg → AcdCfg) :
    (State.setAcdCfg s f).pending = s.pending := by
  unfold State.setAcdCfg
  repeat' (first | simp only [apply_ite State.pending, apply_ite Prod.fst, apply_ite Prod.snd, apply_ite Done.st, ite_self, implies_true, forall_const, foldl_pending, Done.ok, Done.err] | split)

theorem specAcdQueryTime_pending (p : Packet) (s : State) :
    (specAcdQueryTime.body p s).st.pending = s.pending := by
  unfold specAcdQueryTime
  repeat' (first | simp only [apply_ite State.pending, apply_ite Prod.fst, apply_ite Prod.snd, apply_ite Done.st, ite_self, implies_true, forall_const, foldl_pending, answer, gnsBody, keyBody, pairBody, svcBody, ticBody, answer_pending, Done.ok, Done.err] | split)

theorem specAcdQueryServo_pending (p : Packet) (s : State) :
    (specAcdQueryServo.body p s).st.pending = s.pending := by
  unfold specAcdQueryServo
  repeat' (first | simp only [apply_ite State.pending, apply_ite Prod.fst, apply_ite Prod.snd, apply_ite Done.st, ite_self, implies_true, forall_const, foldl_pending, answer, gnsBody, keyBody, pairBody, svcBody, ticBody, answer_pending, Done.ok, Done.err] | split)

theorem specAcdSetServo_pending (p : Packet) (s : State) :
    (specAcdSetServo.body p s).st.pending = s.pending := by
  unfold specAcdSetServo
  repeat' (first | simp only [apply_ite State.pending, apply_ite Prod.fst, apply_ite Prod.snd, apply_ite Done.st, ite_self, implies_true, forall_const, foldl_pending, answer, gnsBody, keyBody, pairBody, svcBody, ticBody, Done.ok_pending, State.loopLoad_pending, State.setAcdCfg_pending, Done.ok, Done.err] | split)

theorem specAcdSetStepPolicy_pending (p : Packet) (s : State) :
    (specAcdSetStepPolicy.body p s).st.pending = s.pending := by
  unfold specAcdSetStepPolicy
  repeat' (first | simp only [apply_ite State.pending, apply_ite Prod.fst, apply_ite Prod.snd, apply_ite Done.st, ite_self, implies_true, forall_const, foldl_pending, answer, gnsBody, keyBody, pairBody, svcBody, ticBody, Done.ok_pending, State.setAcdCfg_pending, Done.ok, Done.err] | split)

theorem specAcdSetHold_pending (p : Packet) (s : State) :
    (specAcdSetHold.body p s).st.pending = s.pending := by
  unfold specAcdSetHold
  repeat' (first | simp only [apply_ite State.pending, apply_ite Prod.fst, apply_ite Prod.snd, apply_ite Done.st, ite_self, implies_true, forall_const, foldl_pending, answer, gnsBody, keyBody, pairBody, svcBody, ticBody, Done.ok_pending, State.react_pending, State.setAcdCfg_pending, Done.ok, Done.err] | split)

theorem specAcdSetOscModel_pending (p : Packet) (s : State) :
    (specAcdSetOscModel.body p s).st.pending = s.pending := by
  unfold specAcdSetOscModel
  repeat' (first | simp only [apply_ite State.pending, apply_ite Prod.fst, apply_ite Prod.snd, apply_ite Done.st, ite_self, implies_true, forall_const, foldl_pending, answer, gnsBody, keyBody, pairBody, svcBody, ticBody, Done.ok_pending, State.setAcdCfg_pending, Done.ok, Done.err] | split)

theorem specAcdSetTime_pending (p : Packet) (s : State) :
    (specAcdSetTime.body p s).st.pending = s.pending := by
  unfold specAcdSetTime
  repeat' (first | simp only [apply_ite State.pending, apply_ite Prod.fst, apply_ite Prod.snd, apply_ite Done.st, ite_self, implies_true, forall_const, foldl_pending, answer, gnsBody, keyBody, pairBody, svcBody, ticBody, Done.err_pending, Done.ok_pending, State.seedAccord_pending, Done.ok, Done.err] | split)

theorem specAcdAdjustPhase_pending (p : Packet) (s : State) :
    (specAcdAdjustPhase.body p s).st.pending = s.pending := by
  unfold specAcdAdjustPhase
  repeat' (first | simp only [apply_ite State.pending, apply_ite Prod.fst, apply_ite Prod.snd, apply_ite Done.st, ite_self, implies_true, forall_const, foldl_pending, answer, gnsBody, keyBody, pairBody, svcBody, ticBody, Done.err_pending, Done.ok_pending, State.addStep_pending, State.switchDone_pending, Done.ok, Done.err] | split)

theorem specAcdSetUtc_pending (p : Packet) (s : State) :
    (specAcdSetUtc.body p s).st.pending = s.pending := by
  unfold specAcdSetUtc
  repeat' (first | simp only [apply_ite State.pending, apply_ite Prod.fst, apply_ite Prod.snd, apply_ite Done.st, ite_self, implies_true, forall_const, foldl_pending, answer, gnsBody, keyBody, pairBody, svcBody, ticBody, Done.ok_pending, State.raise_pending, State.setAcdCfg_pending, Done.ok, Done.err] | split)

theorem specAcdSetCpllSource_pending (p : Packet) (s : State) :
    (specAcdSetCpllSource.body p s).st.pending = s.pending := by
  unfold specAcdSetCpllSource
  repeat' (first | simp only [apply_ite State.pending, apply_ite Prod.fst, apply_ite Prod.snd, apply_ite Done.st, ite_self, implies_true, forall_const, foldl_pending, answer, gnsBody, keyBody, pairBody, svcBody, ticBody, Done.err_pending, Done.ok_pending, State.setAcdCfg_pending, Done.ok, Done.err] | split)

theorem specAcdEnterDrydown_pending (p : Packet) (s : State) :
    (specAcdEnterDrydown.body p s).st.pending = s.pending := by
  unfold specAcdEnterDrydown
  repeat' (first | simp only [apply_ite State.pending, apply_ite Prod.fst, apply_ite Prod.snd, apply_ite Done.st, ite_self, implies_true, forall_const, foldl_pending, answer, gnsBody, keyBody, pairBody, svcBody, ticBody, Done.err_pending, Done.ok_pending, State.enterDrydown_pending, Done.ok, Done.err] | split)

theorem specAcdSetMaceration_pending (p : Packet) (s : State) :
    (specAcdSetMaceration.body p s).st.pending = s.pending := by
  unfold specAcdSetMaceration
  repeat' (first | simp only [apply_ite State.pending, apply_ite Prod.fst, apply_ite Prod.snd, apply_ite Done.st, ite_self, implies_true, forall_const, foldl_pending, answer, gnsBody, keyBody, pairBody, svcBody, ticBody, Done.ok_pending, State.setAcdCfg_pending, Done.ok, Done.err] | split)

theorem State.steerWrite_pending (s : State) (v : Int) :
    (State.steerWrite s v).pending = s.pending := by
  unfold State.steerWrite
  repeat' (first | simp only [apply_ite State.pending, apply_ite Prod.fst, apply_ite Prod.snd, apply_ite Done.st, ite_self, implies_true, forall_const, foldl_pending, State.faultAssert_pending, State.raise_pending, State.setRate_pending, State.writeMark_pending, Done.ok, Done.err] | split)

theorem State.cpllLost_pending (s : State) (gone : Bool) :
    (State.cpllLost s gone).pending = s.pending := by
  unfold State.cpllLost
  repeat' (first | simp only [apply_ite State.pending, apply_ite Prod.fst, apply_ite Prod.snd, apply_ite Done.st, ite_self, implies_true, forall_const, foldl_pending, State.faultAssert_pending, Done.ok, Done.err] | split)

theorem State.leapNow_pending (s : State) :
    (State.leapNow s).pending = s.pending := by
  unfold State.leapNow
  repeat' (first | simp only [apply_ite State.pending, apply_ite Prod.fst, apply_ite Prod.snd, apply_ite Done.st, ite_self, implies_true, forall_const, foldl_pending, State.commitCsp_pending, State.keepWrite_pending, State.raise_pending, State.setAcdCfg_pending, Done.ok, Done.err] | split)

theorem State.modTrk_pending (s : State) (k : Nat) (f : GnsTrk → GnsTrk) :
    (State.modTrk s k f).pending = s.pending := by
  unfold State.modTrk
  repeat' (first | simp only [apply_ite State.pending, apply_ite Prod.fst, apply_ite Prod.snd, apply_ite Done.st, ite_self, implies_true, forall_const, foldl_pending, Done.ok, Done.err] | split)

theorem State.setGnsCfg_pending (s : State) (f : GnsCfg → GnsCfg) :
    (State.setGnsCfg s f).pending = s.pending := by
  unfold State.setGnsCfg
  repeat' (first | simp only [apply_ite State.pending, apply_ite Prod.fst, apply_ite Prod.snd, apply_ite Done.st, ite_self, implies_true, forall_const, foldl_pending, Done.ok, Done.err] | split)

theorem State.gnsHist_pending (s : State) (b : Nat) :
    (State.gnsHist s b).pending = s.pending := by
  unfold State.gnsHist
  repeat' (first | simp only [apply_ite State.pending, apply_ite Prod.fst, apply_ite Prod.snd, apply_ite Done.st, ite_self, implies_true, forall_const, foldl_pending, Done.ok, Done.err] | split)

theorem State.samples_pending (s : State) (n : Nat) :
    (State.samples s n).pending = s.pending := by
  unfold State.samples
  repeat' (first | simp only [apply_ite State.pending, apply_ite Prod.fst, apply_ite Prod.snd, apply_ite Done.st, ite_self, implies_true, forall_const, foldl_pending, Done.ok, Done.err] | split)

theorem State.notchesOn_pending (s : State) :
    (State.notchesOn s).pending = s.pending := by
  unfold State.notchesOn
  repeat' (first | simp only [apply_ite State.pending, apply_ite Prod.fst, apply_ite Prod.snd, apply_ite Done.st, ite_self, implies_true, forall_const, foldl_pending, Done.ok, Done.err] | split)

theorem State.mapBank_pending (s : State) (i : Nat) (t : BitVec 7) :
    (State.mapBank s i t).pending = s.pending := by
  unfold State.mapBank
  repeat' (first | simp only [apply_ite State.pending, apply_ite Prod.fst, apply_ite Prod.snd, apply_ite Done.st, ite_self, implies_true, forall_const, foldl_pending, State.setGnsCfg_pending, Done.ok, Done.err] | split)

theorem State.mapKeep_pending (s : State) :
    (State.mapKeep s).pending = s.pending := by
  unfold State.mapKeep
  repeat' (first | simp only [apply_ite State.pending, apply_ite Prod.fst, apply_ite Prod.snd, apply_ite Done.st, ite_self, implies_true, forall_const, foldl_pending, State.keepOwn_pending, Done.ok, Done.err] | split)

theorem State.bankPool_pending (s : State) (before : Nat) :
    (State.bankPool s before).pending = s.pending := by
  unfold State.bankPool
  repeat' (first | simp only [apply_ite State.pending, apply_ite Prod.fst, apply_ite Prod.snd, apply_ite Done.st, ite_self, implies_true, forall_const, foldl_pending, State.raise_pending, Done.ok, Done.err] | split)

theorem State.bankFailed_pending (s : State) (b : Nat) :
    (State.bankFailed s b).pending = s.pending := by
  unfold State.bankFailed
  repeat' (first | simp only [apply_ite State.pending, apply_ite Prod.fst, apply_ite Prod.snd, apply_ite Done.st, ite_self, implies_true, forall_const, foldl_pending, State.bankPool_pending, State.faultAssert_pending, State.gnsHist_pending, State.mapBank_pending, State.mapKeep_pending, State.raise_pending, Done.ok, Done.err] | split)

theorem State.spareFailed_pending (s : State) (i : Nat) :
    (State.spareFailed s i).pending = s.pending := by
  unfold State.spareFailed
  repeat' (first | simp only [apply_ite State.pending, apply_ite Prod.fst, apply_ite Prod.snd, apply_ite Done.st, ite_self, implies_true, forall_const, foldl_pending, State.mapBank_pending, State.mapKeep_pending, State.raise_pending, Done.ok, Done.err] | split)

theorem State.bankTest_pending (s : State) (banks : BitVec 72) :
    (State.bankTest s banks).pending = s.pending := by
  unfold State.bankTest
  repeat' (first | simp only [apply_ite State.pending, apply_ite Prod.fst, apply_ite Prod.snd, apply_ite Done.st, ite_self, implies_true, forall_const, foldl_pending, State.bankFailed_pending, State.spareFailed_pending, Done.ok, Done.err] | split)

theorem State.gnsEval_pending (s : State) :
    (State.gnsEval s).pending = s.pending := by
  unfold State.gnsEval
  repeat' (first | simp only [apply_ite State.pending, apply_ite Prod.fst, apply_ite Prod.snd, apply_ite Done.st, ite_self, implies_true, forall_const, foldl_pending, State.setSource_pending, Done.ok, Done.err] | split)

theorem State.anchorTake_pending (s : State) :
    (State.anchorTake s).pending = s.pending := by
  unfold State.anchorTake
  repeat' (first | simp only [apply_ite State.pending, apply_ite Prod.fst, apply_ite Prod.snd, apply_ite Done.st, ite_self, implies_true, forall_const, foldl_pending, Done.ok, Done.err] | split)

theorem State.anchorMove_pending (s : State) :
    (State.anchorMove s).pending = s.pending := by
  unfold State.anchorMove
  repeat' (first | simp only [apply_ite State.pending, apply_ite Prod.fst, apply_ite Prod.snd, apply_ite Done.st, ite_self, implies_true, forall_const, foldl_pending, State.anchorTake_pending, State.raise_pending, Done.ok, Done.err] | split)

theorem State.anchorByHand_pending (s : State) :
    (State.anchorByHand s).pending = s.pending := by
  unfold State.anchorByHand
  repeat' (first | simp only [apply_ite State.pending, apply_ite Prod.fst, apply_ite Prod.snd, apply_ite Done.st, ite_self, implies_true, forall_const, foldl_pending, State.anchorMove_pending, Done.ok, Done.err] | split)

theorem State.anchorTempStep_pending (s : State) :
    (State.anchorTempStep s).pending = s.pending := by
  unfold State.anchorTempStep
  repeat' (first | simp only [apply_ite State.pending, apply_ite Prod.fst, apply_ite Prod.snd, apply_ite Done.st, ite_self, implies_true, forall_const, foldl_pending, Done.ok, Done.err] | split)

theorem State.spoofBegins_pending (s : State) (b : Nat) :
    (State.spoofBegins s b).pending = s.pending := by
  unfold State.spoofBegins
  repeat' (first | simp only [apply_ite State.pending, apply_ite Prod.fst, apply_ite Prod.snd, apply_ite Done.st, ite_self, implies_true, forall_const, foldl_pending, State.gnsHist_pending, State.raise_pending, Done.ok, Done.err] | split)

theorem State.crossCheck_pending (s : State) :
    (State.crossCheck s).pending = s.pending := by
  unfold State.crossCheck
  repeat' (first | simp only [apply_ite State.pending, apply_ite Prod.fst, apply_ite Prod.snd, apply_ite Done.st, ite_self, implies_true, forall_const, foldl_pending, State.spoofBegins_pending, Done.ok, Done.err] | split)

theorem State.anchorStep_pending (s : State) :
    (State.anchorStep s).pending = s.pending := by
  unfold State.anchorStep
  repeat' (first | simp only [apply_ite State.pending, apply_ite Prod.fst, apply_ite Prod.snd, apply_ite Done.st, ite_self, implies_true, forall_const, foldl_pending, State.anchorMove_pending, State.anchorTake_pending, Done.ok, Done.err] | split)

theorem State.spoofEb_pending (s : State) (began : Bool) (sel : Bool) :
    (State.spoofEb s began sel).pending = s.pending := by
  unfold State.spoofEb
  repeat' (first | simp only [apply_ite State.pending, apply_ite Prod.fst, apply_ite Prod.snd, apply_ite Done.st, ite_self, implies_true, forall_const, foldl_pending, Done.ok, Done.err] | split)

theorem State.modTch_pending (s : State) (n : Nat) (f : TicCh → TicCh) :
    (State.modTch s n f).pending = s.pending := by
  unfold State.modTch
  repeat' (first | simp only [apply_ite State.pending, apply_ite Prod.fst, apply_ite Prod.snd, apply_ite Done.st, ite_self, implies_true, forall_const, foldl_pending, Done.ok, Done.err] | split)

theorem State.modConv_pending (s : State) (c : Nat) (f : TicConv → TicConv) :
    (State.modConv s c f).pending = s.pending := by
  unfold State.modConv
  repeat' (first | simp only [apply_ite State.pending, apply_ite Prod.fst, apply_ite Prod.snd, apply_ite Done.st, ite_self, implies_true, forall_const, foldl_pending, Done.ok, Done.err] | split)

theorem State.modSpare_pending (s : State) (i : Nat) (f : TicSpare → TicSpare) :
    (State.modSpare s i f).pending = s.pending := by
  unfold State.modSpare
  repeat' (first | simp only [apply_ite State.pending, apply_ite Prod.fst, apply_ite Prod.snd, apply_ite Done.st, ite_self, implies_true, forall_const, foldl_pending, Done.ok, Done.err] | split)

theorem State.ticRaise_pending (s : State) (b : Nat) (ch : Nat) (value : Int) :
    (State.ticRaise s b ch value).pending = s.pending := by
  unfold State.ticRaise
  repeat' (first | simp only [apply_ite State.pending, apply_ite Prod.fst, apply_ite Prod.snd, apply_ite Done.st, ite_self, implies_true, forall_const, foldl_pending, State.raise_pending, Done.ok, Done.err] | split)

theorem State.ticEnqueue_pending (s : State) (n : Nat) (rec : List W32) :
    (State.ticEnqueue s n rec).pending = s.pending := by
  unfold State.ticEnqueue
  repeat' (first | simp only [apply_ite State.pending, apply_ite Prod.fst, apply_ite Prod.snd, apply_ite Done.st, ite_self, implies_true, forall_const, foldl_pending, State.modTch_pending, State.ticRaise_pending, Done.ok, Done.err] | split)

theorem State.ticMark_pending (s : State) (n : Nat) (code : Nat) (arg : Nat) (arg2 : W32) :
    (State.ticMark s n code arg arg2).pending = s.pending := by
  unfold State.ticMark
  repeat' (first | simp only [apply_ite State.pending, apply_ite Prod.fst, apply_ite Prod.snd, apply_ite Done.st, ite_self, implies_true, forall_const, foldl_pending, State.ticEnqueue_pending, Done.ok, Done.err] | split)

theorem State.ticPush_pending (s : State) (n : Nat) (rec : List W32) :
    (State.ticPush s n rec).pending = s.pending := by
  unfold State.ticPush
  repeat' (first | simp only [apply_ite State.pending, apply_ite Prod.fst, apply_ite Prod.snd, apply_ite Done.st, ite_self, implies_true, forall_const, foldl_pending, State.modTch_pending, State.ticEnqueue_pending, State.ticRaise_pending, Done.ok, Done.err] | split)

theorem State.ivWrite_pending (s : State) (n : Nat) (a : TicArm) (r : IvResult) (b : Nat) :
    (State.ivWrite s n a r b).pending = s.pending := by
  unfold State.ivWrite
  repeat' (first | simp only [apply_ite State.pending, apply_ite Prod.fst, apply_ite Prod.snd, apply_ite Done.st, ite_self, implies_true, forall_const, foldl_pending, State.modTch_pending, State.ticRaise_pending, Done.ok, Done.err] | split)

theorem State.ivDone_pending (s : State) (n : Nat) (a : TicArm) (x : IvEdge) (y : IvEdge) :
    (State.ivDone s n a x y).pending = s.pending := by
  unfold State.ivDone
  repeat' (first | simp only [apply_ite State.pending, apply_ite Prod.fst, apply_ite Prod.snd, apply_ite Done.st, ite_self, implies_true, forall_const, foldl_pending, State.ivWrite_pending, Done.ok, Done.err] | split)

theorem State.ivCheck_pending (s : State) (n : Nat) :
    (State.ivCheck s n).pending = s.pending := by
  unfold State.ivCheck
  repeat' (first | simp only [apply_ite State.pending, apply_ite Prod.fst, apply_ite Prod.snd, apply_ite Done.st, ite_self, implies_true, forall_const, foldl_pending, State.ivDone_pending, Done.ok, Done.err] | split)

theorem State.ivAsStart_pending (s : State) (ch : Nat) (falling : Bool) (e : IvEdge) :
    (State.ivAsStart s ch falling e).pending = s.pending := by
  unfold State.ivAsStart
  repeat' (first | simp only [apply_ite State.pending, apply_ite Prod.fst, apply_ite Prod.snd, apply_ite Done.st, ite_self, implies_true, forall_const, foldl_pending, State.modTch_pending, Done.ok, Done.err] | split)

theorem State.ivAsStop_pending (s : State) (ch : Nat) (falling : Bool) (e : IvEdge) :
    (State.ivAsStop s ch falling e).pending = s.pending := by
  unfold State.ivAsStop
  repeat' (first | simp only [apply_ite State.pending, apply_ite Prod.fst, apply_ite Prod.snd, apply_ite Done.st, ite_self, implies_true, forall_const, foldl_pending, State.modTch_pending, Done.ok, Done.err] | split)

theorem State.ivMissed_pending (s : State) (ch : Nat) (falling : Bool) :
    (State.ivMissed s ch falling).pending = s.pending := by
  unfold State.ivMissed
  repeat' (first | simp only [apply_ite State.pending, apply_ite Prod.fst, apply_ite Prod.snd, apply_ite Done.st, ite_self, implies_true, forall_const, foldl_pending, State.modTch_pending, Done.ok, Done.err] | split)

theorem State.ivEnd_pending (s : State) (n : Nat) (status : Nat) (b : Nat) :
    (State.ivEnd s n status b).pending = s.pending := by
  unfold State.ivEnd
  repeat' (first | simp only [apply_ite State.pending, apply_ite Prod.fst, apply_ite Prod.snd, apply_ite Done.st, ite_self, implies_true, forall_const, foldl_pending, State.ivWrite_pending, Done.ok, Done.err] | split)

theorem State.ivAbort_pending (s : State) (ch : Nat) :
    (State.ivAbort s ch).pending = s.pending := by
  unfold State.ivAbort
  repeat' (first | simp only [apply_ite State.pending, apply_ite Prod.fst, apply_ite Prod.snd, apply_ite Done.st, ite_self, implies_true, forall_const, foldl_pending, State.ivEnd_pending, Done.ok, Done.err] | split)

theorem State.takeSpare_pending (s : State) (i : Nat) (use : Nat) (n : Nat) (home : Nat) :
    (State.takeSpare s i use n home).pending = s.pending := by
  unfold State.takeSpare
  repeat' (first | simp only [apply_ite State.pending, apply_ite Prod.fst, apply_ite Prod.snd, apply_ite Done.st, ite_self, implies_true, forall_const, foldl_pending, State.modSpare_pending, State.raise_pending, Done.ok, Done.err] | split)

theorem State.dropSpare_pending (s : State) (i : Nat) :
    (State.dropSpare s i).pending = s.pending := by
  unfold State.dropSpare
  repeat' (first | simp only [apply_ite State.pending, apply_ite Prod.fst, apply_ite Prod.snd, apply_ite Done.st, ite_self, implies_true, forall_const, foldl_pending, State.modSpare_pending, Done.ok, Done.err] | split)

theorem State.ticServed_pending (s : State) :
    (State.ticServed s).pending = s.pending := by
  unfold State.ticServed
  repeat' (first | simp only [apply_ite State.pending, apply_ite Prod.fst, apply_ite Prod.snd, apply_ite Done.st, ite_self, implies_true, forall_const, foldl_pending, State.faultEnd_pending, Done.ok, Done.err] | split)

theorem State.handOver_pending (s : State) (n : Nat) (c : Nat) :
    (State.handOver s n c).pending = s.pending := by
  unfold State.handOver
  repeat' (first | simp only [apply_ite State.pending, apply_ite Prod.fst, apply_ite Prod.snd, apply_ite Done.st, ite_self, implies_true, forall_const, foldl_pending, State.modTch_pending, State.ticMark_pending, State.ticRaise_pending, State.ticServed_pending, Done.ok, Done.err] | split)

theorem State.spareLeft_pending (s : State) (c : Nat) :
    (State.spareLeft s c).pending = s.pending := by
  unfold State.spareLeft
  repeat' (first | simp only [apply_ite State.pending, apply_ite Prod.fst, apply_ite Prod.snd, apply_ite Done.st, ite_self, implies_true, forall_const, foldl_pending, State.dropSpare_pending, Done.ok, Done.err] | split)

theorem State.releaseRolling_pending (s : State) (i : Nat) :
    (State.releaseRolling s i).pending = s.pending := by
  unfold State.releaseRolling
  repeat' (first | simp only [apply_ite State.pending, apply_ite Prod.fst, apply_ite Prod.snd, apply_ite Done.st, ite_self, implies_true, forall_const, foldl_pending, State.dropSpare_pending, State.handOver_pending, State.modConv_pending, Done.ok, Done.err] | split)

theorem State.calBreak_pending (s : State) (i : Nat) :
    (State.calBreak s i).pending = s.pending := by
  unfold State.calBreak
  repeat' (first | simp only [apply_ite State.pending, apply_ite Prod.fst, apply_ite Prod.snd, apply_ite Done.st, ite_self, implies_true, forall_const, foldl_pending, State.modConv_pending, Done.ok, Done.err] | split)

theorem State.claimSpare_pending (s : State) :
    (State.claimSpare s).1.pending = s.pending := by
  unfold State.claimSpare
  repeat' (first | simp only [apply_ite State.pending, apply_ite Prod.fst, apply_ite Prod.snd, apply_ite Done.st, ite_self, implies_true, forall_const, foldl_pending, State.calBreak_pending, State.releaseRolling_pending, Done.ok, Done.err] | split)

theorem State.substKeep_pending (s : State) (i : Nat) (n : Nat) :
    (State.substKeep s i n).pending = s.pending := by
  unfold State.substKeep
  repeat' (first | simp only [apply_ite State.pending, apply_ite Prod.fst, apply_ite Prod.snd, apply_ite Done.st, ite_self, implies_true, forall_const, foldl_pending, State.keepOwn_pending, Done.ok, Done.err] | split)

theorem State.spareFor_pending (s : State) (n c : Nat) (t : State) (h : s.spareFor n c = some t) : t.pending = s.pending := by
  unfold State.spareFor at h
  obtain ⟨i, _, rfl⟩ := Option.map_eq_some_iff.mp h
  simp only [State.faultAssert_pending, State.handOver_pending, State.substKeep_pending, State.takeSpare_pending]
  split <;> simp only [State.claimSpare_pending]

theorem State.spareForD_pending (s : State) (n c : Nat) (d : State) (hd : d.pending = s.pending) :
    ((s.spareFor n c).getD d).pending = s.pending := by
  cases h : s.spareFor n c with
  | none => exact hd
  | some t => exact State.spareFor_pending s n c t h

theorem State.convLost_pending (s : State) (n c : Nat) : (s.convLost n c).pending = s.pending := by
  unfold State.convLost
  exact State.spareForD_pending s n c _ (by simp only [State.faultAssert_pending, State.raise_pending])

theorem State.swapKeep_pending (s : State) (i : Nat) :
    (State.swapKeep s i).pending = s.pending := by
  unfold State.swapKeep
  repeat' (first | simp only [apply_ite State.pending, apply_ite Prod.fst, apply_ite Prod.snd, apply_ite Done.st, ite_self, implies_true, forall_const, foldl_pending, State.faultAssert_pending, State.modSpare_pending, State.substKeep_pending, Done.ok, Done.err] | split)

theorem State.swapBroken_pending (c : Nat) (s : State) (i : Nat) :
    (State.swapBroken c s i).pending = s.pending := by
  unfold State.swapBroken
  repeat' (first | simp only [apply_ite State.pending, apply_ite Prod.fst, apply_ite Prod.snd, apply_ite Done.st, ite_self, implies_true, forall_const, foldl_pending, State.dropSpare_pending, State.handOver_pending, State.spareLeft_pending, State.swapKeep_pending, Done.ok, Done.err] | split)

theorem State.convFail_pending (s : State) (c : Nat) :
    (State.convFail s c).pending = s.pending := by
  unfold State.convFail
  repeat' (first | simp only [apply_ite State.pending, apply_ite Prod.fst, apply_ite Prod.snd, apply_ite Done.st, ite_self, implies_true, forall_const, foldl_pending, State.convLost_pending, State.dropSpare_pending, State.modConv_pending, State.releaseRolling_pending, State.swapBroken_pending, Done.ok, Done.err] | split)

theorem State.heal_pending (s : State) (n : Nat) : (s.heal n).pending = s.pending := by
  unfold State.heal
  split
  · exact State.spareForD_pending s n _ s rfl
  · rfl

theorem State.swapStart_pending (s : State) (i : Nat) (back : Bool) :
    (State.swapStart s i back).pending = s.pending := by
  unfold State.swapStart
  repeat' (first | simp only [apply_ite State.pending, apply_ite Prod.fst, apply_ite Prod.snd, apply_ite Done.st, ite_self, implies_true, forall_const, foldl_pending, State.modSpare_pending, Done.ok, Done.err] | split)

theorem State.swapOver_pending (s : State) (i : Nat) :
    (State.swapOver s i).pending = s.pending := by
  unfold State.swapOver
  repeat' (first | simp only [apply_ite State.pending, apply_ite Prod.fst, apply_ite Prod.snd, apply_ite Done.st, ite_self, implies_true, forall_const, foldl_pending, State.dropSpare_pending, State.handOver_pending, State.modConv_pending, State.modSpare_pending, State.spareLeft_pending, Done.ok, Done.err] | split)

theorem State.swap_pending (s : State) (i : Nat) (back : Bool) :
    (State.swap s i back).pending = s.pending := by
  unfold State.swap
  repeat' (first | simp only [apply_ite State.pending, apply_ite Prod.fst, apply_ite Prod.snd, apply_ite Done.st, ite_self, implies_true, forall_const, foldl_pending, State.swapOver_pending, State.swapStart_pending, Done.ok, Done.err] | split)

theorem State.calStale_pending (s : State) (n : Nat) :
    (State.calStale s n).pending = s.pending := by
  unfold State.calStale
  repeat' (first | simp only [apply_ite State.pending, apply_ite Prod.fst, apply_ite Prod.snd, apply_ite Done.st, ite_self, implies_true, forall_const, foldl_pending, State.modTch_pending, State.ticRaise_pending, Done.ok, Done.err] | split)

theorem State.ticCalCount_pending (s : State) (c : Nat) :
    (State.ticCalCount s c).pending = s.pending := by
  unfold State.ticCalCount
  repeat' (first | simp only [apply_ite State.pending, apply_ite Prod.fst, apply_ite Prod.snd, apply_ite Done.st, ite_self, implies_true, forall_const, foldl_pending, State.raise_pending, Done.ok, Done.err] | split)

theorem State.swapAbandon_pending (s : State) (i : Nat) :
    (State.swapAbandon s i).pending = s.pending := by
  unfold State.swapAbandon
  repeat' (first | simp only [apply_ite State.pending, apply_ite Prod.fst, apply_ite Prod.snd, apply_ite Done.st, ite_self, implies_true, forall_const, foldl_pending, State.dropSpare_pending, State.faultAssert_pending, State.modSpare_pending, State.ticCalCount_pending, State.ticRaise_pending, Done.ok, Done.err] | split)

theorem State.calTry_pending (s : State) (c : Nat) :
    (State.calTry s c).pending = s.pending := by
  unfold State.calTry
  repeat' (first | simp only [apply_ite State.pending, apply_ite Prod.fst, apply_ite Prod.snd, apply_ite Done.st, ite_self, implies_true, forall_const, foldl_pending, State.calStale_pending, State.modConv_pending, State.swap_pending, State.takeSpare_pending, State.ticCalCount_pending, Done.ok, Done.err] | split)

theorem State.calNext_pending (s : State) :
    (State.calNext s).pending = s.pending := by
  unfold State.calNext
  repeat' (first | simp only [apply_ite State.pending, apply_ite Prod.fst, apply_ite Prod.snd, apply_ite Done.st, ite_self, implies_true, forall_const, foldl_pending, State.calTry_pending, State.heal_pending, Done.ok, Done.err] | split)

theorem State.calPass_pending (s : State) (c : Nat) (r : CalRun) :
    (State.calPass s c r).pending = s.pending := by
  unfold State.calPass
  repeat' (first | simp only [apply_ite State.pending, apply_ite Prod.fst, apply_ite Prod.snd, apply_ite Done.st, ite_self, implies_true, forall_const, foldl_pending, State.calStale_pending, State.keepOwn_pending, State.modConv_pending, State.modTch_pending, State.raise_pending, State.ticMark_pending, Done.ok, Done.err] | split)

theorem State.swapHome_pending (s : State) (c : Nat) :
    (State.swapHome s c).pending = s.pending := by
  unfold State.swapHome
  repeat' (first | simp only [apply_ite State.pending, apply_ite Prod.fst, apply_ite Prod.snd, apply_ite Done.st, ite_self, implies_true, forall_const, foldl_pending, State.swap_pending, Done.ok, Done.err] | split)

theorem State.coverKeep_pending (s : State) (c : Nat) :
    (State.coverKeep s c).pending = s.pending := by
  unfold State.coverKeep
  repeat' (first | simp only [apply_ite State.pending, apply_ite Prod.fst, apply_ite Prod.snd, apply_ite Done.st, ite_self, implies_true, forall_const, foldl_pending, State.dropSpare_pending, State.faultAssert_pending, State.handOver_pending, State.raise_pending, State.swapKeep_pending, Done.ok, Done.err] | split)

theorem State.pairStamp_pending (s : State) (n : Nat) (t : Int) :
    (State.pairStamp s n t).pending = s.pending := by
  unfold State.pairStamp
  repeat' (first | simp only [apply_ite State.pending, apply_ite Prod.fst, apply_ite Prod.snd, apply_ite Done.st, ite_self, implies_true, forall_const, foldl_pending, Done.ok, Done.err] | split)

theorem State.modLane_pending (s : State) (l : Nat) (f : Lane → Lane) :
    (State.modLane s l f).pending = s.pending := by
  unfold State.modLane
  repeat' (first | simp only [apply_ite State.pending, apply_ite Prod.fst, apply_ite Prod.snd, apply_ite Done.st, ite_self, implies_true, forall_const, foldl_pending, Done.ok, Done.err] | split)

theorem State.setLaneCfg_pending (s : State) (l : Nat) (f : LaneCfg → LaneCfg) :
    (State.setLaneCfg s l f).pending = s.pending := by
  unfold State.setLaneCfg
  repeat' (first | simp only [apply_ite State.pending, apply_ite Prod.fst, apply_ite Prod.snd, apply_ite Done.st, ite_self, implies_true, forall_const, foldl_pending, Done.ok, Done.err] | split)

theorem State.ethCount_pending (s : State) (l : Nat) (i : Nat) (n : Nat) :
    (State.ethCount s l i n).pending = s.pending := by
  unfold State.ethCount
  repeat' (first | simp only [apply_ite State.pending, apply_ite Prod.fst, apply_ite Prod.snd, apply_ite Done.st, ite_self, implies_true, forall_const, foldl_pending, State.modLane_pending, Done.ok, Done.err] | split)

theorem State.ethRaise_pending (s : State) (b : Nat) (l : Nat) (value : Int) (old : Nat) (new : Nat) :
    (State.ethRaise s b l value old new).pending = s.pending := by
  unfold State.ethRaise
  repeat' (first | simp only [apply_ite State.pending, apply_ite Prod.fst, apply_ite Prod.snd, apply_ite Done.st, ite_self, implies_true, forall_const, foldl_pending, State.raise_pending, Done.ok, Done.err] | split)

theorem State.ringPushN_pending (s : State) (r : Nat) (n : Nat) (rec : List W32) :
    (State.ringPushN s r n rec).pending = s.pending := by
  unfold State.ringPushN
  repeat' (first | simp only [apply_ite State.pending, apply_ite Prod.fst, apply_ite Prod.snd, apply_ite Done.st, ite_self, implies_true, forall_const, foldl_pending, Done.ok, Done.err] | split)

theorem State.rxDeliver_pending (s : State) (l : Nat) (t : Stamp) (bs : List Byte) (ring : Nat) (rule : Nat) :
    (State.rxDeliver s l t bs ring rule).pending = s.pending := by
  unfold State.rxDeliver
  repeat' (first | simp only [apply_ite State.pending, apply_ite Prod.fst, apply_ite Prod.snd, apply_ite Done.st, ite_self, implies_true, forall_const, foldl_pending, State.ethCount_pending, State.ethRaise_pending, State.ringPushN_pending, Done.ok, Done.err] | split)

theorem State.rxCount_pending (s : State) (l : Nat) (o : RxOutcome) (len : Nat) :
    (State.rxCount s l o len).pending = s.pending := by
  unfold State.rxCount
  repeat' (first | simp only [apply_ite State.pending, apply_ite Prod.fst, apply_ite Prod.snd, apply_ite Done.st, ite_self, implies_true, forall_const, foldl_pending, Done.ok_pending, State.ethCount_pending, State.ethRaise_pending, Done.ok, Done.err] | split)

theorem State.capClose_pending (s : State) (l : Nat) :
    (State.capClose s l).pending = s.pending := by
  unfold State.capClose
  repeat' (first | simp only [apply_ite State.pending, apply_ite Prod.fst, apply_ite Prod.snd, apply_ite Done.st, ite_self, implies_true, forall_const, foldl_pending, State.modLane_pending, Done.ok, Done.err] | split)

theorem State.capOpen_pending (s : State) (l : Nat) (ms : Nat) (again : Bool) :
    (State.capOpen s l ms again).pending = s.pending := by
  unfold State.capOpen
  repeat' (first | simp only [apply_ite State.pending, apply_ite Prod.fst, apply_ite Prod.snd, apply_ite Done.st, ite_self, implies_true, forall_const, foldl_pending, State.modLane_pending, Done.ok, Done.err] | split)

theorem State.capRoll_pending (s : State) (l : Nat) :
    (State.capRoll s l).pending = s.pending := by
  unfold State.capRoll
  repeat' (first | simp only [apply_ite State.pending, apply_ite Prod.fst, apply_ite Prod.snd, apply_ite Done.st, ite_self, implies_true, forall_const, foldl_pending, State.capClose_pending, State.capOpen_pending, Done.ok, Done.err] | split)

theorem State.capRecord_pending (s : State) (l : Nat) (ws : List W32) :
    (State.capRecord s l ws).pending = s.pending := by
  unfold State.capRecord
  repeat' (first | simp only [apply_ite State.pending, apply_ite Prod.fst, apply_ite Prod.snd, apply_ite Done.st, ite_self, implies_true, forall_const, foldl_pending, State.ethCount_pending, State.ethRaise_pending, State.modLane_pending, Done.ok, Done.err] | split)

theorem State.capLoss_pending (s : State) (l : Nat) :
    (State.capLoss s l).pending = s.pending := by
  unfold State.capLoss
  repeat' (first | simp only [apply_ite State.pending, apply_ite Prod.fst, apply_ite Prod.snd, apply_ite Done.st, ite_self, implies_true, forall_const, foldl_pending, State.capRecord_pending, State.ethRaise_pending, State.modLane_pending, Done.ok, Done.err] | split)

theorem State.capLink_pending (s : State) (l : Nat) (up : Bool) :
    (State.capLink s l up).pending = s.pending := by
  unfold State.capLink
  repeat' (first | simp only [apply_ite State.pending, apply_ite Prod.fst, apply_ite Prod.snd, apply_ite Done.st, ite_self, implies_true, forall_const, foldl_pending, State.capLoss_pending, State.capRecord_pending, State.capRoll_pending, Done.ok, Done.err] | split)

theorem State.capWhileSusp_pending (s : State) (l : Nat) :
    (State.capWhileSusp s l).pending = s.pending := by
  unfold State.capWhileSusp
  repeat' (first | simp only [apply_ite State.pending, apply_ite Prod.fst, apply_ite Prod.snd, apply_ite Done.st, ite_self, implies_true, forall_const, foldl_pending, State.ethCount_pending, State.modLane_pending, Done.ok, Done.err] | split)

theorem State.capLost_pending (s : State) (l : Nat) :
    (State.capLost s l).pending = s.pending := by
  unfold State.capLost
  repeat' (first | simp only [apply_ite State.pending, apply_ite Prod.fst, apply_ite Prod.snd, apply_ite Done.st, ite_self, implies_true, forall_const, foldl_pending, State.ethCount_pending, State.modLane_pending, Done.ok, Done.err] | split)

theorem State.capFrame_pending (s : State) (l : Nat) (t : Stamp) (o : RxOutcome) (f : RxFrame) :
    (State.capFrame s l t o f).pending = s.pending := by
  unfold State.capFrame
  repeat' (first | simp only [apply_ite State.pending, apply_ite Prod.fst, apply_ite Prod.snd, apply_ite Done.st, ite_self, implies_true, forall_const, foldl_pending, State.capLoss_pending, State.capLost_pending, State.capRecord_pending, State.capRoll_pending, State.capWhileSusp_pending, Done.ok, Done.err] | split)

theorem State.capSuspend_pending (s : State) (l : Nat) (cause : Nat) :
    (State.capSuspend s l cause).pending = s.pending := by
  unfold State.capSuspend
  repeat' (first | simp only [apply_ite State.pending, apply_ite Prod.fst, apply_ite Prod.snd, apply_ite Done.st, ite_self, implies_true, forall_const, foldl_pending, State.capClose_pending, State.ethRaise_pending, State.modLane_pending, Done.ok, Done.err] | split)

theorem State.capResume_pending (s : State) (l : Nat) :
    (State.capResume s l).pending = s.pending := by
  unfold State.capResume
  repeat' (first | simp only [apply_ite State.pending, apply_ite Prod.fst, apply_ite Prod.snd, apply_ite Done.st, ite_self, implies_true, forall_const, foldl_pending, State.capLoss_pending, State.capRecord_pending, State.capRoll_pending, State.ethRaise_pending, State.modLane_pending, Done.ok, Done.err] | split)

theorem State.capEnd_pending (s : State) (l : Nat) :
    (State.capEnd s l).pending = s.pending := by
  unfold State.capEnd
  repeat' (first | simp only [apply_ite State.pending, apply_ite Prod.fst, apply_ite Prod.snd, apply_ite Done.st, ite_self, implies_true, forall_const, foldl_pending, State.capClose_pending, State.capLoss_pending, State.modLane_pending, Done.ok, Done.err] | split)

theorem State.rootReady_pending (s : State) (l : Nat) (c : ClosedIv) :
    (State.rootReady s l c).pending = s.pending := by
  unfold State.rootReady
  repeat' (first | simp only [apply_ite State.pending, apply_ite Prod.fst, apply_ite Prod.snd, apply_ite Done.st, ite_self, implies_true, forall_const, foldl_pending, State.logPut_pending, State.modLane_pending, Done.ok, Done.err] | split)

theorem State.superWrite_pending (s : State) (l : Nat) :
    (State.superWrite s l).pending = s.pending := by
  unfold State.superWrite
  repeat' (first | simp only [apply_ite State.pending, apply_ite Prod.fst, apply_ite Prod.snd, apply_ite Done.st, ite_self, implies_true, forall_const, foldl_pending, State.capSuspend_pending, State.logPut_pending, State.modLane_pending, Done.ok, Done.err] | split)

theorem State.modTLane_pending (s : State) (l : Nat) (f : TmgLane → TmgLane) :
    (State.modTLane s l f).pending = s.pending := by
  unfold State.modTLane
  repeat' (first | simp only [apply_ite State.pending, apply_ite Prod.fst, apply_ite Prod.snd, apply_ite Done.st, ite_self, implies_true, forall_const, foldl_pending, Done.ok, Done.err] | split)

theorem State.modTq_pending (s : State) (q : Nat) (f : TmgQ → TmgQ) :
    (State.modTq s q f).pending = s.pending := by
  unfold State.modTq
  repeat' (first | simp only [apply_ite State.pending, apply_ite Prod.fst, apply_ite Prod.snd, apply_ite Done.st, ite_self, implies_true, forall_const, foldl_pending, Done.ok, Done.err] | split)

theorem State.modPol_pending (s : State) (p : Nat) (f : Pol → Pol) :
    (State.modPol s p f).pending = s.pending := by
  unfold State.modPol
  repeat' (first | simp only [apply_ite State.pending, apply_ite Prod.fst, apply_ite Prod.snd, apply_ite Done.st, ite_self, implies_true, forall_const, foldl_pending, Done.ok, Done.err] | split)

theorem State.setTmgCfg_pending (s : State) (f : TmgCfg → TmgCfg) :
    (State.setTmgCfg s f).pending = s.pending := by
  unfold State.setTmgCfg
  repeat' (first | simp only [apply_ite State.pending, apply_ite Prod.fst, apply_ite Prod.snd, apply_ite Done.st, ite_self, implies_true, forall_const, foldl_pending, Done.ok, Done.err] | split)

theorem State.tmgRaise_pending (s : State) (b : Nat) (l : Nat) (subject : Nat) (value : Int) :
    (State.tmgRaise s b l subject value).pending = s.pending := by
  unfold State.tmgRaise
  repeat' (first | simp only [apply_ite State.pending, apply_ite Prod.fst, apply_ite Prod.snd, apply_ite Done.st, ite_self, implies_true, forall_const, foldl_pending, State.raise_pending, Done.ok, Done.err] | split)

theorem State.gateEval_pending (s : State) (l : Nat) :
    (State.gateEval s l).pending = s.pending := by
  unfold State.gateEval
  repeat' (first | simp only [apply_ite State.pending, apply_ite Prod.fst, apply_ite Prod.snd, apply_ite Done.st, ite_self, implies_true, forall_const, foldl_pending, State.modTLane_pending, Done.ok, Done.err] | split)

theorem State.dropOverrun_pending (s : State) (l : Nat) (q : Nat) (f : TxFrame) :
    (State.dropOverrun s l q f).pending = s.pending := by
  unfold State.dropOverrun
  repeat' (first | simp only [apply_ite State.pending, apply_ite Prod.fst, apply_ite Prod.snd, apply_ite Done.st, ite_self, implies_true, forall_const, foldl_pending, State.completeTx_pending, State.ethCount_pending, State.modTq_pending, State.tmgRaise_pending, Done.ok, Done.err] | split)

theorem State.putFrame_pending (s : State) (q : Nat) (f : TxFrame) :
    (State.putFrame s q f).pending = s.pending := by
  unfold State.putFrame
  repeat' (first | simp only [apply_ite State.pending, apply_ite Prod.fst, apply_ite Prod.snd, apply_ite Done.st, ite_self, implies_true, forall_const, foldl_pending, State.modTq_pending, Done.ok, Done.err] | split)

theorem State.enqueueTx_pending (s : State) (l : Nat) (c : Nat) (f : TxFrame) :
    (State.enqueueTx s l c f).pending = s.pending := by
  unfold State.enqueueTx
  repeat' (first | simp only [apply_ite State.pending, apply_ite Prod.fst, apply_ite Prod.snd, apply_ite Done.st, ite_self, implies_true, forall_const, foldl_pending, State.dropOverrun_pending, State.modTq_pending, State.putFrame_pending, State.tmgRaise_pending, Done.ok, Done.err] | split)

theorem State.newId_pending (s : State) :
    (State.newId s).2.pending = s.pending := by
  unfold State.newId
  repeat' (first | simp only [apply_ite State.pending, apply_ite Prod.fst, apply_ite Prod.snd, apply_ite Done.st, ite_self, implies_true, forall_const, foldl_pending, Done.ok, Done.err] | split)

theorem State.recheckQueue_pending (s : State) (l : Nat) (c : Nat) :
    (State.recheckQueue s l c).pending = s.pending := by
  unfold State.recheckQueue
  repeat' (first | simp only [apply_ite State.pending, apply_ite Prod.fst, apply_ite Prod.snd, apply_ite Done.st, ite_self, implies_true, forall_const, foldl_pending, State.dropOverrun_pending, State.modTLane_pending, State.modTq_pending, Done.ok, Done.err] | split)

theorem State.swapLane_pending (s : State) (l : Nat) (skew : Bool) :
    (State.swapLane s l skew).pending = s.pending := by
  unfold State.swapLane
  repeat' (first | simp only [apply_ite State.pending, apply_ite Prod.fst, apply_ite Prod.snd, apply_ite Done.st, ite_self, implies_true, forall_const, foldl_pending, State.gateEval_pending, State.modTLane_pending, State.recheckQueue_pending, State.tmgRaise_pending, Done.ok, Done.err] | split)

theorem State.swapsDue_pending (s : State) (skew : Bool) :
    (State.swapsDue s skew).pending = s.pending := by
  unfold State.swapsDue
  repeat' (first | simp only [apply_ite State.pending, apply_ite Prod.fst, apply_ite Prod.snd, apply_ite Done.st, ite_self, implies_true, forall_const, foldl_pending, State.swapLane_pending, Done.ok, Done.err] | split)

theorem State.toWire_pending (s : State) (l : Nat) (c : Nat) (f : TxFrame) (t0 : Nat) (sfd : Nat) :
    (State.toWire s l c f t0 sfd).pending = s.pending := by
  unfold State.toWire
  repeat' (first | simp only [apply_ite State.pending, apply_ite Prod.fst, apply_ite Prod.snd, apply_ite Done.st, ite_self, implies_true, forall_const, foldl_pending, State.modTLane_pending, State.modTq_pending, Done.ok, Done.err] | split)

theorem State.slotMissed_pending (s : State) (l : Nat) (b : Booking) :
    (State.slotMissed s l b).pending = s.pending := by
  unfold State.slotMissed
  repeat' (first | simp only [apply_ite State.pending, apply_ite Prod.fst, apply_ite Prod.snd, apply_ite Done.st, ite_self, implies_true, forall_const, foldl_pending, State.modTLane_pending, State.modTq_pending, State.tmgRaise_pending, Done.ok, Done.err] | split)

theorem State.stepWire_pending (s : State) (l : Nat) (d : Int) :
    (State.stepWire s l d).pending = s.pending := by
  unfold State.stepWire
  repeat' (first | simp only [apply_ite State.pending, apply_ite Prod.fst, apply_ite Prod.snd, apply_ite Done.st, ite_self, implies_true, forall_const, foldl_pending, State.modTLane_pending, State.tmgRaise_pending, Done.ok, Done.err] | split)

theorem State.police_pending (s : State) (p : Nat) (l : Nat) (w : Nat) :
    (State.police s p l w).1.pending = s.pending := by
  unfold State.police
  repeat' (first | simp only [apply_ite State.pending, apply_ite Prod.fst, apply_ite Prod.snd, apply_ite Done.st, ite_self, implies_true, forall_const, foldl_pending, State.modPol_pending, State.tmgRaise_pending, Done.ok, Done.err] | split)

theorem State.policeFrame_pending (s : State) (l : Nat) (k : FrameKey) (w : Nat) :
    (State.policeFrame s l k w).1.pending = s.pending := by
  unfold State.policeFrame
  repeat' (first | simp only [apply_ite State.pending, apply_ite Prod.fst, apply_ite Prod.snd, apply_ite Done.st, ite_self, implies_true, forall_const, foldl_pending, State.police_pending, Done.ok, Done.err] | split)

theorem State.admitClient_pending (s : State) (l : Nat) (w : Nat) :
    (State.admitClient s l w).1.pending = s.pending := by
  unfold State.admitClient
  repeat' (first | simp only [apply_ite State.pending, apply_ite Prod.fst, apply_ite Prod.snd, apply_ite Done.st, ite_self, implies_true, forall_const, foldl_pending, State.modPol_pending, State.police_pending, State.tmgRaise_pending, Done.ok, Done.err] | split)

theorem State.shape_pending (s : State) (q : Nat) :
    (State.shape s q).pending = s.pending := by
  unfold State.shape
  repeat' (first | simp only [apply_ite State.pending, apply_ite Prod.fst, apply_ite Prod.snd, apply_ite Done.st, ite_self, implies_true, forall_const, foldl_pending, State.modTq_pending, State.tmgRaise_pending, Done.ok, Done.err] | split)

theorem State.sampleQ_pending (s : State) (q : Nat) :
    (State.sampleQ s q).pending = s.pending := by
  unfold State.sampleQ
  repeat' (first | simp only [apply_ite State.pending, apply_ite Prod.fst, apply_ite Prod.snd, apply_ite Done.st, ite_self, implies_true, forall_const, foldl_pending, State.modTq_pending, State.tmgRaise_pending, Done.ok, Done.err] | split)

theorem State.svcClassesSet_pending (s : State) :
    (State.svcClassesSet s).pending = s.pending := by
  unfold State.svcClassesSet
  repeat' (first | simp only [apply_ite State.pending, apply_ite Prod.fst, apply_ite Prod.snd, apply_ite Done.st, ite_self, implies_true, forall_const, foldl_pending, Done.ok, Done.err] | split)

theorem State.emptyLane_pending (s : State) (l : Nat) :
    (State.emptyLane s l).pending = s.pending := by
  unfold State.emptyLane
  repeat' (first | simp only [apply_ite State.pending, apply_ite Prod.fst, apply_ite Prod.snd, apply_ite Done.st, ite_self, implies_true, forall_const, foldl_pending, State.emptyQueue_pending, State.modTLane_pending, Done.ok, Done.err] | split)

theorem State.laneQuery_pending (s : State) (l : Nat) (ws : List W32) :
    (State.laneQuery s l ws).st.pending = s.pending := by
  unfold State.laneQuery
  repeat' (first | simp only [apply_ite State.pending, apply_ite Prod.fst, apply_ite Prod.snd, apply_ite Done.st, ite_self, implies_true, forall_const, foldl_pending, Done.err_pending, Done.ok_pending, Done.ok, Done.err] | split)

theorem specEthQueryLane_pending (p : Packet) (s : State) :
    (specEthQueryLane.body p s).st.pending = s.pending := by
  unfold specEthQueryLane
  repeat' (first | simp only [apply_ite State.pending, apply_ite Prod.fst, apply_ite Prod.snd, apply_ite Done.st, ite_self, implies_true, forall_const, foldl_pending, answer, gnsBody, keyBody, pairBody, svcBody, ticBody, State.laneQuery_pending, Done.ok, Done.err] | split)

theorem specEthQueryDelay_pending (p : Packet) (s : State) :
    (specEthQueryDelay.body p s).st.pending = s.pending := by
  unfold specEthQueryDelay
  repeat' (first | simp only [apply_ite State.pending, apply_ite Prod.fst, apply_ite Prod.snd, apply_ite Done.st, ite_self, implies_true, forall_const, foldl_pending, answer, gnsBody, keyBody, pairBody, svcBody, ticBody, State.laneQuery_pending, Done.ok, Done.err] | split)

theorem specEthSetQuadMode_pending (p : Packet) (s : State) :
    (specEthSetQuadMode.body p s).st.pending = s.pending := by
  unfold specEthSetQuadMode
  repeat' (first | simp only [apply_ite State.pending, apply_ite Prod.fst, apply_ite Prod.snd, apply_ite Done.st, ite_self, implies_true, forall_const, foldl_pending, answer, gnsBody, keyBody, pairBody, svcBody, ticBody, Done.err_pending, Done.ok_pending, Done.ok, Done.err] | split)

theorem specEthSetLane_pending (p : Packet) (s : State) :
    (specEthSetLane.body p s).st.pending = s.pending := by
  unfold specEthSetLane
  repeat' (first | simp only [apply_ite State.pending, apply_ite Prod.fst, apply_ite Prod.snd, apply_ite Done.st, ite_self, implies_true, forall_const, foldl_pending, answer, gnsBody, keyBody, pairBody, svcBody, ticBody, Done.err_pending, Done.ok_pending, State.setLaneCfg_pending, State.svcClassesSet_pending, Done.ok, Done.err] | split)

theorem specEthSetDelay_pending (p : Packet) (s : State) :
    (specEthSetDelay.body p s).st.pending = s.pending := by
  unfold specEthSetDelay
  repeat' (first | simp only [apply_ite State.pending, apply_ite Prod.fst, apply_ite Prod.snd, apply_ite Done.st, ite_self, implies_true, forall_const, foldl_pending, answer, gnsBody, keyBody, pairBody, svcBody, ticBody, Done.err_pending, Done.ok_pending, State.modLane_pending, State.setLaneCfg_pending, Done.ok, Done.err] | split)

theorem specEthSetCapture_pending (p : Packet) (s : State) :
    (specEthSetCapture.body p s).st.pending = s.pending := by
  unfold specEthSetCapture
  repeat' (first | simp only [apply_ite State.pending, apply_ite Prod.fst, apply_ite Prod.snd, apply_ite Done.st, ite_self, implies_true, forall_const, foldl_pending, answer, gnsBody, keyBody, pairBody, svcBody, ticBody, Done.err_pending, Done.ok_pending, State.setLaneCfg_pending, Done.ok, Done.err] | split)

theorem specEthSetClassifier_pending (p : Packet) (s : State) :
    (specEthSetClassifier.body p s).st.pending = s.pending := by
  unfold specEthSetClassifier
  repeat' (first | simp only [apply_ite State.pending, apply_ite Prod.fst, apply_ite Prod.snd, apply_ite Done.st, ite_self, implies_true, forall_const, foldl_pending, answer, gnsBody, keyBody, pairBody, svcBody, ticBody, Done.err_pending, Done.ok_pending, State.setLaneCfg_pending, Done.ok, Done.err] | split)

theorem State.linkFall_pending (s : State) (l : Nat) :
    (State.linkFall s l).pending = s.pending := by
  unfold State.linkFall
  repeat' (first | simp only [apply_ite State.pending, apply_ite Prod.fst, apply_ite Prod.snd, apply_ite Done.st, ite_self, implies_true, forall_const, foldl_pending, State.capLink_pending, State.ethCount_pending, State.ethRaise_pending, State.modLane_pending, Done.ok, Done.err] | split)

theorem State.laneStop_pending (s : State) (l : Nat) :
    (State.laneStop s l).pending = s.pending := by
  unfold State.laneStop
  repeat' (first | simp only [apply_ite State.pending, apply_ite Prod.fst, apply_ite Prod.snd, apply_ite Done.st, ite_self, implies_true, forall_const, foldl_pending, State.capEnd_pending, State.emptyLane_pending, State.linkFall_pending, Done.ok, Done.err] | split)

theorem State.laneEnable_pending (s : State) (l : Nat) (on : Bool) :
    (State.laneEnable s l on).pending = s.pending := by
  unfold State.laneEnable
  repeat' (first | simp only [apply_ite State.pending, apply_ite Prod.fst, apply_ite Prod.snd, apply_ite Done.st, ite_self, implies_true, forall_const, foldl_pending, State.laneStop_pending, State.setLaneCfg_pending, Done.ok, Done.err] | split)

theorem specEthLaneEnable_pending (p : Packet) (s : State) :
    (specEthLaneEnable.body p s).st.pending = s.pending := by
  unfold specEthLaneEnable
  repeat' (first | simp only [apply_ite State.pending, apply_ite Prod.fst, apply_ite Prod.snd, apply_ite Done.st, ite_self, implies_true, forall_const, foldl_pending, answer, gnsBody, keyBody, pairBody, svcBody, ticBody, Done.err_pending, Done.ok_pending, State.laneEnable_pending, Done.ok, Done.err] | split)

theorem specEthSetTags_pending (p : Packet) (s : State) :
    (specEthSetTags.body p s).st.pending = s.pending := by
  unfold specEthSetTags
  repeat' (first | simp only [apply_ite State.pending, apply_ite Prod.fst, apply_ite Prod.snd, apply_ite Done.st, ite_self, implies_true, forall_const, foldl_pending, answer, gnsBody, keyBody, pairBody, svcBody, ticBody, Done.err_pending, Done.ok_pending, State.setLaneCfg_pending, Done.ok, Done.err] | split)

theorem State.hostFrame_pending (s : State) (l : Nat) (slot : Nat) (d : TxDesc) (frame : List Byte) :
    (State.hostFrame s l slot d frame).pending = s.pending := by
  unfold State.hostFrame
  repeat' (first | simp only [apply_ite State.pending, apply_ite Prod.fst, apply_ite Prod.snd, apply_ite Done.st, ite_self, implies_true, forall_const, foldl_pending, State.enqueueTx_pending, State.ethCount_pending, State.newId_pending, Done.ok, Done.err] | split)

theorem State.rxHost_pending (s : State) (l : Nat) (t : Stamp) (f : RxFrame) :
    (State.rxHost s l t f).pending = s.pending := by
  unfold State.rxHost
  repeat' (first | simp only [apply_ite State.pending, apply_ite Prod.fst, apply_ite Prod.snd, apply_ite Done.st, ite_self, implies_true, forall_const, foldl_pending, State.ethCount_pending, State.policeFrame_pending, State.rxDeliver_pending, State.svcCount_pending, Done.ok, Done.err] | split)

theorem State.fecCount_pending (s : State) (l : Nat) (f : RxFrame) :
    (State.fecCount s l f).pending = s.pending := by
  unfold State.fecCount
  repeat' (first | simp only [apply_ite State.pending, apply_ite Prod.fst, apply_ite Prod.snd, apply_ite Done.st, ite_self, implies_true, forall_const, foldl_pending, State.ethCount_pending, State.ethRaise_pending, Done.ok, Done.err] | split)

theorem State.rxPath_pending (s : State) (l : Nat) (f : RxFrame) :
    (State.rxPath s l f).pending = s.pending := by
  unfold State.rxPath
  repeat' (first | simp only [apply_ite State.pending, apply_ite Prod.fst, apply_ite Prod.snd, apply_ite Done.st, ite_self, implies_true, forall_const, foldl_pending, State.fecCount_pending, State.modLane_pending, Done.ok, Done.err] | split)

theorem State.txDone_pending (s : State) (l : Nat) (f : TxFrame) :
    (State.txDone s l f).pending = s.pending := by
  unfold State.txDone
  repeat' (first | simp only [apply_ite State.pending, apply_ite Prod.fst, apply_ite Prod.snd, apply_ite Done.st, ite_self, implies_true, forall_const, foldl_pending, State.completeTx_pending, State.ethCount_pending, State.modTLane_pending, State.svcCount_pending, Done.ok, Done.err] | split)

theorem State.lcChanged_pending (s : State) (old : LcState) :
    (State.lcChanged s old).pending = s.pending := by
  unfold State.lcChanged
  repeat' (first | simp only [apply_ite State.pending, apply_ite Prod.fst, apply_ite Prod.snd, apply_ite Done.st, ite_self, implies_true, forall_const, foldl_pending, State.raise_pending, Done.ok, Done.err] | split)

theorem State.sppLost_pending (s : State) (i : Nat) :
    (State.sppLost s i).pending = s.pending := by
  unfold State.sppLost
  repeat' (first | simp only [apply_ite State.pending, apply_ite Prod.fst, apply_ite Prod.snd, apply_ite Done.st, ite_self, implies_true, forall_const, foldl_pending, State.raise_pending, Done.ok, Done.err] | split)

theorem State.zeroSlot_pending (s : State) (k : Nat) :
    (State.zeroSlot s k).pending = s.pending := by
  unfold State.zeroSlot
  repeat' (first | simp only [apply_ite State.pending, apply_ite Prod.fst, apply_ite Prod.snd, apply_ite Done.st, ite_self, implies_true, forall_const, foldl_pending, State.raise_pending, State.sppLost_pending, Done.ok, Done.err] | split)

theorem State.zeroSlots_pending (s : State) (mask : BitVec 64) :
    (State.zeroSlots s mask).pending = s.pending := by
  unfold State.zeroSlots
  repeat' (first | simp only [apply_ite State.pending, apply_ite Prod.fst, apply_ite Prod.snd, apply_ite Done.st, ite_self, implies_true, forall_const, foldl_pending, State.zeroSlot_pending, Done.ok, Done.err] | split)

theorem State.zeroKeys_pending (s : State) :
    (State.zeroKeys s).pending = s.pending := by
  unfold State.zeroKeys
  repeat' (first | simp only [apply_ite State.pending, apply_ite Prod.fst, apply_ite Prod.snd, apply_ite Done.st, ite_self, implies_true, forall_const, foldl_pending, State.zeroSlots_pending, Done.ok, Done.err] | split)

theorem State.keyResult_pending (s : State) (x : Status) (op : Nat) :
    (State.keyResult s x op).pending = s.pending := by
  unfold State.keyResult
  repeat' (first | simp only [apply_ite State.pending, apply_ite Prod.fst, apply_ite Prod.snd, apply_ite Done.st, ite_self, implies_true, forall_const, foldl_pending, State.irq_pending, Done.ok, Done.err] | split)

theorem State.newChallenge_pending (s : State) :
    (State.newChallenge s).pending = s.pending := by
  unfold State.newChallenge
  repeat' (first | simp only [apply_ite State.pending, apply_ite Prod.fst, apply_ite Prod.snd, apply_ite Done.st, ite_self, implies_true, forall_const, foldl_pending, State.drawn_pending, Done.ok, Done.err] | split)

theorem State.endUnlock_pending (s : State) :
    (State.endUnlock s).pending = s.pending := by
  unfold State.endUnlock
  repeat' (first | simp only [apply_ite State.pending, apply_ite Prod.fst, apply_ite Prod.snd, apply_ite Done.st, ite_self, implies_true, forall_const, foldl_pending, State.raise_pending, Done.ok, Done.err] | split)

theorem State.writeEpoch_pending (s : State) (epoch : BitVec 16) :
    (State.writeEpoch s epoch).pending = s.pending := by
  unfold State.writeEpoch
  repeat' (first | simp only [apply_ite State.pending, apply_ite Prod.fst, apply_ite Prod.snd, apply_ite Done.st, ite_self, implies_true, forall_const, foldl_pending, State.drawn_pending, Done.ok, Done.err] | split)

theorem State.commitRecord_pending (s : State) :
    (State.commitRecord s).pending = s.pending := by
  unfold State.commitRecord
  repeat' (first | simp only [apply_ite State.pending, apply_ite Prod.fst, apply_ite Prod.snd, apply_ite Done.st, ite_self, implies_true, forall_const, foldl_pending, Done.ok, Done.err] | split)

theorem State.programSeed_pending (s : State) :
    (State.programSeed s).pending = s.pending := by
  unfold State.programSeed
  repeat' (first | simp only [apply_ite State.pending, apply_ite Prod.fst, apply_ite Prod.snd, apply_ite Done.st, ite_self, implies_true, forall_const, foldl_pending, State.drawn_pending, Done.ok, Done.err] | split)

theorem State.fuseOwner_pending (s : State) (o : Dig) :
    (State.fuseOwner s o).pending = s.pending := by
  unfold State.fuseOwner
  repeat' (first | simp only [apply_ite State.pending, apply_ite Prod.fst, apply_ite Prod.snd, apply_ite Done.st, ite_self, implies_true, forall_const, foldl_pending, Done.ok, Done.err] | split)

theorem State.newSeal_pending (s : State) (gen : BitVec 32) :
    (State.newSeal s gen).pending = s.pending := by
  unfold State.newSeal
  repeat' (first | simp only [apply_ite State.pending, apply_ite Prod.fst, apply_ite Prod.snd, apply_ite Done.st, ite_self, implies_true, forall_const, foldl_pending, State.drawn_pending, Done.ok, Done.err] | split)

theorem State.fuseLc_pending (s : State) (bits : BitVec 4) :
    (State.fuseLc s bits).pending = s.pending := by
  unfold State.fuseLc
  repeat' (first | simp only [apply_ite State.pending, apply_ite Prod.fst, apply_ite Prod.snd, apply_ite Done.st, ite_self, implies_true, forall_const, foldl_pending, State.lcChanged_pending, Done.ok, Done.err] | split)

theorem State.checkToken_pending (s : State) (digest : Dig) (label : List Byte) (k : BitVec 264) (r : BitVec 256) (v : BitVec 256) :
    (State.checkToken s digest label k r v).2.pending = s.pending := by
  unfold State.checkToken
  repeat' (first | simp only [apply_ite State.pending, apply_ite Prod.fst, apply_ite Prod.snd, apply_ite Done.st, ite_self, implies_true, forall_const, foldl_pending, State.newChallenge_pending, Done.ok, Done.err] | split)

theorem State.keyWrites_pending (s : State) (o : KeyOp) (n : Nat) :
    (State.keyWrites s o n).pending = s.pending := by
  unfold State.keyWrites
  repeat' (first | simp only [apply_ite State.pending, apply_ite Prod.fst, apply_ite Prod.snd, apply_ite Done.st, ite_self, implies_true, forall_const, foldl_pending, State.checkToken_pending, State.commitRecord_pending, State.fuseLc_pending, State.fuseOwner_pending, State.newSeal_pending, State.programSeed_pending, State.writeEpoch_pending, Done.ok, Done.err] | split)

theorem State.zeroRoots_pending (s : State) :
    (State.zeroRoots s).pending = s.pending := by
  unfold State.zeroRoots
  repeat' (first | simp only [apply_ite State.pending, apply_ite Prod.fst, apply_ite Prod.snd, apply_ite Done.st, ite_self, implies_true, forall_const, foldl_pending, Done.ok, Done.err] | split)

theorem State.abortKeyOp_pending (s : State) :
    (State.abortKeyOp s).pending = s.pending := by
  unfold State.abortKeyOp
  repeat' (first | simp only [apply_ite State.pending, apply_ite Prod.fst, apply_ite Prod.snd, apply_ite Done.st, ite_self, implies_true, forall_const, foldl_pending, State.drawn_pending, State.keyResult_pending, State.keyWrites_pending, Done.ok, Done.err] | split)

theorem State.tamperHoldSet_pending (s : State) :
    (State.tamperHoldSet s).pending = s.pending := by
  unfold State.tamperHoldSet
  repeat' (first | simp only [apply_ite State.pending, apply_ite Prod.fst, apply_ite Prod.snd, apply_ite Done.st, ite_self, implies_true, forall_const, foldl_pending, State.raise_pending, Done.ok, Done.err] | split)

theorem State.calLost_pending (s : State) :
    (State.calLost s).pending = s.pending := by
  unfold State.calLost
  repeat' (first | simp only [apply_ite State.pending, apply_ite Prod.fst, apply_ite Prod.snd, apply_ite Done.st, ite_self, implies_true, forall_const, foldl_pending, State.faultAssert_pending, State.raise_pending, Done.ok, Done.err] | split)

theorem State.tamper_pending (s0 : State) (n : Nat) :
    (State.tamper s0 n).pending = s0.pending := by
  unfold State.tamper
  repeat' (first | simp only [apply_ite State.pending, apply_ite Prod.fst, apply_ite Prod.snd, apply_ite Done.st, ite_self, implies_true, forall_const, foldl_pending, State.abortKeyOp_pending, State.bistAbort_pending, State.calLost_pending, State.endUnlock_pending, State.faultAssert_pending, State.irq_pending, State.latch_pending, State.logPut_pending, State.tamperHoldSet_pending, State.zeroKeys_pending, State.zeroRoots_pending, Done.ok, Done.err] | split)

theorem State.enterRun_pending (s : State) :
    (State.enterRun s).pending = s.pending := by
  unfold State.enterRun
  repeat' (first | simp only [apply_ite State.pending, apply_ite Prod.fst, apply_ite Prod.snd, apply_ite Done.st, ite_self, implies_true, forall_const, foldl_pending, State.endUnlock_pending, State.react_pending, State.setDev_pending, Done.ok, Done.err] | split)

theorem State.autoRunNow_pending (s : State) :
    (State.autoRunNow s).pending = s.pending := by
  unfold State.autoRunNow
  repeat' (first | simp only [apply_ite State.pending, apply_ite Prod.fst, apply_ite Prod.snd, apply_ite Done.st, ite_self, implies_true, forall_const, foldl_pending, State.enterRun_pending, Done.ok, Done.err] | split)

theorem State.modPort_pending (s : State) (k : Nat) (f : Port → Port) :
    (State.modPort s k f).pending = s.pending := by
  unfold State.modPort
  repeat' (first | simp only [apply_ite State.pending, apply_ite Prod.fst, apply_ite Prod.snd, apply_ite Done.st, ite_self, implies_true, forall_const, foldl_pending, Done.ok, Done.err] | split)

theorem State.modSpp_pending (s : State) (i : Nat) (f : Spp → Spp) :
    (State.modSpp s i f).pending = s.pending := by
  unfold State.modSpp
  repeat' (first | simp only [apply_ite State.pending, apply_ite Prod.fst, apply_ite Prod.snd, apply_ite Done.st, ite_self, implies_true, forall_const, foldl_pending, Done.ok, Done.err] | split)

theorem State.setSvcCfg_pending (s : State) (f : SvcCfg → SvcCfg) :
    (State.setSvcCfg s f).pending = s.pending := by
  unfold State.setSvcCfg
  repeat' (first | simp only [apply_ite State.pending, apply_ite Prod.fst, apply_ite Prod.snd, apply_ite Done.st, ite_self, implies_true, forall_const, foldl_pending, Done.ok, Done.err] | split)

theorem State.setPortCfg_pending (s : State) (k : Nat) (f : PortCfg → PortCfg) :
    (State.setPortCfg s k f).pending = s.pending := by
  unfold State.setPortCfg
  repeat' (first | simp only [apply_ite State.pending, apply_ite Prod.fst, apply_ite Prod.snd, apply_ite Done.st, ite_self, implies_true, forall_const, foldl_pending, State.setSvcCfg_pending, Done.ok, Done.err] | split)

theorem State.setSppCfg_pending (s : State) (i : Nat) (f : SppCfg → SppCfg) :
    (State.setSppCfg s i f).pending = s.pending := by
  unfold State.setSppCfg
  repeat' (first | simp only [apply_ite State.pending, apply_ite Prod.fst, apply_ite Prod.snd, apply_ite Done.st, ite_self, implies_true, forall_const, foldl_pending, State.setSvcCfg_pending, Done.ok, Done.err] | split)

theorem State.gmacNext_pending (s : State) (i : Nat) (b : Bool) :
    (State.gmacNext s i b).2.pending = s.pending := by
  unfold State.gmacNext
  repeat' (first | simp only [apply_ite State.pending, apply_ite Prod.fst, apply_ite Prod.snd, apply_ite Done.st, ite_self, implies_true, forall_const, foldl_pending, State.keepOwn_pending, State.modSpp_pending, State.raise_pending, Done.ok, Done.err] | split)

theorem State.signMsg_pending (s : State) (i : Nat) (m : SvcMsg) :
    (s.signMsg i m).2.pending = s.pending := by
  unfold State.signMsg
  dsimp only
  repeat' split
  all_goals first
    | rfl
    | (rename_i heq
       have h2 := congrArg (fun r => r.2.pending) heq
       simp only [State.gmacNext_pending] at h2
       exact h2.symm)

theorem State.svcFrame_pending (s : State) (m : SvcMsg) (commit : Bool) :
    (State.svcFrame s m commit).2.pending = s.pending := by
  unfold State.svcFrame
  repeat' (first | simp only [apply_ite State.pending, apply_ite Prod.fst, apply_ite Prod.snd, apply_ite Done.st, ite_self, implies_true, forall_const, foldl_pending, State.newId_pending, Done.ok, Done.err] | split)

theorem State.sendSvc_pending (s : State) (m : SvcMsg) (ins : BitVec 2) :
    (State.sendSvc s m ins).pending = s.pending := by
  unfold State.sendSvc
  repeat' (first | simp only [apply_ite State.pending, apply_ite Prod.fst, apply_ite Prod.snd, apply_ite Done.st, ite_self, implies_true, forall_const, foldl_pending, State.enqueueTx_pending, State.svcFrame_pending, Done.ok, Done.err] | split)

theorem State.sendAuth_pending (s : State) (auth : Bool) (i : Nat) (m : SvcMsg) (ins : BitVec 2) :
    (s.sendAuth auth i m ins).pending = s.pending := by
  unfold State.sendAuth
  split
  · split <;> (rename_i heq; have h2 := congrArg (fun r => r.2.pending) heq; simp only [State.signMsg_pending] at h2)
    · simp only [State.sendSvc_pending, h2]
    · exact h2.symm
  · simp only [State.sendSvc_pending]

theorem State.commitSign_pending (s : State) (m : SvcMsg) :
    (State.commitSign s m).2.pending = s.pending := by
  unfold State.commitSign
  repeat' (first | simp only [apply_ite State.pending, apply_ite Prod.fst, apply_ite Prod.snd, apply_ite Done.st, ite_self, implies_true, forall_const, foldl_pending, State.drawn_pending, State.signMsg_pending, Done.ok, Done.err] | split)

theorem State.commitGiveUp_pending (s : State) (l : Nat) :
    (State.commitGiveUp s l).pending = s.pending := by
  unfold State.commitGiveUp
  repeat' (first | simp only [apply_ite State.pending, apply_ite Prod.fst, apply_ite Prod.snd, apply_ite Done.st, ite_self, implies_true, forall_const, foldl_pending, State.svcCount_pending, State.svcRaise_pending, Done.ok, Done.err] | split)

theorem State.commitMsg_pending (s : State) (m : SvcMsg) (attempt : Nat) :
    (s.commitMsg m attempt).pending = s.pending := by
  unfold State.commitMsg
  dsimp only
  split
  · simp only [State.commitGiveUp_pending]
  · split <;> (rename_i heq; have h2 := congrArg (fun r => r.2.pending) heq; simp only [State.commitSign_pending] at h2)
    · exact h2.symm
    · simp only [apply_ite State.pending, State.modTLane_pending, State.enqueueTx_pending, State.svcFrame_pending, ite_self, h2]

theorem State.recommit_pending (s : State) (l : Nat) (f : TxFrame) :
    (State.recommit s l f).pending = s.pending := by
  unfold State.recommit
  repeat' (first | simp only [apply_ite State.pending, apply_ite Prod.fst, apply_ite Prod.snd, apply_ite Done.st, ite_self, implies_true, forall_const, foldl_pending, State.commitGiveUp_pending, State.commitMsg_pending, Done.ok, Done.err] | split)

theorem State.missSlot_pending (s : State) (l : Nat) (b : Booking) :
    (State.missSlot s l b).pending = s.pending := by
  unfold State.missSlot
  repeat' (first | simp only [apply_ite State.pending, apply_ite Prod.fst, apply_ite Prod.snd, apply_ite Done.st, ite_self, implies_true, forall_const, foldl_pending, State.recommit_pending, State.slotMissed_pending, Done.ok, Done.err] | split)

theorem State.setClient_pending (s : State) (c : Client) :
    (State.setClient s c).pending = s.pending := by
  unfold State.setClient
  repeat' (first | simp only [apply_ite State.pending, apply_ite Prod.fst, apply_ite Prod.snd, apply_ite Done.st, ite_self, implies_true, forall_const, foldl_pending, Done.ok, Done.err] | split)

theorem State.freeClient_pending (s : State) (idx : BitVec 20) :
    (State.freeClient s idx).pending = s.pending := by
  unfold State.freeClient
  repeat' (first | simp only [apply_ite State.pending, apply_ite Prod.fst, apply_ite Prod.snd, apply_ite Done.st, ite_self, implies_true, forall_const, foldl_pending, Done.ok, Done.err] | split)

theorem State.noteClient_pending (s : State) (l : Nat) (kind : Nat) (r : SvcReq) (sppIdx : Nat) :
    (State.noteClient s l kind r sppIdx).2.pending = s.pending := by
  unfold State.noteClient
  repeat' (first | simp only [apply_ite State.pending, apply_ite Prod.fst, apply_ite Prod.snd, apply_ite Done.st, ite_self, implies_true, forall_const, foldl_pending, State.setClient_pending, State.svcCount_pending, State.svcRaise_pending, Done.ok, Done.err] | split)

theorem State.takeToken_pending (s : State) (c : Client) :
    (State.takeToken s c).2.pending = s.pending := by
  unfold State.takeToken
  repeat' (first | simp only [apply_ite State.pending, apply_ite Prod.fst, apply_ite Prod.snd, apply_ite Done.st, ite_self, implies_true, forall_const, foldl_pending, State.setClient_pending, State.svcCount_pending, State.svcRaise_pending, Done.ok, Done.err] | split)

theorem specSvcQueryStatus_pending (p : Packet) (s : State) :
    (specSvcQueryStatus.body p s).st.pending = s.pending := by
  unfold specSvcQueryStatus
  repeat' (first | simp only [apply_ite State.pending, apply_ite Prod.fst, apply_ite Prod.snd, apply_ite Done.st, ite_self, implies_true, forall_const, foldl_pending, answer, gnsBody, keyBody, pairBody, svcBody, ticBody, answer_pending, Done.ok, Done.err] | split)

theorem specSvcQueryClient_pending (p : Packet) (s : State) :
    (specSvcQueryClient.body p s).st.pending = s.pending := by
  unfold specSvcQueryClient
  repeat' (first | simp only [apply_ite State.pending, apply_ite Prod.fst, apply_ite Prod.snd, apply_ite Done.st, ite_self, implies_true, forall_const, foldl_pending, answer, gnsBody, keyBody, pairBody, svcBody, ticBody, answer_pending, Done.ok, Done.err] | split)

theorem specSvcSetPtpPort_pending (p : Packet) (s : State) :
    (specSvcSetPtpPort.body p s).st.pending = s.pending := by
  unfold specSvcSetPtpPort
  repeat' (first | simp only [apply_ite State.pending, apply_ite Prod.fst, apply_ite Prod.snd, apply_ite Done.st, ite_self, implies_true, forall_const, foldl_pending, answer, gnsBody, keyBody, pairBody, svcBody, ticBody, Done.err_pending, Done.ok_pending, State.setPortCfg_pending, Done.ok, Done.err] | split)

theorem State.setProfile_pending (s : State) (l : Nat) (pr : BitVec 2) :
    (State.setProfile s l pr).pending = s.pending := by
  unfold State.setProfile
  repeat' (first | simp only [apply_ite State.pending, apply_ite Prod.fst, apply_ite Prod.snd, apply_ite Done.st, ite_self, implies_true, forall_const, foldl_pending, State.setPortCfg_pending, Done.ok, Done.err] | split)

theorem specSvcSetProfile_pending (p : Packet) (s : State) :
    (specSvcSetProfile.body p s).st.pending = s.pending := by
  unfold specSvcSetProfile
  repeat' (first | simp only [apply_ite State.pending, apply_ite Prod.fst, apply_ite Prod.snd, apply_ite Done.st, ite_self, implies_true, forall_const, foldl_pending, answer, gnsBody, keyBody, pairBody, svcBody, ticBody, Done.err_pending, Done.ok_pending, State.setProfile_pending, State.setSvcCfg_pending, State.svcEval_pending, Done.ok, Done.err] | split)

theorem State.loadPos_pending (s : State) (i : Nat) (b : Bool) (id_ : BitVec 32) (slot : BitVec 8) (alg : BitVec 2) :
    (State.loadPos s i b id_ slot alg).pending = s.pending := by
  unfold State.loadPos
  repeat' (first | simp only [apply_ite State.pending, apply_ite Prod.fst, apply_ite Prod.snd, apply_ite Done.st, ite_self, implies_true, forall_const, foldl_pending, State.modSpp_pending, State.setSppCfg_pending, Done.ok, Done.err] | split)

theorem specSvcSetAuth_pending (p : Packet) (s : State) :
    (specSvcSetAuth.body p s).st.pending = s.pending := by
  unfold specSvcSetAuth
  repeat' (first | simp only [apply_ite State.pending, apply_ite Prod.fst, apply_ite Prod.snd, apply_ite Done.st, ite_self, implies_true, forall_const, foldl_pending, answer, gnsBody, keyBody, pairBody, svcBody, ticBody, Done.err_pending, Done.ok_pending, State.loadPos_pending, State.modSpp_pending, State.setSppCfg_pending, State.setSvcCfg_pending, Done.ok, Done.err] | split)

theorem specSvcSetNtp_pending (p : Packet) (s : State) :
    (specSvcSetNtp.body p s).st.pending = s.pending := by
  unfold specSvcSetNtp
  repeat' (first | simp only [apply_ite State.pending, apply_ite Prod.fst, apply_ite Prod.snd, apply_ite Done.st, ite_self, implies_true, forall_const, foldl_pending, answer, gnsBody, keyBody, pairBody, svcBody, ticBody, Done.ok_pending, State.setSvcCfg_pending, Done.ok, Done.err] | split)

theorem specSvcLoadCookieKey_pending (p : Packet) (s : State) :
    (specSvcLoadCookieKey.body p s).st.pending = s.pending := by
  unfold specSvcLoadCookieKey
  repeat' (first | simp only [apply_ite State.pending, apply_ite Prod.fst, apply_ite Prod.snd, apply_ite Done.st, ite_self, implies_true, forall_const, foldl_pending, answer, gnsBody, keyBody, pairBody, svcBody, ticBody, Done.err_pending, Done.ok_pending, Done.ok, Done.err] | split)

theorem specSvcRetireCookieKey_pending (p : Packet) (s : State) :
    (specSvcRetireCookieKey.body p s).st.pending = s.pending := by
  unfold specSvcRetireCookieKey
  repeat' (first | simp only [apply_ite State.pending, apply_ite Prod.fst, apply_ite Prod.snd, apply_ite Done.st, ite_self, implies_true, forall_const, foldl_pending, answer, gnsBody, keyBody, pairBody, svcBody, ticBody, Done.err_pending, Done.ok_pending, Done.ok, Done.err] | split)

theorem specSvcSetGate_pending (p : Packet) (s : State) :
    (specSvcSetGate.body p s).st.pending = s.pending := by
  unfold specSvcSetGate
  repeat' (first | simp only [apply_ite State.pending, apply_ite Prod.fst, apply_ite Prod.snd, apply_ite Done.st, ite_self, implies_true, forall_const, foldl_pending, answer, gnsBody, keyBody, pairBody, svcBody, ticBody, Done.ok_pending, State.setSvcCfg_pending, State.svcClassesSet_pending, Done.ok, Done.err] | split)

theorem specSvcSetRateLimit_pending (p : Packet) (s : State) :
    (specSvcSetRateLimit.body p s).st.pending = s.pending := by
  unfold specSvcSetRateLimit
  repeat' (first | simp only [apply_ite State.pending, apply_ite Prod.fst, apply_ite Prod.snd, apply_ite Done.st, ite_self, implies_true, forall_const, foldl_pending, answer, gnsBody, keyBody, pairBody, svcBody, ticBody, Done.ok_pending, State.setSvcCfg_pending, Done.ok, Done.err] | split)

theorem specSvcClientFlush_pending (p : Packet) (s : State) :
    (specSvcClientFlush.body p s).st.pending = s.pending := by
  unfold specSvcClientFlush
  repeat' (first | simp only [apply_ite State.pending, apply_ite Prod.fst, apply_ite Prod.snd, apply_ite Done.st, ite_self, implies_true, forall_const, foldl_pending, answer, gnsBody, keyBody, pairBody, svcBody, ticBody, Done.ok_pending, Done.ok, Done.err] | split)

theorem specSvcSetBoundTlv_pending (p : Packet) (s : State) :
    (specSvcSetBoundTlv.body p s).st.pending = s.pending := by
  unfold specSvcSetBoundTlv
  repeat' (first | simp only [apply_ite State.pending, apply_ite Prod.fst, apply_ite Prod.snd, apply_ite Done.st, ite_self, implies_true, forall_const, foldl_pending, answer, gnsBody, keyBody, pairBody, svcBody, ticBody, Done.ok_pending, State.setSvcCfg_pending, Done.ok, Done.err] | split)

theorem State.otherDiscard_pending (s : State) (l : Nat) :
    (State.otherDiscard s l).pending = s.pending := by
  unfold State.otherDiscard
  repeat' (first | simp only [apply_ite State.pending, apply_ite Prod.fst, apply_ite Prod.snd, apply_ite Done.st, ite_self, implies_true, forall_const, foldl_pending, State.svcCount_pending, Done.ok, Done.err] | split)

theorem State.engineTake_pending (s : State) (l : Nat) : (s.engineTake l).1.pending = s.pending := by
  unfold State.engineTake
  dsimp only
  split <;> simp only [State.svcRaise_pending, State.svcCount_pending, State.modPort_pending]

theorem State.intake_pending (s : State) (l : Nat) (r : SvcReq) :
    (State.intake s l r).1.pending = s.pending := by
  unfold State.intake
  repeat' (first | simp only [apply_ite State.pending, apply_ite Prod.fst, apply_ite Prod.snd, apply_ite Done.st, ite_self, implies_true, forall_const, foldl_pending, State.admitClient_pending, State.engineTake_pending, State.ethCount_pending, Done.ok, Done.err] | split)

theorem State.authFail_pending (s : State) (l : Nat) :
    (State.authFail s l).pending = s.pending := by
  unfold State.authFail
  repeat' (first | simp only [apply_ite State.pending, apply_ite Prod.fst, apply_ite Prod.snd, apply_ite Done.st, ite_self, implies_true, forall_const, foldl_pending, State.svcCount_pending, State.svcRaise_pending, Done.ok, Done.err] | split)

theorem State.ptpIntake_pending (s : State) (l : Nat) (r : SvcReq) :
    (State.ptpIntake s l r).1.pending = s.pending := by
  unfold State.ptpIntake
  repeat' (first | simp only [apply_ite State.pending, apply_ite Prod.fst, apply_ite Prod.snd, apply_ite Done.st, ite_self, implies_true, forall_const, foldl_pending, State.authFail_pending, State.ethCount_pending, State.intake_pending, State.otherDiscard_pending, Done.ok, Done.err] | split)

theorem State.grantDeny_pending (s : State) (l : Nat) (r : SvcReq) (g : UniReq) :
    (State.grantDeny s l r g).pending = s.pending := by
  unfold State.grantDeny
  repeat' (first | simp only [apply_ite State.pending, apply_ite Prod.fst, apply_ite Prod.snd, apply_ite Done.st, ite_self, implies_true, forall_const, foldl_pending, State.sendAuth_pending, State.svcCount_pending, State.svcRaise_pending, Done.ok, Done.err] | split)

theorem State.grantOne_pending (s : State) (l : Nat) (r : SvcReq) (c : Client) (g : UniReq) :
    (State.grantOne s l r c g).pending = s.pending := by
  unfold State.grantOne
  repeat' (first | simp only [apply_ite State.pending, apply_ite Prod.fst, apply_ite Prod.snd, apply_ite Done.st, ite_self, implies_true, forall_const, foldl_pending, State.grantDeny_pending, State.otherDiscard_pending, State.sendAuth_pending, State.setClient_pending, Done.ok, Done.err] | split)

theorem State.cancelOne_pending (s : State) (l : Nat) (r : SvcReq) (ty : Nat) :
    (State.cancelOne s l r ty).pending = s.pending := by
  unfold State.cancelOne
  repeat' (first | simp only [apply_ite State.pending, apply_ite Prod.fst, apply_ite Prod.snd, apply_ite Done.st, ite_self, implies_true, forall_const, foldl_pending, State.otherDiscard_pending, State.sendAuth_pending, State.setClient_pending, Done.ok, Done.err] | split)

theorem State.kodRate_pending (s : State) (l : Nat) (r : SvcReq) :
    (State.kodRate s l r).pending = s.pending := by
  unfold State.kodRate
  repeat' (first | simp only [apply_ite State.pending, apply_ite Prod.fst, apply_ite Prod.snd, apply_ite Done.st, ite_self, implies_true, forall_const, foldl_pending, State.sendSvc_pending, State.setClient_pending, Done.ok, Done.err] | split)

theorem State.ntsNak_pending (s : State) (l : Nat) (r : SvcReq) :
    (State.ntsNak s l r).pending = s.pending := by
  unfold State.ntsNak
  repeat' (first | simp only [apply_ite State.pending, apply_ite Prod.fst, apply_ite Prod.snd, apply_ite Done.st, ite_self, implies_true, forall_const, foldl_pending, State.sendSvc_pending, State.setClient_pending, State.svcCount_pending, State.svcRaise_pending, Done.ok, Done.err] | split)

theorem State.mintJar_pending (s : State) (e : Cookie) (c2s s2c : Dig) (n : Nat) :
    (s.mintJar e c2s s2c n).2.pending = s.pending := by
  induction n with
  | zero => rfl
  | succ n ih => unfold State.mintJar; simp only [State.drawn_pending, ih]

theorem State.ntsAnswer_pending (s : State) (l : Nat) (t : Stamp) (r : SvcReq) (q : NtsReq) (i : Nat) (c2s : Dig) (s2c : Dig) :
    (State.ntsAnswer s l t r q i c2s s2c).pending = s.pending := by
  unfold State.ntsAnswer
  repeat' (first | simp only [apply_ite State.pending, apply_ite Prod.fst, apply_ite Prod.snd, apply_ite Done.st, ite_self, implies_true, forall_const, foldl_pending, State.commitMsg_pending, State.mintJar_pending, Done.ok, Done.err] | split)

theorem State.ntsCheck_pending (s : State) (l : Nat) (t : Stamp) (r : SvcReq) (q : NtsReq) :
    (State.ntsCheck s l t r q).pending = s.pending := by
  unfold State.ntsCheck
  repeat' (first | simp only [apply_ite State.pending, apply_ite Prod.fst, apply_ite Prod.snd, apply_ite Done.st, ite_self, implies_true, forall_const, foldl_pending, State.ntsAnswer_pending, State.ntsNak_pending, Done.ok, Done.err] | split)

theorem State.followUp_pending (s : State) (k : Nat) (x : SyncSent) :
    (State.followUp s k x).pending = s.pending := by
  unfold State.followUp
  repeat' (first | simp only [apply_ite State.pending, apply_ite Prod.fst, apply_ite Prod.snd, apply_ite Done.st, ite_self, implies_true, forall_const, foldl_pending, State.sendAuth_pending, Done.ok, Done.err] | split)

theorem State.keyRoll_pending (s : State) (i : Nat) :
    (State.keyRoll s i).pending = s.pending := by
  unfold State.keyRoll
  repeat' (first | simp only [apply_ite State.pending, apply_ite Prod.fst, apply_ite Prod.snd, apply_ite Done.st, ite_self, implies_true, forall_const, foldl_pending, State.commitCsp_pending, State.keepOwn_pending, State.modSpp_pending, State.raise_pending, State.setSppCfg_pending, Done.ok, Done.err] | split)

theorem State.rollsDue_pending (s : State) :
    (State.rollsDue s).pending = s.pending := by
  unfold State.rollsDue
  repeat' (first | simp only [apply_ite State.pending, apply_ite Prod.fst, apply_ite Prod.snd, apply_ite Done.st, ite_self, implies_true, forall_const, foldl_pending, State.keyRoll_pending, Done.ok, Done.err] | split)

theorem State.dropOld_pending (s : State) (i : Nat) :
    (State.dropOld s i).pending = s.pending := by
  unfold State.dropOld
  repeat' (first | simp only [apply_ite State.pending, apply_ite Prod.fst, apply_ite Prod.snd, apply_ite Done.st, ite_self, implies_true, forall_const, foldl_pending, State.commitCsp_pending, State.keepOwn_pending, State.modSpp_pending, State.setSppCfg_pending, Done.ok, Done.err] | split)

theorem State.lastCommit_pending (s : State) (l : Nat) (f : TxFrame) (S : Nat) (res : Int) (aborted : Bool) :
    (State.lastCommit s l f S res aborted).pending = s.pending := by
  unfold State.lastCommit
  repeat' (first | simp only [apply_ite State.pending, apply_ite Prod.fst, apply_ite Prod.snd, apply_ite Done.st, ite_self, implies_true, forall_const, foldl_pending, Done.ok, Done.err] | split)

theorem State.commitAbort_pending (s : State) (l : Nat) (f : TxFrame) :
    (State.commitAbort s l f).pending = s.pending := by
  unfold State.commitAbort
  repeat' (first | simp only [apply_ite State.pending, apply_ite Prod.fst, apply_ite Prod.snd, apply_ite Done.st, ite_self, implies_true, forall_const, foldl_pending, State.ethCount_pending, State.modTLane_pending, State.recommit_pending, State.svcCount_pending, State.svcRaise_pending, Done.ok, Done.err] | split)

theorem State.commitDecide_pending (s : State) (l : Nat) (f : TxFrame) (S : Nat) (res : Int) :
    (State.commitDecide s l f S res).pending = s.pending := by
  unfold State.commitDecide
  repeat' (first | simp only [apply_ite State.pending, apply_ite Prod.fst, apply_ite Prod.snd, apply_ite Done.st, ite_self, implies_true, forall_const, foldl_pending, Done.ok_pending, State.commitAbort_pending, State.lastCommit_pending, State.modTLane_pending, State.svcCount_pending, State.txDone_pending, Done.ok, Done.err] | split)

theorem State.epochRegs_pending (s : State) :
    (State.epochRegs s).pending = s.pending := by
  unfold State.epochRegs
  repeat' (first | simp only [apply_ite State.pending, apply_ite Prod.fst, apply_ite Prod.snd, apply_ite Done.st, ite_self, implies_true, forall_const, foldl_pending, Done.ok, Done.err] | split)

theorem State.deriveUds_pending (s : State) :
    (State.deriveUds s).pending = s.pending := by
  unfold State.deriveUds
  repeat' (first | simp only [apply_ite State.pending, apply_ite Prod.fst, apply_ite Prod.snd, apply_ite Done.st, ite_self, implies_true, forall_const, foldl_pending, Done.ok, Done.err] | split)

theorem State.deriveProduction_pending (s : State) :
    (State.deriveProduction s).pending = s.pending := by
  unfold State.deriveProduction
  repeat' (first | simp only [apply_ite State.pending, apply_ite Prod.fst, apply_ite Prod.snd, apply_ite Done.st, ite_self, implies_true, forall_const, foldl_pending, State.epochRegs_pending, Done.ok, Done.err] | split)

theorem State.deriveTest_pending (s : State) :
    (State.deriveTest s).pending = s.pending := by
  unfold State.deriveTest
  repeat' (first | simp only [apply_ite State.pending, apply_ite Prod.fst, apply_ite Prod.snd, apply_ite Done.st, ite_self, implies_true, forall_const, foldl_pending, Done.ok, Done.err] | split)

theorem State.installKeyed_pending (s : State) :
    (State.installKeyed s).pending = s.pending := by
  unfold State.installKeyed
  repeat' (first | simp only [apply_ite State.pending, apply_ite Prod.fst, apply_ite Prod.snd, apply_ite Done.st, ite_self, implies_true, forall_const, foldl_pending, State.installLsk_pending, Done.ok, Done.err] | split)

theorem State.reinstallLsk_pending (s : State) :
    (State.reinstallLsk s).pending = s.pending := by
  unfold State.reinstallLsk
  repeat' (first | simp only [apply_ite State.pending, apply_ite Prod.fst, apply_ite Prod.snd, apply_ite Done.st, ite_self, implies_true, forall_const, foldl_pending, State.useLsk_pending, Done.ok, Done.err] | split)

theorem specKeyQuerySlots_pending (p : Packet) (s : State) :
    (specKeyQuerySlots.body p s).st.pending = s.pending := by
  unfold specKeyQuerySlots
  repeat' (first | simp only [apply_ite State.pending, apply_ite Prod.fst, apply_ite Prod.snd, apply_ite Done.st, ite_self, implies_true, forall_const, foldl_pending, answer, gnsBody, keyBody, pairBody, svcBody, ticBody, answer_pending, Done.ok, Done.err] | split)

theorem specKeyQueryEpoch_pending (p : Packet) (s : State) :
    (specKeyQueryEpoch.body p s).st.pending = s.pending := by
  unfold specKeyQueryEpoch
  repeat' (first | simp only [apply_ite State.pending, apply_ite Prod.fst, apply_ite Prod.snd, apply_ite Done.st, ite_self, implies_true, forall_const, foldl_pending, answer, gnsBody, keyBody, pairBody, svcBody, ticBody, answer_pending, Done.ok, Done.err] | split)

theorem State.startKeyOp_pending (s : State) (o : KeyOp) :
    (State.startKeyOp s o).st.pending = s.pending := by
  unfold State.startKeyOp
  repeat' (first | simp only [apply_ite State.pending, apply_ite Prod.fst, apply_ite Prod.snd, apply_ite Done.st, ite_self, implies_true, forall_const, foldl_pending, Done.ok_pending, Done.ok, Done.err] | split)

theorem State.slotLoaded_pending (s : State) (k : Nat) :
    (State.slotLoaded s k).pending = s.pending := by
  unfold State.slotLoaded
  repeat' (first | simp only [apply_ite State.pending, apply_ite Prod.fst, apply_ite Prod.snd, apply_ite Done.st, ite_self, implies_true, forall_const, foldl_pending, Done.ok, Done.err] | split)

theorem State.fillSlot_pending (s : State) (k : Nat) (x : KeySlot) :
    (State.fillSlot s k x).pending = s.pending := by
  unfold State.fillSlot
  repeat' (first | simp only [apply_ite State.pending, apply_ite Prod.fst, apply_ite Prod.snd, apply_ite Done.st, ite_self, implies_true, forall_const, foldl_pending, State.slotLoaded_pending, Done.ok, Done.err] | split)

theorem State.filled_pending (s : State) (k : Nat) (x : KeySlot) :
    (State.filled s k x).st.pending = s.pending := by
  unfold State.filled
  repeat' (first | simp only [apply_ite State.pending, apply_ite Prod.fst, apply_ite Prod.snd, apply_ite Done.st, ite_self, implies_true, forall_const, foldl_pending, Done.ok_pending, State.fillSlot_pending, Done.ok, Done.err] | split)

theorem State.keyAuthFail_pending (s : State) (reason : List W32) :
    (State.keyAuthFail s reason).st.pending = s.pending := by
  unfold State.keyAuthFail
  repeat' (first | simp only [apply_ite State.pending, apply_ite Prod.fst, apply_ite Prod.snd, apply_ite Done.st, ite_self, implies_true, forall_const, foldl_pending, State.authFail_pending, State.irq_pending, Done.ok, Done.err] | split)

theorem State.loadFlacon_pending (s : State) (k : Nat) (b : List Byte) :
    (State.loadFlacon s k b).st.pending = s.pending := by
  unfold State.loadFlacon
  repeat' (first | simp only [apply_ite State.pending, apply_ite Prod.fst, apply_ite Prod.snd, apply_ite Done.st, ite_self, implies_true, forall_const, foldl_pending, Done.err_pending, State.filled_pending, State.keyAuthFail_pending, Done.ok, Done.err] | split)

theorem State.importKey_pending (s : State) (k : Nat) (p : Packet) :
    (State.importKey s k p).st.pending = s.pending := by
  unfold State.importKey
  repeat' (first | simp only [apply_ite State.pending, apply_ite Prod.fst, apply_ite Prod.snd, apply_ite Done.st, ite_self, implies_true, forall_const, foldl_pending, Done.err_pending, State.filled_pending, Done.ok, Done.err] | split)

theorem specKeyLoadFlacon_pending (p : Packet) (s : State) :
    (specKeyLoadFlacon.body p s).st.pending = s.pending := by
  unfold specKeyLoadFlacon
  repeat' (first | simp only [apply_ite State.pending, apply_ite Prod.fst, apply_ite Prod.snd, apply_ite Done.st, ite_self, implies_true, forall_const, foldl_pending, answer, gnsBody, keyBody, pairBody, svcBody, ticBody, State.importKey_pending, State.loadFlacon_pending, Done.ok, Done.err] | split)

theorem specKeyWrap_pending (p : Packet) (s : State) :
    (specKeyWrap.body p s).st.pending = s.pending := by
  unfold specKeyWrap
  repeat' (first | simp only [apply_ite State.pending, apply_ite Prod.fst, apply_ite Prod.snd, apply_ite Done.st, ite_self, implies_true, forall_const, foldl_pending, answer, gnsBody, keyBody, pairBody, svcBody, ticBody, Done.err_pending, Done.ok_pending, State.drawn_pending, State.keepOwn_pending, State.raise_pending, Done.ok, Done.err] | split)

theorem specKeyDerive_pending (p : Packet) (s : State) :
    (specKeyDerive.body p s).st.pending = s.pending := by
  unfold specKeyDerive
  repeat' (first | simp only [apply_ite State.pending, apply_ite Prod.fst, apply_ite Prod.snd, apply_ite Done.st, ite_self, implies_true, forall_const, foldl_pending, answer, gnsBody, keyBody, pairBody, svcBody, ticBody, Done.err_pending, State.filled_pending, Done.ok, Done.err] | split)

theorem specKeyZero_pending (p : Packet) (s : State) :
    (specKeyZero.body p s).st.pending = s.pending := by
  unfold specKeyZero
  repeat' (first | simp only [apply_ite State.pending, apply_ite Prod.fst, apply_ite Prod.snd, apply_ite Done.st, ite_self, implies_true, forall_const, foldl_pending, answer, gnsBody, keyBody, pairBody, svcBody, ticBody, Done.err_pending, Done.ok_pending, State.zeroSlots_pending, Done.ok, Done.err] | split)

theorem State.commitEpoch_pending (s : State) :
    (State.commitEpoch s).pending = s.pending := by
  unfold State.commitEpoch
  repeat' (first | simp only [apply_ite State.pending, apply_ite Prod.fst, apply_ite Prod.snd, apply_ite Done.st, ite_self, implies_true, forall_const, foldl_pending, State.commitRecord_pending, State.deriveProduction_pending, State.raise_pending, Done.ok, Done.err] | split)

theorem specKeyEpochUpdate_pending (p : Packet) (s : State) :
    (specKeyEpochUpdate.body p s).st.pending = s.pending := by
  unfold specKeyEpochUpdate
  repeat' (first | simp only [apply_ite State.pending, apply_ite Prod.fst, apply_ite Prod.snd, apply_ite Done.st, ite_self, implies_true, forall_const, foldl_pending, answer, gnsBody, keyBody, pairBody, svcBody, ticBody, Done.err_pending, State.startKeyOp_pending, State.writeEpoch_pending, Done.ok, Done.err] | split)

theorem specKeyAttest_pending (p : Packet) (s : State) :
    (specKeyAttest.body p s).st.pending = s.pending := by
  unfold specKeyAttest
  repeat' (first | simp only [apply_ite State.pending, apply_ite Prod.fst, apply_ite Prod.snd, apply_ite Done.st, ite_self, implies_true, forall_const, foldl_pending, answer, gnsBody, keyBody, pairBody, svcBody, ticBody, Done.err_pending, State.startKeyOp_pending, Done.ok, Done.err] | split)

theorem specKeyProvision_pending (p : Packet) (s : State) :
    (specKeyProvision.body p s).st.pending = s.pending := by
  unfold specKeyProvision
  repeat' (first | simp only [apply_ite State.pending, apply_ite Prod.fst, apply_ite Prod.snd, apply_ite Done.st, ite_self, implies_true, forall_const, foldl_pending, answer, gnsBody, keyBody, pairBody, svcBody, ticBody, Done.err_pending, State.startKeyOp_pending, Done.ok, Done.err] | split)

theorem specKeyLcAdvance_pending (p : Packet) (s : State) :
    (specKeyLcAdvance.body p s).st.pending = s.pending := by
  unfold specKeyLcAdvance
  repeat' (first | simp only [apply_ite State.pending, apply_ite Prod.fst, apply_ite Prod.snd, apply_ite Done.st, ite_self, implies_true, forall_const, foldl_pending, answer, gnsBody, keyBody, pairBody, svcBody, ticBody, Done.err_pending, State.startKeyOp_pending, Done.ok, Done.err] | split)

theorem specKeyDebugEnter_pending (p : Packet) (s : State) :
    (specKeyDebugEnter.body p s).st.pending = s.pending := by
  unfold specKeyDebugEnter
  repeat' (first | simp only [apply_ite State.pending, apply_ite Prod.fst, apply_ite Prod.snd, apply_ite Done.st, ite_self, implies_true, forall_const, foldl_pending, answer, gnsBody, keyBody, pairBody, svcBody, ticBody, Done.err_pending, State.startKeyOp_pending, Done.ok, Done.err] | split)

theorem specKeyDebugExit_pending (p : Packet) (s : State) :
    (specKeyDebugExit.body p s).st.pending = s.pending := by
  unfold specKeyDebugExit
  repeat' (first | simp only [apply_ite State.pending, apply_ite Prod.fst, apply_ite Prod.snd, apply_ite Done.st, ite_self, implies_true, forall_const, foldl_pending, answer, gnsBody, keyBody, pairBody, svcBody, ticBody, State.startKeyOp_pending, Done.ok, Done.err] | split)

theorem State.attestDone_pending (s : State) (nonce : BitVec 256) :
    (State.attestDone s nonce).pending = s.pending := by
  unfold State.attestDone
  repeat' (first | simp only [apply_ite State.pending, apply_ite Prod.fst, apply_ite Prod.snd, apply_ite Done.st, ite_self, implies_true, forall_const, foldl_pending, Done.ok_pending, State.drawn_pending, State.keyResult_pending, Done.ok, Done.err] | split)

theorem State.provisionFirst_pending (s : State) (owner : Dig) :
    (State.provisionFirst s owner).pending = s.pending := by
  unfold State.provisionFirst
  repeat' (first | simp only [apply_ite State.pending, apply_ite Prod.fst, apply_ite Prod.snd, apply_ite Done.st, ite_self, implies_true, forall_const, foldl_pending, Done.ok_pending, State.commitEpoch_pending, State.deriveUds_pending, State.fuseLc_pending, State.fuseOwner_pending, State.installKeyed_pending, State.keyResult_pending, State.newSeal_pending, State.programSeed_pending, State.writeEpoch_pending, Done.ok, Done.err] | split)

theorem State.provisionAgain_pending (s : State) :
    (State.provisionAgain s).pending = s.pending := by
  unfold State.provisionAgain
  repeat' (first | simp only [apply_ite State.pending, apply_ite Prod.fst, apply_ite Prod.snd, apply_ite Done.st, ite_self, implies_true, forall_const, foldl_pending, Done.ok_pending, State.autoRunNow_pending, State.commitEpoch_pending, State.deriveUds_pending, State.faultEnd_pending, State.installKeyed_pending, State.keyResult_pending, State.newSeal_pending, State.writeEpoch_pending, Done.ok, Done.err] | split)

theorem State.lcEnd_pending (s : State) (target : Nat) :
    (State.lcEnd s target).pending = s.pending := by
  unfold State.lcEnd
  repeat' (first | simp only [apply_ite State.pending, apply_ite Prod.fst, apply_ite Prod.snd, apply_ite Done.st, ite_self, implies_true, forall_const, foldl_pending, State.deriveTest_pending, State.deriveUds_pending, State.fuseLc_pending, State.installKeyed_pending, State.zeroKeys_pending, State.zeroRoots_pending, Done.ok, Done.err] | split)

theorem State.lcAdvanceDone_pending (s : State) (target : Nat) (k : BitVec 264) (r : BitVec 256) (v : BitVec 256) :
    (State.lcAdvanceDone s target k r v).pending = s.pending := by
  unfold State.lcAdvanceDone
  repeat' (first | simp only [apply_ite State.pending, apply_ite Prod.fst, apply_ite Prod.snd, apply_ite Done.st, ite_self, implies_true, forall_const, foldl_pending, Done.ok_pending, State.authFail_pending, State.checkToken_pending, State.fuseLc_pending, State.irq_pending, State.keyResult_pending, State.lcEnd_pending, Done.ok, Done.err] | split)

theorem State.debugEnterDone_pending (s : State) (k : BitVec 264) (r : BitVec 256) (v : BitVec 256) :
    (State.debugEnterDone s k r v).pending = s.pending := by
  unfold State.debugEnterDone
  repeat' (first | simp only [apply_ite State.pending, apply_ite Prod.fst, apply_ite Prod.snd, apply_ite Done.st, ite_self, implies_true, forall_const, foldl_pending, Done.ok_pending, State.authFail_pending, State.checkToken_pending, State.deriveTest_pending, State.installKeyed_pending, State.irq_pending, State.keyResult_pending, State.lcChanged_pending, State.zeroKeys_pending, Done.ok, Done.err] | split)

theorem State.debugExitDone_pending (s : State) :
    (State.debugExitDone s).pending = s.pending := by
  unfold State.debugExitDone
  repeat' (first | simp only [apply_ite State.pending, apply_ite Prod.fst, apply_ite Prod.snd, apply_ite Done.st, ite_self, implies_true, forall_const, foldl_pending, Done.ok_pending, State.deriveProduction_pending, State.installKeyed_pending, State.keyResult_pending, State.lcChanged_pending, State.zeroSlots_pending, Done.ok, Done.err] | split)

theorem State.keyOpDone_pending (s : State) (o : KeyOp) :
    (State.keyOpDone s o).pending = s.pending := by
  unfold State.keyOpDone
  repeat' (first | simp only [apply_ite State.pending, apply_ite Prod.fst, apply_ite Prod.snd, apply_ite Done.st, ite_self, implies_true, forall_const, foldl_pending, Done.ok_pending, State.attestDone_pending, State.commitEpoch_pending, State.debugEnterDone_pending, State.debugExitDone_pending, State.installKeyed_pending, State.keyResult_pending, State.lcAdvanceDone_pending, State.provisionAgain_pending, State.provisionFirst_pending, Done.ok, Done.err] | split)

theorem State.keyCaught_pending (s : State) (o : KeyOp) :
    (State.keyCaught s o).pending = s.pending := by
  unfold State.keyCaught
  repeat' (first | simp only [apply_ite State.pending, apply_ite Prod.fst, apply_ite Prod.snd, apply_ite Done.st, ite_self, implies_true, forall_const, foldl_pending, State.drawn_pending, State.keyOpDone_pending, State.keyResult_pending, State.keyWrites_pending, Done.ok, Done.err] | split)

theorem State.keyPfw_pending (s : State) :
    (State.keyPfw s).pending = s.pending := by
  unfold State.keyPfw
  repeat' (first | simp only [apply_ite State.pending, apply_ite Prod.fst, apply_ite Prod.snd, apply_ite Done.st, ite_self, implies_true, forall_const, foldl_pending, State.keyCaught_pending, State.raise_pending, Done.ok, Done.err] | split)

theorem State.modBlt_pending (s : State) (f : Blt → Blt) :
    (State.modBlt s f).pending = s.pending := by
  unfold State.modBlt
  repeat' (first | simp only [apply_ite State.pending, apply_ite Prod.fst, apply_ite Prod.snd, apply_ite Done.st, ite_self, implies_true, forall_const, foldl_pending, Done.ok, Done.err] | split)

theorem specSysBltUnlock_pending (p : Packet) (s : State) :
    (specSysBltUnlock.body p s).st.pending = s.pending := by
  unfold specSysBltUnlock
  repeat' (first | simp only [apply_ite State.pending, apply_ite Prod.fst, apply_ite Prod.snd, apply_ite Done.st, ite_self, implies_true, forall_const, foldl_pending, answer, gnsBody, keyBody, pairBody, svcBody, ticBody, Done.err_pending, Done.ok_pending, State.authFail_pending, State.endUnlock_pending, State.modBlt_pending, State.newChallenge_pending, State.raise_pending, answer_pending, Done.ok, Done.err] | split)

theorem specSysBltSelect_pending (p : Packet) (s : State) :
    (specSysBltSelect.body p s).st.pending = s.pending := by
  unfold specSysBltSelect
  repeat' (first | simp only [apply_ite State.pending, apply_ite Prod.fst, apply_ite Prod.snd, apply_ite Done.st, ite_self, implies_true, forall_const, foldl_pending, answer, gnsBody, keyBody, pairBody, svcBody, ticBody, Done.err_pending, Done.ok_pending, State.modBlt_pending, Done.ok, Done.err] | split)

theorem specSysBistRun_pending (p : Packet) (s : State) :
    (specSysBistRun.body p s).st.pending = s.pending := by
  unfold specSysBistRun
  repeat' (first | simp only [apply_ite State.pending, apply_ite Prod.fst, apply_ite Prod.snd, apply_ite Done.st, ite_self, implies_true, forall_const, foldl_pending, answer, gnsBody, keyBody, pairBody, svcBody, ticBody, Done.err_pending, Done.ok_pending, State.modBlt_pending, Done.ok, Done.err] | split)

theorem State.bistGns_pending (s : State) (fails : Bool) :
    (State.bistGns s fails).pending = s.pending := by
  unfold State.bistGns
  repeat' (first | simp only [apply_ite State.pending, apply_ite Prod.fst, apply_ite Prod.snd, apply_ite Done.st, ite_self, implies_true, forall_const, foldl_pending, State.bankTest_pending, State.drawn_pending, Done.ok, Done.err] | split)

theorem State.bistEffects_pending (s : State) (m : BitVec 6) (fail : BitVec 6) :
    (State.bistEffects s m fail).pending = s.pending := by
  unfold State.bistEffects
  repeat' (first | simp only [apply_ite State.pending, apply_ite Prod.fst, apply_ite Prod.snd, apply_ite Done.st, ite_self, implies_true, forall_const, foldl_pending, State.bistClears_pending, State.bistGns_pending, Done.ok, Done.err] | split)

theorem State.modOch_pending (s : State) (n : Nat) (f : OutCh → OutCh) :
    (State.modOch s n f).pending = s.pending := by
  unfold State.modOch
  repeat' (first | simp only [apply_ite State.pending, apply_ite Prod.fst, apply_ite Prod.snd, apply_ite Done.st, ite_self, implies_true, forall_const, foldl_pending, Done.ok, Done.err] | split)

theorem State.modOtp_pending (s : State) (m : Nat) (f : Tp → Tp) :
    (State.modOtp s m f).pending = s.pending := by
  unfold State.modOtp
  repeat' (first | simp only [apply_ite State.pending, apply_ite Prod.fst, apply_ite Prod.snd, apply_ite Done.st, ite_self, implies_true, forall_const, foldl_pending, Done.ok, Done.err] | split)

theorem State.modOtod_pending (s : State) (k : Nat) (f : Tod → Tod) :
    (State.modOtod s k f).pending = s.pending := by
  unfold State.modOtod
  repeat' (first | simp only [apply_ite State.pending, apply_ite Prod.fst, apply_ite Prod.snd, apply_ite Done.st, ite_self, implies_true, forall_const, foldl_pending, Done.ok, Done.err] | split)

theorem State.modSyn_pending (s : State) (k : Nat) (f : Syn → Syn) :
    (State.modSyn s k f).pending = s.pending := by
  unfold State.modSyn
  repeat' (first | simp only [apply_ite State.pending, apply_ite Prod.fst, apply_ite Prod.snd, apply_ite Done.st, ite_self, implies_true, forall_const, foldl_pending, Done.ok, Done.err] | split)

theorem State.setOutCfg_pending (s : State) (f : OutCfg → OutCfg) :
    (State.setOutCfg s f).pending = s.pending := by
  unfold State.setOutCfg
  repeat' (first | simp only [apply_ite State.pending, apply_ite Prod.fst, apply_ite Prod.snd, apply_ite Done.st, ite_self, implies_true, forall_const, foldl_pending, Done.ok, Done.err] | split)

theorem State.glide_pending (s : State) (n : Nat) (r : Int) :
    (State.glide s n r).pending = s.pending := by
  unfold State.glide
  repeat' (first | simp only [apply_ite State.pending, apply_ite Prod.fst, apply_ite Prod.snd, apply_ite Done.st, ite_self, implies_true, forall_const, foldl_pending, State.modOch_pending, State.outRaise_pending, Done.ok, Done.err] | split)

theorem State.outStep_pending (s : State) (x : Int) (n : Nat) :
    (State.outStep s x n).pending = s.pending := by
  unfold State.outStep
  repeat' (first | simp only [apply_ite State.pending, apply_ite Prod.fst, apply_ite Prod.snd, apply_ite Done.st, ite_self, implies_true, forall_const, foldl_pending, State.glide_pending, State.modOch_pending, State.outRaise_pending, Done.ok, Done.err] | split)

theorem State.outUnlock_pending (k : Nat) (s : State) (n : Nat) :
    (State.outUnlock k s n).pending = s.pending := by
  unfold State.outUnlock
  repeat' (first | simp only [apply_ite State.pending, apply_ite Prod.fst, apply_ite Prod.snd, apply_ite Done.st, ite_self, implies_true, forall_const, foldl_pending, State.modOch_pending, State.outRaise_pending, Done.ok, Done.err] | split)

theorem State.outOffgrid_pending (s : State) (n : Nat) :
    (State.outOffgrid s n).pending = s.pending := by
  unfold State.outOffgrid
  repeat' (first | simp only [apply_ite State.pending, apply_ite Prod.fst, apply_ite Prod.snd, apply_ite Done.st, ite_self, implies_true, forall_const, foldl_pending, State.modOch_pending, State.outRaise_pending, Done.ok, Done.err] | split)

theorem State.outUnsynced_pending (s : State) (n : Nat) :
    (State.outUnsynced s n).pending = s.pending := by
  unfold State.outUnsynced
  repeat' (first | simp only [apply_ite State.pending, apply_ite Prod.fst, apply_ite Prod.snd, apply_ite Done.st, ite_self, implies_true, forall_const, foldl_pending, State.outOffgrid_pending, Done.ok, Done.err] | split)

theorem State.outRelock_pending (k : Nat) (s : State) (n : Nat) :
    (State.outRelock k s n).pending = s.pending := by
  unfold State.outRelock
  repeat' (first | simp only [apply_ite State.pending, apply_ite Prod.fst, apply_ite Prod.snd, apply_ite Done.st, ite_self, implies_true, forall_const, foldl_pending, State.drawn_pending, State.glide_pending, State.modOch_pending, State.outOffgrid_pending, State.outRaise_pending, Done.ok, Done.err] | split)

theorem State.synUnlock_pending (s : State) (k : Nat) :
    (State.synUnlock s k).pending = s.pending := by
  unfold State.synUnlock
  repeat' (first | simp only [apply_ite State.pending, apply_ite Prod.fst, apply_ite Prod.snd, apply_ite Done.st, ite_self, implies_true, forall_const, foldl_pending, State.faultAssert_pending, State.modSyn_pending, State.outUnlock_pending, State.pairEval_pending, State.raise_pending, Done.ok, Done.err] | split)

theorem State.synClear_pending (s : State) :
    (State.synClear s).pending = s.pending := by
  unfold State.synClear
  repeat' (first | simp only [apply_ite State.pending, apply_ite Prod.fst, apply_ite Prod.snd, apply_ite Done.st, ite_self, implies_true, forall_const, foldl_pending, State.faultEnd_pending, Done.ok, Done.err] | split)

theorem State.synLocked_pending (s : State) (k : Nat) :
    (State.synLocked s k).pending = s.pending := by
  unfold State.synLocked
  repeat' (first | simp only [apply_ite State.pending, apply_ite Prod.fst, apply_ite Prod.snd, apply_ite Done.st, ite_self, implies_true, forall_const, foldl_pending, State.modSyn_pending, State.outRelock_pending, State.raise_pending, State.synClear_pending, Done.ok, Done.err] | split)

theorem State.syncRun_pending (s : State) (n : Nat) :
    (State.syncRun s n).pending = s.pending := by
  unfold State.syncRun
  repeat' (first | simp only [apply_ite State.pending, apply_ite Prod.fst, apply_ite Prod.snd, apply_ite Done.st, ite_self, implies_true, forall_const, foldl_pending, State.modOch_pending, State.outRaise_pending, Done.ok, Done.err] | split)

theorem State.syncRunAll_pending (s : State) :
    (State.syncRunAll s).pending = s.pending := by
  unfold State.syncRunAll
  repeat' (first | simp only [apply_ite State.pending, apply_ite Prod.fst, apply_ite Prod.snd, apply_ite Done.st, ite_self, implies_true, forall_const, foldl_pending, State.syncRun_pending, Done.ok, Done.err] | split)

theorem State.tpFire_pending (s : State) (m : Nat) (inst : Nat) (at_ : Int) :
    (State.tpFire s m inst at_).pending = s.pending := by
  unfold State.tpFire
  repeat' (first | simp only [apply_ite State.pending, apply_ite Prod.fst, apply_ite Prod.snd, apply_ite Done.st, ite_self, implies_true, forall_const, foldl_pending, State.modOtp_pending, Done.ok, Done.err] | split)

theorem State.tpStep_pending (s : State) (old : Nat) (m : Nat) :
    (State.tpStep s old m).pending = s.pending := by
  unfold State.tpStep
  repeat' (first | simp only [apply_ite State.pending, apply_ite Prod.fst, apply_ite Prod.snd, apply_ite Done.st, ite_self, implies_true, forall_const, foldl_pending, State.modOtp_pending, State.outRaise_pending, State.tpFire_pending, Done.ok, Done.err] | split)

theorem State.tpAcq_pending (s : State) (m : Nat) :
    (State.tpAcq s m).pending = s.pending := by
  unfold State.tpAcq
  repeat' (first | simp only [apply_ite State.pending, apply_ite Prod.fst, apply_ite Prod.snd, apply_ite Done.st, ite_self, implies_true, forall_const, foldl_pending, State.modOtp_pending, Done.ok, Done.err] | split)

theorem State.todSend_pending (s : State) (k : Nat) (sec : Nat) :
    (State.todSend s k sec).pending = s.pending := by
  unfold State.todSend
  repeat' (first | simp only [apply_ite State.pending, apply_ite Prod.fst, apply_ite Prod.snd, apply_ite Done.st, ite_self, implies_true, forall_const, foldl_pending, State.modOtod_pending, Done.ok, Done.err] | split)

theorem State.todStep_pending (s : State) (old : Nat) (k : Nat) :
    (State.todStep s old k).pending = s.pending := by
  unfold State.todStep
  repeat' (first | simp only [apply_ite State.pending, apply_ite Prod.fst, apply_ite Prod.snd, apply_ite Done.st, ite_self, implies_true, forall_const, foldl_pending, State.modOtod_pending, Done.ok, Done.err] | split)

theorem State.setDelay_pending (s : State) (t : Nat) (d : BitVec 32) (u : BitVec 24) :
    (State.setDelay s t d u).pending = s.pending := by
  unfold State.setDelay
  repeat' (first | simp only [apply_ite State.pending, apply_ite Prod.fst, apply_ite Prod.snd, apply_ite Done.st, ite_self, implies_true, forall_const, foldl_pending, State.glide_pending, State.setOutCfg_pending, Done.ok, Done.err] | split)

theorem State.echoFree_pending (s : State) (t : Nat) :
    (State.echoFree s t).pending = s.pending := by
  unfold State.echoFree
  repeat' (first | simp only [apply_ite State.pending, apply_ite Prod.fst, apply_ite Prod.snd, apply_ite Done.st, ite_self, implies_true, forall_const, foldl_pending, State.modOch_pending, State.outEval_pending, Done.ok, Done.err] | split)

theorem specFltQuery_pending (p : Packet) (s : State) :
    (specFltQuery.body p s).st.pending = s.pending := by
  unfold specFltQuery
  repeat' (first | simp only [apply_ite State.pending, apply_ite Prod.fst, apply_ite Prod.snd, apply_ite Done.st, ite_self, implies_true, forall_const, foldl_pending, answer, gnsBody, keyBody, pairBody, svcBody, ticBody, answer_pending, Done.ok, Done.err] | split)

theorem State.classRaised_pending (s : State) (n : Nat) (cls : Nat) :
    (State.classRaised s n cls).pending = s.pending := by
  unfold State.classRaised
  repeat' (first | simp only [apply_ite State.pending, apply_ite Prod.fst, apply_ite Prod.snd, apply_ite Done.st, ite_self, implies_true, forall_const, foldl_pending, State.pairEval_pending, State.safeLine_pending, Done.ok, Done.err] | split)

theorem specFltSetClass_pending (p : Packet) (s : State) :
    (specFltSetClass.body p s).st.pending = s.pending := by
  unfold specFltSetClass
  repeat' (first | simp only [apply_ite State.pending, apply_ite Prod.fst, apply_ite Prod.snd, apply_ite Done.st, ite_self, implies_true, forall_const, foldl_pending, answer, gnsBody, keyBody, pairBody, svcBody, ticBody, Done.ok_pending, State.classRaised_pending, Done.ok, Done.err] | split)

theorem specFltClear_pending (p : Packet) (s : State) :
    (specFltClear.body p s).st.pending = s.pending := by
  unfold specFltClear
  repeat' (first | simp only [apply_ite State.pending, apply_ite Prod.fst, apply_ite Prod.snd, apply_ite Done.st, ite_self, implies_true, forall_const, foldl_pending, answer, gnsBody, keyBody, pairBody, svcBody, ticBody, Done.ok_pending, State.latch_pending, Done.ok, Done.err] | split)

theorem specFltInject_pending (p : Packet) (s : State) :
    (specFltInject.body p s).st.pending = s.pending := by
  unfold specFltInject
  repeat' (first | simp only [apply_ite State.pending, apply_ite Prod.fst, apply_ite Prod.snd, apply_ite Done.st, ite_self, implies_true, forall_const, foldl_pending, answer, gnsBody, keyBody, pairBody, svcBody, ticBody, Done.ok_pending, State.faultAssert_pending, State.irq_pending, Done.ok, Done.err] | split)

theorem State.rejoinNow_pending (s : State) :
    (State.rejoinNow s).pending = s.pending := by
  unfold State.rejoinNow
  repeat' (first | simp only [apply_ite State.pending, apply_ite Prod.fst, apply_ite Prod.snd, apply_ite Done.st, ite_self, implies_true, forall_const, foldl_pending, State.pairEval_pending, State.setRole_pending, Done.ok, Done.err] | split)

theorem State.accordLeave_pending (s : State) :
    (State.accordLeave s).pending = s.pending := by
  unfold State.accordLeave
  repeat' (first | simp only [apply_ite State.pending, apply_ite Prod.fst, apply_ite Prod.snd, apply_ite Done.st, ite_self, implies_true, forall_const, foldl_pending, State.raise_pending, State.setAccord_pending, Done.ok, Done.err] | split)

theorem State.roleLeave_pending (s : State) :
    (State.roleLeave s).pending = s.pending := by
  unfold State.roleLeave
  repeat' (first | simp only [apply_ite State.pending, apply_ite Prod.fst, apply_ite Prod.snd, apply_ite Done.st, ite_self, implies_true, forall_const, foldl_pending, State.rejoinNow_pending, State.setRole_pending, Done.ok, Done.err] | split)

theorem State.safeLeave_pending (s : State) :
    (State.safeLeave s).pending = s.pending := by
  unfold State.safeLeave
  repeat' (first | simp only [apply_ite State.pending, apply_ite Prod.fst, apply_ite Prod.snd, apply_ite Done.st, ite_self, implies_true, forall_const, foldl_pending, State.accordLeave_pending, State.gateEval_pending, State.latch_pending, State.raise_pending, State.react_pending, State.roleLeave_pending, State.setDev_pending, Done.ok, Done.err] | split)

theorem specSysClearSafe_pending (p : Packet) (s : State) :
    (specSysClearSafe.body p s).st.pending = s.pending := by
  unfold specSysClearSafe
  repeat' (first | simp only [apply_ite State.pending, apply_ite Prod.fst, apply_ite Prod.snd, apply_ite Done.st, ite_self, implies_true, forall_const, foldl_pending, answer, gnsBody, keyBody, pairBody, svcBody, ticBody, Done.err_pending, Done.ok_pending, State.safeLeave_pending, Done.ok, Done.err] | split)

theorem State.selfFails0_pending (s : State) :
    (State.selfFails0 s).pending = s.pending := by
  unfold State.selfFails0
  repeat' (first | simp only [apply_ite State.pending, apply_ite Prod.fst, apply_ite Prod.snd, apply_ite Done.st, ite_self, implies_true, forall_const, foldl_pending, State.raise_pending, State.safeLine_pending, Done.ok, Done.err] | split)

theorem State.wardenLate_pending (s : State) :
    (State.wardenLate s).pending = s.pending := by
  unfold State.wardenLate
  repeat' (first | simp only [apply_ite State.pending, apply_ite Prod.fst, apply_ite Prod.snd, apply_ite Done.st, ite_self, implies_true, forall_const, foldl_pending, State.faultAssert_pending, Done.ok, Done.err] | split)

theorem State.modPcmp_pending (s : State) (e : Nat) (f : PairCmp → PairCmp) :
    (State.modPcmp s e f).pending = s.pending := by
  unfold State.modPcmp
  repeat' (first | simp only [apply_ite State.pending, apply_ite Prod.fst, apply_ite Prod.snd, apply_ite Done.st, ite_self, implies_true, forall_const, foldl_pending, Done.ok, Done.err] | split)

theorem State.setPairCfg_pending (s : State) (f : PairCfg → PairCfg) :
    (State.setPairCfg s f).pending = s.pending := by
  unfold State.setPairCfg
  repeat' (first | simp only [apply_ite State.pending, apply_ite Prod.fst, apply_ite Prod.snd, apply_ite Done.st, ite_self, implies_true, forall_const, foldl_pending, Done.ok, Done.err] | split)

theorem State.notify_pending (s : State) (n : PairNotice) :
    (State.notify s n).pending = s.pending := by
  unfold State.notify
  repeat' (first | simp only [apply_ite State.pending, apply_ite Prod.fst, apply_ite Prod.snd, apply_ite Done.st, ite_self, implies_true, forall_const, foldl_pending, Done.ok, Done.err] | split)

theorem specPairQuery_pending (p : Packet) (s : State) :
    (specPairQuery.body p s).st.pending = s.pending := by
  unfold specPairQuery
  repeat' (first | simp only [apply_ite State.pending, apply_ite Prod.fst, apply_ite Prod.snd, apply_ite Done.st, ite_self, implies_true, forall_const, foldl_pending, answer, gnsBody, keyBody, pairBody, svcBody, ticBody, answer_pending, Done.ok, Done.err] | split)

theorem State.sideCheck_pending (s : State) :
    (State.sideCheck s).pending = s.pending := by
  unfold State.sideCheck
  repeat' (first | simp only [apply_ite State.pending, apply_ite Prod.fst, apply_ite Prod.snd, apply_ite Done.st, ite_self, implies_true, forall_const, foldl_pending, State.faultAssert_pending, State.faultEnd_pending, State.raise_pending, Done.ok, Done.err] | split)

theorem State.goSolo_pending (s : State) :
    (State.goSolo s).pending = s.pending := by
  unfold State.goSolo
  repeat' (first | simp only [apply_ite State.pending, apply_ite Prod.fst, apply_ite Prod.snd, apply_ite Done.st, ite_self, implies_true, forall_const, foldl_pending, State.pairEval_pending, State.raise_pending, State.setRole_pending, State.sideCheck_pending, Done.ok, Done.err] | split)

theorem State.goPaired_pending (s : State) :
    (State.goPaired s).pending = s.pending := by
  unfold State.goPaired
  repeat' (first | simp only [apply_ite State.pending, apply_ite Prod.fst, apply_ite Prod.snd, apply_ite Done.st, ite_self, implies_true, forall_const, foldl_pending, State.pairEval_pending, State.setRole_pending, State.sideCheck_pending, Done.ok, Done.err] | split)

theorem specPairSetMode_pending (p : Packet) (s : State) :
    (specPairSetMode.body p s).st.pending = s.pending := by
  unfold specPairSetMode
  repeat' (first | simp only [apply_ite State.pending, apply_ite Prod.fst, apply_ite Prod.snd, apply_ite Done.st, ite_self, implies_true, forall_const, foldl_pending, answer, gnsBody, keyBody, pairBody, svcBody, ticBody, Done.err_pending, Done.ok_pending, State.goPaired_pending, State.goSolo_pending, State.setPairCfg_pending, Done.ok, Done.err] | split)

theorem specPairSetClaim_pending (p : Packet) (s : State) :
    (specPairSetClaim.body p s).st.pending = s.pending := by
  unfold specPairSetClaim
  repeat' (first | simp only [apply_ite State.pending, apply_ite Prod.fst, apply_ite Prod.snd, apply_ite Done.st, ite_self, implies_true, forall_const, foldl_pending, answer, gnsBody, keyBody, pairBody, svcBody, ticBody, Done.ok_pending, State.pairEval_pending, State.setPairCfg_pending, Done.ok, Done.err] | split)

theorem State.cmpFaults_pending (s : State) :
    (State.cmpFaults s).pending = s.pending := by
  unfold State.cmpFaults
  repeat' (first | simp only [apply_ite State.pending, apply_ite Prod.fst, apply_ite Prod.snd, apply_ite Done.st, ite_self, implies_true, forall_const, foldl_pending, State.faultAssert_pending, State.faultEnd_pending, State.pairEval_pending, Done.ok, Done.err] | split)

theorem State.reportEnd_pending (s : State) (t : Nat) :
    (State.reportEnd s t).pending = s.pending := by
  unfold State.reportEnd
  repeat' (first | simp only [apply_ite State.pending, apply_ite Prod.fst, apply_ite Prod.snd, apply_ite Done.st, ite_self, implies_true, forall_const, foldl_pending, State.notify_pending, Done.ok, Done.err] | split)

theorem State.entryOff_pending (s : State) (e : Nat) :
    (State.entryOff s e).pending = s.pending := by
  unfold State.entryOff
  repeat' (first | simp only [apply_ite State.pending, apply_ite Prod.fst, apply_ite Prod.snd, apply_ite Done.st, ite_self, implies_true, forall_const, foldl_pending, State.cmpFaults_pending, State.modPcmp_pending, State.modTch_pending, State.reportEnd_pending, State.setPairCfg_pending, Done.ok, Done.err] | split)

theorem specPairSetCompare_pending (p : Packet) (s : State) :
    (specPairSetCompare.body p s).st.pending = s.pending := by
  unfold specPairSetCompare
  repeat' (first | simp only [apply_ite State.pending, apply_ite Prod.fst, apply_ite Prod.snd, apply_ite Done.st, ite_self, implies_true, forall_const, foldl_pending, answer, gnsBody, keyBody, pairBody, svcBody, ticBody, Done.err_pending, Done.ok_pending, State.entryOff_pending, State.ivAbort_pending, State.modTch_pending, State.pairEval_pending, State.setPairCfg_pending, Done.ok, Done.err] | split)

theorem State.entryFails_pending (s : State) (e : Nat) (mine : Bool) (mean : Int) :
    (State.entryFails s e mine mean).pending = s.pending := by
  unfold State.entryFails
  repeat' (first | simp only [apply_ite State.pending, apply_ite Prod.fst, apply_ite Prod.snd, apply_ite Done.st, ite_self, implies_true, forall_const, foldl_pending, State.cmpFaults_pending, State.modPcmp_pending, State.notify_pending, State.raise_pending, Done.ok, Done.err] | split)

theorem State.entryPasses_pending (s : State) (e : Nat) :
    (State.entryPasses s e).pending = s.pending := by
  unfold State.entryPasses
  repeat' (first | simp only [apply_ite State.pending, apply_ite Prod.fst, apply_ite Prod.snd, apply_ite Done.st, ite_self, implies_true, forall_const, foldl_pending, State.cmpFaults_pending, State.modPcmp_pending, State.reportEnd_pending, Done.ok, Done.err] | split)

theorem State.entryWindow_pending (s : State) (e : Nat) (mine : Bool) (xs : List Int) :
    (State.entryWindow s e mine xs).pending = s.pending := by
  unfold State.entryWindow
  repeat' (first | simp only [apply_ite State.pending, apply_ite Prod.fst, apply_ite Prod.snd, apply_ite Done.st, ite_self, implies_true, forall_const, foldl_pending, Done.ok_pending, State.entryFails_pending, State.entryPasses_pending, State.modPcmp_pending, Done.ok, Done.err] | split)

theorem State.roundStart_pending (s : State) :
    (State.roundStart s).pending = s.pending := by
  unfold State.roundStart
  repeat' (first | simp only [apply_ite State.pending, apply_ite Prod.fst, apply_ite Prod.snd, apply_ite Done.st, ite_self, implies_true, forall_const, foldl_pending, Done.ok, Done.err] | split)

theorem State.roundNow_pending (s : State) :
    (State.roundNow s).pending = s.pending := by
  unfold State.roundNow
  repeat' (first | simp only [apply_ite State.pending, apply_ite Prod.fst, apply_ite Prod.snd, apply_ite Done.st, ite_self, implies_true, forall_const, foldl_pending, State.roundStart_pending, Done.ok, Done.err] | split)

theorem State.roundWon_pending (s : State) :
    (State.roundWon s).pending = s.pending := by
  unfold State.roundWon
  repeat' (first | simp only [apply_ite State.pending, apply_ite Prod.fst, apply_ite Prod.snd, apply_ite Done.st, ite_self, implies_true, forall_const, foldl_pending, Done.ok, Done.err] | split)

theorem State.roundLost_pending (s : State) :
    (State.roundLost s).pending = s.pending := by
  unfold State.roundLost
  repeat' (first | simp only [apply_ite State.pending, apply_ite Prod.fst, apply_ite Prod.snd, apply_ite Done.st, ite_self, implies_true, forall_const, foldl_pending, Done.ok, Done.err] | split)

theorem State.handoverFails_pending (s : State) :
    (State.handoverFails s).pending = s.pending := by
  unfold State.handoverFails
  repeat' (first | simp only [apply_ite State.pending, apply_ite Prod.fst, apply_ite Prod.snd, apply_ite Done.st, ite_self, implies_true, forall_const, foldl_pending, State.raise_pending, Done.ok, Done.err] | split)

theorem State.ownRecord_pending (s : State) (gained : Bool) :
    (State.ownRecord s gained).pending = s.pending := by
  unfold State.ownRecord
  repeat' (first | simp only [apply_ite State.pending, apply_ite Prod.fst, apply_ite Prod.snd, apply_ite Done.st, ite_self, implies_true, forall_const, foldl_pending, Done.ok, Done.err] | split)

theorem State.trimsOut_pending (s : State) :
    (State.trimsOut s).pending = s.pending := by
  unfold State.trimsOut
  repeat' (first | simp only [apply_ite State.pending, apply_ite Prod.fst, apply_ite Prod.snd, apply_ite Done.st, ite_self, implies_true, forall_const, foldl_pending, State.glide_pending, State.modPcmp_pending, Done.ok, Done.err] | split)

theorem State.ownChange_pending (s : State) (gain : Bool) :
    (State.ownChange s gain).pending = s.pending := by
  unfold State.ownChange
  repeat' (first | simp only [apply_ite State.pending, apply_ite Prod.fst, apply_ite Prod.snd, apply_ite Done.st, ite_self, implies_true, forall_const, foldl_pending, State.ownRecord_pending, State.pairEval_pending, State.raise_pending, State.trimsOut_pending, Done.ok, Done.err] | split)

theorem specPairHandover_pending (p : Packet) (s : State) :
    (specPairHandover.body p s).st.pending = s.pending := by
  unfold specPairHandover
  repeat' (first | simp only [apply_ite State.pending, apply_ite Prod.fst, apply_ite Prod.snd, apply_ite Done.st, ite_self, implies_true, forall_const, foldl_pending, answer, gnsBody, keyBody, pairBody, svcBody, ticBody, Done.err_pending, Done.ok_pending, State.notify_pending, Done.ok, Done.err] | split)

theorem specPairRejoin_pending (p : Packet) (s : State) :
    (specPairRejoin.body p s).st.pending = s.pending := by
  unfold specPairRejoin
  repeat' (first | simp only [apply_ite State.pending, apply_ite Prod.fst, apply_ite Prod.snd, apply_ite Done.st, ite_self, implies_true, forall_const, foldl_pending, answer, gnsBody, keyBody, pairBody, svcBody, ticBody, Done.err_pending, Done.ok_pending, State.rejoinNow_pending, Done.ok, Done.err] | split)

theorem State.benitSpare_pending (s : State) :
    (State.benitSpare s).pending = s.pending := by
  unfold State.benitSpare
  repeat' (first | simp only [apply_ite State.pending, apply_ite Prod.fst, apply_ite Prod.snd, apply_ite Done.st, ite_self, implies_true, forall_const, foldl_pending, State.raise_pending, Done.ok, Done.err] | split)

theorem State.digestCheck_pending (s : State) (d : BitVec 64) :
    (State.digestCheck s d).pending = s.pending := by
  unfold State.digestCheck
  repeat' (first | simp only [apply_ite State.pending, apply_ite Prod.fst, apply_ite Prod.snd, apply_ite Done.st, ite_self, implies_true, forall_const, foldl_pending, State.faultAssert_pending, State.raise_pending, Done.ok, Done.err] | split)

theorem State.laneSkew_pending (s : State) (lane0 : BenitTimes) (lane1 : BenitTimes) :
    (State.laneSkew s lane0 lane1).pending = s.pending := by
  unfold State.laneSkew
  repeat' (first | simp only [apply_ite State.pending, apply_ite Prod.fst, apply_ite Prod.snd, apply_ite Done.st, ite_self, implies_true, forall_const, foldl_pending, State.faultAssert_pending, State.raise_pending, Done.ok, Done.err] | split)

theorem State.entryCalBad_pending (s : State) (e : Nat) :
    (State.entryCalBad s e).pending = s.pending := by
  unfold State.entryCalBad
  repeat' (first | simp only [apply_ite State.pending, apply_ite Prod.fst, apply_ite Prod.snd, apply_ite Done.st, ite_self, implies_true, forall_const, foldl_pending, State.convFail_pending, State.modPcmp_pending, State.pairEval_pending, Done.ok, Done.err] | split)

theorem State.powerUp_pending (s : State) (m : BitVec 13) :
    (State.powerUp s m).pending = s.pending := by
  unfold State.powerUp
  repeat' (first | simp only [apply_ite State.pending, apply_ite Prod.fst, apply_ite Prod.snd, apply_ite Done.st, ite_self, implies_true, forall_const, foldl_pending, Done.ok, Done.err] | split)

theorem State.stageSend_pending (s : State) (l : Nat) :
    (State.stageSend s l).pending = s.pending := by
  unfold State.stageSend
  repeat' (first | simp only [apply_ite State.pending, apply_ite Prod.fst, apply_ite Prod.snd, apply_ite Done.st, ite_self, implies_true, forall_const, foldl_pending, State.modLane_pending, State.ringPush_pending, Done.ok, Done.err] | split)

theorem State.stageDrain_pending (s : State) (l : Nat) :
    (State.stageDrain s l).pending = s.pending := by
  unfold State.stageDrain
  repeat' (first | simp only [apply_ite State.pending, apply_ite Prod.fst, apply_ite Prod.snd, apply_ite Done.st, ite_self, implies_true, forall_const, foldl_pending, State.stageSend_pending, Done.ok, Done.err] | split)

theorem State.laneGoing_pending (s : State) (l : Nat) :
    (State.laneGoing s l).pending = s.pending := by
  unfold State.laneGoing
  repeat' (first | simp only [apply_ite State.pending, apply_ite Prod.fst, apply_ite Prod.snd, apply_ite Done.st, ite_self, implies_true, forall_const, foldl_pending, State.laneStop_pending, State.stageDrain_pending, Done.ok, Done.err] | split)

theorem State.capGoing_pending (s : State) (l : Nat) :
    (State.capGoing s l).pending = s.pending := by
  unfold State.capGoing
  repeat' (first | simp only [apply_ite State.pending, apply_ite Prod.fst, apply_ite Prod.snd, apply_ite Done.st, ite_self, implies_true, forall_const, foldl_pending, State.capEnd_pending, State.stageDrain_pending, Done.ok, Done.err] | split)

theorem State.timeGoing_pending (s : State) :
    (State.timeGoing s).pending = s.pending := by
  unfold State.timeGoing
  repeat' (first | simp only [apply_ite State.pending, apply_ite Prod.fst, apply_ite Prod.snd, apply_ite Done.st, ite_self, implies_true, forall_const, foldl_pending, State.echoAbort_pending, State.setAccord_pending, Done.ok, Done.err] | split)

theorem State.ticGoing_pending (s : State) :
    (State.ticGoing s).pending = s.pending := by
  unfold State.ticGoing
  repeat' (first | simp only [apply_ite State.pending, apply_ite Prod.fst, apply_ite Prod.snd, apply_ite Done.st, ite_self, implies_true, forall_const, foldl_pending, State.echoAbort_pending, State.ivAbort_pending, Done.ok, Done.err] | split)

theorem State.pairYield_pending (s : State) :
    (State.pairYield s).pending = s.pending := by
  unfold State.pairYield
  repeat' (first | simp only [apply_ite State.pending, apply_ite Prod.fst, apply_ite Prod.snd, apply_ite Done.st, ite_self, implies_true, forall_const, foldl_pending, State.raise_pending, State.setRole_pending, Done.ok, Done.err] | split)

theorem State.pairGoing_pending (s : State) :
    (State.pairGoing s).pending = s.pending := by
  unfold State.pairGoing
  repeat' (first | simp only [apply_ite State.pending, apply_ite Prod.fst, apply_ite Prod.snd, apply_ite Done.st, ite_self, implies_true, forall_const, foldl_pending, State.faultAssert_pending, State.pairYield_pending, State.raise_pending, State.setSource_pending, Done.ok, Done.err] | split)

theorem State.domGoing_pending (s : State) (d : Nat) :
    (State.domGoing s d).pending = s.pending := by
  unfold State.domGoing
  repeat' (first | simp only [apply_ite State.pending, apply_ite Prod.fst, apply_ite Prod.snd, apply_ite Done.st, ite_self, implies_true, forall_const, foldl_pending, State.capGoing_pending, State.laneGoing_pending, State.pairGoing_pending, State.ticGoing_pending, State.timeGoing_pending, State.zeroSlots_pending, Done.ok, Done.err] | split)

theorem State.powerDown_pending (s : State) (m : BitVec 13) :
    (State.powerDown s m).pending = s.pending := by
  unfold State.powerDown
  repeat' (first | simp only [apply_ite State.pending, apply_ite Prod.fst, apply_ite Prod.snd, apply_ite Done.st, ite_self, implies_true, forall_const, foldl_pending, State.bistAbort_pending, State.domGoing_pending, State.gnsEval_pending, State.refPresence_pending, Done.ok, Done.err] | split)

theorem State.powerCycle_pending (s : State) (m : BitVec 13) :
    (State.powerCycle s m).pending = s.pending := by
  unfold State.powerCycle
  repeat' (first | simp only [apply_ite State.pending, apply_ite Prod.fst, apply_ite Prod.snd, apply_ite Done.st, ite_self, implies_true, forall_const, foldl_pending, State.powerDown_pending, Done.ok, Done.err] | split)

theorem State.dropReplies_pending (s : State) :
    (State.dropReplies s).pending = s.pending := by
  unfold State.dropReplies
  repeat' (first | simp only [apply_ite State.pending, apply_ite Prod.fst, apply_ite Prod.snd, apply_ite Done.st, ite_self, implies_true, forall_const, foldl_pending, Done.ok, Done.err] | split)

theorem State.orphanTx_pending (s : State) (l : Nat) :
    (State.orphanTx s l).pending = s.pending := by
  unfold State.orphanTx
  repeat' (first | simp only [apply_ite State.pending, apply_ite Prod.fst, apply_ite Prod.snd, apply_ite Done.st, ite_self, implies_true, forall_const, foldl_pending, Done.ok, Done.err] | split)

theorem State.ringsDown_pending (s : State) :
    (State.ringsDown s).pending = s.pending := by
  unfold State.ringsDown
  repeat' (first | simp only [apply_ite State.pending, apply_ite Prod.fst, apply_ite Prod.snd, apply_ite Done.st, ite_self, implies_true, forall_const, foldl_pending, State.acqResume_pending, State.dropReplies_pending, State.orphanTx_pending, Done.ok, Done.err] | split)

theorem State.linkLost_pending (s : State) :
    (State.linkLost s).pending = s.pending := by
  unfold State.linkLost
  repeat' (first | simp only [apply_ite State.pending, apply_ite Prod.fst, apply_ite Prod.snd, apply_ite Done.st, ite_self, implies_true, forall_const, foldl_pending, State.raise_pending, State.ringsDown_pending, Done.ok, Done.err] | split)

theorem State.pcieOff_pending (s : State) :
    (State.pcieOff s).pending = s.pending := by
  unfold State.pcieOff
  repeat' (first | simp only [apply_ite State.pending, apply_ite Prod.fst, apply_ite Prod.snd, apply_ite Done.st, ite_self, implies_true, forall_const, foldl_pending, State.linkLost_pending, State.ringsDown_pending, Done.ok, Done.err] | split)

theorem State.domBlank_pending (s : State) (d : Nat) :
    (State.domBlank s d).pending = s.pending := by
  unfold State.domBlank
  repeat' (first | simp only [apply_ite State.pending, apply_ite Prod.fst, apply_ite Prod.snd, apply_ite Done.st, ite_self, implies_true, forall_const, foldl_pending, State.pcieOff_pending, Done.ok, Done.err] | split)

theorem State.powerAgain_pending (s : State) :
    (State.powerAgain s).pending = s.pending := by
  unfold State.powerAgain
  repeat' (first | simp only [apply_ite State.pending, apply_ite Prod.fst, apply_ite Prod.snd, apply_ite Done.st, ite_self, implies_true, forall_const, foldl_pending, Done.ok_pending, State.powerUp_pending, Done.ok, Done.err] | split)

theorem State.domQuiet_pending (s : State) (d : Nat) :
    (State.domQuiet s d).pending = s.pending := by
  unfold State.domQuiet
  repeat' (first | simp only [apply_ite State.pending, apply_ite Prod.fst, apply_ite Prod.snd, apply_ite Done.st, ite_self, implies_true, forall_const, foldl_pending, State.faultEnd_pending, Done.ok, Done.err] | split)

theorem State.domOff_pending (s : State) (d : Nat) :
    (State.domOff s d).pending = s.pending := by
  unfold State.domOff
  repeat' (first | simp only [apply_ite State.pending, apply_ite Prod.fst, apply_ite Prod.snd, apply_ite Done.st, ite_self, implies_true, forall_const, foldl_pending, State.domBlank_pending, State.domQuiet_pending, State.powerAgain_pending, State.raise_pending, Done.ok, Done.err] | split)

theorem State.capEpochStep_pending (s : State) (q : Nat) :
    (State.capEpochStep s q).pending = s.pending := by
  unfold State.capEpochStep
  repeat' (first | simp only [apply_ite State.pending, apply_ite Prod.fst, apply_ite Prod.snd, apply_ite Done.st, ite_self, implies_true, forall_const, foldl_pending, State.keepOwn_pending, Done.ok, Done.err] | split)

theorem State.bridgeStart_pending (s : State) :
    (State.bridgeStart s).pending = s.pending := by
  unfold State.bridgeStart
  repeat' (first | simp only [apply_ite State.pending, apply_ite Prod.fst, apply_ite Prod.snd, apply_ite Done.st, ite_self, implies_true, forall_const, foldl_pending, State.modSpare_pending, Done.ok, Done.err] | split)

theorem State.substNow_pending (s : State) (i : Nat) :
    (State.substNow s i).pending = s.pending := by
  unfold State.substNow
  repeat' (first | simp only [apply_ite State.pending, apply_ite Prod.fst, apply_ite Prod.snd, apply_ite Done.st, ite_self, implies_true, forall_const, foldl_pending, State.modSpare_pending, State.modTch_pending, Done.ok, Done.err] | split)

theorem State.pairClaims_pending (s : State) :
    (State.pairClaims s).pending = s.pending := by
  unfold State.pairClaims
  repeat' (first | simp only [apply_ite State.pending, apply_ite Prod.fst, apply_ite Prod.snd, apply_ite Done.st, ite_self, implies_true, forall_const, foldl_pending, State.ivAbort_pending, State.modTch_pending, Done.ok, Done.err] | split)

theorem State.substAll_pending (s : State) :
    (State.substAll s).pending = s.pending := by
  unfold State.substAll
  repeat' (first | simp only [apply_ite State.pending, apply_ite Prod.fst, apply_ite Prod.snd, apply_ite Done.st, ite_self, implies_true, forall_const, foldl_pending, State.substNow_pending, Done.ok, Done.err] | split)

theorem State.ticReady_pending (s : State) :
    (State.ticReady s).pending = s.pending := by
  unfold State.ticReady
  repeat' (first | simp only [apply_ite State.pending, apply_ite Prod.fst, apply_ite Prod.snd, apply_ite Done.st, ite_self, implies_true, forall_const, foldl_pending, State.bridgeStart_pending, State.pairClaims_pending, State.substAll_pending, Done.ok, Done.err] | split)

theorem State.timeReady_pending (s : State) :
    (State.timeReady s).pending = s.pending := by
  unfold State.timeReady
  repeat' (first | simp only [apply_ite State.pending, apply_ite Prod.fst, apply_ite Prod.snd, apply_ite Done.st, ite_self, implies_true, forall_const, foldl_pending, State.faultEnd_pending, State.react_pending, State.refStart_pending, Done.ok, Done.err] | split)

theorem State.quadReady_pending (s : State) (q : Nat) :
    (State.quadReady s q).pending = s.pending := by
  unfold State.quadReady
  repeat' (first | simp only [apply_ite State.pending, apply_ite Prod.fst, apply_ite Prod.snd, apply_ite Done.st, ite_self, implies_true, forall_const, foldl_pending, State.capEpochStep_pending, State.gateEval_pending, State.svcClassesSet_pending, Done.ok, Done.err] | split)

theorem State.domStart_pending (s : State) (d : Nat) (banks : BitVec 72) :
    (State.domStart s d banks).pending = s.pending := by
  unfold State.domStart
  repeat' (first | simp only [apply_ite State.pending, apply_ite Prod.fst, apply_ite Prod.snd, apply_ite Done.st, ite_self, implies_true, forall_const, foldl_pending, State.bankTest_pending, State.gnsEval_pending, State.notchesOn_pending, State.pairClaims_pending, State.pairEval_pending, State.quadReady_pending, State.svcEval_pending, State.ticReady_pending, State.timeReady_pending, Done.ok, Done.err] | split)

theorem State.domReadyNow_pending (s : State) (d : Nat) (banks : BitVec 72) :
    (State.domReadyNow s d banks).pending = s.pending := by
  unfold State.domReadyNow
  repeat' (first | simp only [apply_ite State.pending, apply_ite Prod.fst, apply_ite Prod.snd, apply_ite Done.st, ite_self, implies_true, forall_const, foldl_pending, State.domStart_pending, State.raise_pending, Done.ok, Done.err] | split)

theorem specSysQueryState_pending (p : Packet) (s : State) :
    (specSysQueryState.body p s).st.pending = s.pending := by
  unfold specSysQueryState
  repeat' (first | simp only [apply_ite State.pending, apply_ite Prod.fst, apply_ite Prod.snd, apply_ite Done.st, ite_self, implies_true, forall_const, foldl_pending, answer, gnsBody, keyBody, pairBody, svcBody, ticBody, answer_pending, Done.ok, Done.err] | split)

theorem specSysSetState_pending (p : Packet) (s : State) :
    (specSysSetState.body p s).st.pending = s.pending := by
  unfold specSysSetState
  repeat' (first | simp only [apply_ite State.pending, apply_ite Prod.fst, apply_ite Prod.snd, apply_ite Done.st, ite_self, implies_true, forall_const, foldl_pending, answer, gnsBody, keyBody, pairBody, svcBody, ticBody, Done.err_pending, Done.ok_pending, State.enterRun_pending, State.react_pending, State.setDev_pending, Done.ok, Done.err] | split)

theorem specSysDomainPower_pending (p : Packet) (s : State) :
    (specSysDomainPower.body p s).st.pending = s.pending := by
  unfold specSysDomainPower
  repeat' (first | simp only [apply_ite State.pending, apply_ite Prod.fst, apply_ite Prod.snd, apply_ite Done.st, ite_self, implies_true, forall_const, foldl_pending, answer, gnsBody, keyBody, pairBody, svcBody, ticBody, Done.err_pending, Done.ok_pending, State.powerDown_pending, State.powerUp_pending, Done.ok, Done.err] | split)

theorem State.servoSleeps_pending (s : State) :
    (State.servoSleeps s).pending = s.pending := by
  unfold State.servoSleeps
  repeat' (first | simp only [apply_ite State.pending, apply_ite Prod.fst, apply_ite Prod.snd, apply_ite Done.st, ite_self, implies_true, forall_const, foldl_pending, State.enterDrydown_pending, State.faultAssert_pending, State.raise_pending, Done.ok, Done.err] | split)

theorem State.streamsOff_pending (s : State) :
    (State.streamsOff s).pending = s.pending := by
  unfold State.streamsOff
  repeat' (first | simp only [apply_ite State.pending, apply_ite Prod.fst, apply_ite Prod.snd, apply_ite Done.st, ite_self, implies_true, forall_const, foldl_pending, Done.ok, Done.err] | split)

theorem State.sleepNow_pending (s : State) (timeKeep : Bool) (ticKeep : Bool) :
    (State.sleepNow s timeKeep ticKeep).pending = s.pending := by
  unfold State.sleepNow
  repeat' (first | simp only [apply_ite State.pending, apply_ite Prod.fst, apply_ite Prod.snd, apply_ite Done.st, ite_self, implies_true, forall_const, foldl_pending, State.powerDown_pending, State.react_pending, State.servoSleeps_pending, State.setDev_pending, State.streamsOff_pending, Done.ok, Done.err] | split)

theorem specSysSleep_pending (p : Packet) (s : State) :
    (specSysSleep.body p s).st.pending = s.pending := by
  unfold specSysSleep
  repeat' (first | simp only [apply_ite State.pending, apply_ite Prod.fst, apply_ite Prod.snd, apply_ite Done.st, ite_self, implies_true, forall_const, foldl_pending, answer, gnsBody, keyBody, pairBody, svcBody, ticBody, Done.err_pending, Done.ok_pending, State.sleepNow_pending, Done.ok, Done.err] | split)

theorem State.wakeNow_pending (s : State) (source : BitVec 2) (origin : BitVec 4) :
    (State.wakeNow s source origin).pending = s.pending := by
  unfold State.wakeNow
  repeat' (first | simp only [apply_ite State.pending, apply_ite Prod.fst, apply_ite Prod.snd, apply_ite Done.st, ite_self, implies_true, forall_const, foldl_pending, State.powerUp_pending, Done.ok, Done.err] | split)

theorem specSysWake_pending (p : Packet) (s : State) :
    (specSysWake.body p s).st.pending = s.pending := by
  unfold specSysWake
  repeat' (first | simp only [apply_ite State.pending, apply_ite Prod.fst, apply_ite Prod.snd, apply_ite Done.st, ite_self, implies_true, forall_const, foldl_pending, answer, gnsBody, keyBody, pairBody, svcBody, ticBody, Done.ok_pending, State.wakeNow_pending, Done.ok, Done.err] | split)

theorem State.wakeDone_pending (s : State) :
    (State.wakeDone s).pending = s.pending := by
  unfold State.wakeDone
  repeat' (first | simp only [apply_ite State.pending, apply_ite Prod.fst, apply_ite Prod.snd, apply_ite Done.st, ite_self, implies_true, forall_const, foldl_pending, State.enterRun_pending, State.faultAssert_pending, State.react_pending, State.setDev_pending, State.tamper_pending, State.tamperHoldSet_pending, State.zeroKeys_pending, State.zeroRoots_pending, Done.ok, Done.err] | split)

theorem specSysReset_pending (p : Packet) (s : State) :
    (specSysReset.body p s).st.pending = s.pending := by
  unfold specSysReset
  repeat' (first | simp only [apply_ite State.pending, apply_ite Prod.fst, apply_ite Prod.snd, apply_ite Done.st, ite_self, implies_true, forall_const, foldl_pending, answer, gnsBody, keyBody, pairBody, svcBody, ticBody, Done.err_pending, Done.ok_pending, State.loopLoad_pending, State.powerCycle_pending, Done.ok, Done.err] | split)

theorem specSysFwStage_pending (p : Packet) (s : State) :
    (specSysFwStage.body p s).st.pending = s.pending := by
  unfold specSysFwStage
  repeat' (first | simp only [apply_ite State.pending, apply_ite Prod.fst, apply_ite Prod.snd, apply_ite Done.st, ite_self, implies_true, forall_const, foldl_pending, answer, gnsBody, keyBody, pairBody, svcBody, ticBody, Done.err_pending, Done.ok_pending, Done.ok, Done.err] | split)

theorem State.stageImage_pending (s : State) (code : Nat) (f : FwImage) :
    (State.stageImage s code f).pending = s.pending := by
  unfold State.stageImage
  repeat' (first | simp only [apply_ite State.pending, apply_ite Prod.fst, apply_ite Prod.snd, apply_ite Done.st, ite_self, implies_true, forall_const, foldl_pending, Done.ok, Done.err] | split)

theorem specSysFwActivate_pending (p : Packet) (s : State) :
    (specSysFwActivate.body p s).st.pending = s.pending := by
  unfold specSysFwActivate
  repeat' (first | simp only [apply_ite State.pending, apply_ite Prod.fst, apply_ite Prod.snd, apply_ite Done.st, ite_self, implies_true, forall_const, foldl_pending, answer, gnsBody, keyBody, pairBody, svcBody, ticBody, Done.err_pending, Done.ok_pending, Done.ok, Done.err] | split)

theorem specLogQueryStatus_pending (p : Packet) (s : State) :
    (specLogQueryStatus.body p s).st.pending = s.pending := by
  unfold specLogQueryStatus
  repeat' (first | simp only [apply_ite State.pending, apply_ite Prod.fst, apply_ite Prod.snd, apply_ite Done.st, ite_self, implies_true, forall_const, foldl_pending, answer, gnsBody, keyBody, pairBody, svcBody, ticBody, answer_pending, Done.ok, Done.err] | split)

theorem specLogQueryHead_pending (p : Packet) (s : State) :
    (specLogQueryHead.body p s).st.pending = s.pending := by
  unfold specLogQueryHead
  repeat' (first | simp only [apply_ite State.pending, apply_ite Prod.fst, apply_ite Prod.snd, apply_ite Done.st, ite_self, implies_true, forall_const, foldl_pending, answer, gnsBody, keyBody, pairBody, svcBody, ticBody, answer_pending, Done.ok, Done.err] | split)

theorem State.release_pending (s : State) (q : BitVec 48) :
    (State.release s q).pending = s.pending := by
  unfold State.release
  repeat' (first | simp only [apply_ite State.pending, apply_ite Prod.fst, apply_ite Prod.snd, apply_ite Done.st, ite_self, implies_true, forall_const, foldl_pending, State.logLevel_pending, State.logPut_pending, State.logRecover_pending, Done.ok, Done.err] | split)

theorem specLogExportAck_pending (p : Packet) (s : State) :
    (specLogExportAck.body p s).st.pending = s.pending := by
  unfold specLogExportAck
  repeat' (first | simp only [apply_ite State.pending, apply_ite Prod.fst, apply_ite Prod.snd, apply_ite Done.st, ite_self, implies_true, forall_const, foldl_pending, answer, gnsBody, keyBody, pairBody, svcBody, ticBody, Done.ok_pending, State.release_pending, Done.ok, Done.err] | split)

theorem specLogSetExport_pending (p : Packet) (s : State) :
    (specLogSetExport.body p s).st.pending = s.pending := by
  unfold specLogSetExport
  repeat' (first | simp only [apply_ite State.pending, apply_ite Prod.fst, apply_ite Prod.snd, apply_ite Done.st, ite_self, implies_true, forall_const, foldl_pending, answer, gnsBody, keyBody, pairBody, svcBody, ticBody, Done.err_pending, Done.ok_pending, State.irq_pending, State.logLevel_pending, State.logPut_pending, Done.ok, Done.err] | split)

theorem specLogCheckpoint_pending (p : Packet) (s : State) :
    (specLogCheckpoint.body p s).st.pending = s.pending := by
  unfold specLogCheckpoint
  repeat' (first | simp only [apply_ite State.pending, apply_ite Prod.fst, apply_ite Prod.snd, apply_ite Done.st, ite_self, implies_true, forall_const, foldl_pending, answer, gnsBody, keyBody, pairBody, svcBody, ticBody, Done.err_pending, Done.ok_pending, State.checkpoint_pending, Done.ok, Done.err] | split)

theorem specLogNote_pending (p : Packet) (s : State) :
    (specLogNote.body p s).st.pending = s.pending := by
  unfold specLogNote
  repeat' (first | simp only [apply_ite State.pending, apply_ite Prod.fst, apply_ite Prod.snd, apply_ite Done.st, ite_self, implies_true, forall_const, foldl_pending, answer, gnsBody, keyBody, pairBody, svcBody, ticBody, Done.ok_pending, State.logPut_pending, Done.ok, Done.err] | split)

theorem State.drainWait_pending (s : State) :
    (State.drainWait s).pending = s.pending := by
  unfold State.drainWait
  repeat' (first | simp only [apply_ite State.pending, apply_ite Prod.fst, apply_ite Prod.snd, apply_ite Done.st, ite_self, implies_true, forall_const, foldl_pending, State.logPut_pending, Done.ok, Done.err] | split)

theorem State.modMon_pending (s : State) (f : Mon → Mon) :
    (State.modMon s f).pending = s.pending := by
  unfold State.modMon
  repeat' (first | simp only [apply_ite State.pending, apply_ite Prod.fst, apply_ite Prod.snd, apply_ite Done.st, ite_self, implies_true, forall_const, foldl_pending, Done.ok, Done.err] | split)

theorem State.setMonCfg_pending (s : State) (f : MonCfg → MonCfg) :
    (State.setMonCfg s f).pending = s.pending := by
  unfold State.setMonCfg
  repeat' (first | simp only [apply_ite State.pending, apply_ite Prod.fst, apply_ite Prod.snd, apply_ite Done.st, ite_self, implies_true, forall_const, foldl_pending, Done.ok, Done.err] | split)

theorem State.modVbat_pending (s : State) (f : Vbat → Vbat) :
    (State.modVbat s f).pending = s.pending := by
  unfold State.modVbat
  repeat' (first | simp only [apply_ite State.pending, apply_ite Prod.fst, apply_ite Prod.snd, apply_ite Done.st, ite_self, implies_true, forall_const, foldl_pending, Done.ok, Done.err] | split)

theorem State.faultLevelIs_pending (s : State) (n : Nat) (on : Bool) :
    (State.faultLevelIs s n on).pending = s.pending := by
  unfold State.faultLevelIs
  repeat' (first | simp only [apply_ite State.pending, apply_ite Prod.fst, apply_ite Prod.snd, apply_ite Done.st, ite_self, implies_true, forall_const, foldl_pending, State.faultAssert_pending, State.faultEnd_pending, Done.ok, Done.err] | split)

theorem specMonQuery_pending (p : Packet) (s : State) :
    (specMonQuery.body p s).st.pending = s.pending := by
  unfold specMonQuery
  repeat' (first | simp only [apply_ite State.pending, apply_ite Prod.fst, apply_ite Prod.snd, apply_ite Done.st, ite_self, implies_true, forall_const, foldl_pending, answer, gnsBody, keyBody, pairBody, svcBody, ticBody, answer_pending, Done.ok, Done.err] | split)

theorem specKeepQuery_pending (p : Packet) (s : State) :
    (specKeepQuery.body p s).st.pending = s.pending := by
  unfold specKeepQuery
  repeat' (first | simp only [apply_ite State.pending, apply_ite Prod.fst, apply_ite Prod.snd, apply_ite Done.st, ite_self, implies_true, forall_const, foldl_pending, answer, gnsBody, keyBody, pairBody, svcBody, ticBody, answer_pending, Done.ok, Done.err] | split)

theorem specCalQuery_pending (p : Packet) (s : State) :
    (specCalQuery.body p s).st.pending = s.pending := by
  unfold specCalQuery
  repeat' (first | simp only [apply_ite State.pending, apply_ite Prod.fst, apply_ite Prod.snd, apply_ite Done.st, ite_self, implies_true, forall_const, foldl_pending, answer, gnsBody, keyBody, pairBody, svcBody, ticBody, answer_pending, Done.ok, Done.err] | split)

theorem specMonSetLimits_pending (p : Packet) (s : State) :
    (specMonSetLimits.body p s).st.pending = s.pending := by
  unfold specMonSetLimits
  repeat' (first | simp only [apply_ite State.pending, apply_ite Prod.fst, apply_ite Prod.snd, apply_ite Done.st, ite_self, implies_true, forall_const, foldl_pending, answer, gnsBody, keyBody, pairBody, svcBody, ticBody, Done.ok_pending, State.setMonCfg_pending, Done.ok, Done.err] | split)

theorem State.supRead_pending (s : State) (r : Nat) (mv : BitVec 16) :
    (State.supRead s r mv).pending = s.pending := by
  unfold State.supRead
  repeat' (first | simp only [apply_ite State.pending, apply_ite Prod.fst, apply_ite Prod.snd, apply_ite Done.st, ite_self, implies_true, forall_const, foldl_pending, State.modMon_pending, Done.ok, Done.err] | split)

theorem State.vbatLowIs_pending (s : State) (on : Bool) :
    (State.vbatLowIs s on).pending = s.pending := by
  unfold State.vbatLowIs
  repeat' (first | simp only [apply_ite State.pending, apply_ite Prod.fst, apply_ite Prod.snd, apply_ite Done.st, ite_self, implies_true, forall_const, foldl_pending, State.faultAssert_pending, State.faultEnd_pending, State.modMon_pending, State.raise_pending, Done.ok, Done.err] | split)

theorem State.supWarnIs_pending (s : State) (r : Nat) (on : Bool) :
    (State.supWarnIs s r on).pending = s.pending := by
  unfold State.supWarnIs
  repeat' (first | simp only [apply_ite State.pending, apply_ite Prod.fst, apply_ite Prod.snd, apply_ite Done.st, ite_self, implies_true, forall_const, foldl_pending, State.faultAssert_pending, State.faultEnd_pending, State.modMon_pending, State.raise_pending, Done.ok, Done.err] | split)

theorem State.tempRead_pending (s : State) (c : Nat) (v : BitVec 16) :
    (State.tempRead s c v).pending = s.pending := by
  unfold State.tempRead
  repeat' (first | simp only [apply_ite State.pending, apply_ite Prod.fst, apply_ite Prod.snd, apply_ite Done.st, ite_self, implies_true, forall_const, foldl_pending, Done.ok_pending, State.faultAssert_pending, State.faultEnd_pending, State.modMon_pending, State.raise_pending, Done.ok, Done.err] | split)

theorem State.junction_pending (s : State) :
    (State.junction s).pending = s.pending := by
  unfold State.junction
  repeat' (first | simp only [apply_ite State.pending, apply_ite Prod.fst, apply_ite Prod.snd, apply_ite Done.st, ite_self, implies_true, forall_const, foldl_pending, State.faultLevelIs_pending, Done.ok, Done.err] | split)

theorem State.extTemp_pending (s : State) :
    (State.extTemp s).pending = s.pending := by
  unfold State.extTemp
  repeat' (first | simp only [apply_ite State.pending, apply_ite Prod.fst, apply_ite Prod.snd, apply_ite Done.st, ite_self, implies_true, forall_const, foldl_pending, State.faultLevelIs_pending, State.raise_pending, Done.ok, Done.err] | split)

theorem State.logPfw_pending (s : State) :
    (State.logPfw s).pending = s.pending := by
  unfold State.logPfw
  repeat' (first | simp only [apply_ite State.pending, apply_ite Prod.fst, apply_ite Prod.snd, apply_ite Done.st, ite_self, implies_true, forall_const, foldl_pending, State.checkpoint_pending, State.logPut_pending, State.persistHead_pending, Done.ok, Done.err] | split)

theorem State.pfwAssert_pending (s : State) :
    (State.pfwAssert s).pending = s.pending := by
  unfold State.pfwAssert
  repeat' (first | simp only [apply_ite State.pending, apply_ite Prod.fst, apply_ite Prod.snd, apply_ite Done.st, ite_self, implies_true, forall_const, foldl_pending, State.bistAbort_pending, State.capSuspend_pending, State.faultAssert_pending, State.irq_pending, State.keyPfw_pending, State.logPfw_pending, State.modMon_pending, Done.ok, Done.err] | split)

theorem State.pfwEval_pending (s : State) (was : Bool) :
    (State.pfwEval s was).pending = s.pending := by
  unfold State.pfwEval
  repeat' (first | simp only [apply_ite State.pending, apply_ite Prod.fst, apply_ite Prod.snd, apply_ite Done.st, ite_self, implies_true, forall_const, foldl_pending, State.modMon_pending, State.pfwAssert_pending, Done.ok, Done.err] | split)

theorem specMonSetMains_pending (p : Packet) (s : State) :
    (specMonSetMains.body p s).st.pending = s.pending := by
  unfold specMonSetMains
  repeat' (first | simp only [apply_ite State.pending, apply_ite Prod.fst, apply_ite Prod.snd, apply_ite Done.st, ite_self, implies_true, forall_const, foldl_pending, answer, gnsBody, keyBody, pairBody, svcBody, ticBody, Done.ok_pending, State.pfwEval_pending, State.setMonCfg_pending, Done.ok, Done.err] | split)

theorem State.rangeEval_pending (s : State) (rms : Nat) (freq : Nat) :
    (State.rangeEval s rms freq).pending = s.pending := by
  unfold State.rangeEval
  repeat' (first | simp only [apply_ite State.pending, apply_ite Prod.fst, apply_ite Prod.snd, apply_ite Done.st, ite_self, implies_true, forall_const, foldl_pending, State.faultEnd_pending, State.modMon_pending, Done.ok, Done.err] | split)

theorem State.mainsPush_pending (s : State) (rec : List W32) :
    (State.mainsPush s rec).pending = s.pending := by
  unfold State.mainsPush
  repeat' (first | simp only [apply_ite State.pending, apply_ite Prod.fst, apply_ite Prod.snd, apply_ite Done.st, ite_self, implies_true, forall_const, foldl_pending, State.irq_pending, State.modMon_pending, Done.ok, Done.err] | split)

theorem State.scrubStart_pending (s : State) :
    (State.scrubStart s).pending = s.pending := by
  unfold State.scrubStart
  repeat' (first | simp only [apply_ite State.pending, apply_ite Prod.fst, apply_ite Prod.snd, apply_ite Done.st, ite_self, implies_true, forall_const, foldl_pending, Done.ok, Done.err] | split)

theorem specKeepScrub_pending (p : Packet) (s : State) :
    (specKeepScrub.body p s).st.pending = s.pending := by
  unfold specKeepScrub
  repeat' (first | simp only [apply_ite State.pending, apply_ite Prod.fst, apply_ite Prod.snd, apply_ite Done.st, ite_self, implies_true, forall_const, foldl_pending, answer, gnsBody, keyBody, pairBody, svcBody, ticBody, Done.err_pending, Done.ok_pending, State.scrubStart_pending, Done.ok, Done.err] | split)

theorem State.spareFails_pending (s : State) (i : BitVec 7) :
    (State.spareFails s i).pending = s.pending := by
  unfold State.spareFails
  repeat' (first | simp only [apply_ite State.pending, apply_ite Prod.fst, apply_ite Prod.snd, apply_ite Done.st, ite_self, implies_true, forall_const, foldl_pending, State.keepSpareTold_pending, Done.ok, Done.err] | split)

theorem State.calSetValid_pending (s : State) :
    (State.calSetValid s).pending = s.pending := by
  unfold State.calSetValid
  repeat' (first | simp only [apply_ite State.pending, apply_ite Prod.fst, apply_ite Prod.snd, apply_ite Done.st, ite_self, implies_true, forall_const, foldl_pending, State.faultEnd_pending, State.modVbat_pending, Done.ok, Done.err] | split)

theorem specCalSetTime_pending (p : Packet) (s : State) :
    (specCalSetTime.body p s).st.pending = s.pending := by
  unfold specCalSetTime
  repeat' (first | simp only [apply_ite State.pending, apply_ite Prod.fst, apply_ite Prod.snd, apply_ite Done.st, ite_self, implies_true, forall_const, foldl_pending, answer, gnsBody, keyBody, pairBody, svcBody, ticBody, Done.err_pending, Done.ok_pending, State.calSetValid_pending, State.modVbat_pending, State.syncRun_pending, Done.ok, Done.err] | split)

theorem specCalSetTrim_pending (p : Packet) (s : State) :
    (specCalSetTrim.body p s).st.pending = s.pending := by
  unfold specCalSetTrim
  repeat' (first | simp only [apply_ite State.pending, apply_ite Prod.fst, apply_ite Prod.snd, apply_ite Done.st, ite_self, implies_true, forall_const, foldl_pending, answer, gnsBody, keyBody, pairBody, svcBody, ticBody, Done.ok_pending, State.calRebase_pending, Done.ok, Done.err] | split)

theorem specCalSetTamper_pending (p : Packet) (s : State) :
    (specCalSetTamper.body p s).st.pending = s.pending := by
  unfold specCalSetTamper
  repeat' (first | simp only [apply_ite State.pending, apply_ite Prod.fst, apply_ite Prod.snd, apply_ite Done.st, ite_self, implies_true, forall_const, foldl_pending, answer, gnsBody, keyBody, pairBody, svcBody, ticBody, Done.ok_pending, State.modVbat_pending, Done.ok, Done.err] | split)

theorem State.hold_pending (s : State) (cause : Nat) (cold : Bool) :
    (State.hold s cause cold).pending = s.pending := by
  unfold State.hold
  repeat' (first | simp only [apply_ite State.pending, apply_ite Prod.fst, apply_ite Prod.snd, apply_ite Done.st, ite_self, implies_true, forall_const, foldl_pending, State.toReset_pending, Done.ok, Done.err] | split)

theorem State.imageCheck_pending (s : State) :
    (State.imageCheck s).pending = s.pending := by
  unfold State.imageCheck
  repeat' (first | simp only [apply_ite State.pending, apply_ite Prod.fst, apply_ite Prod.snd, apply_ite Done.st, ite_self, implies_true, forall_const, foldl_pending, State.raise_pending, Done.ok, Done.err] | split)

theorem State.keepRestore_pending (s : State) (r : KeepRead) :
    (State.keepRestore s r).pending = s.pending := by
  unfold State.keepRestore
  repeat' (first | simp only [apply_ite State.pending, apply_ite Prod.fst, apply_ite Prod.snd, apply_ite Done.st, ite_self, implies_true, forall_const, foldl_pending, Done.ok, Done.err] | split)

theorem State.bootTamper_pending (s : State) (n : Nat) :
    (State.bootTamper s n).pending = s.pending := by
  unfold State.bootTamper
  repeat' (first | simp only [apply_ite State.pending, apply_ite Prod.fst, apply_ite Prod.snd, apply_ite Done.st, ite_self, implies_true, forall_const, foldl_pending, State.latch_pending, State.tamper_pending, State.zeroRoots_pending, Done.ok, Done.err] | split)

theorem State.unseal_pending (s : State) :
    (State.unseal s).pending = s.pending := by
  unfold State.unseal
  repeat' (first | simp only [apply_ite State.pending, apply_ite Prod.fst, apply_ite Prod.snd, apply_ite Done.st, ite_self, implies_true, forall_const, foldl_pending, State.deriveProduction_pending, State.deriveTest_pending, State.deriveUds_pending, Done.ok, Done.err] | split)

theorem State.logTakeUp_pending (s : State) :
    (State.logTakeUp s).1.pending = s.pending := by
  unfold State.logTakeUp
  repeat' (first | simp only [apply_ite State.pending, apply_ite Prod.fst, apply_ite Prod.snd, apply_ite Done.st, ite_self, implies_true, forall_const, foldl_pending, State.logRaw_pending, Done.ok, Done.err] | split)

theorem State.logOpen_pending (s : State) :
    (State.logOpen s).pending = s.pending := by
  unfold State.logOpen
  repeat' (first | simp only [apply_ite State.pending, apply_ite Prod.fst, apply_ite Prod.snd, apply_ite Done.st, ite_self, implies_true, forall_const, foldl_pending, State.logPut_pending, State.logTakeUp_pending, Done.ok, Done.err] | split)

theorem State.armFaults_pending (s : State) :
    (State.armFaults s).pending = s.pending := by
  unfold State.armFaults
  repeat' (first | simp only [apply_ite State.pending, apply_ite Prod.fst, apply_ite Prod.snd, apply_ite Done.st, ite_self, implies_true, forall_const, foldl_pending, State.extTemp_pending, State.faultAssert_pending, State.junction_pending, State.keepUncorr_pending, State.raise_pending, Done.ok, Done.err] | split)

theorem State.initBlocks_pending (s : State) :
    (State.initBlocks s).pending = s.pending := by
  unfold State.initBlocks
  repeat' (first | simp only [apply_ite State.pending, apply_ite Prod.fst, apply_ite Prod.snd, apply_ite Done.st, ite_self, implies_true, forall_const, foldl_pending, State.powerUp_pending, State.react_pending, State.refStart_pending, State.setRole_pending, Done.ok, Done.err] | split)

theorem State.bootDone_pending (s : State) (keep : KeepRead) :
    (State.bootDone s keep).pending = s.pending := by
  unfold State.bootDone
  repeat' (first | simp only [apply_ite State.pending, apply_ite Prod.fst, apply_ite Prod.snd, apply_ite Done.st, ite_self, implies_true, forall_const, foldl_pending, Done.ok_pending, State.armFaults_pending, State.bootTamper_pending, State.drainWait_pending, State.drawn_pending, State.epochRegs_pending, State.initBlocks_pending, State.irq_pending, State.keepRestore_pending, State.logOpen_pending, State.newChallenge_pending, State.raise_pending, State.reinstallLsk_pending, State.unseal_pending, Done.ok, Done.err] | split)

theorem specSysQueryCounters_pending (p : Packet) (s : State) :
    (specSysQueryCounters.body p s).st.pending = s.pending := by
  unfold specSysQueryCounters
  repeat' (first | simp only [apply_ite State.pending, apply_ite Prod.fst, apply_ite Prod.snd, apply_ite Done.st, ite_self, implies_true, forall_const, foldl_pending, answer, gnsBody, keyBody, pairBody, svcBody, ticBody, answer_pending, Done.ok, Done.err] | split)

theorem specSysEcho_pending (p : Packet) (s : State) :
    (specSysEcho.body p s).st.pending = s.pending := by
  unfold specSysEcho
  repeat' (first | simp only [apply_ite State.pending, apply_ite Prod.fst, apply_ite Prod.snd, apply_ite Done.st, ite_self, implies_true, forall_const, foldl_pending, answer, gnsBody, keyBody, pairBody, svcBody, ticBody, answer_pending, Done.ok, Done.err] | split)

theorem State.modMbx_pending (s : State) (n : Nat) (f : Mbx → Mbx) :
    (State.modMbx s n f).pending = s.pending := by
  unfold State.modMbx
  repeat' (first | simp only [apply_ite State.pending, apply_ite Prod.fst, apply_ite Prod.snd, apply_ite Done.st, ite_self, implies_true, forall_const, foldl_pending, Done.ok, Done.err] | split)

theorem specSysSetMbxRoute_pending (p : Packet) (s : State) :
    (specSysSetMbxRoute.body p s).st.pending = s.pending := by
  unfold specSysSetMbxRoute
  repeat' (first | simp only [apply_ite State.pending, apply_ite Prod.fst, apply_ite Prod.snd, apply_ite Done.st, ite_self, implies_true, forall_const, foldl_pending, answer, gnsBody, keyBody, pairBody, svcBody, ticBody, Done.err_pending, Done.ok_pending, State.modMbx_pending, Done.ok, Done.err] | split)

theorem specSysSetSemCfg_pending (p : Packet) (s : State) :
    (specSysSetSemCfg.body p s).st.pending = s.pending := by
  unfold specSysSetSemCfg
  repeat' (first | simp only [apply_ite State.pending, apply_ite Prod.fst, apply_ite Prod.snd, apply_ite Done.st, ite_self, implies_true, forall_const, foldl_pending, answer, gnsBody, keyBody, pairBody, svcBody, ticBody, Done.ok_pending, Done.ok, Done.err] | split)

theorem State.semPut_pending (s : State) (i : Nat) (holder : Option (BitVec 4)) :
    (State.semPut s i holder).pending = s.pending := by
  unfold State.semPut
  repeat' (first | simp only [apply_ite State.pending, apply_ite Prod.fst, apply_ite Prod.snd, apply_ite Done.st, ite_self, implies_true, forall_const, foldl_pending, Done.ok, Done.err] | split)

theorem specSysSemForce_pending (p : Packet) (s : State) :
    (specSysSemForce.body p s).st.pending = s.pending := by
  unfold specSysSemForce
  repeat' (first | simp only [apply_ite State.pending, apply_ite Prod.fst, apply_ite Prod.snd, apply_ite Done.st, ite_self, implies_true, forall_const, foldl_pending, answer, gnsBody, keyBody, pairBody, svcBody, ticBody, Done.ok_pending, State.raise_pending, State.semPut_pending, Done.ok, Done.err] | split)

theorem State.modRing_pending (s : State) (n : Nat) (f : Ring → Ring) :
    (State.modRing s n f).pending = s.pending := by
  unfold State.modRing
  repeat' (first | simp only [apply_ite State.pending, apply_ite Prod.fst, apply_ite Prod.snd, apply_ite Done.st, ite_self, implies_true, forall_const, foldl_pending, Done.ok, Done.err] | split)

theorem specSysRingConfig_pending (p : Packet) (s : State) :
    (specSysRingConfig.body p s).st.pending = s.pending := by
  unfold specSysRingConfig
  repeat' (first | simp only [apply_ite State.pending, apply_ite Prod.fst, apply_ite Prod.snd, apply_ite Done.st, ite_self, implies_true, forall_const, foldl_pending, answer, gnsBody, keyBody, pairBody, svcBody, ticBody, Done.err_pending, Done.ok_pending, State.modRing_pending, Done.ok, Done.err] | split)

theorem State.ringEnable_pending (s : State) (n : Nat) (on : Bool) :
    (State.ringEnable s n on).pending = s.pending := by
  unfold State.ringEnable
  repeat' (first | simp only [apply_ite State.pending, apply_ite Prod.fst, apply_ite Prod.snd, apply_ite Done.st, ite_self, implies_true, forall_const, foldl_pending, State.modRing_pending, State.orphanTx_pending, Done.ok, Done.err] | split)

theorem State.ringsEnable_pending (s : State) (affected : BitVec 64) (values : BitVec 64) :
    (State.ringsEnable s affected values).pending = s.pending := by
  unfold State.ringsEnable
  repeat' (first | simp only [apply_ite State.pending, apply_ite Prod.fst, apply_ite Prod.snd, apply_ite Done.st, ite_self, implies_true, forall_const, foldl_pending, State.ringEnable_pending, Done.ok, Done.err] | split)

theorem specSysRingEnable_pending (p : Packet) (s : State) :
    (specSysRingEnable.body p s).st.pending = s.pending := by
  unfold specSysRingEnable
  repeat' (first | simp only [apply_ite State.pending, apply_ite Prod.fst, apply_ite Prod.snd, apply_ite Done.st, ite_self, implies_true, forall_const, foldl_pending, answer, gnsBody, keyBody, pairBody, svcBody, ticBody, Done.err_pending, Done.ok_pending, State.ringsEnable_pending, Done.ok, Done.err] | split)

theorem specSysIntRoute_pending (p : Packet) (s : State) :
    (specSysIntRoute.body p s).st.pending = s.pending := by
  unfold specSysIntRoute
  repeat' (first | simp only [apply_ite State.pending, apply_ite Prod.fst, apply_ite Prod.snd, apply_ite Done.st, ite_self, implies_true, forall_const, foldl_pending, answer, gnsBody, keyBody, pairBody, svcBody, ticBody, Done.ok_pending, Done.ok, Done.err] | split)

theorem specSysCancel_pending (p : Packet) (s : State) :
    (specSysCancel.body p s).st.pending = s.pending := by
  unfold specSysCancel
  repeat' (first | simp only [apply_ite State.pending, apply_ite Prod.fst, apply_ite Prod.snd, apply_ite Done.st, ite_self, implies_true, forall_const, foldl_pending, answer, gnsBody, keyBody, pairBody, svcBody, ticBody, Done.err_pending, Done.ok_pending, State.countStatus_pending, State.reply_pending, Done.ok, Done.err] | split)

theorem specGnsQueryStatus_pending (p : Packet) (s : State) :
    (specGnsQueryStatus.body p s).st.pending = s.pending := by
  unfold specGnsQueryStatus
  repeat' (first | simp only [apply_ite State.pending, apply_ite Prod.fst, apply_ite Prod.snd, apply_ite Done.st, ite_self, implies_true, forall_const, foldl_pending, answer, gnsBody, keyBody, pairBody, svcBody, ticBody, answer_pending, Done.ok, Done.err] | split)

theorem specGnsQuerySolution_pending (p : Packet) (s : State) :
    (specGnsQuerySolution.body p s).st.pending = s.pending := by
  unfold specGnsQuerySolution
  repeat' (first | simp only [apply_ite State.pending, apply_ite Prod.fst, apply_ite Prod.snd, apply_ite Done.st, ite_self, implies_true, forall_const, foldl_pending, answer, gnsBody, keyBody, pairBody, svcBody, ticBody, answer_pending, Done.ok, Done.err] | split)

theorem specGnsSetPort_pending (p : Packet) (s : State) :
    (specGnsSetPort.body p s).st.pending = s.pending := by
  unfold specGnsSetPort
  repeat' (first | simp only [apply_ite State.pending, apply_ite Prod.fst, apply_ite Prod.snd, apply_ite Done.st, ite_self, implies_true, forall_const, foldl_pending, answer, gnsBody, keyBody, pairBody, svcBody, ticBody, Done.err_pending, Done.ok_pending, State.gnsEval_pending, State.setGnsCfg_pending, Done.ok, Done.err] | split)

theorem specGnsSetNotch_pending (p : Packet) (s : State) :
    (specGnsSetNotch.body p s).st.pending = s.pending := by
  unfold specGnsSetNotch
  repeat' (first | simp only [apply_ite State.pending, apply_ite Prod.fst, apply_ite Prod.snd, apply_ite Done.st, ite_self, implies_true, forall_const, foldl_pending, answer, gnsBody, keyBody, pairBody, svcBody, ticBody, Done.ok_pending, State.drawn_pending, State.setGnsCfg_pending, Done.ok, Done.err] | split)

theorem specGnsSetLatch_pending (p : Packet) (s : State) :
    (specGnsSetLatch.body p s).st.pending = s.pending := by
  unfold specGnsSetLatch
  repeat' (first | simp only [apply_ite State.pending, apply_ite Prod.fst, apply_ite Prod.snd, apply_ite Done.st, ite_self, implies_true, forall_const, foldl_pending, answer, gnsBody, keyBody, pairBody, svcBody, ticBody, Done.ok_pending, State.setGnsCfg_pending, Done.ok, Done.err] | split)

theorem specGnsSetAntenna_pending (p : Packet) (s : State) :
    (specGnsSetAntenna.body p s).st.pending = s.pending := by
  unfold specGnsSetAntenna
  repeat' (first | simp only [apply_ite State.pending, apply_ite Prod.fst, apply_ite Prod.snd, apply_ite Done.st, ite_self, implies_true, forall_const, foldl_pending, answer, gnsBody, keyBody, pairBody, svcBody, ticBody, Done.ok_pending, State.gnsEval_pending, State.raise_pending, State.setGnsCfg_pending, Done.ok, Done.err] | split)

theorem specGnsSetCheck_pending (p : Packet) (s : State) :
    (specGnsSetCheck.body p s).st.pending = s.pending := by
  unfold specGnsSetCheck
  repeat' (first | simp only [apply_ite State.pending, apply_ite Prod.fst, apply_ite Prod.snd, apply_ite Done.st, ite_self, implies_true, forall_const, foldl_pending, answer, gnsBody, keyBody, pairBody, svcBody, ticBody, Done.ok_pending, State.anchorByHand_pending, State.gnsEval_pending, State.setGnsCfg_pending, Done.ok, Done.err] | split)

theorem specGnsSpareBank_pending (p : Packet) (s : State) :
    (specGnsSpareBank.body p s).st.pending = s.pending := by
  unfold specGnsSpareBank
  repeat' (first | simp only [apply_ite State.pending, apply_ite Prod.fst, apply_ite Prod.snd, apply_ite Done.st, ite_self, implies_true, forall_const, foldl_pending, answer, gnsBody, keyBody, pairBody, svcBody, ticBody, Done.ok_pending, State.bankPool_pending, State.faultAssert_pending, State.mapBank_pending, State.setGnsCfg_pending, Done.ok, Done.err] | split)

theorem specGnsAcquire_pending (p : Packet) (s : State) :
    (specGnsAcquire.body p s).st.pending = s.pending := by
  unfold specGnsAcquire
  repeat' (first | simp only [apply_ite State.pending, apply_ite Prod.fst, apply_ite Prod.snd, apply_ite Done.st, ite_self, implies_true, forall_const, foldl_pending, answer, gnsBody, keyBody, pairBody, svcBody, ticBody, Done.err_pending, Done.ok_pending, Done.ok, Done.err] | split)

theorem State.acqEnd_pending (s : State) (ok : Bool) (detected : Nat) :
    (State.acqEnd s ok detected).pending = s.pending := by
  unfold State.acqEnd
  repeat' (first | simp only [apply_ite State.pending, apply_ite Prod.fst, apply_ite Prod.snd, apply_ite Done.st, ite_self, implies_true, forall_const, foldl_pending, Done.ok_pending, State.irq_pending, Done.ok, Done.err] | split)

theorem State.acqLast_pending (s : State) (a : AcqRun) :
    (State.acqLast s a).pending = s.pending := by
  unfold State.acqLast
  repeat' (first | simp only [apply_ite State.pending, apply_ite Prod.fst, apply_ite Prod.snd, apply_ite Done.st, ite_self, implies_true, forall_const, foldl_pending, State.acqEnd_pending, Done.ok, Done.err] | split)

theorem specGnsTrack_pending (p : Packet) (s : State) :
    (specGnsTrack.body p s).st.pending = s.pending := by
  unfold specGnsTrack
  repeat' (first | simp only [apply_ite State.pending, apply_ite Prod.fst, apply_ite Prod.snd, apply_ite Done.st, ite_self, implies_true, forall_const, foldl_pending, answer, gnsBody, keyBody, pairBody, svcBody, ticBody, Done.err_pending, Done.ok_pending, Done.ok, Done.err] | split)

theorem specGnsRelease_pending (p : Packet) (s : State) :
    (specGnsRelease.body p s).st.pending = s.pending := by
  unfold specGnsRelease
  repeat' (first | simp only [apply_ite State.pending, apply_ite Prod.fst, apply_ite Prod.snd, apply_ite Done.st, ite_self, implies_true, forall_const, foldl_pending, answer, gnsBody, keyBody, pairBody, svcBody, ticBody, Done.ok_pending, Done.ok, Done.err] | split)

theorem State.gnsRefuse_pending (s : State) :
    (State.gnsRefuse s).pending = s.pending := by
  unfold State.gnsRefuse
  repeat' (first | simp only [apply_ite State.pending, apply_ite Prod.fst, apply_ite Prod.snd, apply_ite Done.st, ite_self, implies_true, forall_const, foldl_pending, State.refuseWrite_pending, Done.ok, Done.err] | split)

theorem State.gnsEngineDo_pending (s : State) (m : BitVec 4) (f : State → State) (h : (f s).pending = s.pending) :
    (s.gnsEngineDo m f).pending = s.pending := by
  unfold State.gnsEngineDo
  split
  · exact h
  · rw [State.gnsRefuse_pending]

theorem State.navPut_pending (s : State) (k : Nat) (w : W32) (ago : Nat) :
    (State.navPut s k w ago).pending = s.pending := by
  unfold State.navPut
  repeat' (first | simp only [apply_ite State.pending, apply_ite Prod.fst, apply_ite Prod.snd, apply_ite Done.st, ite_self, implies_true, forall_const, foldl_pending, State.irq_pending, Done.ok, Done.err] | split)

theorem State.solTell_pending (s : State) (v : Bool) (turns : Bool) (snap : Bool) :
    (State.solTell s v turns snap).pending = s.pending := by
  unfold State.solTell
  repeat' (first | simp only [apply_ite State.pending, apply_ite Prod.fst, apply_ite Prod.snd, apply_ite Done.st, ite_self, implies_true, forall_const, foldl_pending, State.logPut_pending, State.raise_pending, Done.ok, Done.err] | split)

theorem State.solStore_pending (s : State) (valid : Bool) (nsv : BitVec 6) (snap : Bool) (offset : BitVec 64) (unc : BitVec 24) :
    (State.solStore s valid nsv snap offset unc).pending = s.pending := by
  unfold State.solStore
  repeat' (first | simp only [apply_ite State.pending, apply_ite Prod.fst, apply_ite Prod.snd, apply_ite Done.st, ite_self, implies_true, forall_const, foldl_pending, State.solTell_pending, Done.ok, Done.err] | split)

theorem State.solUse_pending (s : State) :
    (State.solUse s).pending = s.pending := by
  unfold State.solUse
  repeat' (first | simp only [apply_ite State.pending, apply_ite Prod.fst, apply_ite Prod.snd, apply_ite Done.st, ite_self, implies_true, forall_const, foldl_pending, State.anchorByHand_pending, State.anchorStep_pending, State.crossCheck_pending, State.gnsEval_pending, State.refDeliver_pending, State.spoofEb_pending, Done.ok, Done.err] | split)

theorem State.notchAt_pending (s : State) (m : Nat) (khz : BitVec 24) :
    (State.notchAt s m khz).pending = s.pending := by
  unfold State.notchAt
  repeat' (first | simp only [apply_ite State.pending, apply_ite Prod.fst, apply_ite Prod.snd, apply_ite Done.st, ite_self, implies_true, forall_const, foldl_pending, Done.ok, Done.err] | split)

theorem State.latchTake_pending (s : State) (t : Stamp) :
    (State.latchTake s t).pending = s.pending := by
  unfold State.latchTake
  repeat' (first | simp only [apply_ite State.pending, apply_ite Prod.fst, apply_ite Prod.snd, apply_ite Done.st, ite_self, implies_true, forall_const, foldl_pending, State.gnsHist_pending, State.irq_pending, Done.ok, Done.err] | split)

theorem specGnsSnapshot_pending (p : Packet) (s : State) :
    (specGnsSnapshot.body p s).st.pending = s.pending := by
  unfold specGnsSnapshot
  repeat' (first | simp only [apply_ite State.pending, apply_ite Prod.fst, apply_ite Prod.snd, apply_ite Done.st, ite_self, implies_true, forall_const, foldl_pending, answer, gnsBody, keyBody, pairBody, svcBody, ticBody, Done.err_pending, Done.ok_pending, Done.ok, Done.err] | split)

theorem State.snapEnd_pending (s : State) (ok : Bool) :
    (State.snapEnd s ok).pending = s.pending := by
  unfold State.snapEnd
  repeat' (first | simp only [apply_ite State.pending, apply_ite Prod.fst, apply_ite Prod.snd, apply_ite Done.st, ite_self, implies_true, forall_const, foldl_pending, Done.ok_pending, State.irq_pending, Done.ok, Done.err] | split)

theorem State.snapWait_pending (s : State) :
    (State.snapWait s).pending = s.pending := by
  unfold State.snapWait
  repeat' (first | simp only [apply_ite State.pending, apply_ite Prod.fst, apply_ite Prod.snd, apply_ite Done.st, ite_self, implies_true, forall_const, foldl_pending, State.irq_pending, Done.ok, Done.err] | split)

theorem specOutQueryStatus_pending (p : Packet) (s : State) :
    (specOutQueryStatus.body p s).st.pending = s.pending := by
  unfold specOutQueryStatus
  repeat' (first | simp only [apply_ite State.pending, apply_ite Prod.fst, apply_ite Prod.snd, apply_ite Done.st, ite_self, implies_true, forall_const, foldl_pending, answer, gnsBody, keyBody, pairBody, svcBody, ticBody, answer_pending, Done.ok, Done.err] | split)

theorem specOutQueryEcho_pending (p : Packet) (s : State) :
    (specOutQueryEcho.body p s).st.pending = s.pending := by
  unfold specOutQueryEcho
  repeat' (first | simp only [apply_ite State.pending, apply_ite Prod.fst, apply_ite Prod.snd, apply_ite Done.st, ite_self, implies_true, forall_const, foldl_pending, answer, gnsBody, keyBody, pairBody, svcBody, ticBody, answer_pending, Done.ok, Done.err] | split)

theorem specOutSetSyn_pending (p : Packet) (s : State) :
    (specOutSetSyn.body p s).st.pending = s.pending := by
  unfold specOutSetSyn
  repeat' (first | simp only [apply_ite State.pending, apply_ite Prod.fst, apply_ite Prod.snd, apply_ite Done.st, ite_self, implies_true, forall_const, foldl_pending, answer, gnsBody, keyBody, pairBody, svcBody, ticBody, Done.err_pending, Done.ok_pending, State.modSyn_pending, State.setOutCfg_pending, State.synClear_pending, Done.ok, Done.err] | split)

theorem specOutSetOutput_pending (p : Packet) (s : State) :
    (specOutSetOutput.body p s).st.pending = s.pending := by
  unfold specOutSetOutput
  repeat' (first | simp only [apply_ite State.pending, apply_ite Prod.fst, apply_ite Prod.snd, apply_ite Done.st, ite_self, implies_true, forall_const, foldl_pending, answer, gnsBody, keyBody, pairBody, svcBody, ticBody, Done.err_pending, Done.ok_pending, State.glide_pending, State.modOch_pending, State.outEval_pending, State.setOutCfg_pending, Done.ok, Done.err] | split)

theorem specOutSync_pending (p : Packet) (s : State) :
    (specOutSync.body p s).st.pending = s.pending := by
  unfold specOutSync
  repeat' (first | simp only [apply_ite State.pending, apply_ite Prod.fst, apply_ite Prod.snd, apply_ite Done.st, ite_self, implies_true, forall_const, foldl_pending, answer, gnsBody, keyBody, pairBody, svcBody, ticBody, Done.err_pending, Done.ok_pending, State.modOch_pending, Done.ok, Done.err] | split)

theorem specOutSetTp_pending (p : Packet) (s : State) :
    (specOutSetTp.body p s).st.pending = s.pending := by
  unfold specOutSetTp
  repeat' (first | simp only [apply_ite State.pending, apply_ite Prod.fst, apply_ite Prod.snd, apply_ite Done.st, ite_self, implies_true, forall_const, foldl_pending, answer, gnsBody, keyBody, pairBody, svcBody, ticBody, Done.err_pending, Done.ok_pending, State.outEval_pending, State.setOutCfg_pending, Done.ok, Done.err] | split)

theorem specOutSetTod_pending (p : Packet) (s : State) :
    (specOutSetTod.body p s).st.pending = s.pending := by
  unfold specOutSetTod
  repeat' (first | simp only [apply_ite State.pending, apply_ite Prod.fst, apply_ite Prod.snd, apply_ite Done.st, ite_self, implies_true, forall_const, foldl_pending, answer, gnsBody, keyBody, pairBody, svcBody, ticBody, Done.ok_pending, State.outEval_pending, State.setOutCfg_pending, Done.ok, Done.err] | split)

theorem specOutSetDelay_pending (p : Packet) (s : State) :
    (specOutSetDelay.body p s).st.pending = s.pending := by
  unfold specOutSetDelay
  repeat' (first | simp only [apply_ite State.pending, apply_ite Prod.fst, apply_ite Prod.snd, apply_ite Done.st, ite_self, implies_true, forall_const, foldl_pending, answer, gnsBody, keyBody, pairBody, svcBody, ticBody, Done.ok_pending, State.setDelay_pending, Done.ok, Done.err] | split)

theorem State.alignClear_pending (s : State) :
    (State.alignClear s).pending = s.pending := by
  unfold State.alignClear
  repeat' (first | simp only [apply_ite State.pending, apply_ite Prod.fst, apply_ite Prod.snd, apply_ite Done.st, ite_self, implies_true, forall_const, foldl_pending, State.faultEnd_pending, Done.ok, Done.err] | split)

theorem State.outEnable_pending (s : State) (t : Nat) (on : Bool) :
    (State.outEnable s t on).pending = s.pending := by
  unfold State.outEnable
  repeat' (first | simp only [apply_ite State.pending, apply_ite Prod.fst, apply_ite Prod.snd, apply_ite Done.st, ite_self, implies_true, forall_const, foldl_pending, State.hold_pending, State.modOch_pending, State.setOutCfg_pending, Done.ok, Done.err] | split)

theorem specOutEnable_pending (p : Packet) (s : State) :
    (specOutEnable.body p s).st.pending = s.pending := by
  unfold specOutEnable
  repeat' (first | simp only [apply_ite State.pending, apply_ite Prod.fst, apply_ite Prod.snd, apply_ite Done.st, ite_self, implies_true, forall_const, foldl_pending, answer, gnsBody, keyBody, pairBody, svcBody, ticBody, Done.ok_pending, State.alignClear_pending, State.outEnable_pending, State.outEval_pending, State.pairEval_pending, Done.ok, Done.err] | split)

theorem State.echoHold_pending (s : State) (t : Nat) :
    (State.echoHold s t).pending = s.pending := by
  unfold State.echoHold
  repeat' (first | simp only [apply_ite State.pending, apply_ite Prod.fst, apply_ite Prod.snd, apply_ite Done.st, ite_self, implies_true, forall_const, foldl_pending, State.hold_pending, State.modOch_pending, State.modOtp_pending, Done.ok, Done.err] | split)

theorem specOutEchoMeasure_pending (p : Packet) (s : State) :
    (specOutEchoMeasure.body p s).st.pending = s.pending := by
  unfold specOutEchoMeasure
  repeat' (first | simp only [apply_ite State.pending, apply_ite Prod.fst, apply_ite Prod.snd, apply_ite Done.st, ite_self, implies_true, forall_const, foldl_pending, answer, gnsBody, keyBody, pairBody, svcBody, ticBody, Done.err_pending, Done.ok_pending, State.echoHold_pending, State.ivAbort_pending, State.modTch_pending, Done.ok, Done.err] | split)

theorem State.echoResult_pending (s : State) (r : EchoRun) (good : Nat) (meanFs : Nat) (sigma : Nat) :
    (State.echoResult s r good meanFs sigma).pending = s.pending := by
  unfold State.echoResult
  repeat' (first | simp only [apply_ite State.pending, apply_ite Prod.fst, apply_ite Prod.snd, apply_ite Done.st, ite_self, implies_true, forall_const, foldl_pending, State.echoFree_pending, State.echoRelease_pending, State.keepOwn_pending, State.outRaise_pending, State.setDelay_pending, Done.ok, Done.err] | split)

theorem specRefQuerySlot_pending (p : Packet) (s : State) :
    (specRefQuerySlot.body p s).st.pending = s.pending := by
  unfold specRefQuerySlot
  repeat' (first | simp only [apply_ite State.pending, apply_ite Prod.fst, apply_ite Prod.snd, apply_ite Done.st, ite_self, implies_true, forall_const, foldl_pending, answer, gnsBody, keyBody, pairBody, svcBody, ticBody, answer_pending, Done.ok, Done.err] | split)

theorem specRefQueryMatrix_pending (p : Packet) (s : State) :
    (specRefQueryMatrix.body p s).st.pending = s.pending := by
  unfold specRefQueryMatrix
  repeat' (first | simp only [apply_ite State.pending, apply_ite Prod.fst, apply_ite Prod.snd, apply_ite Done.st, ite_self, implies_true, forall_const, foldl_pending, answer, gnsBody, keyBody, pairBody, svcBody, ticBody, answer_pending, Done.ok, Done.err] | split)

theorem specRefQueryHistory_pending (p : Packet) (s : State) :
    (specRefQueryHistory.body p s).st.pending = s.pending := by
  unfold specRefQueryHistory
  repeat' (first | simp only [apply_ite State.pending, apply_ite Prod.fst, apply_ite Prod.snd, apply_ite Done.st, ite_self, implies_true, forall_const, foldl_pending, answer, gnsBody, keyBody, pairBody, svcBody, ticBody, answer_pending, Done.ok, Done.err] | split)

theorem State.setSlotCfg_pending (s : State) (n : Nat) (f : RefSlotCfg → RefSlotCfg) :
    (State.setSlotCfg s n f).pending = s.pending := by
  unfold State.setSlotCfg
  repeat' (first | simp only [apply_ite State.pending, apply_ite Prod.fst, apply_ite Prod.snd, apply_ite Done.st, ite_self, implies_true, forall_const, foldl_pending, Done.ok, Done.err] | split)

theorem specRefSetSlot_pending (p : Packet) (s : State) :
    (specRefSetSlot.body p s).st.pending = s.pending := by
  unfold specRefSetSlot
  repeat' (first | simp only [apply_ite State.pending, apply_ite Prod.fst, apply_ite Prod.snd, apply_ite Done.st, ite_self, implies_true, forall_const, foldl_pending, answer, gnsBody, keyBody, pairBody, svcBody, ticBody, Done.err_pending, Done.ok_pending, State.refAbsent_pending, State.setSlotCfg_pending, Done.ok, Done.err] | split)

theorem specRefSetQual_pending (p : Packet) (s : State) :
    (specRefSetQual.body p s).st.pending = s.pending := by
  unfold specRefSetQual
  repeat' (first | simp only [apply_ite State.pending, apply_ite Prod.fst, apply_ite Prod.snd, apply_ite Done.st, ite_self, implies_true, forall_const, foldl_pending, answer, gnsBody, keyBody, pairBody, svcBody, ticBody, Done.ok_pending, State.setSlotCfg_pending, Done.ok, Done.err] | split)

theorem State.holdoffOut_pending (s : State) (n : Nat) :
    (State.holdoffOut s n).pending = s.pending := by
  unfold State.holdoffOut
  repeat' (first | simp only [apply_ite State.pending, apply_ite Prod.fst, apply_ite Prod.snd, apply_ite Done.st, ite_self, implies_true, forall_const, foldl_pending, State.majRefresh_pending, State.qMove_pending, State.refSelect_pending, State.refTimerOff_pending, Done.ok, Done.err] | split)

theorem State.waitOut_pending (s : State) (n : Nat) :
    (State.waitOut s n).pending = s.pending := by
  unfold State.waitOut
  repeat' (first | simp only [apply_ite State.pending, apply_ite Prod.fst, apply_ite Prod.snd, apply_ite Done.st, ite_self, implies_true, forall_const, foldl_pending, State.majRefresh_pending, State.modSlot_pending, State.qMove_pending, State.refTimerOff_pending, Done.ok, Done.err] | split)

theorem specRefSetTimers_pending (p : Packet) (s : State) :
    (specRefSetTimers.body p s).st.pending = s.pending := by
  unfold specRefSetTimers
  repeat' (first | simp only [apply_ite State.pending, apply_ite Prod.fst, apply_ite Prod.snd, apply_ite Done.st, ite_self, implies_true, forall_const, foldl_pending, answer, gnsBody, keyBody, pairBody, svcBody, ticBody, Done.ok_pending, State.holdoffOut_pending, State.setSlotCfg_pending, State.waitOut_pending, Done.ok, Done.err] | split)

theorem specRefSetPriority_pending (p : Packet) (s : State) :
    (specRefSetPriority.body p s).st.pending = s.pending := by
  unfold specRefSetPriority
  repeat' (first | simp only [apply_ite State.pending, apply_ite Prod.fst, apply_ite Prod.snd, apply_ite Done.st, ite_self, implies_true, forall_const, foldl_pending, answer, gnsBody, keyBody, pairBody, svcBody, ticBody, Done.ok_pending, State.setSlotCfg_pending, Done.ok, Done.err] | split)

theorem specRefSelect_pending (p : Packet) (s : State) :
    (specRefSelect.body p s).st.pending = s.pending := by
  unfold specRefSelect
  repeat' (first | simp only [apply_ite State.pending, apply_ite Prod.fst, apply_ite Prod.snd, apply_ite Done.st, ite_self, implies_true, forall_const, foldl_pending, answer, gnsBody, keyBody, pairBody, svcBody, ticBody, Done.err_pending, Done.ok_pending, State.startSwitch_pending, Done.ok, Done.err] | split)

theorem specRefClearHistory_pending (p : Packet) (s : State) :
    (specRefClearHistory.body p s).st.pending = s.pending := by
  unfold specRefClearHistory
  repeat' (first | simp only [apply_ite State.pending, apply_ite Prod.fst, apply_ite Prod.snd, apply_ite Done.st, ite_self, implies_true, forall_const, foldl_pending, answer, gnsBody, keyBody, pairBody, svcBody, ticBody, Done.ok_pending, State.modSlot_pending, Done.ok, Done.err] | split)

theorem State.refEnableOne_pending (s : State) (n : Nat) (on : Bool) :
    (State.refEnableOne s n on).pending = s.pending := by
  unfold State.refEnableOne
  repeat' (first | simp only [apply_ite State.pending, apply_ite Prod.fst, apply_ite Prod.snd, apply_ite Done.st, ite_self, implies_true, forall_const, foldl_pending, State.cellsReset_pending, State.majRefresh_pending, State.modSlot_pending, State.refAbsent_pending, State.servoHold_pending, State.setSlotCfg_pending, Done.ok, Done.err] | split)

theorem State.refEnable_pending (s : State) (affected : W32) (values : W32) :
    (State.refEnable s affected values).pending = s.pending := by
  unfold State.refEnable
  repeat' (first | simp only [apply_ite State.pending, apply_ite Prod.fst, apply_ite Prod.snd, apply_ite Done.st, ite_self, implies_true, forall_const, foldl_pending, State.refEnableOne_pending, State.refSelect_pending, Done.ok, Done.err] | split)

theorem specRefEnable_pending (p : Packet) (s : State) :
    (specRefEnable.body p s).st.pending = s.pending := by
  unfold specRefEnable
  repeat' (first | simp only [apply_ite State.pending, apply_ite Prod.fst, apply_ite Prod.snd, apply_ite Done.st, ite_self, implies_true, forall_const, foldl_pending, answer, gnsBody, keyBody, pairBody, svcBody, ticBody, Done.ok_pending, State.refEnable_pending, Done.ok, Done.err] | split)

theorem specRefSetPtpSlave_pending (p : Packet) (s : State) :
    (specRefSetPtpSlave.body p s).st.pending = s.pending := by
  unfold specRefSetPtpSlave
  repeat' (first | simp only [apply_ite State.pending, apply_ite Prod.fst, apply_ite Prod.snd, apply_ite Done.st, ite_self, implies_true, forall_const, foldl_pending, answer, gnsBody, keyBody, pairBody, svcBody, ticBody, Done.ok_pending, State.refPresence_pending, State.setSource_pending, Done.ok, Done.err] | split)

theorem State.clockEdge_pending (s0 : State) (n : Nat) (r : Int) (cycles : Nat) :
    (State.clockEdge s0 n r cycles).pending = s0.pending := by
  unfold State.clockEdge
  repeat' (first | simp only [apply_ite State.pending, apply_ite Prod.fst, apply_ite Prod.snd, apply_ite Done.st, ite_self, implies_true, forall_const, foldl_pending, State.modSlot_pending, State.refUpdate_pending, Done.ok, Done.err] | split)

theorem specTicQueryChannel_pending (p : Packet) (s : State) :
    (specTicQueryChannel.body p s).st.pending = s.pending := by
  unfold specTicQueryChannel
  repeat' (first | simp only [apply_ite State.pending, apply_ite Prod.fst, apply_ite Prod.snd, apply_ite Done.st, ite_self, implies_true, forall_const, foldl_pending, answer, gnsBody, keyBody, pairBody, svcBody, ticBody, answer_pending, Done.ok, Done.err] | split)

theorem specTicQueryCal_pending (p : Packet) (s : State) :
    (specTicQueryCal.body p s).st.pending = s.pending := by
  unfold specTicQueryCal
  repeat' (first | simp only [apply_ite State.pending, apply_ite Prod.fst, apply_ite Prod.snd, apply_ite Done.st, ite_self, implies_true, forall_const, foldl_pending, answer, gnsBody, keyBody, pairBody, svcBody, ticBody, answer_pending, Done.ok, Done.err] | split)

theorem State.setTch_pending (s : State) (n : Nat) (f : TicChCfg → TicChCfg) :
    (State.setTch s n f).pending = s.pending := by
  unfold State.setTch
  repeat' (first | simp only [apply_ite State.pending, apply_ite Prod.fst, apply_ite Prod.snd, apply_ite Done.st, ite_self, implies_true, forall_const, foldl_pending, Done.ok, Done.err] | split)

theorem specTicSetChannel_pending (p : Packet) (s : State) :
    (specTicSetChannel.body p s).st.pending = s.pending := by
  unfold specTicSetChannel
  repeat' (first | simp only [apply_ite State.pending, apply_ite Prod.fst, apply_ite Prod.snd, apply_ite Done.st, ite_self, implies_true, forall_const, foldl_pending, answer, gnsBody, keyBody, pairBody, svcBody, ticBody, Done.err_pending, Done.ok_pending, State.setTch_pending, State.ticMark_pending, Done.ok, Done.err] | split)

theorem specTicSetDelay_pending (p : Packet) (s : State) :
    (specTicSetDelay.body p s).st.pending = s.pending := by
  unfold specTicSetDelay
  repeat' (first | simp only [apply_ite State.pending, apply_ite Prod.fst, apply_ite Prod.snd, apply_ite Done.st, ite_self, implies_true, forall_const, foldl_pending, answer, gnsBody, keyBody, pairBody, svcBody, ticBody, Done.err_pending, Done.ok_pending, State.setTch_pending, Done.ok, Done.err] | split)

theorem specTicStartInterval_pending (p : Packet) (s : State) :
    (specTicStartInterval.body p s).st.pending = s.pending := by
  unfold specTicStartInterval
  repeat' (first | simp only [apply_ite State.pending, apply_ite Prod.fst, apply_ite Prod.snd, apply_ite Done.st, ite_self, implies_true, forall_const, foldl_pending, answer, gnsBody, keyBody, pairBody, svcBody, ticBody, Done.err_pending, Done.ok_pending, State.modTch_pending, Done.ok, Done.err] | split)

theorem specTicStream_pending (p : Packet) (s : State) :
    (specTicStream.body p s).st.pending = s.pending := by
  unfold specTicStream
  repeat' (first | simp only [apply_ite State.pending, apply_ite Prod.fst, apply_ite Prod.snd, apply_ite Done.st, ite_self, implies_true, forall_const, foldl_pending, answer, gnsBody, keyBody, pairBody, svcBody, ticBody, Done.err_pending, Done.ok_pending, State.modTch_pending, Done.ok, Done.err] | split)

theorem State.calSkipped_pending (m : BitVec 36) (go : BitVec 36) (s : State) (c : Nat) :
    (State.calSkipped m go s c).pending = s.pending := by
  unfold State.calSkipped
  repeat' (first | simp only [apply_ite State.pending, apply_ite Prod.fst, apply_ite Prod.snd, apply_ite Done.st, ite_self, implies_true, forall_const, foldl_pending, State.calStale_pending, Done.ok, Done.err] | split)

theorem specTicCalibrate_pending (p : Packet) (s : State) :
    (specTicCalibrate.body p s).st.pending = s.pending := by
  unfold specTicCalibrate
  repeat' (first | simp only [apply_ite State.pending, apply_ite Prod.fst, apply_ite Prod.snd, apply_ite Done.st, ite_self, implies_true, forall_const, foldl_pending, answer, gnsBody, keyBody, pairBody, svcBody, ticBody, Done.err_pending, Done.ok_pending, State.calNext_pending, State.calSkipped_pending, Done.ok, Done.err] | split)

theorem State.setSubst_pending (s : State) (p : Packet) :
    (State.setSubst s p).pending = s.pending := by
  unfold State.setSubst
  repeat' (first | simp only [apply_ite State.pending, apply_ite Prod.fst, apply_ite Prod.snd, apply_ite Done.st, ite_self, implies_true, forall_const, foldl_pending, Done.ok, Done.err] | split)

theorem State.unmap_pending (s : State) (i : Nat) :
    (State.unmap s i).pending = s.pending := by
  unfold State.unmap
  repeat' (first | simp only [apply_ite State.pending, apply_ite Prod.fst, apply_ite Prod.snd, apply_ite Done.st, ite_self, implies_true, forall_const, foldl_pending, State.dropSpare_pending, State.faultAssert_pending, State.handOver_pending, State.modSpare_pending, State.raise_pending, State.swap_pending, Done.ok, Done.err] | split)

theorem specTicSubstitute_pending (p : Packet) (s : State) :
    (specTicSubstitute.body p s).st.pending = s.pending := by
  unfold specTicSubstitute
  repeat' (first | simp only [apply_ite State.pending, apply_ite Prod.fst, apply_ite Prod.snd, apply_ite Done.st, ite_self, implies_true, forall_const, foldl_pending, answer, gnsBody, keyBody, pairBody, svcBody, ticBody, Done.err_pending, Done.ok_pending, State.calBreak_pending, State.releaseRolling_pending, State.setSubst_pending, State.swap_pending, State.takeSpare_pending, State.unmap_pending, Done.ok, Done.err] | split)

theorem State.ticGap_pending (s : State) (n : Nat) :
    (State.ticGap s n).pending = s.pending := by
  unfold State.ticGap
  repeat' (first | simp only [apply_ite State.pending, apply_ite Prod.fst, apply_ite Prod.snd, apply_ite Done.st, ite_self, implies_true, forall_const, foldl_pending, State.modTch_pending, Done.ok, Done.err] | split)

theorem State.ticMiss_pending (s : State) (n : Nat) (falling : Bool) :
    (State.ticMiss s n falling).pending = s.pending := by
  unfold State.ticMiss
  repeat' (first | simp only [apply_ite State.pending, apply_ite Prod.fst, apply_ite Prod.snd, apply_ite Done.st, ite_self, implies_true, forall_const, foldl_pending, State.ivMissed_pending, State.modTch_pending, State.ticRaise_pending, Done.ok, Done.err] | split)

theorem State.ticPresent_pending (s : State) (n : Nat) :
    (State.ticPresent s n).pending = s.pending := by
  unfold State.ticPresent
  repeat' (first | simp only [apply_ite State.pending, apply_ite Prod.fst, apply_ite Prod.snd, apply_ite Done.st, ite_self, implies_true, forall_const, foldl_pending, State.modTch_pending, State.ticMark_pending, State.ticRaise_pending, Done.ok, Done.err] | split)

theorem State.ticUse_pending (s : State) (n : Nat) (falling : Bool) (fine : Nat) :
    (State.ticUse s n falling fine).pending = s.pending := by
  unfold State.ticUse
  repeat' (first | simp only [apply_ite State.pending, apply_ite Prod.fst, apply_ite Prod.snd, apply_ite Done.st, ite_self, implies_true, forall_const, foldl_pending, State.ivAsStart_pending, State.ivAsStop_pending, State.ivCheck_pending, State.modTch_pending, State.pairStamp_pending, State.ticPush_pending, Done.ok, Done.err] | split)

theorem State.swapCount_pending (s : State) (n : Nat) (other : Int) :
    (State.swapCount s n other).pending = s.pending := by
  unfold State.swapCount
  repeat' (first | simp only [apply_ite State.pending, apply_ite Prod.fst, apply_ite Prod.snd, apply_ite Done.st, ite_self, implies_true, forall_const, foldl_pending, State.modSpare_pending, Done.ok, Done.err] | split)

theorem State.ticCode_pending (s : State) (n : Nat) (bad : Bool) :
    (State.ticCode s n bad).pending = s.pending := by
  unfold State.ticCode
  repeat' (first | simp only [apply_ite State.pending, apply_ite Prod.fst, apply_ite Prod.snd, apply_ite Done.st, ite_self, implies_true, forall_const, foldl_pending, State.convFail_pending, State.modConv_pending, Done.ok, Done.err] | split)

theorem State.ticStamp_pending (s : State) (n : Nat) (falling : Bool) (fine : Nat) (bad : Bool) (other : Int) :
    (State.ticStamp s n falling fine bad other).pending = s.pending := by
  unfold State.ticStamp
  repeat' (first | simp only [apply_ite State.pending, apply_ite Prod.fst, apply_ite Prod.snd, apply_ite Done.st, ite_self, implies_true, forall_const, foldl_pending, State.modTch_pending, State.swapCount_pending, State.ticCode_pending, State.ticPresent_pending, State.ticUse_pending, Done.ok, Done.err] | split)

theorem State.wrapRecord_pending (s : State) (n : Nat) :
    (State.wrapRecord s n).pending = s.pending := by
  unfold State.wrapRecord
  repeat' (first | simp only [apply_ite State.pending, apply_ite Prod.fst, apply_ite Prod.snd, apply_ite Done.st, ite_self, implies_true, forall_const, foldl_pending, State.ticEnqueue_pending, Done.ok, Done.err] | split)

theorem specTmgQueryQueue_pending (p : Packet) (s : State) :
    (specTmgQueryQueue.body p s).st.pending = s.pending := by
  unfold specTmgQueryQueue
  repeat' (first | simp only [apply_ite State.pending, apply_ite Prod.fst, apply_ite Prod.snd, apply_ite Done.st, ite_self, implies_true, forall_const, foldl_pending, answer, gnsBody, keyBody, pairBody, svcBody, ticBody, State.laneQuery_pending, Done.ok, Done.err] | split)

theorem specTmgQueryGcl_pending (p : Packet) (s : State) :
    (specTmgQueryGcl.body p s).st.pending = s.pending := by
  unfold specTmgQueryGcl
  repeat' (first | simp only [apply_ite State.pending, apply_ite Prod.fst, apply_ite Prod.snd, apply_ite Done.st, ite_self, implies_true, forall_const, foldl_pending, answer, gnsBody, keyBody, pairBody, svcBody, ticBody, State.laneQuery_pending, Done.ok, Done.err] | split)

theorem specTmgSetGcl_pending (p : Packet) (s : State) :
    (specTmgSetGcl.body p s).st.pending = s.pending := by
  unfold specTmgSetGcl
  repeat' (first | simp only [apply_ite State.pending, apply_ite Prod.fst, apply_ite Prod.snd, apply_ite Done.st, ite_self, implies_true, forall_const, foldl_pending, answer, gnsBody, keyBody, pairBody, svcBody, ticBody, Done.err_pending, Done.ok_pending, State.modTLane_pending, State.tmgRaise_pending, Done.ok, Done.err] | split)

theorem specTmgSwapGcl_pending (p : Packet) (s : State) :
    (specTmgSwapGcl.body p s).st.pending = s.pending := by
  unfold specTmgSwapGcl
  repeat' (first | simp only [apply_ite State.pending, apply_ite Prod.fst, apply_ite Prod.snd, apply_ite Done.st, ite_self, implies_true, forall_const, foldl_pending, answer, gnsBody, keyBody, pairBody, svcBody, ticBody, Done.err_pending, Done.ok_pending, State.modTLane_pending, Done.ok, Done.err] | split)

theorem specTmgSetShaper_pending (p : Packet) (s : State) :
    (specTmgSetShaper.body p s).st.pending = s.pending := by
  unfold specTmgSetShaper
  repeat' (first | simp only [apply_ite State.pending, apply_ite Prod.fst, apply_ite Prod.snd, apply_ite Done.st, ite_self, implies_true, forall_const, foldl_pending, answer, gnsBody, keyBody, pairBody, svcBody, ticBody, Done.err_pending, Done.ok_pending, State.setTmgCfg_pending, Done.ok, Done.err] | split)

theorem specTmgSetPolicer_pending (p : Packet) (s : State) :
    (specTmgSetPolicer.body p s).st.pending = s.pending := by
  unfold specTmgSetPolicer
  repeat' (first | simp only [apply_ite State.pending, apply_ite Prod.fst, apply_ite Prod.snd, apply_ite Done.st, ite_self, implies_true, forall_const, foldl_pending, answer, gnsBody, keyBody, pairBody, svcBody, ticBody, Done.err_pending, Done.ok_pending, State.modPol_pending, State.setTmgCfg_pending, Done.ok, Done.err] | split)

theorem specTmgSetFilter_pending (p : Packet) (s : State) :
    (specTmgSetFilter.body p s).st.pending = s.pending := by
  unfold specTmgSetFilter
  repeat' (first | simp only [apply_ite State.pending, apply_ite Prod.fst, apply_ite Prod.snd, apply_ite Done.st, ite_self, implies_true, forall_const, foldl_pending, answer, gnsBody, keyBody, pairBody, svcBody, ticBody, Done.err_pending, Done.ok_pending, State.setTmgCfg_pending, Done.ok, Done.err] | split)

theorem specTmgSetSampling_pending (p : Packet) (s : State) :
    (specTmgSetSampling.body p s).st.pending = s.pending := by
  unfold specTmgSetSampling
  repeat' (first | simp only [apply_ite State.pending, apply_ite Prod.fst, apply_ite Prod.snd, apply_ite Done.st, ite_self, implies_true, forall_const, foldl_pending, answer, gnsBody, keyBody, pairBody, svcBody, ticBody, Done.err_pending, Done.ok_pending, State.setTmgCfg_pending, Done.ok, Done.err] | split)

theorem State.answerRead_pending (s : State) (w : W32) :
    (State.answerRead s w).pending = s.pending := by
  unfold State.answerRead
  repeat' (first | simp only [apply_ite State.pending, apply_ite Prod.fst, apply_ite Prod.snd, apply_ite Done.st, ite_self, implies_true, forall_const, foldl_pending, Done.ok, Done.err] | split)

theorem State.ringRefuse_pending (s : State) (n : Nat) :
    (State.ringRefuse s n).pending = s.pending := by
  unfold State.ringRefuse
  repeat' (first | simp only [apply_ite State.pending, apply_ite Prod.fst, apply_ite Prod.snd, apply_ite Done.st, ite_self, implies_true, forall_const, foldl_pending, State.irq_pending, State.modRing_pending, State.refuseWrite_pending, Done.ok, Done.err] | split)

theorem State.prodWrite_pending (s : State) (n : Nat) (v : BitVec 32) :
    (State.prodWrite s n v).pending = s.pending := by
  unfold State.prodWrite
  repeat' (first | simp only [apply_ite State.pending, apply_ite Prod.fst, apply_ite Prod.snd, apply_ite Done.st, ite_self, implies_true, forall_const, foldl_pending, State.modRing_pending, State.ringRefuse_pending, Done.ok, Done.err] | split)

theorem State.consWrite_pending (s : State) (n : Nat) (v : BitVec 32) :
    (State.consWrite s n v).pending = s.pending := by
  unfold State.consWrite
  repeat' (first | simp only [apply_ite State.pending, apply_ite Prod.fst, apply_ite Prod.snd, apply_ite Done.st, ite_self, implies_true, forall_const, foldl_pending, State.acqResume_pending, State.modRing_pending, State.ringRefuse_pending, Done.ok, Done.err] | split)

theorem State.pointerWrite_pending (s : State) (m : BitVec 4) (n : Nat) (prod : Bool) (v : BitVec 32) :
    (State.pointerWrite s m n prod v).pending = s.pending := by
  unfold State.pointerWrite
  repeat' (first | simp only [apply_ite State.pending, apply_ite Prod.fst, apply_ite Prod.snd, apply_ite Done.st, ite_self, implies_true, forall_const, foldl_pending, State.consWrite_pending, State.prodWrite_pending, State.refuseWrite_pending, Done.ok, Done.err] | split)

theorem State.exportSlot_pending (s : State) :
    (State.exportSlot s).pending = s.pending := by
  unfold State.exportSlot
  repeat' (first | simp only [apply_ite State.pending, apply_ite Prod.fst, apply_ite Prod.snd, apply_ite Done.st, ite_self, implies_true, forall_const, foldl_pending, State.ringPush_pending, Done.ok, Done.err] | split)

theorem State.replaySlot_pending (s : State) :
    (State.replaySlot s).pending = s.pending := by
  unfold State.replaySlot
  repeat' (first | simp only [apply_ite State.pending, apply_ite Prod.fst, apply_ite Prod.snd, apply_ite Done.st, ite_self, implies_true, forall_const, foldl_pending, State.irq_pending, State.release_pending, State.ringPush_pending, Done.ok, Done.err] | split)

theorem State.manifestSlot_pending (s : State) :
    (State.manifestSlot s).pending = s.pending := by
  unfold State.manifestSlot
  repeat' (first | simp only [apply_ite State.pending, apply_ite Prod.fst, apply_ite Prod.snd, apply_ite Done.st, ite_self, implies_true, forall_const, foldl_pending, State.ringPush_pending, Done.ok, Done.err] | split)

theorem State.mirrorSlot_pending (s : State) :
    (State.mirrorSlot s).pending = s.pending := by
  unfold State.mirrorSlot
  repeat' (first | simp only [apply_ite State.pending, apply_ite Prod.fst, apply_ite Prod.snd, apply_ite Done.st, ite_self, implies_true, forall_const, foldl_pending, State.ringPush_pending, Done.ok, Done.err] | split)

theorem State.streamSlot_pending (s : State) (k : Nat) :
    (State.streamSlot s k).pending = s.pending := by
  unfold State.streamSlot
  repeat' (first | simp only [apply_ite State.pending, apply_ite Prod.fst, apply_ite Prod.snd, apply_ite Done.st, ite_self, implies_true, forall_const, foldl_pending, State.modTch_pending, State.ringPush_pending, Done.ok, Done.err] | split)

theorem State.latchOut_pending (s : State) :
    (State.latchOut s).pending = s.pending := by
  unfold State.latchOut
  repeat' (first | simp only [apply_ite State.pending, apply_ite Prod.fst, apply_ite Prod.snd, apply_ite Done.st, ite_self, implies_true, forall_const, foldl_pending, State.ringPush_pending, Done.ok, Done.err] | split)

theorem State.acqOut_pending (s : State) :
    (State.acqOut s).pending = s.pending := by
  unfold State.acqOut
  repeat' (first | simp only [apply_ite State.pending, apply_ite Prod.fst, apply_ite Prod.snd, apply_ite Done.st, ite_self, implies_true, forall_const, foldl_pending, State.acqEnd_pending, State.ringPush_pending, Done.ok, Done.err] | split)

theorem State.snapOut_pending (s : State) :
    (State.snapOut s).pending = s.pending := by
  unfold State.snapOut
  repeat' (first | simp only [apply_ite State.pending, apply_ite Prod.fst, apply_ite Prod.snd, apply_ite Done.st, ite_self, implies_true, forall_const, foldl_pending, State.ringPush_pending, Done.ok, Done.err] | split)

theorem State.navOut_pending (s : State) :
    (State.navOut s).pending = s.pending := by
  unfold State.navOut
  repeat' (first | simp only [apply_ite State.pending, apply_ite Prod.fst, apply_ite Prod.snd, apply_ite Done.st, ite_self, implies_true, forall_const, foldl_pending, State.ringPush_pending, Done.ok, Done.err] | split)

theorem State.slotOut_pending (s : State) (n : Nat) :
    (State.slotOut s n).pending = s.pending := by
  unfold State.slotOut
  repeat' (first | simp only [apply_ite State.pending, apply_ite Prod.fst, apply_ite Prod.snd, apply_ite Done.st, ite_self, implies_true, forall_const, foldl_pending, State.acqOut_pending, State.exportSlot_pending, State.latchOut_pending, State.manifestSlot_pending, State.mirrorSlot_pending, State.navOut_pending, State.replaySlot_pending, State.snapOut_pending, State.stageSend_pending, State.streamSlot_pending, Done.ok, Done.err] | split)

theorem State.flr_pending (s : State) :
    (State.flr s).pending = s.pending := by
  unfold State.flr
  repeat' (first | simp only [apply_ite State.pending, apply_ite Prod.fst, apply_ite Prod.snd, apply_ite Done.st, ite_self, implies_true, forall_const, foldl_pending, State.raise_pending, State.ringsDown_pending, Done.ok, Done.err] | split)

theorem State.mbxGo_pending (s : State) (n : Nat) :
    (State.mbxGo s n).pending = s.pending := by
  unfold State.mbxGo
  repeat' (first | simp only [apply_ite State.pending, apply_ite Prod.fst, apply_ite Prod.snd, apply_ite Done.st, ite_self, implies_true, forall_const, foldl_pending, State.irq_pending, State.modMbx_pending, State.powerUp_pending, Done.ok, Done.err] | split)

theorem State.mbxSend_pending (s : State) (m : BitVec 4) (n : Nat) :
    (State.mbxSend s m n).pending = s.pending := by
  unfold State.mbxSend
  repeat' (first | simp only [apply_ite State.pending, apply_ite Prod.fst, apply_ite Prod.snd, apply_ite Done.st, ite_self, implies_true, forall_const, foldl_pending, State.mbxGo_pending, State.modMbx_pending, State.refuseWrite_pending, Done.ok, Done.err] | split)

theorem State.mbxTake_pending (s : State) (m : BitVec 4) (n : Nat) :
    (State.mbxTake s m n).pending = s.pending := by
  unfold State.mbxTake
  repeat' (first | simp only [apply_ite State.pending, apply_ite Prod.fst, apply_ite Prod.snd, apply_ite Done.st, ite_self, implies_true, forall_const, foldl_pending, State.answerRead_pending, State.irq_pending, State.modMbx_pending, State.refuseWrite_pending, Done.ok, Done.err] | split)

theorem State.replyPut_pending (s : State) (r : Reply) :
    (State.replyPut s r).pending = s.pending := by
  unfold State.replyPut
  repeat' (first | simp only [apply_ite State.pending, apply_ite Prod.fst, apply_ite Prod.snd, apply_ite Done.st, ite_self, implies_true, forall_const, foldl_pending, State.mbxGo_pending, State.modMbx_pending, State.ringPush_pending, Done.ok, Done.err] | split)

theorem State.replyNext_pending (s : State) :
    (State.replyNext s).pending = s.pending := by
  unfold State.replyNext
  repeat' (first | simp only [apply_ite State.pending, apply_ite Prod.fst, apply_ite Prod.snd, apply_ite Done.st, ite_self, implies_true, forall_const, foldl_pending, State.replyPut_pending, Done.ok, Done.err] | split)

theorem State.semLogged_pending (s : State) (m : BitVec 4) (i : Nat) (r : Bool × BitVec 4) :
    (State.semLogged s m i r).pending = s.pending := by
  unfold State.semLogged
  repeat' (first | simp only [apply_ite State.pending, apply_ite Prod.fst, apply_ite Prod.snd, apply_ite Done.st, ite_self, implies_true, forall_const, foldl_pending, State.logPut_pending, Done.ok, Done.err] | split)

theorem State.semRead_pending (s : State) (m : BitVec 4) (i : Nat) :
    (State.semRead s m i).pending = s.pending := by
  unfold State.semRead
  repeat' (first | simp only [apply_ite State.pending, apply_ite Prod.fst, apply_ite Prod.snd, apply_ite Done.st, ite_self, implies_true, forall_const, foldl_pending, State.answerRead_pending, State.semLogged_pending, State.semPut_pending, Done.ok, Done.err] | split)

theorem State.readDenied_pending (s : State) :
    (State.readDenied s).pending = s.pending := by
  unfold State.readDenied
  repeat' (first | simp only [apply_ite State.pending, apply_ite Prod.fst, apply_ite Prod.snd, apply_ite Done.st, ite_self, implies_true, forall_const, foldl_pending, State.answerRead_pending, State.refuseWrite_pending, Done.ok, Done.err] | split)

theorem State.semRelease_pending (s : State) (m : BitVec 4) (i : Nat) :
    (State.semRelease s m i).pending = s.pending := by
  unfold State.semRelease
  repeat' (first | simp only [apply_ite State.pending, apply_ite Prod.fst, apply_ite Prod.snd, apply_ite Done.st, ite_self, implies_true, forall_const, foldl_pending, State.refuseWrite_pending, State.semPut_pending, Done.ok, Done.err] | split)

theorem State.latchWords_pending (s : State) (m : BitVec 4) (addr : W32) (ws : List W32) :
    (State.latchWords s m addr ws).pending = s.pending := by
  unfold State.latchWords
  repeat' (first | simp only [apply_ite State.pending, apply_ite Prod.fst, apply_ite Prod.snd, apply_ite Done.st, ite_self, implies_true, forall_const, foldl_pending, State.answerRead_pending, State.latch_pending, Done.ok, Done.err] | split)

theorem State.popGns_pending (s : State) (m : BitVec 4) (addr : W32) (k : Nat) :
    (State.popGns s m addr k).pending = s.pending := by
  unfold State.popGns
  repeat' (first | simp only [apply_ite State.pending, apply_ite Prod.fst, apply_ite Prod.snd, apply_ite Done.st, ite_self, implies_true, forall_const, foldl_pending, State.latchWords_pending, State.modTrk_pending, Done.ok, Done.err] | split)

theorem State.popTic_pending (s : State) (m : BitVec 4) (addr : W32) (n : Nat) :
    (State.popTic s m addr n).pending = s.pending := by
  unfold State.popTic
  repeat' (first | simp only [apply_ite State.pending, apply_ite Prod.fst, apply_ite Prod.snd, apply_ite Done.st, ite_self, implies_true, forall_const, foldl_pending, State.latchWords_pending, State.modTch_pending, Done.ok, Done.err] | split)

theorem State.popMains_pending (s : State) (m : BitVec 4) (addr : W32) :
    (State.popMains s m addr).pending = s.pending := by
  unfold State.popMains
  repeat' (first | simp only [apply_ite State.pending, apply_ite Prod.fst, apply_ite Prod.snd, apply_ite Done.st, ite_self, implies_true, forall_const, foldl_pending, State.latchWords_pending, State.modMon_pending, Done.ok, Done.err] | split)

theorem State.inDomain_pending (s : State) (d : Nat) (t : State) (h : t.pending = s.pending) : (s.inDomain d t).pending = s.pending := by
  unfold State.inDomain
  split
  · exact h
  · rw [State.answerRead_pending]

theorem Rc.read_pending (s : State) (r : Rc) (h : r.cleared.pending = s.pending) (m : BitVec 4) (addr : W32) :
    (r.read m addr).pending = s.pending := by
  unfold Rc.read
  simp only [State.answerRead_pending, apply_ite State.pending, State.latch_pending, h, ite_self]

theorem popAt_pending (a : Nat) (p : Nat × Nat × (State → BitVec 4 → W32 → State)) (h : popAt a = some p) (s : State)
    (m : BitVec 4) (addr : W32) : (p.2.2 s m addr).pending = s.pending := by
  unfold popAt at h
  repeat' split at h
  all_goals cases h
  all_goals simp only [State.popGns_pending, State.popTic_pending, State.popMains_pending]

theorem State.rcSys_pending (s : State) (a : Nat) (r : Rc) (h : s.rcSys a = some r) : r.cleared.pending = s.pending := by
  unfold State.rcSys at h
  try dsimp only at h
  repeat' split at h
  all_goals first
    | (unfold rc32 at h; cases h; rfl)
    | (unfold rc64 at h; cases h; rfl)
    | cases h

theorem State.rcOut_pending (s : State) (a : Nat) (r : Rc) (h : s.rcOut a = some r) : r.cleared.pending = s.pending := by
  unfold State.rcOut at h
  try dsimp only at h
  repeat' split at h
  all_goals first
    | (unfold rc32 at h; cases h; rfl)
    | (unfold rc64 at h; cases h; rfl)
    | cases h

theorem State.rcTicCh_pending (s : State) (n off : Nat) (r : Rc) (h : s.rcTicCh n off = some r) : r.cleared.pending = s.pending := by
  unfold State.rcTicCh at h
  try dsimp only at h
  repeat' split at h
  all_goals first
    | (unfold rc32 at h; cases h; rfl)
    | (unfold rc64 at h; cases h; rfl)
    | cases h

theorem State.rcTic_pending (s : State) (a : Nat) (r : Rc) (h : s.rcTic a = some r) : r.cleared.pending = s.pending := by
  unfold State.rcTic at h
  try dsimp only at h
  repeat' split at h
  all_goals first
    | (unfold rc32 at h; cases h; rfl)
    | (unfold rc64 at h; cases h; rfl)
    | cases h
    | exact State.rcTicCh_pending _ _ _ _ h

theorem State.rcGns_pending (s : State) (a : Nat) (r : Rc) (h : s.rcGns a = some r) : r.cleared.pending = s.pending := by
  unfold State.rcGns at h
  try dsimp only at h
  repeat' split at h
  all_goals first
    | (unfold rc32 at h; cases h; rfl)
    | (unfold rc64 at h; cases h; rfl)
    | cases h

theorem State.rcEthLane_pending (s : State) (l off : Nat) (r : Rc) (h : s.rcEthLane l off = some r) : r.cleared.pending = s.pending := by
  unfold State.rcEthLane at h
  try dsimp only at h
  repeat' split at h
  all_goals first
    | (unfold rc32 at h; cases h; rfl)
    | (unfold rc64 at h; cases h; rfl)
    | cases h

theorem State.rcEth_pending (s : State) (a : Nat) (r : Rc) (h : s.rcEth a = some r) : r.cleared.pending = s.pending := by
  unfold State.rcEth at h
  try dsimp only at h
  repeat' split at h
  all_goals first
    | (unfold rc32 at h; cases h; rfl)
    | (unfold rc64 at h; cases h; rfl)
    | cases h
    | exact State.rcEthLane_pending _ _ _ _ h

theorem State.rcTmgQ_pending (s : State) (q off : Nat) (r : Rc) (h : s.rcTmgQ q off = some r) : r.cleared.pending = s.pending := by
  unfold State.rcTmgQ at h
  try dsimp only at h
  repeat' split at h
  all_goals first
    | (unfold rc32 at h; cases h; rfl)
    | (unfold rc64 at h; cases h; rfl)
    | cases h

theorem State.rcPol_pending (s : State) (p off : Nat) (r : Rc) (h : s.rcPol p off = some r) : r.cleared.pending = s.pending := by
  unfold State.rcPol at h
  try dsimp only at h
  repeat' split at h
  all_goals first
    | (unfold rc32 at h; cases h; rfl)
    | (unfold rc64 at h; cases h; rfl)
    | cases h

theorem State.rcTmgLane_pending (s : State) (l off : Nat) (r : Rc) (h : s.rcTmgLane l off = some r) : r.cleared.pending = s.pending := by
  unfold State.rcTmgLane at h
  try dsimp only at h
  repeat' split at h
  all_goals first
    | (unfold rc32 at h; cases h; rfl)
    | (unfold rc64 at h; cases h; rfl)
    | cases h

theorem State.rcTmg_pending (s : State) (a : Nat) (r : Rc) (h : s.rcTmg a = some r) : r.cleared.pending = s.pending := by
  unfold State.rcTmg at h
  try dsimp only at h
  repeat' split at h
  all_goals first
    | (unfold rc32 at h; cases h; rfl)
    | (unfold rc64 at h; cases h; rfl)
    | cases h
    | exact State.rcTmgLane_pending _ _ _ _ h
    | exact State.rcTmgQ_pending _ _ _ _ h
    | exact State.rcPol_pending _ _ _ _ h

theorem State.rcPort_pending (s : State) (k off : Nat) (r : Rc) (h : s.rcPort k off = some r) : r.cleared.pending = s.pending := by
  unfold State.rcPort at h
  try dsimp only at h
  repeat' split at h
  all_goals first
    | (unfold rc32 at h; cases h; rfl)
    | (unfold rc64 at h; cases h; rfl)
    | cases h

theorem State.rcSvc_pending (s : State) (a : Nat) (r : Rc) (h : s.rcSvc a = some r) : r.cleared.pending = s.pending := by
  unfold State.rcSvc at h
  try dsimp only at h
  repeat' split at h
  all_goals first
    | (unfold rc32 at h; cases h; rfl)
    | (unfold rc64 at h; cases h; rfl)
    | cases h
    | exact State.rcPort_pending _ _ _ _ h

theorem State.rcFlt_pending (s : State) (a : Nat) (r : Rc) (h : s.rcFlt a = some r) : r.cleared.pending = s.pending := by
  unfold State.rcFlt at h
  try dsimp only at h
  repeat' split at h
  all_goals first
    | (unfold rc32 at h; cases h; rfl)
    | (unfold rc64 at h; cases h; rfl)
    | cases h

theorem State.rcLog_pending (s : State) (a : Nat) (r : Rc) (h : s.rcLog a = some r) : r.cleared.pending = s.pending := by
  unfold State.rcLog at h
  try dsimp only at h
  repeat' split at h
  all_goals first
    | (unfold rc32 at h; cases h; rfl)
    | (unfold rc64 at h; cases h; rfl)
    | cases h

theorem State.rcMon_pending (s : State) (a : Nat) (r : Rc) (h : s.rcMon a = some r) : r.cleared.pending = s.pending := by
  unfold State.rcMon at h
  try dsimp only at h
  repeat' split at h
  all_goals first
    | (unfold rc32 at h; cases h; rfl)
    | (unfold rc64 at h; cases h; rfl)
    | cases h

theorem State.rcKeep_pending (s : State) (a : Nat) (r : Rc) (h : s.rcKeep a = some r) : r.cleared.pending = s.pending := by
  unfold State.rcKeep at h
  try dsimp only at h
  repeat' split at h
  all_goals first
    | (unfold rc32 at h; cases h; rfl)
    | (unfold rc64 at h; cases h; rfl)
    | cases h

theorem State.rcAt_pending (s : State) (a : Nat) (r : Rc) (h : s.rcAt a = some r) : r.cleared.pending = s.pending := by
  unfold State.rcAt at h
  obtain ⟨f, hf, hr⟩ := List.exists_of_findSome?_eq_some h
  simp only [List.mem_cons, List.not_mem_nil, or_false] at hf
  rcases hf with rfl | rfl | rfl | rfl | rfl | rfl | rfl | rfl | rfl | rfl | rfl
  · exact State.rcSys_pending s a r hr
  · exact State.rcOut_pending s a r hr
  · exact State.rcTic_pending s a r hr
  · exact State.rcGns_pending s a r hr
  · exact State.rcEth_pending s a r hr
  · exact State.rcTmg_pending s a r hr
  · exact State.rcSvc_pending s a r hr
  · exact State.rcFlt_pending s a r hr
  · exact State.rcLog_pending s a r hr
  · exact State.rcMon_pending s a r hr
  · exact State.rcKeep_pending s a r hr

theorem State.readReg_pending (m : BitVec 4) (addr : W32) (s : State) : (State.readReg m addr s).pending = s.pending := by
  unfold State.readReg
  generalize addr.toNat = a
  dsimp only
  split
  · rw [State.readDenied_pending]
  · split
    · rw [State.answerRead_pending]
    · split
      · rw [State.mbxTake_pending]
      · rw [State.semRead_pending]
      · split
        · exact State.inDomain_pending _ _ _ (popAt_pending a _ ‹popAt a = some _› _ _ _)
        · exact State.inDomain_pending _ _ _ (Rc.read_pending _ _ (State.rcAt_pending _ a _ ‹s.rcAt a = some _›) _ _)
        · exact State.inDomain_pending _ _ _ (State.latchWords_pending ..)
        · generalize s.laterIn a = x
          generalize s.regGet a = y
          split
          · exact State.inDomain_pending _ _ _ (State.answerRead_pending ..)
          · exact State.inDomain_pending _ _ _ (State.answerRead_pending ..)
          · rw [State.answerRead_pending]

theorem State.readBurst_pending (m : BitVec 4) (s : State) (addr : W32) :
    (State.readBurst m s addr).pending = s.pending := by
  unfold State.readBurst
  repeat' (first | simp only [apply_ite State.pending, apply_ite Prod.fst, apply_ite Prod.snd, apply_ite Done.st, ite_self, implies_true, forall_const, foldl_pending, State.readReg_pending, Done.ok, Done.err] | split)

theorem State.hostW1c_pending (s : State) (g : Nat) (v : BitVec 32) :
    (State.hostW1c s g v).pending = s.pending := by
  unfold State.hostW1c
  repeat' (first | simp only [apply_ite State.pending, apply_ite Prod.fst, apply_ite Prod.snd, apply_ite Done.st, ite_self, implies_true, forall_const, foldl_pending, Done.ok, Done.err] | split)

theorem State.pinW1c_pending (s : State) (g : Nat) (v : BitVec 32) :
    (State.pinW1c s g v).pending = s.pending := by
  unfold State.pinW1c
  repeat' (first | simp only [apply_ite State.pending, apply_ite Prod.fst, apply_ite Prod.snd, apply_ite Done.st, ite_self, implies_true, forall_const, foldl_pending, Done.ok, Done.err] | split)

theorem State.statusWrite_pending (m : BitVec 4) (addr : W32) (v : W32) (s : State) :
    (State.statusWrite m addr v s).pending = s.pending := by
  unfold State.statusWrite
  repeat' (first | simp only [apply_ite State.pending, apply_ite Prod.fst, apply_ite Prod.snd, apply_ite Done.st, ite_self, implies_true, forall_const, foldl_pending, State.hostW1c_pending, State.pinW1c_pending, State.refuseWrite_pending, Done.ok, Done.err] | split)

theorem State.mbxData_pending (s : State) (m : BitVec 4) (n : Nat) (i : Nat) (v : W32) :
    (State.mbxData s m n i v).pending = s.pending := by
  unfold State.mbxData
  repeat' (first | simp only [apply_ite State.pending, apply_ite Prod.fst, apply_ite Prod.snd, apply_ite Done.st, ite_self, implies_true, forall_const, foldl_pending, State.modMbx_pending, State.refuseWrite_pending, Done.ok, Done.err] | split)

theorem State.mbxWrite_pending (s : State) (m : BitVec 4) (a : Nat) (v : W32) :
    (State.mbxWrite s m a v).pending = s.pending := by
  unfold State.mbxWrite
  repeat' (first | simp only [apply_ite State.pending, apply_ite Prod.fst, apply_ite Prod.snd, apply_ite Done.st, ite_self, implies_true, forall_const, foldl_pending, State.mbxData_pending, State.mbxSend_pending, State.refuseWrite_pending, State.semRelease_pending, Done.ok, Done.err] | split)

theorem State.maskWrite_pending (s : State) (m : BitVec 4) (a : Nat) (v : W32) :
    (State.maskWrite s m a v).pending = s.pending := by
  unfold State.maskWrite
  repeat' (first | simp only [apply_ite State.pending, apply_ite Prod.fst, apply_ite Prod.snd, apply_ite Done.st, ite_self, implies_true, forall_const, foldl_pending, State.refuseWrite_pending, State.statusWrite_pending, Done.ok, Done.err] | split)

theorem State.dmaWrite_pending (s : State) (m : BitVec 4) (a : Nat) (v : W32) :
    (State.dmaWrite s m a v).pending = s.pending := by
  unfold State.dmaWrite
  repeat' (first | simp only [apply_ite State.pending, apply_ite Prod.fst, apply_ite Prod.snd, apply_ite Done.st, ite_self, implies_true, forall_const, foldl_pending, State.modRing_pending, State.pointerWrite_pending, State.refuseWrite_pending, Done.ok, Done.err] | split)

theorem State.gnsWrite_pending (s : State) (m : BitVec 4) (a : Nat) (v : W32) :
    (s.gnsWrite m a v).pending = s.pending := by
  unfold State.gnsWrite State.gnsEngineWrite
  repeat' split
  all_goals first
    | rfl
    | simp only [State.refuseWrite_pending, Option.getD_some, Option.getD_none]

theorem State.regWrite_pending (m : BitVec 4) (addr v : W32) (s : State) :
    (State.regWrite m addr v s).pending = s.pending := by
  unfold State.regWrite
  dsimp only
  repeat' split
  all_goals try simp only [State.mbxWrite_pending, State.maskWrite_pending, State.dmaWrite_pending, State.gnsWrite_pending, State.refuseWrite_pending]
  rename_i heq _
  unfold State.srcWrite at heq
  repeat' split at heq
  all_goals first
    | (injection heq with heq; rw [← heq])
    | cases heq

theorem State.unlisted_pending (s : State) (opcode : Nat) (p : Packet) :
    (State.unlisted s opcode p).pending = s.pending := by
  unfold State.unlisted
  repeat' (first | simp only [apply_ite State.pending, apply_ite Prod.fst, apply_ite Prod.snd, apply_ite Done.st, ite_self, implies_true, forall_const, foldl_pending, State.fetchStall_pending, State.fetched_pending, State.finish_pending, Done.ok, Done.err] | split)

theorem State.clockStep_pending (s0 : State) (x : Int) (s : State) (n : Nat) :
    (State.clockStep s0 x s n).pending = s.pending := by
  unfold State.clockStep
  repeat' (first | simp only [apply_ite State.pending, apply_ite Prod.fst, apply_ite Prod.snd, apply_ite Done.st, ite_self, implies_true, forall_const, foldl_pending, State.outStep_pending, State.syncRun_pending, Done.ok, Done.err] | split)

theorem State.pulseStep_pending (old : Nat) (acq : Bool) (s : State) (m : Nat) :
    (State.pulseStep old acq s m).pending = s.pending := by
  unfold State.pulseStep
  repeat' (first | simp only [apply_ite State.pending, apply_ite Prod.fst, apply_ite Prod.snd, apply_ite Done.st, ite_self, implies_true, forall_const, foldl_pending, State.tpAcq_pending, State.tpStep_pending, Done.ok, Done.err] | split)

theorem State.outputsStep_pending (s : State) (old : Nat) (x : Int) (acq : Bool) :
    (State.outputsStep s old x acq).pending = s.pending := by
  unfold State.outputsStep
  repeat' (first | simp only [apply_ite State.pending, apply_ite Prod.fst, apply_ite Prod.snd, apply_ite Done.st, ite_self, implies_true, forall_const, foldl_pending, State.clockStep_pending, State.pulseStep_pending, State.todStep_pending, Done.ok, Done.err] | split)

theorem State.latchStep_pending (s : State) (old : Nat) :
    (State.latchStep s old).pending = s.pending := by
  unfold State.latchStep
  repeat' (first | simp only [apply_ite State.pending, apply_ite Prod.fst, apply_ite Prod.snd, apply_ite Done.st, ite_self, implies_true, forall_const, foldl_pending, State.raise_pending, Done.ok, Done.err] | split)

theorem State.bookingsStep_pending (old : Nat) (s : State) (l : Nat) :
    (State.bookingsStep old s l).pending = s.pending := by
  unfold State.bookingsStep
  repeat' (first | simp only [apply_ite State.pending, apply_ite Prod.fst, apply_ite Prod.snd, apply_ite Done.st, ite_self, implies_true, forall_const, foldl_pending, State.missSlot_pending, Done.ok, Done.err] | split)

theorem State.laneStep_pending (old : Nat) (x : Int) (s : State) (l : Nat) :
    (State.laneStep old x s l).pending = s.pending := by
  unfold State.laneStep
  repeat' (first | simp only [apply_ite State.pending, apply_ite Prod.fst, apply_ite Prod.snd, apply_ite Done.st, ite_self, implies_true, forall_const, foldl_pending, State.bookingsStep_pending, State.gateEval_pending, State.stepWire_pending, Done.ok, Done.err] | split)

theorem State.lanesStep_pending (s : State) (old : Nat) (x : Int) :
    (State.lanesStep s old x).pending = s.pending := by
  unfold State.lanesStep
  repeat' (first | simp only [apply_ite State.pending, apply_ite Prod.fst, apply_ite Prod.snd, apply_ite Done.st, ite_self, implies_true, forall_const, foldl_pending, State.laneStep_pending, State.swapsDue_pending, Done.ok, Done.err] | split)

theorem State.stepDone_pending (s : State) :
    (State.stepDone s).pending = s.pending := by
  unfold State.stepDone
  repeat' (first | simp only [apply_ite State.pending, apply_ite Prod.fst, apply_ite Prod.snd, apply_ite Done.st, ite_self, implies_true, forall_const, foldl_pending, State.raise_pending, State.switchDone_pending, Done.ok, Done.err] | split)

theorem State.slaveAnnounce_pending (s : State) (n : Nat) (classMax : BitVec 8) (clockClass : BitVec 8) (masterId : BitVec 64) (log : BitVec 8) :
    (State.slaveAnnounce s n classMax clockClass masterId log).pending = s.pending := by
  unfold State.slaveAnnounce
  repeat' (first | simp only [apply_ite State.pending, apply_ite Prod.fst, apply_ite Prod.snd, apply_ite Done.st, ite_self, implies_true, forall_const, foldl_pending, State.modSlot_pending, State.refHist_pending, State.setSource_pending, Done.ok, Done.err] | split)

theorem OpSpec.run_pending (o : OpSpec) (hb : ∀ p s, (o.body p s).st.pending = s.pending) (p : Packet) (s : State) :
    (o.run p s).st.pending = s.pending := by
  unfold OpSpec.run
  repeat' (first
    | simp only [Done.err, hb, State.commitCsp_pending, State.keepWrite_pending, State.keepRowFail_pending]
    | split)

theorem OpSpec.execute_pending (o : OpSpec) (hb : ∀ p s, (o.body p s).st.pending = s.pending) (p : Packet) (s : State) (f : Bool) :
    (o.execute p s f).pending = s.pending := by
  unfold OpSpec.execute
  repeat' (first
    | simp only [State.finish_pending, State.countRefused_pending, State.settle_pending, OpSpec.run_pending o hb]
    | split)

theorem OpSpec.accept_pending (o : OpSpec) (hb : ∀ p s, (o.body p s).st.pending = s.pending) (p : Packet) (s : State) :
    (o.accept p s).pending = s.pending := by
  unfold OpSpec.accept
  repeat' (first
    | simp only [State.finish_pending, State.countRefused_pending, State.enqueue_pending, State.reply_pending, State.countStatus_pending,
        OpSpec.execute_pending o hb]
    | split)

/-- A packet changes the queue of waiting commands only through the body of its opcode. -/
theorem State.takePacket_pending (o : OpSpec) (hb : ∀ p s, (o.body p s).st.pending = s.pending) (p : Packet) (s : State) :
    (s.takePacket o p).pending = s.pending := by
  unfold State.takePacket
  repeat' (first
    | simp only [State.finish_pending, State.fetched_pending, State.fetchStall_pending, OpSpec.accept_pending o hb]
    | split)

theorem specsSys_pending (o : OpSpec) (h : o ∈ specsSys) (p : Packet) (s : State) : (o.body p s).st.pending = s.pending := by
  simp only [specsSys, List.mem_cons, List.not_mem_nil, or_false] at h
  rcases h with rfl | rfl | rfl | rfl | rfl | rfl | rfl | rfl | rfl | rfl | rfl | rfl | rfl | rfl | rfl | rfl | rfl | rfl | rfl | rfl | rfl <;>
    simp only [specSysQueryState_pending, specSysQueryCounters_pending, specSysEcho_pending, specSysSetState_pending, specSysClearSafe_pending, specSysDomainPower_pending, specSysSleep_pending, specSysWake_pending, specSysReset_pending, specSysFwStage_pending, specSysFwActivate_pending, specSysSetMbxRoute_pending, specSysSetSemCfg_pending, specSysSemForce_pending, specSysRingConfig_pending, specSysRingEnable_pending, specSysIntRoute_pending, specSysCancel_pending, specSysBltUnlock_pending, specSysBltSelect_pending, specSysBistRun_pending]

theorem specsRef_pending (o : OpSpec) (h : o ∈ specsRef) (p : Packet) (s : State) : (o.body p s).st.pending = s.pending := by
  simp only [specsRef, List.mem_cons, List.not_mem_nil, or_false] at h
  rcases h with rfl | rfl | rfl | rfl | rfl | rfl | rfl | rfl | rfl | rfl | rfl <;>
    simp only [specRefQuerySlot_pending, specRefQueryMatrix_pending, specRefQueryHistory_pending, specRefSetSlot_pending, specRefSetQual_pending, specRefSetTimers_pending, specRefSetPriority_pending, specRefSelect_pending, specRefClearHistory_pending, specRefEnable_pending, specRefSetPtpSlave_pending]

theorem specsAcd_pending (o : OpSpec) (h : o ∈ specsAcd) (p : Packet) (s : State) : (o.body p s).st.pending = s.pending := by
  simp only [specsAcd, List.mem_cons, List.not_mem_nil, or_false] at h
  rcases h with rfl | rfl | rfl | rfl | rfl | rfl | rfl | rfl | rfl | rfl | rfl | rfl <;>
    simp only [specAcdQueryTime_pending, specAcdQueryServo_pending, specAcdSetServo_pending, specAcdSetStepPolicy_pending, specAcdSetHold_pending, specAcdSetOscModel_pending, specAcdSetTime_pending, specAcdAdjustPhase_pending, specAcdSetUtc_pending, specAcdSetCpllSource_pending, specAcdEnterDrydown_pending, specAcdSetMaceration_pending]

theorem specsOut_pending (o : OpSpec) (h : o ∈ specsOut) (p : Packet) (s : State) : (o.body p s).st.pending = s.pending := by
  simp only [specsOut, List.mem_cons, List.not_mem_nil, or_false] at h
  rcases h with rfl | rfl | rfl | rfl | rfl | rfl | rfl | rfl | rfl | rfl <;>
    simp only [specOutQueryStatus_pending, specOutQueryEcho_pending, specOutSetSyn_pending, specOutSetOutput_pending, specOutSync_pending, specOutSetTp_pending, specOutSetTod_pending, specOutEchoMeasure_pending, specOutSetDelay_pending, specOutEnable_pending]

theorem specsTic_pending (o : OpSpec) (h : o ∈ specsTic) (p : Packet) (s : State) : (o.body p s).st.pending = s.pending := by
  simp only [specsTic, List.mem_cons, List.not_mem_nil, or_false] at h
  rcases h with rfl | rfl | rfl | rfl | rfl | rfl | rfl | rfl <;>
    simp only [specTicQueryChannel_pending, specTicQueryCal_pending, specTicSetChannel_pending, specTicStartInterval_pending, specTicStream_pending, specTicCalibrate_pending, specTicSubstitute_pending, specTicSetDelay_pending]

theorem specsGns_pending (o : OpSpec) (h : o ∈ specsGns) (p : Packet) (s : State) : (o.body p s).st.pending = s.pending := by
  simp only [specsGns, List.mem_cons, List.not_mem_nil, or_false] at h
  rcases h with rfl | rfl | rfl | rfl | rfl | rfl | rfl | rfl | rfl | rfl | rfl | rfl <;>
    simp only [specGnsQueryStatus_pending, specGnsQuerySolution_pending, specGnsSetPort_pending, specGnsSetNotch_pending, specGnsAcquire_pending, specGnsTrack_pending, specGnsRelease_pending, specGnsSetLatch_pending, specGnsSnapshot_pending, specGnsSetAntenna_pending, specGnsSetCheck_pending, specGnsSpareBank_pending]

theorem specsEth_pending (o : OpSpec) (h : o ∈ specsEth) (p : Packet) (s : State) : (o.body p s).st.pending = s.pending := by
  simp only [specsEth, List.mem_cons, List.not_mem_nil, or_false] at h
  rcases h with rfl | rfl | rfl | rfl | rfl | rfl | rfl | rfl | rfl <;>
    simp only [specEthQueryLane_pending, specEthQueryDelay_pending, specEthSetQuadMode_pending, specEthSetLane_pending, specEthSetDelay_pending, specEthSetCapture_pending, specEthSetClassifier_pending, specEthLaneEnable_pending, specEthSetTags_pending]

theorem specsTmg_pending (o : OpSpec) (h : o ∈ specsTmg) (p : Packet) (s : State) : (o.body p s).st.pending = s.pending := by
  simp only [specsTmg, List.mem_cons, List.not_mem_nil, or_false] at h
  rcases h with rfl | rfl | rfl | rfl | rfl | rfl | rfl | rfl <;>
    simp only [specTmgQueryQueue_pending, specTmgQueryGcl_pending, specTmgSetGcl_pending, specTmgSwapGcl_pending, specTmgSetShaper_pending, specTmgSetPolicer_pending, specTmgSetFilter_pending, specTmgSetSampling_pending]

theorem specsSvc_pending (o : OpSpec) (h : o ∈ specsSvc) (p : Packet) (s : State) : (o.body p s).st.pending = s.pending := by
  simp only [specsSvc, List.mem_cons, List.not_mem_nil, or_false] at h
  rcases h with rfl | rfl | rfl | rfl | rfl | rfl | rfl | rfl | rfl | rfl | rfl | rfl <;>
    simp only [specSvcQueryStatus_pending, specSvcQueryClient_pending, specSvcSetPtpPort_pending, specSvcSetProfile_pending, specSvcSetAuth_pending, specSvcSetNtp_pending, specSvcLoadCookieKey_pending, specSvcRetireCookieKey_pending, specSvcSetGate_pending, specSvcSetRateLimit_pending, specSvcClientFlush_pending, specSvcSetBoundTlv_pending]

theorem specsKey_pending (o : OpSpec) (h : o ∈ specsKey) (p : Packet) (s : State) : (o.body p s).st.pending = s.pending := by
  simp only [specsKey, List.mem_cons, List.not_mem_nil, or_false] at h
  rcases h with rfl | rfl | rfl | rfl | rfl | rfl | rfl | rfl | rfl | rfl | rfl | rfl <;>
    simp only [specKeyQuerySlots_pending, specKeyQueryEpoch_pending, specKeyLoadFlacon_pending, specKeyWrap_pending, specKeyDerive_pending, specKeyZero_pending, specKeyEpochUpdate_pending, specKeyAttest_pending, specKeyProvision_pending, specKeyLcAdvance_pending, specKeyDebugEnter_pending, specKeyDebugExit_pending]

theorem specsLog_pending (o : OpSpec) (h : o ∈ specsLog) (p : Packet) (s : State) : (o.body p s).st.pending = s.pending := by
  simp only [specsLog, List.mem_cons, List.not_mem_nil, or_false] at h
  rcases h with rfl | rfl | rfl | rfl | rfl | rfl <;>
    simp only [specLogQueryStatus_pending, specLogQueryHead_pending, specLogExportAck_pending, specLogSetExport_pending, specLogCheckpoint_pending, specLogNote_pending]

theorem specsFlt_pending (o : OpSpec) (h : o ∈ specsFlt) (p : Packet) (s : State) : (o.body p s).st.pending = s.pending := by
  simp only [specsFlt, List.mem_cons, List.not_mem_nil, or_false] at h
  rcases h with rfl | rfl | rfl | rfl | rfl | rfl | rfl | rfl | rfl | rfl <;>
    simp only [specFltQuery_pending, specPairQuery_pending, specFltSetClass_pending, specFltClear_pending, specFltInject_pending, specPairSetMode_pending, specPairSetClaim_pending, specPairHandover_pending, specPairSetCompare_pending, specPairRejoin_pending]

theorem specsMon_pending (o : OpSpec) (h : o ∈ specsMon) (p : Packet) (s : State) : (o.body p s).st.pending = s.pending := by
  simp only [specsMon, List.mem_cons, List.not_mem_nil, or_false] at h
  rcases h with rfl | rfl | rfl | rfl | rfl | rfl | rfl | rfl | rfl <;>
    simp only [specMonQuery_pending, specKeepQuery_pending, specCalQuery_pending, specMonSetLimits_pending, specMonSetMains_pending, specKeepScrub_pending, specCalSetTime_pending, specCalSetTrim_pending, specCalSetTamper_pending]

/-- No listed opcode's body changes the queue of waiting commands. -/
theorem allSpecs_pending (o : OpSpec) (h : o ∈ allSpecs) (p : Packet) (s : State) : (o.body p s).st.pending = s.pending := by
  simp only [allSpecs, List.mem_append] at h
  rcases h with (((((((((((h | h) | h) | h) | h) | h) | h) | h) | h) | h) | h) | h) | h
  · exact specsSys_pending o h p s
  · exact specsRef_pending o h p s
  · exact specsAcd_pending o h p s
  · exact specsOut_pending o h p s
  · exact specsTic_pending o h p s
  · exact specsGns_pending o h p s
  · exact specsEth_pending o h p s
  · exact specsTmg_pending o h p s
  · exact specsSvc_pending o h p s
  · exact specsKey_pending o h p s
  · exact specsLog_pending o h p s
  · exact specsFlt_pending o h p s
  · exact specsMon_pending o h p s

theorem State.runEntry_pending (s : State) (e : SchedEntry) : (s.runEntry e).pending = s.pending := by
  unfold State.runEntry
  dsimp only
  split
  · rename_i o h
    rw [OpSpec.execute_pending o (allSpecs_pending o (List.mem_of_find?_eq_some h))]
  · rfl

theorem State.runPassed_pending (n : Nat) : ∀ s : State, (s.runPassed n).pending = s.pending := by
  induction n with
  | zero => intro s; rfl
  | succ n ih =>
    intro s
    unfold State.runPassed
    split
    · split
      · rw [ih, State.runEntry_pending]
      · rfl
    · rfl

/-- What comes before a command of its tick changes the queue of waiting commands only as the passing of time does. -/
theorem State.arrive_pending (s : State) (dt : Nat) : (s.arrive dt).pending = (s.advance dt).pending := by
  unfold State.arrive
  simp only [State.runPassed_pending, State.leapNow_pending]

/-- A packet changes the queue of waiting commands only as the passing of time does, unless its opcode's body does. -/
theorem State.packet_pending (o : OpSpec) (hb : ∀ p s, (o.body p s).st.pending = s.pending) (p : Packet) (s : State) :
    (s.packet o p).pending = (s.advance p.dt).pending := by
  unfold State.packet
  rw [State.takePacket_pending o hb, State.arrive_pending]

theorem State.schedStep_pending (s : State) (old : Nat) : (s.schedStep old).pending = s.pending := by
  unfold State.schedStep
  dsimp only
  split
  · rfl
  · rw [State.runPassed_pending, State.raise_pending]

theorem State.stepFollows_pending (s : State) (old : Nat) (x : Int) (acq : Bool) :
    (s.stepFollows old x acq).pending = s.pending := by
  unfold State.stepFollows
  simp only [State.schedStep_pending, State.latchStep_pending, State.leapNow_pending, State.rollsDue_pending, State.lanesStep_pending,
    State.outputsStep_pending]

theorem State.publish_pending (s : State) (n : Nat) : (s.publish n).pending = s.pending := by
  unfold State.publish
  repeat' (first
    | simp only [apply_ite State.pending, State.stepDone_pending, State.stepFollows_pending, State.publishEb_pending, State.applyStep_pending,
        ite_self]
    | split)

end Sys2Proof.Machine
end

