-- ==== Sys2Proof/Laws/FrameTicks.lean ====
section
/-! SUPPORT. Frames of the model's clock: for each operation of the machine that leaves the tick count alone, the lemma that says so. What they
do not cover changes it. -/

namespace Sys2Proof.Machine

set_option linter.all false
set_option maxRecDepth 4000

open Host

theorem foldl_ticks {α : Type} (l : List α) (f : State → α → State) (h : ∀ s a, (f s a).ticks = s.ticks) (s : State) :
    (l.foldl f s).ticks = s.ticks := by
  induction l generalizing s with
  | nil => rfl
  | cons a l ih => rw [List.foldl_cons, ih, h]

theorem State.drawn_ticks (s : State) :
    (State.drawn s).ticks = s.ticks := by
  unfold State.drawn
  repeat' (first | simp only [apply_ite State.ticks, apply_ite Prod.fst, apply_ite Prod.snd, apply_ite Done.st, ite_self, implies_true, forall_const, foldl_ticks, Done.ok, Done.err] | split)

theorem State.irq_ticks (s : State) (src : Nat) :
    (State.irq s src).ticks = s.ticks := by
  unfold State.irq
  repeat' (first | simp only [apply_ite State.ticks, apply_ite Prod.fst, apply_ite Prod.snd, apply_ite Done.st, ite_self, implies_true, forall_const, foldl_ticks, Done.ok, Done.err] | split)

theorem State.latch_ticks (s : State) (m : BitVec 4) (addr : W32) (ws : List W32) :
    (State.latch s m addr ws).ticks = s.ticks := by
  unfold State.latch
  repeat' (first | simp only [apply_ite State.ticks, apply_ite Prod.fst, apply_ite Prod.snd, apply_ite Done.st, ite_self, implies_true, forall_const, foldl_ticks, Done.ok, Done.err] | split)

theorem State.headSlotWrite_ticks (s : State) (orderly : Bool) :
    (State.headSlotWrite s orderly).ticks = s.ticks := by
  unfold State.headSlotWrite
  repeat' (first | simp only [apply_ite State.ticks, apply_ite Prod.fst, apply_ite Prod.snd, apply_ite Done.st, ite_self, implies_true, forall_const, foldl_ticks, Done.ok, Done.err] | split)

theorem State.acqResume_ticks (s : State) :
    (State.acqResume s).ticks = s.ticks := by
  unfold State.acqResume
  repeat' (first | simp only [apply_ite State.ticks, apply_ite Prod.fst, apply_ite Prod.snd, apply_ite Done.st, ite_self, implies_true, forall_const, foldl_ticks, Done.ok, Done.err] | split)

theorem State.mirrorCopy_ticks (s : State) (e : LogEntry) :
    (State.mirrorCopy s e).ticks = s.ticks := by
  unfold State.mirrorCopy
  repeat' (first | simp only [apply_ite State.ticks, apply_ite Prod.fst, apply_ite Prod.snd, apply_ite Done.st, ite_self, implies_true, forall_const, foldl_ticks, State.irq_ticks, Done.ok, Done.err] | split)

theorem State.logRaw_ticks (s : State) (e0 : LogEntry) :
    (State.logRaw s e0).ticks = s.ticks := by
  unfold State.logRaw
  repeat' (first | simp only [apply_ite State.ticks, apply_ite Prod.fst, apply_ite Prod.snd, apply_ite Done.st, ite_self, implies_true, forall_const, foldl_ticks, State.headSlotWrite_ticks, State.mirrorCopy_ticks, Done.ok, Done.err] | split)

theorem State.logMiss_ticks (s : State) (e : LogEntry) :
    (State.logMiss s e).ticks = s.ticks := by
  unfold State.logMiss
  repeat' (first | simp only [apply_ite State.ticks, apply_ite Prod.fst, apply_ite Prod.snd, apply_ite Done.st, ite_self, implies_true, forall_const, foldl_ticks, Done.ok, Done.err] | split)

theorem State.latchQuiet_ticks (s : State) (n : Nat) (isB : Bool) (level : Bool) :
    (State.latchQuiet s n isB level).ticks = s.ticks := by
  unfold State.latchQuiet
  repeat' (first | simp only [apply_ite State.ticks, apply_ite Prod.fst, apply_ite Prod.snd, apply_ite Done.st, ite_self, implies_true, forall_const, foldl_ticks, State.irq_ticks, State.latch_ticks, Done.ok, Done.err] | split)

theorem State.persistHead_ticks (put : State → LogEntry → State) (h : ∀ s e, (put s e).ticks = s.ticks) (s : State) (o : Bool) :
    (s.persistHead put o).ticks = s.ticks := by
  unfold State.persistHead
  split <;> simp only [h, State.latchQuiet_ticks, State.irq_ticks, State.headSlotWrite_ticks]

theorem State.logSig_ticks (s : State) (typ : Nat) (v : BitVec 256) :
    (State.logSig s typ v).ticks = s.ticks := by
  unfold State.logSig
  repeat' (first | simp only [apply_ite State.ticks, apply_ite Prod.fst, apply_ite Prod.snd, apply_ite Done.st, ite_self, implies_true, forall_const, foldl_ticks, State.logMiss_ticks, State.logRaw_ticks, Done.ok, Done.err] | split)

theorem State.ckPersist_ticks (put : State → LogEntry → State) (h : ∀ s e, (put s e).ticks = s.ticks) (s : State) :
    (s.ckPersist put).ticks = s.ticks := by
  unfold State.ckPersist
  simp only [apply_ite State.ticks, State.persistHead_ticks put h, ite_self]

theorem State.ckUnsigned_ticks (s : State) (forced : Bool) :
    (State.ckUnsigned s forced).ticks = s.ticks := by
  unfold State.ckUnsigned
  repeat' (first | simp only [apply_ite State.ticks, apply_ite Prod.fst, apply_ite Prod.snd, apply_ite Done.st, ite_self, implies_true, forall_const, foldl_ticks, State.irq_ticks, State.logSig_ticks, Done.ok, Done.err] | split)

theorem State.ckEnter_ticks (s : State) (forced : Bool) :
    (State.ckEnter s forced).ticks = s.ticks := by
  unfold State.ckEnter
  repeat' (first | simp only [apply_ite State.ticks, apply_ite Prod.fst, apply_ite Prod.snd, apply_ite Done.st, ite_self, implies_true, forall_const, foldl_ticks, State.logRaw_ticks, Done.ok, Done.err] | split)

theorem State.ckOrderly_ticks (put : State → LogEntry → State) (h : ∀ s e, (put s e).ticks = s.ticks) (s : State) :
    (s.ckOrderly put).ticks = s.ticks := by
  unfold State.ckOrderly
  simp only [apply_ite State.ticks, State.persistHead_ticks put h, ite_self]

theorem State.ckWrite_ticks (put : State → LogEntry → State) (h : ∀ s e, (put s e).ticks = s.ticks) (s : State) (o : Bool) :
    (s.ckWrite put o).ticks = s.ticks := by
  unfold State.ckWrite
  simp only [apply_ite State.ticks, State.ckUnsigned_ticks, State.ckPersist_ticks put h, State.ckOrderly_ticks put h, State.ckEnter_ticks, ite_self]

theorem State.levelFault_ticks (put : State → LogEntry → State) (h : ∀ s e, (put s e).ticks = s.ticks) (s : State) (a b : BitVec 3) :
    (s.levelFault put a b).ticks = s.ticks := by
  unfold State.levelFault
  simp only [apply_ite State.ticks, h, State.latchQuiet_ticks, ite_self]

theorem State.levelFallback_ticks (s : State) (lvl : BitVec 3) :
    (State.levelFallback s lvl).ticks = s.ticks := by
  unfold State.levelFallback
  repeat' (first | simp only [apply_ite State.ticks, apply_ite Prod.fst, apply_ite Prod.snd, apply_ite Done.st, ite_self, implies_true, forall_const, foldl_ticks, State.irq_ticks, Done.ok, Done.err] | split)

theorem State.levelEntry_ticks (put : State → LogEntry → State) (h : ∀ s e, (put s e).ticks = s.ticks) (s : State) (a : BitVec 3) :
    (s.levelEntry put a).ticks = s.ticks := by
  unfold State.levelEntry
  simp only [apply_ite State.ticks, h, State.irq_ticks, ite_self]

theorem State.logLevel_ticks (put : State → LogEntry → State) (h : ∀ s e, (put s e).ticks = s.ticks) (s : State) :
    (s.logLevel put).ticks = s.ticks := by
  unfold State.logLevel
  simp only [apply_ite State.ticks, State.levelFallback_ticks, State.levelFault_ticks put h, State.levelEntry_ticks put h, ite_self]

theorem State.logPutN_ticks (n : Nat) : ∀ (s : State) (e : LogEntry), (s.logPutN n e).ticks = s.ticks := by
  induction n with
  | zero => intro s e; unfold State.logPutN; split <;> simp only [State.logRaw_ticks, State.logMiss_ticks]
  | succ n ih =>
    intro s e
    unfold State.logPutN
    simp only [apply_ite State.ticks, State.logMiss_ticks, State.ckWrite_ticks _ ih, State.logLevel_ticks _ ih, State.logRaw_ticks, ite_self]

theorem State.logPut_ticks (s : State) (e : LogEntry) : (s.logPut e).ticks = s.ticks := State.logPutN_ticks 6 s e

theorem State.checkpoint_ticks (s : State) (forced : Bool) : (s.checkpoint forced).ticks = s.ticks := by
  unfold State.checkpoint
  rw [State.logLevel_ticks _ (fun s e => State.logPut_ticks s e), State.ckWrite_ticks _ (fun s e => State.logPut_ticks s e)]

theorem State.raiseBy_ticks (s : State) (origin : Nat) (so : Nat) (subject : Nat) (value : Int) (old : Nat) (new : Nat) :
    (State.raiseBy s origin so subject value old new).ticks = s.ticks := by
  unfold State.raiseBy
  repeat' (first | simp only [apply_ite State.ticks, apply_ite Prod.fst, apply_ite Prod.snd, apply_ite Done.st, ite_self, implies_true, forall_const, foldl_ticks, State.irq_ticks, State.logPut_ticks, Done.ok, Done.err] | split)

theorem State.raise_ticks (s : State) (so : Nat) (subject : Nat) (value : Int) (old : Nat) (new : Nat) :
    (State.raise s so subject value old new).ticks = s.ticks := by
  unfold State.raise
  repeat' (first | simp only [apply_ite State.ticks, apply_ite Prod.fst, apply_ite Prod.snd, apply_ite Done.st, ite_self, implies_true, forall_const, foldl_ticks, State.raiseBy_ticks, Done.ok, Done.err] | split)

theorem State.refuseWrite_ticks (s : State) :
    (State.refuseWrite s).ticks = s.ticks := by
  unfold State.refuseWrite
  repeat' (first | simp only [apply_ite State.ticks, apply_ite Prod.fst, apply_ite Prod.snd, apply_ite Done.st, ite_self, implies_true, forall_const, foldl_ticks, State.irq_ticks, Done.ok, Done.err] | split)

theorem State.logGap_ticks (s : State) :
    (State.logGap s).ticks = s.ticks := by
  unfold State.logGap
  repeat' (first | simp only [apply_ite State.ticks, apply_ite Prod.fst, apply_ite Prod.snd, apply_ite Done.st, ite_self, implies_true, forall_const, foldl_ticks, State.logPut_ticks, State.raise_ticks, Done.ok, Done.err] | split)

theorem State.logRecover_ticks (s : State) :
    (State.logRecover s).ticks = s.ticks := by
  unfold State.logRecover
  repeat' (first | simp only [apply_ite State.ticks, apply_ite Prod.fst, apply_ite Prod.snd, apply_ite Done.st, ite_self, implies_true, forall_const, foldl_ticks, State.checkpoint_ticks, State.irq_ticks, State.logGap_ticks, Done.ok, Done.err] | split)

theorem State.useLsk_ticks (s : State) (epoch : BitVec 16) :
    (State.useLsk s epoch).ticks = s.ticks := by
  unfold State.useLsk
  repeat' (first | simp only [apply_ite State.ticks, apply_ite Prod.fst, apply_ite Prod.snd, apply_ite Done.st, ite_self, implies_true, forall_const, foldl_ticks, Done.ok, Done.err] | split)

theorem State.installLsk_ticks (s : State) (pub : BitVec 264) (epoch : BitVec 16) :
    (State.installLsk s pub epoch).ticks = s.ticks := by
  unfold State.installLsk
  repeat' (first | simp only [apply_ite State.ticks, apply_ite Prod.fst, apply_ite Prod.snd, apply_ite Done.st, ite_self, implies_true, forall_const, foldl_ticks, State.checkpoint_ticks, State.logPut_ticks, State.useLsk_ticks, Done.ok, Done.err] | split)

theorem State.svcCount_ticks (s : State) (lane : Nat) (i : Nat) (n : Nat) :
    (State.svcCount s lane i n).ticks = s.ticks := by
  unfold State.svcCount
  repeat' (first | simp only [apply_ite State.ticks, apply_ite Prod.fst, apply_ite Prod.snd, apply_ite Done.st, ite_self, implies_true, forall_const, foldl_ticks, Done.ok, Done.err] | split)

theorem State.svcRaise_ticks (s : State) (b : Nat) (lane : Nat) :
    (State.svcRaise s b lane).ticks = s.ticks := by
  unfold State.svcRaise
  repeat' (first | simp only [apply_ite State.ticks, apply_ite Prod.fst, apply_ite Prod.snd, apply_ite Done.st, ite_self, implies_true, forall_const, foldl_ticks, State.raise_ticks, Done.ok, Done.err] | split)

theorem State.withdrawLane_ticks (s : State) (l : Nat) :
    (State.withdrawLane s l).ticks = s.ticks := by
  unfold State.withdrawLane
  repeat' (first | simp only [apply_ite State.ticks, apply_ite Prod.fst, apply_ite Prod.snd, apply_ite Done.st, ite_self, implies_true, forall_const, foldl_ticks, State.svcCount_ticks, State.svcRaise_ticks, Done.ok, Done.err] | split)

theorem State.svcEval_ticks (s : State) :
    (State.svcEval s).ticks = s.ticks := by
  unfold State.svcEval
  repeat' (first | simp only [apply_ite State.ticks, apply_ite Prod.fst, apply_ite Prod.snd, apply_ite Done.st, ite_self, implies_true, forall_const, foldl_ticks, State.raise_ticks, State.withdrawLane_ticks, Done.ok, Done.err] | split)

theorem State.outRaise_ticks (s : State) (b : Nat) (target : Nat) (value : Int) :
    (State.outRaise s b target value).ticks = s.ticks := by
  unfold State.outRaise
  repeat' (first | simp only [apply_ite State.ticks, apply_ite Prod.fst, apply_ite Prod.snd, apply_ite Done.st, ite_self, implies_true, forall_const, foldl_ticks, State.raise_ticks, Done.ok, Done.err] | split)

theorem State.outResume_ticks (s : State) (n : Nat) :
    (State.outResume s n).ticks = s.ticks := by
  unfold State.outResume
  repeat' (first | simp only [apply_ite State.ticks, apply_ite Prod.fst, apply_ite Prod.snd, apply_ite Done.st, ite_self, implies_true, forall_const, foldl_ticks, State.outRaise_ticks, Done.ok, Done.err] | split)

theorem State.outEvalCh_ticks (s : State) (n : Nat) :
    (State.outEvalCh s n).ticks = s.ticks := by
  unfold State.outEvalCh
  repeat' (first | simp only [apply_ite State.ticks, apply_ite Prod.fst, apply_ite Prod.snd, apply_ite Done.st, ite_self, implies_true, forall_const, foldl_ticks, State.outRaise_ticks, State.outResume_ticks, Done.ok, Done.err] | split)

theorem State.outEvalTp_ticks (s : State) (m : Nat) :
    (State.outEvalTp s m).ticks = s.ticks := by
  unfold State.outEvalTp
  repeat' (first | simp only [apply_ite State.ticks, apply_ite Prod.fst, apply_ite Prod.snd, apply_ite Done.st, ite_self, implies_true, forall_const, foldl_ticks, State.outRaise_ticks, Done.ok, Done.err] | split)

theorem State.outEvalTod_ticks (s : State) (k : Nat) :
    (State.outEvalTod s k).ticks = s.ticks := by
  unfold State.outEvalTod
  repeat' (first | simp only [apply_ite State.ticks, apply_ite Prod.fst, apply_ite Prod.snd, apply_ite Done.st, ite_self, implies_true, forall_const, foldl_ticks, Done.ok, Done.err] | split)

theorem State.outEval_ticks (s : State) :
    (State.outEval s).ticks = s.ticks := by
  unfold State.outEval
  repeat' (first | simp only [apply_ite State.ticks, apply_ite Prod.fst, apply_ite Prod.snd, apply_ite Done.st, ite_self, implies_true, forall_const, foldl_ticks, State.outEvalCh_ticks, State.outEvalTod_ticks, State.outEvalTp_ticks, Done.ok, Done.err] | split)

theorem State.pairEval_ticks (s : State) :
    (State.pairEval s).ticks = s.ticks := by
  unfold State.pairEval
  repeat' (first | simp only [apply_ite State.ticks, apply_ite Prod.fst, apply_ite Prod.snd, apply_ite Done.st, ite_self, implies_true, forall_const, foldl_ticks, State.raise_ticks, Done.ok, Done.err] | split)

theorem State.react_ticks (s : State) :
    (State.react s).ticks = s.ticks := by
  unfold State.react
  repeat' (first | simp only [apply_ite State.ticks, apply_ite Prod.fst, apply_ite Prod.snd, apply_ite Done.st, ite_self, implies_true, forall_const, foldl_ticks, State.outEval_ticks, State.pairEval_ticks, State.svcEval_ticks, Done.ok, Done.err] | split)

theorem State.setRate_ticks (s : State) (f : BitVec 40) :
    (State.setRate s f).ticks = s.ticks := by
  unfold State.setRate
  repeat' (first | simp only [apply_ite State.ticks, apply_ite Prod.fst, apply_ite Prod.snd, apply_ite Done.st, ite_self, implies_true, forall_const, foldl_ticks, Done.ok, Done.err] | split)

theorem State.holdBegin_ticks (s : State) (t0 : Nat) (eb0 : Nat) (temp : Int) (dt : BitVec 16) :
    (State.holdBegin s t0 eb0 temp dt).ticks = s.ticks := by
  unfold State.holdBegin
  repeat' (first | simp only [apply_ite State.ticks, apply_ite Prod.fst, apply_ite Prod.snd, apply_ite Done.st, ite_self, implies_true, forall_const, foldl_ticks, Done.ok, Done.err] | split)

theorem State.holdStart_ticks (s : State) :
    (State.holdStart s).ticks = s.ticks := by
  unfold State.holdStart
  repeat' (first | simp only [apply_ite State.ticks, apply_ite Prod.fst, apply_ite Prod.snd, apply_ite Done.st, ite_self, implies_true, forall_const, foldl_ticks, State.holdBegin_ticks, Done.ok, Done.err] | split)

theorem State.holdFromWrite_ticks (s : State) :
    (State.holdFromWrite s).ticks = s.ticks := by
  unfold State.holdFromWrite
  repeat' (first | simp only [apply_ite State.ticks, apply_ite Prod.fst, apply_ite Prod.snd, apply_ite Done.st, ite_self, implies_true, forall_const, foldl_ticks, State.holdBegin_ticks, Done.ok, Done.err] | split)

theorem State.writeMark_ticks (s : State) :
    (State.writeMark s).ticks = s.ticks := by
  unfold State.writeMark
  repeat' (first | simp only [apply_ite State.ticks, apply_ite Prod.fst, apply_ite Prod.snd, apply_ite Done.st, ite_self, implies_true, forall_const, foldl_ticks, Done.ok, Done.err] | split)

theorem State.holdTemp_ticks (s : State) :
    (State.holdTemp s).ticks = s.ticks := by
  unfold State.holdTemp
  repeat' (first | simp only [apply_ite State.ticks, apply_ite Prod.fst, apply_ite Prod.snd, apply_ite Done.st, ite_self, implies_true, forall_const, foldl_ticks, Done.ok, Done.err] | split)

theorem State.setAccord_ticks (s : State) (t : AccordState) :
    (State.setAccord s t).ticks = s.ticks := by
  unfold State.setAccord
  repeat' (first | simp only [apply_ite State.ticks, apply_ite Prod.fst, apply_ite Prod.snd, apply_ite Done.st, ite_self, implies_true, forall_const, foldl_ticks, State.raise_ticks, State.react_ticks, Done.ok, Done.err] | split)

theorem State.timeSet_ticks (s : State) :
    (State.timeSet s).ticks = s.ticks := by
  unfold State.timeSet
  repeat' (first | simp only [apply_ite State.ticks, apply_ite Prod.fst, apply_ite Prod.snd, apply_ite Done.st, ite_self, implies_true, forall_const, foldl_ticks, Done.ok, Done.err] | split)

theorem State.seedAccord_ticks (s : State) (t : Tai) (eb : Nat) :
    (State.seedAccord s t eb).ticks = s.ticks := by
  unfold State.seedAccord
  repeat' (first | simp only [apply_ite State.ticks, apply_ite Prod.fst, apply_ite Prod.snd, apply_ite Done.st, ite_self, implies_true, forall_const, foldl_ticks, State.raise_ticks, State.react_ticks, State.setAccord_ticks, State.timeSet_ticks, Done.ok, Done.err] | split)

theorem State.enterDrydown_ticks (s : State) (lost : Bool) :
    (State.enterDrydown s lost).ticks = s.ticks := by
  unfold State.enterDrydown
  repeat' (first | simp only [apply_ite State.ticks, apply_ite Prod.fst, apply_ite Prod.snd, apply_ite Done.st, ite_self, implies_true, forall_const, foldl_ticks, State.holdFromWrite_ticks, State.holdStart_ticks, State.raise_ticks, State.setAccord_ticks, State.setRate_ticks, Done.ok, Done.err] | split)

theorem State.addStep_ticks (s : State) (x : Int) (source : Nat) (fresh : Bool) (op : Nat) :
    (State.addStep s x source fresh op).ticks = s.ticks := by
  unfold State.addStep
  repeat' (first | simp only [apply_ite State.ticks, apply_ite Prod.fst, apply_ite Prod.snd, apply_ite Done.st, ite_self, implies_true, forall_const, foldl_ticks, State.raise_ticks, Done.ok, Done.err] | split)

theorem State.startSteer_ticks (s : State) (going : Bool) :
    (State.startSteer s going).ticks = s.ticks := by
  unfold State.startSteer
  repeat' (first | simp only [apply_ite State.ticks, apply_ite Prod.fst, apply_ite Prod.snd, apply_ite Done.st, ite_self, implies_true, forall_const, foldl_ticks, State.writeMark_ticks, Done.ok, Done.err] | split)

theorem State.loopLoad_ticks (s : State) :
    (State.loopLoad s).ticks = s.ticks := by
  unfold State.loopLoad
  repeat' (first | simp only [apply_ite State.ticks, apply_ite Prod.fst, apply_ite Prod.snd, apply_ite Done.st, ite_self, implies_true, forall_const, foldl_ticks, Done.ok, Done.err] | split)

theorem State.applyStep_ticks (s : State) (n : Nat) :
    (State.applyStep s n).ticks = s.ticks := by
  unfold State.applyStep
  repeat' (first | simp only [apply_ite State.ticks, apply_ite Prod.fst, apply_ite Prod.snd, apply_ite Done.st, ite_self, implies_true, forall_const, foldl_ticks, Done.ok, Done.err] | split)

theorem State.setAccuracy_ticks (s : State) (eb : Nat) :
    (State.setAccuracy s eb).ticks = s.ticks := by
  unfold State.setAccuracy
  repeat' (first | simp only [apply_ite State.ticks, apply_ite Prod.fst, apply_ite Prod.snd, apply_ite Done.st, ite_self, implies_true, forall_const, foldl_ticks, Done.ok, Done.err] | split)

theorem State.ebNow_ticks (s : State) :
    (State.ebNow s).ticks = s.ticks := by
  unfold State.ebNow
  repeat' (first | simp only [apply_ite State.ticks, apply_ite Prod.fst, apply_ite Prod.snd, apply_ite Done.st, ite_self, implies_true, forall_const, foldl_ticks, Done.ok, Done.err] | split)

theorem State.publishEb_ticks (s : State) :
    (State.publishEb s).ticks = s.ticks := by
  unfold State.publishEb
  repeat' (first | simp only [apply_ite State.ticks, apply_ite Prod.fst, apply_ite Prod.snd, apply_ite Done.st, ite_self, implies_true, forall_const, foldl_ticks, State.ebNow_ticks, State.raise_ticks, State.react_ticks, State.setAccord_ticks, State.setAccuracy_ticks, Done.ok, Done.err] | split)

theorem State.calRebase_ticks (s : State) :
    (State.calRebase s).ticks = s.ticks := by
  unfold State.calRebase
  repeat' (first | simp only [apply_ite State.ticks, apply_ite Prod.fst, apply_ite Prod.snd, apply_ite Done.st, ite_self, implies_true, forall_const, foldl_ticks, Done.ok, Done.err] | split)

theorem State.ringPush_ticks (s : State) (n : Nat) (rec : List W32) :
    (State.ringPush s n rec).ticks = s.ticks := by
  unfold State.ringPush
  repeat' (first | simp only [apply_ite State.ticks, apply_ite Prod.fst, apply_ite Prod.snd, apply_ite Done.st, ite_self, implies_true, forall_const, foldl_ticks, Done.ok, Done.err] | split)

theorem State.ringFree_ticks (s : State) (n : Nat) (rec : List W32) :
    (State.ringFree s n rec).ticks = s.ticks := by
  unfold State.ringFree
  repeat' (first | simp only [apply_ite State.ticks, apply_ite Prod.fst, apply_ite Prod.snd, apply_ite Done.st, ite_self, implies_true, forall_const, foldl_ticks, Done.ok, Done.err] | split)

theorem State.completeTx_ticks (s : State) (lane : Nat) (status : Nat) (slot : Nat) (cookie : BitVec 16) (stamp : Option Stamp) :
    (State.completeTx s lane status slot cookie stamp).ticks = s.ticks := by
  unfold State.completeTx
  repeat' (first | simp only [apply_ite State.ticks, apply_ite Prod.fst, apply_ite Prod.snd, apply_ite Done.st, ite_self, implies_true, forall_const, foldl_ticks, Done.ok, Done.err] | split)

theorem State.flushHost_ticks (s : State) (lane : Nat) (fs : List TxFrame) :
    (State.flushHost s lane fs).ticks = s.ticks := by
  unfold State.flushHost
  repeat' (first | simp only [apply_ite State.ticks, apply_ite Prod.fst, apply_ite Prod.snd, apply_ite Done.st, ite_self, implies_true, forall_const, foldl_ticks, State.completeTx_ticks, Done.ok, Done.err] | split)

theorem State.emptyQueue_ticks (s : State) (q : Nat) (count : Bool) :
    (State.emptyQueue s q count).ticks = s.ticks := by
  unfold State.emptyQueue
  repeat' (first | simp only [apply_ite State.ticks, apply_ite Prod.fst, apply_ite Prod.snd, apply_ite Done.st, ite_self, implies_true, forall_const, foldl_ticks, State.flushHost_ticks, Done.ok, Done.err] | split)

theorem State.echoRelease_ticks (s : State) :
    (State.echoRelease s).ticks = s.ticks := by
  unfold State.echoRelease
  repeat' (first | simp only [apply_ite State.ticks, apply_ite Prod.fst, apply_ite Prod.snd, apply_ite Done.st, ite_self, implies_true, forall_const, foldl_ticks, Done.ok, Done.err] | split)

theorem State.echoAbort_ticks (s : State) :
    (State.echoAbort s).ticks = s.ticks := by
  unfold State.echoAbort
  repeat' (first | simp only [apply_ite State.ticks, apply_ite Prod.fst, apply_ite Prod.snd, apply_ite Done.st, ite_self, implies_true, forall_const, foldl_ticks, State.echoRelease_ticks, State.outRaise_ticks, Done.ok, Done.err] | split)

theorem State.tmgSafe_ticks (s : State) :
    (State.tmgSafe s).ticks = s.ticks := by
  unfold State.tmgSafe
  repeat' (first | simp only [apply_ite State.ticks, apply_ite Prod.fst, apply_ite Prod.snd, apply_ite Done.st, ite_self, implies_true, forall_const, foldl_ticks, State.emptyQueue_ticks, Done.ok, Done.err] | split)

theorem State.bistSram_ticks (s : State) :
    (State.bistSram s).ticks = s.ticks := by
  unfold State.bistSram
  repeat' (first | simp only [apply_ite State.ticks, apply_ite Prod.fst, apply_ite Prod.snd, apply_ite Done.st, ite_self, implies_true, forall_const, foldl_ticks, Done.ok, Done.err] | split)

theorem State.bistTic_ticks (s : State) :
    (State.bistTic s).ticks = s.ticks := by
  unfold State.bistTic
  repeat' (first | simp only [apply_ite State.ticks, apply_ite Prod.fst, apply_ite Prod.snd, apply_ite Done.st, ite_self, implies_true, forall_const, foldl_ticks, Done.ok, Done.err] | split)

theorem State.bistClears_ticks (s : State) (m : BitVec 6) :
    (State.bistClears s m).ticks = s.ticks := by
  unfold State.bistClears
  repeat' (first | simp only [apply_ite State.ticks, apply_ite Prod.fst, apply_ite Prod.snd, apply_ite Done.st, ite_self, implies_true, forall_const, foldl_ticks, State.bistSram_ticks, State.bistTic_ticks, State.loopLoad_ticks, Done.ok, Done.err] | split)

theorem State.bistAbort_ticks (s : State) :
    (State.bistAbort s).ticks = s.ticks := by
  unfold State.bistAbort
  repeat' (first | simp only [apply_ite State.ticks, apply_ite Prod.fst, apply_ite Prod.snd, apply_ite Done.st, ite_self, implies_true, forall_const, foldl_ticks, State.bistClears_ticks, State.drawn_ticks, State.raise_ticks, Done.ok, Done.err] | split)

theorem State.setRole_ticks (s : State) (r : PairRole) :
    (State.setRole s r).ticks = s.ticks := by
  unfold State.setRole
  repeat' (first | simp only [apply_ite State.ticks, apply_ite Prod.fst, apply_ite Prod.snd, apply_ite Done.st, ite_self, implies_true, forall_const, foldl_ticks, State.raise_ticks, Done.ok, Done.err] | split)

theorem State.pairSafe_ticks (s : State) (owned : Bool) :
    (State.pairSafe s owned).ticks = s.ticks := by
  unfold State.pairSafe
  repeat' (first | simp only [apply_ite State.ticks, apply_ite Prod.fst, apply_ite Prod.snd, apply_ite Done.st, ite_self, implies_true, forall_const, foldl_ticks, State.raise_ticks, State.setRole_ticks, Done.ok, Done.err] | split)

theorem State.setDev_ticks (s : State) (d : DevState) :
    (State.setDev s d).ticks = s.ticks := by
  unfold State.setDev
  repeat' (first | simp only [apply_ite State.ticks, apply_ite Prod.fst, apply_ite Prod.snd, apply_ite Done.st, ite_self, implies_true, forall_const, foldl_ticks, State.raise_ticks, Done.ok, Done.err] | split)

theorem State.accordSafe_ticks (s : State) :
    (State.accordSafe s).ticks = s.ticks := by
  unfold State.accordSafe
  repeat' (first | simp only [apply_ite State.ticks, apply_ite Prod.fst, apply_ite Prod.snd, apply_ite Done.st, ite_self, implies_true, forall_const, foldl_ticks, State.holdStart_ticks, State.setAccord_ticks, State.setRate_ticks, Done.ok, Done.err] | split)

theorem State.outSafeTold_ticks (old : State) (s : State) (n : Nat) :
    (State.outSafeTold old s n).ticks = s.ticks := by
  unfold State.outSafeTold
  repeat' (first | simp only [apply_ite State.ticks, apply_ite Prod.fst, apply_ite Prod.snd, apply_ite Done.st, ite_self, implies_true, forall_const, foldl_ticks, State.outRaise_ticks, Done.ok, Done.err] | split)

theorem State.safeEnter_ticks (s : State) (first : Nat) :
    (State.safeEnter s first).ticks = s.ticks := by
  unfold State.safeEnter
  repeat' (first | simp only [apply_ite State.ticks, apply_ite Prod.fst, apply_ite Prod.snd, apply_ite Done.st, ite_self, implies_true, forall_const, foldl_ticks, State.accordSafe_ticks, State.bistAbort_ticks, State.echoRelease_ticks, State.outRaise_ticks, State.outSafeTold_ticks, State.pairSafe_ticks, State.react_ticks, State.setDev_ticks, State.tmgSafe_ticks, Done.ok, Done.err] | split)

theorem State.faultEntry_ticks (s : State) (n : Nat) (cls : Nat) (injected : Bool) :
    (State.faultEntry s n cls injected).ticks = s.ticks := by
  unfold State.faultEntry
  repeat' (first | simp only [apply_ite State.ticks, apply_ite Prod.fst, apply_ite Prod.snd, apply_ite Done.st, ite_self, implies_true, forall_const, foldl_ticks, State.logPut_ticks, Done.ok, Done.err] | split)

theorem State.safeLine_ticks (s : State) (n : Nat) (injected : Bool) :
    (State.safeLine s n injected).ticks = s.ticks := by
  unfold State.safeLine
  repeat' (first | simp only [apply_ite State.ticks, apply_ite Prod.fst, apply_ite Prod.snd, apply_ite Done.st, ite_self, implies_true, forall_const, foldl_ticks, State.faultEntry_ticks, State.irq_ticks, State.safeEnter_ticks, Done.ok, Done.err] | split)

theorem State.faultAssert_ticks (s : State) (n : Nat) (injected : Bool) :
    (State.faultAssert s n injected).ticks = s.ticks := by
  unfold State.faultAssert
  repeat' (first | simp only [apply_ite State.ticks, apply_ite Prod.fst, apply_ite Prod.snd, apply_ite Done.st, ite_self, implies_true, forall_const, foldl_ticks, State.faultEntry_ticks, State.irq_ticks, State.pairEval_ticks, State.safeLine_ticks, Done.ok, Done.err] | split)

theorem State.faultEnd_ticks (s : State) (n : Nat) :
    (State.faultEnd s n).ticks = s.ticks := by
  unfold State.faultEnd
  repeat' (first | simp only [apply_ite State.ticks, apply_ite Prod.fst, apply_ite Prod.snd, apply_ite Done.st, ite_self, implies_true, forall_const, foldl_ticks, State.pairEval_ticks, Done.ok, Done.err] | split)

theorem State.keepReadOnly_ticks (s : State) :
    (State.keepReadOnly s).ticks = s.ticks := by
  unfold State.keepReadOnly
  repeat' (first | simp only [apply_ite State.ticks, apply_ite Prod.fst, apply_ite Prod.snd, apply_ite Done.st, ite_self, implies_true, forall_const, foldl_ticks, State.faultAssert_ticks, State.raise_ticks, Done.ok, Done.err] | split)

theorem State.keepSpareTold_ticks (s : State) :
    (State.keepSpareTold s).ticks = s.ticks := by
  unfold State.keepSpareTold
  repeat' (first | simp only [apply_ite State.ticks, apply_ite Prod.fst, apply_ite Prod.snd, apply_ite Done.st, ite_self, implies_true, forall_const, foldl_ticks, State.faultAssert_ticks, State.raise_ticks, Done.ok, Done.err] | split)

theorem State.keepRowFail_ticks (s : State) (row : BitVec 10) :
    (State.keepRowFail s row).1.ticks = s.ticks := by
  unfold State.keepRowFail
  repeat' (first | simp only [apply_ite State.ticks, apply_ite Prod.fst, apply_ite Prod.snd, apply_ite Done.st, ite_self, implies_true, forall_const, foldl_ticks, State.keepReadOnly_ticks, State.keepSpareTold_ticks, State.raise_ticks, Done.ok, Done.err] | split)

theorem State.keepWrite_ticks (s : State) (fail : Option (BitVec 10)) :
    (State.keepWrite s fail).1.ticks = s.ticks := by
  unfold State.keepWrite
  repeat' (first | simp only [apply_ite State.ticks, apply_ite Prod.fst, apply_ite Prod.snd, apply_ite Done.st, ite_self, implies_true, forall_const, foldl_ticks, State.keepRowFail_ticks, Done.ok, Done.err] | split)

theorem State.keepOwn_ticks (s : State) (f : Keep → Keep) :
    (State.keepOwn s f).ticks = s.ticks := by
  unfold State.keepOwn
  repeat' (first | simp only [apply_ite State.ticks, apply_ite Prod.fst, apply_ite Prod.snd, apply_ite Done.st, ite_self, implies_true, forall_const, foldl_ticks, Done.ok, Done.err] | split)

theorem State.keepUncorr_ticks (s : State) (rows : List (BitVec 10)) :
    (State.keepUncorr s rows).ticks = s.ticks := by
  unfold State.keepUncorr
  repeat' (first | simp only [apply_ite State.ticks, apply_ite Prod.fst, apply_ite Prod.snd, apply_ite Done.st, ite_self, implies_true, forall_const, foldl_ticks, State.faultAssert_ticks, State.raise_ticks, Done.ok, Done.err] | split)

theorem State.commitCsp_ticks (s : State) :
    (State.commitCsp s).ticks = s.ticks := by
  unfold State.commitCsp
  repeat' (first | simp only [apply_ite State.ticks, apply_ite Prod.fst, apply_ite Prod.snd, apply_ite Done.st, ite_self, implies_true, forall_const, foldl_ticks, Done.ok, Done.err] | split)

theorem State.released_ticks (s : State) :
    (State.released s).ticks = s.ticks := by
  unfold State.released
  repeat' (first | simp only [apply_ite State.ticks, apply_ite Prod.fst, apply_ite Prod.snd, apply_ite Done.st, ite_self, implies_true, forall_const, foldl_ticks, Done.ok, Done.err] | split)

theorem State.toReset_ticks (s : State) (cause : Nat) (cold : Bool) :
    (State.toReset s cause cold).ticks = s.ticks := by
  unfold State.toReset
  repeat' (first | simp only [apply_ite State.ticks, apply_ite Prod.fst, apply_ite Prod.snd, apply_ite Done.st, ite_self, implies_true, forall_const, foldl_ticks, State.released_ticks, Done.ok, Done.err] | split)

theorem State.settle_ticks (s : State) :
    (State.settle s).ticks = s.ticks := by
  unfold State.settle
  repeat' (first | simp only [apply_ite State.ticks, apply_ite Prod.fst, apply_ite Prod.snd, apply_ite Done.st, ite_self, implies_true, forall_const, foldl_ticks, State.logPut_ticks, State.persistHead_ticks, State.toReset_ticks, Done.ok, Done.err] | split)

theorem Done.ok_ticks (s : State) (payload : List W32) :
    (Done.ok s payload).st.ticks = s.ticks := by
  unfold Done.ok
  repeat' (first | simp only [apply_ite State.ticks, apply_ite Prod.fst, apply_ite Prod.snd, apply_ite Done.st, ite_self, implies_true, forall_const, foldl_ticks, Done.ok, Done.err] | split)

theorem Done.err_ticks (s : State) (x : Status) :
    (Done.err s x).st.ticks = s.ticks := by
  unfold Done.err
  repeat' (first | simp only [apply_ite State.ticks, apply_ite Prod.fst, apply_ite Prod.snd, apply_ite Done.st, ite_self, implies_true, forall_const, foldl_ticks, Done.ok, Done.err] | split)

theorem State.countStatus_ticks (s : State) (x : Status) (final : Bool) :
    (State.countStatus s x final).ticks = s.ticks := by
  unfold State.countStatus
  repeat' (first | simp only [apply_ite State.ticks, apply_ite Prod.fst, apply_ite Prod.snd, apply_ite Done.st, ite_self, implies_true, forall_const, foldl_ticks, Done.ok_ticks, State.irq_ticks, Done.ok, Done.err] | split)

theorem State.reply_ticks (s : State) (p : Packet) (opcode : Nat) (kind : Nat) (x : Status) (payload : List W32) (seq : BitVec 32) (frees : Bool) :
    (State.reply s p opcode kind x payload seq frees).ticks = s.ticks := by
  unfold State.reply
  repeat' (first | simp only [apply_ite State.ticks, apply_ite Prod.fst, apply_ite Prod.snd, apply_ite Done.st, ite_self, implies_true, forall_const, foldl_ticks, Done.ok_ticks, Done.ok, Done.err] | split)

theorem State.finish_ticks (s : State) (p : Packet) (opcode : Nat) (x : Status) (payload : List W32) (frees : Bool) :
    (State.finish s p opcode x payload frees).ticks = s.ticks := by
  unfold State.finish
  repeat' (first | simp only [apply_ite State.ticks, apply_ite Prod.fst, apply_ite Prod.snd, apply_ite Done.st, ite_self, implies_true, forall_const, foldl_ticks, State.countStatus_ticks, State.logPut_ticks, State.reply_ticks, Done.ok, Done.err] | split)

theorem State.countRefused_ticks (s : State) (p : Packet) :
    (State.countRefused s p).ticks = s.ticks := by
  unfold State.countRefused
  repeat' (first | simp only [apply_ite State.ticks, apply_ite Prod.fst, apply_ite Prod.snd, apply_ite Done.st, ite_self, implies_true, forall_const, foldl_ticks, Done.ok, Done.err] | split)

theorem State.enqueue_ticks (s : State) (p : Packet) (opcode : Nat) :
    (State.enqueue s p opcode).ticks = s.ticks := by
  unfold State.enqueue
  repeat' (first | simp only [apply_ite State.ticks, apply_ite Prod.fst, apply_ite Prod.snd, apply_ite Done.st, ite_self, implies_true, forall_const, foldl_ticks, State.countStatus_ticks, State.raise_ticks, State.reply_ticks, Done.ok, Done.err] | split)

theorem State.fetched_ticks (s : State) (p : Packet) :
    (State.fetched s p).ticks = s.ticks := by
  unfold State.fetched
  repeat' (first | simp only [apply_ite State.ticks, apply_ite Prod.fst, apply_ite Prod.snd, apply_ite Done.st, ite_self, implies_true, forall_const, foldl_ticks, State.irq_ticks, State.ringFree_ticks, Done.ok, Done.err] | split)

theorem State.fetchStall_ticks (s : State) (p : Packet) :
    (State.fetchStall s p).ticks = s.ticks := by
  unfold State.fetchStall
  repeat' (first | simp only [apply_ite State.ticks, apply_ite Prod.fst, apply_ite Prod.snd, apply_ite Done.st, ite_self, implies_true, forall_const, foldl_ticks, State.raise_ticks, Done.ok, Done.err] | split)

theorem answer_ticks (f : Packet → State → List W32) (p : Packet) (s : State) :
    (answer f p s).st.ticks = s.ticks := by
  unfold answer
  repeat' (first | simp only [apply_ite State.ticks, apply_ite Prod.fst, apply_ite Prod.snd, apply_ite Done.st, ite_self, implies_true, forall_const, foldl_ticks, Done.ok_ticks, Done.ok, Done.err] | split)

theorem State.modSlot_ticks (s : State) (n : Nat) (f : RefSlot → RefSlot) :
    (State.modSlot s n f).ticks = s.ticks := by
  unfold State.modSlot
  repeat' (first | simp only [apply_ite State.ticks, apply_ite Prod.fst, apply_ite Prod.snd, apply_ite Done.st, ite_self, implies_true, forall_const, foldl_ticks, Done.ok, Done.err] | split)

theorem State.refHist_ticks (s : State) (n : Nat) (b : Nat) (so : Option Nat) (value : Int) :
    (State.refHist s n b so value).ticks = s.ticks := by
  unfold State.refHist
  repeat' (first | simp only [apply_ite State.ticks, apply_ite Prod.fst, apply_ite Prod.snd, apply_ite Done.st, ite_self, implies_true, forall_const, foldl_ticks, State.modSlot_ticks, State.raise_ticks, Done.ok, Done.err] | split)

theorem State.cellUpdate_ticks (s : State) (a : Nat) (b : Nat) :
    (State.cellUpdate s a b).ticks = s.ticks := by
  unfold State.cellUpdate
  repeat' (first | simp only [apply_ite State.ticks, apply_ite Prod.fst, apply_ite Prod.snd, apply_ite Done.st, ite_self, implies_true, forall_const, foldl_ticks, Done.ok, Done.err] | split)

theorem State.cellsUpdate_ticks (s : State) (n : Nat) :
    (State.cellsUpdate s n).ticks = s.ticks := by
  unfold State.cellsUpdate
  repeat' (first | simp only [apply_ite State.ticks, apply_ite Prod.fst, apply_ite Prod.snd, apply_ite Done.st, ite_self, implies_true, forall_const, foldl_ticks, State.cellUpdate_ticks, Done.ok, Done.err] | split)

theorem State.cellsStale_ticks (s : State) (n : Nat) :
    (State.cellsStale s n).ticks = s.ticks := by
  unfold State.cellsStale
  repeat' (first | simp only [apply_ite State.ticks, apply_ite Prod.fst, apply_ite Prod.snd, apply_ite Done.st, ite_self, implies_true, forall_const, foldl_ticks, Done.ok, Done.err] | split)

theorem State.cellsSnap_ticks (s : State) :
    (State.cellsSnap s).ticks = s.ticks := by
  unfold State.cellsSnap
  repeat' (first | simp only [apply_ite State.ticks, apply_ite Prod.fst, apply_ite Prod.snd, apply_ite Done.st, ite_self, implies_true, forall_const, foldl_ticks, Done.ok, Done.err] | split)

theorem State.cellsReset_ticks (s : State) (n : Nat) :
    (State.cellsReset s n).ticks = s.ticks := by
  unfold State.cellsReset
  repeat' (first | simp only [apply_ite State.ticks, apply_ite Prod.fst, apply_ite Prod.snd, apply_ite Done.st, ite_self, implies_true, forall_const, foldl_ticks, Done.ok, Done.err] | split)

theorem State.majRefresh_ticks (s : State) :
    (State.majRefresh s).ticks = s.ticks := by
  unfold State.majRefresh
  repeat' (first | simp only [apply_ite State.ticks, apply_ite Prod.fst, apply_ite Prod.snd, apply_ite Done.st, ite_self, implies_true, forall_const, foldl_ticks, State.raise_ticks, Done.ok, Done.err] | split)

theorem State.qMove_ticks (s : State) (n : Nat) (t : QState) (so : Option Nat) :
    (State.qMove s n t so).ticks = s.ticks := by
  unfold State.qMove
  repeat' (first | simp only [apply_ite State.ticks, apply_ite Prod.fst, apply_ite Prod.snd, apply_ite Done.st, ite_self, implies_true, forall_const, foldl_ticks, State.modSlot_ticks, State.raise_ticks, Done.ok, Done.err] | split)

theorem State.refTimer_ticks (s : State) (n : Nat) (first : Bool) :
    (State.refTimer s n first).ticks = s.ticks := by
  unfold State.refTimer
  repeat' (first | simp only [apply_ite State.ticks, apply_ite Prod.fst, apply_ite Prod.snd, apply_ite Done.st, ite_self, implies_true, forall_const, foldl_ticks, State.modSlot_ticks, Done.ok, Done.err] | split)

theorem State.refTimerOff_ticks (s : State) (n : Nat) :
    (State.refTimerOff s n).ticks = s.ticks := by
  unfold State.refTimerOff
  repeat' (first | simp only [apply_ite State.ticks, apply_ite Prod.fst, apply_ite Prod.snd, apply_ite Done.st, ite_self, implies_true, forall_const, foldl_ticks, State.modSlot_ticks, Done.ok, Done.err] | split)

theorem State.servoHold_ticks (s : State) (n : Nat) :
    (State.servoHold s n).ticks = s.ticks := by
  unfold State.servoHold
  repeat' (first | simp only [apply_ite State.ticks, apply_ite Prod.fst, apply_ite Prod.snd, apply_ite Done.st, ite_self, implies_true, forall_const, foldl_ticks, State.holdStart_ticks, Done.ok, Done.err] | split)

theorem State.servoResume_ticks (s : State) (n : Nat) :
    (State.servoResume s n).ticks = s.ticks := by
  unfold State.servoResume
  repeat' (first | simp only [apply_ite State.ticks, apply_ite Prod.fst, apply_ite Prod.snd, apply_ite Done.st, ite_self, implies_true, forall_const, foldl_ticks, Done.ok, Done.err] | split)

theorem State.waitFault_ticks (s : State) (n : Nat) :
    (State.waitFault s n).ticks = s.ticks := by
  unfold State.waitFault
  repeat' (first | simp only [apply_ite State.ticks, apply_ite Prod.fst, apply_ite Prod.snd, apply_ite Done.st, ite_self, implies_true, forall_const, foldl_ticks, State.qMove_ticks, State.raise_ticks, State.refHist_ticks, State.refTimerOff_ticks, Done.ok, Done.err] | split)

theorem State.qualFault_ticks (s : State) (n : Nat) :
    (State.qualFault s n).ticks = s.ticks := by
  unfold State.qualFault
  repeat' (first | simp only [apply_ite State.ticks, apply_ite Prod.fst, apply_ite Prod.snd, apply_ite Done.st, ite_self, implies_true, forall_const, foldl_ticks, State.qMove_ticks, State.refTimer_ticks, State.servoHold_ticks, Done.ok, Done.err] | split)

theorem State.refJudge_ticks (s : State) (n : Nat) (arrived : Bool) :
    (State.refJudge s n arrived).ticks = s.ticks := by
  unfold State.refJudge
  repeat' (first | simp only [apply_ite State.ticks, apply_ite Prod.fst, apply_ite Prod.snd, apply_ite Done.st, ite_self, implies_true, forall_const, foldl_ticks, State.qMove_ticks, State.qualFault_ticks, State.refHist_ticks, State.refTimer_ticks, State.refTimerOff_ticks, State.servoResume_ticks, State.waitFault_ticks, Done.ok, Done.err] | split)

theorem State.setFaults_ticks (s : State) (n : Nat) (m : BitVec 8) (arrived : Bool) :
    (State.setFaults s n m arrived).ticks = s.ticks := by
  unfold State.setFaults
  repeat' (first | simp only [apply_ite State.ticks, apply_ite Prod.fst, apply_ite Prod.snd, apply_ite Done.st, ite_self, implies_true, forall_const, foldl_ticks, State.majRefresh_ticks, State.modSlot_ticks, State.refHist_ticks, State.refJudge_ticks, Done.ok, Done.err] | split)

theorem State.setSource_ticks (s : State) (n : Nat) (invalid : Bool) (limit : Bool) (arrived : Bool) :
    (State.setSource s n invalid limit arrived).ticks = s.ticks := by
  unfold State.setSource
  repeat' (first | simp only [apply_ite State.ticks, apply_ite Prod.fst, apply_ite Prod.snd, apply_ite Done.st, ite_self, implies_true, forall_const, foldl_ticks, State.cellsStale_ticks, State.modSlot_ticks, State.refHist_ticks, State.setFaults_ticks, Done.ok, Done.err] | split)

theorem State.refAbsent_ticks (s : State) (n : Nat) :
    (State.refAbsent s n).ticks = s.ticks := by
  unfold State.refAbsent
  repeat' (first | simp only [apply_ite State.ticks, apply_ite Prod.fst, apply_ite Prod.snd, apply_ite Done.st, ite_self, implies_true, forall_const, foldl_ticks, State.cellsReset_ticks, State.majRefresh_ticks, State.modSlot_ticks, State.refHist_ticks, Done.ok, Done.err] | split)

theorem State.refPresence_ticks (s : State) :
    (State.refPresence s).ticks = s.ticks := by
  unfold State.refPresence
  repeat' (first | simp only [apply_ite State.ticks, apply_ite Prod.fst, apply_ite Prod.snd, apply_ite Done.st, ite_self, implies_true, forall_const, foldl_ticks, State.refHist_ticks, Done.ok, Done.err] | split)

theorem State.refStart_ticks (s : State) :
    (State.refStart s).ticks = s.ticks := by
  unfold State.refStart
  repeat' (first | simp only [apply_ite State.ticks, apply_ite Prod.fst, apply_ite Prod.snd, apply_ite Done.st, ite_self, implies_true, forall_const, foldl_ticks, State.modSlot_ticks, State.refAbsent_ticks, State.refHist_ticks, Done.ok, Done.err] | split)

theorem State.macPoint_ticks (s : State) (f : Option Int) :
    (State.macPoint s f).ticks = s.ticks := by
  unfold State.macPoint
  repeat' (first | simp only [apply_ite State.ticks, apply_ite Prod.fst, apply_ite Prod.snd, apply_ite Done.st, ite_self, implies_true, forall_const, foldl_ticks, Done.ok, Done.err] | split)

theorem State.refMonitor_ticks (s : State) (n : Nat) (jump : Bool) :
    (State.refMonitor s n jump).ticks = s.ticks := by
  unfold State.refMonitor
  repeat' (first | simp only [apply_ite State.ticks, apply_ite Prod.fst, apply_ite Prod.snd, apply_ite Done.st, ite_self, implies_true, forall_const, foldl_ticks, State.macPoint_ticks, State.modSlot_ticks, State.refHist_ticks, State.setFaults_ticks, Done.ok, Done.err] | split)

theorem State.servoLoop_ticks (s : State) (ps : PSet) (tMs : Nat) (e : Int) :
    (State.servoLoop s ps tMs e).ticks = s.ticks := by
  unfold State.servoLoop
  repeat' (first | simp only [apply_ite State.ticks, apply_ite Prod.fst, apply_ite Prod.snd, apply_ite Done.st, ite_self, implies_true, forall_const, foldl_ticks, Done.ok, Done.err] | split)

theorem State.lockStep_ticks (s : State) (ps : PSet) (e : Int) :
    (State.lockStep s ps e).ticks = s.ticks := by
  unfold State.lockStep
  repeat' (first | simp only [apply_ite State.ticks, apply_ite Prod.fst, apply_ite Prod.snd, apply_ite Done.st, ite_self, implies_true, forall_const, foldl_ticks, State.loopLoad_ticks, State.setAccord_ticks, Done.ok, Done.err] | split)

theorem State.refResidual_ticks (s : State) (n : Nat) (x : Int) :
    (State.refResidual s n x).ticks = s.ticks := by
  unfold State.refResidual
  repeat' (first | simp only [apply_ite State.ticks, apply_ite Prod.fst, apply_ite Prod.snd, apply_ite Done.st, ite_self, implies_true, forall_const, foldl_ticks, State.lockStep_ticks, State.servoLoop_ticks, Done.ok, Done.err] | split)

theorem State.refUpdate_ticks (s : State) (n : Nat) (x : Int) :
    (State.refUpdate s n x).ticks = s.ticks := by
  unfold State.refUpdate
  repeat' (first | simp only [apply_ite State.ticks, apply_ite Prod.fst, apply_ite Prod.snd, apply_ite Done.st, ite_self, implies_true, forall_const, foldl_ticks, State.cellsStale_ticks, State.cellsUpdate_ticks, State.modSlot_ticks, State.refMonitor_ticks, State.refResidual_ticks, Done.ok, Done.err] | split)

theorem State.refDeliver_ticks (s : State) (n : Nat) (x : Int) (eSrc : BitVec 24) :
    (State.refDeliver s n x eSrc).ticks = s.ticks := by
  unfold State.refDeliver
  repeat' (first | simp only [apply_ite State.ticks, apply_ite Prod.fst, apply_ite Prod.snd, apply_ite Done.st, ite_self, implies_true, forall_const, foldl_ticks, State.modSlot_ticks, State.refUpdate_ticks, Done.ok, Done.err] | split)

theorem State.steerTo_ticks (s : State) (x : Int) (source : Nat) :
    (State.steerTo s x source).ticks = s.ticks := by
  unfold State.steerTo
  repeat' (first | simp only [apply_ite State.ticks, apply_ite Prod.fst, apply_ite Prod.snd, apply_ite Done.st, ite_self, implies_true, forall_const, foldl_ticks, State.addStep_ticks, State.holdBegin_ticks, State.setAccord_ticks, State.startSteer_ticks, Done.ok, Done.err] | split)

theorem State.switchEnd_ticks (s : State) :
    (State.switchEnd s).ticks = s.ticks := by
  unfold State.switchEnd
  repeat' (first | simp only [apply_ite State.ticks, apply_ite Prod.fst, apply_ite Prod.snd, apply_ite Done.st, ite_self, implies_true, forall_const, foldl_ticks, State.raise_ticks, Done.ok, Done.err] | split)

theorem State.startSwitch_ticks (s : State) (cur : Nat) (dst : Nat) :
    (State.startSwitch s cur dst).ticks = s.ticks := by
  unfold State.startSwitch
  repeat' (first | simp only [apply_ite State.ticks, apply_ite Prod.fst, apply_ite Prod.snd, apply_ite Done.st, ite_self, implies_true, forall_const, foldl_ticks, State.addStep_ticks, State.pairEval_ticks, State.raise_ticks, State.startSteer_ticks, State.steerTo_ticks, State.switchEnd_ticks, Done.ok, Done.err] | split)

theorem State.allLost_ticks (s : State) (cur : Nat) :
    (State.allLost s cur).ticks = s.ticks := by
  unfold State.allLost
  repeat' (first | simp only [apply_ite State.ticks, apply_ite Prod.fst, apply_ite Prod.snd, apply_ite Done.st, ite_self, implies_true, forall_const, foldl_ticks, State.enterDrydown_ticks, State.raise_ticks, Done.ok, Done.err] | split)

theorem State.refSelect_ticks (s : State) :
    (State.refSelect s).ticks = s.ticks := by
  unfold State.refSelect
  repeat' (first | simp only [apply_ite State.ticks, apply_ite Prod.fst, apply_ite Prod.snd, apply_ite Done.st, ite_self, implies_true, forall_const, foldl_ticks, State.allLost_ticks, State.raise_ticks, State.startSwitch_ticks, Done.ok, Done.err] | split)

theorem State.switchDone_ticks (s : State) :
    (State.switchDone s).ticks = s.ticks := by
  unfold State.switchDone
  repeat' (first | simp only [apply_ite State.ticks, apply_ite Prod.fst, apply_ite Prod.snd, apply_ite Done.st, ite_self, implies_true, forall_const, foldl_ticks, State.refSelect_ticks, State.switchEnd_ticks, Done.ok, Done.err] | split)

theorem State.setAcdCfg_ticks (s : State) (f : AcdCfg → AcdCfg) :
    (State.setAcdCfg s f).ticks = s.ticks := by
  unfold State.setAcdCfg
  repeat' (first | simp only [apply_ite State.ticks, apply_ite Prod.fst, apply_ite Prod.snd, apply_ite Done.st, ite_self, implies_true, forall_const, foldl_ticks, Done.ok, Done.err] | split)

theorem specAcdQueryTime_ticks (p : Packet) (s : State) :
    (specAcdQueryTime.body p s).st.ticks = s.ticks := by
  unfold specAcdQueryTime
  repeat' (first | simp only [apply_ite State.ticks, apply_ite Prod.fst, apply_ite Prod.snd, apply_ite Done.st, ite_self, implies_true, forall_const, foldl_ticks, answer, gnsBody, keyBody, pairBody, svcBody, ticBody, answer_ticks, Done.ok, Done.err] | split)

theorem specAcdQueryServo_ticks (p : Packet) (s : State) :
    (specAcdQueryServo.body p s).st.ticks = s.ticks := by
  unfold specAcdQueryServo
  repeat' (first | simp only [apply_ite State.ticks, apply_ite Prod.fst, apply_ite Prod.snd, apply_ite Done.st, ite_self, implies_true, forall_const, foldl_ticks, answer, gnsBody, keyBody, pairBody, svcBody, ticBody, answer_ticks, Done.ok, Done.err] | split)

theorem specAcdSetServo_ticks (p : Packet) (s : State) :
    (specAcdSetServo.body p s).st.ticks = s.ticks := by
  unfold specAcdSetServo
  repeat' (first | simp only [apply_ite State.ticks, apply_ite Prod.fst, apply_ite Prod.snd, apply_ite Done.st, ite_self, implies_true, forall_const, foldl_ticks, answer, gnsBody, keyBody, pairBody, svcBody, ticBody, Done.ok_ticks, State.loopLoad_ticks, State.setAcdCfg_ticks, Done.ok, Done.err] | split)

theorem specAcdSetStepPolicy_ticks (p : Packet) (s : State) :
    (specAcdSetStepPolicy.body p s).st.ticks = s.ticks := by
  unfold specAcdSetStepPolicy
  repeat' (first | simp only [apply_ite State.ticks, apply_ite Prod.fst, apply_ite Prod.snd, apply_ite Done.st, ite_self, implies_true, forall_const, foldl_ticks, answer, gnsBody, keyBody, pairBody, svcBody, ticBody, Done.ok_ticks, State.setAcdCfg_ticks, Done.ok, Done.err] | split)

theorem specAcdSetHold_ticks (p : Packet) (s : State) :
    (specAcdSetHold.body p s).st.ticks = s.ticks := by
  unfold specAcdSetHold
  repeat' (first | simp only [apply_ite State.ticks, apply_ite Prod.fst, apply_ite Prod.snd, apply_ite Done.st, ite_self, implies_true, forall_const, foldl_ticks, answer, gnsBody, keyBody, pairBody, svcBody, ticBody, Done.ok_ticks, State.react_ticks, State.setAcdCfg_ticks, Done.ok, Done.err] | split)

theorem specAcdSetOscModel_ticks (p : Packet) (s : State) :
    (specAcdSetOscModel.body p s).st.ticks = s.ticks := by
  unfold specAcdSetOscModel
  repeat' (first | simp only [apply_ite State.ticks, apply_ite Prod.fst, apply_ite Prod.snd, apply_ite Done.st, ite_self, implies_true, forall_const, foldl_ticks, answer, gnsBody, keyBody, pairBody, svcBody, ticBody, Done.ok_ticks, State.setAcdCfg_ticks, Done.ok, Done.err] | split)

theorem specAcdSetTime_ticks (p : Packet) (s : State) :
    (specAcdSetTime.body p s).st.ticks = s.ticks := by
  unfold specAcdSetTime
  repeat' (first | simp only [apply_ite State.ticks, apply_ite Prod.fst, apply_ite Prod.snd, apply_ite Done.st, ite_self, implies_true, forall_const, foldl_ticks, answer, gnsBody, keyBody, pairBody, svcBody, ticBody, Done.err_ticks, Done.ok_ticks, State.seedAccord_ticks, Done.ok, Done.err] | split)

theorem specAcdAdjustPhase_ticks (p : Packet) (s : State) :
    (specAcdAdjustPhase.body p s).st.ticks = s.ticks := by
  unfold specAcdAdjustPhase
  repeat' (first | simp only [apply_ite State.ticks, apply_ite Prod.fst, apply_ite Prod.snd, apply_ite Done.st, ite_self, implies_true, forall_const, foldl_ticks, answer, gnsBody, keyBody, pairBody, svcBody, ticBody, Done.err_ticks, Done.ok_ticks, State.addStep_ticks, State.switchDone_ticks, Done.ok, Done.err] | split)

theorem specAcdSetUtc_ticks (p : Packet) (s : State) :
    (specAcdSetUtc.body p s).st.ticks = s.ticks := by
  unfold specAcdSetUtc
  repeat' (first | simp only [apply_ite State.ticks, apply_ite Prod.fst, apply_ite Prod.snd, apply_ite Done.st, ite_self, implies_true, forall_const, foldl_ticks, answer, gnsBody, keyBody, pairBody, svcBody, ticBody, Done.ok_ticks, State.raise_ticks, State.setAcdCfg_ticks, Done.ok, Done.err] | split)

theorem specAcdSetCpllSource_ticks (p : Packet) (s : State) :
    (specAcdSetCpllSource.body p s).st.ticks = s.ticks := by
  unfold specAcdSetCpllSource
  repeat' (first | simp only [apply_ite State.ticks, apply_ite Prod.fst, apply_ite Prod.snd, apply_ite Done.st, ite_self, implies_true, forall_const, foldl_ticks, answer, gnsBody, keyBody, pairBody, svcBody, ticBody, Done.err_ticks, Done.ok_ticks, State.setAcdCfg_ticks, Done.ok, Done.err] | split)

theorem specAcdEnterDrydown_ticks (p : Packet) (s : State) :
    (specAcdEnterDrydown.body p s).st.ticks = s.ticks := by
  unfold specAcdEnterDrydown
  repeat' (first | simp only [apply_ite State.ticks, apply_ite Prod.fst, apply_ite Prod.snd, apply_ite Done.st, ite_self, implies_true, forall_const, foldl_ticks, answer, gnsBody, keyBody, pairBody, svcBody, ticBody, Done.err_ticks, Done.ok_ticks, State.enterDrydown_ticks, Done.ok, Done.err] | split)

theorem specAcdSetMaceration_ticks (p : Packet) (s : State) :
    (specAcdSetMaceration.body p s).st.ticks = s.ticks := by
  unfold specAcdSetMaceration
  repeat' (first | simp only [apply_ite State.ticks, apply_ite Prod.fst, apply_ite Prod.snd, apply_ite Done.st, ite_self, implies_true, forall_const, foldl_ticks, answer, gnsBody, keyBody, pairBody, svcBody, ticBody, Done.ok_ticks, State.setAcdCfg_ticks, Done.ok, Done.err] | split)

theorem State.steerWrite_ticks (s : State) (v : Int) :
    (State.steerWrite s v).ticks = s.ticks := by
  unfold State.steerWrite
  repeat' (first | simp only [apply_ite State.ticks, apply_ite Prod.fst, apply_ite Prod.snd, apply_ite Done.st, ite_self, implies_true, forall_const, foldl_ticks, State.faultAssert_ticks, State.raise_ticks, State.setRate_ticks, State.writeMark_ticks, Done.ok, Done.err] | split)

theorem State.cpllLost_ticks (s : State) (gone : Bool) :
    (State.cpllLost s gone).ticks = s.ticks := by
  unfold State.cpllLost
  repeat' (first | simp only [apply_ite State.ticks, apply_ite Prod.fst, apply_ite Prod.snd, apply_ite Done.st, ite_self, implies_true, forall_const, foldl_ticks, State.faultAssert_ticks, Done.ok, Done.err] | split)

theorem State.leapNow_ticks (s : State) :
    (State.leapNow s).ticks = s.ticks := by
  unfold State.leapNow
  repeat' (first | simp only [apply_ite State.ticks, apply_ite Prod.fst, apply_ite Prod.snd, apply_ite Done.st, ite_self, implies_true, forall_const, foldl_ticks, State.commitCsp_ticks, State.keepWrite_ticks, State.raise_ticks, State.setAcdCfg_ticks, Done.ok, Done.err] | split)

theorem State.modTrk_ticks (s : State) (k : Nat) (f : GnsTrk → GnsTrk) :
    (State.modTrk s k f).ticks = s.ticks := by
  unfold State.modTrk
  repeat' (first | simp only [apply_ite State.ticks, apply_ite Prod.fst, apply_ite Prod.snd, apply_ite Done.st, ite_self, implies_true, forall_const, foldl_ticks, Done.ok, Done.err] | split)

theorem State.setGnsCfg_ticks (s : State) (f : GnsCfg → GnsCfg) :
    (State.setGnsCfg s f).ticks = s.ticks := by
  unfold State.setGnsCfg
  repeat' (first | simp only [apply_ite State.ticks, apply_ite Prod.fst, apply_ite Prod.snd, apply_ite Done.st, ite_self, implies_true, forall_const, foldl_ticks, Done.ok, Done.err] | split)

theorem State.gnsHist_ticks (s : State) (b : Nat) :
    (State.gnsHist s b).ticks = s.ticks := by
  unfold State.gnsHist
  repeat' (first | simp only [apply_ite State.ticks, apply_ite Prod.fst, apply_ite Prod.snd, apply_ite Done.st, ite_self, implies_true, forall_const, foldl_ticks, Done.ok, Done.err] | split)

theorem State.samples_ticks (s : State) (n : Nat) :
    (State.samples s n).ticks = s.ticks := by
  unfold State.samples
  repeat' (first | simp only [apply_ite State.ticks, apply_ite Prod.fst, apply_ite Prod.snd, apply_ite Done.st, ite_self, implies_true, forall_const, foldl_ticks, Done.ok, Done.err] | split)

theorem State.notchesOn_ticks (s : State) :
    (State.notchesOn s).ticks = s.ticks := by
  unfold State.notchesOn
  repeat' (first | simp only [apply_ite State.ticks, apply_ite Prod.fst, apply_ite Prod.snd, apply_ite Done.st, ite_self, implies_true, forall_const, foldl_ticks, Done.ok, Done.err] | split)

theorem State.mapBank_ticks (s : State) (i : Nat) (t : BitVec 7) :
    (State.mapBank s i t).ticks = s.ticks := by
  unfold State.mapBank
  repeat' (first | simp only [apply_ite State.ticks, apply_ite Prod.fst, apply_ite Prod.snd, apply_ite Done.st, ite_self, implies_true, forall_const, foldl_ticks, State.setGnsCfg_ticks, Done.ok, Done.err] | split)

theorem State.mapKeep_ticks (s : State) :
    (State.mapKeep s).ticks = s.ticks := by
  unfold State.mapKeep
  repeat' (first | simp only [apply_ite State.ticks, apply_ite Prod.fst, apply_ite Prod.snd, apply_ite Done.st, ite_self, implies_true, forall_const, foldl_ticks, State.keepOwn_ticks, Done.ok, Done.err] | split)

theorem State.bankPool_ticks (s : State) (before : Nat) :
    (State.bankPool s before).ticks = s.ticks := by
  unfold State.bankPool
  repeat' (first | simp only [apply_ite State.ticks, apply_ite Prod.fst, apply_ite Prod.snd, apply_ite Done.st, ite_self, implies_true, forall_const, foldl_ticks, State.raise_ticks, Done.ok, Done.err] | split)

theorem State.bankFailed_ticks (s : State) (b : Nat) :
    (State.bankFailed s b).ticks = s.ticks := by
  unfold State.bankFailed
  repeat' (first | simp only [apply_ite State.ticks, apply_ite Prod.fst, apply_ite Prod.snd, apply_ite Done.st, ite_self, implies_true, forall_const, foldl_ticks, State.bankPool_ticks, State.faultAssert_ticks, State.gnsHist_ticks, State.mapBank_ticks, State.mapKeep_ticks, State.raise_ticks, Done.ok, Done.err] | split)

theorem State.spareFailed_ticks (s : State) (i : Nat) :
    (State.spareFailed s i).ticks = s.ticks := by
  unfold State.spareFailed
  repeat' (first | simp only [apply_ite State.ticks, apply_ite Prod.fst, apply_ite Prod.snd, apply_ite Done.st, ite_self, implies_true, forall_const, foldl_ticks, State.mapBank_ticks, State.mapKeep_ticks, State.raise_ticks, Done.ok, Done.err] | split)

theorem State.bankTest_ticks (s : State) (banks : BitVec 72) :
    (State.bankTest s banks).ticks = s.ticks := by
  unfold State.bankTest
  repeat' (first | simp only [apply_ite State.ticks, apply_ite Prod.fst, apply_ite Prod.snd, apply_ite Done.st, ite_self, implies_true, forall_const, foldl_ticks, State.bankFailed_ticks, State.spareFailed_ticks, Done.ok, Done.err] | split)

theorem State.gnsEval_ticks (s : State) :
    (State.gnsEval s).ticks = s.ticks := by
  unfold State.gnsEval
  repeat' (first | simp only [apply_ite State.ticks, apply_ite Prod.fst, apply_ite Prod.snd, apply_ite Done.st, ite_self, implies_true, forall_const, foldl_ticks, State.setSource_ticks, Done.ok, Done.err] | split)

theorem State.anchorTake_ticks (s : State) :
    (State.anchorTake s).ticks = s.ticks := by
  unfold State.anchorTake
  repeat' (first | simp only [apply_ite State.ticks, apply_ite Prod.fst, apply_ite Prod.snd, apply_ite Done.st, ite_self, implies_true, forall_const, foldl_ticks, Done.ok, Done.err] | split)

theorem State.anchorMove_ticks (s : State) :
    (State.anchorMove s).ticks = s.ticks := by
  unfold State.anchorMove
  repeat' (first | simp only [apply_ite State.ticks, apply_ite Prod.fst, apply_ite Prod.snd, apply_ite Done.st, ite_self, implies_true, forall_const, foldl_ticks, State.anchorTake_ticks, State.raise_ticks, Done.ok, Done.err] | split)

theorem State.anchorByHand_ticks (s : State) :
    (State.anchorByHand s).ticks = s.ticks := by
  unfold State.anchorByHand
  repeat' (first | simp only [apply_ite State.ticks, apply_ite Prod.fst, apply_ite Prod.snd, apply_ite Done.st, ite_self, implies_true, forall_const, foldl_ticks, State.anchorMove_ticks, Done.ok, Done.err] | split)

theorem State.anchorTempStep_ticks (s : State) :
    (State.anchorTempStep s).ticks = s.ticks := by
  unfold State.anchorTempStep
  repeat' (first | simp only [apply_ite State.ticks, apply_ite Prod.fst, apply_ite Prod.snd, apply_ite Done.st, ite_self, implies_true, forall_const, foldl_ticks, Done.ok, Done.err] | split)

theorem State.spoofBegins_ticks (s : State) (b : Nat) :
    (State.spoofBegins s b).ticks = s.ticks := by
  unfold State.spoofBegins
  repeat' (first | simp only [apply_ite State.ticks, apply_ite Prod.fst, apply_ite Prod.snd, apply_ite Done.st, ite_self, implies_true, forall_const, foldl_ticks, State.gnsHist_ticks, State.raise_ticks, Done.ok, Done.err] | split)

theorem State.crossCheck_ticks (s : State) :
    (State.crossCheck s).ticks = s.ticks := by
  unfold State.crossCheck
  repeat' (first | simp only [apply_ite State.ticks, apply_ite Prod.fst, apply_ite Prod.snd, apply_ite Done.st, ite_self, implies_true, forall_const, foldl_ticks, State.spoofBegins_ticks, Done.ok, Done.err] | split)

theorem State.anchorStep_ticks (s : State) :
    (State.anchorStep s).ticks = s.ticks := by
  unfold State.anchorStep
  repeat' (first | simp only [apply_ite State.ticks, apply_ite Prod.fst, apply_ite Prod.snd, apply_ite Done.st, ite_self, implies_true, forall_const, foldl_ticks, State.anchorMove_ticks, State.anchorTake_ticks, Done.ok, Done.err] | split)

theorem State.spoofEb_ticks (s : State) (began : Bool) (sel : Bool) :
    (State.spoofEb s began sel).ticks = s.ticks := by
  unfold State.spoofEb
  repeat' (first | simp only [apply_ite State.ticks, apply_ite Prod.fst, apply_ite Prod.snd, apply_ite Done.st, ite_self, implies_true, forall_const, foldl_ticks, Done.ok, Done.err] | split)

theorem State.modTch_ticks (s : State) (n : Nat) (f : TicCh → TicCh) :
    (State.modTch s n f).ticks = s.ticks := by
  unfold State.modTch
  repeat' (first | simp only [apply_ite State.ticks, apply_ite Prod.fst, apply_ite Prod.snd, apply_ite Done.st, ite_self, implies_true, forall_const, foldl_ticks, Done.ok, Done.err] | split)

theorem State.modConv_ticks (s : State) (c : Nat) (f : TicConv → TicConv) :
    (State.modConv s c f).ticks = s.ticks := by
  unfold State.modConv
  repeat' (first | simp only [apply_ite State.ticks, apply_ite Prod.fst, apply_ite Prod.snd, apply_ite Done.st, ite_self, implies_true, forall_const, foldl_ticks, Done.ok, Done.err] | split)

theorem State.modSpare_ticks (s : State) (i : Nat) (f : TicSpare → TicSpare) :
    (State.modSpare s i f).ticks = s.ticks := by
  unfold State.modSpare
  repeat' (first | simp only [apply_ite State.ticks, apply_ite Prod.fst, apply_ite Prod.snd, apply_ite Done.st, ite_self, implies_true, forall_const, foldl_ticks, Done.ok, Done.err] | split)

theorem State.ticRaise_ticks (s : State) (b : Nat) (ch : Nat) (value : Int) :
    (State.ticRaise s b ch value).ticks = s.ticks := by
  unfold State.ticRaise
  repeat' (first | simp only [apply_ite State.ticks, apply_ite Prod.fst, apply_ite Prod.snd, apply_ite Done.st, ite_self, implies_true, forall_const, foldl_ticks, State.raise_ticks, Done.ok, Done.err] | split)

theorem State.ticEnqueue_ticks (s : State) (n : Nat) (rec : List W32) :
    (State.ticEnqueue s n rec).ticks = s.ticks := by
  unfold State.ticEnqueue
  repeat' (first | simp only [apply_ite State.ticks, apply_ite Prod.fst, apply_ite Prod.snd, apply_ite Done.st, ite_self, implies_true, forall_const, foldl_ticks, State.modTch_ticks, State.ticRaise_ticks, Done.ok, Done.err] | split)

theorem State.ticMark_ticks (s : State) (n : Nat) (code : Nat) (arg : Nat) (arg2 : W32) :
    (State.ticMark s n code arg arg2).ticks = s.ticks := by
  unfold State.ticMark
  repeat' (first | simp only [apply_ite State.ticks, apply_ite Prod.fst, apply_ite Prod.snd, apply_ite Done.st, ite_self, implies_true, forall_const, foldl_ticks, State.ticEnqueue_ticks, Done.ok, Done.err] | split)

theorem State.ticPush_ticks (s : State) (n : Nat) (rec : List W32) :
    (State.ticPush s n rec).ticks = s.ticks := by
  unfold State.ticPush
  repeat' (first | simp only [apply_ite State.ticks, apply_ite Prod.fst, apply_ite Prod.snd, apply_ite Done.st, ite_self, implies_true, forall_const, foldl_ticks, State.modTch_ticks, State.ticEnqueue_ticks, State.ticRaise_ticks, Done.ok, Done.err] | split)

theorem State.ivWrite_ticks (s : State) (n : Nat) (a : TicArm) (r : IvResult) (b : Nat) :
    (State.ivWrite s n a r b).ticks = s.ticks := by
  unfold State.ivWrite
  repeat' (first | simp only [apply_ite State.ticks, apply_ite Prod.fst, apply_ite Prod.snd, apply_ite Done.st, ite_self, implies_true, forall_const, foldl_ticks, State.modTch_ticks, State.ticRaise_ticks, Done.ok, Done.err] | split)

theorem State.ivDone_ticks (s : State) (n : Nat) (a : TicArm) (x : IvEdge) (y : IvEdge) :
    (State.ivDone s n a x y).ticks = s.ticks := by
  unfold State.ivDone
  repeat' (first | simp only [apply_ite State.ticks, apply_ite Prod.fst, apply_ite Prod.snd, apply_ite Done.st, ite_self, implies_true, forall_const, foldl_ticks, State.ivWrite_ticks, Done.ok, Done.err] | split)

theorem State.ivCheck_ticks (s : State) (n : Nat) :
    (State.ivCheck s n).ticks = s.ticks := by
  unfold State.ivCheck
  repeat' (first | simp only [apply_ite State.ticks, apply_ite Prod.fst, apply_ite Prod.snd, apply_ite Done.st, ite_self, implies_true, forall_const, foldl_ticks, State.ivDone_ticks, Done.ok, Done.err] | split)

theorem State.ivAsStart_ticks (s : State) (ch : Nat) (falling : Bool) (e : IvEdge) :
    (State.ivAsStart s ch falling e).ticks = s.ticks := by
  unfold State.ivAsStart
  repeat' (first | simp only [apply_ite State.ticks, apply_ite Prod.fst, apply_ite Prod.snd, apply_ite Done.st, ite_self, implies_true, forall_const, foldl_ticks, State.modTch_ticks, Done.ok, Done.err] | split)

theorem State.ivAsStop_ticks (s : State) (ch : Nat) (falling : Bool) (e : IvEdge) :
    (State.ivAsStop s ch falling e).ticks = s.ticks := by
  unfold State.ivAsStop
  repeat' (first | simp only [apply_ite State.ticks, apply_ite Prod.fst, apply_ite Prod.snd, apply_ite Done.st, ite_self, implies_true, forall_const, foldl_ticks, State.modTch_ticks, Done.ok, Done.err] | split)

theorem State.ivMissed_ticks (s : State) (ch : Nat) (falling : Bool) :
    (State.ivMissed s ch falling).ticks = s.ticks := by
  unfold State.ivMissed
  repeat' (first | simp only [apply_ite State.ticks, apply_ite Prod.fst, apply_ite Prod.snd, apply_ite Done.st, ite_self, implies_true, forall_const, foldl_ticks, State.modTch_ticks, Done.ok, Done.err] | split)

theorem State.ivEnd_ticks (s : State) (n : Nat) (status : Nat) (b : Nat) :
    (State.ivEnd s n status b).ticks = s.ticks := by
  unfold State.ivEnd
  repeat' (first | simp only [apply_ite State.ticks, apply_ite Prod.fst, apply_ite Prod.snd, apply_ite Done.st, ite_self, implies_true, forall_const, foldl_ticks, State.ivWrite_ticks, Done.ok, Done.err] | split)

theorem State.ivAbort_ticks (s : State) (ch : Nat) :
    (State.ivAbort s ch).ticks = s.ticks := by
  unfold State.ivAbort
  repeat' (first | simp only [apply_ite State.ticks, apply_ite Prod.fst, apply_ite Prod.snd, apply_ite Done.st, ite_self, implies_true, forall_const, foldl_ticks, State.ivEnd_ticks, Done.ok, Done.err] | split)

theorem State.takeSpare_ticks (s : State) (i : Nat) (use : Nat) (n : Nat) (home : Nat) :
    (State.takeSpare s i use n home).ticks = s.ticks := by
  unfold State.takeSpare
  repeat' (first | simp only [apply_ite State.ticks, apply_ite Prod.fst, apply_ite Prod.snd, apply_ite Done.st, ite_self, implies_true, forall_const, foldl_ticks, State.modSpare_ticks, State.raise_ticks, Done.ok, Done.err] | split)

theorem State.dropSpare_ticks (s : State) (i : Nat) :
    (State.dropSpare s i).ticks = s.ticks := by
  unfold State.dropSpare
  repeat' (first | simp only [apply_ite State.ticks, apply_ite Prod.fst, apply_ite Prod.snd, apply_ite Done.st, ite_self, implies_true, forall_const, foldl_ticks, State.modSpare_ticks, Done.ok, Done.err] | split)

theorem State.ticServed_ticks (s : State) :
    (State.ticServed s).ticks = s.ticks := by
  unfold State.ticServed
  repeat' (first | simp only [apply_ite State.ticks, apply_ite Prod.fst, apply_ite Prod.snd, apply_ite Done.st, ite_self, implies_true, forall_const, foldl_ticks, State.faultEnd_ticks, Done.ok, Done.err] | split)

theorem State.handOver_ticks (s : State) (n : Nat) (c : Nat) :
    (State.handOver s n c).ticks = s.ticks := by
  unfold State.handOver
  repeat' (first | simp only [apply_ite State.ticks, apply_ite Prod.fst, apply_ite Prod.snd, apply_ite Done.st, ite_self, implies_true, forall_const, foldl_ticks, State.modTch_ticks, State.ticMark_ticks, State.ticRaise_ticks, State.ticServed_ticks, Done.ok, Done.err] | split)

theorem State.spareLeft_ticks (s : State) (c : Nat) :
    (State.spareLeft s c).ticks = s.ticks := by
  unfold State.spareLeft
  repeat' (first | simp only [apply_ite State.ticks, apply_ite Prod.fst, apply_ite Prod.snd, apply_ite Done.st, ite_self, implies_true, forall_const, foldl_ticks, State.dropSpare_ticks, Done.ok, Done.err] | split)

theorem State.releaseRolling_ticks (s : State) (i : Nat) :
    (State.releaseRolling s i).ticks = s.ticks := by
  unfold State.releaseRolling
  repeat' (first | simp only [apply_ite State.ticks, apply_ite Prod.fst, apply_ite Prod.snd, apply_ite Done.st, ite_self, implies_true, forall_const, foldl_ticks, State.dropSpare_ticks, State.handOver_ticks, State.modConv_ticks, Done.ok, Done.err] | split)

theorem State.calBreak_ticks (s : State) (i : Nat) :
    (State.calBreak s i).ticks = s.ticks := by
  unfold State.calBreak
  repeat' (first | simp only [apply_ite State.ticks, apply_ite Prod.fst, apply_ite Prod.snd, apply_ite Done.st, ite_self, implies_true, forall_const, foldl_ticks, State.modConv_ticks, Done.ok, Done.err] | split)

theorem State.claimSpare_ticks (s : State) :
    (State.claimSpare s).1.ticks = s.ticks := by
  unfold State.claimSpare
  repeat' (first | simp only [apply_ite State.ticks, apply_ite Prod.fst, apply_ite Prod.snd, apply_ite Done.st, ite_self, implies_true, forall_const, foldl_ticks, State.calBreak_ticks, State.releaseRolling_ticks, Done.ok, Done.err] | split)

theorem State.substKeep_ticks (s : State) (i : Nat) (n : Nat) :
    (State.substKeep s i n).ticks = s.ticks := by
  unfold State.substKeep
  repeat' (first | simp only [apply_ite State.ticks, apply_ite Prod.fst, apply_ite Prod.snd, apply_ite Done.st, ite_self, implies_true, forall_const, foldl_ticks, State.keepOwn_ticks, Done.ok, Done.err] | split)

theorem State.spareFor_ticks (s : State) (n c : Nat) (t : State) (h : s.spareFor n c = some t) : t.ticks = s.ticks := by
  unfold State.spareFor at h
  obtain ⟨i, _, rfl⟩ := Option.map_eq_some_iff.mp h
  simp only [State.faultAssert_ticks, State.handOver_ticks, State.substKeep_ticks, State.takeSpare_ticks]
  split <;> simp only [State.claimSpare_ticks]

theorem State.spareForD_ticks (s : State) (n c : Nat) (d : State) (hd : d.ticks = s.ticks) :
    ((s.spareFor n c).getD d).ticks = s.ticks := by
  cases h : s.spareFor n c with
  | none => exact hd
  | some t => exact State.spareFor_ticks s n c t h

theorem State.convLost_ticks (s : State) (n c : Nat) : (s.convLost n c).ticks = s.ticks := by
  unfold State.convLost
  exact State.spareForD_ticks s n c _ (by simp only [State.faultAssert_ticks, State.raise_ticks])

theorem State.swapKeep_ticks (s : State) (i : Nat) :
    (State.swapKeep s i).ticks = s.ticks := by
  unfold State.swapKeep
  repeat' (first | simp only [apply_ite State.ticks, apply_ite Prod.fst, apply_ite Prod.snd, apply_ite Done.st, ite_self, implies_true, forall_const, foldl_ticks, State.faultAssert_ticks, State.modSpare_ticks, State.substKeep_ticks, Done.ok, Done.err] | split)

theorem State.swapBroken_ticks (c : Nat) (s : State) (i : Nat) :
    (State.swapBroken c s i).ticks = s.ticks := by
  unfold State.swapBroken
  repeat' (first | simp only [apply_ite State.ticks, apply_ite Prod.fst, apply_ite Prod.snd, apply_ite Done.st, ite_self, implies_true, forall_const, foldl_ticks, State.dropSpare_ticks, State.handOver_ticks, State.spareLeft_ticks, State.swapKeep_ticks, Done.ok, Done.err] | split)

theorem State.convFail_ticks (s : State) (c : Nat) :
    (State.convFail s c).ticks = s.ticks := by
  unfold State.convFail
  repeat' (first | simp only [apply_ite State.ticks, apply_ite Prod.fst, apply_ite Prod.snd, apply_ite Done.st, ite_self, implies_true, forall_const, foldl_ticks, State.convLost_ticks, State.dropSpare_ticks, State.modConv_ticks, State.releaseRolling_ticks, State.swapBroken_ticks, Done.ok, Done.err] | split)

theorem State.heal_ticks (s : State) (n : Nat) : (s.heal n).ticks = s.ticks := by
  unfold State.heal
  split
  · exact State.spareForD_ticks s n _ s rfl
  · rfl

theorem State.swapStart_ticks (s : State) (i : Nat) (back : Bool) :
    (State.swapStart s i back).ticks = s.ticks := by
  unfold State.swapStart
  repeat' (first | simp only [apply_ite State.ticks, apply_ite Prod.fst, apply_ite Prod.snd, apply_ite Done.st, ite_self, implies_true, forall_const, foldl_ticks, State.modSpare_ticks, Done.ok, Done.err] | split)

theorem State.swapOver_ticks (s : State) (i : Nat) :
    (State.swapOver s i).ticks = s.ticks := by
  unfold State.swapOver
  repeat' (first | simp only [apply_ite State.ticks, apply_ite Prod.fst, apply_ite Prod.snd, apply_ite Done.st, ite_self, implies_true, forall_const, foldl_ticks, State.dropSpare_ticks, State.handOver_ticks, State.modConv_ticks, State.modSpare_ticks, State.spareLeft_ticks, Done.ok, Done.err] | split)

theorem State.swap_ticks (s : State) (i : Nat) (back : Bool) :
    (State.swap s i back).ticks = s.ticks := by
  unfold State.swap
  repeat' (first | simp only [apply_ite State.ticks, apply_ite Prod.fst, apply_ite Prod.snd, apply_ite Done.st, ite_self, implies_true, forall_const, foldl_ticks, State.swapOver_ticks, State.swapStart_ticks, Done.ok, Done.err] | split)

theorem State.calStale_ticks (s : State) (n : Nat) :
    (State.calStale s n).ticks = s.ticks := by
  unfold State.calStale
  repeat' (first | simp only [apply_ite State.ticks, apply_ite Prod.fst, apply_ite Prod.snd, apply_ite Done.st, ite_self, implies_true, forall_const, foldl_ticks, State.modTch_ticks, State.ticRaise_ticks, Done.ok, Done.err] | split)

theorem State.ticCalCount_ticks (s : State) (c : Nat) :
    (State.ticCalCount s c).ticks = s.ticks := by
  unfold State.ticCalCount
  repeat' (first | simp only [apply_ite State.ticks, apply_ite Prod.fst, apply_ite Prod.snd, apply_ite Done.st, ite_self, implies_true, forall_const, foldl_ticks, State.raise_ticks, Done.ok, Done.err] | split)

theorem State.swapAbandon_ticks (s : State) (i : Nat) :
    (State.swapAbandon s i).ticks = s.ticks := by
  unfold State.swapAbandon
  repeat' (first | simp only [apply_ite State.ticks, apply_ite Prod.fst, apply_ite Prod.snd, apply_ite Done.st, ite_self, implies_true, forall_const, foldl_ticks, State.dropSpare_ticks, State.faultAssert_ticks, State.modSpare_ticks, State.ticCalCount_ticks, State.ticRaise_ticks, Done.ok, Done.err] | split)

theorem State.calTry_ticks (s : State) (c : Nat) :
    (State.calTry s c).ticks = s.ticks := by
  unfold State.calTry
  repeat' (first | simp only [apply_ite State.ticks, apply_ite Prod.fst, apply_ite Prod.snd, apply_ite Done.st, ite_self, implies_true, forall_const, foldl_ticks, State.calStale_ticks, State.modConv_ticks, State.swap_ticks, State.takeSpare_ticks, State.ticCalCount_ticks, Done.ok, Done.err] | split)

theorem State.calNext_ticks (s : State) :
    (State.calNext s).ticks = s.ticks := by
  unfold State.calNext
  repeat' (first | simp only [apply_ite State.ticks, apply_ite Prod.fst, apply_ite Prod.snd, apply_ite Done.st, ite_self, implies_true, forall_const, foldl_ticks, State.calTry_ticks, State.heal_ticks, Done.ok, Done.err] | split)

theorem State.calPass_ticks (s : State) (c : Nat) (r : CalRun) :
    (State.calPass s c r).ticks = s.ticks := by
  unfold State.calPass
  repeat' (first | simp only [apply_ite State.ticks, apply_ite Prod.fst, apply_ite Prod.snd, apply_ite Done.st, ite_self, implies_true, forall_const, foldl_ticks, State.calStale_ticks, State.keepOwn_ticks, State.modConv_ticks, State.modTch_ticks, State.raise_ticks, State.ticMark_ticks, Done.ok, Done.err] | split)

theorem State.swapHome_ticks (s : State) (c : Nat) :
    (State.swapHome s c).ticks = s.ticks := by
  unfold State.swapHome
  repeat' (first | simp only [apply_ite State.ticks, apply_ite Prod.fst, apply_ite Prod.snd, apply_ite Done.st, ite_self, implies_true, forall_const, foldl_ticks, State.swap_ticks, Done.ok, Done.err] | split)

theorem State.coverKeep_ticks (s : State) (c : Nat) :
    (State.coverKeep s c).ticks = s.ticks := by
  unfold State.coverKeep
  repeat' (first | simp only [apply_ite State.ticks, apply_ite Prod.fst, apply_ite Prod.snd, apply_ite Done.st, ite_self, implies_true, forall_const, foldl_ticks, State.dropSpare_ticks, State.faultAssert_ticks, State.handOver_ticks, State.raise_ticks, State.swapKeep_ticks, Done.ok, Done.err] | split)

theorem State.pairStamp_ticks (s : State) (n : Nat) (t : Int) :
    (State.pairStamp s n t).ticks = s.ticks := by
  unfold State.pairStamp
  repeat' (first | simp only [apply_ite State.ticks, apply_ite Prod.fst, apply_ite Prod.snd, apply_ite Done.st, ite_self, implies_true, forall_const, foldl_ticks, Done.ok, Done.err] | split)

theorem State.modLane_ticks (s : State) (l : Nat) (f : Lane → Lane) :
    (State.modLane s l f).ticks = s.ticks := by
  unfold State.modLane
  repeat' (first | simp only [apply_ite State.ticks, apply_ite Prod.fst, apply_ite Prod.snd, apply_ite Done.st, ite_self, implies_true, forall_const, foldl_ticks, Done.ok, Done.err] | split)

theorem State.setLaneCfg_ticks (s : State) (l : Nat) (f : LaneCfg → LaneCfg) :
    (State.setLaneCfg s l f).ticks = s.ticks := by
  unfold State.setLaneCfg
  repeat' (first | simp only [apply_ite State.ticks, apply_ite Prod.fst, apply_ite Prod.snd, apply_ite Done.st, ite_self, implies_true, forall_const, foldl_ticks, Done.ok, Done.err] | split)

theorem State.ethCount_ticks (s : State) (l : Nat) (i : Nat) (n : Nat) :
    (State.ethCount s l i n).ticks = s.ticks := by
  unfold State.ethCount
  repeat' (first | simp only [apply_ite State.ticks, apply_ite Prod.fst, apply_ite Prod.snd, apply_ite Done.st, ite_self, implies_true, forall_const, foldl_ticks, State.modLane_ticks, Done.ok, Done.err] | split)

theorem State.ethRaise_ticks (s : State) (b : Nat) (l : Nat) (value : Int) (old : Nat) (new : Nat) :
    (State.ethRaise s b l value old new).ticks = s.ticks := by
  unfold State.ethRaise
  repeat' (first | simp only [apply_ite State.ticks, apply_ite Prod.fst, apply_ite Prod.snd, apply_ite Done.st, ite_self, implies_true, forall_const, foldl_ticks, State.raise_ticks, Done.ok, Done.err] | split)

theorem State.ringPushN_ticks (s : State) (r : Nat) (n : Nat) (rec : List W32) :
    (State.ringPushN s r n rec).ticks = s.ticks := by
  unfold State.ringPushN
  repeat' (first | simp only [apply_ite State.ticks, apply_ite Prod.fst, apply_ite Prod.snd, apply_ite Done.st, ite_self, implies_true, forall_const, foldl_ticks, Done.ok, Done.err] | split)

theorem State.rxDeliver_ticks (s : State) (l : Nat) (t : Stamp) (bs : List Byte) (ring : Nat) (rule : Nat) :
    (State.rxDeliver s l t bs ring rule).ticks = s.ticks := by
  unfold State.rxDeliver
  repeat' (first | simp only [apply_ite State.ticks, apply_ite Prod.fst, apply_ite Prod.snd, apply_ite Done.st, ite_self, implies_true, forall_const, foldl_ticks, State.ethCount_ticks, State.ethRaise_ticks, State.ringPushN_ticks, Done.ok, Done.err] | split)

theorem State.rxCount_ticks (s : State) (l : Nat) (o : RxOutcome) (len : Nat) :
    (State.rxCount s l o len).ticks = s.ticks := by
  unfold State.rxCount
  repeat' (first | simp only [apply_ite State.ticks, apply_ite Prod.fst, apply_ite Prod.snd, apply_ite Done.st, ite_self, implies_true, forall_const, foldl_ticks, Done.ok_ticks, State.ethCount_ticks, State.ethRaise_ticks, Done.ok, Done.err] | split)

theorem State.capClose_ticks (s : State) (l : Nat) :
    (State.capClose s l).ticks = s.ticks := by
  unfold State.capClose
  repeat' (first | simp only [apply_ite State.ticks, apply_ite Prod.fst, apply_ite Prod.snd, apply_ite Done.st, ite_self, implies_true, forall_const, foldl_ticks, State.modLane_ticks, Done.ok, Done.err] | split)

theorem State.capOpen_ticks (s : State) (l : Nat) (ms : Nat) (again : Bool) :
    (State.capOpen s l ms again).ticks = s.ticks := by
  unfold State.capOpen
  repeat' (first | simp only [apply_ite State.ticks, apply_ite Prod.fst, apply_ite Prod.snd, apply_ite Done.st, ite_self, implies_true, forall_const, foldl_ticks, State.modLane_ticks, Done.ok, Done.err] | split)

theorem State.capRoll_ticks (s : State) (l : Nat) :
    (State.capRoll s l).ticks = s.ticks := by
  unfold State.capRoll
  repeat' (first | simp only [apply_ite State.ticks, apply_ite Prod.fst, apply_ite Prod.snd, apply_ite Done.st, ite_self, implies_true, forall_const, foldl_ticks, State.capClose_ticks, State.capOpen_ticks, Done.ok, Done.err] | split)

theorem State.capRecord_ticks (s : State) (l : Nat) (ws : List W32) :
    (State.capRecord s l ws).ticks = s.ticks := by
  unfold State.capRecord
  repeat' (first | simp only [apply_ite State.ticks, apply_ite Prod.fst, apply_ite Prod.snd, apply_ite Done.st, ite_self, implies_true, forall_const, foldl_ticks, State.ethCount_ticks, State.ethRaise_ticks, State.modLane_ticks, Done.ok, Done.err] | split)

theorem State.capLoss_ticks (s : State) (l : Nat) :
    (State.capLoss s l).ticks = s.ticks := by
  unfold State.capLoss
  repeat' (first | simp only [apply_ite State.ticks, apply_ite Prod.fst, apply_ite Prod.snd, apply_ite Done.st, ite_self, implies_true, forall_const, foldl_ticks, State.capRecord_ticks, State.ethRaise_ticks, State.modLane_ticks, Done.ok, Done.err] | split)

theorem State.capLink_ticks (s : State) (l : Nat) (up : Bool) :
    (State.capLink s l up).ticks = s.ticks := by
  unfold State.capLink
  repeat' (first | simp only [apply_ite State.ticks, apply_ite Prod.fst, apply_ite Prod.snd, apply_ite Done.st, ite_self, implies_true, forall_const, foldl_ticks, State.capLoss_ticks, State.capRecord_ticks, State.capRoll_ticks, Done.ok, Done.err] | split)

theorem State.capWhileSusp_ticks (s : State) (l : Nat) :
    (State.capWhileSusp s l).ticks = s.ticks := by
  unfold State.capWhileSusp
  repeat' (first | simp only [apply_ite State.ticks, apply_ite Prod.fst, apply_ite Prod.snd, apply_ite Done.st, ite_self, implies_true, forall_const, foldl_ticks, State.ethCount_ticks, State.modLane_ticks, Done.ok, Done.err] | split)

theorem State.capLost_ticks (s : State) (l : Nat) :
    (State.capLost s l).ticks = s.ticks := by
  unfold State.capLost
  repeat' (first | simp only [apply_ite State.ticks, apply_ite Prod.fst, apply_ite Prod.snd, apply_ite Done.st, ite_self, implies_true, forall_const, foldl_ticks, State.ethCount_ticks, State.modLane_ticks, Done.ok, Done.err] | split)

theorem State.capFrame_ticks (s : State) (l : Nat) (t : Stamp) (o : RxOutcome) (f : RxFrame) :
    (State.capFrame s l t o f).ticks = s.ticks := by
  unfold State.capFrame
  repeat' (first | simp only [apply_ite State.ticks, apply_ite Prod.fst, apply_ite Prod.snd, apply_ite Done.st, ite_self, implies_true, forall_const, foldl_ticks, State.capLoss_ticks, State.capLost_ticks, State.capRecord_ticks, State.capRoll_ticks, State.capWhileSusp_ticks, Done.ok, Done.err] | split)

theorem State.capSuspend_ticks (s : State) (l : Nat) (cause : Nat) :
    (State.capSuspend s l cause).ticks = s.ticks := by
  unfold State.capSuspend
  repeat' (first | simp only [apply_ite State.ticks, apply_ite Prod.fst, apply_ite Prod.snd, apply_ite Done.st, ite_self, implies_true, forall_const, foldl_ticks, State.capClose_ticks, State.ethRaise_ticks, State.modLane_ticks, Done.ok, Done.err] | split)

theorem State.capResume_ticks (s : State) (l : Nat) :
    (State.capResume s l).ticks = s.ticks := by
  unfold State.capResume
  repeat' (first | simp only [apply_ite State.ticks, apply_ite Prod.fst, apply_ite Prod.snd, apply_ite Done.st, ite_self, implies_true, forall_const, foldl_ticks, State.capLoss_ticks, State.capRecord_ticks, State.capRoll_ticks, State.ethRaise_ticks, State.modLane_ticks, Done.ok, Done.err] | split)

theorem State.capEnd_ticks (s : State) (l : Nat) :
    (State.capEnd s l).ticks = s.ticks := by
  unfold State.capEnd
  repeat' (first | simp only [apply_ite State.ticks, apply_ite Prod.fst, apply_ite Prod.snd, apply_ite Done.st, ite_self, implies_true, forall_const, foldl_ticks, State.capClose_ticks, State.capLoss_ticks, State.modLane_ticks, Done.ok, Done.err] | split)

theorem State.rootReady_ticks (s : State) (l : Nat) (c : ClosedIv) :
    (State.rootReady s l c).ticks = s.ticks := by
  unfold State.rootReady
  repeat' (first | simp only [apply_ite State.ticks, apply_ite Prod.fst, apply_ite Prod.snd, apply_ite Done.st, ite_self, implies_true, forall_const, foldl_ticks, State.logPut_ticks, State.modLane_ticks, Done.ok, Done.err] | split)

theorem State.superWrite_ticks (s : State) (l : Nat) :
    (State.superWrite s l).ticks = s.ticks := by
  unfold State.superWrite
  repeat' (first | simp only [apply_ite State.ticks, apply_ite Prod.fst, apply_ite Prod.snd, apply_ite Done.st, ite_self, implies_true, forall_const, foldl_ticks, State.capSuspend_ticks, State.logPut_ticks, State.modLane_ticks, Done.ok, Done.err] | split)

theorem State.modTLane_ticks (s : State) (l : Nat) (f : TmgLane → TmgLane) :
    (State.modTLane s l f).ticks = s.ticks := by
  unfold State.modTLane
  repeat' (first | simp only [apply_ite State.ticks, apply_ite Prod.fst, apply_ite Prod.snd, apply_ite Done.st, ite_self, implies_true, forall_const, foldl_ticks, Done.ok, Done.err] | split)

theorem State.modTq_ticks (s : State) (q : Nat) (f : TmgQ → TmgQ) :
    (State.modTq s q f).ticks = s.ticks := by
  unfold State.modTq
  repeat' (first | simp only [apply_ite State.ticks, apply_ite Prod.fst, apply_ite Prod.snd, apply_ite Done.st, ite_self, implies_true, forall_const, foldl_ticks, Done.ok, Done.err] | split)

theorem State.modPol_ticks (s : State) (p : Nat) (f : Pol → Pol) :
    (State.modPol s p f).ticks = s.ticks := by
  unfold State.modPol
  repeat' (first | simp only [apply_ite State.ticks, apply_ite Prod.fst, apply_ite Prod.snd, apply_ite Done.st, ite_self, implies_true, forall_const, foldl_ticks, Done.ok, Done.err] | split)

theorem State.setTmgCfg_ticks (s : State) (f : TmgCfg → TmgCfg) :
    (State.setTmgCfg s f).ticks = s.ticks := by
  unfold State.setTmgCfg
  repeat' (first | simp only [apply_ite State.ticks, apply_ite Prod.fst, apply_ite Prod.snd, apply_ite Done.st, ite_self, implies_true, forall_const, foldl_ticks, Done.ok, Done.err] | split)

theorem State.tmgRaise_ticks (s : State) (b : Nat) (l : Nat) (subject : Nat) (value : Int) :
    (State.tmgRaise s b l subject value).ticks = s.ticks := by
  unfold State.tmgRaise
  repeat' (first | simp only [apply_ite State.ticks, apply_ite Prod.fst, apply_ite Prod.snd, apply_ite Done.st, ite_self, implies_true, forall_const, foldl_ticks, State.raise_ticks, Done.ok, Done.err] | split)

theorem State.gateEval_ticks (s : State) (l : Nat) :
    (State.gateEval s l).ticks = s.ticks := by
  unfold State.gateEval
  repeat' (first | simp only [apply_ite State.ticks, apply_ite Prod.fst, apply_ite Prod.snd, apply_ite Done.st, ite_self, implies_true, forall_const, foldl_ticks, State.modTLane_ticks, Done.ok, Done.err] | split)

theorem State.dropOverrun_ticks (s : State) (l : Nat) (q : Nat) (f : TxFrame) :
    (State.dropOverrun s l q f).ticks = s.ticks := by
  unfold State.dropOverrun
  repeat' (first | simp only [apply_ite State.ticks, apply_ite Prod.fst, apply_ite Prod.snd, apply_ite Done.st, ite_self, implies_true, forall_const, foldl_ticks, State.completeTx_ticks, State.ethCount_ticks, State.modTq_ticks, State.tmgRaise_ticks, Done.ok, Done.err] | split)

theorem State.putFrame_ticks (s : State) (q : Nat) (f : TxFrame) :
    (State.putFrame s q f).ticks = s.ticks := by
  unfold State.putFrame
  repeat' (first | simp only [apply_ite State.ticks, apply_ite Prod.fst, apply_ite Prod.snd, apply_ite Done.st, ite_self, implies_true, forall_const, foldl_ticks, State.modTq_ticks, Done.ok, Done.err] | split)

theorem State.enqueueTx_ticks (s : State) (l : Nat) (c : Nat) (f : TxFrame) :
    (State.enqueueTx s l c f).ticks = s.ticks := by
  unfold State.enqueueTx
  repeat' (first | simp only [apply_ite State.ticks, apply_ite Prod.fst, apply_ite Prod.snd, apply_ite Done.st, ite_self, implies_true, forall_const, foldl_ticks, State.dropOverrun_ticks, State.modTq_ticks, State.putFrame_ticks, State.tmgRaise_ticks, Done.ok, Done.err] | split)

theorem State.newId_ticks (s : State) :
    (State.newId s).2.ticks = s.ticks := by
  unfold State.newId
  repeat' (first | simp only [apply_ite State.ticks, apply_ite Prod.fst, apply_ite Prod.snd, apply_ite Done.st, ite_self, implies_true, forall_const, foldl_ticks, Done.ok, Done.err] | split)

theorem State.recheckQueue_ticks (s : State) (l : Nat) (c : Nat) :
    (State.recheckQueue s l c).ticks = s.ticks := by
  unfold State.recheckQueue
  repeat' (first | simp only [apply_ite State.ticks, apply_ite Prod.fst, apply_ite Prod.snd, apply_ite Done.st, ite_self, implies_true, forall_const, foldl_ticks, State.dropOverrun_ticks, State.modTLane_ticks, State.modTq_ticks, Done.ok, Done.err] | split)

theorem State.swapLane_ticks (s : State) (l : Nat) (skew : Bool) :
    (State.swapLane s l skew).ticks = s.ticks := by
  unfold State.swapLane
  repeat' (first | simp only [apply_ite State.ticks, apply_ite Prod.fst, apply_ite Prod.snd, apply_ite Done.st, ite_self, implies_true, forall_const, foldl_ticks, State.gateEval_ticks, State.modTLane_ticks, State.recheckQueue_ticks, State.tmgRaise_ticks, Done.ok, Done.err] | split)

theorem State.swapsDue_ticks (s : State) (skew : Bool) :
    (State.swapsDue s skew).ticks = s.ticks := by
  unfold State.swapsDue
  repeat' (first | simp only [apply_ite State.ticks, apply_ite Prod.fst, apply_ite Prod.snd, apply_ite Done.st, ite_self, implies_true, forall_const, foldl_ticks, State.swapLane_ticks, Done.ok, Done.err] | split)

theorem State.toWire_ticks (s : State) (l : Nat) (c : Nat) (f : TxFrame) (t0 : Nat) (sfd : Nat) :
    (State.toWire s l c f t0 sfd).ticks = s.ticks := by
  unfold State.toWire
  repeat' (first | simp only [apply_ite State.ticks, apply_ite Prod.fst, apply_ite Prod.snd, apply_ite Done.st, ite_self, implies_true, forall_const, foldl_ticks, State.modTLane_ticks, State.modTq_ticks, Done.ok, Done.err] | split)

theorem State.slotMissed_ticks (s : State) (l : Nat) (b : Booking) :
    (State.slotMissed s l b).ticks = s.ticks := by
  unfold State.slotMissed
  repeat' (first | simp only [apply_ite State.ticks, apply_ite Prod.fst, apply_ite Prod.snd, apply_ite Done.st, ite_self, implies_true, forall_const, foldl_ticks, State.modTLane_ticks, State.modTq_ticks, State.tmgRaise_ticks, Done.ok, Done.err] | split)

theorem State.stepWire_ticks (s : State) (l : Nat) (d : Int) :
    (State.stepWire s l d).ticks = s.ticks := by
  unfold State.stepWire
  repeat' (first | simp only [apply_ite State.ticks, apply_ite Prod.fst, apply_ite Prod.snd, apply_ite Done.st, ite_self, implies_true, forall_const, foldl_ticks, State.modTLane_ticks, State.tmgRaise_ticks, Done.ok, Done.err] | split)

theorem State.police_ticks (s : State) (p : Nat) (l : Nat) (w : Nat) :
    (State.police s p l w).1.ticks = s.ticks := by
  unfold State.police
  repeat' (first | simp only [apply_ite State.ticks, apply_ite Prod.fst, apply_ite Prod.snd, apply_ite Done.st, ite_self, implies_true, forall_const, foldl_ticks, State.modPol_ticks, State.tmgRaise_ticks, Done.ok, Done.err] | split)

theorem State.policeFrame_ticks (s : State) (l : Nat) (k : FrameKey) (w : Nat) :
    (State.policeFrame s l k w).1.ticks = s.ticks := by
  unfold State.policeFrame
  repeat' (first | simp only [apply_ite State.ticks, apply_ite Prod.fst, apply_ite Prod.snd, apply_ite Done.st, ite_self, implies_true, forall_const, foldl_ticks, State.police_ticks, Done.ok, Done.err] | split)

theorem State.admitClient_ticks (s : State) (l : Nat) (w : Nat) :
    (State.admitClient s l w).1.ticks = s.ticks := by
  unfold State.admitClient
  repeat' (first | simp only [apply_ite State.ticks, apply_ite Prod.fst, apply_ite Prod.snd, apply_ite Done.st, ite_self, implies_true, forall_const, foldl_ticks, State.modPol_ticks, State.police_ticks, State.tmgRaise_ticks, Done.ok, Done.err] | split)

theorem State.shape_ticks (s : State) (q : Nat) :
    (State.shape s q).ticks = s.ticks := by
  unfold State.shape
  repeat' (first | simp only [apply_ite State.ticks, apply_ite Prod.fst, apply_ite Prod.snd, apply_ite Done.st, ite_self, implies_true, forall_const, foldl_ticks, State.modTq_ticks, State.tmgRaise_ticks, Done.ok, Done.err] | split)

theorem State.sampleQ_ticks (s : State) (q : Nat) :
    (State.sampleQ s q).ticks = s.ticks := by
  unfold State.sampleQ
  repeat' (first | simp only [apply_ite State.ticks, apply_ite Prod.fst, apply_ite Prod.snd, apply_ite Done.st, ite_self, implies_true, forall_const, foldl_ticks, State.modTq_ticks, State.tmgRaise_ticks, Done.ok, Done.err] | split)

theorem State.svcClassesSet_ticks (s : State) :
    (State.svcClassesSet s).ticks = s.ticks := by
  unfold State.svcClassesSet
  repeat' (first | simp only [apply_ite State.ticks, apply_ite Prod.fst, apply_ite Prod.snd, apply_ite Done.st, ite_self, implies_true, forall_const, foldl_ticks, Done.ok, Done.err] | split)

theorem State.emptyLane_ticks (s : State) (l : Nat) :
    (State.emptyLane s l).ticks = s.ticks := by
  unfold State.emptyLane
  repeat' (first | simp only [apply_ite State.ticks, apply_ite Prod.fst, apply_ite Prod.snd, apply_ite Done.st, ite_self, implies_true, forall_const, foldl_ticks, State.emptyQueue_ticks, State.modTLane_ticks, Done.ok, Done.err] | split)

theorem State.laneQuery_ticks (s : State) (l : Nat) (ws : List W32) :
    (State.laneQuery s l ws).st.ticks = s.ticks := by
  unfold State.laneQuery
  repeat' (first | simp only [apply_ite State.ticks, apply_ite Prod.fst, apply_ite Prod.snd, apply_ite Done.st, ite_self, implies_true, forall_const, foldl_ticks, Done.err_ticks, Done.ok_ticks, Done.ok, Done.err] | split)

theorem specEthQueryLane_ticks (p : Packet) (s : State) :
    (specEthQueryLane.body p s).st.ticks = s.ticks := by
  unfold specEthQueryLane
  repeat' (first | simp only [apply_ite State.ticks, apply_ite Prod.fst, apply_ite Prod.snd, apply_ite Done.st, ite_self, implies_true, forall_const, foldl_ticks, answer, gnsBody, keyBody, pairBody, svcBody, ticBody, State.laneQuery_ticks, Done.ok, Done.err] | split)

theorem specEthQueryDelay_ticks (p : Packet) (s : State) :
    (specEthQueryDelay.body p s).st.ticks = s.ticks := by
  unfold specEthQueryDelay
  repeat' (first | simp only [apply_ite State.ticks, apply_ite Prod.fst, apply_ite Prod.snd, apply_ite Done.st, ite_self, implies_true, forall_const, foldl_ticks, answer, gnsBody, keyBody, pairBody, svcBody, ticBody, State.laneQuery_ticks, Done.ok, Done.err] | split)

theorem specEthSetQuadMode_ticks (p : Packet) (s : State) :
    (specEthSetQuadMode.body p s).st.ticks = s.ticks := by
  unfold specEthSetQuadMode
  repeat' (first | simp only [apply_ite State.ticks, apply_ite Prod.fst, apply_ite Prod.snd, apply_ite Done.st, ite_self, implies_true, forall_const, foldl_ticks, answer, gnsBody, keyBody, pairBody, svcBody, ticBody, Done.err_ticks, Done.ok_ticks, Done.ok, Done.err] | split)

theorem specEthSetLane_ticks (p : Packet) (s : State) :
    (specEthSetLane.body p s).st.ticks = s.ticks := by
  unfold specEthSetLane
  repeat' (first | simp only [apply_ite State.ticks, apply_ite Prod.fst, apply_ite Prod.snd, apply_ite Done.st, ite_self, implies_true, forall_const, foldl_ticks, answer, gnsBody, keyBody, pairBody, svcBody, ticBody, Done.err_ticks, Done.ok_ticks, State.setLaneCfg_ticks, State.svcClassesSet_ticks, Done.ok, Done.err] | split)

theorem specEthSetDelay_ticks (p : Packet) (s : State) :
    (specEthSetDelay.body p s).st.ticks = s.ticks := by
  unfold specEthSetDelay
  repeat' (first | simp only [apply_ite State.ticks, apply_ite Prod.fst, apply_ite Prod.snd, apply_ite Done.st, ite_self, implies_true, forall_const, foldl_ticks, answer, gnsBody, keyBody, pairBody, svcBody, ticBody, Done.err_ticks, Done.ok_ticks, State.modLane_ticks, State.setLaneCfg_ticks, Done.ok, Done.err] | split)

theorem specEthSetCapture_ticks (p : Packet) (s : State) :
    (specEthSetCapture.body p s).st.ticks = s.ticks := by
  unfold specEthSetCapture
  repeat' (first | simp only [apply_ite State.ticks, apply_ite Prod.fst, apply_ite Prod.snd, apply_ite Done.st, ite_self, implies_true, forall_const, foldl_ticks, answer, gnsBody, keyBody, pairBody, svcBody, ticBody, Done.err_ticks, Done.ok_ticks, State.setLaneCfg_ticks, Done.ok, Done.err] | split)

theorem specEthSetClassifier_ticks (p : Packet) (s : State) :
    (specEthSetClassifier.body p s).st.ticks = s.ticks := by
  unfold specEthSetClassifier
  repeat' (first | simp only [apply_ite State.ticks, apply_ite Prod.fst, apply_ite Prod.snd, apply_ite Done.st, ite_self, implies_true, forall_const, foldl_ticks, answer, gnsBody, keyBody, pairBody, svcBody, ticBody, Done.err_ticks, Done.ok_ticks, State.setLaneCfg_ticks, Done.ok, Done.err] | split)

theorem State.linkFall_ticks (s : State) (l : Nat) :
    (State.linkFall s l).ticks = s.ticks := by
  unfold State.linkFall
  repeat' (first | simp only [apply_ite State.ticks, apply_ite Prod.fst, apply_ite Prod.snd, apply_ite Done.st, ite_self, implies_true, forall_const, foldl_ticks, State.capLink_ticks, State.ethCount_ticks, State.ethRaise_ticks, State.modLane_ticks, Done.ok, Done.err] | split)

theorem State.laneStop_ticks (s : State) (l : Nat) :
    (State.laneStop s l).ticks = s.ticks := by
  unfold State.laneStop
  repeat' (first | simp only [apply_ite State.ticks, apply_ite Prod.fst, apply_ite Prod.snd, apply_ite Done.st, ite_self, implies_true, forall_const, foldl_ticks, State.capEnd_ticks, State.emptyLane_ticks, State.linkFall_ticks, Done.ok, Done.err] | split)

theorem State.laneEnable_ticks (s : State) (l : Nat) (on : Bool) :
    (State.laneEnable s l on).ticks = s.ticks := by
  unfold State.laneEnable
  repeat' (first | simp only [apply_ite State.ticks, apply_ite Prod.fst, apply_ite Prod.snd, apply_ite Done.st, ite_self, implies_true, forall_const, foldl_ticks, State.laneStop_ticks, State.setLaneCfg_ticks, Done.ok, Done.err] | split)

theorem specEthLaneEnable_ticks (p : Packet) (s : State) :
    (specEthLaneEnable.body p s).st.ticks = s.ticks := by
  unfold specEthLaneEnable
  repeat' (first | simp only [apply_ite State.ticks, apply_ite Prod.fst, apply_ite Prod.snd, apply_ite Done.st, ite_self, implies_true, forall_const, foldl_ticks, answer, gnsBody, keyBody, pairBody, svcBody, ticBody, Done.err_ticks, Done.ok_ticks, State.laneEnable_ticks, Done.ok, Done.err] | split)

theorem specEthSetTags_ticks (p : Packet) (s : State) :
    (specEthSetTags.body p s).st.ticks = s.ticks := by
  unfold specEthSetTags
  repeat' (first | simp only [apply_ite State.ticks, apply_ite Prod.fst, apply_ite Prod.snd, apply_ite Done.st, ite_self, implies_true, forall_const, foldl_ticks, answer, gnsBody, keyBody, pairBody, svcBody, ticBody, Done.err_ticks, Done.ok_ticks, State.setLaneCfg_ticks, Done.ok, Done.err] | split)

theorem State.hostFrame_ticks (s : State) (l : Nat) (slot : Nat) (d : TxDesc) (frame : List Byte) :
    (State.hostFrame s l slot d frame).ticks = s.ticks := by
  unfold State.hostFrame
  repeat' (first | simp only [apply_ite State.ticks, apply_ite Prod.fst, apply_ite Prod.snd, apply_ite Done.st, ite_self, implies_true, forall_const, foldl_ticks, State.enqueueTx_ticks, State.ethCount_ticks, State.newId_ticks, Done.ok, Done.err] | split)

theorem State.rxHost_ticks (s : State) (l : Nat) (t : Stamp) (f : RxFrame) :
    (State.rxHost s l t f).ticks = s.ticks := by
  unfold State.rxHost
  repeat' (first | simp only [apply_ite State.ticks, apply_ite Prod.fst, apply_ite Prod.snd, apply_ite Done.st, ite_self, implies_true, forall_const, foldl_ticks, State.ethCount_ticks, State.policeFrame_ticks, State.rxDeliver_ticks, State.svcCount_ticks, Done.ok, Done.err] | split)

theorem State.fecCount_ticks (s : State) (l : Nat) (f : RxFrame) :
    (State.fecCount s l f).ticks = s.ticks := by
  unfold State.fecCount
  repeat' (first | simp only [apply_ite State.ticks, apply_ite Prod.fst, apply_ite Prod.snd, apply_ite Done.st, ite_self, implies_true, forall_const, foldl_ticks, State.ethCount_ticks, State.ethRaise_ticks, Done.ok, Done.err] | split)

theorem State.rxPath_ticks (s : State) (l : Nat) (f : RxFrame) :
    (State.rxPath s l f).ticks = s.ticks := by
  unfold State.rxPath
  repeat' (first | simp only [apply_ite State.ticks, apply_ite Prod.fst, apply_ite Prod.snd, apply_ite Done.st, ite_self, implies_true, forall_const, foldl_ticks, State.fecCount_ticks, State.modLane_ticks, Done.ok, Done.err] | split)

theorem State.txDone_ticks (s : State) (l : Nat) (f : TxFrame) :
    (State.txDone s l f).ticks = s.ticks := by
  unfold State.txDone
  repeat' (first | simp only [apply_ite State.ticks, apply_ite Prod.fst, apply_ite Prod.snd, apply_ite Done.st, ite_self, implies_true, forall_const, foldl_ticks, State.completeTx_ticks, State.ethCount_ticks, State.modTLane_ticks, State.svcCount_ticks, Done.ok, Done.err] | split)

theorem State.lcChanged_ticks (s : State) (old : LcState) :
    (State.lcChanged s old).ticks = s.ticks := by
  unfold State.lcChanged
  repeat' (first | simp only [apply_ite State.ticks, apply_ite Prod.fst, apply_ite Prod.snd, apply_ite Done.st, ite_self, implies_true, forall_const, foldl_ticks, State.raise_ticks, Done.ok, Done.err] | split)

theorem State.sppLost_ticks (s : State) (i : Nat) :
    (State.sppLost s i).ticks = s.ticks := by
  unfold State.sppLost
  repeat' (first | simp only [apply_ite State.ticks, apply_ite Prod.fst, apply_ite Prod.snd, apply_ite Done.st, ite_self, implies_true, forall_const, foldl_ticks, State.raise_ticks, Done.ok, Done.err] | split)

theorem State.zeroSlot_ticks (s : State) (k : Nat) :
    (State.zeroSlot s k).ticks = s.ticks := by
  unfold State.zeroSlot
  repeat' (first | simp only [apply_ite State.ticks, apply_ite Prod.fst, apply_ite Prod.snd, apply_ite Done.st, ite_self, implies_true, forall_const, foldl_ticks, State.raise_ticks, State.sppLost_ticks, Done.ok, Done.err] | split)

theorem State.zeroSlots_ticks (s : State) (mask : BitVec 64) :
    (State.zeroSlots s mask).ticks = s.ticks := by
  unfold State.zeroSlots
  repeat' (first | simp only [apply_ite State.ticks, apply_ite Prod.fst, apply_ite Prod.snd, apply_ite Done.st, ite_self, implies_true, forall_const, foldl_ticks, State.zeroSlot_ticks, Done.ok, Done.err] | split)

theorem State.zeroKeys_ticks (s : State) :
    (State.zeroKeys s).ticks = s.ticks := by
  unfold State.zeroKeys
  repeat' (first | simp only [apply_ite State.ticks, apply_ite Prod.fst, apply_ite Prod.snd, apply_ite Done.st, ite_self, implies_true, forall_const, foldl_ticks, State.zeroSlots_ticks, Done.ok, Done.err] | split)

theorem State.keyResult_ticks (s : State) (x : Status) (op : Nat) :
    (State.keyResult s x op).ticks = s.ticks := by
  unfold State.keyResult
  repeat' (first | simp only [apply_ite State.ticks, apply_ite Prod.fst, apply_ite Prod.snd, apply_ite Done.st, ite_self, implies_true, forall_const, foldl_ticks, State.irq_ticks, Done.ok, Done.err] | split)

theorem State.newChallenge_ticks (s : State) :
    (State.newChallenge s).ticks = s.ticks := by
  unfold State.newChallenge
  repeat' (first | simp only [apply_ite State.ticks, apply_ite Prod.fst, apply_ite Prod.snd, apply_ite Done.st, ite_self, implies_true, forall_const, foldl_ticks, State.drawn_ticks, Done.ok, Done.err] | split)

theorem State.endUnlock_ticks (s : State) :
    (State.endUnlock s).ticks = s.ticks := by
  unfold State.endUnlock
  repeat' (first | simp only [apply_ite State.ticks, apply_ite Prod.fst, apply_ite Prod.snd, apply_ite Done.st, ite_self, implies_true, forall_const, foldl_ticks, State.raise_ticks, Done.ok, Done.err] | split)

theorem State.writeEpoch_ticks (s : State) (epoch : BitVec 16) :
    (State.writeEpoch s epoch).ticks = s.ticks := by
  unfold State.writeEpoch
  repeat' (first | simp only [apply_ite State.ticks, apply_ite Prod.fst, apply_ite Prod.snd, apply_ite Done.st, ite_self, implies_true, forall_const, foldl_ticks, State.drawn_ticks, Done.ok, Done.err] | split)

theorem State.commitRecord_ticks (s : State) :
    (State.commitRecord s).ticks = s.ticks := by
  unfold State.commitRecord
  repeat' (first | simp only [apply_ite State.ticks, apply_ite Prod.fst, apply_ite Prod.snd, apply_ite Done.st, ite_self, implies_true, forall_const, foldl_ticks, Done.ok, Done.err] | split)

theorem State.programSeed_ticks (s : State) :
    (State.programSeed s).ticks = s.ticks := by
  unfold State.programSeed
  repeat' (first | simp only [apply_ite State.ticks, apply_ite Prod.fst, apply_ite Prod.snd, apply_ite Done.st, ite_self, implies_true, forall_const, foldl_ticks, State.drawn_ticks, Done.ok, Done.err] | split)

theorem State.fuseOwner_ticks (s : State) (o : Dig) :
    (State.fuseOwner s o).ticks = s.ticks := by
  unfold State.fuseOwner
  repeat' (first | simp only [apply_ite State.ticks, apply_ite Prod.fst, apply_ite Prod.snd, apply_ite Done.st, ite_self, implies_true, forall_const, foldl_ticks, Done.ok, Done.err] | split)

theorem State.newSeal_ticks (s : State) (gen : BitVec 32) :
    (State.newSeal s gen).ticks = s.ticks := by
  unfold State.newSeal
  repeat' (first | simp only [apply_ite State.ticks, apply_ite Prod.fst, apply_ite Prod.snd, apply_ite Done.st, ite_self, implies_true, forall_const, foldl_ticks, State.drawn_ticks, Done.ok, Done.err] | split)

theorem State.fuseLc_ticks (s : State) (bits : BitVec 4) :
    (State.fuseLc s bits).ticks = s.ticks := by
  unfold State.fuseLc
  repeat' (first | simp only [apply_ite State.ticks, apply_ite Prod.fst, apply_ite Prod.snd, apply_ite Done.st, ite_self, implies_true, forall_const, foldl_ticks, State.lcChanged_ticks, Done.ok, Done.err] | split)

theorem State.checkToken_ticks (s : State) (digest : Dig) (label : List Byte) (k : BitVec 264) (r : BitVec 256) (v : BitVec 256) :
    (State.checkToken s digest label k r v).2.ticks = s.ticks := by
  unfold State.checkToken
  repeat' (first | simp only [apply_ite State.ticks, apply_ite Prod.fst, apply_ite Prod.snd, apply_ite Done.st, ite_self, implies_true, forall_const, foldl_ticks, State.newChallenge_ticks, Done.ok, Done.err] | split)

theorem State.keyWrites_ticks (s : State) (o : KeyOp) (n : Nat) :
    (State.keyWrites s o n).ticks = s.ticks := by
  unfold State.keyWrites
  repeat' (first | simp only [apply_ite State.ticks, apply_ite Prod.fst, apply_ite Prod.snd, apply_ite Done.st, ite_self, implies_true, forall_const, foldl_ticks, State.checkToken_ticks, State.commitRecord_ticks, State.fuseLc_ticks, State.fuseOwner_ticks, State.newSeal_ticks, State.programSeed_ticks, State.writeEpoch_ticks, Done.ok, Done.err] | split)

theorem State.zeroRoots_ticks (s : State) :
    (State.zeroRoots s).ticks = s.ticks := by
  unfold State.zeroRoots
  repeat' (first | simp only [apply_ite State.ticks, apply_ite Prod.fst, apply_ite Prod.snd, apply_ite Done.st, ite_self, implies_true, forall_const, foldl_ticks, Done.ok, Done.err] | split)

theorem State.abortKeyOp_ticks (s : State) :
    (State.abortKeyOp s).ticks = s.ticks := by
  unfold State.abortKeyOp
  repeat' (first | simp only [apply_ite State.ticks, apply_ite Prod.fst, apply_ite Prod.snd, apply_ite Done.st, ite_self, implies_true, forall_const, foldl_ticks, State.drawn_ticks, State.keyResult_ticks, State.keyWrites_ticks, Done.ok, Done.err] | split)

theorem State.tamperHoldSet_ticks (s : State) :
    (State.tamperHoldSet s).ticks = s.ticks := by
  unfold State.tamperHoldSet
  repeat' (first | simp only [apply_ite State.ticks, apply_ite Prod.fst, apply_ite Prod.snd, apply_ite Done.st, ite_self, implies_true, forall_const, foldl_ticks, State.raise_ticks, Done.ok, Done.err] | split)

theorem State.calLost_ticks (s : State) :
    (State.calLost s).ticks = s.ticks := by
  unfold State.calLost
  repeat' (first | simp only [apply_ite State.ticks, apply_ite Prod.fst, apply_ite Prod.snd, apply_ite Done.st, ite_self, implies_true, forall_const, foldl_ticks, State.faultAssert_ticks, State.raise_ticks, Done.ok, Done.err] | split)

theorem State.tamper_ticks (s0 : State) (n : Nat) :
    (State.tamper s0 n).ticks = s0.ticks := by
  unfold State.tamper
  repeat' (first | simp only [apply_ite State.ticks, apply_ite Prod.fst, apply_ite Prod.snd, apply_ite Done.st, ite_self, implies_true, forall_const, foldl_ticks, State.abortKeyOp_ticks, State.bistAbort_ticks, State.calLost_ticks, State.endUnlock_ticks, State.faultAssert_ticks, State.irq_ticks, State.latch_ticks, State.logPut_ticks, State.tamperHoldSet_ticks, State.zeroKeys_ticks, State.zeroRoots_ticks, Done.ok, Done.err] | split)

theorem State.enterRun_ticks (s : State) :
    (State.enterRun s).ticks = s.ticks := by
  unfold State.enterRun
  repeat' (first | simp only [apply_ite State.ticks, apply_ite Prod.fst, apply_ite Prod.snd, apply_ite Done.st, ite_self, implies_true, forall_const, foldl_ticks, State.endUnlock_ticks, State.react_ticks, State.setDev_ticks, Done.ok, Done.err] | split)

theorem State.autoRunNow_ticks (s : State) :
    (State.autoRunNow s).ticks = s.ticks := by
  unfold State.autoRunNow
  repeat' (first | simp only [apply_ite State.ticks, apply_ite Prod.fst, apply_ite Prod.snd, apply_ite Done.st, ite_self, implies_true, forall_const, foldl_ticks, State.enterRun_ticks, Done.ok, Done.err] | split)

theorem State.modPort_ticks (s : State) (k : Nat) (f : Port → Port) :
    (State.modPort s k f).ticks = s.ticks := by
  unfold State.modPort
  repeat' (first | simp only [apply_ite State.ticks, apply_ite Prod.fst, apply_ite Prod.snd, apply_ite Done.st, ite_self, implies_true, forall_const, foldl_ticks, Done.ok, Done.err] | split)

theorem State.modSpp_ticks (s : State) (i : Nat) (f : Spp → Spp) :
    (State.modSpp s i f).ticks = s.ticks := by
  unfold State.modSpp
  repeat' (first | simp only [apply_ite State.ticks, apply_ite Prod.fst, apply_ite Prod.snd, apply_ite Done.st, ite_self, implies_true, forall_const, foldl_ticks, Done.ok, Done.err] | split)

theorem State.setSvcCfg_ticks (s : State) (f : SvcCfg → SvcCfg) :
    (State.setSvcCfg s f).ticks = s.ticks := by
  unfold State.setSvcCfg
  repeat' (first | simp only [apply_ite State.ticks, apply_ite Prod.fst, apply_ite Prod.snd, apply_ite Done.st, ite_self, implies_true, forall_const, foldl_ticks, Done.ok, Done.err] | split)

theorem State.setPortCfg_ticks (s : State) (k : Nat) (f : PortCfg → PortCfg) :
    (State.setPortCfg s k f).ticks = s.ticks := by
  unfold State.setPortCfg
  repeat' (first | simp only [apply_ite State.ticks, apply_ite Prod.fst, apply_ite Prod.snd, apply_ite Done.st, ite_self, implies_true, forall_const, foldl_ticks, State.setSvcCfg_ticks, Done.ok, Done.err] | split)

theorem State.setSppCfg_ticks (s : State) (i : Nat) (f : SppCfg → SppCfg) :
    (State.setSppCfg s i f).ticks = s.ticks := by
  unfold State.setSppCfg
  repeat' (first | simp only [apply_ite State.ticks, apply_ite Prod.fst, apply_ite Prod.snd, apply_ite Done.st, ite_self, implies_true, forall_const, foldl_ticks, State.setSvcCfg_ticks, Done.ok, Done.err] | split)

theorem State.gmacNext_ticks (s : State) (i : Nat) (b : Bool) :
    (State.gmacNext s i b).2.ticks = s.ticks := by
  unfold State.gmacNext
  repeat' (first | simp only [apply_ite State.ticks, apply_ite Prod.fst, apply_ite Prod.snd, apply_ite Done.st, ite_self, implies_true, forall_const, foldl_ticks, State.keepOwn_ticks, State.modSpp_ticks, State.raise_ticks, Done.ok, Done.err] | split)

theorem State.signMsg_ticks (s : State) (i : Nat) (m : SvcMsg) :
    (s.signMsg i m).2.ticks = s.ticks := by
  unfold State.signMsg
  dsimp only
  repeat' split
  all_goals first
    | rfl
    | (rename_i heq
       have h2 := congrArg (fun r => r.2.ticks) heq
       simp only [State.gmacNext_ticks] at h2
       exact h2.symm)

theorem State.svcFrame_ticks (s : State) (m : SvcMsg) (commit : Bool) :
    (State.svcFrame s m commit).2.ticks = s.ticks := by
  unfold State.svcFrame
  repeat' (first | simp only [apply_ite State.ticks, apply_ite Prod.fst, apply_ite Prod.snd, apply_ite Done.st, ite_self, implies_true, forall_const, foldl_ticks, State.newId_ticks, Done.ok, Done.err] | split)

theorem State.sendSvc_ticks (s : State) (m : SvcMsg) (ins : BitVec 2) :
    (State.sendSvc s m ins).ticks = s.ticks := by
  unfold State.sendSvc
  repeat' (first | simp only [apply_ite State.ticks, apply_ite Prod.fst, apply_ite Prod.snd, apply_ite Done.st, ite_self, implies_true, forall_const, foldl_ticks, State.enqueueTx_ticks, State.svcFrame_ticks, Done.ok, Done.err] | split)

theorem State.sendAuth_ticks (s : State) (auth : Bool) (i : Nat) (m : SvcMsg) (ins : BitVec 2) :
    (s.sendAuth auth i m ins).ticks = s.ticks := by
  unfold State.sendAuth
  split
  · split <;> (rename_i heq; have h2 := congrArg (fun r => r.2.ticks) heq; simp only [State.signMsg_ticks] at h2)
    · simp only [State.sendSvc_ticks, h2]
    · exact h2.symm
  · simp only [State.sendSvc_ticks]

theorem State.commitSign_ticks (s : State) (m : SvcMsg) :
    (State.commitSign s m).2.ticks = s.ticks := by
  unfold State.commitSign
  repeat' (first | simp only [apply_ite State.ticks, apply_ite Prod.fst, apply_ite Prod.snd, apply_ite Done.st, ite_self, implies_true, forall_const, foldl_ticks, State.drawn_ticks, State.signMsg_ticks, Done.ok, Done.err] | split)

theorem State.commitGiveUp_ticks (s : State) (l : Nat) :
    (State.commitGiveUp s l).ticks = s.ticks := by
  unfold State.commitGiveUp
  repeat' (first | simp only [apply_ite State.ticks, apply_ite Prod.fst, apply_ite Prod.snd, apply_ite Done.st, ite_self, implies_true, forall_const, foldl_ticks, State.svcCount_ticks, State.svcRaise_ticks, Done.ok, Done.err] | split)

theorem State.commitMsg_ticks (s : State) (m : SvcMsg) (attempt : Nat) :
    (s.commitMsg m attempt).ticks = s.ticks := by
  unfold State.commitMsg
  dsimp only
  split
  · simp only [State.commitGiveUp_ticks]
  · split <;> (rename_i heq; have h2 := congrArg (fun r => r.2.ticks) heq; simp only [State.commitSign_ticks] at h2)
    · exact h2.symm
    · simp only [apply_ite State.ticks, State.modTLane_ticks, State.enqueueTx_ticks, State.svcFrame_ticks, ite_self, h2]

theorem State.recommit_ticks (s : State) (l : Nat) (f : TxFrame) :
    (State.recommit s l f).ticks = s.ticks := by
  unfold State.recommit
  repeat' (first | simp only [apply_ite State.ticks, apply_ite Prod.fst, apply_ite Prod.snd, apply_ite Done.st, ite_self, implies_true, forall_const, foldl_ticks, State.commitGiveUp_ticks, State.commitMsg_ticks, Done.ok, Done.err] | split)

theorem State.missSlot_ticks (s : State) (l : Nat) (b : Booking) :
    (State.missSlot s l b).ticks = s.ticks := by
  unfold State.missSlot
  repeat' (first | simp only [apply_ite State.ticks, apply_ite Prod.fst, apply_ite Prod.snd, apply_ite Done.st, ite_self, implies_true, forall_const, foldl_ticks, State.recommit_ticks, State.slotMissed_ticks, Done.ok, Done.err] | split)

theorem State.setClient_ticks (s : State) (c : Client) :
    (State.setClient s c).ticks = s.ticks := by
  unfold State.setClient
  repeat' (first | simp only [apply_ite State.ticks, apply_ite Prod.fst, apply_ite Prod.snd, apply_ite Done.st, ite_self, implies_true, forall_const, foldl_ticks, Done.ok, Done.err] | split)

theorem State.freeClient_ticks (s : State) (idx : BitVec 20) :
    (State.freeClient s idx).ticks = s.ticks := by
  unfold State.freeClient
  repeat' (first | simp only [apply_ite State.ticks, apply_ite Prod.fst, apply_ite Prod.snd, apply_ite Done.st, ite_self, implies_true, forall_const, foldl_ticks, Done.ok, Done.err] | split)

theorem State.noteClient_ticks (s : State) (l : Nat) (kind : Nat) (r : SvcReq) (sppIdx : Nat) :
    (State.noteClient s l kind r sppIdx).2.ticks = s.ticks := by
  unfold State.noteClient
  repeat' (first | simp only [apply_ite State.ticks, apply_ite Prod.fst, apply_ite Prod.snd, apply_ite Done.st, ite_self, implies_true, forall_const, foldl_ticks, State.setClient_ticks, State.svcCount_ticks, State.svcRaise_ticks, Done.ok, Done.err] | split)

theorem State.takeToken_ticks (s : State) (c : Client) :
    (State.takeToken s c).2.ticks = s.ticks := by
  unfold State.takeToken
  repeat' (first | simp only [apply_ite State.ticks, apply_ite Prod.fst, apply_ite Prod.snd, apply_ite Done.st, ite_self, implies_true, forall_const, foldl_ticks, State.setClient_ticks, State.svcCount_ticks, State.svcRaise_ticks, Done.ok, Done.err] | split)

theorem specSvcQueryStatus_ticks (p : Packet) (s : State) :
    (specSvcQueryStatus.body p s).st.ticks = s.ticks := by
  unfold specSvcQueryStatus
  repeat' (first | simp only [apply_ite State.ticks, apply_ite Prod.fst, apply_ite Prod.snd, apply_ite Done.st, ite_self, implies_true, forall_const, foldl_ticks, answer, gnsBody, keyBody, pairBody, svcBody, ticBody, answer_ticks, Done.ok, Done.err] | split)

theorem specSvcQueryClient_ticks (p : Packet) (s : State) :
    (specSvcQueryClient.body p s).st.ticks = s.ticks := by
  unfold specSvcQueryClient
  repeat' (first | simp only [apply_ite State.ticks, apply_ite Prod.fst, apply_ite Prod.snd, apply_ite Done.st, ite_self, implies_true, forall_const, foldl_ticks, answer, gnsBody, keyBody, pairBody, svcBody, ticBody, answer_ticks, Done.ok, Done.err] | split)

theorem specSvcSetPtpPort_ticks (p : Packet) (s : State) :
    (specSvcSetPtpPort.body p s).st.ticks = s.ticks := by
  unfold specSvcSetPtpPort
  repeat' (first | simp only [apply_ite State.ticks, apply_ite Prod.fst, apply_ite Prod.snd, apply_ite Done.st, ite_self, implies_true, forall_const, foldl_ticks, answer, gnsBody, keyBody, pairBody, svcBody, ticBody, Done.err_ticks, Done.ok_ticks, State.setPortCfg_ticks, Done.ok, Done.err] | split)

theorem State.setProfile_ticks (s : State) (l : Nat) (pr : BitVec 2) :
    (State.setProfile s l pr).ticks = s.ticks := by
  unfold State.setProfile
  repeat' (first | simp only [apply_ite State.ticks, apply_ite Prod.fst, apply_ite Prod.snd, apply_ite Done.st, ite_self, implies_true, forall_const, foldl_ticks, State.setPortCfg_ticks, Done.ok, Done.err] | split)

theorem specSvcSetProfile_ticks (p : Packet) (s : State) :
    (specSvcSetProfile.body p s).st.ticks = s.ticks := by
  unfold specSvcSetProfile
  repeat' (first | simp only [apply_ite State.ticks, apply_ite Prod.fst, apply_ite Prod.snd, apply_ite Done.st, ite_self, implies_true, forall_const, foldl_ticks, answer, gnsBody, keyBody, pairBody, svcBody, ticBody, Done.err_ticks, Done.ok_ticks, State.setProfile_ticks, State.setSvcCfg_ticks, State.svcEval_ticks, Done.ok, Done.err] | split)

theorem State.loadPos_ticks (s : State) (i : Nat) (b : Bool) (id_ : BitVec 32) (slot : BitVec 8) (alg : BitVec 2) :
    (State.loadPos s i b id_ slot alg).ticks = s.ticks := by
  unfold State.loadPos
  repeat' (first | simp only [apply_ite State.ticks, apply_ite Prod.fst, apply_ite Prod.snd, apply_ite Done.st, ite_self, implies_true, forall_const, foldl_ticks, State.modSpp_ticks, State.setSppCfg_ticks, Done.ok, Done.err] | split)

theorem specSvcSetAuth_ticks (p : Packet) (s : State) :
    (specSvcSetAuth.body p s).st.ticks = s.ticks := by
  unfold specSvcSetAuth
  repeat' (first | simp only [apply_ite State.ticks, apply_ite Prod.fst, apply_ite Prod.snd, apply_ite Done.st, ite_self, implies_true, forall_const, foldl_ticks, answer, gnsBody, keyBody, pairBody, svcBody, ticBody, Done.err_ticks, Done.ok_ticks, State.loadPos_ticks, State.modSpp_ticks, State.setSppCfg_ticks, State.setSvcCfg_ticks, Done.ok, Done.err] | split)

theorem specSvcSetNtp_ticks (p : Packet) (s : State) :
    (specSvcSetNtp.body p s).st.ticks = s.ticks := by
  unfold specSvcSetNtp
  repeat' (first | simp only [apply_ite State.ticks, apply_ite Prod.fst, apply_ite Prod.snd, apply_ite Done.st, ite_self, implies_true, forall_const, foldl_ticks, answer, gnsBody, keyBody, pairBody, svcBody, ticBody, Done.ok_ticks, State.setSvcCfg_ticks, Done.ok, Done.err] | split)

theorem specSvcLoadCookieKey_ticks (p : Packet) (s : State) :
    (specSvcLoadCookieKey.body p s).st.ticks = s.ticks := by
  unfold specSvcLoadCookieKey
  repeat' (first | simp only [apply_ite State.ticks, apply_ite Prod.fst, apply_ite Prod.snd, apply_ite Done.st, ite_self, implies_true, forall_const, foldl_ticks, answer, gnsBody, keyBody, pairBody, svcBody, ticBody, Done.err_ticks, Done.ok_ticks, Done.ok, Done.err] | split)

theorem specSvcRetireCookieKey_ticks (p : Packet) (s : State) :
    (specSvcRetireCookieKey.body p s).st.ticks = s.ticks := by
  unfold specSvcRetireCookieKey
  repeat' (first | simp only [apply_ite State.ticks, apply_ite Prod.fst, apply_ite Prod.snd, apply_ite Done.st, ite_self, implies_true, forall_const, foldl_ticks, answer, gnsBody, keyBody, pairBody, svcBody, ticBody, Done.err_ticks, Done.ok_ticks, Done.ok, Done.err] | split)

theorem specSvcSetGate_ticks (p : Packet) (s : State) :
    (specSvcSetGate.body p s).st.ticks = s.ticks := by
  unfold specSvcSetGate
  repeat' (first | simp only [apply_ite State.ticks, apply_ite Prod.fst, apply_ite Prod.snd, apply_ite Done.st, ite_self, implies_true, forall_const, foldl_ticks, answer, gnsBody, keyBody, pairBody, svcBody, ticBody, Done.ok_ticks, State.setSvcCfg_ticks, State.svcClassesSet_ticks, Done.ok, Done.err] | split)

theorem specSvcSetRateLimit_ticks (p : Packet) (s : State) :
    (specSvcSetRateLimit.body p s).st.ticks = s.ticks := by
  unfold specSvcSetRateLimit
  repeat' (first | simp only [apply_ite State.ticks, apply_ite Prod.fst, apply_ite Prod.snd, apply_ite Done.st, ite_self, implies_true, forall_const, foldl_ticks, answer, gnsBody, keyBody, pairBody, svcBody, ticBody, Done.ok_ticks, State.setSvcCfg_ticks, Done.ok, Done.err] | split)

theorem specSvcClientFlush_ticks (p : Packet) (s : State) :
    (specSvcClientFlush.body p s).st.ticks = s.ticks := by
  unfold specSvcClientFlush
  repeat' (first | simp only [apply_ite State.ticks, apply_ite Prod.fst, apply_ite Prod.snd, apply_ite Done.st, ite_self, implies_true, forall_const, foldl_ticks, answer, gnsBody, keyBody, pairBody, svcBody, ticBody, Done.ok_ticks, Done.ok, Done.err] | split)

theorem specSvcSetBoundTlv_ticks (p : Packet) (s : State) :
    (specSvcSetBoundTlv.body p s).st.ticks = s.ticks := by
  unfold specSvcSetBoundTlv
  repeat' (first | simp only [apply_ite State.ticks, apply_ite Prod.fst, apply_ite Prod.snd, apply_ite Done.st, ite_self, implies_true, forall_const, foldl_ticks, answer, gnsBody, keyBody, pairBody, svcBody, ticBody, Done.ok_ticks, State.setSvcCfg_ticks, Done.ok, Done.err] | split)

theorem State.otherDiscard_ticks (s : State) (l : Nat) :
    (State.otherDiscard s l).ticks = s.ticks := by
  unfold State.otherDiscard
  repeat' (first | simp only [apply_ite State.ticks, apply_ite Prod.fst, apply_ite Prod.snd, apply_ite Done.st, ite_self, implies_true, forall_const, foldl_ticks, State.svcCount_ticks, Done.ok, Done.err] | split)

theorem State.engineTake_ticks (s : State) (l : Nat) : (s.engineTake l).1.ticks = s.ticks := by
  unfold State.engineTake
  dsimp only
  split <;> simp only [State.svcRaise_ticks, State.svcCount_ticks, State.modPort_ticks]

theorem State.intake_ticks (s : State) (l : Nat) (r : SvcReq) :
    (State.intake s l r).1.ticks = s.ticks := by
  unfold State.intake
  repeat' (first | simp only [apply_ite State.ticks, apply_ite Prod.fst, apply_ite Prod.snd, apply_ite Done.st, ite_self, implies_true, forall_const, foldl_ticks, State.admitClient_ticks, State.engineTake_ticks, State.ethCount_ticks, Done.ok, Done.err] | split)

theorem State.authFail_ticks (s : State) (l : Nat) :
    (State.authFail s l).ticks = s.ticks := by
  unfold State.authFail
  repeat' (first | simp only [apply_ite State.ticks, apply_ite Prod.fst, apply_ite Prod.snd, apply_ite Done.st, ite_self, implies_true, forall_const, foldl_ticks, State.svcCount_ticks, State.svcRaise_ticks, Done.ok, Done.err] | split)

theorem State.ptpIntake_ticks (s : State) (l : Nat) (r : SvcReq) :
    (State.ptpIntake s l r).1.ticks = s.ticks := by
  unfold State.ptpIntake
  repeat' (first | simp only [apply_ite State.ticks, apply_ite Prod.fst, apply_ite Prod.snd, apply_ite Done.st, ite_self, implies_true, forall_const, foldl_ticks, State.authFail_ticks, State.ethCount_ticks, State.intake_ticks, State.otherDiscard_ticks, Done.ok, Done.err] | split)

theorem State.grantDeny_ticks (s : State) (l : Nat) (r : SvcReq) (g : UniReq) :
    (State.grantDeny s l r g).ticks = s.ticks := by
  unfold State.grantDeny
  repeat' (first | simp only [apply_ite State.ticks, apply_ite Prod.fst, apply_ite Prod.snd, apply_ite Done.st, ite_self, implies_true, forall_const, foldl_ticks, State.sendAuth_ticks, State.svcCount_ticks, State.svcRaise_ticks, Done.ok, Done.err] | split)

theorem State.grantOne_ticks (s : State) (l : Nat) (r : SvcReq) (c : Client) (g : UniReq) :
    (State.grantOne s l r c g).ticks = s.ticks := by
  unfold State.grantOne
  repeat' (first | simp only [apply_ite State.ticks, apply_ite Prod.fst, apply_ite Prod.snd, apply_ite Done.st, ite_self, implies_true, forall_const, foldl_ticks, State.grantDeny_ticks, State.otherDiscard_ticks, State.sendAuth_ticks, State.setClient_ticks, Done.ok, Done.err] | split)

theorem State.cancelOne_ticks (s : State) (l : Nat) (r : SvcReq) (ty : Nat) :
    (State.cancelOne s l r ty).ticks = s.ticks := by
  unfold State.cancelOne
  repeat' (first | simp only [apply_ite State.ticks, apply_ite Prod.fst, apply_ite Prod.snd, apply_ite Done.st, ite_self, implies_true, forall_const, foldl_ticks, State.otherDiscard_ticks, State.sendAuth_ticks, State.setClient_ticks, Done.ok, Done.err] | split)

theorem State.kodRate_ticks (s : State) (l : Nat) (r : SvcReq) :
    (State.kodRate s l r).ticks = s.ticks := by
  unfold State.kodRate
  repeat' (first | simp only [apply_ite State.ticks, apply_ite Prod.fst, apply_ite Prod.snd, apply_ite Done.st, ite_self, implies_true, forall_const, foldl_ticks, State.sendSvc_ticks, State.setClient_ticks, Done.ok, Done.err] | split)

theorem State.ntsNak_ticks (s : State) (l : Nat) (r : SvcReq) :
    (State.ntsNak s l r).ticks = s.ticks := by
  unfold State.ntsNak
  repeat' (first | simp only [apply_ite State.ticks, apply_ite Prod.fst, apply_ite Prod.snd, apply_ite Done.st, ite_self, implies_true, forall_const, foldl_ticks, State.sendSvc_ticks, State.setClient_ticks, State.svcCount_ticks, State.svcRaise_ticks, Done.ok, Done.err] | split)

theorem State.mintJar_ticks (s : State) (e : Cookie) (c2s s2c : Dig) (n : Nat) :
    (s.mintJar e c2s s2c n).2.ticks = s.ticks := by
  induction n with
  | zero => rfl
  | succ n ih => unfold State.mintJar; simp only [State.drawn_ticks, ih]

theorem State.ntsAnswer_ticks (s : State) (l : Nat) (t : Stamp) (r : SvcReq) (q : NtsReq) (i : Nat) (c2s : Dig) (s2c : Dig) :
    (State.ntsAnswer s l t r q i c2s s2c).ticks = s.ticks := by
  unfold State.ntsAnswer
  repeat' (first | simp only [apply_ite State.ticks, apply_ite Prod.fst, apply_ite Prod.snd, apply_ite Done.st, ite_self, implies_true, forall_const, foldl_ticks, State.commitMsg_ticks, State.mintJar_ticks, Done.ok, Done.err] | split)

theorem State.ntsCheck_ticks (s : State) (l : Nat) (t : Stamp) (r : SvcReq) (q : NtsReq) :
    (State.ntsCheck s l t r q).ticks = s.ticks := by
  unfold State.ntsCheck
  repeat' (first | simp only [apply_ite State.ticks, apply_ite Prod.fst, apply_ite Prod.snd, apply_ite Done.st, ite_self, implies_true, forall_const, foldl_ticks, State.ntsAnswer_ticks, State.ntsNak_ticks, Done.ok, Done.err] | split)

theorem State.followUp_ticks (s : State) (k : Nat) (x : SyncSent) :
    (State.followUp s k x).ticks = s.ticks := by
  unfold State.followUp
  repeat' (first | simp only [apply_ite State.ticks, apply_ite Prod.fst, apply_ite Prod.snd, apply_ite Done.st, ite_self, implies_true, forall_const, foldl_ticks, State.sendAuth_ticks, Done.ok, Done.err] | split)

theorem State.keyRoll_ticks (s : State) (i : Nat) :
    (State.keyRoll s i).ticks = s.ticks := by
  unfold State.keyRoll
  repeat' (first | simp only [apply_ite State.ticks, apply_ite Prod.fst, apply_ite Prod.snd, apply_ite Done.st, ite_self, implies_true, forall_const, foldl_ticks, State.commitCsp_ticks, State.keepOwn_ticks, State.modSpp_ticks, State.raise_ticks, State.setSppCfg_ticks, Done.ok, Done.err] | split)

theorem State.rollsDue_ticks (s : State) :
    (State.rollsDue s).ticks = s.ticks := by
  unfold State.rollsDue
  repeat' (first | simp only [apply_ite State.ticks, apply_ite Prod.fst, apply_ite Prod.snd, apply_ite Done.st, ite_self, implies_true, forall_const, foldl_ticks, State.keyRoll_ticks, Done.ok, Done.err] | split)

theorem State.dropOld_ticks (s : State) (i : Nat) :
    (State.dropOld s i).ticks = s.ticks := by
  unfold State.dropOld
  repeat' (first | simp only [apply_ite State.ticks, apply_ite Prod.fst, apply_ite Prod.snd, apply_ite Done.st, ite_self, implies_true, forall_const, foldl_ticks, State.commitCsp_ticks, State.keepOwn_ticks, State.modSpp_ticks, State.setSppCfg_ticks, Done.ok, Done.err] | split)

theorem State.lastCommit_ticks (s : State) (l : Nat) (f : TxFrame) (S : Nat) (res : Int) (aborted : Bool) :
    (State.lastCommit s l f S res aborted).ticks = s.ticks := by
  unfold State.lastCommit
  repeat' (first | simp only [apply_ite State.ticks, apply_ite Prod.fst, apply_ite Prod.snd, apply_ite Done.st, ite_self, implies_true, forall_const, foldl_ticks, Done.ok, Done.err] | split)

theorem State.commitAbort_ticks (s : State) (l : Nat) (f : TxFrame) :
    (State.commitAbort s l f).ticks = s.ticks := by
  unfold State.commitAbort
  repeat' (first | simp only [apply_ite State.ticks, apply_ite Prod.fst, apply_ite Prod.snd, apply_ite Done.st, ite_self, implies_true, forall_const, foldl_ticks, State.ethCount_ticks, State.modTLane_ticks, State.recommit_ticks, State.svcCount_ticks, State.svcRaise_ticks, Done.ok, Done.err] | split)

theorem State.commitDecide_ticks (s : State) (l : Nat) (f : TxFrame) (S : Nat) (res : Int) :
    (State.commitDecide s l f S res).ticks = s.ticks := by
  unfold State.commitDecide
  repeat' (first | simp only [apply_ite State.ticks, apply_ite Prod.fst, apply_ite Prod.snd, apply_ite Done.st, ite_self, implies_true, forall_const, foldl_ticks, Done.ok_ticks, State.commitAbort_ticks, State.lastCommit_ticks, State.modTLane_ticks, State.svcCount_ticks, State.txDone_ticks, Done.ok, Done.err] | split)

theorem State.epochRegs_ticks (s : State) :
    (State.epochRegs s).ticks = s.ticks := by
  unfold State.epochRegs
  repeat' (first | simp only [apply_ite State.ticks, apply_ite Prod.fst, apply_ite Prod.snd, apply_ite Done.st, ite_self, implies_true, forall_const, foldl_ticks, Done.ok, Done.err] | split)

theorem State.deriveUds_ticks (s : State) :
    (State.deriveUds s).ticks = s.ticks := by
  unfold State.deriveUds
  repeat' (first | simp only [apply_ite State.ticks, apply_ite Prod.fst, apply_ite Prod.snd, apply_ite Done.st, ite_self, implies_true, forall_const, foldl_ticks, Done.ok, Done.err] | split)

theorem State.deriveProduction_ticks (s : State) :
    (State.deriveProduction s).ticks = s.ticks := by
  unfold State.deriveProduction
  repeat' (first | simp only [apply_ite State.ticks, apply_ite Prod.fst, apply_ite Prod.snd, apply_ite Done.st, ite_self, implies_true, forall_const, foldl_ticks, State.epochRegs_ticks, Done.ok, Done.err] | split)

theorem State.deriveTest_ticks (s : State) :
    (State.deriveTest s).ticks = s.ticks := by
  unfold State.deriveTest
  repeat' (first | simp only [apply_ite State.ticks, apply_ite Prod.fst, apply_ite Prod.snd, apply_ite Done.st, ite_self, implies_true, forall_const, foldl_ticks, Done.ok, Done.err] | split)

theorem State.installKeyed_ticks (s : State) :
    (State.installKeyed s).ticks = s.ticks := by
  unfold State.installKeyed
  repeat' (first | simp only [apply_ite State.ticks, apply_ite Prod.fst, apply_ite Prod.snd, apply_ite Done.st, ite_self, implies_true, forall_const, foldl_ticks, State.installLsk_ticks, Done.ok, Done.err] | split)

theorem State.reinstallLsk_ticks (s : State) :
    (State.reinstallLsk s).ticks = s.ticks := by
  unfold State.reinstallLsk
  repeat' (first | simp only [apply_ite State.ticks, apply_ite Prod.fst, apply_ite Prod.snd, apply_ite Done.st, ite_self, implies_true, forall_const, foldl_ticks, State.useLsk_ticks, Done.ok, Done.err] | split)

theorem specKeyQuerySlots_ticks (p : Packet) (s : State) :
    (specKeyQuerySlots.body p s).st.ticks = s.ticks := by
  unfold specKeyQuerySlots
  repeat' (first | simp only [apply_ite State.ticks, apply_ite Prod.fst, apply_ite Prod.snd, apply_ite Done.st, ite_self, implies_true, forall_const, foldl_ticks, answer, gnsBody, keyBody, pairBody, svcBody, ticBody, answer_ticks, Done.ok, Done.err] | split)

theorem specKeyQueryEpoch_ticks (p : Packet) (s : State) :
    (specKeyQueryEpoch.body p s).st.ticks = s.ticks := by
  unfold specKeyQueryEpoch
  repeat' (first | simp only [apply_ite State.ticks, apply_ite Prod.fst, apply_ite Prod.snd, apply_ite Done.st, ite_self, implies_true, forall_const, foldl_ticks, answer, gnsBody, keyBody, pairBody, svcBody, ticBody, answer_ticks, Done.ok, Done.err] | split)

theorem State.startKeyOp_ticks (s : State) (o : KeyOp) :
    (State.startKeyOp s o).st.ticks = s.ticks := by
  unfold State.startKeyOp
  repeat' (first | simp only [apply_ite State.ticks, apply_ite Prod.fst, apply_ite Prod.snd, apply_ite Done.st, ite_self, implies_true, forall_const, foldl_ticks, Done.ok_ticks, Done.ok, Done.err] | split)

theorem State.slotLoaded_ticks (s : State) (k : Nat) :
    (State.slotLoaded s k).ticks = s.ticks := by
  unfold State.slotLoaded
  repeat' (first | simp only [apply_ite State.ticks, apply_ite Prod.fst, apply_ite Prod.snd, apply_ite Done.st, ite_self, implies_true, forall_const, foldl_ticks, Done.ok, Done.err] | split)

theorem State.fillSlot_ticks (s : State) (k : Nat) (x : KeySlot) :
    (State.fillSlot s k x).ticks = s.ticks := by
  unfold State.fillSlot
  repeat' (first | simp only [apply_ite State.ticks, apply_ite Prod.fst, apply_ite Prod.snd, apply_ite Done.st, ite_self, implies_true, forall_const, foldl_ticks, State.slotLoaded_ticks, Done.ok, Done.err] | split)

theorem State.filled_ticks (s : State) (k : Nat) (x : KeySlot) :
    (State.filled s k x).st.ticks = s.ticks := by
  unfold State.filled
  repeat' (first | simp only [apply_ite State.ticks, apply_ite Prod.fst, apply_ite Prod.snd, apply_ite Done.st, ite_self, implies_true, forall_const, foldl_ticks, Done.ok_ticks, State.fillSlot_ticks, Done.ok, Done.err] | split)

theorem State.keyAuthFail_ticks (s : State) (reason : List W32) :
    (State.keyAuthFail s reason).st.ticks = s.ticks := by
  unfold State.keyAuthFail
  repeat' (first | simp only [apply_ite State.ticks, apply_ite Prod.fst, apply_ite Prod.snd, apply_ite Done.st, ite_self, implies_true, forall_const, foldl_ticks, State.authFail_ticks, State.irq_ticks, Done.ok, Done.err] | split)

theorem State.loadFlacon_ticks (s : State) (k : Nat) (b : List Byte) :
    (State.loadFlacon s k b).st.ticks = s.ticks := by
  unfold State.loadFlacon
  repeat' (first | simp only [apply_ite State.ticks, apply_ite Prod.fst, apply_ite Prod.snd, apply_ite Done.st, ite_self, implies_true, forall_const, foldl_ticks, Done.err_ticks, State.filled_ticks, State.keyAuthFail_ticks, Done.ok, Done.err] | split)

theorem State.importKey_ticks (s : State) (k : Nat) (p : Packet) :
    (State.importKey s k p).st.ticks = s.ticks := by
  unfold State.importKey
  repeat' (first | simp only [apply_ite State.ticks, apply_ite Prod.fst, apply_ite Prod.snd, apply_ite Done.st, ite_self, implies_true, forall_const, foldl_ticks, Done.err_ticks, State.filled_ticks, Done.ok, Done.err] | split)

theorem specKeyLoadFlacon_ticks (p : Packet) (s : State) :
    (specKeyLoadFlacon.body p s).st.ticks = s.ticks := by
  unfold specKeyLoadFlacon
  repeat' (first | simp only [apply_ite State.ticks, apply_ite Prod.fst, apply_ite Prod.snd, apply_ite Done.st, ite_self, implies_true, forall_const, foldl_ticks, answer, gnsBody, keyBody, pairBody, svcBody, ticBody, State.importKey_ticks, State.loadFlacon_ticks, Done.ok, Done.err] | split)

theorem specKeyWrap_ticks (p : Packet) (s : State) :
    (specKeyWrap.body p s).st.ticks = s.ticks := by
  unfold specKeyWrap
  repeat' (first | simp only [apply_ite State.ticks, apply_ite Prod.fst, apply_ite Prod.snd, apply_ite Done.st, ite_self, implies_true, forall_const, foldl_ticks, answer, gnsBody, keyBody, pairBody, svcBody, ticBody, Done.err_ticks, Done.ok_ticks, State.drawn_ticks, State.keepOwn_ticks, State.raise_ticks, Done.ok, Done.err] | split)

theorem specKeyDerive_ticks (p : Packet) (s : State) :
    (specKeyDerive.body p s).st.ticks = s.ticks := by
  unfold specKeyDerive
  repeat' (first | simp only [apply_ite State.ticks, apply_ite Prod.fst, apply_ite Prod.snd, apply_ite Done.st, ite_self, implies_true, forall_const, foldl_ticks, answer, gnsBody, keyBody, pairBody, svcBody, ticBody, Done.err_ticks, State.filled_ticks, Done.ok, Done.err] | split)

theorem specKeyZero_ticks (p : Packet) (s : State) :
    (specKeyZero.body p s).st.ticks = s.ticks := by
  unfold specKeyZero
  repeat' (first | simp only [apply_ite State.ticks, apply_ite Prod.fst, apply_ite Prod.snd, apply_ite Done.st, ite_self, implies_true, forall_const, foldl_ticks, answer, gnsBody, keyBody, pairBody, svcBody, ticBody, Done.err_ticks, Done.ok_ticks, State.zeroSlots_ticks, Done.ok, Done.err] | split)

theorem State.commitEpoch_ticks (s : State) :
    (State.commitEpoch s).ticks = s.ticks := by
  unfold State.commitEpoch
  repeat' (first | simp only [apply_ite State.ticks, apply_ite Prod.fst, apply_ite Prod.snd, apply_ite Done.st, ite_self, implies_true, forall_const, foldl_ticks, State.commitRecord_ticks, State.deriveProduction_ticks, State.raise_ticks, Done.ok, Done.err] | split)

theorem specKeyEpochUpdate_ticks (p : Packet) (s : State) :
    (specKeyEpochUpdate.body p s).st.ticks = s.ticks := by
  unfold specKeyEpochUpdate
  repeat' (first | simp only [apply_ite State.ticks, apply_ite Prod.fst, apply_ite Prod.snd, apply_ite Done.st, ite_self, implies_true, forall_const, foldl_ticks, answer, gnsBody, keyBody, pairBody, svcBody, ticBody, Done.err_ticks, State.startKeyOp_ticks, State.writeEpoch_ticks, Done.ok, Done.err] | split)

theorem specKeyAttest_ticks (p : Packet) (s : State) :
    (specKeyAttest.body p s).st.ticks = s.ticks := by
  unfold specKeyAttest
  repeat' (first | simp only [apply_ite State.ticks, apply_ite Prod.fst, apply_ite Prod.snd, apply_ite Done.st, ite_self, implies_true, forall_const, foldl_ticks, answer, gnsBody, keyBody, pairBody, svcBody, ticBody, Done.err_ticks, State.startKeyOp_ticks, Done.ok, Done.err] | split)

theorem specKeyProvision_ticks (p : Packet) (s : State) :
    (specKeyProvision.body p s).st.ticks = s.ticks := by
  unfold specKeyProvision
  repeat' (first | simp only [apply_ite State.ticks, apply_ite Prod.fst, apply_ite Prod.snd, apply_ite Done.st, ite_self, implies_true, forall_const, foldl_ticks, answer, gnsBody, keyBody, pairBody, svcBody, ticBody, Done.err_ticks, State.startKeyOp_ticks, Done.ok, Done.err] | split)

theorem specKeyLcAdvance_ticks (p : Packet) (s : State) :
    (specKeyLcAdvance.body p s).st.ticks = s.ticks := by
  unfold specKeyLcAdvance
  repeat' (first | simp only [apply_ite State.ticks, apply_ite Prod.fst, apply_ite Prod.snd, apply_ite Done.st, ite_self, implies_true, forall_const, foldl_ticks, answer, gnsBody, keyBody, pairBody, svcBody, ticBody, Done.err_ticks, State.startKeyOp_ticks, Done.ok, Done.err] | split)

theorem specKeyDebugEnter_ticks (p : Packet) (s : State) :
    (specKeyDebugEnter.body p s).st.ticks = s.ticks := by
  unfold specKeyDebugEnter
  repeat' (first | simp only [apply_ite State.ticks, apply_ite Prod.fst, apply_ite Prod.snd, apply_ite Done.st, ite_self, implies_true, forall_const, foldl_ticks, answer, gnsBody, keyBody, pairBody, svcBody, ticBody, Done.err_ticks, State.startKeyOp_ticks, Done.ok, Done.err] | split)

theorem specKeyDebugExit_ticks (p : Packet) (s : State) :
    (specKeyDebugExit.body p s).st.ticks = s.ticks := by
  unfold specKeyDebugExit
  repeat' (first | simp only [apply_ite State.ticks, apply_ite Prod.fst, apply_ite Prod.snd, apply_ite Done.st, ite_self, implies_true, forall_const, foldl_ticks, answer, gnsBody, keyBody, pairBody, svcBody, ticBody, State.startKeyOp_ticks, Done.ok, Done.err] | split)

theorem State.attestDone_ticks (s : State) (nonce : BitVec 256) :
    (State.attestDone s nonce).ticks = s.ticks := by
  unfold State.attestDone
  repeat' (first | simp only [apply_ite State.ticks, apply_ite Prod.fst, apply_ite Prod.snd, apply_ite Done.st, ite_self, implies_true, forall_const, foldl_ticks, Done.ok_ticks, State.drawn_ticks, State.keyResult_ticks, Done.ok, Done.err] | split)

theorem State.provisionFirst_ticks (s : State) (owner : Dig) :
    (State.provisionFirst s owner).ticks = s.ticks := by
  unfold State.provisionFirst
  repeat' (first | simp only [apply_ite State.ticks, apply_ite Prod.fst, apply_ite Prod.snd, apply_ite Done.st, ite_self, implies_true, forall_const, foldl_ticks, Done.ok_ticks, State.commitEpoch_ticks, State.deriveUds_ticks, State.fuseLc_ticks, State.fuseOwner_ticks, State.installKeyed_ticks, State.keyResult_ticks, State.newSeal_ticks, State.programSeed_ticks, State.writeEpoch_ticks, Done.ok, Done.err] | split)

theorem State.provisionAgain_ticks (s : State) :
    (State.provisionAgain s).ticks = s.ticks := by
  unfold State.provisionAgain
  repeat' (first | simp only [apply_ite State.ticks, apply_ite Prod.fst, apply_ite Prod.snd, apply_ite Done.st, ite_self, implies_true, forall_const, foldl_ticks, Done.ok_ticks, State.autoRunNow_ticks, State.commitEpoch_ticks, State.deriveUds_ticks, State.faultEnd_ticks, State.installKeyed_ticks, State.keyResult_ticks, State.newSeal_ticks, State.writeEpoch_ticks, Done.ok, Done.err] | split)

theorem State.lcEnd_ticks (s : State) (target : Nat) :
    (State.lcEnd s target).ticks = s.ticks := by
  unfold State.lcEnd
  repeat' (first | simp only [apply_ite State.ticks, apply_ite Prod.fst, apply_ite Prod.snd, apply_ite Done.st, ite_self, implies_true, forall_const, foldl_ticks, State.deriveTest_ticks, State.deriveUds_ticks, State.fuseLc_ticks, State.installKeyed_ticks, State.zeroKeys_ticks, State.zeroRoots_ticks, Done.ok, Done.err] | split)

theorem State.lcAdvanceDone_ticks (s : State) (target : Nat) (k : BitVec 264) (r : BitVec 256) (v : BitVec 256) :
    (State.lcAdvanceDone s target k r v).ticks = s.ticks := by
  unfold State.lcAdvanceDone
  repeat' (first | simp only [apply_ite State.ticks, apply_ite Prod.fst, apply_ite Prod.snd, apply_ite Done.st, ite_self, implies_true, forall_const, foldl_ticks, Done.ok_ticks, State.authFail_ticks, State.checkToken_ticks, State.fuseLc_ticks, State.irq_ticks, State.keyResult_ticks, State.lcEnd_ticks, Done.ok, Done.err] | split)

theorem State.debugEnterDone_ticks (s : State) (k : BitVec 264) (r : BitVec 256) (v : BitVec 256) :
    (State.debugEnterDone s k r v).ticks = s.ticks := by
  unfold State.debugEnterDone
  repeat' (first | simp only [apply_ite State.ticks, apply_ite Prod.fst, apply_ite Prod.snd, apply_ite Done.st, ite_self, implies_true, forall_const, foldl_ticks, Done.ok_ticks, State.authFail_ticks, State.checkToken_ticks, State.deriveTest_ticks, State.installKeyed_ticks, State.irq_ticks, State.keyResult_ticks, State.lcChanged_ticks, State.zeroKeys_ticks, Done.ok, Done.err] | split)

theorem State.debugExitDone_ticks (s : State) :
    (State.debugExitDone s).ticks = s.ticks := by
  unfold State.debugExitDone
  repeat' (first | simp only [apply_ite State.ticks, apply_ite Prod.fst, apply_ite Prod.snd, apply_ite Done.st, ite_self, implies_true, forall_const, foldl_ticks, Done.ok_ticks, State.deriveProduction_ticks, State.installKeyed_ticks, State.keyResult_ticks, State.lcChanged_ticks, State.zeroSlots_ticks, Done.ok, Done.err] | split)

theorem State.keyOpDone_ticks (s : State) (o : KeyOp) :
    (State.keyOpDone s o).ticks = s.ticks := by
  unfold State.keyOpDone
  repeat' (first | simp only [apply_ite State.ticks, apply_ite Prod.fst, apply_ite Prod.snd, apply_ite Done.st, ite_self, implies_true, forall_const, foldl_ticks, Done.ok_ticks, State.attestDone_ticks, State.commitEpoch_ticks, State.debugEnterDone_ticks, State.debugExitDone_ticks, State.installKeyed_ticks, State.keyResult_ticks, State.lcAdvanceDone_ticks, State.provisionAgain_ticks, State.provisionFirst_ticks, Done.ok, Done.err] | split)

theorem State.keyCaught_ticks (s : State) (o : KeyOp) :
    (State.keyCaught s o).ticks = s.ticks := by
  unfold State.keyCaught
  repeat' (first | simp only [apply_ite State.ticks, apply_ite Prod.fst, apply_ite Prod.snd, apply_ite Done.st, ite_self, implies_true, forall_const, foldl_ticks, State.drawn_ticks, State.keyOpDone_ticks, State.keyResult_ticks, State.keyWrites_ticks, Done.ok, Done.err] | split)

theorem State.keyPfw_ticks (s : State) :
    (State.keyPfw s).ticks = s.ticks := by
  unfold State.keyPfw
  repeat' (first | simp only [apply_ite State.ticks, apply_ite Prod.fst, apply_ite Prod.snd, apply_ite Done.st, ite_self, implies_true, forall_const, foldl_ticks, State.keyCaught_ticks, State.raise_ticks, Done.ok, Done.err] | split)

theorem State.modBlt_ticks (s : State) (f : Blt → Blt) :
    (State.modBlt s f).ticks = s.ticks := by
  unfold State.modBlt
  repeat' (first | simp only [apply_ite State.ticks, apply_ite Prod.fst, apply_ite Prod.snd, apply_ite Done.st, ite_self, implies_true, forall_const, foldl_ticks, Done.ok, Done.err] | split)

theorem specSysBltUnlock_ticks (p : Packet) (s : State) :
    (specSysBltUnlock.body p s).st.ticks = s.ticks := by
  unfold specSysBltUnlock
  repeat' (first | simp only [apply_ite State.ticks, apply_ite Prod.fst, apply_ite Prod.snd, apply_ite Done.st, ite_self, implies_true, forall_const, foldl_ticks, answer, gnsBody, keyBody, pairBody, svcBody, ticBody, Done.err_ticks, Done.ok_ticks, State.authFail_ticks, State.endUnlock_ticks, State.modBlt_ticks, State.newChallenge_ticks, State.raise_ticks, answer_ticks, Done.ok, Done.err] | split)

theorem specSysBltSelect_ticks (p : Packet) (s : State) :
    (specSysBltSelect.body p s).st.ticks = s.ticks := by
  unfold specSysBltSelect
  repeat' (first | simp only [apply_ite State.ticks, apply_ite Prod.fst, apply_ite Prod.snd, apply_ite Done.st, ite_self, implies_true, forall_const, foldl_ticks, answer, gnsBody, keyBody, pairBody, svcBody, ticBody, Done.err_ticks, Done.ok_ticks, State.modBlt_ticks, Done.ok, Done.err] | split)

theorem specSysBistRun_ticks (p : Packet) (s : State) :
    (specSysBistRun.body p s).st.ticks = s.ticks := by
  unfold specSysBistRun
  repeat' (first | simp only [apply_ite State.ticks, apply_ite Prod.fst, apply_ite Prod.snd, apply_ite Done.st, ite_self, implies_true, forall_const, foldl_ticks, answer, gnsBody, keyBody, pairBody, svcBody, ticBody, Done.err_ticks, Done.ok_ticks, State.modBlt_ticks, Done.ok, Done.err] | split)

theorem State.bistGns_ticks (s : State) (fails : Bool) :
    (State.bistGns s fails).ticks = s.ticks := by
  unfold State.bistGns
  repeat' (first | simp only [apply_ite State.ticks, apply_ite Prod.fst, apply_ite Prod.snd, apply_ite Done.st, ite_self, implies_true, forall_const, foldl_ticks, State.bankTest_ticks, State.drawn_ticks, Done.ok, Done.err] | split)

theorem State.bistEffects_ticks (s : State) (m : BitVec 6) (fail : BitVec 6) :
    (State.bistEffects s m fail).ticks = s.ticks := by
  unfold State.bistEffects
  repeat' (first | simp only [apply_ite State.ticks, apply_ite Prod.fst, apply_ite Prod.snd, apply_ite Done.st, ite_self, implies_true, forall_const, foldl_ticks, State.bistClears_ticks, State.bistGns_ticks, Done.ok, Done.err] | split)

theorem State.modOch_ticks (s : State) (n : Nat) (f : OutCh → OutCh) :
    (State.modOch s n f).ticks = s.ticks := by
  unfold State.modOch
  repeat' (first | simp only [apply_ite State.ticks, apply_ite Prod.fst, apply_ite Prod.snd, apply_ite Done.st, ite_self, implies_true, forall_const, foldl_ticks, Done.ok, Done.err] | split)

theorem State.modOtp_ticks (s : State) (m : Nat) (f : Tp → Tp) :
    (State.modOtp s m f).ticks = s.ticks := by
  unfold State.modOtp
  repeat' (first | simp only [apply_ite State.ticks, apply_ite Prod.fst, apply_ite Prod.snd, apply_ite Done.st, ite_self, implies_true, forall_const, foldl_ticks, Done.ok, Done.err] | split)

theorem State.modOtod_ticks (s : State) (k : Nat) (f : Tod → Tod) :
    (State.modOtod s k f).ticks = s.ticks := by
  unfold State.modOtod
  repeat' (first | simp only [apply_ite State.ticks, apply_ite Prod.fst, apply_ite Prod.snd, apply_ite Done.st, ite_self, implies_true, forall_const, foldl_ticks, Done.ok, Done.err] | split)

theorem State.modSyn_ticks (s : State) (k : Nat) (f : Syn → Syn) :
    (State.modSyn s k f).ticks = s.ticks := by
  unfold State.modSyn
  repeat' (first | simp only [apply_ite State.ticks, apply_ite Prod.fst, apply_ite Prod.snd, apply_ite Done.st, ite_self, implies_true, forall_const, foldl_ticks, Done.ok, Done.err] | split)

theorem State.setOutCfg_ticks (s : State) (f : OutCfg → OutCfg) :
    (State.setOutCfg s f).ticks = s.ticks := by
  unfold State.setOutCfg
  repeat' (first | simp only [apply_ite State.ticks, apply_ite Prod.fst, apply_ite Prod.snd, apply_ite Done.st, ite_self, implies_true, forall_const, foldl_ticks, Done.ok, Done.err] | split)

theorem State.glide_ticks (s : State) (n : Nat) (r : Int) :
    (State.glide s n r).ticks = s.ticks := by
  unfold State.glide
  repeat' (first | simp only [apply_ite State.ticks, apply_ite Prod.fst, apply_ite Prod.snd, apply_ite Done.st, ite_self, implies_true, forall_const, foldl_ticks, State.modOch_ticks, State.outRaise_ticks, Done.ok, Done.err] | split)

theorem State.outStep_ticks (s : State) (x : Int) (n : Nat) :
    (State.outStep s x n).ticks = s.ticks := by
  unfold State.outStep
  repeat' (first | simp only [apply_ite State.ticks, apply_ite Prod.fst, apply_ite Prod.snd, apply_ite Done.st, ite_self, implies_true, forall_const, foldl_ticks, State.glide_ticks, State.modOch_ticks, State.outRaise_ticks, Done.ok, Done.err] | split)

theorem State.outUnlock_ticks (k : Nat) (s : State) (n : Nat) :
    (State.outUnlock k s n).ticks = s.ticks := by
  unfold State.outUnlock
  repeat' (first | simp only [apply_ite State.ticks, apply_ite Prod.fst, apply_ite Prod.snd, apply_ite Done.st, ite_self, implies_true, forall_const, foldl_ticks, State.modOch_ticks, State.outRaise_ticks, Done.ok, Done.err] | split)

theorem State.outOffgrid_ticks (s : State) (n : Nat) :
    (State.outOffgrid s n).ticks = s.ticks := by
  unfold State.outOffgrid
  repeat' (first | simp only [apply_ite State.ticks, apply_ite Prod.fst, apply_ite Prod.snd, apply_ite Done.st, ite_self, implies_true, forall_const, foldl_ticks, State.modOch_ticks, State.outRaise_ticks, Done.ok, Done.err] | split)

theorem State.outUnsynced_ticks (s : State) (n : Nat) :
    (State.outUnsynced s n).ticks = s.ticks := by
  unfold State.outUnsynced
  repeat' (first | simp only [apply_ite State.ticks, apply_ite Prod.fst, apply_ite Prod.snd, apply_ite Done.st, ite_self, implies_true, forall_const, foldl_ticks, State.outOffgrid_ticks, Done.ok, Done.err] | split)

theorem State.outRelock_ticks (k : Nat) (s : State) (n : Nat) :
    (State.outRelock k s n).ticks = s.ticks := by
  unfold State.outRelock
  repeat' (first | simp only [apply_ite State.ticks, apply_ite Prod.fst, apply_ite Prod.snd, apply_ite Done.st, ite_self, implies_true, forall_const, foldl_ticks, State.drawn_ticks, State.glide_ticks, State.modOch_ticks, State.outOffgrid_ticks, State.outRaise_ticks, Done.ok, Done.err] | split)

theorem State.synUnlock_ticks (s : State) (k : Nat) :
    (State.synUnlock s k).ticks = s.ticks := by
  unfold State.synUnlock
  repeat' (first | simp only [apply_ite State.ticks, apply_ite Prod.fst, apply_ite Prod.snd, apply_ite Done.st, ite_self, implies_true, forall_const, foldl_ticks, State.faultAssert_ticks, State.modSyn_ticks, State.outUnlock_ticks, State.pairEval_ticks, State.raise_ticks, Done.ok, Done.err] | split)

theorem State.synClear_ticks (s : State) :
    (State.synClear s).ticks = s.ticks := by
  unfold State.synClear
  repeat' (first | simp only [apply_ite State.ticks, apply_ite Prod.fst, apply_ite Prod.snd, apply_ite Done.st, ite_self, implies_true, forall_const, foldl_ticks, State.faultEnd_ticks, Done.ok, Done.err] | split)

theorem State.synLocked_ticks (s : State) (k : Nat) :
    (State.synLocked s k).ticks = s.ticks := by
  unfold State.synLocked
  repeat' (first | simp only [apply_ite State.ticks, apply_ite Prod.fst, apply_ite Prod.snd, apply_ite Done.st, ite_self, implies_true, forall_const, foldl_ticks, State.modSyn_ticks, State.outRelock_ticks, State.raise_ticks, State.synClear_ticks, Done.ok, Done.err] | split)

theorem State.syncRun_ticks (s : State) (n : Nat) :
    (State.syncRun s n).ticks = s.ticks := by
  unfold State.syncRun
  repeat' (first | simp only [apply_ite State.ticks, apply_ite Prod.fst, apply_ite Prod.snd, apply_ite Done.st, ite_self, implies_true, forall_const, foldl_ticks, State.modOch_ticks, State.outRaise_ticks, Done.ok, Done.err] | split)

theorem State.syncRunAll_ticks (s : State) :
    (State.syncRunAll s).ticks = s.ticks := by
  unfold State.syncRunAll
  repeat' (first | simp only [apply_ite State.ticks, apply_ite Prod.fst, apply_ite Prod.snd, apply_ite Done.st, ite_self, implies_true, forall_const, foldl_ticks, State.syncRun_ticks, Done.ok, Done.err] | split)

theorem State.tpFire_ticks (s : State) (m : Nat) (inst : Nat) (at_ : Int) :
    (State.tpFire s m inst at_).ticks = s.ticks := by
  unfold State.tpFire
  repeat' (first | simp only [apply_ite State.ticks, apply_ite Prod.fst, apply_ite Prod.snd, apply_ite Done.st, ite_self, implies_true, forall_const, foldl_ticks, State.modOtp_ticks, Done.ok, Done.err] | split)

theorem State.tpStep_ticks (s : State) (old : Nat) (m : Nat) :
    (State.tpStep s old m).ticks = s.ticks := by
  unfold State.tpStep
  repeat' (first | simp only [apply_ite State.ticks, apply_ite Prod.fst, apply_ite Prod.snd, apply_ite Done.st, ite_self, implies_true, forall_const, foldl_ticks, State.modOtp_ticks, State.outRaise_ticks, State.tpFire_ticks, Done.ok, Done.err] | split)

theorem State.tpAcq_ticks (s : State) (m : Nat) :
    (State.tpAcq s m).ticks = s.ticks := by
  unfold State.tpAcq
  repeat' (first | simp only [apply_ite State.ticks, apply_ite Prod.fst, apply_ite Prod.snd, apply_ite Done.st, ite_self, implies_true, forall_const, foldl_ticks, State.modOtp_ticks, Done.ok, Done.err] | split)

theorem State.todSend_ticks (s : State) (k : Nat) (sec : Nat) :
    (State.todSend s k sec).ticks = s.ticks := by
  unfold State.todSend
  repeat' (first | simp only [apply_ite State.ticks, apply_ite Prod.fst, apply_ite Prod.snd, apply_ite Done.st, ite_self, implies_true, forall_const, foldl_ticks, State.modOtod_ticks, Done.ok, Done.err] | split)

theorem State.todStep_ticks (s : State) (old : Nat) (k : Nat) :
    (State.todStep s old k).ticks = s.ticks := by
  unfold State.todStep
  repeat' (first | simp only [apply_ite State.ticks, apply_ite Prod.fst, apply_ite Prod.snd, apply_ite Done.st, ite_self, implies_true, forall_const, foldl_ticks, State.modOtod_ticks, Done.ok, Done.err] | split)

theorem State.setDelay_ticks (s : State) (t : Nat) (d : BitVec 32) (u : BitVec 24) :
    (State.setDelay s t d u).ticks = s.ticks := by
  unfold State.setDelay
  repeat' (first | simp only [apply_ite State.ticks, apply_ite Prod.fst, apply_ite Prod.snd, apply_ite Done.st, ite_self, implies_true, forall_const, foldl_ticks, State.glide_ticks, State.setOutCfg_ticks, Done.ok, Done.err] | split)

theorem State.echoFree_ticks (s : State) (t : Nat) :
    (State.echoFree s t).ticks = s.ticks := by
  unfold State.echoFree
  repeat' (first | simp only [apply_ite State.ticks, apply_ite Prod.fst, apply_ite Prod.snd, apply_ite Done.st, ite_self, implies_true, forall_const, foldl_ticks, State.modOch_ticks, State.outEval_ticks, Done.ok, Done.err] | split)

theorem specFltQuery_ticks (p : Packet) (s : State) :
    (specFltQuery.body p s).st.ticks = s.ticks := by
  unfold specFltQuery
  repeat' (first | simp only [apply_ite State.ticks, apply_ite Prod.fst, apply_ite Prod.snd, apply_ite Done.st, ite_self, implies_true, forall_const, foldl_ticks, answer, gnsBody, keyBody, pairBody, svcBody, ticBody, answer_ticks, Done.ok, Done.err] | split)

theorem State.classRaised_ticks (s : State) (n : Nat) (cls : Nat) :
    (State.classRaised s n cls).ticks = s.ticks := by
  unfold State.classRaised
  repeat' (first | simp only [apply_ite State.ticks, apply_ite Prod.fst, apply_ite Prod.snd, apply_ite Done.st, ite_self, implies_true, forall_const, foldl_ticks, State.pairEval_ticks, State.safeLine_ticks, Done.ok, Done.err] | split)

theorem specFltSetClass_ticks (p : Packet) (s : State) :
    (specFltSetClass.body p s).st.ticks = s.ticks := by
  unfold specFltSetClass
  repeat' (first | simp only [apply_ite State.ticks, apply_ite Prod.fst, apply_ite Prod.snd, apply_ite Done.st, ite_self, implies_true, forall_const, foldl_ticks, answer, gnsBody, keyBody, pairBody, svcBody, ticBody, Done.ok_ticks, State.classRaised_ticks, Done.ok, Done.err] | split)

theorem specFltClear_ticks (p : Packet) (s : State) :
    (specFltClear.body p s).st.ticks = s.ticks := by
  unfold specFltClear
  repeat' (first | simp only [apply_ite State.ticks, apply_ite Prod.fst, apply_ite Prod.snd, apply_ite Done.st, ite_self, implies_true, forall_const, foldl_ticks, answer, gnsBody, keyBody, pairBody, svcBody, ticBody, Done.ok_ticks, State.latch_ticks, Done.ok, Done.err] | split)

theorem specFltInject_ticks (p : Packet) (s : State) :
    (specFltInject.body p s).st.ticks = s.ticks := by
  unfold specFltInject
  repeat' (first | simp only [apply_ite State.ticks, apply_ite Prod.fst, apply_ite Prod.snd, apply_ite Done.st, ite_self, implies_true, forall_const, foldl_ticks, answer, gnsBody, keyBody, pairBody, svcBody, ticBody, Done.ok_ticks, State.faultAssert_ticks, State.irq_ticks, Done.ok, Done.err] | split)

theorem State.rejoinNow_ticks (s : State) :
    (State.rejoinNow s).ticks = s.ticks := by
  unfold State.rejoinNow
  repeat' (first | simp only [apply_ite State.ticks, apply_ite Prod.fst, apply_ite Prod.snd, apply_ite Done.st, ite_self, implies_true, forall_const, foldl_ticks, State.pairEval_ticks, State.setRole_ticks, Done.ok, Done.err] | split)

theorem State.accordLeave_ticks (s : State) :
    (State.accordLeave s).ticks = s.ticks := by
  unfold State.accordLeave
  repeat' (first | simp only [apply_ite State.ticks, apply_ite Prod.fst, apply_ite Prod.snd, apply_ite Done.st, ite_self, implies_true, forall_const, foldl_ticks, State.raise_ticks, State.setAccord_ticks, Done.ok, Done.err] | split)

theorem State.roleLeave_ticks (s : State) :
    (State.roleLeave s).ticks = s.ticks := by
  unfold State.roleLeave
  repeat' (first | simp only [apply_ite State.ticks, apply_ite Prod.fst, apply_ite Prod.snd, apply_ite Done.st, ite_self, implies_true, forall_const, foldl_ticks, State.rejoinNow_ticks, State.setRole_ticks, Done.ok, Done.err] | split)

theorem State.safeLeave_ticks (s : State) :
    (State.safeLeave s).ticks = s.ticks := by
  unfold State.safeLeave
  repeat' (first | simp only [apply_ite State.ticks, apply_ite Prod.fst, apply_ite Prod.snd, apply_ite Done.st, ite_self, implies_true, forall_const, foldl_ticks, State.accordLeave_ticks, State.gateEval_ticks, State.latch_ticks, State.raise_ticks, State.react_ticks, State.roleLeave_ticks, State.setDev_ticks, Done.ok, Done.err] | split)

theorem specSysClearSafe_ticks (p : Packet) (s : State) :
    (specSysClearSafe.body p s).st.ticks = s.ticks := by
  unfold specSysClearSafe
  repeat' (first | simp only [apply_ite State.ticks, apply_ite Prod.fst, apply_ite Prod.snd, apply_ite Done.st, ite_self, implies_true, forall_const, foldl_ticks, answer, gnsBody, keyBody, pairBody, svcBody, ticBody, Done.err_ticks, Done.ok_ticks, State.safeLeave_ticks, Done.ok, Done.err] | split)

theorem State.selfFails0_ticks (s : State) :
    (State.selfFails0 s).ticks = s.ticks := by
  unfold State.selfFails0
  repeat' (first | simp only [apply_ite State.ticks, apply_ite Prod.fst, apply_ite Prod.snd, apply_ite Done.st, ite_self, implies_true, forall_const, foldl_ticks, State.raise_ticks, State.safeLine_ticks, Done.ok, Done.err] | split)

theorem State.wardenLate_ticks (s : State) :
    (State.wardenLate s).ticks = s.ticks := by
  unfold State.wardenLate
  repeat' (first | simp only [apply_ite State.ticks, apply_ite Prod.fst, apply_ite Prod.snd, apply_ite Done.st, ite_self, implies_true, forall_const, foldl_ticks, State.faultAssert_ticks, Done.ok, Done.err] | split)

theorem State.modPcmp_ticks (s : State) (e : Nat) (f : PairCmp → PairCmp) :
    (State.modPcmp s e f).ticks = s.ticks := by
  unfold State.modPcmp
  repeat' (first | simp only [apply_ite State.ticks, apply_ite Prod.fst, apply_ite Prod.snd, apply_ite Done.st, ite_self, implies_true, forall_const, foldl_ticks, Done.ok, Done.err] | split)

theorem State.setPairCfg_ticks (s : State) (f : PairCfg → PairCfg) :
    (State.setPairCfg s f).ticks = s.ticks := by
  unfold State.setPairCfg
  repeat' (first | simp only [apply_ite State.ticks, apply_ite Prod.fst, apply_ite Prod.snd, apply_ite Done.st, ite_self, implies_true, forall_const, foldl_ticks, Done.ok, Done.err] | split)

theorem State.notify_ticks (s : State) (n : PairNotice) :
    (State.notify s n).ticks = s.ticks := by
  unfold State.notify
  repeat' (first | simp only [apply_ite State.ticks, apply_ite Prod.fst, apply_ite Prod.snd, apply_ite Done.st, ite_self, implies_true, forall_const, foldl_ticks, Done.ok, Done.err] | split)

theorem specPairQuery_ticks (p : Packet) (s : State) :
    (specPairQuery.body p s).st.ticks = s.ticks := by
  unfold specPairQuery
  repeat' (first | simp only [apply_ite State.ticks, apply_ite Prod.fst, apply_ite Prod.snd, apply_ite Done.st, ite_self, implies_true, forall_const, foldl_ticks, answer, gnsBody, keyBody, pairBody, svcBody, ticBody, answer_ticks, Done.ok, Done.err] | split)

theorem State.sideCheck_ticks (s : State) :
    (State.sideCheck s).ticks = s.ticks := by
  unfold State.sideCheck
  repeat' (first | simp only [apply_ite State.ticks, apply_ite Prod.fst, apply_ite Prod.snd, apply_ite Done.st, ite_self, implies_true, forall_const, foldl_ticks, State.faultAssert_ticks, State.faultEnd_ticks, State.raise_ticks, Done.ok, Done.err] | split)

theorem State.goSolo_ticks (s : State) :
    (State.goSolo s).ticks = s.ticks := by
  unfold State.goSolo
  repeat' (first | simp only [apply_ite State.ticks, apply_ite Prod.fst, apply_ite Prod.snd, apply_ite Done.st, ite_self, implies_true, forall_const, foldl_ticks, State.pairEval_ticks, State.raise_ticks, State.setRole_ticks, State.sideCheck_ticks, Done.ok, Done.err] | split)

theorem State.goPaired_ticks (s : State) :
    (State.goPaired s).ticks = s.ticks := by
  unfold State.goPaired
  repeat' (first | simp only [apply_ite State.ticks, apply_ite Prod.fst, apply_ite Prod.snd, apply_ite Done.st, ite_self, implies_true, forall_const, foldl_ticks, State.pairEval_ticks, State.setRole_ticks, State.sideCheck_ticks, Done.ok, Done.err] | split)

theorem specPairSetMode_ticks (p : Packet) (s : State) :
    (specPairSetMode.body p s).st.ticks = s.ticks := by
  unfold specPairSetMode
  repeat' (first | simp only [apply_ite State.ticks, apply_ite Prod.fst, apply_ite Prod.snd, apply_ite Done.st, ite_self, implies_true, forall_const, foldl_ticks, answer, gnsBody, keyBody, pairBody, svcBody, ticBody, Done.err_ticks, Done.ok_ticks, State.goPaired_ticks, State.goSolo_ticks, State.setPairCfg_ticks, Done.ok, Done.err] | split)

theorem specPairSetClaim_ticks (p : Packet) (s : State) :
    (specPairSetClaim.body p s).st.ticks = s.ticks := by
  unfold specPairSetClaim
  repeat' (first | simp only [apply_ite State.ticks, apply_ite Prod.fst, apply_ite Prod.snd, apply_ite Done.st, ite_self, implies_true, forall_const, foldl_ticks, answer, gnsBody, keyBody, pairBody, svcBody, ticBody, Done.ok_ticks, State.pairEval_ticks, State.setPairCfg_ticks, Done.ok, Done.err] | split)

theorem State.cmpFaults_ticks (s : State) :
    (State.cmpFaults s).ticks = s.ticks := by
  unfold State.cmpFaults
  repeat' (first | simp only [apply_ite State.ticks, apply_ite Prod.fst, apply_ite Prod.snd, apply_ite Done.st, ite_self, implies_true, forall_const, foldl_ticks, State.faultAssert_ticks, State.faultEnd_ticks, State.pairEval_ticks, Done.ok, Done.err] | split)

theorem State.reportEnd_ticks (s : State) (t : Nat) :
    (State.reportEnd s t).ticks = s.ticks := by
  unfold State.reportEnd
  repeat' (first | simp only [apply_ite State.ticks, apply_ite Prod.fst, apply_ite Prod.snd, apply_ite Done.st, ite_self, implies_true, forall_const, foldl_ticks, State.notify_ticks, Done.ok, Done.err] | split)

theorem State.entryOff_ticks (s : State) (e : Nat) :
    (State.entryOff s e).ticks = s.ticks := by
  unfold State.entryOff
  repeat' (first | simp only [apply_ite State.ticks, apply_ite Prod.fst, apply_ite Prod.snd, apply_ite Done.st, ite_self, implies_true, forall_const, foldl_ticks, State.cmpFaults_ticks, State.modPcmp_ticks, State.modTch_ticks, State.reportEnd_ticks, State.setPairCfg_ticks, Done.ok, Done.err] | split)

theorem specPairSetCompare_ticks (p : Packet) (s : State) :
    (specPairSetCompare.body p s).st.ticks = s.ticks := by
  unfold specPairSetCompare
  repeat' (first | simp only [apply_ite State.ticks, apply_ite Prod.fst, apply_ite Prod.snd, apply_ite Done.st, ite_self, implies_true, forall_const, foldl_ticks, answer, gnsBody, keyBody, pairBody, svcBody, ticBody, Done.err_ticks, Done.ok_ticks, State.entryOff_ticks, State.ivAbort_ticks, State.modTch_ticks, State.pairEval_ticks, State.setPairCfg_ticks, Done.ok, Done.err] | split)

theorem State.entryFails_ticks (s : State) (e : Nat) (mine : Bool) (mean : Int) :
    (State.entryFails s e mine mean).ticks = s.ticks := by
  unfold State.entryFails
  repeat' (first | simp only [apply_ite State.ticks, apply_ite Prod.fst, apply_ite Prod.snd, apply_ite Done.st, ite_self, implies_true, forall_const, foldl_ticks, State.cmpFaults_ticks, State.modPcmp_ticks, State.notify_ticks, State.raise_ticks, Done.ok, Done.err] | split)

theorem State.entryPasses_ticks (s : State) (e : Nat) :
    (State.entryPasses s e).ticks = s.ticks := by
  unfold State.entryPasses
  repeat' (first | simp only [apply_ite State.ticks, apply_ite Prod.fst, apply_ite Prod.snd, apply_ite Done.st, ite_self, implies_true, forall_const, foldl_ticks, State.cmpFaults_ticks, State.modPcmp_ticks, State.reportEnd_ticks, Done.ok, Done.err] | split)

theorem State.entryWindow_ticks (s : State) (e : Nat) (mine : Bool) (xs : List Int) :
    (State.entryWindow s e mine xs).ticks = s.ticks := by
  unfold State.entryWindow
  repeat' (first | simp only [apply_ite State.ticks, apply_ite Prod.fst, apply_ite Prod.snd, apply_ite Done.st, ite_self, implies_true, forall_const, foldl_ticks, Done.ok_ticks, State.entryFails_ticks, State.entryPasses_ticks, State.modPcmp_ticks, Done.ok, Done.err] | split)

theorem State.roundStart_ticks (s : State) :
    (State.roundStart s).ticks = s.ticks := by
  unfold State.roundStart
  repeat' (first | simp only [apply_ite State.ticks, apply_ite Prod.fst, apply_ite Prod.snd, apply_ite Done.st, ite_self, implies_true, forall_const, foldl_ticks, Done.ok, Done.err] | split)

theorem State.roundNow_ticks (s : State) :
    (State.roundNow s).ticks = s.ticks := by
  unfold State.roundNow
  repeat' (first | simp only [apply_ite State.ticks, apply_ite Prod.fst, apply_ite Prod.snd, apply_ite Done.st, ite_self, implies_true, forall_const, foldl_ticks, State.roundStart_ticks, Done.ok, Done.err] | split)

theorem State.roundWon_ticks (s : State) :
    (State.roundWon s).ticks = s.ticks := by
  unfold State.roundWon
  repeat' (first | simp only [apply_ite State.ticks, apply_ite Prod.fst, apply_ite Prod.snd, apply_ite Done.st, ite_self, implies_true, forall_const, foldl_ticks, Done.ok, Done.err] | split)

theorem State.roundLost_ticks (s : State) :
    (State.roundLost s).ticks = s.ticks := by
  unfold State.roundLost
  repeat' (first | simp only [apply_ite State.ticks, apply_ite Prod.fst, apply_ite Prod.snd, apply_ite Done.st, ite_self, implies_true, forall_const, foldl_ticks, Done.ok, Done.err] | split)

theorem State.handoverFails_ticks (s : State) :
    (State.handoverFails s).ticks = s.ticks := by
  unfold State.handoverFails
  repeat' (first | simp only [apply_ite State.ticks, apply_ite Prod.fst, apply_ite Prod.snd, apply_ite Done.st, ite_self, implies_true, forall_const, foldl_ticks, State.raise_ticks, Done.ok, Done.err] | split)

theorem State.ownRecord_ticks (s : State) (gained : Bool) :
    (State.ownRecord s gained).ticks = s.ticks := by
  unfold State.ownRecord
  repeat' (first | simp only [apply_ite State.ticks, apply_ite Prod.fst, apply_ite Prod.snd, apply_ite Done.st, ite_self, implies_true, forall_const, foldl_ticks, Done.ok, Done.err] | split)

theorem State.trimsOut_ticks (s : State) :
    (State.trimsOut s).ticks = s.ticks := by
  unfold State.trimsOut
  repeat' (first | simp only [apply_ite State.ticks, apply_ite Prod.fst, apply_ite Prod.snd, apply_ite Done.st, ite_self, implies_true, forall_const, foldl_ticks, State.glide_ticks, State.modPcmp_ticks, Done.ok, Done.err] | split)

theorem State.ownChange_ticks (s : State) (gain : Bool) :
    (State.ownChange s gain).ticks = s.ticks := by
  unfold State.ownChange
  repeat' (first | simp only [apply_ite State.ticks, apply_ite Prod.fst, apply_ite Prod.snd, apply_ite Done.st, ite_self, implies_true, forall_const, foldl_ticks, State.ownRecord_ticks, State.pairEval_ticks, State.raise_ticks, State.trimsOut_ticks, Done.ok, Done.err] | split)

theorem specPairHandover_ticks (p : Packet) (s : State) :
    (specPairHandover.body p s).st.ticks = s.ticks := by
  unfold specPairHandover
  repeat' (first | simp only [apply_ite State.ticks, apply_ite Prod.fst, apply_ite Prod.snd, apply_ite Done.st, ite_self, implies_true, forall_const, foldl_ticks, answer, gnsBody, keyBody, pairBody, svcBody, ticBody, Done.err_ticks, Done.ok_ticks, State.notify_ticks, Done.ok, Done.err] | split)

theorem specPairRejoin_ticks (p : Packet) (s : State) :
    (specPairRejoin.body p s).st.ticks = s.ticks := by
  unfold specPairRejoin
  repeat' (first | simp only [apply_ite State.ticks, apply_ite Prod.fst, apply_ite Prod.snd, apply_ite Done.st, ite_self, implies_true, forall_const, foldl_ticks, answer, gnsBody, keyBody, pairBody, svcBody, ticBody, Done.err_ticks, Done.ok_ticks, State.rejoinNow_ticks, Done.ok, Done.err] | split)

theorem State.benitSpare_ticks (s : State) :
    (State.benitSpare s).ticks = s.ticks := by
  unfold State.benitSpare
  repeat' (first | simp only [apply_ite State.ticks, apply_ite Prod.fst, apply_ite Prod.snd, apply_ite Done.st, ite_self, implies_true, forall_const, foldl_ticks, State.raise_ticks, Done.ok, Done.err] | split)

theorem State.digestCheck_ticks (s : State) (d : BitVec 64) :
    (State.digestCheck s d).ticks = s.ticks := by
  unfold State.digestCheck
  repeat' (first | simp only [apply_ite State.ticks, apply_ite Prod.fst, apply_ite Prod.snd, apply_ite Done.st, ite_self, implies_true, forall_const, foldl_ticks, State.faultAssert_ticks, State.raise_ticks, Done.ok, Done.err] | split)

theorem State.laneSkew_ticks (s : State) (lane0 : BenitTimes) (lane1 : BenitTimes) :
    (State.laneSkew s lane0 lane1).ticks = s.ticks := by
  unfold State.laneSkew
  repeat' (first | simp only [apply_ite State.ticks, apply_ite Prod.fst, apply_ite Prod.snd, apply_ite Done.st, ite_self, implies_true, forall_const, foldl_ticks, State.faultAssert_ticks, State.raise_ticks, Done.ok, Done.err] | split)

theorem State.entryCalBad_ticks (s : State) (e : Nat) :
    (State.entryCalBad s e).ticks = s.ticks := by
  unfold State.entryCalBad
  repeat' (first | simp only [apply_ite State.ticks, apply_ite Prod.fst, apply_ite Prod.snd, apply_ite Done.st, ite_self, implies_true, forall_const, foldl_ticks, State.convFail_ticks, State.modPcmp_ticks, State.pairEval_ticks, Done.ok, Done.err] | split)

theorem State.powerUp_ticks (s : State) (m : BitVec 13) :
    (State.powerUp s m).ticks = s.ticks := by
  unfold State.powerUp
  repeat' (first | simp only [apply_ite State.ticks, apply_ite Prod.fst, apply_ite Prod.snd, apply_ite Done.st, ite_self, implies_true, forall_const, foldl_ticks, Done.ok, Done.err] | split)

theorem State.stageSend_ticks (s : State) (l : Nat) :
    (State.stageSend s l).ticks = s.ticks := by
  unfold State.stageSend
  repeat' (first | simp only [apply_ite State.ticks, apply_ite Prod.fst, apply_ite Prod.snd, apply_ite Done.st, ite_self, implies_true, forall_const, foldl_ticks, State.modLane_ticks, State.ringPush_ticks, Done.ok, Done.err] | split)

theorem State.stageDrain_ticks (s : State) (l : Nat) :
    (State.stageDrain s l).ticks = s.ticks := by
  unfold State.stageDrain
  repeat' (first | simp only [apply_ite State.ticks, apply_ite Prod.fst, apply_ite Prod.snd, apply_ite Done.st, ite_self, implies_true, forall_const, foldl_ticks, State.stageSend_ticks, Done.ok, Done.err] | split)

theorem State.laneGoing_ticks (s : State) (l : Nat) :
    (State.laneGoing s l).ticks = s.ticks := by
  unfold State.laneGoing
  repeat' (first | simp only [apply_ite State.ticks, apply_ite Prod.fst, apply_ite Prod.snd, apply_ite Done.st, ite_self, implies_true, forall_const, foldl_ticks, State.laneStop_ticks, State.stageDrain_ticks, Done.ok, Done.err] | split)

theorem State.capGoing_ticks (s : State) (l : Nat) :
    (State.capGoing s l).ticks = s.ticks := by
  unfold State.capGoing
  repeat' (first | simp only [apply_ite State.ticks, apply_ite Prod.fst, apply_ite Prod.snd, apply_ite Done.st, ite_self, implies_true, forall_const, foldl_ticks, State.capEnd_ticks, State.stageDrain_ticks, Done.ok, Done.err] | split)

theorem State.timeGoing_ticks (s : State) :
    (State.timeGoing s).ticks = s.ticks := by
  unfold State.timeGoing
  repeat' (first | simp only [apply_ite State.ticks, apply_ite Prod.fst, apply_ite Prod.snd, apply_ite Done.st, ite_self, implies_true, forall_const, foldl_ticks, State.echoAbort_ticks, State.setAccord_ticks, Done.ok, Done.err] | split)

theorem State.ticGoing_ticks (s : State) :
    (State.ticGoing s).ticks = s.ticks := by
  unfold State.ticGoing
  repeat' (first | simp only [apply_ite State.ticks, apply_ite Prod.fst, apply_ite Prod.snd, apply_ite Done.st, ite_self, implies_true, forall_const, foldl_ticks, State.echoAbort_ticks, State.ivAbort_ticks, Done.ok, Done.err] | split)

theorem State.pairYield_ticks (s : State) :
    (State.pairYield s).ticks = s.ticks := by
  unfold State.pairYield
  repeat' (first | simp only [apply_ite State.ticks, apply_ite Prod.fst, apply_ite Prod.snd, apply_ite Done.st, ite_self, implies_true, forall_const, foldl_ticks, State.raise_ticks, State.setRole_ticks, Done.ok, Done.err] | split)

theorem State.pairGoing_ticks (s : State) :
    (State.pairGoing s).ticks = s.ticks := by
  unfold State.pairGoing
  repeat' (first | simp only [apply_ite State.ticks, apply_ite Prod.fst, apply_ite Prod.snd, apply_ite Done.st, ite_self, implies_true, forall_const, foldl_ticks, State.faultAssert_ticks, State.pairYield_ticks, State.raise_ticks, State.setSource_ticks, Done.ok, Done.err] | split)

theorem State.domGoing_ticks (s : State) (d : Nat) :
    (State.domGoing s d).ticks = s.ticks := by
  unfold State.domGoing
  repeat' (first | simp only [apply_ite State.ticks, apply_ite Prod.fst, apply_ite Prod.snd, apply_ite Done.st, ite_self, implies_true, forall_const, foldl_ticks, State.capGoing_ticks, State.laneGoing_ticks, State.pairGoing_ticks, State.ticGoing_ticks, State.timeGoing_ticks, State.zeroSlots_ticks, Done.ok, Done.err] | split)

theorem State.powerDown_ticks (s : State) (m : BitVec 13) :
    (State.powerDown s m).ticks = s.ticks := by
  unfold State.powerDown
  repeat' (first | simp only [apply_ite State.ticks, apply_ite Prod.fst, apply_ite Prod.snd, apply_ite Done.st, ite_self, implies_true, forall_const, foldl_ticks, State.bistAbort_ticks, State.domGoing_ticks, State.gnsEval_ticks, State.refPresence_ticks, Done.ok, Done.err] | split)

theorem State.powerCycle_ticks (s : State) (m : BitVec 13) :
    (State.powerCycle s m).ticks = s.ticks := by
  unfold State.powerCycle
  repeat' (first | simp only [apply_ite State.ticks, apply_ite Prod.fst, apply_ite Prod.snd, apply_ite Done.st, ite_self, implies_true, forall_const, foldl_ticks, State.powerDown_ticks, Done.ok, Done.err] | split)

theorem State.dropReplies_ticks (s : State) :
    (State.dropReplies s).ticks = s.ticks := by
  unfold State.dropReplies
  repeat' (first | simp only [apply_ite State.ticks, apply_ite Prod.fst, apply_ite Prod.snd, apply_ite Done.st, ite_self, implies_true, forall_const, foldl_ticks, Done.ok, Done.err] | split)

theorem State.orphanTx_ticks (s : State) (l : Nat) :
    (State.orphanTx s l).ticks = s.ticks := by
  unfold State.orphanTx
  repeat' (first | simp only [apply_ite State.ticks, apply_ite Prod.fst, apply_ite Prod.snd, apply_ite Done.st, ite_self, implies_true, forall_const, foldl_ticks, Done.ok, Done.err] | split)

theorem State.ringsDown_ticks (s : State) :
    (State.ringsDown s).ticks = s.ticks := by
  unfold State.ringsDown
  repeat' (first | simp only [apply_ite State.ticks, apply_ite Prod.fst, apply_ite Prod.snd, apply_ite Done.st, ite_self, implies_true, forall_const, foldl_ticks, State.acqResume_ticks, State.dropReplies_ticks, State.orphanTx_ticks, Done.ok, Done.err] | split)

theorem State.linkLost_ticks (s : State) :
    (State.linkLost s).ticks = s.ticks := by
  unfold State.linkLost
  repeat' (first | simp only [apply_ite State.ticks, apply_ite Prod.fst, apply_ite Prod.snd, apply_ite Done.st, ite_self, implies_true, forall_const, foldl_ticks, State.raise_ticks, State.ringsDown_ticks, Done.ok, Done.err] | split)

theorem State.pcieOff_ticks (s : State) :
    (State.pcieOff s).ticks = s.ticks := by
  unfold State.pcieOff
  repeat' (first | simp only [apply_ite State.ticks, apply_ite Prod.fst, apply_ite Prod.snd, apply_ite Done.st, ite_self, implies_true, forall_const, foldl_ticks, State.linkLost_ticks, State.ringsDown_ticks, Done.ok, Done.err] | split)

theorem State.domBlank_ticks (s : State) (d : Nat) :
    (State.domBlank s d).ticks = s.ticks := by
  unfold State.domBlank
  repeat' (first | simp only [apply_ite State.ticks, apply_ite Prod.fst, apply_ite Prod.snd, apply_ite Done.st, ite_self, implies_true, forall_const, foldl_ticks, State.pcieOff_ticks, Done.ok, Done.err] | split)

theorem State.powerAgain_ticks (s : State) :
    (State.powerAgain s).ticks = s.ticks := by
  unfold State.powerAgain
  repeat' (first | simp only [apply_ite State.ticks, apply_ite Prod.fst, apply_ite Prod.snd, apply_ite Done.st, ite_self, implies_true, forall_const, foldl_ticks, Done.ok_ticks, State.powerUp_ticks, Done.ok, Done.err] | split)

theorem State.domQuiet_ticks (s : State) (d : Nat) :
    (State.domQuiet s d).ticks = s.ticks := by
  unfold State.domQuiet
  repeat' (first | simp only [apply_ite State.ticks, apply_ite Prod.fst, apply_ite Prod.snd, apply_ite Done.st, ite_self, implies_true, forall_const, foldl_ticks, State.faultEnd_ticks, Done.ok, Done.err] | split)

theorem State.domOff_ticks (s : State) (d : Nat) :
    (State.domOff s d).ticks = s.ticks := by
  unfold State.domOff
  repeat' (first | simp only [apply_ite State.ticks, apply_ite Prod.fst, apply_ite Prod.snd, apply_ite Done.st, ite_self, implies_true, forall_const, foldl_ticks, State.domBlank_ticks, State.domQuiet_ticks, State.powerAgain_ticks, State.raise_ticks, Done.ok, Done.err] | split)

theorem State.capEpochStep_ticks (s : State) (q : Nat) :
    (State.capEpochStep s q).ticks = s.ticks := by
  unfold State.capEpochStep
  repeat' (first | simp only [apply_ite State.ticks, apply_ite Prod.fst, apply_ite Prod.snd, apply_ite Done.st, ite_self, implies_true, forall_const, foldl_ticks, State.keepOwn_ticks, Done.ok, Done.err] | split)

theorem State.bridgeStart_ticks (s : State) :
    (State.bridgeStart s).ticks = s.ticks := by
  unfold State.bridgeStart
  repeat' (first | simp only [apply_ite State.ticks, apply_ite Prod.fst, apply_ite Prod.snd, apply_ite Done.st, ite_self, implies_true, forall_const, foldl_ticks, State.modSpare_ticks, Done.ok, Done.err] | split)

theorem State.substNow_ticks (s : State) (i : Nat) :
    (State.substNow s i).ticks = s.ticks := by
  unfold State.substNow
  repeat' (first | simp only [apply_ite State.ticks, apply_ite Prod.fst, apply_ite Prod.snd, apply_ite Done.st, ite_self, implies_true, forall_const, foldl_ticks, State.modSpare_ticks, State.modTch_ticks, Done.ok, Done.err] | split)

theorem State.pairClaims_ticks (s : State) :
    (State.pairClaims s).ticks = s.ticks := by
  unfold State.pairClaims
  repeat' (first | simp only [apply_ite State.ticks, apply_ite Prod.fst, apply_ite Prod.snd, apply_ite Done.st, ite_self, implies_true, forall_const, foldl_ticks, State.ivAbort_ticks, State.modTch_ticks, Done.ok, Done.err] | split)

theorem State.substAll_ticks (s : State) :
    (State.substAll s).ticks = s.ticks := by
  unfold State.substAll
  repeat' (first | simp only [apply_ite State.ticks, apply_ite Prod.fst, apply_ite Prod.snd, apply_ite Done.st, ite_self, implies_true, forall_const, foldl_ticks, State.substNow_ticks, Done.ok, Done.err] | split)

theorem State.ticReady_ticks (s : State) :
    (State.ticReady s).ticks = s.ticks := by
  unfold State.ticReady
  repeat' (first | simp only [apply_ite State.ticks, apply_ite Prod.fst, apply_ite Prod.snd, apply_ite Done.st, ite_self, implies_true, forall_const, foldl_ticks, State.bridgeStart_ticks, State.pairClaims_ticks, State.substAll_ticks, Done.ok, Done.err] | split)

theorem State.timeReady_ticks (s : State) :
    (State.timeReady s).ticks = s.ticks := by
  unfold State.timeReady
  repeat' (first | simp only [apply_ite State.ticks, apply_ite Prod.fst, apply_ite Prod.snd, apply_ite Done.st, ite_self, implies_true, forall_const, foldl_ticks, State.faultEnd_ticks, State.react_ticks, State.refStart_ticks, Done.ok, Done.err] | split)

theorem State.quadReady_ticks (s : State) (q : Nat) :
    (State.quadReady s q).ticks = s.ticks := by
  unfold State.quadReady
  repeat' (first | simp only [apply_ite State.ticks, apply_ite Prod.fst, apply_ite Prod.snd, apply_ite Done.st, ite_self, implies_true, forall_const, foldl_ticks, State.capEpochStep_ticks, State.gateEval_ticks, State.svcClassesSet_ticks, Done.ok, Done.err] | split)

theorem State.domStart_ticks (s : State) (d : Nat) (banks : BitVec 72) :
    (State.domStart s d banks).ticks = s.ticks := by
  unfold State.domStart
  repeat' (first | simp only [apply_ite State.ticks, apply_ite Prod.fst, apply_ite Prod.snd, apply_ite Done.st, ite_self, implies_true, forall_const, foldl_ticks, State.bankTest_ticks, State.gnsEval_ticks, State.notchesOn_ticks, State.pairClaims_ticks, State.pairEval_ticks, State.quadReady_ticks, State.svcEval_ticks, State.ticReady_ticks, State.timeReady_ticks, Done.ok, Done.err] | split)

theorem State.domReadyNow_ticks (s : State) (d : Nat) (banks : BitVec 72) :
    (State.domReadyNow s d banks).ticks = s.ticks := by
  unfold State.domReadyNow
  repeat' (first | simp only [apply_ite State.ticks, apply_ite Prod.fst, apply_ite Prod.snd, apply_ite Done.st, ite_self, implies_true, forall_const, foldl_ticks, State.domStart_ticks, State.raise_ticks, Done.ok, Done.err] | split)

theorem specSysQueryState_ticks (p : Packet) (s : State) :
    (specSysQueryState.body p s).st.ticks = s.ticks := by
  unfold specSysQueryState
  repeat' (first | simp only [apply_ite State.ticks, apply_ite Prod.fst, apply_ite Prod.snd, apply_ite Done.st, ite_self, implies_true, forall_const, foldl_ticks, answer, gnsBody, keyBody, pairBody, svcBody, ticBody, answer_ticks, Done.ok, Done.err] | split)

theorem specSysSetState_ticks (p : Packet) (s : State) :
    (specSysSetState.body p s).st.ticks = s.ticks := by
  unfold specSysSetState
  repeat' (first | simp only [apply_ite State.ticks, apply_ite Prod.fst, apply_ite Prod.snd, apply_ite Done.st, ite_self, implies_true, forall_const, foldl_ticks, answer, gnsBody, keyBody, pairBody, svcBody, ticBody, Done.err_ticks, Done.ok_ticks, State.enterRun_ticks, State.react_ticks, State.setDev_ticks, Done.ok, Done.err] | split)

theorem specSysDomainPower_ticks (p : Packet) (s : State) :
    (specSysDomainPower.body p s).st.ticks = s.ticks := by
  unfold specSysDomainPower
  repeat' (first | simp only [apply_ite State.ticks, apply_ite Prod.fst, apply_ite Prod.snd, apply_ite Done.st, ite_self, implies_true, forall_const, foldl_ticks, answer, gnsBody, keyBody, pairBody, svcBody, ticBody, Done.err_ticks, Done.ok_ticks, State.powerDown_ticks, State.powerUp_ticks, Done.ok, Done.err] | split)

theorem State.servoSleeps_ticks (s : State) :
    (State.servoSleeps s).ticks = s.ticks := by
  unfold State.servoSleeps
  repeat' (first | simp only [apply_ite State.ticks, apply_ite Prod.fst, apply_ite Prod.snd, apply_ite Done.st, ite_self, implies_true, forall_const, foldl_ticks, State.enterDrydown_ticks, State.faultAssert_ticks, State.raise_ticks, Done.ok, Done.err] | split)

theorem State.streamsOff_ticks (s : State) :
    (State.streamsOff s).ticks = s.ticks := by
  unfold State.streamsOff
  repeat' (first | simp only [apply_ite State.ticks, apply_ite Prod.fst, apply_ite Prod.snd, apply_ite Done.st, ite_self, implies_true, forall_const, foldl_ticks, Done.ok, Done.err] | split)

theorem State.sleepNow_ticks (s : State) (timeKeep : Bool) (ticKeep : Bool) :
    (State.sleepNow s timeKeep ticKeep).ticks = s.ticks := by
  unfold State.sleepNow
  repeat' (first | simp only [apply_ite State.ticks, apply_ite Prod.fst, apply_ite Prod.snd, apply_ite Done.st, ite_self, implies_true, forall_const, foldl_ticks, State.powerDown_ticks, State.react_ticks, State.servoSleeps_ticks, State.setDev_ticks, State.streamsOff_ticks, Done.ok, Done.err] | split)

theorem specSysSleep_ticks (p : Packet) (s : State) :
    (specSysSleep.body p s).st.ticks = s.ticks := by
  unfold specSysSleep
  repeat' (first | simp only [apply_ite State.ticks, apply_ite Prod.fst, apply_ite Prod.snd, apply_ite Done.st, ite_self, implies_true, forall_const, foldl_ticks, answer, gnsBody, keyBody, pairBody, svcBody, ticBody, Done.err_ticks, Done.ok_ticks, State.sleepNow_ticks, Done.ok, Done.err] | split)

theorem State.wakeNow_ticks (s : State) (source : BitVec 2) (origin : BitVec 4) :
    (State.wakeNow s source origin).ticks = s.ticks := by
  unfold State.wakeNow
  repeat' (first | simp only [apply_ite State.ticks, apply_ite Prod.fst, apply_ite Prod.snd, apply_ite Done.st, ite_self, implies_true, forall_const, foldl_ticks, State.powerUp_ticks, Done.ok, Done.err] | split)

theorem specSysWake_ticks (p : Packet) (s : State) :
    (specSysWake.body p s).st.ticks = s.ticks := by
  unfold specSysWake
  repeat' (first | simp only [apply_ite State.ticks, apply_ite Prod.fst, apply_ite Prod.snd, apply_ite Done.st, ite_self, implies_true, forall_const, foldl_ticks, answer, gnsBody, keyBody, pairBody, svcBody, ticBody, Done.ok_ticks, State.wakeNow_ticks, Done.ok, Done.err] | split)

theorem State.wakeDone_ticks (s : State) :
    (State.wakeDone s).ticks = s.ticks := by
  unfold State.wakeDone
  repeat' (first | simp only [apply_ite State.ticks, apply_ite Prod.fst, apply_ite Prod.snd, apply_ite Done.st, ite_self, implies_true, forall_const, foldl_ticks, State.enterRun_ticks, State.faultAssert_ticks, State.react_ticks, State.setDev_ticks, State.tamper_ticks, State.tamperHoldSet_ticks, State.zeroKeys_ticks, State.zeroRoots_ticks, Done.ok, Done.err] | split)

theorem specSysReset_ticks (p : Packet) (s : State) :
    (specSysReset.body p s).st.ticks = s.ticks := by
  unfold specSysReset
  repeat' (first | simp only [apply_ite State.ticks, apply_ite Prod.fst, apply_ite Prod.snd, apply_ite Done.st, ite_self, implies_true, forall_const, foldl_ticks, answer, gnsBody, keyBody, pairBody, svcBody, ticBody, Done.err_ticks, Done.ok_ticks, State.loopLoad_ticks, State.powerCycle_ticks, Done.ok, Done.err] | split)

theorem specSysFwStage_ticks (p : Packet) (s : State) :
    (specSysFwStage.body p s).st.ticks = s.ticks := by
  unfold specSysFwStage
  repeat' (first | simp only [apply_ite State.ticks, apply_ite Prod.fst, apply_ite Prod.snd, apply_ite Done.st, ite_self, implies_true, forall_const, foldl_ticks, answer, gnsBody, keyBody, pairBody, svcBody, ticBody, Done.err_ticks, Done.ok_ticks, Done.ok, Done.err] | split)

theorem State.stageImage_ticks (s : State) (code : Nat) (f : FwImage) :
    (State.stageImage s code f).ticks = s.ticks := by
  unfold State.stageImage
  repeat' (first | simp only [apply_ite State.ticks, apply_ite Prod.fst, apply_ite Prod.snd, apply_ite Done.st, ite_self, implies_true, forall_const, foldl_ticks, Done.ok, Done.err] | split)

theorem specSysFwActivate_ticks (p : Packet) (s : State) :
    (specSysFwActivate.body p s).st.ticks = s.ticks := by
  unfold specSysFwActivate
  repeat' (first | simp only [apply_ite State.ticks, apply_ite Prod.fst, apply_ite Prod.snd, apply_ite Done.st, ite_self, implies_true, forall_const, foldl_ticks, answer, gnsBody, keyBody, pairBody, svcBody, ticBody, Done.err_ticks, Done.ok_ticks, Done.ok, Done.err] | split)

theorem specLogQueryStatus_ticks (p : Packet) (s : State) :
    (specLogQueryStatus.body p s).st.ticks = s.ticks := by
  unfold specLogQueryStatus
  repeat' (first | simp only [apply_ite State.ticks, apply_ite Prod.fst, apply_ite Prod.snd, apply_ite Done.st, ite_self, implies_true, forall_const, foldl_ticks, answer, gnsBody, keyBody, pairBody, svcBody, ticBody, answer_ticks, Done.ok, Done.err] | split)

theorem specLogQueryHead_ticks (p : Packet) (s : State) :
    (specLogQueryHead.body p s).st.ticks = s.ticks := by
  unfold specLogQueryHead
  repeat' (first | simp only [apply_ite State.ticks, apply_ite Prod.fst, apply_ite Prod.snd, apply_ite Done.st, ite_self, implies_true, forall_const, foldl_ticks, answer, gnsBody, keyBody, pairBody, svcBody, ticBody, answer_ticks, Done.ok, Done.err] | split)

theorem State.release_ticks (s : State) (q : BitVec 48) :
    (State.release s q).ticks = s.ticks := by
  unfold State.release
  repeat' (first | simp only [apply_ite State.ticks, apply_ite Prod.fst, apply_ite Prod.snd, apply_ite Done.st, ite_self, implies_true, forall_const, foldl_ticks, State.logLevel_ticks, State.logPut_ticks, State.logRecover_ticks, Done.ok, Done.err] | split)

theorem specLogExportAck_ticks (p : Packet) (s : State) :
    (specLogExportAck.body p s).st.ticks = s.ticks := by
  unfold specLogExportAck
  repeat' (first | simp only [apply_ite State.ticks, apply_ite Prod.fst, apply_ite Prod.snd, apply_ite Done.st, ite_self, implies_true, forall_const, foldl_ticks, answer, gnsBody, keyBody, pairBody, svcBody, ticBody, Done.ok_ticks, State.release_ticks, Done.ok, Done.err] | split)

theorem specLogSetExport_ticks (p : Packet) (s : State) :
    (specLogSetExport.body p s).st.ticks = s.ticks := by
  unfold specLogSetExport
  repeat' (first | simp only [apply_ite State.ticks, apply_ite Prod.fst, apply_ite Prod.snd, apply_ite Done.st, ite_self, implies_true, forall_const, foldl_ticks, answer, gnsBody, keyBody, pairBody, svcBody, ticBody, Done.err_ticks, Done.ok_ticks, State.irq_ticks, State.logLevel_ticks, State.logPut_ticks, Done.ok, Done.err] | split)

theorem specLogCheckpoint_ticks (p : Packet) (s : State) :
    (specLogCheckpoint.body p s).st.ticks = s.ticks := by
  unfold specLogCheckpoint
  repeat' (first | simp only [apply_ite State.ticks, apply_ite Prod.fst, apply_ite Prod.snd, apply_ite Done.st, ite_self, implies_true, forall_const, foldl_ticks, answer, gnsBody, keyBody, pairBody, svcBody, ticBody, Done.err_ticks, Done.ok_ticks, State.checkpoint_ticks, Done.ok, Done.err] | split)

theorem specLogNote_ticks (p : Packet) (s : State) :
    (specLogNote.body p s).st.ticks = s.ticks := by
  unfold specLogNote
  repeat' (first | simp only [apply_ite State.ticks, apply_ite Prod.fst, apply_ite Prod.snd, apply_ite Done.st, ite_self, implies_true, forall_const, foldl_ticks, answer, gnsBody, keyBody, pairBody, svcBody, ticBody, Done.ok_ticks, State.logPut_ticks, Done.ok, Done.err] | split)

theorem State.drainWait_ticks (s : State) :
    (State.drainWait s).ticks = s.ticks := by
  unfold State.drainWait
  repeat' (first | simp only [apply_ite State.ticks, apply_ite Prod.fst, apply_ite Prod.snd, apply_ite Done.st, ite_self, implies_true, forall_const, foldl_ticks, State.logPut_ticks, Done.ok, Done.err] | split)

theorem State.modMon_ticks (s : State) (f : Mon → Mon) :
    (State.modMon s f).ticks = s.ticks := by
  unfold State.modMon
  repeat' (first | simp only [apply_ite State.ticks, apply_ite Prod.fst, apply_ite Prod.snd, apply_ite Done.st, ite_self, implies_true, forall_const, foldl_ticks, Done.ok, Done.err] | split)

theorem State.setMonCfg_ticks (s : State) (f : MonCfg → MonCfg) :
    (State.setMonCfg s f).ticks = s.ticks := by
  unfold State.setMonCfg
  repeat' (first | simp only [apply_ite State.ticks, apply_ite Prod.fst, apply_ite Prod.snd, apply_ite Done.st, ite_self, implies_true, forall_const, foldl_ticks, Done.ok, Done.err] | split)

theorem State.modVbat_ticks (s : State) (f : Vbat → Vbat) :
    (State.modVbat s f).ticks = s.ticks := by
  unfold State.modVbat
  repeat' (first | simp only [apply_ite State.ticks, apply_ite Prod.fst, apply_ite Prod.snd, apply_ite Done.st, ite_self, implies_true, forall_const, foldl_ticks, Done.ok, Done.err] | split)

theorem State.faultLevelIs_ticks (s : State) (n : Nat) (on : Bool) :
    (State.faultLevelIs s n on).ticks = s.ticks := by
  unfold State.faultLevelIs
  repeat' (first | simp only [apply_ite State.ticks, apply_ite Prod.fst, apply_ite Prod.snd, apply_ite Done.st, ite_self, implies_true, forall_const, foldl_ticks, State.faultAssert_ticks, State.faultEnd_ticks, Done.ok, Done.err] | split)

theorem specMonQuery_ticks (p : Packet) (s : State) :
    (specMonQuery.body p s).st.ticks = s.ticks := by
  unfold specMonQuery
  repeat' (first | simp only [apply_ite State.ticks, apply_ite Prod.fst, apply_ite Prod.snd, apply_ite Done.st, ite_self, implies_true, forall_const, foldl_ticks, answer, gnsBody, keyBody, pairBody, svcBody, ticBody, answer_ticks, Done.ok, Done.err] | split)

theorem specKeepQuery_ticks (p : Packet) (s : State) :
    (specKeepQuery.body p s).st.ticks = s.ticks := by
  unfold specKeepQuery
  repeat' (first | simp only [apply_ite State.ticks, apply_ite Prod.fst, apply_ite Prod.snd, apply_ite Done.st, ite_self, implies_true, forall_const, foldl_ticks, answer, gnsBody, keyBody, pairBody, svcBody, ticBody, answer_ticks, Done.ok, Done.err] | split)

theorem specCalQuery_ticks (p : Packet) (s : State) :
    (specCalQuery.body p s).st.ticks = s.ticks := by
  unfold specCalQuery
  repeat' (first | simp only [apply_ite State.ticks, apply_ite Prod.fst, apply_ite Prod.snd, apply_ite Done.st, ite_self, implies_true, forall_const, foldl_ticks, answer, gnsBody, keyBody, pairBody, svcBody, ticBody, answer_ticks, Done.ok, Done.err] | split)

theorem specMonSetLimits_ticks (p : Packet) (s : State) :
    (specMonSetLimits.body p s).st.ticks = s.ticks := by
  unfold specMonSetLimits
  repeat' (first | simp only [apply_ite State.ticks, apply_ite Prod.fst, apply_ite Prod.snd, apply_ite Done.st, ite_self, implies_true, forall_const, foldl_ticks, answer, gnsBody, keyBody, pairBody, svcBody, ticBody, Done.ok_ticks, State.setMonCfg_ticks, Done.ok, Done.err] | split)

theorem State.supRead_ticks (s : State) (r : Nat) (mv : BitVec 16) :
    (State.supRead s r mv).ticks = s.ticks := by
  unfold State.supRead
  repeat' (first | simp only [apply_ite State.ticks, apply_ite Prod.fst, apply_ite Prod.snd, apply_ite Done.st, ite_self, implies_true, forall_const, foldl_ticks, State.modMon_ticks, Done.ok, Done.err] | split)

theorem State.vbatLowIs_ticks (s : State) (on : Bool) :
    (State.vbatLowIs s on).ticks = s.ticks := by
  unfold State.vbatLowIs
  repeat' (first | simp only [apply_ite State.ticks, apply_ite Prod.fst, apply_ite Prod.snd, apply_ite Done.st, ite_self, implies_true, forall_const, foldl_ticks, State.faultAssert_ticks, State.faultEnd_ticks, State.modMon_ticks, State.raise_ticks, Done.ok, Done.err] | split)

theorem State.supWarnIs_ticks (s : State) (r : Nat) (on : Bool) :
    (State.supWarnIs s r on).ticks = s.ticks := by
  unfold State.supWarnIs
  repeat' (first | simp only [apply_ite State.ticks, apply_ite Prod.fst, apply_ite Prod.snd, apply_ite Done.st, ite_self, implies_true, forall_const, foldl_ticks, State.faultAssert_ticks, State.faultEnd_ticks, State.modMon_ticks, State.raise_ticks, Done.ok, Done.err] | split)

theorem State.tempRead_ticks (s : State) (c : Nat) (v : BitVec 16) :
    (State.tempRead s c v).ticks = s.ticks := by
  unfold State.tempRead
  repeat' (first | simp only [apply_ite State.ticks, apply_ite Prod.fst, apply_ite Prod.snd, apply_ite Done.st, ite_self, implies_true, forall_const, foldl_ticks, Done.ok_ticks, State.faultAssert_ticks, State.faultEnd_ticks, State.modMon_ticks, State.raise_ticks, Done.ok, Done.err] | split)

theorem State.junction_ticks (s : State) :
    (State.junction s).ticks = s.ticks := by
  unfold State.junction
  repeat' (first | simp only [apply_ite State.ticks, apply_ite Prod.fst, apply_ite Prod.snd, apply_ite Done.st, ite_self, implies_true, forall_const, foldl_ticks, State.faultLevelIs_ticks, Done.ok, Done.err] | split)

theorem State.extTemp_ticks (s : State) :
    (State.extTemp s).ticks = s.ticks := by
  unfold State.extTemp
  repeat' (first | simp only [apply_ite State.ticks, apply_ite Prod.fst, apply_ite Prod.snd, apply_ite Done.st, ite_self, implies_true, forall_const, foldl_ticks, State.faultLevelIs_ticks, State.raise_ticks, Done.ok, Done.err] | split)

theorem State.logPfw_ticks (s : State) :
    (State.logPfw s).ticks = s.ticks := by
  unfold State.logPfw
  repeat' (first | simp only [apply_ite State.ticks, apply_ite Prod.fst, apply_ite Prod.snd, apply_ite Done.st, ite_self, implies_true, forall_const, foldl_ticks, State.checkpoint_ticks, State.logPut_ticks, State.persistHead_ticks, Done.ok, Done.err] | split)

theorem State.pfwAssert_ticks (s : State) :
    (State.pfwAssert s).ticks = s.ticks := by
  unfold State.pfwAssert
  repeat' (first | simp only [apply_ite State.ticks, apply_ite Prod.fst, apply_ite Prod.snd, apply_ite Done.st, ite_self, implies_true, forall_const, foldl_ticks, State.bistAbort_ticks, State.capSuspend_ticks, State.faultAssert_ticks, State.irq_ticks, State.keyPfw_ticks, State.logPfw_ticks, State.modMon_ticks, Done.ok, Done.err] | split)

theorem State.pfwEval_ticks (s : State) (was : Bool) :
    (State.pfwEval s was).ticks = s.ticks := by
  unfold State.pfwEval
  repeat' (first | simp only [apply_ite State.ticks, apply_ite Prod.fst, apply_ite Prod.snd, apply_ite Done.st, ite_self, implies_true, forall_const, foldl_ticks, State.modMon_ticks, State.pfwAssert_ticks, Done.ok, Done.err] | split)

theorem specMonSetMains_ticks (p : Packet) (s : State) :
    (specMonSetMains.body p s).st.ticks = s.ticks := by
  unfold specMonSetMains
  repeat' (first | simp only [apply_ite State.ticks, apply_ite Prod.fst, apply_ite Prod.snd, apply_ite Done.st, ite_self, implies_true, forall_const, foldl_ticks, answer, gnsBody, keyBody, pairBody, svcBody, ticBody, Done.ok_ticks, State.pfwEval_ticks, State.setMonCfg_ticks, Done.ok, Done.err] | split)

theorem State.rangeEval_ticks (s : State) (rms : Nat) (freq : Nat) :
    (State.rangeEval s rms freq).ticks = s.ticks := by
  unfold State.rangeEval
  repeat' (first | simp only [apply_ite State.ticks, apply_ite Prod.fst, apply_ite Prod.snd, apply_ite Done.st, ite_self, implies_true, forall_const, foldl_ticks, State.faultEnd_ticks, State.modMon_ticks, Done.ok, Done.err] | split)

theorem State.mainsPush_ticks (s : State) (rec : List W32) :
    (State.mainsPush s rec).ticks = s.ticks := by
  unfold State.mainsPush
  repeat' (first | simp only [apply_ite State.ticks, apply_ite Prod.fst, apply_ite Prod.snd, apply_ite Done.st, ite_self, implies_true, forall_const, foldl_ticks, State.irq_ticks, State.modMon_ticks, Done.ok, Done.err] | split)

theorem State.scrubStart_ticks (s : State) :
    (State.scrubStart s).ticks = s.ticks := by
  unfold State.scrubStart
  repeat' (first | simp only [apply_ite State.ticks, apply_ite Prod.fst, apply_ite Prod.snd, apply_ite Done.st, ite_self, implies_true, forall_const, foldl_ticks, Done.ok, Done.err] | split)

theorem specKeepScrub_ticks (p : Packet) (s : State) :
    (specKeepScrub.body p s).st.ticks = s.ticks := by
  unfold specKeepScrub
  repeat' (first | simp only [apply_ite State.ticks, apply_ite Prod.fst, apply_ite Prod.snd, apply_ite Done.st, ite_self, implies_true, forall_const, foldl_ticks, answer, gnsBody, keyBody, pairBody, svcBody, ticBody, Done.err_ticks, Done.ok_ticks, State.scrubStart_ticks, Done.ok, Done.err] | split)

theorem State.spareFails_ticks (s : State) (i : BitVec 7) :
    (State.spareFails s i).ticks = s.ticks := by
  unfold State.spareFails
  repeat' (first | simp only [apply_ite State.ticks, apply_ite Prod.fst, apply_ite Prod.snd, apply_ite Done.st, ite_self, implies_true, forall_const, foldl_ticks, State.keepSpareTold_ticks, Done.ok, Done.err] | split)

theorem State.calSetValid_ticks (s : State) :
    (State.calSetValid s).ticks = s.ticks := by
  unfold State.calSetValid
  repeat' (first | simp only [apply_ite State.ticks, apply_ite Prod.fst, apply_ite Prod.snd, apply_ite Done.st, ite_self, implies_true, forall_const, foldl_ticks, State.faultEnd_ticks, State.modVbat_ticks, Done.ok, Done.err] | split)

theorem specCalSetTime_ticks (p : Packet) (s : State) :
    (specCalSetTime.body p s).st.ticks = s.ticks := by
  unfold specCalSetTime
  repeat' (first | simp only [apply_ite State.ticks, apply_ite Prod.fst, apply_ite Prod.snd, apply_ite Done.st, ite_self, implies_true, forall_const, foldl_ticks, answer, gnsBody, keyBody, pairBody, svcBody, ticBody, Done.err_ticks, Done.ok_ticks, State.calSetValid_ticks, State.modVbat_ticks, State.syncRun_ticks, Done.ok, Done.err] | split)

theorem specCalSetTrim_ticks (p : Packet) (s : State) :
    (specCalSetTrim.body p s).st.ticks = s.ticks := by
  unfold specCalSetTrim
  repeat' (first | simp only [apply_ite State.ticks, apply_ite Prod.fst, apply_ite Prod.snd, apply_ite Done.st, ite_self, implies_true, forall_const, foldl_ticks, answer, gnsBody, keyBody, pairBody, svcBody, ticBody, Done.ok_ticks, State.calRebase_ticks, Done.ok, Done.err] | split)

theorem specCalSetTamper_ticks (p : Packet) (s : State) :
    (specCalSetTamper.body p s).st.ticks = s.ticks := by
  unfold specCalSetTamper
  repeat' (first | simp only [apply_ite State.ticks, apply_ite Prod.fst, apply_ite Prod.snd, apply_ite Done.st, ite_self, implies_true, forall_const, foldl_ticks, answer, gnsBody, keyBody, pairBody, svcBody, ticBody, Done.ok_ticks, State.modVbat_ticks, Done.ok, Done.err] | split)

theorem State.hold_ticks (s : State) (cause : Nat) (cold : Bool) :
    (State.hold s cause cold).ticks = s.ticks := by
  unfold State.hold
  repeat' (first | simp only [apply_ite State.ticks, apply_ite Prod.fst, apply_ite Prod.snd, apply_ite Done.st, ite_self, implies_true, forall_const, foldl_ticks, State.toReset_ticks, Done.ok, Done.err] | split)

theorem State.imageCheck_ticks (s : State) :
    (State.imageCheck s).ticks = s.ticks := by
  unfold State.imageCheck
  repeat' (first | simp only [apply_ite State.ticks, apply_ite Prod.fst, apply_ite Prod.snd, apply_ite Done.st, ite_self, implies_true, forall_const, foldl_ticks, State.raise_ticks, Done.ok, Done.err] | split)

theorem State.keepRestore_ticks (s : State) (r : KeepRead) :
    (State.keepRestore s r).ticks = s.ticks := by
  unfold State.keepRestore
  repeat' (first | simp only [apply_ite State.ticks, apply_ite Prod.fst, apply_ite Prod.snd, apply_ite Done.st, ite_self, implies_true, forall_const, foldl_ticks, Done.ok, Done.err] | split)

theorem State.bootTamper_ticks (s : State) (n : Nat) :
    (State.bootTamper s n).ticks = s.ticks := by
  unfold State.bootTamper
  repeat' (first | simp only [apply_ite State.ticks, apply_ite Prod.fst, apply_ite Prod.snd, apply_ite Done.st, ite_self, implies_true, forall_const, foldl_ticks, State.latch_ticks, State.tamper_ticks, State.zeroRoots_ticks, Done.ok, Done.err] | split)

theorem State.unseal_ticks (s : State) :
    (State.unseal s).ticks = s.ticks := by
  unfold State.unseal
  repeat' (first | simp only [apply_ite State.ticks, apply_ite Prod.fst, apply_ite Prod.snd, apply_ite Done.st, ite_self, implies_true, forall_const, foldl_ticks, State.deriveProduction_ticks, State.deriveTest_ticks, State.deriveUds_ticks, Done.ok, Done.err] | split)

theorem State.logTakeUp_ticks (s : State) :
    (State.logTakeUp s).1.ticks = s.ticks := by
  unfold State.logTakeUp
  repeat' (first | simp only [apply_ite State.ticks, apply_ite Prod.fst, apply_ite Prod.snd, apply_ite Done.st, ite_self, implies_true, forall_const, foldl_ticks, State.logRaw_ticks, Done.ok, Done.err] | split)

theorem State.logOpen_ticks (s : State) :
    (State.logOpen s).ticks = s.ticks := by
  unfold State.logOpen
  repeat' (first | simp only [apply_ite State.ticks, apply_ite Prod.fst, apply_ite Prod.snd, apply_ite Done.st, ite_self, implies_true, forall_const, foldl_ticks, State.logPut_ticks, State.logTakeUp_ticks, Done.ok, Done.err] | split)

theorem State.armFaults_ticks (s : State) :
    (State.armFaults s).ticks = s.ticks := by
  unfold State.armFaults
  repeat' (first | simp only [apply_ite State.ticks, apply_ite Prod.fst, apply_ite Prod.snd, apply_ite Done.st, ite_self, implies_true, forall_const, foldl_ticks, State.extTemp_ticks, State.faultAssert_ticks, State.junction_ticks, State.keepUncorr_ticks, State.raise_ticks, Done.ok, Done.err] | split)

theorem State.initBlocks_ticks (s : State) :
    (State.initBlocks s).ticks = s.ticks := by
  unfold State.initBlocks
  repeat' (first | simp only [apply_ite State.ticks, apply_ite Prod.fst, apply_ite Prod.snd, apply_ite Done.st, ite_self, implies_true, forall_const, foldl_ticks, State.powerUp_ticks, State.react_ticks, State.refStart_ticks, State.setRole_ticks, Done.ok, Done.err] | split)

theorem State.bootDone_ticks (s : State) (keep : KeepRead) :
    (State.bootDone s keep).ticks = s.ticks := by
  unfold State.bootDone
  repeat' (first | simp only [apply_ite State.ticks, apply_ite Prod.fst, apply_ite Prod.snd, apply_ite Done.st, ite_self, implies_true, forall_const, foldl_ticks, Done.ok_ticks, State.armFaults_ticks, State.bootTamper_ticks, State.drainWait_ticks, State.drawn_ticks, State.epochRegs_ticks, State.initBlocks_ticks, State.irq_ticks, State.keepRestore_ticks, State.logOpen_ticks, State.newChallenge_ticks, State.raise_ticks, State.reinstallLsk_ticks, State.unseal_ticks, Done.ok, Done.err] | split)

theorem specSysQueryCounters_ticks (p : Packet) (s : State) :
    (specSysQueryCounters.body p s).st.ticks = s.ticks := by
  unfold specSysQueryCounters
  repeat' (first | simp only [apply_ite State.ticks, apply_ite Prod.fst, apply_ite Prod.snd, apply_ite Done.st, ite_self, implies_true, forall_const, foldl_ticks, answer, gnsBody, keyBody, pairBody, svcBody, ticBody, answer_ticks, Done.ok, Done.err] | split)

theorem specSysEcho_ticks (p : Packet) (s : State) :
    (specSysEcho.body p s).st.ticks = s.ticks := by
  unfold specSysEcho
  repeat' (first | simp only [apply_ite State.ticks, apply_ite Prod.fst, apply_ite Prod.snd, apply_ite Done.st, ite_self, implies_true, forall_const, foldl_ticks, answer, gnsBody, keyBody, pairBody, svcBody, ticBody, answer_ticks, Done.ok, Done.err] | split)

theorem State.modMbx_ticks (s : State) (n : Nat) (f : Mbx → Mbx) :
    (State.modMbx s n f).ticks = s.ticks := by
  unfold State.modMbx
  repeat' (first | simp only [apply_ite State.ticks, apply_ite Prod.fst, apply_ite Prod.snd, apply_ite Done.st, ite_self, implies_true, forall_const, foldl_ticks, Done.ok, Done.err] | split)

theorem specSysSetMbxRoute_ticks (p : Packet) (s : State) :
    (specSysSetMbxRoute.body p s).st.ticks = s.ticks := by
  unfold specSysSetMbxRoute
  repeat' (first | simp only [apply_ite State.ticks, apply_ite Prod.fst, apply_ite Prod.snd, apply_ite Done.st, ite_self, implies_true, forall_const, foldl_ticks, answer, gnsBody, keyBody, pairBody, svcBody, ticBody, Done.err_ticks, Done.ok_ticks, State.modMbx_ticks, Done.ok, Done.err] | split)

theorem specSysSetSemCfg_ticks (p : Packet) (s : State) :
    (specSysSetSemCfg.body p s).st.ticks = s.ticks := by
  unfold specSysSetSemCfg
  repeat' (first | simp only [apply_ite State.ticks, apply_ite Prod.fst, apply_ite Prod.snd, apply_ite Done.st, ite_self, implies_true, forall_const, foldl_ticks, answer, gnsBody, keyBody, pairBody, svcBody, ticBody, Done.ok_ticks, Done.ok, Done.err] | split)

theorem State.semPut_ticks (s : State) (i : Nat) (holder : Option (BitVec 4)) :
    (State.semPut s i holder).ticks = s.ticks := by
  unfold State.semPut
  repeat' (first | simp only [apply_ite State.ticks, apply_ite Prod.fst, apply_ite Prod.snd, apply_ite Done.st, ite_self, implies_true, forall_const, foldl_ticks, Done.ok, Done.err] | split)

theorem specSysSemForce_ticks (p : Packet) (s : State) :
    (specSysSemForce.body p s).st.ticks = s.ticks := by
  unfold specSysSemForce
  repeat' (first | simp only [apply_ite State.ticks, apply_ite Prod.fst, apply_ite Prod.snd, apply_ite Done.st, ite_self, implies_true, forall_const, foldl_ticks, answer, gnsBody, keyBody, pairBody, svcBody, ticBody, Done.ok_ticks, State.raise_ticks, State.semPut_ticks, Done.ok, Done.err] | split)

theorem State.modRing_ticks (s : State) (n : Nat) (f : Ring → Ring) :
    (State.modRing s n f).ticks = s.ticks := by
  unfold State.modRing
  repeat' (first | simp only [apply_ite State.ticks, apply_ite Prod.fst, apply_ite Prod.snd, apply_ite Done.st, ite_self, implies_true, forall_const, foldl_ticks, Done.ok, Done.err] | split)

theorem specSysRingConfig_ticks (p : Packet) (s : State) :
    (specSysRingConfig.body p s).st.ticks = s.ticks := by
  unfold specSysRingConfig
  repeat' (first | simp only [apply_ite State.ticks, apply_ite Prod.fst, apply_ite Prod.snd, apply_ite Done.st, ite_self, implies_true, forall_const, foldl_ticks, answer, gnsBody, keyBody, pairBody, svcBody, ticBody, Done.err_ticks, Done.ok_ticks, State.modRing_ticks, Done.ok, Done.err] | split)

theorem State.ringEnable_ticks (s : State) (n : Nat) (on : Bool) :
    (State.ringEnable s n on).ticks = s.ticks := by
  unfold State.ringEnable
  repeat' (first | simp only [apply_ite State.ticks, apply_ite Prod.fst, apply_ite Prod.snd, apply_ite Done.st, ite_self, implies_true, forall_const, foldl_ticks, State.modRing_ticks, State.orphanTx_ticks, Done.ok, Done.err] | split)

theorem State.ringsEnable_ticks (s : State) (affected : BitVec 64) (values : BitVec 64) :
    (State.ringsEnable s affected values).ticks = s.ticks := by
  unfold State.ringsEnable
  repeat' (first | simp only [apply_ite State.ticks, apply_ite Prod.fst, apply_ite Prod.snd, apply_ite Done.st, ite_self, implies_true, forall_const, foldl_ticks, State.ringEnable_ticks, Done.ok, Done.err] | split)

theorem specSysRingEnable_ticks (p : Packet) (s : State) :
    (specSysRingEnable.body p s).st.ticks = s.ticks := by
  unfold specSysRingEnable
  repeat' (first | simp only [apply_ite State.ticks, apply_ite Prod.fst, apply_ite Prod.snd, apply_ite Done.st, ite_self, implies_true, forall_const, foldl_ticks, answer, gnsBody, keyBody, pairBody, svcBody, ticBody, Done.err_ticks, Done.ok_ticks, State.ringsEnable_ticks, Done.ok, Done.err] | split)

theorem specSysIntRoute_ticks (p : Packet) (s : State) :
    (specSysIntRoute.body p s).st.ticks = s.ticks := by
  unfold specSysIntRoute
  repeat' (first | simp only [apply_ite State.ticks, apply_ite Prod.fst, apply_ite Prod.snd, apply_ite Done.st, ite_self, implies_true, forall_const, foldl_ticks, answer, gnsBody, keyBody, pairBody, svcBody, ticBody, Done.ok_ticks, Done.ok, Done.err] | split)

theorem specSysCancel_ticks (p : Packet) (s : State) :
    (specSysCancel.body p s).st.ticks = s.ticks := by
  unfold specSysCancel
  repeat' (first | simp only [apply_ite State.ticks, apply_ite Prod.fst, apply_ite Prod.snd, apply_ite Done.st, ite_self, implies_true, forall_const, foldl_ticks, answer, gnsBody, keyBody, pairBody, svcBody, ticBody, Done.err_ticks, Done.ok_ticks, State.countStatus_ticks, State.reply_ticks, Done.ok, Done.err] | split)

theorem specGnsQueryStatus_ticks (p : Packet) (s : State) :
    (specGnsQueryStatus.body p s).st.ticks = s.ticks := by
  unfold specGnsQueryStatus
  repeat' (first | simp only [apply_ite State.ticks, apply_ite Prod.fst, apply_ite Prod.snd, apply_ite Done.st, ite_self, implies_true, forall_const, foldl_ticks, answer, gnsBody, keyBody, pairBody, svcBody, ticBody, answer_ticks, Done.ok, Done.err] | split)

theorem specGnsQuerySolution_ticks (p : Packet) (s : State) :
    (specGnsQuerySolution.body p s).st.ticks = s.ticks := by
  unfold specGnsQuerySolution
  repeat' (first | simp only [apply_ite State.ticks, apply_ite Prod.fst, apply_ite Prod.snd, apply_ite Done.st, ite_self, implies_true, forall_const, foldl_ticks, answer, gnsBody, keyBody, pairBody, svcBody, ticBody, answer_ticks, Done.ok, Done.err] | split)

theorem specGnsSetPort_ticks (p : Packet) (s : State) :
    (specGnsSetPort.body p s).st.ticks = s.ticks := by
  unfold specGnsSetPort
  repeat' (first | simp only [apply_ite State.ticks, apply_ite Prod.fst, apply_ite Prod.snd, apply_ite Done.st, ite_self, implies_true, forall_const, foldl_ticks, answer, gnsBody, keyBody, pairBody, svcBody, ticBody, Done.err_ticks, Done.ok_ticks, State.gnsEval_ticks, State.setGnsCfg_ticks, Done.ok, Done.err] | split)

theorem specGnsSetNotch_ticks (p : Packet) (s : State) :
    (specGnsSetNotch.body p s).st.ticks = s.ticks := by
  unfold specGnsSetNotch
  repeat' (first | simp only [apply_ite State.ticks, apply_ite Prod.fst, apply_ite Prod.snd, apply_ite Done.st, ite_self, implies_true, forall_const, foldl_ticks, answer, gnsBody, keyBody, pairBody, svcBody, ticBody, Done.ok_ticks, State.drawn_ticks, State.setGnsCfg_ticks, Done.ok, Done.err] | split)

theorem specGnsSetLatch_ticks (p : Packet) (s : State) :
    (specGnsSetLatch.body p s).st.ticks = s.ticks := by
  unfold specGnsSetLatch
  repeat' (first | simp only [apply_ite State.ticks, apply_ite Prod.fst, apply_ite Prod.snd, apply_ite Done.st, ite_self, implies_true, forall_const, foldl_ticks, answer, gnsBody, keyBody, pairBody, svcBody, ticBody, Done.ok_ticks, State.setGnsCfg_ticks, Done.ok, Done.err] | split)

theorem specGnsSetAntenna_ticks (p : Packet) (s : State) :
    (specGnsSetAntenna.body p s).st.ticks = s.ticks := by
  unfold specGnsSetAntenna
  repeat' (first | simp only [apply_ite State.ticks, apply_ite Prod.fst, apply_ite Prod.snd, apply_ite Done.st, ite_self, implies_true, forall_const, foldl_ticks, answer, gnsBody, keyBody, pairBody, svcBody, ticBody, Done.ok_ticks, State.gnsEval_ticks, State.raise_ticks, State.setGnsCfg_ticks, Done.ok, Done.err] | split)

theorem specGnsSetCheck_ticks (p : Packet) (s : State) :
    (specGnsSetCheck.body p s).st.ticks = s.ticks := by
  unfold specGnsSetCheck
  repeat' (first | simp only [apply_ite State.ticks, apply_ite Prod.fst, apply_ite Prod.snd, apply_ite Done.st, ite_self, implies_true, forall_const, foldl_ticks, answer, gnsBody, keyBody, pairBody, svcBody, ticBody, Done.ok_ticks, State.anchorByHand_ticks, State.gnsEval_ticks, State.setGnsCfg_ticks, Done.ok, Done.err] | split)

theorem specGnsSpareBank_ticks (p : Packet) (s : State) :
    (specGnsSpareBank.body p s).st.ticks = s.ticks := by
  unfold specGnsSpareBank
  repeat' (first | simp only [apply_ite State.ticks, apply_ite Prod.fst, apply_ite Prod.snd, apply_ite Done.st, ite_self, implies_true, forall_const, foldl_ticks, answer, gnsBody, keyBody, pairBody, svcBody, ticBody, Done.ok_ticks, State.bankPool_ticks, State.faultAssert_ticks, State.mapBank_ticks, State.setGnsCfg_ticks, Done.ok, Done.err] | split)

theorem specGnsAcquire_ticks (p : Packet) (s : State) :
    (specGnsAcquire.body p s).st.ticks = s.ticks := by
  unfold specGnsAcquire
  repeat' (first | simp only [apply_ite State.ticks, apply_ite Prod.fst, apply_ite Prod.snd, apply_ite Done.st, ite_self, implies_true, forall_const, foldl_ticks, answer, gnsBody, keyBody, pairBody, svcBody, ticBody, Done.err_ticks, Done.ok_ticks, Done.ok, Done.err] | split)

theorem State.acqEnd_ticks (s : State) (ok : Bool) (detected : Nat) :
    (State.acqEnd s ok detected).ticks = s.ticks := by
  unfold State.acqEnd
  repeat' (first | simp only [apply_ite State.ticks, apply_ite Prod.fst, apply_ite Prod.snd, apply_ite Done.st, ite_self, implies_true, forall_const, foldl_ticks, Done.ok_ticks, State.irq_ticks, Done.ok, Done.err] | split)

theorem State.acqLast_ticks (s : State) (a : AcqRun) :
    (State.acqLast s a).ticks = s.ticks := by
  unfold State.acqLast
  repeat' (first | simp only [apply_ite State.ticks, apply_ite Prod.fst, apply_ite Prod.snd, apply_ite Done.st, ite_self, implies_true, forall_const, foldl_ticks, State.acqEnd_ticks, Done.ok, Done.err] | split)

theorem specGnsTrack_ticks (p : Packet) (s : State) :
    (specGnsTrack.body p s).st.ticks = s.ticks := by
  unfold specGnsTrack
  repeat' (first | simp only [apply_ite State.ticks, apply_ite Prod.fst, apply_ite Prod.snd, apply_ite Done.st, ite_self, implies_true, forall_const, foldl_ticks, answer, gnsBody, keyBody, pairBody, svcBody, ticBody, Done.err_ticks, Done.ok_ticks, Done.ok, Done.err] | split)

theorem specGnsRelease_ticks (p : Packet) (s : State) :
    (specGnsRelease.body p s).st.ticks = s.ticks := by
  unfold specGnsRelease
  repeat' (first | simp only [apply_ite State.ticks, apply_ite Prod.fst, apply_ite Prod.snd, apply_ite Done.st, ite_self, implies_true, forall_const, foldl_ticks, answer, gnsBody, keyBody, pairBody, svcBody, ticBody, Done.ok_ticks, Done.ok, Done.err] | split)

theorem State.gnsRefuse_ticks (s : State) :
    (State.gnsRefuse s).ticks = s.ticks := by
  unfold State.gnsRefuse
  repeat' (first | simp only [apply_ite State.ticks, apply_ite Prod.fst, apply_ite Prod.snd, apply_ite Done.st, ite_self, implies_true, forall_const, foldl_ticks, State.refuseWrite_ticks, Done.ok, Done.err] | split)

theorem State.gnsEngineDo_ticks (s : State) (m : BitVec 4) (f : State → State) (h : (f s).ticks = s.ticks) :
    (s.gnsEngineDo m f).ticks = s.ticks := by
  unfold State.gnsEngineDo
  split
  · exact h
  · rw [State.gnsRefuse_ticks]

theorem State.navPut_ticks (s : State) (k : Nat) (w : W32) (ago : Nat) :
    (State.navPut s k w ago).ticks = s.ticks := by
  unfold State.navPut
  repeat' (first | simp only [apply_ite State.ticks, apply_ite Prod.fst, apply_ite Prod.snd, apply_ite Done.st, ite_self, implies_true, forall_const, foldl_ticks, State.irq_ticks, Done.ok, Done.err] | split)

theorem State.solTell_ticks (s : State) (v : Bool) (turns : Bool) (snap : Bool) :
    (State.solTell s v turns snap).ticks = s.ticks := by
  unfold State.solTell
  repeat' (first | simp only [apply_ite State.ticks, apply_ite Prod.fst, apply_ite Prod.snd, apply_ite Done.st, ite_self, implies_true, forall_const, foldl_ticks, State.logPut_ticks, State.raise_ticks, Done.ok, Done.err] | split)

theorem State.solStore_ticks (s : State) (valid : Bool) (nsv : BitVec 6) (snap : Bool) (offset : BitVec 64) (unc : BitVec 24) :
    (State.solStore s valid nsv snap offset unc).ticks = s.ticks := by
  unfold State.solStore
  repeat' (first | simp only [apply_ite State.ticks, apply_ite Prod.fst, apply_ite Prod.snd, apply_ite Done.st, ite_self, implies_true, forall_const, foldl_ticks, State.solTell_ticks, Done.ok, Done.err] | split)

theorem State.solUse_ticks (s : State) :
    (State.solUse s).ticks = s.ticks := by
  unfold State.solUse
  repeat' (first | simp only [apply_ite State.ticks, apply_ite Prod.fst, apply_ite Prod.snd, apply_ite Done.st, ite_self, implies_true, forall_const, foldl_ticks, State.anchorByHand_ticks, State.anchorStep_ticks, State.crossCheck_ticks, State.gnsEval_ticks, State.refDeliver_ticks, State.spoofEb_ticks, Done.ok, Done.err] | split)

theorem State.notchAt_ticks (s : State) (m : Nat) (khz : BitVec 24) :
    (State.notchAt s m khz).ticks = s.ticks := by
  unfold State.notchAt
  repeat' (first | simp only [apply_ite State.ticks, apply_ite Prod.fst, apply_ite Prod.snd, apply_ite Done.st, ite_self, implies_true, forall_const, foldl_ticks, Done.ok, Done.err] | split)

theorem State.latchTake_ticks (s : State) (t : Stamp) :
    (State.latchTake s t).ticks = s.ticks := by
  unfold State.latchTake
  repeat' (first | simp only [apply_ite State.ticks, apply_ite Prod.fst, apply_ite Prod.snd, apply_ite Done.st, ite_self, implies_true, forall_const, foldl_ticks, State.gnsHist_ticks, State.irq_ticks, Done.ok, Done.err] | split)

theorem specGnsSnapshot_ticks (p : Packet) (s : State) :
    (specGnsSnapshot.body p s).st.ticks = s.ticks := by
  unfold specGnsSnapshot
  repeat' (first | simp only [apply_ite State.ticks, apply_ite Prod.fst, apply_ite Prod.snd, apply_ite Done.st, ite_self, implies_true, forall_const, foldl_ticks, answer, gnsBody, keyBody, pairBody, svcBody, ticBody, Done.err_ticks, Done.ok_ticks, Done.ok, Done.err] | split)

theorem State.snapEnd_ticks (s : State) (ok : Bool) :
    (State.snapEnd s ok).ticks = s.ticks := by
  unfold State.snapEnd
  repeat' (first | simp only [apply_ite State.ticks, apply_ite Prod.fst, apply_ite Prod.snd, apply_ite Done.st, ite_self, implies_true, forall_const, foldl_ticks, Done.ok_ticks, State.irq_ticks, Done.ok, Done.err] | split)

theorem State.snapWait_ticks (s : State) :
    (State.snapWait s).ticks = s.ticks := by
  unfold State.snapWait
  repeat' (first | simp only [apply_ite State.ticks, apply_ite Prod.fst, apply_ite Prod.snd, apply_ite Done.st, ite_self, implies_true, forall_const, foldl_ticks, State.irq_ticks, Done.ok, Done.err] | split)

theorem specOutQueryStatus_ticks (p : Packet) (s : State) :
    (specOutQueryStatus.body p s).st.ticks = s.ticks := by
  unfold specOutQueryStatus
  repeat' (first | simp only [apply_ite State.ticks, apply_ite Prod.fst, apply_ite Prod.snd, apply_ite Done.st, ite_self, implies_true, forall_const, foldl_ticks, answer, gnsBody, keyBody, pairBody, svcBody, ticBody, answer_ticks, Done.ok, Done.err] | split)

theorem specOutQueryEcho_ticks (p : Packet) (s : State) :
    (specOutQueryEcho.body p s).st.ticks = s.ticks := by
  unfold specOutQueryEcho
  repeat' (first | simp only [apply_ite State.ticks, apply_ite Prod.fst, apply_ite Prod.snd, apply_ite Done.st, ite_self, implies_true, forall_const, foldl_ticks, answer, gnsBody, keyBody, pairBody, svcBody, ticBody, answer_ticks, Done.ok, Done.err] | split)

theorem specOutSetSyn_ticks (p : Packet) (s : State) :
    (specOutSetSyn.body p s).st.ticks = s.ticks := by
  unfold specOutSetSyn
  repeat' (first | simp only [apply_ite State.ticks, apply_ite Prod.fst, apply_ite Prod.snd, apply_ite Done.st, ite_self, implies_true, forall_const, foldl_ticks, answer, gnsBody, keyBody, pairBody, svcBody, ticBody, Done.err_ticks, Done.ok_ticks, State.modSyn_ticks, State.setOutCfg_ticks, State.synClear_ticks, Done.ok, Done.err] | split)

theorem specOutSetOutput_ticks (p : Packet) (s : State) :
    (specOutSetOutput.body p s).st.ticks = s.ticks := by
  unfold specOutSetOutput
  repeat' (first | simp only [apply_ite State.ticks, apply_ite Prod.fst, apply_ite Prod.snd, apply_ite Done.st, ite_self, implies_true, forall_const, foldl_ticks, answer, gnsBody, keyBody, pairBody, svcBody, ticBody, Done.err_ticks, Done.ok_ticks, State.glide_ticks, State.modOch_ticks, State.outEval_ticks, State.setOutCfg_ticks, Done.ok, Done.err] | split)

theorem specOutSync_ticks (p : Packet) (s : State) :
    (specOutSync.body p s).st.ticks = s.ticks := by
  unfold specOutSync
  repeat' (first | simp only [apply_ite State.ticks, apply_ite Prod.fst, apply_ite Prod.snd, apply_ite Done.st, ite_self, implies_true, forall_const, foldl_ticks, answer, gnsBody, keyBody, pairBody, svcBody, ticBody, Done.err_ticks, Done.ok_ticks, State.modOch_ticks, Done.ok, Done.err] | split)

theorem specOutSetTp_ticks (p : Packet) (s : State) :
    (specOutSetTp.body p s).st.ticks = s.ticks := by
  unfold specOutSetTp
  repeat' (first | simp only [apply_ite State.ticks, apply_ite Prod.fst, apply_ite Prod.snd, apply_ite Done.st, ite_self, implies_true, forall_const, foldl_ticks, answer, gnsBody, keyBody, pairBody, svcBody, ticBody, Done.err_ticks, Done.ok_ticks, State.outEval_ticks, State.setOutCfg_ticks, Done.ok, Done.err] | split)

theorem specOutSetTod_ticks (p : Packet) (s : State) :
    (specOutSetTod.body p s).st.ticks = s.ticks := by
  unfold specOutSetTod
  repeat' (first | simp only [apply_ite State.ticks, apply_ite Prod.fst, apply_ite Prod.snd, apply_ite Done.st, ite_self, implies_true, forall_const, foldl_ticks, answer, gnsBody, keyBody, pairBody, svcBody, ticBody, Done.ok_ticks, State.outEval_ticks, State.setOutCfg_ticks, Done.ok, Done.err] | split)

theorem specOutSetDelay_ticks (p : Packet) (s : State) :
    (specOutSetDelay.body p s).st.ticks = s.ticks := by
  unfold specOutSetDelay
  repeat' (first | simp only [apply_ite State.ticks, apply_ite Prod.fst, apply_ite Prod.snd, apply_ite Done.st, ite_self, implies_true, forall_const, foldl_ticks, answer, gnsBody, keyBody, pairBody, svcBody, ticBody, Done.ok_ticks, State.setDelay_ticks, Done.ok, Done.err] | split)

theorem State.alignClear_ticks (s : State) :
    (State.alignClear s).ticks = s.ticks := by
  unfold State.alignClear
  repeat' (first | simp only [apply_ite State.ticks, apply_ite Prod.fst, apply_ite Prod.snd, apply_ite Done.st, ite_self, implies_true, forall_const, foldl_ticks, State.faultEnd_ticks, Done.ok, Done.err] | split)

theorem State.outEnable_ticks (s : State) (t : Nat) (on : Bool) :
    (State.outEnable s t on).ticks = s.ticks := by
  unfold State.outEnable
  repeat' (first | simp only [apply_ite State.ticks, apply_ite Prod.fst, apply_ite Prod.snd, apply_ite Done.st, ite_self, implies_true, forall_const, foldl_ticks, State.hold_ticks, State.modOch_ticks, State.setOutCfg_ticks, Done.ok, Done.err] | split)

theorem specOutEnable_ticks (p : Packet) (s : State) :
    (specOutEnable.body p s).st.ticks = s.ticks := by
  unfold specOutEnable
  repeat' (first | simp only [apply_ite State.ticks, apply_ite Prod.fst, apply_ite Prod.snd, apply_ite Done.st, ite_self, implies_true, forall_const, foldl_ticks, answer, gnsBody, keyBody, pairBody, svcBody, ticBody, Done.ok_ticks, State.alignClear_ticks, State.outEnable_ticks, State.outEval_ticks, State.pairEval_ticks, Done.ok, Done.err] | split)

theorem State.echoHold_ticks (s : State) (t : Nat) :
    (State.echoHold s t).ticks = s.ticks := by
  unfold State.echoHold
  repeat' (first | simp only [apply_ite State.ticks, apply_ite Prod.fst, apply_ite Prod.snd, apply_ite Done.st, ite_self, implies_true, forall_const, foldl_ticks, State.hold_ticks, State.modOch_ticks, State.modOtp_ticks, Done.ok, Done.err] | split)

theorem specOutEchoMeasure_ticks (p : Packet) (s : State) :
    (specOutEchoMeasure.body p s).st.ticks = s.ticks := by
  unfold specOutEchoMeasure
  repeat' (first | simp only [apply_ite State.ticks, apply_ite Prod.fst, apply_ite Prod.snd, apply_ite Done.st, ite_self, implies_true, forall_const, foldl_ticks, answer, gnsBody, keyBody, pairBody, svcBody, ticBody, Done.err_ticks, Done.ok_ticks, State.echoHold_ticks, State.ivAbort_ticks, State.modTch_ticks, Done.ok, Done.err] | split)

theorem State.echoResult_ticks (s : State) (r : EchoRun) (good : Nat) (meanFs : Nat) (sigma : Nat) :
    (State.echoResult s r good meanFs sigma).ticks = s.ticks := by
  unfold State.echoResult
  repeat' (first | simp only [apply_ite State.ticks, apply_ite Prod.fst, apply_ite Prod.snd, apply_ite Done.st, ite_self, implies_true, forall_const, foldl_ticks, State.echoFree_ticks, State.echoRelease_ticks, State.keepOwn_ticks, State.outRaise_ticks, State.setDelay_ticks, Done.ok, Done.err] | split)

theorem specRefQuerySlot_ticks (p : Packet) (s : State) :
    (specRefQuerySlot.body p s).st.ticks = s.ticks := by
  unfold specRefQuerySlot
  repeat' (first | simp only [apply_ite State.ticks, apply_ite Prod.fst, apply_ite Prod.snd, apply_ite Done.st, ite_self, implies_true, forall_const, foldl_ticks, answer, gnsBody, keyBody, pairBody, svcBody, ticBody, answer_ticks, Done.ok, Done.err] | split)

theorem specRefQueryMatrix_ticks (p : Packet) (s : State) :
    (specRefQueryMatrix.body p s).st.ticks = s.ticks := by
  unfold specRefQueryMatrix
  repeat' (first | simp only [apply_ite State.ticks, apply_ite Prod.fst, apply_ite Prod.snd, apply_ite Done.st, ite_self, implies_true, forall_const, foldl_ticks, answer, gnsBody, keyBody, pairBody, svcBody, ticBody, answer_ticks, Done.ok, Done.err] | split)

theorem specRefQueryHistory_ticks (p : Packet) (s : State) :
    (specRefQueryHistory.body p s).st.ticks = s.ticks := by
  unfold specRefQueryHistory
  repeat' (first | simp only [apply_ite State.ticks, apply_ite Prod.fst, apply_ite Prod.snd, apply_ite Done.st, ite_self, implies_true, forall_const, foldl_ticks, answer, gnsBody, keyBody, pairBody, svcBody, ticBody, answer_ticks, Done.ok, Done.err] | split)

theorem State.setSlotCfg_ticks (s : State) (n : Nat) (f : RefSlotCfg → RefSlotCfg) :
    (State.setSlotCfg s n f).ticks = s.ticks := by
  unfold State.setSlotCfg
  repeat' (first | simp only [apply_ite State.ticks, apply_ite Prod.fst, apply_ite Prod.snd, apply_ite Done.st, ite_self, implies_true, forall_const, foldl_ticks, Done.ok, Done.err] | split)

theorem specRefSetSlot_ticks (p : Packet) (s : State) :
    (specRefSetSlot.body p s).st.ticks = s.ticks := by
  unfold specRefSetSlot
  repeat' (first | simp only [apply_ite State.ticks, apply_ite Prod.fst, apply_ite Prod.snd, apply_ite Done.st, ite_self, implies_true, forall_const, foldl_ticks, answer, gnsBody, keyBody, pairBody, svcBody, ticBody, Done.err_ticks, Done.ok_ticks, State.refAbsent_ticks, State.setSlotCfg_ticks, Done.ok, Done.err] | split)

theorem specRefSetQual_ticks (p : Packet) (s : State) :
    (specRefSetQual.body p s).st.ticks = s.ticks := by
  unfold specRefSetQual
  repeat' (first | simp only [apply_ite State.ticks, apply_ite Prod.fst, apply_ite Prod.snd, apply_ite Done.st, ite_self, implies_true, forall_const, foldl_ticks, answer, gnsBody, keyBody, pairBody, svcBody, ticBody, Done.ok_ticks, State.setSlotCfg_ticks, Done.ok, Done.err] | split)

theorem State.holdoffOut_ticks (s : State) (n : Nat) :
    (State.holdoffOut s n).ticks = s.ticks := by
  unfold State.holdoffOut
  repeat' (first | simp only [apply_ite State.ticks, apply_ite Prod.fst, apply_ite Prod.snd, apply_ite Done.st, ite_self, implies_true, forall_const, foldl_ticks, State.majRefresh_ticks, State.qMove_ticks, State.refSelect_ticks, State.refTimerOff_ticks, Done.ok, Done.err] | split)

theorem State.waitOut_ticks (s : State) (n : Nat) :
    (State.waitOut s n).ticks = s.ticks := by
  unfold State.waitOut
  repeat' (first | simp only [apply_ite State.ticks, apply_ite Prod.fst, apply_ite Prod.snd, apply_ite Done.st, ite_self, implies_true, forall_const, foldl_ticks, State.majRefresh_ticks, State.modSlot_ticks, State.qMove_ticks, State.refTimerOff_ticks, Done.ok, Done.err] | split)

theorem specRefSetTimers_ticks (p : Packet) (s : State) :
    (specRefSetTimers.body p s).st.ticks = s.ticks := by
  unfold specRefSetTimers
  repeat' (first | simp only [apply_ite State.ticks, apply_ite Prod.fst, apply_ite Prod.snd, apply_ite Done.st, ite_self, implies_true, forall_const, foldl_ticks, answer, gnsBody, keyBody, pairBody, svcBody, ticBody, Done.ok_ticks, State.holdoffOut_ticks, State.setSlotCfg_ticks, State.waitOut_ticks, Done.ok, Done.err] | split)

theorem specRefSetPriority_ticks (p : Packet) (s : State) :
    (specRefSetPriority.body p s).st.ticks = s.ticks := by
  unfold specRefSetPriority
  repeat' (first | simp only [apply_ite State.ticks, apply_ite Prod.fst, apply_ite Prod.snd, apply_ite Done.st, ite_self, implies_true, forall_const, foldl_ticks, answer, gnsBody, keyBody, pairBody, svcBody, ticBody, Done.ok_ticks, State.setSlotCfg_ticks, Done.ok, Done.err] | split)

theorem specRefSelect_ticks (p : Packet) (s : State) :
    (specRefSelect.body p s).st.ticks = s.ticks := by
  unfold specRefSelect
  repeat' (first | simp only [apply_ite State.ticks, apply_ite Prod.fst, apply_ite Prod.snd, apply_ite Done.st, ite_self, implies_true, forall_const, foldl_ticks, answer, gnsBody, keyBody, pairBody, svcBody, ticBody, Done.err_ticks, Done.ok_ticks, State.startSwitch_ticks, Done.ok, Done.err] | split)

theorem specRefClearHistory_ticks (p : Packet) (s : State) :
    (specRefClearHistory.body p s).st.ticks = s.ticks := by
  unfold specRefClearHistory
  repeat' (first | simp only [apply_ite State.ticks, apply_ite Prod.fst, apply_ite Prod.snd, apply_ite Done.st, ite_self, implies_true, forall_const, foldl_ticks, answer, gnsBody, keyBody, pairBody, svcBody, ticBody, Done.ok_ticks, State.modSlot_ticks, Done.ok, Done.err] | split)

theorem State.refEnableOne_ticks (s : State) (n : Nat) (on : Bool) :
    (State.refEnableOne s n on).ticks = s.ticks := by
  unfold State.refEnableOne
  repeat' (first | simp only [apply_ite State.ticks, apply_ite Prod.fst, apply_ite Prod.snd, apply_ite Done.st, ite_self, implies_true, forall_const, foldl_ticks, State.cellsReset_ticks, State.majRefresh_ticks, State.modSlot_ticks, State.refAbsent_ticks, State.servoHold_ticks, State.setSlotCfg_ticks, Done.ok, Done.err] | split)

theorem State.refEnable_ticks (s : State) (affected : W32) (values : W32) :
    (State.refEnable s affected values).ticks = s.ticks := by
  unfold State.refEnable
  repeat' (first | simp only [apply_ite State.ticks, apply_ite Prod.fst, apply_ite Prod.snd, apply_ite Done.st, ite_self, implies_true, forall_const, foldl_ticks, State.refEnableOne_ticks, State.refSelect_ticks, Done.ok, Done.err] | split)

theorem specRefEnable_ticks (p : Packet) (s : State) :
    (specRefEnable.body p s).st.ticks = s.ticks := by
  unfold specRefEnable
  repeat' (first | simp only [apply_ite State.ticks, apply_ite Prod.fst, apply_ite Prod.snd, apply_ite Done.st, ite_self, implies_true, forall_const, foldl_ticks, answer, gnsBody, keyBody, pairBody, svcBody, ticBody, Done.ok_ticks, State.refEnable_ticks, Done.ok, Done.err] | split)

theorem specRefSetPtpSlave_ticks (p : Packet) (s : State) :
    (specRefSetPtpSlave.body p s).st.ticks = s.ticks := by
  unfold specRefSetPtpSlave
  repeat' (first | simp only [apply_ite State.ticks, apply_ite Prod.fst, apply_ite Prod.snd, apply_ite Done.st, ite_self, implies_true, forall_const, foldl_ticks, answer, gnsBody, keyBody, pairBody, svcBody, ticBody, Done.ok_ticks, State.refPresence_ticks, State.setSource_ticks, Done.ok, Done.err] | split)

theorem State.clockEdge_ticks (s0 : State) (n : Nat) (r : Int) (cycles : Nat) :
    (State.clockEdge s0 n r cycles).ticks = s0.ticks := by
  unfold State.clockEdge
  repeat' (first | simp only [apply_ite State.ticks, apply_ite Prod.fst, apply_ite Prod.snd, apply_ite Done.st, ite_self, implies_true, forall_const, foldl_ticks, State.modSlot_ticks, State.refUpdate_ticks, Done.ok, Done.err] | split)

theorem specTicQueryChannel_ticks (p : Packet) (s : State) :
    (specTicQueryChannel.body p s).st.ticks = s.ticks := by
  unfold specTicQueryChannel
  repeat' (first | simp only [apply_ite State.ticks, apply_ite Prod.fst, apply_ite Prod.snd, apply_ite Done.st, ite_self, implies_true, forall_const, foldl_ticks, answer, gnsBody, keyBody, pairBody, svcBody, ticBody, answer_ticks, Done.ok, Done.err] | split)

theorem specTicQueryCal_ticks (p : Packet) (s : State) :
    (specTicQueryCal.body p s).st.ticks = s.ticks := by
  unfold specTicQueryCal
  repeat' (first | simp only [apply_ite State.ticks, apply_ite Prod.fst, apply_ite Prod.snd, apply_ite Done.st, ite_self, implies_true, forall_const, foldl_ticks, answer, gnsBody, keyBody, pairBody, svcBody, ticBody, answer_ticks, Done.ok, Done.err] | split)

theorem State.setTch_ticks (s : State) (n : Nat) (f : TicChCfg → TicChCfg) :
    (State.setTch s n f).ticks = s.ticks := by
  unfold State.setTch
  repeat' (first | simp only [apply_ite State.ticks, apply_ite Prod.fst, apply_ite Prod.snd, apply_ite Done.st, ite_self, implies_true, forall_const, foldl_ticks, Done.ok, Done.err] | split)

theorem specTicSetChannel_ticks (p : Packet) (s : State) :
    (specTicSetChannel.body p s).st.ticks = s.ticks := by
  unfold specTicSetChannel
  repeat' (first | simp only [apply_ite State.ticks, apply_ite Prod.fst, apply_ite Prod.snd, apply_ite Done.st, ite_self, implies_true, forall_const, foldl_ticks, answer, gnsBody, keyBody, pairBody, svcBody, ticBody, Done.err_ticks, Done.ok_ticks, State.setTch_ticks, State.ticMark_ticks, Done.ok, Done.err] | split)

theorem specTicSetDelay_ticks (p : Packet) (s : State) :
    (specTicSetDelay.body p s).st.ticks = s.ticks := by
  unfold specTicSetDelay
  repeat' (first | simp only [apply_ite State.ticks, apply_ite Prod.fst, apply_ite Prod.snd, apply_ite Done.st, ite_self, implies_true, forall_const, foldl_ticks, answer, gnsBody, keyBody, pairBody, svcBody, ticBody, Done.err_ticks, Done.ok_ticks, State.setTch_ticks, Done.ok, Done.err] | split)

theorem specTicStartInterval_ticks (p : Packet) (s : State) :
    (specTicStartInterval.body p s).st.ticks = s.ticks := by
  unfold specTicStartInterval
  repeat' (first | simp only [apply_ite State.ticks, apply_ite Prod.fst, apply_ite Prod.snd, apply_ite Done.st, ite_self, implies_true, forall_const, foldl_ticks, answer, gnsBody, keyBody, pairBody, svcBody, ticBody, Done.err_ticks, Done.ok_ticks, State.modTch_ticks, Done.ok, Done.err] | split)

theorem specTicStream_ticks (p : Packet) (s : State) :
    (specTicStream.body p s).st.ticks = s.ticks := by
  unfold specTicStream
  repeat' (first | simp only [apply_ite State.ticks, apply_ite Prod.fst, apply_ite Prod.snd, apply_ite Done.st, ite_self, implies_true, forall_const, foldl_ticks, answer, gnsBody, keyBody, pairBody, svcBody, ticBody, Done.err_ticks, Done.ok_ticks, State.modTch_ticks, Done.ok, Done.err] | split)

theorem State.calSkipped_ticks (m : BitVec 36) (go : BitVec 36) (s : State) (c : Nat) :
    (State.calSkipped m go s c).ticks = s.ticks := by
  unfold State.calSkipped
  repeat' (first | simp only [apply_ite State.ticks, apply_ite Prod.fst, apply_ite Prod.snd, apply_ite Done.st, ite_self, implies_true, forall_const, foldl_ticks, State.calStale_ticks, Done.ok, Done.err] | split)

theorem specTicCalibrate_ticks (p : Packet) (s : State) :
    (specTicCalibrate.body p s).st.ticks = s.ticks := by
  unfold specTicCalibrate
  repeat' (first | simp only [apply_ite State.ticks, apply_ite Prod.fst, apply_ite Prod.snd, apply_ite Done.st, ite_self, implies_true, forall_const, foldl_ticks, answer, gnsBody, keyBody, pairBody, svcBody, ticBody, Done.err_ticks, Done.ok_ticks, State.calNext_ticks, State.calSkipped_ticks, Done.ok, Done.err] | split)

theorem State.setSubst_ticks (s : State) (p : Packet) :
    (State.setSubst s p).ticks = s.ticks := by
  unfold State.setSubst
  repeat' (first | simp only [apply_ite State.ticks, apply_ite Prod.fst, apply_ite Prod.snd, apply_ite Done.st, ite_self, implies_true, forall_const, foldl_ticks, Done.ok, Done.err] | split)

theorem State.unmap_ticks (s : State) (i : Nat) :
    (State.unmap s i).ticks = s.ticks := by
  unfold State.unmap
  repeat' (first | simp only [apply_ite State.ticks, apply_ite Prod.fst, apply_ite Prod.snd, apply_ite Done.st, ite_self, implies_true, forall_const, foldl_ticks, State.dropSpare_ticks, State.faultAssert_ticks, State.handOver_ticks, State.modSpare_ticks, State.raise_ticks, State.swap_ticks, Done.ok, Done.err] | split)

theorem specTicSubstitute_ticks (p : Packet) (s : State) :
    (specTicSubstitute.body p s).st.ticks = s.ticks := by
  unfold specTicSubstitute
  repeat' (first | simp only [apply_ite State.ticks, apply_ite Prod.fst, apply_ite Prod.snd, apply_ite Done.st, ite_self, implies_true, forall_const, foldl_ticks, answer, gnsBody, keyBody, pairBody, svcBody, ticBody, Done.err_ticks, Done.ok_ticks, State.calBreak_ticks, State.releaseRolling_ticks, State.setSubst_ticks, State.swap_ticks, State.takeSpare_ticks, State.unmap_ticks, Done.ok, Done.err] | split)

theorem State.ticGap_ticks (s : State) (n : Nat) :
    (State.ticGap s n).ticks = s.ticks := by
  unfold State.ticGap
  repeat' (first | simp only [apply_ite State.ticks, apply_ite Prod.fst, apply_ite Prod.snd, apply_ite Done.st, ite_self, implies_true, forall_const, foldl_ticks, State.modTch_ticks, Done.ok, Done.err] | split)

theorem State.ticMiss_ticks (s : State) (n : Nat) (falling : Bool) :
    (State.ticMiss s n falling).ticks = s.ticks := by
  unfold State.ticMiss
  repeat' (first | simp only [apply_ite State.ticks, apply_ite Prod.fst, apply_ite Prod.snd, apply_ite Done.st, ite_self, implies_true, forall_const, foldl_ticks, State.ivMissed_ticks, State.modTch_ticks, State.ticRaise_ticks, Done.ok, Done.err] | split)

theorem State.ticPresent_ticks (s : State) (n : Nat) :
    (State.ticPresent s n).ticks = s.ticks := by
  unfold State.ticPresent
  repeat' (first | simp only [apply_ite State.ticks, apply_ite Prod.fst, apply_ite Prod.snd, apply_ite Done.st, ite_self, implies_true, forall_const, foldl_ticks, State.modTch_ticks, State.ticMark_ticks, State.ticRaise_ticks, Done.ok, Done.err] | split)

theorem State.ticUse_ticks (s : State) (n : Nat) (falling : Bool) (fine : Nat) :
    (State.ticUse s n falling fine).ticks = s.ticks := by
  unfold State.ticUse
  repeat' (first | simp only [apply_ite State.ticks, apply_ite Prod.fst, apply_ite Prod.snd, apply_ite Done.st, ite_self, implies_true, forall_const, foldl_ticks, State.ivAsStart_ticks, State.ivAsStop_ticks, State.ivCheck_ticks, State.modTch_ticks, State.pairStamp_ticks, State.ticPush_ticks, Done.ok, Done.err] | split)

theorem State.swapCount_ticks (s : State) (n : Nat) (other : Int) :
    (State.swapCount s n other).ticks = s.ticks := by
  unfold State.swapCount
  repeat' (first | simp only [apply_ite State.ticks, apply_ite Prod.fst, apply_ite Prod.snd, apply_ite Done.st, ite_self, implies_true, forall_const, foldl_ticks, State.modSpare_ticks, Done.ok, Done.err] | split)

theorem State.ticCode_ticks (s : State) (n : Nat) (bad : Bool) :
    (State.ticCode s n bad).ticks = s.ticks := by
  unfold State.ticCode
  repeat' (first | simp only [apply_ite State.ticks, apply_ite Prod.fst, apply_ite Prod.snd, apply_ite Done.st, ite_self, implies_true, forall_const, foldl_ticks, State.convFail_ticks, State.modConv_ticks, Done.ok, Done.err] | split)

theorem State.ticStamp_ticks (s : State) (n : Nat) (falling : Bool) (fine : Nat) (bad : Bool) (other : Int) :
    (State.ticStamp s n falling fine bad other).ticks = s.ticks := by
  unfold State.ticStamp
  repeat' (first | simp only [apply_ite State.ticks, apply_ite Prod.fst, apply_ite Prod.snd, apply_ite Done.st, ite_self, implies_true, forall_const, foldl_ticks, State.modTch_ticks, State.swapCount_ticks, State.ticCode_ticks, State.ticPresent_ticks, State.ticUse_ticks, Done.ok, Done.err] | split)

theorem State.wrapRecord_ticks (s : State) (n : Nat) :
    (State.wrapRecord s n).ticks = s.ticks := by
  unfold State.wrapRecord
  repeat' (first | simp only [apply_ite State.ticks, apply_ite Prod.fst, apply_ite Prod.snd, apply_ite Done.st, ite_self, implies_true, forall_const, foldl_ticks, State.ticEnqueue_ticks, Done.ok, Done.err] | split)

theorem specTmgQueryQueue_ticks (p : Packet) (s : State) :
    (specTmgQueryQueue.body p s).st.ticks = s.ticks := by
  unfold specTmgQueryQueue
  repeat' (first | simp only [apply_ite State.ticks, apply_ite Prod.fst, apply_ite Prod.snd, apply_ite Done.st, ite_self, implies_true, forall_const, foldl_ticks, answer, gnsBody, keyBody, pairBody, svcBody, ticBody, State.laneQuery_ticks, Done.ok, Done.err] | split)

theorem specTmgQueryGcl_ticks (p : Packet) (s : State) :
    (specTmgQueryGcl.body p s).st.ticks = s.ticks := by
  unfold specTmgQueryGcl
  repeat' (first | simp only [apply_ite State.ticks, apply_ite Prod.fst, apply_ite Prod.snd, apply_ite Done.st, ite_self, implies_true, forall_const, foldl_ticks, answer, gnsBody, keyBody, pairBody, svcBody, ticBody, State.laneQuery_ticks, Done.ok, Done.err] | split)

theorem specTmgSetGcl_ticks (p : Packet) (s : State) :
    (specTmgSetGcl.body p s).st.ticks = s.ticks := by
  unfold specTmgSetGcl
  repeat' (first | simp only [apply_ite State.ticks, apply_ite Prod.fst, apply_ite Prod.snd, apply_ite Done.st, ite_self, implies_true, forall_const, foldl_ticks, answer, gnsBody, keyBody, pairBody, svcBody, ticBody, Done.err_ticks, Done.ok_ticks, State.modTLane_ticks, State.tmgRaise_ticks, Done.ok, Done.err] | split)

theorem specTmgSwapGcl_ticks (p : Packet) (s : State) :
    (specTmgSwapGcl.body p s).st.ticks = s.ticks := by
  unfold specTmgSwapGcl
  repeat' (first | simp only [apply_ite State.ticks, apply_ite Prod.fst, apply_ite Prod.snd, apply_ite Done.st, ite_self, implies_true, forall_const, foldl_ticks, answer, gnsBody, keyBody, pairBody, svcBody, ticBody, Done.err_ticks, Done.ok_ticks, State.modTLane_ticks, Done.ok, Done.err] | split)

theorem specTmgSetShaper_ticks (p : Packet) (s : State) :
    (specTmgSetShaper.body p s).st.ticks = s.ticks := by
  unfold specTmgSetShaper
  repeat' (first | simp only [apply_ite State.ticks, apply_ite Prod.fst, apply_ite Prod.snd, apply_ite Done.st, ite_self, implies_true, forall_const, foldl_ticks, answer, gnsBody, keyBody, pairBody, svcBody, ticBody, Done.err_ticks, Done.ok_ticks, State.setTmgCfg_ticks, Done.ok, Done.err] | split)

theorem specTmgSetPolicer_ticks (p : Packet) (s : State) :
    (specTmgSetPolicer.body p s).st.ticks = s.ticks := by
  unfold specTmgSetPolicer
  repeat' (first | simp only [apply_ite State.ticks, apply_ite Prod.fst, apply_ite Prod.snd, apply_ite Done.st, ite_self, implies_true, forall_const, foldl_ticks, answer, gnsBody, keyBody, pairBody, svcBody, ticBody, Done.err_ticks, Done.ok_ticks, State.modPol_ticks, State.setTmgCfg_ticks, Done.ok, Done.err] | split)

theorem specTmgSetFilter_ticks (p : Packet) (s : State) :
    (specTmgSetFilter.body p s).st.ticks = s.ticks := by
  unfold specTmgSetFilter
  repeat' (first | simp only [apply_ite State.ticks, apply_ite Prod.fst, apply_ite Prod.snd, apply_ite Done.st, ite_self, implies_true, forall_const, foldl_ticks, answer, gnsBody, keyBody, pairBody, svcBody, ticBody, Done.err_ticks, Done.ok_ticks, State.setTmgCfg_ticks, Done.ok, Done.err] | split)

theorem specTmgSetSampling_ticks (p : Packet) (s : State) :
    (specTmgSetSampling.body p s).st.ticks = s.ticks := by
  unfold specTmgSetSampling
  repeat' (first | simp only [apply_ite State.ticks, apply_ite Prod.fst, apply_ite Prod.snd, apply_ite Done.st, ite_self, implies_true, forall_const, foldl_ticks, answer, gnsBody, keyBody, pairBody, svcBody, ticBody, Done.err_ticks, Done.ok_ticks, State.setTmgCfg_ticks, Done.ok, Done.err] | split)

theorem State.answerRead_ticks (s : State) (w : W32) :
    (State.answerRead s w).ticks = s.ticks := by
  unfold State.answerRead
  repeat' (first | simp only [apply_ite State.ticks, apply_ite Prod.fst, apply_ite Prod.snd, apply_ite Done.st, ite_self, implies_true, forall_const, foldl_ticks, Done.ok, Done.err] | split)

theorem State.ringRefuse_ticks (s : State) (n : Nat) :
    (State.ringRefuse s n).ticks = s.ticks := by
  unfold State.ringRefuse
  repeat' (first | simp only [apply_ite State.ticks, apply_ite Prod.fst, apply_ite Prod.snd, apply_ite Done.st, ite_self, implies_true, forall_const, foldl_ticks, State.irq_ticks, State.modRing_ticks, State.refuseWrite_ticks, Done.ok, Done.err] | split)

theorem State.prodWrite_ticks (s : State) (n : Nat) (v : BitVec 32) :
    (State.prodWrite s n v).ticks = s.ticks := by
  unfold State.prodWrite
  repeat' (first | simp only [apply_ite State.ticks, apply_ite Prod.fst, apply_ite Prod.snd, apply_ite Done.st, ite_self, implies_true, forall_const, foldl_ticks, State.modRing_ticks, State.ringRefuse_ticks, Done.ok, Done.err] | split)

theorem State.consWrite_ticks (s : State) (n : Nat) (v : BitVec 32) :
    (State.consWrite s n v).ticks = s.ticks := by
  unfold State.consWrite
  repeat' (first | simp only [apply_ite State.ticks, apply_ite Prod.fst, apply_ite Prod.snd, apply_ite Done.st, ite_self, implies_true, forall_const, foldl_ticks, State.acqResume_ticks, State.modRing_ticks, State.ringRefuse_ticks, Done.ok, Done.err] | split)

theorem State.pointerWrite_ticks (s : State) (m : BitVec 4) (n : Nat) (prod : Bool) (v : BitVec 32) :
    (State.pointerWrite s m n prod v).ticks = s.ticks := by
  unfold State.pointerWrite
  repeat' (first | simp only [apply_ite State.ticks, apply_ite Prod.fst, apply_ite Prod.snd, apply_ite Done.st, ite_self, implies_true, forall_const, foldl_ticks, State.consWrite_ticks, State.prodWrite_ticks, State.refuseWrite_ticks, Done.ok, Done.err] | split)

theorem State.exportSlot_ticks (s : State) :
    (State.exportSlot s).ticks = s.ticks := by
  unfold State.exportSlot
  repeat' (first | simp only [apply_ite State.ticks, apply_ite Prod.fst, apply_ite Prod.snd, apply_ite Done.st, ite_self, implies_true, forall_const, foldl_ticks, State.ringPush_ticks, Done.ok, Done.err] | split)

theorem State.replaySlot_ticks (s : State) :
    (State.replaySlot s).ticks = s.ticks := by
  unfold State.replaySlot
  repeat' (first | simp only [apply_ite State.ticks, apply_ite Prod.fst, apply_ite Prod.snd, apply_ite Done.st, ite_self, implies_true, forall_const, foldl_ticks, State.irq_ticks, State.release_ticks, State.ringPush_ticks, Done.ok, Done.err] | split)

theorem State.manifestSlot_ticks (s : State) :
    (State.manifestSlot s).ticks = s.ticks := by
  unfold State.manifestSlot
  repeat' (first | simp only [apply_ite State.ticks, apply_ite Prod.fst, apply_ite Prod.snd, apply_ite Done.st, ite_self, implies_true, forall_const, foldl_ticks, State.ringPush_ticks, Done.ok, Done.err] | split)

theorem State.mirrorSlot_ticks (s : State) :
    (State.mirrorSlot s).ticks = s.ticks := by
  unfold State.mirrorSlot
  repeat' (first | simp only [apply_ite State.ticks, apply_ite Prod.fst, apply_ite Prod.snd, apply_ite Done.st, ite_self, implies_true, forall_const, foldl_ticks, State.ringPush_ticks, Done.ok, Done.err] | split)

theorem State.streamSlot_ticks (s : State) (k : Nat) :
    (State.streamSlot s k).ticks = s.ticks := by
  unfold State.streamSlot
  repeat' (first | simp only [apply_ite State.ticks, apply_ite Prod.fst, apply_ite Prod.snd, apply_ite Done.st, ite_self, implies_true, forall_const, foldl_ticks, State.modTch_ticks, State.ringPush_ticks, Done.ok, Done.err] | split)

theorem State.latchOut_ticks (s : State) :
    (State.latchOut s).ticks = s.ticks := by
  unfold State.latchOut
  repeat' (first | simp only [apply_ite State.ticks, apply_ite Prod.fst, apply_ite Prod.snd, apply_ite Done.st, ite_self, implies_true, forall_const, foldl_ticks, State.ringPush_ticks, Done.ok, Done.err] | split)

theorem State.acqOut_ticks (s : State) :
    (State.acqOut s).ticks = s.ticks := by
  unfold State.acqOut
  repeat' (first | simp only [apply_ite State.ticks, apply_ite Prod.fst, apply_ite Prod.snd, apply_ite Done.st, ite_self, implies_true, forall_const, foldl_ticks, State.acqEnd_ticks, State.ringPush_ticks, Done.ok, Done.err] | split)

theorem State.snapOut_ticks (s : State) :
    (State.snapOut s).ticks = s.ticks := by
  unfold State.snapOut
  repeat' (first | simp only [apply_ite State.ticks, apply_ite Prod.fst, apply_ite Prod.snd, apply_ite Done.st, ite_self, implies_true, forall_const, foldl_ticks, State.ringPush_ticks, Done.ok, Done.err] | split)

theorem State.navOut_ticks (s : State) :
    (State.navOut s).ticks = s.ticks := by
  unfold State.navOut
  repeat' (first | simp only [apply_ite State.ticks, apply_ite Prod.fst, apply_ite Prod.snd, apply_ite Done.st, ite_self, implies_true, forall_const, foldl_ticks, State.ringPush_ticks, Done.ok, Done.err] | split)

theorem State.slotOut_ticks (s : State) (n : Nat) :
    (State.slotOut s n).ticks = s.ticks := by
  unfold State.slotOut
  repeat' (first | simp only [apply_ite State.ticks, apply_ite Prod.fst, apply_ite Prod.snd, apply_ite Done.st, ite_self, implies_true, forall_const, foldl_ticks, State.acqOut_ticks, State.exportSlot_ticks, State.latchOut_ticks, State.manifestSlot_ticks, State.mirrorSlot_ticks, State.navOut_ticks, State.replaySlot_ticks, State.snapOut_ticks, State.stageSend_ticks, State.streamSlot_ticks, Done.ok, Done.err] | split)

theorem State.flr_ticks (s : State) :
    (State.flr s).ticks = s.ticks := by
  unfold State.flr
  repeat' (first | simp only [apply_ite State.ticks, apply_ite Prod.fst, apply_ite Prod.snd, apply_ite Done.st, ite_self, implies_true, forall_const, foldl_ticks, State.raise_ticks, State.ringsDown_ticks, Done.ok, Done.err] | split)

theorem State.mbxGo_ticks (s : State) (n : Nat) :
    (State.mbxGo s n).ticks = s.ticks := by
  unfold State.mbxGo
  repeat' (first | simp only [apply_ite State.ticks, apply_ite Prod.fst, apply_ite Prod.snd, apply_ite Done.st, ite_self, implies_true, forall_const, foldl_ticks, State.irq_ticks, State.modMbx_ticks, State.powerUp_ticks, Done.ok, Done.err] | split)

theorem State.mbxSend_ticks (s : State) (m : BitVec 4) (n : Nat) :
    (State.mbxSend s m n).ticks = s.ticks := by
  unfold State.mbxSend
  repeat' (first | simp only [apply_ite State.ticks, apply_ite Prod.fst, apply_ite Prod.snd, apply_ite Done.st, ite_self, implies_true, forall_const, foldl_ticks, State.mbxGo_ticks, State.modMbx_ticks, State.refuseWrite_ticks, Done.ok, Done.err] | split)

theorem State.mbxTake_ticks (s : State) (m : BitVec 4) (n : Nat) :
    (State.mbxTake s m n).ticks = s.ticks := by
  unfold State.mbxTake
  repeat' (first | simp only [apply_ite State.ticks, apply_ite Prod.fst, apply_ite Prod.snd, apply_ite Done.st, ite_self, implies_true, forall_const, foldl_ticks, State.answerRead_ticks, State.irq_ticks, State.modMbx_ticks, State.refuseWrite_ticks, Done.ok, Done.err] | split)

theorem State.replyPut_ticks (s : State) (r : Reply) :
    (State.replyPut s r).ticks = s.ticks := by
  unfold State.replyPut
  repeat' (first | simp only [apply_ite State.ticks, apply_ite Prod.fst, apply_ite Prod.snd, apply_ite Done.st, ite_self, implies_true, forall_const, foldl_ticks, State.mbxGo_ticks, State.modMbx_ticks, State.ringPush_ticks, Done.ok, Done.err] | split)

theorem State.replyNext_ticks (s : State) :
    (State.replyNext s).ticks = s.ticks := by
  unfold State.replyNext
  repeat' (first | simp only [apply_ite State.ticks, apply_ite Prod.fst, apply_ite Prod.snd, apply_ite Done.st, ite_self, implies_true, forall_const, foldl_ticks, State.replyPut_ticks, Done.ok, Done.err] | split)

theorem State.semLogged_ticks (s : State) (m : BitVec 4) (i : Nat) (r : Bool × BitVec 4) :
    (State.semLogged s m i r).ticks = s.ticks := by
  unfold State.semLogged
  repeat' (first | simp only [apply_ite State.ticks, apply_ite Prod.fst, apply_ite Prod.snd, apply_ite Done.st, ite_self, implies_true, forall_const, foldl_ticks, State.logPut_ticks, Done.ok, Done.err] | split)

theorem State.semRead_ticks (s : State) (m : BitVec 4) (i : Nat) :
    (State.semRead s m i).ticks = s.ticks := by
  unfold State.semRead
  repeat' (first | simp only [apply_ite State.ticks, apply_ite Prod.fst, apply_ite Prod.snd, apply_ite Done.st, ite_self, implies_true, forall_const, foldl_ticks, State.answerRead_ticks, State.semLogged_ticks, State.semPut_ticks, Done.ok, Done.err] | split)

theorem State.readDenied_ticks (s : State) :
    (State.readDenied s).ticks = s.ticks := by
  unfold State.readDenied
  repeat' (first | simp only [apply_ite State.ticks, apply_ite Prod.fst, apply_ite Prod.snd, apply_ite Done.st, ite_self, implies_true, forall_const, foldl_ticks, State.answerRead_ticks, State.refuseWrite_ticks, Done.ok, Done.err] | split)

theorem State.semRelease_ticks (s : State) (m : BitVec 4) (i : Nat) :
    (State.semRelease s m i).ticks = s.ticks := by
  unfold State.semRelease
  repeat' (first | simp only [apply_ite State.ticks, apply_ite Prod.fst, apply_ite Prod.snd, apply_ite Done.st, ite_self, implies_true, forall_const, foldl_ticks, State.refuseWrite_ticks, State.semPut_ticks, Done.ok, Done.err] | split)

theorem State.latchWords_ticks (s : State) (m : BitVec 4) (addr : W32) (ws : List W32) :
    (State.latchWords s m addr ws).ticks = s.ticks := by
  unfold State.latchWords
  repeat' (first | simp only [apply_ite State.ticks, apply_ite Prod.fst, apply_ite Prod.snd, apply_ite Done.st, ite_self, implies_true, forall_const, foldl_ticks, State.answerRead_ticks, State.latch_ticks, Done.ok, Done.err] | split)

theorem State.popGns_ticks (s : State) (m : BitVec 4) (addr : W32) (k : Nat) :
    (State.popGns s m addr k).ticks = s.ticks := by
  unfold State.popGns
  repeat' (first | simp only [apply_ite State.ticks, apply_ite Prod.fst, apply_ite Prod.snd, apply_ite Done.st, ite_self, implies_true, forall_const, foldl_ticks, State.latchWords_ticks, State.modTrk_ticks, Done.ok, Done.err] | split)

theorem State.popTic_ticks (s : State) (m : BitVec 4) (addr : W32) (n : Nat) :
    (State.popTic s m addr n).ticks = s.ticks := by
  unfold State.popTic
  repeat' (first | simp only [apply_ite State.ticks, apply_ite Prod.fst, apply_ite Prod.snd, apply_ite Done.st, ite_self, implies_true, forall_const, foldl_ticks, State.latchWords_ticks, State.modTch_ticks, Done.ok, Done.err] | split)

theorem State.popMains_ticks (s : State) (m : BitVec 4) (addr : W32) :
    (State.popMains s m addr).ticks = s.ticks := by
  unfold State.popMains
  repeat' (first | simp only [apply_ite State.ticks, apply_ite Prod.fst, apply_ite Prod.snd, apply_ite Done.st, ite_self, implies_true, forall_const, foldl_ticks, State.latchWords_ticks, State.modMon_ticks, Done.ok, Done.err] | split)

theorem State.inDomain_ticks (s : State) (d : Nat) (t : State) (h : t.ticks = s.ticks) : (s.inDomain d t).ticks = s.ticks := by
  unfold State.inDomain
  split
  · exact h
  · rw [State.answerRead_ticks]

theorem Rc.read_ticks (s : State) (r : Rc) (h : r.cleared.ticks = s.ticks) (m : BitVec 4) (addr : W32) :
    (r.read m addr).ticks = s.ticks := by
  unfold Rc.read
  simp only [State.answerRead_ticks, apply_ite State.ticks, State.latch_ticks, h, ite_self]

theorem popAt_ticks (a : Nat) (p : Nat × Nat × (State → BitVec 4 → W32 → State)) (h : popAt a = some p) (s : State)
    (m : BitVec 4) (addr : W32) : (p.2.2 s m addr).ticks = s.ticks := by
  unfold popAt at h
  repeat' split at h
  all_goals cases h
  all_goals simp only [State.popGns_ticks, State.popTic_ticks, State.popMains_ticks]

theorem State.rcSys_ticks (s : State) (a : Nat) (r : Rc) (h : s.rcSys a = some r) : r.cleared.ticks = s.ticks := by
  unfold State.rcSys at h
  try dsimp only at h
  repeat' split at h
  all_goals first
    | (unfold rc32 at h; cases h; rfl)
    | (unfold rc64 at h; cases h; rfl)
    | cases h

theorem State.rcOut_ticks (s : State) (a : Nat) (r : Rc) (h : s.rcOut a = some r) : r.cleared.ticks = s.ticks := by
  unfold State.rcOut at h
  try dsimp only at h
  repeat' split at h
  all_goals first
    | (unfold rc32 at h; cases h; rfl)
    | (unfold rc64 at h; cases h; rfl)
    | cases h

theorem State.rcTicCh_ticks (s : State) (n off : Nat) (r : Rc) (h : s.rcTicCh n off = some r) : r.cleared.ticks = s.ticks := by
  unfold State.rcTicCh at h
  try dsimp only at h
  repeat' split at h
  all_goals first
    | (unfold rc32 at h; cases h; rfl)
    | (unfold rc64 at h; cases h; rfl)
    | cases h

theorem State.rcTic_ticks (s : State) (a : Nat) (r : Rc) (h : s.rcTic a = some r) : r.cleared.ticks = s.ticks := by
  unfold State.rcTic at h
  try dsimp only at h
  repeat' split at h
  all_goals first
    | (unfold rc32 at h; cases h; rfl)
    | (unfold rc64 at h; cases h; rfl)
    | cases h
    | exact State.rcTicCh_ticks _ _ _ _ h

theorem State.rcGns_ticks (s : State) (a : Nat) (r : Rc) (h : s.rcGns a = some r) : r.cleared.ticks = s.ticks := by
  unfold State.rcGns at h
  try dsimp only at h
  repeat' split at h
  all_goals first
    | (unfold rc32 at h; cases h; rfl)
    | (unfold rc64 at h; cases h; rfl)
    | cases h

theorem State.rcEthLane_ticks (s : State) (l off : Nat) (r : Rc) (h : s.rcEthLane l off = some r) : r.cleared.ticks = s.ticks := by
  unfold State.rcEthLane at h
  try dsimp only at h
  repeat' split at h
  all_goals first
    | (unfold rc32 at h; cases h; rfl)
    | (unfold rc64 at h; cases h; rfl)
    | cases h

theorem State.rcEth_ticks (s : State) (a : Nat) (r : Rc) (h : s.rcEth a = some r) : r.cleared.ticks = s.ticks := by
  unfold State.rcEth at h
  try dsimp only at h
  repeat' split at h
  all_goals first
    | (unfold rc32 at h; cases h; rfl)
    | (unfold rc64 at h; cases h; rfl)
    | cases h
    | exact State.rcEthLane_ticks _ _ _ _ h

theorem State.rcTmgQ_ticks (s : State) (q off : Nat) (r : Rc) (h : s.rcTmgQ q off = some r) : r.cleared.ticks = s.ticks := by
  unfold State.rcTmgQ at h
  try dsimp only at h
  repeat' split at h
  all_goals first
    | (unfold rc32 at h; cases h; rfl)
    | (unfold rc64 at h; cases h; rfl)
    | cases h

theorem State.rcPol_ticks (s : State) (p off : Nat) (r : Rc) (h : s.rcPol p off = some r) : r.cleared.ticks = s.ticks := by
  unfold State.rcPol at h
  try dsimp only at h
  repeat' split at h
  all_goals first
    | (unfold rc32 at h; cases h; rfl)
    | (unfold rc64 at h; cases h; rfl)
    | cases h

theorem State.rcTmgLane_ticks (s : State) (l off : Nat) (r : Rc) (h : s.rcTmgLane l off = some r) : r.cleared.ticks = s.ticks := by
  unfold State.rcTmgLane at h
  try dsimp only at h
  repeat' split at h
  all_goals first
    | (unfold rc32 at h; cases h; rfl)
    | (unfold rc64 at h; cases h; rfl)
    | cases h

theorem State.rcTmg_ticks (s : State) (a : Nat) (r : Rc) (h : s.rcTmg a = some r) : r.cleared.ticks = s.ticks := by
  unfold State.rcTmg at h
  try dsimp only at h
  repeat' split at h
  all_goals first
    | (unfold rc32 at h; cases h; rfl)
    | (unfold rc64 at h; cases h; rfl)
    | cases h
    | exact State.rcTmgLane_ticks _ _ _ _ h
    | exact State.rcTmgQ_ticks _ _ _ _ h
    | exact State.rcPol_ticks _ _ _ _ h

theorem State.rcPort_ticks (s : State) (k off : Nat) (r : Rc) (h : s.rcPort k off = some r) : r.cleared.ticks = s.ticks := by
  unfold State.rcPort at h
  try dsimp only at h
  repeat' split at h
  all_goals first
    | (unfold rc32 at h; cases h; rfl)
    | (unfold rc64 at h; cases h; rfl)
    | cases h

theorem State.rcSvc_ticks (s : State) (a : Nat) (r : Rc) (h : s.rcSvc a = some r) : r.cleared.ticks = s.ticks := by
  unfold State.rcSvc at h
  try dsimp only at h
  repeat' split at h
  all_goals first
    | (unfold rc32 at h; cases h; rfl)
    | (unfold rc64 at h; cases h; rfl)
    | cases h
    | exact State.rcPort_ticks _ _ _ _ h

theorem State.rcFlt_ticks (s : State) (a : Nat) (r : Rc) (h : s.rcFlt a = some r) : r.cleared.ticks = s.ticks := by
  unfold State.rcFlt at h
  try dsimp only at h
  repeat' split at h
  all_goals first
    | (unfold rc32 at h; cases h; rfl)
    | (unfold rc64 at h; cases h; rfl)
    | cases h

theorem State.rcLog_ticks (s : State) (a : Nat) (r : Rc) (h : s.rcLog a = some r) : r.cleared.ticks = s.ticks := by
  unfold State.rcLog at h
  try dsimp only at h
  repeat' split at h
  all_goals first
    | (unfold rc32 at h; cases h; rfl)
    | (unfold rc64 at h; cases h; rfl)
    | cases h

theorem State.rcMon_ticks (s : State) (a : Nat) (r : Rc) (h : s.rcMon a = some r) : r.cleared.ticks = s.ticks := by
  unfold State.rcMon at h
  try dsimp only at h
  repeat' split at h
  all_goals first
    | (unfold rc32 at h; cases h; rfl)
    | (unfold rc64 at h; cases h; rfl)
    | cases h

theorem State.rcKeep_ticks (s : State) (a : Nat) (r : Rc) (h : s.rcKeep a = some r) : r.cleared.ticks = s.ticks := by
  unfold State.rcKeep at h
  try dsimp only at h
  repeat' split at h
  all_goals first
    | (unfold rc32 at h; cases h; rfl)
    | (unfold rc64 at h; cases h; rfl)
    | cases h

theorem State.rcAt_ticks (s : State) (a : Nat) (r : Rc) (h : s.rcAt a = some r) : r.cleared.ticks = s.ticks := by
  unfold State.rcAt at h
  obtain ⟨f, hf, hr⟩ := List.exists_of_findSome?_eq_some h
  simp only [List.mem_cons, List.not_mem_nil, or_false] at hf
  rcases hf with rfl | rfl | rfl | rfl | rfl | rfl | rfl | rfl | rfl | rfl | rfl
  · exact State.rcSys_ticks s a r hr
  · exact State.rcOut_ticks s a r hr
  · exact State.rcTic_ticks s a r hr
  · exact State.rcGns_ticks s a r hr
  · exact State.rcEth_ticks s a r hr
  · exact State.rcTmg_ticks s a r hr
  · exact State.rcSvc_ticks s a r hr
  · exact State.rcFlt_ticks s a r hr
  · exact State.rcLog_ticks s a r hr
  · exact State.rcMon_ticks s a r hr
  · exact State.rcKeep_ticks s a r hr

theorem State.readReg_ticks (m : BitVec 4) (addr : W32) (s : State) : (State.readReg m addr s).ticks = s.ticks := by
  unfold State.readReg
  generalize addr.toNat = a
  dsimp only
  split
  · rw [State.readDenied_ticks]
  · split
    · rw [State.answerRead_ticks]
    · split
      · rw [State.mbxTake_ticks]
      · rw [State.semRead_ticks]
      · split
        · exact State.inDomain_ticks _ _ _ (popAt_ticks a _ ‹popAt a = some _› _ _ _)
        · exact State.inDomain_ticks _ _ _ (Rc.read_ticks _ _ (State.rcAt_ticks _ a _ ‹s.rcAt a = some _›) _ _)
        · exact State.inDomain_ticks _ _ _ (State.latchWords_ticks ..)
        · generalize s.laterIn a = x
          generalize s.regGet a = y
          split
          · exact State.inDomain_ticks _ _ _ (State.answerRead_ticks ..)
          · exact State.inDomain_ticks _ _ _ (State.answerRead_ticks ..)
          · rw [State.answerRead_ticks]

theorem State.readBurst_ticks (m : BitVec 4) (s : State) (addr : W32) :
    (State.readBurst m s addr).ticks = s.ticks := by
  unfold State.readBurst
  repeat' (first | simp only [apply_ite State.ticks, apply_ite Prod.fst, apply_ite Prod.snd, apply_ite Done.st, ite_self, implies_true, forall_const, foldl_ticks, State.readReg_ticks, Done.ok, Done.err] | split)

theorem State.hostW1c_ticks (s : State) (g : Nat) (v : BitVec 32) :
    (State.hostW1c s g v).ticks = s.ticks := by
  unfold State.hostW1c
  repeat' (first | simp only [apply_ite State.ticks, apply_ite Prod.fst, apply_ite Prod.snd, apply_ite Done.st, ite_self, implies_true, forall_const, foldl_ticks, Done.ok, Done.err] | split)

theorem State.pinW1c_ticks (s : State) (g : Nat) (v : BitVec 32) :
    (State.pinW1c s g v).ticks = s.ticks := by
  unfold State.pinW1c
  repeat' (first | simp only [apply_ite State.ticks, apply_ite Prod.fst, apply_ite Prod.snd, apply_ite Done.st, ite_self, implies_true, forall_const, foldl_ticks, Done.ok, Done.err] | split)

theorem State.statusWrite_ticks (m : BitVec 4) (addr : W32) (v : W32) (s : State) :
    (State.statusWrite m addr v s).ticks = s.ticks := by
  unfold State.statusWrite
  repeat' (first | simp only [apply_ite State.ticks, apply_ite Prod.fst, apply_ite Prod.snd, apply_ite Done.st, ite_self, implies_true, forall_const, foldl_ticks, State.hostW1c_ticks, State.pinW1c_ticks, State.refuseWrite_ticks, Done.ok, Done.err] | split)

theorem State.mbxData_ticks (s : State) (m : BitVec 4) (n : Nat) (i : Nat) (v : W32) :
    (State.mbxData s m n i v).ticks = s.ticks := by
  unfold State.mbxData
  repeat' (first | simp only [apply_ite State.ticks, apply_ite Prod.fst, apply_ite Prod.snd, apply_ite Done.st, ite_self, implies_true, forall_const, foldl_ticks, State.modMbx_ticks, State.refuseWrite_ticks, Done.ok, Done.err] | split)

theorem State.mbxWrite_ticks (s : State) (m : BitVec 4) (a : Nat) (v : W32) :
    (State.mbxWrite s m a v).ticks = s.ticks := by
  unfold State.mbxWrite
  repeat' (first | simp only [apply_ite State.ticks, apply_ite Prod.fst, apply_ite Prod.snd, apply_ite Done.st, ite_self, implies_true, forall_const, foldl_ticks, State.mbxData_ticks, State.mbxSend_ticks, State.refuseWrite_ticks, State.semRelease_ticks, Done.ok, Done.err] | split)

theorem State.maskWrite_ticks (s : State) (m : BitVec 4) (a : Nat) (v : W32) :
    (State.maskWrite s m a v).ticks = s.ticks := by
  unfold State.maskWrite
  repeat' (first | simp only [apply_ite State.ticks, apply_ite Prod.fst, apply_ite Prod.snd, apply_ite Done.st, ite_self, implies_true, forall_const, foldl_ticks, State.refuseWrite_ticks, State.statusWrite_ticks, Done.ok, Done.err] | split)

theorem State.dmaWrite_ticks (s : State) (m : BitVec 4) (a : Nat) (v : W32) :
    (State.dmaWrite s m a v).ticks = s.ticks := by
  unfold State.dmaWrite
  repeat' (first | simp only [apply_ite State.ticks, apply_ite Prod.fst, apply_ite Prod.snd, apply_ite Done.st, ite_self, implies_true, forall_const, foldl_ticks, State.modRing_ticks, State.pointerWrite_ticks, State.refuseWrite_ticks, Done.ok, Done.err] | split)

theorem State.gnsWrite_ticks (s : State) (m : BitVec 4) (a : Nat) (v : W32) :
    (s.gnsWrite m a v).ticks = s.ticks := by
  unfold State.gnsWrite State.gnsEngineWrite
  repeat' split
  all_goals first
    | rfl
    | simp only [State.refuseWrite_ticks, Option.getD_some, Option.getD_none]

theorem State.regWrite_ticks (m : BitVec 4) (addr v : W32) (s : State) :
    (State.regWrite m addr v s).ticks = s.ticks := by
  unfold State.regWrite
  dsimp only
  repeat' split
  all_goals try simp only [State.mbxWrite_ticks, State.maskWrite_ticks, State.dmaWrite_ticks, State.gnsWrite_ticks, State.refuseWrite_ticks]
  rename_i heq _
  unfold State.srcWrite at heq
  repeat' split at heq
  all_goals first
    | (injection heq with heq; rw [← heq])
    | cases heq

theorem State.unlisted_ticks (s : State) (opcode : Nat) (p : Packet) :
    (State.unlisted s opcode p).ticks = s.ticks := by
  unfold State.unlisted
  repeat' (first | simp only [apply_ite State.ticks, apply_ite Prod.fst, apply_ite Prod.snd, apply_ite Done.st, ite_self, implies_true, forall_const, foldl_ticks, State.fetchStall_ticks, State.fetched_ticks, State.finish_ticks, Done.ok, Done.err] | split)

theorem State.clockStep_ticks (s0 : State) (x : Int) (s : State) (n : Nat) :
    (State.clockStep s0 x s n).ticks = s.ticks := by
  unfold State.clockStep
  repeat' (first | simp only [apply_ite State.ticks, apply_ite Prod.fst, apply_ite Prod.snd, apply_ite Done.st, ite_self, implies_true, forall_const, foldl_ticks, State.outStep_ticks, State.syncRun_ticks, Done.ok, Done.err] | split)

theorem State.pulseStep_ticks (old : Nat) (acq : Bool) (s : State) (m : Nat) :
    (State.pulseStep old acq s m).ticks = s.ticks := by
  unfold State.pulseStep
  repeat' (first | simp only [apply_ite State.ticks, apply_ite Prod.fst, apply_ite Prod.snd, apply_ite Done.st, ite_self, implies_true, forall_const, foldl_ticks, State.tpAcq_ticks, State.tpStep_ticks, Done.ok, Done.err] | split)

theorem State.outputsStep_ticks (s : State) (old : Nat) (x : Int) (acq : Bool) :
    (State.outputsStep s old x acq).ticks = s.ticks := by
  unfold State.outputsStep
  repeat' (first | simp only [apply_ite State.ticks, apply_ite Prod.fst, apply_ite Prod.snd, apply_ite Done.st, ite_self, implies_true, forall_const, foldl_ticks, State.clockStep_ticks, State.pulseStep_ticks, State.todStep_ticks, Done.ok, Done.err] | split)

theorem State.latchStep_ticks (s : State) (old : Nat) :
    (State.latchStep s old).ticks = s.ticks := by
  unfold State.latchStep
  repeat' (first | simp only [apply_ite State.ticks, apply_ite Prod.fst, apply_ite Prod.snd, apply_ite Done.st, ite_self, implies_true, forall_const, foldl_ticks, State.raise_ticks, Done.ok, Done.err] | split)

theorem State.bookingsStep_ticks (old : Nat) (s : State) (l : Nat) :
    (State.bookingsStep old s l).ticks = s.ticks := by
  unfold State.bookingsStep
  repeat' (first | simp only [apply_ite State.ticks, apply_ite Prod.fst, apply_ite Prod.snd, apply_ite Done.st, ite_self, implies_true, forall_const, foldl_ticks, State.missSlot_ticks, Done.ok, Done.err] | split)

theorem State.laneStep_ticks (old : Nat) (x : Int) (s : State) (l : Nat) :
    (State.laneStep old x s l).ticks = s.ticks := by
  unfold State.laneStep
  repeat' (first | simp only [apply_ite State.ticks, apply_ite Prod.fst, apply_ite Prod.snd, apply_ite Done.st, ite_self, implies_true, forall_const, foldl_ticks, State.bookingsStep_ticks, State.gateEval_ticks, State.stepWire_ticks, Done.ok, Done.err] | split)

theorem State.lanesStep_ticks (s : State) (old : Nat) (x : Int) :
    (State.lanesStep s old x).ticks = s.ticks := by
  unfold State.lanesStep
  repeat' (first | simp only [apply_ite State.ticks, apply_ite Prod.fst, apply_ite Prod.snd, apply_ite Done.st, ite_self, implies_true, forall_const, foldl_ticks, State.laneStep_ticks, State.swapsDue_ticks, Done.ok, Done.err] | split)

theorem State.stepDone_ticks (s : State) :
    (State.stepDone s).ticks = s.ticks := by
  unfold State.stepDone
  repeat' (first | simp only [apply_ite State.ticks, apply_ite Prod.fst, apply_ite Prod.snd, apply_ite Done.st, ite_self, implies_true, forall_const, foldl_ticks, State.raise_ticks, State.switchDone_ticks, Done.ok, Done.err] | split)

theorem State.slaveAnnounce_ticks (s : State) (n : Nat) (classMax : BitVec 8) (clockClass : BitVec 8) (masterId : BitVec 64) (log : BitVec 8) :
    (State.slaveAnnounce s n classMax clockClass masterId log).ticks = s.ticks := by
  unfold State.slaveAnnounce
  repeat' (first | simp only [apply_ite State.ticks, apply_ite Prod.fst, apply_ite Prod.snd, apply_ite Done.st, ite_self, implies_true, forall_const, foldl_ticks, State.modSlot_ticks, State.refHist_ticks, State.setSource_ticks, Done.ok, Done.err] | split)

theorem OpSpec.run_ticks (o : OpSpec) (hb : ∀ p s, (o.body p s).st.ticks = s.ticks) (p : Packet) (s : State) :
    (o.run p s).st.ticks = s.ticks := by
  unfold OpSpec.run
  repeat' (first
    | simp only [Done.err, hb, State.commitCsp_ticks, State.keepWrite_ticks, State.keepRowFail_ticks]
    | split)

theorem OpSpec.execute_ticks (o : OpSpec) (hb : ∀ p s, (o.body p s).st.ticks = s.ticks) (p : Packet) (s : State) (f : Bool) :
    (o.execute p s f).ticks = s.ticks := by
  unfold OpSpec.execute
  repeat' (first
    | simp only [State.finish_ticks, State.countRefused_ticks, State.settle_ticks, OpSpec.run_ticks o hb]
    | split)

theorem OpSpec.accept_ticks (o : OpSpec) (hb : ∀ p s, (o.body p s).st.ticks = s.ticks) (p : Packet) (s : State) :
    (o.accept p s).ticks = s.ticks := by
  unfold OpSpec.accept
  repeat' (first
    | simp only [State.finish_ticks, State.countRefused_ticks, State.enqueue_ticks, State.reply_ticks, State.countStatus_ticks,
        OpSpec.execute_ticks o hb]
    | split)

/-- A packet changes the tick count only through the body of its opcode. -/
theorem State.takePacket_ticks (o : OpSpec) (hb : ∀ p s, (o.body p s).st.ticks = s.ticks) (p : Packet) (s : State) :
    (s.takePacket o p).ticks = s.ticks := by
  unfold State.takePacket
  repeat' (first
    | simp only [State.finish_ticks, State.fetched_ticks, State.fetchStall_ticks, OpSpec.accept_ticks o hb]
    | split)

theorem specsSys_ticks (o : OpSpec) (h : o ∈ specsSys) (p : Packet) (s : State) : (o.body p s).st.ticks = s.ticks := by
  simp only [specsSys, List.mem_cons, List.not_mem_nil, or_false] at h
  rcases h with rfl | rfl | rfl | rfl | rfl | rfl | rfl | rfl | rfl | rfl | rfl | rfl | rfl | rfl | rfl | rfl | rfl | rfl | rfl | rfl | rfl <;>
    simp only [specSysQueryState_ticks, specSysQueryCounters_ticks, specSysEcho_ticks, specSysSetState_ticks, specSysClearSafe_ticks, specSysDomainPower_ticks, specSysSleep_ticks, specSysWake_ticks, specSysReset_ticks, specSysFwStage_ticks, specSysFwActivate_ticks, specSysSetMbxRoute_ticks, specSysSetSemCfg_ticks, specSysSemForce_ticks, specSysRingConfig_ticks, specSysRingEnable_ticks, specSysIntRoute_ticks, specSysCancel_ticks, specSysBltUnlock_ticks, specSysBltSelect_ticks, specSysBistRun_ticks]

theorem specsRef_ticks (o : OpSpec) (h : o ∈ specsRef) (p : Packet) (s : State) : (o.body p s).st.ticks = s.ticks := by
  simp only [specsRef, List.mem_cons, List.not_mem_nil, or_false] at h
  rcases h with rfl | rfl | rfl | rfl | rfl | rfl | rfl | rfl | rfl | rfl | rfl <;>
    simp only [specRefQuerySlot_ticks, specRefQueryMatrix_ticks, specRefQueryHistory_ticks, specRefSetSlot_ticks, specRefSetQual_ticks, specRefSetTimers_ticks, specRefSetPriority_ticks, specRefSelect_ticks, specRefClearHistory_ticks, specRefEnable_ticks, specRefSetPtpSlave_ticks]

theorem specsAcd_ticks (o : OpSpec) (h : o ∈ specsAcd) (p : Packet) (s : State) : (o.body p s).st.ticks = s.ticks := by
  simp only [specsAcd, List.mem_cons, List.not_mem_nil, or_false] at h
  rcases h with rfl | rfl | rfl | rfl | rfl | rfl | rfl | rfl | rfl | rfl | rfl | rfl <;>
    simp only [specAcdQueryTime_ticks, specAcdQueryServo_ticks, specAcdSetServo_ticks, specAcdSetStepPolicy_ticks, specAcdSetHold_ticks, specAcdSetOscModel_ticks, specAcdSetTime_ticks, specAcdAdjustPhase_ticks, specAcdSetUtc_ticks, specAcdSetCpllSource_ticks, specAcdEnterDrydown_ticks, specAcdSetMaceration_ticks]

theorem specsOut_ticks (o : OpSpec) (h : o ∈ specsOut) (p : Packet) (s : State) : (o.body p s).st.ticks = s.ticks := by
  simp only [specsOut, List.mem_cons, List.not_mem_nil, or_false] at h
  rcases h with rfl | rfl | rfl | rfl | rfl | rfl | rfl | rfl | rfl | rfl <;>
    simp only [specOutQueryStatus_ticks, specOutQueryEcho_ticks, specOutSetSyn_ticks, specOutSetOutput_ticks, specOutSync_ticks, specOutSetTp_ticks, specOutSetTod_ticks, specOutEchoMeasure_ticks, specOutSetDelay_ticks, specOutEnable_ticks]

theorem specsTic_ticks (o : OpSpec) (h : o ∈ specsTic) (p : Packet) (s : State) : (o.body p s).st.ticks = s.ticks := by
  simp only [specsTic, List.mem_cons, List.not_mem_nil, or_false] at h
  rcases h with rfl | rfl | rfl | rfl | rfl | rfl | rfl | rfl <;>
    simp only [specTicQueryChannel_ticks, specTicQueryCal_ticks, specTicSetChannel_ticks, specTicStartInterval_ticks, specTicStream_ticks, specTicCalibrate_ticks, specTicSubstitute_ticks, specTicSetDelay_ticks]

theorem specsGns_ticks (o : OpSpec) (h : o ∈ specsGns) (p : Packet) (s : State) : (o.body p s).st.ticks = s.ticks := by
  simp only [specsGns, List.mem_cons, List.not_mem_nil, or_false] at h
  rcases h with rfl | rfl | rfl | rfl | rfl | rfl | rfl | rfl | rfl | rfl | rfl | rfl <;>
    simp only [specGnsQueryStatus_ticks, specGnsQuerySolution_ticks, specGnsSetPort_ticks, specGnsSetNotch_ticks, specGnsAcquire_ticks, specGnsTrack_ticks, specGnsRelease_ticks, specGnsSetLatch_ticks, specGnsSnapshot_ticks, specGnsSetAntenna_ticks, specGnsSetCheck_ticks, specGnsSpareBank_ticks]

theorem specsEth_ticks (o : OpSpec) (h : o ∈ specsEth) (p : Packet) (s : State) : (o.body p s).st.ticks = s.ticks := by
  simp only [specsEth, List.mem_cons, List.not_mem_nil, or_false] at h
  rcases h with rfl | rfl | rfl | rfl | rfl | rfl | rfl | rfl | rfl <;>
    simp only [specEthQueryLane_ticks, specEthQueryDelay_ticks, specEthSetQuadMode_ticks, specEthSetLane_ticks, specEthSetDelay_ticks, specEthSetCapture_ticks, specEthSetClassifier_ticks, specEthLaneEnable_ticks, specEthSetTags_ticks]

theorem specsTmg_ticks (o : OpSpec) (h : o ∈ specsTmg) (p : Packet) (s : State) : (o.body p s).st.ticks = s.ticks := by
  simp only [specsTmg, List.mem_cons, List.not_mem_nil, or_false] at h
  rcases h with rfl | rfl | rfl | rfl | rfl | rfl | rfl | rfl <;>
    simp only [specTmgQueryQueue_ticks, specTmgQueryGcl_ticks, specTmgSetGcl_ticks, specTmgSwapGcl_ticks, specTmgSetShaper_ticks, specTmgSetPolicer_ticks, specTmgSetFilter_ticks, specTmgSetSampling_ticks]

theorem specsSvc_ticks (o : OpSpec) (h : o ∈ specsSvc) (p : Packet) (s : State) : (o.body p s).st.ticks = s.ticks := by
  simp only [specsSvc, List.mem_cons, List.not_mem_nil, or_false] at h
  rcases h with rfl | rfl | rfl | rfl | rfl | rfl | rfl | rfl | rfl | rfl | rfl | rfl <;>
    simp only [specSvcQueryStatus_ticks, specSvcQueryClient_ticks, specSvcSetPtpPort_ticks, specSvcSetProfile_ticks, specSvcSetAuth_ticks, specSvcSetNtp_ticks, specSvcLoadCookieKey_ticks, specSvcRetireCookieKey_ticks, specSvcSetGate_ticks, specSvcSetRateLimit_ticks, specSvcClientFlush_ticks, specSvcSetBoundTlv_ticks]

theorem specsKey_ticks (o : OpSpec) (h : o ∈ specsKey) (p : Packet) (s : State) : (o.body p s).st.ticks = s.ticks := by
  simp only [specsKey, List.mem_cons, List.not_mem_nil, or_false] at h
  rcases h with rfl | rfl | rfl | rfl | rfl | rfl | rfl | rfl | rfl | rfl | rfl | rfl <;>
    simp only [specKeyQuerySlots_ticks, specKeyQueryEpoch_ticks, specKeyLoadFlacon_ticks, specKeyWrap_ticks, specKeyDerive_ticks, specKeyZero_ticks, specKeyEpochUpdate_ticks, specKeyAttest_ticks, specKeyProvision_ticks, specKeyLcAdvance_ticks, specKeyDebugEnter_ticks, specKeyDebugExit_ticks]

theorem specsLog_ticks (o : OpSpec) (h : o ∈ specsLog) (p : Packet) (s : State) : (o.body p s).st.ticks = s.ticks := by
  simp only [specsLog, List.mem_cons, List.not_mem_nil, or_false] at h
  rcases h with rfl | rfl | rfl | rfl | rfl | rfl <;>
    simp only [specLogQueryStatus_ticks, specLogQueryHead_ticks, specLogExportAck_ticks, specLogSetExport_ticks, specLogCheckpoint_ticks, specLogNote_ticks]

theorem specsFlt_ticks (o : OpSpec) (h : o ∈ specsFlt) (p : Packet) (s : State) : (o.body p s).st.ticks = s.ticks := by
  simp only [specsFlt, List.mem_cons, List.not_mem_nil, or_false] at h
  rcases h with rfl | rfl | rfl | rfl | rfl | rfl | rfl | rfl | rfl | rfl <;>
    simp only [specFltQuery_ticks, specPairQuery_ticks, specFltSetClass_ticks, specFltClear_ticks, specFltInject_ticks, specPairSetMode_ticks, specPairSetClaim_ticks, specPairHandover_ticks, specPairSetCompare_ticks, specPairRejoin_ticks]

theorem specsMon_ticks (o : OpSpec) (h : o ∈ specsMon) (p : Packet) (s : State) : (o.body p s).st.ticks = s.ticks := by
  simp only [specsMon, List.mem_cons, List.not_mem_nil, or_false] at h
  rcases h with rfl | rfl | rfl | rfl | rfl | rfl | rfl | rfl | rfl <;>
    simp only [specMonQuery_ticks, specKeepQuery_ticks, specCalQuery_ticks, specMonSetLimits_ticks, specMonSetMains_ticks, specKeepScrub_ticks, specCalSetTime_ticks, specCalSetTrim_ticks, specCalSetTamper_ticks]

/-- No listed opcode's body changes the tick count. -/
theorem allSpecs_ticks (o : OpSpec) (h : o ∈ allSpecs) (p : Packet) (s : State) : (o.body p s).st.ticks = s.ticks := by
  simp only [allSpecs, List.mem_append] at h
  rcases h with (((((((((((h | h) | h) | h) | h) | h) | h) | h) | h) | h) | h) | h) | h
  · exact specsSys_ticks o h p s
  · exact specsRef_ticks o h p s
  · exact specsAcd_ticks o h p s
  · exact specsOut_ticks o h p s
  · exact specsTic_ticks o h p s
  · exact specsGns_ticks o h p s
  · exact specsEth_ticks o h p s
  · exact specsTmg_ticks o h p s
  · exact specsSvc_ticks o h p s
  · exact specsKey_ticks o h p s
  · exact specsLog_ticks o h p s
  · exact specsFlt_ticks o h p s
  · exact specsMon_ticks o h p s

theorem State.runEntry_ticks (s : State) (e : SchedEntry) : (s.runEntry e).ticks = s.ticks := by
  unfold State.runEntry
  dsimp only
  split
  · rename_i o h
    rw [OpSpec.execute_ticks o (allSpecs_ticks o (List.mem_of_find?_eq_some h))]
  · rfl

theorem State.runPassed_ticks (n : Nat) : ∀ s : State, (s.runPassed n).ticks = s.ticks := by
  induction n with
  | zero => intro s; rfl
  | succ n ih =>
    intro s
    unfold State.runPassed
    split
    · split
      · rw [ih, State.runEntry_ticks]
      · rfl
    · rfl

/-- What comes before a command of its tick changes the tick count only as the passing of time does. -/
theorem State.arrive_ticks (s : State) (dt : Nat) : (s.arrive dt).ticks = (s.advance dt).ticks := by
  unfold State.arrive
  simp only [State.runPassed_ticks, State.leapNow_ticks]

/-- A packet changes the tick count only as the passing of time does, unless its opcode's body does. -/
theorem State.packet_ticks (o : OpSpec) (hb : ∀ p s, (o.body p s).st.ticks = s.ticks) (p : Packet) (s : State) :
    (s.packet o p).ticks = (s.advance p.dt).ticks := by
  unfold State.packet
  rw [State.takePacket_ticks o hb, State.arrive_ticks]

theorem State.schedStep_ticks (s : State) (old : Nat) : (s.schedStep old).ticks = s.ticks := by
  unfold State.schedStep
  dsimp only
  split
  · rfl
  · rw [State.runPassed_ticks, State.raise_ticks]

theorem State.stepFollows_ticks (s : State) (old : Nat) (x : Int) (acq : Bool) :
    (s.stepFollows old x acq).ticks = s.ticks := by
  unfold State.stepFollows
  simp only [State.schedStep_ticks, State.latchStep_ticks, State.leapNow_ticks, State.rollsDue_ticks, State.lanesStep_ticks,
    State.outputsStep_ticks]

theorem State.publish_ticks (s : State) (n : Nat) : (s.publish n).ticks = s.ticks := by
  unfold State.publish
  repeat' (first
    | simp only [apply_ite State.ticks, State.stepDone_ticks, State.stepFollows_ticks, State.publishEb_ticks, State.applyStep_ticks,
        ite_self]
    | split)

end Sys2Proof.Machine
end

