-- ==== Sys2Proof/Laws/Log.lean ====
section
/-! SUPPORT. What writing an entry, raising a source and ending a command leave alone. -/

namespace Sys2Proof.Machine

/-- `t` differs from `s` only in the log, the keep's own rows, latched faults, and the command processor's interrupts,
counts and replies. -/
structure Still (s t : State) : Prop where
  ticks : t.ticks = s.ticks
  freeCtr : t.freeCtr = s.freeCtr
  past : t.past = s.past
  fuse : t.fuse = s.fuse
  vbat : t.vbat = s.vbat
  cfg : t.cfg = s.cfg
  sys : t.sys = s.sys
  ref : t.ref = s.ref
  acd : t.acd = s.acd
  gns : t.gns = s.gns
  tic : t.tic = s.tic
  out : t.out = s.out
  eth : t.eth = s.eth
  tmg : t.tmg = s.tmg
  svc : t.svc = s.svc
  key : t.key = s.key
  pair : t.pair = s.pair
  mon : t.mon = s.mon
  blt : t.blt = s.blt
  pending : t.pending = s.pending
  image : t.keep.image = s.keep.image
  mbx : t.cmd.mbx = s.cmd.mbx
  sems : t.cmd.sems = s.cmd.sems
  rings : t.cmd.rings = s.cmd.rings
  sched : t.cmd.sched = s.cmd.sched

/-- Nothing differs. -/
theorem Still.rfl {s : State} : Still s s := by constructor <;> exact Eq.refl _

/-- One change after another. -/
theorem Still.trans {a b c : State} (h : Still a b) (k : Still b c) : Still a c := by
  constructor
  all_goals first
    | exact k.1.trans h.1 | exact k.2.trans h.2 | exact k.3.trans h.3 | exact k.4.trans h.4 | exact k.5.trans h.5
    | exact k.6.trans h.6 | exact k.7.trans h.7 | exact k.8.trans h.8 | exact k.9.trans h.9 | exact k.10.trans h.10
    | exact k.11.trans h.11 | exact k.12.trans h.12 | exact k.13.trans h.13 | exact k.14.trans h.14
    | exact k.15.trans h.15 | exact k.16.trans h.16 | exact k.17.trans h.17 | exact k.18.trans h.18
    | exact k.19.trans h.19 | exact k.20.trans h.20 | exact k.21.trans h.21 | exact k.22.trans h.22
    | exact k.23.trans h.23 | exact k.24.trans h.24 | exact k.25.trans h.25

/-- A branch. -/
theorem Still.ite {c : Prop} [Decidable c] {s a b : State} (h : Still s a) (k : Still s b) :
    Still s (if c then a else b) := by split <;> assumption

/-- A source that is raised (R60). -/
theorem State.irq_still (s : State) (n : Nat) : Still s (s.irq n) := by
  unfold State.irq Cmd.irq Cmd.noteIrq Cmd.msi
  dsimp only
  constructor <;> first | rfl | (repeat' split) <;> rfl

theorem State.headSlotWrite_still (s : State) (b : Bool) : Still s (s.headSlotWrite b) := by constructor <;> rfl

theorem State.logMiss_still (s : State) (e : LogEntry) : Still s (s.logMiss e) := by constructor <;> rfl

theorem State.logSet_still (s : State) (l : Log) : Still s { s with log := l } := by constructor <;> rfl

theorem State.fltSet_still (s : State) (f : Flt) : Still s { s with flt := f } := by constructor <;> rfl

theorem State.mirrorCopy_still (s : State) (e : LogEntry) : Still s (s.mirrorCopy e) := by
  unfold State.mirrorCopy
  split
  · dsimp only
    split
    · exact s.logSet_still _
    · exact (s.logSet_still _).trans (State.irq_still _ _)
  · exact .rfl

theorem State.logRaw_still (s : State) (e : LogEntry) : Still s (s.logRaw e) := by
  unfold State.logRaw
  dsimp only
  refine Still.trans ?_ (State.mirrorCopy_still _ _)
  split
  · split
    · exact (s.logSet_still _).trans (State.headSlotWrite_still _ _)
    · exact s.logSet_still _
  · exact s.logSet_still _

theorem State.latchQuiet_still (s : State) (n : Nat) (b l : Bool) : Still s (s.latchQuiet n b l) :=
  (s.fltSet_still _).trans (State.irq_still _ _)

theorem State.logSig_still (s : State) (typ : Nat) (v : BitVec 256) : Still s (s.logSig typ v) := by
  unfold State.logSig
  dsimp only
  split
  · exact s.logMiss_still _
  · exact (s.logRaw_still _).trans (State.logSet_still _ _)

theorem State.persistHead_still (put : State → LogEntry → State) (h : ∀ s e, Still s (put s e)) (s : State) (b : Bool) :
    Still s (s.persistHead put b) := by
  unfold State.persistHead
  split
  · dsimp only
    refine Still.trans ?_ (h _ _)
    refine Still.trans ?_ (h _ _)
    refine Still.trans ?_ (State.latchQuiet_still _ _ _ _)
    refine Still.trans ?_ (State.irq_still _ _)
    constructor <;> rfl
  · exact s.headSlotWrite_still _

theorem State.ckPersist_still (put : State → LogEntry → State) (h : ∀ s e, Still s (put s e)) (s : State) :
    Still s (s.ckPersist put) :=
  Still.ite .rfl ((s.persistHead_still put h false).trans (State.logSet_still _ _))

theorem State.ckUnsigned_still (s : State) (b : Bool) : Still s (s.ckUnsigned b) := by
  unfold State.ckUnsigned
  refine .ite .rfl ?_
  have h : Still s ((s.logSig 0x0A 0).logSig 0x0B 0) := (s.logSig_still _ _).trans (State.logSig_still _ _ _)
  have k := h.trans (State.logSet_still _ { ((s.logSig 0x0A 0).logSig 0x0B 0).log with unsignedTold := true })
  exact .ite (Still.trans (.ite k (k.trans (State.irq_still _ _))) (State.irq_still _ _))
    (.ite k (k.trans (State.irq_still _ _)))

theorem State.ckEnter_still (s : State) (b : Bool) : Still s (s.ckEnter b) :=
  (s.logRaw_still _).trans (State.logSet_still _ _)

theorem State.ckOrderly_still (put : State → LogEntry → State) (h : ∀ s e, Still s (put s e)) (s : State) :
    Still s (s.ckOrderly put) :=
  Still.ite ((s.logSet_still _).trans (State.persistHead_still put h _ true)) .rfl

theorem State.ckWrite_still (put : State → LogEntry → State) (h : ∀ s e, Still s (put s e)) (s : State) (b : Bool) :
    Still s (s.ckWrite put b) :=
  Still.ite (s.logSet_still _)
    ((((s.ckEnter_still b).trans (State.ckPersist_still put h _)).trans (State.ckUnsigned_still _ _)).trans
      (State.ckOrderly_still put h _))

theorem State.levelFault_still (put : State → LogEntry → State) (h : ∀ s e, Still s (put s e)) (s : State)
    (a b : BitVec 3) : Still s (s.levelFault put a b) :=
  Still.ite ((s.latchQuiet_still _ _ _).trans (h _ _)) (.ite (s.fltSet_still _) .rfl)

theorem State.levelFallback_still (s : State) (a : BitVec 3) : Still s (s.levelFallback a) :=
  Still.ite ((s.logSet_still _).trans (State.irq_still _ _)) .rfl

theorem State.levelEntry_still (put : State → LogEntry → State) (h : ∀ s e, Still s (put s e)) (s : State)
    (a : BitVec 3) : Still s (s.levelEntry put a) := by
  unfold State.levelEntry
  refine Still.trans (Still.trans ?_ (h _ _)) (State.logSet_still _ _)
  exact .ite (s.logSet_still _) ((s.logSet_still _).trans (State.irq_still _ _))

theorem State.logLevel_still (put : State → LogEntry → State) (h : ∀ s e, Still s (put s e)) (s : State) :
    Still s (s.logLevel put) :=
  Still.ite .rfl (((State.levelEntry_still put h _ _).trans (State.levelFault_still put h _ _ _)).trans
    (State.levelFallback_still _ _))

theorem State.logPutN_still (n : Nat) : ∀ (s : State) (e : LogEntry), Still s (s.logPutN n e) := by
  induction n with
  | zero => intro s e; exact Still.ite (s.logRaw_still e) (s.logMiss_still e)
  | succ n ih =>
    intro s e
    have k := (s.logRaw_still e).trans (State.logLevel_still _ ih _)
    exact Still.ite (.ite (s.logSet_still _) (s.logMiss_still e))
      (.ite (.ite (k.trans ((State.ckWrite_still _ ih _ _).trans (State.logLevel_still _ ih _))) k) (s.logMiss_still e))

/-- An entry that arises touches nothing but the log and what follows its fill (R323, R325). -/
theorem State.logPut_still (s : State) (e : LogEntry) : Still s (s.logPut e) := s.logPutN_still 6 e

/-- A checkpoint touches nothing else either (R318). -/
theorem State.checkpoint_still (s : State) (b : Bool) : Still s (s.checkpoint b) :=
  (State.ckWrite_still _ State.logPut_still s b).trans (State.logLevel_still _ State.logPut_still _)

/-- Nor does raising a source (R60, R449). -/
theorem State.raiseBy_still (s : State) (origin so subject : Nat) (value : Int) (old new : Nat) :
    Still s (s.raiseBy origin so subject value old new) :=
  Still.ite ((s.irq_still so).trans (State.logPut_still _ _)) (s.irq_still so)

theorem State.raise_still (s : State) (so subject : Nat) (value : Int) (old new : Nat) :
    Still s (s.raise so subject value old new) := s.raiseBy_still 15 so subject value old new

theorem State.countStatus_still (s : State) (x : Status) (f : Bool) : Still s (s.countStatus x f) := by
  unfold State.countStatus
  have h : Still s { s with cmd := { s.cmd with stat := Tab.mod s.cmd.stat x.code (· + 1) } } := by
    constructor <;> exact Eq.refl _
  have k : Still s (if f && x ≠ .ok then
      ({ s with cmd := { s.cmd with stat := Tab.mod s.cmd.stat x.code (· + 1) } }).irq (src 1 0)
      else { s with cmd := { s.cmd with stat := Tab.mod s.cmd.stat x.code (· + 1) } }) :=
    .ite (h.trans (State.irq_still _ _)) h
  cases x <;> first | exact k | exact k.trans (State.irq_still _ _)

theorem State.reply_still (s : State) (p : Packet) (opcode kind : Nat) (x : Status) (ws : List W32) (seq : BitVec 32)
    (f : Bool) : Still s (s.reply p opcode kind x ws seq f) := by
  unfold State.reply
  split
  · exact .rfl
  · constructor <;> rfl

end Sys2Proof.Machine
end

