-- ==== Sys2Proof/Laws/Packet.lean ====
section
/-! SUPPORT. What a packet does: the lemmas of `runPacket` that every statement about a packet row
cites. -/

namespace Sys2Proof.Machine

open Host

/-- A packet that executes at once and whose body answers OK leaves `ran` of what its body leaves (R42, R43). -/
theorem packet_ran {o : OpSpec} {p : Packet} {s : State} (h : runsNow o p s = true)
    (hb : (o.body p (bodyFrom p s)).status = .ok) :
    s.packet o p = ran o p (o.body p (bodyFrom p s)).st (o.body p (bodyFrom p s)).payload := by
  simp only [runsNow, Bool.and_eq_true, Bool.not_eq_true', Bool.or_eq_true, Option.isNone_iff_eq_none] at h
  obtain ⟨⟨⟨⟨⟨⟨hf, he⟩, hs⟩, hd⟩, hv⟩, hl⟩, hc⟩ := h
  unfold bodyFrom at hb ⊢
  unfold checkFrom at he hv hl hc hb ⊢
  unfold State.packet State.takePacket
  simp only [hf, he, Bool.not_true, Bool.false_eq_true, if_false]
  unfold OpSpec.accept
  simp only [hs, hd, Bool.false_eq_true, if_false]
  unfold OpSpec.execute
  simp only [hv, hl, Bool.not_true, Bool.false_eq_true, if_false]
  unfold OpSpec.run ran
  by_cases hcsp : o.csp p = true
  · simp only [hcsp, Bool.true_eq_false, false_or] at hc
    obtain ⟨⟨h1, h2⟩, h3⟩ := hc
    simp only [hcsp, h1, h2, h3, hb, Bool.and_false, Bool.false_eq_true, if_false, decide_true,
      Bool.and_true, if_true]
  · simp only [Bool.not_eq_true] at hcsp
    simp only [hcsp, Bool.false_and, Bool.and_false, Bool.false_eq_true, if_false, hb]

/-- A packet row is carried out by the command processor with its opcode's description. -/
theorem exec_packet {i : Instr} {o : OpSpec} {p : Packet} (h : packetOf i = some (o, p)) (s : State) :
    exec i s = .next (s.packet o p) := by
  cases i
  all_goals
    simp only [packetOf, Option.some.injEq, Prod.mk.injEq, reduceCtorEq] at h
    try (obtain ⟨rfl, rfl⟩ := h; rfl)

/-- A packet that executes at once and whose body answers OK completes: the state that its body leaves is `v`. -/
theorem packet_completes {o : OpSpec} {p : Packet} {s v : State} {ws : List W32} (h : runsNow o p s = true)
    (hb : o.body p (bodyFrom p s) = { st := v, status := .ok, payload := ws }) :
    runPacket o p s = .next (ran o p v ws) := by
  unfold runPacket
  rw [packet_ran h (by rw [hb]), hb]

/-- A packet that executes at once and writes no CSP field answers what its body answers (R42, R43). -/
theorem packet_answers {o : OpSpec} {p : Packet} {s : State} (h : runsNow o p s = true) (hc : o.csp p = false) :
    runPacket o p s = .next (((o.body p (bodyFrom p s)).st.finish p o.opcode (o.body p (bodyFrom p s)).status
      (o.body p (bodyFrom p s)).payload false).settle) := by
  simp only [runsNow, Bool.and_eq_true, Bool.not_eq_true', Option.isNone_iff_eq_none] at h
  obtain ⟨⟨⟨⟨⟨⟨hf, he⟩, hs⟩, hd⟩, hv⟩, hl⟩, -⟩ := h
  unfold bodyFrom
  unfold checkFrom at he hv hl ⊢
  unfold runPacket State.packet State.takePacket
  simp only [hf, he, Bool.not_true, Bool.false_eq_true, if_false]
  unfold OpSpec.accept
  simp only [hs, hd, Bool.false_eq_true, if_false]
  unfold OpSpec.execute
  simp only [hv, hl, Bool.not_true, Bool.false_eq_true, if_false]
  unfold OpSpec.run
  simp only [hc, Bool.false_and, Bool.and_false, Bool.false_eq_true, if_false]

/-- A packet row's description is a listed one. -/
theorem packetOf_listed {i : Instr} {o : OpSpec} {p : Packet} (h : packetOf i = some (o, p)) : o ∈ allSpecs := by
  cases i
  all_goals
    simp only [packetOf, Option.some.injEq, Prod.mk.injEq, reduceCtorEq] at h
    try
      obtain ⟨rfl, _⟩ := h
      simp only [allSpecs, specsSys, specsRef, specsAcd, specsOut, specsTic, specsGns, specsEth, specsTmg, specsSvc,
        specsKey, specsLog, specsFlt, specsMon, List.mem_append, List.mem_cons, true_or, or_true]

end Sys2Proof.Machine
end

