-- ==== Sys2Proof/WellFormed.lean ====
section
/-! DEFINITION. The commands that can be sent: a packet whose payload is as long as LEN says, and events that name units
the device has. -/

namespace Sys2Proof

/-- NANOSECONDS of a TAI96 value is at most 999,999,999 (R5). -/
def Tai.ok (t : Tai) : Bool := decide ((t.extractLsb' 16 32).toNat ≤ 999999999)

/-- A packet carries as many payload words as LEN says, and never more than its slot holds: 256 words of a ring, 8 of a
mailbox (R39, R51, R54); a greater LEN can be sent, and is answered BAD_LENGTH (R42). -/
def Packet.wf (p : Packet) : Bool :=
  p.payload.length == min p.len.toNat (if 0x10 ≤ p.source.toNat then 8 else 256)

/-- A slot number is 0 to 19 (R95). -/
def slotOk (n : BitVec 5) : Bool := decide (n.toNat < 20)

/-- A converter number is 0 to 35 (R181). -/
def convOk (n : BitVec 6) : Bool := decide (n.toNat < 36)

/-- A frame has at least one byte and lists at most 16,384 (R241, R248). -/
def RxFrame.wf (f : RxFrame) : Bool :=
  !f.bytes.isEmpty && decide (f.bytes.length ≤ 16384) && (f.more == 0 || f.bytes.length == 16384)

/-- A write of a master inside the device names one: the paths of M0, M1, M2 and M14 have forms of their own (R13, R38). -/
def BusWrite.wf : BusWrite → Bool
  | .inside m _ _ => m != 0 && m != 1 && m != 2 && m != 14
  | _ => true

/-- A read of a master inside the device names one (R13, R38). -/
def BusRead.wf : BusRead → Bool
  | .inside m _ => m != 0 && m != 1 && m != 2 && m != 14
  | _ => true

/-- The commands that can be sent. -/
def Instr.wf : Instr → Bool
  | .sysQueryState p => p.wf
  | .sysQueryCounters p => p.wf
  | .sysEcho p => p.wf
  | .sysSetState p => p.wf
  | .sysClearSafe p => p.wf
  | .sysDomainPower p => p.wf
  | .sysSleep p => p.wf
  | .sysWake p => p.wf
  | .sysReset p => p.wf
  | .sysFwStage p => p.wf
  | .sysFwActivate p => p.wf
  | .sysSetMbxRoute p => p.wf
  | .sysSetSemCfg p => p.wf
  | .sysSemForce p => p.wf
  | .sysRingConfig p => p.wf
  | .sysRingEnable p => p.wf
  | .sysIntRoute p => p.wf
  | .sysCancel p => p.wf
  | .sysBltUnlock p => p.wf
  | .sysBltSelect p => p.wf
  | .sysBistRun p => p.wf
  | .refQuerySlot p => p.wf
  | .refQueryMatrix p => p.wf
  | .refQueryHistory p => p.wf
  | .refSetSlot p => p.wf
  | .refSetQual p => p.wf
  | .refSetTimers p => p.wf
  | .refSetPriority p => p.wf
  | .refSelect p => p.wf
  | .refClearHistory p => p.wf
  | .refEnable p => p.wf
  | .refSetPtpSlave p => p.wf
  | .acdQueryTime p => p.wf
  | .acdQueryServo p => p.wf
  | .acdSetServo p => p.wf
  | .acdSetStepPolicy p => p.wf
  | .acdSetHold p => p.wf
  | .acdSetOscModel p => p.wf
  | .acdSetTime p => p.wf
  | .acdAdjustPhase p => p.wf
  | .acdSetUtc p => p.wf
  | .acdSetCpllSource p => p.wf
  | .acdEnterDrydown p => p.wf
  | .acdSetMaceration p => p.wf
  | .outQueryStatus p => p.wf
  | .outQueryEcho p => p.wf
  | .outSetSyn p => p.wf
  | .outSetOutput p => p.wf
  | .outSync p => p.wf
  | .outSetTp p => p.wf
  | .outSetTod p => p.wf
  | .outEchoMeasure p => p.wf
  | .outSetDelay p => p.wf
  | .outEnable p => p.wf
  | .ticQueryChannel p => p.wf
  | .ticQueryCal p => p.wf
  | .ticSetChannel p => p.wf
  | .ticStartInterval p => p.wf
  | .ticStream p => p.wf
  | .ticCalibrate p => p.wf
  | .ticSubstitute p => p.wf
  | .ticSetDelay p => p.wf
  | .gnsQueryStatus p => p.wf
  | .gnsQuerySolution p => p.wf
  | .gnsSetPort p => p.wf
  | .gnsSetNotch p => p.wf
  | .gnsAcquire p => p.wf
  | .gnsTrack p => p.wf
  | .gnsRelease p => p.wf
  | .gnsSetLatch p => p.wf
  | .gnsSnapshot p => p.wf
  | .gnsSetAntenna p => p.wf
  | .gnsSetCheck p => p.wf
  | .gnsSpareBank p => p.wf
  | .ethQueryLane p => p.wf
  | .ethQueryDelay p => p.wf
  | .ethSetQuadMode p => p.wf
  | .ethSetLane p => p.wf
  | .ethSetDelay p => p.wf
  | .ethSetCapture p => p.wf
  | .ethSetClassifier p => p.wf
  | .ethLaneEnable p => p.wf
  | .ethSetTags p => p.wf
  | .tmgQueryQueue p => p.wf
  | .tmgQueryGcl p => p.wf
  | .tmgSetGcl p => p.wf
  | .tmgSwapGcl p => p.wf
  | .tmgSetShaper p => p.wf
  | .tmgSetPolicer p => p.wf
  | .tmgSetFilter p => p.wf
  | .tmgSetSampling p => p.wf
  | .svcQueryStatus p => p.wf
  | .svcQueryClient p => p.wf
  | .svcSetPtpPort p => p.wf
  | .svcSetProfile p => p.wf
  | .svcSetAuth p => p.wf
  | .svcSetNtp p => p.wf
  | .svcLoadCookieKey p => p.wf
  | .svcRetireCookieKey p => p.wf
  | .svcSetGate p => p.wf
  | .svcSetRateLimit p => p.wf
  | .svcClientFlush p => p.wf
  | .svcSetBoundTlv p => p.wf
  | .keyQuerySlots p => p.wf
  | .keyQueryEpoch p => p.wf
  | .keyLoadFlacon p => p.wf
  | .keyWrap p => p.wf
  | .keyDerive p => p.wf
  | .keyZero p => p.wf
  | .keyEpochUpdate p => p.wf
  | .keyAttest p => p.wf
  | .keyProvision p => p.wf
  | .keyLcAdvance p => p.wf
  | .keyDebugEnter p => p.wf
  | .keyDebugExit p => p.wf
  | .logQueryStatus p => p.wf
  | .logQueryHead p => p.wf
  | .logExportAck p => p.wf
  | .logSetExport p => p.wf
  | .logCheckpoint p => p.wf
  | .logNote p => p.wf
  | .fltQuery p => p.wf
  | .fltSetClass p => p.wf
  | .fltClear p => p.wf
  | .fltInject p => p.wf
  | .pairQuery p => p.wf
  | .pairSetMode p => p.wf
  | .pairSetClaim p => p.wf
  | .pairHandover p => p.wf
  | .pairSetCompare p => p.wf
  | .pairRejoin p => p.wf
  | .monQuery p => p.wf
  | .keepQuery p => p.wf
  | .calQuery p => p.wf
  | .monSetLimits p => p.wf
  | .monSetMains p => p.wf
  | .keepScrub p => p.wf
  | .calSetTime p => p.wf
  | .calSetTrim p => p.wf
  | .calSetTamper p => p.wf
  | .scheduledCommandDue _ => true
  | .replyDelivery _ => true
  | .ringProdWrite _ _ _ _ => true
  | .ringConsWrite _ _ _ _ => true
  | .ringSlotWrite _ _ => true
  | .txDescriptorFetch _ _ desc _ => desc.length == 8
  | .msiModerationTimer _ _ => true
  | .mbxSend _ _ _ => true
  | .mbxDeliver _ _ => true
  | .mbxTake _ _ _ => true
  | .semRead _ _ _ => true
  | .semRelease _ _ _ => true
  | .queuePop _ x => x.wf
  | .rcCounterRead _ x => x.wf
  | .shadowLatchRead _ x => x.wf
  | .intStatusW1c _ x => x.wf
  | .registerWrite _ x => x.wf
  | .pcieUnsupportedAccess _ _ _ _ => true
  | .acdSteerWrite _ _ _ => true
  | .gnsNcoWrite _ _ _ _ _ _ => true
  | .gnsTrkStateWrite _ _ _ _ _ _ _ _ => true
  | .gnsNavPush _ _ _ _ _ => true
  | .gnsSolWrite _ _ _ _ _ _ _ => true
  | .porNAssert _ _ => true
  | .railMonitorReset _ _ => true
  | .resetNAssert _ _ => true
  | .resetRelease _ => true
  | .strapSample _ => true
  | .engineBootPowerStart _ => true
  | .bootImageCheck _ _ _ => true
  | .bootComplete _ _ => true
  | .autoRun _ => true
  | .domainReady _ d _ => decide (d.toNat < 13)
  | .domainOff _ d => decide (d.toNat < 13)
  | .wakeNEdge _ => true
  | .wakeComplete _ _ => true
  | .perstNAssert _ _ => true
  | .pcieFlr _ => true
  | .pcieLinkLoss _ => true
  | .accordSeed _ => true
  | .ocxoPresent _ => true
  | .cpllLock _ => true
  | .cpllLoss _ => true
  | .macerationEnd _ => true
  | .ebPublication _ => true
  | .timeBusApply _ => true
  | .timeBusCheck _ _ _ => true
  | .bridgeClockLoss _ => true
  | .timeBusError _ => true
  | .bridgeMeasure _ _ => true
  | .servoTimeout _ => true
  | .accordReEntry _ => true
  | .leapApply _ => true
  | .faultAssert _ _ _ => true
  | .collectorSelfFail _ => true
  | .wardenWdogExpiry _ => true
  | .refEdge _ slot _ _ => slotOk slot
  | .refTodMessage _ slot _ _ => decide (slot.toNat < 12)
  | .refOffsetDelivery _ _ slot _ _ => slotOk slot
  | .refLosTimeout _ slot => slotOk slot
  | .holdoffExpiry _ slot => slotOk slot
  | .waitExpiry _ slot => slotOk slot
  | .refSelectTick _ => true
  | .ptpAnnounceTimeout _ _ => true
  | .gnssClkLoss _ _ => true
  | .gnssClkMeasure _ _ => true
  | .notchDetect _ _ => true
  | .notchRelease _ _ => true
  | .jamWarnChange _ _ _ => true
  | .acqPass _ _ ps => ps.all fun x => decide (x.code.toNat < 16 * 1023)
  | .gnsTrackStart _ _ _ => true
  | .gnsDump _ _ _ accum => accum.length == 10
  | .gnsLatch _ _ _ => true
  | .gnsSolTimeout _ => true
  | .snapshotStart _ _ => true
  | .snapshotDone _ _ => true
  | .ticEdge _ _ _ _ _ _ => true
  | .ticPresenceTimeout _ _ => true
  | .ticIntervalTimeout _ _ => true
  | .ticCoarseWrap _ => true
  | .ticWarmupEnd _ c => convOk c
  | .ticCalDone _ c _ _ _ _ points => convOk c && points.length == 64
  | .ticRecalTrigger _ c => convOk c
  | .ticSubstHandover _ _ => true
  | .ticEticUpdate _ => true
  | .synLock _ _ => true
  | .synUnlock _ _ => true
  | .outputStart _ _ => true
  | .alignerCompare _ _ _ => true
  | .glideEnd _ _ => true
  | .alignHoldTimer _ _ => true
  | .outSyncExecute _ => true
  | .tpPulse _ _ => true
  | .tpPulseEnd _ _ => true
  | .todMessage _ _ => true
  | .echoDone _ _ _ _ => true
  | .frameReceive _ _ _ f => f.wf
  | .frameRelease _ _ _ => true
  | .txComplete _ _ => true
  | .linkUp _ _ _ => true
  | .linkDown _ _ => true
  | .quadReady _ _ => true
  | .captureIntervalOpen _ _ => true
  | .captureIntervalTimeout _ _ => true
  | .captureRootReady _ _ => true
  | .captureSuperRoot _ _ => true
  | .captureLossRecord _ _ => true
  | .captureResume _ _ => true
  | .gateEntryChange _ _ => true
  | .gclSwap _ _ => true
  | .shaperUpdate _ => true
  | .policerAccrue _ => true
  | .queueSample _ => true
  | .commitSlotCheck _ _ => true
  | .commitDecision _ _ _ => true
  | .ptpDelayReq _ _ _ _ => true
  | .ptpUnicastRequest _ _ _ => true
  | .ptpUnicastCancel _ _ _ => true
  | .ntpRequest _ _ _ _ => true
  | .ntsRequest _ _ _ _ => true
  | .ptpSyncInterval _ _ _ => true
  | .ptpFollowUp _ _ => true
  | .ptpAnnounceInterval _ _ _ => true
  | .grantExpiry _ _ _ => true
  | .keyRoll _ _ => true
  | .acceptOldExpiry _ _ => true
  | .clientAgeExpiry _ _ => true
  | .logSecondTick _ _ => true
  | .logSignatureDone _ _ _ => true
  | .keyOperationDone _ _ => true
  | .tamperAssert _ _ _ => true
  | .benitTimingFrameSend _ => true
  | .benitTimingFrame _ _ _ f => f.time.ok && f.outs.all fun o => decide (o.target.toNat < 22) && o.anchor.ok
  | .benitSafeNotice _ => true
  | .benitOutBadNotice _ target _ => decide (target.toNat < 20)
  | .benitHandoverNotice _ at_ => at_.ok
  | .benitRejoinNotice _ => true
  | .benitLinkUp _ _ _ => true
  | .benitLinkLoss _ => true
  | .pairFirstClaim _ => true
  | .claimRoundStart _ => true
  | .claimSofDetect _ => true
  | .claimRoundEnd _ _ _ _ => true
  | .handoverInstant _ => true
  | .ownLeaseLapse _ => true
  | .pairHandoverExecute _ => true
  | .pairCompareWindow _ _ => true
  | .healthBitSet _ b => decide (b.toNat < 6)
  | .standbyCalTest _ _ => true
  | .supplySample _ mv => mv.length == 8
  | .supplyWarningChange _ _ => true
  | .tempSample _ t => t.length == 6
  | .mainsHalfCycle _ uv => decide (uv.toNat ≤ 1000000)
  | .mainsCrossing _ _ => true
  | .mainsGapTimeout _ => true
  | .mainsRangeTimer _ => true
  | .pfwPinChange _ _ => true
  | .pfwClear _ => true
  | .rtcStop _ => true
  | .calSync _ => true
  | .calAutoTrim _ => true
  | .keepAutoScrub _ => true
  | .keepScrubDone _ _ => true
  | .fwStageDone _ _ _ _ => true
  | .bistDone _ _ => true
  | .tapInstruction _ _ => true
  | .unlistedOpcode _ p => p.wf
  | .gnssClkPresent _ => true
  | .atomPresent _ => true
  | .oscillatorAbsent _ _ => true
  | .pcieLinkUp _ => true
  | .dmaTransferError _ _ _ => true
  | .ringStallTimeout _ _ => true
  | .benitLaneDown _ _ => true
  | .pdVbatPowerLoss _ => true
  | .tapTestLogicReset _ => true
  | .collectorSelfRecover _ => true
  | .gnssFeEnLead _ => true
  | .ptpSlaveMessage _ _ _ _ => true

end Sys2Proof
end

