-- ==== Sys2Proof/Laws/PerInstr.lean ====
section
/-! SUPPORT. One lemma per command: what a well-formed packet carries. -/

namespace Sys2Proof.Laws.Fields

open Sys2Proof.Machine

/-- A command that is a well-formed packet carries as many payload words as its LEN says, and never more than 256, or 8 from a
mailbox (R39, R54). -/
def Statement (i : Instr) : Prop :=
  i.wf = true → ∀ o p, packetOf i = some (o, p) → p.payload.length = min p.len.toNat (if 0x10 ≤ p.source.toNat then 8 else 256)

/-- A well-formed packet's payload. -/
theorem payload {p : Packet} (h : p.wf = true) : p.payload.length = min p.len.toNat (if 0x10 ≤ p.source.toNat then 8 else 256) := by
  unfold Packet.wf at h
  exact beq_iff_eq.mp h

/-- A packet row's statement. -/
theorem packet {i : Instr} {o : OpSpec} {p : Packet} (hp : packetOf i = some (o, p)) (hw : i.wf = p.wf) :
    Statement i := by
  intro h o' p' h'
  rw [hp] at h'
  cases h'
  exact payload (hw ▸ h)

/-- An event's statement. -/
theorem event {i : Instr} (hp : packetOf i = none) : Statement i := by
  intro _ o p h
  rw [hp] at h
  cases h

theorem sysQueryState : ∀ x0, Statement (.sysQueryState x0) :=
  fun _ => packet (o := specSysQueryState) rfl rfl

theorem sysQueryCounters : ∀ x0, Statement (.sysQueryCounters x0) :=
  fun _ => packet (o := specSysQueryCounters) rfl rfl

theorem sysEcho : ∀ x0, Statement (.sysEcho x0) :=
  fun _ => packet (o := specSysEcho) rfl rfl

theorem sysSetState : ∀ x0, Statement (.sysSetState x0) :=
  fun _ => packet (o := specSysSetState) rfl rfl

theorem sysClearSafe : ∀ x0, Statement (.sysClearSafe x0) :=
  fun _ => packet (o := specSysClearSafe) rfl rfl

theorem sysDomainPower : ∀ x0, Statement (.sysDomainPower x0) :=
  fun _ => packet (o := specSysDomainPower) rfl rfl

theorem sysSleep : ∀ x0, Statement (.sysSleep x0) :=
  fun _ => packet (o := specSysSleep) rfl rfl

theorem sysWake : ∀ x0, Statement (.sysWake x0) :=
  fun _ => packet (o := specSysWake) rfl rfl

theorem sysReset : ∀ x0, Statement (.sysReset x0) :=
  fun _ => packet (o := specSysReset) rfl rfl

theorem sysFwStage : ∀ x0, Statement (.sysFwStage x0) :=
  fun _ => packet (o := specSysFwStage) rfl rfl

theorem sysFwActivate : ∀ x0, Statement (.sysFwActivate x0) :=
  fun _ => packet (o := specSysFwActivate) rfl rfl

theorem sysSetMbxRoute : ∀ x0, Statement (.sysSetMbxRoute x0) :=
  fun _ => packet (o := specSysSetMbxRoute) rfl rfl

theorem sysSetSemCfg : ∀ x0, Statement (.sysSetSemCfg x0) :=
  fun _ => packet (o := specSysSetSemCfg) rfl rfl

theorem sysSemForce : ∀ x0, Statement (.sysSemForce x0) :=
  fun _ => packet (o := specSysSemForce) rfl rfl

theorem sysRingConfig : ∀ x0, Statement (.sysRingConfig x0) :=
  fun _ => packet (o := specSysRingConfig) rfl rfl

theorem sysRingEnable : ∀ x0, Statement (.sysRingEnable x0) :=
  fun _ => packet (o := specSysRingEnable) rfl rfl

theorem sysIntRoute : ∀ x0, Statement (.sysIntRoute x0) :=
  fun _ => packet (o := specSysIntRoute) rfl rfl

theorem sysCancel : ∀ x0, Statement (.sysCancel x0) :=
  fun _ => packet (o := specSysCancel) rfl rfl

theorem sysBltUnlock : ∀ x0, Statement (.sysBltUnlock x0) :=
  fun _ => packet (o := specSysBltUnlock) rfl rfl

theorem sysBltSelect : ∀ x0, Statement (.sysBltSelect x0) :=
  fun _ => packet (o := specSysBltSelect) rfl rfl

theorem sysBistRun : ∀ x0, Statement (.sysBistRun x0) :=
  fun _ => packet (o := specSysBistRun) rfl rfl

theorem refQuerySlot : ∀ x0, Statement (.refQuerySlot x0) :=
  fun _ => packet (o := specRefQuerySlot) rfl rfl

theorem refQueryMatrix : ∀ x0, Statement (.refQueryMatrix x0) :=
  fun _ => packet (o := specRefQueryMatrix) rfl rfl

theorem refQueryHistory : ∀ x0, Statement (.refQueryHistory x0) :=
  fun _ => packet (o := specRefQueryHistory) rfl rfl

theorem refSetSlot : ∀ x0, Statement (.refSetSlot x0) :=
  fun _ => packet (o := specRefSetSlot) rfl rfl

theorem refSetQual : ∀ x0, Statement (.refSetQual x0) :=
  fun _ => packet (o := specRefSetQual) rfl rfl

theorem refSetTimers : ∀ x0, Statement (.refSetTimers x0) :=
  fun _ => packet (o := specRefSetTimers) rfl rfl

theorem refSetPriority : ∀ x0, Statement (.refSetPriority x0) :=
  fun _ => packet (o := specRefSetPriority) rfl rfl

theorem refSelect : ∀ x0, Statement (.refSelect x0) :=
  fun _ => packet (o := specRefSelect) rfl rfl

theorem refClearHistory : ∀ x0, Statement (.refClearHistory x0) :=
  fun _ => packet (o := specRefClearHistory) rfl rfl

theorem refEnable : ∀ x0, Statement (.refEnable x0) :=
  fun _ => packet (o := specRefEnable) rfl rfl

theorem refSetPtpSlave : ∀ x0, Statement (.refSetPtpSlave x0) :=
  fun _ => packet (o := specRefSetPtpSlave) rfl rfl

theorem acdQueryTime : ∀ x0, Statement (.acdQueryTime x0) :=
  fun _ => packet (o := specAcdQueryTime) rfl rfl

theorem acdQueryServo : ∀ x0, Statement (.acdQueryServo x0) :=
  fun _ => packet (o := specAcdQueryServo) rfl rfl

theorem acdSetServo : ∀ x0, Statement (.acdSetServo x0) :=
  fun _ => packet (o := specAcdSetServo) rfl rfl

theorem acdSetStepPolicy : ∀ x0, Statement (.acdSetStepPolicy x0) :=
  fun _ => packet (o := specAcdSetStepPolicy) rfl rfl

theorem acdSetHold : ∀ x0, Statement (.acdSetHold x0) :=
  fun _ => packet (o := specAcdSetHold) rfl rfl

theorem acdSetOscModel : ∀ x0, Statement (.acdSetOscModel x0) :=
  fun _ => packet (o := specAcdSetOscModel) rfl rfl

theorem acdSetTime : ∀ x0, Statement (.acdSetTime x0) :=
  fun _ => packet (o := specAcdSetTime) rfl rfl

theorem acdAdjustPhase : ∀ x0, Statement (.acdAdjustPhase x0) :=
  fun _ => packet (o := specAcdAdjustPhase) rfl rfl

theorem acdSetUtc : ∀ x0, Statement (.acdSetUtc x0) :=
  fun _ => packet (o := specAcdSetUtc) rfl rfl

theorem acdSetCpllSource : ∀ x0, Statement (.acdSetCpllSource x0) :=
  fun _ => packet (o := specAcdSetCpllSource) rfl rfl

theorem acdEnterDrydown : ∀ x0, Statement (.acdEnterDrydown x0) :=
  fun _ => packet (o := specAcdEnterDrydown) rfl rfl

theorem acdSetMaceration : ∀ x0, Statement (.acdSetMaceration x0) :=
  fun _ => packet (o := specAcdSetMaceration) rfl rfl

theorem outQueryStatus : ∀ x0, Statement (.outQueryStatus x0) :=
  fun _ => packet (o := specOutQueryStatus) rfl rfl

theorem outQueryEcho : ∀ x0, Statement (.outQueryEcho x0) :=
  fun _ => packet (o := specOutQueryEcho) rfl rfl

theorem outSetSyn : ∀ x0, Statement (.outSetSyn x0) :=
  fun _ => packet (o := specOutSetSyn) rfl rfl

theorem outSetOutput : ∀ x0, Statement (.outSetOutput x0) :=
  fun _ => packet (o := specOutSetOutput) rfl rfl

theorem outSync : ∀ x0, Statement (.outSync x0) :=
  fun _ => packet (o := specOutSync) rfl rfl

theorem outSetTp : ∀ x0, Statement (.outSetTp x0) :=
  fun _ => packet (o := specOutSetTp) rfl rfl

theorem outSetTod : ∀ x0, Statement (.outSetTod x0) :=
  fun _ => packet (o := specOutSetTod) rfl rfl

theorem outEchoMeasure : ∀ x0, Statement (.outEchoMeasure x0) :=
  fun _ => packet (o := specOutEchoMeasure) rfl rfl

theorem outSetDelay : ∀ x0, Statement (.outSetDelay x0) :=
  fun _ => packet (o := specOutSetDelay) rfl rfl

theorem outEnable : ∀ x0, Statement (.outEnable x0) :=
  fun _ => packet (o := specOutEnable) rfl rfl

theorem ticQueryChannel : ∀ x0, Statement (.ticQueryChannel x0) :=
  fun _ => packet (o := specTicQueryChannel) rfl rfl

theorem ticQueryCal : ∀ x0, Statement (.ticQueryCal x0) :=
  fun _ => packet (o := specTicQueryCal) rfl rfl

theorem ticSetChannel : ∀ x0, Statement (.ticSetChannel x0) :=
  fun _ => packet (o := specTicSetChannel) rfl rfl

theorem ticStartInterval : ∀ x0, Statement (.ticStartInterval x0) :=
  fun _ => packet (o := specTicStartInterval) rfl rfl

theorem ticStream : ∀ x0, Statement (.ticStream x0) :=
  fun _ => packet (o := specTicStream) rfl rfl

theorem ticCalibrate : ∀ x0, Statement (.ticCalibrate x0) :=
  fun _ => packet (o := specTicCalibrate) rfl rfl

theorem ticSubstitute : ∀ x0, Statement (.ticSubstitute x0) :=
  fun _ => packet (o := specTicSubstitute) rfl rfl

theorem ticSetDelay : ∀ x0, Statement (.ticSetDelay x0) :=
  fun _ => packet (o := specTicSetDelay) rfl rfl

theorem gnsQueryStatus : ∀ x0, Statement (.gnsQueryStatus x0) :=
  fun _ => packet (o := specGnsQueryStatus) rfl rfl

theorem gnsQuerySolution : ∀ x0, Statement (.gnsQuerySolution x0) :=
  fun _ => packet (o := specGnsQuerySolution) rfl rfl

theorem gnsSetPort : ∀ x0, Statement (.gnsSetPort x0) :=
  fun _ => packet (o := specGnsSetPort) rfl rfl

theorem gnsSetNotch : ∀ x0, Statement (.gnsSetNotch x0) :=
  fun _ => packet (o := specGnsSetNotch) rfl rfl

theorem gnsAcquire : ∀ x0, Statement (.gnsAcquire x0) :=
  fun _ => packet (o := specGnsAcquire) rfl rfl

theorem gnsTrack : ∀ x0, Statement (.gnsTrack x0) :=
  fun _ => packet (o := specGnsTrack) rfl rfl

theorem gnsRelease : ∀ x0, Statement (.gnsRelease x0) :=
  fun _ => packet (o := specGnsRelease) rfl rfl

theorem gnsSetLatch : ∀ x0, Statement (.gnsSetLatch x0) :=
  fun _ => packet (o := specGnsSetLatch) rfl rfl

theorem gnsSnapshot : ∀ x0, Statement (.gnsSnapshot x0) :=
  fun _ => packet (o := specGnsSnapshot) rfl rfl

theorem gnsSetAntenna : ∀ x0, Statement (.gnsSetAntenna x0) :=
  fun _ => packet (o := specGnsSetAntenna) rfl rfl

theorem gnsSetCheck : ∀ x0, Statement (.gnsSetCheck x0) :=
  fun _ => packet (o := specGnsSetCheck) rfl rfl

theorem gnsSpareBank : ∀ x0, Statement (.gnsSpareBank x0) :=
  fun _ => packet (o := specGnsSpareBank) rfl rfl

theorem ethQueryLane : ∀ x0, Statement (.ethQueryLane x0) :=
  fun _ => packet (o := specEthQueryLane) rfl rfl

theorem ethQueryDelay : ∀ x0, Statement (.ethQueryDelay x0) :=
  fun _ => packet (o := specEthQueryDelay) rfl rfl

theorem ethSetQuadMode : ∀ x0, Statement (.ethSetQuadMode x0) :=
  fun _ => packet (o := specEthSetQuadMode) rfl rfl

theorem ethSetLane : ∀ x0, Statement (.ethSetLane x0) :=
  fun _ => packet (o := specEthSetLane) rfl rfl

theorem ethSetDelay : ∀ x0, Statement (.ethSetDelay x0) :=
  fun _ => packet (o := specEthSetDelay) rfl rfl

theorem ethSetCapture : ∀ x0, Statement (.ethSetCapture x0) :=
  fun _ => packet (o := specEthSetCapture) rfl rfl

theorem ethSetClassifier : ∀ x0, Statement (.ethSetClassifier x0) :=
  fun _ => packet (o := specEthSetClassifier) rfl rfl

theorem ethLaneEnable : ∀ x0, Statement (.ethLaneEnable x0) :=
  fun _ => packet (o := specEthLaneEnable) rfl rfl

theorem ethSetTags : ∀ x0, Statement (.ethSetTags x0) :=
  fun _ => packet (o := specEthSetTags) rfl rfl

theorem tmgQueryQueue : ∀ x0, Statement (.tmgQueryQueue x0) :=
  fun _ => packet (o := specTmgQueryQueue) rfl rfl

theorem tmgQueryGcl : ∀ x0, Statement (.tmgQueryGcl x0) :=
  fun _ => packet (o := specTmgQueryGcl) rfl rfl

theorem tmgSetGcl : ∀ x0, Statement (.tmgSetGcl x0) :=
  fun _ => packet (o := specTmgSetGcl) rfl rfl

theorem tmgSwapGcl : ∀ x0, Statement (.tmgSwapGcl x0) :=
  fun _ => packet (o := specTmgSwapGcl) rfl rfl

theorem tmgSetShaper : ∀ x0, Statement (.tmgSetShaper x0) :=
  fun _ => packet (o := specTmgSetShaper) rfl rfl

theorem tmgSetPolicer : ∀ x0, Statement (.tmgSetPolicer x0) :=
  fun _ => packet (o := specTmgSetPolicer) rfl rfl

theorem tmgSetFilter : ∀ x0, Statement (.tmgSetFilter x0) :=
  fun _ => packet (o := specTmgSetFilter) rfl rfl

theorem tmgSetSampling : ∀ x0, Statement (.tmgSetSampling x0) :=
  fun _ => packet (o := specTmgSetSampling) rfl rfl

theorem svcQueryStatus : ∀ x0, Statement (.svcQueryStatus x0) :=
  fun _ => packet (o := specSvcQueryStatus) rfl rfl

theorem svcQueryClient : ∀ x0, Statement (.svcQueryClient x0) :=
  fun _ => packet (o := specSvcQueryClient) rfl rfl

theorem svcSetPtpPort : ∀ x0, Statement (.svcSetPtpPort x0) :=
  fun _ => packet (o := specSvcSetPtpPort) rfl rfl

theorem svcSetProfile : ∀ x0, Statement (.svcSetProfile x0) :=
  fun _ => packet (o := specSvcSetProfile) rfl rfl

theorem svcSetAuth : ∀ x0, Statement (.svcSetAuth x0) :=
  fun _ => packet (o := specSvcSetAuth) rfl rfl

theorem svcSetNtp : ∀ x0, Statement (.svcSetNtp x0) :=
  fun _ => packet (o := specSvcSetNtp) rfl rfl

theorem svcLoadCookieKey : ∀ x0, Statement (.svcLoadCookieKey x0) :=
  fun _ => packet (o := specSvcLoadCookieKey) rfl rfl

theorem svcRetireCookieKey : ∀ x0, Statement (.svcRetireCookieKey x0) :=
  fun _ => packet (o := specSvcRetireCookieKey) rfl rfl

theorem svcSetGate : ∀ x0, Statement (.svcSetGate x0) :=
  fun _ => packet (o := specSvcSetGate) rfl rfl

theorem svcSetRateLimit : ∀ x0, Statement (.svcSetRateLimit x0) :=
  fun _ => packet (o := specSvcSetRateLimit) rfl rfl

theorem svcClientFlush : ∀ x0, Statement (.svcClientFlush x0) :=
  fun _ => packet (o := specSvcClientFlush) rfl rfl

theorem svcSetBoundTlv : ∀ x0, Statement (.svcSetBoundTlv x0) :=
  fun _ => packet (o := specSvcSetBoundTlv) rfl rfl

theorem keyQuerySlots : ∀ x0, Statement (.keyQuerySlots x0) :=
  fun _ => packet (o := specKeyQuerySlots) rfl rfl

theorem keyQueryEpoch : ∀ x0, Statement (.keyQueryEpoch x0) :=
  fun _ => packet (o := specKeyQueryEpoch) rfl rfl

theorem keyLoadFlacon : ∀ x0, Statement (.keyLoadFlacon x0) :=
  fun _ => packet (o := specKeyLoadFlacon) rfl rfl

theorem keyWrap : ∀ x0, Statement (.keyWrap x0) :=
  fun _ => packet (o := specKeyWrap) rfl rfl

theorem keyDerive : ∀ x0, Statement (.keyDerive x0) :=
  fun _ => packet (o := specKeyDerive) rfl rfl

theorem keyZero : ∀ x0, Statement (.keyZero x0) :=
  fun _ => packet (o := specKeyZero) rfl rfl

theorem keyEpochUpdate : ∀ x0, Statement (.keyEpochUpdate x0) :=
  fun _ => packet (o := specKeyEpochUpdate) rfl rfl

theorem keyAttest : ∀ x0, Statement (.keyAttest x0) :=
  fun _ => packet (o := specKeyAttest) rfl rfl

theorem keyProvision : ∀ x0, Statement (.keyProvision x0) :=
  fun _ => packet (o := specKeyProvision) rfl rfl

theorem keyLcAdvance : ∀ x0, Statement (.keyLcAdvance x0) :=
  fun _ => packet (o := specKeyLcAdvance) rfl rfl

theorem keyDebugEnter : ∀ x0, Statement (.keyDebugEnter x0) :=
  fun _ => packet (o := specKeyDebugEnter) rfl rfl

theorem keyDebugExit : ∀ x0, Statement (.keyDebugExit x0) :=
  fun _ => packet (o := specKeyDebugExit) rfl rfl

theorem logQueryStatus : ∀ x0, Statement (.logQueryStatus x0) :=
  fun _ => packet (o := specLogQueryStatus) rfl rfl

theorem logQueryHead : ∀ x0, Statement (.logQueryHead x0) :=
  fun _ => packet (o := specLogQueryHead) rfl rfl

theorem logExportAck : ∀ x0, Statement (.logExportAck x0) :=
  fun _ => packet (o := specLogExportAck) rfl rfl

theorem logSetExport : ∀ x0, Statement (.logSetExport x0) :=
  fun _ => packet (o := specLogSetExport) rfl rfl

theorem logCheckpoint : ∀ x0, Statement (.logCheckpoint x0) :=
  fun _ => packet (o := specLogCheckpoint) rfl rfl

theorem logNote : ∀ x0, Statement (.logNote x0) :=
  fun _ => packet (o := specLogNote) rfl rfl

theorem fltQuery : ∀ x0, Statement (.fltQuery x0) :=
  fun _ => packet (o := specFltQuery) rfl rfl

theorem fltSetClass : ∀ x0, Statement (.fltSetClass x0) :=
  fun _ => packet (o := specFltSetClass) rfl rfl

theorem fltClear : ∀ x0, Statement (.fltClear x0) :=
  fun _ => packet (o := specFltClear) rfl rfl

theorem fltInject : ∀ x0, Statement (.fltInject x0) :=
  fun _ => packet (o := specFltInject) rfl rfl

theorem pairQuery : ∀ x0, Statement (.pairQuery x0) :=
  fun _ => packet (o := specPairQuery) rfl rfl

theorem pairSetMode : ∀ x0, Statement (.pairSetMode x0) :=
  fun _ => packet (o := specPairSetMode) rfl rfl

theorem pairSetClaim : ∀ x0, Statement (.pairSetClaim x0) :=
  fun _ => packet (o := specPairSetClaim) rfl rfl

theorem pairHandover : ∀ x0, Statement (.pairHandover x0) :=
  fun _ => packet (o := specPairHandover) rfl rfl

theorem pairSetCompare : ∀ x0, Statement (.pairSetCompare x0) :=
  fun _ => packet (o := specPairSetCompare) rfl rfl

theorem pairRejoin : ∀ x0, Statement (.pairRejoin x0) :=
  fun _ => packet (o := specPairRejoin) rfl rfl

theorem monQuery : ∀ x0, Statement (.monQuery x0) :=
  fun _ => packet (o := specMonQuery) rfl rfl

theorem keepQuery : ∀ x0, Statement (.keepQuery x0) :=
  fun _ => packet (o := specKeepQuery) rfl rfl

theorem calQuery : ∀ x0, Statement (.calQuery x0) :=
  fun _ => packet (o := specCalQuery) rfl rfl

theorem monSetLimits : ∀ x0, Statement (.monSetLimits x0) :=
  fun _ => packet (o := specMonSetLimits) rfl rfl

theorem monSetMains : ∀ x0, Statement (.monSetMains x0) :=
  fun _ => packet (o := specMonSetMains) rfl rfl

theorem keepScrub : ∀ x0, Statement (.keepScrub x0) :=
  fun _ => packet (o := specKeepScrub) rfl rfl

theorem calSetTime : ∀ x0, Statement (.calSetTime x0) :=
  fun _ => packet (o := specCalSetTime) rfl rfl

theorem calSetTrim : ∀ x0, Statement (.calSetTrim x0) :=
  fun _ => packet (o := specCalSetTrim) rfl rfl

theorem calSetTamper : ∀ x0, Statement (.calSetTamper x0) :=
  fun _ => packet (o := specCalSetTamper) rfl rfl

theorem scheduledCommandDue : ∀ x0, Statement (.scheduledCommandDue x0) :=
  fun _ => event rfl

theorem replyDelivery : ∀ x0, Statement (.replyDelivery x0) :=
  fun _ => event rfl

theorem ringProdWrite : ∀ x0 x1 x2 x3, Statement (.ringProdWrite x0 x1 x2 x3) :=
  fun _ _ _ _ => event rfl

theorem ringConsWrite : ∀ x0 x1 x2 x3, Statement (.ringConsWrite x0 x1 x2 x3) :=
  fun _ _ _ _ => event rfl

theorem ringSlotWrite : ∀ x0 x1, Statement (.ringSlotWrite x0 x1) :=
  fun _ _ => event rfl

theorem txDescriptorFetch : ∀ x0 x1 x2 x3, Statement (.txDescriptorFetch x0 x1 x2 x3) :=
  fun _ _ _ _ => event rfl

theorem msiModerationTimer : ∀ x0 x1, Statement (.msiModerationTimer x0 x1) :=
  fun _ _ => event rfl

theorem mbxSend : ∀ x0 x1 x2, Statement (.mbxSend x0 x1 x2) :=
  fun _ _ _ => event rfl

theorem mbxDeliver : ∀ x0 x1, Statement (.mbxDeliver x0 x1) :=
  fun _ _ => event rfl

theorem mbxTake : ∀ x0 x1 x2, Statement (.mbxTake x0 x1 x2) :=
  fun _ _ _ => event rfl

theorem semRead : ∀ x0 x1 x2, Statement (.semRead x0 x1 x2) :=
  fun _ _ _ => event rfl

theorem semRelease : ∀ x0 x1 x2, Statement (.semRelease x0 x1 x2) :=
  fun _ _ _ => event rfl

theorem queuePop : ∀ x0 x1, Statement (.queuePop x0 x1) :=
  fun _ _ => event rfl

theorem rcCounterRead : ∀ x0 x1, Statement (.rcCounterRead x0 x1) :=
  fun _ _ => event rfl

theorem shadowLatchRead : ∀ x0 x1, Statement (.shadowLatchRead x0 x1) :=
  fun _ _ => event rfl

theorem intStatusW1c : ∀ x0 x1, Statement (.intStatusW1c x0 x1) :=
  fun _ _ => event rfl

theorem registerWrite : ∀ x0 x1, Statement (.registerWrite x0 x1) :=
  fun _ _ => event rfl

theorem pcieUnsupportedAccess : ∀ x0 x1 x2 x3, Statement (.pcieUnsupportedAccess x0 x1 x2 x3) :=
  fun _ _ _ _ => event rfl

theorem acdSteerWrite : ∀ x0 x1 x2, Statement (.acdSteerWrite x0 x1 x2) :=
  fun _ _ _ => event rfl

theorem gnsNcoWrite : ∀ x0 x1 x2 x3 x4 x5, Statement (.gnsNcoWrite x0 x1 x2 x3 x4 x5) :=
  fun _ _ _ _ _ _ => event rfl

theorem gnsTrkStateWrite : ∀ x0 x1 x2 x3 x4 x5 x6 x7, Statement (.gnsTrkStateWrite x0 x1 x2 x3 x4 x5 x6 x7) :=
  fun _ _ _ _ _ _ _ _ => event rfl

theorem gnsNavPush : ∀ x0 x1 x2 x3 x4, Statement (.gnsNavPush x0 x1 x2 x3 x4) :=
  fun _ _ _ _ _ => event rfl

theorem gnsSolWrite : ∀ x0 x1 x2 x3 x4 x5 x6, Statement (.gnsSolWrite x0 x1 x2 x3 x4 x5 x6) :=
  fun _ _ _ _ _ _ _ => event rfl

theorem porNAssert : ∀ x0 x1, Statement (.porNAssert x0 x1) :=
  fun _ _ => event rfl

theorem railMonitorReset : ∀ x0 x1, Statement (.railMonitorReset x0 x1) :=
  fun _ _ => event rfl

theorem resetNAssert : ∀ x0 x1, Statement (.resetNAssert x0 x1) :=
  fun _ _ => event rfl

theorem resetRelease : ∀ x0, Statement (.resetRelease x0) :=
  fun _ => event rfl

theorem strapSample : ∀ x0, Statement (.strapSample x0) :=
  fun _ => event rfl

theorem engineBootPowerStart : ∀ x0, Statement (.engineBootPowerStart x0) :=
  fun _ => event rfl

theorem bootImageCheck : ∀ x0 x1 x2, Statement (.bootImageCheck x0 x1 x2) :=
  fun _ _ _ => event rfl

theorem bootComplete : ∀ x0 x1, Statement (.bootComplete x0 x1) :=
  fun _ _ => event rfl

theorem autoRun : ∀ x0, Statement (.autoRun x0) :=
  fun _ => event rfl

theorem domainReady : ∀ x0 x1 x2, Statement (.domainReady x0 x1 x2) :=
  fun _ _ _ => event rfl

theorem domainOff : ∀ x0 x1, Statement (.domainOff x0 x1) :=
  fun _ _ => event rfl

theorem wakeNEdge : ∀ x0, Statement (.wakeNEdge x0) :=
  fun _ => event rfl

theorem wakeComplete : ∀ x0 x1, Statement (.wakeComplete x0 x1) :=
  fun _ _ => event rfl

theorem perstNAssert : ∀ x0 x1, Statement (.perstNAssert x0 x1) :=
  fun _ _ => event rfl

theorem pcieFlr : ∀ x0, Statement (.pcieFlr x0) :=
  fun _ => event rfl

theorem pcieLinkLoss : ∀ x0, Statement (.pcieLinkLoss x0) :=
  fun _ => event rfl

theorem accordSeed : ∀ x0, Statement (.accordSeed x0) :=
  fun _ => event rfl

theorem ocxoPresent : ∀ x0, Statement (.ocxoPresent x0) :=
  fun _ => event rfl

theorem cpllLock : ∀ x0, Statement (.cpllLock x0) :=
  fun _ => event rfl

theorem cpllLoss : ∀ x0, Statement (.cpllLoss x0) :=
  fun _ => event rfl

theorem macerationEnd : ∀ x0, Statement (.macerationEnd x0) :=
  fun _ => event rfl

theorem ebPublication : ∀ x0, Statement (.ebPublication x0) :=
  fun _ => event rfl

theorem timeBusApply : ∀ x0, Statement (.timeBusApply x0) :=
  fun _ => event rfl

theorem timeBusCheck : ∀ x0 x1 x2, Statement (.timeBusCheck x0 x1 x2) :=
  fun _ _ _ => event rfl

theorem bridgeClockLoss : ∀ x0, Statement (.bridgeClockLoss x0) :=
  fun _ => event rfl

theorem timeBusError : ∀ x0, Statement (.timeBusError x0) :=
  fun _ => event rfl

theorem bridgeMeasure : ∀ x0 x1, Statement (.bridgeMeasure x0 x1) :=
  fun _ _ => event rfl

theorem servoTimeout : ∀ x0, Statement (.servoTimeout x0) :=
  fun _ => event rfl

theorem accordReEntry : ∀ x0, Statement (.accordReEntry x0) :=
  fun _ => event rfl

theorem leapApply : ∀ x0, Statement (.leapApply x0) :=
  fun _ => event rfl

theorem faultAssert : ∀ x0 x1 x2, Statement (.faultAssert x0 x1 x2) :=
  fun _ _ _ => event rfl

theorem collectorSelfFail : ∀ x0, Statement (.collectorSelfFail x0) :=
  fun _ => event rfl

theorem wardenWdogExpiry : ∀ x0, Statement (.wardenWdogExpiry x0) :=
  fun _ => event rfl

theorem refEdge : ∀ x0 x1 x2 x3, Statement (.refEdge x0 x1 x2 x3) :=
  fun _ _ _ _ => event rfl

theorem refTodMessage : ∀ x0 x1 x2 x3, Statement (.refTodMessage x0 x1 x2 x3) :=
  fun _ _ _ _ => event rfl

theorem refOffsetDelivery : ∀ x0 x1 x2 x3 x4, Statement (.refOffsetDelivery x0 x1 x2 x3 x4) :=
  fun _ _ _ _ _ => event rfl

theorem refLosTimeout : ∀ x0 x1, Statement (.refLosTimeout x0 x1) :=
  fun _ _ => event rfl

theorem holdoffExpiry : ∀ x0 x1, Statement (.holdoffExpiry x0 x1) :=
  fun _ _ => event rfl

theorem waitExpiry : ∀ x0 x1, Statement (.waitExpiry x0 x1) :=
  fun _ _ => event rfl

theorem refSelectTick : ∀ x0, Statement (.refSelectTick x0) :=
  fun _ => event rfl

theorem ptpAnnounceTimeout : ∀ x0 x1, Statement (.ptpAnnounceTimeout x0 x1) :=
  fun _ _ => event rfl

theorem gnssClkLoss : ∀ x0 x1, Statement (.gnssClkLoss x0 x1) :=
  fun _ _ => event rfl

theorem gnssClkMeasure : ∀ x0 x1, Statement (.gnssClkMeasure x0 x1) :=
  fun _ _ => event rfl

theorem notchDetect : ∀ x0 x1, Statement (.notchDetect x0 x1) :=
  fun _ _ => event rfl

theorem notchRelease : ∀ x0 x1, Statement (.notchRelease x0 x1) :=
  fun _ _ => event rfl

theorem jamWarnChange : ∀ x0 x1 x2, Statement (.jamWarnChange x0 x1 x2) :=
  fun _ _ _ => event rfl

theorem acqPass : ∀ x0 x1 x2, Statement (.acqPass x0 x1 x2) :=
  fun _ _ _ => event rfl

theorem gnsTrackStart : ∀ x0 x1 x2, Statement (.gnsTrackStart x0 x1 x2) :=
  fun _ _ _ => event rfl

theorem gnsDump : ∀ x0 x1 x2 x3, Statement (.gnsDump x0 x1 x2 x3) :=
  fun _ _ _ _ => event rfl

theorem gnsLatch : ∀ x0 x1 x2, Statement (.gnsLatch x0 x1 x2) :=
  fun _ _ _ => event rfl

theorem gnsSolTimeout : ∀ x0, Statement (.gnsSolTimeout x0) :=
  fun _ => event rfl

theorem snapshotStart : ∀ x0 x1, Statement (.snapshotStart x0 x1) :=
  fun _ _ => event rfl

theorem snapshotDone : ∀ x0 x1, Statement (.snapshotDone x0 x1) :=
  fun _ _ => event rfl

theorem ticEdge : ∀ x0 x1 x2 x3 x4 x5, Statement (.ticEdge x0 x1 x2 x3 x4 x5) :=
  fun _ _ _ _ _ _ => event rfl

theorem ticPresenceTimeout : ∀ x0 x1, Statement (.ticPresenceTimeout x0 x1) :=
  fun _ _ => event rfl

theorem ticIntervalTimeout : ∀ x0 x1, Statement (.ticIntervalTimeout x0 x1) :=
  fun _ _ => event rfl

theorem ticCoarseWrap : ∀ x0, Statement (.ticCoarseWrap x0) :=
  fun _ => event rfl

theorem ticWarmupEnd : ∀ x0 x1, Statement (.ticWarmupEnd x0 x1) :=
  fun _ _ => event rfl

theorem ticCalDone : ∀ x0 x1 x2 x3 x4 x5 x6, Statement (.ticCalDone x0 x1 x2 x3 x4 x5 x6) :=
  fun _ _ _ _ _ _ _ => event rfl

theorem ticRecalTrigger : ∀ x0 x1, Statement (.ticRecalTrigger x0 x1) :=
  fun _ _ => event rfl

theorem ticSubstHandover : ∀ x0 x1, Statement (.ticSubstHandover x0 x1) :=
  fun _ _ => event rfl

theorem ticEticUpdate : ∀ x0, Statement (.ticEticUpdate x0) :=
  fun _ => event rfl

theorem synLock : ∀ x0 x1, Statement (.synLock x0 x1) :=
  fun _ _ => event rfl

theorem synUnlock : ∀ x0 x1, Statement (.synUnlock x0 x1) :=
  fun _ _ => event rfl

theorem outputStart : ∀ x0 x1, Statement (.outputStart x0 x1) :=
  fun _ _ => event rfl

theorem alignerCompare : ∀ x0 x1 x2, Statement (.alignerCompare x0 x1 x2) :=
  fun _ _ _ => event rfl

theorem glideEnd : ∀ x0 x1, Statement (.glideEnd x0 x1) :=
  fun _ _ => event rfl

theorem alignHoldTimer : ∀ x0 x1, Statement (.alignHoldTimer x0 x1) :=
  fun _ _ => event rfl

theorem outSyncExecute : ∀ x0, Statement (.outSyncExecute x0) :=
  fun _ => event rfl

theorem tpPulse : ∀ x0 x1, Statement (.tpPulse x0 x1) :=
  fun _ _ => event rfl

theorem tpPulseEnd : ∀ x0 x1, Statement (.tpPulseEnd x0 x1) :=
  fun _ _ => event rfl

theorem todMessage : ∀ x0 x1, Statement (.todMessage x0 x1) :=
  fun _ _ => event rfl

theorem echoDone : ∀ x0 x1 x2 x3, Statement (.echoDone x0 x1 x2 x3) :=
  fun _ _ _ _ => event rfl

theorem frameReceive : ∀ x0 x1 x2 x3, Statement (.frameReceive x0 x1 x2 x3) :=
  fun _ _ _ _ => event rfl

theorem frameRelease : ∀ x0 x1 x2, Statement (.frameRelease x0 x1 x2) :=
  fun _ _ _ => event rfl

theorem txComplete : ∀ x0 x1, Statement (.txComplete x0 x1) :=
  fun _ _ => event rfl

theorem linkUp : ∀ x0 x1 x2, Statement (.linkUp x0 x1 x2) :=
  fun _ _ _ => event rfl

theorem linkDown : ∀ x0 x1, Statement (.linkDown x0 x1) :=
  fun _ _ => event rfl

theorem quadReady : ∀ x0 x1, Statement (.quadReady x0 x1) :=
  fun _ _ => event rfl

theorem captureIntervalOpen : ∀ x0 x1, Statement (.captureIntervalOpen x0 x1) :=
  fun _ _ => event rfl

theorem captureIntervalTimeout : ∀ x0 x1, Statement (.captureIntervalTimeout x0 x1) :=
  fun _ _ => event rfl

theorem captureRootReady : ∀ x0 x1, Statement (.captureRootReady x0 x1) :=
  fun _ _ => event rfl

theorem captureSuperRoot : ∀ x0 x1, Statement (.captureSuperRoot x0 x1) :=
  fun _ _ => event rfl

theorem captureLossRecord : ∀ x0 x1, Statement (.captureLossRecord x0 x1) :=
  fun _ _ => event rfl

theorem captureResume : ∀ x0 x1, Statement (.captureResume x0 x1) :=
  fun _ _ => event rfl

theorem gateEntryChange : ∀ x0 x1, Statement (.gateEntryChange x0 x1) :=
  fun _ _ => event rfl

theorem gclSwap : ∀ x0 x1, Statement (.gclSwap x0 x1) :=
  fun _ _ => event rfl

theorem shaperUpdate : ∀ x0, Statement (.shaperUpdate x0) :=
  fun _ => event rfl

theorem policerAccrue : ∀ x0, Statement (.policerAccrue x0) :=
  fun _ => event rfl

theorem queueSample : ∀ x0, Statement (.queueSample x0) :=
  fun _ => event rfl

theorem commitSlotCheck : ∀ x0 x1, Statement (.commitSlotCheck x0 x1) :=
  fun _ _ => event rfl

theorem commitDecision : ∀ x0 x1 x2, Statement (.commitDecision x0 x1 x2) :=
  fun _ _ _ => event rfl

theorem ptpDelayReq : ∀ x0 x1 x2 x3, Statement (.ptpDelayReq x0 x1 x2 x3) :=
  fun _ _ _ _ => event rfl

theorem ptpUnicastRequest : ∀ x0 x1 x2, Statement (.ptpUnicastRequest x0 x1 x2) :=
  fun _ _ _ => event rfl

theorem ptpUnicastCancel : ∀ x0 x1 x2, Statement (.ptpUnicastCancel x0 x1 x2) :=
  fun _ _ _ => event rfl

theorem ntpRequest : ∀ x0 x1 x2 x3, Statement (.ntpRequest x0 x1 x2 x3) :=
  fun _ _ _ _ => event rfl

theorem ntsRequest : ∀ x0 x1 x2 x3, Statement (.ntsRequest x0 x1 x2 x3) :=
  fun _ _ _ _ => event rfl

theorem ptpSyncInterval : ∀ x0 x1 x2, Statement (.ptpSyncInterval x0 x1 x2) :=
  fun _ _ _ => event rfl

theorem ptpFollowUp : ∀ x0 x1, Statement (.ptpFollowUp x0 x1) :=
  fun _ _ => event rfl

theorem ptpAnnounceInterval : ∀ x0 x1 x2, Statement (.ptpAnnounceInterval x0 x1 x2) :=
  fun _ _ _ => event rfl

theorem grantExpiry : ∀ x0 x1 x2, Statement (.grantExpiry x0 x1 x2) :=
  fun _ _ _ => event rfl

theorem keyRoll : ∀ x0 x1, Statement (.keyRoll x0 x1) :=
  fun _ _ => event rfl

theorem acceptOldExpiry : ∀ x0 x1, Statement (.acceptOldExpiry x0 x1) :=
  fun _ _ => event rfl

theorem clientAgeExpiry : ∀ x0 x1, Statement (.clientAgeExpiry x0 x1) :=
  fun _ _ => event rfl

theorem logSecondTick : ∀ x0 x1, Statement (.logSecondTick x0 x1) :=
  fun _ _ => event rfl

theorem logSignatureDone : ∀ x0 x1 x2, Statement (.logSignatureDone x0 x1 x2) :=
  fun _ _ _ => event rfl

theorem keyOperationDone : ∀ x0 x1, Statement (.keyOperationDone x0 x1) :=
  fun _ _ => event rfl

theorem tamperAssert : ∀ x0 x1 x2, Statement (.tamperAssert x0 x1 x2) :=
  fun _ _ _ => event rfl

theorem benitTimingFrameSend : ∀ x0, Statement (.benitTimingFrameSend x0) :=
  fun _ => event rfl

theorem benitTimingFrame : ∀ x0 x1 x2 x3, Statement (.benitTimingFrame x0 x1 x2 x3) :=
  fun _ _ _ _ => event rfl

theorem benitSafeNotice : ∀ x0, Statement (.benitSafeNotice x0) :=
  fun _ => event rfl

theorem benitOutBadNotice : ∀ x0 x1 x2, Statement (.benitOutBadNotice x0 x1 x2) :=
  fun _ _ _ => event rfl

theorem benitHandoverNotice : ∀ x0 x1, Statement (.benitHandoverNotice x0 x1) :=
  fun _ _ => event rfl

theorem benitRejoinNotice : ∀ x0, Statement (.benitRejoinNotice x0) :=
  fun _ => event rfl

theorem benitLinkUp : ∀ x0 x1 x2, Statement (.benitLinkUp x0 x1 x2) :=
  fun _ _ _ => event rfl

theorem benitLinkLoss : ∀ x0, Statement (.benitLinkLoss x0) :=
  fun _ => event rfl

theorem pairFirstClaim : ∀ x0, Statement (.pairFirstClaim x0) :=
  fun _ => event rfl

theorem claimRoundStart : ∀ x0, Statement (.claimRoundStart x0) :=
  fun _ => event rfl

theorem claimSofDetect : ∀ x0, Statement (.claimSofDetect x0) :=
  fun _ => event rfl

theorem claimRoundEnd : ∀ x0 x1 x2 x3, Statement (.claimRoundEnd x0 x1 x2 x3) :=
  fun _ _ _ _ => event rfl

theorem handoverInstant : ∀ x0, Statement (.handoverInstant x0) :=
  fun _ => event rfl

theorem ownLeaseLapse : ∀ x0, Statement (.ownLeaseLapse x0) :=
  fun _ => event rfl

theorem pairHandoverExecute : ∀ x0, Statement (.pairHandoverExecute x0) :=
  fun _ => event rfl

theorem pairCompareWindow : ∀ x0 x1, Statement (.pairCompareWindow x0 x1) :=
  fun _ _ => event rfl

theorem healthBitSet : ∀ x0 x1, Statement (.healthBitSet x0 x1) :=
  fun _ _ => event rfl

theorem standbyCalTest : ∀ x0 x1, Statement (.standbyCalTest x0 x1) :=
  fun _ _ => event rfl

theorem supplySample : ∀ x0 x1, Statement (.supplySample x0 x1) :=
  fun _ _ => event rfl

theorem supplyWarningChange : ∀ x0 x1, Statement (.supplyWarningChange x0 x1) :=
  fun _ _ => event rfl

theorem tempSample : ∀ x0 x1, Statement (.tempSample x0 x1) :=
  fun _ _ => event rfl

theorem mainsHalfCycle : ∀ x0 x1, Statement (.mainsHalfCycle x0 x1) :=
  fun _ _ => event rfl

theorem mainsCrossing : ∀ x0 x1, Statement (.mainsCrossing x0 x1) :=
  fun _ _ => event rfl

theorem mainsGapTimeout : ∀ x0, Statement (.mainsGapTimeout x0) :=
  fun _ => event rfl

theorem mainsRangeTimer : ∀ x0, Statement (.mainsRangeTimer x0) :=
  fun _ => event rfl

theorem pfwPinChange : ∀ x0 x1, Statement (.pfwPinChange x0 x1) :=
  fun _ _ => event rfl

theorem pfwClear : ∀ x0, Statement (.pfwClear x0) :=
  fun _ => event rfl

theorem rtcStop : ∀ x0, Statement (.rtcStop x0) :=
  fun _ => event rfl

theorem calSync : ∀ x0, Statement (.calSync x0) :=
  fun _ => event rfl

theorem calAutoTrim : ∀ x0, Statement (.calAutoTrim x0) :=
  fun _ => event rfl

theorem keepAutoScrub : ∀ x0, Statement (.keepAutoScrub x0) :=
  fun _ => event rfl

theorem keepScrubDone : ∀ x0 x1, Statement (.keepScrubDone x0 x1) :=
  fun _ _ => event rfl

theorem fwStageDone : ∀ x0 x1 x2 x3, Statement (.fwStageDone x0 x1 x2 x3) :=
  fun _ _ _ _ => event rfl

theorem bistDone : ∀ x0 x1, Statement (.bistDone x0 x1) :=
  fun _ _ => event rfl

theorem tapInstruction : ∀ x0 x1, Statement (.tapInstruction x0 x1) :=
  fun _ _ => event rfl

theorem unlistedOpcode : ∀ x0 x1, Statement (.unlistedOpcode x0 x1) :=
  fun _ _ => event rfl

theorem gnssClkPresent : ∀ x0, Statement (.gnssClkPresent x0) :=
  fun _ => event rfl

theorem atomPresent : ∀ x0, Statement (.atomPresent x0) :=
  fun _ => event rfl

theorem oscillatorAbsent : ∀ x0 x1, Statement (.oscillatorAbsent x0 x1) :=
  fun _ _ => event rfl

theorem pcieLinkUp : ∀ x0, Statement (.pcieLinkUp x0) :=
  fun _ => event rfl

theorem dmaTransferError : ∀ x0 x1 x2, Statement (.dmaTransferError x0 x1 x2) :=
  fun _ _ _ => event rfl

theorem ringStallTimeout : ∀ x0 x1, Statement (.ringStallTimeout x0 x1) :=
  fun _ _ => event rfl

theorem benitLaneDown : ∀ x0 x1, Statement (.benitLaneDown x0 x1) :=
  fun _ _ => event rfl

theorem pdVbatPowerLoss : ∀ x0, Statement (.pdVbatPowerLoss x0) :=
  fun _ => event rfl

theorem tapTestLogicReset : ∀ x0, Statement (.tapTestLogicReset x0) :=
  fun _ => event rfl

theorem collectorSelfRecover : ∀ x0, Statement (.collectorSelfRecover x0) :=
  fun _ => event rfl

theorem gnssFeEnLead : ∀ x0, Statement (.gnssFeEnLead x0) :=
  fun _ => event rfl

theorem ptpSlaveMessage : ∀ x0 x1 x2 x3, Statement (.ptpSlaveMessage x0 x1 x2 x3) :=
  fun _ _ _ _ => event rfl

end Sys2Proof.Laws.Fields
end

