-- ==== Sys2Proof/Laws/State.lean ====
section
/-! SUPPORT. What each shared update of the state leaves, one lemma per field. -/

namespace Sys2Proof.Machine

@[simp] theorem State.advance_keeps_freeCtr (s : State) (dt : Nat) : (s.advance dt).freeCtr = s.freeCtr := rfl
@[simp] theorem State.advance_keeps_fuse (s : State) (dt : Nat) : (s.advance dt).fuse = s.fuse := rfl
@[simp] theorem State.advance_keeps_vbat (s : State) (dt : Nat) : (s.advance dt).vbat = s.vbat := rfl
@[simp] theorem State.advance_keeps_keep (s : State) (dt : Nat) : (s.advance dt).keep = s.keep := rfl
@[simp] theorem State.advance_keeps_cfg (s : State) (dt : Nat) : (s.advance dt).cfg = s.cfg := rfl
@[simp] theorem State.advance_keeps_sys (s : State) (dt : Nat) : (s.advance dt).sys = s.sys := rfl
@[simp] theorem State.advance_keeps_cmd (s : State) (dt : Nat) : (s.advance dt).cmd = s.cmd := rfl
@[simp] theorem State.advance_keeps_ref (s : State) (dt : Nat) : (s.advance dt).ref = s.ref := rfl
@[simp] theorem State.advance_keeps_gns (s : State) (dt : Nat) : (s.advance dt).gns = s.gns := rfl
@[simp] theorem State.advance_keeps_tic (s : State) (dt : Nat) : (s.advance dt).tic = s.tic := rfl
@[simp] theorem State.advance_keeps_out (s : State) (dt : Nat) : (s.advance dt).out = s.out := rfl
@[simp] theorem State.advance_keeps_eth (s : State) (dt : Nat) : (s.advance dt).eth = s.eth := rfl
@[simp] theorem State.advance_keeps_tmg (s : State) (dt : Nat) : (s.advance dt).tmg = s.tmg := rfl
@[simp] theorem State.advance_keeps_svc (s : State) (dt : Nat) : (s.advance dt).svc = s.svc := rfl
@[simp] theorem State.advance_keeps_log (s : State) (dt : Nat) : (s.advance dt).log = s.log := rfl
@[simp] theorem State.advance_keeps_key (s : State) (dt : Nat) : (s.advance dt).key = s.key := rfl
@[simp] theorem State.advance_keeps_flt (s : State) (dt : Nat) : (s.advance dt).flt = s.flt := rfl
@[simp] theorem State.advance_keeps_pair (s : State) (dt : Nat) : (s.advance dt).pair = s.pair := rfl
@[simp] theorem State.advance_keeps_mon (s : State) (dt : Nat) : (s.advance dt).mon = s.mon := rfl
@[simp] theorem State.advance_keeps_blt (s : State) (dt : Nat) : (s.advance dt).blt = s.blt := rfl
@[simp] theorem State.advance_keeps_pending (s : State) (dt : Nat) : (s.advance dt).pending = s.pending := rfl

@[simp] theorem State.drawn_keeps_ticks (s : State) : (s.drawn).ticks = s.ticks := rfl
@[simp] theorem State.drawn_keeps_fuse (s : State) : (s.drawn).fuse = s.fuse := rfl
@[simp] theorem State.drawn_keeps_vbat (s : State) : (s.drawn).vbat = s.vbat := rfl
@[simp] theorem State.drawn_keeps_keep (s : State) : (s.drawn).keep = s.keep := rfl
@[simp] theorem State.drawn_keeps_cfg (s : State) : (s.drawn).cfg = s.cfg := rfl
@[simp] theorem State.drawn_keeps_sys (s : State) : (s.drawn).sys = s.sys := rfl
@[simp] theorem State.drawn_keeps_cmd (s : State) : (s.drawn).cmd = s.cmd := rfl
@[simp] theorem State.drawn_keeps_ref (s : State) : (s.drawn).ref = s.ref := rfl
@[simp] theorem State.drawn_keeps_acd (s : State) : (s.drawn).acd = s.acd := rfl
@[simp] theorem State.drawn_keeps_gns (s : State) : (s.drawn).gns = s.gns := rfl
@[simp] theorem State.drawn_keeps_tic (s : State) : (s.drawn).tic = s.tic := rfl
@[simp] theorem State.drawn_keeps_out (s : State) : (s.drawn).out = s.out := rfl
@[simp] theorem State.drawn_keeps_eth (s : State) : (s.drawn).eth = s.eth := rfl
@[simp] theorem State.drawn_keeps_tmg (s : State) : (s.drawn).tmg = s.tmg := rfl
@[simp] theorem State.drawn_keeps_svc (s : State) : (s.drawn).svc = s.svc := rfl
@[simp] theorem State.drawn_keeps_log (s : State) : (s.drawn).log = s.log := rfl
@[simp] theorem State.drawn_keeps_key (s : State) : (s.drawn).key = s.key := rfl
@[simp] theorem State.drawn_keeps_flt (s : State) : (s.drawn).flt = s.flt := rfl
@[simp] theorem State.drawn_keeps_pair (s : State) : (s.drawn).pair = s.pair := rfl
@[simp] theorem State.drawn_keeps_mon (s : State) : (s.drawn).mon = s.mon := rfl
@[simp] theorem State.drawn_keeps_blt (s : State) : (s.drawn).blt = s.blt := rfl
@[simp] theorem State.drawn_keeps_pending (s : State) : (s.drawn).pending = s.pending := rfl

@[simp] theorem State.irq_keeps_ticks (s : State) (n : Nat) : (s.irq n).ticks = s.ticks := rfl
@[simp] theorem State.irq_keeps_freeCtr (s : State) (n : Nat) : (s.irq n).freeCtr = s.freeCtr := rfl
@[simp] theorem State.irq_keeps_fuse (s : State) (n : Nat) : (s.irq n).fuse = s.fuse := rfl
@[simp] theorem State.irq_keeps_vbat (s : State) (n : Nat) : (s.irq n).vbat = s.vbat := rfl
@[simp] theorem State.irq_keeps_keep (s : State) (n : Nat) : (s.irq n).keep = s.keep := rfl
@[simp] theorem State.irq_keeps_cfg (s : State) (n : Nat) : (s.irq n).cfg = s.cfg := rfl
@[simp] theorem State.irq_keeps_sys (s : State) (n : Nat) : (s.irq n).sys = s.sys := rfl
@[simp] theorem State.irq_keeps_ref (s : State) (n : Nat) : (s.irq n).ref = s.ref := rfl
@[simp] theorem State.irq_keeps_acd (s : State) (n : Nat) : (s.irq n).acd = s.acd := rfl
@[simp] theorem State.irq_keeps_gns (s : State) (n : Nat) : (s.irq n).gns = s.gns := rfl
@[simp] theorem State.irq_keeps_tic (s : State) (n : Nat) : (s.irq n).tic = s.tic := rfl
@[simp] theorem State.irq_keeps_out (s : State) (n : Nat) : (s.irq n).out = s.out := rfl
@[simp] theorem State.irq_keeps_eth (s : State) (n : Nat) : (s.irq n).eth = s.eth := rfl
@[simp] theorem State.irq_keeps_tmg (s : State) (n : Nat) : (s.irq n).tmg = s.tmg := rfl
@[simp] theorem State.irq_keeps_svc (s : State) (n : Nat) : (s.irq n).svc = s.svc := rfl
@[simp] theorem State.irq_keeps_log (s : State) (n : Nat) : (s.irq n).log = s.log := rfl
@[simp] theorem State.irq_keeps_key (s : State) (n : Nat) : (s.irq n).key = s.key := rfl
@[simp] theorem State.irq_keeps_flt (s : State) (n : Nat) : (s.irq n).flt = s.flt := rfl
@[simp] theorem State.irq_keeps_pair (s : State) (n : Nat) : (s.irq n).pair = s.pair := rfl
@[simp] theorem State.irq_keeps_mon (s : State) (n : Nat) : (s.irq n).mon = s.mon := rfl
@[simp] theorem State.irq_keeps_blt (s : State) (n : Nat) : (s.irq n).blt = s.blt := rfl
@[simp] theorem State.irq_keeps_pending (s : State) (n : Nat) : (s.irq n).pending = s.pending := rfl

@[simp] theorem State.latch_keeps_ticks (s : State) (m : BitVec 4) (a : W32) (ws : List W32) : (s.latch m a ws).ticks = s.ticks := rfl
@[simp] theorem State.latch_keeps_freeCtr (s : State) (m : BitVec 4) (a : W32) (ws : List W32) : (s.latch m a ws).freeCtr = s.freeCtr := rfl
@[simp] theorem State.latch_keeps_fuse (s : State) (m : BitVec 4) (a : W32) (ws : List W32) : (s.latch m a ws).fuse = s.fuse := rfl
@[simp] theorem State.latch_keeps_vbat (s : State) (m : BitVec 4) (a : W32) (ws : List W32) : (s.latch m a ws).vbat = s.vbat := rfl
@[simp] theorem State.latch_keeps_keep (s : State) (m : BitVec 4) (a : W32) (ws : List W32) : (s.latch m a ws).keep = s.keep := rfl
@[simp] theorem State.latch_keeps_cfg (s : State) (m : BitVec 4) (a : W32) (ws : List W32) : (s.latch m a ws).cfg = s.cfg := rfl
@[simp] theorem State.latch_keeps_sys (s : State) (m : BitVec 4) (a : W32) (ws : List W32) : (s.latch m a ws).sys = s.sys := rfl
@[simp] theorem State.latch_keeps_ref (s : State) (m : BitVec 4) (a : W32) (ws : List W32) : (s.latch m a ws).ref = s.ref := rfl
@[simp] theorem State.latch_keeps_acd (s : State) (m : BitVec 4) (a : W32) (ws : List W32) : (s.latch m a ws).acd = s.acd := rfl
@[simp] theorem State.latch_keeps_gns (s : State) (m : BitVec 4) (a : W32) (ws : List W32) : (s.latch m a ws).gns = s.gns := rfl
@[simp] theorem State.latch_keeps_tic (s : State) (m : BitVec 4) (a : W32) (ws : List W32) : (s.latch m a ws).tic = s.tic := rfl
@[simp] theorem State.latch_keeps_out (s : State) (m : BitVec 4) (a : W32) (ws : List W32) : (s.latch m a ws).out = s.out := rfl
@[simp] theorem State.latch_keeps_eth (s : State) (m : BitVec 4) (a : W32) (ws : List W32) : (s.latch m a ws).eth = s.eth := rfl
@[simp] theorem State.latch_keeps_tmg (s : State) (m : BitVec 4) (a : W32) (ws : List W32) : (s.latch m a ws).tmg = s.tmg := rfl
@[simp] theorem State.latch_keeps_svc (s : State) (m : BitVec 4) (a : W32) (ws : List W32) : (s.latch m a ws).svc = s.svc := rfl
@[simp] theorem State.latch_keeps_log (s : State) (m : BitVec 4) (a : W32) (ws : List W32) : (s.latch m a ws).log = s.log := rfl
@[simp] theorem State.latch_keeps_key (s : State) (m : BitVec 4) (a : W32) (ws : List W32) : (s.latch m a ws).key = s.key := rfl
@[simp] theorem State.latch_keeps_flt (s : State) (m : BitVec 4) (a : W32) (ws : List W32) : (s.latch m a ws).flt = s.flt := rfl
@[simp] theorem State.latch_keeps_pair (s : State) (m : BitVec 4) (a : W32) (ws : List W32) : (s.latch m a ws).pair = s.pair := rfl
@[simp] theorem State.latch_keeps_mon (s : State) (m : BitVec 4) (a : W32) (ws : List W32) : (s.latch m a ws).mon = s.mon := rfl
@[simp] theorem State.latch_keeps_blt (s : State) (m : BitVec 4) (a : W32) (ws : List W32) : (s.latch m a ws).blt = s.blt := rfl
@[simp] theorem State.latch_keeps_pending (s : State) (m : BitVec 4) (a : W32) (ws : List W32) : (s.latch m a ws).pending = s.pending := rfl

@[simp] theorem State.answerRead_keeps_ticks (s : State) (w : W32) : (s.answerRead w).ticks = s.ticks := rfl
@[simp] theorem State.answerRead_keeps_freeCtr (s : State) (w : W32) : (s.answerRead w).freeCtr = s.freeCtr := rfl
@[simp] theorem State.answerRead_keeps_fuse (s : State) (w : W32) : (s.answerRead w).fuse = s.fuse := rfl
@[simp] theorem State.answerRead_keeps_vbat (s : State) (w : W32) : (s.answerRead w).vbat = s.vbat := rfl
@[simp] theorem State.answerRead_keeps_keep (s : State) (w : W32) : (s.answerRead w).keep = s.keep := rfl
@[simp] theorem State.answerRead_keeps_cfg (s : State) (w : W32) : (s.answerRead w).cfg = s.cfg := rfl
@[simp] theorem State.answerRead_keeps_sys (s : State) (w : W32) : (s.answerRead w).sys = s.sys := rfl
@[simp] theorem State.answerRead_keeps_ref (s : State) (w : W32) : (s.answerRead w).ref = s.ref := rfl
@[simp] theorem State.answerRead_keeps_acd (s : State) (w : W32) : (s.answerRead w).acd = s.acd := rfl
@[simp] theorem State.answerRead_keeps_gns (s : State) (w : W32) : (s.answerRead w).gns = s.gns := rfl
@[simp] theorem State.answerRead_keeps_tic (s : State) (w : W32) : (s.answerRead w).tic = s.tic := rfl
@[simp] theorem State.answerRead_keeps_out (s : State) (w : W32) : (s.answerRead w).out = s.out := rfl
@[simp] theorem State.answerRead_keeps_eth (s : State) (w : W32) : (s.answerRead w).eth = s.eth := rfl
@[simp] theorem State.answerRead_keeps_tmg (s : State) (w : W32) : (s.answerRead w).tmg = s.tmg := rfl
@[simp] theorem State.answerRead_keeps_svc (s : State) (w : W32) : (s.answerRead w).svc = s.svc := rfl
@[simp] theorem State.answerRead_keeps_log (s : State) (w : W32) : (s.answerRead w).log = s.log := rfl
@[simp] theorem State.answerRead_keeps_key (s : State) (w : W32) : (s.answerRead w).key = s.key := rfl
@[simp] theorem State.answerRead_keeps_flt (s : State) (w : W32) : (s.answerRead w).flt = s.flt := rfl
@[simp] theorem State.answerRead_keeps_pair (s : State) (w : W32) : (s.answerRead w).pair = s.pair := rfl
@[simp] theorem State.answerRead_keeps_mon (s : State) (w : W32) : (s.answerRead w).mon = s.mon := rfl
@[simp] theorem State.answerRead_keeps_blt (s : State) (w : W32) : (s.answerRead w).blt = s.blt := rfl
@[simp] theorem State.answerRead_keeps_pending (s : State) (w : W32) : (s.answerRead w).pending = s.pending := rfl

@[simp] theorem State.headSlotWrite_keeps_ticks (s : State) (b : Bool) : (s.headSlotWrite b).ticks = s.ticks := rfl
@[simp] theorem State.headSlotWrite_keeps_freeCtr (s : State) (b : Bool) : (s.headSlotWrite b).freeCtr = s.freeCtr := rfl
@[simp] theorem State.headSlotWrite_keeps_fuse (s : State) (b : Bool) : (s.headSlotWrite b).fuse = s.fuse := rfl
@[simp] theorem State.headSlotWrite_keeps_vbat (s : State) (b : Bool) : (s.headSlotWrite b).vbat = s.vbat := rfl
@[simp] theorem State.headSlotWrite_keeps_cfg (s : State) (b : Bool) : (s.headSlotWrite b).cfg = s.cfg := rfl
@[simp] theorem State.headSlotWrite_keeps_sys (s : State) (b : Bool) : (s.headSlotWrite b).sys = s.sys := rfl
@[simp] theorem State.headSlotWrite_keeps_cmd (s : State) (b : Bool) : (s.headSlotWrite b).cmd = s.cmd := rfl
@[simp] theorem State.headSlotWrite_keeps_ref (s : State) (b : Bool) : (s.headSlotWrite b).ref = s.ref := rfl
@[simp] theorem State.headSlotWrite_keeps_acd (s : State) (b : Bool) : (s.headSlotWrite b).acd = s.acd := rfl
@[simp] theorem State.headSlotWrite_keeps_gns (s : State) (b : Bool) : (s.headSlotWrite b).gns = s.gns := rfl
@[simp] theorem State.headSlotWrite_keeps_tic (s : State) (b : Bool) : (s.headSlotWrite b).tic = s.tic := rfl
@[simp] theorem State.headSlotWrite_keeps_out (s : State) (b : Bool) : (s.headSlotWrite b).out = s.out := rfl
@[simp] theorem State.headSlotWrite_keeps_eth (s : State) (b : Bool) : (s.headSlotWrite b).eth = s.eth := rfl
@[simp] theorem State.headSlotWrite_keeps_tmg (s : State) (b : Bool) : (s.headSlotWrite b).tmg = s.tmg := rfl
@[simp] theorem State.headSlotWrite_keeps_svc (s : State) (b : Bool) : (s.headSlotWrite b).svc = s.svc := rfl
@[simp] theorem State.headSlotWrite_keeps_log (s : State) (b : Bool) : (s.headSlotWrite b).log = s.log := rfl
@[simp] theorem State.headSlotWrite_keeps_key (s : State) (b : Bool) : (s.headSlotWrite b).key = s.key := rfl
@[simp] theorem State.headSlotWrite_keeps_flt (s : State) (b : Bool) : (s.headSlotWrite b).flt = s.flt := rfl
@[simp] theorem State.headSlotWrite_keeps_pair (s : State) (b : Bool) : (s.headSlotWrite b).pair = s.pair := rfl
@[simp] theorem State.headSlotWrite_keeps_mon (s : State) (b : Bool) : (s.headSlotWrite b).mon = s.mon := rfl
@[simp] theorem State.headSlotWrite_keeps_blt (s : State) (b : Bool) : (s.headSlotWrite b).blt = s.blt := rfl
@[simp] theorem State.headSlotWrite_keeps_pending (s : State) (b : Bool) : (s.headSlotWrite b).pending = s.pending := rfl

@[simp] theorem State.logMiss_keeps_ticks (s : State) (e : LogEntry) : (s.logMiss e).ticks = s.ticks := rfl
@[simp] theorem State.logMiss_keeps_freeCtr (s : State) (e : LogEntry) : (s.logMiss e).freeCtr = s.freeCtr := rfl
@[simp] theorem State.logMiss_keeps_fuse (s : State) (e : LogEntry) : (s.logMiss e).fuse = s.fuse := rfl
@[simp] theorem State.logMiss_keeps_vbat (s : State) (e : LogEntry) : (s.logMiss e).vbat = s.vbat := rfl
@[simp] theorem State.logMiss_keeps_keep (s : State) (e : LogEntry) : (s.logMiss e).keep = s.keep := rfl
@[simp] theorem State.logMiss_keeps_cfg (s : State) (e : LogEntry) : (s.logMiss e).cfg = s.cfg := rfl
@[simp] theorem State.logMiss_keeps_sys (s : State) (e : LogEntry) : (s.logMiss e).sys = s.sys := rfl
@[simp] theorem State.logMiss_keeps_cmd (s : State) (e : LogEntry) : (s.logMiss e).cmd = s.cmd := rfl
@[simp] theorem State.logMiss_keeps_ref (s : State) (e : LogEntry) : (s.logMiss e).ref = s.ref := rfl
@[simp] theorem State.logMiss_keeps_acd (s : State) (e : LogEntry) : (s.logMiss e).acd = s.acd := rfl
@[simp] theorem State.logMiss_keeps_gns (s : State) (e : LogEntry) : (s.logMiss e).gns = s.gns := rfl
@[simp] theorem State.logMiss_keeps_tic (s : State) (e : LogEntry) : (s.logMiss e).tic = s.tic := rfl
@[simp] theorem State.logMiss_keeps_out (s : State) (e : LogEntry) : (s.logMiss e).out = s.out := rfl
@[simp] theorem State.logMiss_keeps_eth (s : State) (e : LogEntry) : (s.logMiss e).eth = s.eth := rfl
@[simp] theorem State.logMiss_keeps_tmg (s : State) (e : LogEntry) : (s.logMiss e).tmg = s.tmg := rfl
@[simp] theorem State.logMiss_keeps_svc (s : State) (e : LogEntry) : (s.logMiss e).svc = s.svc := rfl
@[simp] theorem State.logMiss_keeps_key (s : State) (e : LogEntry) : (s.logMiss e).key = s.key := rfl
@[simp] theorem State.logMiss_keeps_flt (s : State) (e : LogEntry) : (s.logMiss e).flt = s.flt := rfl
@[simp] theorem State.logMiss_keeps_pair (s : State) (e : LogEntry) : (s.logMiss e).pair = s.pair := rfl
@[simp] theorem State.logMiss_keeps_mon (s : State) (e : LogEntry) : (s.logMiss e).mon = s.mon := rfl
@[simp] theorem State.logMiss_keeps_blt (s : State) (e : LogEntry) : (s.logMiss e).blt = s.blt := rfl
@[simp] theorem State.logMiss_keeps_pending (s : State) (e : LogEntry) : (s.logMiss e).pending = s.pending := rfl

@[simp] theorem State.commitCsp_keeps_ticks (s : State) : (s.commitCsp).ticks = s.ticks := rfl
@[simp] theorem State.commitCsp_keeps_freeCtr (s : State) : (s.commitCsp).freeCtr = s.freeCtr := rfl
@[simp] theorem State.commitCsp_keeps_fuse (s : State) : (s.commitCsp).fuse = s.fuse := rfl
@[simp] theorem State.commitCsp_keeps_vbat (s : State) : (s.commitCsp).vbat = s.vbat := rfl
@[simp] theorem State.commitCsp_keeps_cfg (s : State) : (s.commitCsp).cfg = s.cfg := rfl
@[simp] theorem State.commitCsp_keeps_sys (s : State) : (s.commitCsp).sys = s.sys := rfl
@[simp] theorem State.commitCsp_keeps_cmd (s : State) : (s.commitCsp).cmd = s.cmd := rfl
@[simp] theorem State.commitCsp_keeps_ref (s : State) : (s.commitCsp).ref = s.ref := rfl
@[simp] theorem State.commitCsp_keeps_acd (s : State) : (s.commitCsp).acd = s.acd := rfl
@[simp] theorem State.commitCsp_keeps_gns (s : State) : (s.commitCsp).gns = s.gns := rfl
@[simp] theorem State.commitCsp_keeps_tic (s : State) : (s.commitCsp).tic = s.tic := rfl
@[simp] theorem State.commitCsp_keeps_out (s : State) : (s.commitCsp).out = s.out := rfl
@[simp] theorem State.commitCsp_keeps_eth (s : State) : (s.commitCsp).eth = s.eth := rfl
@[simp] theorem State.commitCsp_keeps_tmg (s : State) : (s.commitCsp).tmg = s.tmg := rfl
@[simp] theorem State.commitCsp_keeps_svc (s : State) : (s.commitCsp).svc = s.svc := rfl
@[simp] theorem State.commitCsp_keeps_log (s : State) : (s.commitCsp).log = s.log := rfl
@[simp] theorem State.commitCsp_keeps_key (s : State) : (s.commitCsp).key = s.key := rfl
@[simp] theorem State.commitCsp_keeps_flt (s : State) : (s.commitCsp).flt = s.flt := rfl
@[simp] theorem State.commitCsp_keeps_pair (s : State) : (s.commitCsp).pair = s.pair := rfl
@[simp] theorem State.commitCsp_keeps_mon (s : State) : (s.commitCsp).mon = s.mon := rfl
@[simp] theorem State.commitCsp_keeps_blt (s : State) : (s.commitCsp).blt = s.blt := rfl
@[simp] theorem State.commitCsp_keeps_pending (s : State) : (s.commitCsp).pending = s.pending := rfl

@[simp] theorem State.refuseWrite_keeps_ticks (s : State) : (s.refuseWrite).ticks = s.ticks := rfl
@[simp] theorem State.refuseWrite_keeps_freeCtr (s : State) : (s.refuseWrite).freeCtr = s.freeCtr := rfl
@[simp] theorem State.refuseWrite_keeps_fuse (s : State) : (s.refuseWrite).fuse = s.fuse := rfl
@[simp] theorem State.refuseWrite_keeps_vbat (s : State) : (s.refuseWrite).vbat = s.vbat := rfl
@[simp] theorem State.refuseWrite_keeps_keep (s : State) : (s.refuseWrite).keep = s.keep := rfl
@[simp] theorem State.refuseWrite_keeps_cfg (s : State) : (s.refuseWrite).cfg = s.cfg := rfl
@[simp] theorem State.refuseWrite_keeps_ref (s : State) : (s.refuseWrite).ref = s.ref := rfl
@[simp] theorem State.refuseWrite_keeps_acd (s : State) : (s.refuseWrite).acd = s.acd := rfl
@[simp] theorem State.refuseWrite_keeps_gns (s : State) : (s.refuseWrite).gns = s.gns := rfl
@[simp] theorem State.refuseWrite_keeps_tic (s : State) : (s.refuseWrite).tic = s.tic := rfl
@[simp] theorem State.refuseWrite_keeps_out (s : State) : (s.refuseWrite).out = s.out := rfl
@[simp] theorem State.refuseWrite_keeps_eth (s : State) : (s.refuseWrite).eth = s.eth := rfl
@[simp] theorem State.refuseWrite_keeps_tmg (s : State) : (s.refuseWrite).tmg = s.tmg := rfl
@[simp] theorem State.refuseWrite_keeps_svc (s : State) : (s.refuseWrite).svc = s.svc := rfl
@[simp] theorem State.refuseWrite_keeps_log (s : State) : (s.refuseWrite).log = s.log := rfl
@[simp] theorem State.refuseWrite_keeps_key (s : State) : (s.refuseWrite).key = s.key := rfl
@[simp] theorem State.refuseWrite_keeps_flt (s : State) : (s.refuseWrite).flt = s.flt := rfl
@[simp] theorem State.refuseWrite_keeps_pair (s : State) : (s.refuseWrite).pair = s.pair := rfl
@[simp] theorem State.refuseWrite_keeps_mon (s : State) : (s.refuseWrite).mon = s.mon := rfl
@[simp] theorem State.refuseWrite_keeps_blt (s : State) : (s.refuseWrite).blt = s.blt := rfl
@[simp] theorem State.refuseWrite_keeps_pending (s : State) : (s.refuseWrite).pending = s.pending := rfl

@[simp] theorem State.latchQuiet_keeps_ticks (s : State) (n : Nat) (b l : Bool) : (s.latchQuiet n b l).ticks = s.ticks := rfl
@[simp] theorem State.latchQuiet_keeps_freeCtr (s : State) (n : Nat) (b l : Bool) : (s.latchQuiet n b l).freeCtr = s.freeCtr := rfl
@[simp] theorem State.latchQuiet_keeps_fuse (s : State) (n : Nat) (b l : Bool) : (s.latchQuiet n b l).fuse = s.fuse := rfl
@[simp] theorem State.latchQuiet_keeps_vbat (s : State) (n : Nat) (b l : Bool) : (s.latchQuiet n b l).vbat = s.vbat := rfl
@[simp] theorem State.latchQuiet_keeps_keep (s : State) (n : Nat) (b l : Bool) : (s.latchQuiet n b l).keep = s.keep := rfl
@[simp] theorem State.latchQuiet_keeps_cfg (s : State) (n : Nat) (b l : Bool) : (s.latchQuiet n b l).cfg = s.cfg := rfl
@[simp] theorem State.latchQuiet_keeps_sys (s : State) (n : Nat) (b l : Bool) : (s.latchQuiet n b l).sys = s.sys := rfl
@[simp] theorem State.latchQuiet_keeps_ref (s : State) (n : Nat) (b l : Bool) : (s.latchQuiet n b l).ref = s.ref := rfl
@[simp] theorem State.latchQuiet_keeps_acd (s : State) (n : Nat) (b l : Bool) : (s.latchQuiet n b l).acd = s.acd := rfl
@[simp] theorem State.latchQuiet_keeps_gns (s : State) (n : Nat) (b l : Bool) : (s.latchQuiet n b l).gns = s.gns := rfl
@[simp] theorem State.latchQuiet_keeps_tic (s : State) (n : Nat) (b l : Bool) : (s.latchQuiet n b l).tic = s.tic := rfl
@[simp] theorem State.latchQuiet_keeps_out (s : State) (n : Nat) (b l : Bool) : (s.latchQuiet n b l).out = s.out := rfl
@[simp] theorem State.latchQuiet_keeps_eth (s : State) (n : Nat) (b l : Bool) : (s.latchQuiet n b l).eth = s.eth := rfl
@[simp] theorem State.latchQuiet_keeps_tmg (s : State) (n : Nat) (b l : Bool) : (s.latchQuiet n b l).tmg = s.tmg := rfl
@[simp] theorem State.latchQuiet_keeps_svc (s : State) (n : Nat) (b l : Bool) : (s.latchQuiet n b l).svc = s.svc := rfl
@[simp] theorem State.latchQuiet_keeps_log (s : State) (n : Nat) (b l : Bool) : (s.latchQuiet n b l).log = s.log := rfl
@[simp] theorem State.latchQuiet_keeps_key (s : State) (n : Nat) (b l : Bool) : (s.latchQuiet n b l).key = s.key := rfl
@[simp] theorem State.latchQuiet_keeps_pair (s : State) (n : Nat) (b l : Bool) : (s.latchQuiet n b l).pair = s.pair := rfl
@[simp] theorem State.latchQuiet_keeps_mon (s : State) (n : Nat) (b l : Bool) : (s.latchQuiet n b l).mon = s.mon := rfl
@[simp] theorem State.latchQuiet_keeps_blt (s : State) (n : Nat) (b l : Bool) : (s.latchQuiet n b l).blt = s.blt := rfl
@[simp] theorem State.latchQuiet_keeps_pending (s : State) (n : Nat) (b l : Bool) : (s.latchQuiet n b l).pending = s.pending := rfl

@[simp] theorem State.modMbx_keeps_ticks (s : State) (n : Nat) (f : Mbx → Mbx) : (s.modMbx n f).ticks = s.ticks := rfl
@[simp] theorem State.modMbx_keeps_freeCtr (s : State) (n : Nat) (f : Mbx → Mbx) : (s.modMbx n f).freeCtr = s.freeCtr := rfl
@[simp] theorem State.modMbx_keeps_fuse (s : State) (n : Nat) (f : Mbx → Mbx) : (s.modMbx n f).fuse = s.fuse := rfl
@[simp] theorem State.modMbx_keeps_vbat (s : State) (n : Nat) (f : Mbx → Mbx) : (s.modMbx n f).vbat = s.vbat := rfl
@[simp] theorem State.modMbx_keeps_keep (s : State) (n : Nat) (f : Mbx → Mbx) : (s.modMbx n f).keep = s.keep := rfl
@[simp] theorem State.modMbx_keeps_cfg (s : State) (n : Nat) (f : Mbx → Mbx) : (s.modMbx n f).cfg = s.cfg := rfl
@[simp] theorem State.modMbx_keeps_sys (s : State) (n : Nat) (f : Mbx → Mbx) : (s.modMbx n f).sys = s.sys := rfl
@[simp] theorem State.modMbx_keeps_ref (s : State) (n : Nat) (f : Mbx → Mbx) : (s.modMbx n f).ref = s.ref := rfl
@[simp] theorem State.modMbx_keeps_acd (s : State) (n : Nat) (f : Mbx → Mbx) : (s.modMbx n f).acd = s.acd := rfl
@[simp] theorem State.modMbx_keeps_gns (s : State) (n : Nat) (f : Mbx → Mbx) : (s.modMbx n f).gns = s.gns := rfl
@[simp] theorem State.modMbx_keeps_tic (s : State) (n : Nat) (f : Mbx → Mbx) : (s.modMbx n f).tic = s.tic := rfl
@[simp] theorem State.modMbx_keeps_out (s : State) (n : Nat) (f : Mbx → Mbx) : (s.modMbx n f).out = s.out := rfl
@[simp] theorem State.modMbx_keeps_eth (s : State) (n : Nat) (f : Mbx → Mbx) : (s.modMbx n f).eth = s.eth := rfl
@[simp] theorem State.modMbx_keeps_tmg (s : State) (n : Nat) (f : Mbx → Mbx) : (s.modMbx n f).tmg = s.tmg := rfl
@[simp] theorem State.modMbx_keeps_svc (s : State) (n : Nat) (f : Mbx → Mbx) : (s.modMbx n f).svc = s.svc := rfl
@[simp] theorem State.modMbx_keeps_log (s : State) (n : Nat) (f : Mbx → Mbx) : (s.modMbx n f).log = s.log := rfl
@[simp] theorem State.modMbx_keeps_key (s : State) (n : Nat) (f : Mbx → Mbx) : (s.modMbx n f).key = s.key := rfl
@[simp] theorem State.modMbx_keeps_flt (s : State) (n : Nat) (f : Mbx → Mbx) : (s.modMbx n f).flt = s.flt := rfl
@[simp] theorem State.modMbx_keeps_pair (s : State) (n : Nat) (f : Mbx → Mbx) : (s.modMbx n f).pair = s.pair := rfl
@[simp] theorem State.modMbx_keeps_mon (s : State) (n : Nat) (f : Mbx → Mbx) : (s.modMbx n f).mon = s.mon := rfl
@[simp] theorem State.modMbx_keeps_blt (s : State) (n : Nat) (f : Mbx → Mbx) : (s.modMbx n f).blt = s.blt := rfl
@[simp] theorem State.modMbx_keeps_pending (s : State) (n : Nat) (f : Mbx → Mbx) : (s.modMbx n f).pending = s.pending := rfl

@[simp] theorem State.modRing_keeps_ticks (s : State) (n : Nat) (f : Ring → Ring) : (s.modRing n f).ticks = s.ticks := rfl
@[simp] theorem State.modRing_keeps_freeCtr (s : State) (n : Nat) (f : Ring → Ring) : (s.modRing n f).freeCtr = s.freeCtr := rfl
@[simp] theorem State.modRing_keeps_fuse (s : State) (n : Nat) (f : Ring → Ring) : (s.modRing n f).fuse = s.fuse := rfl
@[simp] theorem State.modRing_keeps_vbat (s : State) (n : Nat) (f : Ring → Ring) : (s.modRing n f).vbat = s.vbat := rfl
@[simp] theorem State.modRing_keeps_keep (s : State) (n : Nat) (f : Ring → Ring) : (s.modRing n f).keep = s.keep := rfl
@[simp] theorem State.modRing_keeps_cfg (s : State) (n : Nat) (f : Ring → Ring) : (s.modRing n f).cfg = s.cfg := rfl
@[simp] theorem State.modRing_keeps_sys (s : State) (n : Nat) (f : Ring → Ring) : (s.modRing n f).sys = s.sys := rfl
@[simp] theorem State.modRing_keeps_ref (s : State) (n : Nat) (f : Ring → Ring) : (s.modRing n f).ref = s.ref := rfl
@[simp] theorem State.modRing_keeps_acd (s : State) (n : Nat) (f : Ring → Ring) : (s.modRing n f).acd = s.acd := rfl
@[simp] theorem State.modRing_keeps_gns (s : State) (n : Nat) (f : Ring → Ring) : (s.modRing n f).gns = s.gns := rfl
@[simp] theorem State.modRing_keeps_tic (s : State) (n : Nat) (f : Ring → Ring) : (s.modRing n f).tic = s.tic := rfl
@[simp] theorem State.modRing_keeps_out (s : State) (n : Nat) (f : Ring → Ring) : (s.modRing n f).out = s.out := rfl
@[simp] theorem State.modRing_keeps_eth (s : State) (n : Nat) (f : Ring → Ring) : (s.modRing n f).eth = s.eth := rfl
@[simp] theorem State.modRing_keeps_tmg (s : State) (n : Nat) (f : Ring → Ring) : (s.modRing n f).tmg = s.tmg := rfl
@[simp] theorem State.modRing_keeps_svc (s : State) (n : Nat) (f : Ring → Ring) : (s.modRing n f).svc = s.svc := rfl
@[simp] theorem State.modRing_keeps_log (s : State) (n : Nat) (f : Ring → Ring) : (s.modRing n f).log = s.log := rfl
@[simp] theorem State.modRing_keeps_key (s : State) (n : Nat) (f : Ring → Ring) : (s.modRing n f).key = s.key := rfl
@[simp] theorem State.modRing_keeps_flt (s : State) (n : Nat) (f : Ring → Ring) : (s.modRing n f).flt = s.flt := rfl
@[simp] theorem State.modRing_keeps_pair (s : State) (n : Nat) (f : Ring → Ring) : (s.modRing n f).pair = s.pair := rfl
@[simp] theorem State.modRing_keeps_mon (s : State) (n : Nat) (f : Ring → Ring) : (s.modRing n f).mon = s.mon := rfl
@[simp] theorem State.modRing_keeps_blt (s : State) (n : Nat) (f : Ring → Ring) : (s.modRing n f).blt = s.blt := rfl
@[simp] theorem State.modRing_keeps_pending (s : State) (n : Nat) (f : Ring → Ring) : (s.modRing n f).pending = s.pending := rfl

@[simp] theorem State.semPut_keeps_ticks (s : State) (i : Nat) (h : Option (BitVec 4)) : (s.semPut i h).ticks = s.ticks := rfl
@[simp] theorem State.semPut_keeps_freeCtr (s : State) (i : Nat) (h : Option (BitVec 4)) : (s.semPut i h).freeCtr = s.freeCtr := rfl
@[simp] theorem State.semPut_keeps_fuse (s : State) (i : Nat) (h : Option (BitVec 4)) : (s.semPut i h).fuse = s.fuse := rfl
@[simp] theorem State.semPut_keeps_vbat (s : State) (i : Nat) (h : Option (BitVec 4)) : (s.semPut i h).vbat = s.vbat := rfl
@[simp] theorem State.semPut_keeps_keep (s : State) (i : Nat) (h : Option (BitVec 4)) : (s.semPut i h).keep = s.keep := rfl
@[simp] theorem State.semPut_keeps_cfg (s : State) (i : Nat) (h : Option (BitVec 4)) : (s.semPut i h).cfg = s.cfg := rfl
@[simp] theorem State.semPut_keeps_sys (s : State) (i : Nat) (h : Option (BitVec 4)) : (s.semPut i h).sys = s.sys := rfl
@[simp] theorem State.semPut_keeps_ref (s : State) (i : Nat) (h : Option (BitVec 4)) : (s.semPut i h).ref = s.ref := rfl
@[simp] theorem State.semPut_keeps_acd (s : State) (i : Nat) (h : Option (BitVec 4)) : (s.semPut i h).acd = s.acd := rfl
@[simp] theorem State.semPut_keeps_gns (s : State) (i : Nat) (h : Option (BitVec 4)) : (s.semPut i h).gns = s.gns := rfl
@[simp] theorem State.semPut_keeps_tic (s : State) (i : Nat) (h : Option (BitVec 4)) : (s.semPut i h).tic = s.tic := rfl
@[simp] theorem State.semPut_keeps_out (s : State) (i : Nat) (h : Option (BitVec 4)) : (s.semPut i h).out = s.out := rfl
@[simp] theorem State.semPut_keeps_eth (s : State) (i : Nat) (h : Option (BitVec 4)) : (s.semPut i h).eth = s.eth := rfl
@[simp] theorem State.semPut_keeps_tmg (s : State) (i : Nat) (h : Option (BitVec 4)) : (s.semPut i h).tmg = s.tmg := rfl
@[simp] theorem State.semPut_keeps_svc (s : State) (i : Nat) (h : Option (BitVec 4)) : (s.semPut i h).svc = s.svc := rfl
@[simp] theorem State.semPut_keeps_log (s : State) (i : Nat) (h : Option (BitVec 4)) : (s.semPut i h).log = s.log := rfl
@[simp] theorem State.semPut_keeps_key (s : State) (i : Nat) (h : Option (BitVec 4)) : (s.semPut i h).key = s.key := rfl
@[simp] theorem State.semPut_keeps_flt (s : State) (i : Nat) (h : Option (BitVec 4)) : (s.semPut i h).flt = s.flt := rfl
@[simp] theorem State.semPut_keeps_pair (s : State) (i : Nat) (h : Option (BitVec 4)) : (s.semPut i h).pair = s.pair := rfl
@[simp] theorem State.semPut_keeps_mon (s : State) (i : Nat) (h : Option (BitVec 4)) : (s.semPut i h).mon = s.mon := rfl
@[simp] theorem State.semPut_keeps_blt (s : State) (i : Nat) (h : Option (BitVec 4)) : (s.semPut i h).blt = s.blt := rfl
@[simp] theorem State.semPut_keeps_pending (s : State) (i : Nat) (h : Option (BitVec 4)) : (s.semPut i h).pending = s.pending := rfl

@[simp] theorem State.ringPush_keeps_ticks (s : State) (n : Nat) (r : List W32) : (s.ringPush n r).ticks = s.ticks := rfl
@[simp] theorem State.ringPush_keeps_freeCtr (s : State) (n : Nat) (r : List W32) : (s.ringPush n r).freeCtr = s.freeCtr := rfl
@[simp] theorem State.ringPush_keeps_fuse (s : State) (n : Nat) (r : List W32) : (s.ringPush n r).fuse = s.fuse := rfl
@[simp] theorem State.ringPush_keeps_vbat (s : State) (n : Nat) (r : List W32) : (s.ringPush n r).vbat = s.vbat := rfl
@[simp] theorem State.ringPush_keeps_keep (s : State) (n : Nat) (r : List W32) : (s.ringPush n r).keep = s.keep := rfl
@[simp] theorem State.ringPush_keeps_cfg (s : State) (n : Nat) (r : List W32) : (s.ringPush n r).cfg = s.cfg := rfl
@[simp] theorem State.ringPush_keeps_sys (s : State) (n : Nat) (r : List W32) : (s.ringPush n r).sys = s.sys := rfl
@[simp] theorem State.ringPush_keeps_ref (s : State) (n : Nat) (r : List W32) : (s.ringPush n r).ref = s.ref := rfl
@[simp] theorem State.ringPush_keeps_acd (s : State) (n : Nat) (r : List W32) : (s.ringPush n r).acd = s.acd := rfl
@[simp] theorem State.ringPush_keeps_gns (s : State) (n : Nat) (r : List W32) : (s.ringPush n r).gns = s.gns := rfl
@[simp] theorem State.ringPush_keeps_tic (s : State) (n : Nat) (r : List W32) : (s.ringPush n r).tic = s.tic := rfl
@[simp] theorem State.ringPush_keeps_out (s : State) (n : Nat) (r : List W32) : (s.ringPush n r).out = s.out := rfl
@[simp] theorem State.ringPush_keeps_eth (s : State) (n : Nat) (r : List W32) : (s.ringPush n r).eth = s.eth := rfl
@[simp] theorem State.ringPush_keeps_tmg (s : State) (n : Nat) (r : List W32) : (s.ringPush n r).tmg = s.tmg := rfl
@[simp] theorem State.ringPush_keeps_svc (s : State) (n : Nat) (r : List W32) : (s.ringPush n r).svc = s.svc := rfl
@[simp] theorem State.ringPush_keeps_log (s : State) (n : Nat) (r : List W32) : (s.ringPush n r).log = s.log := rfl
@[simp] theorem State.ringPush_keeps_key (s : State) (n : Nat) (r : List W32) : (s.ringPush n r).key = s.key := rfl
@[simp] theorem State.ringPush_keeps_flt (s : State) (n : Nat) (r : List W32) : (s.ringPush n r).flt = s.flt := rfl
@[simp] theorem State.ringPush_keeps_pair (s : State) (n : Nat) (r : List W32) : (s.ringPush n r).pair = s.pair := rfl
@[simp] theorem State.ringPush_keeps_mon (s : State) (n : Nat) (r : List W32) : (s.ringPush n r).mon = s.mon := rfl
@[simp] theorem State.ringPush_keeps_blt (s : State) (n : Nat) (r : List W32) : (s.ringPush n r).blt = s.blt := rfl
@[simp] theorem State.ringPush_keeps_pending (s : State) (n : Nat) (r : List W32) : (s.ringPush n r).pending = s.pending := rfl

@[simp] theorem State.ringFree_keeps_ticks (s : State) (n : Nat) (r : List W32) : (s.ringFree n r).ticks = s.ticks := rfl
@[simp] theorem State.ringFree_keeps_freeCtr (s : State) (n : Nat) (r : List W32) : (s.ringFree n r).freeCtr = s.freeCtr := rfl
@[simp] theorem State.ringFree_keeps_fuse (s : State) (n : Nat) (r : List W32) : (s.ringFree n r).fuse = s.fuse := rfl
@[simp] theorem State.ringFree_keeps_vbat (s : State) (n : Nat) (r : List W32) : (s.ringFree n r).vbat = s.vbat := rfl
@[simp] theorem State.ringFree_keeps_keep (s : State) (n : Nat) (r : List W32) : (s.ringFree n r).keep = s.keep := rfl
@[simp] theorem State.ringFree_keeps_cfg (s : State) (n : Nat) (r : List W32) : (s.ringFree n r).cfg = s.cfg := rfl
@[simp] theorem State.ringFree_keeps_sys (s : State) (n : Nat) (r : List W32) : (s.ringFree n r).sys = s.sys := rfl
@[simp] theorem State.ringFree_keeps_ref (s : State) (n : Nat) (r : List W32) : (s.ringFree n r).ref = s.ref := rfl
@[simp] theorem State.ringFree_keeps_acd (s : State) (n : Nat) (r : List W32) : (s.ringFree n r).acd = s.acd := rfl
@[simp] theorem State.ringFree_keeps_gns (s : State) (n : Nat) (r : List W32) : (s.ringFree n r).gns = s.gns := rfl
@[simp] theorem State.ringFree_keeps_tic (s : State) (n : Nat) (r : List W32) : (s.ringFree n r).tic = s.tic := rfl
@[simp] theorem State.ringFree_keeps_out (s : State) (n : Nat) (r : List W32) : (s.ringFree n r).out = s.out := rfl
@[simp] theorem State.ringFree_keeps_eth (s : State) (n : Nat) (r : List W32) : (s.ringFree n r).eth = s.eth := rfl
@[simp] theorem State.ringFree_keeps_tmg (s : State) (n : Nat) (r : List W32) : (s.ringFree n r).tmg = s.tmg := rfl
@[simp] theorem State.ringFree_keeps_svc (s : State) (n : Nat) (r : List W32) : (s.ringFree n r).svc = s.svc := rfl
@[simp] theorem State.ringFree_keeps_log (s : State) (n : Nat) (r : List W32) : (s.ringFree n r).log = s.log := rfl
@[simp] theorem State.ringFree_keeps_key (s : State) (n : Nat) (r : List W32) : (s.ringFree n r).key = s.key := rfl
@[simp] theorem State.ringFree_keeps_flt (s : State) (n : Nat) (r : List W32) : (s.ringFree n r).flt = s.flt := rfl
@[simp] theorem State.ringFree_keeps_pair (s : State) (n : Nat) (r : List W32) : (s.ringFree n r).pair = s.pair := rfl
@[simp] theorem State.ringFree_keeps_mon (s : State) (n : Nat) (r : List W32) : (s.ringFree n r).mon = s.mon := rfl
@[simp] theorem State.ringFree_keeps_blt (s : State) (n : Nat) (r : List W32) : (s.ringFree n r).blt = s.blt := rfl
@[simp] theorem State.ringFree_keeps_pending (s : State) (n : Nat) (r : List W32) : (s.ringFree n r).pending = s.pending := rfl

@[simp] theorem State.setRate_keeps_ticks (s : State) (f : BitVec 40) : (s.setRate f).ticks = s.ticks := rfl
@[simp] theorem State.setRate_keeps_freeCtr (s : State) (f : BitVec 40) : (s.setRate f).freeCtr = s.freeCtr := rfl
@[simp] theorem State.setRate_keeps_fuse (s : State) (f : BitVec 40) : (s.setRate f).fuse = s.fuse := rfl
@[simp] theorem State.setRate_keeps_vbat (s : State) (f : BitVec 40) : (s.setRate f).vbat = s.vbat := rfl
@[simp] theorem State.setRate_keeps_keep (s : State) (f : BitVec 40) : (s.setRate f).keep = s.keep := rfl
@[simp] theorem State.setRate_keeps_cfg (s : State) (f : BitVec 40) : (s.setRate f).cfg = s.cfg := rfl
@[simp] theorem State.setRate_keeps_sys (s : State) (f : BitVec 40) : (s.setRate f).sys = s.sys := rfl
@[simp] theorem State.setRate_keeps_cmd (s : State) (f : BitVec 40) : (s.setRate f).cmd = s.cmd := rfl
@[simp] theorem State.setRate_keeps_ref (s : State) (f : BitVec 40) : (s.setRate f).ref = s.ref := rfl
@[simp] theorem State.setRate_keeps_gns (s : State) (f : BitVec 40) : (s.setRate f).gns = s.gns := rfl
@[simp] theorem State.setRate_keeps_tic (s : State) (f : BitVec 40) : (s.setRate f).tic = s.tic := rfl
@[simp] theorem State.setRate_keeps_out (s : State) (f : BitVec 40) : (s.setRate f).out = s.out := rfl
@[simp] theorem State.setRate_keeps_eth (s : State) (f : BitVec 40) : (s.setRate f).eth = s.eth := rfl
@[simp] theorem State.setRate_keeps_tmg (s : State) (f : BitVec 40) : (s.setRate f).tmg = s.tmg := rfl
@[simp] theorem State.setRate_keeps_svc (s : State) (f : BitVec 40) : (s.setRate f).svc = s.svc := rfl
@[simp] theorem State.setRate_keeps_log (s : State) (f : BitVec 40) : (s.setRate f).log = s.log := rfl
@[simp] theorem State.setRate_keeps_key (s : State) (f : BitVec 40) : (s.setRate f).key = s.key := rfl
@[simp] theorem State.setRate_keeps_flt (s : State) (f : BitVec 40) : (s.setRate f).flt = s.flt := rfl
@[simp] theorem State.setRate_keeps_pair (s : State) (f : BitVec 40) : (s.setRate f).pair = s.pair := rfl
@[simp] theorem State.setRate_keeps_mon (s : State) (f : BitVec 40) : (s.setRate f).mon = s.mon := rfl
@[simp] theorem State.setRate_keeps_blt (s : State) (f : BitVec 40) : (s.setRate f).blt = s.blt := rfl
@[simp] theorem State.setRate_keeps_pending (s : State) (f : BitVec 40) : (s.setRate f).pending = s.pending := rfl

@[simp] theorem State.modVbat_keeps_ticks (s : State) (f : Vbat → Vbat) : (s.modVbat f).ticks = s.ticks := rfl
@[simp] theorem State.modVbat_keeps_freeCtr (s : State) (f : Vbat → Vbat) : (s.modVbat f).freeCtr = s.freeCtr := rfl
@[simp] theorem State.modVbat_keeps_fuse (s : State) (f : Vbat → Vbat) : (s.modVbat f).fuse = s.fuse := rfl
@[simp] theorem State.modVbat_keeps_keep (s : State) (f : Vbat → Vbat) : (s.modVbat f).keep = s.keep := rfl
@[simp] theorem State.modVbat_keeps_cfg (s : State) (f : Vbat → Vbat) : (s.modVbat f).cfg = s.cfg := rfl
@[simp] theorem State.modVbat_keeps_sys (s : State) (f : Vbat → Vbat) : (s.modVbat f).sys = s.sys := rfl
@[simp] theorem State.modVbat_keeps_cmd (s : State) (f : Vbat → Vbat) : (s.modVbat f).cmd = s.cmd := rfl
@[simp] theorem State.modVbat_keeps_ref (s : State) (f : Vbat → Vbat) : (s.modVbat f).ref = s.ref := rfl
@[simp] theorem State.modVbat_keeps_acd (s : State) (f : Vbat → Vbat) : (s.modVbat f).acd = s.acd := rfl
@[simp] theorem State.modVbat_keeps_gns (s : State) (f : Vbat → Vbat) : (s.modVbat f).gns = s.gns := rfl
@[simp] theorem State.modVbat_keeps_tic (s : State) (f : Vbat → Vbat) : (s.modVbat f).tic = s.tic := rfl
@[simp] theorem State.modVbat_keeps_out (s : State) (f : Vbat → Vbat) : (s.modVbat f).out = s.out := rfl
@[simp] theorem State.modVbat_keeps_eth (s : State) (f : Vbat → Vbat) : (s.modVbat f).eth = s.eth := rfl
@[simp] theorem State.modVbat_keeps_tmg (s : State) (f : Vbat → Vbat) : (s.modVbat f).tmg = s.tmg := rfl
@[simp] theorem State.modVbat_keeps_svc (s : State) (f : Vbat → Vbat) : (s.modVbat f).svc = s.svc := rfl
@[simp] theorem State.modVbat_keeps_log (s : State) (f : Vbat → Vbat) : (s.modVbat f).log = s.log := rfl
@[simp] theorem State.modVbat_keeps_key (s : State) (f : Vbat → Vbat) : (s.modVbat f).key = s.key := rfl
@[simp] theorem State.modVbat_keeps_flt (s : State) (f : Vbat → Vbat) : (s.modVbat f).flt = s.flt := rfl
@[simp] theorem State.modVbat_keeps_pair (s : State) (f : Vbat → Vbat) : (s.modVbat f).pair = s.pair := rfl
@[simp] theorem State.modVbat_keeps_mon (s : State) (f : Vbat → Vbat) : (s.modVbat f).mon = s.mon := rfl
@[simp] theorem State.modVbat_keeps_blt (s : State) (f : Vbat → Vbat) : (s.modVbat f).blt = s.blt := rfl
@[simp] theorem State.modVbat_keeps_pending (s : State) (f : Vbat → Vbat) : (s.modVbat f).pending = s.pending := rfl

@[simp] theorem State.toReset_keeps_ticks (s : State) (c : Nat) (b : Bool) : (s.toReset c b).ticks = s.ticks := rfl
@[simp] theorem State.toReset_keeps_freeCtr (s : State) (c : Nat) (b : Bool) : (s.toReset c b).freeCtr = s.freeCtr := rfl
@[simp] theorem State.toReset_keeps_fuse (s : State) (c : Nat) (b : Bool) : (s.toReset c b).fuse = s.fuse := rfl
@[simp] theorem State.toReset_keeps_vbat (s : State) (c : Nat) (b : Bool) : (s.toReset c b).vbat = s.vbat := rfl
@[simp] theorem State.toReset_keeps_pending (s : State) (c : Nat) (b : Bool) : (s.toReset c b).pending = s.pending := rfl

@[simp] theorem State.advance_at (s : State) (dt : Nat) : (s.advance dt).ticks = s.ticks + dt := rfl

@[simp] theorem State.drawn_at (s : State) : s.drawn.freeCtr = s.freeCtr + 1 := rfl

@[simp] theorem State.answerRead_word (s : State) (w : W32) : (s.answerRead w).cmd.readWord = w := rfl

/-- Ticks pass one after another: none passes twice. -/
theorem State.advance_ticks_add (s : State) (a b : Nat) : ((s.advance a).advance b).ticks = s.ticks + (a + b) := by
  simp [Nat.add_assoc]

end Sys2Proof.Machine
end

