-- ==== Sys2Proof/Tests/Slice0.lean ====
section
/-! SUPPORT. Tests of the model: small states; the spec's worked examples; the well-formedness checks; and, for every
statement with hypotheses, one theorem that shows states and operands meeting them, clause by clause. -/

namespace Sys2Proof.Tests

set_option maxRecDepth 4000

set_option Elab.async false

set_option linter.unusedVariables false

open Host Sys2Proof.Machine

/-- A packet whose LEN is the number of its payload words. -/
def pk (ws : List W32) : Packet := { len := BitVec.ofNat 16 ws.length, payload := ws }

/-- The device in RUN, life cycle OWNED, every domain ready and powered, the host's link up, every ring enabled and one packet
in each submission ring. -/
def live : State := { State.reset with
  ticks := 1000000000000000
  fuse := { State.reset.fuse with lcPairA := 3, gnssEn := true }
  sys := { State.reset.sys with
    devState := .run, inReset := false, domReady := 0x1FFF, domOn := 0x1FFF, domUp := 0, domDown := 0, lanesActive := true
    pcieLink := true }
  cmd := { State.reset.cmd with rings := Tab.mapIdx State.reset.cmd.rings fun n r =>
    { r with enable := true, sizeLog2 := 5, prod := if n < 2 then 1 else 0 } } }

/-- `live` in MAINT. -/
def mnt : State := { live with sys := { live.sys with devState := .maint } }

/-- `live` in INIT. -/
def ini : State := { live with sys := { live.sys with devState := .init } }

/-- `live` in BOOT. -/
def boot : State := { live with sys := { live.sys with devState := .boot } }

/-- `live` with a running accord. -/
def warm : State := { live with acd := { live.acd with state := .freerun } }

/-- `live` with lane 3 in service, its quad in a mode of lanes. -/
def port3 (mode : BitVec 2) : State := { live with
  cfg.eth.lane := Tab.mod live.cfg.eth.lane 3 fun c => { c with enable := true, laneMode := mode }
  eth.lanes := Tab.mod live.eth.lanes 3 fun x => { x with linkUp := true } }

/-- Lane 3 serves time: its port, NTP and NTS are on and its gate is open. -/
def served : State := { port3 2 with
  cfg.svc.ports := Tab.mod live.cfg.svc.ports 3 fun c => { c with enable := true }
  cfg.svc.ntpLanes := 8, cfg.svc.ntsLanes := 8, svc.gateOpen := true
  tmg.p := Tab.mod live.tmg.p 243 fun y => { y with tokens := 125000000 } }

/-- A client of lane 3. -/
def client (kind : BitVec 3) (grant : Bool) (tokens : BitVec 16) : Client := { Client.reset with
  lane := 3, kind := kind, grant := grant, tokens := tokens, tokTick := live.ticks }

/-- The packet at the instant of its submission plus `us` microseconds, as a scheduled one. -/
def later (us : Nat) (p : Packet) : Packet := { p with sched := true, execAt := taiOf (us * us16) }

/-- `s` with a log that holds `h`. -/
def holding (h : List LogEntry) (s : State) : State := { s with log := { s.log with held := h } }

/-- `warm` with 256 commands waiting. -/
def crowded : State := { warm with cmd := { warm.cmd with
  sched := List.replicate 256 { opcode := 2, pkt := later 100 (pk []) } } }

/-- An NTS request laid out as R297 says, with a cookie of 104 bytes and an authenticator of zeros. -/
def ntsAsk (cookie : List Byte) : SvcReq := { msg :=
  (0x23 :: List.replicate 47 0 ++ [1, 4, 0, 36] ++ List.replicate 32 0 ++ [2, 4, 0, 108] ++ cookie ++
    [4, 4, 0, 40, 0, 16, 0, 16] ++ List.replicate 32 0) }

/-- The command's outcome is a next state. -/
def isNext (r : Res) : Bool := match r with
  | .next _ => true
  | _ => false

/-! ### The spec's worked examples -/

/-- The words of EXEC_AT in the scheduled echo of chapter 2. -/
theorem test_tai_words :
    taiWords (taiOf (1767225637 * sec16 + 500000000 * 65536)) = [0x65000000, 0xB9251DCD, 0x00006955] := by decide +kernel

/-- The echo of chapter 2 answers with its payload, STATUS OK and no log entry. -/
theorem test_echo_reply :
    (match exec (.sysEcho (pk [0xCAFE0001, 0x00001860])) live with
    | .next t => t.cmd.replies.map fun r => (r.status, r.kind, r.opcode, r.logSeq, r.payload)
    | _ => []) = [(0, 0, 2, 0, [0xCAFE0001, 0x00001860])] := by decide +kernel

/-- `live` with every converter warm. -/
def warmTic : State := { live with tic.convs := Tab.mapIdx live.tic.convs fun _ c => { c with warm := true } }

/-- The ToD record of chapter 7: TIC4 under a locked accord with EB 1,267. -/
theorem test_tod_record :
    taiRecord 0 (taiOf (1767225637 * sec16 + 0xC4000)) (warmTic.ticEbWord 4 1267) =
      [0x000C4000, 0xB9250000, 0x00006955, 0x000004F3] := by decide +kernel

/-- The capture record of chapter 9, but for the digest: 118 bytes on lane 5 with EB 1,272. -/
theorem test_capture_record :
    let t : Stamp := { time := 0x00006955B9250EE6B6D83333, eb := 1272, flags := 0 }
    let r := frameRecord t 5 .ok { bytes := List.replicate 118 0 }
    (r.take 3, r.getD 6 0) = ([0xB6D83333, 0xB9250EE6, 0x00006955], 0x00500076) := by decide +kernel

/-- The medium times of chapter 10: at 10G a frame of 1,518 bytes takes 1,231 ns, one of 64 bytes 68, one of 9,216
bytes 7,389. -/
theorem test_medium_times : [txNs 1518 10000, txNs 64 10000, txNs 9216 10000] = [1231, 68, 7389] := by decide

/-- The rubidium oscillator of chapter 5 in drydown, `secs` after its first failure, 1.5 K warmer. -/
def rubidium (secs : Nat) : State × Nat :=
  ({ live with
      cfg.acd.osc := Tab.mapIdx live.cfg.acd.osc fun _ o =>
        { o with y0 := 4700, y0Free := 100000000, age := 50000, tempco := 500 }
      acd.state := .drydownIn, acd.freqLast := 3182700, acd.freqHold := 3182400, acd.dtMax := 150
      acd.holdH := 4000 * 1250000000 },
    live.ticks + 64 - secs * 1250000000)

/-- E_HOLD of chapter 5's table at 1 h, 6 h, 12 h, 49,318 s, 49,319 s and 24 h, in 10 ps. -/
theorem test_drydown_table :
    [3600, 21600, 43200, 49318, 49319, 86400].map (fun n => (rubidium n).1.eHoldFor (rubidium n).2) =
      [2445, 25920, 78840, 98736, 98740, 265680] := by decide +kernel

/-- The root of five records, chapter 12: node(node(node(L0, L1), node(L2, L3)), L4). -/
theorem test_root_of_five (a b c d e : Dig) :
    mth [a, b, c, d, e] = nodeHash (nodeHash (nodeHash a b) (nodeHash c d)) e := rfl

/-- The first words of that root's log entry: SEQ 0x0003_A2F1_0C40, TYPE 0x07, ORIGIN M15, LANE 5. -/
theorem test_root_header :
    (LogEntry.words { LogEntry.reset with seq := 0x0003A2F10C40, typ := 0x07, origin := 15, sub := 5 }).take 2 =
      [0xA2F10C40, 0x5F070003] := by decide +kernel

/-- SHA-256 of the message "abc": FIPS 180-4's example. -/
theorem test_sha256_abc :
    digBytes (sha256 [0x61, 0x62, 0x63]) =
      [0xBA, 0x78, 0x16, 0xBF, 0x8F, 0x01, 0xCF, 0xEA, 0x41, 0x41, 0x40, 0xDE, 0x5D, 0xAE, 0x22, 0x23,
       0xB0, 0x03, 0x61, 0xA3, 0x96, 0x17, 0x7A, 0x9C, 0xB4, 0x10, 0xFF, 0x61, 0xF2, 0x00, 0x15, 0xAD] := by
  decide +kernel

/-- AES-128 and AES-256: FIPS 197's examples C.1 and C.3. -/
theorem test_aes :
    Aes.cipher (Aes.roundKeys (beNat 16 0x000102030405060708090A0B0C0D0E0F)) (beNat 16 0x00112233445566778899AABBCCDDEEFF) =
      beNat 16 0x69C4E0D86A7B0430D8CDB78070B4C55A ∧
    Aes.cipher (Aes.roundKeys (beNat 32 0x000102030405060708090A0B0C0D0E0F101112131415161718191A1B1C1D1E1F))
      (beNat 16 0x00112233445566778899AABBCCDDEEFF) = beNat 16 0x8EA2B7CA516745BFEAFC49904B496089 := by decide +kernel

/-- AES-SIV, sealed: RFC 5297's example A.1. -/
theorem test_aes_siv :
    Aes.sivSeal (beNat 32 0xFFFEFDFCFBFAF9F8F7F6F5F4F3F2F1F0F0F1F2F3F4F5F6F7F8F9FAFBFCFDFEFF)
      [beNat 24 0x101112131415161718191A1B1C1D1E1F2021222324252627] (beNat 14 0x112233445566778899AABBCCDDEE) =
      beNat 30 0x85632D07C6E8F37F950ACD320A2ECC9340C02B9690C4DC04DAEF7F6AFE5C := by decide +kernel

/-- The tag of GCM over no data: test case 1 of the GCM specification. -/
theorem test_gmac : gmac (List.replicate 16 0) (List.replicate 12 0) [] = 0x58E2FCCEFA7E3061367F1D57A4E7455A := by decide +kernel

/-! ### The effect of a few commands -/

/-- A free semaphore read by M2 is GRANTED to it; M1 then finds it BUSY with holder 2 (R56). -/
theorem test_semaphore_arbitrates :
    (match exec (.semRead 1 2 7) live with
    | .next t => match exec (.semRead 1 1 7) t with
      | .next u => (t.cmd.readWord, u.cmd.readWord)
      | _ => (0, 0)
    | _ => (0, 0)) = (0x12, 0x22) := by decide +kernel

/-- A producer index past the ring's slots is refused and counted; the index stays (R52). -/
theorem test_ring_overrun_refused :
    (match exec (.ringProdWrite 0 0 0 33) live with
    | .next t => some ((t.ring 0).prod, (t.ring 0).ptrErr, t.sys.refusedWrites)
    | _ => none) = some (1, true, 1) := by decide +kernel

/-- A packet whose LEN does not fit its opcode is answered BAD_LENGTH before its rights are checked (R42). -/
theorem test_length_before_rights :
    (match exec (.keyDebugExit (pk [1])) live with
    | .next t => t.cmd.replies.map (·.status.toNat)
    | _ => []) = [Status.badLength.code] := by decide +kernel

/-- POR_N low resets the device: BOOT, and LAST_RESET names POR_N (R69). -/
theorem test_por :
    (match exec (.porNAssert 0 true) live with
    | .next t => some (t.sys.devState, t.sys.lastReset)
    | _ => none) = some (.boot, 0) := by decide +kernel

/-- Reset leaves PROD and CONS of every ring zero and the accord COLD (R70, R130). -/
theorem test_reset_state : State.reset.acd.state = .cold ∧ State.reset.sys.devState = .boot := by decide +kernel

/-! ### Well-formedness: what each check refuses -/

/-- A payload shorter than LEN; one of 257 words; a LEN of 300 can be sent with 256 words. -/
theorem test_wf_packet :
    ({ len := 2, payload := [1] } : Packet).wf = false ∧
    ({ len := 257, payload := List.replicate 257 0 } : Packet).wf = false ∧
    ({ len := 300, payload := List.replicate 256 0 } : Packet).wf = true ∧
    (Instr.sysEcho { len := 1, payload := [] }).wf = false := by decide +kernel

theorem test_wf_slot : (Instr.refLosTimeout 0 20).wf = false ∧ (Instr.refLosTimeout 0 19).wf = true := by decide

theorem test_wf_tod_slot : (Instr.refTodMessage 0 12 0 0).wf = false := by decide

theorem test_wf_converter : (Instr.ticWarmupEnd 0 36).wf = false ∧ (Instr.ticWarmupEnd 0 35).wf = true := by decide

theorem test_wf_domain : (Instr.domainOff 0 13).wf = false ∧ (Instr.domainOff 0 12).wf = true := by decide

/-- An empty frame, one that lists more than 16,384 bytes, one that leaves bytes unlisted below that. -/
theorem test_wf_frame :
    ({ bytes := [] } : RxFrame).wf = false ∧ ({ bytes := List.replicate 16385 0 } : RxFrame).wf = false ∧
    ({ bytes := [1], more := 1 } : RxFrame).wf = false := by decide +kernel

theorem test_wf_descriptor : (Instr.txDescriptorFetch 0 0 [] []).wf = false := by decide

theorem test_wf_samples : (Instr.supplySample 0 []).wf = false ∧ (Instr.tempSample 0 []).wf = false := by decide

theorem test_wf_health : (Instr.healthBitSet 0 6).wf = false := by decide

theorem test_wf_out_bad : (Instr.benitOutBadNotice 0 20 0).wf = false := by decide

theorem test_wf_handover : (Instr.benitHandoverNotice 0 (taiOf 0 ||| 0x3B9ACA000000)).wf = false := by decide +kernel

/-- A table of a calibration has 64 points. -/
theorem test_wf_cal_table : (Instr.ticCalDone 0 0 0 0 0 0 []).wf = false := by decide

/-- The opcode table gives no row any bits. -/
theorem test_no_word_spells_a_command : decodeTableWord 32 0x00020002 = none := rfl

/-! ### Hypotheses of the statements about every command -/

theorem test_step_runs_front_met : live.pending = [] := rfl

theorem test_step_takes_one_met :
    ({ live with pending := [.wakeNEdge 0, .replyDelivery 3] } : State).pending = [.wakeNEdge 0, .replyDelivery 3] ∧
    isNext (step { live with pending := [.wakeNEdge 0, .replyDelivery 3] }) = true :=
  ⟨rfl, by decide +kernel⟩

theorem test_time_passes_met : isNext (exec (.ringProdWrite 7 0 0 1) live) = true := by decide +kernel

theorem test_only_accesses_past_bar0_fault_met :
    exec (.queuePop 0 (.bar0 0x04000000 false)) live = .fault .outsideMap ∧
    (live.advance 0).accessOf (.queuePop 0 (.bar0 0x04000000 false)) = some (0, 0, [0x04000000]) ∧
    (live.advance 0).reached 0 = true ∧ outOfRange 0 0x04000000 = false ∧ bar0 ≤ (0x04000000 : W32).toNat := by
  and_intros <;> rfl

theorem test_life_cycle_stays_thermometer_met :
    LcThermometer { live with pending := [.wakeNEdge 0] } ∧
    isNext (step { live with pending := [.wakeNEdge 0] }) = true :=
  ⟨.inr (.inr (.inl rfl)), by decide +kernel⟩

theorem test_fuses_never_clear_met :
    isNext (exec (.wakeNEdge 0) { live with fuse := { live.fuse with ownerDbgSet := true } }) = true ∧
    has live.fuse.lcSteps 1 = true :=
  ⟨by decide +kernel, by decide +kernel⟩

theorem test_queries_and_changes_met :
    packetOf (.sysQueryState (pk [])) = some (specSysQueryState, pk []) ∧ isQuery specSysQueryState.opcode = true ∧
    packetOf (.sysSetSemCfg (pk [5])) = some (specSysSetSemCfg, pk [5]) ∧ 0x40 ≤ specSysSetSemCfg.opcode % 256 ∧
    (pk [5]).dryRun = false ∧ specOf (BitVec.toNat (0x0003 : BitVec 16)) = none ∧
    (live.arrive (pk []).dt).canFetch 3 (pk []) = true := by
  and_intros <;> first | rfl | decide +kernel

theorem test_first_refusal_wins_met :
    (packetOf (.gnsQueryStatus (pk [])) = some (specGnsQueryStatus, pk []) ∧ specGnsQueryStatus.opcode / 256 = 5 ∧
      (checkFrom (pk []) { live with fuse := { live.fuse with gnssEn := false } }).fuse.gnssEn = false) ∧
    (packetOf (.calSetTime (pk [])) = some (specCalSetTime, pk []) ∧ specCalSetTime.len (pk []) = some 3 ∧
      (pk []).len.toNat ≠ 3 ∧ specCalSetTime.opcode / 256 ≠ 5) ∧
    (packetOf (.keyDebugExit (pk [])) = some (specKeyDebugExit, pk []) ∧ specKeyDebugExit.len (pk []) = some 0 ∧
      specKeyDebugExit.lcOk (checkFrom (pk []) live) (pk []) = false) ∧
    (specCalSetTime.lcOk (checkFrom (pk [0, 0xFFFFFFFF, 0]) live) (pk [0, 0xFFFFFFFF, 0]) = true ∧
      privileged (pk [0, 0xFFFFFFFF, 0]).master specCalSetTime.opcode = true ∧
      specCalSetTime.params (checkFrom (pk [0, 0xFFFFFFFF, 0]) live) (pk [0, 0xFFFFFFFF, 0]) = false) ∧
    (taiOk (later 11 (pk [5])).execAt = true ∧ (checkFrom (later 11 (pk [5])) live).acd.state = .cold ∧
      specSysSetSemCfg.early (later 11 (pk [5])) (checkFrom (later 11 (pk [5])) live) = some .state) ∧
    ((checkFrom (later 9 (pk [5])) warm).acd.state ≠ .cold ∧
      taiNat (later 9 (pk [5])).execAt < (checkFrom (later 9 (pk [5])) warm).now16 + 10 * us16 ∧
      specSysSetSemCfg.early (later 9 (pk [5])) (checkFrom (later 9 (pk [5])) warm) = some .late) ∧
    (live.arrive 0).canFetch 0x0580 (pk []) = true := by
  and_intros <;> first | rfl | decide +kernel

/-- The packet of the acceptance tests: SYS_SET_SEM_CFG, scheduled 11 us ahead or immediate. -/
def semCfg (sched : Bool) : Packet := if sched then later 11 (pk [5]) else pk [5]

theorem advance_holding (h : List LogEntry) (s : State) : State.advance (holding h s) 0 = holding h (s.advance 0) := by
  simp only [State.advance, holding]
  rfl

theorem arrive_holding (h : List LogEntry) : State.arrive (holding h warm) 0 = holding h (warm.advance 0) := by
  have c : ((holding h (warm.advance 0)).acd.leapPending &&
      decide ((holding h (warm.advance 0)).cfg.acd.leapAt.toNat ≤ (holding h (warm.advance 0)).now16 / sec16)) = false :=
    (by decide +kernel : ((warm.advance 0).acd.leapPending &&
      decide ((warm.advance 0).cfg.acd.leapAt.toNat ≤ (warm.advance 0).now16 / sec16)) = false)
  unfold State.arrive State.leapNow
  rw [advance_holding, c]
  rfl

theorem check_holding (h : List LogEntry) (b : Bool) :
    checkFrom (semCfg b) (holding h warm) = holding h (checkFrom (semCfg b) warm) := by
  have a := arrive_holding h
  have w : State.arrive warm 0 = warm.advance 0 := arrive_holding []
  cases b
  · show (State.arrive (holding h warm) 0).fetched _ = holding h ((State.arrive warm 0).fetched _)
    rw [a, w]; rfl
  · show (State.arrive (holding h warm) 0).fetched _ = holding h ((State.arrive warm 0).fetched _)
    rw [a, w]; rfl

theorem full_log_refuses (h : List LogEntry) (b : Bool) (n : logFullAt ≤ h.length) :
    (checkFrom (semCfg b) (holding h warm)).logFullFor specSysSetSemCfg.opcode = true := by
  have q : (!isQuery specSysSetSemCfg.opcode && specSysSetSemCfg.opcode ≠ 0x0A40 && specSysSetSemCfg.opcode ≠ 0x0041) = true := by
    decide +kernel
  unfold State.logFullFor
  rw [q, check_holding, Bool.true_and]
  exact decide_eq_true n

theorem full_log_early (h : List LogEntry) (b : Bool) :
    specSysSetSemCfg.early (semCfg b) (checkFrom (semCfg b) (holding h warm)) =
      specSysSetSemCfg.early (semCfg b) (checkFrom (semCfg b) warm) := by
  rw [check_holding]; rfl

theorem test_acceptance_in_order_met :
    packetOf (.sysSetSemCfg (semCfg true)) = some (specSysSetSemCfg, semCfg true) ∧
    ((warm.arrive 0).canFetch 0x0060 (semCfg true) = true ∧
      specSysSetSemCfg.early (semCfg true) (checkFrom (semCfg true) warm) = none ∧
      specSysSetSemCfg.early (semCfg false) (checkFrom (semCfg false) warm) = none) ∧
    (specSysSetSemCfg.early (semCfg true) (checkFrom (semCfg true) crowded) = none ∧
      (checkFrom (semCfg true) crowded).logFullFor specSysSetSemCfg.opcode = false ∧
      256 ≤ (checkFrom (semCfg true) crowded).cmd.schedUsed) ∧
    ((checkFrom (semCfg true) warm).logFullFor specSysSetSemCfg.opcode = false ∧
      (checkFrom (semCfg true) warm).cmd.schedUsed < 256 ∧
      specSysSetSemCfg.early { semCfg true with dryRun := true } (checkFrom (semCfg true) warm) = none) ∧
    ((semCfg false).sched = false ∧
      devAllows specSysSetSemCfg.states (checkFrom (semCfg false) warm).sys.devState = true ∧
      specSysSetSemCfg.early { semCfg false with dryRun := true } (checkFrom (semCfg false) warm) = none) := by
  and_intros <;> first | rfl | decide +kernel

/-- The same packets meet a full log. -/
theorem test_acceptance_log_full_met (b : Bool) :
    specSysSetSemCfg.early (semCfg b) (checkFrom (semCfg b) (holding (List.replicate 30208 LogEntry.reset) warm)) = none ∧
    (checkFrom (semCfg b) (holding (List.replicate 30208 LogEntry.reset) warm)).logFullFor specSysSetSemCfg.opcode = true :=
  ⟨(full_log_early _ b).trans (by cases b <;> decide +kernel),
    full_log_refuses _ b (Nat.le_of_eq List.length_replicate.symm)⟩

/-- `live` with one echo whose time has come, asleep. -/
def dueAsleep : State := { live with
  sys := { live.sys with devState := .sleep }
  cmd := { live.cmd with sched := [{ opcode := 0x0040, pkt := later 0 (pk [2]) }] } }

theorem test_state_legality_met :
    boot.sys.devState = .boot ∧ packetOf (.sysSetState (pk [2])) = some (specSysSetState, pk [2]) ∧
    (specSysSetState.early (pk [2]) (checkFrom (pk [2]) { live with sys := { live.sys with devState := .sleep } }) = none ∧
      devAllows specSysSetState.states .sleep = false ∧
      (({ live with sys := { live.sys with devState := .sleep } } : State).arrive 0).canFetch 0x0040 (pk [2]) = true) ∧
    ((State.advance dueAsleep 0).leapNow.schedRuns = true ∧
      (State.advance dueAsleep 0).leapNow.nextDue = some { opcode := 0x0040, pkt := later 0 (pk [2]) } ∧
      specOf (0x0040 : BitVec 16).toNat = some specSysSetState ∧ devAllows specSysSetState.states .sleep = false) ∧
    (packetOf (.keyDebugExit (pk [])) = some (specKeyDebugExit, pk []) ∧
      (∀ n, specKeyDebugExit.len (pk []) = some n → (pk []).len.toNat = n) ∧
      specKeyDebugExit.lcOk (checkFrom (pk []) live) (pk []) = false) :=
  ⟨rfl, rfl, by and_intros <;> decide +kernel, ⟨by decide +kernel, by decide +kernel, rfl, by decide +kernel⟩,
    rfl, fun n h => by cases h; rfl, by decide +kernel⟩

theorem test_replies_touch_nothing_else_met : ({ noReply := true } : Packet).noReply = true ∧ (pk []).noReply = false :=
  ⟨rfl, rfl⟩

theorem test_calendar_is_set_met :
    (runsNow specCalSetTime (pk [0, 0x10000, 5]) live = true ∧ (bodyFrom (pk [0, 0x10000, 5]) live).acd.state = .cold) ∧
    (runsNow specCalSetTime (pk [0, 0, 5]) { live with acd := { live.acd with state := .locked } } = true ∧
      (bodyFrom (pk [0, 0, 5]) { live with acd := { live.acd with state := .locked } }).acd.state = .locked) ∧
    ((live.arrive 0).canFetch 0x0CC0 (pk [0xCA000000, 0x3B9A, 0]) = true ∧ privileged (pk []).master 0x0CC0 = true ∧
      taiNs ((pk [0xCA000000, 0x3B9A, 0]).tai 0) = 1000000000) := by
  and_intros <;> decide +kernel

theorem test_fault_injection_met :
    runsNow specFltInject (pk [0xC4]) mnt = true ∧ faultNamed 160 = true ∧ live.faultClass 160 < 2 ∧
    (faultNamed 9 = true ∧ live.faultClass 9 = 2 ∧ live.flt.safe = false ∧ live.sys.devState ≠ .boot) ∧
    ((live.arrive 0).canFetch 0x0B42 (pk [0]) = true ∧ privileged (pk [0]).master 0x0B42 = true ∧ fld ((pk [0]).w 0) 0 8 = 0) ∧
    faultNamed (fld ((pk [255]).w 0) 0 8) = false := by decide +kernel

theorem test_interrupt_copies_met :
    (BitVec.toNat (0x28004 : W32) = 0x28004 + 0x20 * 0 ∧ (State.advance live 5).reached 0 = true ∧
      State.writes (State.advance live 5) (.bar0 0x28004 false 1) = (0, [(0x28004, 1)])) ∧
    (BitVec.toNat (0x281EC : W32) = 0x2800C + 0x20 * 15 ∧ (State.advance live 5).reached 2 = true ∧
      State.writes (State.advance live 5) (.i2c 0x58 [0, 2, 0x81, 0xEC, 0, 0, 0, 1]) = (2, [(0x281EC, 1)])) ∧
    (BitVec.toNat (0x281E4 : W32) = 0x28004 + 0x20 * (511 / 32) ∧ live.reached 0 = true) := by decide +kernel

theorem test_resets_empty_the_queues_met :
    (State.advance live 3).sys.porLow = false ∧ live.sys.resetLow = false ∧ live.sys.inReset = false ∧
    runsNow specSysReset (pk [0, 0]) live = true ∧ fld ((pk [0, 0]).w 0) 0 2 = 0 ∧
    (({ bodyFrom (pk [0, 0]) live with sys := { (bodyFrom (pk [0, 0]) live).sys with after := 1 } }).finish
      (pk [0, 0]) 0x0045 .ok [] false).log.waitQ = [] := by decide +kernel

/-- `live` with a KDF key, exportable or not, in slot 5. -/
def parent (exportable : Bool) : State := { live with key := { live.key with
  slots := Tab.set live.key.slots 5 { KeySlot.reset with loaded := true, usage := 2, alg := 1, exportable := exportable } } }

/-- KEY_DERIVE from slot 5 into slot 6, with a label of one zero byte and no context. -/
def derive : Packet := pk ([0x01110605, 7, 1] ++ List.replicate 24 0)

theorem test_key_derivation_met :
    (runsNow specKeyDerive derive (parent true) = true ∧
      (bodyFrom derive (parent true)).ready pdCrypto = true ∧
      (bodyFrom derive (parent true)).key.busyOp = none ∧
      ((bodyFrom derive (parent true)).kslot 6).loaded = false ∧
      ((bodyFrom derive (parent true)).kslot 5).exportable = true) ∧
    (runsNow specKeyDerive derive (parent false) = true ∧ flag (derive.w 0) 24 = true ∧
      ((bodyFrom derive (parent false)).kslot 5).exportable = false) ∧
    ((live.arrive 0).canFetch 0x0942 derive = true ∧ derive.len = 27 ∧
      privileged derive.master 0x0942 = true ∧ lcLoads (checkFrom derive live) derive = true ∧
      ((checkFrom derive live).kslot 5).loaded = false) := by decide +kernel

theorem test_codes_read_back_met :
    2 ^ 48 * sec16 - 1 < 2 ^ 48 * sec16 ∧ taiOk (taiOf (2 ^ 48 * sec16 - 1)) = true ∧
    ((later 11 (pk [5])).rsvd < 2 ^ 109 ∧ (later 11 (pk [5])).payload.length = min (later 11 (pk [5])).len.toNat 256) ∧
    (List.replicate 16 (0 : Byte)).length = 16 := by decide +kernel

/-- `live` with one change of the rate on its way. -/
def steered : State := { live with acd := { live.acd with incrQueue := [(live.ticks + 5, 7)] } }

theorem test_accord_counts_met :
    (live.ready pdTime = true ∧ live.acd.incrQueue = []) ∧
    (steered.ready pdTime = true ∧ steered.acd.incrQueue = [(steered.ticks + 5, 7)] ∧ steered.ticks + 5 ≤ steered.ticks + 5) ∧
    steered.ticks + 4 < steered.ticks + 5 ∧ State.reset.ready pdTime = false := by decide +kernel

theorem test_log_chain_met :
    LogEntry.reset.payload.length ≤ 10 ∧ ({ LogEntry.reset with mid := [0, 0, 0, 0] } : LogEntry).mid.length = 4 := by
  decide +kernel

/-- `live` with semaphore 31 held by M1. -/
def held31 : State := { live with cmd := { live.cmd with sems := Tab.set live.cmd.sems 31 (some 1) } }

/-- `live` with a read of semaphore 0 by M1 waiting in this very cycle. -/
def contest : State := { live with pending := [.semRead 0 1 0] }

theorem test_semaphores_met :
    ((State.advance held31 1).reached 2 = true ∧ (State.advance held31 1).cmd.semTick ≠ (State.advance held31 1).ticks) ∧
    (Tab.get (State.advance contest 1).cmd.sems (BitVec.toNat (0 : BitVec 5)) none = none ∧
      (State.advance contest 1).semRival 2 0 = some 1 ∧ (State.advance live 1).semRival 2 0 = none) ∧
    Tab.get (State.advance held31 1).cmd.sems (BitVec.toNat (31 : BitVec 5)) none = some 1 ∧
    ((State.advance held31 1).reached 1 = true ∧ held31.reached 1 = true ∧ held31.reached 2 = true ∧
      held31.cmd.semTick ≠ held31.ticks) := by decide +kernel

theorem test_persistent_fields_guarded_met :
    packetOf (.acdSetUtc (pk [0x10025, 0, 0])) = some (specAcdSetUtc, pk [0x10025, 0, 0]) ∧
    (specAcdSetUtc.early (pk [0x10025, 0, 0]) (bodyFrom (pk [0x10025, 0, 0]) { live with mon := { live.mon with pfw := true } }) = none ∧
      devAllows specAcdSetUtc.states .run = true ∧ live.logFullFor specAcdSetUtc.opcode = false ∧
      specAcdSetUtc.csp (pk [0x10025, 0, 0]) = true ∧ ({ live with mon := { live.mon with pfw := true } } : State).mon.pfw = true ∧
      (live.arrive 0).canFetch 0x0444 (pk [0x10025, 0, 0]) = true) ∧
    (specAcdSetUtc.early (pk [0x10025, 0, 0]) (bodyFrom (pk [0x10025, 0, 0]) { live with keep := { live.keep with ro := true } }) = none ∧
      (bodyFrom (pk [0x10025, 0, 0]) { live with keep := { live.keep with ro := true } }).keep.ro = true ∧
      (bodyFrom (pk [0x10025, 0, 0]) { live with keep := { live.keep with ro := true } }).mon.pfw = false) :=
  ⟨rfl, by decide +kernel, by decide +kernel⟩

theorem test_accesses_configure_nothing_met :
    (live.advance 0).accessOf (.registerWrite 0 (.bar0 0x2FFFFC false 1)) = some (0, 0, [0x2FFFFC]) ∧
    isNext (exec (.registerWrite 0 (.bar0 0x2FFFFC false 1)) live) = true ∧
    State.writes (live.advance 0) (.bar0 0x2FFFFC false 1) = (0, [(0x2FFFFC, 1)]) ∧ (State.advance live 0).reached 0 = true ∧
    outOfRange 0 0x2FFFFC = false ∧ BitVec.toNat (0x2FFFFC : W32) < 0x300000 := by
  and_intros <;> first | rfl | decide +kernel

/-- `live` with 3 slots in use of ring 0 (to the device) and of ring 2 (to the host). -/
def busyRings : State :=
  (live.modRing 0 fun r => { r with prod := 3 }).modRing 2 fun r => { r with prod := 3 }

theorem test_ring_pointers_met :
    ((State.advance busyRings 0).reached 0 = true ∧ hostToDevice 0 = true ∧ hostToDevice 2 = false) ∧
    ((32 - (busyRings.ring 0).cons).toNat ≤ (busyRings.ring 0).size ∧
      (busyRings.ring 0).used ≤ (32 - (busyRings.ring 0).cons).toNat) ∧
    ((busyRings.ring 0).size < (33 - (busyRings.ring 0).cons).toNat ∧
      (2 - (busyRings.ring 0).cons).toNat < (busyRings.ring 0).used) ∧
    (3 - (busyRings.ring 2).cons).toNat ≤ (busyRings.ring 2).used ∧
    (busyRings.ring 2).used < (4 - (busyRings.ring 2).cons).toNat := by decide +kernel

theorem test_class_a_enters_safe_met :
    live.sys.devState ≠ .boot ∧ faultNamed 8 = true ∧ live.faultClass 8 = 2 ∧ faultLevel 8 = false ∧
    live.flt.safe = false ∧ live.flt.selfFail = false ∧
    ({ live with flt := { live.flt with safe := true } } : State).flt.safe = true := by decide +kernel

theorem test_tamper_zeroes_met :
    (State.advance live 0).tamperEnabled (BitVec.toNat (3 : BitVec 4)) = true ∧
    (State.advance live 0).sys.devState = .run ∧ (State.advance live 0).faultClass 213 < 2 ∧
    (State.advance live 0).faultClass 192 = 1 := by decide +kernel

/-- `live` with PD_TIME and PD_TIC off. -/
def timeOff : State := { live with sys := { live.sys with domReady := 0x1FF3 } }

theorem test_reads_of_nothing_met :
    (State.reads (timeOff.advance 0) (.bar0 0x143024 false) = (0, [0x143024]) ∧
      ((timeOff.advance 0).rcAt 0x143024).map Rc.dom = some 2 ∧ (timeOff.advance 0).noGns 0x143024 = false) ∧
    ((timeOff.advance 0).ready 2 = false ∧ ((timeOff.advance 0).recordAt 0x120010).map Prod.fst = some 2 ∧
      outOfRange 0 0x143024 = false ∧ (timeOff.advance 0).reached 0 = true) ∧
    (State.reads (timeOff.advance 0) (.spi [0x0B, 1, 0, 0, 0] 1) = (1, [0x01000000]) ∧ (timeOff.advance 0).reached 1 = true ∧
      0x00FFFFFF < BitVec.toNat (0x01000000 : W32)) := by decide +kernel

/-- The hypotheses on the access paths and on BAR2. -/
theorem test_access_paths_reach_registers_met :
    ((0 : W32).toNat % 8 = 0 ∧ (4 : W32).toNat % 4 = 0 ∧ (4 : W32).toNat % 8 ≠ 0 ∧ (1 : W32).toNat % 4 ≠ 0) ∧
    ((0x02 : BitVec 8) ≠ 0x0B ∧ (0x59 : BitVec 7) ≠ 0x58 + live.fuse.i2cAddr.setWidth 7) ∧
    ((live.advance 0).reached 0 = true ∧ (0x3FC : BitVec 16).toNat % 4 = 0 ∧ (0x3FC : BitVec 16).toNat < 0x400) ∧
    ({ live.cmd with msixEn := true, msixMask := true }.msixMasked 63 = true ∧
      { live.cmd with msixEn := true, msixMask := false, msix := Tab.mapIdx live.cmd.msix fun _ e => e.put 3 0 }.msixMasked
        63 = false) := by decide +kernel

/-- `live` in the safe state, with a time pulse and a ToD output enabled. -/
def silent : State := { live with
  flt.safe := true
  cfg.out.tp := Tab.mod live.cfg.out.tp 1 fun c => { c with enable := true }
  cfg.out.tod := Tab.mod live.cfg.out.tod 1 fun c => { c with enable := true } }

/-- The conditions of the ball levels. -/
theorem test_ball_levels_met :
    ({ live with sys.inReset := true } : State).sys.inReset = true ∧
    (live.sys.devState ≠ .boot ∧ live.sys.stageBusy = false ∧ live.sys.waking = false) ∧
    (live.dark = false ∧ live.sys.devState = .run ∧ live.flt.safe = false ∧ live.sys.aliveLow = false) ∧
    (silent.dark = false ∧ silent.ready pdTime = true ∧ silent.flt.safe = true ∧
      (silent.otpCfg 1).enable = true ∧ (silent.otpCfg 1).shared = false ∧
      (silent.otodCfg 1).enable = true ∧ (silent.otodCfg 1).shared = false ∧ (silent.otod 1).running = false) := by
  decide +kernel

/-- `live` asleep, its image slots blank, and waking. -/
def dozing : State := { live with sys.devState := .sleep, sys.waking := true }

/-- An image of no bytes that its signature signs (the check is uninterpreted), the one that runs: WAKE_COMPLETE resumes it. -/
theorem test_wake_image_met (f : FwImage) (ok : Config.ecdsaOk Config.fwKey
      (sha256 (wordsBytes [0x535A4657, 0, 0, 0] ++ digBytes 0)) f.sigR f.sigS = true) :
    let i : FwImage := { f with magic := 0x535A4657, svnWord := 0, length := 0, rsvd := 0, hash := 0, body := 0 }
    dozing.imageValid i = true ∧ i.hash = dozing.sys.runHash ∧ dozing.bootReady = true := by
  refine ⟨?_, (by decide +kernel : (0 : Dig) = dozing.sys.runHash), by decide +kernel⟩
  have v : decide (dozing.fuse.svnFloor ≤ (0 : BitVec 32).setWidth 6) = true := by decide +kernel
  simp only [State.imageValid, FwImage.checks, ok, Bool.and_true, beq_self_eq_true]
  exact v
/-! ### Hypotheses of the statements about single commands

Each conjunct is one path through a statement: the values of its variables, then its hypotheses on them. -/

/-- States and operands that meet, clause by clause, the hypotheses of SysPacketsRun. -/
theorem test_sys_packets_run_met :
    ((let p : Packet := pk []; let s : State := live; decide (runsNow specSysQueryState p s = true))) = true ∧
    ((let p : Packet := pk []; let s : State := live; decide (runsNow specSysQueryCounters p s = true))) = true ∧
    ((let p : Packet := pk []; let s : State := live; decide (runsNow specSysEcho p s = true))) = true ∧
    ((let p : Packet := pk [2]; let s : State := ini; decide (runsNow specSysSetState p s = true) && (
      let u := bodyFrom p s
      let w := p.w 0
      decide (setStateLc u p = true) && (decide (fld w 0 3 = 0 ∨ u.sys.tamperHold = false)
        && (decide (fld w 0 3 = 2)))))) = true ∧
    ((let p : Packet := pk [0x103]; let s : State := live; decide (runsNow specSysSetState p s = true) && (
      let u := bodyFrom p s
      let w := p.w 0
      decide (setStateLc u p = true) && (decide (fld w 0 3 = 0 ∨ u.sys.tamperHold = false)
        && (decide (fld w 0 3 = 3)))))) = true ∧
    ((let p : Packet := pk [0x300]; let s : State := live; decide (runsNow specSysSetState p s = true) && (
      let u := bodyFrom p s
      let w := p.w 0
      decide (setStateLc u p = true) && (decide (fld w 0 3 = 0 ∨ u.sys.tamperHold = false) && (decide (fld w 0 3 ≠ 2)
        && (decide (fld w 0 3 ≠ 3))))))) = true ∧
    ((let p : Packet := pk [];
        let s : State := { live with sys := { live.sys with devState := .safe }, flt := { live.flt with safe := true } };
        decide (runsNow specSysClearSafe p s = true) && (
      let u := bodyFrom p s
      decide (u.flt.selfFail = false) && (decide ((u.flt.freshA && u.flt.freshTick == u.ticks) = false)
        && (decide (u.causePresent u.flt.present = false)))))) = true ∧
    ((let p : Packet := pk [0x10, 0x1000, 1]; let s : State := live; decide (runsNow specSysDomainPower p s = true)
        && (
      let u := bodyFrom p s
      let on := u.onMask (domMasks p).1
      let off := offMask (domMasks p).2
      decide ((has off 2 = true → u.sys.devState = .maint)) && (decide ((has off 12 = true → u.pair.role ≠ .active))
        && (decide ((on ||| off) &&& u.switchingDoms = 0)))))) = true ∧
    ((let p : Packet := pk [1]; let s : State := { live with pair := { live.pair with role := .standby } };
        decide (runsNow specSysSleep p s = true) && (
      let u := bodyFrom p s
      decide (u.pair.role ≠ .active) && (decide (flag (p.w 0) 0 = true ∨ u.cmd.sched = []))))) = true ∧
    ((let p : Packet := pk []; let s : State := { live with sys := { live.sys with devState := .sleep } };
        decide (runsNow specSysWake p s = true))) = true ∧
    ((let p : Packet := pk [0, 0]; let s : State := live; decide (runsNow specSysReset p s = true)
        && (decide (fld (p.w 0) 0 2 = 0)))) = true ∧
    ((let p : Packet := pk [1, 0x10]; let s : State := live; decide (runsNow specSysReset p s = true) && (
      let u := bodyFrom p s
      decide (fld (p.w 0) 0 2 = 1)
        && (decide ((has (offMask ((p.w 1).setWidth 13)) 2 = true → u.sys.devState = .maint ∨ u.sys.devState = .safe))
        && (decide (offMask ((p.w 1).setWidth 13) &&& u.switchingDoms = 0)))))) = true ∧
    ((let p : Packet := pk [2, 0]; let s : State := live; decide (runsNow specSysReset p s = true)
        && (decide (fld (p.w 0) 0 2 ≠ 0) && (decide (fld (p.w 0) 0 2 ≠ 1))))) = true ∧
    ((let p : Packet := pk [0, 0, 0]; let s : State := live; decide (runsNow specSysFwStage p s = true) && (
      let u := bodyFrom p s
      decide (u.sys.stageBusy = false)))) = true ∧
    ((let p : Packet := pk [0]; let s : State := mnt; decide (runsNow specSysFwActivate p s = true) && (
      let u := bodyFrom p s
      decide ((flag (p.w 0) 8 = true → flag (p.w 0) 0 = u.sys.bootSlot ∧ u.fuse.svnFloor < u.sys.svnRunning))))) = true ∧
    ((let p : Packet := pk [0x60]; let s : State := live; decide (runsNow specSysSetMbxRoute p s = true) && (
      let u := bodyFrom p s
      decide ((u.mbx 7).full = false)))) = true ∧
    ((let p : Packet := pk [5]; let s : State := live; decide (runsNow specSysSetSemCfg p s = true))) = true ∧
    ((let p : Packet := pk [3]; let s : State := live; decide (runsNow specSysSemForce p s = true) && (
      let u := bodyFrom p s
      let i := fld (p.w 0) 0 5
      decide (Tab.get u.cmd.sems i none = none)))) = true ∧
    ((let p : Packet := pk [3];
        let s : State := { live with cmd := { live.cmd with sems := Tab.set live.cmd.sems 3 (some 1) } };
        decide (runsNow specSysSemForce p s = true) && (
      let u := bodyFrom p s
      let i := fld (p.w 0) 0 5
      let h := 1; decide (Tab.get u.cmd.sems i none = some h)))) = true ∧
    ((let p : Packet := pk [6, 0x1000, 0, 8, 0x10000];
        let s : State := { live with cmd := { live.cmd with rings := Tab.mod live.cmd.rings 6 fun r => { r with enable := false } } };
        decide (runsNow specSysRingConfig p s = true) && (
      let u := bodyFrom p s
      let n := fld (p.w 0) 0 6
      decide (u.ready pdPcie = true) && (decide ((u.ring n).enable = false))))) = true ∧
    ((let p : Packet := pk [3, 0, 3, 0]; let s : State := live; decide (runsNow specSysRingEnable p s = true) && (
      let u := bodyFrom p s
      decide (u.ready pdPcie = true)))) = true ∧
    ((let p : Packet := pk [0x301, 0x0201]; let s : State := live; decide (runsNow specSysIntRoute p s = true))) = true ∧
    ((let p : Packet := pk [0];
        let s : State := { live with cmd := { live.cmd with sched := [{ opcode := 0x0044, pkt := later 100 (pk []) }] } };
        decide (runsNow specSysCancel p s = true) && (
      let u := bodyFrom p s
      Option.any (fun e => decide (p.master = 0 ∨ p.master = e.pkt.master)) ((u.cmd.sched.find? fun e => e.named (p.w 0)))))) = true ∧
    ((let p : Packet := pk [0, 0, 0, 0, 0, 0, 0, 0, 0, 0, 0, 0, 0, 0, 0, 0, 0, 0, 0, 0, 0, 0, 0, 0, 0, 0];
        let s : State := mnt; decide (runsNow specSysBltUnlock p s = true) && (
      let want : BitVec 3 := (p.w 0).setWidth 3
      decide (want = 0)))) = true ∧
    ((let p : Packet := pk (1 :: List.replicate 25 0);
        let s : State := { mnt with fuse := { mnt.fuse with lcPairA := 0 } };
        decide (runsNow specSysBltUnlock p s = true) && (
      let u := bodyFrom p s
      let want : BitVec 3 := (p.w 0).setWidth 3
      let need := want &&& ~~~bltOpen u.lc
      decide (want ≠ 0) && (decide (need = 0))))) = true ∧
    ((let p : Packet := pk (2 :: List.replicate 25 0);
        let s : State := { mnt with fuse := { mnt.fuse with lcPairA := 0 } };
        decide (runsNow specSysBltUnlock p s = true) && (
      let u := bodyFrom p s
      let want : BitVec 3 := (p.w 0).setWidth 3
      let need := want &&& ~~~bltOpen u.lc
      decide (need ≠ 0) && (decide (need &&& ~~~bltUnlockable u.lc = 0)
        && (decide (u.lc = .blank ∨ u.fuse.ownerDbgSet = true)))))) = true ∧
    ((let p : Packet := pk [0]; let s : State := mnt; decide (runsNow specSysBltSelect p s = true) && (
      let u := bodyFrom p s
      let sel := fld (p.w 0) 0 8
      let arg := fld (p.w 0) 8 8
      decide (bltNeeds sel &&& ~~~u.bltScope = 0) && (decide (u.ready (bltDomain sel arg) = true)
        && (decide ((sel = 16 → u.serving arg = false)) && (decide (u.bistHolds sel arg = false))))))) = true ∧
    ((let p : Packet := pk [2, 0, 0]; let s : State := mnt; decide (runsNow specSysBistRun p s = true) && (
      let u := bodyFrom p s
      decide (u.blt.bist = none)
        && (decide (((List.range 6).all fun t => !flag (p.w 0) t || u.bistOk ((p.w 1).setWidth 4) t) = true))))) = true :=
  by and_intros <;> decide +kernel

/-- States and operands that meet, clause by clause, the hypotheses of RefPacketsRun. -/
theorem test_ref_packets_run_met :
    ((let p : Packet := pk [13]; let s : State := live; decide (runsNow specRefQuerySlot p s = true))) = true ∧
    ((let p : Packet := pk [0x200]; let s : State := live; decide (runsNow specRefQueryMatrix p s = true))) = true ∧
    ((let p : Packet := pk []; let s : State := live; decide (runsNow specRefQueryHistory p s = true))) = true ∧
    ((let p : Packet := pk [0x3E01, 0, 1000, 10]; let s : State := live; decide (runsNow specRefSetSlot p s = true)
        && (
      let u := bodyFrom p s
      let n := fld (p.w 0) 0 5
      decide (u.isSel n = false) && (decide ((u.slot n).qstate = .disabled))))) = true ∧
    ((let p : Packet := pk [0x3E01, 0, 1000, 10];
        let s : State := { live with ref := { live.ref with slots := Tab.mod live.ref.slots 1 fun q => { q with qstate := .absent } } };
        decide (runsNow specRefSetSlot p s = true) && (
      let u := bodyFrom p s
      let n := fld (p.w 0) 0 5
      decide (u.isSel n = false) && (decide ((u.slot n).qstate ≠ .disabled))))) = true ∧
    ((let p : Packet := pk [1, 1, 0, 1, 0, 1, 0, 5, 5, 60]; let s : State := live;
        decide (runsNow specRefSetQual p s = true))) = true ∧
    ((let p : Packet := pk [1, 1000, 0x00100010]; let s : State := live;
        decide (runsNow specRefSetTimers p s = true))) = true ∧
    ((let p : Packet := pk [0x30201]; let s : State := live; decide (runsNow specRefSetPriority p s = true))) = true ∧
    ((let p : Packet := pk [0]; let s : State := live; decide (runsNow specRefSelect p s = true) && (
      let u := bodyFrom p s
      decide (fld (p.w 0) 0 2 = 0) && (decide (u.ref.switching = false))))) = true ∧
    ((let p : Packet := pk [0x101];
        let s : State := { warm with cfg := { live.cfg with ref := { live.cfg.ref with slots := Tab.mod live.cfg.ref.slots 1 fun c => { c with typ := 3, priority := 1, mate := 31 } } }, ref := { live.ref with slots := Tab.mod live.ref.slots 1 fun q => { q with qstate := .qualified } } };
        decide (runsNow specRefSelect p s = true) && (
      let u := bodyFrom p s
      let n := fld (p.w 0) 8 5
      decide (fld (p.w 0) 0 2 ≠ 0) && (decide (u.ref.switching = false) && (decide (u.eligible n = true)
        && (decide ((u.acd.state ≠ .cold ∨ u.acd.cpllLock = true)))))))) = true ∧
    ((let p : Packet := pk [0x3, 0xFFFF]; let s : State := live; decide (runsNow specRefClearHistory p s = true) && (
      let u := bodyFrom p s
      decide (u.fuse.gnssEn = true)))) = true ∧
    ((let p : Packet := pk [0x3, 0x1]; let s : State := live; decide (runsNow specRefEnable p s = true))) = true ∧
    ((let p : Packet := pk [0x10, 0xf403, 1]; let s : State := live; decide (runsNow specRefSetPtpSlave p s = true))) = true :=
  by and_intros <;> decide +kernel

/-- States and operands that meet, clause by clause, the hypotheses of AcdPacketsRun. -/
theorem test_acd_packets_run_met :
    ((let p : Packet := pk []; let s : State := live; decide (runsNow specAcdQueryTime p s = true))) = true ∧
    ((let p : Packet := pk []; let s : State := live; decide (runsNow specAcdQueryServo p s = true))) = true ∧
    ((let p : Packet := pk [0xd100, 100, 1000, 1, 0x50064, 5000]; let s : State := live;
        decide (runsNow specAcdSetServo p s = true))) = true ∧
    ((let p : Packet := pk [3, 1000, 100]; let s : State := live; decide (runsNow specAcdSetStepPolicy p s = true))) = true ∧
    ((let p : Packet := pk [3600, 1000, 0x11]; let s : State := live; decide (runsNow specAcdSetHold p s = true))) = true ∧
    ((let p : Packet := pk [0x101, 1, 2, 3, 4, 1]; let s : State := live;
        decide (runsNow specAcdSetOscModel p s = true))) = true ∧
    ((let p : Packet := pk [0x10000, 0x0, 0x1, 5];
        let s : State := { mnt with acd := { live.acd with cpllLock := true } };
        decide (runsNow specAcdSetTime p s = true) && (
      let u := bodyFrom p s
      decide (u.acd.state = .cold ∧ u.acd.cpllLock = true ∨ u.acd.state = .freerun)
        && (decide (u.ready pdTime = true))))) = true ∧
    ((let p : Packet := pk [0x10000, 0]; let s : State := { live with acd := { live.acd with state := .freerun } };
        decide (runsNow specAcdAdjustPhase p s = true) && (
      let u := bodyFrom p s
      decide (u.acd.state = .freerun ∨ u.drydown = true)))) = true ∧
    ((let p : Packet := pk [0x10025, 0, 0]; let s : State := live; decide (runsNow specAcdSetUtc p s = true))) = true ∧
    ((let p : Packet := pk [1, 10000000, 10000000]; let s : State := mnt;
        decide (runsNow specAcdSetCpllSource p s = true) && (
      let u := bodyFrom p s
      decide (u.settable = true) && (decide (u.acd.cpllRelock = false))))) = true ∧
    ((let p : Packet := pk [1]; let s : State := { mnt with acd := { mnt.acd with state := .locked } };
        decide (runsNow specAcdEnterDrydown p s = true) && (
      let u := bodyFrom p s
      decide (flag (p.w 0) 0 = true) && (decide (u.acd.state = .locked))))) = true ∧
    ((let p : Packet := pk [0];
        let s : State := { mnt with acd := { mnt.acd with state := .drydownIn, forced := true } };
        decide (runsNow specAcdEnterDrydown p s = true) && (
      let u := bodyFrom p s
      decide (flag (p.w 0) 0 = false) && (decide (u.acd.forced = true))))) = true ∧
    ((let p : Packet := pk [0x1003c, 1000]; let s : State := live; decide (runsNow specAcdSetMaceration p s = true))) = true :=
  by and_intros <;> decide +kernel

/-- States and operands that meet, clause by clause, the hypotheses of OutPacketsRun. -/
theorem test_out_packets_run_met :
    ((let p : Packet := pk [3]; let s : State := live; decide (runsNow specOutQueryStatus p s = true))) = true ∧
    ((let p : Packet := pk []; let s : State := live; decide (runsNow specOutQueryEcho p s = true))) = true ∧
    ((let p : Packet := pk [0x101, 5000000]; let s : State := live; decide (runsNow specOutSetSyn p s = true) && (
      let u := bodyFrom p s
      let k := fld (p.w 0) 0 2
      decide (((List.range 16).all fun n => !(u.ochCfg n).enable || (u.ochCfg n).synSel.toNat != k) = true)
        && (decide ((u.syn k).locking = false))))) = true ∧
    ((let p : Packet := pk [3, 10000000, 0, 100]; let s : State := live;
        decide (runsNow specOutSetOutput p s = true) && (
      let u := bodyFrom p s
      let n := fld (p.w 0) 0 4
      decide ((u.ochCfg n).enable = false) && (decide ((u.och n).running = false))))) = true ∧
    ((let p : Packet := pk [1, 0, 1000, 0];
        let s : State := { live with cfg := { live.cfg with out := { live.cfg.out with ch := Tab.mod live.cfg.out.ch 0 fun c => { c with sync := true, freqHz := 10000000 } } } };
        decide (runsNow specOutSync p s = true) && (
      let u := bodyFrom p s
      let ns := maskList 16 (p.w 0)
      decide (u.syncEarliest ns ≤ taiNat (p.tai 1))))) = true ∧
    ((let p : Packet := pk [0x10001, 1, 100000]; let s : State := live; decide (runsNow specOutSetTp p s = true) && (
      let u := bodyFrom p s
      let m := fld (p.w 0) 0 2
      decide ((u.otpCfg m).enable = false ∨ (u.otpCfg m).shared = flag (p.w 0) 3)))) = true ∧
    ((let p : Packet := pk [0]; let s : State := live; decide (runsNow specOutSetTod p s = true))) = true ∧
    ((let p : Packet := pk [0x020100, 100]; let s : State := mnt; decide (runsNow specOutEchoMeasure p s = true) && (
      let u := bodyFrom p s
      let t := fld (p.w 0) 0 5
      let a := fld (p.w 0) 8 5
      let b := fld (p.w 0) 16 5
      decide (u.ready pdTic = true) && (decide (u.targetShared t = false) && (decide (u.out.echo = none)
        && (decide ((u.tch a).claim = 0) && (decide ((u.tch b).claim = 0) && (decide ((u.tchCfg a).mode = 0)
        && (decide ((u.tchCfg b).mode = 0)))))))))) = true ∧
    ((let p : Packet := pk [0, 1000, 100]; let s : State := live; decide (runsNow specOutSetDelay p s = true))) = true ∧
    ((let p : Packet := pk [1, 1]; let s : State := live; decide (runsNow specOutEnable p s = true))) = true :=
  by and_intros <;> decide +kernel

/-- States and operands that meet, clause by clause, the hypotheses of TicPacketsRun. -/
theorem test_tic_packets_run_met :
    ((let p : Packet := pk [3]; let s : State := live; decide (runsNow specTicQueryChannel p s = true))) = true ∧
    ((let p : Packet := pk [5]; let s : State := live; decide (runsNow specTicQueryCal p s = true))) = true ∧
    ((let p : Packet := pk [0x0103, 1000, 1000]; let s : State := live;
        decide (runsNow specTicSetChannel p s = true) && (
      let u := bodyFrom p s
      let n := fld (p.w 0) 0 5
      decide (u.ready pdTic = true) && (decide ((u.tch n).armed = false) && (decide ((u.tch n).claim = 0)))))) = true ∧
    ((let p : Packet := pk [0x0100, 1000];
        let s : State := { live with cfg := { live.cfg with tic := { live.cfg.tic with ch := Tab.mapIdx live.cfg.tic.ch fun _ c => { c with mode := 3 } } } };
        decide (runsNow specTicStartInterval p s = true) && (
      let u := bodyFrom p s
      let n := fld (p.w 0) 0 5
      let m := fld (p.w 0) 8 5
      decide (u.ready pdTic = true) && (decide ((u.tchCfg n).mode = 3) && (decide ((u.tchCfg m).mode = 3)
        && (decide ((u.tch n).claim = 0) && (decide ((u.tch m).claim = 0) && (decide ((u.tch n).arm = none)
        && (decide ((u.tch m).armedStop = false)))))))))) = true ∧
    ((let p : Packet := pk [3, 1];
        let s : State := { live with cfg := { live.cfg with tic := { live.cfg.tic with ch := Tab.mapIdx live.cfg.tic.ch fun _ c => { c with mode := 1 } } } };
        decide (runsNow specTicStream p s = true) && (
      let u := bodyFrom p s
      let ns := (List.range 32).filter fun n => flag (p.w 0) n
      decide (u.ready pdTic = true) && (decide ((ns.all fun n => u.streams n && (u.tch n).claim == 0) = true))))) = true ∧
    ((let p : Packet := pk [1, 0, 0, 0]; let s : State := live; decide (runsNow specTicCalibrate p s = true) && (
      let u := bodyFrom p s
      decide (u.ready pdTic = true) && (decide (u.tic.calCmd = false))))) = true ∧
    ((let p : Packet := pk [0x3F00, 0]; let s : State := live; decide (runsNow specTicSubstitute p s = true) && (
      let u := bodyFrom p s
      let i := fld (p.w 0) 0 2
      let n := fld (p.w 0) 8 6
      decide (u.ready pdTic = true) && (decide (u.tic.bridge = none) && (decide (n = 0x3F)
        && (decide ((u.tspare i).use ≠ 3) && (decide ((u.tspare i).swapOn = false)))))))) = true ∧
    ((let p : Packet := pk [0x0300, 0]; let s : State := live; decide (runsNow specTicSubstitute p s = true) && (
      let u := bodyFrom p s
      let i := fld (p.w 0) 0 2
      let n := fld (p.w 0) 8 6
      decide (u.ready pdTic = true) && (decide (u.tic.bridge = none) && (decide (n ≠ 0x3F)
        && (decide ((u.tspare i).use = 0 ∨ (u.tspare i).use = 2) && (decide (u.swapping n = false)))))))) = true ∧
    ((let p : Packet := pk [3, 1000, 100]; let s : State := live; decide (runsNow specTicSetDelay p s = true) && (
      let u := bodyFrom p s
      let n := (p.w 0).toNat
      decide (u.ready pdTic = true) && (decide ((u.tch n).claim = 0))))) = true :=
  by and_intros <;> decide +kernel

/-- States and operands that meet, clause by clause, the hypotheses of GnsPacketsRun. -/
theorem test_gns_packets_run_met :
    ((let p : Packet := pk []; let s : State := live; decide (runsNow specGnsQueryStatus p s = true))) = true ∧
    ((let p : Packet := pk []; let s : State := live; decide (runsNow specGnsQuerySolution p s = true))) = true ∧
    ((let p : Packet := pk [0x3E840001, 40000000, 10000000]; let s : State := live;
        decide (runsNow specGnsSetPort p s = true) && (
      let u := bodyFrom p s
      decide (u.ready pdGnss = true) && (decide ((u.gns.trk.toList.any fun x => x.assigned) = false)
        && (decide (u.gns.acq = none) && (decide (u.gns.snapOn = false))))))) = true ∧
    ((let p : Packet := pk [4, 1575000000, 0x000a0014]; let s : State := live;
        decide (runsNow specGnsSetNotch p s = true) && (
      let u := bodyFrom p s
      decide (u.ready pdGnss = true)))) = true ∧
    ((let p : Packet := pk [1, 0, 5000, 0x280101]; let s : State := live; decide (runsNow specGnsAcquire p s = true)
        && (
      let u := bodyFrom p s
      decide (u.ready pdGnss = true) && (decide (u.gns.acq = none)
        && (decide ((flag (p.w 3) 24 = true → u.gns.snapBusy = false ∧ fld (p.w 3) 0 4 * fld (p.w 3) 8 8 ≤ u.gns.snapMs))))))) = true ∧
    ((let p : Packet := pk [0x00010101, 0x02010000, 0, 0, 0, 0, 0]; let s : State := live;
        decide (runsNow specGnsTrack p s = true) && (
      let u := bodyFrom p s
      let k := fld (p.w 0) 0 5
      decide (u.ready pdGnss = true) && (decide ((u.trk k).assigned = false))))) = true ∧
    ((let p : Packet := pk [1];
        let s : State := { live with gns := { live.gns with trk := Tab.mod live.gns.trk 0 fun t => { t with assigned := true } } };
        decide (runsNow specGnsRelease p s = true) && (
      let u := bodyFrom p s
      decide (u.ready pdGnss = true)))) = true ∧
    ((let p : Packet := pk [1]; let s : State := live; decide (runsNow specGnsSetLatch p s = true) && (
      let u := bodyFrom p s
      decide (u.ready pdGnss = true)))) = true ∧
    ((let p : Packet := pk [0, 0, 0, 0x100, 0]; let s : State := live; decide (runsNow specGnsSnapshot p s = true)
        && (
      let u := bodyFrom p s
      decide (u.ready pdGnss = true) && (decide (flag (p.w 3) 8 = true))))) = true ∧
    ((let p : Packet := pk [0, 0, 5, 10, 0]; let s : State := live; decide (runsNow specGnsSnapshot p s = true) && (
      let u := bodyFrom p s
      decide (u.ready pdGnss = true) && (decide (flag (p.w 3) 8 = false)
        && (decide (u.now16 + 10 * us16 ≤ taiNat (p.tai 0))
        && (decide ((∀ a, u.gns.acq = some a → a.snapshot = false)) && (decide (u.gns.snapArmed = false)
        && (decide (u.gns.snapBusy = false))))))))) = true ∧
    ((let p : Packet := pk [1, 0, 0, 0, 0, 0, 0, 10, 10, 10]; let s : State := live;
        decide (runsNow specGnsSetAntenna p s = true) && (
      let u := bodyFrom p s
      decide (u.ready pdGnss = true)))) = true ∧
    ((let p : Packet := pk [0x640001, 1000, 0xff]; let s : State := live;
        decide (runsNow specGnsSetCheck p s = true) && (
      let u := bodyFrom p s
      decide (u.ready pdGnss = true) && (decide (flag (p.w 0) 1 = false))))) = true ∧
    ((let p : Packet := pk [2, 0, 0]; let s : State := { live with gns := { live.gns with solValid := true } };
        decide (runsNow specGnsSetCheck p s = true) && (
      let u := bodyFrom p s
      decide (u.ready pdGnss = true) && (decide (flag (p.w 0) 1 = true) && (decide (u.gns.solValid = true)))))) = true ∧
    ((let p : Packet := pk [2, 0, 0]; let s : State := live; decide (runsNow specGnsSetCheck p s = true) && (
      let u := bodyFrom p s
      decide (u.ready pdGnss = true) && (decide (flag (p.w 0) 1 = true) && (decide (u.gns.solValid = false)))))) = true ∧
    ((let p : Packet := pk [0x0100]; let s : State := live; decide (runsNow specGnsSpareBank p s = true) && (
      let u := bodyFrom p s
      decide (u.ready pdGnss = true)))) = true :=
  by and_intros <;> decide +kernel

/-- States and operands that meet, clause by clause, the hypotheses of EthPacketsRun. -/
theorem test_eth_packets_run_met :
    ((let p : Packet := pk [5]; let s : State := live; decide (runsNow specEthQueryLane p s = true) && (
      let u := bodyFrom p s
      let l := fld (p.w 0) 0 4
      decide (u.activePort l = true)))) = true ∧
    ((let p : Packet := pk [5]; let s : State := live; decide (runsNow specEthQueryDelay p s = true) && (
      let u := bodyFrom p s
      let l := fld (p.w 0) 0 4
      decide (u.activePort l = true)))) = true ∧
    ((let p : Packet := pk [0x10]; let s : State := mnt; decide (runsNow specEthSetQuadMode p s = true) && (
      let u := bodyFrom p s
      let q := fld (p.w 0) 0 2
      decide (u.ready (pdQ q) = true) && (decide ((∀ l ∈ quadLanes q, (u.laneCfg l).enable = false))
        && (decide (has u.eth.relock q = false)))))) = true ∧
    ((let p : Packet := pk [0x15, 1518]; let s : State := live; decide (runsNow specEthSetLane p s = true) && (
      let u := bodyFrom p s
      let l := fld (p.w 0) 0 4
      let mode : BitVec 2 := (p.w 0).extractLsb' 4 2
      decide (u.laneUsable l = true) && (decide ((mode = 1 → u.ready pdCrypto = true))
        && (decide ((u.laneCfg l).enable = false ∨ (mode = (u.laneCfg l).laneMode ∧ flag (p.w 0) 6 = (u.laneCfg l).fec ∧ (p.w 1).setWidth 14 = (u.laneCfg l).maxFrame))))))) = true ∧
    ((let p : Packet := pk [5, 100, 100, 10]; let s : State := live; decide (runsNow specEthSetDelay p s = true) && (
      let u := bodyFrom p s
      let l := fld (p.w 0) 0 4
      decide (u.laneUsable l = true)))) = true ∧
    ((let p : Packet := pk [5, 0x500200]; let s : State := live; decide (runsNow specEthSetCapture p s = true) && (
      let u := bodyFrom p s
      let l := fld (p.w 0) 0 4
      decide (u.laneUsable l = true) && (decide (((u.laneCfg l).enable = false ∨ (u.laneCfg l).laneMode ≠ 1)))))) = true ∧
    ((let p : Packet := pk [0x05, 1, 0, 52]; let s : State := live; decide (runsNow specEthSetClassifier p s = true)
        && (
      let u := bodyFrom p s
      let l := fld (p.w 0) 0 4
      decide (u.laneUsable l = true)))) = true ∧
    ((let p : Packet := pk [0x20, 0x20]; let s : State := live; decide (runsNow specEthLaneEnable p s = true) && (
      let u := bodyFrom p s
      let ls := (List.range 16).filter fun l => flag (p.w 0) l
      decide ((∀ l ∈ ls, u.laneUsable l = true))))) = true ∧
    ((let p : Packet := pk [0x05, 0x88a88100]; let s : State := live; decide (runsNow specEthSetTags p s = true) && (
      let u := bodyFrom p s
      let l := fld (p.w 0) 0 4
      decide (u.laneUsable l = true)))) = true :=
  by and_intros <;> decide +kernel

/-- States and operands that meet, clause by clause, the hypotheses of TmgPacketsRun. -/
theorem test_tmg_packets_run_met :
    ((let p : Packet := pk [9]; let s : State := live; decide (runsNow specTmgQueryQueue p s = true) && (
      let u := bodyFrom p s
      let q := fld (p.w 0) 0 7
      decide (u.activePort (q / 8) = true)))) = true ∧
    ((let p : Packet := pk [0x010005]; let s : State := live; decide (runsNow specTmgQueryGcl p s = true) && (
      let u := bodyFrom p s
      let l := fld (p.w 0) 0 4
      decide (u.activePort l = true)))) = true ∧
    ((let p : Packet := pk [0x00010005, 0, 0, 0, 0, 0, 0xFF, 1000000]; let s : State := live;
        decide (runsNow specTmgSetGcl p s = true) && (
      let u := bodyFrom p s
      let l := fld (p.w 0) 0 4
      decide (u.laneUsable l = true) && (decide ((u.tlane l).swapPend = false)
        && (decide (flag (p.w 0) 24 = false)))))) = true ∧
    ((let p : Packet := pk [0x01010005, 1000000, 1000, 0, 0, 5, 0xFF, 1000000]; let s : State := live;
        decide (runsNow specTmgSetGcl p s = true) && (
      let u := bodyFrom p s
      let l := fld (p.w 0) 0 4
      decide (u.laneUsable l = true) && (decide ((u.tlane l).swapPend = false) && (
      let t := (u.tlane l).adminPut p (fld (p.w 0) 8 8) (fld (p.w 0) 16 8)
      let n := fld (p.w 0) 8 8 + fld (p.w 0) 16 8
      decide (flag (p.w 0) 24 = true) && (decide (t.listOk n (p.w 1).toNat = true))))))) = true ∧
    ((let p : Packet := pk [0x20, 0, 1000, 0];
        let s : State := { live with tmg := { live.tmg with lanes := Tab.mod live.tmg.lanes 5 fun t => { t with adminReady := true } } };
        decide (runsNow specTmgSwapGcl p s = true) && (
      let u := bodyFrom p s
      let ls := (List.range 16).filter fun l => flag (p.w 0) l
      decide ((ls.all fun l => u.laneUsable l && (u.tlane l).adminReady && !(u.tlane l).swapPend) = true)
        && (decide (u.now16 + 10 * us16 ≤ taiNat (p.tai 1)))))) = true ∧
    ((let p : Packet := pk [0x102, 10000, 100000, 64]; let s : State := live;
        decide (runsNow specTmgSetShaper p s = true) && (
      let u := bodyFrom p s
      let q := fld (p.w 0) 0 7
      decide (u.laneUsable (q / 8) = true)))) = true ∧
    ((let p : Packet := pk [5, 1000, 1000]; let s : State := live; decide (runsNow specTmgSetPolicer p s = true) && (
      let u := bodyFrom p s
      decide (u.ready pdEngine = true)))) = true ∧
    ((let p : Packet := pk [0x80000005, 0, 0]; let s : State := live; decide (runsNow specTmgSetFilter p s = true)
        && (
      let u := bodyFrom p s
      decide (u.ready pdEngine = true) && (decide (u.laneUsable (fld (p.w 0) 8 4) = true))))) = true ∧
    ((let p : Packet := pk [1, 100]; let s : State := live; decide (runsNow specTmgSetSampling p s = true) && (
      let u := bodyFrom p s
      decide (u.ready pdEngine = true)))) = true :=
  by and_intros <;> decide +kernel

/-- States and operands that meet, clause by clause, the hypotheses of SvcPacketsRun. -/
theorem test_svc_packets_run_met :
    ((let p : Packet := pk [5]; let s : State := live; decide (runsNow specSvcQueryStatus p s = true))) = true ∧
    ((let p : Packet := pk [0, 5];
        let s : State := { live with svc := { live.svc with clients := [{ Client.reset with idx := 5 }] } };
        decide (runsNow specSvcQueryClient p s = true) && (
      let u := bodyFrom p s
      Option.any (fun c => true) (u.askedClient p)))) = true ∧
    ((let p : Packet := pk [0, 5]; let s : State := live; decide (runsNow specSvcQueryClient p s = true) && (
      let u := bodyFrom p s
      decide (u.askedClient p = none)))) = true ∧
    ((let p : Packet := pk [5, 0, 0, 0, 0, 0, 0, 0, 0];
        let s : State := { live with cfg := { live.cfg with eth := { live.cfg.eth with lane := Tab.mod live.cfg.eth.lane 5 fun c => { c with laneMode := 2 } } } };
        decide (runsNow specSvcSetPtpPort p s = true) && (
      let u := bodyFrom p s
      let w := p.w 0
      let l := fld w 0 4
      decide (u.ready pdEngine = true) && (decide (u.activePort l = true) && (decide ((u.laneCfg l).laneMode = 2)))))) = true ∧
    ((let p : Packet := pk [0x5, 0, 0, 0]; let s : State := live; decide (runsNow specSvcSetProfile p s = true) && (
      let u := bodyFrom p s
      let w := p.w 0
      let l := fld w 0 4
      let pr : BitVec 2 := w.extractLsb' 4 2
      decide (u.ready pdEngine = true) && (decide (u.activePort l = true)
        && (decide ((u.portCfg l).enable = false ∨ pr = (u.portCfg l).profile)))))) = true ∧
    ((let p : Packet := pk [0x00000520, 9, 0, 0, 0, 60];
        let s : State := { live with key := { live.key with slots := Tab.set live.key.slots 5 { KeySlot.reset with loaded := true, usage := 1, alg := 1 } } };
        decide (runsNow specSvcSetAuth p s = true) && (
      let u := bodyFrom p s
      let w := p.w 0
      decide (u.ready pdEngine = true) && (decide (u.ready pdCrypto = true)
        && (decide (flag w 16 = false ∨ u.now16 + 10 * us16 ≤ taiNat (p.tai 2))))))) = true ∧
    ((let p : Packet := pk [0, 0x201, 0x41424344]; let s : State := live; decide (runsNow specSvcSetNtp p s = true)
        && (
      let u := bodyFrom p s
      decide (u.ready pdEngine = true)))) = true ∧
    ((let p : Packet := pk [5, 1, 1, 2, 3, 4, 5, 6, 7, 8]; let s : State := live;
        decide (runsNow specSvcLoadCookieKey p s = true) && (
      let u := bodyFrom p s
      decide (u.ready pdEngine = true) && (decide (u.ready pdCrypto = true)
        && (Option.any (fun i => true) (u.svc.cookies.toList.findIdx? (fun c => c.state == 0))))))) = true ∧
    ((let p : Packet := pk [5];
        let s : State := { live with svc := { live.svc with cookies := Tab.mod live.svc.cookies 0 fun c => { c with state := 1, keyId := 5 } } };
        decide (runsNow specSvcRetireCookieKey p s = true) && (
      let u := bodyFrom p s
      decide (u.ready pdEngine = true) && (decide (u.ready pdCrypto = true) && (let i := 0;
        decide (u.cookieOf (p.w 0) = some i)))))) = true ∧
    ((let p : Packet := pk [1000, 0x30100, 10000]; let s : State := live; decide (runsNow specSvcSetGate p s = true)
        && (
      let u := bodyFrom p s
      decide (u.ready pdEngine = true)))) = true ∧
    ((let p : Packet := pk [0x100010, 3600, 100]; let s : State := live;
        decide (runsNow specSvcSetRateLimit p s = true) && (
      let u := bodyFrom p s
      decide (u.ready pdEngine = true)))) = true ∧
    ((let p : Packet := pk [0x3f0001]; let s : State := live; decide (runsNow specSvcClientFlush p s = true) && (
      let u := bodyFrom p s
      decide (u.ready pdEngine = true)))) = true ∧
    ((let p : Packet := pk [0x101, 0]; let s : State := live; decide (runsNow specSvcSetBoundTlv p s = true) && (
      let u := bodyFrom p s
      decide (u.ready pdEngine = true)))) = true :=
  by and_intros <;> decide +kernel

/-- States and operands that meet, clause by clause, the hypotheses of KeyPacketsRun. -/
theorem test_key_packets_run_met :
    ((let p : Packet := pk [0x200]; let s : State := live; decide (runsNow specKeyQuerySlots p s = true))) = true ∧
    ((let p : Packet := pk []; let s : State := live; decide (runsNow specKeyQueryEpoch p s = true))) = true ∧
    ((let p : Packet := pk [0x105, 0x111, 7, 1, 2, 3, 4, 5, 6, 7, 8]; let s : State := live;
        decide (runsNow specKeyLoadFlacon p s = true) && (
      let u := bodyFrom p s
      let k := fld (p.w 0) 0 6
      decide (u.ready pdCrypto = true) && (decide (u.sys.tamperHold = false) && (decide (u.mon.pfw = false)
        && (decide (u.key.busyOp = none) && (decide ((u.kslot k).loaded = false)
        && (decide (flag (p.w 0) 8 = true))))))))) = true ∧
    ((let p : Packet := pk ([5, 0x4C465A53, 0x00010101, 0x00200000] ++ List.replicate 21 0); let s : State := live;
        decide (runsNow specKeyLoadFlacon p s = true) && (
      let u := bodyFrom p s
      let k := fld (p.w 0) 0 6
      let b := flaconBytes ((p.payload.drop 1).take 24)
      decide (u.ready pdCrypto = true) && (decide (u.sys.tamperHold = false) && (decide (u.mon.pfw = false)
        && (decide (u.key.busyOp = none) && (decide ((u.kslot k).loaded = false) && (decide (flag (p.w 0) 8 = false)
        && (decide ((flField b 7 1 % 2 == 1) = u.testKeys)))))))))) = true ∧
    ((let p : Packet := pk [5];
        let s : State := { live with key := { live.key with slots := Tab.set live.key.slots 5 { KeySlot.reset with loaded := true, usage := 1, alg := 1, exportable := true } } };
        decide (runsNow specKeyWrap p s = true) && (
      let u := bodyFrom p s
      let x := u.kslot (fld (p.w 0) 0 6)
      decide (u.ready pdCrypto = true) && (decide (u.sys.tamperHold = false) && (decide (u.mon.pfw = false)
        && (decide (u.key.busyOp = none) && (decide (x.loaded = true) && (decide (x.exportable = true)
        && (decide (u.keep.ro = false) && (decide (u.keep.wrapCount ≠ 0xFFFFFFFF))))))))))) = true ∧
    ((let p : Packet := pk ([0x00110605, 7, 1] ++ List.replicate 24 0);
        let s : State := { live with key := { live.key with slots := Tab.set live.key.slots 5 { KeySlot.reset with loaded := true, usage := 2, alg := 1 } } };
        decide (runsNow specKeyDerive p s = true) && (
      let u := bodyFrom p s
      let w := p.w 0
      let par := u.kslot (fld w 0 6)
      let k := fld w 8 6
      decide (u.ready pdCrypto = true) && (decide (u.sys.tamperHold = false) && (decide (u.mon.pfw = false)
        && (decide (u.key.busyOp = none) && (decide (parentOk u p = true) && (decide ((u.kslot k).loaded = false)
        && (decide ((flag w 24 = true → par.exportable = true))))))))))) = true ∧
    ((let p : Packet := pk [0x20, 0]; let s : State := live; decide (runsNow specKeyZero p s = true) && (
      let u := bodyFrom p s
      decide (u.ready pdCrypto = true)))) = true ∧
    ((let p : Packet := pk []; let s : State := live; decide (runsNow specKeyEpochUpdate p s = true) && (
      let u := bodyFrom p s
      decide (u.ready pdCrypto = true) && (decide (u.sys.tamperHold = false) && (decide (u.mon.pfw = false)
        && (decide (u.key.busyOp = none) && (decide (u.keep.ro = false) && (decide (u.key.epoch ≠ 0xFFFF))))))))) = true ∧
    ((let p : Packet := pk [1, 2, 3, 4, 5, 6, 7, 8]; let s : State := live;
        decide (runsNow specKeyAttest p s = true) && (
      let u := bodyFrom p s
      decide (u.mon.pfw = false) && (decide (u.key.busyOp = none)
        && (decide (u.sys.tamperHold = false ∨ u.fuse.pufFail = false)))))) = true ∧
    ((let p : Packet := pk (List.replicate 8 1);
        let s : State := { ini with fuse := { ini.fuse with lcPairA := 0 } };
        decide (runsNow specKeyProvision p s = true) && (
      let u := bodyFrom p s
      decide (u.mon.pfw = false) && (decide (u.key.busyOp = none)
        && (decide ((u.lc = .blank ∧ u.fuse.seedPossible = true) ∨ (u.lc ≠ .blank ∧ u.sys.tamperHold = true ∧ u.tamperQuiet = true))))))) = true ∧
    ((let p : Packet := pk (4 :: List.replicate 25 1); let s : State := mnt;
        decide (runsNow specKeyLcAdvance p s = true) && (
      let u := bodyFrom p s
      decide (u.ready pdCrypto = true) && (decide (u.sys.tamperHold = false) && (decide (u.mon.pfw = false)
        && (decide (u.key.busyOp = none) && (decide (lcStep u.lc (fld (p.w 0) 0 3) = true)))))))) = true ∧
    ((let p : Packet := pk (0 :: List.replicate 25 1);
        let s : State := { mnt with fuse := { mnt.fuse with ownerDbgSet := true } };
        decide (runsNow specKeyDebugEnter p s = true) && (
      let u := bodyFrom p s
      decide (u.ready pdCrypto = true) && (decide (u.sys.tamperHold = false) && (decide (u.mon.pfw = false)
        && (decide (u.key.busyOp = none) && (decide (u.fuse.ownerDbgSet = true)
        && (decide (u.pair.role ≠ .active))))))))) = true ∧
    ((let p : Packet := pk []; let s : State := { mnt with sys := { mnt.sys with debug := true } };
        decide (runsNow specKeyDebugExit p s = true) && (
      let u := bodyFrom p s
      decide (u.ready pdCrypto = true) && (decide (u.mon.pfw = false) && (decide (u.key.busyOp = none)))))) = true :=
  by and_intros <;> decide +kernel

/-- States and operands that meet, clause by clause, the hypotheses of LogPacketsRun. -/
theorem test_log_packets_run_met :
    ((let p : Packet := pk []; let s : State := live; decide (runsNow specLogQueryStatus p s = true))) = true ∧
    ((let p : Packet := pk []; let s : State := live; decide (runsNow specLogQueryHead p s = true))) = true ∧
    ((let p : Packet := pk [0, 0]; let s : State := live; decide (runsNow specLogExportAck p s = true))) = true ∧
    ((let p : Packet := pk [0x50, 0, 0]; let s : State := live; decide (runsNow specLogSetExport p s = true) && (
      let w := p.w 0
      decide (flag w 9 = false)))) = true ∧
    ((let p : Packet := pk [0x201, 0, 0];
        let s : State := { live with log := { live.log with held := [{ (entryOf 1 0 0 live.stamp []) with seq := 0 }] } };
        decide (runsNow specLogSetExport p s = true) && (
      let u := bodyFrom p s
      let w := p.w 0
      let q : BitVec 48 := (p.w2 1).setWidth 48
      decide (flag w 9 = true) && (decide (u.log.replay = [])
        && (decide ((u.log.held.any fun e => e.seq == q) = true)))))) = true ∧
    ((let p : Packet := pk []; let s : State := live; decide (runsNow specLogCheckpoint p s = true) && (
      let u := bodyFrom p s
      decide (u.log.signing = false) && (decide (u.log.ckWait = false))))) = true ∧
    ((let p : Packet := pk [0x40001, 0x41424344, 0, 0, 0, 0, 0, 0, 0, 0]; let s : State := live;
        decide (runsNow specLogNote p s = true))) = true :=
  by and_intros <;> decide +kernel

/-- States and operands that meet, clause by clause, the hypotheses of FltPairPacketsRun. -/
theorem test_flt_pair_packets_run_met :
    ((let p : Packet := pk []; let s : State := live; decide (runsNow specFltQuery p s = true))) = true ∧
    ((let p : Packet := pk [0x2c4]; let s : State := mnt; decide (runsNow specFltSetClass p s = true))) = true ∧
    ((let p : Packet := pk [0xffffffff, 0, 0, 0, 0, 0, 0, 0]; let s : State := live;
        decide (runsNow specFltClear p s = true))) = true ∧
    ((let p : Packet := pk [0xc4]; let s : State := mnt; decide (runsNow specFltInject p s = true))) = true ∧
    ((let p : Packet := pk []; let s : State := live; decide (runsNow specPairQuery p s = true))) = true ∧
    ((let p : Packet := pk [1, 0, 1000]; let s : State := mnt; decide (runsNow specPairSetMode p s = true) && (
      let u := bodyFrom p s
      let m := flag (p.w 0) 0
      decide (u.ready pdPair = true) && (decide ((m = false → u.pair.linkUp = false ∧ u.lineBusy = false)))))) = true ∧
    ((let p : Packet := pk [3, 1000, 1000]; let s : State := live; decide (runsNow specPairSetClaim p s = true) && (
      let u := bodyFrom p s
      decide (u.ready pdPair = true)))) = true ∧
    ((let p : Packet := pk [0, 0, 0, 0];
        let s : State := { live with cfg := { live.cfg with out := { live.cfg.out with ch := Tab.mod live.cfg.out.ch 0 fun c => { c with shared := true } } } };
        decide (runsNow specPairSetCompare p s = true) && (
      let u := bodyFrom p s
      let w := p.w 0
      let e := fld w 0 3
      let ch := fld w 12 5
      let a := u.entryOff e
      decide (u.ready pdPair = true) && (decide (!flag w 3 || (u.ready pdTic && (a.tch ch).claim == 0
        && (a.tchCfg ch).mode == 0)))))) = true ∧
    ((let p : Packet := pk [0, 1000, 0];
        let s : State := { live with pair := { live.pair with role := .active, linkUp := true } };
        decide (runsNow specPairHandover p s = true) && (
      let u := bodyFrom p s
      decide (u.ready pdPair = true) && (decide (u.pair.role = .active) && (decide (u.pair.linkUp = true)
        && (decide (u.pair.health ≤ u.pair.peerHealth) && (decide (u.pair.handoverPending = false)
        && (decide (u.now16 + 10 * us16 ≤ taiNat (p.tai 0)))))))))) = true ∧
    ((let p : Packet := pk [];
        let s : State := { live with sys := { live.sys with devState := .safe }, pair := { live.pair with role := .safe } };
        decide (runsNow specPairRejoin p s = true) && (
      let u := bodyFrom p s
      decide (u.ready pdPair = true) && (decide (u.pair.role = .safe) && (decide (u.sys.devState = .safe)))))) = true ∧
    ((let p : Packet := pk []; let s : State := { live with pair := { live.pair with role := .safe } };
        decide (runsNow specPairRejoin p s = true) && (
      let u := bodyFrom p s
      decide (u.ready pdPair = true) && (decide (u.pair.role = .safe) && (decide (u.sys.devState ≠ .safe)))))) = true :=
  by and_intros <;> decide +kernel

/-- States and operands that meet, clause by clause, the hypotheses of MonPacketsRun. -/
theorem test_mon_packets_run_met :
    ((let p : Packet := pk []; let s : State := live; decide (runsNow specMonQuery p s = true))) = true ∧
    ((let p : Packet := pk []; let s : State := live; decide (runsNow specKeepQuery p s = true))) = true ∧
    ((let p : Packet := pk []; let s : State := live; decide (runsNow specCalQuery p s = true))) = true ∧
    ((let p : Packet := pk [0x11, 100]; let s : State := live; decide (runsNow specMonSetLimits p s = true)
        && (decide (flag (p.w 0) 4 = true)))) = true ∧
    ((let p : Packet := pk [0, 0x044c03e8]; let s : State := live; decide (runsNow specMonSetLimits p s = true)
        && (decide (flag (p.w 0) 4 = false)))) = true ∧
    ((let p : Packet := pk [0x01F41701, 0x000A0005, 100, 100, 100]; let s : State := live;
        decide (runsNow specMonSetMains p s = true))) = true ∧
    ((let p : Packet := pk [1]; let s : State := live; decide (runsNow specKeepScrub p s = true) && (
      let u := bodyFrom p s
      let w := p.w 0
      decide ((flag w 0 = true → u.keep.scrubBusy = false ∧ u.mon.pfw = false))))) = true ∧
    ((let p : Packet := pk [0, 0, 5]; let s : State := live; decide (runsNow specCalSetTime p s = true) && (
      let u := bodyFrom p s
      decide (u.calSyncing = false)))) = true ∧
    ((let p : Packet := pk [0, 100, 1000]; let s : State := live; decide (runsNow specCalSetTrim p s = true))) = true ∧
    ((let p : Packet := pk [0, 100]; let s : State := { mnt with fuse := { mnt.fuse with lcPairA := 1 } };
        decide (runsNow specCalSetTamper p s = true))) = true :=
  by and_intros <;> decide +kernel

/-- States and operands that meet, clause by clause, the hypotheses of RingEventsRun. -/
theorem test_ring_events_run_met :
    ((let dt : Nat := (0 : Nat); let ring : BitVec 6 := 0; let v : W32 := 5; let s : State := live;
      let u := State.advance s dt
      let n := BitVec.toNat ring
      decide (u.reached 0 = true) && (decide (hostToDevice n = true)
        && (decide ((u.ring n).used ≤ (v - (u.ring n).cons).toNat)
        && (decide ((v - (u.ring n).cons).toNat ≤ (u.ring n).size)))))) = true ∧
    ((let dt : Nat := (0 : Nat); let ring : BitVec 6 := 4; let v : W32 := 0; let s : State := live;
      let u := State.advance s dt
      let n := BitVec.toNat ring
      decide (u.reached 0 = true) && (decide (hostToDevice n = false)
        && (decide ((v - (u.ring n).cons).toNat ≤ (u.ring n).used) && (decide (n ≠ 2) && (decide (n ≠ 3))))))) = true ∧
    ((let dt : Nat := (0 : Nat); let ring : BitVec 6 := 0; let s : State := live;
      let u := State.advance s dt
      decide (u.ringRoom (BitVec.toNat ring) = true))) = true ∧
    ((let dt : Nat := (0 : Nat); let ring : BitVec 6 := 4;
        let s : State := { live with cmd.rings := Tab.mod live.cmd.rings 4 fun r => { r with modPending := 1 } };
      let u := State.advance s dt
      let n := BitVec.toNat ring
      decide ((u.ring n).modPending ≠ 0))) = true ∧
    ((let dt : Nat := (0 : Nat); let ring : BitVec 6 := 4;
        let s : State := { live with cmd.rings := Tab.mod live.cmd.rings 4 fun r => { r with prod := 32 } };
      let u := State.advance s dt
      let n := BitVec.toNat ring
      Option.any (fun t => decide (u.ready pdPcie = true) && (decide ((u.ring n).enable = true)
        && (decide ((u.ring n).size ≤ (u.ring n).used) && (decide ((u.ring n).stallTold = false)
        && (decide ((u.ring n).fullFrom + t ≤ u.ticks)))))) (stallTime n))) = true ∧
    ((let dt := (0 : Nat); let ring := (63 : BitVec 6); let s : State := live;
      let u := State.advance s dt
      let n := BitVec.toNat ring
      decide (u.ready pdPcie = true) && (decide ((u.ring n).enable = true)))) = true ∧
    ((let dt : Nat := (0 : Nat); let s : State := live;
      let u := State.advance s dt
      decide (u.ready pdPcie = true) && (decide (u.sys.pcieLink = true)))) = true ∧
    ((let dt : Nat := (0 : Nat); let s : State := live;
      let u := State.advance s dt
      decide (u.ready pdPcie = true))) = true ∧
    ((let dt : Nat := (0 : Nat); let s : State := live;
      let u := State.advance s dt
      decide (u.ready pdPcie = true) && (decide (u.sys.devState ≠ .sleep)))) = true :=
  by and_intros <;> decide +kernel

/-- States and operands that meet, clause by clause, the hypotheses of MailboxEventsRun. -/
theorem test_mailbox_events_run_met :
    ((let dt : Nat := (0 : Nat); let m : BitVec 4 := (live.mbx 0).sender; let n : BitVec 3 := 0;
        let s : State := { live with cmd.mbx := Tab.mod live.cmd.mbx 0 fun b => { b with full := true } };
      let u := State.advance s dt
      let k := BitVec.toNat n
      decide (u.reached m = true) && (decide (m = (u.mbx k).sender) && (decide ((u.mbx k).full = true))))) = true ∧
    ((let dt : Nat := (0 : Nat); let m : BitVec 4 := (0 : BitVec 4); let n : BitVec 3 := 0; let s : State := live;
      let u := State.advance s dt
      let k := BitVec.toNat n
      decide (u.reached m = true) && (decide (m = (u.mbx k).sender) && (decide ((u.mbx k).full = false)
        && (decide (receiverDomain (u.mbx k).receiver = none)))))) = true ∧
    ((let dt : Nat := (0 : Nat); let m : BitVec 4 := (live.mbx 1).sender; let n : BitVec 3 := 1;
        let s : State := { live with cmd.mbx := Tab.mod live.cmd.mbx 1 fun b => { b with receiver := 5 } };
      let u := State.advance s dt
      let k := BitVec.toNat n
      decide (u.reached m = true) && (decide (m = (u.mbx k).sender) && (let d := pdEngine;
        decide ((u.mbx k).full = false) && (decide (receiverDomain (u.mbx k).receiver = some d)
        && (decide (u.ready d = true))))))) = true ∧
    ((let dt : Nat := (0 : Nat); let m : BitVec 4 := (live.mbx 1).sender; let n : BitVec 3 := 1;
        let s : State := { live with cmd.mbx := Tab.mod live.cmd.mbx 1 fun b => { b with receiver := 12 }, sys.domReady := 0x0FFF &&& ~~~(bitAt 13 pdCrypto) };
      let u := State.advance s dt
      let k := BitVec.toNat n
      decide (u.reached m = true) && (decide (m = (u.mbx k).sender) && (let d := pdCrypto;
        decide ((u.mbx k).full = false) && (decide (receiverDomain (u.mbx k).receiver = some d)
        && (decide (u.ready d = false))))))) = true ∧
    ((let dt : Nat := (0 : Nat); let n : BitVec 3 := 0;
        let s : State := { live with cmd.mbx := Tab.mod live.cmd.mbx 0 fun b => { b with receiver := 12, awaiting := true } };
      let u := State.advance s dt
      let k := BitVec.toNat n
      decide ((u.mbx k).awaiting = true)
        && (decide ((receiverDomain (u.mbx k).receiver).all (fun d => u.ready d) = true)))) = true ∧
    ((let dt : Nat := (0 : Nat); let m : BitVec 4 := (live.mbx 0).receiver; let n : BitVec 3 := 0;
        let s : State := { live with cmd.mbx := Tab.mod live.cmd.mbx 0 fun b => { b with full := true } };
      let u := State.advance s dt
      let k := BitVec.toNat n
      decide (u.reached m = true) && (decide (m = (u.mbx k).receiver) && (decide ((u.mbx k).full = true)
        && (decide ((u.mbx k).awaiting = false)))))) = true ∧
    ((let dt : Nat := (0 : Nat); let m : BitVec 4 := (0 : BitVec 4); let sem : BitVec 5 := 0; let s : State := live;
      let u := State.advance s dt
      let i := BitVec.toNat sem
      decide (u.reached m = true) && (decide (m ≠ 14) && (decide (freeFor (u.semView i) m = true)
        && (decide (freeFor (Tab.get u.cmd.sems i none) m = true) && (decide (has u.cmd.semLog i = false)
        && (decide (u.semView i ≠ none ∨ u.semRival m i = none)))))))) = true ∧
    ((let dt : Nat := (0 : Nat); let m : BitVec 4 := 2; let sem : BitVec 5 := 0;
        let s : State := { live with pending := [.semRead 0 1 0] };
      let u := State.advance s dt
      let i := BitVec.toNat sem
      decide (u.reached m = true) && (decide (m ≠ 14) && (decide (freeFor (u.semView i) m = true)
        && (decide (freeFor (Tab.get u.cmd.sems i none) m = true) && (decide (has u.cmd.semLog i = false)
        && (decide (u.semView i = none) && (Option.any (fun r => true) (u.semRival m i))))))))) = true ∧
    ((let dt : Nat := (0 : Nat); let m : BitVec 4 := 5; let sem : BitVec 5 := 3;
        let s : State := { live with cmd.sems := Tab.set live.cmd.sems 3 (some 5) };
      let u := State.advance s dt
      let i := BitVec.toNat sem
      decide (u.reached m = true) && (decide (Tab.get u.cmd.sems i none = some m)))) = true ∧
    ((let dt : Nat := (0 : Nat); let m : BitVec 4 := (0 : BitVec 4); let sem : BitVec 5 := 0; let s : State := live;
      let u := State.advance s dt
      let i := BitVec.toNat sem
      decide (u.reached m = true) && (decide (Tab.get u.cmd.sems i none ≠ some m)))) = true ∧
    ((let dt : Nat := (0 : Nat); let r := Reply.reset; let s : State := { live with cmd.replies := [Reply.reset] };
      let u := State.advance s dt
      decide (u.sys.inReset = false) && (decide (u.cmd.replies.find? u.replyRoom = some r)))) = true :=
  by and_intros <;> decide +kernel

/-- States and operands that meet, clause by clause, the hypotheses of RegisterAccessesRun. -/
theorem test_register_accesses_run_met :
    ((let dt := (0 : Nat); let r := .bar0 0x202028 false; let m := (0 : BitVec 4); let addr := 0x202028;
        let s : State := live;
      let u := State.advance s dt
      decide (State.reads u r = (m, [addr])) && (decide (u.reached m = true) && (decide (outOfRange m addr = false)
        && (decide (BitVec.toNat addr < bar0) && (decide (u.noGns addr.toNat = false)
        && (Option.any (fun k => decide (u.ready pdTic = true)) (span addr.toNat 0x201028 0x100 32)))))))) = true ∧
    ((let dt := (0 : Nat); let r := .bar0 0x302F30 false; let m := (0 : BitVec 4); let addr := 0x302F30;
        let s : State := live;
      let u := State.advance s dt
      decide (State.reads u r = (m, [addr])) && (decide (u.reached m = true) && (decide (outOfRange m addr = false)
        && (decide (BitVec.toNat addr < bar0) && (decide (u.noGns addr.toNat = false)
        && (Option.any (fun k => decide (u.ready pdGnss = true)) (span addr.toNat 0x301030 0x100 32)))))))) = true ∧
    ((let dt := (0 : Nat); let r := .bar0 0xB00120 false; let m := (0 : BitVec 4); let addr := 0xB00120;
        let s : State := live;
      let u := State.advance s dt
      decide (State.reads u r = (m, [addr])) && (decide (u.reached m = true) && (decide (outOfRange m addr = false)
        && (decide (BitVec.toNat addr < bar0) && (decide (u.noGns addr.toNat = false) && (decide (addr = 0xB00120)
        && (decide (u.ready 1 = true))))))))) = true ∧
    ((let dt := (0 : Nat); let r := .bar0 0x143024 false; let m := (0 : BitVec 4); let addr := 0x143024;
        let s : State := { live with sys.domReady := 0x1FF3 };
      let u := State.advance s dt
      let v := { u with cmd := { u.cmd with readWords := [] } }
      decide (State.reads u r = (m, [addr])) && (decide (u.reached m = true) && (decide (outOfRange m addr = false)
        && (decide (BitVec.toNat addr < bar0) && (decide (u.noGns addr.toNat = false)
        && (decide (span addr.toNat 0x10044 0x80 8 = none) && (decide (span addr.toNat 0x11000 4 32 = none)
        && (decide (popAt addr.toNat = none)
        && (Option.any (fun x => decide (v.ready x.dom = false)) (v.rcAt addr.toNat))))))))))) = true ∧
    ((let dt := (0 : Nat); let r := .bar0 0xC00030 false; let m := (0 : BitVec 4); let addr := 0xC00030;
        let s : State := live;
      let u := State.advance s dt
      let v := { u with cmd := { u.cmd with readWords := [] } }
      decide (State.reads u r = (m, [addr])) && (decide (u.reached m = true) && (decide (outOfRange m addr = false)
        && (decide (BitVec.toNat addr < bar0) && (decide (u.noGns addr.toNat = false)
        && (decide (span addr.toNat 0x10044 0x80 8 = none) && (decide (span addr.toNat 0x11000 4 32 = none)
        && (decide (popAt addr.toNat = none) && (Option.any (fun x => decide (v.ready x.dom = true)
        && (decide (x.wide = false))) (v.rcAt addr.toNat))))))))))) = true ∧
    ((let dt := (0 : Nat); let r := .bar0 0x20160 false; let m := (0 : BitVec 4); let addr := 0x20160;
        let s : State := live;
      let u := State.advance s dt
      let v := { u with cmd := { u.cmd with readWords := [] } }
      decide (State.reads u r = (m, [addr])) && (decide (u.reached m = true) && (decide (outOfRange m addr = false)
        && (decide (BitVec.toNat addr < bar0) && (decide (u.noGns addr.toNat = false)
        && (decide (span addr.toNat 0x10044 0x80 8 = none) && (decide (span addr.toNat 0x11000 4 32 = none)
        && (decide (popAt addr.toNat = none) && (Option.any (fun x => decide (v.ready x.dom = true)
        && (decide (x.wide = true))) (v.rcAt addr.toNat))))))))))) = true ∧
    ((let dt := (0 : Nat); let r := .bar0 0x200008 false; let m := (0 : BitVec 4); let addr := 0x200008;
        let s : State := live;
      let u := State.advance s dt
      let v := { u with cmd := { u.cmd with readWords := [] } }
      decide (State.reads u r = (m, [addr])) && (decide (u.reached m = true) && (decide (outOfRange m addr = false)
        && (decide (BitVec.toNat addr < bar0) && (decide (u.noGns addr.toNat = false)
        && (decide (span addr.toNat 0x10044 0x80 8 = none) && (decide (span addr.toNat 0x11000 4 32 = none)
        && (decide (popAt addr.toNat = none) && (decide (v.rcAt addr.toNat = none)
        && (Option.any (fun ⟨d, ws⟩ => decide (v.ready d = true)) (v.recordAt addr.toNat)))))))))))) = true ∧
    ((let dt := (0 : Nat); let r := .bar0 0x20000C false; let m := (0 : BitVec 4); let addr := 0x20000C;
        let s : State := live;
      let u := State.advance s dt
      let v := { u with cmd := { u.cmd with readWords := [] } }
      decide (State.reads u r = (m, [addr])) && (decide (u.reached m = true) && (decide (outOfRange m addr = false)
        && (decide (BitVec.toNat addr < bar0) && (decide (u.noGns addr.toNat = false)
        && (decide (span addr.toNat 0x10044 0x80 8 = none) && (decide (span addr.toNat 0x11000 4 32 = none)
        && (decide (popAt addr.toNat = none) && (decide (v.rcAt addr.toNat = none)
        && (decide (v.recordAt addr.toNat = none)
        && (Option.any (fun d => decide (v.ready d = true)) (v.laterIn addr.toNat))))))))))))) = true ∧
    ((let dt := (0 : Nat); let r := .bar0 0x20000 false; let m := (0 : BitVec 4); let addr := 0x20000;
        let s : State := live;
      let u := State.advance s dt
      let v := { u with cmd := { u.cmd with readWords := [] } }
      decide (State.reads u r = (m, [addr])) && (decide (u.reached m = true) && (decide (outOfRange m addr = false)
        && (decide (BitVec.toNat addr < bar0) && (decide (u.noGns addr.toNat = false)
        && (decide (span addr.toNat 0x10044 0x80 8 = none) && (decide (span addr.toNat 0x11000 4 32 = none)
        && (decide (popAt addr.toNat = none) && (decide (v.rcAt addr.toNat = none)
        && (decide (v.recordAt addr.toNat = none) && (decide (v.laterIn addr.toNat = none)
        && (Option.any (fun ⟨d, w⟩ => true) (v.regGet addr.toNat)))))))))))))) = true ∧
    ((let dt := (0 : Nat); let r := .bar0 0xFFFFFC false; let m := (0 : BitVec 4); let addr := 0xFFFFFC;
        let s : State := live;
      let u := State.advance s dt
      let v := { u with cmd := { u.cmd with readWords := [] } }
      decide (State.reads u r = (m, [addr])) && (decide (u.reached m = true) && (decide (outOfRange m addr = false)
        && (decide (BitVec.toNat addr < bar0) && (decide (u.noGns addr.toNat = false)
        && (decide (span addr.toNat 0x10044 0x80 8 = none) && (decide (span addr.toNat 0x11000 4 32 = none)
        && (decide (popAt addr.toNat = none) && (decide (v.rcAt addr.toNat = none)
        && (decide (v.recordAt addr.toNat = none) && (decide (v.laterIn addr.toNat = none)
        && (decide (v.regGet addr.toNat = none)))))))))))))) = true ∧
    ((let dt := (0 : Nat); let r := .bar0 1 false; let m := (0 : BitVec 4); let s : State := live;
      let u := State.advance s dt
      decide (State.reads u r = (m, [])) && (decide (u.reached m = true)))) = true ∧
    ((let dt := (0 : Nat); let w := .bar0 0x28004 false 1; let addr := 0x28004; let v := 1; let s : State := live;
      let u := State.advance s dt
      decide (State.writes u w = (0, [(addr, v)])) && (decide (u.reached 0 = true) && (let g : Nat := 0;
        decide (BitVec.toNat addr = 0x28004 + 0x20 * g))))) = true ∧
    ((let dt := (0 : Nat); let w := .bar0 0x28008 false 1; let addr := 0x28008; let v := 1; let s : State := live;
      let u := State.advance s dt
      decide (State.writes u w = (0, [(addr, v)])) && (decide (u.reached 0 = true) && (let g : Nat := 0;
        decide (BitVec.toNat addr = 0x28008 + 0x20 * g))))) = true ∧
    ((let dt := (0 : Nat); let w := .bar0 0x2800C false 1; let addr := 0x2800C; let v := 1; let s : State := live;
      let u := State.advance s dt
      decide (State.writes u w = (0, [(addr, v)])) && (decide (u.reached 0 = true) && (let g : Nat := 0;
        decide (BitVec.toNat addr = 0x2800C + 0x20 * g ∨ addr.toNat = 0x28010 + 0x20 * g))))) = true ∧
    ((let dt := (0 : Nat); let w := .spi [2, 0, 2, 0x80, 0x0C, 0, 0, 0, 1]; let m := 1; let addr := 0x2800C;
        let v := 1; let s : State := live;
      let u := State.advance s dt
      decide (State.writes u w = (m, [(addr, v)])) && (decide (u.reached m = true) && (decide (m = 1 ∨ m = 2)
        && (let g : Nat := 0; decide (BitVec.toNat addr = 0x2800C + 0x20 * g)))))) = true ∧
    ((let dt := (0 : Nat); let w := .spi [2, 0, 2, 0x80, 0x10, 0, 0, 0, 1]; let m := 1; let addr := 0x28010;
        let v := 1; let s : State := live;
      let u := State.advance s dt
      decide (State.writes u w = (m, [(addr, v)])) && (decide (u.reached m = true) && (decide (m = 1 ∨ m = 2)
        && (let g : Nat := 0; decide (BitVec.toNat addr = 0x28010 + 0x20 * g)))))) = true ∧
    ((let dt := (0 : Nat); let w := .spi [2, 0, 2, 0x80, 0x04, 0, 0, 0, 1]; let m := 1; let addr := 0x28004;
        let v := 1; let s : State := live;
      let u := State.advance s dt
      decide (State.writes u w = (m, [(addr, v)])) && (decide (u.reached m = true) && (decide (m = 1 ∨ m = 2)
        && (let g : Nat := 0; decide (BitVec.toNat addr = 0x28004 + 0x20 * g ∨ addr.toNat = 0x28008 + 0x20 * g)))))) = true ∧
    ((let dt := (0 : Nat); let w := .bar0 0x10000 false 1; let m := 0; let addr := 0x10000; let v := 1;
        let s : State := live;
      let u := State.advance s dt
      decide (State.writes u w = (m, [(addr, v)])) && (decide (u.reached m = true)
        && (decide (outOfRange m addr = false) && (let n := 0; let i := 0; decide (n < 8) && (decide (i < 16)
        && (decide (BitVec.toNat addr = 0x10000 + 0x80 * n + 4 * i) && (decide ((u.mbx n).sender = m)
        && (decide ((u.mbx n).full = false)))))))))) = true ∧
    ((let dt : Nat := (0 : Nat); let addr := (0x1000014 + 0x40 * 63 : W32); let v := (2 : BitVec 64);
        let s : State := live;
      let u := State.advance s dt
      decide (u.reached 0 = true) && (decide (u.ready pdPcie = true) && (let n : Nat := (63 : Nat);
        decide (BitVec.toNat addr = 0x1000014 + 0x40 * n))))) = true :=
  by and_intros <;> decide +kernel

/-- States and operands that meet, clause by clause, the hypotheses of BootEventsRun. -/
theorem test_boot_events_run_met :
    ((let dt : Nat := (0 : Nat); let s : State := live;
      let u := State.advance s dt
      decide (u.sys.porLow = false))) = true ∧
    ((let dt : Nat := (0 : Nat); let out : BitVec 7 := 4; let s : State := live;
      let u := State.advance s dt
      decide (out &&& ~~~u.sys.railsOut ≠ 0))) = true ∧
    ((let dt : Nat := (0 : Nat); let out : BitVec 7 := 0; let s : State := live;
      let u := State.advance s dt
      decide (out &&& ~~~u.sys.railsOut = 0))) = true ∧
    ((let dt : Nat := (0 : Nat); let s : State := live;
      let u := State.advance s dt
      decide (u.sys.resetLow = false) && (decide (u.sys.inReset = false ∨ u.sys.coldReset = false)))) = true ∧
    ((let dt : Nat := (0 : Nat);
        let s : State := { live with sys.inReset := true, sys.porLow := false, sys.resetLow := false, sys.coldReset := true, sys.railWaitFrom := 0 };
      let u := State.advance s dt
      decide (u.sys.inReset = true) && (decide (u.sys.porLow = false) && (decide (u.sys.resetLow = false)
        && (decide (u.sys.railsOut = 0)
        && (decide (u.sys.coldReset = false ∨ u.sys.railWaitFrom + 2 * msTicks ≤ u.ticks))))))) = true ∧
    ((let dt : Nat := (0 : Nat); let s : State := boot;
      let u := State.advance s dt
      decide (u.sys.devState = .boot) && (decide (u.sys.inReset = false) && (decide (u.sys.coldReset = true)
        && (decide (u.sys.releasedAt + 20 * usTicks ≤ u.ticks)))))) = true ∧
    ((let dt : Nat := (0 : Nat); let a : Option FwImage := none; let b : Option FwImage := none;
        let s : State := boot;
      let u := State.advance s dt
      decide (u.sys.devState = .boot) && (decide (u.sys.inReset = false) && (decide (u.sys.imageOk = false)
        && (decide (u.sys.bootCode = .inProgress)))))) = true ∧
    ((let dt : Nat := (0 : Nat); let s : State := { boot with sys.domOn := 0x1FFF &&& ~~~(bitAt 13 pdEngine) };
      let u := State.advance s dt
      decide (u.sys.devState = .boot) && (decide (u.sys.inReset = false) && (decide (u.ready pdTime = true)
        && (decide (has u.sys.domOn pdEngine = false)
        && (decide (u.acd.cpllLock = true ∨ (u.acd.checkFrom + 5 * msTicks ≤ u.ticks ∧ u.cpllRefPresent = false) ∨ u.sys.releasedAt + 9 * msTicks ≤ u.ticks))))))) = true ∧
    ((let dt : Nat := (0 : Nat); let d : BitVec 4 := 9; let banks : BitVec 72 := 0;
        let s : State := { live with sys.domUp := bitAt 13 9 };
      let u := State.advance s dt
      let k := BitVec.toNat d
      decide (has u.sys.domUp k = true ∨ (u.sys.devState = .boot ∧ u.sys.inReset = false ∧ k = 2 ∧ u.ready 2 = false)))) = true ∧
    ((let dt : Nat := (0 : Nat); let d : BitVec 4 := 4; let s : State := { live with sys.domDown := bitAt 13 4 };
      let u := State.advance s dt
      let k := d.toNat
      decide (has u.sys.domDown k = true) && (decide (u.mayOff k = true)))) = true ∧
    ((let dt : Nat := (0 : Nat); let keep : KeepRead := {}; let s : State := { boot with sys.imageOk := true };
      let u := State.advance s dt
      decide (u.sys.devState = .boot) && (decide (u.sys.inReset = false) && (decide (u.sys.imageOk = true)
        && (decide (u.ready pdEngine = true)))))) = true ∧
    ((let dt : Nat := (0 : Nat); let skew : Int := 0;
        let s : State := { live with tic := { live.tic with bridge := some 31 } };
      let u := State.advance s dt
      decide (u.ready pdTic = true) && (decide (u.tic.bridge ≠ none)
        && (decide (u.tic.readyTick + msTicks ≤ u.ticks))))) = true ∧
    ((let dt : Nat := (0 : Nat); let s : State := { ini with cfg.sys.autoRun := true };
      let u := State.advance s dt
      decide (u.sys.devState = .init) && (decide (u.cfg.sys.autoRun = true) && (decide (u.sys.tamperHold = false)
        && (decide (u.bootReady = true)))))) = true ∧
    ((let dt : Nat := (0 : Nat); let s : State := { live with sys.devState := .sleep };
      let u := State.advance s dt
      decide (u.sys.devState = .sleep))) = true ∧
    ((let dt : Nat := (0 : Nat); let flash : Option FwImage := some { hash := 1 };
        let s : State := { live with sys.devState := .sleep, sys.waking := true };
      let u := State.advance s dt
      decide (u.sys.devState = .sleep) && (decide (u.sys.waking = true) && (decide (u.bootReady = true) && (
      let f := flash.getD (u.sys.slotImage u.sys.bootSlot)
      decide (u.imageValid f = false ∨ f.hash ≠ u.sys.runHash)))))) = true ∧
    ((let dt : Nat := (0 : Nat); let f : FwImage := {}; let dmaError : Bool := false; let powerFail : Bool := false;
        let s : State := { live with sys.stageBusy := true };
      let u := State.advance s dt
      decide (u.sys.stageBusy = true))) = true :=
  by and_intros <;> decide +kernel

/-- States and operands that meet, clause by clause, the hypotheses of AccordEventsRun. -/
theorem test_accord_events_run_met :
    ((let dt : Nat := (0 : Nat); let m : BitVec 4 := 4 + live.cfg.acd.owner.setWidth 4;
        let v : Option (BitVec 64) := none; let s : State := { live with acd.state := .acquire };
      let u := State.advance s dt
      decide (BitVec.toNat m = 4 + u.cfg.acd.owner.toNat) && (decide (u.ready pdTime = true)
        && (decide (u.steering = true))))) = true ∧
    ((let dt : Nat := (0 : Nat); let m : BitVec 4 := 4 + live.cfg.acd.owner.setWidth 4;
        let v : Option (BitVec 64) := none;
        let s : State := { live with acd.state := .acquire, acd.servoLost := true };
      let u := State.advance s dt
      decide (BitVec.toNat m = 4 + u.cfg.acd.owner.toNat) && (decide (u.ready pdTime = true)
        && (decide (u.steering = false) && (decide (u.acd.servoLost = true) && (decide (u.acd.forced = false)
        && (decide (u.acd.state ≠ .safe)))))))) = true ∧
    ((let dt : Nat := (0 : Nat); let s : State := { live with acd.state := .locked, acd.lastSteer := 0 };
      let u := State.advance s dt
      decide (u.steering = true) && (decide (u.acd.steerWait = false)
        && (decide (u.acd.lastSteer + u.cfg.acd.servoTimeoutMs.toNat * msTicks ≤ u.ticks))))) = true ∧
    ((let dt : Nat := (0 : Nat);
        let s : State := { warm with acd.reentry := true, acd.reentryAt := live.ticks - 64, acd.lastPub := live.ticks - 64, ref.selected := 1 };
      let u := State.advance s dt
      decide (u.acd.reentry = true) && (decide (u.acd.forced = false) && (decide (u.acd.state ≠ .safe)
        && (decide (u.acd.state ≠ .cold) && (decide (u.ready pdTime = true)
        && (decide (u.pubTick u.acd.reentryAt = true) && (
      let v := { u with acd := { u.acd with reentry := false } }
      Option.any (fun n => true) (v.selectedSlot))))))))) = true ∧
    ((let dt : Nat := (0 : Nat); let s : State := live;
      let u := State.advance s dt
      decide (u.acd.ocxoPresent = false) && (decide (u.ready pdTime = true)))) = true ∧
    ((let dt : Nat := (0 : Nat); let s : State := live;
      let u := State.advance s dt
      decide (u.ready pdTime = true))) = true ∧
    ((let dt : Nat := (0 : Nat);
        let s : State := { live with acd.cpllLock := false, acd.ocxoPresent := true, acd.atomPresent := true };
      let u := State.advance s dt
      decide (u.acd.cpllLock = false) && (decide (u.ready pdTime = true) && (decide (u.cpllRefPresent = true))))) = true ∧
    ((let dt : Nat := (0 : Nat); let s : State := live;
      let u := State.advance s dt
      decide (u.acd.cpllRelock = false) && (decide (u.ready pdTime = true)))) = true ∧
    ((let dt : Nat := (0 : Nat); let s : State := { live with acd.macerate := true, acd.macFrom := 0 };
      let u := State.advance s dt
      decide (u.acd.macerate = true)
        && (decide ((u.acd.macFrom + u.cfg.acd.macerationS.toNat * sTicks ≤ u.ticks ∨ u.cfg.acd.macEarly = true ∧ u.macStable = true))))) = true ∧
    ((let dt : Nat := (0 : Nat);
        let s : State := { live with acd.cpllLock := true, keep.blank := true, sys.seeded := false, acd.state := .cold, vbat.calValid := true };
      let u := State.advance s dt
      decide (u.ready pdTime = true) && (decide (u.acd.cpllLock = true)
        && (decide ((u.keep.restored = true ∨ u.keep.blank = true)) && (decide (u.sys.seeded = false)
        && (decide (u.acd.state = .cold) && (decide (u.acd.calTold = false) && (decide (u.vbat.calValid = true))))))))) = true ∧
    ((let dt : Nat := (0 : Nat);
        let s : State := { live with acd.cpllLock := true, keep.blank := true, sys.seeded := false, acd.state := .cold, vbat.calValid := false };
      let u := State.advance s dt
      decide (u.ready pdTime = true) && (decide (u.acd.cpllLock = true)
        && (decide ((u.keep.restored = true ∨ u.keep.blank = true)) && (decide (u.sys.seeded = false)
        && (decide (u.acd.state = .cold) && (decide (u.acd.calTold = false)
        && (decide (u.vbat.calValid = false))))))))) = true ∧
    ((let dt : Nat := (0 : Nat); let s : State := { live with acd.leapPending := true, keep.ro := true };
      let u := State.advance s dt
      decide (u.acd.leapPending = true) && (decide (u.cfg.acd.leapAt.toNat ≤ u.now16 / sec16)
        && (decide (u.keep.ro = true ∨ u.mon.pfw = true))))) = true ∧
    ((let dt : Nat := (0 : Nat);
        let s : State := { live with acd.leapPending := true, keep.ro := false, mon.pfw := false };
      let u := State.advance s dt
      decide (u.acd.leapPending = true) && (decide (u.cfg.acd.leapAt.toNat ≤ u.now16 / sec16)
        && (decide (u.keep.ro = false) && (decide (u.mon.pfw = false)))))) = true ∧
    ((let dt : Nat := (0 : Nat); let tap : BitVec 8 := 0; let value : BitVec 48 := 0; let s : State := live;
      let u := State.advance s dt
      decide (u.ready pdTime = true) && (decide ((u.ticks - u.acd.checkFrom) % 1024 = 0)
        && (decide (value = u.timeNow.extractLsb' 16 48))))) = true ∧
    ((let dt : Nat := (0 : Nat); let tap : BitVec 8 := 0; let value : BitVec 48 := 1;
        let s : State := { live with acd.checkFrom := live.ticks - 1024 };
      let u := State.advance s dt
      decide (u.ready pdTime = true) && (decide ((u.ticks - u.acd.checkFrom) % 1024 = 0)
        && (decide (value ≠ u.timeNow.extractLsb' 16 48))))) = true ∧
    ((let dt : Nat := (0 : Nat); let s : State := live;
      let u := State.advance s dt
      let n := (u.ticks - u.acd.lastPub) / 64
      decide (u.sys.inReset = false) && (decide (u.ready pdTime = true) && (decide (n ≠ 0))))) = true ∧
    ((let dt : Nat := (0 : Nat); let s : State := live;
      let u := (State.advance s dt).leapNow
      decide (u.sys.inReset = false) && (decide (u.sys.devState ≠ .boot) && (decide (u.ready pdTime = true)
        && (decide (u.sys.after ≠ 1)))))) = true :=
  by and_intros <;> decide +kernel

/-- States and operands that meet, clause by clause, the hypotheses of FaultEventsRun. -/
theorem test_fault_events_run_met :
    ((let dt : Nat := (0 : Nat); let n : BitVec 8 := 255; let inst : BitVec 16 := 0; let s : State := live;
        decide (BitVec.toNat n ≠ 0) && (decide (n.toNat ≠ 3) && (decide (n.toNat ≠ 8))))) = true ∧
    ((let dt : Nat := (0 : Nat); let n : BitVec 8 := 3; let inst : BitVec 16 := 0; let s : State := live;
        decide (n = 3))) = true ∧
    ((let dt : Nat := (0 : Nat); let n : BitVec 8 := 8; let inst : BitVec 16 := 0; let s : State := live;
        decide (n = 8))) = true ∧
    ((let dt : Nat := (0 : Nat); let s : State := live;
      let u := State.advance s dt
      decide (u.sys.devState ≠ .boot) && (decide (u.flt.selfFail = false)))) = true ∧
    ((let dt : Nat := (0 : Nat); let code : BitVec 8 := 2; let s : State := live;
      let n := BitVec.toNat code
      decide (tapOpen n = true))) = true ∧
    ((let dt : Nat := (0 : Nat); let code : BitVec 8 := 6;
        let s : State := { live with fuse.lcPairA := 7, sys.devState := .safe };
      let u := State.advance s dt
      let n := BitVec.toNat code
      decide (tapOpen n = false) && (decide (tapScan n = true) && (decide (u.scanOk = true))))) = true ∧
    ((let dt : Nat := (0 : Nat); let code : BitVec 8 := 0; let s : State := live;
      let u := State.advance s dt
      let n := BitVec.toNat code
      decide (tapOpen n = false) && (decide (tapScan n = false ∨ u.scanOk = false)))) = true ∧
    ((let dt : Nat := (0 : Nat); let fail : BitVec 6 := 0;
        let s : State := { live with blt.bist := some { mask := 3, quads := 0, outs := 0, start := 0 } };
      let u := State.advance s dt
      Option.any (fun r => decide (r.start + r.begins 6 ≤ u.ticks)) (u.blt.bist))) = true :=
  by and_intros <;> decide +kernel

/-- States and operands that meet, clause by clause, the hypotheses of ReferenceEventsRun. -/
theorem test_reference_events_run_met :
    ((let dt : Nat := (0 : Nat); let slot : BitVec 5 := 11; let phase : Int := 0; let cycles : Nat := 0;
        let s : State := { live with ref.slots := Tab.mod live.ref.slots 11 fun q => { q with qstate := .absent } };
      let u := State.advance s dt
      let n := BitVec.toNat slot
      decide (u.ready pdTime = true) && (decide ((u.slot n).qstate ≠ .disabled)
        && (decide ((n < 12 ∨ n = 18 ∨ n = 19)) && (decide (u.refType n = 0)))))) = true ∧
    ((let dt : Nat := (0 : Nat); let slot : BitVec 5 := 18; let phase : Int := 0; let cycles : Nat := 0;
        let s : State := { live with ref.slots := Tab.mod live.ref.slots 18 fun q => { q with qstate := .absent } };
      let u := State.advance s dt
      let n := BitVec.toNat slot
      decide (u.ready pdTime = true) && (decide ((u.slot n).qstate ≠ .disabled)
        && (decide ((n < 12 ∨ n = 18 ∨ n = 19)) && (decide (u.refType n ≠ 0) && (decide (u.refType n ≠ 3))))))) = true ∧
    ((let dt : Nat := (0 : Nat); let slot : BitVec 4 := 11; let phase : Int := 0; let second : BitVec 48 := 0;
        let s : State := { live with cfg.ref.slots := Tab.mod live.cfg.ref.slots 11 fun c => { c with typ := 3 }, ref.slots := Tab.mod live.ref.slots 11 fun q => { q with qstate := .absent } };
      let u := State.advance s dt
      let n := BitVec.toNat slot
      decide (u.ready pdTime = true) && (decide ((u.slot n).qstate ≠ .disabled) && (decide (n < 12)
        && (decide (u.refType n = 3)))))) = true ∧
    ((let dt : Nat := (0 : Nat); let m : BitVec 4 := 4; let slot : BitVec 5 := 17; let offset : BitVec 64 := 0;
        let eSrc : BitVec 24 := 0; let s : State := { live with pair.linkUp := true };
      let u := State.advance s dt
      let n := slot.toNat
      decide (4 ≤ m.toNat) && (decide (m ≠ 14) && (decide (12 ≤ n) && (decide (n ≤ 17)
        && (decide (u.refExists n = true) && (decide (n = 12 ∨ n = 17)))))))) = true ∧
    ((let dt : Nat := (0 : Nat); let m : BitVec 4 := 4; let slot : BitVec 5 := 13; let offset : BitVec 64 := 0;
        let eSrc : BitVec 24 := 0;
        let s : State := { live with cfg.ref.ptp := Tab.mod live.cfg.ref.ptp 0 fun c => { c with enable := true }, ref.slots := Tab.mod live.ref.slots 13 fun q => { q with estimates := [7] } };
      let u := State.advance s dt
      let n := slot.toNat
      decide (4 ≤ m.toNat) && (decide (m ≠ 14) && (decide (12 ≤ n) && (decide (n ≤ 17)
        && (decide (u.refExists n = true) && (decide (n ≠ 12) && (decide (n ≠ 17)
        && (decide ((u.slot n).estimates ≠ [])))))))))) = true ∧
    ((let dt : Nat := (0 : Nat); let slot : BitVec 5 := 19;
        let s : State := { live with ref.slots := Tab.mod live.ref.slots 19 fun q => { q with qstate := .absent } };
      let u := State.advance s dt
      let n := BitVec.toNat slot
      decide ((u.slot n).qstate ≠ .disabled) && (decide (n < 20) && (decide ((u.slot n).lastEdge = none))))) = true ∧
    ((let dt : Nat := (0 : Nat); let slot : BitVec 5 := 0;
        let s : State := { live with ref.slots := Tab.mod live.ref.slots 0 fun q => { q with qstate := .qualified, lastEdge := some 0 } };
      let u := State.advance s dt
      let n := BitVec.toNat slot
      decide ((u.slot n).qstate ≠ .disabled) && (decide (n < 20) && (let t := (0 : Nat);
        decide ((u.slot n).lastEdge = some t) && (decide (n < 12 ∨ n = 18 ∨ n = 19)
        && (decide (u.refLosAfter n ≤ u.ticks - t))))))) = true ∧
    ((let dt : Nat := (0 : Nat); let slot : BitVec 5 := 0;
        let s : State := { live with ref.slots := Tab.mod live.ref.slots 0 fun q => { q with qstate := .holdoff, timerOn := true, faultSrc := 1 } };
      let u := State.advance s dt
      let n := BitVec.toNat slot
      decide ((u.slot n).qstate = .holdoff) && (decide ((u.slot n).timerOn = true)
        && (decide ((u.slotCfg n).holdoffMs.toNat * msTicks ≤ u.ticks - (u.slot n).timerFrom)
        && (decide ((u.slot n).faultSrc ≠ 0)))))) = true ∧
    ((let dt : Nat := (0 : Nat); let slot : BitVec 5 := 0;
        let s : State := { live with ref.slots := Tab.mod live.ref.slots 0 fun q => { q with qstate := .wait, timerOn := true } };
      let u := State.advance s dt
      let n := BitVec.toNat slot
      let w := if (u.slot n).timerFirst then (u.slotCfg n).firstWaitS else (u.slotCfg n).wtrS
      decide ((u.slot n).qstate = .wait) && (decide ((u.slot n).timerOn = true)
        && (decide (w.toNat * sTicks ≤ u.ticks - (u.slot n).timerFrom) && (decide ((u.slot n).faultSrc = 0)))))) = true ∧
    ((let dt : Nat := (0 : Nat); let s : State := live;
      let u := State.advance s dt
      decide (u.ready pdTime = true) && (decide (u.ref.lastMs ≠ some (u.now16 / ms16))))) = true ∧
    ((let dt := (0 : Nat); let s : State := live;
      let u := State.advance s dt
      let v : State := { u.cellsSnap with ref := { u.cellsSnap.ref with lastMs := some (u.now16 / ms16) } }
      decide (u.ready pdTime = true) && (decide (u.ref.lastMs ≠ some (u.now16 / ms16))
        && (decide (v.ref.switching = false) && (decide (v.ready pdTime = true) && (decide (v.selectedSlot = none)
        && (decide (v.bestSlot = none)))))))) = true ∧
    ((let dt := (0 : Nat);
        let s : State := { warm with cfg := { live.cfg with ref := { live.cfg.ref with slots := Tab.mod live.cfg.ref.slots 1 fun c => { c with typ := 3, priority := 1, mate := 31 } } }, ref := { live.ref with slots := Tab.mod live.ref.slots 1 fun q => { q with qstate := .qualified } } };
      let u := State.advance s dt
      let v : State := { u.cellsSnap with ref := { u.cellsSnap.ref with lastMs := some (u.now16 / ms16) } }
      decide (u.ready pdTime = true) && (decide (u.ref.lastMs ≠ some (u.now16 / ms16))
        && (decide (v.ref.switching = false) && (decide (v.ready pdTime = true) && (decide (v.selectedSlot = none)
        && (Option.any (fun b => decide (v.acd.state ≠ .cold ∨ v.acd.cpllLock = true)) (v.bestSlot)))))))) = true ∧
    ((let dt : Nat := (0 : Nat); let i : BitVec 2 := 3;
        let s : State := { live with ref.slots := Tab.mod live.ref.slots 16 fun q => { q with masterPresent := true } };
      let u := State.advance s dt
      let n := 13 + i.toNat
      let q := u.slot n
      decide (q.masterPresent = true)
        && (decide (q.annTick + (u.ptpCfg i.toNat).announceTimeout.toNat * logTicks q.annLog ≤ u.ticks)))) = true ∧
    ((let dt : Nat := (0 : Nat); let k : BitVec 2 := 3; let auth : Bool := false;
        let msg : SlaveMsg := .announce 6 7 1;
        let s : State := { port3 2 with cfg.ref.ptp := Tab.mod live.cfg.ref.ptp 3 fun c => { c with enable := true, lane := 3 } };
      let u := State.advance s dt
      let c := u.ptpCfg k.toNat
      let port := Tab.get u.cfg.svc.ports c.lane.toNat PortCfg.reset
      let x := Tab.get u.cfg.svc.spp port.slaveSpp.toNat SppCfg.reset
      decide (c.enable = true) && (decide (u.laneActive c.lane.toNat = true) && (decide (u.ready pdEngine = true)
        && (decide ((x.aId = 0 ∧ x.bId = 0) ∨ auth = true) && (let cl := (6 : BitVec 8); let id := (7 : BitVec 64);
        let log := (1 : BitVec 8); decide (msg = .announce cl id log))))))) = true ∧
    ((let dt : Nat := (0 : Nat); let k : BitVec 2 := 3; let auth : Bool := false;
        let msg : SlaveMsg := .sync 5 true 3;
        let s : State := { port3 2 with cfg.ref.ptp := Tab.mod live.cfg.ref.ptp 3 fun c => { c with enable := true, lane := 3 }, ref.slots := Tab.mod live.ref.slots 16 fun q => { q with masterPresent := true } };
      let u := State.advance s dt
      let n := 13 + BitVec.toNat k
      let c := u.ptpCfg k.toNat
      let port := Tab.get u.cfg.svc.ports c.lane.toNat PortCfg.reset
      let x := Tab.get u.cfg.svc.spp port.slaveSpp.toNat SppCfg.reset
      decide (c.enable = true) && (decide (u.laneActive c.lane.toNat = true) && (decide (u.ready pdEngine = true)
        && (decide ((x.aId = 0 ∧ x.bId = 0) ∨ auth = true) && (decide ((u.slot n).masterPresent = true)
        && (let t := (5 : Tai); let two := true; let ph := (3 : Nat); decide (msg = .sync t two ph)))))))) = true ∧
    ((let dt : Nat := (0 : Nat); let k : BitVec 2 := 3; let auth : Bool := false; let msg : SlaveMsg := .followUp 5;
        let s : State := { port3 2 with cfg.ref.ptp := Tab.mod live.cfg.ref.ptp 3 fun c => { c with enable := true, lane := 3 }, ref.slots := Tab.mod live.ref.slots 16 fun q => { q with masterPresent := true } };
      let u := State.advance s dt
      let n := 13 + BitVec.toNat k
      let c := u.ptpCfg k.toNat
      let port := Tab.get u.cfg.svc.ports c.lane.toNat PortCfg.reset
      let x := Tab.get u.cfg.svc.spp port.slaveSpp.toNat SppCfg.reset
      decide (c.enable = true) && (decide (u.laneActive c.lane.toNat = true) && (decide (u.ready pdEngine = true)
        && (decide ((x.aId = 0 ∧ x.bId = 0) ∨ auth = true) && (decide ((u.slot n).masterPresent = true)
        && (let t := (5 : Tai); decide (msg = .followUp t)))))))) = true ∧
    ((let dt : Nat := (0 : Nat); let k : BitVec 2 := 3; let auth : Bool := false;
        let msg : SlaveMsg := .delayResp 5 6;
        let s : State := { port3 2 with cfg.ref.ptp := Tab.mod live.cfg.ref.ptp 3 fun c => { c with enable := true, lane := 3 }, ref.slots := Tab.mod live.ref.slots 16 fun q => { q with masterPresent := true } };
      let u := State.advance s dt
      let n := 13 + BitVec.toNat k
      let c := u.ptpCfg k.toNat
      let port := Tab.get u.cfg.svc.ports c.lane.toNat PortCfg.reset
      let x := Tab.get u.cfg.svc.spp port.slaveSpp.toNat SppCfg.reset
      decide (c.enable = true) && (decide (u.laneActive c.lane.toNat = true) && (decide (u.ready pdEngine = true)
        && (decide ((x.aId = 0 ∧ x.bId = 0) ∨ auth = true) && (decide ((u.slot n).masterPresent = true)
        && (let a := (5 : Tai); let b := (6 : Tai); decide (msg = .delayResp a b)))))))) = true :=
  by and_intros <;> decide +kernel

/-- States and operands that meet, clause by clause, the hypotheses of GnssEventsRun. -/
theorem test_gnss_events_run_met :
    ((let dt : Nat := (0 : Nat); let edge : Nat := 0; let peaks : List AcqPeak := [];
        let s : State := { live with gns.clkPresent := true, gns.acq := some { AcqRun.reset with passes := 1 } };
      let u := State.advance s dt
      decide (u.ready pdGnss = true) && (decide (u.gns.acqQ = []) && (Option.any (fun a => decide (a.paused = false)
        && (decide (a.snapshot = true ∨ u.gnsClk = true) && (decide (a.passes ≤ a.pass + 1)))) (u.gns.acq))))) = true ∧
    ((let dt : Nat := (0 : Nat); let edge : Nat := 0; let peaks : List AcqPeak := [];
        let s : State := { live with gns.clkPresent := true, gns.acq := some { AcqRun.reset with passes := 2 } };
      let u := State.advance s dt
      decide (u.ready pdGnss = true) && (decide (u.gns.acqQ = []) && (Option.any (fun a => decide (a.paused = false)
        && (decide (a.snapshot = true ∨ u.gnsClk = true) && (decide (a.pass + 1 < a.passes)))) (u.gns.acq))))) = true ∧
    ((let dt : Nat := (0 : Nat); let k : BitVec 5 := 31; let n : Nat := 0;
        let s : State := { live with gns.clkPresent := true, gns.trk := Tab.mod live.gns.trk 31 fun t => { t with assigned := true } };
      let u := (State.advance s dt).samples n
      let t := u.trk (BitVec.toNat k)
      decide (u.gnsClk = true) && (decide (t.assigned = true) && (decide (t.running = false)
        && (decide (t.lostClk = false)))))) = true ∧
    ((let dt : Nat := (0 : Nat); let k : BitVec 5 := 31; let m : Nat := 0; let accum : List (BitVec 24) := [];
        let s : State := { live with gns.clkPresent := true, gns.trk := Tab.mod live.gns.trk 31 fun t => { t with assigned := true, running := true, dumpEpochs := 20 } };
      let u := (State.advance s dt).samples m
      let n := BitVec.toNat k
      let t := u.trk n
      decide (u.gnsClk = true) && (decide (t.assigned = true) && (decide (t.running = true)
        && (decide (t.dumpDue = true) && (decide (t.dumps.length < 16))))))) = true ∧
    ((let dt : Nat := (0 : Nat); let k : BitVec 5 := 31; let m : Nat := 0; let accum : List (BitVec 24) := [];
        let s : State := { live with gns.clkPresent := true, gns.trk := Tab.mod live.gns.trk 31 fun t => { t with assigned := true, running := true, dumpEpochs := 20, dumps := List.replicate 16 [] } };
      let u := (State.advance s dt).samples m
      let n := BitVec.toNat k
      let t := u.trk n
      decide (u.gnsClk = true) && (decide (t.assigned = true) && (decide (t.running = true)
        && (decide (t.dumpDue = true) && (decide (16 ≤ t.dumps.length))))))) = true ∧
    ((let dt : Nat := (0 : Nat); let m : BitVec 4 := 4; let k : BitVec 5 := 0; let carrier : Bool := false;
        let value : BitVec 48 := 0; let n : Nat := 0; let s : State := { live with cfg.gns.engine := 0 };
      let u := (State.advance s dt).samples n
      decide (u.gnsEngine m = true) && (decide (u.ready pdGnss = true)))) = true ∧
    ((let dt : Nat := (0 : Nat); let m : BitVec 4 := 4; let k : BitVec 5 := 0; let codeLock : Bool := false;
        let carrLock : Bool := false; let bitSync : Bool := false; let cn0 : BitVec 16 := 0;
        let slip : Option (BitVec 16) := none; let s : State := { live with cfg.gns.engine := 0 };
      let u := State.advance s dt
      decide (u.gnsEngine m = true) && (decide (u.ready pdGnss = true)))) = true ∧
    ((let dt : Nat := (0 : Nat); let m : BitVec 4 := 4; let k : BitVec 5 := 0; let word : W32 := 0;
        let ago : Nat := 0; let s : State := { live with cfg.gns.engine := 0 };
      let u := State.advance s dt
      decide (u.gnsEngine m = true) && (decide (u.ready pdGnss = true)))) = true ∧
    ((let dt : Nat := (0 : Nat); let m : BitVec 4 := 4; let valid : Bool := false; let nsv : BitVec 6 := 0;
        let snap : Bool := false; let offset : BitVec 64 := 0; let unc : BitVec 24 := 0;
        let s : State := { live with cfg.gns.engine := 0 };
      let u := State.advance s dt
      decide (u.gnsEngine m = true) && (decide (u.ready pdGnss = true)))) = true ∧
    ((let dt : Nat := (0 : Nat); let s : State := live;
      let u := State.advance s dt
      decide (u.ready pdGnss = true) && (decide (u.gns.solLate = false)
        && (decide (u.gns.solTick + 3 * sTicks / 2 ≤ u.ticks))))) = true ∧
    ((let dt : Nat := (0 : Nat); let n : Nat := 0; let s : State := { live with gns.clkPresent := true };
      let u := (State.advance s dt).samples n
      decide (u.ready pdGnss = true) && (decide (u.gns.clkPresent = true)))) = true ∧
    ((let dt : Nat := (0 : Nat); let s : State := live;
      let u := State.advance s dt
      decide (u.ready pdGnss = true))) = true ∧
    ((let dt : Nat := (0 : Nat); let edges : Nat := 0; let s : State := { live with gns.clkPresent := true };
      let u := State.advance s dt
      decide (u.gnsClk = true) && (decide (u.gns.clkSecond ≠ some (u.now16 / sec16))))) = true ∧
    ((let dt : Nat := (0 : Nat); let tones : List (Nat × Nat) := [];
        let s : State := { live with gns.clkPresent := true };
      let u := State.advance s dt
      decide (u.gnsClk = true))) = true ∧
    ((let dt : Nat := (0 : Nat); let n : BitVec 2 := 0; let s : State := live;
      let u := State.advance s dt
      decide (u.ready pdGnss = true) && (decide (u.notchMode (BitVec.toNat n) = 2)
        && (decide (Tab.get u.gns.notchSeen n.toNat 0 + sTicks ≤ u.ticks))))) = true ∧
    ((let dt : Nat := (0 : Nat); let pre : BitVec 16 := 0; let post : BitVec 16 := 0; let s : State := live;
      let u := State.advance s dt
      decide (u.ready pdGnss = true))) = true ∧
    ((let dt : Nat := (0 : Nat); let n : Nat := 0; let edge : Nat := 0;
        let s : State := { live with gns.clkPresent := true, cfg.gns.latchHz := 1 };
      let u := State.advance s dt
      let t := u.gnsStampAgo edge
      decide (u.ready pdGnss = true) && (let i := (0 : Nat); decide (u.latchInst (taiNat t.time) = some i)
        && (decide (u.gns.lastLatch.all (fun l => decide (l < i)) = true) && (decide (u.gnsClk = true)))))) = true ∧
    ((let dt : Nat := (0 : Nat); let n : Nat := 0; let edge : Nat := 0;
        let s : State := { live with gns.clkPresent := false, cfg.gns.latchHz := 1 };
      let u := State.advance s dt
      let t := u.gnsStampAgo edge
      decide (u.ready pdGnss = true) && (let i := (0 : Nat); decide (u.latchInst (taiNat t.time) = some i)
        && (decide (u.gns.lastLatch.all (fun l => decide (l < i)) = true) && (decide (u.gnsClk = false)))))) = true ∧
    ((let dt : Nat := (0 : Nat); let edge : Nat := 0;
        let s : State := { live with gns.clkPresent := true, gns.snapArmed := true, gns.snapExport := 1 };
      let u := State.advance s dt
      let g := u.gns
      let t := u.gnsStampAgo edge
      decide (u.ready pdGnss = true) && (decide (g.clkPresent = true) && (decide (g.snapArmed = true)
        && (decide (g.snapBusy = false) && (decide (taiNat g.snapAt ≤ taiNat t.time)
        && (decide (0 < g.snapExport)))))))) = true ∧
    ((let dt : Nat := (0 : Nat); let edge : Nat := 0;
        let s : State := { live with gns.clkPresent := true, gns.snapArmed := true };
      let u := State.advance s dt
      let g := u.gns
      let t := u.gnsStampAgo edge
      decide (u.ready pdGnss = true) && (decide (g.clkPresent = true) && (decide (g.snapArmed = true)
        && (decide (g.snapBusy = false) && (decide (taiNat g.snapAt ≤ taiNat t.time)
        && (decide (g.snapExport = 0)))))))) = true ∧
    ((let dt : Nat := (0 : Nat); let samples : List (BitVec 8) := [];
        let s : State := { live with gns.snapBusy := true };
      let u := State.advance s dt
      let g := u.gns
      let n := List.length samples
      decide (u.ready pdGnss = true) && (decide (g.snapBusy = true) && (decide (n = u.snapLen))))) = true ∧
    ((let dt : Nat := (0 : Nat); let s : State := { live with gns.snapArmed := true, cfg.gns.portGate := true };
      let u := State.advance s dt
      let g := u.gns
      decide (u.ready pdGnss = true) && (decide (u.cfg.gns.portGate = true) && (decide (g.snapArmed = true)
        && (decide (taiNat g.snapAt ≤ u.now16 + u.cfg.gns.feLeadMs.toNat * ms16)))))) = true :=
  by and_intros <;> decide +kernel

/-- States and operands that meet, clause by clause, the hypotheses of TicEventsRun. -/
theorem test_tic_events_run_met :
    ((let dt : Nat := (0 : Nat); let ch : BitVec 5 := 0; let falling : Bool := false; let fine : BitVec 12 := 0;
        let badCode : Bool := false; let other : Int := 0;
        let s : State := { live with cfg.tic.ch := Tab.mod live.cfg.tic.ch 0 fun c => { c with mode := 3 }, tic.convs := Tab.mod live.tic.convs 0 fun c => { c with failed := true } };
      let u := State.advance s dt
      let n := BitVec.toNat ch
      decide (u.ticWants n falling = true) && (decide (u.ticTakes n falling = false)))) = true ∧
    ((let dt : Nat := (0 : Nat); let ch : BitVec 5 := 31; let falling : Bool := false; let fine : BitVec 12 := 0;
        let badCode : Bool := false; let other : Int := 0;
        let s : State := { live with cfg.tic.ch := Tab.mod live.cfg.tic.ch 31 fun g => { g with mode := 3 }, tic.ch := Tab.mod live.tic.ch 31 fun c => { c with lastStamp := some (10 ^ 30) } };
      let u := State.advance s dt
      let n := BitVec.toNat ch
      decide (u.ticWants n falling = true) && (decide (u.ticTakes n falling = true)
        && (decide (u.ticDead n (BitVec.toNat fine) = true))))) = true ∧
    ((let dt : Nat := (0 : Nat); let ch : BitVec 5 := 31; let falling : Bool := false; let fine : BitVec 12 := 0;
        let badCode : Bool := false; let other : Int := 0;
        let s : State := { live with cfg.tic.ch := Tab.mod live.cfg.tic.ch 31 fun g => { g with mode := 3 } };
      let u := State.advance s dt
      let n := BitVec.toNat ch
      decide (u.ticWants n falling = true) && (decide (u.ticTakes n falling = true)
        && (decide (u.ticDead n (BitVec.toNat fine) = false))))) = true ∧
    ((let dt : Nat := (0 : Nat); let ch : BitVec 5 := 31;
        let s : State := { live with cfg.tic.ch := Tab.mod live.cfg.tic.ch 31 fun g => { g with mode := 3 }, tic.ch := Tab.mod live.tic.ch 31 fun c => { c with present := true, lastTick := some 0 } };
      let u := State.advance s dt
      let n := ch.toNat
      decide (u.ticAbsent n = true))) = true ∧
    ((let dt : Nat := (0 : Nat); let ch : BitVec 5 := 31;
        let s : State := { live with tic.ch := Tab.mod live.tic.ch 31 fun c => { c with arm := some { stop := 0, startFall := false, stopFall := false, armTick := 0, timeoutUs := 1, start := none, stopE := none, dtMiss := false } } };
      let u := State.advance s dt
      decide (u.ivLate ch.toNat = true))) = true ∧
    ((let dt : Nat := (0 : Nat);
        let s : State := { live with ticks := 2 ^ 41, tic.zeroTick := 0, cfg.tic.ch := Tab.mod live.cfg.tic.ch 31 fun g => { g with mode := 2 } };
      let u := State.advance s dt
      decide (u.ready pdTic = true) && (decide (u.coarse = 0) && (decide (u.tic.zeroTick < u.ticks)
        && (decide (((List.range 32).any fun n => (u.tchCfg n).mode == 2) = true)))))) = true ∧
    ((let dt : Nat := (0 : Nat); let s : State := { live with ticks := 2 ^ 41, tic.zeroTick := 0 };
      let u := State.advance s dt
      decide (u.ready pdTic = true) && (decide (u.coarse = 0) && (decide (u.tic.zeroTick < u.ticks)
        && (decide (((List.range 32).all fun n => (u.tchCfg n).mode != 2) = true)))))) = true ∧
    ((let dt : Nat := (0 : Nat); let c : BitVec 6 := 0; let s : State := live;
      let u := State.advance s dt
      let k := BitVec.toNat c
      let v := u.tconv k
      decide (u.ready pdTic = true) && (decide (k < 36) && (decide (u.tic.readyTick + 500 * msTicks ≤ u.ticks)
        && (decide (v.warm = false) && (decide (v.failed = false) && (decide (v.warmWait = false)))))))) = true ∧
    ((let dt : Nat := (0 : Nat); let c : BitVec 6 := 35; let unc : BitVec 16 := 0; let ss : BitVec 16 := 0;
        let gain : BitVec 16 := 0; let seg : BitVec 16 := 0; let pts : List (BitVec 16) := [];
        let s : State := { live with tic.convs := Tab.mod live.tic.convs 35 fun v => { v with calRun := true } };
      let u := State.advance s dt
      let n := BitVec.toNat c
      decide (u.calEnds n = true))) = true ∧
    ((let dt : Nat := (0 : Nat); let c : BitVec 6 := 35;
        let s : State := { live with cfg.tic.autoRecal := true, cfg.tic.recalS := 1, tic.convs := Tab.mod live.tic.convs 35 fun v => { v with warm := true } };
      let u := State.advance s dt
      let n := c.toNat
      decide (u.recalWanted n = true))) = true ∧
    ((let dt : Nat := (0 : Nat); let sp : BitVec 2 := 3;
        let s : State := { live with tic.spares := Tab.mod live.tic.spares 3 fun p => { p with swapOn := true } };
      let u := State.advance s dt
      let i := sp.toNat
      decide (u.overlapOver i = true))) = true ∧
    ((let dt : Nat := (0 : Nat); let s : State := live;
      let u := State.advance s dt
      decide (u.ready pdTic = true))) = true :=
  by and_intros <;> decide +kernel

/-- States and operands that meet, clause by clause, the hypotheses of OutputEventsRun. -/
theorem test_output_events_run_met :
    ((let dt : Nat := (0 : Nat); let k : BitVec 2 := 3;
        let s : State := { live with cfg.out.syn := Tab.mod live.cfg.out.syn 3 fun c => { c with on := true } };
      let u := State.advance s dt
      let n := k.toNat
      decide (u.ready pdTime = true) && (decide ((u.synCfg n).on = true) && (decide ((u.syn n).lock = false))))) = true ∧
    ((let dt : Nat := (0 : Nat); let k : BitVec 2 := 3;
        let s : State := { live with out.syn := Tab.mod live.out.syn 3 fun c => { c with lock := true } };
      let u := State.advance s dt
      decide (u.ready pdTime = true) && (decide ((u.syn k.toNat).lock = true)))) = true ∧
    ((let dt : Nat := (0 : Nat); let n : BitVec 4 := 15;
        let s : State := { live with cfg.out.ch := Tab.mod live.cfg.out.ch 15 fun c => { c with enable := true, synSel := 3, sqMask := 0 }, out.syn := Tab.mod live.out.syn 3 fun c => { c with lock := true } };
      let u := State.advance s dt
      let i := BitVec.toNat n
      decide (u.canStart i = true) && (decide (u.sqHit (u.ochCfg i).sqMask = false)))) = true ∧
    ((let dt : Nat := (0 : Nat); let n : BitVec 4 := 15;
        let s : State := { live with cfg.out.ch := Tab.mod live.cfg.out.ch 15 fun c => { c with enable := true, synSel := 3, sqMask := 1 }, out.syn := Tab.mod live.out.syn 3 fun c => { c with lock := true } };
      let u := State.advance s dt
      let i := BitVec.toNat n
      decide (u.canStart i = true) && (decide (u.sqHit (u.ochCfg i).sqMask = true)
        && (decide ((u.och i).sqAuto = false))))) = true ∧
    ((let dt : Nat := (0 : Nat); let n : BitVec 4 := 15; let errPs : Int := 20;
        let s : State := { live with cfg.out.ch := Tab.mod live.cfg.out.ch 15 fun c => { c with sync := false }, out.ch := Tab.mod live.out.ch 15 fun c => { c with running := true } };
      let u := State.advance s dt
      let i := BitVec.toNat n
      let o := u.och i
      decide (u.ready pdTime = true) && (decide (o.running = true) && (decide ((u.ochCfg i).sync = false)
        && (decide (o.bypassAct = false) && (decide (u.gridTick 0 1 = true))))))) = true ∧
    ((let dt : Nat := (0 : Nat); let n : BitVec 4 := 15;
        let s : State := { live with out.ch := Tab.mod live.out.ch 15 fun c => { c with gliding := true } };
      let u := State.advance s dt
      let i := n.toNat
      decide ((u.och i).gliding = true) && (decide (u.perrNow i = 0)))) = true ∧
    ((let dt : Nat := (0 : Nat); let n : BitVec 4 := 15;
        let s : State := { live with cfg.out.ch := Tab.mod live.cfg.out.ch 15 fun c => { c with sync := false }, out.ch := Tab.mod live.out.ch 15 fun c => { c with running := true } };
      let u := State.advance s dt
      decide (u.alignLate n.toNat = true))) = true ∧
    ((let dt : Nat := (0 : Nat); let s : State := live;
      let u := State.advance s dt
      decide (u.ready pdTime = true))) = true ∧
    ((let dt : Nat := (0 : Nat); let m : BitVec 2 := 3;
        let s : State := { live with out.tp := Tab.mod live.out.tp 3 fun t => { t with running := true } };
      let u := State.advance s dt
      let i := BitVec.toNat m
      let t := u.otp i
      let d := ps16 (u.otpCfg i).delayPs.toInt
      let inst := u.tpInst i ((u.now16 : Int) + d).toNat
      decide (t.running = true) && (decide (t.fresh inst = true)
        && (decide (t.lowUntilS = false ∨ inst % sec16 = 0))))) = true ∧
    ((let dt : Nat := (0 : Nat); let m : BitVec 2 := 3;
        let s : State := { live with out.tp := Tab.mod live.out.tp 3 fun t => { t with high := true } };
      let u := State.advance s dt
      let t := u.otp m.toNat
      let w := ceilDiv ((u.otpCfg m.toNat).widthNs.toNat * 5) 4
      decide (t.high = true) && (decide (t.highFrom + w ≤ u.ticks)))) = true ∧
    ((let dt : Nat := (0 : Nat); let k : BitVec 1 := 1;
        let s : State := { live with out.tod := Tab.mod live.out.tod 1 fun t => { t with running := true } };
      let u := State.advance s dt
      let i := BitVec.toNat k
      let t := u.otod i
      let sec := ((u.now16 : Int) + ps16 (u.otodCfg i).delayPs.toInt).toNat / sec16
      decide (t.running = true) && (decide (t.lastSec.all (fun l => decide (l < sec)) = true)))) = true ∧
    ((let dt : Nat := (0 : Nat); let good : BitVec 16 := 0; let meanFs : Nat := 0; let sigma : BitVec 16 := 0;
        let s : State := { live with out.echo := some EchoRun.reset };
      let u := State.advance s dt
      Option.any (fun r => true) (u.out.echo))) = true :=
  by and_intros <;> decide +kernel

/-- States and operands that meet, clause by clause, the hypotheses of PortEventsRun. -/
theorem test_port_events_run_met :
    ((let dt : Nat := (0 : Nat); let lane : BitVec 4 := 15; let desc : List W32 := [];
        let frame : List (BitVec 8) := [];
        let s : State := { live with cmd.rings := Tab.mod live.cmd.rings 51 fun r => { r with prod := 1 } };
      let u := State.advance s dt
      let l := BitVec.toNat lane
      let r := u.ring (36 + l)
      let d := txDesc desc
      let c := u.laneCfg l
      decide (u.laneUsable l = true) && (decide (u.ready pdPcie = true) && (decide (r.enable = true)
        && (decide (r.fetch ≠ r.prod) && (decide (d.refused c frame ≠ 0))))))) = true ∧
    ((let dt : Nat := (0 : Nat); let lane : BitVec 4 := 3; let desc : List W32 := [0, 0, 64];
        let frame : List (BitVec 8) := List.replicate 64 0;
        let s : State := { port3 2 with cmd.rings := Tab.mod live.cmd.rings 39 fun r => { r with prod := 1 } };
      let u := State.advance s dt
      let l := BitVec.toNat lane
      let r := u.ring (36 + l)
      let d := txDesc desc
      let c := u.laneCfg l
      decide (u.laneUsable l = true) && (decide (u.ready pdPcie = true) && (decide (r.enable = true)
        && (decide (r.fetch ≠ r.prod) && (decide (d.refused c frame = 0) && (decide (c.enable = true)
        && (decide (u.qFull (8 * l + d.cls) = false))))))))) = true ∧
    ((let dt : Nat := (0 : Nat); let lane : BitVec 4 := 3; let phase : Nat := 0;
        let f : RxFrame := { bytes := List.replicate 64 0 }; let s : State := port3 1;
      let u := State.advance s dt
      let l := BitVec.toNat lane
      decide (u.laneActive l = true) && (decide ((u.lane l).linkUp = true) && (decide (1 ≤ rxLength f)
        && (decide ((u.laneCfg l).laneMode = 1)))))) = true ∧
    ((let dt : Nat := (0 : Nat); let lane : BitVec 4 := 3; let phase : Nat := 0;
        let f : RxFrame := { bytes := List.replicate 64 0 }; let s : State := port3 2;
      let u := State.advance s dt
      let l := BitVec.toNat lane
      decide (u.laneActive l = true) && (decide ((u.lane l).linkUp = true) && (decide (1 ≤ rxLength f)
        && (decide ((u.laneCfg l).laneMode ≠ 1)))))) = true ∧
    ((let dt : Nat := (0 : Nat); let lane : BitVec 4 := 3; let phase : Nat := 0;
        let s : State := { served with tmg.lanes := Tab.mod live.tmg.lanes 3 fun t => { t with bookings := [{ slot := 0, wire := 64, id := 0 }] }, tmg.q := Tab.mod live.tmg.q 31 fun q => { q with frames := [TxFrame.reset] } };
      let u := State.advance s dt
      let l := BitVec.toNat lane
      let t0 := u.now16 + phase
      decide (u.laneActive l = true) && (decide ((u.lane l).linkUp = true) && (decide (u.frameEdge l t0 = true)
        && (decide ((u.laneCfg l).laneMode ≠ 1) && (let f := TxFrame.reset;
        let b := { slot := 0, wire := 64, id := 0 }; decide (u.commitDue l = some (f, b)))))))) = true ∧
    ((let dt : Nat := (0 : Nat); let lane : BitVec 4 := 3; let phase : Nat := 0;
        let s : State := { served with tmg.q := Tab.mod live.tmg.q 30 fun q => { q with frames := [{ TxFrame.reset with wire := 64 }] } };
      let u := State.advance s dt
      let l := BitVec.toNat lane
      let t0 := u.now16 + phase
      decide (u.laneActive l = true) && (decide ((u.lane l).linkUp = true) && (decide (u.frameEdge l t0 = true)
        && (decide ((u.laneCfg l).laneMode ≠ 1) && (decide (u.commitDue l = none) && (let c := (6 : Nat);
        let f := { TxFrame.reset with wire := 64 }; decide (c < 7)
        && (decide (((List.range 7).all fun k => !decide (c < k) || (u.headMay l k t0).isNone) = true)
        && (decide (u.headMay l c t0 = some f)))))))))) = true ∧
    ((let dt : Nat := (0 : Nat); let lane : BitVec 4 := 3;
        let s : State := { served with tmg.lanes := Tab.mod live.tmg.lanes 3 fun t => { t with wireFrame := some TxFrame.reset } };
      let u := State.advance s dt
      let l := BitVec.toNat lane
      let f := TxFrame.reset; decide ((u.tlane l).wireFrame = some f) && (decide (f.commit = none)
        && (decide (u.laneLive l = true) && (decide ((u.tlane l).wireEnd ≤ u.ticks)))))) = true ∧
    ((let dt : Nat := (0 : Nat); let lane : BitVec 4 := 3; let ps : BitVec 16 := 0;
        let s : State := { port3 2 with eth.lanes := live.eth.lanes };
      let u := State.advance s dt
      let l := BitVec.toNat lane
      decide (u.laneActive l = true) && (decide ((u.lane l).linkUp = false)))) = true ∧
    ((let dt : Nat := (0 : Nat); let lane : BitVec 4 := 3; let s : State := port3 2;
      let u := State.advance s dt
      let l := BitVec.toNat lane
      decide ((u.lane l).linkUp = true))) = true ∧
    ((let dt : Nat := (0 : Nat); let q : BitVec 2 := 3; let s : State := { live with eth.relock := 8 };
      let u := State.advance s dt
      let n := BitVec.toNat q
      decide (has u.eth.relock n = true) && (decide (u.ready (pdQ n) = true)))) = true ∧
    ((let dt : Nat := (0 : Nat); let lane : BitVec 4 := 3; let s : State := port3 1;
      let u := State.advance s dt
      let l := BitVec.toNat lane
      decide (u.capRuns l = true) && (decide (u.capMsDue l = true)))) = true ∧
    ((let dt : Nat := (0 : Nat); let lane : BitVec 4 := 3;
        let s : State := { port3 1 with eth.lanes := Tab.mod (port3 1).eth.lanes 3 fun x => { x with ivOpen := true, ivTick := 0, ivLastMs := some 0 } };
      let u := State.advance s dt
      let l := BitVec.toNat lane
      decide (u.capRuns l = true) && (decide (u.capMsDue l = false) && (decide (u.capLate l = true))))) = true ∧
    ((let dt : Nat := (0 : Nat); let lane : BitVec 4 := 3;
        let s : State := { port3 1 with eth.lanes := Tab.mod (port3 1).eth.lanes 3 fun x => { x with closed := [ClosedIv.reset] } };
      let u := State.advance s dt
      let l := BitVec.toNat lane
      let c := ClosedIv.reset; let t := ([] : List ClosedIv); decide ((u.lane l).closed = c :: t)
        && (decide (u.laneLive l = true)))) = true ∧
    ((let dt : Nat := (0 : Nat); let lane : BitVec 4 := 3;
        let s : State := { port3 1 with eth.lanes := Tab.mod (port3 1).eth.lanes 3 fun x => { x with supers := [SuperRoot.reset] } };
      let u := State.advance s dt
      let l := lane.toNat
      decide (u.superDue l = true) && (decide (u.laneLive l = true)))) = true ∧
    ((let dt : Nat := (0 : Nat); let lane : BitVec 4 := 3;
        let s : State := { port3 1 with eth.lanes := Tab.mod (port3 1).eth.lanes 3 fun x => { x with lossCount := 1 }, cfg.eth.lane := Tab.mod (port3 1).cfg.eth.lane 3 fun c => { c with stageRec := 512 } };
      let u := State.advance s dt
      let l := BitVec.toNat lane
      decide (u.capRuns l = true) && (decide (0 < (u.lane l).lossCount) && (decide (0 < u.stageFree l))))) = true ∧
    ((let dt : Nat := (0 : Nat); let lane : BitVec 4 := 3;
        let s : State := { port3 1 with eth.lanes := Tab.mod (port3 1).eth.lanes 3 fun x => { x with capSusp := true, suspCount := 1, suspCause := 3 }, cfg.eth.lane := Tab.mod (port3 1).cfg.eth.lane 3 fun c => { c with stageRec := 512 } };
      let u := State.advance s dt
      let l := BitVec.toNat lane
      let x := u.lane l
      decide (u.capMayResume l = true) && (decide (x.suspCount ≠ 0)))) = true :=
  by and_intros <;> decide +kernel

/-- States and operands that meet, clause by clause, the hypotheses of SchedulingEventsRun. -/
theorem test_scheduling_events_run_met :
    ((let dt : Nat := (0 : Nat); let lane : BitVec 4 := 0; let s : State := live;
      let u := State.advance s dt
      decide (u.laneReady lane.toNat = true))) = true ∧
    ((let dt : Nat := (0 : Nat); let lane : BitVec 4 := 3;
        let s : State := { live with tmg.lanes := Tab.mod live.tmg.lanes 3 fun t => { t with swapPend := true } };
      let u := State.advance s dt
      let t := u.tlane (BitVec.toNat lane)
      decide (t.swapPend = true) && (decide (taiNat t.swapAt ≤ u.now16) && (decide (u.laneReady lane.toNat = true))))) = true ∧
    ((let dt : Nat := (0 : Nat); let s : State := live;
      let u := State.advance s dt
      decide (u.ticks % 80 = 0))) = true ∧
    ((let dt : Nat := (0 : Nat); let s : State := live;
      let u := State.advance s dt
      decide (u.ready pdEngine = true) && (decide (u.ticks % 80 = 0)))) = true ∧
    ((let dt : Nat := (0 : Nat); let s : State := live;
      let u := State.advance s dt
      decide (u.cfg.tmg.sampleEn = true) && (decide (u.ready pdEngine = true) && (decide (u.sampleDue = true))))) = true ∧
    ((let dt : Nat := (0 : Nat); let lane : BitVec 4 := 0; let s : State := live;
      let u := State.advance s dt
      let l := BitVec.toNat lane
      decide (u.laneReady l = true))) = true ∧
    ((let dt : Nat := (0 : Nat); let lane : BitVec 4 := 3; let ps : Int := 0;
        let s : State := { live with tmg.lanes := Tab.mod live.tmg.lanes 3 fun t => { t with wireFrame := some { TxFrame.reset with commit := some 5 } } };
      let u := State.advance s dt
      let l := BitVec.toNat lane
      let f := { TxFrame.reset with commit := some 5 }; let at_ := (5 : Nat); decide ((u.tlane l).wireFrame = some f)
        && (decide (f.commit = some at_) && (decide (u.laneLive l = true))))) = true :=
  by and_intros <;> decide +kernel

/-- States and operands that meet, clause by clause, the hypotheses of ServiceEventsRun. -/
theorem test_service_events_run_met :
    ((let dt : Nat := (0 : Nat); let lane : BitVec 4 := 3; let phase : Nat := 0;
        let r : SvcReq := { msg := [1, 2, 0, 44] ++ List.replicate 40 0 };
        let s : State := { served with svc.clients := [client 3 false 65535] };
      let u := State.advance s dt
      let l := BitVec.toNat lane
      decide (u.svcHears l = true) && (decide ((u.ptpIntake l r).2 = true) && (decide (r.ptpType = 1) && (
      let a := (u.ptpIntake l r).1
      decide ((u.portCfg l).profile ≠ 2 ∨ a.holdsGrant l r.addr 2 = true)
        && ((match a.noteClient l (u.ptpKind l) r r.spp.toNat with
        | (some c, b) => decide (c.grant = true ∨ (b.takeToken c).1 = true)
        | _ => false))))))) = true ∧
    ((let dt : Nat := (0 : Nat); let lane : BitVec 4 := 3;
        let r : SvcReq := { msg := [12, 2, 0, 54] ++ List.replicate 40 0 ++ [0, 4, 0, 6, 0xB0, 1, 0, 0, 1, 44] };
        let s : State := { served with svc.clients := [{ client 4 true 0 with grantTypes := 7 }], cfg.svc.ports := Tab.mod live.cfg.svc.ports 3 fun c => { c with enable := true, profile := 2, transport := 1 } };
      let u := State.advance s dt
      let l := BitVec.toNat lane
      decide (u.svcHears l = true) && (decide ((u.ptpIntake l r).2 = true) && (decide ((u.portCfg l).profile = 2)
        && (decide (r.ptpType = 12) && (decide (r.requests ≠ [])
        && ((match (u.ptpIntake l r).1.noteClient l (u.ptpKind l) r r.spp.toNat with
        | (some c, b) => decide (c.grant = true)
        | _ => false)))))))) = true ∧
    ((let dt : Nat := (0 : Nat); let lane : BitVec 4 := 3;
        let r : SvcReq := { msg := [12, 2, 0, 54] ++ List.replicate 40 0 ++ [0, 4, 0, 6, 0xB0, 1, 0, 0, 1, 44] };
        let s : State := { served with svc.clients := [client 4 false 65535], cfg.svc.ports := Tab.mod live.cfg.svc.ports 3 fun c => { c with enable := true, profile := 2, transport := 1 } };
      let u := State.advance s dt
      let l := BitVec.toNat lane
      decide (u.svcHears l = true) && (decide ((u.ptpIntake l r).2 = true) && (decide ((u.portCfg l).profile = 2)
        && (decide (r.ptpType = 12) && (decide (r.requests ≠ [])
        && ((match (u.ptpIntake l r).1.noteClient l (u.ptpKind l) r r.spp.toNat with
        | (some c, b) => decide (c.grant = false) && (decide ((b.takeToken c).1 = true))
        | _ => false)))))))) = true ∧
    ((let dt := (0 : Nat); let lane := (3 : BitVec 4);
        let r := { msg := [12, 2, 0, 54] ++ List.replicate 40 0 ++ [0, 4, 0, 6, 0xB0, 0x7F, 0, 0, 1, 44] };
        let s : State := { served with svc.clients := [client 4 false 65535], cfg.svc.ports := Tab.mod live.cfg.svc.ports 3 fun c => { c with enable := true, profile := 2, transport := 1 } };
      let u := State.advance s dt
      let l := BitVec.toNat lane
      decide (u.svcHears l = true) && (decide ((u.ptpIntake l r).2 = true) && (decide ((u.portCfg l).profile = 2)
        && (decide (r.ptpType = 12) && (decide (r.requests ≠ [])
        && ((match (u.ptpIntake l r).1.noteClient l (u.ptpKind l) r r.spp.toNat with
        | (some c, b) => let x : State := live; let g : UniReq := ⟨0, 0x7F, 300⟩; decide (g.ty ≤ 2) && (decide (grantPeriodOk g.ty g.period = false ∨ x.grantRateOk l c g = false))
        | _ => false)))))))) = true ∧
    ((let dt := (0 : Nat); let lane := (3 : BitVec 4);
        let r := { msg := [12, 2, 0, 54] ++ List.replicate 40 0 ++ [0, 4, 0, 6, 0xB0, 1, 0, 0, 1, 44] };
        let s : State := { served with cfg.svc.grantMax := 100, svc.clients := [client 4 false 65535], cfg.svc.ports := Tab.mod live.cfg.svc.ports 3 fun c => { c with enable := true, profile := 2, transport := 1 } };
      let u := State.advance s dt
      let l := BitVec.toNat lane
      decide (u.svcHears l = true) && (decide ((u.ptpIntake l r).2 = true) && (decide ((u.portCfg l).profile = 2)
        && (decide (r.ptpType = 12) && (decide (r.requests ≠ [])
        && ((match (u.ptpIntake l r).1.noteClient l (u.ptpKind l) r r.spp.toNat with
      | (some c, b) => let x : State := s; let g : UniReq := ⟨0, 0, 300⟩; decide (g.ty ≤ 2)
        && (decide (grantPeriodOk g.ty g.period = true) && (decide (x.grantRateOk l c g = true)))
     
        | _ => false)))))))) = true ∧
    ((let dt : Nat := (0 : Nat); let lane : BitVec 4 := 3;
        let r : SvcReq := { msg := [12, 2, 0, 50] ++ List.replicate 40 0 ++ [0, 6, 0, 2, 0xB0, 0] };
        let s : State := { served with svc.clients := [{ client 4 true 0 with grantTypes := 7 }], cfg.svc.ports := Tab.mod live.cfg.svc.ports 3 fun c => { c with enable := true, profile := 2, transport := 1 } };
      let u := State.advance s dt
      let l := BitVec.toNat lane
      decide (u.svcHears l = true) && (decide ((u.ptpIntake l r).2 = true) && (decide ((u.portCfg l).profile = 2)
        && (decide (r.ptpType = 12) && (decide (r.cancels ≠ []))))))) = true ∧
    ((let dt := (0 : Nat); let lane := (3 : BitVec 4);
        let r := { msg := [12, 2, 0, 50] ++ List.replicate 40 0 ++ [0, 6, 0, 2, 0xB0, 0] };
        let s : State := { served with svc.clients := [{ client 4 true 0 with grantTypes := 7 }], cfg.svc.ports := Tab.mod live.cfg.svc.ports 3 fun c => { c with enable := true, profile := 2, transport := 1 } };
      let u := State.advance s dt
      let l := BitVec.toNat lane
      decide (u.svcHears l = true) && (decide ((u.ptpIntake l r).2 = true) && (decide ((u.portCfg l).profile = 2)
        && (decide (r.ptpType = 12) && (decide (r.cancels ≠ []) && (let x : State := s; let ty : Nat := 0;
        decide (ty ≤ 2) && (Option.any (fun c => true) (x.findClient l (x.ptpKind l) r.addr))))))))) = true ∧
    ((let dt : Nat := (0 : Nat); let lane : BitVec 4 := 3; let phase : Nat := 0;
        let r : SvcReq := { msg := 0x23 :: List.replicate 47 0 };
        let s : State := { served with cfg.svc.ratePps := 1, svc.clients := [client 1 false 15] };
      let u := State.advance s dt
      let l := BitVec.toNat lane
      decide (u.svcHears l = true) && (decide (has u.cfg.svc.ntpLanes l = true) && (decide ((u.intake l r).2 = true)
        && (decide (ntpOk r = true) && (decide (r.ntpWhole = true) && (
      let q := (u.intake l r).1.noteClient l 1 r 0
      Option.any (fun c => decide ((q.2.takeToken c).1 = false)) (q.1)))))))) = true ∧
    ((let dt : Nat := (0 : Nat); let lane : BitVec 4 := 3; let phase : Nat := 0;
        let r : SvcReq := { msg := 0x23 :: List.replicate 47 0 };
        let s : State := { served with svc.clients := [client 1 false 65535] };
      let u := State.advance s dt
      let l := BitVec.toNat lane
      decide (u.svcHears l = true) && (decide (has u.cfg.svc.ntpLanes l = true) && (decide ((u.intake l r).2 = true)
        && (decide (ntpOk r = true) && (decide (r.ntpWhole = true) && (
      let q := (u.intake l r).1.noteClient l 1 r 0
      decide (q.1.all (fun c => (q.2.takeToken c).1) = true)))))))) = true ∧
    ((let dt : Nat := (0 : Nat); let lane : BitVec 4 := 3; let phase : Nat := 0;
        let r : SvcReq := ntsAsk (List.replicate 104 0);
        let s : State := { served with svc.clients := [client 2 false 65535] };
      let u := State.advance s dt
      let l := BitVec.toNat lane
      decide (u.svcHears l = true) && (decide (has u.cfg.svc.ntsLanes l = true) && (decide ((u.intake l r).2 = true)
        && (decide (ntpOk r = true) && (Option.any (fun q => decide (u.ready pdCrypto = true) && (
      let a := (u.intake l r).1
      (match a.noteClient l 2 r ((a.cookieOf (cookieKeyId q.cookie)).getD 0xFF) with
      | (some c, b) => decide ((b.takeToken c).1 = true) && (
      let v := (b.takeToken c).2
      decide (v.ntsKeys q = none))
     
        | _ => false))) (r.nts))))))) = true ∧
    ((let dt : Nat := (0 : Nat); let lane : BitVec 4 := 3; let phase : Nat := 0;
        let r : SvcReq := ntsAsk (mintCookie 0 5 (List.replicate 16 0) 1 2);
        let s : State := { served with svc.clients := [client 2 false 65535], svc.cookies := Tab.mod live.svc.cookies 0 fun c => { c with state := 1, keyId := 5 } };
      let u := State.advance s dt
      let l := BitVec.toNat lane
      decide (u.svcHears l = true) && (decide (has u.cfg.svc.ntsLanes l = true) && (decide ((u.intake l r).2 = true)
        && (decide (ntpOk r = true) && (Option.any (fun q => decide (u.ready pdCrypto = true) && (
      let a := (u.intake l r).1
      (match a.noteClient l 2 r ((a.cookieOf (cookieKeyId q.cookie)).getD 0xFF) with
      | (some c, b) => decide ((b.takeToken c).1 = true) && (
      let v := (b.takeToken c).2
      Option.any (fun ⟨i, c2s, s2c⟩ => true) (v.ntsKeys q))
     
        | _ => false))) (r.nts))))))) = true ∧
    ((let dt : Nat := (0 : Nat); let lane : BitVec 4 := 3; let dst : BitVec 128 := 0;
        let s : State := { served with cfg.svc.ports := Tab.mod live.cfg.svc.ports 3 fun c => { c with enable := true, twoStep := true } };
      let u := State.advance s dt
      let k := BitVec.toNat lane
      let c := u.portCfg k
      decide (u.mayServe k dst 1 = true) && (decide (u.svc.gateOpen = true) && (decide (c.twoStep = true))))) = true ∧
    ((let dt : Nat := (0 : Nat); let lane : BitVec 4 := 3; let dst : BitVec 128 := 0;
        let s : State := { served with cfg.svc.ports := Tab.mod live.cfg.svc.ports 3 fun c => { c with enable := true, auth := true }, cfg.svc.spp := Tab.mod live.cfg.svc.spp 0 fun c => { c with aId := 9, aSlot := 5, aAlg := 1 }, key.slots := Tab.mod live.key.slots 5 fun x => { x with loaded := true, usage := 1, alg := 1 } };
      let u := State.advance s dt
      let k := BitVec.toNat lane
      let c := u.portCfg k
      decide (u.mayServe k dst 1 = true) && (decide (u.svc.gateOpen = true) && (decide (c.twoStep = false)
        && (decide (c.auth = true)))))) = true ∧
    ((let dt : Nat := (0 : Nat); let lane : BitVec 4 := 3; let dst : BitVec 128 := 0; let s : State := served;
      let u := State.advance s dt
      let k := BitVec.toNat lane
      let c := u.portCfg k
      decide (u.mayServe k dst 1 = true) && (decide (u.svc.gateOpen = true) && (decide (c.twoStep = false)
        && (decide (c.auth = false)))))) = true ∧
    ((let dt : Nat := (0 : Nat); let lane : BitVec 4 := 3;
        let s : State := { served with cfg.svc.ports := Tab.mod live.cfg.svc.ports 3 fun c => { c with enable := true, twoStep := true }, svc.ports := Tab.mod live.svc.ports 3 fun p => { p with sent := [⟨3, 0, 0, 0⟩] } };
      let u := State.advance s dt
      let k := BitVec.toNat lane
      let x := (⟨3, 0, 0, 0⟩ : SyncSent); let r := ([] : List SyncSent); decide ((u.port k).sent = x :: r)
        && (decide (u.mayServe k x.dst 1 = true) && (decide (u.svc.gateOpen = true))))) = true ∧
    ((let dt : Nat := (0 : Nat); let lane : BitVec 4 := 3; let dst : BitVec 128 := 0; let s : State := served;
      let u := State.advance s dt
      let k := BitVec.toNat lane
      decide (u.mayServe k dst 0 = true) && (decide (u.flt.safe = false) && (decide (u.acd.state ≠ .safe))))) = true ∧
    ((let dt : Nat := (0 : Nat); let idx : BitVec 20 := 0; let gType : BitVec 4 := 2;
        let s : State := { live with svc.clients := [{ client 4 true 0 with grantEnd := [(2, 0)] }] };
      let u := State.advance s dt
      let c := { client 4 true 0 with grantEnd := [(2, 0)] };
        decide (u.svc.clients.find? (fun c => c.idx == idx) = some c)
        && (decide ((c.grantEnd.any fun g => g.1 == BitVec.toNat gType && decide (g.2 ≤ u.ticks)) = true)))) = true ∧
    ((let dt : Nat := (0 : Nat); let spp : BitVec 4 := 15;
        let s : State := { live with svc.spp := Tab.mod live.svc.spp 15 fun x => { x with rollPending := true } };
      let u := State.advance s dt
      let x := u.spp (BitVec.toNat spp)
      decide (x.rollPending = true) && (decide (taiNat x.rollAt ≤ u.now16) && (decide (u.ready pdEngine = true))))) = true ∧
    ((let dt : Nat := (0 : Nat); let spp : BitVec 4 := 15;
        let s : State := { live with svc.spp := Tab.mod live.svc.spp 15 fun x => { x with oldUntil := some 0 } };
      let u := State.advance s dt
      let t := (0 : Nat); decide ((u.spp (BitVec.toNat spp)).oldUntil = some t) && (decide (t ≤ u.ticks)))) = true ∧
    ((let dt : Nat := (0 : Nat); let idx : BitVec 20 := 0;
        let s : State := { live with svc.clients := [{ client 4 false 0 with seenTick := 0 }] };
      let u := State.advance s dt
      let c := { client 4 false 0 with seenTick := 0 }; decide (u.svc.clients.find? (fun c => c.idx == idx) = some c)
        && (decide (c.grant = false) && (decide (c.seenTick + u.cfg.svc.clientAgeS.toNat * sTicks ≤ u.ticks))))) = true :=
  by and_intros <;> decide +kernel

/-- States and operands that meet, clause by clause, the hypotheses of LogKeyEventsRun. -/
theorem test_log_key_events_run_met :
    ((let dt : Nat := (0 : Nat); let s : State := live;
      let u := State.advance s dt
      decide (u.sys.devState ≠ .boot) && (decide (u.sys.inReset = false) && (decide (u.secondArrives = true))))) = true ∧
    ((let dt : Nat := (0 : Nat); let r : BitVec 256 := 0; let z : BitVec 256 := 0;
        let s : State := { live with log.signing := true };
      let u := State.advance s dt
      decide (u.log.signing = true))) = true ∧
    ((let dt : Nat := (0 : Nat); let s : State := { live with key.busyOp := some .debugExit };
      let u := State.advance s dt
      let o := KeyOp.debugExit; decide (u.key.busyOp = some o))) = true ∧
    ((let dt : Nat := (0 : Nat); let s : State := { live with key.busyOp := some .epochUpdate };
      let u := State.advance s dt
      decide (u.key.busyOp = some .epochUpdate))) = true ∧
    ((let dt : Nat := (0 : Nat); let s : State := { live with key.busyOp := some (.attest 7) };
      let u := State.advance s dt
      let n := (7 : BitVec 256); decide (u.key.busyOp = some (.attest n)))) = true ∧
    ((let dt : Nat := (0 : Nat); let s : State := { live with key.busyOp := some (.provision 7), fuse.lcPairA := 0 };
      let u := State.advance s dt
      let d := (7 : BitVec 256); decide (u.key.busyOp = some (.provision d)) && (decide (u.lc = .blank)))) = true ∧
    ((let dt : Nat := (0 : Nat); let s : State := { live with key.busyOp := some (.provision 7) };
      let u := State.advance s dt
      let d := (7 : BitVec 256); decide (u.key.busyOp = some (.provision d)) && (decide (u.lc ≠ .blank)))) = true ∧
    ((let dt : Nat := (0 : Nat); let s : State := { live with key.busyOp := some (.lcAdvance 4 1 2 3) };
      let u := State.advance s dt
      let t := (4 : BitVec 3); let k := (1 : BitVec 264); let r := (2 : BitVec 256); let v := (3 : BitVec 256);
        decide (u.key.busyOp = some (.lcAdvance t k r v)))) = true ∧
    ((let dt : Nat := (0 : Nat); let s : State := { live with key.busyOp := some (.debugEnter 1 2 3) };
      let u := State.advance s dt
      let k := (1 : BitVec 264); let r := (2 : BitVec 256); let v := (3 : BitVec 256);
        decide (u.key.busyOp = some (.debugEnter k r v)))) = true ∧
    ((let dt : Nat := (0 : Nat); let s : State := { live with key.busyOp := some .debugExit };
      let u := State.advance s dt
      decide (u.key.busyOp = some .debugExit))) = true ∧
    ((let opcode : BitVec 16 := 0xFFFF; let p : Packet := pk []; let s : State := live;
      let u := State.arrive s (Packet.dt p)
      decide ((specOf (BitVec.toNat opcode)).isNone = true) && (decide (u.canFetch opcode.toNat p = true)))) = true :=
  by and_intros <;> decide +kernel

/-- States and operands that meet, clause by clause, the hypotheses of PairEventsRun. -/
theorem test_pair_events_run_met :
    ((let dt : Nat := (0 : Nat); let e : BitVec 3 := 0; let s : State := live;
      let u := State.advance s dt
      let k := BitVec.toNat e
      let ms := u.now16 / ms16
      let xs := (u.pcmp k).stamps.filter fun t => decide (t < ((ms * ms16 : Nat) : Int))
      decide ((u.pcmp k).lastMs ≠ some ms) && (decide (xs = [])))) = true ∧
    ((let dt : Nat := (0 : Nat); let e : BitVec 3 := 7;
        let s : State := { live with acd.count := 1000 * sec16 * 2 ^ 40, cfg.pair.cmp := Tab.mod live.cfg.pair.cmp 7 fun c => { c with en := true }, pair.own := true, pair.cmp := Tab.mod live.pair.cmp 7 fun m => { m with stamps := [0] } };
      let u := State.advance s dt
      let k := BitVec.toNat e
      let ms := u.now16 / ms16
      let xs := (u.pcmp k).stamps.filter fun t => decide (t < ((ms * ms16 : Nat) : Int))
      decide ((u.pcmp k).lastMs ≠ some ms) && (decide ((u.pcmpCfg k).en = true) && (decide (u.ready pdPair = true)
        && (decide (xs ≠ []) && (decide (u.own = true ∨ u.partnerDrives = true))))))) = true ∧
    ((let dt : Nat := (0 : Nat); let s : State := { live with pair.role := .standby, pair.started := true };
      let u := State.advance s dt
      decide (u.pair.roundTick + 4 * usTicks ≤ u.ticks ∨ u.pair.roundTick = 0) && (decide (u.claimNow ≠ 0)
        && (decide (u.pair.inRound = false) && (decide (u.ready pdPair = true)))))) = true ∧
    ((let dt : Nat := (0 : Nat); let s : State := { live with pair.role := .standby };
      let u := State.advance s dt
      decide (u.ready pdPair = true) && (decide (u.pair.role ≠ .solo) && (decide (u.pair.inRound = false))))) = true ∧
    ((let dt : Nat := (0 : Nat); let peer : BitVec 13 := 0; let testLow : Bool := false; let endLow : Bool := true;
        let s : State := { live with pair.inRound := true };
      let u := State.advance s dt
      let p := u.pair
      decide (p.inRound = true) && (decide (u.ready pdPair = true) && (decide (p.roundTick + roundTicks ≤ u.ticks)
        && (decide (endLow = true)))))) = true ∧
    ((let dt : Nat := (0 : Nat); let peer : BitVec 13 := 0; let testLow : Bool := false; let endLow : Bool := false;
        let s : State := { live with pair.inRound := true, pair.roundClaim := 0x1001 };
      let u := State.advance s dt
      let p := u.pair
      decide (p.inRound = true) && (decide (u.ready pdPair = true) && (decide (p.roundTick + roundTicks ≤ u.ticks)
        && (decide (has p.roundClaim 12 = true) && (decide (peer < p.roundClaim))))))) = true ∧
    ((let dt : Nat := (0 : Nat); let peer : BitVec 13 := 0x1FFF; let testLow : Bool := false;
        let endLow : Bool := false; let s : State := { live with pair.inRound := true, pair.roundClaim := 0x1001 };
      let u := State.advance s dt
      let p := u.pair
      decide (p.inRound = true) && (decide (u.ready pdPair = true) && (decide (p.roundTick + roundTicks ≤ u.ticks)
        && (decide (has peer 12 = true) && (decide (p.roundClaim < peer))))))) = true ∧
    ((let dt : Nat := (0 : Nat); let peer : BitVec 13 := 0; let testLow : Bool := false; let endLow : Bool := false;
        let s : State := { live with pair.inRound := true };
      let u := State.advance s dt
      let p := u.pair
      decide (p.inRound = true) && (decide (u.ready pdPair = true) && (decide (p.roundTick + roundTicks ≤ u.ticks)
        && (decide (has peer 12 = false) && (decide (has p.roundClaim 12 = false))))))) = true ∧
    ((let dt : Nat := (0 : Nat); let s : State := { live with pair.hPending := true, pair.hGain := true };
      let u := State.advance s dt
      decide (u.pair.hPending = true) && (decide (u.pair.hTick ≤ u.ticks) && (decide (u.ready pdPair = true)
        && (decide (u.pair.hGain = true ∨ u.pair.handoverPending = false)))))) = true ∧
    ((let dt : Nat := (0 : Nat); let s : State := { live with pair.own := true, pair.role := .active };
      let u := State.advance s dt
      decide (u.pair.own = true) && (decide (u.pair.role = .active)
        && (decide (u.pair.leaseTick + 10 * usTicks ≤ u.ticks))))) = true ∧
    ((let dt : Nat := (0 : Nat);
        let s : State := { live with pair.role := .standby, pair.linkUp := true, pair.peerSide := some (!live.fuse.pairSide) };
      let u := State.advance s dt
      decide (u.ready pdPair = true) && (decide (u.pair.role = .active ∨ u.pair.role = .standby)
        && (decide (u.pair.started = false)
        && (decide ((u.pair.linkUp = true ∧ u.pair.peerSide = some (!u.fuse.pairSide)) ∨ u.pair.readyTick + u.cfg.pair.linkWaitMs.toNat * msTicks ≤ u.ticks)))))) = true ∧
    ((let dt : Nat := (0 : Nat); let b : BitVec 3 := 4;
        let s : State := { live with pair.raw := 0x3F, pair.role := .standby };
      let u := (State.advance s dt).pairEval
      let k := BitVec.toNat b
      decide (u.ready pdPair = true) && (decide (k < 6) && (decide (has u.pair.raw k = true)
        && (decide (has u.pair.health k = false)
        && (decide (Tab.get u.pair.rawSince k 0 + u.cfg.pair.healthHoldMs.toNat * msTicks ≤ u.ticks))))))) = true ∧
    ((let dt : Nat := (0 : Nat); let s : State := { live with pair.handoverPending := true, pair.incumbent := true };
      let u := State.advance s dt
      decide (u.ready pdPair = true) && (decide (taiNat u.pair.handoverAt ≤ u.now16)
        && (decide (u.pair.handoverPending = true) && (decide (u.pair.incumbent = true)))))) = true ∧
    ((let dt : Nat := (0 : Nat); let s : State := { live with pair.handoverIn := true };
      let u := State.advance s dt
      decide (u.ready pdPair = true) && (decide (taiNat u.pair.handoverAt ≤ u.now16)
        && (decide (u.pair.handoverPending = false) && (decide (u.pair.handoverIn = true)))))) = true ∧
    ((let dt : Nat := (0 : Nat); let lane : BitVec 1 := 0; let side : Bool := false; let s : State := live;
      let u := State.advance s dt
      decide (u.ready pdPair = true) && (decide (u.sys.devState ≠ .sleep) && (decide (u.pair.linkUp = false))))) = true ∧
    ((let dt : Nat := (0 : Nat); let lane : BitVec 1 := 1; let side : Bool := false;
        let s : State := { live with pair.linkUp := true };
      let u := State.advance s dt
      decide (u.ready pdPair = true) && (decide (u.sys.devState ≠ .sleep) && (decide (u.pair.linkUp = true))))) = true ∧
    ((let dt : Nat := (0 : Nat); let lane : BitVec 1 := 1;
        let s : State := { live with pair.linkUp := true, pair.lanesUp := 3 };
      let u := State.advance s dt
      let m := putBit u.pair.lanesUp lane.toNat false
      decide (u.ready pdPair = true) && (decide (m ≠ u.pair.lanesUp) && (decide (m ≠ 0))))) = true ∧
    ((let dt : Nat := (0 : Nat); let s : State := { live with pair.linkUp := true };
      let u := State.advance s dt
      decide (u.pair.linkUp = true))) = true ∧
    ((let dt : Nat := (0 : Nat); let target : BitVec 5 := 19; let bad : Bool := true;
        let s : State := { live with pair.linkUp := true };
      let u := State.advance s dt
      decide (u.pair.linkUp = true) && (decide (BitVec.toNat target < 20) && (
      let v := { u with pair := { u.pair with outBad := putBit u.pair.outBad target.toNat bad } }
      decide (v.pair.outBad ≠ 0))))) = true ∧
    ((let dt : Nat := (0 : Nat); let target : BitVec 5 := 19; let bad : Bool := false;
        let s : State := { live with pair.linkUp := true };
      let u := State.advance s dt
      decide (u.pair.linkUp = true) && (decide (BitVec.toNat target < 20) && (
      let v := { u with pair := { u.pair with outBad := putBit u.pair.outBad target.toNat bad } }
      decide (v.pair.outBad = 0))))) = true ∧
    ((let dt : Nat := (0 : Nat); let at_ : Tai := 0;
        let s : State := { live with pair.linkUp := true, pair.role := .standby };
      let u := State.advance s dt
      decide (u.pair.linkUp = true) && (decide (u.pair.role = .standby)))) = true ∧
    ((let dt : Nat := (0 : Nat); let s : State := { live with pair.linkUp := true };
      let u := State.advance s dt
      let ms := u.now16 / ms16
      decide (u.ready pdPair = true) && (decide (u.pair.linkUp = true) && (decide (u.pair.sentMs ≠ some ms))))) = true ∧
    ((let dt : Nat := (0 : Nat); let lane0 : BenitTimes := {}; let lane1 : BenitTimes := {}; let f : PeerFrame := {};
        let s : State := { live with pair.linkUp := true };
      let u := State.advance s dt
      decide (u.ready pdPair = true) && (decide (u.pair.linkUp = true)))) = true ∧
    ((let dt : Nat := (0 : Nat); let bad : BitVec 8 := 0; let s : State := { live with pair.role := .standby };
      let u := State.advance s dt
      decide (u.ready pdPair = true) && (decide (u.ready pdTic = true)
        && (decide (u.pair.role = .standby ∨ u.pair.role = .active)
        && (decide ((∀ t, u.pair.calTestTick = some t → t + 60 * sTicks ≤ u.ticks))))))) = true :=
  by and_intros <;> decide +kernel

/-- States and operands that meet, clause by clause, the hypotheses of MonitorEventsRun. -/
theorem test_monitor_events_run_met :
    ((let dt : Nat := (0 : Nat); let r : BitVec 3 := 0; let s : State := live;
      let u := State.advance s dt
      let k := BitVec.toNat r
      decide (Tab.get u.mon.supSince k 0 + msTicks ≤ u.ticks) && (decide (k ≠ 7)))) = true ∧
    ((let dt : Nat := (0 : Nat); let r : BitVec 3 := 7; let s : State := live;
      let u := State.advance s dt
      let k := BitVec.toNat r
      decide (Tab.get u.mon.supSince k 0 + msTicks ≤ u.ticks) && (decide (k = 7)))) = true ∧
    ((let dt : Nat := (0 : Nat); let s : State := { live with mon.pfw := true, mon.rmsClear := true };
      let u := State.advance s dt
      decide (u.mon.pfw = true) && (decide (u.pfwClearOk = true)
        && (decide (u.mon.clearSince + u.cfg.mon.pfwClearMs.toNat * msTicks ≤ u.ticks))))) = true ∧
    ((let dt : Nat := (0 : Nat); let s : State := live;
      let u := State.advance s dt
      decide (u.mon.gapOut = false) && (decide (u.mon.lastCross + u.cfg.mon.pfwGapMs.toNat * msTicks ≤ u.ticks)))) = true ∧
    ((let dt : Nat := (0 : Nat); let s : State := { live with mon.rangeBad := 1 };
      let u := State.advance s dt
      decide (u.mon.mainsRange = false)
        && (decide (has u.mon.rangeBad 0 = true ∧ Tab.get u.mon.rangeSince 0 0 + sTicks ≤ u.ticks)))) = true ∧
    ((let dt : Nat := (0 : Nat); let s : State := live;
      let u := State.advance s dt
      let h := u.cfg.keep.scrubH.toNat
      decide (h ≠ 0) && (decide (u.keep.scrubBusy = false) && (decide (u.mon.pfw = false)
        && (decide (u.keep.lastScrub + h * 3600 * sTicks ≤ u.ticks)))))) = true ∧
    ((let dt : Nat := (0 : Nat); let r : KeepScrub := {}; let s : State := { live with keep.scrubBusy := true };
      let u := State.advance s dt
      decide (u.keep.scrubBusy = true))) = true ∧
    ((let dt : Nat := (0 : Nat); let s : State := { live with acd.state := .locked, vbat.xtalOk := true };
      let u := State.advance s dt
      decide (u.calSyncing = true) && (decide (u.ready pdTime = true) && (decide (u.vbat.xtalOk = true)
        && (decide (u.secondBegins = true)))))) = true ∧
    ((let dt : Nat := (0 : Nat); let s : State := { live with cfg.cal.autoTrim := true, vbat.syncRun := 1024 };
      let u := State.advance s dt
      let c := u.cfg.cal
      decide (c.autoTrim = true) && (decide (1024 ≤ u.vbat.syncRun)))) = true :=
  by and_intros <;> decide +kernel

end Sys2Proof.Tests
end

section
/-! SUPPORT. TAI96 values, packet words and cookies read back (R3 to R5, R39, R299). -/

namespace Sys2Proof.Machine

/-! ### TAI96 values (R3 to R5) -/

/-- The seconds and the rest of a TAI96 value lie side by side: nothing is cut off below 2^48 s. -/
theorem toNat_taiOf {n : Nat} (h : n < 2 ^ 48 * sec16) : (taiOf n).toNat = n / sec16 * 2 ^ 48 + n % sec16 := by
  have hq : n / sec16 < 2 ^ 48 := Nat.div_lt_of_lt_mul (by rwa [Nat.mul_comm])
  have hr : n % sec16 < 65536000000000 := Nat.mod_lt _ (by decide)
  rw [taiOf, BitVec.toNat_ofNat]
  omega

theorem toNat_taiSec (t : Tai) : (taiSec t).toNat = t.toNat / 2 ^ 48 := by
  have := t.isLt
  simp only [taiSec, BitVec.extractLsb'_toNat, Nat.shiftRight_eq_div_pow]
  omega

theorem toNat_taiNs (t : Tai) : (taiNs t).toNat = t.toNat % 2 ^ 48 / 65536 := by
  simp only [taiNs, BitVec.extractLsb'_toNat, Nat.shiftRight_eq_div_pow]
  omega

theorem toNat_taiFrac (t : Tai) : (taiFrac t).toNat = t.toNat % 65536 := by
  simp only [taiFrac, BitVec.extractLsb'_toNat, Nat.shiftRight_eq_div_pow]
  omega

/-- NANOSECONDS is legal exactly where NANOSECONDS and FRACTION make less than a second. -/
theorem taiOk_iff (t : Tai) : taiOk t = true ↔ t.toNat % 2 ^ 48 < sec16 := by
  simp only [taiOk, toNat_taiNs, sec16, decide_eq_true_eq]
  omega

/-- Every instant that TAI96 can hold is emitted as a legal value with the fields of R3, and reads back. -/
theorem taiOf_reads_back {n : Nat} (h : n < 2 ^ 48 * sec16) :
    taiOk (taiOf n) = true ∧ taiNat (taiOf n) = n ∧ (taiSec (taiOf n)).toNat = n / sec16 ∧
    (taiNs (taiOf n)).toNat = n % sec16 / 65536 ∧ (taiFrac (taiOf n)).toNat = n % 65536 := by
  rw [taiOk_iff, taiNat, toNat_taiSec, toNat_taiNs, toNat_taiFrac, toNat_taiOf h]
  unfold sec16
  omega

/-- A legal value is the one emitted for its instant. -/
theorem taiOf_taiNat {t : Tai} (h : taiOk t = true) : taiOf (taiNat t) = t := by
  rw [taiOk_iff] at h
  have ht := t.isLt
  apply BitVec.eq_of_toNat_eq
  rw [toNat_taiOf (by unfold taiNat sec16 at *; omega)]
  unfold taiNat sec16 at *
  omega

/-- R4: the words of a TAI96 value, least significant first. -/
theorem taiWords_eq (t : Tai) :
    taiWords t = [t.extractLsb' 0 32, t.extractLsb' 32 32, t.extractLsb' 64 32] := rfl

/-! ### Packet words (R39) -/

/-- The three words of a TAI96 value joined again. -/
theorem append_extractLsb'_tai (t : Tai) :
    t.extractLsb' 64 32 ++ (t.extractLsb' 32 32 ++ t.extractLsb' 0 32) = t := by
  rw [BitVec.extractLsb'_append_extractLsb'_eq_extractLsb' (by rfl),
    BitVec.extractLsb'_append_extractLsb'_eq_extractLsb' (by rfl), BitVec.extractLsb'_eq_self]

/-- A field of a word above all that the word holds so far adds its value. -/
theorem or_shiftLeft_of_lt {a lo : Nat} (h : a < 2 ^ lo) (f : Nat) : a ||| f <<< lo = a + 2 ^ lo * f := by
  rw [Nat.or_comm, ← Nat.shiftLeft_add_eq_or_of_lt h, Nat.shiftLeft_eq, Nat.add_comm, Nat.mul_comm]

/-- W0 of a header: the opcode below LEN. -/
def headerW0 (p : Packet) (op : Nat) : W32 := word [(0, op), (16, p.len.toNat)]

/-- W1 of a header: TAG, the three flags, and the first reserved bits. -/
def headerW1 (p : Packet) : W32 :=
  word [(0, p.tag.toNat), (16, p.sched.toNat), (17, p.noReply.toNat), (18, p.dryRun.toNat), (19, p.rsvd % 8192)]

theorem toNat_headerW0 (p : Packet) {op : Nat} (h : op < 65536) :
    (headerW0 p op).toNat = op + 65536 * p.len.toNat := by
  have hl := p.len.isLt
  simp only [headerW0, word, List.foldl, Nat.zero_or, Nat.shiftLeft_zero, BitVec.toNat_ofNat]
  rw [or_shiftLeft_of_lt (by omega)]
  omega

theorem headerW1_fields_le (p : Packet) :
    p.tag.toNat ≤ 65535 ∧ p.sched.toNat ≤ 1 ∧ p.noReply.toNat ≤ 1 ∧ p.dryRun.toNat ≤ 1 :=
  ⟨Nat.le_of_lt_succ p.tag.isLt, Bool.toNat_le _, Bool.toNat_le _, Bool.toNat_le _⟩

theorem toNat_headerW1 (p : Packet) :
    (headerW1 p).toNat = p.tag.toNat + 2 ^ 16 * p.sched.toNat + 2 ^ 17 * p.noReply.toNat + 2 ^ 18 * p.dryRun.toNat +
      2 ^ 19 * (p.rsvd % 8192) := by
  obtain ⟨ht, hs, hn, hd⟩ := headerW1_fields_le p
  simp only [headerW1, word, List.foldl, Nat.zero_or, Nat.shiftLeft_zero, BitVec.toNat_ofNat]
  rw [or_shiftLeft_of_lt (lo := 16) (by omega), or_shiftLeft_of_lt (lo := 17) (by omega),
    or_shiftLeft_of_lt (lo := 18) (by omega), or_shiftLeft_of_lt (lo := 19) (by omega)]
  omega

theorem headerW0_len (p : Packet) {op : Nat} (h : op < 65536) : (headerW0 p op).extractLsb' 16 16 = p.len := by
  apply BitVec.eq_of_toNat_eq
  rw [BitVec.extractLsb'_toNat, toNat_headerW0 p h, Nat.shiftRight_eq_div_pow]
  omega

theorem headerW1_tag (p : Packet) : (headerW1 p).extractLsb' 0 16 = p.tag := by
  apply BitVec.eq_of_toNat_eq
  rw [BitVec.extractLsb'_toNat, toNat_headerW1, Nat.shiftRight_zero]
  omega

/-- A flag is read back where its bit of W1 counts it. -/
theorem testBit_eq_of_toNat {x i : Nat} {b : Bool} (h : x / 2 ^ i % 2 = b.toNat) : x.testBit i = b := by
  rw [Nat.testBit_eq_decide_div_mod_eq, h]
  cases b <;> rfl

theorem headerW1_flags (p : Packet) :
    (headerW1 p).getLsbD 16 = p.sched ∧ (headerW1 p).getLsbD 17 = p.noReply ∧
    (headerW1 p).getLsbD 18 = p.dryRun := by
  obtain ⟨ht, hs, hn, hd⟩ := headerW1_fields_le p
  simp only [← BitVec.testBit_toNat, toNat_headerW1]
  refine ⟨testBit_eq_of_toNat ?_, testBit_eq_of_toNat ?_, testBit_eq_of_toNat ?_⟩ <;> omega

theorem headerW1_rsvd (p : Packet) : (headerW1 p).toNat / 2 ^ 19 = p.rsvd % 8192 := by
  obtain ⟨ht, hs, hn, hd⟩ := headerW1_fields_le p
  rw [toNat_headerW1]
  omega

theorem leWords_three (x : Nat) :
    leWords 3 x = [BitVec.ofNat 32 x, BitVec.ofNat 32 (x >>> 32), BitVec.ofNat 32 (x >>> 64)] := rfl

/-- Three words of a number below 2^96 make that number again. -/
theorem leWords_three_toNat {x : Nat} (h : x < 2 ^ 96) :
    (BitVec.ofNat 32 x).toNat + 2 ^ 32 * (BitVec.ofNat 32 (x >>> 32)).toNat +
      2 ^ 64 * (BitVec.ofNat 32 (x >>> 64)).toNat = x := by
  simp only [BitVec.toNat_ofNat, Nat.shiftRight_eq_div_pow]
  omega

/-- R39: the header's words, with the three reserved ones. -/
theorem header_eq (p : Packet) (op : Nat) :
    p.header op = [headerW0 p op, headerW1 p, p.execAt.extractLsb' 0 32, p.execAt.extractLsb' 32 32,
      p.execAt.extractLsb' 64 32, BitVec.ofNat 32 (p.rsvd / 8192), BitVec.ofNat 32 ((p.rsvd / 8192) >>> 32),
      BitVec.ofNat 32 ((p.rsvd / 8192) >>> 64)] := by
  rw [Packet.header, taiWords_eq, leWords_three]
  rfl

/-- R39: the eight words of a header, then the payload, spell the packet. -/
theorem ofWords_header_append (p : Packet) {op : Nat} (hop : op < 65536) (hr : p.rsvd < 2 ^ 109)
    (hp : p.payload.length = min p.len.toNat 256) :
    Packet.ofWords p.master p.source (p.header op ++ p.payload) = (op, { p with dt := 0, keepFail := none }) := by
  have h0 : (headerW0 p op).toNat % 65536 = op := by rw [toNat_headerW0 p hop]; omega
  have hx := leWords_three_toNat (x := p.rsvd / 8192) (by omega)
  obtain ⟨hs, hn, hd⟩ := headerW1_flags p
  have hrsvd : p.rsvd % 8192 + 8192 * (p.rsvd / 8192) = p.rsvd := Nat.mod_add_div _ _
  rw [header_eq]
  simp only [Packet.ofWords, List.cons_append, List.nil_append, List.getD_cons_zero, List.getD_cons_succ,
    List.drop_succ_cons, List.drop_zero, h0, headerW0_len p hop, headerW1_tag, hs, hn, hd, headerW1_rsvd,
    append_extractLsb'_tai, hx, hrsvd, ← hp,
    List.take_length]

end Sys2Proof.Machine
end

section
/-! SUPPORT. Bytes read back, and AES-SIV opens what it sealed (R299). -/

namespace Sys2Proof

/-! ### Bytes of numbers -/

@[simp] theorem length_leNat (n x : Nat) : (leNat n x).length = n := by simp [leNat]

@[simp] theorem length_beNat (n x : Nat) : (beNat n x).length = n := by simp [beNat]

@[simp] theorem length_digBytes (d : Dig) : (digBytes d).length = 32 := length_leNat 32 d.toNat

theorem leNat_succ (n x : Nat) : leNat (n + 1) x = BitVec.ofNat 8 x :: leNat n (x / 256) := by
  simp only [leNat, List.range_succ_eq_map, List.map_cons, List.map_map, Nat.mul_zero, Nat.shiftRight_zero]
  refine congrArg _ (List.map_congr_left fun i _ => ?_)
  change BitVec.ofNat 8 (x >>> (8 * (i + 1))) = BitVec.ofNat 8 ((x / 2 ^ 8) >>> (8 * i))
  rw [← Nat.shiftRight_eq_div_pow, ← Nat.shiftRight_add, Nat.mul_add, Nat.add_comm]

/-- A number's low bytes give it back, modulo what they hold. -/
theorem natOfLe_leNat (n x : Nat) : natOfLe (leNat n x) = x % 256 ^ n := by
  induction n generalizing x with
  | zero => simp [leNat, natOfLe, Nat.mod_one]
  | succ n ih =>
    have hx : x % 256 ^ (n + 1) = x % 2 ^ 8 + 256 * (x / 256 % 256 ^ n) := by
      rw [Nat.pow_succ', Nat.mod_mul]; rfl
    rw [leNat_succ, natOfLe, List.foldr_cons, ← natOfLe, ih, BitVec.toNat_ofNat, hx]

/-- A digest's bytes spell it. -/
theorem digOf_digBytes (d : Dig) : digOf (digBytes d) = d := by
  rw [digOf, List.take_of_length_le (by simp), digBytes, natOfLe_leNat, ← BitVec.toNat_inj, BitVec.toNat_ofNat]
  have := d.isLt
  omega

namespace Aes

/-! ### Lengths -/

@[simp] theorem length_xor (a b : List Byte) : (xor a b).length = min a.length b.length := List.length_zipWith

@[simp] theorem length_shift (b : List Byte) : (shift b).length = 16 := by simp [shift]

/-- Joining with the same bytes twice gives the first string back. -/
theorem xor_xor_cancel (a b : List Byte) (h : a.length ≤ b.length) : xor (xor a b) b = a := by
  induction a generalizing b with
  | nil => rfl
  | cons x a ih =>
    cases b with
    | nil => simp at h
    | cons y b =>
      have := ih b (by simpa using h)
      simp_all [xor]

/-- Every piece cut from enough bytes is full. -/
theorem length_of_mem_chunks {k n : Nat} {l c : List Byte} (h : n * k ≤ l.length) (hc : c ∈ chunks k n l) :
    c.length = k := by
  induction n generalizing l with
  | zero => simp [chunks] at hc
  | succ n ih =>
    rw [Nat.succ_mul] at h
    rw [chunks, List.mem_cons] at hc
    rcases hc with rfl | hc
    · simp; omega
    · exact ih (by simp; omega) hc

@[simp] theorem length_chunks (k n : Nat) (l : List Byte) : (chunks k n l).length = n := by
  induction n generalizing l with
  | zero => rfl
  | succ n ih => simp [chunks, ih]

/-- Key schedule words: `n` of them, four bytes each. -/
def Words (n : Nat) (ws : List (List Byte)) : Prop := ws.length = n ∧ ∀ w ∈ ws, w.length = 4

theorem Words.getD {n : Nat} {ws : List (List Byte)} (h : Words n ws) {i : Nat} (hi : i < n) :
    (ws.getD i []).length = 4 := by
  obtain ⟨hn, hw⟩ := h
  rw [List.getD_eq_getElem _ _ (hn ▸ hi)]
  exact hw _ (List.getElem_mem _)

theorem length_nextWord {nk n i : Nat} {rcon : Byte} {ws : List (List Byte)} (hk : 0 < nk) (hn : nk ≤ n)
    (h : Words n ws) : (nextWord nk i rcon ws).length = 4 := by
  have h0 := h.getD (i := 0) (by omega)
  have h1 := h.getD (i := nk - 1) (by omega)
  rw [nextWord, length_xor, h1]
  generalize ws.getD 0 [] = t at h0
  split
  · simp [h0]
  · split <;> simp [h0]

theorem Words.schedule {nk : Nat} (hk : 0 < nk) (m : Nat) {n : Nat} (hn : nk ≤ n) (i : Nat) (rcon : Byte)
    {ws : List (List Byte)} (h : Words n ws) : Words (n + m) (schedule nk m i rcon ws) := by
  induction m generalizing n i rcon ws with
  | zero => exact h
  | succ m ih =>
    have hnext := length_nextWord (i := i) (rcon := rcon) hk hn h
    have hc : Words (n + 1) (nextWord nk i rcon ws :: ws) :=
      ⟨by simp [h.1], by simpa [hnext] using h.2⟩
    rw [Aes.schedule, Nat.add_comm m, ← Nat.add_assoc]
    exact ih (by omega) _ _ hc

/-- Words of four bytes each make four bytes for each word. -/
theorem Words.length_flatten {n : Nat} {ws : List (List Byte)} (h : Words n ws) :
    ws.reverse.flatten.length = 4 * n := by
  obtain ⟨hn, hw⟩ := h
  rw [List.length_flatten, List.map_reverse, List.sum_reverse, List.map_congr_left hw]
  simp [hn, Nat.mul_comm]

/-- Round keys fit for use: at least two, 16 bytes each. -/
def Keys (ks : List (List Byte)) : Prop := 2 ≤ ks.length ∧ ∀ k ∈ ks, k.length = 16

/-- A key of 16 bytes has eleven round keys of 16 bytes: its 44 schedule words are 176 bytes. -/
theorem keys_roundKeys {key : List Byte} (h : key.length = 16) : Keys (roundKeys key) := by
  have hws : Words 4 (chunks 4 4 key).reverse :=
    ⟨by simp, fun w hw => length_of_mem_chunks (by omega) (List.mem_reverse.1 hw)⟩
  have hf := (hws.schedule (nk := 4) (by omega) 40 (Nat.le_refl _) 4 1).length_flatten
  rw [roundKeys, h]
  exact ⟨by simp, fun k hk => length_of_mem_chunks (Nat.le_of_eq hf.symm) hk⟩

theorem length_rounds {ks : List (List Byte)} (h0 : ks ≠ []) (h : ∀ k ∈ ks, k.length = 16) (b : List Byte) :
    (rounds ks b).length = 16 := by
  induction ks, b using rounds.induct with
  | case1 => simp at h0
  | case2 k b => rw [rounds, length_xor, length_shift, h k (List.mem_singleton_self k), Nat.min_self]
  | case3 _ _ _ hr ih =>
    rw [rounds]
    · exact ih hr fun j hj => h j (List.mem_cons_of_mem _ hj)
    · exact hr

theorem length_cipher {ks : List (List Byte)} (h : Keys ks) (b : List Byte) : (cipher ks b).length = 16 := by
  obtain ⟨h2, hk⟩ := h
  cases ks with
  | nil => simp at h2
  | cons k r =>
    have hr : r ≠ [] := by rintro rfl; simp at h2
    exact length_rounds hr (fun k hk' => hk k (List.mem_cons_of_mem _ hk')) _

theorem chain_append (ks : List (List Byte)) (bs : List (List Byte)) (z x : List Byte) :
    chain ks (bs ++ [z]) x = cipher ks (xor (chain ks bs x) z) := by
  induction bs generalizing x with
  | nil => rfl
  | cons b bs ih => exact ih _

theorem length_cmac {ks : List (List Byte)} (h : Keys ks) (m : List Byte) : (cmac ks m).length = 16 := by
  rw [cmac, chain_append]
  exact length_cipher h _

theorem length_s2v {ks : List (List Byte)} (h : Keys ks) (ads : List (List Byte)) (p : List Byte) :
    (s2v ks ads p).length = 16 := length_cmac h _

/-! ### The key stream -/

theorem length_stream {ks : List (List Byte)} (h : Keys ks) (n : Nat) (c : Nat → List Byte) {p : List Byte}
    (hp : p.length ≤ 16 * n) : (stream ks n c p).length = p.length := by
  induction n generalizing c p with
  | zero => simp [stream]; omega
  | succ n ih =>
    rw [stream, List.length_append, ih _ (by simp; omega)]
    simp [length_cipher h]
    omega

/-- A full first block, or all there is, splits off the front again. -/
theorem split_append {a b : List Byte} {n : Nat} (ha : a.length = min 16 n) (hb : b.length = n - 16) :
    (a ++ b).take 16 = a ∧ (a ++ b).drop 16 = b := by
  rcases Nat.le_total 16 n with h | h
  · exact ⟨List.take_left' (by omega), List.drop_left' (by omega)⟩
  · have hb0 : b = [] := List.length_eq_zero_iff.1 (by omega)
    subst hb0
    simp; omega

/-- The key stream taken twice cancels. -/
theorem stream_stream {ks : List (List Byte)} (h : Keys ks) (n : Nat) (c : Nat → List Byte) {p : List Byte}
    (hp : p.length ≤ 16 * n) : stream ks n c (stream ks n c p) = p := by
  induction n generalizing c p with
  | zero => exact (List.length_eq_zero_iff.1 (by omega)).symm
  | succ n ih =>
    have hk := length_cipher h (c 0)
    have hd : (p.drop 16).length ≤ 16 * n := by simp; omega
    obtain ⟨ht, hr⟩ := split_append (n := p.length) (a := xor (p.take 16) (cipher ks (c 0)))
      (b := stream ks n (fun i => c (i + 1)) (p.drop 16)) (by simp [hk])
      ((length_stream h n _ hd).trans (List.length_drop ..))
    simp only [stream, ht, hr, ih _ hd]
    rw [xor_xor_cancel _ _ (by simp [hk]), List.take_append_drop]

theorem length_sivStream {key : List Byte} (h : key.length = 32) (iv p : List Byte) :
    (sivStream key iv p).length = p.length :=
  length_stream (keys_roundKeys (by simp [h])) _ _ (by omega)

theorem sivStream_sivStream {key : List Byte} (h : key.length = 32) (iv p : List Byte) :
    sivStream key iv (sivStream key iv p) = p := by
  rw [sivStream, length_sivStream h]
  exact stream_stream (keys_roundKeys (by simp [h])) _ _ (by omega)

/-! ### Sealing and opening (R299) -/

theorem length_sivSeal {key : List Byte} (h : key.length = 32) (ads : List (List Byte)) (p : List Byte) :
    (sivSeal key ads p).length = 16 + p.length := by
  rw [sivSeal, List.length_append, length_s2v (keys_roundKeys (by simp [h])), length_sivStream h]

/-- What AES-SIV sealed opens, under the same key and associated strings, to the plaintext. -/
theorem sivOpen_sivSeal {key : List Byte} (h : key.length = 32) (ads : List (List Byte)) (p : List Byte) :
    sivOpen key ads (sivSeal key ads p) = some p := by
  have hiv := length_s2v (keys_roundKeys (key := key.take 16) (by simp [h])) ads p
  have hl : 16 ≤ (sivSeal key ads p).length := by rw [length_sivSeal h]; omega
  have ht : (sivSeal key ads p).take 16 = s2v (roundKeys (key.take 16)) ads p := List.take_left' hiv
  have hd : (sivSeal key ads p).drop 16 = sivStream key (s2v (roundKeys (key.take 16)) ads p) p := List.drop_left' hiv
  simp [sivOpen, ht, hd, hl, sivStream_sivStream h]

end Aes

/-! ### Cookies (R299) -/

theorem beAt_append {a : List Byte} {n : Nat} (h : a.length = n) (b : List Byte) :
    beAt (a ++ b) 0 n = Aes.natOfBe a := by
  rw [beAt, List.drop_zero, List.take_left' h]

theorem natOfBe_beNat (n x : Nat) : Aes.natOfBe (beNat n x) = x % 256 ^ n := by
  rw [Aes.natOfBe, beNat, List.reverse_reverse, natOfLe_leNat]

theorem cookieKeyId_mintCookie (key : Dig) (id : BitVec 32) (n : List Byte) (c2s s2c : Dig) :
    cookieKeyId (mintCookie key id n c2s s2c) = id := by
  rw [cookieKeyId, mintCookie, List.append_assoc, beAt_append (length_beNat ..), natOfBe_beNat,
    Nat.mod_eq_of_lt (b := 256 ^ 4) id.isLt, BitVec.ofNat_toNat, BitVec.setWidth_eq]

/-- A cookie is KEYID, the nonce, the synthetic IV and 68 sealed bytes. -/
theorem length_mintCookie (key : Dig) (id : BitVec 32) {n : List Byte} (h : n.length = 16) (c2s s2c : Dig) :
    (mintCookie key id n c2s s2c).length = 104 := by
  simp [mintCookie, Aes.length_sivSeal, h]

/-- The key pair that a cookie seals, with its AEAD identifier. -/
theorem digOf_cookieKeys (c2s s2c : Dig) :
    let p := [0x00, 0x0F, 0x00, 0x00] ++ digBytes c2s ++ digBytes s2c
    beAt p 0 2 = 15 ∧ digOf ((p.drop 4).take 32) = c2s ∧ digOf ((p.drop 36).take 32) = s2c := by
  refine ⟨rfl, ?_, ?_⟩
  · rw [List.append_assoc, List.drop_left' (by rfl), List.take_left' (length_digBytes _), digOf_digBytes]
  · rw [List.drop_left' (by simp), List.take_of_length_le (by simp), digOf_digBytes]

/-- A minted cookie opens under its key to the pair of keys. -/
theorem openCookie_mintCookie (key : Dig) (id : BitVec 32) {n : List Byte} (h : n.length = 16) (c2s s2c : Dig) :
    openCookie key (mintCookie key id n c2s s2c) = some (c2s, s2c) := by
  obtain ⟨haead, hc2s, hs2c⟩ := digOf_cookieKeys c2s s2c
  have hid := length_beNat 4 id.toNat
  have h4 : (mintCookie key id n c2s s2c).take 4 = beNat 4 id.toNat := by
    rw [mintCookie, List.append_assoc, List.take_left' hid]
  have h16 : ((mintCookie key id n c2s s2c).drop 4).take 16 = n := by
    rw [mintCookie, List.append_assoc, List.drop_left' hid, List.take_left' h]
  have h20 : (mintCookie key id n c2s s2c).drop 20 = Aes.sivSeal (digBytes key) [beNat 4 id.toNat, n]
      ([0x00, 0x0F, 0x00, 0x00] ++ digBytes c2s ++ digBytes s2c) := by
    rw [mintCookie, List.drop_left' (by simp [h])]
  simp only [openCookie, h4, h16, h20, Aes.sivOpen_sivSeal (length_digBytes key), haead, hc2s, hs2c, if_true]

end Sys2Proof

namespace Sys2Proof.Machine

/-- Settles O18: TAI96 values by arithmetic on their fields, packets from the words of their header, and cookies by
AES-SIV, whose key stream taken twice cancels. -/
theorem codesReadBack : Obligations.CodesReadBack :=
  ⟨fun _ => taiOf_reads_back, fun _ => taiOf_taiNat, taiWords_eq, fun p _ => ofWords_header_append p,
    fun key id _ c2s s2c h => ⟨length_mintCookie key id h c2s s2c, cookieKeyId_mintCookie key id _ c2s s2c,
      openCookie_mintCookie key id h c2s s2c⟩⟩

end Sys2Proof.Machine
end

section
/-! SUPPORT. Error bounds and the flag byte (R7, R8), and what reset leaves. -/

namespace Sys2Proof.Machine

/-! ### Error bounds and flags (R7, R8) -/

/-- R7: EB is the bound, or 0xFF_FFFF where the bound does not fit below that. -/
theorem toNat_ebSat (n : Nat) : (ebSat n).toNat = if n < 0xFFFFFF then n else 0xFFFFFF := by
  unfold ebSat
  split
  · rw [BitVec.toNat_ofNat]; omega
  · rfl

/-- SAT alone, in bit 0. -/
theorem getLsbD_satBit (n i : Nat) : (satBit n).getLsbD i = (decide (i = 0) && decide (0xFFFFFF ≤ n)) := by
  unfold satBit
  by_cases h : 0xFFFFFF ≤ n
  · simp [h, BitVec.getLsbD_one]
  · simp [h]

/-- R8: the bits of the flag byte without SAT, each the device's condition. -/
theorem has_flagsBase (s : State) (i : Nat) (hi : i < 8) :
    has s.flagsBase i =
      [false, s.drydown, s.acd.macerate, s.flt.safe, decide (s.acd.stepOut ≠ 0)].getD i false := by
  unfold State.flagsBase
  generalize s.drydown = a, s.acd.macerate = b, s.flt.safe = c, decide (s.acd.stepOut ≠ 0) = d
  revert a b c d i
  decide

theorem drydown_iff (s : State) :
    s.drydown = true ↔ s.acd.state = .drydownIn ∨ s.acd.state = .drydownOut := by
  unfold State.drydown
  cases s.acd.state <;> simp

/-- SAT is bit 0 of a stamp's flags; the other bits are those of the device's condition. -/
theorem has_flagsFor (s : State) (n i : Nat) (hi : i < 8) :
    has (s.flagsFor n) i =
      [decide (0xFFFFFF ≤ n), s.drydown, s.acd.macerate, s.flt.safe, decide (s.acd.stepOut ≠ 0)].getD i false := by
  have hor : has (s.flagsFor n) i = (has s.flagsBase i || (satBit n).getLsbD i) := BitVec.getLsbD_or
  rw [hor, has_flagsBase s i hi, getLsbD_satBit]
  cases i <;> simp

/-- Settles O19, by the bits of the flag byte. -/
theorem boundsAndFlags : Obligations.BoundsAndFlags := by
  intro s e t
  have hf : ∀ i, i < 8 → has t.flags i = _ := has_flagsFor s (s.ebAccord + e)
  refine ⟨toNat_ebSat _, hf 0 (by omega), ?_, hf 2 (by omega), hf 3 (by omega), hf 4 (by omega), hf 5 (by omega),
    hf 6 (by omega), hf 7 (by omega)⟩
  rw [← drydown_iff, hf 1 (by omega)]
  rfl

/-! ### Reset -/

/-- Every entry of a table that starts out the same. -/
theorem tabGet_replicate {α : Type} {n i : Nat} (h : i < n) (x d : α) : Tab.get (Vector.replicate n x) i d = x := by
  simp [Tab.get, h]

/-- At reset every mailbox, semaphore and the queue of scheduled packets is empty. -/
theorem emptied_reset : Emptied State.reset :=
  ⟨by decide, fun _ hi => tabGet_replicate hi none none, rfl⟩

theorem ring_reset {n : Nat} (h : n < 64) : State.reset.ring n = Ring.reset := tabGet_replicate h _ _

theorem kslot_reset {k : Nat} (h : k < 64) : State.reset.kslot k = KeySlot.reset := tabGet_replicate h _ _

/-- Settles O29: each field as its block's reset value gives it, the tables by their one starting entry. -/
theorem resetValues : Obligations.ResetValues :=
  ⟨rfl, rfl, rfl, rfl, rfl, rfl, rfl, emptied_reset, fun _ h => by rw [ring_reset h]; exact ⟨rfl, rfl, rfl⟩,
    fun _ h => by rw [kslot_reset h]; rfl, rfl, rfl, rfl, rfl⟩

end Sys2Proof.Machine
end

section
/-! SUPPORT. Register accesses: one 32-bit access that reaches a register, and what the register's read or write does
(R12, R30, R31, R36 to R38, R55 to R61, R101). -/

namespace Sys2Proof.Machine

/-! ### Runs of registers -/

/-- Entry `k` of a run is the register `k` strides after the first. -/
theorem span_eq_some {a base stride n k : Nat} (hs : 0 < stride) :
    span a base stride n = some k ↔ k < n ∧ a = base + stride * k := by
  simp only [span, Bool.and_eq_true, decide_eq_true_eq, beq_iff_eq, Option.ite_none_right_eq_some, Option.some.injEq]
  constructor
  · rintro ⟨⟨⟨hb, hm⟩, hn⟩, rfl⟩
    have := Nat.mul_div_cancel' (Nat.dvd_of_mod_eq_zero hm)
    exact ⟨hn, by omega⟩
  · rintro ⟨hn, rfl⟩
    simpa [Nat.mul_div_cancel_left _ hs] using hn

theorem span_eq_none {a base stride n : Nat} (hs : 0 < stride) :
    span a base stride n = none ↔ ∀ k < n, a ≠ base + stride * k := by
  simp only [Option.eq_none_iff_forall_ne_some, ne_eq, span_eq_some hs, not_and]

/-! ### One access -/

/-- M1 and M2 reach every register below the top of their range (R38). -/
theorem outOfRange_serial {m : BitVec 4} {addr : W32} (hm : m = 1 ∨ m = 2) (ha : addr.toNat ≤ serialTop) :
    outOfRange m addr = false := by
  rcases hm with rfl | rfl <;> simp [outOfRange, Nat.not_lt.2 ha]

/-- The three reading rows are one read. -/
theorem exec_readRow {dt : Nat} {r : BusRead} {c : Instr} (s : State)
    (hc : c ∈ [Instr.queuePop dt r, .rcCounterRead dt r, .shadowLatchRead dt r]) :
    exec c s = (s.advance dt).busRead r := by
  simp only [List.mem_cons, List.not_mem_nil, or_false] at hc
  rcases hc with rfl | rfl | rfl <;> rfl

/-- The two writing rows are one write. -/
theorem exec_writeRow {dt : Nat} {w : BusWrite} {c : Instr} (s : State)
    (hc : c ∈ [Instr.registerWrite dt w, .intStatusW1c dt w]) : exec c s = (s.advance dt).busWrite w := by
  simp only [List.mem_cons, List.not_mem_nil, or_false] at hc
  rcases hc with rfl | rfl <;> rfl

/-- The state of a read before its first word: no word is kept yet. -/
def State.readStart (u : State) : State := { u with cmd := { u.cmd with readWords := [] } }

/-- A word's read, kept. -/
def State.keepWord (t : State) : State :=
  { t with cmd := { t.cmd with readWords := t.cmd.readWords ++ [t.cmd.readWord] } }

theorem State.access_eq_next {s : State} {m : BitVec 4} {addrs : List W32} (f : State → State)
    (hm : s.reached m = true) (ha : offMap m addrs = false) : s.access m addrs f = .next (f s) := by
  simp [State.access, hm, ha]

theorem offMap_singleton {m : BitVec 4} {addr : W32} (ha : addr.toNat < bar0) : offMap m [addr] = false := by
  simp [offMap, ha]

/-- A read outside BAR2 reads its registers in order. -/
theorem State.busRead_eq {u : State} {r : BusRead} {m : BitVec 4} {addrs : List W32} (hr : u.reads r = (m, addrs))
    (hb : ∀ o w, r ≠ .bar2 o w) (hm : u.reached m = true) (ha : offMap m addrs = false) :
    u.busRead r = .next (addrs.foldl (State.readBurst m) u.readStart) := by
  rw [State.busRead, hr, State.access_eq_next _ hm ha]
  cases r with
  | bar2 o w => exact absurd rfl (hb o w)
  | _ => rfl

/-- A 32-bit read of a register below the end of BAR0. -/
theorem exec_readRow_one {dt : Nat} {r : BusRead} {c : Instr} {s : State} {m : BitVec 4} {addr : W32}
    (hc : c ∈ [Instr.queuePop dt r, .rcCounterRead dt r, .shadowLatchRead dt r])
    (hr : (s.advance dt).reads r = (m, [addr])) (hb : ∀ o w, r ≠ .bar2 o w) (hm : (s.advance dt).reached m = true)
    (ha : addr.toNat < bar0) : exec c s = .next (State.readReg m addr (s.advance dt).readStart).keepWord := by
  rw [exec_readRow s hc, State.busRead_eq hr hb hm (offMap_singleton ha)]
  rfl

/-- A write of registers touches nothing beside them. -/
theorem State.otherWrite_of_writes {u : State} {w : BusWrite} {m : BitVec 4} {x : W32 × W32}
    (hw : u.writes w = (m, [x])) : u.otherWrite w = u := by
  cases w with
  | bar2 | msixControl | benit => simp [State.writes] at hw
  | _ => rfl

/-- A 32-bit write of a register below the end of BAR0. -/
theorem State.busWrite_one {u : State} {w : BusWrite} {m : BitVec 4} {addr v : W32} (hw : u.writes w = (m, [(addr, v)]))
    (hm : u.reached m = true) (ha : addr.toNat < bar0) : u.busWrite w = .next (State.regWrite m addr v u) := by
  have ho : offMap m ([(addr, v)].map Prod.fst) = false := offMap_singleton ha
  rw [State.busWrite, hw, State.access_eq_next _ hm ho, State.otherWrite_of_writes hw]
  rfl

theorem exec_writeRow_one {dt : Nat} {w : BusWrite} {c : Instr} {s : State} {m : BitVec 4} {addr v : W32}
    (hc : c ∈ [Instr.registerWrite dt w, .intStatusW1c dt w]) (hw : (s.advance dt).writes w = (m, [(addr, v)]))
    (hm : (s.advance dt).reached m = true) (ha : addr.toNat < bar0) :
    exec c s = .next (State.regWrite m addr v (s.advance dt)) :=
  (exec_writeRow s hc).trans (State.busWrite_one hw hm ha)

/-! ### Queues (R58) -/

theorem popAt_tic {a k : Nat} (h : span a 0x201028 0x100 32 = some k) :
    popAt a = some (pdTic, 5, fun s m addr => s.popTic m addr k) := by
  have hg : span a 0x301030 0x100 32 = none := by
    rw [span_eq_none (by decide)]; rw [span_eq_some (by decide)] at h; omega
  simp only [popAt, hg, h]

theorem popAt_gns {a k : Nat} (h : span a 0x301030 0x100 32 = some k) :
    popAt a = some (pdGnss, 12, fun s m addr => s.popGns m addr k) := by
  simp only [popAt, h]

theorem popAt_mains : popAt 0xB00120 = some (1, 7, fun s m addr => s.popMains m addr) := rfl

/-- No mailbox's TAKE and no semaphore lies where a queue's POP register does. -/
theorem span_eq_none_of_popAt {a : Nat} (h : (popAt a).isSome = true) :
    span a 0x10044 0x80 8 = none ∧ span a 0x11000 4 32 = none := by
  have ha : 0x20000 ≤ a := by
    by_contra hl
    have hg : span a 0x301030 0x100 32 = none := by rw [span_eq_none (by decide)]; omega
    have ht : span a 0x201028 0x100 32 = none := by rw [span_eq_none (by decide)]; omega
    have hm : a ≠ 0xB00120 := by omega
    simp [popAt, hg, ht, hm] at h
  exact ⟨(span_eq_none (by decide)).2 (by omega), (span_eq_none (by decide)).2 (by omega)⟩

/-! ### What lies at a register that is read -/

section
variable {m : BitVec 4} {addr : W32} {v : State}

/-- A queue of a ready domain is popped. -/
theorem readReg_pop {p : Nat × Nat × (State → BitVec 4 → W32 → State)} (hr : outOfRange m addr = false)
    (hg : v.noGns addr.toNat = false) (hp : popAt addr.toNat = some p) (hd : v.ready p.1 = true) :
    State.readReg m addr v = p.2.2 v m addr := by
  obtain ⟨hx, hs⟩ := span_eq_none_of_popAt (a := addr.toNat) (by rw [hp]; rfl)
  simp [State.readReg, hr, hg, hx, hs, hp, State.inDomain, hd]

/-- A register that is no mailbox's TAKE, no semaphore and no queue, in the master's range (R31, R38). -/
structure Plain (m : BitVec 4) (addr : W32) (v : State) : Prop where
  range : outOfRange m addr = false
  gns : v.noGns addr.toNat = false
  take : span addr.toNat 0x10044 0x80 8 = none
  sem : span addr.toNat 0x11000 4 32 = none
  pop : popAt addr.toNat = none

theorem readReg_rc (h : Plain m addr v) {x : Rc} (hx : v.rcAt addr.toNat = some x) :
    State.readReg m addr v = v.inDomain x.dom (x.read m addr) := by
  obtain ⟨hr, hg, ht, hs, hp⟩ := h
  simp [State.readReg, hr, hg, ht, hs, hp, hx]

theorem readReg_record (h : Plain m addr v) {d : Nat} {ws : List W32} (hx : v.rcAt addr.toNat = none)
    (hc : v.recordAt addr.toNat = some (d, ws)) : State.readReg m addr v = v.inDomain d (v.latchWords m addr ws) := by
  obtain ⟨hr, hg, ht, hs, hp⟩ := h
  simp [State.readReg, hr, hg, ht, hs, hp, hx, hc]

theorem readReg_later (h : Plain m addr v) {d : Nat} (hx : v.rcAt addr.toNat = none) (hc : v.recordAt addr.toNat = none)
    (hl : v.laterIn addr.toNat = some d) :
    State.readReg m addr v = v.inDomain d (v.answerRead (v.shadowWord m addr.toNat)) := by
  obtain ⟨hr, hg, ht, hs, hp⟩ := h
  simp [State.readReg, hr, hg, ht, hs, hp, hx, hc, hl]

theorem readReg_regGet (h : Plain m addr v) {d : Nat} {w : W32} (hx : v.rcAt addr.toNat = none)
    (hc : v.recordAt addr.toNat = none) (hl : v.laterIn addr.toNat = none) (hw : v.regGet addr.toNat = some (d, w)) :
    State.readReg m addr v = v.inDomain d (v.answerRead w) := by
  obtain ⟨hr, hg, ht, hs, hp⟩ := h
  simp [State.readReg, hr, hg, ht, hs, hp, hx, hc, hl, hw]

theorem readReg_reserved (h : Plain m addr v) (hx : v.rcAt addr.toNat = none) (hc : v.recordAt addr.toNat = none)
    (hl : v.laterIn addr.toNat = none) (hw : v.regGet addr.toNat = none) :
    State.readReg m addr v = v.answerRead badRead := by
  obtain ⟨hr, hg, ht, hs, hp⟩ := h
  simp [State.readReg, hr, hg, ht, hs, hp, hx, hc, hl, hw]

end

theorem State.inDomain_ready {s t : State} {d : Nat} (h : s.ready d = true) : s.inDomain d t = t := if_pos h

theorem State.inDomain_off {s t : State} {d : Nat} (h : s.ready d = false) :
    s.inDomain d t = s.answerRead (offRead d) := by simp [State.inDomain, h]

theorem Rc.read_narrow {x : Rc} (h : x.wide = false) (m : BitVec 4) (addr : W32) :
    x.read m addr = x.cleared.answerRead (x.val.setWidth 32) := by simp [Rc.read, h]

theorem Rc.read_wide {x : Rc} (h : x.wide = true) (m : BitVec 4) (addr : W32) :
    x.read m addr = (x.cleared.latch m addr [x.val.extractLsb' 32 32]).answerRead (x.val.setWidth 32) := by
  simp [Rc.read, h]

/-! ### What lies at a register that is written -/

section
variable {m : BitVec 4} {addr v : W32} {u : State} {g : Nat}

/-- The interrupt registers of a group: their writes are those of `maskWrite`. -/
theorem regWrite_interrupt (hr : outOfRange m addr = false) (h : 0x28000 ≤ addr.toNat ∧ addr.toNat < 0x28200) :
    State.regWrite m addr v u = u.maskWrite m addr.toNat v := by
  have hx : ¬(0x10000 ≤ addr.toNat ∧ addr.toNat < 0x20000) := by omega
  simp only [State.regWrite, hr, if_neg hx, if_pos h, Bool.false_eq_true, if_false]

theorem maskWrite_maskMsi (hg : g < 16) (ha : addr.toNat = 0x28008 + 0x20 * g) :
    u.maskWrite m addr.toNat v = if m == 0 then { u with cmd := u.cmd.sendNew { u.cmd with
      groups := Tab.mod u.cmd.groups g fun q => { q with maskMsi := v } } } else u.refuseWrite := by
  have hs : span addr.toNat 0x28008 0x20 16 = some g := (span_eq_some (by decide)).2 ⟨hg, ha⟩
  simp only [State.maskWrite, hs]

theorem maskWrite_maskPin (hg : g < 16) (ha : addr.toNat = 0x28010 + 0x20 * g) :
    u.maskWrite m addr.toNat v = if isSerial m then { u with cmd := { u.cmd with
      groups := Tab.mod u.cmd.groups g fun q => { q with maskPin := v } } } else u.refuseWrite := by
  have hs : span addr.toNat 0x28010 0x20 16 = some g := (span_eq_some (by decide)).2 ⟨hg, ha⟩
  have hn : span addr.toNat 0x28008 0x20 16 = none := by rw [span_eq_none (by decide)]; omega
  simp only [State.maskWrite, hs, hn]

/-- Any other interrupt register is written as a status copy. -/
theorem maskWrite_status (h : addr.toNat % 0x20 = 4 ∨ addr.toNat % 0x20 = 12) :
    u.maskWrite m addr.toNat v = State.statusWrite m addr v u := by
  have hs : span addr.toNat 0x28008 0x20 16 = none := by rw [span_eq_none (by decide)]; omega
  have hp : span addr.toNat 0x28010 0x20 16 = none := by rw [span_eq_none (by decide)]; omega
  simp only [State.maskWrite, hs, hp, BitVec.ofNat_toNat, BitVec.setWidth_eq]

theorem statusWrite_host (hg : g < 16) (ha : addr.toNat = 0x28004 + 0x20 * g) :
    State.statusWrite m addr v u = if m == 0 then u.hostW1c g v else u.refuseWrite := by
  have hs : span addr.toNat 0x28004 0x20 16 = some g := (span_eq_some (by decide)).2 ⟨hg, ha⟩
  simp only [State.statusWrite, hs]

theorem statusWrite_pin (hg : g < 16) (ha : addr.toNat = 0x2800C + 0x20 * g) :
    State.statusWrite m addr v u = if isSerial m then u.pinW1c g v else u.refuseWrite := by
  have hs : span addr.toNat 0x2800C 0x20 16 = some g := (span_eq_some (by decide)).2 ⟨hg, ha⟩
  have hn : span addr.toNat 0x28004 0x20 16 = none := by rw [span_eq_none (by decide)]; omega
  simp only [State.statusWrite, hs, hn]

end

/-- MBX_n_DATAi is written by the mailbox's sender while the mailbox is empty (R55). -/
theorem regWrite_mbxData {m : BitVec 4} {addr v : W32} {u : State} {n i : Nat} (hr : outOfRange m addr = false)
    (hn : n < 8) (hi : i < 16) (ha : addr.toNat = 0x10000 + 0x80 * n + 4 * i) (hs : (u.mbx n).sender = m)
    (hf : (u.mbx n).full = false) :
    State.regWrite m addr v u = u.modMbx n fun x => { x with data := Tab.set x.data i v } := by
  have hx : 0x10000 ≤ addr.toNat ∧ addr.toNat < 0x20000 := by omega
  have hm : 0x10000 ≤ addr.toNat ∧ addr.toNat < 0x10400 := by omega
  have hq : (addr.toNat - 0x10000) / 0x80 = n := by omega
  have ho : span (addr.toNat % 0x80) 0 4 16 = some i := (span_eq_some (by decide)).2 ⟨hi, by omega⟩
  simp only [State.regWrite, hr, Bool.false_eq_true, if_false, if_pos hx, State.mbxWrite, if_pos hm, hq, ho,
    State.mbxData, hs, bne_self_eq_false, hf]

/-- The host clears a ring's error bits (R38, R52). -/
theorem regWrite_ringErr {addr v : W32} {u : State} {n : Nat} (hd : u.ready pdPcie = true) (hn : n < 64)
    (ha : addr.toNat = 0x1000014 + 0x40 * n) :
    State.regWrite 0 addr v u = u.modRing n fun r => { r with
      ptrErr := r.ptrErr && !v.getLsbD 1, busErr := r.busErr && !v.getLsbD 2 } := by
  have hx : ¬(0x10000 ≤ addr.toNat ∧ addr.toNat < 0x20000) := by omega
  have hi : ¬(0x28000 ≤ addr.toNat ∧ addr.toNat < 0x28200) := by omega
  have hm : 0x1000000 ≤ addr.toNat ∧ addr.toNat < 0x2000000 := by omega
  have hq : (addr.toNat - 0x1000000) / 0x40 = n := by omega
  have ho : addr.toNat % 0x40 = 0x14 := by omega
  simp [State.regWrite, outOfRange, hx, hi, hm, State.dmaWrite, hd, hq, ho, Nat.not_le.2 hn]

/-! ### The accesses run -/

/-- A 32-bit write of an interrupt register, by a master that reaches the low part of the map. -/
theorem exec_interruptWrite {dt : Nat} {w : BusWrite} {c : Instr} {s : State} {m : BitVec 4} {addr v : W32}
    (hc : c ∈ [Instr.registerWrite dt w, .intStatusW1c dt w]) (hw : (s.advance dt).writes w = (m, [(addr, v)]))
    (hm : (s.advance dt).reached m = true) (hr : addr.toNat ≤ serialTop → outOfRange m addr = false)
    (ha : 0x28000 ≤ addr.toNat ∧ addr.toNat < 0x28200) :
    exec c s = .next ((s.advance dt).maskWrite m addr.toNat v) := by
  rw [exec_writeRow_one hc hw hm (by unfold bar0; omega), regWrite_interrupt (hr (by unfold serialTop; omega)) ha]

/-- Settles O46: each access is one read or one write of the register at its address, and that register's own lemma says
what it does. -/
theorem registerAccessesRun : Obligations.RegisterAccessesRun := by
  unfold Obligations.RegisterAccessesRun
  intro kept asked told
  refine ⟨?pops, ?reads, ?misaligned, ?hostInterrupts, ?boardInterrupts, ?mailbox, ?ring⟩
  case pops =>
    intro dt r m addr s u v hr hb hm hrange hbar hgns c hc
    have hrun : exec c s = .next (kept (State.readReg m addr v)) := exec_readRow_one hc hr hb hm hbar
    refine ⟨fun k hk hd => ?_, fun k hk hd => ?_, fun ha hd => ?_⟩
    · rw [hrun, readReg_pop (v := v) hrange hgns (popAt_tic hk) hd]
    · rw [hrun, readReg_pop (v := v) hrange hgns (popAt_gns hk) hd]
    · subst ha
      rw [hrun, readReg_pop (v := v) hrange hgns popAt_mains hd]
  case reads =>
    intro dt r m addr s u v hr hb hm hrange hbar hgns htake hsem hpop c hc
    have hrun : exec c s = .next (kept (State.readReg m addr v)) := exec_readRow_one hc hr hb hm hbar
    have hp : Plain m addr v := ⟨hrange, hgns, htake, hsem, hpop⟩
    rw [hrun]
    refine ⟨fun x hx hd => ?_, fun x hx hd hw => ?_, fun x hx hd hw => ?_, fun d ws hx hrec hd => ?_,
      fun d hx hrec hl hd => ?_, fun d w hx hrec hl hw => ?_, fun hx hrec hl hw => ?_⟩
    · rw [readReg_rc hp hx, State.inDomain_off hd, offRead]
    · rw [readReg_rc hp hx, State.inDomain_ready hd, Rc.read_narrow hw]
    · rw [readReg_rc hp hx, State.inDomain_ready hd, Rc.read_wide hw]
    · rw [readReg_record hp hx hrec, State.inDomain_ready hd, State.latchWords]
    · rw [readReg_later hp hx hrec hl, State.inDomain_ready hd]
    · rw [readReg_regGet hp hx hrec hl hw]
      cases hd : v.ready d with
      | true => rw [State.inDomain_ready hd, if_pos rfl]
      | false => rw [State.inDomain_off hd, if_neg (by decide), offRead]
    · rw [readReg_reserved hp hx hrec hl hw, badRead]
  case misaligned =>
    intro dt r m s u hr hb hm c hc
    rw [exec_readRow s hc, State.busRead_eq hr hb hm rfl]
    rfl
  case hostInterrupts =>
    intro dt w addr v s u hw hm g hg c hc
    have hrun := exec_interruptWrite hc hw hm (fun _ => rfl)
    refine ⟨fun ha => ?_, fun ha => ?_, fun ha => ?_⟩
    · rw [hrun (by omega), maskWrite_status (by omega), statusWrite_host hg ha]; rfl
    · rw [hrun (by omega), maskWrite_maskMsi hg ha]; rfl
    · rw [hrun (by omega)]
      rcases ha with ha | ha
      · rw [maskWrite_status (by omega), statusWrite_pin hg ha]; rfl
      · rw [maskWrite_maskPin hg ha]; rfl
  case boardInterrupts =>
    intro dt w m addr v s u hw hm hserial g hg c hc
    have hs : isSerial m = true := by simpa [isSerial] using hserial
    have h0 : (m == 0) = false := by rcases hserial with rfl | rfl <;> rfl
    have hrun := exec_interruptWrite hc hw hm (outOfRange_serial hserial)
    refine ⟨fun ha => ?_, fun ha => ?_, fun ha => ?_⟩
    · rw [hrun (by omega), maskWrite_status (by omega), statusWrite_pin hg ha, hs, if_pos rfl]
    · rw [hrun (by omega), maskWrite_maskPin hg ha, hs, if_pos rfl]
    · rw [hrun (by omega)]
      rcases ha with ha | ha
      · rw [maskWrite_status (by omega), statusWrite_host hg ha, h0, if_neg (by decide)]
      · rw [maskWrite_maskMsi hg ha, h0, if_neg (by decide)]
  case mailbox =>
    intro dt w m addr v s u hw hm hrange n i hn hi ha hsender hfull c hc
    rw [exec_writeRow_one hc hw hm (by unfold bar0; omega), regWrite_mbxData hrange hn hi ha hsender hfull]
  case ring =>
    intro dt addr v s u hm hd n hn ha
    have hal : addr.toNat % 4 = 0 := by omega
    have hw : u.writes (.bar0 addr false v) = (0, [(addr, v.setWidth 32)]) := by
      simp [State.writes, hostSpan, hal]
    rw [exec_writeRow_one (List.mem_cons_self ..) hw hm (by unfold bar0; omega), regWrite_ringErr hd hn ha]
    simp

end Sys2Proof.Machine
end

section
/-! SUPPORT. Which commands stop: register accesses past BAR0 alone (R29, R38). -/

namespace Sys2Proof.Machine

open Host

/-- Every row that is no register access completes, whatever the state: its meaning ends in a next state on each of its
branches. -/
theorem completes_of_accessOf_none {i : Instr} {u : State} (h : u.accessOf i = none) (s : State) : Completes i s := by
  cases i with
  | queuePop | rcCounterRead | shadowLatchRead | intStatusW1c | registerWrite => simp [State.accessOf] at h
  | txDescriptorFetch | frameReceive | frameRelease | txComplete | linkUp | quadReady | captureRootReady | queueSample
  | commitDecision | ptpDelayReq | ptpUnicastRequest | ptpUnicastCancel | ntpRequest | ntsRequest | ptpSyncInterval
  | ptpFollowUp | ptpAnnounceInterval | grantExpiry | acceptOldExpiry | clientAgeExpiry | logSecondTick
  | logSignatureDone | keyOperationDone | bistDone =>
    simp only [Completes, exec, execTxDescriptorFetch, execFrameReceive, execFrameRelease, execTxComplete, execLinkUp,
      execQuadReady, execCaptureRootReady, execQueueSample, execCommitDecision, execPtpDelayReq, execPtpUnicastRequest,
      execPtpUnicastCancel, execNtpRequest, execNtsRequest, execPtpSyncInterval, execPtpFollowUp,
      execPtpAnnounceInterval, execGrantExpiry, execAcceptOldExpiry, execClientAgeExpiry, execLogSecondTick,
      execLogSignatureDone, execKeyOperationDone, execBistDone]
    repeat' split
    all_goals exact ⟨_, rfl⟩
  | _ => exact ⟨_, rfl⟩

theorem State.busRead_eq_access (u : State) (r : BusRead) : ∃ f, u.busRead r = u.access (u.reads r).1 (u.reads r).2 f := by
  unfold State.busRead
  exact ⟨_, rfl⟩

theorem State.busWrite_eq_access (u : State) (w : BusWrite) :
    ∃ f, u.busWrite w = u.access (u.writes w).1 ((u.writes w).2.map (·.1)) f := by
  unfold State.busWrite
  exact ⟨_, rfl⟩

/-- A register access does what `State.access` says of its master and its addresses. -/
theorem exec_eq_access {i : Instr} {s : State} {x : Nat × BitVec 4 × List W32}
    (h : (s.advance i.dt).accessOf i = some x) :
    x.1 = i.dt ∧ ∃ f, exec i s = (s.advance i.dt).access x.2.1 x.2.2 f := by
  cases i with
  | queuePop | rcCounterRead | shadowLatchRead =>
    cases h
    exact ⟨rfl, State.busRead_eq_access _ _⟩
  | intStatusW1c | registerWrite =>
    cases h
    exact ⟨rfl, State.busWrite_eq_access _ _⟩
  | _ => simp [State.accessOf] at h

theorem offMap_iff {m : BitVec 4} {addrs : List W32} :
    offMap m addrs = true ↔ ∃ a ∈ addrs, outOfRange m a = false ∧ bar0 ≤ a.toNat := by
  simp [offMap]

/-- An access of registers is never refused. -/
theorem State.access_ne_refused (s : State) (m : BitVec 4) (addrs : List W32) (f : State → State) (r : Refusal) :
    s.access m addrs f ≠ .refused r := by
  unfold State.access
  split
  · nofun
  · split <;> nofun

/-- It faults exactly where it reaches the device and names an address past BAR0 in the master's range. -/
theorem State.access_eq_fault_iff {s : State} {m : BitVec 4} {addrs : List W32} {f : State → State} {x : Fault} :
    s.access m addrs f = .fault x ↔ x = .outsideMap ∧ s.reached m = true ∧ offMap m addrs = true := by
  unfold State.access
  cases hr : s.reached m <;> cases ho : offMap m addrs <;> simp [eq_comm]

/-- Settles O4: the five access rows go through `State.access`, and no other row can stop. -/
theorem onlyAccessesPastBar0Fault : Obligations.OnlyAccessesPastBar0Fault := by
  refine ⟨fun i s r hr => ?_, fun i s x hx => ?_, fun i s m addrs ha hm hoff => ?_⟩
  · cases ha : (s.advance i.dt).accessOf i with
    | none =>
      obtain ⟨t, ht⟩ := completes_of_accessOf_none ha s
      rw [ht] at hr; cases hr
    | some a =>
      obtain ⟨-, f, hf⟩ := exec_eq_access ha
      exact State.access_ne_refused _ _ _ _ _ (hf ▸ hr)
  · cases ha : (s.advance i.dt).accessOf i with
    | none =>
      obtain ⟨t, ht⟩ := completes_of_accessOf_none ha s
      rw [ht] at hx; cases hx
    | some a =>
      obtain ⟨hdt, f, hf⟩ := exec_eq_access ha
      obtain ⟨-, hm, hoff⟩ := State.access_eq_fault_iff.1 (hf ▸ hx)
      exact ⟨a.2.1, a.2.2, by rw [← hdt], hm, offMap_iff.1 hoff⟩
  · obtain ⟨-, f, hf⟩ := exec_eq_access ha
    rw [hf]
    exact State.access_eq_fault_iff.2 ⟨rfl, hm, offMap_iff.2 hoff⟩

end Sys2Proof.Machine
end

section
/-! SUPPORT. The accord as a counter (R16, R121). -/

namespace Sys2Proof.Machine

/-! ### The counter over a span of ticks -/

theorem runCount_nil (f t c : Nat) (cur : BitVec 64) : runCount [] f t c cur = (c + (t - f) * cur.toNat, cur, []) := rfl

/-- A change that applies within the span counts from its apply tick on (R16). -/
theorem runCount_cons_le {a t : Nat} (h : a ≤ t) (v : BitVec 64) (q : List (Nat × BitVec 64)) (f c : Nat)
    (cur : BitVec 64) :
    runCount ((a, v) :: q) f t c cur = runCount q (max f (a - 1)) t (c + (a - 1 - f) * cur.toNat) v := if_pos h

/-- A change that applies after the span waits. -/
theorem runCount_cons_lt {a t : Nat} (h : t < a) (v : BitVec 64) (q : List (Nat × BitVec 64)) (f c : Nat)
    (cur : BitVec 64) :
    runCount ((a, v) :: q) f t c cur = (c + (t - f) * cur.toNat, cur, (a, v) :: q) := if_neg (Nat.not_le.2 h)

/-! ### The accord when ticks pass -/

theorem State.advance_acd_ready {s : State} (h : s.ready pdTime = true) (dt : Nat) :
    (s.advance dt).acd = s.acd.run s.ticks dt := if_pos h

theorem State.advance_acd_off {s : State} (h : s.ready pdTime = false) (dt : Nat) : (s.advance dt).acd = s.acd := by
  simp [State.advance, h]

/-- Settles O20: `runCount` over no change, over one that applies within the ticks, and over one that waits. -/
theorem accordCounts : Obligations.AccordCounts := by
  refine ⟨fun s dt hd hq => ?none, fun s dt a v hd hq ha hle => ?applied, fun s dt a v hd hq hlt => ?waits,
    fun s dt hd => State.advance_acd_off hd dt, fun s => ?reading⟩
  case none =>
    rw [State.advance_acd_ready hd, Acd.run, hq, runCount_nil, Nat.add_sub_cancel_left]
  case applied =>
    have hmax : max s.ticks (a - 1) = a - 1 := by omega
    rw [State.advance_acd_ready hd, Acd.run, hq, runCount_cons_le hle, runCount_nil, hmax]
    exact ⟨rfl, rfl, rfl⟩
  case waits =>
    rw [State.advance_acd_ready hd, Acd.run, hq, runCount_cons_lt hlt, Nat.add_sub_cancel_left]
    exact ⟨rfl, rfl⟩
  case reading =>
    unfold State.now16
    omega

end Sys2Proof.Machine
end

section
/-! SUPPORT. The registers that an access path names, and BAR2 (R30, R35 to R37, R61). -/

namespace Sys2Proof.Machine

/-! ### The host's accesses of BAR0 (R30) -/

theorem hostSpan_narrow {a : W32} (h : a.toNat % 4 = 0) : hostSpan a false = [a] := by simp [hostSpan, h]

theorem hostSpan_wide {a : W32} (h : a.toNat % 8 = 0) : hostSpan a true = [a, a + 4] := by simp [hostSpan, h]

theorem hostSpan_narrow_misaligned {a : W32} (h : a.toNat % 4 ≠ 0) : hostSpan a false = [] := by simp [hostSpan, h]

theorem hostSpan_wide_misaligned {a : W32} (h : a.toNat % 8 ≠ 0) : hostSpan a true = [] := by simp [hostSpan, h]

/-! ### Serial transactions (R36, R37) -/

theorem burst_pair (a w x : W32) : burst a [w, x] = [(a, w), (a + 4, x)] := by
  simp [burst, List.mapIdx_cons]

/-- A write transaction whose bytes hold an address and two words. -/
theorem serialWrite_pair {bytes : List (BitVec 8)} {a w x : W32} (hb : beWords bytes = [a, w, x]) :
    serialWrite bytes = if a.toNat % 4 = 0 then [(a, w), (a + 4, x)] else [] := by
  simp [serialWrite, hb, aligned, burst_pair]

/-- A read transaction whose bytes are an address. -/
theorem serialRead_address {bytes : List (BitVec 8)} {a : W32} (n : Nat) (hl : bytes.length = 4)
    (hb : beWords bytes = [a]) :
    serialRead bytes n =
      if a.toNat % 4 = 0 then (List.range n).map fun i => a + BitVec.ofNat 32 (4 * i) else [] := by
  simp [serialRead, hl, hb, aligned]

theorem State.writes_spi_other {k : BitVec 8} (hk : k ≠ 0x02) (s : State) (bs : List (BitVec 8)) :
    s.writes (.spi (k :: bs)) = (1, []) := by
  unfold State.writes
  split <;> simp_all

theorem State.reads_spi_other {k : BitVec 8} (hk : k ≠ 0x0B) (s : State) (bs : List (BitVec 8)) (n : Nat) :
    s.reads (.spi (k :: bs) n) = (1, []) := by
  unfold State.reads
  split <;> simp_all

theorem State.writes_i2c_own (s : State) (bs : List (BitVec 8)) :
    s.writes (.i2c s.i2cAddress bs) = (2, serialWrite bs) := by simp [State.writes]

theorem State.reads_i2c_own (s : State) (bs : List (BitVec 8)) (n : Nat) :
    s.reads (.i2c s.i2cAddress bs n) = (2, serialRead bs n) := by simp [State.reads]

theorem State.writes_i2c_other {s : State} {t : BitVec 7} (ht : t ≠ s.i2cAddress) (bs : List (BitVec 8)) :
    s.writes (.i2c t bs) = (2, []) := by simp [State.writes, ht]

theorem State.reads_i2c_other {s : State} {t : BitVec 7} (ht : t ≠ s.i2cAddress) (bs : List (BitVec 8)) (n : Nat) :
    s.reads (.i2c t bs n) = (2, []) := by simp [State.reads, ht]

/-! ### BAR2 (R35, R61) -/

theorem bar2Span_narrow {o : BitVec 16} (h : o.toNat % 4 = 0) : bar2Span o false = [o.toNat] := by simp [bar2Span, h]

/-- A write that reaches no register of BAR0 does what lies outside it. -/
theorem exec_registerWrite_other {dt : Nat} {w : BusWrite} {s : State} (hw : (s.advance dt).writes w = (0, []))
    (hm : (s.advance dt).reached 0 = true) :
    exec (.registerWrite dt w) s = .next ((s.advance dt).otherWrite w) := by
  rw [exec_writeRow s (List.mem_cons_self ..), State.busWrite, hw, State.access_eq_next _ hm rfl]
  rfl

/-- A 32-bit read of BAR2 leaves its word. -/
theorem exec_bar2Read {dt : Nat} {o : BitVec 16} {s : State} (hm : (s.advance dt).reached 0 = true)
    (ho : o.toNat % 4 = 0) :
    let w := (s.advance dt).cmd.bar2Get o.toNat
    exec (.shadowLatchRead dt (.bar2 o false)) s = .next { s.advance dt with
      cmd := { (s.advance dt).cmd with readWords := [w], readWord := w } } := by
  have hr : (s.advance dt).reads (.bar2 o false) = (0, []) := rfl
  rw [exec_readRow s (List.mem_cons_of_mem _ (List.mem_cons_of_mem _ (List.mem_cons_self ..))), State.busRead, hr,
    State.access_eq_next _ hm rfl]
  simp only [bar2Span_narrow ho]
  rfl

theorem has_putBit_same {w i : Nat} (m : BitVec w) (h : i < w) (b : Bool) : has (putBit m i b) i = b := by
  cases b <;> simp [has, putBit, bitAt, h]

theorem Cmd.msi_masked {c : Cmd} {v : Nat} (he : c.msixEn = true) (hm : c.msixMasked v = true) :
    c.msi v = { c with pba := putBit c.pba v true } := by simp [Cmd.msi, he, hm]

theorem Cmd.msi_unmasked {c : Cmd} {v : Nat} (he : c.msixEn = true) (hm : c.msixMasked v = false) :
    c.msi v = { c with msiSent := Tab.mod c.msiSent v (· + 1), pba := putBit c.pba v false } := by
  simp [Cmd.msi, he, hm]

/-- The word of the mask bit alone. -/
theorem word_mask (w : W32) : word [(0, (w.getLsbD 0).toNat)] = w &&& 1 := by
  rw [show (1 : W32) = 1#32 from rfl, BitVec.and_one_eq_setWidth_ofBool_getLsbD]
  cases w.getLsbD 0 <;> rfl

/-- A word of a table entry reads back as written, of the last one the mask bit alone. -/
theorem Msix.get_put (e : Msix) {i : Nat} (w : W32) (hi : i < 4) :
    (e.put i w).get i = if i = 3 then w &&& 1 else w := by
  match i, hi with
  | 0, _ => exact (BitVec.extractLsb'_append_eq_of_add_le (by decide)).trans BitVec.extractLsb'_eq_self
  | 1, _ => exact BitVec.extractLsb'_append_eq_left
  | 2, _ => rfl
  | 3, _ => exact word_mask w

/-- Settles O47: each path's registers are the words of its bytes, and BAR2 is written and read beside them. -/
theorem accessPathsReachRegisters : Obligations.AccessPathsReachRegisters := by
  refine ⟨fun s a v => ⟨fun h => ?_, fun h => ?_, fun h => ?_, fun h => ?_⟩, ?serial, ?table, ?control, ?read, ?message,
    fun e i w => Msix.get_put e w⟩
  · simp [State.writes, State.reads, hostSpan_narrow h]
  · simp [State.writes, State.reads, hostSpan_wide h]
  · simp [State.writes, State.reads, hostSpan_narrow_misaligned h]
  · simp [State.writes, State.reads, hostSpan_wide_misaligned h]
  case serial =>
    intro s b0 b1 b2 b3 d0 d1 d2 d3 e0 e1 e2 e3 n a bs ws
    have hw : serialWrite bs = if a.toNat % 4 = 0 then ws else [] := serialWrite_pair rfl
    have hw' : serialWrite (bs ++ [d0]) = if a.toNat % 4 = 0 then ws else [] := serialWrite_pair rfl
    have hr := serialRead_address (bytes := [b0, b1, b2, b3]) n rfl rfl
    refine ⟨fun h => ?aligned, fun h => ?misaligned, fun k hk => State.writes_spi_other hk s bs,
      fun k hk => State.reads_spi_other hk s bs n,
      fun t ht => ⟨State.writes_i2c_other ht bs, State.reads_i2c_other ht bs n⟩⟩
    case aligned =>
      rw [if_pos h] at hw hw' hr
      exact ⟨congrArg _ hw, congrArg _ hw', (s.writes_i2c_own bs).trans (congrArg _ hw), congrArg _ hr,
        (s.reads_i2c_own _ n).trans (congrArg _ hr)⟩
    case misaligned =>
      rw [if_neg h] at hw hr
      exact ⟨congrArg _ hw, (s.writes_i2c_own bs).trans (congrArg _ hw), congrArg _ hr⟩
  case table =>
    intro dt o v s u hm ho hlt
    rw [exec_registerWrite_other rfl hm, State.otherWrite, bar2Span_narrow ho]
    simp only [List.zip_cons_cons, List.zip_nil_left, List.foldl_cons, List.foldl_nil, Cmd.bar2Put, if_pos hlt]
    rfl
  case control => exact fun dt en mask s hm => exec_registerWrite_other rfl hm
  case read =>
    intro dt o s u hm ho
    refine ⟨fun hlt => ⟨_, exec_bar2Read hm ho, if_pos hlt, rfl⟩, fun h => ⟨_, exec_bar2Read hm ho, ?_⟩⟩
    subst h
    rfl
  case message =>
    intro c v hv he
    refine ⟨fun hm => ?_, fun hm => ?_⟩
    · rw [Cmd.msi_masked he hm]
      exact ⟨rfl, has_putBit_same _ hv true⟩
    · rw [Cmd.msi_unmasked he hm]
      exact ⟨rfl, has_putBit_same _ hv false⟩

end Sys2Proof.Machine
end

section
/-! SUPPORT. Events of the rings and of the PCIe link (R33, R35, R51, R52, R61, R65, R78). -/

namespace Sys2Proof.Machine

open Host

/-! ### Pointers that the host writes (R51, R52) -/

/-- The host's write of PROD of a host-to-device ring is one of its pointer. -/
theorem State.pointerWrite_prod {u : State} {n : Nat} (hm : u.reached 0 = true) (hn : hostToDevice n = true) (v : W32) :
    u.pointerWrite 0 n true v = u.prodWrite n v := by
  rw [State.pointerWrite, hm, hn]
  rfl

theorem State.pointerWrite_cons {u : State} {n : Nat} (hm : u.reached 0 = true) (hn : hostToDevice n = false) (v : W32) :
    u.pointerWrite 0 n false v = u.consWrite n v := by
  rw [State.pointerWrite, hm, hn]
  rfl

/-- PROD moves forward, and not past SIZE (R52). -/
theorem State.prodWrite_taken {u : State} {n : Nat} {v : BitVec 32} (hu : (u.ring n).used ≤ (v - (u.ring n).cons).toNat)
    (hs : (v - (u.ring n).cons).toNat ≤ (u.ring n).size) : u.prodWrite n v = u.modRing n fun r => { r with prod := v } := by
  simp only [State.prodWrite, decide_eq_true hu, decide_eq_true hs, Bool.and_self, if_true]

/-- CONS of a ring that carries no replies moves forward, and not past PROD (R52). -/
theorem State.consWrite_taken {u : State} {n : Nat} {v : BitVec 32}
    (hu : (v - (u.ring n).cons).toNat ≤ (u.ring n).used) (h2 : n ≠ 2) (h3 : n ≠ 3) :
    u.consWrite n v = (u.modRing n fun r => { r with cons := v }).acqResume := by
  simp only [State.consWrite, if_pos hu, beq_false_of_ne h2, beq_false_of_ne h3, Bool.or_self, Bool.false_and,
    Bool.false_eq_true, if_false]

/-! ### The link (R35, R78) -/

theorem State.hostLinked_iff {u : State} : u.hostLinked = true ↔ u.ready pdPcie = true ∧ u.sys.pcieLink = true := by
  simp [State.hostLinked]

/-- A ring that has been full for its stall time, untold (R65). -/
theorem State.stalled_of_full {u : State} {n t : Nat} (ht : stallTime n = some t) (hd : u.ready pdPcie = true)
    (he : (u.ring n).enable = true) (hf : (u.ring n).size ≤ (u.ring n).used) (hq : (u.ring n).stallTold = false)
    (hl : (u.ring n).fullFrom + t ≤ u.ticks) : u.stalled n = true := by
  simp [State.stalled, ht, hd, he, hf, hq, hl]

/-! ### The events -/

/-- An event whose guard holds acts. -/
theorem next_of_guard {c : Prop} [Decidable c] (h : c) (a b : State) :
    (Outcome.next (if c then a else b) : Res) = .next a := by rw [if_pos h]

/-- An event whose guard keeps it from acting does not hold it back. -/
theorem next_of_not_guard {c : Prop} [Decidable c] (h : ¬c) (a b : State) :
    (Outcome.next (if c then a else b) : Res) = .next b := by rw [if_neg h]

/-- Settles O44: each event under its guard, the pointers by what `pointerWrite` makes of them. -/
theorem ringEventsRun : Obligations.RingEventsRun := by
  refine ⟨?prod, ?cons, ?slot, ?moderation, ?stall, ?dma, fun _ _ _ _ _ => rfl, ?link, ?perst⟩
  case prod =>
    intro dt ring v s u n hm hn hu hs
    rw [exec, execRingProdWrite, State.pointerWrite_prod hm hn, State.prodWrite_taken hu hs]
  case cons =>
    intro dt ring v s u n hm hn hu h2 h3
    rw [exec, execRingConsWrite, State.pointerWrite_cons hm hn, State.consWrite_taken hu h2 h3]
  case slot => exact fun dt ring s hr => next_of_guard hr _ _
  case moderation => exact fun dt ring s hp => next_of_not_guard hp _ _
  case stall =>
    exact fun dt ring s t ht hd he hf hq hl => next_of_guard (State.stalled_of_full ht hd he hf hq hl) _ _
  case dma =>
    intro dt ring s u n hd he v
    have hg : (u.ready pdPcie && (u.ring n).enable) = true := by rw [hd, he]; rfl
    exact ⟨next_of_guard hg _ _, next_of_guard hg _ _, next_of_guard hg _ _⟩
  case link =>
    intro dt s u hd hl
    have hg := State.hostLinked_iff.2 ⟨hd, hl⟩
    exact ⟨next_of_guard hg _ _, next_of_guard hg _ _⟩
  case perst =>
    intro dt s u hd
    refine ⟨next_of_guard (c := (true && u.ready pdPcie) = true) hd _ _, rfl, fun hs => ?_⟩
    exact next_of_guard (c := (u.ready pdPcie && u.sys.devState != .sleep) = true) (by simp [hd, hs]) _ _

end Sys2Proof.Machine
end

section
/-! SUPPORT. Events of the accord, its oscillators and the time bus (R15 to R19, R27, R47, R81 to R83, R121 to R147). -/

namespace Sys2Proof.Machine

open Host

/-! ### Steering and re-entry (R123, R138) -/

/-- The rate that the owner writes: its own value, or what the loop of R451 gave. -/
def State.steerValue (u : State) (v : Option (BitVec 64)) : Int :=
  match v with
  | some x => x.toInt
  | none => u.acd.servoOut.toInt

/-- The owner's write steers while the accord steers (R123). -/
theorem exec_acdSteerWrite_steering {dt : Nat} {m : BitVec 4} {v : Option (BitVec 64)} {s : State}
    (hm : m.toNat = 4 + (s.advance dt).cfg.acd.owner.toNat) (hd : (s.advance dt).ready pdTime = true)
    (hs : (s.advance dt).steering = true) :
    exec (.acdSteerWrite dt m v) s = .next ((s.advance dt).steerWrite ((s.advance dt).steerValue v)) := by
  have hg : ¬((decide (m.toNat ≠ 4 + (s.advance dt).cfg.acd.owner.toNat) || !(s.advance dt).ready pdTime) = true) := by
    simp [hm, hd]
  exact (next_of_not_guard hg _ _).trans (next_of_guard hs _ _)

/-- The owner's write after the servo was lost arms the re-entry (R138). -/
theorem exec_acdSteerWrite_lost {dt : Nat} {m : BitVec 4} {v : Option (BitVec 64)} {s : State}
    (hm : m.toNat = 4 + (s.advance dt).cfg.acd.owner.toNat) (hd : (s.advance dt).ready pdTime = true)
    (hs : (s.advance dt).steering = false) (hl : (s.advance dt).acd.servoLost = true)
    (hf : (s.advance dt).acd.forced = false) (ha : (s.advance dt).acd.state ≠ .safe) :
    exec (.acdSteerWrite dt m v) s = .next { s.advance dt with acd := { (s.advance dt).acd with
      reentry := (s.advance dt).selectedSlot.isSome, reentryAt := (s.advance dt).ticks } } := by
  have hg : ¬((decide (m.toNat ≠ 4 + (s.advance dt).cfg.acd.owner.toNat) || !(s.advance dt).ready pdTime) = true) := by
    simp [hm, hd]
  have hr : ((s.advance dt).acd.servoLost && !(s.advance dt).acd.forced && (s.advance dt).acd.state != .safe) = true := by
    rw [hl, hf, bne_iff_ne.2 ha]; rfl
  exact (next_of_not_guard hg _ _).trans ((next_of_not_guard (Bool.eq_false_iff.1 hs) _ _).trans (next_of_guard hr _ _))

/-- A re-entry that is due takes place at a publication tick after its cause (R138). -/
theorem State.mayReEnter_of {u : State} (hr : u.acd.reentry = true) (hf : u.acd.forced = false)
    (hs : u.acd.state ≠ .safe) (hc : u.acd.state ≠ .cold) (hd : u.ready pdTime = true)
    (hp : u.pubTick u.acd.reentryAt = true) : u.mayReEnter = true := by
  rw [State.mayReEnter, hr, hf, bne_iff_ne.2 hs, bne_iff_ne.2 hc, hd, hp]
  rfl

/-! ### Seeding and maceration (R81 to R83, R144, R145) -/

/-- The accord may be seeded, or found not to be (R81, R83; log entry 74). -/
def State.seedDue (u : State) : Bool :=
  u.ready pdTime && u.acd.cpllLock && (u.keep.restored || u.keep.blank) && !u.sys.seeded && u.acd.state == .cold &&
    !u.acd.calTold

theorem State.seedDue_of {u : State} (hd : u.ready pdTime = true) (hl : u.acd.cpllLock = true)
    (hk : u.keep.restored = true ∨ u.keep.blank = true) (hs : u.sys.seeded = false) (hc : u.acd.state = .cold)
    (ht : u.acd.calTold = false) : u.seedDue = true := by
  have hk' : (u.keep.restored || u.keep.blank) = true := by rwa [Bool.or_eq_true]
  rw [State.seedDue, hd, hl, hk', hs, hc, ht]
  rfl

/-- A seeding that is due seeds from a valid calendar, and without one never (R83). -/
theorem exec_accordSeed_due {dt : Nat} {s : State} (h : (s.advance dt).seedDue = true) :
    exec (.accordSeed dt) s = .next (if (s.advance dt).vbat.calValid then
      let v := (s.advance dt).seedAccord (s.advance dt).calTai (s.advance dt).calEb
      { v with sys := { v.sys with seeded := true } }.raise (src 0 7)
    else { s.advance dt with acd := { (s.advance dt).acd with calTold := true } }.raise (src 0 8)) :=
  next_of_not_guard (c := (!(s.advance dt).seedDue) = true) (by rw [h]; decide) _ _

/-- The loss of lock, where no relock was commanded (R144). -/
theorem State.cpllLost_unasked {u : State} (hr : u.acd.cpllRelock = false) (hd : u.ready pdTime = true) :
    u.cpllLost false = if u.acd.cpllEver then { u with acd := { u.acd with cpllLock := false } }.faultAssert 4
      else { u with acd := { u.acd with cpllLock := false } } := by
  rw [State.cpllLost, hr, hd]
  rfl

/-! ### The leap second (R147) -/

/-- The offset in force once the leap has been made. -/
def State.leapt (u : State) : State :=
  let v := u.setAcdCfg fun c => { c with utcOffsetS := c.leapOffset }
  { v with acd := { v.acd with leapPending := false } }

/-- A leap that is due is made, and committed where the keep takes writes (R147; log entry 28). -/
theorem State.leapNow_due {u : State} (hp : u.acd.leapPending = true) (ht : u.cfg.acd.leapAt.toNat ≤ u.now16 / sec16) :
    u.leapNow =
      let w := if u.keep.ro || u.mon.pfw then u.leapt else (u.leapt.keepWrite none).1.commitCsp
      w.raise (src 3 12) 0 w.cfg.acd.utcOffsetS.toInt := by
  have hg : (u.acd.leapPending && decide (u.cfg.acd.leapAt.toNat ≤ u.now16 / sec16)) = true := by
    rw [hp, decide_eq_true ht]; rfl
  exact if_pos hg

/-! ### Publication and scheduled commands (R18, R47) -/

theorem State.schedRuns_iff {u : State} :
    u.schedRuns = true ↔ u.sys.inReset = false ∧ u.sys.devState ≠ .boot ∧ u.ready pdTime = true ∧ u.sys.after ≠ 1 := by
  simp [State.schedRuns, and_assoc]

/-- Settles O49: each event under its guard; steering, seeding, the leap and what is due by their own lemmas. -/
theorem accordEventsRun : Obligations.AccordEventsRun := by
  refine ⟨?steer, ?timeout, ?reEntry, ?ocxo, ?atom, ?lock, ?loss, fun _ _ _ => rfl, ?maceration, ?seed, ?leapInRam,
    ?leapKept, fun _ _ => rfl, ?check, fun _ _ => rfl, fun _ _ => rfl, ?publication, ?scheduled⟩
  case steer =>
    intro dt m v s u y hm hd
    exact ⟨exec_acdSteerWrite_steering hm hd, exec_acdSteerWrite_lost hm hd⟩
  case timeout =>
    intro dt s u hs hw ht v
    have hg : (u.steering && !u.acd.steerWait &&
        decide (u.acd.lastSteer + u.cfg.acd.servoTimeoutMs.toNat * msTicks ≤ u.ticks)) = true := by
      rw [hs, hw, decide_eq_true ht]; rfl
    exact next_of_guard hg _ _
  case reEntry =>
    intro dt s u hr hf hs hc hd hp v n hn
    have hg := State.mayReEnter_of hr hf hs hc hd hp
    refine (next_of_not_guard (c := (!u.mayReEnter) = true) (by rw [hg]; decide) _ _).trans (congrArg Outcome.next ?_)
    change (match v.selectedSlot with
      | none => v
      | some n => (v.steerTo (-(v.refNow n) * 2 ^ 40) 1).switchDone) = _
    rw [hn]
  case ocxo =>
    intro dt s u ho hd
    exact next_of_not_guard (c := (u.acd.ocxoPresent || !u.ready pdTime) = true) (by rw [ho, hd]; decide) _ _
  case atom =>
    intro dt s u hd
    exact next_of_not_guard (c := (!u.ready pdTime) = true) (by rw [hd]; decide) _ _
  case lock =>
    intro dt s u hl hd hp s1 s2
    exact next_of_not_guard (c := (u.acd.cpllLock || !u.ready pdTime || !u.cpllRefPresent) = true)
      (by rw [hl, hd, hp]; decide) _ _
  case loss => exact fun dt s hr hd => congrArg Outcome.next (State.cpllLost_unasked hr hd)
  case maceration =>
    intro dt s u hm ht
    have hg : (u.acd.macerate && (decide (u.acd.macFrom + u.cfg.acd.macerationS.toNat * sTicks ≤ u.ticks) ||
        (u.cfg.acd.macEarly && u.macStable))) = true := by
      rw [hm, Bool.true_and, Bool.or_eq_true, decide_eq_true_eq, Bool.and_eq_true]
      exact ht
    exact next_of_guard hg _ _
  case seed =>
    intro dt s u hd hl hk hs hc ht
    have hrun := exec_accordSeed_due (State.seedDue_of hd hl hk hs hc ht)
    exact ⟨fun hv => hrun.trans (next_of_guard hv _ _),
      fun hv => hrun.trans (next_of_not_guard (Bool.eq_false_iff.1 hv) _ _)⟩
  case leapInRam =>
    intro dt s u hp ht hk v
    have hg : (u.keep.ro || u.mon.pfw) = true := by rwa [Bool.or_eq_true]
    refine congrArg Outcome.next ((State.leapNow_due hp ht).trans ?_)
    rw [hg]
    rfl
  case leapKept =>
    intro dt s u hp ht hro hpfw v w
    refine congrArg Outcome.next ((State.leapNow_due hp ht).trans ?_)
    rw [hro, hpfw]
    rfl
  case check =>
    intro dt tap value s u hd ht
    have hg (b : Bool) : (!u.ready pdTime || (u.ticks - u.acd.checkFrom) % 1024 != 0 || b) = b := by
      rw [hd, ht]; rfl
    refine ⟨fun hv => next_of_guard ((hg _).trans (beq_iff_eq.2 hv)) _ _, fun hv => ?_⟩
    exact next_of_not_guard (Bool.eq_false_iff.1 ((hg _).trans (beq_false_of_ne hv))) _ _
  case publication =>
    intro dt s u n hi hd hn
    exact next_of_not_guard (c := (u.sys.inReset || !u.ready pdTime || decide (n = 0)) = true)
      (by rw [hi, hd, decide_eq_false hn]; decide) _ _
  case scheduled =>
    intro dt s u hi hb hd ha
    have hg := State.schedRuns_iff.2 ⟨hi, hb, hd, ha⟩
    exact next_of_not_guard (c := (!u.schedRuns) = true) (by rw [hg]; decide) _ _

end Sys2Proof.Machine
end

section
/-! SUPPORT. The REF packets (R119): each body under the guards that its rule names. -/

namespace Sys2Proof.Machine

/-! ### A slot's movements leave the configuration alone -/

/-- A fold whose steps keep a part of the state keeps it. -/
theorem foldl_keeps {α β : Type} (g : State → β) (l : List α) (f : State → α → State) (h : ∀ s a, g (f s a) = g s)
    (s : State) : g (l.foldl f s) = g s := by
  induction l generalizing s with
  | nil => rfl
  | cons a l ih => rw [List.foldl_cons, ih, h]

theorem State.raise_cfg (s : State) (so subject : Nat) (value : Int) (old new : Nat) :
    (s.raise so subject value old new).cfg = s.cfg := (s.raise_still so subject value old new).cfg

theorem State.refHist_cfg (s : State) (n b : Nat) (so : Option Nat) (value : Int) :
    (s.refHist n b so value).cfg = s.cfg := by
  unfold State.refHist
  split
  · rfl
  · cases so with
    | none => rfl
    | some x => exact State.raise_cfg ..

theorem State.qMove_cfg (s : State) (n : Nat) (t : QState) (so : Option Nat) : (s.qMove n t so).cfg = s.cfg := by
  cases so with
  | none => rfl
  | some x => exact State.raise_cfg ..

theorem State.holdStart_cfg (s : State) : s.holdStart.cfg = s.cfg := by
  unfold State.holdStart State.holdBegin
  split <;> rfl

theorem State.servoHold_cfg (s : State) (n : Nat) : (s.servoHold n).cfg = s.cfg := by
  unfold State.servoHold
  split
  · exact s.holdStart_cfg
  · rfl

theorem State.servoResume_cfg (s : State) (n : Nat) : (s.servoResume n).cfg = s.cfg := by
  unfold State.servoResume
  split <;> rfl

theorem State.majRefresh_cfg (s : State) : s.majRefresh.cfg = s.cfg := by
  refine foldl_keeps (·.cfg) _ _ (fun s n => ?_) s
  dsimp only
  split
  · rfl
  · split
    · exact State.raise_cfg ..
    · rfl

theorem State.waitFault_cfg (s : State) (n : Nat) : (s.waitFault n).cfg = s.cfg := by
  unfold State.waitFault
  dsimp only
  split
  · exact State.qMove_cfg ..
  · rw [State.raise_cfg, State.refHist_cfg, State.qMove_cfg]; rfl

theorem State.qualFault_cfg (s : State) (n : Nat) : (s.qualFault n).cfg = s.cfg := by
  unfold State.qualFault
  split
  · rw [State.qMove_cfg, State.servoHold_cfg]
  · rw [State.qMove_cfg]; exact State.servoHold_cfg ..

theorem State.refJudge_cfg (s : State) (n : Nat) (arrived : Bool) : (s.refJudge n arrived).cfg = s.cfg := by
  cases hq : (s.slot n).qstate <;> simp only [State.refJudge, hq] <;> split
  case absent.isTrue | failed.isFalse => exact State.qMove_cfg ..
  case wait.isTrue => exact State.waitFault_cfg ..
  case qualified.isTrue => exact State.qualFault_cfg ..
  case holdoff.isFalse => rw [State.servoResume_cfg, State.refHist_cfg, State.qMove_cfg]; rfl
  all_goals rfl

theorem State.setFaults_cfg (s : State) (n : Nat) (m : BitVec 8) (arrived : Bool) :
    (s.setFaults n m arrived).cfg = s.cfg := by
  unfold State.setFaults
  rw [State.majRefresh_cfg, State.refJudge_cfg, foldl_keeps (·.cfg)]
  · rfl
  · intro s h
    dsimp only
    split
    · exact State.refHist_cfg ..
    · rfl

theorem State.setSource_cfg (s : State) (n : Nat) (invalid limit arrived : Bool) :
    (s.setSource n invalid limit arrived).cfg = s.cfg := by
  unfold State.setSource
  split
  · rfl
  · rw [State.setFaults_cfg]
    cases invalid <;> cases limit <;> simp [State.cellsStale, State.refHist_cfg] <;> rfl

theorem State.refPresence_cfg (s : State) : s.refPresence.cfg = s.cfg := by
  refine foldl_keeps (·.cfg) _ _ (fun s n => ?_) s
  split
  · exact State.refHist_cfg ..
  · rfl

/-- Settles O32: each packet's body under its guards; binding a PTP slave changes the configuration by its binding
alone. -/
theorem refPacketsRun : Obligations.RefPacketsRun := by
  refine ⟨?querySlot, ?queryMatrix, ?queryHistory, ?setSlot, ?setQual, ?setTimers, ?setPriority, ?select, ?clearHistory,
    ?enable, ?setPtpSlave⟩
  case querySlot | queryMatrix | queryHistory | setQual | setTimers | setPriority | enable =>
    exact fun p s h => packet_completes h rfl
  case setSlot =>
    intro p s h
    dsimp only
    refine ⟨fun hs hq => ?_, fun hs hq => ?_⟩
    · exact packet_completes h ((if_neg (by simp [hs])).trans (congrArg (Done.ok ·) (if_pos (by simp [hq]))))
    · exact packet_completes h ((if_neg (by simp [hs])).trans (congrArg (Done.ok ·) (if_neg (by simp [hs, hq]))))
  case select =>
    intro p s h
    dsimp only
    refine ⟨fun hm hs => ?_, fun hm hs he hc => ?_⟩
    · exact packet_completes h ((if_neg (by simp [hs])).trans (if_pos hm))
    · have hmay : (bodyFrom p s).maySwitch = true := by simpa [State.maySwitch] using hc
      exact packet_completes h ((if_neg (by simp [hs])).trans ((if_neg hm).trans (if_neg (by simp [he, hmay]))))
  case clearHistory => exact fun p s h hg => packet_completes h (congrArg (Done.ok ·) (if_pos hg))
  case setPtpSlave =>
    intro p s h
    refine ⟨_, packet_completes h rfl, ?_⟩
    rw [State.refPresence_cfg, State.setSource_cfg]

end Sys2Proof.Machine
end

section
/-! SUPPORT. The ACD packets (R148): each body under the guards that its rule names. -/

namespace Sys2Proof.Machine

/-- Settles O33: each packet's body under its guards. -/
theorem acdPacketsRun : Obligations.AcdPacketsRun := by
  refine ⟨?queryTime, ?queryServo, ?setServo, ?setStepPolicy, ?setHold, ?setOscModel, ?setTime, ?adjustPhase, ?setUtc,
    ?setCpllSource, ?enterDrydown, ?setMaceration⟩
  case queryTime | queryServo | setServo | setStepPolicy | setHold | setOscModel | setUtc | setMaceration =>
    exact fun p s h => packet_completes h rfl
  case setTime =>
    intro p s h
    dsimp only
    intro hs hd
    have hset : (bodyFrom p s).timeSettable = true := by simpa [State.timeSettable] using hs
    exact packet_completes h (if_neg (by simp [hset, hd]))
  case adjustPhase => exact fun p s h hs => packet_completes h (if_pos (by simpa using hs))
  case setCpllSource =>
    intro p s h
    dsimp only
    intro hs hr
    exact packet_completes h ((if_neg (by simp [hs])).trans (if_neg (by simp [hr])))
  case enterDrydown =>
    intro p s h
    dsimp only
    refine ⟨fun hw hs => ?_, fun hw hf => ?_⟩
    · exact packet_completes h ((if_pos hw).trans (if_pos (by simp [hs])))
    · exact packet_completes h ((if_neg (by simp [hw])).trans (if_pos hf))

end Sys2Proof.Machine
end

section
/-! SUPPORT. The OUT packets (R232): each body under the guards that its rule names. -/

namespace Sys2Proof.Machine

/-- Settles O34: each packet's body under its guards. -/
theorem outPacketsRun : Obligations.OutPacketsRun := by
  refine ⟨?queryStatus, ?queryEcho, ?setSyn, ?setOutput, ?sync, ?setTp, ?setTod, ?echoMeasure, ?setDelay, ?enable⟩
  case queryStatus | queryEcho | setTod | setDelay | enable => exact fun p s h => packet_completes h rfl
  case setSyn =>
    intro p s h
    dsimp only
    intro hfree hl
    have huse : ((List.range 16).any fun n => ((bodyFrom p s).ochCfg n).enable &&
        ((bodyFrom p s).ochCfg n).synSel.toNat == fld (p.w 0) 0 2) = false := by simpa using hfree
    exact packet_completes h ((if_neg (ne_true_of_eq_false huse)).trans (if_neg (by simp [hl])))
  case setOutput =>
    intro p s h
    dsimp only
    intro he hr
    exact packet_completes h ((if_neg (by simp [he])).trans
      (congrArg (fun t => Done.ok (State.outEval t)) (if_neg (by simp [hr]))))
  case sync => exact fun p s h hs => packet_completes h (if_neg (Int.not_lt.2 hs))
  case setTp =>
    intro p s h
    dsimp only
    intro he
    exact packet_completes h (if_neg (by rcases he with he | he <;> simp [he]))
  case echoMeasure =>
    intro p s h
    dsimp only
    intro hd ht he ha hb hma hmb
    exact ⟨_, packet_completes h ((if_neg (by simp [hd, ht])).trans ((if_neg (by simp [he, ha, hb])).trans
      (if_neg (by simp [hma, hmb])))), rfl, rfl⟩

end Sys2Proof.Machine
end

section
/-! SUPPORT. The TIC packets (R205): each body under the guards that its rule names. -/

namespace Sys2Proof.Machine

/-- Settles O35: each packet's body under its guards, PD_TIC being ready. -/
theorem ticPacketsRun : Obligations.TicPacketsRun := by
  refine ⟨?queryChannel, ?queryCal, ?setChannel, ?startInterval, ?stream, ?calibrate, ?substitute, ?setDelay⟩
  case queryChannel | queryCal => exact fun p s h => packet_completes h rfl
  case setChannel =>
    intro p s h
    dsimp only
    intro hd ha hc
    exact packet_completes h ((if_pos hd).trans (if_neg (by simp [ha, hc])))
  case startInterval =>
    intro p s h
    dsimp only
    intro hd hn hm hcn hcm ha hb
    exact packet_completes h ((if_pos hd).trans ((if_neg (by simp [hcn, hcm])).trans
      ((if_neg (by simp [hn, hm])).trans (if_neg (by simp [ha, hb])))))
  case stream =>
    intro p s h
    dsimp only
    intro hd hns
    refine packet_completes h ((if_pos hd).trans ((if_neg ?_).trans (if_neg ?_)))
    · simpa using fun n hn hf => (hns n (by simp [hn, hf])).2
    · simpa using fun n hn hf => (hns n (by simp [hn, hf])).1
  case calibrate =>
    intro p s h
    dsimp only
    intro hd hc
    exact packet_completes h ((if_pos hd).trans (if_neg (by simp [hc])))
  case substitute =>
    intro p s h
    dsimp only
    intro hd hb
    refine ⟨fun hn hu hs => ?_, fun hn hu hs => ?_⟩
    · exact packet_completes h ((if_pos hd).trans ((if_neg (by simp [hb])).trans ((if_pos hn).trans
        (if_neg (by simpa [hs] using hu)))))
    · exact packet_completes h ((if_pos hd).trans ((if_neg (by simp [hb])).trans ((if_neg hn).trans
        (if_neg (by rcases hu with hu | hu <;> simp [hu, hs])))))
  case setDelay =>
    intro p s h
    dsimp only
    intro hd hc
    exact packet_completes h ((if_pos hd).trans (if_neg (by simp [hc])))

end Sys2Proof.Machine
end

section
/-! SUPPORT. The GNS packets (R179): each body under the guards that its rule names. -/

namespace Sys2Proof.Machine

/-- Settles O36: each packet's body under its guards, PD_GNSS being ready. -/
theorem gnsPacketsRun : Obligations.GnsPacketsRun := by
  refine ⟨?queryStatus, ?querySolution, ?setPort, ?setNotch, ?acquire, ?track, ?release, ?setLatch, ?snapshot,
    ?setAntenna, ?setCheck, ?spareBank⟩
  case queryStatus | querySolution => exact fun p s h => packet_completes h rfl
  case setNotch | release | setAntenna | spareBank => exact fun p s h hd => packet_completes h (if_pos hd)
  case setPort =>
    intro p s h
    dsimp only
    intro hd ht ha hs
    exact packet_completes h ((if_pos hd).trans (if_neg (by rw [ht, ha, hs]; decide)))
  case acquire =>
    intro p s h
    dsimp only
    intro hd ha hs
    refine packet_completes h ((if_pos hd).trans ((if_neg ?busy).trans (if_neg ?long)))
    case busy => simpa [ha] using fun hf => (hs hf).1
    case long => simpa using fun hf => (hs hf).2
  case track =>
    intro p s h
    dsimp only
    intro hd ha
    exact packet_completes h ((if_pos hd).trans (if_neg (by simp [ha])))
  case setLatch => exact fun p s h hd => ⟨_, packet_completes h (if_pos hd), rfl, rfl⟩
  case snapshot =>
    intro p s h
    dsimp only
    refine fun hd => ⟨fun hf => ?_, fun hf ht ha hr hb => ?_⟩
    · exact packet_completes h ((if_pos hd).trans (if_pos hf))
    · exact packet_completes h ((if_pos hd).trans ((if_neg (by simp [hf])).trans ((if_neg (Nat.not_lt.2 ht)).trans
        (if_neg (by cases hq : (bodyFrom p s).gns.acq <;> simp_all)))))
  case setCheck =>
    intro p s h
    dsimp only
    refine fun hd => ⟨fun hf => ?_, fun hf hv => ?_, fun hf hv => ?_⟩
    · exact packet_completes h ((if_pos hd).trans (if_pos (by simp [hf])))
    · exact packet_completes h ((if_pos hd).trans ((if_neg (by simp [hf])).trans (if_pos hv)))
    · exact packet_completes h ((if_pos hd).trans ((if_neg (by simp [hf])).trans (if_neg (ne_true_of_eq_false hv))))

end Sys2Proof.Machine
end

section
/-! SUPPORT. The ETH and TMG packets (R258, R278): each body under the guards that its rule names. -/

namespace Sys2Proof.Machine

/-- A query of an active port's lane answers its words, or zeros while its quad is off (R234). -/
theorem State.laneQuery_active {s : State} {l : Nat} (h : s.activePort l = true) (ws : List W32) :
    s.laneQuery l ws = Done.ok s (if s.laneReady l then ws else ws.map fun _ => 0) := if_neg (by simp [h])

/-- Settles O37: each packet's body under its guards. -/
theorem ethPacketsRun : Obligations.EthPacketsRun := by
  refine ⟨?queryLane, ?queryDelay, ?setQuadMode, ?setLane, ?setDelay, ?setCapture, ?setClassifier, ?laneEnable,
    ?setTags⟩
  case queryLane | queryDelay => exact fun p s h ha => packet_completes h (State.laneQuery_active ha _)
  case setQuadMode =>
    intro p s h
    dsimp only
    intro hd he hr
    have hq : ((quadLanes (fld (p.w 0) 0 2)).any fun l => ((bodyFrom p s).laneCfg l).enable) = false := by
      simpa using he
    exact packet_completes h ((if_neg (by rw [hd, hq]; decide)).trans (if_neg (ne_true_of_eq_false hr)))
  case setLane =>
    intro p s h
    dsimp only
    intro hu hm he
    refine packet_completes h (if_neg ?_)
    rcases he with he | ⟨hmode, hfec, hmax⟩
    · simpa [hu, he] using hm
    · simpa [hu, hmode, hfec, hmax] using hmode ▸ hm
  case setCapture =>
    intro p s h
    dsimp only
    intro hu he
    refine packet_completes h (if_neg ?_)
    rcases he with he | he
    · simp [hu, he]
    · simpa [hu] using fun _ => he
  case laneEnable =>
    intro p s h
    dsimp only
    intro hls
    exact packet_completes h (if_neg (by simpa using hls))
  case setDelay | setClassifier | setTags =>
    intro p s h
    dsimp only
    intro hu
    exact packet_completes h (if_neg (by simp [hu]))

/-- Settles O38: each packet's body under its guards. -/
theorem tmgPacketsRun : Obligations.TmgPacketsRun := by
  refine ⟨?queryQueue, ?queryGcl, ?setGcl, ?swapGcl, ?setShaper, ?setPolicer, ?setFilter, ?setSampling⟩
  case queryQueue | queryGcl => exact fun p s h ha => packet_completes h (State.laneQuery_active ha _)
  case setGcl =>
    intro p s h
    dsimp only
    refine fun hu hs => ⟨fun hl => ?_, fun hl ho => ?_⟩
    · exact packet_completes h ((if_neg (by simp [hu])).trans ((if_neg (by simp [hs])).trans (if_pos (by simp [hl]))))
    · exact packet_completes h ((if_neg (by simp [hu])).trans ((if_neg (by simp [hs])).trans
        ((if_neg (by simp [hl])).trans (if_pos ho))))
  case swapGcl =>
    intro p s h
    dsimp only
    intro hls ht
    refine packet_completes h ((if_neg ?usable).trans ((if_neg (Nat.not_lt.2 ht)).trans ((if_neg ?ready).trans
      (if_neg ?pending))))
    case usable => simpa using fun l hl hf => (hls l (by simp [hl, hf])).1
    case ready => simpa using fun l hl hf => (hls l (by simp [hl, hf])).2.1
    case pending => simpa using fun l hl hf => (hls l (by simp [hl, hf])).2.2
  case setFilter =>
    intro p s h
    dsimp only
    intro hd hu
    exact packet_completes h (if_neg (by simp [hd, hu]))
  case setShaper | setPolicer | setSampling =>
    intro p s h
    dsimp only
    intro hd
    exact packet_completes h (if_neg (by simp [hd]))

end Sys2Proof.Machine
end

section
/-! SUPPORT. The SVC packets (R312): each body under the guards that its rule names. -/

namespace Sys2Proof.Machine

/-- Settles O39: each packet's body under its guards, PD_ENGINE being ready. -/
theorem svcPacketsRun : Obligations.SvcPacketsRun := by
  refine ⟨?queryStatus, ?queryClient, ?setPtpPort, ?setProfile, ?setAuth, ?setNtp, ?loadCookieKey, ?retireCookieKey,
    ?setGate, ?setRateLimit, ?clientFlush, ?setBoundTlv⟩
  case queryStatus => exact fun p s h => packet_completes h rfl
  case setNtp | setGate | setRateLimit | clientFlush | setBoundTlv =>
    exact fun p s h hd => packet_completes h (if_pos hd)
  case queryClient =>
    intro p s h
    dsimp only
    refine ⟨fun c hc => packet_completes h ?_, fun hc => packet_completes h ?_⟩ <;>
      simp [specSvcQueryClient, answer, Done.ok, hc]
  case setPtpPort =>
    intro p s h
    dsimp only
    intro hd ha hm
    exact packet_completes h ((if_pos hd).trans (if_neg (by simp [ha, hm])))
  case setProfile =>
    intro p s h
    dsimp only
    intro hd ha he
    exact packet_completes h ((if_pos hd).trans (if_neg (by rcases he with he | he <;> simp [ha, he])))
  case setAuth =>
    intro p s h
    dsimp only
    intro hd hc ht
    refine packet_completes h ((if_pos hd).trans ((if_neg ?crypto).trans (if_neg ?late)))
    case crypto => simp [hc]
    case late => rcases ht with ht | ht <;> simp [ht]
  case loadCookieKey =>
    intro p s h
    dsimp only
    intro hd hc i hi
    refine packet_completes h ((if_pos hd).trans ((if_neg (by simp [hc])).trans ?_))
    rw [hi]
    rfl
  case retireCookieKey =>
    intro p s h
    dsimp only
    intro hd hc i hi
    refine packet_completes h ((if_pos hd).trans ((if_neg (by simp [hc])).trans ?_))
    rw [hi]
    rfl

end Sys2Proof.Machine
end

section
/-! SUPPORT. The KEY packets (R355): each body under the guards that its rule names. -/

namespace Sys2Proof.Machine

/-- A KEY packet runs where its domain is ready, no hold bars it, the supplies hold and no operation runs (R355). -/
theorem keyBody_runs {crypto noHold : Bool} {f : Packet → State → Done} {p : Packet} {s : State}
    (hd : crypto = true → s.ready pdCrypto = true) (hh : noHold = true → s.sys.tamperHold = false)
    (hp : s.mon.pfw = false) (hb : s.key.busyOp = none) : keyBody crypto noHold f p s = f p s := by
  unfold keyBody
  rw [if_neg (by simpa using ⟨hd, hh⟩), if_neg (by simp [hp, hb])]

/-- A KEY packet that passes the checks of R42 at once, and R355's, has its operation's effect. -/
theorem keyPacket_completes {o : OpSpec} {crypto noHold : Bool} {f : Packet → State → Done} {p : Packet} {s v : State}
    {ws : List W32} (h : runsNow o p s = true) (ho : o.body = keyBody crypto noHold f)
    (hd : crypto = true → (bodyFrom p s).ready pdCrypto = true)
    (hh : noHold = true → (bodyFrom p s).sys.tamperHold = false) (hp : (bodyFrom p s).mon.pfw = false)
    (hb : (bodyFrom p s).key.busyOp = none) (hf : f p (bodyFrom p s) = Done.ok v ws) :
    runPacket o p s = .next (ran o p v ws) :=
  packet_completes h (by rw [ho, keyBody_runs hd hh hp hb]; exact hf)

/-- A flacon that fails no check of R344 fills its slot. -/
theorem State.loadFlacon_opens {s : State} {k : Nat} {b : List Byte} (hl : (s.kslot k).loaded = false)
    (ht : (flField b 7 1 % 2 == 1) = s.testKeys) (hr : (s.openFlacon b).1 = 0) :
    s.loadFlacon k b = s.filled k (s.openFlacon b).2 := by
  simp [State.loadFlacon, hl, ht, hr]

/-- A flacon that fails a check of R344 answers its REASON. -/
theorem State.loadFlacon_fails {s : State} {k : Nat} {b : List Byte} (hl : (s.kslot k).loaded = false)
    (ht : (flField b 7 1 % 2 == 1) = s.testKeys) (hr : (s.openFlacon b).1 ≠ 0) :
    s.loadFlacon k b = s.keyAuthFail [BitVec.ofNat 32 (s.openFlacon b).1] := by
  simp [State.loadFlacon, hl, ht, hr]

/-- Settles O40: each packet's body under its guards. -/
theorem keyPacketsRun : Obligations.KeyPacketsRun := by
  refine ⟨?querySlots, ?queryEpoch, ?loadFlacon, ?wrap, ?derive, ?zero, ?epochUpdate, ?attest, ?provision, ?lcAdvance,
    ?debugEnter, ?debugExit⟩
  case querySlots => exact fun p s h => packet_completes h rfl
  case queryEpoch =>
    intro p s h
    refine packet_completes h ?_
    simp [specKeyQueryEpoch, answer, Done.ok, State.akPubWords]
  case zero => exact fun p s h hd => packet_completes h (if_pos hd)
  case loadFlacon =>
    intro p s h
    dsimp only
    intro hd hh hp hb hl
    have hrun : specKeyLoadFlacon.body p (bodyFrom p s) =
        if flag (p.w 0) 8 then (bodyFrom p s).importKey (fld (p.w 0) 0 6) p
        else (bodyFrom p s).loadFlacon (fld (p.w 0) 0 6) (flaconBytes ((p.payload.drop 1).take 24)) := by
      dsimp only [specKeyLoadFlacon]
      rw [keyBody_runs (fun _ => hd) (fun _ => hh) hp hb]
    refine ⟨fun hf => ?_, fun hf ht => ?_⟩
    · exact packet_completes h (hrun.trans ((if_pos hf).trans (if_neg (by simp [hl]))))
    · rw [if_neg (by simp [hf])] at hrun
      split
      · exact packet_completes h (hrun.trans (State.loadFlacon_opens hl ht ‹_›))
      · refine (packet_answers h rfl).trans ?_
        rw [hrun, State.loadFlacon_fails hl ht ‹_›]
        rfl
  case wrap =>
    intro p s h
    dsimp only
    intro hd hh hp hb hl he hr hw
    refine keyPacket_completes h rfl (fun _ => hd) (fun _ => hh) hp hb ?_
    exact (if_neg (by simp [hl, he])).trans (if_neg (by simpa [hr] using hw))
  case derive =>
    intro p s h
    dsimp only
    intro hd hh hp hb hpar hl he
    refine keyPacket_completes h rfl (fun _ => hd) (fun _ => hh) hp hb ?_
    refine (if_neg ?parent).trans ((if_neg ?loaded).trans (if_neg ?exportable))
    case parent => simp [hpar]
    case loaded => simp [hl]
    case exportable => simpa using he
  case epochUpdate =>
    intro p s h
    dsimp only
    intro hd hh hp hb hr he
    refine keyPacket_completes h rfl (fun _ => hd) (fun _ => hh) hp hb ?_
    exact if_neg (by simpa [hr] using he)
  case attest =>
    intro p s h
    dsimp only
    intro hp hb ht
    refine keyPacket_completes (crypto := false) (noHold := false) h rfl nofun nofun hp hb ?_
    exact if_neg (by rcases ht with ht | ht <;> simp [ht])
  case provision =>
    intro p s h
    dsimp only
    intro hp hb hlc
    refine keyPacket_completes (crypto := false) (noHold := false) h rfl nofun nofun hp hb ?_
    rcases hlc with ⟨hlc, hseed⟩ | ⟨hlc, hhold, hquiet⟩
    · exact (if_pos hlc).trans (if_pos hseed)
    · exact (if_neg hlc).trans (if_pos (by simp [hhold, hquiet]))
  case lcAdvance =>
    intro p s h
    dsimp only
    intro hd hh hp hb hlc
    refine keyPacket_completes h rfl (fun _ => hd) (fun _ => hh) hp hb ?_
    exact if_neg (by simp [hlc])
  case debugEnter =>
    intro p s h
    dsimp only
    intro hd hh hp hb ho hr
    refine keyPacket_completes h rfl (fun _ => hd) (fun _ => hh) hp hb ?_
    exact (if_neg (by simp [ho])).trans (if_neg hr)
  case debugExit =>
    intro p s h
    dsimp only
    intro hd hp hb
    exact keyPacket_completes h rfl (fun _ => hd) nofun hp hb rfl

end Sys2Proof.Machine
end

section
/-! SUPPORT. The LOG packets (R323 to R327): each body under the guards that its rule names. -/

namespace Sys2Proof.Machine

/-- A replay of an entry that is held starts where no replay runs, and ends at once where nothing is to be sent. -/
theorem logSetExport_replays {p : Packet} {s : State} (hf : flag (p.w 0) 9 = true) (hr : s.log.replay = [])
    (he : ∃ e ∈ s.log.held, e.seq = (p.w2 1).setWidth 48) :
    let a := { s with cfg := { s.cfg with log := { s.cfg.log with
      highPct := (p.w 0).extractLsb' 0 7, ckMirror := flag (p.w 0) 8 } } }
    let b := a.logLevel State.logPut
    let q : BitVec 48 := (p.w2 1).setWidth 48
    let c := { b with log := { b.log with replayFrom := q, replay := b.replayOf q } }
    specLogSetExport.body p s = Done.ok (if b.replayOf q = [] then c.irq (src 13 10) else c) := by
  intro a b q c
  have hheld : (s.log.held.any fun e => e.seq == q) = true := by simpa using he
  refine (if_neg ?idle).trans ((if_neg ?held).trans ((if_pos hf).trans ?_))
  case idle => simp [hr]
  case held => rw [hheld]; simp
  exact congrArg (Done.ok ·) (ite_congr (propext List.isEmpty_iff) (fun _ => rfl) fun _ => rfl)

/-- Settles O41: each packet's body under its guards. -/
theorem logPacketsRun : Obligations.LogPacketsRun := by
  refine ⟨?queryStatus, ?queryHead, ?exportAck, ?setExport, ?checkpoint, ?note⟩
  case queryStatus | queryHead | exportAck | note => exact fun p s h => packet_completes h rfl
  case setExport =>
    intro p s h
    dsimp only
    refine ⟨fun hf => ?_, fun hf hr he => packet_completes h (logSetExport_replays hf hr he)⟩
    exact packet_completes h ((if_neg (by simp [hf])).trans ((if_neg (by simp [hf])).trans (if_neg (by simp [hf]))))
  case checkpoint =>
    intro p s h
    dsimp only
    intro hs hw
    exact packet_completes h (if_neg (by simp [hs, hw]))

end Sys2Proof.Machine
end

section
/-! SUPPORT. The FLT, PAIR, MON, KEEP and CAL packets: each body under the guards that its rule names. -/

namespace Sys2Proof.Machine

/-- Settles O42: each packet's body under its guards, PD_PAIR being ready for a PAIR packet. -/
theorem fltPairPacketsRun : Obligations.FltPairPacketsRun := by
  refine ⟨?fltQuery, ?fltSetClass, ?fltClear, ?fltInject, ?pairQuery, ?setMode, ?setClaim, ?setCompare, ?handover,
    ?rejoin⟩
  case fltQuery | fltSetClass | fltClear | fltInject | pairQuery => exact fun p s h => packet_completes h rfl
  case setMode =>
    intro p s h
    dsimp only
    intro hd hm
    exact packet_completes h ((if_pos hd).trans (if_neg (by simpa using hm)))
  case setClaim => exact fun p s h hd => packet_completes h (if_pos hd)
  case setCompare =>
    intro p s h
    dsimp only
    intro hd hen
    refine packet_completes h ((if_pos hd).trans ((if_neg ?ready).trans ((if_neg ?claim).trans (if_neg ?mode))))
    case ready => simpa using fun he => (hen he).1
    case claim => simpa using fun he => (hen he).2.1
    case mode => simpa using fun he => (hen he).2.2
  case handover =>
    intro p s h
    dsimp only
    intro hd hrole hlink hhealth hpend ht
    refine packet_completes h ((if_pos hd).trans ((if_neg ?may).trans ((if_neg ?pending).trans
      (if_neg (Nat.not_lt.2 ht)))))
    case may => simpa [hrole, hlink] using hhealth
    case pending => simp [hpend]
  case rejoin =>
    intro p s h
    dsimp only
    refine fun hd hrole => ⟨fun hs => ?_, fun hs => ?_⟩
    · exact packet_completes h ((if_pos hd).trans ((if_neg (by simp [hrole])).trans (if_pos (by simp [hs]))))
    · exact packet_completes h ((if_pos hd).trans ((if_neg (by simp [hrole])).trans (if_neg (by simpa using hs))))

/-- Settles O43: each packet's body under its guards. -/
theorem monPacketsRun : Obligations.MonPacketsRun := by
  refine ⟨?monQuery, ?keepQuery, ?calQuery, ?setLimits, ?setMains, ?scrub, ?setTime, ?setTrim, ?setTamper⟩
  case monQuery | keepQuery | calQuery | setMains | setTrim | setTamper => exact fun p s h => packet_completes h rfl
  case setLimits =>
    intro p s h
    dsimp only
    refine ⟨fun hf => packet_completes h ?_, fun hf => packet_completes h ?_⟩ <;> simp [specMonSetLimits, Done.ok, hf]
  case scrub =>
    intro p s h
    dsimp only
    intro hs
    exact packet_completes h (if_neg (by simpa using hs))
  case setTime =>
    intro p s h
    dsimp only
    intro hs
    exact packet_completes h (if_neg (by simp [hs]))

end Sys2Proof.Machine
end

section
/-! SUPPORT. The SYS packets (R93, R452): each body under the guards that its rule names. -/

namespace Sys2Proof.Machine

/-- A scope that the life-cycle state lets a token open is not denied (R410, R411). -/
theorem bltUnlock_allowed {s : State} {need : BitVec 3} (hun : need &&& ~~~bltUnlockable s.lc = 0)
    (hkey : s.lc = .blank ∨ s.fuse.ownerDbgSet = true) :
    ¬ ((need &&& ~~~bltUnlockable s.lc != 0 || (need != 0 && s.lc != .blank && !s.fuse.ownerDbgSet)) = true) := by
  simpa [hun] using fun _ hb => hkey.resolve_left hb

/-- A scope that is open already is not denied. -/
theorem bltUnlock_open {s : State} {need : BitVec 3} (h : need = 0) :
    ¬ ((need &&& ~~~bltUnlockable s.lc != 0 || (need != 0 && s.lc != .blank && !s.fuse.ownerDbgSet)) = true) := by
  subst h
  simp

/-- What SYS_BLT_UNLOCK does with a scope that a token must open: a good token opens it, any other is AUTH_FAIL. -/
theorem bltUnlock_body {p : Packet} {s : State} (hneed : (p.w 0).setWidth 3 &&& ~~~bltOpen s.lc ≠ 0)
    (hun : ((p.w 0).setWidth 3 &&& ~~~bltOpen s.lc) &&& ~~~bltUnlockable s.lc = 0)
    (hkey : s.lc = .blank ∨ s.fuse.ownerDbgSet = true) :
    let need := (p.w 0).setWidth 3 &&& ~~~bltOpen s.lc
    let v := (s.newChallenge.modBlt fun b => { b with unlocked := b.unlocked ||| need }).raise (src 15 24) need.toNat
    specSysBltUnlock.body p s =
      if s.bltToken p then Done.ok v [word [(0, v.bltScope.toNat)]] else Done.err s.newChallenge .authFail := by
  have hwant : ¬ (p.w 0).setWidth 3 = (0 : BitVec 3) := fun h => hneed (by rw [h]; simp)
  exact (if_neg hwant).trans ((if_neg (bltUnlock_allowed hun hkey)).trans (if_neg hneed))

/-- Settles O31: each packet's body under its guards. -/
theorem sysPacketsRun : Obligations.SysPacketsRun := by
  refine ⟨?queryState, ?queryCounters, ?echo, ?setState, ?clearSafe, ?domainPower, ?sleep, ?wake, ?reset, ?fwStage,
    ?fwActivate, ?setMbxRoute, ?setSemCfg, ?semForce, ?ringConfig, ?ringEnable, ?intRoute, ?cancel, ?bltUnlock,
    ?bltSelect, ?bistRun⟩
  case queryState | queryCounters | echo | wake | setSemCfg | intRoute => exact fun p s h => packet_completes h rfl
  case setState =>
    intro p s h
    dsimp only
    intro hlc hhold
    have hmay : ¬ ((decide (fld (p.w 0) 0 3 ≠ 0) && (bodyFrom p s).sys.tamperHold) = true) := by
      rcases hhold with hhold | hhold <;> simp [hhold]
    refine ⟨fun h2 => packet_completes h ?_, fun h3 => packet_completes h ?_, fun h2 h3 => packet_completes h ?_⟩ <;>
      refine (if_neg (by simp [hlc])).trans ((if_neg hmay).trans (congrArg (Done.ok ·) ?_))
    · exact if_pos h2
    · exact (if_neg (by omega)).trans (if_pos h3)
    · exact (if_neg h2).trans (if_neg h3)
  case clearSafe =>
    intro p s h
    dsimp only
    intro hself hfresh hcause
    refine packet_completes h ((if_neg ?may).trans (if_neg (by simp [hfresh])))
    case may => simp [hself, hfresh, hcause]
  case domainPower =>
    intro p s h
    dsimp only
    intro htime hpair hsw
    refine packet_completes h ((if_neg ?may).trans (if_neg (by simp [hsw])))
    case may => simpa using ⟨htime, hpair⟩
  case sleep =>
    intro p s h
    dsimp only
    intro hrole hidle
    refine packet_completes h ((if_neg (by simpa using hrole)).trans (if_neg ?idle))
    case idle => rcases hidle with hidle | hidle <;> simp [hidle]
  case reset =>
    intro p s h
    dsimp only
    refine ⟨fun h0 => packet_completes h ?_, fun h1 hd hsw => packet_completes h ?_, fun h0 h1 => packet_completes h ?_⟩
    · simp only [specSysReset, h0]; rfl
    · simp only [specSysReset, h1]
      refine (if_neg ?may).trans (if_neg (by simp [hsw]))
      case may => simpa [or_iff_not_imp_left] using hd
    · simp only [specSysReset]; rfl
  case fwStage =>
    intro p s h
    dsimp only
    intro hb
    exact packet_completes h (if_neg (by simp [hb]))
  case fwActivate =>
    intro p s h
    dsimp only
    intro hc
    refine packet_completes h (if_neg ?commits)
    case commits => simpa [State.svnCommits] using fun hf => hc hf
  case setMbxRoute =>
    intro p s h
    dsimp only
    intro hf
    exact packet_completes h (if_neg (by simp [hf]))
  case semForce =>
    intro p s h
    dsimp only
    refine ⟨fun hfree => packet_completes h ?_, fun m hheld => packet_completes h ?_⟩
    · simp only [specSysSemForce, hfree]; rfl
    · simp only [specSysSemForce, hheld]; rfl
  case ringConfig =>
    intro p s h
    dsimp only
    intro hd he
    exact packet_completes h (if_neg (by simp [hd, he]))
  case ringEnable =>
    intro p s h
    dsimp only
    intro hd
    exact packet_completes h (if_neg (by simp [hd]))
  case cancel =>
    intro p s e h
    dsimp only
    intro hfind hmay
    refine packet_completes h ?_
    simp only [specSysCancel, hfind]
    refine if_neg ?_
    rcases hmay with hmay | hmay <;> simp [hmay]
  case bltUnlock =>
    intro p s h
    dsimp only
    refine ⟨fun hw => packet_completes h (if_pos hw), fun hw hneed => ?_, fun hneed hun hkey => ?_⟩
    · exact packet_completes h ((if_neg hw).trans ((if_neg (bltUnlock_open hneed)).trans (if_pos hneed)))
    · have hbody := bltUnlock_body hneed hun hkey
      by_cases ht : (bodyFrom p s).bltToken p = true
      · rw [if_pos ht]
        exact packet_completes h (hbody.trans (if_pos ht))
      · rw [if_neg ht]
        exact (packet_answers h rfl).trans (by rw [hbody.trans (if_neg ht)]; rfl)
  case bltSelect =>
    intro p s h
    dsimp only
    intro hscope hd hserve hbist
    refine packet_completes h ((if_neg ?scope).trans ((if_neg ?ready).trans (if_neg ?busy)))
    case scope => simp [hscope]
    case ready => simp [hd]
    case busy => simpa [hbist] using hserve
  case bistRun =>
    intro p s h
    dsimp only
    intro hidle hok
    refine packet_completes h ((if_neg (by simp [hidle])).trans (if_neg ?ok))
    case ok =>
      simp only [List.any_eq_true, List.mem_range, not_exists, not_and, Bool.and_eq_true, Bool.not_eq_true']
      intro t ht hm hf
      rw [hok t ht (by simpa [has, flag, ht] using hm)] at hf
      contradiction

end Sys2Proof.Machine
end

section
/-! SUPPORT. The clock under each command: whatever an event does, the ticks it carries pass and no others, and a packet
as well. -/

namespace Sys2Proof.Machine

open Host

/-- The state that a result leaves, where it leaves one, stands at tick `n`. -/
def TicksAt (n : Nat) (r : Res) : Prop := ∀ t, r = .next t → t.ticks = n

@[simp] theorem ticksAt_next {n : Nat} {t : State} : TicksAt n (.next t) ↔ t.ticks = n := by
  simp [TicksAt]

@[simp] theorem ticksAt_fault {n : Nat} {f : Fault} : TicksAt n (.fault f) := by
  simp [TicksAt]

@[simp] theorem ticksAt_ite {n : Nat} {c : Prop} [Decidable c] {a b : Res} :
    TicksAt n (if c then a else b) ↔ if c then TicksAt n a else TicksAt n b := by
  split <;> rfl

@[simp] theorem execScheduledCommandDue_ticks (dt : Nat) (s : State) :
    TicksAt (s.ticks + dt) (execScheduledCommandDue dt s) := by
  simp only [execScheduledCommandDue, ticksAt_next]
  split
  · exact State.leapNow_ticks _
  · split
    · rw [State.runEntry_ticks, State.leapNow_ticks]; rfl
    · exact State.leapNow_ticks _

/-! ### The command interface -/

@[simp] theorem execReplyDelivery_ticks (dt : Nat) (s : State) : TicksAt (s.ticks + dt) (execReplyDelivery dt s) := by
  simp only [execReplyDelivery, ticksAt_next]
  split <;> simp [State.replyNext_ticks]

@[simp] theorem execRingProdWrite_ticks (dt : Nat) (m : BitVec 4) (ring : BitVec 6) (value : W32) (s : State) :
    TicksAt (s.ticks + dt) (execRingProdWrite dt m ring value s) := by
  simp [execRingProdWrite, State.pointerWrite_ticks]

@[simp] theorem execRingConsWrite_ticks (dt : Nat) (m : BitVec 4) (ring : BitVec 6) (value : W32) (s : State) :
    TicksAt (s.ticks + dt) (execRingConsWrite dt m ring value s) := by
  simp [execRingConsWrite, State.pointerWrite_ticks]

@[simp] theorem execRingSlotWrite_ticks (dt : Nat) (ring : BitVec 6) (s : State) :
    TicksAt (s.ticks + dt) (execRingSlotWrite dt ring s) := by
  simp [execRingSlotWrite, apply_ite State.ticks, State.slotOut_ticks]

@[simp] theorem execTxDescriptorFetch_ticks (dt : Nat) (lane : BitVec 4) (desc : List W32) (frame : List (BitVec 8) )
    (s : State) : TicksAt (s.ticks + dt) (execTxDescriptorFetch dt lane desc frame s) := by
  simp [execTxDescriptorFetch, State.completeTx_ticks, State.ethCount_ticks, State.ethRaise_ticks,
    State.hostFrame_ticks]

@[simp] theorem execMsiModerationTimer_ticks (dt : Nat) (ring : BitVec 6) (s : State) :
    TicksAt (s.ticks + dt) (execMsiModerationTimer dt ring s) := by
  simp [execMsiModerationTimer, apply_ite State.ticks]

@[simp] theorem execMbxSend_ticks (dt : Nat) (m : BitVec 4) (n : BitVec 3) (s : State) :
    TicksAt (s.ticks + dt) (execMbxSend dt m n s) := by
  simp [execMbxSend, apply_ite State.ticks, State.mbxSend_ticks]

@[simp] theorem execMbxDeliver_ticks (dt : Nat) (n : BitVec 3) (s : State) :
    TicksAt (s.ticks + dt) (execMbxDeliver dt n s) := by
  simp [execMbxDeliver, apply_ite State.ticks]

@[simp] theorem execMbxTake_ticks (dt : Nat) (m : BitVec 4) (n : BitVec 3) (s : State) :
    TicksAt (s.ticks + dt) (execMbxTake dt m n s) := by
  simp [execMbxTake, apply_ite State.ticks, State.mbxTake_ticks]

@[simp] theorem execSemRead_ticks (dt : Nat) (m : BitVec 4) (sem : BitVec 5) (s : State) :
    TicksAt (s.ticks + dt) (execSemRead dt m sem s) := by
  simp [execSemRead, apply_ite State.ticks, State.readDenied_ticks, State.semRead_ticks]

@[simp] theorem execSemRelease_ticks (dt : Nat) (m : BitVec 4) (sem : BitVec 5) (s : State) :
    TicksAt (s.ticks + dt) (execSemRelease dt m sem s) := by
  simp [execSemRelease, apply_ite State.ticks, State.semRelease_ticks]

/-- An access leaves the clock as its reads or writes leave it. -/
theorem State.access_ticksAt {s : State} {m : BitVec 4} {addrs : List W32} {f : State → State}
    (hf : (f s).ticks = s.ticks) : TicksAt s.ticks (s.access m addrs f) := by
  unfold State.access
  split
  · simp
  · split
    · simp
    · simpa using hf

theorem State.busRead_ticks (s : State) (r : BusRead) : TicksAt s.ticks (s.busRead r) := by
  unfold State.busRead
  refine State.access_ticksAt ?_
  cases r with
  | bar2 => rfl
  | _ => exact (foldl_ticks _ _ (fun s a => State.readBurst_ticks _ s a) _).trans rfl

theorem State.otherWrite_ticks (s : State) (w : BusWrite) : (s.otherWrite w).ticks = s.ticks := by
  cases w with
  | benit ws =>
    refine foldl_ticks _ _ (fun s i => ?_) _
    split
    · exact State.mbxData_ticks ..
    · rfl
  | _ => rfl

theorem State.busWrite_ticks (s : State) (w : BusWrite) : TicksAt s.ticks (s.busWrite w) := by
  unfold State.busWrite
  refine State.access_ticksAt ?_
  rw [foldl_ticks _ _ (fun s p => State.regWrite_ticks ..), State.otherWrite_ticks]

@[simp] theorem execQueuePop_ticks (dt : Nat) (read : BusRead) (s : State) :
    TicksAt (s.ticks + dt) (execQueuePop dt read s) := State.busRead_ticks (s.advance dt) read

@[simp] theorem execRcCounterRead_ticks (dt : Nat) (read : BusRead) (s : State) :
    TicksAt (s.ticks + dt) (execRcCounterRead dt read s) := State.busRead_ticks (s.advance dt) read

@[simp] theorem execShadowLatchRead_ticks (dt : Nat) (read : BusRead) (s : State) :
    TicksAt (s.ticks + dt) (execShadowLatchRead dt read s) := State.busRead_ticks (s.advance dt) read

@[simp] theorem execIntStatusW1c_ticks (dt : Nat) (write : BusWrite) (s : State) :
    TicksAt (s.ticks + dt) (execIntStatusW1c dt write s) := State.busWrite_ticks (s.advance dt) write

@[simp] theorem execRegisterWrite_ticks (dt : Nat) (write : BusWrite) (s : State) :
    TicksAt (s.ticks + dt) (execRegisterWrite dt write s) := State.busWrite_ticks (s.advance dt) write

@[simp] theorem execPcieUnsupportedAccess_ticks (dt : Nat) (_write : Bool) (_addr : W32) (_size : Nat) (s : State) :
    TicksAt (s.ticks + dt) (execPcieUnsupportedAccess dt _write _addr _size s) := by
  simp [execPcieUnsupportedAccess]

@[simp] theorem execAcdSteerWrite_ticks (dt : Nat) (m : BitVec 4) (value : Option (BitVec 64) ) (s : State) :
    TicksAt (s.ticks + dt) (execAcdSteerWrite dt m value s) := by
  simp [execAcdSteerWrite, apply_ite State.ticks, State.steerWrite_ticks]

@[simp] theorem execGnsNcoWrite_ticks (dt : Nat) (m : BitVec 4) (k : BitVec 5) (carrier : Bool) (value : BitVec 48)
    (n : Nat) (s : State) : TicksAt (s.ticks + dt) (execGnsNcoWrite dt m k carrier value n s) := by
  rw [execGnsNcoWrite, ticksAt_next, State.gnsEngineDo_ticks _ _ _ (State.modTrk_ticks ..), State.samples_ticks]
  rfl

@[simp] theorem execGnsTrkStateWrite_ticks (dt : Nat) (m : BitVec 4) (k : BitVec 5) (codeLock carrLock bitSync : Bool)
    (cn0 : BitVec 16) (slip : Option (BitVec 16) ) (s : State) :
    TicksAt (s.ticks + dt) (execGnsTrkStateWrite dt m k codeLock carrLock bitSync cn0 slip s) := by
  rw [execGnsTrkStateWrite, ticksAt_next, State.gnsEngineDo_ticks _ _ _ (by
    simp only [apply_ite State.ticks, State.drawn_ticks, State.modTrk_ticks, ite_self])]
  rfl

@[simp] theorem execGnsNavPush_ticks (dt : Nat) (m : BitVec 4) (k : BitVec 5) (word : W32) (ago : Nat) (s : State) :
    TicksAt (s.ticks + dt) (execGnsNavPush dt m k word ago s) := by
  exact ticksAt_next.2 (State.gnsEngineDo_ticks _ _ _ (State.navPut_ticks ..))

@[simp] theorem execGnsSolWrite_ticks (dt : Nat) (m : BitVec 4) (valid : Bool) (nsv : BitVec 6) (snap : Bool)
    (offset : BitVec 64) (unc : BitVec 24) (s : State) :
    TicksAt (s.ticks + dt) (execGnsSolWrite dt m valid nsv snap offset unc s) := by
  rw [execGnsSolWrite, ticksAt_next, State.gnsEngineDo_ticks _ _ _ (by rw [State.solUse_ticks, State.solStore_ticks])]
  rfl

/-! ### Resets, boot, power and the host link -/

@[simp] theorem execPorNAssert_ticks (dt : Nat) (low : Bool) (s : State) :
    TicksAt (s.ticks + dt) (execPorNAssert dt low s) := by
  simp [execPorNAssert, apply_ite State.ticks, State.hold_ticks]

@[simp] theorem execRailMonitorReset_ticks (dt : Nat) (out : BitVec 7) (s : State) :
    TicksAt (s.ticks + dt) (execRailMonitorReset dt out s) := by
  simp only [execRailMonitorReset, ticksAt_next]
  split <;> simp [State.hold_ticks]

@[simp] theorem execResetNAssert_ticks (dt : Nat) (low : Bool) (s : State) :
    TicksAt (s.ticks + dt) (execResetNAssert dt low s) := by
  simp [execResetNAssert, apply_ite State.ticks, State.hold_ticks]

@[simp] theorem execResetRelease_ticks (dt : Nat) (s : State) : TicksAt (s.ticks + dt) (execResetRelease dt s) := by
  simp [execResetRelease, apply_ite State.ticks]

@[simp] theorem execStrapSample_ticks (dt : Nat) (s : State) : TicksAt (s.ticks + dt) (execStrapSample dt s) := by
  simp [execStrapSample, apply_ite State.ticks]

@[simp] theorem execEngineBootPowerStart_ticks (dt : Nat) (s : State) :
    TicksAt (s.ticks + dt) (execEngineBootPowerStart dt s) := by
  simp [execEngineBootPowerStart, apply_ite State.ticks, State.powerUp_ticks, State.raise_ticks]

@[simp] theorem execBootImageCheck_ticks (dt : Nat) (flashA flashB : Option FwImage) (s : State) :
    TicksAt (s.ticks + dt) (execBootImageCheck dt flashA flashB s) := by
  simp [execBootImageCheck, apply_ite State.ticks, State.imageCheck_ticks]

@[simp] theorem execBootComplete_ticks (dt : Nat) (keep : KeepRead) (s : State) :
    TicksAt (s.ticks + dt) (execBootComplete dt keep s) := by
  simp [execBootComplete, apply_ite State.ticks, State.bootDone_ticks]

@[simp] theorem execAutoRun_ticks (dt : Nat) (s : State) : TicksAt (s.ticks + dt) (execAutoRun dt s) := by
  simp [execAutoRun, State.autoRunNow_ticks]

@[simp] theorem execDomainReady_ticks (dt : Nat) (d : BitVec 4) (banks : BitVec 72) (s : State) :
    TicksAt (s.ticks + dt) (execDomainReady dt d banks s) := by
  simp [execDomainReady, apply_ite State.ticks, State.domReadyNow_ticks, State.powerUp_ticks]

@[simp] theorem execDomainOff_ticks (dt : Nat) (d : BitVec 4) (s : State) :
    TicksAt (s.ticks + dt) (execDomainOff dt d s) := by
  simp [execDomainOff, apply_ite State.ticks, State.domOff_ticks]

@[simp] theorem execWakeNEdge_ticks (dt : Nat) (s : State) : TicksAt (s.ticks + dt) (execWakeNEdge dt s) := by
  simp [execWakeNEdge, apply_ite State.ticks, State.logPut_ticks, State.wakeNow_ticks]

@[simp] theorem execWakeComplete_ticks (dt : Nat) (flash : Option FwImage) (s : State) :
    TicksAt (s.ticks + dt) (execWakeComplete dt flash s) := by
  simp [execWakeComplete, apply_ite State.ticks, State.wakeDone_ticks]

@[simp] theorem execPerstNAssert_ticks (dt : Nat) (low : Bool) (s : State) :
    TicksAt (s.ticks + dt) (execPerstNAssert dt low s) := by
  simp [execPerstNAssert, apply_ite State.ticks, State.flr_ticks, State.linkLost_ticks]

@[simp] theorem execPcieFlr_ticks (dt : Nat) (s : State) : TicksAt (s.ticks + dt) (execPcieFlr dt s) := by
  simp [execPcieFlr, apply_ite State.ticks, State.flr_ticks]

@[simp] theorem execPcieLinkLoss_ticks (dt : Nat) (s : State) : TicksAt (s.ticks + dt) (execPcieLinkLoss dt s) := by
  simp [execPcieLinkLoss, apply_ite State.ticks, State.linkLost_ticks]

@[simp] theorem execAccordSeed_ticks (dt : Nat) (s : State) : TicksAt (s.ticks + dt) (execAccordSeed dt s) := by
  simp [execAccordSeed, apply_ite State.ticks, State.raise_ticks, State.seedAccord_ticks]

/-! ### The clocks and the accord -/

@[simp] theorem execOcxoPresent_ticks (dt : Nat) (s : State) : TicksAt (s.ticks + dt) (execOcxoPresent dt s) := by
  simp [execOcxoPresent, apply_ite State.ticks, State.react_ticks]

@[simp] theorem execCpllLock_ticks (dt : Nat) (s : State) : TicksAt (s.ticks + dt) (execCpllLock dt s) := by
  simp [execCpllLock, apply_ite State.ticks, State.faultEnd_ticks, State.raise_ticks]

@[simp] theorem execCpllLoss_ticks (dt : Nat) (s : State) : TicksAt (s.ticks + dt) (execCpllLoss dt s) := by
  simp [execCpllLoss, State.cpllLost_ticks]

@[simp] theorem execMacerationEnd_ticks (dt : Nat) (s : State) : TicksAt (s.ticks + dt) (execMacerationEnd dt s) := by
  simp [execMacerationEnd, apply_ite State.ticks, State.raise_ticks]

@[simp] theorem execEbPublication_ticks (dt : Nat) (s : State) : TicksAt (s.ticks + dt) (execEbPublication dt s) := by
  simp [execEbPublication, apply_ite State.ticks, State.publish_ticks]

@[simp] theorem execTimeBusApply_ticks (dt : Nat) (s : State) : TicksAt (s.ticks + dt) (execTimeBusApply dt s) := by
  simp [execTimeBusApply]

@[simp] theorem execTimeBusCheck_ticks (dt : Nat) (tap : BitVec 8) (value : BitVec 48) (s : State) :
    TicksAt (s.ticks + dt) (execTimeBusCheck dt tap value s) := by
  simp [execTimeBusCheck, apply_ite State.ticks, State.faultAssert_ticks]

@[simp] theorem execBridgeClockLoss_ticks (dt : Nat) (s : State) :
    TicksAt (s.ticks + dt) (execBridgeClockLoss dt s) := by
  simp [execBridgeClockLoss, State.faultAssert_ticks]

@[simp] theorem execTimeBusError_ticks (dt : Nat) (s : State) : TicksAt (s.ticks + dt) (execTimeBusError dt s) := by
  simp [execTimeBusError, State.faultAssert_ticks]

@[simp] theorem execBridgeMeasure_ticks (dt : Nat) (skew : Int) (s : State) :
    TicksAt (s.ticks + dt) (execBridgeMeasure dt skew s) := by
  simp only [execBridgeMeasure, ticksAt_next]
  split
  · split
    · rw [State.calNext_ticks, State.substAll_ticks]; rfl
    · rw [State.powerDown_ticks, State.calNext_ticks, State.substAll_ticks]; rfl
  · rfl

@[simp] theorem execServoTimeout_ticks (dt : Nat) (s : State) : TicksAt (s.ticks + dt) (execServoTimeout dt s) := by
  simp [execServoTimeout, apply_ite State.ticks, State.enterDrydown_ticks, State.faultAssert_ticks, State.raise_ticks]

@[simp] theorem execAccordReEntry_ticks (dt : Nat) (s : State) : TicksAt (s.ticks + dt) (execAccordReEntry dt s) := by
  simp only [execAccordReEntry, ticksAt_next]
  split
  · simp
  · split <;> simp [State.steerTo_ticks, State.switchDone_ticks]

@[simp] theorem execLeapApply_ticks (dt : Nat) (s : State) : TicksAt (s.ticks + dt) (execLeapApply dt s) := by
  simp [execLeapApply, State.leapNow_ticks]

/-! ### Faults -/

@[simp] theorem execFaultAssert_ticks (dt : Nat) (n : BitVec 8) (inst : BitVec 16) (s : State) :
    TicksAt (s.ticks + dt) (execFaultAssert dt n inst s) := by
  simp [execFaultAssert, apply_ite State.ticks, State.faultAssert_ticks, State.selfFails0_ticks, State.wardenLate_ticks]

@[simp] theorem execCollectorSelfFail_ticks (dt : Nat) (s : State) :
    TicksAt (s.ticks + dt) (execCollectorSelfFail dt s) := by
  simp [execCollectorSelfFail, State.selfFails0_ticks]

@[simp] theorem execWardenWdogExpiry_ticks (dt : Nat) (s : State) :
    TicksAt (s.ticks + dt) (execWardenWdogExpiry dt s) := by
  simp [execWardenWdogExpiry, State.wardenLate_ticks]

/-! ### REF -/

@[simp] theorem execRefEdge_ticks (dt : Nat) (slot : BitVec 5) (phase : Int) (cycles : Nat) (s : State) :
    TicksAt (s.ticks + dt) (execRefEdge dt slot phase cycles s) := by
  simp [execRefEdge, apply_ite State.ticks, State.clockEdge_ticks, State.refUpdate_ticks]

@[simp] theorem execRefTodMessage_ticks (dt : Nat) (slot : BitVec 4) (phase : Int) (second : BitVec 48) (s : State) :
    TicksAt (s.ticks + dt) (execRefTodMessage dt slot phase second s) := by
  simp [execRefTodMessage, apply_ite State.ticks, State.refUpdate_ticks]

@[simp] theorem execRefOffsetDelivery_ticks (dt : Nat) (m : BitVec 4) (slot : BitVec 5) (offset : BitVec 64)
    (eSrc : BitVec 24) (s : State) : TicksAt (s.ticks + dt) (execRefOffsetDelivery dt m slot offset eSrc s) := by
  simp only [execRefOffsetDelivery, ticksAt_next]
  split
  · split
    · rw [State.refDeliver_ticks, State.modSlot_ticks]; rfl
    · rfl
  · rfl

@[simp] theorem execRefLosTimeout_ticks (dt : Nat) (slot : BitVec 5) (s : State) :
    TicksAt (s.ticks + dt) (execRefLosTimeout dt slot s) := by
  simp only [execRefLosTimeout, ticksAt_next]
  split
  · simp
  · split <;> simp [apply_ite State.ticks, State.cellsStale_ticks, State.modSlot_ticks, State.refHist_ticks,
      State.setFaults_ticks]

@[simp] theorem execHoldoffExpiry_ticks (dt : Nat) (slot : BitVec 5) (s : State) :
    TicksAt (s.ticks + dt) (execHoldoffExpiry dt slot s) := by
  simp [execHoldoffExpiry, State.holdoffOut_ticks]

@[simp] theorem execWaitExpiry_ticks (dt : Nat) (slot : BitVec 5) (s : State) :
    TicksAt (s.ticks + dt) (execWaitExpiry dt slot s) := by
  simp [execWaitExpiry, State.waitOut_ticks]

@[simp] theorem execRefSelectTick_ticks (dt : Nat) (s : State) : TicksAt (s.ticks + dt) (execRefSelectTick dt s) := by
  simp [execRefSelectTick, apply_ite State.ticks, State.cellsSnap_ticks, State.refSelect_ticks]

@[simp] theorem execPtpAnnounceTimeout_ticks (dt : Nat) (i : BitVec 2) (s : State) :
    TicksAt (s.ticks + dt) (execPtpAnnounceTimeout dt i s) := by
  simp [execPtpAnnounceTimeout, apply_ite State.ticks, State.modSlot_ticks, State.refHist_ticks, State.setSource_ticks]

/-! ### GNS -/

@[simp] theorem execGnssClkLoss_ticks (dt : Nat) (n : Nat) (s : State) :
    TicksAt (s.ticks + dt) (execGnssClkLoss dt n s) := by
  simp only [execGnssClkLoss, ticksAt_next]
  split
  · simp [State.samples_ticks]
  · split <;> simp [apply_ite State.ticks, State.acqEnd_ticks, State.gnsEval_ticks, State.gnsHist_ticks,
      State.raise_ticks, State.samples_ticks, State.snapEnd_ticks]

@[simp] theorem execGnssClkMeasure_ticks (dt : Nat) (edges : Nat) (s : State) :
    TicksAt (s.ticks + dt) (execGnssClkMeasure dt edges s) := by
  simp [execGnssClkMeasure, apply_ite State.ticks, State.raise_ticks]

theorem State.tone_ticks (x : State × Bool) (t : Nat × Nat) : (State.tone x t).1.ticks = x.1.ticks := by
  simp only [State.tone]
  split
  · rfl
  · split
    · split
      · exact State.notchAt_ticks ..
      · rfl
    · split
      · exact State.notchAt_ticks ..
      · rfl

theorem State.tones_ticks (l : List (Nat × Nat)) (x : State × Bool) : (l.foldl State.tone x).1.ticks = x.1.ticks := by
  induction l generalizing x with
  | nil => rfl
  | cons a l ih => rw [List.foldl_cons, ih, State.tone_ticks]

@[simp] theorem execNotchDetect_ticks (dt : Nat) (tones : List (Nat × Nat) ) (s : State) :
    TicksAt (s.ticks + dt) (execNotchDetect dt tones s) := by
  simp [execNotchDetect, apply_ite State.ticks, State.raise_ticks, State.gnsHist_ticks, State.tones_ticks]

@[simp] theorem execNotchRelease_ticks (dt : Nat) (n : BitVec 2) (s : State) :
    TicksAt (s.ticks + dt) (execNotchRelease dt n s) := by
  simp [execNotchRelease, apply_ite State.ticks]

@[simp] theorem execJamWarnChange_ticks (dt : Nat) (pre post : BitVec 16) (s : State) :
    TicksAt (s.ticks + dt) (execJamWarnChange dt pre post s) := by
  simp [execJamWarnChange, apply_ite State.ticks, State.gnsHist_ticks, State.raise_ticks]

@[simp] theorem execAcqPass_ticks (dt : Nat) (edge : Nat) (peaks : List AcqPeak) (s : State) :
    TicksAt (s.ticks + dt) (execAcqPass dt edge peaks s) := by
  simp only [execAcqPass, ticksAt_next]
  split
  · simp
  · split <;> simp [apply_ite State.ticks, State.acqLast_ticks]

@[simp] theorem execGnsTrackStart_ticks (dt : Nat) (k : BitVec 5) (n : Nat) (s : State) :
    TicksAt (s.ticks + dt) (execGnsTrackStart dt k n s) := by
  simp [execGnsTrackStart, apply_ite State.ticks, State.modTrk_ticks, State.samples_ticks]

@[simp] theorem execGnsDump_ticks (dt : Nat) (k : BitVec 5) (n : Nat) (accum : List (BitVec 24) ) (s : State) :
    TicksAt (s.ticks + dt) (execGnsDump dt k n accum s) := by
  simp [execGnsDump, apply_ite State.ticks, State.gnsHist_ticks, State.modTrk_ticks, State.samples_ticks]

@[simp] theorem execGnsLatch_ticks (dt : Nat) (n : Nat) (edge : Nat) (s : State) :
    TicksAt (s.ticks + dt) (execGnsLatch dt n edge s) := by
  simp only [execGnsLatch, ticksAt_next]
  split
  · rfl
  · split
    · rfl
    · simp only [apply_ite State.ticks, State.latchTake_ticks, State.samples_ticks, State.advance_at, ite_self]

@[simp] theorem execGnsSolTimeout_ticks (dt : Nat) (s : State) : TicksAt (s.ticks + dt) (execGnsSolTimeout dt s) := by
  simp [execGnsSolTimeout, apply_ite State.ticks, State.gnsEval_ticks, State.raise_ticks]

@[simp] theorem execSnapshotStart_ticks (dt : Nat) (edge : Nat) (s : State) :
    TicksAt (s.ticks + dt) (execSnapshotStart dt edge s) := by
  simp only [execSnapshotStart, ticksAt_next]
  split
  · simp
  · split <;> simp [State.snapWait_ticks]

@[simp] theorem execSnapshotDone_ticks (dt : Nat) (samples : List (BitVec 8) ) (s : State) :
    TicksAt (s.ticks + dt) (execSnapshotDone dt samples s) := by
  simp [execSnapshotDone, apply_ite State.ticks, State.snapEnd_ticks]

/-! ### TIC -/

@[simp] theorem execTicEdge_ticks (dt : Nat) (ch : BitVec 5) (falling : Bool) (fine : BitVec 12) (badCode : Bool)
    (other : Int) (s : State) : TicksAt (s.ticks + dt) (execTicEdge dt ch falling fine badCode other s) := by
  simp [execTicEdge, apply_ite State.ticks, State.ticGap_ticks, State.ticMiss_ticks, State.ticStamp_ticks]

@[simp] theorem execTicPresenceTimeout_ticks (dt : Nat) (ch : BitVec 5) (s : State) :
    TicksAt (s.ticks + dt) (execTicPresenceTimeout dt ch s) := by
  simp [execTicPresenceTimeout, apply_ite State.ticks, State.modTch_ticks, State.ticMark_ticks, State.ticRaise_ticks]

@[simp] theorem execTicIntervalTimeout_ticks (dt : Nat) (ch : BitVec 5) (s : State) :
    TicksAt (s.ticks + dt) (execTicIntervalTimeout dt ch s) := by
  simp [execTicIntervalTimeout, apply_ite State.ticks, State.ivEnd_ticks]

@[simp] theorem execTicCoarseWrap_ticks (dt : Nat) (s : State) : TicksAt (s.ticks + dt) (execTicCoarseWrap dt s) := by
  simp [execTicCoarseWrap, apply_ite State.ticks, State.raise_ticks, State.wrapRecord_ticks, foldl_ticks]

@[simp] theorem execTicWarmupEnd_ticks (dt : Nat) (c : BitVec 6) (s : State) :
    TicksAt (s.ticks + dt) (execTicWarmupEnd dt c s) := by
  simp [execTicWarmupEnd, apply_ite State.ticks, State.calNext_ticks, State.modConv_ticks]

@[simp] theorem execTicCalDone_ticks (dt : Nat) (c : BitVec 6) (calUnc ssRms gainDev segDev : BitVec 16) (points : List
    (BitVec 16) ) (s : State) : TicksAt (s.ticks + dt) (execTicCalDone dt c calUnc ssRms gainDev segDev points s) := by
  simp [execTicCalDone, apply_ite State.ticks, State.calNext_ticks, State.calPass_ticks, State.convFail_ticks,
    State.coverKeep_ticks, State.swapHome_ticks, State.ticCalCount_ticks]

@[simp] theorem execTicRecalTrigger_ticks (dt : Nat) (c : BitVec 6) (s : State) :
    TicksAt (s.ticks + dt) (execTicRecalTrigger dt c s) := by
  simp [execTicRecalTrigger, apply_ite State.ticks, State.calNext_ticks]

@[simp] theorem execTicSubstHandover_ticks (dt : Nat) (sp : BitVec 2) (s : State) :
    TicksAt (s.ticks + dt) (execTicSubstHandover dt sp s) := by
  simp [execTicSubstHandover, apply_ite State.ticks, State.calNext_ticks, State.swapAbandon_ticks, State.swapOver_ticks]

@[simp] theorem execTicEticUpdate_ticks (dt : Nat) (s : State) : TicksAt (s.ticks + dt) (execTicEticUpdate dt s) := by
  simp [execTicEticUpdate, apply_ite State.ticks, State.calNext_ticks]

/-! ### OUT -/

@[simp] theorem execSynLock_ticks (dt : Nat) (k : BitVec 2) (s : State) :
    TicksAt (s.ticks + dt) (execSynLock dt k s) := by
  simp [execSynLock, apply_ite State.ticks, State.synLocked_ticks]

@[simp] theorem execSynUnlock_ticks (dt : Nat) (k : BitVec 2) (s : State) :
    TicksAt (s.ticks + dt) (execSynUnlock dt k s) := by
  simp [execSynUnlock, apply_ite State.ticks, State.synUnlock_ticks]

@[simp] theorem execOutputStart_ticks (dt : Nat) (n : BitVec 4) (s : State) :
    TicksAt (s.ticks + dt) (execOutputStart dt n s) := by
  simp [execOutputStart, apply_ite State.ticks, State.modOch_ticks, State.outRaise_ticks, State.outUnsynced_ticks,
    State.pairEval_ticks]

@[simp] theorem execAlignerCompare_ticks (dt : Nat) (n : BitVec 4) (errPs : Int) (s : State) :
    TicksAt (s.ticks + dt) (execAlignerCompare dt n errPs s) := by
  simp [execAlignerCompare, apply_ite State.ticks, State.alignClear_ticks, State.modOch_ticks, State.outRaise_ticks,
    State.pairEval_ticks]

@[simp] theorem execGlideEnd_ticks (dt : Nat) (n : BitVec 4) (s : State) :
    TicksAt (s.ticks + dt) (execGlideEnd dt n s) := by
  simp [execGlideEnd, apply_ite State.ticks, State.modOch_ticks]

@[simp] theorem execAlignHoldTimer_ticks (dt : Nat) (n : BitVec 4) (s : State) :
    TicksAt (s.ticks + dt) (execAlignHoldTimer dt n s) := by
  simp [execAlignHoldTimer, apply_ite State.ticks, State.alignClear_ticks, State.faultAssert_ticks]

@[simp] theorem execOutSyncExecute_ticks (dt : Nat) (s : State) : TicksAt (s.ticks + dt) (execOutSyncExecute dt s) := by
  simp [execOutSyncExecute, apply_ite State.ticks, State.syncRunAll_ticks]

@[simp] theorem execTpPulse_ticks (dt : Nat) (m : BitVec 2) (s : State) :
    TicksAt (s.ticks + dt) (execTpPulse dt m s) := by
  simp [execTpPulse, apply_ite State.ticks, State.tpFire_ticks]

@[simp] theorem execTpPulseEnd_ticks (dt : Nat) (m : BitVec 2) (s : State) :
    TicksAt (s.ticks + dt) (execTpPulseEnd dt m s) := by
  simp [execTpPulseEnd, apply_ite State.ticks, State.modOtp_ticks]

@[simp] theorem execTodMessage_ticks (dt : Nat) (k : BitVec 1) (s : State) :
    TicksAt (s.ticks + dt) (execTodMessage dt k s) := by
  simp [execTodMessage, apply_ite State.ticks, State.todSend_ticks]

@[simp] theorem execEchoDone_ticks (dt : Nat) (good : BitVec 16) (meanFs : Nat) (sigma : BitVec 16) (s : State) :
    TicksAt (s.ticks + dt) (execEchoDone dt good meanFs sigma s) := by
  simp only [execEchoDone, ticksAt_next]
  split <;> simp [State.echoResult_ticks]

/-! ### ETH -/

@[simp] theorem execFrameReceive_ticks (dt : Nat) (lane : BitVec 4) (phase : Nat) (f : RxFrame) (s : State) :
    TicksAt (s.ticks + dt) (execFrameReceive dt lane phase f s) := by
  simp [execFrameReceive, apply_ite State.ticks, State.capFrame_ticks, State.rxCount_ticks, State.rxHost_ticks,
    State.rxPath_ticks]

@[simp] theorem execFrameRelease_ticks (dt : Nat) (lane : BitVec 4) (phase : Nat) (s : State) :
    TicksAt (s.ticks + dt) (execFrameRelease dt lane phase s) := by
  simp only [execFrameRelease]
  split
  · simp
  · split
    · simp [State.toWire_ticks]
    · split <;> simp [State.toWire_ticks]

@[simp] theorem execTxComplete_ticks (dt : Nat) (lane : BitVec 4) (s : State) :
    TicksAt (s.ticks + dt) (execTxComplete dt lane s) := by
  simp only [execTxComplete]
  split <;> simp [apply_ite State.ticks, State.txDone_ticks]

@[simp] theorem execLinkUp_ticks (dt : Nat) (lane : BitVec 4) (rxPhasePs : BitVec 16) (s : State) :
    TicksAt (s.ticks + dt) (execLinkUp dt lane rxPhasePs s) := by
  simp [execLinkUp, State.capLink_ticks, State.ethRaise_ticks, State.modLane_ticks]

@[simp] theorem execLinkDown_ticks (dt : Nat) (lane : BitVec 4) (s : State) :
    TicksAt (s.ticks + dt) (execLinkDown dt lane s) := by
  simp [execLinkDown, State.linkFall_ticks]

@[simp] theorem execQuadReady_ticks (dt : Nat) (q : BitVec 2) (s : State) :
    TicksAt (s.ticks + dt) (execQuadReady dt q s) := by
  simp [execQuadReady, State.raise_ticks]

@[simp] theorem execCaptureIntervalOpen_ticks (dt : Nat) (lane : BitVec 4) (s : State) :
    TicksAt (s.ticks + dt) (execCaptureIntervalOpen dt lane s) := by
  simp [execCaptureIntervalOpen, apply_ite State.ticks, State.capRoll_ticks]

@[simp] theorem execCaptureIntervalTimeout_ticks (dt : Nat) (lane : BitVec 4) (s : State) :
    TicksAt (s.ticks + dt) (execCaptureIntervalTimeout dt lane s) := by
  simp [execCaptureIntervalTimeout, apply_ite State.ticks, State.capRoll_ticks]

@[simp] theorem execCaptureRootReady_ticks (dt : Nat) (lane : BitVec 4) (s : State) :
    TicksAt (s.ticks + dt) (execCaptureRootReady dt lane s) := by
  simp only [execCaptureRootReady]
  split <;> simp [apply_ite State.ticks, State.rootReady_ticks]

@[simp] theorem execCaptureSuperRoot_ticks (dt : Nat) (lane : BitVec 4) (s : State) :
    TicksAt (s.ticks + dt) (execCaptureSuperRoot dt lane s) := by
  simp [execCaptureSuperRoot, apply_ite State.ticks, State.superWrite_ticks]

@[simp] theorem execCaptureLossRecord_ticks (dt : Nat) (lane : BitVec 4) (s : State) :
    TicksAt (s.ticks + dt) (execCaptureLossRecord dt lane s) := by
  simp [execCaptureLossRecord, apply_ite State.ticks, State.capLoss_ticks, State.capRoll_ticks]

@[simp] theorem execCaptureResume_ticks (dt : Nat) (lane : BitVec 4) (s : State) :
    TicksAt (s.ticks + dt) (execCaptureResume dt lane s) := by
  simp [execCaptureResume, State.capResume_ticks]

/-! ### TMG -/

@[simp] theorem execGateEntryChange_ticks (dt : Nat) (lane : BitVec 4) (s : State) :
    TicksAt (s.ticks + dt) (execGateEntryChange dt lane s) := by
  simp [execGateEntryChange, apply_ite State.ticks, State.gateEval_ticks]

@[simp] theorem execGclSwap_ticks (dt : Nat) (lane : BitVec 4) (s : State) :
    TicksAt (s.ticks + dt) (execGclSwap dt lane s) := by
  simp [execGclSwap, apply_ite State.ticks, State.swapsDue_ticks]

@[simp] theorem execShaperUpdate_ticks (dt : Nat) (s : State) : TicksAt (s.ticks + dt) (execShaperUpdate dt s) := by
  simp [execShaperUpdate, apply_ite State.ticks, State.shape_ticks, foldl_ticks]

@[simp] theorem execPolicerAccrue_ticks (dt : Nat) (s : State) : TicksAt (s.ticks + dt) (execPolicerAccrue dt s) := by
  simp [execPolicerAccrue, apply_ite State.ticks]

@[simp] theorem execQueueSample_ticks (dt : Nat) (s : State) : TicksAt (s.ticks + dt) (execQueueSample dt s) := by
  simp only [execQueueSample]
  split
  · refine ticksAt_next.2 ((foldl_ticks _ _ (fun s q => ?_) _).trans rfl)
    simp only [apply_ite State.ticks, State.sampleQ_ticks, ite_self]
  · exact ticksAt_next.2 rfl

@[simp] theorem execCommitSlotCheck_ticks (dt : Nat) (lane : BitVec 4) (s : State) :
    TicksAt (s.ticks + dt) (execCommitSlotCheck dt lane s) := by
  simp [execCommitSlotCheck, apply_ite State.ticks, State.missSlot_ticks, foldl_ticks]

@[simp] theorem execCommitDecision_ticks (dt : Nat) (lane : BitVec 4) (residualPs : Int) (s : State) :
    TicksAt (s.ticks + dt) (execCommitDecision dt lane residualPs s) := by
  simp only [execCommitDecision]
  split
  · simp
  · split <;> simp [apply_ite State.ticks, State.commitDecide_ticks]

/-! ### SVC -/

/-- What a client's look-up leaves has the tick count from before it. -/
theorem noteClient_result {s b : State} {l kind i : Nat} {r : SvcReq} {x : Option Client}
    (h : s.noteClient l kind r i = (x, b)) : b.ticks = s.ticks := by
  rw [← State.noteClient_ticks s l kind r i, h]

@[simp] theorem execPtpDelayReq_ticks (dt : Nat) (lane : BitVec 4) (phase : Nat) (r : SvcReq) (s : State) :
    TicksAt (s.ticks + dt) (execPtpDelayReq dt lane phase r s) := by
  simp only [execPtpDelayReq]
  split
  · simp
  · split
    · simp [State.ptpIntake_ticks]
    · split
      · simp [State.otherDiscard_ticks, State.ptpIntake_ticks]
      · split <;> rename_i h
        · simp [noteClient_result h, State.ptpIntake_ticks]
        · simp [State.sendAuth_ticks, apply_ite Prod.snd, apply_ite State.ticks, State.takeToken_ticks,
            noteClient_result h, State.ptpIntake_ticks]

@[simp] theorem execPtpUnicastRequest_ticks (dt : Nat) (lane : BitVec 4) (r : SvcReq) (s : State) :
    TicksAt (s.ticks + dt) (execPtpUnicastRequest dt lane r s) := by
  simp only [execPtpUnicastRequest]
  split
  · simp
  · split
    · simp [State.ptpIntake_ticks]
    · split
      · simp [State.otherDiscard_ticks, State.ptpIntake_ticks]
      · split <;> rename_i h
        · simp [foldl_ticks, State.grantDeny_ticks, noteClient_result h, State.ptpIntake_ticks]
        · simp [foldl_ticks, State.grantOne_ticks, apply_ite Prod.snd, apply_ite State.ticks, State.takeToken_ticks,
            noteClient_result h, State.ptpIntake_ticks]

@[simp] theorem execPtpUnicastCancel_ticks (dt : Nat) (lane : BitVec 4) (r : SvcReq) (s : State) :
    TicksAt (s.ticks + dt) (execPtpUnicastCancel dt lane r s) := by
  simp [execPtpUnicastCancel, State.cancelOne_ticks, State.otherDiscard_ticks, State.ptpIntake_ticks, foldl_ticks]

@[simp] theorem execNtpRequest_ticks (dt : Nat) (lane : BitVec 4) (phase : Nat) (r : SvcReq) (s : State) :
    TicksAt (s.ticks + dt) (execNtpRequest dt lane phase r s) := by
  simp only [execNtpRequest]
  split
  · simp
  · split
    · simp [State.intake_ticks]
    · split
      · simp [State.otherDiscard_ticks, State.intake_ticks]
      · split <;> rename_i h
        · simp [State.sendSvc_ticks, noteClient_result h, State.intake_ticks]
        · simp [State.sendSvc_ticks, State.kodRate_ticks, apply_ite State.ticks, State.takeToken_ticks,
            noteClient_result h, State.intake_ticks]

@[simp] theorem execNtsRequest_ticks (dt : Nat) (lane : BitVec 4) (phase : Nat) (r : SvcReq) (s : State) :
    TicksAt (s.ticks + dt) (execNtsRequest dt lane phase r s) := by
  simp only [execNtsRequest]
  split
  · simp
  · split
    · simp [State.intake_ticks]
    · split
      · simp [State.otherDiscard_ticks, State.intake_ticks]
      · split
        · simp [State.svcCount_ticks, State.intake_ticks]
        · split
          · simp [State.svcCount_ticks, State.intake_ticks]
          · split <;> rename_i h
            · simp [State.ntsCheck_ticks, noteClient_result h, State.intake_ticks]
            · simp [State.ntsCheck_ticks, apply_ite State.ticks, State.takeToken_ticks, noteClient_result h,
                State.intake_ticks]

@[simp] theorem execPtpSyncInterval_ticks (dt : Nat) (lane : BitVec 4) (dst : BitVec 128) (s : State) :
    TicksAt (s.ticks + dt) (execPtpSyncInterval dt lane dst s) := by
  simp [execPtpSyncInterval, State.commitMsg_ticks, State.modPort_ticks, State.sendAuth_ticks, State.sendSvc_ticks]

@[simp] theorem execPtpFollowUp_ticks (dt : Nat) (lane : BitVec 4) (s : State) :
    TicksAt (s.ticks + dt) (execPtpFollowUp dt lane s) := by
  simp only [execPtpFollowUp]
  split <;> simp [State.followUp_ticks, State.modPort_ticks]

@[simp] theorem execPtpAnnounceInterval_ticks (dt : Nat) (lane : BitVec 4) (dst : BitVec 128) (s : State) :
    TicksAt (s.ticks + dt) (execPtpAnnounceInterval dt lane dst s) := by
  simp [execPtpAnnounceInterval, State.modPort_ticks, State.sendAuth_ticks]

@[simp] theorem execGrantExpiry_ticks (dt : Nat) (idx : BitVec 20) (gType : BitVec 4) (s : State) :
    TicksAt (s.ticks + dt) (execGrantExpiry dt idx gType s) := by
  simp only [execGrantExpiry]
  split
  · simp
  · split <;> simp [State.setClient_ticks]

@[simp] theorem execKeyRoll_ticks (dt : Nat) (spp : BitVec 4) (s : State) :
    TicksAt (s.ticks + dt) (execKeyRoll dt spp s) := by
  simp [execKeyRoll, apply_ite State.ticks, State.keyRoll_ticks]

@[simp] theorem execAcceptOldExpiry_ticks (dt : Nat) (spp : BitVec 4) (s : State) :
    TicksAt (s.ticks + dt) (execAcceptOldExpiry dt spp s) := by
  simp only [execAcceptOldExpiry]
  split
  · rw [ticksAt_next]
    split
    · exact State.dropOld_ticks ..
    · rfl
  · simp

@[simp] theorem execClientAgeExpiry_ticks (dt : Nat) (idx : BitVec 20) (s : State) :
    TicksAt (s.ticks + dt) (execClientAgeExpiry dt idx s) := by
  simp only [execClientAgeExpiry]
  split <;> simp [apply_ite State.ticks, State.freeClient_ticks]

/-! ### LOG and KEY -/

theorem State.checkpointDue_ticks (s : State) : (if s.ckDue then s.checkpoint false else s).ticks = s.ticks := by
  split
  · exact State.checkpoint_ticks ..
  · rfl

@[simp] theorem execLogSecondTick_ticks (dt : Nat) (keepFail : Option (BitVec 10) ) (s : State) :
    TicksAt (s.ticks + dt) (execLogSecondTick dt keepFail s) := by
  simp only [execLogSecondTick]
  split
  · simp
  · rw [ticksAt_next, State.checkpointDue_ticks]
    split
    · split
      · rw [State.keepRowFail_ticks]; rfl
      · rfl
    · rfl

@[simp] theorem execLogSignatureDone_ticks (dt : Nat) (r : BitVec 256) (s_ : BitVec 256) (s : State) :
    TicksAt (s.ticks + dt) (execLogSignatureDone dt r s_ s) := by
  simp only [execLogSignatureDone]
  split
  · simp
  · split <;> simp [apply_ite State.ticks, State.ckOrderly_ticks, State.drainWait_ticks, State.logGap_ticks,
      State.logLevel_ticks, State.logPut_ticks, State.logRecover_ticks, State.logSig_ticks, State.settle_ticks]

@[simp] theorem execKeyOperationDone_ticks (dt : Nat) (ok : Bool) (s : State) :
    TicksAt (s.ticks + dt) (execKeyOperationDone dt ok s) := by
  simp only [execKeyOperationDone]
  split <;> simp [apply_ite State.ticks, State.keyOpDone_ticks, State.keyResult_ticks]

@[simp] theorem execTamperAssert_ticks (dt : Nat) (src_ : BitVec 4) (on : Bool) (s : State) :
    TicksAt (s.ticks + dt) (execTamperAssert dt src_ on s) := by
  simp [execTamperAssert, apply_ite State.ticks, State.tamper_ticks]

/-! ### PAIR -/

@[simp] theorem execBenitTimingFrameSend_ticks (dt : Nat) (s : State) :
    TicksAt (s.ticks + dt) (execBenitTimingFrameSend dt s) := by
  simp [execBenitTimingFrameSend, apply_ite State.ticks]

@[simp] theorem execBenitTimingFrame_ticks (dt : Nat) (lane0 lane1 : BenitTimes) (f : PeerFrame) (s : State) :
    TicksAt (s.ticks + dt) (execBenitTimingFrame dt lane0 lane1 f s) := by
  simp [execBenitTimingFrame, apply_ite State.ticks, State.digestCheck_ticks, State.laneSkew_ticks,
    State.refDeliver_ticks, State.sideCheck_ticks]

@[simp] theorem execBenitSafeNotice_ticks (dt : Nat) (s : State) :
    TicksAt (s.ticks + dt) (execBenitSafeNotice dt s) := by
  simp [execBenitSafeNotice, apply_ite State.ticks, State.faultAssert_ticks, State.raise_ticks, State.roundNow_ticks]

@[simp] theorem execBenitOutBadNotice_ticks (dt : Nat) (target : BitVec 5) (bad : Bool) (s : State) :
    TicksAt (s.ticks + dt) (execBenitOutBadNotice dt target bad s) := by
  simp only [execBenitOutBadNotice, ticksAt_next]
  split
  · simp
  · split <;> simp [State.faultAssert_ticks, State.faultEnd_ticks, State.pairEval_ticks]

@[simp] theorem execBenitHandoverNotice_ticks (dt : Nat) (at_ : Tai) (s : State) :
    TicksAt (s.ticks + dt) (execBenitHandoverNotice dt at_ s) := by
  simp [execBenitHandoverNotice, apply_ite State.ticks]

@[simp] theorem execBenitRejoinNotice_ticks (dt : Nat) (s : State) :
    TicksAt (s.ticks + dt) (execBenitRejoinNotice dt s) := by
  simp [execBenitRejoinNotice, apply_ite State.ticks]

@[simp] theorem execBenitLinkUp_ticks (dt : Nat) (lane : BitVec 1) (side : Bool) (s : State) :
    TicksAt (s.ticks + dt) (execBenitLinkUp dt lane side s) := by
  simp only [execBenitLinkUp, ticksAt_next]
  split
  · simp
  · split <;> simp [State.benitSpare_ticks, State.raise_ticks, State.sideCheck_ticks]

@[simp] theorem execBenitLinkLoss_ticks (dt : Nat) (s : State) : TicksAt (s.ticks + dt) (execBenitLinkLoss dt s) := by
  simp [execBenitLinkLoss, apply_ite State.ticks, State.faultAssert_ticks, State.raise_ticks, State.roundNow_ticks,
    State.setSource_ticks]

@[simp] theorem execPairFirstClaim_ticks (dt : Nat) (s : State) : TicksAt (s.ticks + dt) (execPairFirstClaim dt s) := by
  simp [execPairFirstClaim, apply_ite State.ticks]

@[simp] theorem execClaimRoundStart_ticks (dt : Nat) (s : State) :
    TicksAt (s.ticks + dt) (execClaimRoundStart dt s) := by
  simp [execClaimRoundStart, apply_ite State.ticks, State.roundNow_ticks]

@[simp] theorem execClaimSofDetect_ticks (dt : Nat) (s : State) : TicksAt (s.ticks + dt) (execClaimSofDetect dt s) := by
  simp [execClaimSofDetect, apply_ite State.ticks, State.roundStart_ticks]

theorem State.lineTest_ticks (s : State) (t : Option Bool) : (s.lineTest t).ticks = s.ticks := by
  cases t with
  | none => rfl
  | some bad => simp [State.lineTest, apply_ite State.ticks, State.faultAssert_ticks, State.faultEnd_ticks,
    State.raise_ticks]

@[simp] theorem execClaimRoundEnd_ticks (dt : Nat) (peer : BitVec 13) (testLow endLow : Bool) (s : State) :
    TicksAt (s.ticks + dt) (execClaimRoundEnd dt peer testLow endLow s) := by
  simp [execClaimRoundEnd, apply_ite State.ticks, State.lineTest_ticks, State.roundWon_ticks, State.roundLost_ticks,
    State.handoverFails_ticks]

@[simp] theorem execHandoverInstant_ticks (dt : Nat) (s : State) :
    TicksAt (s.ticks + dt) (execHandoverInstant dt s) := by
  simp [execHandoverInstant, apply_ite State.ticks, State.ownChange_ticks, State.raise_ticks]

@[simp] theorem execOwnLeaseLapse_ticks (dt : Nat) (s : State) : TicksAt (s.ticks + dt) (execOwnLeaseLapse dt s) := by
  simp only [execOwnLeaseLapse, ticksAt_next]
  split
  · split
    · rw [State.raise_ticks, State.ownChange_ticks]; rfl
    · rw [State.ownChange_ticks]; rfl
  · rfl

@[simp] theorem execPairHandoverExecute_ticks (dt : Nat) (s : State) :
    TicksAt (s.ticks + dt) (execPairHandoverExecute dt s) := by
  simp only [execPairHandoverExecute, ticksAt_next]
  split
  · rfl
  · split
    · exact State.roundNow_ticks _
    · split
      · exact State.roundNow_ticks _
      · rfl

@[simp] theorem execPairCompareWindow_ticks (dt : Nat) (e : BitVec 3) (s : State) :
    TicksAt (s.ticks + dt) (execPairCompareWindow dt e s) := by
  simp [execPairCompareWindow, apply_ite State.ticks, State.entryWindow_ticks, State.modPcmp_ticks]

@[simp] theorem execHealthBitSet_ticks (dt : Nat) (b : BitVec 3) (s : State) :
    TicksAt (s.ticks + dt) (execHealthBitSet dt b s) := by
  simp [execHealthBitSet, apply_ite State.ticks, State.pairEval_ticks, State.raise_ticks]

@[simp] theorem execStandbyCalTest_ticks (dt : Nat) (bad : BitVec 8) (s : State) :
    TicksAt (s.ticks + dt) (execStandbyCalTest dt bad s) := by
  simp [execStandbyCalTest, apply_ite State.ticks, State.entryCalBad_ticks, State.pairEval_ticks, foldl_ticks]

/-! ### MON, CAL and KEEP -/

@[simp] theorem execSupplySample_ticks (dt : Nat) (mv : List (BitVec 16) ) (s : State) :
    TicksAt (s.ticks + dt) (execSupplySample dt mv s) := by
  refine ticksAt_next.2 (foldl_ticks _ _ (fun s r => ?_) _)
  split
  · exact State.supRead_ticks ..
  · rfl

@[simp] theorem execSupplyWarningChange_ticks (dt : Nat) (r : BitVec 3) (s : State) :
    TicksAt (s.ticks + dt) (execSupplyWarningChange dt r s) := by
  simp [execSupplyWarningChange, apply_ite State.ticks, State.supWarnIs_ticks, State.vbatLowIs_ticks]

@[simp] theorem execTempSample_ticks (dt : Nat) (t : List (BitVec 16) ) (s : State) :
    TicksAt (s.ticks + dt) (execTempSample dt t s) := by
  simp only [execTempSample, ticksAt_next, State.junction_ticks, State.extTemp_ticks, State.anchorTempStep_ticks,
    State.holdTemp_ticks]
  refine foldl_ticks _ _ (fun s c => ?_) _
  split
  · exact State.tempRead_ticks ..
  · rfl

@[simp] theorem execMainsHalfCycle_ticks (dt : Nat) (rmsUv : BitVec 20) (s : State) :
    TicksAt (s.ticks + dt) (execMainsHalfCycle dt rmsUv s) := by
  simp [execMainsHalfCycle, apply_ite State.ticks, State.modMon_ticks, State.pfwEval_ticks, State.rangeEval_ticks]

@[simp] theorem execMainsCrossing_ticks (dt : Nat) (phase : Nat) (s : State) :
    TicksAt (s.ticks + dt) (execMainsCrossing dt phase s) := by
  simp [execMainsCrossing, apply_ite State.ticks, State.mainsPush_ticks, State.modMon_ticks, State.rangeEval_ticks]

@[simp] theorem execMainsGapTimeout_ticks (dt : Nat) (s : State) :
    TicksAt (s.ticks + dt) (execMainsGapTimeout dt s) := by
  simp [execMainsGapTimeout, apply_ite State.ticks, State.modMon_ticks, State.pfwEval_ticks, State.rangeEval_ticks]

@[simp] theorem execMainsRangeTimer_ticks (dt : Nat) (s : State) :
    TicksAt (s.ticks + dt) (execMainsRangeTimer dt s) := by
  simp [execMainsRangeTimer, apply_ite State.ticks, State.faultAssert_ticks, State.modMon_ticks, State.raise_ticks]

@[simp] theorem execPfwPinChange_ticks (dt : Nat) (low : Bool) (s : State) :
    TicksAt (s.ticks + dt) (execPfwPinChange dt low s) := by
  simp [execPfwPinChange, State.modMon_ticks, State.pfwEval_ticks]

@[simp] theorem execPfwClear_ticks (dt : Nat) (s : State) : TicksAt (s.ticks + dt) (execPfwClear dt s) := by
  simp [execPfwClear, apply_ite State.ticks, State.capResume_ticks, State.faultEnd_ticks, State.modMon_ticks,
    State.raise_ticks, foldl_ticks]

@[simp] theorem execRtcStop_ticks (dt : Nat) (s : State) : TicksAt (s.ticks + dt) (execRtcStop dt s) := by
  simp [execRtcStop, State.calLost_ticks, State.calRebase_ticks]

@[simp] theorem execCalSync_ticks (dt : Nat) (s : State) : TicksAt (s.ticks + dt) (execCalSync dt s) := by
  simp [execCalSync, apply_ite State.ticks, State.calSetValid_ticks, State.raise_ticks]

@[simp] theorem execCalAutoTrim_ticks (dt : Nat) (s : State) : TicksAt (s.ticks + dt) (execCalAutoTrim dt s) := by
  simp [execCalAutoTrim, apply_ite State.ticks, State.calRebase_ticks, State.keepOwn_ticks, State.raise_ticks]

@[simp] theorem execKeepAutoScrub_ticks (dt : Nat) (s : State) : TicksAt (s.ticks + dt) (execKeepAutoScrub dt s) := by
  simp [execKeepAutoScrub, apply_ite State.ticks, State.scrubStart_ticks]

@[simp] theorem execKeepScrubDone_ticks (dt : Nat) (r : KeepScrub) (s : State) :
    TicksAt (s.ticks + dt) (execKeepScrubDone dt r s) := by
  simp [execKeepScrubDone, apply_ite State.ticks, State.keepRowFail_ticks, State.keepUncorr_ticks, State.raise_ticks,
    State.spareFails_ticks, foldl_ticks]

/-! ### Firmware, the self-test, the test port and what is left -/

@[simp] theorem execFwStageDone_ticks (dt : Nat) (image : FwImage) (dmaError powerFail : Bool) (s : State) :
    TicksAt (s.ticks + dt) (execFwStageDone dt image dmaError powerFail s) := by
  simp [execFwStageDone, apply_ite State.ticks, State.raise_ticks, State.stageImage_ticks]

@[simp] theorem execBistDone_ticks (dt : Nat) (fail : BitVec 6) (s : State) :
    TicksAt (s.ticks + dt) (execBistDone dt fail s) := by
  simp only [execBistDone]
  split <;> simp [State.bistEffects_ticks, State.modBlt_ticks, State.raise_ticks]

@[simp] theorem execTapInstruction_ticks (dt : Nat) (code : BitVec 8) (s : State) :
    TicksAt (s.ticks + dt) (execTapInstruction dt code s) := by
  simp [execTapInstruction, apply_ite State.ticks, State.modBlt_ticks, State.raise_ticks, State.tamper_ticks]

@[simp] theorem execGnssClkPresent_ticks (dt : Nat) (s : State) : TicksAt (s.ticks + dt) (execGnssClkPresent dt s) := by
  simp [execGnssClkPresent, apply_ite State.ticks, State.gnsEval_ticks]

@[simp] theorem execAtomPresent_ticks (dt : Nat) (s : State) : TicksAt (s.ticks + dt) (execAtomPresent dt s) := by
  simp [execAtomPresent, apply_ite State.ticks]

@[simp] theorem execOscillatorAbsent_ticks (dt : Nat) (atom : Bool) (s : State) :
    TicksAt (s.ticks + dt) (execOscillatorAbsent dt atom s) := by
  simp only [execOscillatorAbsent, ticksAt_next]
  split <;> simp [apply_ite State.ticks, State.cpllLost_ticks, State.refPresence_ticks]

@[simp] theorem execPcieLinkUp_ticks (dt : Nat) (s : State) : TicksAt (s.ticks + dt) (execPcieLinkUp dt s) := by
  simp [execPcieLinkUp, apply_ite State.ticks]

@[simp] theorem execDmaTransferError_ticks (dt : Nat) (ring : BitVec 6) (what : DmaError) (s : State) :
    TicksAt (s.ticks + dt) (execDmaTransferError dt ring what s) := by
  cases what <;> simp [execDmaTransferError, apply_ite State.ticks]

@[simp] theorem execRingStallTimeout_ticks (dt : Nat) (ring : BitVec 6) (s : State) :
    TicksAt (s.ticks + dt) (execRingStallTimeout dt ring s) := by
  simp [execRingStallTimeout, apply_ite State.ticks]

@[simp] theorem execBenitLaneDown_ticks (dt : Nat) (lane : BitVec 1) (s : State) :
    TicksAt (s.ticks + dt) (execBenitLaneDown dt lane s) := by
  simp [execBenitLaneDown, apply_ite State.ticks, State.benitSpare_ticks]

@[simp] theorem execPdVbatPowerLoss_ticks (dt : Nat) (s : State) :
    TicksAt (s.ticks + dt) (execPdVbatPowerLoss dt s) := by
  simp [execPdVbatPowerLoss, State.calLost_ticks]

@[simp] theorem execTapTestLogicReset_ticks (dt : Nat) (s : State) :
    TicksAt (s.ticks + dt) (execTapTestLogicReset dt s) := by
  simp [execTapTestLogicReset, State.modBlt_ticks]

@[simp] theorem execCollectorSelfRecover_ticks (dt : Nat) (s : State) :
    TicksAt (s.ticks + dt) (execCollectorSelfRecover dt s) := by
  simp [execCollectorSelfRecover]

@[simp] theorem execGnssFeEnLead_ticks (dt : Nat) (s : State) : TicksAt (s.ticks + dt) (execGnssFeEnLead dt s) := by
  simp [execGnssFeEnLead, apply_ite State.ticks]

@[simp] theorem execPtpSlaveMessage_ticks (dt : Nat) (i : BitVec 2) (auth : Bool) (msg : SlaveMsg) (s : State) :
    TicksAt (s.ticks + dt) (execPtpSlaveMessage dt i auth msg s) := by
  simp only [execPtpSlaveMessage, ticksAt_next]
  split
  · simp
  · split <;> simp [apply_ite State.ticks, State.modSlot_ticks, State.slaveAnnounce_ticks]

/-! ### Every command -/

@[simp] theorem execUnlistedOpcode_ticks (op : BitVec 16) (p : Packet) (s : State) :
    TicksAt (s.ticks + p.dt) (execUnlistedOpcode op p s) := by
  simp [execUnlistedOpcode, State.unlisted_ticks, State.arrive_ticks]

/-- A packet row's ticks are its packet's. -/
theorem packetOf_dt {i : Instr} {o : OpSpec} {p : Packet} (h : packetOf i = some (o, p)) : i.dt = p.dt := by
  cases i
  all_goals
    simp only [packetOf, Option.some.injEq, Prod.mk.injEq, reduceCtorEq] at h
    try (obtain ⟨-, rfl⟩ := h; rfl)

/-- An event's ticks pass with it. -/
theorem exec_event_ticks {i : Instr} (h : packetOf i = none) (s : State) : TicksAt (s.ticks + i.dt) (exec i s) := by
  cases i <;> simp only [packetOf, reduceCtorEq] at h <;> simp [exec, Instr.dt]

/-- A packet's ticks pass with it. -/
theorem exec_packet_ticks {i : Instr} {o : OpSpec} {p : Packet} (h : packetOf i = some (o, p)) (s : State) :
    TicksAt (s.ticks + i.dt) (exec i s) := by
  rw [exec_packet h, ticksAt_next, State.packet_ticks o (allSpecs_ticks o (packetOf_listed h)), packetOf_dt h]
  rfl

/-- Settles O3: a packet's ticks pass with its arrival, an event's with its start; nothing else moves the clock. -/
theorem timePasses : Obligations.TimePasses := by
  intro i s
  cases h : packetOf i with
  | none => exact exec_event_ticks h s
  | some x => exact exec_packet_ticks h s

end Sys2Proof.Machine
end

section
/-! SUPPORT. The command processor (R39 to R47): the order of its checks, what an accepted packet meets, and where commands
execute. -/

namespace Sys2Proof.Machine

open Host

/-! ### The checks before the state step (R42) -/

/-- The opcode is of class GNS and the chip has no GNSS block (R2). -/
def GnssBarred (o : OpSpec) (u : State) : Prop := o.opcode / 256 = 5 ∧ u.fuse.gnssEn = false

/-- LEN is legal: at most 256 words, eight through a mailbox, and the opcode's own. -/
def LenOk (o : OpSpec) (p : Packet) : Prop :=
  p.len.toNat ≤ 256 ∧ (p.mailbox = true → p.len.toNat ≤ 8) ∧ ∀ n, o.len p = some n → p.len.toNat = n

/-- The master and the life-cycle state may run the opcode. -/
def MayRun (o : OpSpec) (p : Packet) (u : State) : Prop := privileged p.master o.opcode = true ∧ o.lcOk u p = true

/-- The reserved bits, EXEC_AT and the parameters are legal. -/
def ParamsOk (o : OpSpec) (p : Packet) (u : State) : Prop :=
  p.rsvd = 0 ∧ (p.sched = true → taiOk p.execAt = true) ∧ o.params u p = true

open Classical in
/-- The early checks in their order: the first that fails gives the status. -/
theorem OpSpec.early_eq (o : OpSpec) (p : Packet) (u : State) : o.early p u =
    if GnssBarred o u then some .noResource
    else if ¬ LenOk o p then some .badLength
    else if ¬ MayRun o p u then some .denied
    else if ¬ ParamsOk o p u then some .badParam
    else if p.sched = true ∧ u.acd.state = .cold then some .state
    else if p.sched = true ∧ taiNat p.execAt < u.now16 + 10 * us16 then some .late
    else none := by
  unfold OpSpec.early
  refine ite_congr ?gnss (fun _ => rfl) fun _ => ite_congr ?length (fun _ => rfl) fun _ =>
    ite_congr ?rights (fun _ => rfl) fun _ => ite_congr ?params (fun _ => rfl) fun _ =>
    ite_congr ?cold (fun _ => rfl) fun _ => ite_congr ?late (fun _ => rfl) fun _ => rfl
  case gnss => simp [GnssBarred]
  case length =>
    rw [eq_iff_iff, ← not_iff_not, not_not, LenOk]
    cases o.len p <;> simp [and_assoc]
  case rights => simp [MayRun, imp_iff_not_or]
  case params => simp [ParamsOk, imp_iff_not_or, or_assoc]
  case cold => simp
  case late => simp

/-! ### The dispatch of a fetched packet (R42, R47) -/

/-- A packet that is fetched and fails an early check is refused with that check's status. -/
theorem State.packet_refused {o : OpSpec} {p : Packet} {s : State} {x : Status}
    (hf : (s.arrive p.dt).canFetch o.opcode p = true) (he : o.early p (checkFrom p s) = some x) :
    s.packet o p = (checkFrom p s).finish p o.opcode x [] false := by
  unfold checkFrom at he ⊢
  simp [State.packet, State.takePacket, hf, he]

/-- A packet that is fetched and passes the early checks is dispatched. -/
theorem State.packet_accepted {o : OpSpec} {p : Packet} {s : State}
    (hf : (s.arrive p.dt).canFetch o.opcode p = true) (he : o.early p (checkFrom p s) = none) :
    s.packet o p = o.accept p (checkFrom p s) := by
  unfold checkFrom at he ⊢
  simp [State.packet, State.takePacket, hf, he]

section Dispatch

variable {i : Instr} {o : OpSpec} {p : Packet} {s : State}

/-- A packet row whose first failing check answers `x` is refused with it. -/
theorem exec_refused {x : Status} (h : packetOf i = some (o, p)) (hf : (s.arrive p.dt).canFetch o.opcode p = true)
    (he : o.early p (checkFrom p s) = some x) : exec i s = .next ((checkFrom p s).finish p o.opcode x [] false) := by
  rw [exec_packet h, State.packet_refused hf he]

/-- A packet row that passes the early checks is dispatched. -/
theorem exec_accepted (h : packetOf i = some (o, p)) (hf : (s.arrive p.dt).canFetch o.opcode p = true)
    (he : o.early p (checkFrom p s) = none) : exec i s = .next (o.accept p (checkFrom p s)) := by
  rw [exec_packet h, State.packet_accepted hf he]

end Dispatch

/-- Settles O9: the early checks are made in R42's order. -/
theorem firstRefusalWins : Obligations.FirstRefusalWins := by
  intro i o p s h hf
  dsimp only
  refine ⟨fun hc hg => ?gnss, fun hg => ?_⟩
  case gnss => exact exec_refused h hf ((OpSpec.early_eq ..).trans (if_pos ⟨hc, hg⟩))
  have hgnss : ¬ GnssBarred o (checkFrom p s) := fun ⟨hc, hoff⟩ => by simp [hg hc] at hoff
  refine ⟨fun hl => ?_, fun hl hm => ?_, fun hl hm hp => ?_, fun hl hm hp hs hc => ?_, fun hl hm hp hs hc ht => ?_⟩ <;>
    refine exec_refused h hf ((OpSpec.early_eq ..).trans ((if_neg hgnss).trans ?_))
  · exact if_pos hl
  · exact (if_neg (not_not.2 hl)).trans (if_pos hm)
  · exact (if_neg (not_not.2 hl)).trans ((if_neg (not_not.2 hm)).trans (if_pos hp))
  · exact (if_neg (not_not.2 hl)).trans ((if_neg (not_not.2 hm)).trans ((if_neg (not_not.2 hp)).trans
      (if_pos ⟨hs, hc⟩)))
  · exact (if_neg (not_not.2 hl)).trans ((if_neg (not_not.2 hm)).trans ((if_neg (not_not.2 hp)).trans
      ((if_neg fun hcold => hc hcold.2).trans (if_pos ⟨hs, ht⟩))))

/-- A scheduled command enters at the end of the queue. -/
theorem State.enqueue_sched (s : State) (p : Packet) (opcode : Nat) :
    (s.enqueue p opcode).cmd.sched = s.cmd.sched ++ [{ opcode := BitVec.ofNat 16 opcode, pkt := p }] := by
  unfold State.enqueue
  dsimp only
  rw [(State.reply_still ..).sched, (State.countStatus_still ..).sched, apply_ite State.cmd, apply_ite Cmd.sched,
    (State.raise_still ..).sched, ite_self, apply_ite State.cmd, apply_ite Cmd.sched, (State.raise_still ..).sched,
    ite_self]

/-- Settles O10: `OpSpec.accept` in its branches. -/
theorem acceptanceInOrder : Obligations.AcceptanceInOrder := by
  intro i o p s h hf
  dsimp only
  intro he
  rw [exec_accepted h hf he]
  unfold OpSpec.accept
  refine ⟨fun hs hl => ?_, fun hs hl hu => ?_, fun hs hl hu hd => ?_, fun hs hl hu hd => ?_, fun hs ha hl => ?_,
    fun hs ha hl hd => ?_⟩
  · simp [hs, hl]
  · simp [hs, hl, hu]
  · simp [hs, hl, Nat.not_le.2 hu, hd]
  · exact ⟨_, by simp [hs, hl, Nat.not_le.2 hu, hd], State.enqueue_sched ..⟩
  · cases p.dryRun <;> simp [OpSpec.execute, hs, ha, hl]
  · simp [hs, ha, hl, hd]

/-! ### Where commands execute (R44) -/

/-- A leap second moves no part of SYS. -/
theorem State.leapNow_sys (s : State) : s.leapNow.sys = s.sys := by
  unfold State.leapNow
  split
  · dsimp only
    rw [(State.raise_still ..).sys]
    split <;> rfl
  · rfl

theorem State.boot_schedRuns {s : State} (h : s.sys.devState = .boot) : s.schedRuns = false := by
  simp [State.schedRuns, h]

/-- In BOOT no waiting command runs. -/
theorem State.boot_runPassed {s : State} (h : s.sys.devState = .boot) (n : Nat) : s.runPassed n = s := by
  cases n with
  | zero => rfl
  | succ n =>
    unfold State.runPassed
    split
    · simp [State.boot_schedRuns h]
    · rfl

/-- In BOOT nothing comes before a command but a leap second. -/
theorem State.boot_arrive {s : State} (h : s.sys.devState = .boot) (dt : Nat) : s.arrive dt = (s.advance dt).leapNow :=
  State.boot_runPassed (by rw [State.leapNow_sys]; exact h) _

/-- In BOOT no packet is fetched and no stall arises. -/
theorem State.boot_takePacket {s : State} (h : s.sys.devState = .boot) (o : OpSpec) (p : Packet) :
    s.takePacket o p = s := by
  simp [State.takePacket, State.canFetch, State.fetchStall, h]

/-- Settles O11: in BOOT nothing runs; elsewhere the state step and the life-cycle check answer. -/
theorem stateLegality : Obligations.StateLegality := by
  refine ⟨fun i o p s h hb => ?bootPacket, fun dt s hb => ?bootSched, fun i o p s h hf => ?submitted,
    fun dt s e o => ?due, fun i o p s h hf => ?lifeCycle⟩
  case bootPacket =>
    rw [exec_packet h, State.packet, State.boot_arrive hb, State.boot_takePacket]
    rw [State.leapNow_sys]
    exact hb
  case bootSched =>
    have hr : (s.advance dt).leapNow.schedRuns = false := State.boot_schedRuns (by rw [State.leapNow_sys]; exact hb)
    exact congrArg Outcome.next (if_pos (by rw [hr]; rfl))
  case submitted =>
    dsimp only
    intro he hs ha
    rw [exec_accepted h hf he]
    unfold OpSpec.accept
    cases p.dryRun <;> simp [OpSpec.execute, hs, ha]
  case due =>
    dsimp only
    intro hr hn ho ha
    refine congrArg Outcome.next ((if_neg (by simp [hr])).trans ?_)
    rw [hn]
    simp [State.runEntry, ho, OpSpec.execute, ha]
  case lifeCycle =>
    dsimp only
    intro hg hl hm hlen hlc
    refine exec_refused h hf ((OpSpec.early_eq ..).trans ((if_neg ?_).trans ((if_neg ?_).trans (if_pos ?_))))
    · exact fun ⟨hc, hoff⟩ => by simp [hg hc] at hoff
    · exact not_not.2 ⟨hl, hm, hlen⟩
    · simp [MayRun, hlc]

end Sys2Proof.Machine
end

section
/-! SUPPORT. Queries and state-changing opcodes (R41): what the body of a query leaves, and what the end of a command
enters in the log. -/

namespace Sys2Proof.Machine

open Host

/-! ### The queries -/

/-- The listed opcodes that are queries. -/
def querySpecs : List OpSpec :=
  [specSysQueryState, specSysQueryCounters, specSysEcho, specRefQuerySlot, specRefQueryMatrix, specRefQueryHistory,
    specAcdQueryTime, specAcdQueryServo, specOutQueryStatus, specOutQueryEcho, specTicQueryChannel, specTicQueryCal,
    specGnsQueryStatus, specGnsQuerySolution, specEthQueryLane, specEthQueryDelay, specTmgQueryQueue, specTmgQueryGcl,
    specSvcQueryStatus, specSvcQueryClient, specKeyQuerySlots, specKeyQueryEpoch, specLogQueryStatus, specLogQueryHead,
    specFltQuery, specPairQuery, specMonQuery, specKeepQuery, specCalQuery]

/-- A listed opcode is a query where it is one of these. -/
theorem querySpecs_eq : (allSpecs.filter fun o => isQuery o.opcode) = querySpecs := rfl

/-- A query of a lane changes nothing, whatever it answers. -/
theorem State.laneQuery_st (s : State) (l : Nat) (ws : List W32) : (s.laneQuery l ws).st = s := by
  unfold State.laneQuery
  split <;> rfl

/-- Every query executes outside BOOT, and its body changes nothing: it answers words alone, or is a query of a lane. -/
theorem querySpecs_keep : ∀ o ∈ querySpecs, o.states = stAll ∧ ∀ p s, (o.body p s).st = s := by
  simp only [querySpecs, List.forall_mem_cons, List.not_mem_nil, false_imp_iff, implies_true, and_true]
  and_intros
  any_goals exact fun _ _ => rfl
  any_goals rfl
  all_goals exact fun _ _ => State.laneQuery_st ..

/-- A packet row that is a query is one of the list. -/
theorem packetOf_query {i : Instr} {o : OpSpec} {p : Packet} (h : packetOf i = some (o, p))
    (hq : isQuery o.opcode = true) : o ∈ querySpecs := by
  rw [← querySpecs_eq]
  exact List.mem_filter.2 ⟨packetOf_listed h, hq⟩

theorem isQuery_iff {opcode : Nat} : isQuery opcode = true ↔ opcode % 256 ≤ 0x3F := by
  unfold isQuery
  rw [decide_eq_true_iff]
  omega

theorem devAllows_stAll (d : DevState) : devAllows stAll d = true ↔ d ≠ .boot := by
  cases d <;> decide

/-! ### The log at the end of a command -/

theorem State.countStatus_log (s : State) (x : Status) (final : Bool) : (s.countStatus x final).log = s.log := by
  unfold State.countStatus
  cases x <;> dsimp only <;> split <;> rfl

theorem State.reply_log (s : State) (p : Packet) (opcode kind : Nat) (x : Status) (ws : List W32) (seq : BitVec 32)
    (frees : Bool) : (s.reply p opcode kind x ws seq frees).log = s.log := by
  unfold State.reply
  split <;> rfl

/-- A query is never logged. -/
theorem State.finish_query_log {opcode : Nat} (hq : isQuery opcode = true) (s : State) (p : Packet) (x : Status)
    (ws : List W32) (frees : Bool) : (s.finish p opcode x ws frees).log = s.log := by
  unfold State.finish
  rw [if_neg (by simp [hq]), State.reply_log, State.countStatus_log]

/-- A change that has executed enters its COMMAND entry (R43). -/
theorem State.finish_change_log {opcode : Nat} {p : Packet} (hq : isQuery opcode = false) (hd : p.dryRun = false)
    (s : State) (ws : List W32) (frees : Bool) :
    (s.finish p opcode .ok ws frees).log = (s.logPut (commandEntry s p opcode .ok)).log := by
  unfold State.finish
  rw [if_pos (by simp [hq, hd, Status.logged])]
  dsimp only
  split
  · exact State.countStatus_log ..
  · rw [State.reply_log, State.countStatus_log]

/-- A packet whose opcode is not listed is fetched and answered BAD_OPCODE. -/
theorem exec_unlistedOpcode {op : BitVec 16} {p : Packet} {s : State} (ho : specOf op.toNat = none)
    (hf : (s.arrive p.dt).canFetch op.toNat p = true) :
    exec (.unlistedOpcode op p) s = .next (((s.arrive p.dt).fetched p).finish p op.toNat .badOpcode [] false) :=
  congrArg Outcome.next ((if_neg (by simp [ho])).trans (if_neg (by simp [hf])))

/-- Settles O8: queries by their list, changes by their entry, an unlisted opcode by its own dispatch. -/
theorem queriesAndChanges : Obligations.QueriesAndChanges := by
  refine ⟨fun i o p h => ⟨isQuery_iff, fun hq => ?query⟩, fun i o p s ws h hop hd => ?change,
    fun op p s ho hf => exec_unlistedOpcode ho hf⟩
  case query =>
    obtain ⟨hstates, hbody⟩ := querySpecs_keep o (packetOf_query h hq)
    refine ⟨hbody p, fun s x ws frees => State.finish_query_log hq s p x ws frees, fun s => ?_, ?_⟩
    · simp [State.logFullFor, hq]
    · rw [hstates]
      exact devAllows_stAll
  case change =>
    have hq : isQuery o.opcode = false := by simpa [isQuery] using hop
    have horigin : (commandEntry s p o.opcode .ok).origin = p.master := by simp [commandEntry, entryOf]
    exact ⟨commandEntry s p o.opcode .ok, State.finish_change_log hq hd s ws false, rfl, horigin, rfl⟩

end Sys2Proof.Machine
end

section
/-! SUPPORT. Tables, interrupt status, semaphores and ring pointers (R51, R52, R56, R60): what an update leaves in the
entry it names and in every other. -/

namespace Sys2Proof.Machine

open Host

/-! ### Tables -/

section Tables

variable {α : Type} {n : Nat}

/-- A table's entry after one entry was replaced. -/
theorem tabGet_set (v : Vector α n) (i j : Nat) (x d : α) :
    Tab.get (Tab.set v i x) j d = if i = j ∧ j < n then x else Tab.get v j d := by
  simp only [Tab.get, Tab.set, Vector.toList, List.getD_eq_getElem?_getD, List.getElem?_set]
  have hl : v.toArray.toList.length = n := by simp
  by_cases hij : i = j
  · subst hij
    by_cases hi : i < n
    · simp [hi]
    · simp [hi, hl]
  · simp [hij]

/-- A table's entry after one entry was changed. -/
theorem tabGet_mod (v : Vector α n) (i j : Nat) (f : α → α) (d : α) :
    Tab.get (Tab.mod v i f) j d = if i = j ∧ j < n then f (Tab.get v j d) else Tab.get v j d := by
  simp only [Tab.get, Tab.mod, Vector.toList, List.getD_eq_getElem?_getD, List.getElem?_modify]
  have hl : v.toArray.toList.length = n := by simp
  by_cases hij : i = j
  · subst hij
    by_cases hi : i < n
    · simp [hi]
    · simp [hi, hl]
  · simp [hij]

theorem tabGet_mod_same (v : Vector α n) {i : Nat} (hi : i < n) (f : α → α) (d : α) :
    Tab.get (Tab.mod v i f) i d = f (Tab.get v i d) := by
  rw [tabGet_mod, if_pos ⟨rfl, hi⟩]

theorem tabGet_ofFn {i : Nat} (hi : i < n) (f : Fin n → α) (d : α) : Tab.get (Vector.ofFn f) i d = f ⟨i, hi⟩ := by
  simp [Tab.get, Vector.toList, List.getD_eq_getElem?_getD, hi]

end Tables

/-! ### Masks -/

theorem has_or {w : Nat} (a b : BitVec w) (i : Nat) : has (a ||| b) i = (has a i || has b i) := by
  simp [has]

theorem has_and {w : Nat} (a b : BitVec w) (i : Nat) : has (a &&& b) i = (has a i && has b i) := by
  simp [has]

theorem has_not {w i : Nat} (h : i < w) (a : BitVec w) : has (~~~a) i = !has a i := by
  simp [has, h]

theorem has_bitAt {w i : Nat} (h : i < w) (j : Nat) : has (bitAt w j) i = decide (i = j) := by
  rw [has, bitAt, BitVec.getLsbD_twoPow]
  by_cases hj : i = j
  · simp [← hj, h]
  · simp [hj, Ne.symm hj]

/-! ### A source is raised (R60) -/

/-- A message that is sent moves no status. -/
theorem Cmd.msi_groups (c : Cmd) (v : Nat) : (c.msi v).groups = c.groups := by
  unfold Cmd.msi
  split
  · rfl
  · split <;> rfl

/-- A raised source sets its bit in both copies of its group. -/
theorem State.irq_groups (s : State) (n : Nat) : (s.irq n).cmd.groups = Tab.mod s.cmd.groups (n / 32) fun q =>
    { q with status := q.status ||| bitAt 32 (n % 32), pinStatus := q.pinStatus ||| bitAt 32 (n % 32) } := by
  unfold State.irq Cmd.noteIrq Cmd.irq
  dsimp only
  split
  · exact Cmd.msi_groups ..
  · rfl

/-- A vector's messages move no status. -/
theorem Cmd.resend_groups (c : Cmd) (g : Nat) : (c.resend g).groups = c.groups := by
  have step : ∀ (l : List Nat) (c : Cmd),
      (l.foldl (fun (c : Cmd) v => if c.vecOn v then c.msi v else { c with pba := putBit c.pba v false }) c).groups =
        c.groups := by
    intro l
    induction l with
    | nil => exact fun _ => rfl
    | cons v l ih =>
      intro c
      rw [List.foldl_cons, ih]
      split
      · exact Cmd.msi_groups ..
      · rfl
  exact step _ c

/-! ### Interrupt status (R60) -/

/-- A group's number and a bit in it name the source. -/
theorem source_eq_iff {k n : Nat} : (n / 32 = k / 32 ∧ k % 32 = n % 32) ↔ k = n := by omega

/-- What a raised source does to the two copies of any source's bit. -/
theorem State.irq_has (s : State) {n k : Nat} (hk : k < 512) :
    let was := Tab.get s.cmd.groups (k / 32) IntGroup.reset
    let now := Tab.get (s.irq n).cmd.groups (k / 32) IntGroup.reset
    has now.status (k % 32) = (has was.status (k % 32) || decide (k = n)) ∧
    has now.pinStatus (k % 32) = (has was.pinStatus (k % 32) || decide (k = n)) := by
  intro was now
  have hb : k % 32 < 32 := Nat.mod_lt _ (by decide)
  have hg : k / 32 < 16 := by omega
  by_cases h : n / 32 = k / 32
  · have hn : now = { was with
        status := was.status ||| bitAt 32 (n % 32), pinStatus := was.pinStatus ||| bitAt 32 (n % 32) } := by
      simp only [now, State.irq_groups, tabGet_mod, h, hg, and_self, if_true]
      rfl
    have hbit : (k % 32 = n % 32) ↔ k = n := (and_iff_right h).symm.trans source_eq_iff
    simp only [hn, has_or, has_bitAt hb, hbit, and_self]
  · have hn : now = was := by simp [now, was, State.irq_groups, tabGet_mod, h]
    have hk : ¬ k = n := fun he => h (by rw [he])
    simp [hn, hk]

/-- The bits that a W1C leaves: those it does not name, and those raised in the same cycle. -/
theorem State.w1cMask_leaves (u : State) (g : Nat) (a v : BitVec 32) {b : Nat} (hb : b < 32) :
    has (a &&& ~~~u.w1cMask g v) b = (has a b && (!has v b || has (Tab.get (u.cmd.raisedAt u.ticks) g 0) b)) := by
  simp [State.w1cMask, has_and, has_not hb]

theorem State.hostW1c_groups (u : State) (g : Nat) (v : BitVec 32) : (u.hostW1c g v).cmd.groups =
    Tab.mod u.cmd.groups g fun q => { q with status := q.status &&& ~~~u.w1cMask g v } := Cmd.resend_groups ..

/-- The host's W1C of a group's status register. -/
theorem exec_hostW1c {dt : Nat} {w : BusWrite} {addr v : W32} {s : State} {g : Nat} (hg : g < 16)
    (ha : addr.toNat = 0x28004 + 0x20 * g) (hw : (s.advance dt).writes w = (0, [(addr, v)]))
    (hm : (s.advance dt).reached 0 = true) : exec (.intStatusW1c dt w) s = .next ((s.advance dt).hostW1c g v) := by
  rw [exec_interruptWrite (by simp) hw hm (fun _ => by simp [outOfRange]) (by omega), maskWrite_status (by omega),
    statusWrite_host hg ha]
  rfl

/-- The board's W1C of a group's status register. -/
theorem exec_pinW1c {dt : Nat} {w : BusWrite} {m : BitVec 4} {addr v : W32} {s : State} {g : Nat} (hg : g < 16)
    (ha : addr.toNat = 0x2800C + 0x20 * g) (hb : m = 1 ∨ m = 2) (hw : (s.advance dt).writes w = (m, [(addr, v)]))
    (hm : (s.advance dt).reached m = true) : exec (.intStatusW1c dt w) s = .next ((s.advance dt).pinW1c g v) := by
  have hs : isSerial m = true := by simpa [isSerial] using hb
  rw [exec_interruptWrite (by simp) hw hm (outOfRange_serial hb) (by omega), maskWrite_status (by omega),
    statusWrite_pin hg ha, if_pos hs]

/-- A source just raised counts as raised in this cycle. -/
theorem State.irq_raised (s : State) {n : Nat} (hn : n < 512) :
    has (Tab.get ((s.irq n).cmd.raisedAt s.ticks) (n / 32) 0) (n % 32) = true := by
  have hr : (s.irq n).cmd.raisedAt s.ticks =
      Tab.mod ((s.cmd.irq n).raisedAt s.ticks) (n / 32) fun m => m ||| bitAt 32 (n % 32) := if_pos rfl
  rw [hr, tabGet_mod_same _ (by omega), has_or, has_bitAt (Nat.mod_lt _ (by decide))]
  simp

/-- A 32-bit access of BAR0 at an aligned address is one write. -/
theorem State.writes_bar0 (s : State) {addr : W32} (h : addr.toNat % 4 = 0) (v : BitVec 64) :
    s.writes (.bar0 addr false v) = (0, [(addr, v.setWidth 32)]) := by
  simp [State.writes, hostSpan, h]

/-- Settles O15: raising sets both copies, each W1C clears one, and spares what was raised in the same cycle. -/
theorem interruptCopies : Obligations.InterruptCopies := by
  refine ⟨fun s n k _ hk => State.irq_has s hk, ?host, ?board, ?sameCycle, ?masks⟩
  case host =>
    intro dt w addr v s g hg ha u hw hm
    refine ⟨_, exec_hostW1c hg ha hw hm, ?_⟩
    dsimp only
    rw [State.hostW1c_groups, tabGet_mod_same _ hg]
    exact ⟨rfl, fun b hb => State.w1cMask_leaves u g _ v hb⟩
  case board =>
    intro dt w m addr v s g hg ha hb u hw hm
    refine ⟨_, exec_pinW1c hg ha hb hw hm, ?_⟩
    dsimp only [State.pinW1c]
    rw [tabGet_mod_same _ hg]
    exact ⟨rfl, fun b hb => State.w1cMask_leaves u g _ v hb⟩
  case sameCycle =>
    intro addr v s n hn ha hm
    have hg : n / 32 < 16 := by omega
    have hb : n % 32 < 32 := Nat.mod_lt _ (by decide)
    refine ⟨_, exec_hostW1c hg ha (State.writes_bar0 _ (by omega) v) hm, ?_⟩
    have hset := (State.irq_has s (n := n) hn).1
    have hnow := State.irq_raised s hn
    rw [State.hostW1c_groups, tabGet_mod_same _ hg, State.w1cMask_leaves _ _ _ _ hb]
    simp only [decide_true, Bool.or_true] at hset
    exact Bool.and_eq_true_iff.2 ⟨hset, Bool.or_eq_true_iff.2 (.inr hnow)⟩
  case masks =>
    intro g hg
    simp only [State.reset, Cmd.reset, tabGet_ofFn hg, IntGroup.reset, and_self]

end Sys2Proof.Machine
end

section
/-! SUPPORT. Semaphores and ring pointers (R51, R52, R56). -/

namespace Sys2Proof.Machine

open Host

/-! ### Semaphores (R56) -/

section Semaphores

variable {s u : State} {m : BitVec 4} {i dt : Nat}

/-- A read of a semaphore, by a master that may make it. -/
theorem exec_semRead {sem : BitVec 5} (hm : (s.advance dt).reached m = true) (h14 : m ≠ 14) :
    exec (.semRead dt m sem) s = .next ((s.advance dt).semRead m sem.toNat) :=
  congrArg Outcome.next ((if_neg (by simp [hm])).trans (if_neg (by simpa using h14)))

theorem exec_semRelease {sem : BitVec 5} (hm : (s.advance dt).reached m = true) :
    exec (.semRelease dt m sem) s = .next ((s.advance dt).semRelease m sem.toNat) :=
  congrArg Outcome.next (if_pos hm)

/-- Where none has changed in this cycle, the semaphores are seen as they are. -/
theorem State.semView_now (h : u.cmd.semTick ≠ u.ticks) : u.semView i = Tab.get u.cmd.sems i none := by
  rw [State.semView, if_neg h]

/-- In the cycle of a change, they are seen as the cycle began. -/
theorem State.semView_semPut (h : u.cmd.semTick ≠ u.ticks) (x : Option (BitVec 4)) :
    (u.semPut i x).semView i = Tab.get u.cmd.sems i none := by
  simp [State.semView, State.semPut, h]

/-- The SEMAPHORE entry of a read moves no semaphore. -/
theorem State.semLogged_sems (r : Bool × BitVec 4) : (u.semLogged m i r).cmd.sems = u.cmd.sems := by
  unfold State.semLogged
  split
  · exact (State.logPut_still ..).sems
  · rfl

/-- A read that finds the semaphore taken, or loses it to a rival, changes no holder. -/
theorem State.semRead_busy {h : BitVec 4} (hf : u.semFind m i = (false, h)) :
    (u.semRead m i).cmd.readWord = word [(0, h.toNat), (4, 0), (5, 1)] ∧ (u.semRead m i).cmd.sems = u.cmd.sems := by
  simp only [State.semRead, hf]
  exact ⟨rfl, State.semLogged_sems _⟩

/-- A read that is granted makes the reader the holder. -/
theorem State.semRead_granted (hf : u.semFind m i = (true, m)) :
    (u.semRead m i).cmd.readWord = word [(0, m.toNat), (4, 1), (5, 0)] ∧
    (u.semRead m i).cmd.sems = Tab.set u.cmd.sems i (some m) := by
  simp only [State.semRead, hf]
  exact ⟨rfl, State.semLogged_sems _⟩

/-- A semaphore that is free for a master is granted to it, unless it is free and a rival reads it too. -/
theorem State.semFind_granted (hv : freeFor (u.semView i) m = true) (hn : freeFor (Tab.get u.cmd.sems i none) m = true)
    (h : u.semView i ≠ none ∨ u.semRival m i = none) : u.semFind m i = (true, m) := by
  simp only [State.semFind, hv, hn, Bool.and_self, if_true]
  split
  · next hvn hr => simp [hvn, hr] at h
  · rfl

theorem freeFor_none (m : BitVec 4) : freeFor none m = true := rfl

theorem freeFor_own (m : BitVec 4) : freeFor (some m) m = true := beq_self_eq_true m

/-- A free semaphore that a rival with a lower ID reads too goes to the rival. -/
theorem State.semFind_rival {r : BitVec 4} (hv : u.semView i = none) (hn : freeFor (Tab.get u.cmd.sems i none) m = true)
    (hr : u.semRival m i = some r) : u.semFind m i = (false, r) := by
  simp only [State.semFind, hv, hn, hr, freeFor_none, Bool.and_self, if_true]

/-- A semaphore that another held as the cycle began is reported as its. -/
theorem State.semFind_taken {h : BitVec 4} (hv : u.semView i = some h) (hne : h ≠ m) :
    u.semFind m i = (false, h) := by
  simp [State.semFind, hv, freeFor, hne]

end Semaphores

/-- Settles O22: what each read finds, by `State.semFind`, and what a release leaves for a read of its cycle. -/
theorem semaphores : Obligations.Semaphores := by
  refine ⟨?read, ?release, ?sameCycle⟩
  case read =>
    intro dt m i s
    dsimp only
    intro hm h14 ht
    rw [exec_semRead hm h14]
    have hv := State.semView_now (i := i.toNat) ht
    refine ⟨fun hf r hr => ⟨_, rfl, State.semRead_busy (State.semFind_rival (hv.trans hf) ?free hr)⟩,
      fun h => ⟨_, rfl, State.semRead_granted (State.semFind_granted ?view ?holder ?rival)⟩,
      fun h hh hne => ⟨_, rfl, State.semRead_busy (State.semFind_taken (hv.trans hh) hne)⟩⟩
    case free => rw [hf]; exact freeFor_none m
    case view | holder =>
      rcases h with ⟨hf, -⟩ | hown
      · simp only [hv, hf, freeFor_none]
      · simp only [hv, hown, freeFor_own]
    case rival => exact h.symm.imp (fun hown => by rw [hv, hown]; exact Option.some_ne_none m) And.right
  case release =>
    intro dt m i s
    dsimp only
    intro hm
    rw [exec_semRelease hm]
    unfold State.semRelease
    refine ⟨fun hown => ⟨_, rfl, ?_⟩, fun hother => ⟨_, rfl, ?_⟩⟩
    · rw [if_pos hown]; rfl
    · rw [if_neg hother]; exact ⟨(State.irq_still ..).sems, congrArg _ (State.irq_still ..).sys⟩
  case sameCycle =>
    intro m h i s hheld hh hm h14 hne ht
    have hrel : (s.advance 0).semRelease h i.toNat = (s.advance 0).semPut i.toNat none := if_pos hheld
    refine ⟨_, _, (exec_semRelease (dt := 0) hh).trans (congrArg Outcome.next hrel), exec_semRead (dt := 0) hm h14, ?_⟩
    have hview : (((s.advance 0).semPut i.toNat none).advance 0).semView i.toNat = some h :=
      (State.semView_semPut (u := s.advance 0) ht none).trans hheld
    obtain ⟨hword, hsems⟩ := State.semRead_busy (State.semFind_taken hview hne.symm)
    refine ⟨hword, ?_⟩
    rw [hsems]
    exact (tabGet_set ..).trans (if_pos ⟨rfl, i.isLt⟩)

/-! ### Ring pointers (R51, R52) -/

section Rings

variable {u : State} {n : Nat}

/-- A ring after one of its fields was changed. -/
theorem State.modRing_ring (hn : n < 64) (f : Ring → Ring) : (u.modRing n f).ring n = f (u.ring n) :=
  tabGet_mod_same _ hn f _

/-- What a refused pointer write leaves: the pointers, with the error noted and the refusal counted and raised. -/
theorem State.ringRefuse_ring (hn : n < 64) : (u.ringRefuse n).ring n = { u.ring n with ptrErr := true } := by
  have h : (u.ringRefuse n).ring n = (u.modRing n fun r => { r with ptrErr := true }).ring n := by
    unfold State.ring State.ringRefuse State.refuseWrite
    rw [(State.irq_still ..).rings, (State.irq_still ..).rings]
  rw [h, State.modRing_ring hn]

theorem State.ringRefuse_refused : (u.ringRefuse n).sys.refusedWrites = u.sys.refusedWrites + 1 := by
  unfold State.ringRefuse State.refuseWrite
  rw [(State.irq_still ..).sys, (State.irq_still ..).sys]
  rfl

theorem State.ringRefuse_raises : has (Tab.get (u.ringRefuse n).cmd.groups 15 IntGroup.reset).status 0 = true := by
  have h := (State.irq_has (u.modRing n fun r => { r with ptrErr := true }).refuseWrite (n := 480) (k := 480)
    (by decide)).1
  simp only [decide_true, Bool.or_true] at h
  exact h

theorem State.prodWrite_refused {v : BitVec 32}
    (h : (u.ring n).size < (v - (u.ring n).cons).toNat ∨ (v - (u.ring n).cons).toNat < (u.ring n).used) :
    u.prodWrite n v = u.ringRefuse n := by
  refine if_neg ?_
  simp only [Bool.and_eq_true, decide_eq_true_eq, not_and_or, Nat.not_le]
  exact h.symm

/-- A search that resumes moves no pointer. -/
theorem State.acqResume_ring : u.acqResume.ring n = u.ring n := by
  unfold State.acqResume
  split
  · split <;> rfl
  · rfl

/-- CONS that moves forward and not past PROD is taken, whatever waits for the ring's room. -/
theorem State.consWrite_ring {v : BitVec 32} (hn : n < 64) (h : (v - (u.ring n).cons).toNat ≤ (u.ring n).used) :
    (u.consWrite n v).ring n = { u.ring n with cons := v } := by
  have ht : ((u.modRing n fun r => { r with cons := v }).acqResume).ring n = { u.ring n with cons := v } := by
    rw [State.acqResume_ring, State.modRing_ring hn]
  simp only [State.consWrite, if_pos h]
  split
  · exact ht
  · exact ht

theorem State.consWrite_refused {v : BitVec 32} (h : (u.ring n).used < (v - (u.ring n).cons).toNat) :
    u.consWrite n v = u.ringRefuse n := if_neg (Nat.not_le.2 h)

/-- A write of the pointer that the device owns is refused. -/
theorem State.pointerWrite_device {b : Bool} (hm : u.reached 0 = true) (hb : hostToDevice n ≠ b) (v : W32) :
    u.pointerWrite 0 n b v = u.refuseWrite :=
  (if_neg (by rw [hm]; decide)).trans (if_pos (by simpa using hb))

end Rings

/-- Settles O25: each pointer's write, taken and refused, and the device's pointers. -/
theorem ringPointers : Obligations.RingPointers := by
  refine ⟨?prod, ?cons, ?device⟩
  case prod =>
    intro dt n v s
    dsimp only
    intro hm hh
    have hrun : exec (.ringProdWrite dt 0 n v) s = .next ((s.advance dt).prodWrite n.toNat v) :=
      congrArg Outcome.next (State.pointerWrite_prod hm hh v)
    rw [hrun]
    refine ⟨fun hs hu => by rw [State.prodWrite_taken hu hs], fun hr => ⟨_, rfl, ?_⟩⟩
    rw [State.prodWrite_refused hr, State.ringRefuse_ring n.isLt]
    exact ⟨rfl, rfl, rfl, rfl, State.ringRefuse_refused, State.ringRefuse_raises⟩
  case cons =>
    intro dt n v s
    dsimp only
    intro hm hd
    have hrun : exec (.ringConsWrite dt 0 n v) s = .next ((s.advance dt).consWrite n.toNat v) :=
      congrArg Outcome.next (State.pointerWrite_cons hm hd v)
    rw [hrun]
    refine ⟨fun hu => ⟨_, rfl, ?_⟩, fun hr => ⟨_, rfl, ?_⟩⟩
    · rw [State.consWrite_ring n.isLt hu]
      exact ⟨rfl, rfl⟩
    · rw [State.consWrite_refused hr, State.ringRefuse_ring n.isLt]
      exact ⟨rfl, rfl, rfl, rfl, State.ringRefuse_refused⟩
  case device =>
    intro dt n v s
    dsimp only
    refine fun hm => ⟨fun hd => ?_, fun hh => ?_⟩
    · exact congrArg Outcome.next (State.pointerWrite_device hm (by simp [hd]) v)
    · exact congrArg Outcome.next (State.pointerWrite_device hm (by simp [hh]) v)

end Sys2Proof.Machine
end

section
/-! SUPPORT. The package's balls (R92, R420 to R424): their counts, and their levels in reset, past the flash's use and
in the safe state. -/

namespace Sys2Proof.Machine

/-! ### The nets (R420 to R422) -/

/-- The net of every ball, row by row. -/
def allNets : List BallNet := (List.range 41).flatMap fun r => (List.range 41).map fun c => ballNet (r + 1) (c + 1)

/-- The signals of the balls that carry one. -/
def allSignals : List Signal := allNets.filterMap fun b => match b with | .signal x => some x | _ => none

theorem allNets_counts :
    allNets.count .vddCore = 182 ∧ allNets.count .vddSram = 28 ∧ allNets.count .vddAna = 224 ∧
    allNets.count .vddSd09 = 32 ∧ allNets.count .vddSd12 = 20 ∧ allNets.count .vddIo = 17 ∧
    allNets.count .vddIo33 = 3 ∧ allNets.count .vbat = 2 ∧ allNets.count .vss = 886 ∧ allSignals.length = 287 ∧
    allNets.length = 1681 := by decide +kernel

theorem allSignals_nodup : allSignals.Nodup := by decide +kernel

/-! ### The levels (R92, R424) -/

section Levels

variable {s : State}

/-- In reset no input is received. -/
theorem State.rxLevel_dark (h : s.dark = true) (on : Bool) : s.rxLevel on = .highZ := if_pos (by simp [h])

/-- In reset a powered transmitter idles. -/
theorem State.txLevel_reset (h : s.sys.inReset = true) (on : Bool) :
    s.txLevel on = if s.unpowered then .noOutput else .idle := by
  simp [State.txLevel, h]

/-- A strap's pull-down holds during a powered cold reset. -/
theorem State.strapLevel_eq : s.strapLevel = if s.sys.coldReset && !s.unpowered then .pullDown else .highZ := by
  unfold State.strapLevel
  cases s.unpowered <;> simp

/-- The level of a signal's ball in reset. -/
def State.resetLevel (s : State) : Signal → BallLevel
  | .ethTx _ _ | .benitTx _ _ | .pcieTx _ _ => if s.unpowered then .noOutput else .idle
  | .claimN => .released
  | .i2cAddr _ | .pairSide => if s.sys.coldReset && !s.unpowered then .pullDown else .highZ
  | .tampIn _ | .rtcXin | .rtcXout => .active
  | _ => .highZ

/-- In reset every ball stands at its reset level: inputs and outputs of the blocks are off, and what is left follows
the rails, the straps and PD_VBAT. -/
theorem State.ballLevel_reset (h : s.sys.inReset = true) (x : Signal) : s.ballLevel x = s.resetLevel x := by
  have hd : s.dark = true := by simp [State.dark, h]
  cases x with
  | ethTx | benitTx | pcieTx => exact State.txLevel_reset h _
  | ethRx | benitRx | pcieRx | pcieRefclk | refIn | ocxoIn | atomIn | ticIn | gnssClk | gnssD =>
    exact State.rxLevel_dark hd _
  | i2cAddr | pairSide => exact State.strapLevel_eq
  | tampIn | rtcXin | rtcXout | tdo => rfl
  | out | tp | tod | claimN | alive | intN | qspiCsN | qspiSclk | qspiIo | blt | bltAux =>
    simp [State.ballLevel, State.resetLevel, State.outLevel, State.tpLevel, State.todLevel, State.claimLevel,
      State.aliveLevel, State.intLevel, State.qspiDriven, State.bltLevel, State.auxLevel, hd]
  | _ => simp [State.ballLevel, State.resetLevel, hd]

/-- Outside BOOT, staging and waking the flash's balls are not driven (R73). -/
theorem State.qspiDriven_idle (hb : s.sys.devState ≠ .boot) (hs : s.sys.stageBusy = false) (hw : s.sys.waking = false) :
    s.qspiDriven = false := by
  simp [State.qspiDriven, hb, hs, hw]

/-- INT_N is low where a board copy has an unmasked bit (R62). -/
theorem State.intN_iff : s.intN = true ↔ ∃ g ∈ s.cmd.groups.toList, g.pinStatus &&& ~~~g.maskPin ≠ 0 := by
  simp only [State.intN, List.any_eq_true, bne_iff_ne]

theorem State.intLevel_low (hd : s.dark = false) : s.intLevel = .low ↔ s.intN = true := by
  cases h : s.intN <;> simp [State.intLevel, hd, h]

/-- The safe state and BOOT hold ALIVE low (R365). -/
theorem State.aliveLevel_low (hd : s.dark = false) (h : s.sys.devState = .boot ∨ s.flt.safe = true) :
    s.aliveLevel = .low := by
  rcases h with h | h <;> simp [State.aliveLevel, hd, h]

theorem State.aliveLevel_running (hd : s.dark = false)
    (h : s.sys.devState = .init ∨ s.sys.devState = .run ∨ s.sys.devState = .maint ∨ s.sys.devState = .sleep)
    (hs : s.flt.safe = false) (ha : s.sys.aliveLow = false) : s.aliveLevel = .tenKHz := by
  rcases h with h | h | h | h <;> simp [State.aliveLevel, hd, h, hs, ha]

end Levels

/-- Settles O30: the counts by evaluation, the levels ball by ball. -/
theorem ballLevels : Obligations.BallLevels := by
  refine ⟨allNets_counts, allSignals_nodup, fun s x h => (State.ballLevel_reset h x).trans ?reset,
    fun s k hb hs hw => ?flash, fun s hd => ?alive, fun s hd ht hsafe => ?safe⟩
  case reset => cases x <;> rfl
  case flash =>
    have h := State.qspiDriven_idle hb hs hw
    simp [State.ballLevel, h]
  case alive =>
    exact ⟨State.aliveLevel_low hd, State.aliveLevel_running hd, (State.intLevel_low hd).trans State.intN_iff⟩
  case safe =>
    refine ⟨fun m he hsh => ?_, fun k he hsh hr => ?_⟩
    · simp [State.ballLevel, State.tpLevel, hd, ht, he, hsh, hsafe]
    · simp [State.ballLevel, State.todLevel, hd, ht, he, hsh, hr]

end Sys2Proof.Machine
end

section
/-! SUPPORT. The mailboxes, the semaphores and the replies (R40, R47, R54 to R56); the events of the log and of the key
block (R318, R355). -/

namespace Sys2Proof.Machine

open Host

/-! ### Mailboxes (R54, R55) -/

section Mailboxes

variable {u : State} {m : BitVec 4} {n : Nat}

/-- A write of GO by the sender. -/
theorem State.mbxSend_sender (hm : m = (u.mbx n).sender) : u.mbxSend m n =
    if (u.mbx n).full then u.modMbx n fun x => { x with refused := x.refused + 1 } else u.mbxGo n :=
  if_neg (by simp [hm])

/-- GO to a receiver outside the device's domains. -/
theorem State.mbxGo_outside (h : receiverDomain (u.mbx n).receiver = none) : u.mbxGo n =
    (u.modMbx n fun x => { x with full := true, seq := x.seq + 1, awaiting := false }).irq (src 0 (16 + n)) := by
  simp only [State.mbxGo, h]

/-- GO to a receiver whose domain is ready. -/
theorem State.mbxGo_ready {d : Nat} (h : receiverDomain (u.mbx n).receiver = some d) (hd : u.ready d = true) :
    u.mbxGo n =
      (u.modMbx n fun x => { x with full := true, seq := x.seq + 1, awaiting := false }).irq (src 0 (16 + n)) := by
  simp only [State.mbxGo, h, hd, Bool.not_true, Bool.false_eq_true, if_false]

/-- GO to a receiver whose domain is off powers it up, and the message waits. -/
theorem State.mbxGo_off {d : Nat} (h : receiverDomain (u.mbx n).receiver = some d) (hd : u.ready d = false) :
    u.mbxGo n =
      ((u.modMbx n fun x => { x with full := true, seq := x.seq + 1, awaiting := true }).irq (src 0 (16 + n))).powerUp
        (upClosure (bitAt 13 d)) := by
  simp only [State.mbxGo, h, hd, Bool.not_false, if_true]

/-- A message that waits is delivered once its receiver's domain, where it has one, is ready. -/
theorem exec_mbxDeliver_up {dt : Nat} {b : BitVec 3} {s : State} (ha : ((s.advance dt).mbx b.toNat).awaiting = true)
    (hr : ∀ d, receiverDomain ((s.advance dt).mbx b.toNat).receiver = some d → (s.advance dt).ready d = true) :
    exec (.mbxDeliver dt b) s = .next ((s.advance dt).modMbx b.toNat fun x => { x with awaiting := false }) := by
  refine congrArg Outcome.next (if_pos ?_)
  rw [ha, Bool.true_and]
  cases hd : receiverDomain ((s.advance dt).mbx b.toNat).receiver with
  | none => rfl
  | some d => exact hr d hd

/-- A read of TAKE by the receiver takes the message. -/
theorem State.mbxTake_full (hm : m = (u.mbx n).receiver) (hf : (u.mbx n).full = true)
    (ha : (u.mbx n).awaiting = false) : u.mbxTake m n =
      ((u.modMbx n fun x => { x with full := false, takenSeq := x.seq }).irq (src 0 (24 + n))).answerRead
        (word [(16, (u.mbx n).seq.toNat)]) :=
  (if_neg (by simp [hm])).trans ((if_neg (by simp [hf])).trans (if_neg (by simp [ha])))

end Mailboxes

/-! ### Semaphores that log nothing (R56) -/

section Semaphores

variable {u : State} {m : BitVec 4} {i : Nat}

/-- A read that is granted, of a semaphore that logs nothing. -/
theorem State.semRead_granted_quiet (hf : u.semFind m i = (true, m)) (hl : has u.cmd.semLog i = false) :
    u.semRead m i = (u.semPut i (some m)).answerRead (word [(0, m.toNat), (4, 1), (5, 0)]) := by
  have hq : has (u.semPut i (some m)).cmd.semLog i = false := hl
  simp [State.semRead, hf, State.semLogged, hq]

/-- A read that loses, of a semaphore that logs nothing. -/
theorem State.semRead_busy_quiet {r : BitVec 4} (hf : u.semFind m i = (false, r)) (hl : has u.cmd.semLog i = false) :
    u.semRead m i = u.answerRead (word [(0, r.toNat), (4, 0), (5, 1)]) := by
  simp [State.semRead, hf, State.semLogged, hl]

end Semaphores

/-- Settles O45: each event under its guard. -/
theorem mailboxEventsRun : Obligations.MailboxEventsRun := by
  refine ⟨?send, ?deliver, ?take, ?semRead, ?semRelease, ?reply⟩
  case send =>
    intro dt m n s
    dsimp only
    intro hm hs
    have hrun : exec (.mbxSend dt m n) s = .next ((s.advance dt).mbxSend m n.toNat) :=
      congrArg Outcome.next (if_pos hm)
    rw [hrun, State.mbxSend_sender hs]
    refine ⟨fun hf => by rw [if_pos hf], fun hf hr => ?_, fun d hf hr hd => ?_, fun d hf hr hd => ?_⟩ <;>
      rw [if_neg (by simp [hf])]
    · rw [State.mbxGo_outside hr]
    · rw [State.mbxGo_ready hr hd]
    · rw [State.mbxGo_off hr hd]
  case deliver => exact fun dt n s ha hr => exec_mbxDeliver_up ha hr
  case take =>
    intro dt m n s
    dsimp only
    intro hm hr hf ha
    exact congrArg Outcome.next ((if_pos hm).trans (State.mbxTake_full hr hf ha))
  case semRead =>
    intro dt m sem s
    dsimp only
    intro hm h14 hv hn hl
    rw [exec_semRead hm h14]
    refine ⟨fun h => ?_, fun r hfree hr => ?_⟩
    · rw [State.semRead_granted_quiet (State.semFind_granted hv hn h) hl]
    · rw [State.semRead_busy_quiet (State.semFind_rival hfree hn hr) hl]
  case semRelease =>
    intro dt m sem s
    dsimp only
    intro hm
    rw [exec_semRelease hm]
    exact ⟨fun hown => congrArg Outcome.next (if_pos hown), fun hother => congrArg Outcome.next (if_neg hother)⟩
  case reply =>
    intro dt r s
    dsimp only
    intro hr hfind
    refine congrArg Outcome.next ((if_neg (ne_true_of_eq_false hr)).trans ?_)
    simp only [State.replyNext, hfind]

/-! ### The log, the key block and unlisted opcodes -/

/-- A long KEY command that ends well does what its operation says. -/
theorem exec_keyOperationDone_ok {dt : Nat} {s : State} {o : KeyOp} (h : (s.advance dt).key.busyOp = some o) :
    exec (.keyOperationDone dt true) s = .next ((s.advance dt).keyOpDone o) := by
  simp only [exec, execKeyOperationDone, h, if_true]

/-- Settles O58: each event under its guard, a key operation by its kind. -/
theorem logKeyEventsRun : Obligations.LogKeyEventsRun := by
  refine ⟨?second, ?signature, ?key, fun _ _ _ ho hf => exec_unlistedOpcode ho hf⟩
  case second =>
    intro dt s
    dsimp only
    intro hb hr hs
    exact if_neg (by rw [hr, hs]; simpa using hb)
  case signature =>
    intro dt r z s
    dsimp only
    intro hs
    refine (if_neg (by rw [hs]; decide)).trans (congrArg (fun t => Outcome.next (State.settle t)) ?_)
    exact ite_congr (by simp) (fun _ => rfl) fun _ => rfl
  case key =>
    intro dt s
    dsimp only
    refine ⟨fun o h => ?failed, exec_keyOperationDone_ok, fun n => exec_keyOperationDone_ok, fun d h hl => ?first,
      fun d h hl => ?again, fun t k r v => exec_keyOperationDone_ok, fun k r v => exec_keyOperationDone_ok,
      exec_keyOperationDone_ok⟩
    case failed => simp only [exec, execKeyOperationDone, h, Bool.false_eq_true, if_false]
    case first => exact (exec_keyOperationDone_ok h).trans (congrArg Outcome.next (if_pos hl))
    case again => exact (exec_keyOperationDone_ok h).trans (congrArg Outcome.next (if_neg hl))

end Sys2Proof.Machine
end

section
/-! SUPPORT. Resets, the boot and the power domains (R66 to R91): each event under the guards that its rule names, and what a
reset leaves of the command processor (R69). -/

namespace Sys2Proof.Machine

open Host

/-! ### Guards and results of the boot events -/

/-- PD_ENGINE may start (R78). -/
theorem State.engineStarts_iff {u : State} : u.engineStarts = true ↔
    u.acd.cpllLock = true ∨ (u.acd.checkFrom + 5 * msTicks ≤ u.ticks ∧ u.cpllRefPresent = false) ∨
      u.sys.releasedAt + 9 * msTicks ≤ u.ticks := by
  simp [State.engineStarts, or_assoc]

/-- The result of a staging, in the order of log entry 75. -/
theorem State.stageCode_eq (u : State) (f : FwImage) (dmaError powerFail : Bool) :
    u.stageCode f dmaError powerFail = if slotSize < u.sys.stageLen.toNat then 4 else if powerFail then 5
      else if dmaError then 3 else if f.checks = false then 1 else if u.fuse.svnFloor ≤ f.svn then 0 else 2 := by
  unfold State.stageCode State.imageValid
  cases f.checks with
  | false => rfl
  | true =>
    by_cases hs : u.fuse.svnFloor ≤ f.svn
    · simp [hs]
    · simp [hs]

/-- A staging that ends tells its result (R77, R93). -/
theorem exec_fwStageDone_busy {dt : Nat} {f : FwImage} {dmaError powerFail : Bool} {s : State}
    (hb : (s.advance dt).sys.stageBusy = true) : exec (.fwStageDone dt f dmaError powerFail) s =
      let u := s.advance dt
      let code := u.stageCode f dmaError powerFail
      let s1 := if code = 4 then u else u.stageImage code f
      let s2 := { s1 with sys := { s1.sys with
        stageBusy := false, stageValid := true, stageResult := BitVec.ofNat 3 code, stageSeq := s1.sys.stageSeq + 1 } }
      let s3 := if code = 3 then s2.irq (src 15 1) else s2
      .next (s3.raise (src 0 4) 0 code) :=
  next_of_not_guard (c := (!(s.advance dt).sys.stageBusy) = true) (by rw [hb]; decide) _ _

/-- A wake whose domains are up re-verifies its image (R91). -/
theorem exec_wakeComplete_up {dt : Nat} {flash : Option FwImage} {s : State}
    (hs : (s.advance dt).sys.devState = .sleep) (hw : (s.advance dt).sys.waking = true)
    (hr : (s.advance dt).bootReady = true) : exec (.wakeComplete dt flash) s =
      let u := s.advance dt
      let f := flash.getD (u.sys.slotImage u.sys.bootSlot)
      let r := { u with sys := u.sys.putImage u.sys.bootSlot f }
      .next (if u.imageValid f && f.hash == u.sys.runHash then r.wakeDone
        else { r with sys := { r.sys with waking := false, bootCode := .noImage } }) :=
  next_of_guard (c := ((s.advance dt).sys.devState == .sleep && (s.advance dt).sys.waking && (s.advance dt).bootReady) = true)
    (by rw [hs, hw, hr]; rfl) _ _

/-- POR_N that falls is a cold reset (R66, R68). -/
theorem exec_porNAssert_falls {dt : Nat} {s : State} (h : (s.advance dt).sys.porLow = false) :
    exec (.porNAssert dt true) s = .next { (s.advance dt).hold 0 true with
      sys := { ((s.advance dt).hold 0 true).sys with porLow := true } } :=
  next_of_guard (c := (true && !(s.advance dt).sys.porLow) = true) (by rw [h]; rfl) _ _

/-- RESET_N that falls outside a cold reset is a chip reset (R68). -/
theorem exec_resetNAssert_falls {dt : Nat} {s : State} (h : (s.advance dt).sys.resetLow = false)
    (hr : (s.advance dt).sys.inReset = false ∨ (s.advance dt).sys.coldReset = false) :
    exec (.resetNAssert dt true) s = .next { (s.advance dt).hold 1 false with
      sys := { ((s.advance dt).hold 1 false).sys with resetLow := true } } := by
  have hc : ((s.advance dt).sys.inReset && (s.advance dt).sys.coldReset) = false := by
    rwa [Bool.and_eq_false_iff]
  exact next_of_guard (c := (true && !(s.advance dt).sys.resetLow &&
    !((s.advance dt).sys.inReset && (s.advance dt).sys.coldReset)) = true) (by rw [h, hc]; rfl) _ _

/-- A rail that leaves its window is a cold reset (R66, R67). -/
theorem exec_railMonitorReset_leaves {dt : Nat} {out : BitVec 7} {s : State}
    (h : out &&& ~~~(s.advance dt).sys.railsOut ≠ 0) : exec (.railMonitorReset dt out) s =
      let u := s.advance dt
      .next { u.hold 3 true with sys := { (u.hold 3 true).sys with
        railsOut := out
        railWaitFrom := if out = 0 && u.sys.railsOut ≠ 0 then u.ticks else (u.hold 3 true).sys.railWaitFrom } } := by
  simp only [exec, execRailMonitorReset, if_neg h]

/-- Rails that come back, or stay as they were, reset nothing. -/
theorem exec_railMonitorReset_stays {dt : Nat} {out : BitVec 7} {s : State}
    (h : out &&& ~~~(s.advance dt).sys.railsOut = 0) : exec (.railMonitorReset dt out) s =
      let u := s.advance dt
      .next { u with sys := { u.sys with
        railsOut := out, railWaitFrom := if out = 0 && u.sys.railsOut ≠ 0 then u.ticks else u.sys.railWaitFrom } } := by
  simp only [exec, execRailMonitorReset, if_pos h]

/-- Settles O48: each event under its guard; the reset balls, the rails, the wake and the staging by their own lemmas. -/
theorem bootEventsRun : Obligations.BootEventsRun := by
  refine ⟨fun dt s => exec_porNAssert_falls, fun _ _ => rfl, ?rails, fun dt s => exec_resetNAssert_falls, fun _ _ => rfl,
    ?release, ?straps, ?image, ?engine, ?domReady, ?domOff, ?complete, ?bridge, ?autoRun, ?wakeEdge, ?wake, ?stage⟩
  case rails => exact fun dt out s => ⟨exec_railMonitorReset_leaves, exec_railMonitorReset_stays⟩
  case release =>
    intro dt s u hi hp hr ho hw
    have hrails : (!u.sys.coldReset || decide (u.sys.railWaitFrom + 2 * msTicks ≤ u.ticks)) = true := by
      rwa [Bool.or_eq_true, Bool.not_eq_true', decide_eq_true_eq]
    exact next_of_guard (by rw [hi, hp, hr, ho, hrails]; rfl) _ _
  case straps =>
    intro dt s u hb hi hc ht
    exact next_of_guard (by rw [hb, hi, hc, decide_eq_true ht]; rfl) _ _
  case image =>
    intro dt a b s u hb hi hm hc
    exact next_of_guard (by rw [hb, hi, hm, hc]; rfl) _ _
  case engine =>
    intro dt s u hb hi ht he hs
    exact next_of_guard (by rw [hb, hi, ht, he, State.engineStarts_iff.2 hs]; rfl) _ _
  case domReady =>
    intro dt d banks s u k hg v
    refine (next_of_guard ?due _ _).trans (congrArg Outcome.next (ite_congr (by simp [u, k]) (fun _ => rfl) fun _ => rfl))
    case due =>
      rw [Bool.or_eq_true]
      refine hg.imp_right fun ⟨hb, hi, hk, hr⟩ => ?_
      rw [hb, hi, show d.toNat = 2 from hk, hr]
      rfl
  case domOff =>
    intro dt d s u k hd hm
    exact next_of_guard (by rw [hd, hm]; rfl) _ _
  case complete =>
    intro dt keep s u hb hi hm hr
    exact next_of_guard (by rw [hb, hi, hm, hr]; rfl) _ _
  case bridge =>
    intro dt skew s u hr hb ht v
    exact next_of_guard (by rw [hr, Option.isSome_iff_ne_none.2 hb, decide_eq_true ht]; rfl) _ _
  case autoRun =>
    intro dt s u hi ha ht hr
    exact congrArg Outcome.next (if_pos (by rw [hi, ha, ht, hr]; rfl))
  case wakeEdge =>
    intro dt s u hs v
    exact next_of_guard (by rw [hs]; rfl) _ _
  case wake =>
    intro dt flash s u hs hw hr f r
    rw [exec_wakeComplete_up hs hw hr]
    have hcheck : (u.imageValid f && f.hash == u.sys.runHash) = true ↔ u.imageValid f = true ∧ f.hash = u.sys.runHash := by
      rw [Bool.and_eq_true, beq_iff_eq]
    refine ⟨fun hv hh => next_of_guard (hcheck.2 ⟨hv, hh⟩) _ _, fun hn => next_of_not_guard (fun hc => ?_) _ _⟩
    obtain ⟨hv, hh⟩ := hcheck.1 hc
    exact hn.elim (fun h => Bool.noConfusion (hv.symm.trans h)) fun h => h hh
  case stage =>
    intro dt f dmaError powerFail s u hb code
    rw [exec_fwStageDone_busy hb]
    simp only [State.stageCode_eq]
    rfl

/-! ### What a reset leaves of the command processor (R69) -/

/-- The mailboxes, the semaphores and the queue of scheduled commands lie in the command processor alone. -/
theorem Emptied.of_cmd {s t : State} (h : Emptied s) (hc : t.cmd = s.cmd) : Emptied t := by
  unfold Emptied State.mbx at *
  rwa [hc]

/-- They are empty at power-on, and the command processor starts anew at every reset. -/
theorem reset_emptied : Emptied State.reset := ⟨by decide, by decide, rfl⟩

/-! ### SYS_RESET of the chip (R70) -/

/-- The end of a command touches the log, the faults, the counts and the replies (R40, R43). -/
theorem State.finish_still (s : State) (p : Packet) (opcode : Nat) (x : Status) (ws : List W32) (frees : Bool) :
    Still s (s.finish p opcode x ws frees) := by
  have hlogged := (s.logPut_still (commandEntry s p opcode x)).trans (State.countStatus_still _ x true)
  exact .ite (.ite hlogged (hlogged.trans (State.reply_still ..))) ((s.countStatus_still x true).trans (State.reply_still ..))

/-- Once no entry waits behind a signature, a chip reset that is due begins (log entry 55). -/
theorem State.settle_chipReset {s : State} (hw : s.log.waitQ = []) (ha : s.sys.after = 1) :
    s.settle = ({ s with sys := { s.sys with after := 0 } }.persistHead State.logPut true).toReset 2 false := by
  unfold State.settle
  rw [hw, ha]
  rfl

/-- SYS_RESET of the chip lets its reset follow the end of the command. -/
theorem exec_sysReset_chip {p : Packet} {s : State} (h : runsNow specSysReset p s = true) (h0 : fld (p.w 0) 0 2 = 0) :
    exec (.sysReset p) s = .next (ran specSysReset p
      { bodyFrom p s with sys := { (bodyFrom p s).sys with after := 1 } } []) :=
  packet_completes h (by simp only [specSysReset, h0]; rfl)

/-- Settles O16: three causes hold the chip in reset, and SYS_RESET's reset follows the end of its command. -/
theorem resetsEmptyTheQueues : Obligations.ResetsEmptyTheQueues := by
  refine ⟨fun dt s h => ⟨_, exec_porNAssert_falls h, reset_emptied.of_cmd rfl, rfl⟩,
    fun dt out s h => ⟨_, exec_railMonitorReset_leaves h, reset_emptied.of_cmd rfl, rfl⟩,
    fun dt s h hr => ⟨_, exec_resetNAssert_falls h hr, reset_emptied.of_cmd rfl, rfl⟩, ?sysReset⟩
  case sysReset =>
    intro p s h h0 u hw
    have hafter : (({ u with sys := { u.sys with after := 1 } }).finish p 0x0045 .ok [] false).sys.after = 1 := by
      rw [(State.finish_still ..).sys]
    have hrun := (exec_sysReset_chip h h0).trans (congrArg Outcome.next (State.settle_chipReset hw hafter))
    exact ⟨_, hrun, reset_emptied.of_cmd rfl, rfl⟩

end Sys2Proof.Machine
end

section
/-! SUPPORT. The writings of the fuses and straps (R75, R335, R339, R425): which there are, what none of them undoes, and
which operations of the block make them. -/

namespace Sys2Proof.Machine

open Host

/-! ### The writings -/

/-- One writing of the fuses, or the sampling of the straps. -/
inductive FuseWrite : Fuse → Fuse → Prop
  /-- Steps of SVN_FLOOR (R75, R77). -/
  | floor (f : Fuse) (n : BitVec 6) : FuseWrite f (f.raiseFloor n)
  /-- LC_STATE reaches PROVISIONED, DEPLOYED, RMA or SCRAPPED (R335). -/
  | lifeCycle (f : Fuse) {bits : BitVec 4} (h : bits = 1 ∨ bits = 3 ∨ bits = 7 ∨ bits = 15) :
    FuseWrite f { f with lcPairA := f.lcPairA ||| bits, lcPairB := f.lcPairB ||| bits }
  /-- OWNER_DBG, where it is not fused (R339). -/
  | owner (f : Fuse) (o : Dig) (h : f.ownerDbgSet = false) : FuseWrite f { f with ownerDbgSet := true, ownerDbg := o }
  /-- OTP_SEED in its first bank (R339). -/
  | seed0 (f : Fuse) (x : Dig) : FuseWrite f { f with seedBits0 := true, seedValid0 := true, otpSeed := x }
  /-- OTP_SEED in its second bank (R339). -/
  | seed1 (f : Fuse) (x : Dig) : FuseWrite f { f with seedBits1 := true, seedValid1 := true, otpSeed := x }
  /-- K_PUF is destroyed (R336). -/
  | puf (f : Fuse) : FuseWrite f { f with puf := 0 }
  /-- The straps are sampled (R425). -/
  | straps (f : Fuse) : FuseWrite f { f with pairSide := f.pairSidePin, i2cAddr := f.i2cAddrPin }

/-- Any number of writings, one after another. -/
def FuseWrites : Fuse → Fuse → Prop := Relation.ReflTransGen FuseWrite

@[simp] theorem FuseWrites.rfl {f : Fuse} : FuseWrites f f := Relation.ReflTransGen.refl

theorem FuseWrite.once {f g : Fuse} (h : FuseWrite f g) : FuseWrites f g := Relation.ReflTransGen.single h

theorem FuseWrites.trans {f g h : Fuse} (hfg : FuseWrites f g) (hgh : FuseWrites g h) : FuseWrites f h :=
  Relation.ReflTransGen.trans hfg hgh

/-- An operation that leaves the fuses as they are writes nothing. -/
theorem FuseWrites.of_eq {f g : Fuse} (h : g = f) : FuseWrites f g := h ▸ .rfl

/-- A branch. -/
theorem FuseWrites.ite {f : Fuse} {c : Prop} [Decidable c] {a b : State} (ha : FuseWrites f a.fuse)
    (hb : FuseWrites f b.fuse) : FuseWrites f (if c then a else b).fuse := by split <;> assumption

/-- An operation that is made or left out. -/
theorem FuseWrites.may {f : Fuse} {c : Prop} [Decidable c] {a : State} {g : State → State} (ha : FuseWrites f a.fuse)
    (hg : ∀ s, FuseWrites s.fuse (g s).fuse) : FuseWrites f (if c then g a else a).fuse := .ite (ha.trans (hg a)) ha

/-! ### What no writing undoes -/

/-- No bit of `x` is missing in `y`. -/
theorem and_not_eq_zero_iff {w : Nat} {x y : BitVec w} :
    x &&& ~~~y = 0 ↔ ∀ i, i < w → has x i = true → has y i = true := by
  simp only [has, BitVec.eq_of_getLsbD_eq_iff, BitVec.getLsbD_and, BitVec.getLsbD_not]
  refine forall₂_congr fun i hi => ?_
  cases x.getLsbD i <;> simp [hi]

/-- `g` holds every fuse of the floor and of the life cycle that `f` holds, and OWNER_DBG with its digest where `f` holds
one. -/
structure FusesKept (f g : Fuse) : Prop where
  svnA : f.svnPairA &&& ~~~g.svnPairA = 0
  svnB : f.svnPairB &&& ~~~g.svnPairB = 0
  lcA : f.lcPairA &&& ~~~g.lcPairA = 0
  lcB : f.lcPairB &&& ~~~g.lcPairB = 0
  owner : f.ownerDbgSet = true → g.ownerDbgSet = true ∧ g.ownerDbg = f.ownerDbg

theorem and_not_or_eq_zero {w : Nat} (x y : BitVec w) : x &&& ~~~(x ||| y) = 0 :=
  and_not_eq_zero_iff.2 fun _ _ h => by rw [has_or, h, Bool.true_or]

theorem and_not_trans {w : Nat} {x y z : BitVec w} (hxy : x &&& ~~~y = 0) (hyz : y &&& ~~~z = 0) : x &&& ~~~z = 0 :=
  and_not_eq_zero_iff.2 fun i hi h => and_not_eq_zero_iff.1 hyz i hi (and_not_eq_zero_iff.1 hxy i hi h)

theorem FusesKept.rfl {f : Fuse} : FusesKept f f :=
  ⟨BitVec.and_not_self _, BitVec.and_not_self _, BitVec.and_not_self _, BitVec.and_not_self _, fun h => ⟨h, Eq.refl _⟩⟩

theorem FusesKept.trans {f g h : Fuse} (hfg : FusesKept f g) (hgh : FusesKept g h) : FusesKept f h where
  svnA := and_not_trans hfg.svnA hgh.svnA
  svnB := and_not_trans hfg.svnB hgh.svnB
  lcA := and_not_trans hfg.lcA hgh.lcA
  lcB := and_not_trans hfg.lcB hgh.lcB
  owner hf := by
    obtain ⟨hset, hdig⟩ := hfg.owner hf
    exact ⟨(hgh.owner hset).1, (hgh.owner hset).2.trans hdig⟩

/-- A writing adds to the floor and to the life cycle, and fuses an OWNER_DBG that is not fused. -/
theorem FuseWrite.kept {f g : Fuse} (h : FuseWrite f g) : FusesKept f g := by
  cases h with
  | floor n => exact { FusesKept.rfl with svnA := and_not_or_eq_zero _ _, svnB := and_not_or_eq_zero _ _ }
  | lifeCycle => exact { FusesKept.rfl with lcA := and_not_or_eq_zero _ _, lcB := and_not_or_eq_zero _ _ }
  | owner o h => exact { FusesKept.rfl with owner := fun hf => absurd (h.symm.trans hf) Bool.false_ne_true }
  | seed0 | seed1 | puf | straps => exact { FusesKept.rfl with }

theorem FuseWrites.kept {f g : Fuse} (h : FuseWrites f g) : FusesKept f g := by
  induction h with
  | refl => exact .rfl
  | tail _ hw ih => exact ih.trans hw.kept

/-- A step of the life cycle that reads programmed does so by one of its two fuses, which stays. -/
theorem FusesKept.lcSteps {f g : Fuse} (h : FusesKept f g) {k : Nat} (hk : k < 4) (hf : has f.lcSteps k = true) :
    has g.lcSteps k = true := by
  rw [Fuse.lcSteps, has_or, Bool.or_eq_true] at hf ⊢
  exact hf.imp (and_not_eq_zero_iff.1 h.lcA k hk) (and_not_eq_zero_iff.1 h.lcB k hk)

/-! ### The key block -/

theorem State.fuseLc_writes (s : State) {bits : BitVec 4} (h : bits = 1 ∨ bits = 3 ∨ bits = 7 ∨ bits = 15) :
    FuseWrites s.fuse (s.fuseLc bits).fuse := by
  rw [State.fuseLc, State.lcChanged_fuse]
  exact (FuseWrite.lifeCycle _ h).once

theorem State.fuseOwner_writes (s : State) (o : Dig) : FuseWrites s.fuse (s.fuseOwner o).fuse := by
  unfold State.fuseOwner
  split
  next => exact .rfl
  next h =>
    simp only [Bool.or_eq_true, not_or, Bool.not_eq_true] at h
    exact (FuseWrite.owner _ o h.2).once

theorem State.programSeed_writes (s : State) : FuseWrites s.fuse s.programSeed.fuse := by
  refine .ite .rfl ?_
  dsimp only
  split
  · exact (FuseWrite.seed1 _ _).once
  · exact (FuseWrite.seed0 _ _).once

/-- A seal, an epoch and the commit record lie in the keep. -/
theorem State.newEpoch_fuse (s : State) (gen : BitVec 32) (epoch : BitVec 16) :
    ((s.newSeal gen).writeEpoch epoch).commitRecord.fuse = s.fuse := by
  rw [State.commitRecord_fuse, State.writeEpoch_fuse, State.newSeal_fuse]

/-- How far a KEY command had come decides which of its fuse steps were made. -/
theorem State.keyWrites_writes (s : State) (o : KeyOp) (n : Nat) : FuseWrites s.fuse (s.keyWrites o n).fuse := by
  cases o with
  | epochUpdate => exact .may .rfl fun s => .of_eq s.commitRecord_fuse
  | provision owner =>
    refine .ite ?first (.ite (.of_eq (State.newEpoch_fuse ..)) .rfl)
    case first =>
      exact (((FuseWrites.may .rfl State.programSeed_writes).may fun s => s.fuseOwner_writes owner).may
        fun s => .of_eq (s.newEpoch_fuse 1 1)).may fun s => s.fuseLc_writes (.inl rfl)
  | lcAdvance t k r v =>
    refine .ite (State.fuseLc_writes _ ?reached) .rfl
    case reached => split_ifs <;> simp
  | attest | debugEnter | debugExit => exact .rfl

/-- First provisioning (R339): the seed, OWNER_DBG and the first step of the life cycle. -/
theorem State.provisionFirst_writes (s : State) (owner : Dig) : FuseWrites s.fuse (s.provisionFirst owner).fuse := by
  rw [State.provisionFirst, State.keyResult_fuse]
  refine FuseWrites.trans ?_ (State.fuseLc_writes _ (.inl rfl))
  rw [State.installKeyed_fuse, State.commitEpoch_fuse, State.writeEpoch_fuse, State.deriveUds_fuse, State.newSeal_fuse]
  exact s.programSeed_writes.trans (State.fuseOwner_writes _ _)

/-- RMA and SCRAPPED (R336): their step of the life cycle, and at SCRAPPED the end of K_PUF. -/
theorem State.lcEnd_writes (s : State) (target : Nat) : FuseWrites s.fuse (s.lcEnd target).fuse := by
  refine .ite ?rma ?scrapped
  case rma =>
    rw [State.installKeyed_fuse, State.deriveTest_fuse]
    refine FuseWrites.trans (.of_eq ?_) (State.fuseLc_writes _ (by simp))
    rw [State.deriveUds_fuse, State.zeroRoots_fuse, State.zeroKeys_fuse]
  case scrapped =>
    refine FuseWrites.trans (FuseWrites.trans (.of_eq ?_) (State.fuseLc_writes _ (by simp))) (FuseWrite.puf _).once
    rw [State.zeroRoots_fuse, State.zeroKeys_fuse]

/-- KEY_LC_ADVANCE (R334): nothing is fused where its token is refused. -/
theorem State.lcAdvanceDone_writes (s : State) (target : Nat) (k : BitVec 264) (r v : BitVec 256) :
    FuseWrites s.fuse (s.lcAdvanceDone target k r v).fuse := by
  unfold State.lcAdvanceDone
  dsimp only
  generalize ht : (if (s.lc == .deployed && target == 4) = true then s.checkToken rmaDigest lblRma k r v
    else (true, s)) = t
  have hs : t.2.fuse = s.fuse := by
    rw [← ht, apply_ite Prod.snd, apply_ite State.fuse, State.checkToken_fuse, ite_self]
  refine FuseWrites.trans (.of_eq hs) (.ite (.of_eq ?refused) (.ite ?deployed ?final))
  case refused => rw [State.keyResult_fuse, State.irq_fuse]
  case deployed => rw [State.keyResult_fuse]; exact State.fuseLc_writes _ (by simp)
  case final => rw [State.keyResult_fuse]; exact State.lcEnd_writes _ _

/-- A KEY command that completes. -/
theorem State.keyOpDone_writes (s : State) (o : KeyOp) : FuseWrites s.fuse (s.keyOpDone o).fuse := by
  cases o with
  | epochUpdate =>
    exact .of_eq (by rw [State.keyOpDone, State.keyResult_fuse, State.installKeyed_fuse, State.commitEpoch_fuse])
  | attest n => exact .of_eq (State.attestDone_fuse _ _)
  | provision d => exact .ite (s.provisionFirst_writes d) (.of_eq (State.provisionAgain_fuse _))
  | lcAdvance t k r v => exact s.lcAdvanceDone_writes t.toNat k r v
  | debugEnter k r v => exact .of_eq (State.debugEnterDone_fuse _ _ _ _)
  | debugExit => exact .of_eq (State.debugExitDone_fuse _)

/-- The result of a KEY command that stops is told with what its writes had made. -/
theorem State.keyWrites_keyResult_writes (s : State) (o : KeyOp) (n : Nat) (x : Status) :
    FuseWrites s.fuse ((s.keyWrites o n).keyResult x o.op).fuse := by
  rw [State.keyResult_fuse]
  exact s.keyWrites_writes o n

/-- A tamper that stops a KEY command completes the writes it has begun (R352). -/
theorem State.abortKeyOp_writes (s : State) : FuseWrites s.fuse s.abortKeyOp.fuse := by
  unfold State.abortKeyOp
  split
  · exact State.keyWrites_keyResult_writes s.drawn ..
  · exact .rfl

/-- A tamper writes no more fuses than the KEY command that it stops. -/
theorem State.tamper_writes (s : State) (n : Nat) : FuseWrites s.fuse (s.tamper n).fuse := by
  refine .ite .rfl ?_
  have hcal : FuseWrites s.fuse { s.calLost with vbat := s.calLost.vbat.latch n s.calLost.calSec }.fuse :=
    .of_eq s.calLost_fuse
  dsimp only
  split
  · exact hcal
  · rwa [State.logPut_fuse]
  · rw [State.logPut_fuse, State.bistAbort_fuse, State.endUnlock_fuse, State.faultAssert_fuse, State.irq_fuse,
      State.tamperHoldSet_fuse, State.zeroKeys_fuse]
    exact (hcal.trans (State.abortKeyOp_writes _)).trans (.of_eq (State.zeroRoots_fuse _))

/-- A KEY command that the power-fail warning catches completes or stops with its writes (R349). -/
theorem State.keyCaught_writes (s : State) (o : KeyOp) : FuseWrites s.fuse (s.keyCaught o).fuse := by
  have hstop (o : KeyOp) : FuseWrites s.fuse (s.drawn.keyResult .busy o.op).fuse :=
    .of_eq (State.keyResult_fuse s.drawn ..)
  have hdone (o : KeyOp) : FuseWrites s.fuse (s.drawn.keyOpDone o).fuse := State.keyOpDone_writes s.drawn o
  cases o with
  | provision d =>
    exact .ite (.ite (hdone _) (State.keyWrites_keyResult_writes s.drawn ..)) (.ite (hdone _) (hstop _))
  | epochUpdate | lcAdvance => exact .ite (hdone _) (hstop _)
  | attest | debugEnter | debugExit => exact hstop _

theorem State.keyPfw_writes (s : State) : FuseWrites s.fuse s.keyPfw.fuse := by
  rw [State.keyPfw, State.raise_fuse]
  split
  · exact s.keyCaught_writes _
  · exact .rfl

/-! ### The power-fail warning (R390) -/

theorem State.pfwAssert_writes (s : State) : FuseWrites s.fuse s.pfwAssert.fuse := by
  unfold State.pfwAssert
  rw [foldl_fuse _ _ (fun s l => by rw [apply_ite State.fuse, State.capSuspend_fuse, ite_self]), State.logPfw_fuse,
    State.bistAbort_fuse]
  refine FuseWrites.trans (.of_eq ?_) (State.keyPfw_writes _)
  rw [State.faultAssert_fuse, State.irq_fuse]
  rfl

theorem State.pfwEval_writes (s : State) (was : Bool) : FuseWrites s.fuse (s.pfwEval was).fuse :=
  FuseWrites.may (.may .rfl fun s => .of_eq (s.modMon_fuse _)) State.pfwAssert_writes

/-! ### The command packets (R41, R42) -/

/-- What an opcode's body does to the fuses are writings. -/
def OpSpec.WritesFuses (o : OpSpec) : Prop := ∀ p s, FuseWrites s.fuse (o.body p s).st.fuse

/-- COMMIT_SVN raises the floor (R77). -/
theorem specSysFwActivate_writes : specSysFwActivate.WritesFuses := by
  intro p s
  simp only [specSysFwActivate]
  split
  · exact .rfl
  · change FuseWrites s.fuse (if flag (p.w 0) 8 then s.fuse.raiseFloor s.sys.svnRunning else s.fuse)
    split
    · exact (FuseWrite.floor _ _).once
    · exact .rfl

/-- MON_SET_MAINS may begin the power-fail warning (R390). -/
theorem specMonSetMains_writes : specMonSetMains.WritesFuses := fun _ s =>
  FuseWrites.trans (.of_eq (s.setMonCfg_fuse _)) (State.pfwEval_writes _ _)

theorem specsSys_writes : ∀ o ∈ specsSys, o.WritesFuses := by
  have h := specSysFwActivate_writes
  simp only [OpSpec.WritesFuses] at h ⊢
  simp [specsSys, h, specSysQueryState_fuse, specSysQueryCounters_fuse, specSysEcho_fuse, specSysSetState_fuse,
    specSysClearSafe_fuse, specSysDomainPower_fuse, specSysSleep_fuse, specSysWake_fuse, specSysReset_fuse,
    specSysFwStage_fuse, specSysSetMbxRoute_fuse, specSysSetSemCfg_fuse, specSysSemForce_fuse,
    specSysRingConfig_fuse, specSysRingEnable_fuse, specSysIntRoute_fuse, specSysCancel_fuse, specSysBltUnlock_fuse,
    specSysBltSelect_fuse, specSysBistRun_fuse]

theorem specsRef_writes : ∀ o ∈ specsRef, o.WritesFuses := by
  simp [specsRef, OpSpec.WritesFuses, specRefQuerySlot_fuse, specRefQueryMatrix_fuse, specRefQueryHistory_fuse,
    specRefSetSlot_fuse, specRefSetQual_fuse, specRefSetTimers_fuse, specRefSetPriority_fuse, specRefSelect_fuse,
    specRefClearHistory_fuse, specRefEnable_fuse, specRefSetPtpSlave_fuse]

theorem specsAcd_writes : ∀ o ∈ specsAcd, o.WritesFuses := by
  simp [specsAcd, OpSpec.WritesFuses, specAcdQueryTime_fuse, specAcdQueryServo_fuse, specAcdSetServo_fuse,
    specAcdSetStepPolicy_fuse, specAcdSetHold_fuse, specAcdSetOscModel_fuse, specAcdSetTime_fuse,
    specAcdAdjustPhase_fuse, specAcdSetUtc_fuse, specAcdSetCpllSource_fuse, specAcdEnterDrydown_fuse,
    specAcdSetMaceration_fuse]

theorem specsOut_writes : ∀ o ∈ specsOut, o.WritesFuses := by
  simp [specsOut, OpSpec.WritesFuses, specOutQueryStatus_fuse, specOutQueryEcho_fuse, specOutSetSyn_fuse,
    specOutSetOutput_fuse, specOutSync_fuse, specOutSetTp_fuse, specOutSetTod_fuse, specOutEchoMeasure_fuse,
    specOutSetDelay_fuse, specOutEnable_fuse]

theorem specsTic_writes : ∀ o ∈ specsTic, o.WritesFuses := by
  simp [specsTic, OpSpec.WritesFuses, specTicQueryChannel_fuse, specTicQueryCal_fuse, specTicSetChannel_fuse,
    specTicStartInterval_fuse, specTicStream_fuse, specTicCalibrate_fuse, specTicSubstitute_fuse,
    specTicSetDelay_fuse]

theorem specsGns_writes : ∀ o ∈ specsGns, o.WritesFuses := by
  simp [specsGns, OpSpec.WritesFuses, specGnsQueryStatus_fuse, specGnsQuerySolution_fuse, specGnsSetPort_fuse,
    specGnsSetNotch_fuse, specGnsAcquire_fuse, specGnsTrack_fuse, specGnsRelease_fuse, specGnsSetLatch_fuse,
    specGnsSnapshot_fuse, specGnsSetAntenna_fuse, specGnsSetCheck_fuse, specGnsSpareBank_fuse]

theorem specsEth_writes : ∀ o ∈ specsEth, o.WritesFuses := by
  simp [specsEth, OpSpec.WritesFuses, specEthQueryLane_fuse, specEthQueryDelay_fuse, specEthSetQuadMode_fuse,
    specEthSetLane_fuse, specEthSetDelay_fuse, specEthSetCapture_fuse, specEthSetClassifier_fuse,
    specEthLaneEnable_fuse, specEthSetTags_fuse]

theorem specsTmg_writes : ∀ o ∈ specsTmg, o.WritesFuses := by
  simp [specsTmg, OpSpec.WritesFuses, specTmgQueryQueue_fuse, specTmgQueryGcl_fuse, specTmgSetGcl_fuse,
    specTmgSwapGcl_fuse, specTmgSetShaper_fuse, specTmgSetPolicer_fuse, specTmgSetFilter_fuse,
    specTmgSetSampling_fuse]

theorem specsSvc_writes : ∀ o ∈ specsSvc, o.WritesFuses := by
  simp [specsSvc, OpSpec.WritesFuses, specSvcQueryStatus_fuse, specSvcQueryClient_fuse, specSvcSetPtpPort_fuse,
    specSvcSetProfile_fuse, specSvcSetAuth_fuse, specSvcSetNtp_fuse, specSvcLoadCookieKey_fuse,
    specSvcRetireCookieKey_fuse, specSvcSetGate_fuse, specSvcSetRateLimit_fuse, specSvcClientFlush_fuse,
    specSvcSetBoundTlv_fuse]

theorem specsKey_writes : ∀ o ∈ specsKey, o.WritesFuses := by
  simp [specsKey, OpSpec.WritesFuses, specKeyQuerySlots_fuse, specKeyQueryEpoch_fuse, specKeyLoadFlacon_fuse,
    specKeyWrap_fuse, specKeyDerive_fuse, specKeyZero_fuse, specKeyEpochUpdate_fuse, specKeyAttest_fuse,
    specKeyProvision_fuse, specKeyLcAdvance_fuse, specKeyDebugEnter_fuse, specKeyDebugExit_fuse]

theorem specsLog_writes : ∀ o ∈ specsLog, o.WritesFuses := by
  simp [specsLog, OpSpec.WritesFuses, specLogQueryStatus_fuse, specLogQueryHead_fuse, specLogExportAck_fuse,
    specLogSetExport_fuse, specLogCheckpoint_fuse, specLogNote_fuse]

theorem specsFlt_writes : ∀ o ∈ specsFlt, o.WritesFuses := by
  simp [specsFlt, OpSpec.WritesFuses, specFltQuery_fuse, specPairQuery_fuse, specFltSetClass_fuse,
    specFltClear_fuse, specFltInject_fuse, specPairSetMode_fuse, specPairSetClaim_fuse, specPairHandover_fuse,
    specPairSetCompare_fuse, specPairRejoin_fuse]

theorem specsMon_writes : ∀ o ∈ specsMon, o.WritesFuses := by
  have h := specMonSetMains_writes
  simp only [OpSpec.WritesFuses] at h ⊢
  simp [specsMon, h, specMonQuery_fuse, specKeepQuery_fuse, specCalQuery_fuse, specMonSetLimits_fuse,
    specKeepScrub_fuse, specCalSetTime_fuse, specCalSetTrim_fuse, specCalSetTamper_fuse]

/-- No listed opcode's body does anything else to the fuses. -/
theorem allSpecs_writes : ∀ o ∈ allSpecs, o.WritesFuses := by
  simp only [allSpecs, List.forall_mem_append]
  exact ⟨⟨⟨⟨⟨⟨⟨⟨⟨⟨⟨⟨specsSys_writes, specsRef_writes⟩, specsAcd_writes⟩, specsOut_writes⟩, specsTic_writes⟩,
    specsGns_writes⟩, specsEth_writes⟩, specsTmg_writes⟩, specsSvc_writes⟩, specsKey_writes⟩, specsLog_writes⟩,
    specsFlt_writes⟩, specsMon_writes⟩

section Packets

variable {o : OpSpec} (ho : o.WritesFuses) (p : Packet) (s : State)

include ho

theorem OpSpec.run_writes : FuseWrites s.fuse (o.run p s).st.fuse := by
  unfold OpSpec.run
  dsimp only
  split
  · exact .rfl
  · split
    · exact .rfl
    · split
      · split
        · simpa only [State.commitCsp_fuse, State.keepWrite_fuse] using ho p s
        · split
          · simpa only [State.commitCsp_fuse, State.keepRowFail_fuse] using ho p (s.keepRowFail _).1
          · exact .of_eq (State.keepRowFail_fuse _ _)
      · exact ho p s

theorem OpSpec.execute_writes (frees : Bool) : FuseWrites s.fuse (o.execute p s frees).fuse := by
  refine .ite (.of_eq (State.finish_fuse ..)) (.ite (.of_eq ?full) ?runs)
  case full => rw [State.finish_fuse, State.countRefused_fuse]
  case runs =>
    rw [State.settle_fuse, State.finish_fuse]
    exact OpSpec.run_writes ho p { s with sys := { s.sys with note := 0 } }

theorem OpSpec.accept_writes : FuseWrites s.fuse (o.accept p s).fuse := by
  have hfull : FuseWrites s.fuse ((s.countRefused p).finish p o.opcode .logFull [] false).fuse :=
    .of_eq (by rw [State.finish_fuse, State.countRefused_fuse])
  have hdry (x : Status) (f : Bool) (kind : Nat) :
      FuseWrites s.fuse ((s.countStatus x f).reply p o.opcode kind x [] 0 false).fuse :=
    .of_eq (by rw [State.reply_fuse, State.countStatus_fuse])
  refine .ite ?scheduled (.ite ?dryRun (OpSpec.execute_writes ho p s false))
  case scheduled =>
    exact .ite hfull (.ite (.of_eq (State.finish_fuse ..)) (.ite (hdry ..) (.of_eq (State.enqueue_fuse ..))))
  case dryRun => exact .ite (.of_eq (State.finish_fuse ..)) (.ite hfull (hdry ..))

theorem State.takePacket_writes : FuseWrites s.fuse (s.takePacket o p).fuse := by
  have hfetched : FuseWrites s.fuse (s.fetched p).fuse := .of_eq (s.fetched_fuse p)
  unfold State.takePacket
  dsimp only
  split
  · exact .of_eq (s.fetchStall_fuse p)
  · split
    · rwa [State.finish_fuse]
    · exact hfetched.trans (OpSpec.accept_writes ho p _)

end Packets

/-! ### Scheduled commands (R47 to R49) -/

theorem State.runEntry_writes (s : State) (e : SchedEntry) : FuseWrites s.fuse (s.runEntry e).fuse := by
  unfold State.runEntry
  dsimp only
  split
  next o h =>
    exact OpSpec.execute_writes (allSpecs_writes o (List.mem_of_find?_eq_some h)) e.pkt
      { s with cmd := { s.cmd with sched := s.cmd.sched.erase e } } true
  next => exact .rfl

theorem State.runPassed_writes (n : Nat) (s : State) : FuseWrites s.fuse (s.runPassed n).fuse := by
  induction n generalizing s with
  | zero => exact .rfl
  | succ n ih =>
    unfold State.runPassed
    split
    · exact .ite ((s.runEntry_writes _).trans (ih _)) .rfl
    · exact .rfl

/-- What comes before a packet of its tick writes the fuses only as the scheduled commands do. -/
theorem State.arrive_writes (s : State) (dt : Nat) : FuseWrites s.fuse (s.arrive dt).fuse :=
  FuseWrites.trans (.of_eq ((s.advance dt).leapNow_fuse)) (State.runPassed_writes _ _)

theorem State.packet_writes {o : OpSpec} (ho : o.WritesFuses) (p : Packet) (s : State) :
    FuseWrites s.fuse (s.packet o p).fuse :=
  (s.arrive_writes p.dt).trans (State.takePacket_writes ho p _)

theorem State.schedStep_writes (s : State) (old : Nat) : FuseWrites s.fuse (s.schedStep old).fuse :=
  FuseWrites.ite .rfl (.trans (.of_eq (State.raise_fuse ..)) (State.runPassed_writes ..))

theorem State.stepFollows_writes (s : State) (old : Nat) (x : Int) (acq : Bool) :
    FuseWrites s.fuse (s.stepFollows old x acq).fuse := by
  unfold State.stepFollows
  refine FuseWrites.trans (.of_eq ?_) (State.schedStep_writes _ old)
  simp only [State.latchStep_fuse, State.leapNow_fuse, State.rollsDue_fuse, State.lanesStep_fuse,
    State.outputsStep_fuse]

/-- A step that is published lets the scheduled commands that it passes execute (R49). -/
theorem State.publish_writes (s : State) (n : Nat) : FuseWrites s.fuse (s.publish n).fuse := by
  unfold State.publish
  dsimp only
  refine .may (.trans (.of_eq ?eb) (.ite .rfl (State.stepFollows_writes ..))) fun s => .of_eq s.stepDone_fuse
  case eb => exact (State.publishEb_fuse _).trans (s.applyStep_fuse n)

/-! ### The events -/

/-- The state that a result leaves, where it leaves one, has the fuses `f` or what writings make of them. -/
def Burns (f : Fuse) : Res → Prop
  | .next t => FuseWrites f t.fuse
  | .fault _ | .refused _ => True

@[simp] theorem burns_next {f : Fuse} {t : State} : Burns f (.next t) ↔ FuseWrites f t.fuse := Iff.rfl

@[simp] theorem burns_fault {f : Fuse} {x : Fault} : Burns f (.fault x) := trivial

@[simp] theorem burns_ite_iff {f : Fuse} {c : Prop} [Decidable c] {a b : Res} :
    Burns f (if c then a else b) ↔ if c then Burns f a else Burns f b := by split <;> rfl

theorem burns_ite {f : Fuse} {c : Prop} [Decidable c] {a b : Res} (ha : Burns f a) (hb : Burns f b) :
    Burns f (if c then a else b) := by split <;> assumption

/-- Scheduled commands that fall due run as entries (R47). -/
theorem execScheduledCommandDue_burns (dt : Nat) (s : State) : Burns s.fuse (execScheduledCommandDue dt s) := by
  have hleap : FuseWrites s.fuse (s.advance dt).leapNow.fuse := .of_eq (s.advance dt).leapNow_fuse
  refine burns_next.2 (.ite hleap ?_)
  split
  · exact hleap.trans (State.runEntry_writes ..)
  · exact hleap

/-- A packet with an unlisted opcode comes after the scheduled commands that are due (R41). -/
theorem execUnlistedOpcode_burns (op : BitVec 16) (p : Packet) (s : State) :
    Burns s.fuse (execUnlistedOpcode op p s) :=
  burns_next.2 ((s.arrive_writes p.dt).trans (.of_eq (State.unlisted_fuse ..)))

/-- The straps are sampled (R425). -/
theorem execStrapSample_burns (dt : Nat) (s : State) : Burns s.fuse (execStrapSample dt s) :=
  burns_next.2 (.ite (FuseWrite.straps _).once .rfl)

theorem execKeyOperationDone_burns (dt : Nat) (ok : Bool) (s : State) :
    Burns s.fuse (execKeyOperationDone dt ok s) := by
  unfold execKeyOperationDone
  dsimp only
  split
  · exact burns_next.2 .rfl
  · exact burns_next.2 (.ite ((s.advance dt).keyOpDone_writes _) (.of_eq (State.keyResult_fuse ..)))

theorem execTamperAssert_burns (dt : Nat) (n : BitVec 4) (on : Bool) (s : State) :
    Burns s.fuse (execTamperAssert dt n on s) := by
  unfold execTamperAssert
  exact burns_next.2 (.ite (State.tamper_writes { s.advance dt with vbat := _ } _) .rfl)

/-- A probe of the test port is a tamper source (R413). -/
theorem execTapInstruction_burns (dt : Nat) (code : BitVec 8) (s : State) :
    Burns s.fuse (execTapInstruction dt code s) := by
  have hprobe (f : Blt → Blt) (n : Nat) : FuseWrites s.fuse (((s.advance dt).modBlt f).raise n).fuse :=
    .of_eq (by rw [State.raise_fuse]; rfl)
  exact burns_next.2 (.ite .rfl (.ite (hprobe ..) (.ite (hprobe ..) ((hprobe ..).trans (State.tamper_writes ..)))))

/-! Events that may begin the power-fail warning (R390). -/

theorem execPfwPinChange_burns (dt : Nat) (low : Bool) (s : State) : Burns s.fuse (execPfwPinChange dt low s) :=
  burns_next.2 (State.pfwEval_writes { s.advance dt with mon := _ } _)

theorem execMainsHalfCycle_burns (dt : Nat) (rmsUv : BitVec 20) (s : State) :
    Burns s.fuse (execMainsHalfCycle dt rmsUv s) := by
  refine burns_next.2 (.trans (.of_eq ?_) (State.pfwEval_writes ..))
  simp only [apply_ite State.fuse, State.rangeEval_fuse, State.modMon_fuse, ite_self, State.advance_fuse]

theorem execMainsGapTimeout_burns (dt : Nat) (s : State) : Burns s.fuse (execMainsGapTimeout dt s) := by
  refine burns_next.2 (.ite .rfl (.trans (.of_eq ?_) (State.pfwEval_writes ..)))
  simp only [State.rangeEval_fuse, State.modMon_fuse, State.advance_fuse]

theorem execEbPublication_burns (dt : Nat) (s : State) : Burns s.fuse (execEbPublication dt s) :=
  burns_next.2 (.ite .rfl ((s.advance dt).publish_writes _))

/-! Events that go through an operation with a function of its own. -/

/-- An access writes what its reads or writes do. -/
theorem State.access_burns {s : State} {m : BitVec 4} {addrs : List W32} {f : State → State}
    (hf : (f s).fuse = s.fuse) : Burns s.fuse (s.access m addrs f) :=
  burns_ite (burns_next.2 .rfl) (burns_ite burns_fault (burns_next.2 (.of_eq hf)))

theorem State.busRead_burns (s : State) (r : BusRead) : Burns s.fuse (s.busRead r) := by
  unfold State.busRead
  refine State.access_burns ?_
  cases r with
  | bar2 => rfl
  | _ => exact (foldl_fuse _ _ (fun s a => State.readBurst_fuse _ s a) _).trans rfl

theorem State.otherWrite_fuse (s : State) (w : BusWrite) : (s.otherWrite w).fuse = s.fuse := by
  cases w with
  | benit ws =>
    refine foldl_fuse _ _ (fun s i => ?_) _
    split
    · exact State.mbxData_fuse ..
    · rfl
  | _ => rfl

theorem State.busWrite_burns (s : State) (w : BusWrite) : Burns s.fuse (s.busWrite w) := by
  unfold State.busWrite
  refine State.access_burns ?_
  rw [foldl_fuse _ _ (fun s p => State.regWrite_fuse ..), State.otherWrite_fuse]

theorem execGnsTrkStateWrite_burns (dt : Nat) (m : BitVec 4) (k : BitVec 5) (codeLock carrLock bitSync : Bool)
    (cn0 : BitVec 16) (slip : Option (BitVec 16)) (s : State) :
    Burns s.fuse (execGnsTrkStateWrite dt m k codeLock carrLock bitSync cn0 slip s) :=
  burns_next.2 (.of_eq (State.gnsEngineDo_fuse (s.advance dt) _ _ (by
    simp only [apply_ite State.fuse, State.drawn_fuse, State.modTrk_fuse, ite_self])))

theorem execGnsNavPush_burns (dt : Nat) (m : BitVec 4) (k : BitVec 5) (word : W32) (ago : Nat) (s : State) :
    Burns s.fuse (execGnsNavPush dt m k word ago s) :=
  burns_next.2 (.of_eq (State.gnsEngineDo_fuse (s.advance dt) _ _ (State.navPut_fuse ..)))

theorem execGnsSolWrite_burns (dt : Nat) (m : BitVec 4) (valid : Bool) (nsv : BitVec 6) (snap : Bool)
    (offset : BitVec 64) (unc : BitVec 24) (s : State) :
    Burns s.fuse (execGnsSolWrite dt m valid nsv snap offset unc s) :=
  burns_next.2 (.of_eq (State.gnsEngineDo_fuse (s.advance dt) _ _ (by rw [State.solUse_fuse, State.solStore_fuse])))

theorem State.tones_fuse (l : List (Nat × Nat)) (x : State × Bool) : (l.foldl State.tone x).1.fuse = x.1.fuse := by
  induction l generalizing x with
  | nil => rfl
  | cons a l ih =>
    rw [List.foldl_cons, ih, State.tone]
    (repeat' split) <;> simp only [State.notchAt_fuse]

theorem State.lineTest_fuse (s : State) (t : Option Bool) : (s.lineTest t).fuse = s.fuse := by
  cases t with
  | none => rfl
  | some bad =>
    simp [State.lineTest, apply_ite State.fuse, State.faultAssert_fuse, State.faultEnd_fuse, State.raise_fuse]

theorem execLogSecondTick_burns (dt : Nat) (keepFail : Option (BitVec 10)) (s : State) :
    Burns s.fuse (execLogSecondTick dt keepFail s) := by
  refine burns_ite (burns_next.2 .rfl) (burns_next.2 (.may ?_ fun s => .of_eq (s.checkpoint_fuse _)))
  cases keepFail with
  | none => exact .rfl
  | some row => exact .ite (.of_eq (State.keepRowFail_fuse ..)) .rfl

theorem execSupplySample_burns (dt : Nat) (mv : List (BitVec 16)) (s : State) :
    Burns s.fuse (execSupplySample dt mv s) := by
  refine burns_next.2 (.of_eq (foldl_fuse _ _ (fun s r => ?_) _))
  split
  · exact State.supRead_fuse ..
  · rfl

theorem execTempSample_burns (dt : Nat) (t : List (BitVec 16)) (s : State) : Burns s.fuse (execTempSample dt t s) := by
  simp only [execTempSample, burns_next, State.junction_fuse, State.extTemp_fuse, State.anchorTempStep_fuse,
    State.holdTemp_fuse]
  refine .of_eq (foldl_fuse _ _ (fun s c => ?_) _)
  split
  · exact State.tempRead_fuse ..
  · rfl

/-! Requests of clients: each notes its client and answers from what that leaves. -/

theorem noteClient_result_fuse {s b : State} {l kind i : Nat} {r : SvcReq} {x : Option Client}
    (h : s.noteClient l kind r i = (x, b)) : b.fuse = s.fuse := by
  rw [← State.noteClient_fuse s l kind r i, h]

theorem execPtpDelayReq_burns (dt : Nat) (lane : BitVec 4) (phase : Nat) (r : SvcReq) (s : State) :
    Burns s.fuse (execPtpDelayReq dt lane phase r s) := by
  have hin := (s.advance dt).ptpIntake_fuse lane.toNat r
  refine burns_ite (burns_next.2 .rfl) (burns_ite (burns_next.2 (.of_eq hin)) (burns_ite ?other ?noted))
  case other => exact burns_next.2 (.of_eq ((State.otherDiscard_fuse ..).trans hin))
  case noted =>
    split
    next h => exact burns_next.2 (.of_eq ((noteClient_result_fuse h).trans hin))
    next h =>
      simp [State.sendAuth_fuse, apply_ite Prod.snd, apply_ite State.fuse, State.takeToken_fuse,
        noteClient_result_fuse h, hin]

theorem execPtpUnicastRequest_burns (dt : Nat) (lane : BitVec 4) (r : SvcReq) (s : State) :
    Burns s.fuse (execPtpUnicastRequest dt lane r s) := by
  have hin := (s.advance dt).ptpIntake_fuse lane.toNat r
  refine burns_ite (burns_next.2 .rfl) (burns_ite (burns_next.2 (.of_eq hin)) (burns_ite ?other ?noted))
  case other => exact burns_next.2 (.of_eq ((State.otherDiscard_fuse ..).trans hin))
  case noted =>
    split
    next h => simp [foldl_fuse, State.grantDeny_fuse, noteClient_result_fuse h, hin]
    next h =>
      simp [foldl_fuse, State.grantOne_fuse, apply_ite Prod.snd, apply_ite State.fuse, State.takeToken_fuse,
        noteClient_result_fuse h, hin]

theorem execNtpRequest_burns (dt : Nat) (lane : BitVec 4) (phase : Nat) (r : SvcReq) (s : State) :
    Burns s.fuse (execNtpRequest dt lane phase r s) := by
  have hin := (s.advance dt).intake_fuse lane.toNat r
  refine burns_ite (burns_next.2 .rfl) (burns_ite (burns_next.2 (.of_eq hin)) (burns_ite ?other ?noted))
  case other => exact burns_next.2 (.of_eq ((State.otherDiscard_fuse ..).trans hin))
  case noted =>
    split
    next h => simp [State.sendSvc_fuse, noteClient_result_fuse h, hin]
    next h =>
      simp [State.sendSvc_fuse, State.kodRate_fuse, apply_ite State.fuse, State.takeToken_fuse,
        noteClient_result_fuse h, hin]

theorem execNtsRequest_burns (dt : Nat) (lane : BitVec 4) (phase : Nat) (r : SvcReq) (s : State) :
    Burns s.fuse (execNtsRequest dt lane phase r s) := by
  have hin := (s.advance dt).intake_fuse lane.toNat r
  have hcount (n : Nat) : Burns s.fuse (.next (((s.advance dt).intake lane.toNat r).1.svcCount lane.toNat n)) :=
    burns_next.2 (.of_eq ((State.svcCount_fuse ..).trans hin))
  refine burns_ite (burns_next.2 .rfl) (burns_ite (burns_next.2 (.of_eq hin)) (burns_ite ?other ?ntp))
  case other => exact burns_next.2 (.of_eq ((State.otherDiscard_fuse ..).trans hin))
  case ntp =>
    split
    next => exact hcount 7
    next q =>
      refine burns_ite (hcount 6) ?_
      split
      next h => simp [State.ntsCheck_fuse, noteClient_result_fuse h, hin]
      next h => simp [State.ntsCheck_fuse, apply_ite State.fuse, State.takeToken_fuse, noteClient_result_fuse h, hin]

/-! ### Every command -/

/-- Whatever an event does to the fuses are writings: most leave them as they are, block by block. -/
theorem exec_event_burns {i : Instr} (h : packetOf i = none) (s : State) : Burns s.fuse (exec i s) := by
  cases i
  -- Events that write fuses, or run commands that do
  case scheduledCommandDue => exact execScheduledCommandDue_burns ..
  case unlistedOpcode => exact execUnlistedOpcode_burns ..
  case ebPublication => exact execEbPublication_burns ..
  case strapSample => exact execStrapSample_burns ..
  case keyOperationDone => exact execKeyOperationDone_burns ..
  case tamperAssert => exact execTamperAssert_burns ..
  case tapInstruction => exact execTapInstruction_burns ..
  case pfwPinChange => exact execPfwPinChange_burns ..
  case mainsHalfCycle => exact execMainsHalfCycle_burns ..
  case mainsGapTimeout => exact execMainsGapTimeout_burns ..
  -- Accesses, and events that act through an operation with a function of its own
  case queuePop | rcCounterRead | shadowLatchRead => exact State.busRead_burns (s.advance _) _
  case intStatusW1c | registerWrite => exact State.busWrite_burns (s.advance _) _
  case gnsTrkStateWrite => exact execGnsTrkStateWrite_burns ..
  case gnsNavPush => exact execGnsNavPush_burns ..
  case gnsSolWrite => exact execGnsSolWrite_burns ..
  case ptpDelayReq => exact execPtpDelayReq_burns ..
  case ptpUnicastRequest => exact execPtpUnicastRequest_burns ..
  case ntpRequest => exact execNtpRequest_burns ..
  case ntsRequest => exact execNtsRequest_burns ..
  case logSecondTick => exact execLogSecondTick_burns ..
  case supplySample => exact execSupplySample_burns ..
  case tempSample => exact execTempSample_burns ..
  -- The command interface
  case ringProdWrite | ringConsWrite | ringSlotWrite | txDescriptorFetch | msiModerationTimer | mbxSend |
    mbxDeliver | mbxTake | semRead | semRelease | pcieUnsupportedAccess | acdSteerWrite =>
    simp [exec, execRingProdWrite, execRingConsWrite, execRingSlotWrite, execTxDescriptorFetch,
      execMsiModerationTimer, execMbxSend, execMbxDeliver, execMbxTake, execSemRead, execSemRelease,
      execPcieUnsupportedAccess, execAcdSteerWrite, apply_ite State.fuse, State.pointerWrite_fuse, State.slotOut_fuse,
      State.completeTx_fuse, State.ethCount_fuse, State.ethRaise_fuse, State.hostFrame_fuse, State.mbxSend_fuse,
      State.mbxTake_fuse, State.readDenied_fuse, State.semRead_fuse, State.semRelease_fuse, State.steerWrite_fuse]
  case replyDelivery | gnsNcoWrite =>
    simp only [exec, execReplyDelivery, execGnsNcoWrite]
    (repeat' split) <;> simp [State.replyNext_fuse, State.gnsEngineDo_fuse, State.modTrk_fuse, State.samples_fuse]
  -- Resets, boot, power and the host link
  case porNAssert | resetNAssert | resetRelease | engineBootPowerStart | bootImageCheck | bootComplete |
    autoRun | domainReady | domainOff | wakeNEdge | wakeComplete | perstNAssert | pcieFlr | pcieLinkLoss |
    accordSeed =>
    simp [exec, execPorNAssert, execResetNAssert, execResetRelease, execEngineBootPowerStart, execBootImageCheck,
      execBootComplete, execAutoRun, execDomainReady, execDomainOff, execWakeNEdge, execWakeComplete,
      execPerstNAssert, execPcieFlr, execPcieLinkLoss, execAccordSeed, apply_ite State.fuse, State.hold_fuse,
      State.powerUp_fuse, State.raise_fuse, State.imageCheck_fuse, State.bootDone_fuse, State.autoRunNow_fuse,
      State.domReadyNow_fuse, State.domOff_fuse, State.logPut_fuse, State.wakeNow_fuse, State.wakeDone_fuse,
      State.flr_fuse, State.linkLost_fuse, State.seedAccord_fuse]
  case railMonitorReset =>
    simp only [exec, execRailMonitorReset]
    (repeat' split) <;> simp [State.hold_fuse]
  -- The clocks and the accord
  case ocxoPresent | cpllLock | cpllLoss | macerationEnd | timeBusApply | timeBusCheck | bridgeClockLoss |
    timeBusError | servoTimeout | leapApply =>
    simp [exec, execOcxoPresent, execCpllLock, execCpllLoss, execMacerationEnd, execTimeBusApply, execTimeBusCheck,
      execBridgeClockLoss, execTimeBusError, execServoTimeout, execLeapApply, apply_ite State.fuse, State.react_fuse,
      State.faultEnd_fuse, State.raise_fuse, State.cpllLost_fuse, State.faultAssert_fuse, State.enterDrydown_fuse,
      State.leapNow_fuse]
  case bridgeMeasure | accordReEntry =>
    simp only [exec, execBridgeMeasure, execAccordReEntry]
    (repeat' split) <;> simp [State.calNext_fuse, State.substAll_fuse, State.powerDown_fuse, State.steerTo_fuse,
      State.switchDone_fuse]
  -- Faults
  case faultAssert | collectorSelfFail | wardenWdogExpiry =>
    simp [exec, execFaultAssert, execCollectorSelfFail, execWardenWdogExpiry, apply_ite State.fuse,
      State.faultAssert_fuse, State.selfFails0_fuse, State.wardenLate_fuse]
  -- REF
  case refEdge | refTodMessage | holdoffExpiry | waitExpiry | refSelectTick | ptpAnnounceTimeout =>
    simp [exec, execRefEdge, execRefTodMessage, execHoldoffExpiry, execWaitExpiry, execRefSelectTick,
      execPtpAnnounceTimeout, apply_ite State.fuse, State.clockEdge_fuse, State.refUpdate_fuse, State.holdoffOut_fuse,
      State.waitOut_fuse, State.cellsSnap_fuse, State.refSelect_fuse, State.modSlot_fuse, State.refHist_fuse,
      State.setSource_fuse]
  case refOffsetDelivery | refLosTimeout =>
    simp only [exec, execRefOffsetDelivery, execRefLosTimeout]
    (repeat' split) <;> simp [State.refDeliver_fuse, State.modSlot_fuse, State.cellsStale_fuse, State.refHist_fuse,
      State.setFaults_fuse]
  -- GNS
  case gnssClkMeasure | notchDetect | notchRelease | jamWarnChange | gnsTrackStart | gnsDump | gnsSolTimeout |
    snapshotDone =>
    simp [exec, execGnssClkMeasure, execNotchDetect, execNotchRelease, execJamWarnChange, execGnsTrackStart,
      execGnsDump, execGnsSolTimeout, execSnapshotDone, apply_ite State.fuse, State.raise_fuse, State.gnsHist_fuse,
      State.tones_fuse, State.modTrk_fuse, State.samples_fuse, State.gnsEval_fuse, State.snapEnd_fuse]
  case gnssClkLoss | acqPass | gnsLatch | snapshotStart =>
    simp only [exec, execGnssClkLoss, execAcqPass, execGnsLatch, execSnapshotStart]
    (repeat' split) <;> simp [State.samples_fuse, State.acqEnd_fuse, State.gnsEval_fuse, State.gnsHist_fuse,
      State.raise_fuse, State.snapEnd_fuse, State.acqLast_fuse, State.latchTake_fuse, State.snapWait_fuse]
  -- TIC
  case ticEdge | ticPresenceTimeout | ticIntervalTimeout | ticCoarseWrap | ticWarmupEnd | ticCalDone |
    ticRecalTrigger | ticSubstHandover | ticEticUpdate =>
    simp [exec, execTicEdge, execTicPresenceTimeout, execTicIntervalTimeout, execTicCoarseWrap, execTicWarmupEnd,
      execTicCalDone, execTicRecalTrigger, execTicSubstHandover, execTicEticUpdate, apply_ite State.fuse,
      State.ticGap_fuse, State.ticMiss_fuse, State.ticStamp_fuse, State.modTch_fuse, State.ticMark_fuse,
      State.ticRaise_fuse, State.ivEnd_fuse, State.raise_fuse, State.wrapRecord_fuse, foldl_fuse, State.calNext_fuse,
      State.modConv_fuse, State.calPass_fuse, State.convFail_fuse, State.coverKeep_fuse, State.swapHome_fuse,
      State.ticCalCount_fuse, State.swapAbandon_fuse, State.swapOver_fuse]
  -- OUT
  case synLock | synUnlock | outputStart | alignerCompare | glideEnd | alignHoldTimer | outSyncExecute |
    tpPulse | tpPulseEnd | todMessage =>
    simp [exec, execSynLock, execSynUnlock, execOutputStart, execAlignerCompare, execGlideEnd, execAlignHoldTimer,
      execOutSyncExecute, execTpPulse, execTpPulseEnd, execTodMessage, apply_ite State.fuse, State.synLocked_fuse,
      State.synUnlock_fuse, State.modOch_fuse, State.outRaise_fuse, State.outUnsynced_fuse, State.pairEval_fuse,
      State.alignClear_fuse, State.faultAssert_fuse, State.syncRunAll_fuse, State.tpFire_fuse, State.modOtp_fuse,
      State.todSend_fuse]
  case echoDone =>
    simp only [exec, execEchoDone]
    (repeat' split) <;> simp [State.echoResult_fuse]
  -- ETH
  case frameReceive | linkUp | linkDown | quadReady | captureIntervalOpen | captureIntervalTimeout |
    captureSuperRoot | captureLossRecord | captureResume =>
    simp [exec, execFrameReceive, execLinkUp, execLinkDown, execQuadReady, execCaptureIntervalOpen,
      execCaptureIntervalTimeout, execCaptureSuperRoot, execCaptureLossRecord, execCaptureResume,
      apply_ite State.fuse, State.capFrame_fuse, State.rxCount_fuse, State.rxHost_fuse, State.rxPath_fuse,
      State.capLink_fuse, State.ethRaise_fuse, State.modLane_fuse, State.linkFall_fuse, State.raise_fuse,
      State.capRoll_fuse, State.superWrite_fuse, State.capLoss_fuse, State.capResume_fuse]
  case frameRelease | txComplete | captureRootReady =>
    simp only [exec, execFrameRelease, execTxComplete, execCaptureRootReady]
    (repeat' split) <;> simp [State.toWire_fuse, State.txDone_fuse, State.rootReady_fuse]
  -- TMG
  case gateEntryChange | gclSwap | shaperUpdate | policerAccrue | commitSlotCheck =>
    simp [exec, execGateEntryChange, execGclSwap, execShaperUpdate, execPolicerAccrue, execCommitSlotCheck,
      apply_ite State.fuse, State.gateEval_fuse, State.swapsDue_fuse, State.shape_fuse, foldl_fuse,
      State.missSlot_fuse]
  case queueSample | commitDecision =>
    simp only [exec, execQueueSample, execCommitDecision]
    (repeat' split) <;> simp [apply_ite State.fuse, foldl_fuse, State.sampleQ_fuse, State.commitDecide_fuse]
  -- SVC
  case ptpUnicastCancel | ptpSyncInterval | ptpAnnounceInterval | keyRoll =>
    simp [exec, execPtpUnicastCancel, execPtpSyncInterval, execPtpAnnounceInterval, execKeyRoll, apply_ite State.fuse,
      State.cancelOne_fuse, State.otherDiscard_fuse, State.ptpIntake_fuse, foldl_fuse, State.commitMsg_fuse,
      State.modPort_fuse, State.sendAuth_fuse, State.sendSvc_fuse, State.keyRoll_fuse]
  case ptpFollowUp | grantExpiry | acceptOldExpiry | clientAgeExpiry =>
    simp only [exec, execPtpFollowUp, execGrantExpiry, execAcceptOldExpiry, execClientAgeExpiry]
    (repeat' split) <;> simp [State.followUp_fuse, State.modPort_fuse, State.setClient_fuse, State.dropOld_fuse,
      State.freeClient_fuse]
  -- LOG and KEY
  case logSignatureDone =>
    simp only [exec, execLogSignatureDone]
    (repeat' split) <;> simp [State.ckOrderly_fuse, State.drainWait_fuse, State.logGap_fuse, State.logLevel_fuse,
      State.logPut_fuse, State.logRecover_fuse, State.logSig_fuse, State.settle_fuse]
  -- PAIR
  case benitTimingFrameSend | benitTimingFrame | benitSafeNotice | benitHandoverNotice | benitRejoinNotice |
    benitLinkLoss | pairFirstClaim | claimRoundStart | claimSofDetect | claimRoundEnd | handoverInstant |
    pairCompareWindow | healthBitSet | standbyCalTest =>
    simp [exec, execBenitTimingFrameSend, execBenitTimingFrame, execBenitSafeNotice, execBenitHandoverNotice,
      execBenitRejoinNotice, execBenitLinkLoss, execPairFirstClaim, execClaimRoundStart, execClaimSofDetect,
      execClaimRoundEnd, execHandoverInstant, execPairCompareWindow, execHealthBitSet, execStandbyCalTest,
      apply_ite State.fuse, State.digestCheck_fuse, State.laneSkew_fuse, State.refDeliver_fuse, State.sideCheck_fuse,
      State.faultAssert_fuse, State.raise_fuse, State.roundNow_fuse, State.setSource_fuse, State.roundStart_fuse,
      State.lineTest_fuse, State.roundWon_fuse, State.roundLost_fuse, State.handoverFails_fuse, State.ownChange_fuse,
      State.entryWindow_fuse, State.modPcmp_fuse, State.pairEval_fuse, State.entryCalBad_fuse, foldl_fuse]
  case benitOutBadNotice | benitLinkUp | ownLeaseLapse | pairHandoverExecute =>
    simp only [exec, execBenitOutBadNotice, execBenitLinkUp, execOwnLeaseLapse, execPairHandoverExecute]
    (repeat' split) <;> simp [State.faultAssert_fuse, State.faultEnd_fuse, State.pairEval_fuse, State.benitSpare_fuse,
      State.raise_fuse, State.sideCheck_fuse, State.ownChange_fuse, State.roundNow_fuse]
  -- MON, CAL and KEEP
  case supplyWarningChange | mainsCrossing | mainsRangeTimer | pfwClear | rtcStop | calSync | calAutoTrim |
    keepAutoScrub | keepScrubDone =>
    simp [exec, execSupplyWarningChange, execMainsCrossing, execMainsRangeTimer, execPfwClear, execRtcStop,
      execCalSync, execCalAutoTrim, execKeepAutoScrub, execKeepScrubDone, apply_ite State.fuse, State.supWarnIs_fuse,
      State.vbatLowIs_fuse, State.mainsPush_fuse, State.modMon_fuse, State.rangeEval_fuse, State.faultAssert_fuse,
      State.raise_fuse, State.capResume_fuse, State.faultEnd_fuse, foldl_fuse, State.calLost_fuse,
      State.calRebase_fuse, State.calSetValid_fuse, State.keepOwn_fuse, State.scrubStart_fuse, State.keepRowFail_fuse,
      State.keepUncorr_fuse, State.spareFails_fuse]
  -- Firmware, the self-test and what is left
  case fwStageDone | gnssClkPresent | atomPresent | pcieLinkUp | ringStallTimeout | benitLaneDown |
    pdVbatPowerLoss | tapTestLogicReset | collectorSelfRecover | gnssFeEnLead =>
    simp [exec, execFwStageDone, execGnssClkPresent, execAtomPresent, execPcieLinkUp, execRingStallTimeout,
      execBenitLaneDown, execPdVbatPowerLoss, execTapTestLogicReset, execCollectorSelfRecover, execGnssFeEnLead,
      apply_ite State.fuse, State.raise_fuse, State.stageImage_fuse, State.gnsEval_fuse, State.benitSpare_fuse,
      State.calLost_fuse, State.modBlt_fuse]
  case bistDone | oscillatorAbsent | dmaTransferError | ptpSlaveMessage =>
    simp only [exec, execBistDone, execOscillatorAbsent, execDmaTransferError, execPtpSlaveMessage]
    (repeat' split) <;> simp [State.bistEffects_fuse, State.modBlt_fuse, State.raise_fuse, State.cpllLost_fuse,
      State.refPresence_fuse, State.modSlot_fuse, State.slaveAnnounce_fuse]
  all_goals simp only [packetOf, reduceCtorEq] at h

/-- Whatever a command does to the fuses are writings. -/
theorem exec_burns (i : Instr) (s : State) : Burns s.fuse (exec i s) := by
  cases h : packetOf i with
  | none => exact exec_event_burns h s
  | some x =>
    rw [exec_packet h]
    exact burns_next.2 (State.packet_writes (allSpecs_writes _ (packetOf_listed h)) ..)

/-- Settles O7: what a command does to the fuses are writings, and no writing undoes one. -/
theorem fusesNeverClear : Obligations.FusesNeverClear := by
  intro i s t ht
  have hw : Burns s.fuse (exec i s) := exec_burns i s
  rw [ht] at hw
  have h : FusesKept s.fuse t.fuse := FuseWrites.kept hw
  exact ⟨h.svnA, h.svnB, h.lcA, h.lcB, fun k => h.lcSteps, h.owner⟩

end Sys2Proof.Machine
end

section
/-! SUPPORT. Events of the reference slots and of the PTP instances (R84, R96 to R118, R281): each event under the guards
that its rule names. -/

namespace Sys2Proof.Machine

open Host

/-! ### Delivered offsets (R97, R118) -/

section Delivery

variable {u : State} {n : Nat}

/-- The GNSS solution and the partner deliver the offset they tell. -/
theorem State.deliveredOffset_told {x : Int} (h : n = 12 ∨ n = 17) : u.deliveredOffset n x = some x := by
  rcases h with rfl | rfl <;> rfl

/-- A PTP instance with estimates delivers their mean. -/
theorem State.deliveredOffset_ptp {x : Int} (h13 : 13 ≤ n) (h16 : n ≤ 16) (he : (u.slot n).estimates ≠ []) :
    u.deliveredOffset n x = some (meanOf (u.slot n).estimates) := by
  simp [State.deliveredOffset, h13, h16, he]

end Delivery

/-- A delivery by an engine, to a slot whose source exists, is taken as the slot's offset. -/
theorem exec_refOffsetDelivery_taken {dt : Nat} {m : BitVec 4} {slot : BitVec 5} {offset : BitVec 64} {eSrc : BitVec 24}
    {s : State} {x : Int} (hm : 4 ≤ m.toNat) (h14 : m ≠ 14) (h12 : 12 ≤ slot.toNat) (h17 : slot.toNat ≤ 17)
    (he : (s.advance dt).refExists slot.toNat = true)
    (hx : (s.advance dt).deliveredOffset slot.toNat offset.toInt = some x) :
    exec (.refOffsetDelivery dt m slot offset eSrc) s =
      .next (((s.advance dt).modSlot slot.toNat fun q => { q with estimates := [] }).refDeliver slot.toNat x eSrc) := by
  simp only [exec, execRefOffsetDelivery, hx]
  exact next_of_guard (by rw [decide_eq_true hm, bne_iff_ne.2 h14, decide_eq_true h12, decide_eq_true h17, he]; rfl) _ _

/-! ### Loss of signal (R106) -/

/-- A source that has been silent for its loss-of-signal time faults its slot. -/
theorem exec_refLosTimeout_lost {dt : Nat} {slot : BitVec 5} {s : State} {t : Nat}
    (hq : ((s.advance dt).slot slot.toNat).qstate ≠ .disabled) (hn : slot.toNat < 12 ∨ slot.toNat = 18 ∨ slot.toNat = 19)
    (he : ((s.advance dt).slot slot.toNat).lastEdge = some t)
    (ht : (s.advance dt).refLosAfter slot.toNat ≤ (s.advance dt).ticks - t) :
    exec (.refLosTimeout dt slot) s =
      let u := s.advance dt
      let v := u.modSlot slot.toNat fun q => { q with sigFrom := u.ticks + 1, freqPts := [], breachS := 0xFFFFFFFF }
      .next ((v.cellsStale slot.toNat).setFaults slot.toNat (((u.slot slot.toNat).faultSrc &&& 0xC0) ||| 1) false) := by
  have h20 : slot.toNat < 20 := by omega
  have hs : ¬((decide (12 ≤ slot.toNat) && decide (slot.toNat ≤ 17) ||
      decide ((s.advance dt).ticks - t < (s.advance dt).refLosAfter slot.toNat)) = true) := by
    simp only [Bool.or_eq_true, Bool.and_eq_true, decide_eq_true_eq]
    omega
  simp only [exec, execRefLosTimeout, he]
  exact (next_of_not_guard (by simp [hq, h20]) _ _).trans (next_of_not_guard hs _ _)

/-- A slot that has told nothing since it was enabled is not present. -/
theorem exec_refLosTimeout_never {dt : Nat} {slot : BitVec 5} {s : State}
    (hq : ((s.advance dt).slot slot.toNat).qstate ≠ .disabled) (hn : slot.toNat < 20)
    (he : ((s.advance dt).slot slot.toNat).lastEdge = none) :
    exec (.refLosTimeout dt slot) s = .next ((s.advance dt).refHist slot.toNat 0 none) := by
  simp only [exec, execRefLosTimeout, he]
  exact next_of_not_guard (by simp [hq, hn]) _ _

/-! ### Hold-off and wait (R107) -/

section Timers

variable {u : State} {n : Nat}

/-- A hold-off that runs out with the fault still there fails the slot; where it was selected and no slot is eligible, the
loss is acted on at once (R117). -/
theorem State.holdoffOut_due (hq : (u.slot n).qstate = .holdoff) (ho : (u.slot n).timerOn = true)
    (ht : (u.slotCfg n).holdoffMs.toNat * msTicks ≤ u.ticks - (u.slot n).timerFrom) (hf : (u.slot n).faultSrc ≠ 0) :
    u.holdoffOut n =
      let v := ((u.refTimerOff n).qMove n .failed (some (src 2 4))).majRefresh
      if v.isSel n ∧ v.bestSlot = none ∧ v.ref.switching = false then v.refSelect else v := by
  refine (if_pos ?_).trans (ite_congr ?_ (fun _ => rfl) fun _ => rfl)
  · rw [hq, ho, decide_eq_true ht, bne_iff_ne.2 hf]
    rfl
  · simp [and_assoc]

/-- A wait that runs out without a fault qualifies the slot. -/
theorem State.waitOut_due (hq : (u.slot n).qstate = .wait) (ho : (u.slot n).timerOn = true)
    (ht : (if (u.slot n).timerFirst then (u.slotCfg n).firstWaitS else (u.slotCfg n).wtrS).toNat * sTicks ≤
      u.ticks - (u.slot n).timerFrom) (hf : (u.slot n).faultSrc = 0) :
    u.waitOut n = (((u.refTimerOff n).modSlot n fun q =>
      { q with qualOnce := true }).qMove n .qualified (some (src 2 5))).majRefresh := by
  refine if_pos ?_
  rw [hq, ho, decide_eq_true ht, decide_eq_true hf]
  rfl

end Timers

/-! ### Selection (R112, R114) -/

section Selection

variable {v : State}

/-- No slot is selected where SELECTED names none. -/
theorem State.selectedSlot_eq_none : v.selectedSlot = none ↔ ¬v.ref.selected.toNat < 20 := by
  simp [State.selectedSlot]

/-- With no slot selected and none eligible, none is the best. -/
theorem State.refSelect_none (hw : v.ref.switching = false) (hr : v.ready pdTime = true) (hc : v.selectedSlot = none)
    (hb : v.bestSlot = none) : v.refSelect = { v with ref := { v.ref with best := 31 } } := by
  have hsel := State.selectedSlot_eq_none.1 hc
  simp [State.refSelect, State.selectedSlot, hw, hr, hb, hsel]

/-- With no slot selected, the best slot is switched to where the accord may take it. -/
theorem State.refSelect_first {b : Nat} (hw : v.ref.switching = false) (hr : v.ready pdTime = true)
    (hc : v.selectedSlot = none) (hb : v.bestSlot = some b) (hm : v.maySwitch = true) :
    v.refSelect = { v with ref := { v.ref with best := BitVec.ofNat 5 b } }.startSwitch 31 b := by
  have hsel := State.selectedSlot_eq_none.1 hc
  simp only [State.maySwitch] at hm
  simp [State.refSelect, State.selectedSlot, State.maySwitch, hw, hr, hb, hsel, hm]

/-- A switch waits for nothing but the PLL's lock of a cold accord. -/
theorem State.maySwitch_iff : v.maySwitch = true ↔ v.acd.state ≠ .cold ∨ v.acd.cpllLock = true := by
  simp [State.maySwitch]

end Selection

/-! ### The events -/

/-- Settles O51: each event under its guard; deliveries, losses, the timers and the selection by their own lemmas. -/
theorem referenceEventsRun : Obligations.ReferenceEventsRun := by
  refine ⟨?edge, ?tod, ?delivery, ?los, ?holdoff, ?wait, ?select, ?announceTimeout, ?ptp⟩
  case edge =>
    intro dt slot phase cycles s u n r hr hq hn
    have hg (h3 : u.refType n ≠ 3) : ¬((!u.ready pdTime || (u.slot n).qstate == .disabled ||
        !(decide (n < 12) || decide (n = 18) || decide (n = 19)) || decide (u.refType n = 3)) = true) := by
      have hn' : (decide (n < 12) || decide (n = 18) || decide (n = 19)) = true := by simpa [or_assoc] using hn
      rw [hr, beq_false_of_ne hq, hn', decide_eq_false h3]
      decide
    exact ⟨fun h0 => (next_of_not_guard (hg (by omega)) _ _).trans (next_of_guard h0 _ _),
      fun h0 h3 => (next_of_not_guard (hg h3) _ _).trans (next_of_not_guard h0 _ _)⟩
  case tod =>
    intro dt slot phase second s u n r hr hq hn ht
    exact next_of_not_guard (by rw [hr, beq_false_of_ne hq, decide_eq_false (Nat.not_le.2 hn), ht]; decide) _ _
  case delivery =>
    intro dt m slot offset eSrc s u n hm h14 h12 h17 he
    have hrun {x : Int} := exec_refOffsetDelivery_taken (offset := offset) (eSrc := eSrc) (x := x) hm h14 h12 h17 he
    exact ⟨fun h => hrun (State.deliveredOffset_told h),
      fun h h' hl => hrun (State.deliveredOffset_ptp (by omega) (by omega) hl)⟩
  case los =>
    intro dt slot s u n hq hn
    exact ⟨exec_refLosTimeout_never hq hn, fun t he hball ht => exec_refLosTimeout_lost hq hball he ht⟩
  case holdoff => exact fun dt slot s hq ho ht hf => congrArg Outcome.next (State.holdoffOut_due hq ho ht hf)
  case wait => exact fun dt slot s hq ho ht hf => congrArg Outcome.next (State.waitOut_due hq ho ht hf)
  case select =>
    intro dt s u v hr hl
    refine ⟨next_of_not_guard (by rw [hr, decide_eq_false hl]; decide) _ _, fun hw hv hc => ?_⟩
    exact ⟨State.refSelect_none hw hv hc,
      fun b hb hm => State.refSelect_first hw hv hc hb (State.maySwitch_iff.2 hm)⟩
  case announceTimeout =>
    intro dt i s u n q hp ht s1 s2
    exact next_of_not_guard (by rw [hp, decide_eq_true ht]; decide) _ _
  case ptp =>
    intro dt k auth msg s u n c port x he hl hr ha
    have hkey : ((x.aId != 0 || x.bId != 0) && !auth) = false := by
      rcases ha with ⟨ha, hb⟩ | ha
      · rw [ha, hb]
        rfl
      · rw [ha]
        exact Bool.and_false _
    have hheard : ¬((!c.enable || !u.laneActive c.lane.toNat || !u.ready pdEngine ||
        ((x.aId != 0 || x.bId != 0) && !auth)) = true) := by
      rw [he, hl, hr, hkey]
      decide
    refine ⟨?announce, fun hp => ⟨?sync, ?followUp, ?delayResp⟩⟩
    case announce =>
      rintro cl id log rfl
      exact next_of_not_guard hheard _ _
    case sync =>
      rintro t two ph rfl
      exact (next_of_not_guard hheard _ _).trans (next_of_not_guard (by rw [hp]; decide) _ _)
    case followUp =>
      rintro t rfl
      exact (next_of_not_guard hheard _ _).trans (next_of_guard hp _ _)
    case delayResp =>
      rintro a b rfl
      exact (next_of_not_guard hheard _ _).trans (next_of_guard hp _ _)

end Sys2Proof.Machine
end

section
/-! SUPPORT. Events of the GNSS block (R149 to R180): each event under the guards that its rule names. -/

namespace Sys2Proof.Machine

open Host

/-- The engine that owns the GNSS block writes while its domain is ready (R160). -/
theorem State.gnsEngineDo_owner {u : State} {m : BitVec 4} {f : State → State} (hm : u.gnsEngine m = true)
    (hd : u.ready pdGnss = true) : u.gnsEngineDo m f = f u :=
  if_pos (by rw [hm, hd]; rfl)

/-- While no record waits for ring 33, a search that is not paused and has samples to read completes a pass (R156, R157). -/
theorem exec_acqPass_runs {dt edge : Nat} {peaks : List AcqPeak} {s : State} {a : AcqRun}
    (hd : (s.advance dt).ready pdGnss = true) (hq : (s.advance dt).gns.acqQ = [])
    (ha : (s.advance dt).gns.acq = some a) (hp : a.paused = false)
    (hsrc : a.snapshot = true ∨ (s.advance dt).gnsClk = true) : exec (.acqPass dt edge peaks) s =
      let u := s.advance dt
      let b := a.dealt.foldl (AcqRun.best1 peaks (u.acqHead a edge)) a
      .next (if a.passes ≤ a.pass + 1 then u.acqLast b
        else { u with gns := { u.gns with acq := some { b with
          pass := a.pass + 1, startTick := u.ticks + (if a.snapshot then 0 else acqGap)
          paused := (u.ring 33).full } } }) := by
  have hready : ¬((!(s.advance dt).ready pdGnss || !(s.advance dt).gns.acqQ.isEmpty) = true) := by
    rw [hd, hq]
    decide
  have hreads : ¬((a.paused || !(a.snapshot || (s.advance dt).gnsClk)) = true) := by
    rw [hp]
    rcases hsrc with h | h <;> simp [h]
  simp only [exec, execAcqPass, if_neg hready, ha, if_neg hreads]

/-- The loss of the sample clock stops a live search whose records do not wait for ring 33 yet (R151, R157). -/
theorem State.searchStops_iff {v : State} {a : AcqRun} :
    (!a.snapshot && v.gns.acqQ.isEmpty) = true ↔ a.snapshot = false ∧ v.gns.acqQ = [] := by
  rw [Bool.and_eq_true, Bool.not_eq_true', List.isEmpty_iff]

/-- A latch instant later than the last one taken is taken, and counts alone while there is no clock (R151, R164). -/
theorem exec_gnsLatch_later {dt n edge i : Nat} {s : State} (hd : (s.advance dt).ready pdGnss = true)
    (hi : (s.advance dt).latchInst (taiNat ((s.advance dt).gnsStampAgo edge).time) = some i)
    (hl : ∀ l, (s.advance dt).gns.lastLatch = some l → l < i) : exec (.gnsLatch dt n edge) s =
      let u := s.advance dt
      let v := { u with gns := { u.gns with lastLatch := some i } }
      .next (if u.gnsClk then (v.samples n).latchTake (u.gnsStampAgo edge)
        else { v with gns := { v.gns with latchMiss := v.gns.latchMiss + 1, latchSeq := v.gns.latchSeq + 1 } }) := by
  have hready : ¬((!(s.advance dt).ready pdGnss) = true) := by
    rw [hd]
    decide
  simp only [exec, execGnsLatch, if_neg hready, hi]
  cases h : (s.advance dt).gns.lastLatch with
  | none => rfl
  | some l => exact next_of_not_guard (by simpa using hl l h) _ _

/-- Settles O52: each event under its guard; the engine's writes, the search's passes and the latches by their own
lemmas. -/
theorem gnssEventsRun : Obligations.GnssEventsRun := by
  refine ⟨?acqPass, ?trackStart, ?dump, ?nco, ?trkState, ?navPush, ?solution, ?solTimeout, ?clkLoss, ?clkPresent,
    ?clkMeasure, ?notchDetect, ?notchRelease, ?jamWarn, ?latch, ?snapStart, ?snapDone, ?feLead⟩
  case acqPass =>
    intro dt edge peaks s u hd hq a ha hp hsrc b
    have hrun := exec_acqPass_runs (edge := edge) (peaks := peaks) hd hq ha hp hsrc
    exact ⟨fun hlast => hrun.trans (next_of_guard hlast _ _),
      fun hmore => hrun.trans (next_of_not_guard (Nat.not_le.2 hmore) _ _)⟩
  case trackStart =>
    intro dt k n s u t hc ha hr hl i ph
    exact next_of_guard (by rw [hc, ha, hr, hl]; rfl) _ _
  case dump =>
    intro dt k m accum s u n t hc ha hr hdue v
    have hg : ¬((!(u.gnsClk && t.assigned && t.running && t.dumpDue)) = true) := by
      rw [hc, ha, hr, hdue]
      decide
    exact ⟨fun hroom => (next_of_not_guard hg _ _).trans (next_of_guard hroom _ _),
      fun hfull => (next_of_not_guard hg _ _).trans (next_of_not_guard (Nat.not_lt.2 hfull) _ _)⟩
  case nco => exact fun dt m k carrier value n s hm hd => congrArg Outcome.next (State.gnsEngineDo_owner hm hd)
  case trkState =>
    exact fun dt m k codeLock carrLock bitSync cn0 slip s hm hd =>
      congrArg Outcome.next (State.gnsEngineDo_owner hm hd)
  case navPush => exact fun dt m k word ago s hm hd => congrArg Outcome.next (State.gnsEngineDo_owner hm hd)
  case solution =>
    exact fun dt m valid nsv snap offset unc s hm hd => congrArg Outcome.next (State.gnsEngineDo_owner hm hd)
  case solTimeout =>
    intro dt s u hd hl ht
    exact next_of_guard (by rw [hd, hl, decide_eq_true ht]; rfl) _ _
  case clkLoss =>
    intro dt n s u hd hc f v w
    refine (next_of_not_guard (c := (!u.ready pdGnss || !u.gns.clkPresent) = true) (by rw [hd, hc]; decide) _ _).trans
      (congrArg (fun w : State => Outcome.next (if w.gns.snapBusy then w.snapEnd false else w).gnsEval) ?_)
    dsimp only [w]
    cases v.gns.acq with
    | none => rfl
    | some a => exact if_congr State.searchStops_iff rfl rfl
  case clkPresent => exact fun dt s hd => next_of_guard hd _ _
  case clkMeasure =>
    intro dt edges s u hz off bad hc hsec v
    exact next_of_not_guard (by rw [hc, beq_false_of_ne hsec]; decide) _ _
  case notchDetect =>
    intro dt tones s u hc r v
    exact next_of_not_guard (c := (!u.gnsClk) = true) (by rw [hc]; decide) _ _
  case notchRelease =>
    intro dt n s u hd hm ht
    exact next_of_guard (by rw [hd, hm, decide_eq_true ht]; rfl) _ _
  case jamWarn =>
    intro dt pre post s u hd on v
    refine (next_of_not_guard (c := (!u.ready pdGnss) = true) (by rw [hd]; decide) _ _).trans
      (congrArg Outcome.next (if_congr ?_ rfl rfl))
    rw [Bool.and_eq_true, Bool.not_eq_true']
  case latch =>
    intro dt n edge s u t hd i hi hl v
    have hrun := exec_gnsLatch_later (n := n) hd hi hl
    exact ⟨fun hc => hrun.trans (next_of_guard hc _ _),
      fun hc => hrun.trans (next_of_not_guard (Bool.eq_false_iff.1 hc) _ _)⟩
  case snapStart =>
    intro dt edge s u g t hd hc ha hb ht
    have hg : ¬((!(u.ready pdGnss && g.clkPresent && g.snapArmed && !g.snapBusy &&
        decide (taiNat g.snapAt ≤ taiNat t.time))) = true) := by
      rw [hd, hc, ha, hb, decide_eq_true ht]
      decide
    exact ⟨fun he => (next_of_not_guard hg _ _).trans (next_of_guard he _ _),
      fun he => (next_of_not_guard hg _ _).trans (next_of_not_guard (Nat.not_lt.2 he.le) _ _)⟩
  case snapDone =>
    intro dt samples s u g n hd hb hn
    exact next_of_not_guard (by rw [hd, hb, decide_eq_false (not_not.2 hn)]; decide) _ _
  case feLead =>
    intro dt s u g hd hp ha ht
    exact next_of_guard (by rw [hd, hp, ha, decide_eq_true ht]; rfl) _ _

end Sys2Proof.Machine
end

section
/-! SUPPORT. Events of the TIC (R181 to R203): each event under the guards that its rule names. -/

namespace Sys2Proof.Machine

open Host

/-! ### Edges (R183, R192, R196) -/

section Edges

variable {dt : Nat} {ch : BitVec 5} {falling badCode : Bool} {fine : BitVec 12} {other : Int} {s : State}

/-- A wanted edge on a channel without a working converter leaves a gap (R192, R201). -/
theorem exec_ticEdge_gap (hw : (s.advance dt).ticWants ch.toNat falling = true)
    (ht : (s.advance dt).ticTakes ch.toNat falling = false) :
    exec (.ticEdge dt ch falling fine badCode other) s = .next ((s.advance dt).ticGap ch.toNat) :=
  (next_of_not_guard (by rw [hw]; decide) _ _).trans (next_of_guard (by rw [ht]; rfl) _ _)

/-- A wanted edge that the channel takes is stamped, outside the dead time of the one before (R183, R196). -/
theorem exec_ticEdge_taken (hw : (s.advance dt).ticWants ch.toNat falling = true)
    (ht : (s.advance dt).ticTakes ch.toNat falling = true) :
    exec (.ticEdge dt ch falling fine badCode other) s =
      .next (if (s.advance dt).ticDead ch.toNat fine.toNat then (s.advance dt).ticMiss ch.toNat falling
        else (s.advance dt).ticStamp ch.toNat falling fine.toNat badCode other) :=
  (next_of_not_guard (by rw [hw]; decide) _ _).trans (next_of_not_guard (by rw [ht]; decide) _ _)

end Edges

/-! ### The coarse counter (R191) -/

/-- Some channel runs a RAW stream. -/
theorem State.anyRaw_iff {u : State} :
    ((List.range 32).any fun n => (u.tchCfg n).mode == 2) = true ↔ ∃ n < 32, (u.tchCfg n).mode = 2 := by
  simp only [List.any_eq_true, List.mem_range, beq_iff_eq]

/-- The coarse counter wraps: every RAW channel gets its WRAP record, and the interrupt tells of one if there is any. -/
theorem exec_ticCoarseWrap_wraps {dt : Nat} {s : State} (hd : (s.advance dt).ready pdTic = true)
    (hc : (s.advance dt).coarse = 0) (hz : (s.advance dt).tic.zeroTick < (s.advance dt).ticks) :
    exec (.ticCoarseWrap dt) s =
      let u := s.advance dt
      let v := (List.range 32).foldl State.wrapRecord u
      .next (if (List.range 32).any fun n => (u.tchCfg n).mode == 2 then v.raise (src 5 13) else v) :=
  next_of_guard (by rw [hd, decide_eq_true hc, decide_eq_true hz]; rfl) _ _

/-- Settles O53: each event under its guard; edges and the wrap of the coarse counter by their own lemmas. -/
theorem ticEventsRun : Obligations.TicEventsRun := by
  refine ⟨?edge, ?presence, ?interval, ?wrap, ?warmup, ?calDone, ?recal, ?handover, ?eTic⟩
  case edge =>
    intro dt ch falling fine badCode other s u n hw
    exact ⟨exec_ticEdge_gap hw, fun ht hdead => (exec_ticEdge_taken hw ht).trans (next_of_guard hdead _ _),
      fun ht hlive => (exec_ticEdge_taken hw ht).trans (next_of_not_guard (Bool.eq_false_iff.1 hlive) _ _)⟩
  case presence => exact fun dt ch s h => next_of_guard h _ _
  case interval => exact fun dt ch s h => next_of_guard h _ _
  case wrap =>
    intro dt s u hd hc hz v
    have hrun := exec_ticCoarseWrap_wraps hd hc hz
    refine ⟨fun hraw => hrun.trans (next_of_guard (State.anyRaw_iff.2 hraw) _ _), fun hnone => ?_⟩
    refine hrun.trans (next_of_not_guard (fun hany => ?_) _ _)
    obtain ⟨n, hn, hm⟩ := State.anyRaw_iff.1 hany
    exact hnone n hn hm
  case warmup =>
    intro dt c s u k v hd hk ht hw hf hwait a
    exact next_of_guard (by rw [hd, decide_eq_true hk, decide_eq_true ht, hw, hf, hwait]; rfl) _ _
  case calDone => exact fun dt c unc ss gain seg pts s h => next_of_guard h _ _
  case recal => exact fun dt c s h => next_of_guard h _ _
  case handover => exact fun dt sp s h => next_of_guard h _ _
  case eTic => exact fun dt s h => next_of_guard h _ _

end Sys2Proof.Machine
end

section
/-! SUPPORT. Events of the outputs (R204 to R231): each event under the guards that its rule names. -/

namespace Sys2Proof.Machine

open Host

/-- An aligner compares at a whole second, on a running ALIGNED output that is not bypassed (R211). -/
theorem exec_alignerCompare_compares {dt : Nat} {n : BitVec 4} {errPs : Int} {s : State}
    (hd : (s.advance dt).ready pdTime = true) (hr : ((s.advance dt).och n.toNat).running = true)
    (hs : ((s.advance dt).ochCfg n.toNat).sync = false) (hb : ((s.advance dt).och n.toNat).bypassAct = false)
    (hg : (s.advance dt).gridTick 0 1 = true) : exec (.alignerCompare dt n errPs) s =
      let u := s.advance dt
      let o := u.och n.toNat
      let ok := decide (errPs.natAbs ≤ 20) && !o.gliding
      let v := u.modOch n.toNat fun o => { o with
        aligned := ok, trimPs := o.trimPs - errPs, misTick := if o.aligned && !ok then u.ticks else o.misTick }
      .next (if ok && !o.aligned then v.outRaise 4 n.toNat else v).alignClear.pairEval :=
  next_of_not_guard (by rw [hd, hr, hs, hb, hg]; decide) _ _

/-- Settles O54: each event under its guard, the aligner's comparison by its own lemma. -/
theorem outputEventsRun : Obligations.OutputEventsRun := by
  refine ⟨?lock, ?unlock, ?start, ?compare, ?glide, ?hold, ?sync, ?pulse, ?pulseEnd, ?message, ?echo⟩
  case lock =>
    intro dt k s u n hd hon hl
    exact next_of_guard (by rw [hd, hon, hl]; rfl) _ _
  case unlock =>
    intro dt k s u hd hl
    exact next_of_guard (by rw [hd, hl]; rfl) _ _
  case start =>
    intro dt n s u i hc
    have hg : ¬((!u.canStart i) = true) := by
      rw [hc]
      decide
    refine ⟨fun hq => ?_, fun hq ha => ?_⟩
    · exact (next_of_not_guard hg _ _).trans (next_of_not_guard (Bool.eq_false_iff.1 hq) _ _)
    · exact (next_of_not_guard hg _ _).trans
        ((next_of_guard hq _ _).trans (next_of_not_guard (Bool.eq_false_iff.1 ha) _ _))
  case compare =>
    intro dt n errPs s u i o hd hr hs hb hg ok v
    refine (exec_alignerCompare_compares hd hr hs hb hg).trans
      (congrArg (fun w : State => Outcome.next w.alignClear.pairEval) (if_congr ?_ rfl rfl))
    rw [Bool.and_eq_true, Bool.not_eq_true']
  case glide =>
    intro dt n s u i hg hp
    exact next_of_guard (by rw [hg, decide_eq_true hp]; rfl) _ _
  case hold => exact fun dt n s h => next_of_guard h _ _
  case sync => exact fun dt s hd => next_of_guard hd _ _
  case pulse =>
    intro dt m s u i t d inst hr hf hlow
    have hdue : (!t.lowUntilS || decide (inst % sec16 = 0)) = true := by simpa using hlow
    exact next_of_guard (by rw [hr, hf]; exact hdue) _ _
  case pulseEnd =>
    intro dt m s u t w hh hw
    exact next_of_guard (by rw [hh, decide_eq_true hw]; rfl) _ _
  case message =>
    intro dt k s u i t sec hr hl
    refine next_of_guard ?_ _ _
    rw [hr]
    cases h : t.lastSec with
    | none => rfl
    | some l => exact decide_eq_true (hl l h)
  case echo =>
    intro dt good meanFs sigma s u r hr
    simp only [exec, execEchoDone]
    rw [hr]

end Sys2Proof.Machine
end

section
/-! SUPPORT. Events of the Ethernet ports and of capture (R233 to R257): each event under the guards that its rule names. -/

namespace Sys2Proof.Machine

open Host

/-! ### Descriptors (R244, R260) -/

section Descriptors

variable {dt : Nat} {lane : BitVec 4} {desc : List W32} {frame : List (BitVec 8)} {s : State}

/-- The state of lane `l` once the fetch index of its descriptor ring has moved on. -/
def State.txFetched (u : State) (l : Nat) : State :=
  { u with cmd := { u.cmd with rings := Tab.mod u.cmd.rings (36 + l) fun q => { q with fetch := q.fetch + 1 } } }

/-- A usable lane with a descriptor in its enabled ring fetches it, unless the queue of its frame is at its limit. -/
theorem exec_txDescriptorFetch_fetches (hl : (s.advance dt).laneUsable lane.toNat = true)
    (hp : (s.advance dt).ready pdPcie = true) (he : ((s.advance dt).ring (36 + lane.toNat)).enable = true)
    (hf : ((s.advance dt).ring (36 + lane.toNat)).fetch ≠ ((s.advance dt).ring (36 + lane.toNat)).prod)
    (hq : ¬(((txDesc desc).refused ((s.advance dt).laneCfg lane.toNat) frame = 0 &&
      ((s.advance dt).laneCfg lane.toNat).enable &&
      (s.advance dt).qFull (8 * lane.toNat + (txDesc desc).cls)) = true)) :
    exec (.txDescriptorFetch dt lane desc frame) s =
      let u := s.advance dt
      let l := lane.toNat
      let d := txDesc desc
      let x := d.refused (u.laneCfg l) frame
      let slot := (u.ring (36 + l)).fetch.toNat
      if x != 0 then
        .next ((((u.txFetched l).completeTx l x slot d.cookie none).ethCount l 12).ethRaise 4 l)
      else if !(u.laneCfg l).enable then .next ((u.txFetched l).completeTx l 6 slot d.cookie none)
      else .next ((u.txFetched l).hostFrame l slot d frame) :=
  (if_neg (by rw [hl, hp, he, bne_iff_ne.2 hf]; decide)).trans (if_neg hq)

end Descriptors

/-! ### Frames (R246, R247, R261, R264, R268) -/

section Frames

variable {dt : Nat} {lane : BitVec 4} {phase : Nat} {s : State}

/-- An active lane whose link is up takes a frame that is not empty. -/
theorem exec_frameReceive_takes {f : RxFrame} (ha : (s.advance dt).laneActive lane.toNat = true)
    (hu : ((s.advance dt).lane lane.toNat).linkUp = true) (hf : 1 ≤ rxLength f) :
    exec (.frameReceive dt lane phase f) s =
      let u := s.advance dt
      let l := lane.toNat
      let t := u.rxStamp l phase
      let o := (u.laneCfg l).outcome f
      let a := (u.rxPath l f).rxCount l o (rxLength f)
      if (u.laneCfg l).laneMode = 1 then .next (if a.capOn l then a.capFrame l t o f else a)
      else .next (if o = .ok then a.rxHost l t f else a) :=
  if_neg (by rw [ha, hu, decide_eq_true hf]; decide)

/-- Of the numbers below `n`, taken from the top, the first that `g` answers for is the one above which it answers for
none. -/
theorem findSome?_reverse_range {β : Type} {g : Nat → Option β} {c n : Nat} {b : β} (hc : c < n) (hb : g c = some b)
    (hn : ∀ k, c < k → k < n → g k = none) : (List.range n).reverse.findSome? g = some b := by
  induction n with
  | zero => exact absurd hc (Nat.not_lt_zero c)
  | succ n ih =>
    rw [List.range_succ, List.reverse_concat, List.findSome?_cons]
    rcases Nat.lt_succ_iff_lt_or_eq.1 hc with hlt | rfl
    · rw [hn n hlt n.lt_succ_self]
      exact ih hlt fun k hck hkn => hn k hck (Nat.lt_succ_of_lt hkn)
    · rw [hb]

/-- The highest class whose head frame is eligible is the one that is released (R261). -/
theorem State.release_highest {u : State} {l c t0 : Nat} {f : TxFrame} (hc : c < 7)
    (hn : ∀ k, c < k → k < 7 → u.headMay l k t0 = none) (hf : u.headMay l c t0 = some f) :
    ([6, 5, 4, 3, 2, 1, 0].findSome? fun c => (u.headMay l c t0).map fun f => (c, f)) = some (c, f) :=
  findSome?_reverse_range (n := 7) hc (by rw [hf]; rfl) fun k hck hk => by rw [hn k hck hk]; rfl

/-- A lane is free to start a frame at `t0` (R264). -/
def State.mayRelease (u : State) (l t0 : Nat) : Bool :=
  u.laneActive l && (u.lane l).linkUp && u.frameEdge l t0 && (u.laneCfg l).laneMode != 1

/-- A committed frame whose slot is due goes first (R268). -/
theorem exec_frameRelease_committed
    (hm : (s.advance dt).mayRelease lane.toNat ((s.advance dt).now16 + phase) = true) {f : TxFrame} {b : Booking}
    (hd : (s.advance dt).commitDue lane.toNat = some (f, b)) :
    exec (.frameRelease dt lane phase) s =
      .next ((s.advance dt).toWire lane.toNat 7 f (b.slot - (s.advance dt).pre16 lane.toNat) b.slot) := by
  refine (if_neg (by rw [← State.mayRelease, hm]; decide)).trans ?_
  rw [hd]

/-- With no committed frame due, the highest class with an eligible head frame is released (R261). -/
theorem exec_frameRelease_head {c : Nat} {f : TxFrame}
    (hm : (s.advance dt).mayRelease lane.toNat ((s.advance dt).now16 + phase) = true)
    (hd : (s.advance dt).commitDue lane.toNat = none) (hc : c < 7)
    (hn : ∀ k, c < k → k < 7 → (s.advance dt).headMay lane.toNat k ((s.advance dt).now16 + phase) = none)
    (hf : (s.advance dt).headMay lane.toNat c ((s.advance dt).now16 + phase) = some f) :
    exec (.frameRelease dt lane phase) s =
      .next ((s.advance dt).toWire lane.toNat c f ((s.advance dt).now16 + phase)
        ((s.advance dt).now16 + phase + (s.advance dt).pre16 lane.toNat)) := by
  refine (if_neg (by rw [← State.mayRelease, hm]; decide)).trans ?_
  rw [hd, State.release_highest hc hn hf]

end Frames

/-! ### Capture resumes (R254) -/

/-- Capture that missed frames while suspended tells of them in a record that bears the first one's time. -/
theorem State.capResume_missed {u : State} {l : Nat} (hm : u.capMayResume l = true) (hs : (u.lane l).suspCount ≠ 0) :
    u.capResume l =
      let x := u.lane l
      let a := ((u.modLane l fun y => { y with capSusp := false, suspCount := 0 }).capRoll l).capLoss l
      (a.capRecord l (taiWords x.suspAt ++
        [ebWord x.suspEb x.suspFlags, BitVec.ofNat 32 x.suspCount, x.suspCause.setWidth 32, capW6 l 1])).ethRaise 8 l := by
  rw [State.capResume, if_pos hm]
  simp only [if_neg hs, List.append_assoc, List.cons_append, List.nil_append]

/-- Settles O55: each event under its guard; descriptors, frames and the end of a suspension by their own lemmas. -/
theorem portEventsRun : Obligations.PortEventsRun := by
  refine ⟨?fetch, ?receive, ?release, ?sent, ?linkUp, ?linkDown, ?quad, ?interval, ?timeout, ?root, ?super, ?loss, ?resume⟩
  case fetch =>
    intro dt lane desc frame s u l r d c hl hp he hf a
    refine ⟨fun hx => ?_, fun hx hen hq => ?_⟩
    · refine (exec_txDescriptorFetch_fetches hl hp he hf ?_).trans (if_pos (bne_iff_ne.2 hx))
      rw [decide_eq_false hx, Bool.false_and, Bool.false_and]
      exact Bool.false_ne_true
    · have hrun : ¬((!c.enable) = true) := by
        rw [hen]
        decide
      refine (exec_txDescriptorFetch_fetches hl hp he hf ?_).trans ((if_neg (bne_iff_ne.not_left.2 hx)).trans (if_neg hrun))
      rw [hq, Bool.and_false]
      exact Bool.false_ne_true
  case receive =>
    intro dt lane phase f s u l ha hu hf t o a
    exact ⟨fun hm => (exec_frameReceive_takes ha hu hf).trans (if_pos hm),
      fun hm => (exec_frameReceive_takes ha hu hf).trans (if_neg hm)⟩
  case release =>
    intro dt lane phase s u l t0 ha hu he hm
    have hmay : u.mayRelease l t0 = true := by
      rw [State.mayRelease, ha, hu, he, bne_iff_ne.2 hm]
      rfl
    exact ⟨fun f b hd => exec_frameRelease_committed hmay hd,
      fun hd c f hc hn hf => exec_frameRelease_head hmay hd hc hn hf⟩
  case sent =>
    intro dt lane s u l f hw hc hl he
    rw [exec, execTxComplete, hw]
    refine next_of_not_guard ?_ _ _
    rw [hc, hl, decide_eq_false (Nat.not_lt.2 he)]
    decide
  case linkUp =>
    intro dt lane ps s u l ha hd
    exact if_pos (by rw [ha, hd]; rfl)
  case linkDown => exact fun dt lane s h => next_of_guard h _ _
  case quad =>
    intro dt q s u n hr hp a
    exact if_pos (by rw [hr, hp]; rfl)
  case interval =>
    intro dt lane s u l hr hd
    exact next_of_guard (by rw [hr, hd]; rfl) _ _
  case timeout =>
    intro dt lane s u l hr hd ht
    exact next_of_guard (by rw [hr, hd, ht]; rfl) _ _
  case root =>
    intro dt lane s u l c t hc hl
    rw [exec, execCaptureRootReady, hc]
    exact next_of_guard hl _ _
  case super =>
    intro dt lane s u l hd hl
    exact next_of_guard (by rw [hd, hl]; rfl) _ _
  case loss =>
    intro dt lane s u l hr hc hf
    exact next_of_guard (by rw [hr, decide_eq_true hc, decide_eq_true hf]; rfl) _ _
  case resume => exact fun dt lane s hm hs => congrArg Outcome.next (State.capResume_missed hm hs)

end Sys2Proof.Machine
end

section
/-! SUPPORT. Events of gates, shapers, policers, sampling and booked slots (R259 to R280, R301 to R305): each event under
the guards that its rule names. -/

namespace Sys2Proof.Machine

open Host

/-- The updates of shapers and policers fall on every 80th tick (R270, R273; log entry 80). -/
theorem State.updateTick_iff {u : State} : u.updateTick = true ↔ u.ticks % 80 = 0 := decide_eq_true_iff

/-- A committed frame on a live lane is decided on when it crosses the ball (R304). -/
theorem exec_commitDecision_decides {dt at_ : Nat} {lane : BitVec 4} {ps : Int} {s : State} {f : TxFrame}
    (hf : ((s.advance dt).tlane lane.toNat).wireFrame = some f) (hc : f.commit = some at_)
    (hl : (s.advance dt).laneLive lane.toNat = true) :
    exec (.commitDecision dt lane ps) s = .next ((s.advance dt).commitDecide lane.toNat f at_ ps) := by
  simp only [exec, execCommitDecision, hf, hc]
  exact next_of_guard hl _ _

/-- Settles O56: each event under its guard; the 64 ns updates and the decision on a committed frame by their own
lemmas. -/
theorem schedulingEventsRun : Obligations.SchedulingEventsRun := by
  refine ⟨?gate, ?swap, ?shaper, ?policer, ?sample, ?slots, ?decision⟩
  case gate => exact fun dt lane s hl => next_of_guard hl _ _
  case swap =>
    intro dt lane s u t hp ht hl
    exact next_of_guard (by rw [hp, decide_eq_true ht, hl]; rfl) _ _
  case shaper =>
    intro dt s u ht
    exact next_of_not_guard (by rw [State.updateTick_iff.2 ht]; decide) _ _
  case policer =>
    intro dt s u hd ht go
    exact next_of_guard (by rw [hd, State.updateTick_iff.2 ht]; rfl) _ _
  case sample =>
    intro dt s u he hd hm a
    exact if_pos (by rw [he, hd, hm]; rfl)
  case slots => exact fun dt lane s hl => next_of_guard hl _ _
  case decision => exact fun dt lane ps s f at_ hf hc hl => exec_commitDecision_decides hf hc hl

end Sys2Proof.Machine
end

section
/-! SUPPORT. Events of the time service (R281 to R312): each event under the guards that its rule names. -/

namespace Sys2Proof.Machine

open Host

/-! ### PTP requests (R284, R287, R309, R310) -/

section PtpRequests

variable {dt phase : Nat} {lane : BitVec 4} {r : SvcReq} {s b : State} {c : Client}

/-- A Delay_Req of a noted client is answered, on a G.8275.2 port to a client that holds the grant; a client without a grant
takes a token for it. -/
theorem exec_ptpDelayReq_noted (hh : (s.advance dt).svcHears lane.toNat = true)
    (hi : ((s.advance dt).ptpIntake lane.toNat r).2 = true) (hty : r.ptpType = 1)
    (hg : ((s.advance dt).portCfg lane.toNat).profile ≠ 2 ∨
      ((s.advance dt).ptpIntake lane.toNat r).1.holdsGrant lane.toNat r.addr 2 = true)
    (hn : ((s.advance dt).ptpIntake lane.toNat r).1.noteClient lane.toNat ((s.advance dt).ptpKind lane.toNat) r
      r.spp.toNat = (some c, b)) : exec (.ptpDelayReq dt lane phase r) s =
      let u := s.advance dt
      let k := if c.grant then (true, b) else b.takeToken c
      if !k.1 then .next k.2 else .next (k.2.sendAuth (u.portCfg lane.toNat).auth r.spp.toNat
        (k.2.delayResp lane.toNat (u.rxStamp lane.toNat phase) r)) := by
  have hserves : ¬((r.ptpType != 1 || (decide (((s.advance dt).portCfg lane.toNat).profile = 2) &&
      !((s.advance dt).ptpIntake lane.toNat r).1.holdsGrant lane.toNat r.addr 2)) = true) := by
    rw [hty]
    rcases hg with h | h
    · rw [decide_eq_false h]
      exact Bool.false_ne_true
    · simp [h]
  simp only [exec, execPtpDelayReq, hh, hi, Bool.not_true, Bool.false_eq_true, if_false, if_neg hserves, hn]

/-- The requests of a noted client's Signaling message are taken in turn; a client without a grant takes one token for
them all. -/
theorem exec_ptpUnicastRequest_noted (hh : (s.advance dt).svcHears lane.toNat = true)
    (hi : ((s.advance dt).ptpIntake lane.toNat r).2 = true) (hp : ((s.advance dt).portCfg lane.toNat).profile = 2)
    (hty : r.ptpType = 12) (hr : r.requests ≠ [])
    (hn : ((s.advance dt).ptpIntake lane.toNat r).1.noteClient lane.toNat ((s.advance dt).ptpKind lane.toNat) r
      r.spp.toNat = (some c, b)) : exec (.ptpUnicastRequest dt lane r) s =
      let k := if c.grant then (true, b) else b.takeToken c
      .next (if k.1 then r.requests.foldl (fun x g => x.grantOne lane.toNat r c g) k.2 else k.2) := by
  simp [exec, execPtpUnicastRequest, hh, hi, hp, hty, hr, hn]

/-- The cancels of a Signaling message are taken in turn. -/
theorem exec_ptpUnicastCancel_cancels (hh : (s.advance dt).svcHears lane.toNat = true)
    (hi : ((s.advance dt).ptpIntake lane.toNat r).2 = true) (hp : ((s.advance dt).portCfg lane.toNat).profile = 2)
    (hty : r.ptpType = 12) (hr : r.cancels ≠ []) : exec (.ptpUnicastCancel dt lane r) s =
      .next (r.cancels.foldl (fun x ty => x.cancelOne lane.toNat r ty) ((s.advance dt).ptpIntake lane.toNat r).1) := by
  simp [exec, execPtpUnicastCancel, hh, hi, hp, hty, hr]

end PtpRequests

section Grants

variable {x : State} {l : Nat} {r : SvcReq} {c : Client} {g : UniReq}

/-- A grant out of R283's range, or beyond the lane's rate, is refused. -/
theorem State.grantOne_denied (ht : g.ty ≤ 2)
    (hno : grantPeriodOk g.ty g.period = false ∨ x.grantRateOk l c g = false) :
    x.grantOne l r c g = x.grantDeny l r g := by
  have hdeny : (!grantPeriodOk g.ty g.period || !x.grantRateOk l c g) = true := by
    rcases hno with h | h <;> simp [h]
  rw [State.grantOne, if_neg (Nat.not_lt.2 ht), if_pos hdeny]

/-- A grant within R283's range and the lane's rate is entered and acknowledged. -/
theorem State.grantOne_granted (ht : g.ty ≤ 2) (hp : grantPeriodOk g.ty g.period = true)
    (hr : x.grantRateOk l c g = true) : x.grantOne l r c g =
      let dur := max 60 (min 1000 g.dur)
      let c1 := (x.svc.clients.find? fun y => y.idx == c.idx).getD c
      (x.setClient (c1.grantFor g.ty (x.ticks + dur * sTicks) g.period)).sendAuth
        (x.portCfg l).auth r.spp.toNat (grantMsg l r g dur) := by
  have hgrant : ¬((!grantPeriodOk g.ty g.period || !x.grantRateOk l c g) = true) := by
    rw [hp, hr]
    decide
  rw [State.grantOne, if_neg (Nat.not_lt.2 ht), if_neg hgrant]

/-- A cancel ends the grant of the client that sent it, and is acknowledged. -/
theorem State.cancelOne_known {ty : Nat} (ht : ty ≤ 2) (hc : x.findClient l (x.ptpKind l) r.addr = some c) :
    x.cancelOne l r ty = (x.setClient (c.ungrant ty)).sendAuth (x.portCfg l).auth r.spp.toNat
      { grantMsg l r ⟨ty, 0, 0⟩ 0 with kind := .cancelAck } := by
  rw [State.cancelOne, if_neg (Nat.not_lt.2 ht), hc]

end Grants

/-! ### NTP and NTS requests (R296, R297, R300, R309, R310) -/

section NtpRequests

variable {dt phase : Nat} {lane : BitVec 4} {r : SvcReq} {s b : State}

/-- A whole client request from a client without an entry is answered (R309). -/
theorem exec_ntpRequest_unentered (hh : (s.advance dt).svcHears lane.toNat = true)
    (hl : has (s.advance dt).cfg.svc.ntpLanes lane.toNat = true)
    (hi : ((s.advance dt).intake lane.toNat r).2 = true) (hok : ntpOk r = true) (hw : r.ntpWhole = true)
    (hn : ((s.advance dt).intake lane.toNat r).1.noteClient lane.toNat 1 r 0 = (none, b)) :
    exec (.ntpRequest dt lane phase r) s =
      .next (b.sendSvc (b.ntpMsg lane.toNat ((s.advance dt).rxStamp lane.toNat phase) r .ntp) 2) := by
  simp only [exec, execNtpRequest, hh, hl, hi, hok, hw, hn, Bool.and_self, Bool.or_self, Bool.not_true,
    Bool.false_eq_true, if_false]

/-- A whole client request of a noted client is answered for a token, and refused by a kiss without one (R300, R310). -/
theorem exec_ntpRequest_noted {c : Client} (hh : (s.advance dt).svcHears lane.toNat = true)
    (hl : has (s.advance dt).cfg.svc.ntpLanes lane.toNat = true)
    (hi : ((s.advance dt).intake lane.toNat r).2 = true) (hok : ntpOk r = true) (hw : r.ntpWhole = true)
    (hn : ((s.advance dt).intake lane.toNat r).1.noteClient lane.toNat 1 r 0 = (some c, b)) :
    exec (.ntpRequest dt lane phase r) s =
      let v := (b.takeToken c).2
      .next (if (b.takeToken c).1 then
          v.sendSvc (v.ntpMsg lane.toNat ((s.advance dt).rxStamp lane.toNat phase) r .ntp) 2
        else v.kodRate lane.toNat r) := by
  simp only [exec, execNtpRequest, hh, hl, hi, hok, hw, hn, Bool.and_self, Bool.or_self, Bool.not_true,
    Bool.false_eq_true, if_false]

/-- The cookie of an NTS request is checked once its client is noted and has taken a token. -/
theorem exec_ntsRequest_checked {q : NtsReq} {c : Client}
    (hh : (s.advance dt).svcHears lane.toNat = true) (hl : has (s.advance dt).cfg.svc.ntsLanes lane.toNat = true)
    (hi : ((s.advance dt).intake lane.toNat r).2 = true) (hok : ntpOk r = true) (hq : r.nts = some q)
    (hd : (s.advance dt).ready pdCrypto = true)
    (hn : ((s.advance dt).intake lane.toNat r).1.noteClient lane.toNat 2 r
      ((((s.advance dt).intake lane.toNat r).1.cookieOf (cookieKeyId q.cookie)).getD 0xFF) = (some c, b))
    (ht : (b.takeToken c).1 = true) : exec (.ntsRequest dt lane phase r) s =
      .next ((b.takeToken c).2.ntsCheck lane.toNat ((s.advance dt).rxStamp lane.toNat phase) r q) := by
  simp only [exec, execNtsRequest, hh, hl, hi, hok, hq, hd, hn, ht, Bool.and_self, Bool.not_true, Bool.false_eq_true,
    if_false, if_true]

end NtpRequests

/-- A request whose cookie does not open gets a NAK (R300). -/
theorem State.ntsCheck_unopened {v : State} {q : NtsReq} (h : v.ntsKeys q = none) (l : Nat) (t : Stamp) (r : SvcReq) :
    v.ntsCheck l t r q = v.ntsNak l r := by
  rw [State.ntsCheck, h]

/-- A request whose cookie opens counts a use of its entry, and is answered where its authenticator verifies (R297). -/
theorem State.ntsCheck_opened {v : State} {q : NtsReq} {i : Nat} {c2s s2c : Dig}
    (h : v.ntsKeys q = some (i, c2s, s2c)) (l : Nat) (t : Stamp) (r : SvcReq) : v.ntsCheck l t r q =
      let w := { v with svc := { v.svc with cookies := Tab.mod v.svc.cookies i fun x => { x with uses := x.uses + 1 } } }
      if q.verifies c2s then w.ntsAnswer l t r q i c2s s2c else w.ntsNak l r := by
  rw [State.ntsCheck, h]

/-! ### Unsolicited messages (R284 to R286, R288) -/

/-- What a port may send does not rest on the ports' own state. -/
@[simp] theorem State.modPort_mayServe (u : State) (k j : Nat) (f : Port → Port) (dst : BitVec 128) (ty : Nat) :
    (u.modPort k f).mayServe j dst ty = u.mayServe j dst ty := rfl

/-- The gate does not rest on the ports' own state. -/
@[simp] theorem State.modPort_gateOpen (u : State) (k : Nat) (f : Port → Port) :
    (u.modPort k f).svc.gateOpen = u.svc.gateOpen := rfl

/-- A Follow_Up goes to a destination that the port may send to, while the gate is open. -/
theorem State.followUp_sends {v : State} {k : Nat} {x : SyncSent} (hs : v.mayServe k x.dst 1 = true)
    (hg : v.svc.gateOpen = true) : v.followUp k x =
      v.sendAuth (v.portCfg k).auth (v.portCfg k).spp.toNat { v.portMsg k .followUp x.dst x.seq x.eb.toNat with
        time := wholeNs x.time, cf := (taiFrac x.time).setWidth 64 } :=
  if_pos (by rw [hs, hg]; rfl)

section Unsolicited

variable {dt : Nat} {lane : BitVec 4} {s : State}

/-- A Sync that may be sent counts, and leaves two-step, committed or one-step as its port is set (R284, R301). -/
theorem exec_ptpSyncInterval_builds {dst : BitVec 128} (hs : (s.advance dt).mayServe lane.toNat dst 1 = true)
    (hg : (s.advance dt).svc.gateOpen = true) : exec (.ptpSyncInterval dt lane dst) s =
      let u := s.advance dt
      let k := lane.toNat
      let c := u.portCfg k
      let a := u.modPort k fun x => { x with syncSeq := x.syncSeq + 1 }
      if c.twoStep then .next (a.sendAuth c.auth c.spp.toNat (u.syncMsg k dst))
      else if c.auth then .next (a.commitMsg (u.syncMsg k dst) 0)
      else .next (a.sendSvc (u.syncMsg k dst) 1) :=
  if_neg (by rw [hs, hg]; decide)

/-- The oldest Sync whose stamp is known leaves the list for its Follow_Up. -/
theorem exec_ptpFollowUp_first {x : SyncSent} {rest : List SyncSent}
    (hq : ((s.advance dt).port lane.toNat).sent = x :: rest) : exec (.ptpFollowUp dt lane) s =
      .next (((s.advance dt).modPort lane.toNat fun p => { p with sent := rest }).followUp lane.toNat x) := by
  simp only [exec, execPtpFollowUp, hq]

end Unsolicited

/-! ### Expiries (R287, R294, R309) -/

section Expiries

variable {dt : Nat} {idx : BitVec 20} {s : State} {c : Client}

/-- A grant of a client lapses once its end is due. -/
theorem exec_grantExpiry_due {gType : BitVec 4}
    (hc : ((s.advance dt).svc.clients.find? fun c => c.idx == idx) = some c)
    (hdue : ∃ g ∈ c.grantEnd, g.1 = gType.toNat ∧ g.2 ≤ (s.advance dt).ticks) :
    exec (.grantExpiry dt idx gType) s = .next ((s.advance dt).setClient (c.ungrant gType.toNat)) := by
  have hany : (c.grantEnd.any fun g => g.1 == gType.toNat && decide (g.2 ≤ (s.advance dt).ticks)) = true := by
    simpa only [List.any_eq_true, Bool.and_eq_true, beq_iff_eq, decide_eq_true_eq] using hdue
  simp only [exec, execGrantExpiry, hc, if_pos hany]

/-- The old position of an SPP is emptied once its acceptance period is over. -/
theorem exec_acceptOldExpiry_due {spp : BitVec 4} {t : Nat}
    (ho : ((s.advance dt).spp spp.toNat).oldUntil = some t) (ht : t ≤ (s.advance dt).ticks) :
    exec (.acceptOldExpiry dt spp) s = .next ((s.advance dt).dropOld spp.toNat) := by
  simp only [exec, execAcceptOldExpiry, ho, if_pos ht]

/-- An entry without a grant is old once it has been silent for CLIENT_AGE_S. -/
theorem State.clientOld_of_silent {u : State} (hg : c.grant = false)
    (ht : c.seenTick + u.cfg.svc.clientAgeS.toNat * sTicks ≤ u.ticks) : u.clientOld c = true := by
  rw [State.clientOld, hg, decide_eq_true ht]
  rfl

/-- An old entry is freed. -/
theorem exec_clientAgeExpiry_old (hc : ((s.advance dt).svc.clients.find? fun c => c.idx == idx) = some c)
    (ho : (s.advance dt).clientOld c = true) :
    exec (.clientAgeExpiry dt idx) s = .next ((s.advance dt).freeClient idx) := by
  simp only [exec, execClientAgeExpiry, hc, if_pos ho]

end Expiries

/-- Settles O57: each event under its guard; requests by what they meet, grants, cancels and cookies by their own
lemmas. -/
theorem serviceEventsRun : Obligations.ServiceEventsRun := by
  refine ⟨?delay, ?request, ?cancel, ?ntp, ?nts, ?sync, ?followUp, ?announce, ?grant, ?roll, ?acceptOld, ?age⟩
  case delay =>
    intro dt lane phase r s u l hh hi hty a hg c b hn ht v
    refine (exec_ptpDelayReq_noted hh hi hty hg hn).trans ?_
    dsimp only [v]
    cases hcg : c.grant with
    | true => rfl
    | false =>
      have htok : (b.takeToken c).1 = true := ht.resolve_left (Bool.eq_false_iff.1 hcg)
      exact if_neg (by rw [if_neg Bool.false_ne_true, htok]; decide)
  case request =>
    intro dt lane r s u l hh hi hp hty hr c b hn
    have hrun := exec_ptpUnicastRequest_noted hh hi hp hty hr hn
    refine ⟨fun hcg => ?_, fun hcg ht => ?_, fun x g ht hno => State.grantOne_denied ht hno,
      fun x g ht hok hrate => State.grantOne_granted ht hok hrate⟩
    · rw [hrun, if_pos hcg]
      rfl
    · rw [hrun, if_neg (Bool.eq_false_iff.1 hcg)]
      exact next_of_guard ht _ _
  case cancel =>
    exact fun dt lane r s hh hi hp hty hr =>
      ⟨exec_ptpUnicastCancel_cancels hh hi hp hty hr, fun x ty ht c hc => State.cancelOne_known ht hc⟩
  case ntp =>
    intro dt lane phase r s u l hh hl hi hok hw q
    rcases hq : q with ⟨_ | c, b⟩
    · exact ⟨fun c hc => (Option.some_ne_none c hc.symm).elim, fun _ => exec_ntpRequest_unentered hh hl hi hok hw hq⟩
    · have hrun := exec_ntpRequest_noted (phase := phase) hh hl hi hok hw hq
      refine ⟨fun c' hc hno => ?_, fun hyes => hrun.trans (next_of_guard (hyes c rfl) _ _)⟩
      obtain rfl : c = c' := Option.some.inj hc
      exact hrun.trans (next_of_not_guard (Bool.eq_false_iff.1 hno) _ _)
  case nts =>
    intro dt lane phase r s u l hh hl hi hok q hq hd a c b hn ht v
    have hrun := exec_ntsRequest_checked (phase := phase) hh hl hi hok hq hd hn ht
    exact ⟨fun hk => hrun.trans (congrArg Outcome.next (State.ntsCheck_unopened hk ..)),
      fun i c2s s2c hk => hrun.trans (congrArg Outcome.next (State.ntsCheck_opened hk ..))⟩
  case sync =>
    intro dt lane dst s u k c hs hg a
    have hrun := exec_ptpSyncInterval_builds hs hg
    refine ⟨fun h2 => hrun.trans (if_pos h2), fun h1 ha => ?_, fun h1 ha => ?_⟩
    · exact hrun.trans ((if_neg (Bool.eq_false_iff.1 h1)).trans (if_pos ha))
    · exact hrun.trans ((if_neg (Bool.eq_false_iff.1 h1)).trans (if_neg (Bool.eq_false_iff.1 ha)))
  case followUp =>
    intro dt lane s u k c x rest hq hs hg v
    exact (exec_ptpFollowUp_first hq).trans (congrArg Outcome.next
      (State.followUp_sends ((State.modPort_mayServe ..).trans hs) ((State.modPort_gateOpen ..).trans hg)))
  case announce =>
    intro dt lane dst s u k c hs hf hsafe m a
    exact if_neg (by rw [hs, hf, beq_false_of_ne hsafe]; decide)
  case grant => exact fun dt idx gType s c hc hdue => exec_grantExpiry_due hc hdue
  case roll =>
    intro dt spp s u x hp ht hd
    exact next_of_guard (by rw [hp, decide_eq_true ht, hd]; rfl) _ _
  case acceptOld => exact fun dt spp s t ho ht => exec_acceptOldExpiry_due ho ht
  case age => exact fun dt idx s c hc hg ht => exec_clientAgeExpiry_old hc (State.clientOld_of_silent hg ht)

end Sys2Proof.Machine
end

section
/-! SUPPORT. The chain of the sillage log (R314, R317): an entry's size, and what writing one makes of the log. -/

namespace Sys2Proof.Machine

open Host

/-- A word is four bytes (R314). -/
@[simp] theorem length_wordsBytes (ws : List W32) : (wordsBytes ws).length = 4 * ws.length := by
  induction ws with
  | nil => rfl
  | cons w ws ih =>
    have hcons : wordsBytes (w :: ws) = leBytes w ++ wordsBytes ws := List.flatMap_cons
    have hword : (leBytes w).length = 4 := rfl
    rw [hcons, List.length_append, ih, hword, List.length_cons]
    omega

/-- With words 2 to 5 filled and at most ten words of payload, an entry has 16 words (R314). -/
theorem LogEntry.length_words {e : LogEntry} (hm : e.mid.length = 4) (hp : e.payload.length ≤ 10) :
    e.words.length = 16 := by
  simp only [LogEntry.words, List.length_append, List.length_cons, List.length_nil, List.length_replicate, hm]
  omega

/-- The copy for ring 7 changes the log by that copy, or by the count of those skipped (R323). -/
theorem State.mirrorCopy_log (s : State) (e : LogEntry) :
    ∃ m n, (s.mirrorCopy e).log = { s.log with mirror := m, mirrorSkip := n } := by
  unfold State.mirrorCopy
  dsimp only
  split
  · split
    · exact ⟨s.log.mirror ++ [e], s.log.mirrorSkip, rfl⟩
    · exact ⟨s.log.mirror, s.log.mirrorSkip + 1, rfl⟩
  · exact ⟨s.log.mirror, s.log.mirrorSkip, rfl⟩

/-- Writing an entry numbers, chains, holds and counts it; the persisted head's further slot leaves the log, and the
copy for ring 7 changes nothing of it but that copy (R317, R320, R323). -/
theorem State.logRaw_log (s : State) (e : LogEntry) :
    let x := { e with seq := s.log.nextSeq }
    ∃ m n, (s.logRaw e).log = { s.log with
      any := true, seq := x.seq, head := sha256 (digBytes s.log.head ++ wordsBytes x.words)
      held := s.log.held ++ [x], sinceCk := s.log.sinceCk + 1, mirror := m, mirrorSkip := n } := by
  intro x
  unfold State.logRaw
  dsimp only
  split
  · split
    · exact State.mirrorCopy_log _ x
    · exact State.mirrorCopy_log _ x
  · exact State.mirrorCopy_log _ x

/-- Settles O21: what writing an entry makes of the log, and 16 words of four bytes each. -/
theorem logChain : Obligations.LogChain := by
  intro s e x t
  obtain ⟨m, n, hlog⟩ := State.logRaw_log s e
  refine ⟨congrArg Log.held hlog, congrArg Log.seq hlog, congrArg Log.any hlog, congrArg Log.head hlog, ?_⟩
  intro hm hp
  rw [length_wordsBytes, LogEntry.length_words hm hp]

end Sys2Proof.Machine
end

section
/-! SUPPORT. The front of the queue (log entry 1), and the thermometer of the life-cycle fuses (R335). -/

namespace Sys2Proof.Machine

open Host

/-! ### The front of the queue -/

/-- The command at the front runs on the queue's rest. -/
theorem step_of_pending {s : State} {c : Instr} {q : List Instr} (h : s.pending = c :: q) :
    step s = exec c { s with pending := q } := by
  unfold step
  rw [h]

/-- With no command waiting a tick passes. -/
theorem step_of_idle {s : State} (h : s.pending = []) : step s = .next (s.advance 1) := by
  unfold step
  rw [h]

/-- Settles O1: a step in its two cases. -/
theorem stepRunsFront : Obligations.StepRunsFront := ⟨fun _ _ _ => step_of_pending rfl, fun _ => step_of_idle⟩

/-! ### The thermometer (R335) -/

/-- The steps of a thermometer of four are programmed from the lowest up. -/
def Stepped (x : BitVec 4) : Prop := x = 0 ∨ x = 1 ∨ x = 3 ∨ x = 7 ∨ x = 15

theorem Stepped.or {x bits : BitVec 4} (hx : Stepped x) (hb : bits = 1 ∨ bits = 3 ∨ bits = 7 ∨ bits = 15) :
    Stepped (x ||| bits) := by
  unfold Stepped at *
  revert x bits
  decide

theorem lcThermometer_iff (s : State) : LcThermometer s ↔ Stepped s.fuse.lcSteps := Iff.rfl

/-- A step fused in both fuses of each pair reads programmed. -/
theorem Fuse.lcSteps_or (f : Fuse) (bits : BitVec 4) :
    Fuse.lcSteps { f with lcPairA := f.lcPairA ||| bits, lcPairB := f.lcPairB ||| bits } = f.lcSteps ||| bits := by
  show (f.lcPairA ||| bits) ||| (f.lcPairB ||| bits) = (f.lcPairA ||| f.lcPairB) ||| bits
  rw [BitVec.or_assoc, BitVec.or_comm bits, BitVec.or_assoc, BitVec.or_self, BitVec.or_assoc]

/-- Of the writings of the fuses that of the life cycle alone moves its steps, and from the lowest up. -/
theorem FuseWrite.stepped {f g : Fuse} (h : FuseWrite f g) (hf : Stepped f.lcSteps) : Stepped g.lcSteps := by
  cases h with
  | lifeCycle hb =>
    rw [Fuse.lcSteps_or]
    exact hf.or hb
  | floor | owner | seed0 | seed1 | puf | straps => exact hf

theorem FuseWrites.stepped {f g : Fuse} (h : FuseWrites f g) (hf : Stepped f.lcSteps) : Stepped g.lcSteps := by
  induction h with
  | refl => exact hf
  | tail _ hw ih => exact hw.stepped ih

/-- Whatever a step does to the fuses are writings. -/
theorem step_burns (s : State) : Burns s.fuse (step s) := by
  cases h : s.pending with
  | nil => rw [step_of_idle h]; exact burns_next.2 .rfl
  | cons c q => rw [step_of_pending h]; exact exec_burns c { s with pending := q }

/-- Settles O5: what a step does to the fuses are writings, and each keeps the thermometer. -/
theorem lifeCycleStaysThermometer : Obligations.LifeCycleStaysThermometer := by
  intro s t hs ht
  have hw : Burns s.fuse (step s) := step_burns s
  rw [ht] at hw
  exact (lcThermometer_iff t).2 (FuseWrites.stepped hw ((lcThermometer_iff s).1 hs))

/-- Settles O6: no step is blown at power-on. -/
theorem lifeCycleThermometerAtReset : Obligations.LifeCycleThermometerAtReset := ⟨.inl rfl, rfl⟩

end Sys2Proof.Machine
end

section
/-! SUPPORT. Packets that are refused for their parameters or for the keep (R42, R395, R397), and those that set the
calendar (R404) and derive a key (R346). -/

namespace Sys2Proof.Machine

open Host

/-! ### The parameters of a packet (R42) -/

/-- A packet of a class that every chip has, with a legal length and the right to run, is refused for its parameters. -/
theorem OpSpec.early_badParam {o : OpSpec} {p : Packet} {u : State} (hg : o.opcode / 256 ≠ 5) (hl : LenOk o p)
    (hm : MayRun o p u) (hp : ¬ ParamsOk o p u) : o.early p u = some .badParam := by
  rw [OpSpec.early_eq, if_neg fun h => hg h.1, if_neg (not_not.2 hl), if_neg (not_not.2 hm), if_pos hp]

/-- So is the row that carries it. -/
theorem exec_badParam {i : Instr} {o : OpSpec} {p : Packet} {s : State} (h : packetOf i = some (o, p))
    (hf : (s.arrive p.dt).canFetch o.opcode p = true) (hg : o.opcode / 256 ≠ 5) (hl : LenOk o p)
    (hm : MayRun o p (checkFrom p s)) (hp : ¬ ParamsOk o p (checkFrom p s)) :
    exec i s = .next ((checkFrom p s).finish p o.opcode .badParam [] false) :=
  exec_refused h hf (OpSpec.early_badParam hg hl hm hp)

/-- A packet that passes the early checks has legal parameters. -/
theorem OpSpec.paramsOk_of_early {o : OpSpec} {p : Packet} {u : State} (h : o.early p u = none) : ParamsOk o p u := by
  rw [OpSpec.early_eq] at h
  by_contra hp
  split_ifs at h

/-- So has one that executes at once. -/
theorem params_of_runsNow {o : OpSpec} {p : Packet} {s : State} (h : runsNow o p s = true) :
    o.params (checkFrom p s) p = true := by
  simp only [runsNow, Bool.and_eq_true, Option.isNone_iff_eq_none] at h
  obtain ⟨⟨⟨⟨⟨⟨-, he⟩, -⟩, -⟩, -⟩, -⟩, -⟩ := h
  exact (OpSpec.paramsOk_of_early he).2.2

/-! ### Fields of the keep (R395, R397) -/

/-- No early check of a packet row looks at what its COMMAND entry counts (R199). -/
theorem packetOf_early_note {i : Instr} {o : OpSpec} {p : Packet} (h : packetOf i = some (o, p)) (u : State) (n : Nat) :
    o.early p { u with sys := { u.sys with note := n } } = o.early p u := by
  cases i
  all_goals
    simp only [packetOf, Option.some.injEq, Prod.mk.injEq, reduceCtorEq] at h
    try (obtain ⟨rfl, rfl⟩ := h; rfl)

/-- An immediate packet in its state, with room in the log, runs and is answered as its run says. -/
theorem exec_runs {i : Instr} {o : OpSpec} {p : Packet} {s : State} (h : packetOf i = some (o, p))
    (hf : (s.arrive p.dt).canFetch o.opcode p = true) (he : o.early p (checkFrom p s) = none) (hs : p.sched = false)
    (hd : p.dryRun = false) (ha : devAllows o.states (checkFrom p s).sys.devState = true)
    (hl : (checkFrom p s).logFullFor o.opcode = false) :
    exec i s = .next ((((o.run p (bodyFrom p s)).st).finish p o.opcode (o.run p (bodyFrom p s)).status
      (o.run p (bodyFrom p s)).payload false).settle) := by
  rw [exec_accepted h hf he, OpSpec.accept, if_neg (by rw [hs]; exact Bool.false_ne_true),
    if_neg (by rw [hd]; exact Bool.false_ne_true), OpSpec.execute, if_neg (by rw [ha]; decide),
    if_neg (by rw [hl]; exact Bool.false_ne_true)]
  rfl

/-- Settles O23: the keep's checks come first where an opcode writes a CSP field. -/
theorem persistentFieldsGuarded : Obligations.PersistentFieldsGuarded := by
  intro i o p s h hf u he hs hd ha hl hc
  have hrun := exec_runs h hf ((packetOf_early_note h ..).symm.trans he) hs hd ha hl
  refine ⟨fun hp => ?busy, fun hp hr => ?readOnly⟩
  case busy => rw [hrun, OpSpec.run, if_pos (Bool.and_eq_true_iff.2 ⟨hc, hp⟩)]; rfl
  case readOnly =>
    rw [hrun, OpSpec.run, if_neg (by rw [hc, hp]; exact Bool.false_ne_true), if_pos (Bool.and_eq_true_iff.2 ⟨hc, hr⟩)]
    rfl

/-! ### The calendar (R402, R404) -/

theorem taiNat_lt {t : Tai} (h : taiOk t = true) : taiNat t < 2 ^ 48 * sec16 := by
  have hlt : t.toNat % 2 ^ 48 < sec16 := (taiOk_iff t).1 h
  have ht := t.isLt
  rw [taiNat]
  unfold sec16 at *
  omega

/-- SECONDS and SUBSEC hold an instant cut to 1/32,768 s. -/
theorem secondsSubsec_cut {x n : Nat} (hx : x < 2 ^ 48 * sec16) (hn : x * 32768 / sec16 = n) :
    ((BitVec.ofNat 48 (n / 32768)).toNat * 32768 + (BitVec.ofNat 15 (n % 32768)).toNat) * sec16 ≤ x * 32768 ∧
    x * 32768 < ((BitVec.ofNat 48 (n / 32768)).toNat * 32768 + (BitVec.ofNat 15 (n % 32768)).toNat + 1) * sec16 := by
  have hlt : n < 2 ^ 48 * 32768 := by
    rw [← hn]
    refine Nat.div_lt_of_lt_mul ?_
    unfold sec16 at *
    omega
  have heq : (BitVec.ofNat 48 (n / 32768)).toNat * 32768 + (BitVec.ofNat 15 (n % 32768)).toNat = n := by
    rw [BitVec.toNat_ofNat, BitVec.toNat_ofNat]
    omega
  rw [heq, ← hn]
  exact ⟨Nat.div_mul_le_self _ _, (Nat.div_lt_iff_lt_mul (by decide)).1 (Nat.lt_succ_self _)⟩

theorem State.pairEval_vbat (s : State) : s.pairEval.vbat = s.vbat := by
  unfold State.pairEval
  split
  · rfl
  · dsimp only
    split
    · rfl
    · exact (State.raise_still ..).vbat

theorem State.pairEval_acd (s : State) : s.pairEval.acd = s.acd := by
  unfold State.pairEval
  split
  · rfl
  · dsimp only
    split
    · rfl
    · exact (State.raise_still ..).acd

theorem State.calSetValid_vbat (s : State) : s.calSetValid.vbat = { s.vbat with calValid := true } := by
  unfold State.calSetValid
  dsimp only
  split
  · exact State.pairEval_vbat _
  · rfl

theorem State.calSetValid_acd (s : State) : s.calSetValid.acd = s.acd := by
  unfold State.calSetValid
  dsimp only
  split
  · exact State.pairEval_acd _
  · rfl

theorem State.calSyncing_iff {s : State} : s.calSyncing = true ↔ s.acd.state = .locked ∨ s.acd.state = .drydownIn := by
  simp [State.calSyncing]

/-- Settles O13: the value is cut to 1/32,768 s; CAL_SET_TIME's body and parameters refuse it. -/
theorem calendarIsSet : Obligations.CalendarIsSet := by
  refine ⟨fun p s h => ?set, fun p s h => ?syncs, fun p s hf hl hm => ?illegal⟩
  case set =>
    intro u hlocked hdry
    obtain ⟨hle, hlt⟩ := secondsSubsec_cut (taiNat_lt (params_of_runsNow h)) (Eq.refl _)
    refine ⟨_, packet_completes h (if_neg fun hs => (State.calSyncing_iff.1 hs).elim hlocked hdry), ?_⟩
    rw [State.calSetValid_vbat, State.calSetValid_acd]
    dsimp only [State.modVbat]
    exact ⟨hle, hlt, rfl, rfl, rfl⟩
  case syncs =>
    intro u hs
    have hbody : specCalSetTime.body p u = Done.err u .state := if_pos (State.calSyncing_iff.2 hs)
    refine (packet_answers h rfl).trans ?_
    rw [hbody]
    rfl
  case illegal =>
    intro u hn
    refine exec_badParam (o := specCalSetTime) (p := p) rfl hf (by decide) ?length ⟨hm, rfl⟩ fun hp => ?params
    case length => simp [LenOk, hl, specCalSetTime]
    case params => exact absurd (of_decide_eq_true hp.2.2) (Nat.not_le.2 hn)

/-! ### A derived key (R346) -/

/-- A slot that is filled holds what it is given. -/
theorem State.fillSlot_same (s : State) {k : Nat} (hk : k < 64) (x : KeySlot) : (s.fillSlot k x).kslot k =
    { x with loaded := true, loadSeq := (s.kslot k).loadSeq + 1
             fprint := print8 (leNat (keyLenOf x.alg.toNat) x.key.toNat) } :=
  (tabGet_set ..).trans (if_pos ⟨rfl, hk⟩)

/-- The others stay. -/
theorem State.fillSlot_other (s : State) {k j : Nat} (hj : j ≠ k) (x : KeySlot) :
    (s.fillSlot k x).kslot j = s.kslot j :=
  (tabGet_set ..).trans (if_neg fun h => hj h.1.symm)

/-- The parent of a KEY_DERIVE that runs at once is one that can be derived from. -/
theorem parentOk_of_runsNow {p : Packet} {s : State} (h : runsNow specKeyDerive p s = true) :
    parentOk (bodyFrom p s) p = true := by
  have hp := params_of_runsNow h
  simp only [specKeyDerive, Bool.and_eq_true] at hp
  exact hp.2

/-- What KEY_DERIVE does to an EMPTY slot. -/
theorem keyDerive_body {p : Packet} {s : State} (h : runsNow specKeyDerive p s = true)
    (hd : (bodyFrom p s).ready pdCrypto = true) (hh : (bodyFrom p s).sys.tamperHold = false)
    (hp : (bodyFrom p s).mon.pfw = false) (hb : (bodyFrom p s).key.busyOp = none)
    (hl : ((bodyFrom p s).kslot (fld (p.w 0) 8 6)).loaded = false) :
    let u := bodyFrom p s
    let par := u.kslot (fld (p.w 0) 0 6)
    specKeyDerive.body p u =
      if flag (p.w 0) 24 && !par.exportable then Done.err u .denied
      else u.filled (fld (p.w 0) 8 6) { KeySlot.reset with
        usage := (p.w 0).extractLsb' 16 4, alg := (p.w 0).extractLsb' 20 4, test := par.test, prev := par.prev
        exportable := flag (p.w 0) 24, labelId := p.w 1, epoch := par.epoch
        key := derivedKey par p (fld (p.w 0) 20 4) } := by
  dsimp only [specKeyDerive]
  rw [keyBody_runs (fun _ => hd) (fun _ => hh) hp hb]
  refine (if_neg ?parent).trans (if_neg ?loaded)
  case parent => rw [parentOk_of_runsNow h]; decide
  case loaded => rw [hl]; exact Bool.false_ne_true

/-- Settles O17: KEY_DERIVE's body on an EMPTY slot, and its parameters. -/
theorem keyDerivation : Obligations.KeyDerivation := by
  refine ⟨fun p s h => ?derive, fun p s hf hl hb hm => ?parent⟩
  case derive =>
    intro u par k hd hh hp hb hl
    have hbody := keyDerive_body h hd hh hp hb hl
    refine ⟨fun he => ?filled, fun hf he => ?denied⟩
    case filled =>
      have hok : ¬ (flag (p.w 0) 24 && !par.exportable) = true := by simpa using he
      refine ⟨_, _, packet_completes h (hbody.trans (if_neg hok)), ?_⟩
      have hk : k < 64 := Nat.mod_lt _ (by decide)
      rw [State.fillSlot_same u hk]
      exact ⟨rfl, rfl, rfl, rfl, rfl, rfl, fun j hj => State.fillSlot_other u hj _⟩
    case denied =>
      refine (packet_answers h rfl).trans ?_
      rw [hbody, if_pos (by rw [hf, he]; rfl)]
      rfl
  case parent =>
    intro u hlc hpar
    refine exec_badParam (o := specKeyDerive) (p := p) rfl hf (by decide) ?length ⟨hm, hlc⟩ fun hp => ?params
    case length => simp [LenOk, hl, hb, specKeyDerive]
    case params =>
      have hok : parentOk u p = true := by
        have hall := hp.2.2
        simp only [specKeyDerive, Bool.and_eq_true] at hall
        exact hall.2
      rw [parentOk, Bool.and_eq_true, beq_iff_eq] at hok
      rcases hpar with hpar | hpar
      · exact absurd (hok.1.symm.trans hpar) (by decide)
      · exact hpar hok.2

end Sys2Proof.Machine
end

section
/-! SUPPORT. The queue of waiting commands (log entry 1): an event leaves it, and a packet as well. -/

namespace Sys2Proof.Machine

open Host

/-- The state that a result leaves, where it leaves one, has the commands `q` waiting. -/
def QueueAt (q : List Instr) : Res → Prop
  | .next t => t.pending = q
  | .fault _ | .refused _ => True

@[simp] theorem queueAt_next {q : List Instr} {t : State} : QueueAt q (.next t) ↔ t.pending = q := Iff.rfl

@[simp] theorem queueAt_fault {q : List Instr} {x : Fault} : QueueAt q (.fault x) := trivial

theorem queueAt_ite {q : List Instr} {c : Prop} [Decidable c] {a b : Res} (ha : QueueAt q a) (hb : QueueAt q b) :
    QueueAt q (if c then a else b) := by split <;> assumption

@[simp] theorem queueAt_ite_iff {q : List Instr} {c : Prop} [Decidable c] {a b : Res} :
    QueueAt q (if c then a else b) ↔ if c then QueueAt q a else QueueAt q b :=
  iff_of_eq (apply_ite (QueueAt q) c a b)

/-! ### Events that act through an operation with a function of its own -/

/-- A scheduled command that falls due runs as an entry (R47). -/
theorem execScheduledCommandDue_queueAt (dt : Nat) (s : State) :
    QueueAt s.pending (execScheduledCommandDue dt s) := by
  have hleap : (s.advance dt).leapNow.pending = s.pending := (s.advance dt).leapNow_pending
  simp only [execScheduledCommandDue, queueAt_next]
  split
  · exact hleap
  · split
    · exact (State.runEntry_pending ..).trans hleap
    · exact hleap

/-- An access leaves the queue as its reads or writes leave it. -/
theorem State.access_queueAt {s : State} {m : BitVec 4} {addrs : List W32} {f : State → State}
    (hf : (f s).pending = s.pending) : QueueAt s.pending (s.access m addrs f) :=
  queueAt_ite (queueAt_next.2 rfl) (queueAt_ite queueAt_fault (queueAt_next.2 hf))

theorem State.busRead_queueAt (s : State) (r : BusRead) : QueueAt s.pending (s.busRead r) := by
  unfold State.busRead
  refine State.access_queueAt ?_
  cases r with
  | bar2 => rfl
  | _ => exact (foldl_pending _ _ (fun s a => State.readBurst_pending _ s a) _).trans rfl

theorem State.otherWrite_pending (s : State) (w : BusWrite) : (s.otherWrite w).pending = s.pending := by
  cases w with
  | benit ws =>
    refine foldl_pending _ _ (fun s i => ?_) _
    split
    · exact State.mbxData_pending ..
    · rfl
  | _ => rfl

theorem State.busWrite_queueAt (s : State) (w : BusWrite) : QueueAt s.pending (s.busWrite w) := by
  unfold State.busWrite
  refine State.access_queueAt ?_
  rw [foldl_pending _ _ (fun s p => State.regWrite_pending ..), State.otherWrite_pending]

theorem execGnsTrkStateWrite_queueAt (dt : Nat) (m : BitVec 4) (k : BitVec 5) (codeLock carrLock bitSync : Bool)
    (cn0 : BitVec 16) (slip : Option (BitVec 16)) (s : State) :
    QueueAt s.pending (execGnsTrkStateWrite dt m k codeLock carrLock bitSync cn0 slip s) :=
  queueAt_next.2 ((State.gnsEngineDo_pending (s.advance dt) _ _ (by
    simp only [apply_ite State.pending, State.drawn_pending, State.modTrk_pending, ite_self])))

theorem execGnsNavPush_queueAt (dt : Nat) (m : BitVec 4) (k : BitVec 5) (word : W32) (ago : Nat) (s : State) :
    QueueAt s.pending (execGnsNavPush dt m k word ago s) :=
  queueAt_next.2 (State.gnsEngineDo_pending (s.advance dt) _ _ (State.navPut_pending ..))

theorem execGnsSolWrite_queueAt (dt : Nat) (m : BitVec 4) (valid : Bool) (nsv : BitVec 6) (snap : Bool)
    (offset : BitVec 64) (unc : BitVec 24) (s : State) :
    QueueAt s.pending (execGnsSolWrite dt m valid nsv snap offset unc s) :=
  queueAt_next.2 (State.gnsEngineDo_pending (s.advance dt) _ _ (by rw [State.solUse_pending, State.solStore_pending]))

theorem State.tones_pending (l : List (Nat × Nat)) (x : State × Bool) :
    (l.foldl State.tone x).1.pending = x.1.pending := by
  induction l generalizing x with
  | nil => rfl
  | cons a l ih =>
    rw [List.foldl_cons, ih, State.tone]
    (repeat' split) <;> simp only [State.notchAt_pending]

theorem State.lineTest_pending (s : State) (t : Option Bool) : (s.lineTest t).pending = s.pending := by
  cases t with
  | none => rfl
  | some bad =>
    simp [State.lineTest, apply_ite State.pending, State.faultAssert_pending, State.faultEnd_pending,
      State.raise_pending]

theorem execLogSecondTick_queueAt (dt : Nat) (keepFail : Option (BitVec 10)) (s : State) :
    QueueAt s.pending (execLogSecondTick dt keepFail s) := by
  simp only [execLogSecondTick]
  cases keepFail <;> (repeat' split) <;> simp [State.checkpoint_pending, State.keepRowFail_pending]

theorem execSupplySample_queueAt (dt : Nat) (mv : List (BitVec 16)) (s : State) :
    QueueAt s.pending (execSupplySample dt mv s) := by
  refine queueAt_next.2 (foldl_pending _ _ (fun s r => ?_) _)
  split
  · exact State.supRead_pending ..
  · rfl

theorem execTempSample_queueAt (dt : Nat) (t : List (BitVec 16)) (s : State) :
    QueueAt s.pending (execTempSample dt t s) := by
  simp only [execTempSample, queueAt_next, State.junction_pending, State.extTemp_pending,
    State.anchorTempStep_pending, State.holdTemp_pending]
  refine (foldl_pending _ _ (fun s c => ?_) _)
  split
  · exact State.tempRead_pending ..
  · rfl

/-! Requests of clients: each notes its client and answers from what that leaves. -/

theorem noteClient_result_pending {s b : State} {l kind i : Nat} {r : SvcReq} {x : Option Client}
    (h : s.noteClient l kind r i = (x, b)) : b.pending = s.pending := by
  rw [← State.noteClient_pending s l kind r i, h]

theorem execPtpDelayReq_queueAt (dt : Nat) (lane : BitVec 4) (phase : Nat) (r : SvcReq) (s : State) :
    QueueAt s.pending (execPtpDelayReq dt lane phase r s) := by
  have hin := (s.advance dt).ptpIntake_pending lane.toNat r
  refine queueAt_ite (queueAt_next.2 rfl) (queueAt_ite (queueAt_next.2 hin) (queueAt_ite ?other ?noted))
  case other => exact queueAt_next.2 ((State.otherDiscard_pending ..).trans hin)
  case noted =>
    split
    next h => exact queueAt_next.2 ((noteClient_result_pending h).trans hin)
    next h =>
      simp [State.sendAuth_pending, apply_ite Prod.snd, apply_ite State.pending, State.takeToken_pending,
        noteClient_result_pending h, hin]

theorem execPtpUnicastRequest_queueAt (dt : Nat) (lane : BitVec 4) (r : SvcReq) (s : State) :
    QueueAt s.pending (execPtpUnicastRequest dt lane r s) := by
  have hin := (s.advance dt).ptpIntake_pending lane.toNat r
  refine queueAt_ite (queueAt_next.2 rfl) (queueAt_ite (queueAt_next.2 hin) (queueAt_ite ?other ?noted))
  case other => exact queueAt_next.2 ((State.otherDiscard_pending ..).trans hin)
  case noted =>
    split
    next h => simp [foldl_pending, State.grantDeny_pending, noteClient_result_pending h, hin]
    next h =>
      simp [foldl_pending, State.grantOne_pending, apply_ite Prod.snd, apply_ite State.pending,
        State.takeToken_pending, noteClient_result_pending h, hin]

theorem execNtpRequest_queueAt (dt : Nat) (lane : BitVec 4) (phase : Nat) (r : SvcReq) (s : State) :
    QueueAt s.pending (execNtpRequest dt lane phase r s) := by
  have hin := (s.advance dt).intake_pending lane.toNat r
  refine queueAt_ite (queueAt_next.2 rfl) (queueAt_ite (queueAt_next.2 hin) (queueAt_ite ?other ?noted))
  case other => exact queueAt_next.2 ((State.otherDiscard_pending ..).trans hin)
  case noted =>
    split
    next h => simp [State.sendSvc_pending, noteClient_result_pending h, hin]
    next h =>
      simp [State.sendSvc_pending, State.kodRate_pending, apply_ite State.pending, State.takeToken_pending,
        noteClient_result_pending h, hin]

theorem execNtsRequest_queueAt (dt : Nat) (lane : BitVec 4) (phase : Nat) (r : SvcReq) (s : State) :
    QueueAt s.pending (execNtsRequest dt lane phase r s) := by
  have hin := (s.advance dt).intake_pending lane.toNat r
  have hcount (n : Nat) : QueueAt s.pending (.next (((s.advance dt).intake lane.toNat r).1.svcCount lane.toNat n)) :=
    queueAt_next.2 ((State.svcCount_pending ..).trans hin)
  refine queueAt_ite (queueAt_next.2 rfl) (queueAt_ite (queueAt_next.2 hin) (queueAt_ite ?other ?ntp))
  case other => exact queueAt_next.2 ((State.otherDiscard_pending ..).trans hin)
  case ntp =>
    split
    next => exact hcount 7
    next q =>
      refine queueAt_ite (hcount 6) ?_
      split
      next h => simp [State.ntsCheck_pending, noteClient_result_pending h, hin]
      next h => simp [State.ntsCheck_pending, apply_ite State.pending, State.takeToken_pending,
        noteClient_result_pending h, hin]

/-! ### Every command -/

/-- An event leaves the queue, block by block. -/
theorem exec_event_queueAt {i : Instr} (h : packetOf i = none) (s : State) : QueueAt s.pending (exec i s) := by
  cases i
  -- Accesses, and events that act through an operation with a function of its own
  case queuePop | rcCounterRead | shadowLatchRead => exact State.busRead_queueAt (s.advance _) _
  case intStatusW1c | registerWrite => exact State.busWrite_queueAt (s.advance _) _
  case scheduledCommandDue => exact execScheduledCommandDue_queueAt ..
  case gnsTrkStateWrite => exact execGnsTrkStateWrite_queueAt ..
  case gnsNavPush => exact execGnsNavPush_queueAt ..
  case gnsSolWrite => exact execGnsSolWrite_queueAt ..
  case ptpDelayReq => exact execPtpDelayReq_queueAt ..
  case ptpUnicastRequest => exact execPtpUnicastRequest_queueAt ..
  case ntpRequest => exact execNtpRequest_queueAt ..
  case ntsRequest => exact execNtsRequest_queueAt ..
  case logSecondTick => exact execLogSecondTick_queueAt ..
  case supplySample => exact execSupplySample_queueAt ..
  case tempSample => exact execTempSample_queueAt ..
  -- The command interface
  case ringProdWrite | ringConsWrite | ringSlotWrite | txDescriptorFetch | msiModerationTimer | mbxSend |
    mbxDeliver | mbxTake | semRead | semRelease | pcieUnsupportedAccess | acdSteerWrite | unlistedOpcode =>
    simp [exec, execRingProdWrite, execRingConsWrite, execRingSlotWrite, execTxDescriptorFetch,
      execMsiModerationTimer, execMbxSend, execMbxDeliver, execMbxTake, execSemRead, execSemRelease,
      execPcieUnsupportedAccess, execAcdSteerWrite, execUnlistedOpcode, apply_ite State.pending,
      State.pointerWrite_pending, State.slotOut_pending, State.completeTx_pending, State.ethCount_pending,
      State.ethRaise_pending, State.hostFrame_pending, State.mbxSend_pending, State.mbxTake_pending,
      State.readDenied_pending, State.semRead_pending, State.semRelease_pending, State.steerWrite_pending,
      State.unlisted_pending, State.arrive_pending]
  case replyDelivery | gnsNcoWrite =>
    simp only [exec, execReplyDelivery, execGnsNcoWrite]
    (repeat' split) <;> simp [State.replyNext_pending, State.gnsEngineDo_pending, State.modTrk_pending,
      State.samples_pending]
  -- Resets, boot, power and the host link
  case porNAssert | resetNAssert | resetRelease | engineBootPowerStart | bootImageCheck | bootComplete |
    autoRun | domainReady | domainOff | wakeNEdge | wakeComplete | perstNAssert | pcieFlr | pcieLinkLoss |
    accordSeed | strapSample =>
    simp [exec, execStrapSample, execPorNAssert, execResetNAssert, execResetRelease, execEngineBootPowerStart,
      execBootImageCheck, execBootComplete, execAutoRun, execDomainReady, execDomainOff, execWakeNEdge,
      execWakeComplete, execPerstNAssert, execPcieFlr, execPcieLinkLoss, execAccordSeed, apply_ite State.pending,
      State.hold_pending, State.powerUp_pending, State.raise_pending, State.imageCheck_pending,
      State.bootDone_pending, State.autoRunNow_pending, State.domReadyNow_pending, State.domOff_pending,
      State.logPut_pending, State.wakeNow_pending, State.wakeDone_pending, State.flr_pending, State.linkLost_pending,
      State.seedAccord_pending]
  case railMonitorReset =>
    simp only [exec, execRailMonitorReset]
    (repeat' split) <;> simp [State.hold_pending]
  -- The clocks and the accord
  case ocxoPresent | cpllLock | cpllLoss | macerationEnd | timeBusApply | timeBusCheck | bridgeClockLoss |
    timeBusError | servoTimeout | leapApply | ebPublication =>
    simp [exec, execEbPublication, State.publish_pending, execOcxoPresent, execCpllLock, execCpllLoss,
      execMacerationEnd, execTimeBusApply, execTimeBusCheck, execBridgeClockLoss, execTimeBusError, execServoTimeout,
      execLeapApply, apply_ite State.pending, State.react_pending, State.faultEnd_pending, State.raise_pending,
      State.cpllLost_pending, State.faultAssert_pending, State.enterDrydown_pending, State.leapNow_pending]
  case bridgeMeasure | accordReEntry =>
    simp only [exec, execBridgeMeasure, execAccordReEntry]
    (repeat' split) <;> simp [State.calNext_pending, State.substAll_pending, State.powerDown_pending,
      State.steerTo_pending, State.switchDone_pending]
  -- Faults
  case faultAssert | collectorSelfFail | wardenWdogExpiry | tamperAssert =>
    simp [exec, execTamperAssert, State.tamper_pending, execFaultAssert, execCollectorSelfFail, execWardenWdogExpiry,
      apply_ite State.pending, State.faultAssert_pending, State.selfFails0_pending, State.wardenLate_pending]
  -- REF
  case refEdge | refTodMessage | holdoffExpiry | waitExpiry | refSelectTick | ptpAnnounceTimeout =>
    simp [exec, execRefEdge, execRefTodMessage, execHoldoffExpiry, execWaitExpiry, execRefSelectTick,
      execPtpAnnounceTimeout, apply_ite State.pending, State.clockEdge_pending, State.refUpdate_pending,
      State.holdoffOut_pending, State.waitOut_pending, State.cellsSnap_pending, State.refSelect_pending,
      State.modSlot_pending, State.refHist_pending, State.setSource_pending]
  case refOffsetDelivery | refLosTimeout =>
    simp only [exec, execRefOffsetDelivery, execRefLosTimeout]
    (repeat' split) <;> simp [State.refDeliver_pending, State.modSlot_pending, State.cellsStale_pending,
      State.refHist_pending, State.setFaults_pending]
  -- GNS
  case gnssClkMeasure | notchDetect | notchRelease | jamWarnChange | gnsTrackStart | gnsDump | gnsSolTimeout |
    snapshotDone =>
    simp [exec, execGnssClkMeasure, execNotchDetect, execNotchRelease, execJamWarnChange, execGnsTrackStart,
      execGnsDump, execGnsSolTimeout, execSnapshotDone, apply_ite State.pending, State.raise_pending,
      State.gnsHist_pending, State.tones_pending, State.modTrk_pending, State.samples_pending, State.gnsEval_pending,
      State.snapEnd_pending]
  case gnssClkLoss | acqPass | gnsLatch | snapshotStart =>
    simp only [exec, execGnssClkLoss, execAcqPass, execGnsLatch, execSnapshotStart]
    (repeat' split) <;> simp [State.samples_pending, State.acqEnd_pending, State.gnsEval_pending,
      State.gnsHist_pending, State.raise_pending, State.snapEnd_pending, State.acqLast_pending,
      State.latchTake_pending, State.snapWait_pending]
  -- TIC
  case ticEdge | ticPresenceTimeout | ticIntervalTimeout | ticCoarseWrap | ticWarmupEnd | ticCalDone |
    ticRecalTrigger | ticSubstHandover | ticEticUpdate =>
    simp [exec, execTicEdge, execTicPresenceTimeout, execTicIntervalTimeout, execTicCoarseWrap, execTicWarmupEnd,
      execTicCalDone, execTicRecalTrigger, execTicSubstHandover, execTicEticUpdate, apply_ite State.pending,
      State.ticGap_pending, State.ticMiss_pending, State.ticStamp_pending, State.modTch_pending,
      State.ticMark_pending, State.ticRaise_pending, State.ivEnd_pending, State.raise_pending,
      State.wrapRecord_pending, foldl_pending, State.calNext_pending, State.modConv_pending, State.calPass_pending,
      State.convFail_pending, State.coverKeep_pending, State.swapHome_pending, State.ticCalCount_pending,
      State.swapAbandon_pending, State.swapOver_pending]
  -- OUT
  case synLock | synUnlock | outputStart | alignerCompare | glideEnd | alignHoldTimer | outSyncExecute |
    tpPulse | tpPulseEnd | todMessage =>
    simp [exec, execSynLock, execSynUnlock, execOutputStart, execAlignerCompare, execGlideEnd, execAlignHoldTimer,
      execOutSyncExecute, execTpPulse, execTpPulseEnd, execTodMessage, apply_ite State.pending,
      State.synLocked_pending, State.synUnlock_pending, State.modOch_pending, State.outRaise_pending,
      State.outUnsynced_pending, State.pairEval_pending, State.alignClear_pending, State.faultAssert_pending,
      State.syncRunAll_pending, State.tpFire_pending, State.modOtp_pending, State.todSend_pending]
  case echoDone =>
    simp only [exec, execEchoDone]
    (repeat' split) <;> simp [State.echoResult_pending]
  -- ETH
  case frameReceive | linkUp | linkDown | quadReady | captureIntervalOpen | captureIntervalTimeout |
    captureSuperRoot | captureLossRecord | captureResume =>
    simp [exec, execFrameReceive, execLinkUp, execLinkDown, execQuadReady, execCaptureIntervalOpen,
      execCaptureIntervalTimeout, execCaptureSuperRoot, execCaptureLossRecord, execCaptureResume,
      apply_ite State.pending, State.capFrame_pending, State.rxCount_pending, State.rxHost_pending,
      State.rxPath_pending, State.capLink_pending, State.ethRaise_pending, State.modLane_pending,
      State.linkFall_pending, State.raise_pending, State.capRoll_pending, State.superWrite_pending,
      State.capLoss_pending, State.capResume_pending]
  case frameRelease | txComplete | captureRootReady =>
    simp only [exec, execFrameRelease, execTxComplete, execCaptureRootReady]
    (repeat' split) <;> simp [State.toWire_pending, State.txDone_pending, State.rootReady_pending]
  -- TMG
  case gateEntryChange | gclSwap | shaperUpdate | policerAccrue | commitSlotCheck =>
    simp [exec, execGateEntryChange, execGclSwap, execShaperUpdate, execPolicerAccrue, execCommitSlotCheck,
      apply_ite State.pending, State.gateEval_pending, State.swapsDue_pending, State.shape_pending, foldl_pending,
      State.missSlot_pending]
  case queueSample | commitDecision =>
    simp only [exec, execQueueSample, execCommitDecision]
    (repeat' split) <;> simp [apply_ite State.pending, foldl_pending, State.sampleQ_pending,
      State.commitDecide_pending]
  -- SVC
  case ptpUnicastCancel | ptpSyncInterval | ptpAnnounceInterval | keyRoll =>
    simp [exec, execPtpUnicastCancel, execPtpSyncInterval, execPtpAnnounceInterval, execKeyRoll,
      apply_ite State.pending, State.cancelOne_pending, State.otherDiscard_pending, State.ptpIntake_pending,
      foldl_pending, State.commitMsg_pending, State.modPort_pending, State.sendAuth_pending, State.sendSvc_pending,
      State.keyRoll_pending]
  case ptpFollowUp | grantExpiry | acceptOldExpiry | clientAgeExpiry =>
    simp only [exec, execPtpFollowUp, execGrantExpiry, execAcceptOldExpiry, execClientAgeExpiry]
    (repeat' split) <;> simp [State.followUp_pending, State.modPort_pending, State.setClient_pending,
      State.dropOld_pending, State.freeClient_pending]
  -- LOG and KEY
  case logSignatureDone | keyOperationDone =>
    simp only [exec, execLogSignatureDone, execKeyOperationDone]
    (repeat' split) <;> simp [State.keyOpDone_pending, State.keyResult_pending, State.ckOrderly_pending,
      State.drainWait_pending, State.logGap_pending, State.logLevel_pending, State.logPut_pending,
      State.logRecover_pending, State.logSig_pending, State.settle_pending]
  -- PAIR
  case benitTimingFrameSend | benitTimingFrame | benitSafeNotice | benitHandoverNotice | benitRejoinNotice |
    benitLinkLoss | pairFirstClaim | claimRoundStart | claimSofDetect | claimRoundEnd | handoverInstant |
    pairCompareWindow | healthBitSet | standbyCalTest =>
    simp [exec, execBenitTimingFrameSend, execBenitTimingFrame, execBenitSafeNotice, execBenitHandoverNotice,
      execBenitRejoinNotice, execBenitLinkLoss, execPairFirstClaim, execClaimRoundStart, execClaimSofDetect,
      execClaimRoundEnd, execHandoverInstant, execPairCompareWindow, execHealthBitSet, execStandbyCalTest,
      apply_ite State.pending, State.digestCheck_pending, State.laneSkew_pending, State.refDeliver_pending,
      State.sideCheck_pending, State.faultAssert_pending, State.raise_pending, State.roundNow_pending,
      State.setSource_pending, State.roundStart_pending, State.lineTest_pending, State.roundWon_pending,
      State.roundLost_pending, State.handoverFails_pending, State.ownChange_pending, State.entryWindow_pending,
      State.modPcmp_pending, State.pairEval_pending, State.entryCalBad_pending, foldl_pending]
  case benitOutBadNotice | benitLinkUp | ownLeaseLapse | pairHandoverExecute =>
    simp only [exec, execBenitOutBadNotice, execBenitLinkUp, execOwnLeaseLapse, execPairHandoverExecute]
    (repeat' split) <;> simp [State.faultAssert_pending, State.faultEnd_pending, State.pairEval_pending,
      State.benitSpare_pending, State.raise_pending, State.sideCheck_pending, State.ownChange_pending,
      State.roundNow_pending]
  -- MON, CAL and KEEP
  case supplyWarningChange | mainsCrossing | mainsRangeTimer | pfwClear | rtcStop | calSync | calAutoTrim |
    keepAutoScrub | keepScrubDone | pfwPinChange | mainsHalfCycle | mainsGapTimeout =>
    simp [exec, execPfwPinChange, execMainsHalfCycle, execMainsGapTimeout, State.pfwEval_pending,
      execSupplyWarningChange, execMainsCrossing, execMainsRangeTimer, execPfwClear, execRtcStop, execCalSync,
      execCalAutoTrim, execKeepAutoScrub, execKeepScrubDone, apply_ite State.pending, State.supWarnIs_pending,
      State.vbatLowIs_pending, State.mainsPush_pending, State.modMon_pending, State.rangeEval_pending,
      State.faultAssert_pending, State.raise_pending, State.capResume_pending, State.faultEnd_pending, foldl_pending,
      State.calLost_pending, State.calRebase_pending, State.calSetValid_pending, State.keepOwn_pending,
      State.scrubStart_pending, State.keepRowFail_pending, State.keepUncorr_pending, State.spareFails_pending]
  -- Firmware, the self-test and what is left
  case fwStageDone | gnssClkPresent | atomPresent | pcieLinkUp | ringStallTimeout | benitLaneDown |
    pdVbatPowerLoss | tapTestLogicReset | collectorSelfRecover | gnssFeEnLead | tapInstruction =>
    simp [exec, execTapInstruction, State.tamper_pending, execFwStageDone, execGnssClkPresent, execAtomPresent,
      execPcieLinkUp, execRingStallTimeout, execBenitLaneDown, execPdVbatPowerLoss, execTapTestLogicReset,
      execCollectorSelfRecover, execGnssFeEnLead, apply_ite State.pending, State.raise_pending,
      State.stageImage_pending, State.gnsEval_pending, State.benitSpare_pending, State.calLost_pending,
      State.modBlt_pending]
  case bistDone | oscillatorAbsent | dmaTransferError | ptpSlaveMessage =>
    simp only [exec, execBistDone, execOscillatorAbsent, execDmaTransferError, execPtpSlaveMessage]
    (repeat' split) <;> simp [State.bistEffects_pending, State.modBlt_pending, State.raise_pending,
      State.cpllLost_pending, State.refPresence_pending, State.modSlot_pending, State.slaveAnnounce_pending]
  all_goals simp only [packetOf, reduceCtorEq] at h

/-- Whatever a command does, the queue stays: a packet's body leaves it, whichever opcode it is. -/
theorem exec_queueAt (i : Instr) (s : State) : QueueAt s.pending (exec i s) := by
  cases h : packetOf i with
  | none => exact exec_event_queueAt h s
  | some x =>
    rw [exec_packet h]
    exact queueAt_next.2 (State.packet_pending _ (allSpecs_pending _ (packetOf_listed h)) ..)

/-- Settles O2: the front is taken, and its command leaves the rest. -/
theorem stepTakesOne : Obligations.StepTakesOne := by
  intro c q s t hs ht
  have hq : QueueAt q (exec c { s with pending := q }) := exec_queueAt c { s with pending := q }
  rw [← step_of_pending hs, ht] at hq
  exact hq

end Sys2Proof.Machine
end

section
/-! SUPPORT. The fault collector (R357 to R363): what follows an assertion leaves the record of the safe state, and
every source that is latched. -/

namespace Sys2Proof.Machine

open Host

/-! ### What the operations of the block leave of the collector -/

/-- `t` has SYS and the record of the safe state as `s` has them, and every source latched that `s` has latched. -/
structure Recorded (s t : State) : Prop where
  safe : t.flt.safe = s.flt.safe
  firstA : t.flt.firstA = s.flt.firstA
  safeAt : t.flt.safeAt = s.flt.safeAt
  latch : ∀ n, has s.flt.latch n = true → has t.flt.latch n = true
  sys : t.sys = s.sys

theorem Recorded.rfl {s : State} : Recorded s s := ⟨Eq.refl _, Eq.refl _, Eq.refl _, fun _ h => h, Eq.refl _⟩

theorem Recorded.trans {a b c : State} (h : Recorded a b) (k : Recorded b c) : Recorded a c where
  safe := k.safe.trans h.safe
  firstA := k.firstA.trans h.firstA
  safeAt := k.safeAt.trans h.safeAt
  latch n hn := k.latch n (h.latch n hn)
  sys := k.sys.trans h.sys

/-- What follows an operation that touches neither the collector nor SYS. -/
theorem Recorded.after {a b c : State} (h : Recorded b c) (hf : b.flt = a.flt) (hs : b.sys = a.sys) : Recorded a c where
  safe := h.safe.trans (congrArg Flt.safe hf)
  firstA := h.firstA.trans (congrArg Flt.firstA hf)
  safeAt := h.safeAt.trans (congrArg Flt.safeAt hf)
  latch n hn := h.latch n (by rwa [hf])
  sys := h.sys.trans hs

/-- An operation that touches neither the collector nor SYS. -/
theorem Recorded.of_eq {s t : State} (hf : t.flt = s.flt) (hs : t.sys = s.sys) : Recorded s t where
  safe := congrArg Flt.safe hf
  firstA := congrArg Flt.firstA hf
  safeAt := congrArg Flt.safeAt hf
  latch _ h := by rwa [hf]
  sys := hs

/-- A branch. -/
theorem Recorded.ite {c : Prop} [Decidable c] {s a b : State} (ha : Recorded s a) (hb : Recorded s b) :
    Recorded s (if c then a else b) := by split <;> assumption

theorem Recorded.foldl {α : Type} {f : State → α → State} (hf : ∀ s a, Recorded s (f s a)) (l : List α)
    (s : State) : Recorded s (l.foldl f s) := by
  induction l generalizing s with
  | nil => exact .rfl
  | cons a l ih => exact (hf s a).trans (ih _)

theorem State.irq_recorded (s : State) (n : Nat) : Recorded s (s.irq n) := .of_eq rfl rfl

theorem State.logSet_recorded (s : State) (l : Log) : Recorded s { s with log := l } := .of_eq rfl rfl

theorem State.pairSet_recorded (s : State) (p : Pair) : Recorded s { s with pair := p } := .of_eq rfl rfl

theorem State.outSet_recorded (s : State) (o : Out) : Recorded s { s with out := o } := .of_eq rfl rfl

theorem State.latchQuiet_recorded (s : State) (n : Nat) (b l : Bool) : Recorded s (s.latchQuiet n b l) where
  safe := rfl
  firstA := rfl
  safeAt := rfl
  latch _ h := (has_or ..).trans (by rw [h, Bool.true_or])
  sys := rfl

/-! ### The log (R317 to R326) -/

theorem State.mirrorCopy_recorded (s : State) (e : LogEntry) : Recorded s (s.mirrorCopy e) :=
  .ite (.ite (s.logSet_recorded _) ((s.logSet_recorded _).trans (State.irq_recorded _ _))) .rfl

theorem State.logRaw_recorded (s : State) (e : LogEntry) : Recorded s (s.logRaw e) := by
  unfold State.logRaw
  dsimp only
  refine Recorded.trans ?_ (State.mirrorCopy_recorded _ _)
  split
  · exact .ite (.of_eq rfl rfl) (s.logSet_recorded _)
  · exact s.logSet_recorded _

theorem State.logSig_recorded (s : State) (typ : Nat) (v : BitVec 256) : Recorded s (s.logSig typ v) :=
  .ite (s.logSet_recorded _) ((s.logRaw_recorded _).trans (State.logSet_recorded _ _))

/-! `put` enters an entry: whatever follows from that leaves the collector's record. -/

section Entering

variable {put : State → LogEntry → State} (h : ∀ s e, Recorded s (put s e))

include h

theorem State.persistHead_recorded (s : State) (b : Bool) : Recorded s (s.persistHead put b) := by
  refine .ite ?readOnly (.of_eq rfl rfl)
  case readOnly =>
    have hquiet : Recorded s (((({ s with keep := { s.keep with roSkips := s.keep.roSkips + 1 } } : State).irq
        (src 13 11))).latchQuiet 194 true false) := (State.latchQuiet_recorded ..).after rfl rfl
    exact (hquiet.trans (h _ _)).trans (h _ _)

theorem State.ckPersist_recorded (s : State) : Recorded s (s.ckPersist put) :=
  .ite .rfl ((s.persistHead_recorded h false).trans (State.logSet_recorded _ _))

theorem State.ckOrderly_recorded (s : State) : Recorded s (s.ckOrderly put) :=
  .ite ((s.logSet_recorded _).trans (State.persistHead_recorded h _ true)) .rfl

end Entering

theorem State.ckUnsigned_recorded (s : State) (b : Bool) : Recorded s (s.ckUnsigned b) := by
  refine .ite .rfl ?_
  have hsigned : Recorded s ((s.logSig 0x0A 0).logSig 0x0B 0) :=
    (s.logSig_recorded _ _).trans (State.logSig_recorded _ _ _)
  have htold := hsigned.trans (State.logSet_recorded _
    { ((s.logSig 0x0A 0).logSig 0x0B 0).log with unsignedTold := true })
  have hraised := Recorded.ite (c := s.log.unsignedTold = true) htold (htold.trans (State.irq_recorded _ (src 13 8)))
  exact .ite (hraised.trans (State.irq_recorded _ _)) hraised

theorem State.ckEnter_recorded (s : State) (b : Bool) : Recorded s (s.ckEnter b) :=
  (s.logRaw_recorded _).trans (State.logSet_recorded _ _)

theorem State.levelFallback_recorded (s : State) (a : BitVec 3) : Recorded s (s.levelFallback a) :=
  .ite ((s.logSet_recorded _).trans (State.irq_recorded _ _)) .rfl

section Entering

variable {put : State → LogEntry → State} (h : ∀ s e, Recorded s (put s e))

include h

theorem State.ckWrite_recorded (s : State) (b : Bool) : Recorded s (s.ckWrite put b) :=
  .ite (s.logSet_recorded _)
    ((((s.ckEnter_recorded b).trans (State.ckPersist_recorded h _)).trans (State.ckUnsigned_recorded _ _)).trans
      (State.ckOrderly_recorded h _))

theorem State.levelFault_recorded (s : State) (a b : BitVec 3) : Recorded s (s.levelFault put a b) :=
  .ite ((s.latchQuiet_recorded _ _ _).trans (h _ _))
    (.ite ⟨rfl, rfl, rfl, fun _ hn => hn, rfl⟩ .rfl)

theorem State.levelEntry_recorded (s : State) (a : BitVec 3) : Recorded s (s.levelEntry put a) := by
  have hlevel : Recorded s (if a = 0 then { s with log := { s.log with level := a } }
      else ({ s with log := { s.log with level := a } } : State).irq (src 13 (a.toNat - 1))) :=
    .ite (s.logSet_recorded _) ((s.logSet_recorded _).trans (State.irq_recorded _ _))
  exact (hlevel.trans (h _ _)).trans (State.logSet_recorded _ _)

theorem State.logLevel_recorded (s : State) : Recorded s (s.logLevel put) :=
  .ite .rfl (((State.levelEntry_recorded h _ _).trans (State.levelFault_recorded h _ _ _)).trans
    (State.levelFallback_recorded _ _))

end Entering

theorem State.logPutN_recorded (n : Nat) (s : State) (e : LogEntry) : Recorded s (s.logPutN n e) := by
  induction n generalizing s e with
  | zero => exact .ite (s.logRaw_recorded e) (s.logSet_recorded _)
  | succ n ih =>
    have hraw := (s.logRaw_recorded e).trans (State.logLevel_recorded ih _)
    exact .ite (.ite (s.logSet_recorded _) (s.logSet_recorded _))
      (.ite (.ite (hraw.trans ((State.ckWrite_recorded ih _ _).trans (State.logLevel_recorded ih _))) hraw)
        (s.logSet_recorded _))

theorem State.logPut_recorded (s : State) (e : LogEntry) : Recorded s (s.logPut e) := s.logPutN_recorded 6 e

theorem State.raise_recorded (s : State) (so subject : Nat) (value : Int) (old new : Nat) :
    Recorded s (s.raise so subject value old new) :=
  .ite ((s.irq_recorded so).trans (State.logPut_recorded _ _)) (s.irq_recorded so)

/-! ### What is evaluated again (R219, R285, R288, R371) -/

theorem State.pairEval_recorded (s : State) : Recorded s s.pairEval :=
  .ite .rfl (.ite (s.pairSet_recorded _) ((s.pairSet_recorded _).trans (State.raise_recorded ..)))

theorem State.svcRaise_recorded (s : State) (b lane : Nat) : Recorded s (s.svcRaise b lane) :=
  (State.raise_recorded ..).after rfl rfl

theorem State.withdrawLane_recorded (s : State) (l : Nat) : Recorded s (s.withdrawLane l) :=
  .ite .rfl ((State.svcRaise_recorded ..).after rfl rfl)

theorem State.svcEval_recorded (s : State) : Recorded s s.svcEval := by
  have hset (t : State) (v : Svc) (so old new : Nat) :
      Recorded t (({ t with svc := v } : State).raise so 0 0 old new) :=
    (State.raise_recorded ..).after rfl rfl
  have hclass := Recorded.ite (c := s.clockClassNow = s.svc.clockClass) .rfl
    (hset s { s.svc with clockClass := s.clockClassNow } (src 9 2) s.svc.clockClass.toNat s.clockClassNow.toNat)
  exact .ite hclass (.ite (hclass.trans (hset ..))
    ((hclass.trans (hset ..)).trans (.foldl State.withdrawLane_recorded _ _)))

theorem State.outRaise_recorded (s : State) (b target : Nat) (value : Int) : Recorded s (s.outRaise b target value) :=
  (s.outSet_recorded _).trans (State.raise_recorded ..)

/-- An output changes and its source is raised. -/
theorem State.outTold_recorded (s : State) (o : Out) (b target : Nat) (value : Int) :
    Recorded s (({ s with out := o } : State).outRaise b target value) :=
  (s.outSet_recorded _).trans (State.outRaise_recorded ..)

theorem State.outResume_recorded (s : State) (n : Nat) : Recorded s (s.outResume n) :=
  .ite (s.outSet_recorded _) (.ite (s.outTold_recorded ..) (s.outTold_recorded ..))

theorem State.outEvalCh_recorded (s : State) (n : Nat) : Recorded s (s.outEvalCh n) :=
  .ite (s.outTold_recorded ..) (.ite (s.outTold_recorded ..) (.ite (s.outResume_recorded n)
    (.ite (s.outSet_recorded _) .rfl)))

theorem State.outEvalTp_recorded (s : State) (m : Nat) : Recorded s (s.outEvalTp m) :=
  .ite (s.outTold_recorded ..) (s.outSet_recorded _)

theorem State.outEval_recorded (s : State) : Recorded s s.outEval :=
  ((Recorded.foldl State.outEvalCh_recorded _ s).trans (.foldl State.outEvalTp_recorded _ _)).trans
    (.foldl (fun t _ => t.outSet_recorded _) _ _)

theorem State.react_recorded (s : State) : Recorded s s.react :=
  (s.outEval_recorded.trans (State.svcEval_recorded _)).trans (State.pairEval_recorded _)

/-! ### The safe state's entry (R363) -/

theorem State.setRole_recorded (s : State) (r : PairRole) : Recorded s (s.setRole r) :=
  .ite .rfl ((s.pairSet_recorded _).trans (State.raise_recorded ..))

theorem State.pairSafe_recorded (s : State) (owned : Bool) : Recorded s (s.pairSafe owned) := by
  unfold State.pairSafe
  dsimp only
  refine .ite (Recorded.trans ?_ (State.raise_recorded ..)) ?_
  all_goals exact (State.setRole_recorded _ _).after rfl rfl

theorem State.flushHost_recorded (s : State) (lane : Nat) (fs : List TxFrame) : Recorded s (s.flushHost lane fs) :=
  Recorded.foldl (f := fun s (g : TxFrame) => s.completeTx lane 6 g.slotIdx g.cookie none)
    (fun _ _ => .of_eq rfl rfl) _ s

theorem State.emptyQueue_recorded (s : State) (q : Nat) (count : Bool) : Recorded s (s.emptyQueue q count) :=
  .ite .rfl ((State.flushHost_recorded ..).after rfl rfl)

theorem State.tmgSet_recorded (s : State) (g : Tmg) : Recorded s { s with tmg := g } := .of_eq rfl rfl

theorem State.tmgSafe_recorded (s : State) : Recorded s s.tmgSafe := by
  unfold State.tmgSafe
  exact (Recorded.foldl (fun t _ => .ite (t.emptyQueue_recorded _ _) .rfl) _ s).trans (State.tmgSet_recorded _ _)

theorem State.outSafeTold_recorded (old s : State) (n : Nat) : Recorded s (old.outSafeTold s n) :=
  .ite (s.outRaise_recorded ..) .rfl

theorem State.setAccord_recorded (s : State) (t : AccordState) : Recorded s (s.setAccord t) := by
  unfold State.setAccord
  split
  · exact .rfl
  · dsimp only
    refine Recorded.trans ?_ (State.react_recorded _)
    have hlocked (r : State) : Recorded r (if t = .locked then r.raise (src 3 1) else r) :=
      .ite (State.raise_recorded ..) .rfl
    have hdrydown (r : State) : Recorded r (if t = .drydownOut then r.raise (src 3 3) 0 r.acd.ebAccord else r) :=
      .ite (State.raise_recorded ..) .rfl
    exact (((State.raise_recorded ..).trans (hlocked _)).trans (hdrydown _)).after rfl rfl

theorem State.holdStart_recorded (s : State) : Recorded s s.holdStart := by
  unfold State.holdStart State.holdBegin
  split
  · exact .rfl
  · exact .of_eq rfl rfl

theorem State.accordSafe_recorded (s : State) : Recorded s s.accordSafe := by
  have hhold : Recorded s (if s.acd.state != .cold then s.holdStart else s) := .ite s.holdStart_recorded .rfl
  have hrate (r : State) (b : Bool) : Recorded r (if b then r.setRate r.acd.freqHold else r) :=
    .ite (.of_eq rfl rfl) .rfl
  exact (hhold.trans (hrate _ _)).trans (State.setAccord_recorded _ _)

theorem State.bistClears_recorded (s : State) (m : BitVec 6) : Recorded s (s.bistClears m) := by
  have hsram : Recorded s (if has m 0 then s.bistSram else s) := .ite (.of_eq rfl rfl) .rfl
  have htic (r : State) : Recorded r (if has m 1 then r.bistTic else r) := .ite (.of_eq rfl rfl) .rfl
  have hloop (r : State) : Recorded r (if has m 2 then r.loopLoad else r) := .ite (.of_eq rfl rfl) .rfl
  exact (hsram.trans (htic _)).trans (hloop _)

theorem State.bistAbort_recorded (s : State) : Recorded s s.bistAbort := by
  unfold State.bistAbort
  split
  · exact .rfl
  next r _ =>
    exact (s.bistClears_recorded (r.begun (s.ticks - r.start))).trans ((State.raise_recorded ..).after rfl rfl)

/-- `s` with DEV_STATE `d`. -/
def State.inDev (s : State) (d : DevState) : State := { s with sys := { s.sys with devState := d } }

theorem Recorded.inDev {s t : State} (h : Recorded s t) (d : DevState) : Recorded (s.inDev d) (t.inDev d) :=
  ⟨h.safe, h.firstA, h.safeAt, h.latch, congrArg (fun y : Sys => { y with devState := d }) h.sys⟩

/-- A change of DEV_STATE changes nothing else of SYS. -/
theorem State.setDev_recorded (s : State) (d : DevState) : Recorded (s.inDev d) (s.setDev d) := by
  unfold State.setDev
  split
  next h => subst h; exact .rfl
  next =>
    have hset : Recorded (s.inDev d) ((s.inDev d).raise (src 0 0) 0 0 s.sys.devState.code.toNat d.code.toNat) :=
      State.raise_recorded ..
    exact .ite (hset.trans (State.raise_recorded ..)) hset

/-- The record of the safe state that `first` causes (R363). -/
def State.safeMark (s : State) (first : Nat) : State :=
  let s1 := { s with flt := { s.flt with
    safe := true, firstA := if s.flt.selfFail then 0 else BitVec.ofNat 8 first, safeSeq := s.flt.safeSeq + 1 } }
  let t := s1.stamp
  { s1 with flt := { s1.flt with safeAt := t.time, safeEb := t.eb, safeFlags := t.flags } }

/-- The outputs are made safe, and an echo measurement under way is given up. -/
def State.echoSafe (s : State) : State :=
  match s.out.echo with
  | some r => ({ s with out := s.out.safe } : State).echoRelease.outRaise 9 r.target.toNat
  | none => { s with out := s.out.safe }

theorem State.echoSafe_recorded (s : State) : Recorded s s.echoSafe := by
  unfold State.echoSafe
  split
  · exact (State.outRaise_recorded ..).after rfl rfl
  · exact s.outSet_recorded _

/-- What the safe state's entry does, in its order. -/
theorem State.safeEnter_eq (s : State) (first : Nat) : s.safeEnter first =
    ((((List.range 16).foldl s.outSafeTold
      (((s.safeMark first).pairSafe s.own).tmgSafe.echoSafe)).accordSafe).setDev .safe).react.bistAbort := rfl

/-- The safe state is entered: its record is made and DEV_STATE becomes SAFE; nothing that follows undoes either. -/
theorem State.safeEnter_recorded (s : State) (first : Nat) :
    Recorded ((s.safeMark first).inDev .safe) (s.safeEnter first) := by
  rw [State.safeEnter_eq]
  have hclosed := ((s.safeMark first).pairSafe_recorded s.own).trans (State.tmgSafe_recorded _)
  have hsafe := ((hclosed.trans (State.echoSafe_recorded _)).trans
    (.foldl s.outSafeTold_recorded (List.range 16) _)).trans (State.accordSafe_recorded _)
  exact (((hsafe.inDev .safe).trans (State.setDev_recorded _ _)).trans (State.react_recorded _)).trans
    (State.bistAbort_recorded _)

/-! ### Assertion (R357 to R360) -/

theorem faultNamed_lt {n : Nat} (h : faultNamed n = true) : n < 256 := by
  simp only [faultNamed, Bool.or_eq_true, Bool.and_eq_true, decide_eq_true_eq, beq_iff_eq] at h
  omega

theorem Flt.assert_latches (f : Flt) {n : Nat} (h : faultNamed n = true) (isA level : Bool) (tick : Nat) :
    has (f.assert n isA level tick).latch n = true := by
  rw [Flt.assert, has_or, has_bitAt (faultNamed_lt h), decide_eq_true rfl, Bool.or_true]

/-- Source `n` asserts now: the collector is armed, and a level source has not asserted before, or is injected. -/
structure Asserts (s : State) (n : Nat) (injected : Bool) : Prop where
  armed : s.sys.devState ≠ .boot
  named : faultNamed n = true
  fresh : faultLevel n = false ∨ has s.flt.present n = false ∨ injected = true

/-- The collector once source `n` is latched, counted and, for a level source, present. -/
def State.faultNoted (s : State) (n : Nat) (injected : Bool) : State :=
  { s with flt := s.flt.assert n (s.faultClass n == 2) (faultLevel n && !injected) s.ticks }

theorem State.faultNoted_latches (s : State) {n : Nat} (h : faultNamed n = true) (injected : Bool) :
    has (s.faultNoted n injected).flt.latch n = true := Flt.assert_latches _ h _ _ _

section Asserting

variable {s : State} {n : Nat} {injected : Bool} (h : Asserts s n injected)

include h

theorem State.faultAssert_eq : s.faultAssert n injected =
    if s.faultClass n = 2 then (s.faultNoted n injected).safeLine n injected
    else (((s.faultNoted n injected).irq (src 11 (2 - s.faultClass n))).faultEntry n (s.faultClass n)
      injected).pairEval := by
  refine if_neg ?_
  obtain ⟨harmed, hnamed, hfresh⟩ := h
  rcases hfresh with hf | hf | hf <;> simp [harmed, hnamed, hf]

/-- A class A source drives the safe-state line. -/
theorem State.faultAssert_classA (hc : s.faultClass n = 2) :
    s.faultAssert n injected = (s.faultNoted n injected).safeLine n injected :=
  (State.faultAssert_eq h).trans (if_pos hc)

/-- A source of another class is told alone. -/
theorem State.faultAssert_told (hc : s.faultClass n ≠ 2) : s.faultAssert n injected =
    (((s.faultNoted n injected).irq (src 11 (2 - s.faultClass n))).faultEntry n (s.faultClass n) injected).pairEval :=
  (State.faultAssert_eq h).trans (if_neg hc)

/-- Outside the safe state a class A source enters it (R363). -/
theorem State.faultAssert_enters (hc : s.faultClass n = 2) (hs : s.flt.safe = false) :
    Recorded (((s.faultNoted n injected).safeMark n).inDev .safe) (s.faultAssert n injected) := by
  rw [State.faultAssert_classA h hc, State.safeLine,
    if_neg (by rw [State.faultNoted, Flt.assert, hs]; exact Bool.false_ne_true)]
  exact ((State.safeEnter_recorded _ n).trans (State.irq_recorded _ _)).trans (State.logPut_recorded _ _)

/-- In the safe state a further class A source is latched, and the record stays. -/
theorem State.faultAssert_further (hc : s.faultClass n = 2) (hs : s.flt.safe = true) :
    Recorded (s.faultNoted n injected) (s.faultAssert n injected) := by
  rw [State.faultAssert_classA h hc, State.safeLine, if_pos (show (s.faultNoted n injected).flt.safe = true from hs)]
  exact State.logPut_recorded _ _

/-- Whatever its class, a source that asserts is latched. -/
theorem State.faultAssert_latches : has (s.faultAssert n injected).flt.latch n = true := by
  have hnoted := s.faultNoted_latches h.named injected
  by_cases hc : s.faultClass n = 2
  · cases hs : s.flt.safe with
    | false => exact (State.faultAssert_enters h hc hs).latch n hnoted
    | true => exact (State.faultAssert_further h hc hs).latch n hnoted
  · rw [State.faultAssert_told h hc]
    refine (Recorded.trans ?_ (State.pairEval_recorded _)).latch n hnoted
    exact (State.irq_recorded _ _).trans (State.logPut_recorded _ _)

end Asserting

/-- Settles O26: the entry into the safe state, and what a further source leaves. -/
theorem classAEntersSafe : Obligations.ClassAEntersSafe := by
  refine ⟨fun s n hb hn hc hl hs => ?enters, fun s n hb hn hc hl hs => ?further⟩
  all_goals have h : Asserts s n false := ⟨hb, hn, hl.imp_right .inl⟩
  case enters =>
    have hr := State.faultAssert_enters h hc hs
    refine ⟨hr.safe, congrArg Sys.devState hr.sys, State.faultAssert_latches h,
      fun hf => hr.firstA.trans (if_neg ?_)⟩
    rw [State.faultNoted, Flt.assert, hf]
    exact Bool.false_ne_true
  case further =>
    have hr := State.faultAssert_further h hc hs
    exact ⟨hr.safe.trans hs, congrArg Sys.devState hr.sys, State.faultAssert_latches h, hr.firstA, hr.safeAt⟩

/-- Settles O14: an injection asserts its source as a real assertion does, and its parameter names a source. -/
theorem faultInjection : Obligations.FaultInjection := by
  have hasserts {s : State} {n : Nat} (hb : s.sys.devState ≠ .boot) (hn : faultNamed n = true) : Asserts s n true :=
    ⟨hb, hn, .inr (.inr rfl)⟩
  refine ⟨fun p s h => packet_completes h rfl, fun s n hb hn => State.faultAssert_latches (hasserts hb hn),
    fun s n hb hn hc => ?told, fun s n hb hn hc hs => ?classA, fun p s hf hl hm => ?refused⟩
  case told =>
    have hne : s.faultClass n ≠ 2 := Nat.ne_of_lt hc
    rw [State.faultAssert_told (hasserts hb hn) hne, State.faultNoted, beq_false_of_ne hne,
      Bool.not_true, Bool.and_false]
  case classA =>
    have hr := State.faultAssert_enters (hasserts hb hn) hc hs
    exact ⟨hr.safe, congrArg Sys.devState hr.sys⟩
  case refused =>
    intro u hn
    refine exec_badParam (o := specFltInject) (p := p) rfl hf (by decide) ?length ⟨hm, rfl⟩ ?params
    case length => simp [LenOk, hl, specFltInject]
    case params => rcases hn with hn | hn <;> simp [ParamsOk, specFltInject, hn]

end Sys2Proof.Machine
end

section
/-! SUPPORT. Events of the fault collector, tamper, the self-test and the test port (R351, R357 to R365, R409 to R418):
each event under the guards that its rule names. -/

namespace Sys2Proof.Machine

open Host

/-! ### The test port (R413, R414) -/

section TestPort

variable {dt : Nat} {code : BitVec 8} {s : State} (ho : tapOpen code.toNat = false)

include ho

/-- An accepted instruction of the scan set is in force. -/
theorem exec_tapInstruction_scans (hs : tapScan code.toNat = true) (hk : (s.advance dt).scanOk = true) :
    exec (.tapInstruction dt code) s =
      .next (((s.advance dt).modBlt fun b => { b with ir := code, scanActive := true }).raise (src 15 28)) :=
  (next_of_not_guard (Bool.eq_false_iff.1 ho) _ _).trans (next_of_guard (Bool.and_eq_true_iff.2 ⟨hs, hk⟩) _ _)

/-- Any other instruction is a probe: BYPASS is in force, and without the scope SCAN it is a tamper source. -/
theorem exec_tapInstruction_probes (hs : tapScan code.toNat = false ∨ (s.advance dt).scanOk = false) :
    exec (.tapInstruction dt code) s =
      let v := ((s.advance dt).modBlt fun b => { b with ir := 0xFF, scanActive := false, probes := b.probes + 1 }).raise
        (src 15 26)
      .next (if has (s.advance dt).bltScope 2 then v else v.tamper 11) := by
  have hk : ¬ (tapScan code.toNat && (s.advance dt).scanOk) = true := by rcases hs with hs | hs <;> simp [hs]
  exact (next_of_not_guard (Bool.eq_false_iff.1 ho) _ _).trans (next_of_not_guard hk _ _)

end TestPort

/-- A self-test whose targets have run their time ends with those that failed (R416). -/
theorem exec_bistDone_due {dt : Nat} {fail : BitVec 6} {s : State} {r : BistRun} (hr : (s.advance dt).blt.bist = some r)
    (ht : r.start + r.begins 6 ≤ (s.advance dt).ticks) :
    exec (.bistDone dt fail) s =
      let f : BitVec 6 := fail &&& r.mask
      .next ((((s.advance dt).bistEffects r.mask f).modBlt fun b => { b with
        bist := none, bistValid := true, bistStatus := if f = 0 then 0 else 1, bistFail := f
        bistSeq := b.bistSeq + 1 }).raise (src 15 27) 0 f.toNat) := by
  simp only [exec, execBistDone]
  rw [hr]
  exact if_neg (Nat.not_lt.2 ht)

/-- Settles O50: each event under its guard. -/
theorem faultEventsRun : Obligations.FaultEventsRun := by
  refine ⟨fun dt n inst s => ⟨?assert, ?tap, ?watchdog⟩, ?selfFail, fun _ _ => rfl, fun _ _ => rfl, ?tamper,
    fun dt code s => ⟨fun ho => next_of_guard ho _ _, exec_tapInstruction_scans, exec_tapInstruction_probes⟩,
    fun _ _ => rfl, fun _ _ _ _ => exec_bistDone_due⟩
  case assert =>
    intro h0 h3 h8
    exact (next_of_not_guard h0 _ _).trans ((next_of_not_guard h8 _ _).trans (next_of_not_guard h3 _ _))
  case tap => rintro rfl; rfl
  case watchdog => rintro rfl; rfl
  case selfFail =>
    intro dt s u hb hf v
    exact next_of_not_guard (c := (decide (u.sys.devState = .boot) || u.flt.selfFail) = true)
      (by rw [decide_eq_false hb, hf]; decide) _ _
  case tamper =>
    intro dt n s
    exact ⟨next_of_guard (c := true = true) rfl _ _, next_of_not_guard (c := false = true) Bool.false_ne_true _ _⟩

end Sys2Proof.Machine
end

section
/-! SUPPORT. Events of the pair (R366 to R382): each event under the guards that its rule names. -/

namespace Sys2Proof.Machine

open Host

/-! ### Rounds (R373, R374) -/

/-- A claiming chip starts a round where none runs. -/
theorem State.roundNow_starts {u : State} (hc : u.claimNow ≠ 0) (hr : u.pair.inRound = false)
    (hd : u.ready pdPair = true) :
    u.roundNow = { u with pair := { u.pair with
      inRound := true, roundTick := u.ticks, roundClaim := u.claimNow, lineEdgeTick := u.ticks
      lineEdgeSeen := true } } :=
  (if_neg hc).trans (if_neg (by rw [hr, hd]; decide))

section RoundEnd

variable {dt : Nat} {peer : BitVec 13} {testLow endLow : Bool} {s : State}

/-- A round that has run its length is void, or counts and goes to the higher claim. -/
theorem exec_claimRoundEnd_ends (hr : (s.advance dt).pair.inRound = true) (hd : (s.advance dt).ready pdPair = true)
    (ht : (s.advance dt).pair.roundTick + roundTicks ≤ (s.advance dt).ticks) :
    exec (.claimRoundEnd dt peer testLow endLow) s =
      let u := s.advance dt
      let p := u.pair
      let t := u.lineBad (decide (p.roundClaim < peer)) testLow endLow
      let v := { u with pair := { p with inRound := false, rounds := p.rounds + 1, claim := p.roundClaim } }.lineTest t
      let won := if has p.roundClaim 12 && decide (peer ≤ p.roundClaim) then v.handoverFails.roundWon else v
      .next (if endLow then { u with pair := { p with inRound := false, roundsVoid := p.roundsVoid + 1 } }.lineTest t
        else if has peer 12 && decide (p.roundClaim ≤ peer) then won.roundLost else won) := by
  have hg : ¬ (!(s.advance dt).pair.inRound || !(s.advance dt).ready pdPair ||
      decide ((s.advance dt).ticks < (s.advance dt).pair.roundTick + roundTicks)) = true := by
    rw [hr, hd, decide_eq_false (Nat.not_lt.2 ht)]
    decide
  exact next_of_not_guard hg _ _

end RoundEnd

/-! ### The standby's self-test (R379) -/

/-- The test is due: none has run, or the last ran a minute ago. -/
def State.calTestDue (u : State) : Bool :=
  match u.pair.calTestTick with
  | some t => decide (t + 60 * sTicks ≤ u.ticks)
  | none => true

theorem State.calTestDue_of {u : State} (h : ∀ t, u.pair.calTestTick = some t → t + 60 * sTicks ≤ u.ticks) :
    u.calTestDue = true := by
  unfold State.calTestDue
  split
  next t ht => exact decide_eq_true (h t ht)
  next => rfl

/-! ### The events -/

/-- Settles O59: each event under its guard, the end of a round by which claim is the higher. -/
theorem pairEventsRun : Obligations.PairEventsRun := by
  refine ⟨?window, ?start, ?sof, ?roundEnd, ?instant, ?lapse, ?first, ?health, ?execute, ?linkUp, ?laneDown,
    ?linkLoss, ?safe, ?outBad, ?handover, ?rejoin, ?send, ?frame, ?calTest⟩
  case window =>
    intro dt e s u k ms xs v hms
    refine ⟨fun hx => ?empty, fun hen hd hx ho => ?evaluated⟩
    case empty =>
      have hg : (!(u.pcmpCfg k).en || !u.ready pdPair || xs.isEmpty) = true := by
        rw [List.isEmpty_iff.2 hx, Bool.or_true]
      exact (next_of_not_guard hms _ _).trans (next_of_guard hg _ _)
    case evaluated =>
      have hg : ¬ (!(u.pcmpCfg k).en || !u.ready pdPair || xs.isEmpty) = true := by
        rw [hen, hd, List.isEmpty_eq_false_iff.2 hx]
        decide
      refine (next_of_not_guard hms _ _).trans ((next_of_not_guard hg _ _).trans ?_)
      have hentry {b : Bool} (h : u.own = b) :
          (.next (v.entryWindow k b xs) : Res) = .next (v.entryWindow k u.own xs) := by rw [h]
      by_cases hown : u.own = true
      · exact (next_of_guard hown _ _).trans (hentry hown)
      · exact (next_of_not_guard hown _ _).trans
          ((next_of_guard (ho.resolve_left hown) _ _).trans (hentry (Bool.eq_false_iff.2 hown)))
  case start =>
    intro dt s u ht hc hr hd
    have hg : (decide (u.pair.roundTick + 4 * usTicks ≤ u.ticks) || decide (u.pair.roundTick = 0)) = true := by
      rwa [Bool.or_eq_true, decide_eq_true_eq, decide_eq_true_eq]
    exact (next_of_guard hg _ _).trans (congrArg Outcome.next (State.roundNow_starts hc hr hd))
  case sof =>
    intro dt s u hd hrole hr v
    refine (next_of_not_guard (c := (!u.ready pdPair) = true) (by rw [hd]; decide) _ _).trans ?_
    refine (next_of_not_guard (c := (u.pair.role == .solo) = true) (by rw [beq_false_of_ne hrole]; decide) _ _).trans ?_
    exact next_of_not_guard (c := (u.pair.inRound || !u.ready pdPair) = true) (by rw [hr, hd]; decide) _ _
  case roundEnd =>
    intro dt peer testLow endLow s u p hr hd ht t
    have hend := exec_claimRoundEnd_ends (peer := peer) (testLow := testLow) (endLow := endLow) hr hd ht
    refine ⟨fun he => hend.trans (next_of_guard he _ _), ?_⟩
    intro v he
    have hcounts := hend.trans (next_of_not_guard (Bool.eq_false_iff.1 he) _ _)
    refine ⟨fun hc hlt => ?won, fun hc hlt => ?lost, fun hp hc => ?neither⟩
    case won =>
      have hlose : ¬ (has peer 12 && decide (p.roundClaim ≤ peer)) = true := by
        rw [decide_eq_false (BitVec.not_le.2 hlt), Bool.and_false]
        decide
      have hwin := Bool.and_eq_true_iff.2 ⟨hc, decide_eq_true (BitVec.le_of_lt hlt)⟩
      exact hcounts.trans ((next_of_not_guard hlose _ _).trans (next_of_guard hwin _ _))
    case lost =>
      have hlose := Bool.and_eq_true_iff.2 ⟨hc, decide_eq_true (BitVec.le_of_lt hlt)⟩
      have hwin : ¬ (has p.roundClaim 12 && decide (peer ≤ p.roundClaim)) = true := by
        rw [decide_eq_false (BitVec.not_le.2 hlt), Bool.and_false]
        decide
      exact hcounts.trans ((next_of_guard hlose _ _).trans
        (congrArg (fun x : State => Outcome.next x.roundLost) (if_neg hwin)))
    case neither =>
      have hlose : ¬ (has peer 12 && decide (p.roundClaim ≤ peer)) = true := by rw [hp, Bool.false_and]; decide
      have hwin : ¬ (has p.roundClaim 12 && decide (peer ≤ p.roundClaim)) = true := by rw [hc, Bool.false_and]; decide
      exact hcounts.trans ((next_of_not_guard hlose _ _).trans (next_of_not_guard hwin _ _))
  case instant =>
    intro dt s u hp ht hd hg v
    have hdue : ¬ (!u.pair.hPending || decide (u.ticks < u.pair.hTick) || !u.ready pdPair) = true := by
      rw [hp, hd, decide_eq_false (Nat.not_lt.2 ht)]
      decide
    have hkept : ¬ (!u.pair.hGain && u.pair.handoverPending) = true := by
      rcases hg with hg | hg
      · rw [hg, Bool.not_true, Bool.false_and]; decide
      · rw [hg, Bool.and_false]; decide
    exact (next_of_not_guard hdue _ _).trans (next_of_not_guard hkept _ _)
  case lapse =>
    intro dt s u ho hr ht v
    have hg : (u.pair.own && u.pair.role == .active && decide (u.pair.leaseTick + 10 * usTicks ≤ u.ticks)) = true := by
      rw [ho, hr, decide_eq_true ht]
      rfl
    exact next_of_guard hg _ _
  case first =>
    intro dt s u hd hr hs hl
    have hrole : (u.pair.role == .active || u.pair.role == .standby) = true := by
      rwa [Bool.or_eq_true, beq_iff_eq, beq_iff_eq]
    have hseen : ((u.pair.linkUp && u.pair.peerSide == some (!u.fuse.pairSide)) ||
        decide (u.pair.readyTick + u.cfg.pair.linkWaitMs.toNat * msTicks ≤ u.ticks)) = true := by
      rwa [Bool.or_eq_true, Bool.and_eq_true, beq_iff_eq, decide_eq_true_eq]
    have hg : (u.ready pdPair && (u.pair.role == .active || u.pair.role == .standby) && !u.pair.started &&
        ((u.pair.linkUp && u.pair.peerSide == some (!u.fuse.pairSide)) ||
          decide (u.pair.readyTick + u.cfg.pair.linkWaitMs.toNat * msTicks ≤ u.ticks))) = true := by
      rw [hd, hrole, hs, hseen]
      rfl
    exact next_of_guard hg _ _
  case health =>
    intro dt b s u k hd hk hraw hh ht
    have hg : (u.ready pdPair && decide (k < 6) && has u.pair.raw k && !has u.pair.health k &&
        decide (Tab.get u.pair.rawSince k 0 + u.cfg.pair.healthHoldMs.toNat * msTicks ≤ u.ticks)) = true := by
      rw [hd, decide_eq_true hk, hraw, hh, decide_eq_true ht]
      rfl
    exact next_of_guard hg _ _
  case execute =>
    intro dt s u hd ht
    have hdue : ¬ (!u.ready pdPair || decide (u.now16 < taiNat u.pair.handoverAt)) = true := by
      rw [hd, decide_eq_false (Nat.not_lt.2 ht)]
      decide
    refine ⟨fun hp hi => ?_, fun hp hi => ?_⟩
    · exact (next_of_not_guard hdue _ _).trans (next_of_guard (Bool.and_eq_true_iff.2 ⟨hp, hi⟩) _ _)
    · have hnone : ¬ (u.pair.handoverPending && u.pair.incumbent) = true := by rw [hp, Bool.false_and]; decide
      exact (next_of_not_guard hdue _ _).trans ((next_of_not_guard hnone _ _).trans (next_of_guard hi _ _))
  case linkUp =>
    intro dt lane side s u hd hs v
    have hg : ¬ (!u.ready pdPair || u.sys.devState == .sleep) = true := by
      rw [hd, beq_false_of_ne hs]
      decide
    refine ⟨fun hl => (next_of_not_guard hg _ _).trans ?_, fun hl => (next_of_not_guard hg _ _).trans ?_⟩
    · have hdown := Bool.eq_false_iff.1 hl
      exact (next_of_not_guard hdown _ _).trans (congrArg (fun x : State => Outcome.next x.sideCheck.benitSpare)
        (if_neg hdown))
    · exact (next_of_guard hl _ _).trans (congrArg (fun x : State => Outcome.next x.sideCheck) (if_pos hl))
  case laneDown =>
    intro dt lane s u m hd hm h0
    have hg : ¬ (!u.ready pdPair || decide (m = u.pair.lanesUp) || decide (m = 0)) = true := by
      rw [hd, decide_eq_false hm, decide_eq_false h0]
      decide
    exact next_of_not_guard hg _ _
  case linkLoss =>
    exact fun dt s hl => next_of_not_guard (c := (!(s.advance dt).pair.linkUp) = true) (by rw [hl]; decide) _ _
  case safe =>
    exact fun dt s hl => next_of_not_guard (c := (!(s.advance dt).pair.linkUp) = true) (by rw [hl]; decide) _ _
  case outBad =>
    intro dt target bad s u hl ht v
    have hg : ¬ (!u.pair.linkUp || decide (20 ≤ target.toNat)) = true := by
      rw [hl, decide_eq_false (Nat.not_le.2 ht)]
      decide
    exact ⟨fun hb => (next_of_not_guard hg _ _).trans (next_of_guard hb _ _),
      fun hb => (next_of_not_guard hg _ _).trans (next_of_not_guard (not_not.2 hb) _ _)⟩
  case handover =>
    intro dt at_ s u hl hr
    exact next_of_not_guard (c := (!u.pair.linkUp || u.pair.role != .standby) = true) (by rw [hl, hr]; decide) _ _
  case rejoin =>
    exact fun dt s hl => next_of_not_guard (c := (!(s.advance dt).pair.linkUp) = true) (by rw [hl]; decide) _ _
  case send =>
    intro dt s u ms hd hl hs
    have hg : ¬ (!u.ready pdPair || !u.pair.linkUp || decide (u.pair.sentMs = some ms)) = true := by
      rw [hd, hl, decide_eq_false hs]
      decide
    exact next_of_not_guard hg _ _
  case frame =>
    intro dt lane0 lane1 f s u hd hl x v
    exact next_of_not_guard (c := (!u.ready pdPair || !u.pair.linkUp) = true) (by rw [hd, hl]; decide) _ _
  case calTest =>
    intro dt bad s u hd ht hr hdue v
    have hg : ¬ (!u.calTestDue || !u.ready pdPair || !u.ready pdTic ||
        (u.pair.role != .standby && u.pair.role != .active)) = true := by
      rw [State.calTestDue_of hdue, hd, ht]
      rcases hr with hr | hr <;> rw [hr] <;> decide
    exact next_of_not_guard hg _ _

end Sys2Proof.Machine
end

section
/-! SUPPORT. Events of supplies, temperatures, mains, the keep and the calendar (R386 to R408): each event under the
guards that its rule names. -/

namespace Sys2Proof.Machine

open Host

/-- A condition of MAINS_RANGE that has held for a second (R389). -/
theorem State.rangeHeld_iff {u : State} : u.rangeHeld = true ↔
    ∃ i, i < 3 ∧ has u.mon.rangeBad i = true ∧ Tab.get u.mon.rangeSince i 0 + sTicks ≤ u.ticks := by
  simp [State.rangeHeld]

/-- Settles O60: each event under its guard. -/
theorem monitorEventsRun : Obligations.MonitorEventsRun := by
  refine ⟨fun _ _ _ => rfl, ?supply, fun _ _ _ => rfl, fun _ _ _ => rfl, ?clear, fun _ _ _ => rfl, fun _ _ _ => rfl,
    ?gap, ?range, ?scrub, ?scrubDone, ?sync, ?trim, fun _ _ => rfl, fun _ _ => rfl⟩
  case supply =>
    intro dt r s u k ht
    have hdue := decide_eq_true ht
    refine ⟨fun hk => ?rail, fun hk => ?vbat⟩
    case rail =>
      have hlow : (decide (k = 7) && u.supLow 7 (Tab.get u.mon.supMv 7 0)) = false := by
        rw [decide_eq_false hk, Bool.false_and]
      have hout : (has u.mon.supOut k && !(decide (k = 7) && u.supLow 7 (Tab.get u.mon.supMv 7 0))) =
          has u.mon.supOut k := by rw [hlow, Bool.not_false, Bool.and_true]
      exact (next_of_guard hdue _ _).trans ((next_of_not_guard hk _ _).trans
        (congrArg (fun b => Outcome.next (u.supWarnIs k b)) hout))
    case vbat =>
      intro low
      have hlow : (decide (k = 7) && low) = low := by rw [decide_eq_true hk, Bool.true_and]
      refine (next_of_guard hdue _ _).trans ((next_of_guard hk _ _).trans ?_)
      refine (congrArg (fun b => Outcome.next ((u.supWarnIs k (has u.mon.supOut k && !b)).vbatLowIs
        (has u.mon.supOut k && b))) hlow).trans ?_
      rw [hk]
  case clear =>
    intro dt s u hp hc ht v
    have hg : (u.mon.pfw && u.pfwClearOk &&
        decide (u.mon.clearSince + u.cfg.mon.pfwClearMs.toNat * msTicks ≤ u.ticks)) = true := by
      rw [hp, hc, decide_eq_true ht]
      rfl
    exact next_of_guard hg _ _
  case gap =>
    intro dt s u hg ht s1
    have hdue : ¬ (u.mon.gapOut ||
        decide (u.ticks < u.mon.lastCross + u.cfg.mon.pfwGapMs.toNat * msTicks)) = true := by
      rw [hg, decide_eq_false (Nat.not_lt.2 ht)]
      decide
    exact next_of_not_guard hdue _ _
  case range =>
    intro dt s u hm hr
    have hg : (!u.mon.mainsRange && u.rangeHeld) = true := by
      rw [hm, State.rangeHeld_iff.2 hr]
      rfl
    exact next_of_guard hg _ _
  case scrub =>
    intro dt s u h h0 hb hp ht
    have hg : (decide (h ≠ 0) && !u.keep.scrubBusy && !u.mon.pfw &&
        decide (u.keep.lastScrub + h * 3600 * sTicks ≤ u.ticks)) = true := by
      rw [decide_eq_true h0, hb, hp, decide_eq_true ht]
      rfl
    exact next_of_guard hg _ _
  case scrubDone =>
    intro dt r s u hb v k w
    exact next_of_not_guard (c := (!u.keep.scrubBusy) = true) (by rw [hb]; decide) _ _
  case sync =>
    intro dt s u hs hd hx hb sec v run dev ds s1
    have hg : ¬ (!u.calSyncing || !u.ready pdTime || !u.vbat.xtalOk || !u.secondBegins) = true := by
      rw [hs, hd, hx, hb]
      decide
    exact next_of_not_guard hg _ _
  case trim =>
    intro dt s u c ha hr t x s1
    have hg : ¬ (!c.autoTrim || decide (u.vbat.syncRun < 1024)) = true := by
      rw [ha, decide_eq_false (Nat.not_lt.2 hr)]
      decide
    exact next_of_not_guard hg _ _

end Sys2Proof.Machine
end

section
/-! SUPPORT. What a tamper leaves (R351, R352). The KEY command that it stops may have drawn a seal, so the seal's
conjunct of `TamperZeroes` turns on values of `Config`, of which nothing can be proved: `tamperZeroes_iff` says on which. -/

namespace Sys2Proof.Machine

open Host

/-! ### Logging keeps the LOG engine's key -/

/-- The LOG engine's key stays as it is. -/
def LskKept (s t : State) : Prop := t.log.lskOn = s.log.lskOn

theorem LskKept.rfl {s : State} : LskKept s s := Eq.refl _

theorem LskKept.trans {a b c : State} (h : LskKept a b) (k : LskKept b c) : LskKept a c := Eq.trans k h

theorem LskKept.ite {c : Prop} [Decidable c] {s a b : State} (h : LskKept s a) (k : LskKept s b) :
    LskKept s (if c then a else b) := by split <;> assumption

theorem State.mirrorCopy_lsk (s : State) (e : LogEntry) : LskKept s (s.mirrorCopy e) := .ite (.ite .rfl .rfl) .rfl

theorem State.logRaw_lsk (s : State) (e : LogEntry) : LskKept s (s.logRaw e) := by
  unfold State.logRaw
  dsimp only
  refine LskKept.trans ?_ (State.mirrorCopy_lsk _ _)
  split
  · exact .ite .rfl .rfl
  · exact .rfl

theorem State.logSig_lsk (s : State) (typ : Nat) (v : BitVec 256) : LskKept s (s.logSig typ v) :=
  .ite .rfl (s.logRaw_lsk _)

section
variable {put : State → LogEntry → State} (h : ∀ s e, LskKept s (put s e))
include h

theorem State.persistHead_lsk (s : State) (b : Bool) : LskKept s (s.persistHead put b) := by
  refine .ite ?_ .rfl
  refine LskKept.trans ?_ (h _ _)
  refine LskKept.trans ?_ (h _ _)
  exact .rfl

theorem State.ckPersist_lsk (s : State) : LskKept s (s.ckPersist put) := .ite .rfl (s.persistHead_lsk h false)

theorem State.ckOrderly_lsk (s : State) : LskKept s (s.ckOrderly put) := .ite (State.persistHead_lsk h _ true) .rfl

omit h in
theorem State.ckUnsigned_lsk (s : State) (b : Bool) : LskKept s (s.ckUnsigned b) := by
  have k : LskKept s ((s.logSig 0x0A 0).logSig 0x0B 0) := (s.logSig_lsk _ _).trans (State.logSig_lsk _ _ _)
  have kirq {t : State} {n : Nat} (ht : LskKept s t) : LskKept s (t.irq n) := ht
  exact .ite .rfl (.ite (kirq (.ite k (kirq k))) (.ite k (kirq k)))

theorem State.ckWrite_lsk (s : State) (b : Bool) : LskKept s (s.ckWrite put b) := by
  have henter : LskKept s (s.ckEnter b) := s.logRaw_lsk _
  exact .ite .rfl (((henter.trans (State.ckPersist_lsk h _)).trans (State.ckUnsigned_lsk _ _)).trans
    (State.ckOrderly_lsk h _))

theorem State.logLevel_lsk (s : State) : LskKept s (s.logLevel put) := by
  have hentry (l : BitVec 3) : LskKept s (s.levelEntry put l) := by
    unfold State.levelEntry
    have hput (t : State) (e : LogEntry) (ht : LskKept s t) : LskKept s (put t e) := ht.trans (h t e)
    exact hput _ _ (.ite .rfl .rfl)
  have hfault (t : State) (a b : BitVec 3) : LskKept t (t.levelFault put a b) := .ite (h _ _) (.ite .rfl .rfl)
  have hfall (t : State) (a : BitVec 3) : LskKept t (t.levelFallback a) := .ite .rfl .rfl
  exact .ite .rfl (((hentry _).trans (hfault _ _ _)).trans (hfall _ _))

end

theorem State.logPutN_lsk (n : Nat) : ∀ (s : State) (e : LogEntry), LskKept s (s.logPutN n e) := by
  induction n with
  | zero => intro s e; exact .ite (s.logRaw_lsk e) .rfl
  | succ n ih =>
    intro s e
    have k := (s.logRaw_lsk e).trans (State.logLevel_lsk ih _)
    exact .ite (.ite .rfl .rfl)
      (.ite (.ite (k.trans ((State.ckWrite_lsk ih _ _).trans (State.logLevel_lsk ih _))) k) .rfl)

/-! ### What reports alone leave -/

/-- `t` has the secrets, the configuration, the device's state and the accord's count of `s`. -/
structure Reported (s t : State) : Prop where
  vbat : t.vbat = s.vbat
  key : t.key = s.key
  lsk : t.log.lskOn = s.log.lskOn
  sys : t.sys = s.sys
  cfg : t.cfg = s.cfg
  count : t.acd.count = s.acd.count

theorem Reported.rfl {s : State} : Reported s s := by constructor <;> exact Eq.refl _

theorem Reported.trans {a b c : State} (h : Reported a b) (k : Reported b c) : Reported a c :=
  ⟨k.vbat.trans h.vbat, k.key.trans h.key, k.lsk.trans h.lsk, k.sys.trans h.sys, k.cfg.trans h.cfg,
    k.count.trans h.count⟩

theorem Reported.ite {c : Prop} [Decidable c] {s a b : State} (h : Reported s a) (k : Reported s b) :
    Reported s (if c then a else b) := by split <;> assumption

theorem Reported.of_still {s t : State} (h : Still s t) (hl : LskKept s t) : Reported s t :=
  ⟨h.vbat, h.key, hl, h.sys, h.cfg, congrArg Acd.count h.acd⟩

theorem State.irq_reported (s : State) (n : Nat) : Reported s (s.irq n) := .of_still (s.irq_still n) .rfl

theorem State.logPut_reported (s : State) (e : LogEntry) : Reported s (s.logPut e) :=
  .of_still (s.logPut_still e) (s.logPutN_lsk 6 e)

theorem State.raise_reported (s : State) (so subject : Nat) (value : Int) (old new : Nat) :
    Reported s (s.raise so subject value old new) :=
  .ite ((s.irq_reported so).trans (State.logPut_reported _ _)) (s.irq_reported so)

theorem State.pairEval_reported (s : State) : Reported s s.pairEval := by
  have hpair (p : Pair) : Reported s { s with pair := p } := by constructor <;> rfl
  exact .ite .rfl (.ite (hpair _) ((hpair _).trans (State.raise_reported ..)))

/-- A source below class A is latched, told and counted (R357). -/
theorem State.faultAssert_reported {s : State} {n : Nat} (h : s.faultClass n < 2) : Reported s (s.faultAssert n) := by
  have hlatch (f : Flt) : Reported s { s with flt := f } := by constructor <;> rfl
  have hput (f : Flt) (i : Nat) (e : LogEntry) : Reported s ((({ s with flt := f } : State).irq i).logPut e).pairEval :=
    (((hlatch f).trans (State.irq_reported _ i)).trans (State.logPut_reported _ e)).trans (State.pairEval_reported _)
  refine .ite .rfl ?_
  dsimp only
  rw [if_neg (Nat.ne_of_lt h)]
  exact hput _ _ _

theorem State.endUnlock_reported (s : State) : Reported s s.endUnlock := by
  have hlock (b : Blt) : Reported s { s with blt := b } := by constructor <;> rfl
  exact .ite .rfl ((hlock _).trans (State.raise_reported ..))

/-- What the self-test's targets clear is no secret and no part of the accord's count (R416). -/
theorem State.bistClears_reported (s : State) (m : BitVec 6) : Reported s (s.bistClears m) := by
  unfold State.bistClears
  dsimp only
  refine .ite ?loop ?tests
  case tests => constructor <;> (repeat' split) <;> rfl
  case loop => constructor <;> (simp only [State.loopLoad]; (repeat' split) <;> rfl)

theorem State.bistAbort_reported (s : State) : Reported s s.bistAbort := by
  unfold State.bistAbort
  split
  next => exact .rfl
  next r _ =>
    dsimp only
    refine Reported.trans (.trans (s.bistClears_reported (r.begun (s.ticks - r.start))) ?_) (State.raise_reported ..)
    constructor <;> rfl

/-- The entry, the fault and the ends of an unlock and a self-test report a tamper and do no more (R351, R411, R416). -/
def State.tamperTold (s : State) (n : Nat) (busy : Bool) : State :=
  let s6 := ((s.irq (src 10 1)).faultAssert 192).endUnlock.bistAbort
  s6.logPut (tamperEntry s6 n s6.vbat.tamperTime false busy false)

theorem State.tamperTold_reported {s : State} (h : s.faultClass 192 < 2) (n : Nat) (busy : Bool) :
    Reported s (s.tamperTold n busy) :=
  ((((s.irq_reported _).trans (State.faultAssert_reported h)).trans (State.endUnlock_reported _)).trans
    (State.bistAbort_reported _)).trans (State.logPut_reported _ _)

/-! ### Slots (R295, R337) -/

/-- `t` has the secrets of `s` but those in its key slots, of which none is filled that `s` has not. -/
structure SlotsFall (s t : State) : Prop where
  vbat : t.vbat = s.vbat
  key : ∃ v, t.key = { s.key with slots := v }
  loaded : ∀ k, (t.kslot k).loaded = true → (s.kslot k).loaded = true
  lsk : t.log.lskOn = s.log.lskOn
  sys : t.sys = s.sys
  cfg : t.cfg = s.cfg
  count : t.acd.count = s.acd.count

theorem Reported.slotsFall {s t : State} (h : Reported s t) : SlotsFall s t :=
  ⟨h.vbat, ⟨s.key.slots, h.key⟩, fun k hk => by rwa [State.kslot, h.key] at hk, h.lsk, h.sys, h.cfg, h.count⟩

theorem SlotsFall.trans {a b c : State} (h : SlotsFall a b) (k : SlotsFall b c) : SlotsFall a c := by
  obtain ⟨v, hv⟩ := h.key
  obtain ⟨w, hw⟩ := k.key
  exact ⟨k.vbat.trans h.vbat, ⟨w, by rw [hw, hv]⟩, fun i hi => h.loaded i (k.loaded i hi), k.lsk.trans h.lsk,
    k.sys.trans h.sys, k.cfg.trans h.cfg, k.count.trans h.count⟩

/-- A fold whose steps only report only reports. -/
theorem Reported.foldl {α : Type} {f : State → α → State} (h : ∀ s a, Reported s (f s a)) (l : List α) (s : State) :
    Reported s (l.foldl f s) := by
  induction l generalizing s with
  | nil => exact .rfl
  | cons a l ih => exact (h s a).trans (ih _)

theorem State.sppLost_reported (s : State) (i : Nat) : Reported s (s.sppLost i) := by
  refine Reported.trans ?_ (State.raise_reported ..)
  constructor <;> rfl

/-- A slot is emptied, and no other changes. -/
theorem State.zeroSlot_falls (s : State) {k : Nat} (hk : k < 64) :
    SlotsFall s (s.zeroSlot k) ∧ ((s.zeroSlot k).kslot k).loaded = false := by
  unfold State.zeroSlot
  split
  case isTrue he => exact ⟨Reported.rfl.slotsFall, by simpa [State.kslot] using he⟩
  case isFalse =>
    let e : State := { s with key := { s.key with slots := Tab.mod s.key.slots k KeySlot.cleared } }
    have htold := (State.raise_reported e (src 10 3) k 0 0 0).trans (Reported.foldl
      (fun t i => Reported.ite (c := t.activeSlot i = some k) (t.sppLost_reported i) .rfl) (List.range 16) _)
    have hslot (j : Nat) : (e.kslot j).loaded = if k = j ∧ j < 64 then false else (s.kslot j).loaded := by
      simp only [e, State.kslot, tabGet_mod]
      split <;> rfl
    have hfall : SlotsFall s e := by
      refine ⟨rfl, ⟨_, rfl⟩, fun j hj => ?_, rfl, rfl, rfl, rfl⟩
      rw [hslot] at hj
      split at hj
      · exact absurd hj Bool.false_ne_true
      · exact hj
    refine ⟨hfall.trans htold.slotsFall, ?_⟩
    exact Bool.eq_false_iff.2 fun hl => absurd (htold.slotsFall.loaded k hl) (by rw [hslot, if_pos ⟨rfl, hk⟩]; decide)

/-- Every slot that is named is emptied. -/
theorem foldl_zeroSlot_falls (l : List Nat) (hl : ∀ k ∈ l, k < 64) (s : State) :
    SlotsFall s (l.foldl State.zeroSlot s) ∧ ∀ k ∈ l, ((l.foldl State.zeroSlot s).kslot k).loaded = false := by
  induction l generalizing s with
  | nil => exact ⟨Reported.rfl.slotsFall, fun _ h => absurd h List.not_mem_nil⟩
  | cons a l ih =>
    obtain ⟨hfall, hempty⟩ := s.zeroSlot_falls (hl a List.mem_cons_self)
    obtain ⟨hrest, hall⟩ := ih (fun k hk => hl k (List.mem_cons_of_mem _ hk)) (s.zeroSlot a)
    refine ⟨hfall.trans hrest, fun k hk => ?_⟩
    rcases List.mem_cons.1 hk with rfl | hk
    · exact Bool.eq_false_iff.2 fun h => absurd (hrest.loaded _ h) (by rw [hempty]; decide)
    · exact hall k hk

theorem State.zeroSlots_all (s : State) : s.zeroSlots (BitVec.allOnes 64) = (List.range 64).foldl State.zeroSlot s := by
  refine List.foldl_ext _ _ _ fun t k hk => if_pos ?_
  rw [has, BitVec.getLsbD_allOnes]
  exact decide_eq_true (List.mem_range.1 hk)

theorem State.kslot_past {k : Nat} (hk : 64 ≤ k) (s : State) : s.kslot k = KeySlot.reset :=
  List.getD_eq_default _ _ (by rw [Vector.length_toList]; exact hk)

theorem State.zeroKeys_falls (s : State) : SlotsFall s s.zeroKeys ∧ ∀ k, (s.zeroKeys.kslot k).loaded = false := by
  obtain ⟨hfall, hempty⟩ := foldl_zeroSlot_falls (List.range 64) (fun k hk => List.mem_range.1 hk) s
  rw [← State.zeroSlots_all] at hfall hempty
  have hcookies (v : Vector Cookie 8) (t : State) : Reported t { t with svc := { t.svc with cookies := v } } := by
    constructor <;> rfl
  have hkeys := (hcookies (Vector.replicate 8 Cookie.reset) (s.zeroSlots (BitVec.allOnes 64))).slotsFall
  refine ⟨hfall.trans hkeys, fun k => ?_⟩
  rcases Nat.lt_or_ge k 64 with hk | hk
  · have hfull := mt (hkeys.loaded k) (Bool.eq_false_iff.1 (hempty k (List.mem_range.2 hk)))
    exact Bool.eq_false_iff.2 hfull
  · rw [State.kslot_past hk]
    rfl

/-! ### A KEY command that is stopped (R352) -/

/-- `t` has the latch, the configuration, the device's state and the accord's count of `s`; its seal, keep, keys and fuses
may be others. -/
structure Burned (s t : State) : Prop where
  latched : t.vbat.latched = s.vbat.latched
  sys : t.sys = s.sys
  cfg : t.cfg = s.cfg
  count : t.acd.count = s.acd.count

theorem Burned.rfl {s : State} : Burned s s := by constructor <;> exact Eq.refl _

theorem Burned.trans {a b c : State} (h : Burned a b) (k : Burned b c) : Burned a c :=
  ⟨k.latched.trans h.latched, k.sys.trans h.sys, k.cfg.trans h.cfg, k.count.trans h.count⟩

theorem Burned.ite {c : Prop} [Decidable c] {s a b : State} (h : Burned s a) (k : Burned s b) :
    Burned s (if c then a else b) := by split <;> assumption

theorem Reported.burned {s t : State} (h : Reported s t) : Burned s t :=
  ⟨congrArg Vbat.latched h.vbat, h.sys, h.cfg, h.count⟩

theorem State.faultClass_of_cfg {s t : State} (h : t.cfg = s.cfg) (n : Nat) : t.faultClass n = s.faultClass n := by
  rw [State.faultClass, h, State.faultClass]

theorem State.fuseLc_reported (s : State) (b : BitVec 4) : Reported s (s.fuseLc b) := by
  have hfuse (f : Fuse) : Reported s { s with fuse := f } := by constructor <;> rfl
  exact (hfuse _).trans (.ite .rfl (State.raise_reported ..))

theorem State.programSeed_reported (s : State) : Reported s s.programSeed := by
  refine .ite .rfl ?_
  constructor <;> rfl

theorem State.fuseOwner_reported (s : State) (o : Dig) : Reported s (s.fuseOwner o) := by
  refine .ite .rfl ?_
  constructor <;> rfl

/-- The seal is drawn, and the epoch and the record that go with it are written (R339 steps 3 and 4). -/
theorem State.sealedEpoch_burned (s : State) (g : BitVec 32) (e : BitVec 16) :
    Burned s ((s.newSeal g).writeEpoch e).commitRecord := by constructor <;> rfl

theorem State.keyWrites_burned (s : State) (o : KeyOp) (n : Nat) : Burned s (s.keyWrites o n) := by
  cases o with
  | epochUpdate => refine .ite ?_ .rfl; constructor <;> rfl
  | provision d =>
    have hseed : Burned s (if 1 ≤ n then s.programSeed else s) := .ite s.programSeed_reported.burned .rfl
    have howner := hseed.trans (.ite (c := 2 ≤ n) (State.fuseOwner_reported _ d).burned .rfl)
    have hsealed := howner.trans (.ite (c := 4 ≤ n) (State.sealedEpoch_burned _ 1 1) .rfl)
    exact .ite (hsealed.trans (.ite (State.fuseLc_reported _ 1).burned .rfl)) (.ite (State.sealedEpoch_burned ..) .rfl)
  | lcAdvance t k r v => exact .ite (State.fuseLc_reported ..).burned .rfl
  | attest _ => exact .rfl
  | debugEnter _ _ _ => exact .rfl
  | debugExit => exact .rfl

theorem State.abortKeyOp_burned (s : State) : Burned s s.abortKeyOp := by
  have hresult (t : State) (x : Status) (op : Nat) : Burned t (t.keyResult x op) := by constructor <;> rfl
  have hdrawn : Burned s s.drawn := by constructor <;> rfl
  unfold State.abortKeyOp
  split
  · exact (hdrawn.trans (State.keyWrites_burned ..)).trans (hresult ..)
  · exact .rfl

/-! ### The seal that it may have drawn (R339 step 3) -/

/-- Programming OTP_SEED takes a draw, where no bank holds it. -/
theorem State.programSeed_freeCtr (s : State) : s.programSeed.freeCtr =
    if s.fuse.seedValid0 || s.fuse.seedValid1 then s.freeCtr else s.freeCtr + 1 := by
  unfold State.programSeed
  split
  · exact rfl
  · rfl

theorem State.fuseOwner_freeCtr (s : State) (o : Dig) : (s.fuseOwner o).freeCtr = s.freeCtr := by
  unfold State.fuseOwner
  split <;> rfl

/-- A first provisioning past step 3 has the seal that was drawn after the seed's program. -/
theorem State.keyWrites_firstSeal {s : State} (hb : s.lc = .blank) {n : Nat} (hn : 4 ≤ n) (o : BitVec 256) :
    (s.keyWrites (.provision o) n).vbat.sealKey = Config.drbg s.programSeed.freeCtr := by
  have hlast (t : State) : (if n = 6 then t.fuseLc 1 else t).vbat = t.vbat :=
    (Reported.ite (State.fuseLc_reported t 1) .rfl).vbat
  rw [State.keyWrites, if_pos hb]
  dsimp only
  rw [if_pos (Nat.le_trans (by decide) hn : 1 ≤ n), if_pos (Nat.le_trans (by decide) hn : 2 ≤ n), if_pos hn, hlast,
    ← State.fuseOwner_freeCtr _ o]
  rfl

/-- The seal is zero after the writes of a stopped command where it was zero before, if each seal that a provisioning past
step 3 may draw is zero. -/
theorem State.keyWrites_seal {s : State} (hs : s.vbat.sealKey = 0) {n : Nat}
    (hd : 4 ≤ n → Config.drbg s.freeCtr = 0 ∧ Config.drbg (s.freeCtr + 1) = 0) (o : KeyOp) :
    (s.keyWrites o n).vbat.sealKey = 0 := by
  have hkeep {t : State} (ht : Reported s t) : t.vbat.sealKey = 0 := by rw [ht.vbat, hs]
  cases o with
  | epochUpdate =>
    rw [State.keyWrites]
    split <;> exact hs
  | provision d =>
    by_cases hb : s.lc = .blank
    · by_cases h4 : 4 ≤ n
      · obtain ⟨hdraw, hnext⟩ := hd h4
        rw [State.keyWrites_firstSeal hb h4, State.programSeed_freeCtr]
        split <;> assumption
      · have hseed : Reported s (if 1 ≤ n then s.programSeed else s) := .ite s.programSeed_reported .rfl
        have howner := hseed.trans (.ite (c := 2 ≤ n) (State.fuseOwner_reported _ d) .rfl)
        rw [State.keyWrites, if_pos hb]
        dsimp only
        rw [if_neg h4, if_neg (by omega)]
        exact hkeep howner
    · rw [State.keyWrites, if_neg hb]
      by_cases h6 : n = 6
      · rw [if_pos h6]
        exact (hd (by omega)).1
      · rwa [if_neg h6]
  | lcAdvance t k r v => exact hkeep (.ite (State.fuseLc_reported ..) .rfl)
  | attest _ => exact hs
  | debugEnter _ _ _ => exact hs
  | debugExit => exact hs

/-! ### The tamper (R351) -/

/-- Every seal that a provisioning may draw where a tamper stops it past step 3 is zero. -/
def SealDrawsZero : Prop :=
  ∀ c, 4 ≤ (Config.freeWord c).toNat % 7 → Config.drbg (c + 1) = 0 ∧ Config.drbg (c + 2) = 0

theorem State.abortKeyOp_seal {s : State} (hs : s.vbat.sealKey = 0) (hz : SealDrawsZero) :
    s.abortKeyOp.vbat.sealKey = 0 := by
  unfold State.abortKeyOp
  split
  · exact State.keyWrites_seal (s := s.drawn) hs (hz s.freeCtr) _
  · exact hs

/-- An aborted first provisioning past step 3 leaves the seal that it drew. -/
theorem State.abortKeyOp_firstSeal {s : State} (hb : s.lc = .blank) {o : BitVec 256}
    (ho : s.key.busyOp = some (.provision o)) (hn : 4 ≤ s.free.toNat % 7) :
    s.abortKeyOp.vbat.sealKey = Config.drbg s.drawn.programSeed.freeCtr := by
  unfold State.abortKeyOp
  rw [ho]
  exact State.keyWrites_firstSeal (s := s.drawn) hb hn o

/-- The latch of PD_VBAT has taken source `n` (R351). -/
def State.tamperLatched (s : State) (n : Nat) : State :=
  { s.calLost with vbat := s.calLost.vbat.latch n s.calLost.calSec }

/-- The secrets outside PD_VBAT are zero and TAMPER_HOLD is set, the KEY command that ran ended (R351, R352). -/
def State.tamperZeroed (s : State) (n : Nat) : State :=
  let z := s.abortKeyOp.zeroRoots
  ({ z with key := { z.key with lastSrc := BitVec.ofNat 4 n } }).zeroKeys.tamperHoldSet

/-- The root unit holds no secret. -/
structure RootsZero (k : Key) : Prop where
  uds : k.uds = 0
  kr : k.kr = 0
  kt : k.kt = 0
  kek : k.kek = 0
  kekPrev : k.kekPrev = 0
  lsk : k.lsk = 0
  ak : k.ak = 0

/-- `t` holds after a tamper of `s`: R351 but for the seal. -/
structure TamperHeld (s t : State) : Prop where
  latched : t.vbat.latched = true
  roots : RootsZero t.key
  slots : ∀ k, (t.kslot k).loaded = false
  lskOn : t.log.lskOn = false
  hold : t.sys.tamperHold = true
  dev : t.sys.devState = s.sys.devState
  count : t.acd.count = s.acd.count

theorem State.calLost_burned {s : State} (h : s.faultClass 213 < 2) : Burned s s.calLost := by
  have hlost (v : Vbat) (hv : v.latched = s.vbat.latched) : Burned s { s with vbat := v } :=
    ⟨hv, rfl, rfl, rfl⟩
  have htold (t : State) (ht : Burned s t) : Burned s ((t.raise (src 14 21)).faultAssert 213) := by
    have hraise := t.raise_reported (src 14 21) 0 0 0 0
    have hclass : (t.raise (src 14 21)).faultClass 213 < 2 := by
      rwa [State.faultClass_of_cfg hraise.cfg, State.faultClass_of_cfg ht.cfg]
    exact ht.trans (hraise.trans (State.faultAssert_reported hclass)).burned
  exact .ite .rfl (.ite (hlost _ rfl) (htold _ (hlost _ rfl)))

theorem State.tamperLatched_seal (s : State) (n : Nat) : (s.tamperLatched n).vbat.sealKey = 0 := rfl

/-- The response of INIT, RUN, MAINT and SAFE. -/
theorem State.tamper_held {s : State} {n : Nat} (he : s.tamperEnabled n = true) (hc : s.faultClass 213 < 2)
    (hd : s.sys.devState = .init ∨ s.sys.devState = .run ∨ s.sys.devState = .maint ∨ s.sys.devState = .safe) :
    s.tamper n = ((s.tamperLatched n).tamperZeroed n).tamperTold n (s.tamperLatched n).key.busyOp.isSome := by
  have hdev : s.calLost.sys.devState = s.sys.devState := congrArg Sys.devState (State.calLost_burned hc).sys
  rw [State.tamper, if_neg (by rw [he]; decide), State.tamperTold, State.tamperZeroed, State.tamperLatched]
  dsimp only
  split
  case h_1 hb => rw [hdev] at hb; simp [hb] at hd
  case h_2 hb => rw [hdev] at hb; simp [hb] at hd
  case h_3 => with_reducible rfl

/-- TAMPER_HOLD is set, and besides it the state only reports. -/
theorem State.tamperHoldSet_sets (s : State) : ∃ t, Reported t s.tamperHoldSet ∧
    t = { s with sys := { s.sys with tamperHold := true } } := by
  unfold State.tamperHoldSet
  split
  case isTrue hset => exact ⟨s, .rfl, by rw [← hset]⟩
  case isFalse => exact ⟨_, State.raise_reported .., rfl⟩

/-- What is zero and set once the roots, the slots and the hold are seen to. -/
theorem TamperHeld.of_slotsFall {s z t : State} (h : SlotsFall z t) (he : ∀ k, (t.kslot k).loaded = false)
    (hl : z.vbat.latched = true) (hs : Burned s z) (hlsk : z.log.lskOn = false)
    (hz : RootsZero z.key) : TamperHeld s { t with sys := { t.sys with tamperHold := true } } := by
  obtain ⟨v, hkey⟩ := h.key
  constructor
  case latched => exact (congrArg Vbat.latched h.vbat).trans hl
  case roots => exact hkey ▸ ⟨hz.uds, hz.kr, hz.kt, hz.kek, hz.kekPrev, hz.lsk, hz.ak⟩
  case slots => exact he
  case lskOn => exact h.lsk.trans hlsk
  case hold => rfl
  case dev => exact (congrArg Sys.devState h.sys).trans (congrArg Sys.devState hs.sys)
  case count => exact h.count.trans hs.count

/-- It is the list of `TamperZeroes` but for the seal. -/
theorem TamperHeld.listed {s t : State} (h : TamperHeld s t) :
    t.vbat.latched = true ∧ t.key.uds = 0 ∧ t.key.kr = 0 ∧ t.key.kt = 0 ∧ t.key.kek = 0 ∧ t.key.kekPrev = 0 ∧
      t.key.lsk = 0 ∧ t.key.ak = 0 ∧ (∀ k, (t.kslot k).loaded = false) ∧ t.log.lskOn = false ∧
      t.sys.tamperHold = true ∧ t.sys.devState = s.sys.devState ∧ t.acd.count = s.acd.count := by
  obtain ⟨hlatched, ⟨huds, hkr, hkt, hkek, hprev, hlsk, hak⟩, hslots, hoff, hhold, hdev, hcount⟩ := h
  exact ⟨hlatched, huds, hkr, hkt, hkek, hprev, hlsk, hak, hslots, hoff, hhold, hdev, hcount⟩

/-- Reports change nothing of it. -/
theorem TamperHeld.reported {s t u : State} (h : TamperHeld s t) (k : Reported t u) : TamperHeld s u where
  latched := by rw [k.vbat, h.latched]
  roots := by rw [k.key]; exact h.roots
  slots := fun i => by rw [State.kslot, k.key]; exact h.slots i
  lskOn := by rw [k.lsk, h.lskOn]
  hold := by rw [k.sys, h.hold]
  dev := by rw [k.sys, h.dev]
  count := by rw [k.count, h.count]

/-- The roots, the slots and the hold are seen to, and the seal is what the stopped KEY command leaves of it. -/
theorem State.tamperZeroed_held {s : State} (hl : s.vbat.latched = true) (n : Nat) :
    TamperHeld s (s.tamperZeroed n) ∧ (s.tamperZeroed n).vbat.sealKey = s.abortKeyOp.vbat.sealKey ∧
      (s.tamperZeroed n).cfg = s.cfg := by
  have habort := s.abortKeyOp_burned
  rw [State.tamperZeroed]
  dsimp only
  generalize hz : ({ s.abortKeyOp.zeroRoots with
    key := { s.abortKeyOp.zeroRoots.key with lastSrc := BitVec.ofNat 4 n } } : State) = z
  have hvbat : z.vbat = s.abortKeyOp.vbat := by rw [← hz]; rfl
  have hcfg : z.cfg = s.cfg := by rw [← hz]; exact habort.cfg
  have hburned : Burned s z := by rw [← hz]; exact ⟨habort.latched, habort.sys, habort.cfg, habort.count⟩
  have hlsk : z.log.lskOn = false := by rw [← hz]; rfl
  have hroots : RootsZero z.key := by rw [← hz]; constructor <;> rfl
  obtain ⟨hfall, hempty⟩ := z.zeroKeys_falls
  obtain ⟨t, hrep, ht⟩ := z.zeroKeys.tamperHoldSet_sets
  have hheld : TamperHeld s t := by
    rw [ht]
    exact .of_slotsFall hfall hempty (by rw [hvbat, habort.latched, hl]) hburned hlsk hroots
  refine ⟨hheld.reported hrep, ?_, ?_⟩
  · rw [hrep.vbat, ht, ← hvbat, ← hfall.vbat]
  · rw [hrep.cfg, ht, ← hcfg, ← hfall.cfg]

/-- R351 but for the seal, which is what the stopped KEY command leaves of it. -/
theorem State.tamper_leaves {s : State} {n : Nat} (he : s.tamperEnabled n = true)
    (hd : s.sys.devState = .init ∨ s.sys.devState = .run ∨ s.sys.devState = .maint ∨ s.sys.devState = .safe)
    (hc : s.faultClass 213 < 2) (ht : s.faultClass 192 < 2) :
    TamperHeld s (s.tamper n) ∧ (s.tamper n).vbat.sealKey = (s.tamperLatched n).abortKeyOp.vbat.sealKey := by
  have hcal := State.calLost_burned hc
  obtain ⟨hheld, hseal, hcfg⟩ := State.tamperZeroed_held (s := s.tamperLatched n) rfl n
  have hclass : ((s.tamperLatched n).tamperZeroed n).faultClass 192 < 2 := by
    rwa [State.faultClass_of_cfg hcfg, State.faultClass_of_cfg (t := s.tamperLatched n) hcal.cfg]
  have htold := State.tamperTold_reported hclass n (s.tamperLatched n).key.busyOp.isSome
  rw [State.tamper_held he hc hd]
  refine ⟨?_, (congrArg Vbat.sealKey htold.vbat).trans hseal⟩
  have hall := hheld.reported htold
  exact { hall with dev := hall.dev.trans (congrArg Sys.devState hcal.sys), count := hall.count.trans hcal.count }

/-- Source `n` is asserted. -/
def State.tamperSeen (s : State) (n : Nat) : State :=
  { s with vbat := { s.vbat with tamperActive := putBit s.vbat.tamperActive n true } }

/-- What the event leaves, the seal told by the KEY command that it stops. -/
theorem State.tamperSeen_leaves {u : State} {n : Nat} (he : u.tamperEnabled n = true)
    (hd : u.sys.devState = .init ∨ u.sys.devState = .run ∨ u.sys.devState = .maint ∨ u.sys.devState = .safe)
    (hc : u.faultClass 213 < 2) (ht : u.faultClass 192 = 1) :
    TamperHeld u ((u.tamperSeen n).tamper n) ∧
      ((u.tamperSeen n).tamper n).vbat.sealKey = ((u.tamperSeen n).tamperLatched n).abortKeyOp.vbat.sealKey := by
  have hclass : u.faultClass 192 < 2 := ht ▸ by decide
  obtain ⟨hheld, hseal⟩ := State.tamper_leaves (s := u.tamperSeen n) he hd hc hclass
  exact ⟨⟨hheld.latched, hheld.roots, hheld.slots, hheld.lskOn, hheld.hold, hheld.dev, hheld.count⟩, hseal⟩

/-- The event's state. -/
theorem exec_tamperAssert (dt : Nat) (n : BitVec 4) (s : State) :
    exec (.tamperAssert dt n true) s = .next (((s.advance dt).tamperSeen n.toNat).tamper n.toNat) :=
  next_of_guard (c := true = true) (Eq.refl _) _ _

/-- A device in RUN that provisions for the first time, with or without a programmed seed. -/
def firstProvision (c : Nat) (seeded : Bool) : State := { State.reset with
  freeCtr := c, fuse := { State.reset.fuse with seedValid0 := seeded }
  sys := { State.reset.sys with devState := .run }, key := { State.reset.key with busyOp := some (.provision 0) } }

theorem reset_tamperClasses : State.reset.faultClass 213 < 2 ∧ State.reset.faultClass 192 = 1 := by decide +kernel

theorem firstProvision_faultClass (c : Nat) (seeded : Bool) (n : Nat) :
    ((firstProvision c seeded).advance 0).faultClass n = State.reset.faultClass n :=
  State.faultClass_of_cfg (Eq.refl _) n

/-- Its provisioning, stopped past step 3, leaves the seal that it drew. -/
theorem firstProvision_seal {c : Nat} (seeded : Bool) (hn : 4 ≤ (Config.freeWord c).toNat % 7) :
    ((((firstProvision c seeded).advance 0).tamperSeen 3).tamperLatched 3).abortKeyOp.vbat.sealKey =
      Config.drbg (if seeded then c + 1 else c + 2) := by
  have hcal : (((firstProvision c seeded).advance 0).tamperSeen 3).calLost =
    ((firstProvision c seeded).advance 0).tamperSeen 3 := if_pos rfl
  rw [State.tamperLatched, hcal]
  have hblank {t : State} (h : t.fuse.lcSteps = 0) : t.lc = .blank := by simp [State.lc, h, has]
  have hreset : State.reset.fuse.lcSteps = 0 := by decide
  refine (State.abortKeyOp_firstSeal (o := 0) ?blank rfl ?draws).trans (congrArg Config.drbg ?seed)
  case blank => exact hblank hreset
  case draws => exact hn
  case seed =>
    rw [State.programSeed_freeCtr]
    cases seeded <;> rfl

/-- `TamperZeroes` says neither more nor less than that those draws are zero: every other conjunct holds of every state.
The draws are opaque: that they are zero can be neither proved nor refuted. -/
theorem tamperZeroes_iff : Obligations.TamperZeroes ↔ SealDrawsZero := by
  constructor
  · intro h c hn
    have hzero (seeded : Bool) : Config.drbg (if seeded then c + 1 else c + 2) = 0 := by
      have hon : ((firstProvision c seeded).advance 0).tamperEnabled (3 : BitVec 4).toNat = true := rfl
      have hrun : ((firstProvision c seeded).advance 0).sys.devState = .run := rfl
      have hcal : ((firstProvision c seeded).advance 0).faultClass 213 < 2 := by
        rw [firstProvision_faultClass]; exact reset_tamperClasses.1
      have htamper : ((firstProvision c seeded).advance 0).faultClass 192 = 1 := by
        rw [firstProvision_faultClass]; exact reset_tamperClasses.2
      obtain ⟨t, ht, hz, -⟩ := h 0 3 (firstProvision c seeded) hon (.inr (.inl hrun)) hcal htamper
      obtain ⟨-, hs⟩ := State.tamperSeen_leaves hon (.inr (.inl hrun)) hcal htamper
      rw [exec_tamperAssert] at ht
      obtain rfl := Outcome.next.inj ht
      exact (hs.trans (firstProvision_seal seeded hn)).symm.trans hz
    exact ⟨hzero true, hzero false⟩
  · intro hz dt n s u he hd hc ht
    obtain ⟨hheld, hseal⟩ := State.tamperSeen_leaves he hd hc ht
    have hzero := State.abortKeyOp_seal (State.tamperLatched_seal (u.tamperSeen n.toNat) n.toNat) hz
    exact ⟨_, exec_tamperAssert dt n s, hseal.trans hzero, hheld.listed⟩

end Sys2Proof.Machine
end
